-- ==== Sys2Proof/Word.lean ====
section
/-!
DEFINITION. The plain types of the MY5128 model: bytes, clock counts, the index ranges of R3 and R330, sparse tables.
-/
namespace Sys2Proof

/-- A byte of a mailbox area, a frame, a flash record or a register image. -/
abbrev Byte := BitVec 8
/-- A byte string; the first byte lies at the lowest offset. -/
abbrev Bytes := List (BitVec 8)
/-- A 32-bit register word. -/
abbrev Word := BitVec 32
/-- DEVICE_TIME: a 64-bit count of CK_MGMT cycles (R300). -/
abbrev Time := BitVec 64
/-- A lane symbol counter (48 bits). -/
abbrev Sym := BitVec 48

/-- Physical line lane L0–L135 (R3). -/
abbrev Phys := Fin 136
/-- Working logical lane W0–W127 (R3). -/
abbrev Work := Fin 128
/-- Bank B0–B7 (R3). -/
abbrev Bank := Fin 8
/-- Host group G0–G31 (R3). -/
abbrev Group := Fin 32
/-- Data lane of a host group; 16 is the spare (R3). -/
abbrev HLane := Fin 17
/-- Bias output 0–543 (R381). -/
abbrev Bias := Fin 544
/-- Monitor unit 0–7 (R381). -/
abbrev Mon := Fin 8
/-- Filter channel 0–63 (R381). -/
abbrev Fch := Fin 64
/-- TRIG pin 0–7. -/
abbrev Pin := Fin 8
/-- Temperature sensor 0–71 (R265). -/
abbrev Sensor := Fin 72
/-- Core index 0–191 (R330). -/
abbrev Core := Fin 192
/-- SRAM array instance, 0–691, in ascending array ID (R330). -/
abbrev Arr := Fin 692
/-- Mailbox session 0–7. -/
abbrev Sess := Fin 8
/-- A relay port: 0 RLY_UP, 1 RLY_DN. -/
abbrev Port := Fin 2

/-- A sparse table: entries by rising key, at most one for each key. -/
abbrev Tab (α : Type) := List (Nat × α)
/-- Sparse byte memory in canonical form: rising addresses, no entry equal to the byte an unlisted address reads as. -/
abbrev Mem := List Host.Cell

/-- The management interface an access comes from (Table 12-8 IFACE). -/
inductive Iface where
  | spi
  | smb
deriving DecidableEq, Repr

/-- Session privileges (Table 12-10), lowest first. -/
inductive Priv where
  | observe
  | configure
  | maintain
  | secure
deriving DecidableEq, Repr

/-- Lane modes (Table 1-5), in the order of their codes 0–7 (Table 2-10). -/
inductive LaneMode where
  | dark
  | tune
  | steady
  | transparent
  | slotted
  | openM
  | loop
  | spare
deriving DecidableEq, Repr

/-- Shared result codes (Table 13-1), in the order of their codes 0x00–0x0B. -/
inductive Result where
  | ok
  | busy
  | busySelftest
  | denied
  | badArg
  | badState
  | noResource
  | timeout
  | memError
  | notSupported
  | locked
  | stale
deriving DecidableEq, Repr

/-- The number a privilege, mode or result has in registers and records. -/
def Priv.code : Priv → Nat
  | .observe => 0
  | .configure => 1
  | .maintain => 2
  | .secure => 3

/-- MODE codes of Table 2-10. -/
def LaneMode.code : LaneMode → Nat
  | .dark => 0
  | .tune => 1
  | .steady => 2
  | .transparent => 3
  | .slotted => 4
  | .openM => 5
  | .loop => 6
  | .spare => 7

/-- RESULT codes of Table 13-1. -/
def Result.code : Result → Nat
  | .ok => 0
  | .busy => 1
  | .busySelftest => 2
  | .denied => 3
  | .badArg => 4
  | .badState => 5
  | .noResource => 6
  | .timeout => 7
  | .memError => 8
  | .notSupported => 9
  | .locked => 10
  | .stale => 11

end Sys2Proof
end

