-- ==== Sys2Proof/Machine/Events.lean ====
section
/-!
DEFINITION. The events of Table 12-15 (R376): one constructor for each listed event, and its ID (group × 16 + index).
-/
namespace Sys2Proof

/-- The events of Table 12-15. -/
inductive Ev where
  | ctlResetDone
  | devResetDone
  | devWatchdog
  | devCoreRetired
  | devCoreFailed
  | devCoverDone
  | pwrLaneState
  | pwrGroupState
  | pwrDeviceState
  | pwrEntryAborted
  | pwrWake
  | pwrRestoreError
  | pwrAvsDone
  | pwrAvsTimeout
  | clkRefLoss
  | clkRefRestored
  | clkAonFallback
  | clkAonRestored
  | clkXingTimeout
  | clkXingFlush
  | thermSensorSuspect
  | thermSensorFailed
  | thermSensorRestored
  | thermFast
  | thermThrottle
  | thermRelease
  | thermCritical
  | thermTrip
  | thermTripClear
  | memCorrected
  | memUncorrectable
  | memPoisonWrite
  | memRemapped
  | memRemapFull
  | memScrubSlow
  | secAuthOk
  | secAuthFail
  | secLifecycle
  | secAttest
  | secIndexReserved
  | secIndexLow
  | secOwnerKey
  | testStarted
  | testDone
  | testAborted
  | imgHeaderOk
  | imgRejected
  | imgProgress
  | imgBodyOk
  | imgBodyFail
  | imgRelayStart
  | imgRelayFail
  | imgCoreSwapped
  | imgActivated
  | imgConfirmed
  | imgRefill
  | ctlCmdDone
  | ctlEvqOverflow
  | ctlSessionOpen
  | ctlSessionClosed
  | ctlSnapshot
  | ctlBusError
  | ctlPerfSample
  | rxLos
  | rxLosClear
  | rxLock
  | rxLol
  | rxAcqFail
  | rxPalette
  | rxCalApplied
  | rxCalRejected
  | rxFlipbook
  | burstStray
  | slotIntrusion
  | burstCollision
  | burstFalseStart
  | burstHeaderFail
  | burstMisdirected
  | burstDecodeFail
  | burstOverrun
  | burstMispredict
  | portraitNew
  | portraitEvicted
  | portraitQuota
  | fecAmLock
  | fecAmLoss
  | fecPeerChange
  | fecDestMismatch
  | fecDelinLoss
  | fecUncorrectable
  | fecMarginLow
  | fecMarginOk
  | fecDecodeMode
  | txPdApplied
  | txPalette
  | txFault
  | txZeroScale
  | txUnderrun
  | txSlotSkipped
  | txBackoffLimit
  | schedFabsyncSlip
  | schedFabsyncMiss
  | schedFabsyncLoss
  | schedEpochShort
  | schedSwapped
  | deliveryRto
  | deliveryScrape
  | deliveryCtxFull
  | deliveryHeldPeer
  | deliveryPeerRestart
  | deliveryRetentionLoss
  | deliveryVoidReceived
  | deliveryGenFail
  | deliveryLaneFail
  | deliverySpareMoved
  | deliveryMoveDone
  | deliveryNoSpare
  | deliveryReintegrated
  | hostLinkUp
  | hostLinkDown
  | hostTrainFail
  | hostGroupMismatch
  | hostPartnerFresh
  | hostIdle
  | hostWake
  | hostLoopback
  | hostLaneFail
  | hostSpareUsed
  | hostClockMoved
  | hostWidth
  | hostOutOfService
  | hostBadDesc
  | hostCreditViolation
  | hostTransparentDrop
  | biasFault
  | biasSupply
  | biasAggLimit
  | biasRangeDone
  | biasSafe
  | biasLoopLock
  | biasLoopUnlock
  | biasLoopRail
  | biasLoopFrozen
  | monSeqDone
  | monInjDone
  | monTrigLost
  | monOverrange
  | filterOverrun
  | calRunDone
  | calDue
  | calComp
  | ageWear
  | agePlan
  | ageSpareProposal
  | ageAvsFail
  | ageAvsCeiling
deriving DecidableEq, Repr

/-- EVENT_ID of an event (R376, Table 12-15). -/
def Ev.id : Ev → Nat
  | .ctlResetDone => 0
  | .devResetDone => 1
  | .devWatchdog => 2
  | .devCoreRetired => 3
  | .devCoreFailed => 4
  | .devCoverDone => 5
  | .pwrLaneState => 16
  | .pwrGroupState => 17
  | .pwrDeviceState => 18
  | .pwrEntryAborted => 19
  | .pwrWake => 20
  | .pwrRestoreError => 21
  | .pwrAvsDone => 22
  | .pwrAvsTimeout => 23
  | .clkRefLoss => 32
  | .clkRefRestored => 33
  | .clkAonFallback => 34
  | .clkAonRestored => 35
  | .clkXingTimeout => 36
  | .clkXingFlush => 37
  | .thermSensorSuspect => 48
  | .thermSensorFailed => 49
  | .thermSensorRestored => 50
  | .thermFast => 51
  | .thermThrottle => 52
  | .thermRelease => 53
  | .thermCritical => 54
  | .thermTrip => 55
  | .thermTripClear => 56
  | .memCorrected => 64
  | .memUncorrectable => 65
  | .memPoisonWrite => 66
  | .memRemapped => 67
  | .memRemapFull => 68
  | .memScrubSlow => 69
  | .secAuthOk => 80
  | .secAuthFail => 81
  | .secLifecycle => 82
  | .secAttest => 83
  | .secIndexReserved => 84
  | .secIndexLow => 85
  | .secOwnerKey => 86
  | .testStarted => 87
  | .testDone => 88
  | .testAborted => 89
  | .imgHeaderOk => 96
  | .imgRejected => 97
  | .imgProgress => 98
  | .imgBodyOk => 99
  | .imgBodyFail => 100
  | .imgRelayStart => 101
  | .imgRelayFail => 102
  | .imgCoreSwapped => 103
  | .imgActivated => 104
  | .imgConfirmed => 105
  | .imgRefill => 106
  | .ctlCmdDone => 112
  | .ctlEvqOverflow => 113
  | .ctlSessionOpen => 114
  | .ctlSessionClosed => 115
  | .ctlSnapshot => 116
  | .ctlBusError => 117
  | .ctlPerfSample => 118
  | .rxLos => 128
  | .rxLosClear => 129
  | .rxLock => 130
  | .rxLol => 131
  | .rxAcqFail => 132
  | .rxPalette => 133
  | .rxCalApplied => 144
  | .rxCalRejected => 145
  | .rxFlipbook => 146
  | .burstStray => 160
  | .slotIntrusion => 161
  | .burstCollision => 162
  | .burstFalseStart => 163
  | .burstHeaderFail => 164
  | .burstMisdirected => 165
  | .burstDecodeFail => 166
  | .burstOverrun => 167
  | .burstMispredict => 168
  | .portraitNew => 176
  | .portraitEvicted => 177
  | .portraitQuota => 178
  | .fecAmLock => 192
  | .fecAmLoss => 193
  | .fecPeerChange => 194
  | .fecDestMismatch => 195
  | .fecDelinLoss => 196
  | .fecUncorrectable => 197
  | .fecMarginLow => 198
  | .fecMarginOk => 199
  | .fecDecodeMode => 200
  | .txPdApplied => 208
  | .txPalette => 209
  | .txFault => 210
  | .txZeroScale => 211
  | .txUnderrun => 212
  | .txSlotSkipped => 213
  | .txBackoffLimit => 214
  | .schedFabsyncSlip => 215
  | .schedFabsyncMiss => 216
  | .schedFabsyncLoss => 217
  | .schedEpochShort => 218
  | .schedSwapped => 219
  | .deliveryRto => 224
  | .deliveryScrape => 225
  | .deliveryCtxFull => 226
  | .deliveryHeldPeer => 227
  | .deliveryPeerRestart => 228
  | .deliveryRetentionLoss => 229
  | .deliveryVoidReceived => 230
  | .deliveryGenFail => 231
  | .deliveryLaneFail => 240
  | .deliverySpareMoved => 241
  | .deliveryMoveDone => 242
  | .deliveryNoSpare => 243
  | .deliveryReintegrated => 244
  | .hostLinkUp => 256
  | .hostLinkDown => 257
  | .hostTrainFail => 258
  | .hostGroupMismatch => 259
  | .hostPartnerFresh => 260
  | .hostIdle => 261
  | .hostWake => 262
  | .hostLoopback => 263
  | .hostLaneFail => 272
  | .hostSpareUsed => 273
  | .hostClockMoved => 274
  | .hostWidth => 275
  | .hostOutOfService => 276
  | .hostBadDesc => 277
  | .hostCreditViolation => 278
  | .hostTransparentDrop => 279
  | .biasFault => 288
  | .biasSupply => 289
  | .biasAggLimit => 290
  | .biasRangeDone => 291
  | .biasSafe => 292
  | .biasLoopLock => 293
  | .biasLoopUnlock => 294
  | .biasLoopRail => 295
  | .biasLoopFrozen => 296
  | .monSeqDone => 297
  | .monInjDone => 298
  | .monTrigLost => 299
  | .monOverrange => 300
  | .filterOverrun => 301
  | .calRunDone => 304
  | .calDue => 305
  | .calComp => 306
  | .ageWear => 307
  | .agePlan => 308
  | .ageSpareProposal => 309
  | .ageAvsFail => 310
  | .ageAvsCeiling => 311

/-- Every listed event, in ascending EVENT_ID. -/
def Ev.all : List Ev :=
  [[.ctlResetDone, .devResetDone, .devWatchdog, .devCoreRetired, .devCoreFailed, .devCoverDone, .pwrLaneState, .pwrGroupState, .pwrDeviceState, .pwrEntryAborted, .pwrWake, .pwrRestoreError],
   [.pwrAvsDone, .pwrAvsTimeout, .clkRefLoss, .clkRefRestored, .clkAonFallback, .clkAonRestored, .clkXingTimeout, .clkXingFlush, .thermSensorSuspect, .thermSensorFailed, .thermSensorRestored, .thermFast],
   [.thermThrottle, .thermRelease, .thermCritical, .thermTrip, .thermTripClear, .memCorrected, .memUncorrectable, .memPoisonWrite, .memRemapped, .memRemapFull, .memScrubSlow, .secAuthOk],
   [.secAuthFail, .secLifecycle, .secAttest, .secIndexReserved, .secIndexLow, .secOwnerKey, .testStarted, .testDone, .testAborted, .imgHeaderOk, .imgRejected, .imgProgress],
   [.imgBodyOk, .imgBodyFail, .imgRelayStart, .imgRelayFail, .imgCoreSwapped, .imgActivated, .imgConfirmed, .imgRefill, .ctlCmdDone, .ctlEvqOverflow, .ctlSessionOpen, .ctlSessionClosed],
   [.ctlSnapshot, .ctlBusError, .ctlPerfSample, .rxLos, .rxLosClear, .rxLock, .rxLol, .rxAcqFail, .rxPalette, .rxCalApplied, .rxCalRejected, .rxFlipbook],
   [.burstStray, .slotIntrusion, .burstCollision, .burstFalseStart, .burstHeaderFail, .burstMisdirected, .burstDecodeFail, .burstOverrun, .burstMispredict, .portraitNew, .portraitEvicted, .portraitQuota],
   [.fecAmLock, .fecAmLoss, .fecPeerChange, .fecDestMismatch, .fecDelinLoss, .fecUncorrectable, .fecMarginLow, .fecMarginOk, .fecDecodeMode, .txPdApplied, .txPalette, .txFault],
   [.txZeroScale, .txUnderrun, .txSlotSkipped, .txBackoffLimit, .schedFabsyncSlip, .schedFabsyncMiss, .schedFabsyncLoss, .schedEpochShort, .schedSwapped, .deliveryRto, .deliveryScrape, .deliveryCtxFull],
   [.deliveryHeldPeer, .deliveryPeerRestart, .deliveryRetentionLoss, .deliveryVoidReceived, .deliveryGenFail, .deliveryLaneFail, .deliverySpareMoved, .deliveryMoveDone, .deliveryNoSpare, .deliveryReintegrated, .hostLinkUp, .hostLinkDown],
   [.hostTrainFail, .hostGroupMismatch, .hostPartnerFresh, .hostIdle, .hostWake, .hostLoopback, .hostLaneFail, .hostSpareUsed, .hostClockMoved, .hostWidth, .hostOutOfService, .hostBadDesc],
   [.hostCreditViolation, .hostTransparentDrop, .biasFault, .biasSupply, .biasAggLimit, .biasRangeDone, .biasSafe, .biasLoopLock, .biasLoopUnlock, .biasLoopRail, .biasLoopFrozen, .monSeqDone],
   [.monInjDone, .monTrigLost, .monOverrange, .filterOverrun, .calRunDone, .calDue, .calComp, .ageWear, .agePlan, .ageSpareProposal, .ageAvsFail, .ageAvsCeiling]].flatten

end Sys2Proof
end

