-- ==== Sys2Proof/Machine/CtlUnits.lean ====
section
/-!
DEFINITION. The records of the control plane (chapter 12): bus interfaces, indirect window, sessions, event queue,
interrupt pins, performance counters, state snapshot. Each `reset` is the record right after power-on reset.
-/
namespace Sys2Proof.Machine

/-- A response written by the device (Table 12-12); its CRC is computed when it is read. -/
structure Response where
  code : BitVec 16 := 0
  seq : Byte := 0
  result : Result := .ok
  detail : Word := 0
  data : Bytes := []
deriving DecidableEq, Repr

/-- A command that passed the checks of R368 step 5 and is being carried out. -/
structure Accepted where
  code : Nat
  seq : Byte
  args : Bytes
  /-- Its row has run and its response waits for a later event (R386). -/
  started : Bool := false
  /-- Its place in the order in which doorbells were taken (R369). -/
  turn : Nat := 0
deriving DecidableEq, Repr

/-- SESS_STATE.STATE (Table 12-8). -/
inductive SessPhase where
  | free
  | idle
  | busy
deriving DecidableEq, Repr

/-- A challenge issued by SESSION.GET_CHALLENGE (R366); `used` once a SESSION.AUTH or SEC.SET_LIFECYCLE took it. -/
structure Challenge where
  value : Bytes
  time : Time
  used : Bool
deriving DecidableEq, Repr

/-- The attestation report a session holds (R413): its nonce and its 3,524 bytes. -/
structure Report where
  nonce : Bytes
  bytes : Bytes
deriving DecidableEq, Repr

/-- One mailbox session: its registers (Table 12-8), areas (R367), staging buffer (R387) and security context. -/
structure Session where
  /-- SESS_CTRL.REQ_PRIV, 0–3. -/
  reqPriv : BitVec 2 := 0
  notify : Bool := false
  ownerTag : BitVec 16 := 0
  phase : SessPhase := .free
  priv : Priv := .observe
  iface : Iface := .spi
  closePending : Bool := false
  lastSeq : Byte := 0
  /-- The session has accepted a command since its open (R368 step 5, first check). -/
  anyAccepted : Bool := false
  owner : BitVec 16 := 0
  /-- SESS_DOORBELL.SEQ. -/
  bellSeq : Byte := 0
  rseq : Byte := 0
  result : Byte := 0
  respLen : BitVec 10 := 0
  ringBusy : Bool := false
  areaBusy : Bool := false
  /-- The command area, offsets 0x000–0x3FF. -/
  area : Mem := []
  /-- The response area; `none` while nothing has been written since the reset. -/
  resp : Option Response := none
  /-- The command being carried out; a ring held by R307 or R320 leaves it `none` while BUSY. -/
  cmd : Option Accepted := none
  /-- The 16 KiB staging buffer (R387). -/
  staging : Mem := []
  challenge : Option Challenge := none
  /-- Signer that authenticated the session: 0–7 owner slot, 0x80 VS (R407). -/
  signer : Option Nat := none
  report : Option Report := none
  /-- DEVICE_TIME of the open (Table 13-3). -/
  openTime : Time := 0
  /-- For each core snapshot taken in this session, how often the core had been reset then (R378 RESTARTED). -/
  perfSeen : Tab Nat := []
deriving DecidableEq, Repr

/-- A write waiting in the write FIFO of an indirect window (R362). -/
structure PostedWrite where
  addr : BitVec 40
  data : Word
deriving DecidableEq, Repr

/-- What becomes of a prefetch (R363). -/
inductive Prefetch where
  | arrived
  /-- The crossing timed out (R303). -/
  | timeout
  /-- The target word was uncorrectable (R335). -/
  | memError
deriving DecidableEq, Repr

/-- A prefetched word with the address it was read from; a fault reads 0. -/
structure FetchedWord where
  addr : BitVec 40
  data : Word
  fault : Prefetch
  /-- A new result was written at the address after the prefetch (R361). -/
  renewed : Bool := false
deriving DecidableEq, Repr

/-- An indirect window, one for each interface (Table 12-6). -/
structure IndWindow where
  addr : BitVec 40 := 0
  noInc : Bool := false
  /-- The prefetched word, once it has arrived (VALID). -/
  word : Option FetchedWord := none
  /-- A prefetch is under way for this address. -/
  fetching : Option (BitVec 40) := none
  early : Bool := false
  unmapped : Bool := false
  dropped : Bool := false
  locked : Bool := false
  timeout : Bool := false
  memError : Bool := false
  fifo : List PostedWrite := []
deriving DecidableEq, Repr

/-- Bus interface registers (Table 12-5), as RC bit fields in the order of the table. -/
structure BusRegs where
  crcReq : Bool := false
  /-- SPI_STATUS [5:0]: CRC_ERR, NO_CRC, BAD_OPCODE, ADDR_ERR, LONG_BURST, PARTIAL. -/
  spiStatus : BitVec 6 := 0
  pecReq : Bool := false
  /-- SMB_STATUS [5:0]: PEC_ERR, NO_PEC, BAD_COUNT, ADDR_ERR, TIMEOUT, STRETCH_EXPIRED. -/
  smbStatus : BitVec 6 := 0
deriving DecidableEq, Repr

/-- An event entry (Table 12-14). -/
structure EvEntry where
  ev : Ev
  coalesced : Nat
  source : BitVec 16
  code : Byte
  arg1 : Word
  arg2 : Word
  time : Time
  qseq : Word
deriving DecidableEq, Repr

/-- A running event hold-off (R93) of one kind and source: the occurrences counted since it started, and the last. -/
structure Holdoff where
  ev : Ev
  source : BitVec 16
  count : Nat
  code : Byte
  arg1 : Word
  arg2 : Word
deriving DecidableEq, Repr

/-- An event kept back until EV_CTL_RESET_DONE is queued (R307). -/
structure HeldEvent where
  ev : Ev
  source : BitVec 16
  code : Byte
  arg1 : Word
  arg2 : Word
  time : Time
  /-- Occurrences that a hold-off counted (R93). -/
  coalesced : Nat := 0
deriving DecidableEq, Repr

/-- The event queue, its enables and the interrupt pins (Table 12-7, R373–R375). -/
structure EventUnit where
  /-- EV_ENABLE0–EV_ENABLE9. -/
  enable : Vector Word 10
  /-- INT_ROUTE: two bits for each group 0–19. -/
  route : BitVec 40 := 0xAAAAAA5555#40
  queue : List EvEntry := []
  lost : BitVec 16 := 0
  overflow : Bool := false
  ackMiss : Bool := false
  /-- QSEQ of the last entry removed, as EVQ_ACK reads. -/
  lastRemoved : Word := 0
  nextQseq : Word := 0
  /-- INT_A_N and INT_B_N asserted. -/
  intA : Bool := false
  intB : Bool := false
  holdoffs : List Holdoff := []
  /-- Session events raised between a control reset's release and its EV_CTL_RESET_DONE (R307). -/
  held : List HeldEvent := []
deriving DecidableEq, Repr

/-- One bit set for each defined event ID of a word of EV_ENABLE (Table 12-7). -/
def enableReset (w : Nat) : Word :=
  Ev.all.foldl (fun acc e => if e.id / 32 = w then acc ||| (1#32 <<< (e.id % 32)) else acc) 0

def EventUnit.reset : EventUnit := { enable := Vector.ofFn (fun i : Fin 10 => enableReset i.val) }

/-- A sample of a core's sample ring (R379). -/
structure PerfSample where
  address : Word
  counter : Nat
  count : Nat
  time : Time
deriving DecidableEq, Repr

/-- One programmable counter of a core (R377, R379). -/
structure PerfCounter where
  count : BitVec 48 := 0
  /-- Selector (Table 12-16). -/
  sel : Byte := 0
  /-- 1: LEVEL mode, 0: EDGE mode. -/
  level : Bool := false
  /-- Sampling period, 0 off. -/
  period : Nat := 0
  /-- Whether the selected condition held in the last counted cycle (EDGE mode). -/
  prev : Bool := false
  /-- The counter has passed 2^48 − 1 since its last overflow interrupt (R379). -/
  overflowed : Bool := false
deriving DecidableEq, Repr

/-- The performance counters of one core (R377–R379). -/
structure PerfUnit where
  cycles : BitVec 64 := 0
  pc : Vector PerfCounter 6
  /-- PC0–PC5 as they stood before a PERF.CONFIGURE of the cycle in progress (R399). -/
  before : Option (Vector PerfCounter 6) := none
  ring : List PerfSample := []
  overwrites : BitVec 16 := 0
deriving DecidableEq, Repr

def PerfUnit.reset : PerfUnit := { pc := Vector.replicate 6 {} }

/-- The published state snapshot (R389). SEQ_BEGIN and SEQ_END are kept apart so that a publication in progress shows. -/
structure Snapshot where
  seqBegin : Word := 0
  seqEnd : Word := 0
  /-- Number of the latest publication started. -/
  number : Nat := 0
  /-- A publication is running: its cause and, for a command, the session that waits for it. -/
  running : Option (Bool × Option Sess) := none
  /-- DEVICE_TIME at the start of the latest publication. -/
  start : Time := 0
  /-- The region's content apart from SEQ_BEGIN and SEQ_END. -/
  content : Mem := []
deriving DecidableEq, Repr

/-- The control plane (chapter 12). -/
structure ControlPlane where
  /-- SYS_LOCK [6:0] (Table 12-5). -/
  sysLock : BitVec 7 := 0
  bus : BusRegs := {}
  indSpi : IndWindow := {}
  indSmb : IndWindow := {}
  sess : Vector Session 8
  ev : EventUnit
  perf : Vector PerfUnit 192
  snap : Snapshot := {}
  /-- SYS_STATUS.SNAPSHOT_SEQ. -/
  snapSeq : Byte := 0
  /-- Sessions whose doorbell was rung while doorbells are held (R307, R320), with the SEQ, in the order of the rings. -/
  heldRings : List (Sess × Byte) := []
  /-- Doorbells taken so far (R369). -/
  nextTurn : Nat := 0
  /-- The model's own record of the bus pins: bytes the device drove in the latest quad-SPI or SMBus access. -/
  busOut : Bytes := []
deriving DecidableEq, Repr

def ControlPlane.reset : ControlPlane :=
  { sess := Vector.replicate 8 {}, ev := EventUnit.reset, perf := Vector.replicate 192 PerfUnit.reset }

end Sys2Proof.Machine
end

