-- ==== Sys2Proof/Machine/RxUnits.lean ====
section
/-!
DEFINITION. The records of line receive, burst acquisition and portraits (chapters 2 and 3).
-/
namespace Sys2Proof.Machine

/-- Slice correction entry (Table 2-3). -/
structure Slice where
  offset : Int := 0
  gain : Nat := 512
  skew : Int := 0
  bwK : Int := 0
deriving DecidableEq, Repr

/-- A term of the nonlinear compensator (Table 2-4, Table 3-7 NLC_TERM). -/
structure NlcTerm where
  q : Int := 0
  l1 : Nat := 0
  l2 : Nat := 0
  l3 : Nat := 0
  order3 : Bool := false
  en : Bool := false
deriving DecidableEq, Repr, Inhabited

/-- Main equaliser coefficients: a receive palette (R47, Table 2-4). -/
structure Coeffs where
  cursor : Nat
  ffe17 : Bool
  seqDet : Bool
  nlcOn : Bool
  dfe : Int
  ffe : Vector Int 33
  nlc : Vector NlcTerm 16
deriving DecidableEq, Repr, Inhabited

/-- Defaults of Table 2-4: cursor 8, w[8] = 1.0, compensator on with no term enabled. -/
def Coeffs.reset : Coeffs :=
  { cursor := 8, ffe17 := false, seqDet := false, nlcOn := true, dfe := 0,
    ffe := Vector.ofFn (fun i : Fin 33 => if i.val = 8 then 1024 else 0), nlc := Vector.replicate 16 {} }

/-- Receive states (Table 2-10 RX_STATE). -/
inductive RxState where
  | off
  | signalWait
  | timingAcq
  | converge
  | locked
  | burst
deriving DecidableEq, Repr

/-- A palette swap request: fade exponent and tag (R47, R49). -/
structure Swap where
  exp : Nat
  tag : BitVec 16
deriving DecidableEq, Repr

/-- The fade of a palette (R47, R130): the request being carried out. -/
structure Fade where
  swap : Swap
  /-- The fade has started (the CK_DSP edge after acceptance has passed), and the lane symbol counter then. -/
  started : Bool := false
  start : Sym := 0
  /-- Alpha has exceeded one half. -/
  past : Bool := false
deriving DecidableEq, Repr

/-- CK_DSP cycles of a fade of F symbols at Q symbols in a cycle, and those that have passed (R47). -/
def Fade.total (f : Fade) (q : Nat) : Nat := 2 ^ f.swap.exp / q
def Fade.steps (f : Fade) (q : Nat) (now : Sym) : Nat :=
  if f.started then min (f.total q) ((now - f.start).toNat / q) else 0

/-- Flipbook capture status (Table 2-9). -/
inductive CaptureStatus where
  | idle
  | armed
  | filling
  | complete
  | abortedReplay
  | abortedMode
deriving DecidableEq, Repr

/-- A diagnostic flipbook capture (R50). -/
structure Capture where
  status : CaptureStatus := .idle
  trigger : Nat := 0
  post : Nat := 0
  rate : Nat := 0
  /-- Once triggered, the counter of the first sample not to be recorded, a multiple of 4. -/
  stop : Sym := 0
  /-- Lane symbol counter of the oldest sample. -/
  oldest : Sym := 0
  triggerTime : Time := 0
deriving DecidableEq, Repr

/-- Per-slice statistics of an estimation window (R35): sum, sum of squares, sum of products with the next sample. -/
structure SliceStat where
  count : Nat := 0
  sum : Int := 0
  sumSq : Int := 0
  sumProd : Int := 0
deriving DecidableEq, Repr

/-- The estimation window in progress (R35, R36): its N as a power of two, its start, statistics by slice index, the clipped
samples, and the last sample that counted. -/
structure EstSums where
  exp : Nat := 20
  start : Time := 0
  stats : Vector SliceStat 64 := Vector.replicate 64 {}
  clipped : Nat := 0
  last : Option Sym := none
deriving DecidableEq, Repr

/-- A window handed to a housekeeping engine (R35, R37). -/
structure EstWindow where
  n : Nat
  clipped : Nat
  stats : List SliceStat
deriving DecidableEq, Repr

/-- Receive diagnostics counters and measurements (Table 2-10). -/
structure RxDiag where
  snr : BitVec 16 := 0
  eyeMin : BitVec 16 := 0
  levelMean : Word := 0
  levelSigma : Word := 0
  pilotErrors : Nat := 0
  losCount : Nat := 0
  lolCount : Nat := 0
  clipCount : Nat := 0
  calApplied : Nat := 0
  calRejected : Nat := 0
  swapCompleted : Nat := 0
  swapSuperseded : Nat := 0
  lastCalSymbol : Sym := 0
deriving DecidableEq, Repr

/-- A lane's entry into a mode, or the clear option, starts the counters anew (Table 2-10); the last application's symbol is no
counter and stays. -/
def RxDiag.restart (d : RxDiag) : RxDiag :=
  { d with pilotErrors := 0, losCount := 0, lolCount := 0, clipCount := 0, calApplied := 0, calRejected := 0, swapCompleted := 0,
           swapSuperseded := 0 }

/-- What the receive path measures (Table 2-10): decision SNR, eye, level means and deviations. -/
structure RxMeas where
  snr : BitVec 16 := 0
  eyeMin : BitVec 16 := 0
  levelMean : Word := 0
  levelSigma : Word := 0
deriving DecidableEq, Repr

/-- What Table 2-10 shows in SLOTTED and OPEN: the values of the last burst that committed (R52). -/
structure BurstMeas where
  freqOffset : Int := 0
  timingPhase : BitVec 10 := 0
  dgain : Nat := 256
  snr : BitVec 16 := 0
  eyeMin : BitVec 16 := 0
deriving DecidableEq, Repr

/-- An equalised symbol: its lane symbol counter, z and one level step (half the level spacing) in the same unit, and the DFE
slicer's decision (R41). -/
structure EqSym where
  sym : Sym
  z : Int
  step : Int
  slice : Int
deriving DecidableEq, Repr

/-- A hypothesis of the sequence detector: its score and its decisions, latest first (R43). -/
structure EqPath where
  score : Nat
  path : List Int
deriving DecidableEq, Repr

/-- A burst payload the main equaliser is to process: its first and last symbol, the adaptation step exponent, and the DGAIN refined
from its own preamble (R80–R82). -/
structure EqJob where
  first : Sym
  last : Sym
  k : Nat
  dgain : Nat
deriving DecidableEq, Repr

/-- The main equaliser (R41–R45). -/
structure Equaliser where
  /-- Counter of the next symbol to equalise, and of the next one whose decision is to be released. -/
  next : Sym := 0
  out : Sym := 0
  /-- The DFE slicer's previous decision, 0 before the first. -/
  prev : Int := 0
  /-- The sequence detector is on, since symbol `since`; its two hypotheses. -/
  det : Bool := false
  since : Sym := 0
  paths : List EqPath := []
  /-- The last 32 equalised symbols, latest first, and the last 32 decisions released. -/
  recent : List EqSym := []
  decided : List (Sym × Int) := []
  /-- Burst payloads to process, oldest first. -/
  jobs : List EqJob := []
  /-- Words of the ring that read with an error in the replay or deferred start under way: their samples are processed as 0 (Table
  11-3). -/
  zero : List Nat := []
  /-- Errors of the last 64 pilots, latest first (Table 2-6). -/
  pilots : List Bool := []
  /-- Consecutive CK_DSP cycles with the decision error below the lock threshold (Table 2-7). -/
  quiet : Nat := 0
  /-- Fraction of the timing phase, in 10^-9 of 1/1024 UI. -/
  phaseFrac : Nat := 0
  /-- Number 0–3 of the last level received in TRANSPARENT, for the precoding (Table 4-11). -/
  lastLevel : Nat := 0
deriving DecidableEq, Repr

/-- The receive path of a physical lane (chapter 2). -/
structure RxLane where
  ctle : Nat := 6
  vga : Nat := 24
  agcTarget : Nat := 40
  losThresh : Nat := 8
  /-- Lane digital gain in force and a staged change (R34, R39). -/
  dgain : Nat := 256
  stagedDgain : Option Nat := none
  /-- DGAIN as LANE.SET_RX set it, which the continuous modes use (R34). -/
  dgainSet : Nat := 256
  /-- Input deskew in 50 fs steps (R26), and as LANE.SET_RX set it (R70). -/
  deskew : Int := 0
  deskewSet : Int := 0
  adaptK : Nat := 14
  adaptFfe : Bool := true
  adaptDfe : Bool := true
  adaptNlc : Bool := true
  /-- 0 root × 8, 1 root × 4, 2 root × 2. -/
  rate : Nat := 0
  /-- Loop bandwidth in 0.5 MHz and damping in 1/16 (0.9 is nearest to 14/16). -/
  loopBw : Nat := 8
  damping : Nat := 14
  /-- Acquisition limit in 10 µs. -/
  acqLimit : Nat := 10
  agcOn : Bool := false
  /-- Lane symbol counter (R30). -/
  symCount : Sym := 0
  /-- The last 512 raw samples, and the last 256 corrected samples in 1/4 LSB (R33), latest first. -/
  raws : Bytes := []
  corrected : List Int := []
  eq : Equaliser := {}
  /-- Counter of the first symbol of a STEADY or LOOP run (R108, R112). -/
  runStart : Sym := 0
  state : RxState := .off
  los : Bool := false
  /-- Consecutive blocks below the threshold, and at or above threshold + 4 LSB (R29). -/
  losLow : Nat := 0
  losHigh : Nat := 0
  freqOffset : Int := 0
  timingPhase : BitVec 10 := 0
  /-- Active and staged slice sets (R32), and whether the staged one awaits application. -/
  slices : Vector Slice 64
  staged : Vector Slice 64
  stagedPending : Bool := false
  /-- A set applied on a symbol of the cycle to come: that symbol, and the set and DGAIN of the symbols before it (R39). -/
  before : Option (Sym × Vector Slice 64 × Nat) := none
  /-- A replay defers the staged set's application (R40). -/
  replaying : Bool := false
  /-- Estimator: N exponent and loop gains (R35, R38). -/
  nExp : Nat := 20
  gO : Nat := 16
  gG : Nat := 32
  gS : Nat := 64
  gB : Nat := 32
  sums : EstSums := {}
  window : Option EstWindow := none
  paletteA : Coeffs
  paletteB : Coeffs
  /-- Active palette: `true` for B. -/
  activeB : Bool := false
  fade : Option Fade := none
  heldSwap : Option Swap := none
  /-- Raw samples by ring position; unlisted positions hold 0. -/
  ring : Mem := []
  /-- The ring does not record (replay in progress, or a complete capture). -/
  frozen : Bool := false
  capture : Capture := {}
  /-- Adaptation frozen by a core cover, and by a lane engine's image swap (R44). -/
  coverFreeze : Bool := false
  swapFreeze : Bool := false
  diag : RxDiag := {}
  committed : BurstMeas := {}
deriving DecidableEq, Repr

def RxLane.reset : RxLane :=
  { slices := Vector.replicate 64 {}, staged := Vector.replicate 64 {}, paletteA := Coeffs.reset, paletteB := Coeffs.reset }

/-- Burst acquisition parameters (Table 3-3). -/
structure BurstParams where
  tw : Nat := 32
  tc : Nat := 28
  powerThresh : Nat := 12
  syncTol : Nat := 4
  /-- Capture ratio in 0.5 dB, 0 for capture off. -/
  capture : Nat := 12
  winTol : Nat := 64
  burstK : Nat := 12
  coldK : Nat := 10
  commitLimit : Nat := 8
  failLimit : Nat := 4
  /-- Event hold-off in ms. -/
  holdoff : Nat := 1
deriving DecidableEq, Repr

/-- A portrait (Table 3-7). -/
structure Portrait where
  station : Nat
  work : Nat
  valid : Bool
  inherited : Bool
  isProtected : Bool
  coldLearned : Bool
  commits : Nat
  lastHeard : Time
  created : Time
  vga : Nat
  deskew : Int
  dgain : Nat
  timingPhase : BitVec 10
  fails : Nat
  freqOffset : Int
  coeffs : Coeffs
  acq : Vector Int 8
  snr : BitVec 16
  eyeMin : BitVec 16
  rsCorrected : Nat
  strength : Int
deriving DecidableEq, Repr

/-- Coefficients of words that read as zero (R79). -/
def Coeffs.zero : Coeffs :=
  { cursor := 0, ffe17 := false, seqDet := false, nlcOn := false, dfe := 0, ffe := Vector.replicate 33 0,
    nlc := Vector.replicate 16 {} }

/-- An empty portrait of a lane, as never written: every word zero but STATION and WORK_LANE (R79). -/
def Portrait.empty (w : Nat) : Portrait :=
  { station := 16383, work := w, valid := false, inherited := false, isProtected := false, coldLearned := false,
    commits := 0, lastHeard := 0, created := 0, vga := 0, deskew := 0, dgain := 0, timingPhase := 0, fails := 0,
    freqOffset := 0, coeffs := Coeffs.zero, acq := Vector.replicate 8 0, snr := 0, eyeMin := 0, rsCorrected := 0,
    strength := 0 }

/-- An entry of a lane's hot cache with its locks (R87 and the text before R85). -/
structure HotEntry where
  work : Work
  station : Nat
  portrait : Portrait
  /-- Its place 0–7 in the array. -/
  slot : Nat := 0
  /-- Locked as the portrait in use of a burst. -/
  inUse : Bool := false
  /-- Locked as the prefetch for the next slot. -/
  prefetch : Bool := false
  /-- Locked as the target of a replay or deferred start. -/
  target : Bool := false
  /-- Locked while it awaits its gallery write. -/
  writeback : Bool := false
  /-- A quota reduction evicts the gallery entry once the locks end (R85). -/
  evictLater : Bool := false
deriving DecidableEq, Repr

/-- What started a burst. -/
inductive BurstStart where
  | warm
  | cold
  | fallback
deriving DecidableEq, Repr

/-- Sub-states of BURST (R74). -/
inductive AcqState where
  | armed
  | preamble
  | training
  | syncWait
  | header
  | payload
  | close
deriving DecidableEq, Repr

/-- How a burst's payload is processed (Table 3-8). -/
inductive BurstRun where
  | undecided
  | live
  | replay
  | deferred
deriving DecidableEq, Repr

/-- A burst being received or decoded. -/
structure Burst where
  start : BurstStart
  /-- Received under the rules of SLOTTED (R78). -/
  slotted : Bool
  /-- Parameters in force for this burst (R69). -/
  params : BurstParams
  firstPeak : Sym
  firstStrength : Int
  slot : Nat
  /-- Predicted station, 16,383 for none. -/
  predicted : Nat
  established : Bool := false
  endMarker : Bool := false
  syncOpen : Bool := false
  /-- First peaks of the intrusions (R76), whose repetitions are not counted again, with whether that peak was a cold one. -/
  intruders : List (Sym × Bool) := []
  intruded : Bool := false
  syncAt : Option Sym := none
  strength : Int := 0
  syncDist : Nat := 0
  /-- h[63:0] of a valid header. -/
  header : Option (BitVec 64) := none
  /-- The header is valid and addressed to the lane, FORMAT 0. -/
  accepted : Bool := false
  hdrCorr : Nat := 0
  headerTime : Time := 0
  run : BurstRun := .undecided
  /-- A replay or deferred start has been decided and has not begun (R81). -/
  waiting : Bool := false
  /-- Counter of the last payload symbol. -/
  payEnd : Sym := 0
  /-- Station of the portrait in use, 16,383 for the base portrait. -/
  inUse : Nat := 16383
  /-- The sender has a portrait on the lane. -/
  hadPortrait : Bool := false
  inheritedUse : Bool := false
  cacheMiss : Bool := false
  gainClamped : Bool := false
  lag : Nat := 0
  overrun : Bool := false
  /-- Outer codewords decoded so far, how many failed, and RS symbols corrected. -/
  cwDone : Nat := 0
  cwFailed : Nat := 0
  rsCorrected : Nat := 0
  frames : Nat := 0
  postamble : Option Bool := none
  snr : BitVec 16 := 0
  eyeMin : BitVec 16 := 0
  /-- Values refined in the preamble (R70). -/
  timingPhase : BitVec 10 := 0
  freqOffset : Int := 0
  dgain : Nat := 256
  acq : Vector Int 8 := Vector.replicate 8 0
  /-- Analogue settings, which do not change during a burst. -/
  vga : Nat := 24
  deskew : Int := 0
  /-- The active palette as this burst left it, once a later burst has loaded it anew. -/
  coeffs : Option Coeffs := none
deriving DecidableEq, Repr

/-- An open receive window (R75). -/
structure RxWindow where
  slot : Nat
  predicted : Nat
deriving DecidableEq, Repr

/-- The acquisition datapath of a physical lane (R64–R78, R87). -/
structure Acq where
  state : AcqState := .armed
  /-- The burst being acquired or recorded. -/
  cur : Option Burst := none
  /-- Bursts past their postamble, still decoding, oldest first. -/
  decoding : List Burst := []
  rxWindow : Option RxWindow := none
  /-- Power detector armed (R66), and the last trigger without a peak since. -/
  detArmed : Bool := true
  trigger : Option Sym := none
  /-- The lane has been in ARMED and without a peak since the trigger (R66). -/
  triggerClean : Bool := false
  /-- The last start outside every receive window, and its symbol (R74). -/
  stray : Option (BurstStart × Sym) := none
  /-- Lag of the last burst and the symbol its payload ended on (R82). -/
  lag : Nat := 0
  lastEnd : Sym := 0
  /-- Hot cache, least recently used first. -/
  hot : List HotEntry := []
deriving DecidableEq, Repr

/-- A burst record of the log (Table 3-10), as its 32 bytes. -/
abbrev BurstRecord := Bytes

/-- What a gallery fetch is for (R87). -/
inductive FetchKind where
  | traffic
  | replay
  | read
deriving DecidableEq, Repr

/-- A gallery fetch waiting or in service (R87). -/
structure Fetch where
  kind : FetchKind
  phys : Phys
  work : Work
  station : Nat
  /-- Session waiting for PORTRAIT.READ. -/
  sess : Option Sess := none
  /-- The fetch is a prefetch of the next slot's portrait. -/
  ahead : Bool := false
deriving DecidableEq, Repr

/-- Burst state of a working lane (Table 3-3, R85, R91, R92). -/
structure BurstLane where
  /-- Parameters as set last; a burst keeps those it started with (R69). -/
  params : BurstParams := {}
  /-- Event hold-off in force in ms: that of a burst in progress until the next one starts (R69). -/
  holdoff : Nat := 1
  base : Portrait
  quota : Nat := 128
  /-- Last 64 burst records, oldest first, and how many have been written. -/
  log : List BurstRecord := []
  logged : Nat := 0
  counters : Vector Nat 32 := Vector.replicate 32 0
deriving DecidableEq, Repr

def BurstLane.reset (w : Nat) : BurstLane := { base := Portrait.empty w }

/-- The gallery and its fetch service (R85–R88). -/
structure GalleryUnit where
  /-- Portraits by gallery index 0–16,383. -/
  entries : Tab Portrait := []
  inService : List Fetch := []
  waiting : List Fetch := []
deriving DecidableEq, Repr

end Sys2Proof.Machine
end

