-- ==== Sys2Proof/Machine/SecUnits.lean ====
section
/-!
DEFINITION. The records of OTP, owner keys, self-test, external flash, image download and relay (chapters 14 and 15).
-/
namespace Sys2Proof.Machine

/-- An identity seed slot in OTP (R409): its 96 bytes and its completion fuse; `destroyed` once every fuse is blown. -/
structure SeedSlot where
  seed : Bytes := []
  complete : Bool := false
  destroyed : Bool := false
  /-- Some fuse has been blown (a seed without its completion fuse is spent, R405). -/
  touched : Bool := false
deriving DecidableEq, Repr

/-- OTP security fields (Table 14-1, R439). -/
structure OtpUnit where
  uid : BitVec 128 := 0
  lcFuse : BitVec 4 := 0
  seedA : SeedSlot := {}
  seedB : SeedSlot := {}
  ownerWrap : BitVec 256 := 0
  ownerWrapDestroyed : Bool := false
  sigBlock : BitVec 2048 := 0
  /-- Anti-rollback words A and B, thermometers of 32 fuses (R439). -/
  rollA : BitVec 32 := 0
  rollB : BitVec 32 := 0
deriving DecidableEq, Repr

/-- Values fixed at manufacture outside OTP (R2, Table 12-4, R450). -/
structure Manufacture where
  step : BitVec 8 := 0
  /-- 0 MY5128-FC, 1 MY5128-FX. -/
  gradeFx : Bool := false
  /-- Core setpoint in mV when no plan record exists (R450). -/
  setpoint : Nat := 750
  /-- Deficit in ppm of each wear monitor, centre of each bias output and DAC swing of each physical lane (R285, R286); 0 beyond the
  lists. -/
  deficits : List Int := []
  centres : List Int := []
  swings : List Nat := []
deriving DecidableEq, Repr

/-- An owner key record in the flash owner region (R408), with its KMAC256 tag. -/
structure OwnerKey where
  /-- [0] AUTH, [1] LIFECYCLE, [2] IMAGE. -/
  uses : BitVec 8
  /-- [0] REQUIRE_COSIGN (slot 0 only). -/
  policy : BitVec 8
  /-- 68-byte RFC 8391 public key. -/
  pub : Bytes
  tag : Bytes
deriving DecidableEq, Repr

/-- A self-test result record (Table 14-9). -/
structure TestRecord where
  scope : Nat
  outcome : Nat
  method : Nat
  checks : BitVec 8
  checksDone : BitVec 8
  checksFailed : BitVec 8
  endCause : Nat
  startTime : Time
  endTime : Time
  lifecycle : Nat
  lanes : BitVec 17
  groups : BitVec 4
  patterns : Nat
  expected : Nat
  signature : Bytes
  expectedSig : Bytes
  failed : Word
  runNum : Nat
deriving DecidableEq, Repr

/-- What a check of a test found: its 64-bit signature, failing lanes and groups of the bank, and for the memory and logic
test the first failing array with its word, or core (`true`, index, 0). -/
structure CheckFound where
  sig : BitVec 64
  lanes : BitVec 17
  groups : BitVec 4
  unit : Option (Bool × Nat × Nat)
deriving DecidableEq, Repr

/-- A running self-test (R414–R421). -/
structure TestRun where
  record : TestRecord
  /-- Requested checks not run yet, in bit order; the first is running. -/
  todo : List Nat
  /-- DURATION in µs. -/
  duration : Nat
  /-- Core whose failure ends the run (R418, END_CAUSE 5). -/
  core : Core
  /-- Per-check signatures measured so far. -/
  sigs : List (BitVec 64)
  expSigs : List (BitVec 64)
  /-- Bias codes and ranges the tested outputs held before the test (R418). -/
  held : Tab (Nat × Nat)
  /-- Status records of the tested outputs as the test began (Table 14-8). -/
  before : Tab Bytes := []
deriving DecidableEq, Repr

/-- Boot count region (R425). -/
inductive BootRegion where
  | erased
  | count (boot : Word) (seq : Word)
  /-- Written data without a valid record. -/
  | spoiled
deriving DecidableEq, Repr

/-- Latest image journal record (R424, R429, R430, R436). -/
structure Journal where
  stage : Nat := 0
  confirmed : Bool := false
  bodyHash : Bytes := []
  secVer : Nat := 0
  /-- Cores swapped so far in ACTIVATING (R431). -/
  swapped : Nat := 0
  seq : Word := 0
deriving DecidableEq, Repr

/-- External flash (Table 15-1), apart from the plan ring, which the ageing unit holds. -/
structure FlashUnit where
  boot : BootRegion := .erased
  owner : Vector (Option OwnerKey) 8 := Vector.replicate 8 none
  /-- Last eight records of banks 0–7 and of memory and logic, newest first (R420). -/
  tests : Vector (List TestRecord) 9 := Vector.replicate 9 []
  journal : Journal := {}
  /-- Recorded remaps (R343): array and word address, oldest first. -/
  remapLog : List (Nat × Nat) := []
  /-- Loader sector content; unlisted bytes are erased (0xFF). -/
  loader : Mem := []
  /-- Image slot: the header as stored, `none` when its sector is erased. -/
  slotHeader : Option Bytes := none
  /-- Image slot body; unlisted bytes are erased (0xFF). -/
  slotBody : Mem := []
deriving DecidableEq, Repr

/-- Update stages 0–7 (Table 15-4). -/
inductive Stage where
  | idle
  | header
  | body
  | verified
  | activating
  | activated
  | invalid
  | refill
deriving DecidableEq, Repr

/-- What a relay transfer carries. -/
inductive RelayCargo where
  | image
  | loader
deriving DecidableEq, Repr

/-- A transfer this device sends on a relay port (R434, R435, R441). -/
structure RelayTx where
  cargo : RelayCargo
  /-- 0 HELLO being repeated, 1 OFFER sent, 2 data. -/
  phase : Nat
  length : Nat
  /-- All bytes below are acknowledged. -/
  next : Nat := 0
  window : Nat := 0
  /-- All bytes below have been sent. -/
  sent : Nat := 0
  hellos : Nat := 0
  /-- DEVICE_TIME of the last advance. -/
  since : Time := 0
  /-- The first chunk has been acknowledged. -/
  started : Bool := false
  /-- The transfer answers a REFILL_REQ. -/
  refill : Bool := false
deriving DecidableEq, Repr

/-- A relay port (R432). -/
structure RelayPort where
  up : Bool := false
  tx : Option RelayTx := none
  /-- A REFILL_REQ of this device is unanswered on this port, or its transfer runs. -/
  asked : Bool := false
  /-- The model's own record of the port's transmitter: the frames (TYPE, LEN, payload, CRC) sent by the latest row that sent
  relay frames. -/
  out : List Bytes := []
deriving DecidableEq, Repr

/-- Image update (R427–R441). -/
structure ImageUnit where
  stage : Stage := .idle
  /-- SOURCE: 0 host, 1 RLY_UP, 2 RLY_DN. -/
  source : Nat := 0
  reject : Nat := 0
  /-- A download runs. -/
  active : Bool := false
  /-- Announced length. -/
  length : Nat := 0
  /-- DEVICE_TIME at which the download began (R435: OFFERs of one cycle). -/
  begun : Time := 0
  /-- Bytes received in order. -/
  received : Nat := 0
  /-- Body bytes written and read back. -/
  written : Nat := 0
  header : Bytes := []
  headerOk : Bool := false
  bodyOk : Bool := false
  /-- Received body bytes not written yet. -/
  buffer : Bytes := []
  /-- NEXT of the last ACK sent upstream (R435). -/
  acked : Nat := 0
  /-- FLAGS[0] of IMAGE.BEGIN, or a relayed image: forward. -/
  forward : Bool := false
  /-- IMAGE.SET_RELAY PORTS, 0b0101 after PORST_N (R435). -/
  ports : BitVec 4 := 5
  port : Vector RelayPort 2 := Vector.replicate 2 {}
  pendingVer : Word := 0
  runningVer : Word := 0
  /-- Header of the running image (R412, R436, R439), and whether it awaits IMAGE.CONFIRM. -/
  running : Bytes := []
  unconfirmed : Bool := false
  /-- Cores to swap, in the order of Table 15-6, each entry one round (R436). -/
  rounds : List (List Nat) := []
  /-- Boot ROM download of the loader sector (R441). -/
  loaderBuf : Mem := []
  loaderNext : Nat := 0
  /-- SHAKE256/256 of the loader as verified at boot (Table 14-5). -/
  loaderHash : Bytes := []
  /-- BOOT of this boot (R179). -/
  bootCount : Word := 0
  /-- A refill attempt failed on both ports and waits for its retry (R440). -/
  refillWait : Bool := false
deriving DecidableEq, Repr

/-- Security, self-test, flash and images. -/
structure SecureUnit where
  otp : OtpUnit := {}
  made : Manufacture := {}
  /-- Next unused identity index (R410), and whether the signing state is rebuilt. -/
  nextIndex : Nat := 0
  signReady : Bool := false
  /-- EV_SEC_INDEX_LOW has been raised for 1,024 and for 256 (R411). -/
  low1024 : Bool := false
  low256 : Bool := false
  test : Option TestRun := none
  flash : FlashUnit := {}
  img : ImageUnit := {}
deriving DecidableEq, Repr

end Sys2Proof.Machine
end

