-- ==== Sys2Proof/Machine/ThermUnits.lean ====
section
/-!
DEFINITION. The records of temperature, throttling, calibration runs and ageing (chapter 9).
-/
namespace Sys2Proof.Machine

/-- Sensor states (Table 9-2), in the order of the codes of Table 9-4. -/
inductive SensorState where
  | healthy
  | suspect
  | failed
deriving DecidableEq, Repr

/-- A temperature sensor; temperatures in 1/8 °C. -/
structure SensorUnit where
  state : SensorState := .healthy
  reading : Int := 0
  /-- The sensor has brought a reading since reset. -/
  sampled : Bool := false
  used : Int := 0
  prediction : Option Int := none
  disagree : Nat := 0
  agree : Nat := 0
  /-- The last samples that agreed in a row, up to 16 (THERM.RESTORE_SENSOR). -/
  agreeRun : Nat := 0
  /-- Consecutive samples meeting a trip condition (R278). -/
  tripRun : Nat := 0
  /-- Model offsets to the neighbours of Table 9-1 in its order, in 1/65536 of 1/8 °C (R267). -/
  offsets : List Int := [0, 0, 0, 0]
deriving DecidableEq, Repr

/-- Thermal and power parameters (Table 9-5). -/
structure ThermParams where
  pLim : Nat := 2000
  threshold : Int := 720
  hyst : Int := 24
  /-- TRIP_RECOVER COMMAND. -/
  command : Bool := false
  recoverHyst : Int := 10
deriving DecidableEq, Repr

/-- Trip and recovery (R278–R280). -/
inductive TripPhase where
  | none
  | tripped
  /-- Bias outputs have returned; the power-up 1 ms later is awaited. -/
  | recovering
deriving DecidableEq, Repr

/-- A compensation trim (Table 9-8): the mean at the last trim, and the trim code in force. -/
structure Trim where
  mean : Option Int := none
  code : Int := 0
  /-- A trim made and not applied yet; for the root PLL, the target code. -/
  due : Option Int := none
deriving DecidableEq, Repr

/-- A due trim takes effect. -/
def Trim.take (x : Trim) : Trim := match x.due with
  | some c => { x with code := c, due := none }
  | none => x

/-- Temperature, throttling and compensation. -/
structure ThermUnit where
  sens : Vector SensorUnit 72
  fast : Bool := false
  tripFast : Bool := false
  params : ThermParams := {}
  steps : Nat := 0
  /-- Rungs applied, latest first: working lane and rung. -/
  ladder : List (Nat × Nat) := []
  /-- Lanes that refused the last attempted step. -/
  critical : Bool := false
  refused : Nat := 0
  trips : Nat := 0
  trip : TripPhase := .none
  /-- DEVICE_TIME since which the hottest used value has met the recovery condition. -/
  coolSince : Option Time := none
  /-- The last ten 1-ms power samples, in 0.1 W, and P_dev. -/
  power : List Nat := []
  pDev : Nat := 0
  trimPll : Trim := {}
  trimAon : Trim := {}
  trimRef : Trim := {}
  trimDac : Vector Trim 136
  trimHtx : Vector Trim 32
deriving DecidableEq, Repr

def ThermUnit.reset : ThermUnit :=
  { sens := Vector.replicate 72 {}, trimDac := Vector.replicate 136 {}, trimHtx := Vector.replicate 32 {} }

/-- Outcomes of Table 9-10, in the order of the codes of CAL.GET_STATUS. -/
inductive CalOutcome where
  | none
  | completed
  | stalled
  | aborted
deriving DecidableEq, Repr

/-- Run state of CAL.GET_STATUS, in the order of its codes. -/
inductive CalState where
  | idle
  | queued
  | running
deriving DecidableEq, Repr

/-- Calibration of a physical lane (R282–R284). -/
structure CalLane where
  ref : Option Int := none
  state : CalState := .idle
  remaining : Nat := 0
  outcome : CalOutcome := .none
  /-- Consecutive windows rejected. -/
  rejected : Nat := 0
  /-- The set of the last iteration has been staged. -/
  lastStaged : Bool := false
  /-- EV_CAL_DUE has been raised for the present crossing. -/
  dueRaised : Bool := false
  /-- DEVICE_TIME at the end of the last completed run (PERIOD of Table 9-9). -/
  doneAt : Option Time := none
deriving DecidableEq, Repr

/-- A trigger waiting for a run (R284). -/
structure CalWait where
  lane : Phys
  command : Bool
  iters : Nat
deriving DecidableEq, Repr

/-- Calibration triggers and queue. -/
structure CalUnit where
  /-- ΔT_cal in 0.5 °C, CAL_MAX_RUNS, CAL_PERIOD in minutes. -/
  dT : Nat := 8
  maxRuns : Nat := 34
  period : Nat := 0
  lane : Vector CalLane 136
  queue : List CalWait := []
deriving DecidableEq, Repr

def CalUnit.reset : CalUnit := { lane := Vector.replicate 136 {} }

/-- A lane's decision mean-square error and the mean-square contributions of its compensator terms and of the 16 taps that rung 3
drops, over a margin window (R274), all in one unit. -/
structure LaneError where
  mse : Nat
  nlc : Nat
  ffe : Nat
deriving DecidableEq, Repr

/-- What a day's measurements of a physical lane bring to a plan: the day's samples and those that clipped (R288), and the errors of
the last margin window. -/
structure LaneDay where
  samples : Nat
  clipped : Nat
  err : LaneError
deriving DecidableEq, Repr

/-- Daily means of the last 90 days, latest first, each with the number of its day; a day without a sample has none (R286, R288). -/
abbrev Hist := List (Nat × Int)

/-- The mean of a day enters its history. -/
def pushDay (day : Nat) (mean : Int) (h : Hist) : Hist := ((day, mean) :: h.filter fun e => decide (day < e.1 + 90)).take 90

/-- History of a physical lane (R286): today's sum and count of MARGIN and today's hourly sums of the others, and the daily means. -/
structure LaneAge where
  marginSum : Int := 0
  marginCount : Nat := 0
  days : Hist := []
  sumO : Nat := 0
  sumG : Nat := 0
  sumS : Nat := 0
  sumA : Nat := 0
  /-- Largest movement of OFFSET, GAIN and SKEW since manufacture, over the lane's slices. -/
  driftO : Hist := []
  driftG : Hist := []
  driftS : Hist := []
  /-- DAC swing as the driver's replica amplitude detector reads it. -/
  swing : Hist := []
deriving DecidableEq, Repr

/-- A margin plan (R290): its number and its 2,240-byte record. -/
structure PlanRecord where
  number : Nat
  bytes : Bytes
deriving DecidableEq, Repr

/-- Wear, histories and plans (R285–R290). -/
structure AgeUnit where
  wear : Vector Int 48
  /-- Multiples of 5,000 ppm already reported by EV_AGE_WEAR, for each monitor. -/
  wearStep : Vector Nat 48
  lane : Vector LaneAge 136
  /-- Hours of today that the hourly sums hold, and today's sum of the VDD_CORE setpoint. -/
  hours : Nat := 0
  setpointSum : Nat := 0
  /-- Today's sum and count of the centre of each output owned by a loop in LOCKED. -/
  centre : Vector (Int × Nat) 544
  /-- Days that have ended. -/
  day : Nat := 0
  /-- Daily means of the VDD_CORE setpoint, and of the centre of each output owned by a loop in LOCKED. -/
  setpoints : Hist := []
  centres : Vector Hist 544
  /-- Plans since manufacture; the number of a plan asked for and not computed. -/
  planNum : Nat := 0
  asked : Bool := false
  /-- A plan is deferred until after recovery (R287). -/
  deferred : Bool := false
  /-- The plan whose record is being written. -/
  writing : Option PlanRecord := none
  /-- AVS target in mV that plans have reached (R288), 0 before the first. -/
  avsTarget : Nat := 0
  avsFail : Bool := false
  /-- The flash ring, latest first, at most 400 records. -/
  ring : List PlanRecord := []
deriving DecidableEq, Repr

def AgeUnit.reset : AgeUnit :=
  { wear := Vector.replicate 48 0, wearStep := Vector.replicate 48 0, lane := Vector.replicate 136 {}, centre := Vector.replicate 544 (0, 0),
    centres := Vector.replicate 544 [] }

end Sys2Proof.Machine
end

