-- ==== Sys2Proof/Syntax.lean ====
section
/-!
DEFINITION. The commands of the block: one constructor for each row of the opcode table, with the operands that stand for
what the row's event brings from outside (pins, received words, measured values, the unit concerned).
-/
namespace Sys2Proof
open Sys2Proof.Machine

/-- The commands: mailbox commands carry the session whose accepted command is carried out; every other row carries the
unit concerned and the values its event brings. -/
inductive Instr where
  /-- LANE_SET_MODE (R17): Command that changes a physical lane's mode along the permitted transitions, draining
  first where required. -/
  | laneSetMode (k : Sess)
  /-- LANE_TRAIN (R391): Command that starts training of a lane in TUNE toward a target mode and starts the TRAIN
  calibration trigger. -/
  | laneTrain (k : Sess)
  /-- LANE_TRAINING_DONE (R17): A running LANE.TRAIN passes or fails, which sets TRAIN and decides which mode
  transitions are permitted. -/
  | laneTrainingDone (p : Phys) (passed : Bool) (reason : Nat)
  /-- LANE_TRAIN_TIMEOUT (R391): A training that has not passed within 90 ms ends and its command returns TIMEOUT
  with a reason. -/
  | laneTrainTimeout (p : Phys) (reason : Nat)
  /-- LANE_RESET (R308): Command that resets a lane engine and receive path, after any burst in progress has
  ended, keeping the listed state. -/
  | laneReset (k : Sess)
  /-- LANE_RESET_DONE (R308): The lane engine restarts after LANE.RESET and EV_DEV_RESET_DONE is raised. -/
  | laneResetDone (p : Phys) (discarded : Nat × Nat)
  /-- LANE_GET_STATUS (R390): Command that returns the 32-byte lane status record. -/
  | laneGetStatus (k : Sess)
  /-- LANE_SET_STATION (R391): Command that sets a working lane's station ID while its physical lane is in DARK or
  TUNE. -/
  | laneSetStation (k : Sess)
  /-- LANE_SET_RX (R391): Command that sets the receive front-end, gain, adaptation, rate and timing-loop
  parameters of a lane. -/
  | laneSetRx (k : Sess)
  /-- LANE_LOAD_RX_PALETTE (R49): Command that loads coefficients into a receive palette under the palette state
  table. -/
  | laneLoadRxPalette (k : Sess)
  /-- LANE_GET_RX_DIAG (R52): Command that returns the receive diagnostics record, optionally clearing its counters. -/
  | laneGetRxDiag (k : Sess)
  /-- LANE_SWAP_PALETTE (R49): Command that requests a receive palette swap with a fade length, which starts, is
  held or is refused. -/
  | laneSwapPalette (k : Sess)
  /-- LANE_CAPTURE_FLIPBOOK (R50): Command that arms or releases a diagnostic flipbook capture with a trigger and
  a post-trigger count. -/
  | laneCaptureFlipbook (k : Sess)
  /-- LANE_READ_FLIPBOOK (R392): Command that returns the capture header and words of a completed flipbook capture. -/
  | laneReadFlipbook (k : Sess) (bad : List (Nat × BitVec 42))
  /-- LANE_SET_BURST (R69): Command that sets burst acquisition parameters, effective at the next burst start. -/
  | laneSetBurst (k : Sess)
  /-- LANE_GET_BURST_LOG (R91): Command that returns burst records of a working lane, oldest first. -/
  | laneGetBurstLog (k : Sess) (bad : Option (Nat × Nat × BitVec 42))
  /-- LANE_GET_BURST_COUNTERS (R92): Command that returns the 32 burst counters of a working lane, optionally
  clearing them. -/
  | laneGetBurstCounters (k : Sess)
  /-- LANE_SET_FEC (R105): Command that sets the margin window, forces or releases HARD decoding and sets
  TRANSPARENT precoding. -/
  | laneSetFec (k : Sess)
  /-- LANE_GET_FEC_STATS (R121): Command that returns the FEC statistics record of a working lane. -/
  | laneGetFecStats (k : Sess)
  /-- LANE_SET_TX (R128): Command that sets SWING, P/N skew and SPARE idle content of a transmitter. -/
  | laneSetTx (k : Sess)
  /-- LANE_LOAD_TX_PALETTE (R130): Command that loads taps and P_T into a transmit palette. -/
  | laneLoadTxPalette (k : Sess)
  /-- LANE_GET_TX_DIAG (R152): Command that returns the transmit diagnostics record. -/
  | laneGetTxDiag (k : Sess)
  /-- LANE_SWAP_TX_PALETTE (R130): Command that requests a transmit palette swap, refused in SLOTTED and OPEN. -/
  | laneSwapTxPalette (k : Sess)
  /-- LANE_SET_PREDISTORT (R129): Command that stages a new predistortion table. -/
  | laneSetPredistort (k : Sess)
  /-- LANE_SET_TX_BURST (R148): Command that sets OPEN transmit parameters and a resync station. -/
  | laneSetTxBurst (k : Sess)
  /-- DRAIN_COMPLETE (R18): A draining lane has no retained frame and every received frame delivered, so its
  pending mode change takes effect. -/
  | drainComplete (p : Phys)
  /-- DRAIN_TIMEOUT (R18): The drain limit expires, the command returns TIMEOUT and the lane resumes accepting
  frames. -/
  | drainTimeout (p : Phys)
  /-- CORE_COVER_DONE (R14): The cover of a failed core completes and EV_DEV_COVER_DONE is raised. -/
  | coreCoverDone (c : Core)
  /-- LOS_BLOCK_END (R29): A 256-symbol loss-of-signal block ends and the detector declares or clears loss of signal. -/
  | losBlockEnd (p : Phys)
  /-- AGC_UPDATE (R28): The automatic gain loop moves the variable-gain code by at most one step per 4,096 symbols. -/
  | agcUpdate (p : Phys) (rms : Nat)
  /-- ESTIMATION_WINDOW_END (R35): Every slice has contributed N samples, so the window's snapshot is handed
  across to a housekeeping engine. -/
  | estimationWindowEnd (p : Phys)
  /-- ESTIMATION_WINDOW_STARVED (R36): A window that has not filled within its limit is discarded and reported
  STARVED. -/
  | estimationWindowStarved (p : Phys)
  /-- ESTIMATOR_ITERATION (R38): A housekeeping engine judges a received window and, if accepted, computes and
  stages new slice corrections. -/
  | estimatorIteration (p : Phys)
  /-- CAL_SET_APPLY (R39): A staged correction set is applied to all slices on its application symbol. -/
  | calSetApply (p : Phys) (sym : Sym)
  /-- PILOT_EVALUATION (R45): A pilot window evaluation declares pilot lock or loss of lock. -/
  | pilotEvaluation (p : Phys) (m : RxMeas)
  /-- ACQ_LIMIT_EXPIRY (R46): The acquisition limit expires in TIMING_ACQ, raising EV_RX_ACQ_FAIL and returning to
  SIGNAL_WAIT. -/
  | acqLimitExpiry (p : Phys)
  /-- CONVERGE_LOCK (R46): The decision error has stayed below the lock threshold for 64 cycles, so the receive
  state becomes LOCKED. -/
  | convergeLock (p : Phys)
  /-- FADE_START (R47): A receive palette fade starts on the CK_DSP edge after the swap is accepted, freezing
  adaptation. -/
  | fadeStart (p : Phys)
  /-- FADE_MIDPOINT (R47): Alpha first exceeds one half, so P, FFE length and decision mode change to the new
  palette. -/
  | fadeMidpoint (p : Phys)
  /-- FADE_END (R47): Alpha reaches 1, the new palette becomes active and any held swap starts. -/
  | fadeEnd (p : Phys)
  /-- FLIPBOOK_TRIGGER (R50): The trigger of an armed capture occurs and the capture begins recording post-trigger
  samples. -/
  | flipbookTrigger (p : Phys) (kind : Nat)
  /-- FLIPBOOK_CAPTURE_COMPLETE (R50): The post-trigger count is reached and the ring freezes as a complete capture. -/
  | flipbookCaptureComplete (p : Phys)
  /-- CORRELATOR_PEAK (R64): A warm or cold correlator declares a positive or negative peak, judged against the
  burst state. -/
  | correlatorPeak (p : Phys) (cold negative : Bool) (sym : Sym) (phase : BitVec 10) (freq dgain : Int)
  /-- POWER_DETECTOR_TRIGGER (R66): The power detector triggers when its mean has stayed at or above the threshold
  for 16 symbols. -/
  | powerDetectorTrigger (p : Phys) (sym : Sym)
  /-- FALLBACK_START (R66): No correlator peak within 112 symbols of a trigger while ARMED declares a fall-back
  start. -/
  | fallbackStart (p : Phys) (sym : Sym)
  /-- FALLBACK_QUALIFICATION_EXPIRY (R66): No sync word within 192 symbols of a fall-back start ends it as
  FALSE_START. -/
  | fallbackQualificationExpiry (p : Phys)
  /-- POWER_DETECTOR_REARM (R66): The power mean stays below threshold for 64 symbols, re-arming the detector or
  truncating a burst in PAYLOAD. -/
  | powerDetectorRearm (p : Phys) (sym : Sym)
  /-- COLD_TRAINING_START (R74): The last repetition of C64 starts data-aided training of a cold preamble. -/
  | coldTrainingStart (p : Phys)
  /-- COLD_TRAINING_END (R74): The last training symbol stops cold training and keeps the coefficients. -/
  | coldTrainingEnd (p : Phys)
  /-- PREAMBLE_END_PASSED (R73): The expected preamble end passes without an end marker and the sync search opens. -/
  | preambleEndPassed (p : Phys)
  /-- SYNC_DETECTED (R67): The sync detector finds SYNC within tolerance and signal strength is latched. -/
  | syncDetected (p : Phys) (sym : Sym)
  /-- SYNC_DEADLINE_EXPIRY (R73): No sync word within 128 symbols after the expected preamble end ends the burst
  as FALSE_START. -/
  | syncDeadlineExpiry (p : Phys)
  /-- HEADER_DECODED (R61): The burst header is decoded and judged valid, misdirected or bad format, followed by
  the portrait decision. -/
  | headerDecoded (p : Phys) (word : BitVec 128)
  /-- REPLAY_START (R81): The chosen portrait is loaded and replay or deferred start begins from the first payload
  sample. -/
  | replayStart (p : Phys) (bad ring : Option (Nat × BitVec 42))
  /-- GALLERY_FETCH_DONE (R87): A gallery fetch in service completes and its portrait enters the hot cache. -/
  | galleryFetchDone (i : Nat) (bad : Option (Nat × BitVec 42))
  /-- GALLERY_FETCH_SERVICE (R87): A waiting fetch is taken into service when a place among the 16 frees. -/
  | galleryFetchService
  /-- PORTRAIT_PREFETCH (R87): At each SLOTTED slot start the lane requests the portrait predicted for the next slot. -/
  | portraitPrefetch (p : Phys) (slot : Nat)
  /-- PREDICTED_ANALOGUE_LOAD (R70): 64 symbols before a receive window opens the predicted portrait's gain code
  and deskew are loaded. -/
  | predictedAnalogueLoad (p : Phys) (slot : Nat)
  /-- RX_WINDOW_OPEN (R75): A SLOTTED receive window opens at the expected first-peak symbol less the tolerance. -/
  | rxWindowOpen (p : Phys) (slot : Nat)
  /-- RX_WINDOW_CLOSE (R75): A SLOTTED receive window closes at the expected first-peak symbol plus the tolerance. -/
  | rxWindowClose (p : Phys)
  /-- PAYLOAD_END (R74): The last payload symbol computed from CW_COUNT is recorded and the lane expects the
  postamble. -/
  | payloadEnd (p : Phys) (sym : Sym)
  /-- POSTAMBLE_CHECK (R68): The postamble is found or missed and acquisition is re-armed while decoding continues. -/
  | postambleCheck (p : Phys)
  /-- BURST_OUTCOME (R89): The last codeword of a burst decodes and its outcome is decided, committed and reported. -/
  | burstOutcome (p : Phys) (snr eyeMin : BitVec 16) (bad : Option (Nat × BitVec 42))
  /-- PORTRAIT_WRITEBACK (R89): The committed portrait is written into the gallery within 24 CK_DSP cycles and its
  hot-cache entry unlocks. -/
  | portraitWriteback (p : Phys)
  /-- EVENT_HOLDOFF_EXPIRY (R93): An event hold-off ends and a coalesced event is raised if occurrences were counted. -/
  | eventHoldoffExpiry (e : Ev) (source : BitVec 16)
  /-- PORTRAIT_SET_QUOTA (R85): Command that sets a working lane's gallery quota, evicting unprotected portraits
  if reduced. -/
  | portraitSetQuota (k : Sess)
  /-- PORTRAIT_SET_BASE (R393): Command that writes a working lane's base portrait. -/
  | portraitSetBase (k : Sess)
  /-- PORTRAIT_READ (R88): Command that returns a portrait's gallery copy or the base portrait. -/
  | portraitRead (k : Sess)
  /-- PORTRAIT_WRITE (R393): Command that writes or creates a portrait for a station. -/
  | portraitWrite (k : Sess)
  /-- PORTRAIT_EVICT (R393): Command that removes a portrait with reason COMMAND. -/
  | portraitEvict (k : Sess)
  /-- PORTRAIT_PROTECT (R393): Command that sets or clears a portrait's PROTECTED flag. -/
  | portraitProtect (k : Sess)
  /-- PORTRAIT_LIST (R393): Command that lists a working lane's portraits in gallery-index order. -/
  | portraitList (k : Sess) (bad : Option (Nat × BitVec 42))
  /-- INNER_CW_DECODED (R104): An inner codeword is decoded in CHASE or HARD mode and passed on, flagged if
  undecodable. -/
  | innerCwDecoded (p : Phys) (hard : BitVec 128) (rel : List Nat)
  /-- OUTER_CW_DECODED (R102): An outer RS codeword leaves the decoders corrected or marked uncorrectable, in
  codeword order. -/
  | outerCwDecoded (p : Phys)
  /-- ALIGNMENT_MARKER (R112): A STEADY alignment marker is received, judged valid and accepted, and drives marker
  lock. -/
  | alignmentMarker (p : Phys) (sync : BitVec 64) (code : BitVec 128) (sym : Sym)
  /-- MARKER_MISSING (R112): No valid marker at the expected position counts a miss, and a third consecutive miss
  loses lock. -/
  | markerMissing (p : Phys)
  /-- DELINEATION_HEADER (R115): The delineator reaches a frame header position and moves among HUNT, PRESYNC and
  SYNC. -/
  | delineationHeader (p : Phys)
  /-- FRAME_CHECK (R116): A frame with a valid header is sorted into an outcome after outer decoding and passed to
  delivery. -/
  | frameCheck (p : Phys) (bad : Option (Nat × BitVec 42))
  /-- SKETCH_CANDIDATE (R117): A DATA frame passing the pre-outer-decoding checks is released as a sketch
  candidate and sketched if eligible. -/
  | sketchCandidate (p : Phys) (pos : Nat)
  /-- SKETCH_RESOLVED (R117): Outer decoding of a candidate's codewords ends in confirmation or contradiction,
  giving varnish or scrape. -/
  | sketchResolved (p : Phys)
  /-- MARGIN_WINDOW_END (R119): A margin window completes, giving MARGIN and MARGIN_HARD and any margin events or
  failing declaration. -/
  | marginWindowEnd (w : Work)
  /-- TX_SETTING_APPLY (R128): A SWING or skew change takes effect at the next CK_DSP cycle, or at zero scale in
  burst modes. -/
  | txSettingApply (p : Phys)
  /-- PREDISTORT_APPLY (R129): A staged predistortion table is applied to all entries on its application symbol. -/
  | predistortApply (p : Phys) (sym : Sym)
  /-- TX_FADE_START (R130): A transmit palette fade starts on the next CK_DSP edge after the swap is accepted. -/
  | txFadeStart (p : Phys)
  /-- TX_FADE_MIDPOINT (R130): Alpha first exceeds one half and P_T changes to the new transmit palette. -/
  | txFadeMidpoint (p : Phys)
  /-- TX_FADE_END (R130): A transmit fade ends, the new palette is active and any held swap starts. -/
  | txFadeEnd (p : Phys)
  /-- TX_DRIVER_FAULT (R131): Driver over-current, compliance or low VDD_HS forces the transmitter to zero scale. -/
  | txDriverFault (p : Phys) (kind : Nat) (present : Bool)
  /-- TX_FAULT_DECLARATION (R182): Within 16 cycles of a driver-fault zero scale the lane is declared failing with
  reason TX_FAULT. -/
  | txFaultDeclaration (p : Phys)
  /-- TRANSPARENT_START (R133): The TRANSPARENT elastic buffer reaches 512 bytes and host bits are sent continuously. -/
  | transparentStart (p : Phys)
  /-- TRANSPARENT_UNDERRUN (R133): The TRANSPARENT buffer empties, underrun fill starts and EV_TX_UNDERRUN is raised. -/
  | transparentUnderrun (p : Phys)
  /-- SUPERFRAME_BOUNDARY (R134): A run ends and the frame packer places an alignment marker. -/
  | superframeBoundary (p : Phys) (bad : Option (Nat × Nat × BitVec 42))
  /-- BURST_FREEZE (R138): At a slot's freeze point the packer fixes a burst's frames, CW_COUNT and preamble. -/
  | burstFreeze (p : Phys) (slot : Nat) (entry : BitVec 42) (bad : Option (Nat × Nat × BitVec 42))
  /-- BURST_SEND_START (R147): At the expected preamble start or guard end a frozen burst starts, applying staged
  predistortion. -/
  | burstSendStart (p : Phys)
  /-- BURST_SEND_END (R147): The last postamble symbol is sent, the transmitter goes to zero scale and the guard
  starts. -/
  | burstSendEnd (p : Phys)
  /-- FABSYNC_EDGE (R140): A sampled FABSYNC rising edge starts an epoch, swapping schedules or modes and cutting
  running bursts. -/
  | fabsyncEdge (offset : Int)
  /-- FABSYNC_MISS_DECISION (R141): No pulse by the prediction plus FS_TOL starts a flywheel epoch, and FLY_LIMIT
  such epochs declare FABSYNC lost. -/
  | fabsyncMissDecision
  /-- ARM_DEADLINE (R146): The deadline of an armed swap or pending mode change passes, after which it can no
  longer be replaced or cancelled. -/
  | armDeadline (w : Work) (change : Bool)
  /-- SCHED_SET_EPOCH (R140): Command that sets EPOCH_PERIOD, FS_TOL and FLY_LIMIT. -/
  | schedSetEpoch (k : Sess)
  /-- SCHED_LOAD (R393): Command that writes the header or a run of entries of the shadow schedule. -/
  | schedLoad (k : Sess)
  /-- SCHED_ARM (R146): Command that checks the shadow schedule and arms it for a target epoch. -/
  | schedArm (k : Sess)
  /-- SCHED_DISARM (R146): Command that disarms an armed shadow before its deadline. -/
  | schedDisarm (k : Sess)
  /-- SCHED_GET_STATUS (R393): Command that returns schedule state, epoch, target and n_max values. -/
  | schedGetStatus (k : Sess)
  /-- SCHED_READ (R393): Command that returns the header and entries of the active or shadow schedule. -/
  | schedRead (k : Sess)
  /-- OPEN_BURST_CHOICE (R149): When the guard has elapsed the OPEN lane chooses the next ready destination and a
  burst. -/
  | openBurstChoice (p : Phys) (bad : Option (Nat × Nat × BitVec 42))
  /-- OPEN_HOLD_EXPIRY (R149): A destination's oldest new frame has waited OPEN_HOLD, making the destination ready. -/
  | openHoldExpiry (w : Work) (dest : Nat)
  /-- BACKOFF_EXPIRY (R150): A destination's backoff ends and it may become ready again. -/
  | backoffExpiry (w : Work) (dest : Nat)
  /-- FRAME_ACCEPTED (R155): The last word of a frame's retention image is written, fixing its SEQ and issuing an
  acceptance token. -/
  | frameAccepted (w : Work) (bad : Option (Nat × BitVec 42))
  /-- RTO_EXPIRY (R169): A transmit context's RTO timer expires and the send pointer rewinds to the oldest
  retained frame. -/
  | rtoExpiry (w : Work) (p : Nat) (bad : Option (Nat × BitVec 42))
  /-- ACK_INTERVAL_EXPIRY (R166): ACK_INTERVAL passes without a frame carrying a due acknowledgement, making a
  standalone ACK due. -/
  | ackIntervalExpiry (w : Work) (p : Nat)
  /-- CTX_IDLE_EXPIRY (R163): A transmit context idle for CTX_IDLE or a receive context idle for twice that retires. -/
  | ctxIdleExpiry (w : Work) (p : Nat) (rx : Bool)
  /-- LOS_SPARE_DELAY_EXPIRY (R182): Loss of signal or marker loss lasting LOS_SPARE_DELAY declares the lane
  failing for RX_SIGNAL. -/
  | losSpareDelayExpiry (p : Phys)
  /-- FAILURE_MOVE_MAP (R183): Within 1 µs the failing lane's working lane is mapped onto the spare and
  retransmission begins. -/
  | failureMoveMap (w : Work)
  /-- MOVE_SETTLE_EXPIRY (R184): MOVE_SETTLE elapses, sending the next frame on T in SWITCH or completing BREAK. -/
  | moveSettleExpiry (w : Work)
  /-- MOVE_LIMIT_EXPIRY (R184): MOVE_LIMIT expires before BREAK ends, so the planned move ends as TIMEOUT. -/
  | moveLimitExpiry (w : Work)
  /-- MOVE_SWITCH_ZERO_SCALE (R185): In burst modes a pending move switches at the next zero-scale point between
  bursts. -/
  | moveSwitchZeroScale (w : Work)
  /-- DELIVERY_SET_RETENTION (R15): Command that sets a working lane's retention extents. -/
  | deliverySetRetention (k : Sess)
  /-- DELIVERY_SET_TIMERS (R154): Command that sets RTO, ACK_INTERVAL, MOVE_SETTLE, CTX_IDLE and MOVE_LIMIT. -/
  | deliverySetTimers (k : Sess)
  /-- DELIVERY_SET_QUOTA (R161): Command that sets transmit and receive context quotas. -/
  | deliverySetQuota (k : Sess)
  /-- DELIVERY_SET_SKETCH (R173): Command that turns sketch delivery on or off and sets SKETCH_WINDOW. -/
  | deliverySetSketch (k : Sess)
  /-- DELIVERY_SET_SPARE_POLICY (R154): Command that sets AUTO_FAIL, AUTO_AGEING, RESTORE and LOS_SPARE_DELAY. -/
  | deliverySetSparePolicy (k : Sess)
  /-- DELIVERY_RELEASE_PEER (R163): Command that releases frames held for a former STEADY peer. -/
  | deliveryReleasePeer (k : Sess)
  /-- DELIVERY_SPARE_MOVE (R184): Command that starts a planned move, or an immediate switch in non-guaranteed modes. -/
  | deliverySpareMove (k : Sess)
  /-- DELIVERY_REINTEGRATE (R187): Command that takes a FAILED lane through training, SPARE and an optional
  restore move. -/
  | deliveryReintegrate (k : Sess)
  /-- DELIVERY_GET_MAP (R394): Command that returns the working-to-physical lane map and FAILED marks. -/
  | deliveryGetMap (k : Sess)
  /-- DELIVERY_GET_STATUS (R192): Command that returns the delivery status record of a working lane. -/
  | deliveryGetStatus (k : Sess)
  /-- TX_BLOCK_START (R200): A Rinlink transmit block starts with a comma, deciding HOLD and advancing the data
  target. -/
  | txBlockStart (g : Group) (bad : Option (Nat × BitVec 42))
  /-- COMMA_RECEIVED (R197): A comma is received or missing at its expected position and the block is processed
  with its fields. -/
  | commaReceived (g : Group) (blocks : List (Option (BitVec 32) × List Bool))
  /-- SWATCH_RECEIVED (R214): A swatch is received and accepted, discarded or NAKed, and its sideband and
  acknowledgement used. -/
  | swatchReceived (g : Group)
  /-- REPLAY_TIMEOUT (R215): The oldest kept swatch reaches REPLAY_TO and the sender rewinds to it. -/
  | replayTimeout (g : Group)
  /-- REPAIR_REQ (R222): Control message asking the transmitter to move a logical lane or the clock to the spare
  lane. -/
  | repairReq (g : Group) (role : Nat)
  /-- IDLE_ENTER (R219): Control message announcing that the partner's transmitter will enter electrical idle. -/
  | idleEnter (g : Group)
  /-- RETRAIN_REQ (R216): Control message asking for a retrain with RESUME. -/
  | retrainReq (g : Group)
  /-- SPARE_OK (R225): Control message that makes a restored lane the group's spare. -/
  | spareOk (g : Group) (lane : HLane)
  /-- TRAIN_PHASE_LOCK (R216): HCKRX is present and all 17 lanes are phase-locked, advancing training to ALIGN. -/
  | trainPhaseLock (g : Group)
  /-- TRAIN_LIMIT_EXPIRY (R216): TRAIN_LIMIT expires, EV_HOST_TRAIN_FAIL is raised and training restarts at CLOCK. -/
  | trainLimitExpiry (g : Group)
  /-- WANDER_LIMIT (R195): The receive crossing uses up its 16 UI wander allowance and a repair retrain starts. -/
  | wanderLimit (g : Group)
  /-- HCKRX_STOP (R226): The forwarded clock stops, treated as electrical idle after IDLE_ENTER or as loss of the
  partner. -/
  | hckrxStop (g : Group)
  /-- TX_ELECTRICAL_IDLE_ENTRY (R219): Once its conditions hold the transmitter completes the block and enters
  electrical idle. -/
  | txElectricalIdleEntry (g : Group)
  /-- TX_WAKE (R220): A transmitter with something to send leaves electrical idle with a wake burst and a comma. -/
  | txWake (g : Group)
  /-- RX_WAKE_BURST (R220): A receiver in idle sees a wake burst and regains lock. -/
  | rxWakeBurst (g : Group)
  /-- RX_WAKE_COMMA_TIMEOUT (R220): No valid comma within 2 blocks after a wake burst starts a retrain with RESUME. -/
  | rxWakeCommaTimeout (g : Group)
  /-- HOST_LANE_FAIL (R221): A Rinlink lane is declared failing and REPAIR_REQ is sent if AUTO_REPAIR is on. -/
  | hostLaneFail (g : Group) (lane : Fin 18) (reason : Nat)
  /-- SPARE_SUBSTITUTION (R222): At the block start after a repair request the logical lane moves onto physical
  lane 16. -/
  | spareSubstitution (g : Group)
  /-- CLOCK_MOVE (R223): The forwarded clock moves to physical lane 16 and the link retrains with CLOCK_ON_SPARE. -/
  | clockMove (g : Group)
  /-- GROUP_IDLE_TIMER_EXPIRY (R318): GROUP_IDLE_TIMER runs out and the device sends IDLE_ENTER. -/
  | groupIdleTimerExpiry (g : Group)
  /-- HOST_TRAIN (R216): Command that starts or restarts training of a group's link. -/
  | hostTrain (k : Sess)
  /-- HOST_SET_LINK (R394): Command that sets a group's Rinlink parameters. -/
  | hostSetLink (k : Sess)
  /-- HOST_SET_TX (R456): Command that sets swing and de-emphasis of Rinlink transmit lanes, effective at the next
  comma. -/
  | hostSetTx (k : Sess)
  /-- HOST_REPAIR (R221): Command that declares a Rinlink lane failing or restores it as a candidate spare. -/
  | hostRepair (k : Sess)
  /-- HOST_SET_LOOPBACK (R227): Command that selects or releases a Rinlink loop-back mode. -/
  | hostSetLoopback (k : Sess)
  /-- HOST_GET_STATUS (R228): Command that returns the host group status record. -/
  | hostGetStatus (k : Sess)
  /-- HOST_RESET_GROUP (R309): Command that saves link state, resets the group logic, restores state and retrains. -/
  | hostResetGroup (k : Sess)
  /-- GROUP_RESET_DONE (R309): The group's link state is restored after HOST.RESET_GROUP and EV_DEV_RESET_DONE is
  raised. -/
  | groupResetDone (g : Group) (discarded : Nat × Nat)
  /-- HOST_SET_POWER (R318): Command that puts a group into OFF or back to ACTIVE. -/
  | hostSetPower (k : Sess)
  /-- BIAS_WRITE (R235): Command that sets a bias output's pending code. -/
  | biasWrite (k : Sess)
  /-- BIAS_SET_LIMITS (R234): Command that sets CODE_MIN and CODE_MAX of a bias output. -/
  | biasSetLimits (k : Sess)
  /-- BIAS_SET_RANGE (R237): Command that changes a bias output's range through zero scale. -/
  | biasSetRange (k : Sess)
  /-- BIAS_CLEAR_FAULT (R238): Command that clears a latched bias fault once its condition has cleared. -/
  | biasClearFault (k : Sess) (gone : Bool)
  /-- BIAS_SET_SAFE (R239): Command that sets a bias output's SAFE_CODE. -/
  | biasSetSafe (k : Sess)
  /-- BIAS_SET_AGG_LIMIT (R240): Command that lowers the aggregate bias current limit. -/
  | biasSetAggLimit (k : Sess)
  /-- BIAS_GET_STATUS (R241): Command that returns bias output status records. -/
  | biasGetStatus (k : Sess)
  /-- BIAS_SET_LOOP (R260): Command that sets a bias dither loop's parameters. -/
  | biasSetLoop (k : Sess)
  /-- BIAS_LOOP_CTRL (R262): Command that starts, holds, releases or stops a bias loop. -/
  | biasLoopCtrl (k : Sess)
  /-- BIAS_CODE_APPLY (R235): A pending code is applied once 1 µs has passed since the last application and no
  range change runs. -/
  | biasCodeApply (o : Bias)
  /-- DEGLITCH_STEP (R236): After a 150 ns deglitch hold the ball steps to the new code. -/
  | deglitchStep (o : Bias)
  /-- RANGE_CHANGE_DONE (R237): A range change completes at code 0 in the new range and EV_BIAS_RANGE_DONE is raised. -/
  | rangeChangeDone (o : Bias)
  /-- BIAS_FAULT (R238): Over-current or compliance on a bias output forces it to zero scale and latches the fault. -/
  | biasFault (o : Bias)
  /-- BIAS_SUPPLY_LOW (R238): VDD_BIAS below 3.3 V forces every bias output to zero scale with a latched fault. -/
  | biasSupplyLow (low : Bool)
  /-- SUPPLY_GATE (R451): VDD_AON or VDD_ANA below 90 % with VDD_BIAS present forces every bias output to range OFF. -/
  | supplyGate (on aonLost : Bool)
  /-- MON_SET_PAIR (R243): Command that joins or separates a pair of monitor units. -/
  | monSetPair (k : Sess)
  /-- MON_SET_SEQ (R244): Command that loads a unit's regular or injected sequence and its trigger sources. -/
  | monSetSeq (k : Sess)
  /-- MON_START (R245): Command that runs a SOFT regular sequence once. -/
  | monStart (k : Sess)
  /-- MON_STOP (R245): Command that ends the regular sequence after the conversion in progress. -/
  | monStop (k : Sess)
  /-- MON_INJECT (R246): Command that starts a unit's injected sequence as an urgent source. -/
  | monInject (k : Sess)
  /-- MON_READ_CHANNEL (R250): Command that performs one ad-hoc conversion and returns its code. -/
  | monReadChannel (k : Sess)
  /-- MON_READ_CHANNEL_TIMEOUT (R250): No free conversion period opens within 100 µs, so the ad-hoc read returns
  TIMEOUT. -/
  | monReadChannelTimeout (u : Mon) (k : Sess)
  /-- MON_SET_FRAME (R247): Command that sets a unit's loop frame length F. -/
  | monSetFrame (k : Sess)
  /-- MON_READ_RESULTS (R252): Command that returns a unit's result registers and clears NEW. -/
  | monReadResults (k : Sess)
  /-- MON_GET_STATUS (R252): Command that returns unit status and clears lost-trigger counts. -/
  | monGetStatus (k : Sess)
  /-- MON_SET_PIN (R253): Command that sets a TRIG pin's mode and output source. -/
  | monSetPin (k : Sess)
  /-- LOOP_SLOT_START (R248): A loop conversion starts exactly at its slot time. -/
  | loopSlotStart (u : Mon) (slot : Nat)
  /-- CONVERSION_DONE (R244): A conversion completes, writing its result, feeding the filter, and starting the
  next waiting conversion. -/
  | conversionDone (u : Mon) (nV : Nat)
  /-- TRIG_EDGE (R251): A recognised TRIG input edge starts a triggered sequence or becomes pending or lost. -/
  | trigEdge (pin : Pin) (rising : Bool)
  /-- TRIG_PULSE_END (R253): A TRIG output pulse reaches its programmed width and ends. -/
  | trigPulseEnd (pin : Pin)
  /-- FILTER_OUTPUT_RELEASE (R256): A filter channel is served in its round and releases a stamped output. -/
  | filterOutputRelease (c : Fch)
  /-- DC_FREEZE_EXPIRY (R257): An auto-freeze of the DC-blocking stage ends after FREEZE_TIME. -/
  | dcFreezeExpiry (c : Fch)
  /-- FILTER_SET_CHANNEL (R254): Command that configures a filter channel's mode, decimation, bank and DC block. -/
  | filterSetChannel (k : Sess)
  /-- FILTER_LOAD_COEFF (R255): Command that loads FIR coefficients into a loadable bank. -/
  | filterLoadCoeff (k : Sess)
  /-- FILTER_FREEZE_DC (R257): Command that turns a channel's DC-blocking freeze on or off. -/
  | filterFreezeDc (k : Sess)
  /-- FILTER_READ (R259): Command that returns a channel's latest output and clears OVERRUN. -/
  | filterRead (k : Sess)
  /-- DITHER_HALF_PERIOD (R261): A dither half-period boundary writes centre plus or minus A to the output. -/
  | ditherHalfPeriod (o : Bias)
  /-- LOOP_UPDATE (R261): After D loop samples the loop computes its error and moves the centre, judging lock and
  rail. -/
  | loopUpdate (o : Bias)
  /-- SENSOR_SAMPLE (R268): All temperature sensors are sampled, offsets learned and sensor states and used values
  updated. -/
  | sensorSample (readings : List (Option Int))
  /-- POWER_MEASUREMENT (R272): Every 1 ms P_dev is formed as the mean over the last 10 ms. -/
  | powerMeasurement (rails : List (Nat × Nat)) (vBias : Nat) (outs : List (Nat × Nat))
  /-- THROTTLE_TICK (R273): Every 10 ms the housekeeping engines take or withdraw steps and apply or give up
  ladder rungs. -/
  | throttleTick (errs : List LaneError)
  /-- TRIP_SAMPLE (R278): The hardware trip logic examines a sensor sample and sets its own sampling interval. -/
  | tripSample
  /-- TRIP_RECOVER_TIMER (R280): With AUTO recovery the hottest value has stayed low for 1 s and recovery starts. -/
  | tripRecoverTimer
  /-- TRIP_RECOVERY_POWER_UP (R280): 1 ms after bias outputs return, front ends power up and loops and credits
  resume. -/
  | tripRecoveryPowerUp
  /-- PLL_TRIM_STEP (R281): The root PLL oscillator trim moves one fine code per 100 µs toward its target. -/
  | pllTrimStep
  /-- CAL_RUN_START (R284): A queued calibration trigger starts a run when fewer than CAL_MAX_RUNS lanes run. -/
  | calRunStart
  /-- CAL_PERIOD_EXPIRY (R282): CAL_PERIOD has passed since a lane's last completed run, triggering a run. -/
  | calPeriodExpiry (p : Phys)
  /-- WEAR_MEASUREMENT (R285): Every hour the wear monitors are counted against CK_MGMT and wear computed. -/
  | wearMeasurement (counts : List (Nat × Nat)) (swings : List Nat)
  /-- MARGIN_PLAN (R288): A margin plan is computed every 24 h or on command, setting AVS target, rung ceilings
  and forecasts. -/
  | marginPlan (daily : Bool) (lanes : List LaneDay)
  /-- PLAN_WRITE_DONE (R287): The plan record is written to the flash ring and EV_AGE_PLAN is raised. -/
  | planWriteDone
  /-- CAL_RUN_LANE (R284): Command that starts or extends a calibration run of a lane. -/
  | calRunLane (k : Sess)
  /-- CAL_SET_TRIGGERS (R282): Command that sets ΔT_cal, CAL_MAX_RUNS and CAL_PERIOD. -/
  | calSetTriggers (k : Sess)
  /-- CAL_PIN_LANE (R283): Command that pins or unpins a lane for calibration. -/
  | calPinLane (k : Sess)
  /-- CAL_SET_FLOOR (R275): Command that sets a working lane's margin floor. -/
  | calSetFloor (k : Sess)
  /-- CAL_GET_STATUS (R284): Command that returns per-lane calibration state. -/
  | calGetStatus (k : Sess)
  /-- CAL_PLAN_NOW (R287): Command that starts a margin plan at once. -/
  | calPlanNow (k : Sess)
  /-- CAL_GET_AGEING (R290): Command that returns a plan record summary and lane entries. -/
  | calGetAgeing (k : Sess)
  /-- CAL_SET_ESTIMATOR (R396): Command that sets the estimator window size and loop gains. -/
  | calSetEstimator (k : Sess)
  /-- THERM_GET_STATUS (R270): Command that returns the thermal status header and sensor entries. -/
  | thermGetStatus (k : Sess)
  /-- THERM_SET_LIMITS (R271): Command that sets the power limit, throttle threshold, hysteresis and trip recovery. -/
  | thermSetLimits (k : Sess)
  /-- THERM_RESTORE_SENSOR (R268): Command that returns a FAILED sensor to HEALTHY if its last 16 samples agree. -/
  | thermRestoreSensor (k : Sess)
  /-- THERM_CLEAR_TRIP (R280): Command that starts trip recovery under COMMAND recovery. -/
  | thermClearTrip (k : Sess)
  /-- PORST_N_ASSERT (R306): PORST_N goes low, resetting everything including the always-on domain. -/
  | porstNAssert
  /-- PORST_N_RELEASE (R306): PORST_N rises, straps are sampled and start-up begins. -/
  | porstNRelease (straps : BitVec 4) (refclk fabclk : Bool)
  /-- ROOT_PLL_LOCK (R294): The root PLL locks, its domains start and DEVICE_TIME begins. -/
  | rootPllLock
  /-- TIMEBASE_LOCK (R294): The monitor timebase locks within 20 µs of a valid reference. -/
  | timebaseLock
  /-- PLL_LOCK_LOSS (R296): The root PLL loses lock with a valid reference, causing an internal power-on reset. -/
  | pllLockLoss
  /-- REF_LOSS (R295): The selected reference is lost and the root PLL enters holdover. -/
  | refLoss (fab : Bool)
  /-- REF_VALID (R295): A reference becomes valid after 10 ms and the PLL slews back to lock. -/
  | refValid (fab : Bool)
  /-- AON_FALLBACK_SWITCH (R299): At a tick boundary CK_AON switches to or from its fallback oscillator. -/
  | aonFallbackSwitch
  /-- AON_TICK (R300): An AON tick records DEVICE_TIME, carries it across a stop and advances residency counters. -/
  | aonTick
  /-- CROSSING_TIMEOUT (R303): A crossing transfer not complete within 256 cycles ends with a timeout. -/
  | crossingTimeout (domain : Nat) (k : Option Sess)
  /-- CTLRST_N_ASSERT (R307): CTLRST_N goes low, holding the management cores and bus interfaces in reset. -/
  | ctlrstNAssert
  /-- CTLRST_N_RELEASE (R307): CTLRST_N is released and the management cores restart with sessions closed. -/
  | ctlrstNRelease (discarded : Nat × Nat)
  /-- CTL_RESET_DONE (R307): The restarted firmware publishes a snapshot, queues EV_CTL_RESET_DONE and takes held
  doorbells. -/
  | ctlResetDone
  /-- WATCHDOG_EXPIRY (R310): A core's watchdog expires, the core is reset and covered, and may be retired. -/
  | watchdogExpiry (c : Core)
  /-- CORE_REJOIN (R310): A restarted core serves its watchdog within 10 ms and rejoins its pool or partner. -/
  | coreRejoin (c : Core) (discarded : Nat × Nat)
  /-- HBEAT_TOGGLE (R311): HBEAT toggles at its cycle count while its conditions hold. -/
  | hbeatToggle (served : Bool)
  /-- LANE_IDLE_TIMER_EXPIRY (R315): LANE_IDLE_TIMER runs out and the lane enters IDLE if its conditions hold. -/
  | laneIdleTimerExpiry (p : Phys) (near : Bool)
  /-- LANE_IDLE_EXIT (R315): A lane leaves IDLE before a freeze point, when a destination is ready or a move
  claims it. -/
  | laneIdleExit (p : Phys)
  /-- LANE_DOZE_TIMER_EXPIRY (R316): A silent schedule has been active for LANE_DOZE_TIMER and the lane enters DOZE. -/
  | laneDozeTimerExpiry (p : Phys)
  /-- LANE_DOZE_EXIT_DONE (R316): A lane's exit from DOZE completes within 2 µs. -/
  | laneDozeExitDone (p : Phys)
  /-- QUIET_TIMER_EXPIRY (R319): QUIET_TIMER runs out with every lane and group idle and the device enters QUIET. -/
  | quietTimerExpiry
  /-- POWER_SET_TIMERS (R314): Command that sets lane, group and device power timers and AVS settings. -/
  | powerSetTimers (k : Sess)
  /-- POWER_ENTER_DORMANT (R320): Command that starts entry into DORMANT, holding doorbells and saving the device
  slot. -/
  | powerEnterDormant (k : Sess)
  /-- DORMANT_COMMIT (R320): The device slot is written and the root PLL is ordered to stop. -/
  | dormantCommit
  /-- DORMANT_REACHED (R320): After the DORMANT_VCORE acknowledgement and settling, the timebase stops and the
  device is DORMANT. -/
  | dormantReached
  /-- POWER_GET_RESIDENCY (R325): Command that returns residency, entry and aborted-entry counters. -/
  | powerGetResidency (k : Sess)
  /-- WAKE_SOURCE (R321): An SMBus address match, relay activity or CTLRST_N edge ends DORMANT or abandons its entry. -/
  | wakeSource (src : Fin 4)
  /-- WAKE_COMPLETE (R321): The device slot is restored, cores run and EV_PWR_WAKE is raised. -/
  | wakeComplete (discarded : Nat × Nat)
  /-- AVS_ACK (R326): The regulator acknowledges an AVSBus request and settling starts. -/
  | avsAck (refused : Bool)
  /-- AVS_ACK_TIMEOUT (R326): No acknowledgement within 100 µs, so the request is repeated or reported as timed out. -/
  | avsAckTimeout
  /-- AVS_SETTLE_EXPIRY (R326): AVS_SETTLE has passed after an acknowledgement and EV_PWR_AVS_DONE is raised. -/
  | avsSettleExpiry
  /-- DEV_CTL_RESET (R307): Command that acts as a CTLRST_N pulse from its acceptance. -/
  | devCtlReset (k : Sess) (discarded : Nat × Nat)
  /-- DEV_RESET_CORE (R310): Command that acts as an immediate watchdog expiry of a core. -/
  | devResetCore (k : Sess)
  /-- DEV_SET_WATCHDOG (R310): Command that sets core watchdog timeouts. -/
  | devSetWatchdog (k : Sess)
  /-- DEV_PUBLISH_SNAPSHOT (R389): Command that publishes a new state snapshot. -/
  | devPublishSnapshot (k : Sess)
  /-- SNAPSHOT_PUBLISHED (R389): A snapshot publication completes, SNAPSHOT_SEQ advances and EV_CTL_SNAPSHOT is
  raised. -/
  | snapshotPublished
  /-- DEV_GET_CORES (R388): Command that returns the state of every core. -/
  | devGetCores (k : Sess)
  /-- REPAIR_WRITE (R334): In the next idle cycle the array writes back a corrected word. -/
  | repairWrite (a : Arr)
  /-- POISON_WRITE (R335): In the next idle cycle the array poisons an uncorrectable word and raises
  EV_MEM_UNCORRECTABLE. -/
  | poisonWrite (a : Arr)
  /-- SCRUB_READ (R339): In an idle cycle the scrubber reads one word and repairs, poisons or counts it, ending laps. -/
  | scrubRead (a : Arr) (flips : BitVec 42)
  /-- SCRUB_LAP_LIMIT (R340): A lap reaches LAP_LIMIT without ending, setting SLOW and raising EV_MEM_SCRUB_SLOW. -/
  | scrubLapLimit (a : Arr)
  /-- REMAP_COPY (R342): A qualifying address is copied to a spare word and redirected in two idle cycles. -/
  | remapCopy (a : Arr)
  /-- REMAP_RECORD (R343): A completed remap is recorded in the flash ageing region. -/
  | remapRecord (a : Arr)
  /-- MEM_GET_STATUS (R344): Command that returns array status records. -/
  | memGetStatus (k : Sess)
  /-- MEM_SET_SCRUB (R340): Command that sets scrubbing on or off and LAP_LIMIT per array class. -/
  | memSetScrub (k : Sess)
  /-- MEM_REMAP (R343): Command that remaps a named word address. -/
  | memRemap (k : Sess)
  /-- MEM_INJECT (R345): Command that inverts named stored bits of a word at its next write. -/
  | memInject (k : Sess)
  /-- SPI_WRITE (R348): Quad-SPI WRITE transaction writing one or more direct words. -/
  | spiWrite (op : Byte) (addr : BitVec 16) (data : Bytes)
  /-- SPI_READ (R348): Quad-SPI READ transaction returning direct words. -/
  | spiRead (addr : BitVec 16) (clocked : Nat)
  /-- SPI_WRITE_C (R349): Quad-SPI WRITE_C transaction writing 1–64 words after the CRC matches. -/
  | spiWriteC (addr : BitVec 16) (rest : Bytes)
  /-- SPI_READ_C (R349): Quad-SPI READ_C transaction returning N words and a CRC. -/
  | spiReadC (addr : BitVec 16) (count : Byte) (clocked : Nat)
  /-- SMBUS_BLOCK_WRITE (R353): SMBus Block Write that writes 1–8 words as a whole. -/
  | smbusBlockWrite (target : BitVec 7) (count : Byte) (addr : BitVec 16) (data : Bytes) (pec : Option Byte)
  /-- SMBUS_PROCESS_CALL (R352): SMBus Block Write–Block Read Process Call returning 1–8 words with PEC. -/
  | smbusProcessCall (target : BitVec 7) (count : Byte) (addr : BitVec 16) (words : Byte) (clocked : Nat)
  /-- SMBUS_TIMEOUT (R351): SMB_SCL low for more than 25 ms resets the interface and discards the transaction. -/
  | smbusTimeout
  /-- REGISTER_WRITE (R357): A write to a direct register without a row of its own takes effect on the next
  CK_MGMT cycle. -/
  | registerWrite (i : Iface) (addr : BitVec 16) (data : Word)
  /-- RC_FIELD_READ (R9): A read of a register with RC fields returns them and clears the bits read as 1. -/
  | rcFieldRead (i : Iface) (addr : BitVec 16)
  /-- IND_ADDR_WRITE (R361): A write to IND_ADDR discards the prefetch and starts a prefetch at the new address. -/
  | indAddrWrite (i : Iface) (high : Bool) (data : Word)
  /-- IND_PREFETCH_DONE (R361): The prefetched indirect word arrives and VALID is set. -/
  | indPrefetchDone (i : Iface) (result : Prefetch)
  /-- IND_DATA_READ (R361): A read of IND_DATA returns the prefetched word, clears target RC fields and prefetches
  the next. -/
  | indDataRead (i : Iface)
  /-- IND_DATA_WRITE (R362): A write to IND_DATA is posted to the write FIFO or dropped if full. -/
  | indDataWrite (i : Iface) (data : Word)
  /-- IND_WRITE_APPLY (R362): A posted indirect write is applied to its target in order. -/
  | indWriteApply (i : Iface)
  /-- SESSION_OPEN (R364): OPEN written to a FREE session opens it with the requested privilege and owner tag. -/
  | sessionOpen (i : Iface) (k : Sess) (priv : BitVec 2) (notify : Bool) (tag : BitVec 16)
  /-- SESSION_CLOSE (R364): CLOSE frees an IDLE session or sets CLOSE_PENDING on a BUSY one. -/
  | sessionClose (k : Sess)
  /-- DOORBELL_RING (R368): A doorbell ring checks the command area and starts command execution. -/
  | doorbellRing (i : Iface) (k : Sess) (seq : Byte)
  /-- EVQ_ACK (R374): A write to EVQ_ACK removes the head entry if it matches its QSEQ. -/
  | evqAck (qseq : Word)
  /-- SESSION_GET_CHALLENGE (R366): Command that returns a new 32-byte challenge. -/
  | sessionGetChallenge (k : Sess)
  /-- SESSION_AUTH (R366): Command that checks a staged owner token and raises the session to SECURE. -/
  | sessionAuth (k : Sess)
  /-- SESSION_STAGE (R387): Command that writes bytes into the session's staging buffer. -/
  | sessionStage (k : Sess)
  /-- EVENT_READ (R388): Command that returns entries from the head of the event queue. -/
  | eventRead (k : Sess)
  /-- EVENT_ACK (R374): Command that removes the head entry if its QSEQ matches. -/
  | eventAck (k : Sess)
  /-- PERF_LIST_SELECTORS (R398): Command that lists a core's counter selectors. -/
  | perfListSelectors (k : Sess)
  /-- PERF_SNAPSHOT (R378): Command that latches and returns core performance counters. -/
  | perfSnapshot (k : Sess)
  /-- PERF_CONFIGURE (R378): Command that sets counter selectors and modes and clears changed counters. -/
  | perfConfigure (k : Sess)
  /-- PERF_SET_SAMPLE (R379): Command that sets a counter's sampling reload period. -/
  | perfSetSample (k : Sess)
  /-- PERF_READ_SAMPLES (R398): Command that returns and removes samples from a core's sample ring. -/
  | perfReadSamples (k : Sess)
  /-- PERF_COUNTER_OVERFLOW (R379): A sampling counter overflows, reloads and records a sample in the ring. -/
  | perfCounterOverflow (c : Core) (i : Fin 6) (address : Word) (two : Bool)
  /-- BOOT_ROM_START (R401): The security core starts the boot ROM, verifies and runs the loader and releases the
  other cores. -/
  | bootRomStart
  /-- SIGNING_STATE_READY (R410): The identity key's signing state is rebuilt after boot. -/
  | signingStateReady
  /-- SEC_GET_STATE (R397): Command that returns life-cycle, locks, owner keys and remaining signatures. -/
  | secGetState (k : Sess)
  /-- SEC_ATTEST (R412): Command that signs a new attestation report or returns bytes of the held one. -/
  | secAttest (k : Sess) (bad : Nat) (switched : Bool)
  /-- SEC_SET_LIFECYCLE (R404): Command that makes a permitted life-cycle transition on a valid token. -/
  | secSetLifecycle (k : Sess) (ok : Bool)
  /-- SEC_SET_OWNER_KEY (R408): Command that installs or revokes an owner key slot. -/
  | secSetOwnerKey (k : Sess)
  /-- TEST_START (R414): Command that starts an analogue bank or memory-and-logic self-test. -/
  | testStart (k : Sess)
  /-- TEST_ABORT (R418): Command that ends a running self-test as INCOMPLETE. -/
  | testAbort (k : Sess)
  /-- TEST_GET_RESULT (R420): Command that returns a self-test result record. -/
  | testGetResult (k : Sess)
  /-- TEST_CHECK_DONE (R415): An analogue check completes and the next requested check starts. -/
  | testCheckDone (x : CheckFound)
  /-- TEST_COMPLETE (R419): A self-test completes, its outcome is decided, the lanes are restored and EV_TEST_DONE
  is raised. -/
  | testComplete
  /-- IMAGE_BEGIN (R428): Command that starts a host image download of a given length. -/
  | imageBegin (k : Sess)
  /-- IMAGE_WRITE (R428): Command that delivers the next piece of a downloaded image. -/
  | imageWrite (k : Sess)
  /-- IMAGE_GET_STATUS (R397): Command that returns the update stage and transfer progress. -/
  | imageGetStatus (k : Sess)
  /-- IMAGE_ACTIVATE (R436): Command that swaps the cores to the verified image in order. -/
  | imageActivate (k : Sess)
  /-- IMAGE_CONFIRM (R439): Command that confirms the running image and raises the anti-rollback counter. -/
  | imageConfirm (k : Sess)
  /-- IMAGE_ABORT (R431): Command that abandons a download or returns a verified image to IDLE. -/
  | imageAbort (k : Sess)
  /-- IMAGE_SET_RELAY (R435): Command that sets which relay ports accept and forward images. -/
  | imageSetRelay (k : Sess)
  /-- HEADER_VERDICT (R427): The image header checks complete, rejecting the image or starting the slot write and
  forwarding. -/
  | headerVerdict
  /-- SECTOR_WRITE_DONE (R429): A body sector is erased, programmed and read back, and progress is reported. -/
  | sectorWriteDone (ok : Bool)
  /-- BODY_VERIFY_DONE (R429): The stored body hash is recomputed and the stage becomes VERIFIED or INVALID. -/
  | bodyVerifyDone (ok : Bool)
  /-- CORE_SWAP_DONE (R436): An activation step's cores have swapped and the next step starts, completing
  activation after the last. -/
  | coreSwapDone
  /-- HOST_SOURCE_TIMEOUT (R427): The host image source stops for 60 s and the download ends as SOURCE_LOST. -/
  | hostSourceTimeout
  /-- HELLO (R434): Relay frame opening a transfer, answered by HELLO. -/
  | hello (q : Port) (payload : Bytes) (crc : BitVec 32)
  /-- OFFER (R435): Relay frame announcing an image, accepted or refused by stage and port. -/
  | offer (q : Port) (payload : Bytes) (crc : BitVec 32)
  /-- DATA (R434): Relay frame carrying image bytes at an offset within the window. -/
  | data (q : Port) (payload : Bytes) (crc : BitVec 32)
  /-- ACK (R435): Relay frame acknowledging all bytes below NEXT and granting a window. -/
  | ack (q : Port) (payload : Bytes) (crc : BitVec 32)
  /-- NAK (R435): Relay frame refusing a transfer with a reason. -/
  | nak (q : Port) (payload : Bytes) (crc : BitVec 32)
  /-- REFILL_REQ (R441): Relay frame asking the neighbour to send its slot image or loader. -/
  | refillReq (q : Port) (payload : Bytes) (crc : BitVec 32)
  /-- ABORT (R433): Relay frame by which the sender abandons a transfer. -/
  | abort (q : Port) (payload : Bytes) (crc : BitVec 32)
  /-- HELLO_REPEAT (R434): Each millisecond without a returned HELLO the sender repeats it, giving up after 500 ms. -/
  | helloRepeat (q : Port)
  /-- RELAY_RESEND_TIMEOUT (R434): NEXT has not advanced for 10 ms and the sender resends from NEXT. -/
  | relayResendTimeout (q : Port)
  /-- RELAY_SOURCE_TIMEOUT (R434): 2 s without an advance ends the relay transfer as failed or SOURCE_LOST. -/
  | relaySourceTimeout (q : Port) (sender : Bool)
  /-- RELAY_PORT_DOWN (R432): A relay port has no valid symbol for 1 ms and goes down, ending any transfer on it. -/
  | relayPortDown (q : Port)
  /-- RELAY_PORT_UP (R432): A relay receiver gains symbol lock and the port is up. -/
  | relayPortUp (q : Port)
  /-- REFILL_RETRY (R440): In REFILL with no image supplied, both ports are retried every 10 s. -/
  | refillRetry
  /-- LOADER_REFILL_RETRY (R441): A boot ROM that cannot verify the loader sends REFILL_REQ for it once per second. -/
  | loaderRefillRetry
  /-- ADAPTATION_UPDATE (R44): Each CK_DSP cycle the decision-directed LMS update computed from that cycle's
  symbols is applied to the active palette's coefficients, unless adaptation is frozen. -/
  | adaptationUpdate (p : Phys) (raw : Bytes)
  /-- LANE_OFF_EXIT_DONE (R317): A lane leaving DARK completes the restore of its save slot and the power-up of
  its datapath within 20 µs and raises EV_PWR_LANE_STATE. -/
  | laneOffExitDone (p : Phys)
  /-- SAVE_SLOT_WRITTEN (R323): The last word of a lane or group save slot is written, its valid flag is set and
  the unit is power-gated, completing its entry into OFF. -/
  | saveSlotWritten (scope idx : Nat)
  /-- CLOCK_STRETCH_LIMIT (R321): An SMBus wake from DORMANT has held SMB_SCL low for 1 ms, so the device releases
  SMB_SCL, does not acknowledge the data bytes and sets STRETCH_EXPIRED. -/
  | clockStretchLimit
deriving DecidableEq, Repr

end Sys2Proof
end

