-- ==== Sys2Proof/Decode.lean ====
section
/-!
DEFINITION. Decoding: no row of the opcode table gives a command any bits, so no word spells one.
-/
namespace Sys2Proof

/-- The command that a word spells by the opcode table's bits: the table gives none. -/
def decodeTableWord (_nbits _w : Nat) : Option Instr := none

end Sys2Proof
end

