-- ==== Sys2Proof/Config.lean ====
section
/-!
DEFINITION. Free values: what the spec leaves open, as constants without a body. Each is named in the assumption log.
-/
namespace Sys2Proof

/-- An output of the two 11-tap half-band stages (R254), in output units, from R and the 31 CIC outputs under their taps, latest
first. The taps are not given. -/
opaque Config.halfBand (r : Nat) (hist : List Int) : Int

/-- Coefficient j of the fixed FIR bank 0 or 1 (R255), in units of 2^-17, of which the spec gives the kind of filter alone. -/
opaque Config.firCoeff (bank j : Nat) : Int

/-- The n-th draw from the entropy source, `len` bytes (R217 nonce, R366 challenge, R150 backoff seed). -/
opaque Config.entropy (n len : Nat) : List (BitVec 8)

/-- A quotient of R38 whose divisor is zero (every sample of the window equal): slice and field number. -/
opaque Config.flatWindow (slice field : Nat) : Int

/-- The least-mean-squares update of one CK_DSP cycle (R44): the spec gives the step 2^-k, the signals and the references it works
on, not the arithmetic. From the step exponent, the coefficients in force, the reference of each symbol of the cycle (its
decision, or the known value of a pilot), the symbols equalised last and the corrected samples, latest first. -/
opaque Config.lms (k : Nat) (c : Machine.Coeffs) (refs : List (BitVec 48 × Int)) (recent : List Machine.EqSym)
  (samples : List Int) : Machine.Coeffs

/-- The decision-based timing error of the symbols of one CK_DSP cycle, and the phase error of one pilot of known value (R45): the
spec names the two detectors and gives neither function. -/
opaque Config.timingErr (cycle : List Machine.EqSym) (samples : List Int) : Int
opaque Config.pilotErr (x : Machine.EqSym) (pilot : Int) : Int

/-- The proportional and integral gain of the second-order loop for a bandwidth in 0.5 MHz, a damping in 1/16 and a rate code
(R45): per unit of error, in 10^-9 of 1/1024 UI and in 0.001 ppm. -/
opaque Config.loopGains (bandwidth damping rate : Nat) : Int × Int

/-- Where a lane that starts its timing loop takes the first symbol of a run to be, until a marker tells it (R108, R112): how the
receiver finds the pilot grid before marker lock is not given. From the lane and its symbol counter. -/
opaque Config.runGuess (lane : Nat) (now : BitVec 48) : BitVec 48

/-- The acquisition equaliser's taps that training in TUNE leaves (R79), from the lane and the time. -/
opaque Config.acqTaps (lane : Nat) (now : BitVec 64) : Vector Int 8

/-- One step of a lane's 32-bit backoff generator (R150), whose recurrence the spec does not give. -/
opaque Config.prngStep (x : BitVec 32) : BitVec 32

/-- MARGIN in 1/256 dB of a window with more corrections than half its bits, where the logarithm of R119 has no value: from
the corrections and the window exponent. -/
opaque Config.marginOver (corrections exp : Nat) : Int

/-- Whether a field of a save slot lies in a word of it, where Table 10-12 gives a part's fields and not their packing: kind of slot,
field, word. -/
opaque Config.inSlotWord (kind field word : Nat) : Bool

/-- The number that names the crossing of a reset domain in crossing events (R303, R304, R376), from the domain's scope and
index as EV_DEV_RESET_DONE codes them. -/
opaque Config.crossing (domain : Nat) : Nat

/-- SHAKE256 (R401, R415): `len` bytes of output. The function is named by reference, so its value stays open here. -/
opaque Config.shake256 (len : Nat) (input : List (BitVec 8)) : List (BitVec 8)

/-- The signature of a self-test check with every measurement in limit (R415): how the in-limit bits fold into 64 bits is not
given. From the check's bit and the number of units. -/
opaque Config.testSig (check units : Nat) : BitVec 64

/-- The penalty of a rung on a lane whose mean-square error is 0, where the logarithm of Table 9-6 has no value (log 109). -/
opaque Config.flatPenalty (contribution : Nat) : Int

/-- The code of a compensation trim for a mean used temperature in 1/8 °C (R281), and the range of the circuit's codes:
circuits 0 root PLL, 1 fallback oscillator, 2 internal reference, 3 line DAC, 4 Rinlink driver. -/
opaque Config.trimCode (circuit : Nat) (mean : Int) : Int
opaque Config.trimRange (circuit : Nat) : Int × Int

/-- Whether PERF.LIST_SELECTORS lists selector 16–31 for a core (Table 12-16), and the ASCII name it gives any selector. -/
opaque Config.selectorListed (core sel : Nat) : Bool
opaque Config.selectorName (core sel : Nat) : List (BitVec 8)

/-- Where the owner of an SRAM array places an item, where the spec gives no layout (R330, Table 11-1): the array's index and the item,
reduced to the array's words. -/
opaque Config.place (array : Nat) (item : List Nat) : Nat

/-- Whether a core's counted condition holds in a cycle (Table 12-16): core, selector and the CK_MGMT cycle. -/
opaque Config.condition (core sel : Nat) (cycle : BitVec 64) : Bool

/-- KMAC256 (R408): the tag of a message under a 256-bit key. -/
opaque Config.kmac (key : BitVec 256) (msg : List (BitVec 8)) : List (BitVec 8)

/-- XMSS (R401, R406, R409): verification, the height of a parameter set by its OID (10, 16 or 20 where it is one the device
supports), and the public key and signature an identity seed gives. -/
opaque Config.xmssOk (pub msg sig : List (BitVec 8)) : Bool
opaque Config.xmssHeight (oid : Nat) : Option Nat
opaque Config.xmssPub (seed : List (BitVec 8)) : List (BitVec 8)
opaque Config.xmssSign (seed : List (BitVec 8)) (index : Nat) (msg : List (BitVec 8)) : List (BitVec 8)

/-- The vendor image keys VK0–VK3 and the vendor service key VS in the boot ROM (R400). -/
opaque Config.vendorKey (n : Nat) : List (BitVec 8)
opaque Config.serviceKey : List (BitVec 8)

/-- The boot ROM's verification of the loader sector (R401 step 2), whose layout is not given. -/
opaque Config.loaderOk (sector : List (Nat × BitVec 8)) : Bool

end Sys2Proof
end

