-- ==== Sys2Proof/Machine/Table.lean ====
section
/-!
DEFINITION. Helpers over plain data: vector update, sparse tables, canonical byte memory, little-endian fields (R7) and
bit fields (R6).
-/
namespace Sys2Proof.Machine

/-- Change entry i of a vector. -/
def vupd {α : Type} {n : Nat} (v : Vector α n) (i : Fin n) (f : α → α) : Vector α n := v.set i.val (f v[i.val]) i.isLt

/-- The entry of key k, if the table has one. -/
def tabGet {α : Type} (t : Tab α) (k : Nat) : Option α :=
  match t with
  | [] => none
  | (j, x) :: r => if j = k then some x else tabGet r k

/-- Set the entry of key k, keeping the keys rising. -/
def tabSet {α : Type} (t : Tab α) (k : Nat) (a : α) : Tab α :=
  match t with
  | [] => [(k, a)]
  | (j, x) :: r => if k < j then (k, a) :: (j, x) :: r else if k = j then (k, a) :: r else (j, x) :: tabSet r k a

/-- Remove the entry of key k. -/
def tabDel {α : Type} (t : Tab α) (k : Nat) : Tab α :=
  match t with
  | [] => []
  | (j, x) :: r => if j = k then r else (j, x) :: tabDel r k

/-- Change the entry of key k, taking `d` where there is none. -/
def tabUpd {α : Type} (t : Tab α) (k : Nat) (d : α) (f : α → α) : Tab α := tabSet t k (f ((tabGet t k).getD d))

/-- The byte at an address; an unlisted address reads as `d`. -/
def memRead (d : Byte) (m : Mem) (a : Nat) : Byte := (tabGet m a).getD d

/-- Write a byte, keeping the canonical form: a byte equal to `d` is not listed. -/
def memWrite (d : Byte) (m : Mem) (a : Nat) (b : Byte) : Mem := if b = d then tabDel m a else tabSet m a b

/-- Write bytes from an address on. -/
def memWrites (d : Byte) (m : Mem) (a : Nat) (bs : Bytes) : Mem :=
  match bs with
  | [] => m
  | b :: r => memWrites d (memWrite d m a b) (a + 1) r

/-- Read n bytes from an address on. -/
def memReads (d : Byte) (m : Mem) (a n : Nat) : Bytes := (List.range n).map (fun i => memRead d m (a + i))

/-- Keys strictly rise, from `lo` on. -/
def tabRising {α : Type} (lo : Nat) (t : Tab α) : Bool :=
  match t with
  | [] => true
  | (j, _) :: r => decide (lo ≤ j) && tabRising (j + 1) r

/-- Canonical form of a sparse memory whose unlisted bytes read as `d`. -/
def memWf (d : Byte) (m : Mem) : Bool := tabRising 0 m && m.all (fun c => decide (c.2 ≠ d))

/-- Canonical form of a memory whose unlisted bytes read as 0: mailbox areas, staging areas and flipbook memories. -/
abbrev Memory.wf (m : Mem) : Bool := memWf 0 m

/-- The n low bytes of v, lowest first (R7). -/
def leBytes (n v : Nat) : Bytes :=
  match n with
  | 0 => []
  | k + 1 => BitVec.ofNat 8 v :: leBytes k (v / 256)

/-- The n low bytes of v, highest first (Rinlink and the relay chain state their own order). -/
def beBytes (n v : Nat) : Bytes := (leBytes n v).reverse

/-- The number a little-endian byte string holds (R7). -/
def leNat : Bytes → Nat
  | [] => 0
  | b :: r => b.toNat + 256 * leNat r

/-- The number a big-endian byte string holds. -/
def beNat (bs : Bytes) : Nat := leNat bs.reverse

/-- Field of n bytes at an offset, little-endian; bytes past the end read as 0. -/
def fieldLE (bs : Bytes) (off n : Nat) : Nat := leNat ((bs.drop off).take n)

/-- Field of n bytes at an offset, big-endian. -/
def fieldBE (bs : Bytes) (off n : Nat) : Nat := beNat ((bs.drop off).take n)

/-- The byte at an offset, 0 past the end. -/
def byteAt (bs : Bytes) (off : Nat) : Nat := (bs.getD off 0).toNat

/-- Bits [hi:lo] of v (R6). -/
def bitsOf (v hi lo : Nat) : Nat := v / 2 ^ lo % 2 ^ (hi - lo + 1)

/-- Bit n of v. -/
def bitOf (v n : Nat) : Bool := v.testBit n

/-- Fields (width, value) joined with the first in the lowest bits. -/
def packBits : List (Nat × Nat) → Nat
  | [] => 0
  | (w, v) :: r => v % 2 ^ w + 2 ^ w * packBits r

/-- A 32-bit record word of fields, low bits first, as four bytes (R6, R7). -/
def recWord (fs : List (Nat × Nat)) : Bytes := leBytes 4 (packBits fs)

/-- Two's complement of width w. -/
def ofSigned (w : Nat) (i : Int) : Nat := (i % (2 ^ w : Nat)).toNat

/-- The signed value of a w-bit field. -/
def toSigned (w v : Nat) : Int := if 2 * (v % 2 ^ w) < 2 ^ w then (v % 2 ^ w : Nat) else (v % 2 ^ w : Nat) - (2 ^ w : Nat)

/-- A saturating count of w bits. -/
def satW (w n : Nat) : Nat := min n (2 ^ w - 1)

/-- Clamp to lo … hi. -/
def clampI (lo hi x : Int) : Int := max lo (min hi x)

/-- Quotient rounded to nearest, halves away from zero. -/
def roundDiv (n d : Int) : Int := if 0 ≤ n then (2 * n + d) / (2 * d) else -((2 * (-n) + d) / (2 * d))

/-- Pad with zero bytes, or cut, to n bytes. -/
def padTo (n : Nat) (bs : Bytes) : Bytes := (bs ++ List.replicate (n - bs.length) 0).take n

/-- n zero bytes. -/
def zeros (n : Nat) : Bytes := List.replicate n 0

/-- XOR of two byte strings, as long as the first. -/
def xorBytes (a b : Bytes) : Bytes := (a.zip (b ++ zeros a.length)).map (fun p => p.1 ^^^ p.2)

/-- Replace element i of a list. -/
def lset {α : Type} (l : List α) (i : Nat) (a : α) : List α := l.set i a

/-- Insert into a list kept in the order of a key. -/
def insertBy {α : Type} (key : α → Nat) (a : α) (l : List α) : List α :=
  match l with
  | [] => [a]
  | x :: r => if key a < key x then a :: x :: r else x :: insertBy key a r

/-- Stable insertion sort by a key. -/
def sortBy {α : Type} (key : α → Nat) (l : List α) : List α := l.foldl (fun acc a => insertBy key a acc) []

/-- The element of least key, the first on a tie. -/
def minBy {α : Type} (key : α → Int) (l : List α) : Option α :=
  l.foldl (fun acc a => match acc with
    | none => some a
    | some b => if key a < key b then some a else some b) none

end Sys2Proof.Machine
end

