-- ==== Sys2Proof/Machine/Codes.lean ====
section
/-!
DEFINITION. Checksums and word codes: CRC-8 (R59), CRC-32 (R98), and the SEC-DED code of SRAM words (R331, R332).
-/
namespace Sys2Proof.Machine

/-- One byte of CRC-8: polynomial 0x07, most significant bit first (R59). -/
def crc8Byte (crc : BitVec 8) (b : BitVec 8) : BitVec 8 :=
  (List.range 8).foldl (fun c _ => if c.msb then (c <<< 1) ^^^ 0x07#8 else c <<< 1) (crc ^^^ b)

/-- CRC-8 of a byte string from an initial value. -/
def crc8 (init : BitVec 8) (bs : Bytes) : BitVec 8 := bs.foldl crc8Byte init

/-- One byte of the reflected CRC-32 (R98). -/
def crc32Byte (crc : BitVec 32) (b : BitVec 8) : BitVec 32 :=
  (List.range 8).foldl (fun c _ => if c.getLsbD 0 then (c >>> 1) ^^^ 0xEDB88320#32 else c >>> 1)
    (crc ^^^ b.setWidth 32)

/-- CRC-32 of R98: the IEEE 802.3 frame check sequence. -/
def crc32 (bs : Bytes) : BitVec 32 := ~~~ (bs.foldl crc32Byte 0xFFFFFFFF#32)

/-- The CRC-32 as it is sent or stored: r[7:0] first. -/
def crc32Bytes (bs : Bytes) : Bytes := leBytes 4 (crc32 bs).toNat

/-! SEC-DED words. -/

/-- Hamming position of data bit i: the positions 3 to 38 that are not powers of two, ascending (R331). -/
def hamPos (i : Nat) : Nat :=
  if i = 0 then 3 else if i < 4 then i + 4 else if i < 11 then i + 5 else if i < 26 then i + 6 else i + 7

/-- The data bit at a Hamming position, if it is a data position. -/
def hamBit (p : Nat) : Option Nat := (List.range 32).find? fun i => hamPos i = p

/-- Check bits c[6:0] of data (R331). -/
def checkBits (d : BitVec 32) : BitVec 7 :=
  let s := (List.range 32).foldl (fun acc i => if d.getLsbD i then acc ^^^ BitVec.ofNat 6 (hamPos i) else acc) 0#6
  let parity := (List.range 32).foldl (fun p i => p ^^ d.getLsbD i) false
  let cpar := (List.range 6).foldl (fun p i => p ^^ s.getLsbD i) false
  (BitVec.ofBool (parity ^^ cpar)) ++ s

/-- A stored word: check bits over data, c[6:0] above d[31:0]. -/
def encWord (d : BitVec 32) : BitVec 39 := checkBits d ++ d

def wordData (w : BitVec 39) : BitVec 32 := w.extractLsb' 0 32
def wordCheck (w : BitVec 39) : BitVec 7 := w.extractLsb' 32 7

/-- Parity of a word. -/
def parityOf {w : Nat} (x : BitVec w) : Bool := (List.range w).foldl (fun p i => p ^^ x.getLsbD i) false

/-- Syndrome of a stored word (R332): s[5:0] recomputed XOR stored, and s[6] the recomputed c[6], taken over the stored data
and stored c[5:0], XOR the stored c[6], so that every single error sets it. -/
def syndrome (w : BitVec 39) : BitVec 7 :=
  BitVec.ofBool (parityOf w) ++ ((checkBits (wordData w) ^^^ wordCheck w).setWidth 6)

/-- Classes of Table 11-2. -/
inductive WordClass where
  | clean
  /-- Correctable, with the corrected data. -/
  | correctable (d : BitVec 32)
  | uncorrectable
  | poisoned
deriving DecidableEq, Repr

/-- Class of a stored word and the data it returns (Table 11-2). -/
def classify (w : BitVec 39) : WordClass :=
  let s := syndrome w
  let low := (s.setWidth 6).toNat
  if s.getLsbD 6 then
    if low = 0 ∨ low = 1 ∨ low = 2 ∨ low = 4 ∨ low = 8 ∨ low = 16 ∨ low = 32 then .correctable (wordData w)
    else match hamBit low with
      | some i => .correctable (wordData w ^^^ (1#32 <<< i))
      | none => .uncorrectable
  else if low = 0 then .clean
  else if low = 3 then .poisoned
  else .uncorrectable

/-- The word rewritten as poisoned: stored data, check bits XOR 0b000_0011 (R335). -/
def poisonWord (w : BitVec 39) : BitVec 39 := (checkBits (wordData w) ^^^ 3#7) ++ wordData w

end Sys2Proof.Machine
end

