-- ==== Sys2Proof/Machine/Operands.lean ====
section
/-!
DEFINITION. The mailbox commands' operand forms: code, privilege, argument length, ranges and reserved bytes of every
command (R380, R381, Tables 13-2, 13-5, 13-6, 13-8 to 13-12), as the checks of R368 step 5 use them.
-/
namespace Sys2Proof.Machine

/-- A condition on an argument field; `off` counts from the first argument byte. -/
inductive ArgRule where
  /-- n reserved bytes (R11). -/
  | zeros (off n : Nat)
  /-- An unsigned field of n bytes from lo to hi. -/
  | range (off n lo hi : Nat)
  /-- An unsigned field of n bytes from lo to hi, or one further value. -/
  | orElse (off n lo hi also : Nat)
  /-- A signed field of n bytes from lo to hi. -/
  | signed (off n : Nat) (lo hi : Int)
  /-- A signed field in the low `bits` bits of n bytes, from lo to hi. -/
  | signedIn (off n bits : Nat) (lo hi : Int)
deriving DecidableEq, Repr

/-- Offset of the first faulty byte of a field, in the arguments. -/
def ArgRule.fault (a : Bytes) : ArgRule → Option Nat
  | .zeros off n => ((List.range n).find? fun i => decide (byteAt a (off + i) ≠ 0)).map (off + ·)
  | .range off n lo hi => let v := fieldLE a off n; if lo ≤ v ∧ v ≤ hi then none else some off
  | .orElse off n lo hi also =>
    let v := fieldLE a off n; if (lo ≤ v ∧ v ≤ hi) ∨ v = also then none else some off
  | .signed off n lo hi => let v := toSigned (8 * n) (fieldLE a off n); if lo ≤ v ∧ v ≤ hi then none else some off
  | .signedIn off n bits lo hi => let v := toSigned bits (fieldLE a off n); if lo ≤ v ∧ v ≤ hi then none else some off

/-- Bytes that follow the fixed arguments. -/
inductive ArgData where
  | none
  /-- `unit` bytes for each count in the field of n bytes at off. -/
  | counted (off n unit : Nat)
  /-- SCHED.LOAD: 32 bytes for PART 0, four for each entry for PART 1 (R393). -/
  | schedule
deriving DecidableEq, Repr

def ArgData.length (a : Bytes) : ArgData → Nat
  | .none => 0
  | .counted off n unit => unit * fieldLE a off n
  | .schedule => if byteAt a 1 = 0 then 32 else 4 * fieldLE a 4 2

/-- A command's form. -/
structure CmdForm where
  code : Nat
  priv : Priv
  /-- Fixed argument bytes. -/
  len : Nat
  data : ArgData := .none
  rules : List ArgRule := []
  /-- Offset of the byte whose bit 0 is CLEAR, which needs CONFIGURE (R383). -/
  clear : Option Nat := none
  /-- Bit of SYS_LOCK that forbids the command (Table 12-5). -/
  lock : Option Nat := none
deriving DecidableEq, Repr

/-! Selectors (R381). -/

def phys (off : Nat := 0) : ArgRule := .range off 1 0 135
def physAny (off : Nat := 0) : ArgRule := .orElse off 1 0 135 255
def work : ArgRule := .range 0 1 0 127
def workAny : ArgRule := .orElse 0 1 0 127 255
def group : ArgRule := .range 0 1 0 31
def groupAny : ArgRule := .orElse 0 1 0 31 255
def output : ArgRule := .range 0 2 0 543
def monUnit : ArgRule := .range 0 1 0 7
def filterCh : ArgRule := .range 0 1 0 63
def core : ArgRule := .range 0 1 0 191
def coreAny : ArgRule := .orElse 0 1 0 191 255
/-- Three reserved bytes after a one-byte selector. -/
def rest3 : ArgRule := .zeros 1 3
def rest2 : ArgRule := .zeros 2 2
/-- A peer station, 0–16,382, at offset 2. -/
def station : ArgRule := .range 2 2 0 16382

/-- Reserved bytes of the channel fields of a portrait (Table 3-7, offsets from 0x024 on), which start at `off` in the
arguments: 0x06A, 0x06B and the top byte of every NLC_TERM. -/
def channelZeros (off : Nat) : List ArgRule := .zeros (off + 0x46) 2 :: (List.range 16).map fun t => .zeros (off + 0x4B + 4 * t) 1

/-- Reserved bytes of a portrait at offset 4 of the arguments (Table 3-7, R11). -/
def portraitZeros : List ArgRule := [.zeros 0x23 1, .zeros 0x27 1, .zeros 0xCA 2, .zeros 0xCC 0xB8] ++ channelZeros 0x28

/-- Reserved bytes of a schedule header at offset 8 of the arguments (Table 5-7, R11). -/
def headerZeros : List ArgRule := [.zeros 10 2, .zeros 15 1, .zeros 19 1, .zeros 22 2, .zeros 27 1, .zeros 31 1, .zeros 32 8]

/-- Table 13-2. -/
def formsDev : List CmdForm :=
  [{ code := 0x0101, priv := .maintain, len := 0 },
   { code := 0x0102, priv := .maintain, len := 4, rules := [core, rest3] },
   { code := 0x0103, priv := .maintain, len := 8, rules := [coreAny, rest3] },
   { code := 0x0104, priv := .observe, len := 0 },
   { code := 0x0105, priv := .observe, len := 0 },
   { code := 0x0201, priv := .observe, len := 0 },
   { code := 0x0202, priv := .observe, len := 4, rules := [.range 0 2 0 16384, rest2], lock := some 0 },
   { code := 0x0203, priv := .observe, len := 4, data := .counted 2 2 1, rules := [.range 2 2 1 1000] },
   { code := 0x1301, priv := .observe, len := 4, rules := [.range 0 1 1 31, rest3] },
   { code := 0x1302, priv := .observe, len := 4 }]

/-- Table 13-5, mode and receive rows. -/
def formsLane : List CmdForm :=
  [{ code := 0x0301, priv := .configure, len := 4, rules := [phys, .range 1 1 0 7, .range 2 2 0 10000] },
   { code := 0x0302, priv := .configure, len := 4, rules := [phys, .orElse 1 1 2 5 7, rest2] },
   { code := 0x0303, priv := .maintain, len := 4, rules := [phys, rest3] },
   { code := 0x0304, priv := .observe, len := 4, rules := [phys, rest3] },
   { code := 0x0305, priv := .configure, len := 4, rules := [work, .zeros 1 1, .range 2 2 0 16383] },
   { code := 0x0310, priv := .configure, len := 16, rules := [physAny, .range 1 1 0 15, .range 2 1 24 64, .range 3 1 2 32,
       .range 4 2 128 512, .signed 6 1 (-60) 60, .range 7 1 8 20, .range 9 1 0 2, .range 10 1 1 40, .range 11 1 8 32,
       .range 12 2 1 1000, .zeros 14 2] },
   { code := 0x0311, priv := .configure, len := 140, rules := [phys, .range 1 1 0 1, rest2] ++ channelZeros 4 },
   { code := 0x0312, priv := .observe, len := 4, rules := [phys, rest2], clear := some 1 },
   { code := 0x0313, priv := .configure, len := 8, rules := [phys, .zeros 1 1, .range 2 1 8 16, .zeros 3 1, .zeros 6 2] },
   { code := 0x0314, priv := .configure, len := 8, rules := [phys, .range 1 1 0 1, .range 2 1 0 5, .zeros 3 1, .range 4 2 0 4095,
       .zeros 6 2] },
   { code := 0x0315, priv := .observe, len := 8, rules := [phys, .zeros 1 1, .range 2 2 0 1023, .range 4 2 1 232, .zeros 6 2] },
   { code := 0x0320, priv := .configure, len := 16, rules := [workAny, .range 1 1 16 61, .range 2 1 16 61, .range 3 1 2 64,
       .range 4 1 0 12, .orElse 5 1 2 48 0, .range 6 2 0 2048, .range 8 1 8 20, .range 9 1 8 14, .range 10 1 1 15,
       .range 11 1 1 15, .range 12 2 0 1000, .zeros 14 2] },
   { code := 0x0321, priv := .observe, len := 4, rules := [work, .range 1 1 0 63, .range 2 1 1 31, .zeros 3 1] },
   { code := 0x0322, priv := .observe, len := 4, rules := [work, rest2], clear := some 1 }]

/-- Table 13-5, error correction and transmit rows. -/
def formsLaneTx : List CmdForm :=
  [{ code := 0x0328, priv := .configure, len := 4, rules := [workAny, .range 1 1 28 40, .range 2 1 0 1] },
   { code := 0x0329, priv := .observe, len := 4, rules := [work, rest2], clear := some 1 },
   { code := 0x0330, priv := .configure, len := 4, rules := [physAny, .range 1 1 0 15, .signed 2 1 (-60) 60, .range 3 1 0 1] },
   { code := 0x0331, priv := .configure, len := 34, rules := [phys, .range 1 1 0 1, .range 2 1 0 14, .zeros 3 1] ++
       (List.range 15).map fun i => .signedIn (4 + 2 * i) 2 11 (-512) 512 },
   { code := 0x0332, priv := .observe, len := 4, rules := [phys, rest2], clear := some 1 },
   { code := 0x0333, priv := .configure, len := 8, rules := [phys, .zeros 1 1, .range 2 1 8 16, .zeros 3 1, .zeros 6 2] },
   { code := 0x0334, priv := .configure, len := 132, rules := [phys, rest3] },
   { code := 0x0335, priv := .configure, len := 16, rules := [workAny, .range 1 1 1 255, .range 2 1 0 10, .range 3 1 1 12,
       .range 4 1 1 255, .zeros 5 1, .range 6 2 0 10000, .range 10 2 0 16383, .zeros 12 4] }]

/-- Table 13-6. -/
def formsSched : List CmdForm :=
  [{ code := 0x0401, priv := .configure, len := 8, rules := [.orElse 0 4 14520 (2 ^ 32 - 1) 0, .range 4 2 0 4096, .range 6 1 1 64,
       .zeros 7 1] },
   { code := 0x0402, priv := .configure, len := 8, data := .schedule, rules := [work, .range 1 1 0 1, .range 2 2 0 1023,
       .range 4 2 0 248, .zeros 6 2] },
   { code := 0x0403, priv := .configure, len := 8, rules := [work, .range 1 1 0 1, rest2] },
   { code := 0x0404, priv := .configure, len := 4, rules := [work, rest3] },
   { code := 0x0405, priv := .observe, len := 4, rules := [work, rest3] },
   { code := 0x0406, priv := .observe, len := 8, rules := [work, .range 1 1 0 1, .range 2 2 0 1023, .range 4 2 1 240, .zeros 6 2] },
   { code := 0x0501, priv := .configure, len := 4, rules := [work, .zeros 1 1, .range 2 2 0 16384] },
   { code := 0x0502, priv := .configure, len := 388, rules := [work, rest3] ++ portraitZeros },
   { code := 0x0503, priv := .observe, len := 4, rules := [work, .zeros 1 1, .range 2 2 0 16383] },
   { code := 0x0504, priv := .configure, len := 388, rules := [work, .zeros 1 1, station] ++ portraitZeros },
   { code := 0x0505, priv := .configure, len := 4, rules := [work, .zeros 1 1, station] },
   { code := 0x0506, priv := .configure, len := 4, rules := [work, .range 1 1 0 1, station] },
   { code := 0x0507, priv := .observe, len := 4, rules := [work, .zeros 1 1] }]

/-- Table 13-8. -/
def formsHost : List CmdForm :=
  [{ code := 0x0601, priv := .configure, len := 4, rules := [work, .range 1 1 0 32, rest2] },
   { code := 0x0602, priv := .configure, len := 20, rules := [workAny, rest3, .range 4 4 1 1000000, .range 8 2 1 1000,
       .range 10 2 0 10000, .range 12 4 10 60000, .range 16 4 10 100000] },
   { code := 0x0603, priv := .configure, len := 8, rules := [work, .zeros 1 1, .range 2 2 0 16384, .range 4 2 0 16384,
       .zeros 6 2] },
   { code := 0x0604, priv := .configure, len := 4, rules := [work, .range 1 1 0 1, .range 2 2 4 64] },
   { code := 0x0605, priv := .configure, len := 4, rules := [workAny, .range 2 2 0 1000] },
   { code := 0x0606, priv := .maintain, len := 4, rules := [work, .zeros 1 1, station] },
   { code := 0x0607, priv := .maintain, len := 4, rules := [work, rest2] },
   { code := 0x0608, priv := .maintain, len := 4, rules := [phys, rest3] },
   { code := 0x0609, priv := .observe, len := 0 },
   { code := 0x060A, priv := .observe, len := 4, rules := [work, rest2], clear := some 1 },
   { code := 0x0701, priv := .maintain, len := 4, rules := [group, rest3] },
   { code := 0x0702, priv := .configure, len := 12, rules := [groupAny, .range 1 1 1 64, .range 3 1 8 16, .range 4 2 50 10000,
       .range 6 2 10 1000, .range 8 4 10 10000] },
   { code := 0x0703, priv := .configure, len := 8, rules := [groupAny, .orElse 1 1 0 17 255, .range 2 1 0 15, .range 3 1 0 7,
       .range 4 1 0 15, .zeros 5 3] },
   { code := 0x0704, priv := .maintain, len := 4, rules := [group, .range 1 1 0 17, .range 2 1 0 1, .range 3 1 0 1] },
   { code := 0x0705, priv := .maintain, len := 4, rules := [group, .range 1 1 0 3, .range 2 1 0 1, .zeros 3 1] },
   { code := 0x0706, priv := .observe, len := 4, rules := [group, rest2], clear := some 1 },
   { code := 0x0707, priv := .maintain, len := 4, rules := [group, rest3] },
   { code := 0x0708, priv := .configure, len := 4, rules := [group, .orElse 1 1 0 0 2, rest2] }]

/-- Table 13-9. -/
def formsPhoton : List CmdForm :=
  [{ code := 0x0801, priv := .configure, len := 4, rules := [output] },
   { code := 0x0802, priv := .configure, len := 8, rules := [output, .zeros 6 2] },
   { code := 0x0803, priv := .configure, len := 4, rules := [output, .range 2 1 0 4, .zeros 3 1] },
   { code := 0x0804, priv := .configure, len := 4, rules := [output, rest2] },
   { code := 0x0805, priv := .configure, len := 4, rules := [.orElse 0 2 0 543 0xFFFF] },
   { code := 0x0806, priv := .configure, len := 4, rules := [.range 0 2 100 8000, rest2] },
   { code := 0x0807, priv := .observe, len := 4, rules := [output, .range 2 2 1 62] },
   { code := 0x0808, priv := .configure, len := 32, rules := [output, .range 2 2 0 2047, .range 6 1 0 3, .range 7 1 0 1,
       .range 8 1 0 63, .zeros 9 1, .range 10 2 16 4096, .range 12 2 1 2048, .range 14 2 0 2047, .range 22 2 1 4096,
       .range 24 4 1 (2 ^ 23 - 1), .range 28 1 1 255, .zeros 29 3] },
   { code := 0x0809, priv := .configure, len := 4, rules := [output, .range 2 1 0 3, .zeros 3 1] },
   { code := 0x0901, priv := .configure, len := 4, rules := [.range 0 1 0 3, .range 1 1 0 1, rest2] },
   { code := 0x0902, priv := .configure, len := 12, data := .counted 2 1 4, rules := [monUnit, .range 1 1 0 1, .range 2 1 1 32,
       .range 3 1 0 2, .orElse 4 1 0 7 255, .range 5 1 0 2, .range 6 1 0 3, .zeros 10 2] },
   { code := 0x0903, priv := .configure, len := 4, rules := [monUnit, rest3] },
   { code := 0x0904, priv := .configure, len := 4, rules := [monUnit, rest3] },
   { code := 0x0905, priv := .configure, len := 4, rules := [monUnit, rest3] },
   { code := 0x0906, priv := .observe, len := 4, rules := [monUnit, .range 1 1 0 3, .range 2 2 0 2047] },
   { code := 0x0907, priv := .configure, len := 4, rules := [monUnit, .zeros 1 1, .range 2 2 10 10000] },
   { code := 0x0908, priv := .observe, len := 4, rules := [monUnit, rest3] },
   { code := 0x0909, priv := .observe, len := 4, rules := [monUnit, rest3] },
   { code := 0x090A, priv := .configure, len := 8, rules := [.range 0 1 0 7, .range 1 1 0 2, .range 2 1 0 2, .zeros 3 1,
       .range 6 2 4 1000] },
   { code := 0x0A01, priv := .configure, len := 16, rules := [filterCh, .range 1 1 0 3, .range 2 1 4 12, .range 3 1 0 7,
       .orElse 4 1 4 16 0, .zeros 5 1, .orElse 6 2 0 543 0xFFFF, .range 8 2 1 65535, .range 10 2 1 10000, .zeros 12 4] },
   { code := 0x0A02, priv := .configure, len := 256, rules := [.range 0 1 2 7, rest3] },
   { code := 0x0A03, priv := .configure, len := 4, rules := [filterCh, .range 1 1 0 1, rest2] },
   { code := 0x0A04, priv := .observe, len := 4, rules := [filterCh, rest3] }]

/-- Table 13-10. -/
def formsCal : List CmdForm :=
  [{ code := 0x0B01, priv := .configure, len := 4, rules := [phys, .zeros 1 1, .range 2 2 0 1024] },
   { code := 0x0B02, priv := .configure, len := 8, rules := [.range 0 1 2 40, .range 1 1 1 136, .range 2 4 0 10080, .zeros 6 2] },
   { code := 0x0B03, priv := .configure, len := 4, rules := [physAny, .range 1 1 0 1, rest2] },
   { code := 0x0B04, priv := .configure, len := 4, rules := [workAny, .range 1 1 0 48, rest2] },
   { code := 0x0B05, priv := .observe, len := 4, rules := [phys, rest3] },
   { code := 0x0B06, priv := .configure, len := 0 },
   { code := 0x0B07, priv := .observe, len := 8, rules := [.range 4 1 0 135, .zeros 5 3] },
   { code := 0x0B08, priv := .configure, len := 8, rules := [physAny, .range 1 1 16 24, .zeros 6 2] },
   { code := 0x0C01, priv := .observe, len := 0 },
   { code := 0x0C02, priv := .configure, len := 8, rules := [.range 0 2 1200 2000, .range 4 1 8 80, .range 5 1 0 1, .range 6 1 5 30,
       .zeros 7 1] },
   { code := 0x0C03, priv := .maintain, len := 4, rules := [.range 0 1 0 71, rest3] },
   { code := 0x0C04, priv := .maintain, len := 0 },
   { code := 0x0D01, priv := .configure, len := 16, rules := [.range 0 1 0 2, rest2] },
   { code := 0x0D02, priv := .maintain, len := 0 },
   { code := 0x0D03, priv := .observe, len := 4, rules := [.range 0 1 0 2, rest2] },
   { code := 0x0E01, priv := .observe, len := 8, rules := [.zeros 5 3], clear := some 4 },
   { code := 0x0E02, priv := .configure, len := 8, rules := [.range 0 1 1 9, .range 1 1 0 1, rest2, .range 4 4 1 600000],
     lock := some 3 },
   { code := 0x0E03, priv := .maintain, len := 8, rules := [rest2] },
   { code := 0x0E04, priv := .maintain, len := 8, rules := [.range 2 1 0 38, .orElse 3 1 0 38 255], lock := some 2 }]

/-- Tables 13-11 and 13-12. -/
def formsSec : List CmdForm :=
  [{ code := 0x0F01, priv := .maintain, len := 8, rules := [.zeros 5 3] },
   { code := 0x0F02, priv := .maintain, len := 8, data := .counted 4 2 1, rules := [.range 4 2 4 992, .zeros 6 2] },
   { code := 0x0F03, priv := .observe, len := 0 },
   { code := 0x0F04, priv := .maintain, len := 0 },
   { code := 0x0F05, priv := .maintain, len := 0 },
   { code := 0x0F06, priv := .maintain, len := 0 },
   { code := 0x0F07, priv := .maintain, len := 4, rules := [rest3] },
   { code := 0x1001, priv := .observe, len := 0 },
   { code := 0x1002, priv := .observe, len := 36 },
   { code := 0x1003, priv := .secure, len := 4, rules := [.range 0 1 0 4, .zeros 1 1, .range 2 2 0 16384] },
   { code := 0x1004, priv := .secure, len := 4, rules := [.range 0 1 0 7, .zeros 1 1, .range 2 2 0 16384] },
   { code := 0x1101, priv := .maintain, len := 4, rules := [.range 0 1 0 1, .range 1 1 0 7, .range 2 1 0 1] },
   { code := 0x1102, priv := .maintain, len := 4, rules := [.orElse 0 1 0 7 255, rest3] },
   { code := 0x1103, priv := .observe, len := 4, rules := [.orElse 0 1 0 7 255, .range 1 1 0 7, rest2] },
   { code := 0x1201, priv := .observe, len := 4, rules := [core, rest3] },
   { code := 0x1202, priv := .observe, len := 4, rules := [core, .range 1 1 1 12, rest2] },
   { code := 0x1203, priv := .configure, len := 12, rules := [coreAny, .zeros 3 1, .zeros 10 2], lock := some 5 },
   { code := 0x1204, priv := .configure, len := 8, rules := [core, .range 1 1 0 5, rest2, .orElse 4 4 1024 (2 ^ 32 - 1) 0],
     lock := some 5 },
   { code := 0x1205, priv := .observe, len := 4, rules := [core, .range 1 1 1 62, rest2] }]

/-- Every command's form. -/
def cmdForms : List CmdForm :=
  formsDev ++ formsLane ++ formsLaneTx ++ formsSched ++ formsHost ++ formsPhoton ++ formsCal ++ formsSec

/-- The form of a command code; `none` for an unknown code. -/
def cmdForm (code : Nat) : Option CmdForm := cmdForms.find? fun f => decide (f.code = code)

/-! Conditions on more than one field. -/

/-- A power timer: 0, or from lo to hi in 0.1 µs (Table 10-9). -/
def timerBad (v lo hi : Nat) : Bool := decide (v ≠ 0 ∧ (v < lo ∨ hi < v))

/-- POWER.SET_TIMERS: the conditions of a scope (Tables 10-9, 13-10). -/
def powerTimersFault (a : Bytes) : Option Nat :=
  let t1 := fieldLE a 4 4
  let t2 := fieldLE a 8 4
  match byteAt a 0 with
  | 0 =>
    if 135 < byteAt a 1 ∧ byteAt a 1 ≠ 255 then some 1 else if timerBad t1 1 100000 then some 4
    else if timerBad t2 100 100000000 then some 8 else none
  | 1 =>
    if 31 < byteAt a 1 ∧ byteAt a 1 ≠ 255 then some 1 else if timerBad t1 1 100000 then some 4
    else if t2 ≠ 0 then some 8 else none
  | _ =>
    let v := fieldLE a 12 2
    if timerBad t1 100 100000000 then some 4 else if t2 ≠ 0 then some 8
    else if v < 650 ∨ 750 < v ∨ v % 5 ≠ 0 then some 12 else if 1000 < fieldLE a 14 2 then some 14 else none

/-- Sample counts of a loop: D a power of two and a multiple of 2H (Table 8-8). -/
def loopCountsFault (a : Bytes) : Option Nat :=
  let d := fieldLE a 10 2
  let h := fieldLE a 12 2
  if ¬ (List.range 13).any (fun i => decide (2 ^ i = d)) then some 10 else if d % (2 * h) ≠ 0 then some 10 else none

/-- Selectors a core has a counter condition for (Table 12-16, R398); 16–31 depend on the kind of core. -/
def selectorListed (c sel : Nat) : Bool :=
  decide (sel ≤ 6) || (decide (sel = 7) && decide (186 ≤ c ∧ c < 190)) ||
    (decide (16 ≤ sel ∧ sel ≤ 31) && Config.selectorListed c sel)

/-- Cores a CORE byte names. -/
def coresOf (v : Nat) : List Nat := if v < 192 then [v] else List.range 192

/-- PERF.CONFIGURE: a selector that is not listed for a named core. -/
def selectorsFault (a : Bytes) : Option Nat :=
  ((List.range 6).find? fun i => bitOf (byteAt a 1) i &&
    (coresOf (byteAt a 0)).any fun c => !selectorListed c (byteAt a (4 + i))).map (4 + ·)

/-- Argument conditions that join fields, by command. -/
def joinedFault (code : Nat) (a : Bytes) : Option Nat :=
  match code with
  | 0x0103 =>
    let bad := (coresOf (byteAt a 0)).any fun c =>
      let t := fieldLE a 4 4
      if c < 186 then decide (t < 10 ∨ 10000 < t) else decide (t < 1000 ∨ 100000 < t)
    if bad then some 4 else none
  | 0x0203 => if 16384 < fieldLE a 0 2 + fieldLE a 2 2 then some 0 else none
  | 0x0311 => if 32 < byteAt a 4 % 64 then some 4 else none
  | 0x0331 => ((List.range 15).find? fun i =>
      let v := toSigned 11 (fieldLE a (4 + 2 * i) 2)
      decide (v < -512 ∨ 512 < v)).map fun i => 4 + 2 * i
  | 0x0402 =>
    let first := fieldLE a 2 2
    let count := fieldLE a 4 2
    if byteAt a 1 = 0 then (if first ≠ 0 then some 2 else if count ≠ 0 then some 4
      else (headerZeros.filterMap (·.fault a)).min?)
    else if count = 0 then some 4 else if 1024 < first + count then some 2 else none
  | 0x0802 => if fieldLE a 4 2 < fieldLE a 2 2 then some 2 else none
  | 0x0808 => loopCountsFault a
  | 0x0902 => if byteAt a 1 = 1 ∧ 4 < byteAt a 2 then some 2 else none
  | 0x0D01 => powerTimersFault a
  | 0x0D03 =>
    if byteAt a 0 = 0 ∧ 135 < byteAt a 1 ∨ byteAt a 0 = 1 ∧ 31 < byteAt a 1 then some 1 else none
  | 0x0E04 => if byteAt a 2 = byteAt a 3 then some 2 else none
  | 0x1101 => if byteAt a 3 % 16 = 0 then some 3 else none
  | 0x1203 => selectorsFault a
  | _ => none

/-- What a range or reserved-byte check finds first (R368 step 5, last check): the offset of the lowest faulty field. -/
def rangeFault (f : CmdForm) (a : Bytes) : Option Nat :=
  ((f.rules.filterMap (·.fault a)) ++ (joinedFault f.code a).toList).min?

/-- The kind of unit that a command acts on, and the member, none for all (R369, R381): 1 physical and 2 working lanes, 3 groups, 4
outputs, 5 monitor units, 6 filter channels, 7 cores, and by the command's group what no selector names. -/
def cmdUnit (code : Nat) (a : Bytes) : Nat × Option Nat :=
  let one (n : Nat) : Option Nat := if byteAt a 0 < n then some (byteAt a 0) else none
  let rule := (cmdForm code).bind (·.rules.head?)
  if code = 0x0D01 ∨ code = 0x0D03 then
    let i : Option Nat := if byteAt a 1 = 255 then none else some (byteAt a 1)
    match byteAt a 0 with
    | 0 => (1, i)
    | 1 => (3, i)
    | _ => (16 + code / 256, none)
  else if rule = some phys ∨ rule = some physAny then (1, one 136)
  else if rule = some work ∨ rule = some workAny then (2, one 128)
  else if rule = some group ∨ rule = some groupAny then (3, one 32)
  else if code / 256 = 8 ∧ code ≠ 0x0806 then (4, if fieldLE a 0 2 < 544 then some (fieldLE a 0 2) else none)
  else if code = 0x0901 then (5, none)
  else if code / 256 = 9 ∧ rule = some monUnit then (5, one 8)
  else if rule = some filterCh then (6, one 64)
  else if rule = some core ∨ rule = some coreAny then (7, one 192)
  else (16 + code / 256, none)

/-- The last check of R368 step 5: the offset, in the command area, of the first faulty byte. ARG_LEN stands at 0x04. -/
def argFault (f : CmdForm) (a : Bytes) : Option Nat :=
  if a.length < f.len ∨ (f.data = .none ∧ a.length ≠ f.len) then some 4
  else match rangeFault f a with
    | some o => some (0x10 + o)
    | none => if a.length ≠ f.len + f.data.length a then some 4 else none

/-- The privilege a command needs with its arguments: a CLEAR needs CONFIGURE (R383), MEM.SET_SCRUB that turns a scrubber
off needs MAINTAIN (R396). -/
def privNeeded (f : CmdForm) (a : Bytes) : Nat :=
  let scrubOff := decide (f.code = 0x0E02 ∧ 2 ≤ a.length ∧ byteAt a 1 = 0)
  let clears : Bool := match f.clear with
    | some o => bitOf (byteAt a o) 0
    | none => false
  max f.priv.code (if scrubOff then 2 else if clears then 1 else 0)

/-- The SYS_LOCK bit that forbids a command with its arguments (Table 12-5). -/
def lockOf (f : CmdForm) (a : Bytes) : Option Nat :=
  if f.code = 0x0E02 ∧ byteAt a 1 ≠ 0 then none else f.lock

end Sys2Proof.Machine
end

