-- ==== Sys2Proof/Machine/SysUnits.lean ====
section
/-!
DEFINITION. The records of clocks, resets, cores, device power, AVSBus and SRAM arrays (chapters 10 and 11).
-/
namespace Sys2Proof.Machine

/-- Why the device is in reset or starting (R306, R401). -/
inductive StartPhase where
  /-- PORST_N low, or an internal power-on reset just asserted. -/
  | inReset
  /-- PORST_N released, root PLL not locked yet. -/
  | waitLock
  /-- Clocks run; the boot ROM has not started. -/
  | locked
  /-- The boot ROM holds the loader for invalid (R401 step 2, R441). -/
  | romRefill
  /-- The loader found the slot invalid (R440). -/
  | refill
  /-- The loader could not advance the boot count (R425, R179). -/
  | noCount
  /-- The image runs. -/
  | running
deriving DecidableEq, Repr

/-- Supplies and reset pins as the device sees them (R307, R450, R451). -/
structure PinUnit where
  /-- PORST_N is low. -/
  porstLow : Bool := true
  /-- CTLRST_N is low. -/
  ctlrstLow : Bool := false
  /-- VDD_BIAS present with VDD_AON or VDD_ANA below 90 % (R451). -/
  supplyGate : Bool := false
  /-- VDD_BIAS below 3.3 V (R238). -/
  biasLow : Bool := false
  hbeat : Bool := false
  /-- SMB_SCL held low by the device during a wake (R321). -/
  sclHeld : Bool := false
  /-- The loader sector of the external flash is block-protected (Table 15-1). -/
  flashProtected : Bool := false
deriving DecidableEq, Repr

/-- Clocks, references and time (R292–R300). -/
structure ClockUnit where
  phase : StartPhase := .inReset
  /-- STRAP3–STRAP0 as sampled (R292). -/
  straps : BitVec 4 := 0
  rootLock : Bool := false
  holdover : Bool := false
  refclkOk : Bool := false
  fabclkOk : Bool := false
  /-- CLK_STATUS.AON_FALLBACK, 1 after reset (Table 10-2). -/
  aonFallback : Bool := true
  refLost : Bool := false
  intPor : Bool := false
  timebaseLock : Bool := false
  deviceTime : Time := 0
  /-- CK_MGMT runs and DEVICE_TIME counts. -/
  counting : Bool := false
  /-- CK_MGMT has restarted after a stop and the first AON tick is awaited (R300). -/
  waitTick : Bool := false
  aonTicks : BitVec 48 := 0
  /-- D[k] and k of the latest AON tick taken while CK_MGMT ran (R300). -/
  tickTime : Time := 0
  tickNum : BitVec 48 := 0
  /-- Reset domains whose crossings are closed (R304), as EV_DEV_RESET_DONE codes them. -/
  closed : List Nat := []
deriving DecidableEq, Repr

/-- States of a core (DEV.GET_CORES). -/
inductive CoreState where
  | active
  | standby
  | restarting
  | retired
deriving DecidableEq, Repr

/-- One core (R310, R14). -/
structure CoreUnit where
  state : CoreState := .active
  /-- The core restarts from DEV.RESET_CORE, which absorbs its watchdog's expiries (R312). -/
  commanded : Bool := false
  /-- A failed core's duties have been taken over (COVERED). -/
  covered : Bool := false
  /-- Cover in progress: EV_DEV_COVER_DONE not raised yet, with its CODE. -/
  covering : Option Nat := none
  /-- Physical lanes whose adaptation and loops this cover froze when it started (R14). -/
  frozen : List Phys := []
  /-- Watchdog timeout in µs (Table 10-6). -/
  timeout : Nat
  /-- DEVICE_TIME of the watchdog expiries of the last hour, latest first. -/
  expiries : List Time := []
  /-- Resets of this core since power-on. -/
  resets : Nat := 0
  /-- VERSION of the image section the core runs. -/
  version : Word := 0
deriving DecidableEq, Repr

/-- Default watchdog timeouts and roles: 100 µs, or 10 ms for management and security cores; the lower-indexed core of
a pair is active (Table 10-6, R307). -/
def CoreUnit.reset (i : Nat) : CoreUnit :=
  if i < 186 then { timeout := 100 }
  else { timeout := 10000, state := if i % 2 = 0 then .active else .standby }

/-- Device power states (Table 10-7). -/
inductive DevPower where
  | run
  | quiet
  | dormant
deriving DecidableEq, Repr

/-- Entry into and wake from DORMANT (R320, R321). -/
inductive DormantPhase where
  | none
  /-- Accepted; doorbells held, device slot being written. -/
  | saving
  /-- Committed: clocks stopped, DORMANT_VCORE requested, not acknowledged and settled yet. -/
  | committed
  /-- DORMANT. -/
  | dormant
  /-- A wake runs: its source (0 SMBUS, 1 RELAY_UP, 2 RELAY_DN, 3 CTLRST_N). -/
  | waking (source : Nat)
deriving DecidableEq, Repr

/-- What an AVSBus request is for (R327). -/
inductive AvsSource where
  | plan
  | dormant
  | wake
deriving DecidableEq, Repr

/-- An AVSBus request (R326). -/
structure AvsReq where
  source : AvsSource
  /-- VDD_CORE target in mV. -/
  target : Nat
  /-- Writes sent without acknowledgement so far. -/
  missed : Nat := 0
  /-- Acknowledged; AVS_SETTLE is running. -/
  settling : Bool := false
deriving DecidableEq, Repr

/-- The AVSBus master (R326, R327). -/
structure AvsUnit where
  openReq : Option AvsReq := none
  queued : Option AvsReq := none
  /-- Last acknowledged plan target (R327), in mV; 750 at power-up (R450). -/
  runSetpoint : Nat := 750
  /-- The voltage the device relies on, in mV. -/
  volts : Nat := 750
  /-- AVS_SETTLE in µs and DORMANT_VCORE in mV (Table 10-9). -/
  settle : Nat := 50
  dormantVcore : Nat := 650
  /-- Unacknowledged wake requests so far (R321). -/
  wakeMisses : Nat := 0
deriving DecidableEq, Repr

/-- Residency, entry and aborted-entry counters of a unit (R325); one residency and entry counter for each state. -/
structure Residency where
  ticks : List (BitVec 48)
  entries : List (BitVec 32)
  aborted : BitVec 16 := 0
deriving DecidableEq, Repr

def Residency.reset (states : Nat) : Residency :=
  { ticks := List.replicate states 0, entries := List.replicate states 0 }

/-- Device power (R319–R322). -/
structure PowerUnit where
  dev : DevPower := .run
  dormantPhase : DormantPhase := .none
  /-- QUIET_TIMER in 0.1 µs (Table 10-9). -/
  quietTimer : Nat := 1000
  res : Residency
  /-- The device slot of the AON save area is valid, and its save count (R323). -/
  slotValid : Bool := false
  saveCount : BitVec 32 := 0
  /-- A control reset is due after the wake (R321, CTLRST_N source). -/
  wakeCtlReset : Bool := false
deriving DecidableEq, Repr

def PowerUnit.reset : PowerUnit := { res := Residency.reset 3 }

/-- A stored SRAM word: check bits c[6:0] over data d[31:0], and its valid bit (R331, R333). -/
structure SWord where
  bits : BitVec 39
  /-- The three copies of the valid bit (R333). -/
  copies : BitVec 3 := 7
deriving DecidableEq, Repr

/-- One of an array's eight spare words in use (R341, R342). -/
structure Remap where
  addr : Nat
  /-- The spare word failed in its turn and is no longer in service. -/
  retired : Bool
deriving DecidableEq, Repr

/-- One SRAM array (chapter 11). -/
structure SramUnit where
  /-- Stored words by address whose bits are known one by one: those of core memories, and those with an error. -/
  words : Tab SWord := []
  /-- Ranges of unlisted words that the array's owner has written: they hold its data, without error. Every other unlisted word has
  valid bit 0. -/
  written : List (Nat × Nat) := []
  ceCount : Nat := 0
  ueCount : Nat := 0
  ueReads : Nat := 0
  /-- POISON_LAP of the last complete lap. -/
  poisonLap : Nat := 0
  lastLap : Nat := 0
  lastErrAddr : Nat := 0
  lastSyndrome : BitVec 7 := 0
  lastUe : Bool := false
  maxLap : Nat := 0
  laps : Nat := 0
  slow : Bool := false
  /-- The lap in progress has reached LAP_LIMIT. -/
  late : Bool := false
  remapFull : Bool := false
  /-- Scrubber: next address, start of the lap, poisoned words met in it. -/
  scrubAddr : Nat := 0
  lapStart : Time := 0
  lapPoison : Nat := 0
  /-- Pending repairs (address, corrected data) and pending poisonings (address). -/
  repairs : Tab Word := []
  poisons : List Nat := []
  /-- Addresses repaired within the current and the previous lap (R341 item 1). -/
  repairedNow : List Nat := []
  repairedPrev : List Nat := []
  /-- Poisoned words cleared by a full-word write, in the current and the previous lap (R341 item 2). -/
  clearedNow : List Nat := []
  clearedPrev : List Nat := []
  /-- Spare words in use, in the order they were taken. -/
  remaps : List Remap := []
  /-- Addresses that qualify for a remap, oldest first. -/
  qualified : List Nat := []
  /-- First idle cycle of a remap done: the address and the word read (R342). -/
  copying : Option (Nat × SWord) := none
  /-- Injections waiting for the next write of a word: address and inverted bits (R345). -/
  inject : Tab (BitVec 39) := []
deriving DecidableEq, Repr

/-- All arrays and the scrub settings for the classes 0x01–0x09 (R340). -/
structure MemoryUnit where
  arr : Vector SramUnit 692
  scrub : Vector Bool 9 := Vector.replicate 9 true
  /-- LAP_LIMIT in ms. -/
  lapLimit : Vector Nat 9 := Vector.replicate 9 1000
deriving DecidableEq, Repr

def MemoryUnit.reset : MemoryUnit := { arr := Vector.replicate 692 {} }

/-- Clocks, cores, power and memories. -/
structure SystemUnit where
  pins : PinUnit := {}
  clk : ClockUnit := {}
  core : Vector CoreUnit 192
  power : PowerUnit
  avs : AvsUnit := {}
  mem : MemoryUnit
  /-- DEV_INFO.FW_READY. -/
  fwReady : Bool := false
  /-- A control reset has been released and its snapshot is not published yet (R307). -/
  ctlRestart : Bool := false
deriving DecidableEq, Repr

def SystemUnit.reset : SystemUnit :=
  { core := Vector.ofFn (fun i : Fin 192 => CoreUnit.reset i.val), power := PowerUnit.reset, mem := MemoryUnit.reset }

end Sys2Proof.Machine
end

