-- ==== Sys2Proof/Machine/HostUnits.lean ====
section
/-!
DEFINITION. The records of a Rinlink host group (chapter 7): blocks and lanes, swatches and replay, channel streams and
credits, training, substitution, idle and power.
-/
namespace Sys2Proof.Machine

/-- Link states (Table 7-9, R224). -/
inductive LinkState where
  | off
  | train
  | active
  | loopback
  | outOfService
deriving DecidableEq, Repr

/-- TSTEP of Table 7-8, in the order of its codes 0–5. -/
inductive TStep where
  | clock
  | align
  | check
  | seed
  | credit
  | ready
deriving DecidableEq, Repr

/-- Group power states (Table 10-7). -/
inductive GroupPower where
  | active
  | idle
  | off
deriving DecidableEq, Repr

/-- Rinlink parameters (Table 7-2). -/
structure LinkParams where
  replayTo : Nat := 500
  replayHold : Nat := 50
  /-- µs. -/
  trainLimit : Nat := 100
  stuffFail : Nat := 4
  autoRepair : Bool := true
  minWidth : Nat := 8
deriving DecidableEq, Repr

/-- One logical lane of one direction: scrambler, data target T and data count C (R198, R199). -/
structure LogLane where
  scr : BitVec 58 := 0
  target : Nat := 0
  count : Nat := 0
  /-- Transmit: data bits not sent yet; receive: data bits not taken into units yet. -/
  bits : List Bool := []
deriving DecidableEq, Repr

/-- What a swatch carries besides its acknowledgement field and CRC (Table 7-4, R215). -/
structure Swatch where
  type : Nat
  raw : Bool
  lch : Nat
  sseq : BitVec 16
  sbCh : Nat
  sbKind : Nat
  sbValue : BitVec 24
  payload : Bytes
  /-- FRAMEs toward the host ASIC that end in the payload: sender, SEQ and SKETCH (R218). -/
  frames : List (Nat × BitVec 32 × Bool) := []
deriving DecidableEq, Repr

/-- A FRAME received whole on a channel and not judged yet (R155, R210). -/
structure HostFrame where
  tag : BitVec 32
  station : Nat
  payload : Bytes
  /-- Its units passed the credit limit. -/
  beyond : Bool
deriving DecidableEq, Repr

/-- A working-lane channel of a group (R206–R212). -/
structure HostChan where
  /-- Toward the host ASIC: its latest limit, and the units consumed. -/
  txLimit : BitVec 24 := 0
  txUsed : BitVec 24 := 0
  /-- From the host ASIC: the limit granted, and the units consumed. -/
  rxLimit : BitVec 24 := 0
  rxUsed : BitVec 24 := 0
  /-- TAG of the next FRAME from the host ASIC. -/
  tagNext : BitVec 32 := 0
  /-- Bytes of a descriptor or frame received in part. -/
  partialIn : Bytes := []
  /-- FRAMEs received whole, oldest first. -/
  inFrames : List HostFrame := []
  /-- Stream bytes ready toward the host ASIC, and how many bytes have left so far. -/
  out : Bytes := []
  outSent : Nat := 0
  /-- FRAMEs whose last byte has not left: the value of `outSent` once it has, sender, SEQ and SKETCH. -/
  outEnds : List (Nat × Nat × BitVec 32 × Bool) := []
  /-- TRANSPARENT bits toward the host ASIC (R208), bytes not yet filling a swatch. -/
  rawOut : Bytes := []
  /-- Bits of them that do not fill a byte yet. -/
  rawBits : List Bool := []
  /-- TAG[23:0] that the newest ACCEPT item covers, if any frame has been accepted or refused. -/
  accept : Option (BitVec 24) := none
  /-- REFUSED descriptors not yet in a swatch: TAG[23:0], and the value of `outSent` once it has left (R212). -/
  refused : List (BitVec 24 × Nat) := []
deriving DecidableEq, Repr

/-- The partner's last TRAIN payload (Table 7-8). -/
structure Partner where
  step : TStep := .clock
  seedValid : Bool := false
  seedSeen : Bool := false
  resume : Bool := false
  clockOnSpare : Bool := false
  lanesOk : BitVec 17 := 0
  width : Nat := 16
  nonce : BitVec 47 := 0
  rxNext : BitVec 16 := 0
  group : Nat := 0
deriving DecidableEq, Repr

/-- Counters of Table 7-14. -/
structure LinkCounts where
  freshLosses : Nat := 0
  swatchesTx : Nat := 0
  swatchesRx : Nat := 0
  crcErrors : Nat := 0
  rewinds : Nat := 0
  naksSent : Nat := 0
  stuffErrors : Nat := 0
  commaErrors : Nat := 0
  holdBlocks : Nat := 0
  slip : Nat := 0
  substitutions : Nat := 0
  retrains : Nat := 0
  badDesc : Nat := 0
  creditViolation : Nat := 0
  transparentDrop : Nat := 0
deriving DecidableEq, Repr

/-- Driver settings of an HTX lane or of HCKTX (R456). -/
structure HtxSet where
  swing : Nat := 10
  pre : Nat := 2
  post : Nat := 6
deriving DecidableEq, Repr

/-- A restore of HOST.REPAIR that waits for its lane to prove itself (R225). -/
structure Restore where
  lane : Nat
  /-- 0 HRX, 1 HTX. -/
  dir : Nat
  commas : Nat
deriving DecidableEq, Repr

/-- One host group. -/
structure HostGroup where
  params : LinkParams := {}
  state : LinkState := .off
  tstep : TStep := .clock
  /-- DOWN is reported: TRAIN_LIMIT has expired since the link was last ACTIVE. -/
  downShown : Bool := false
  /-- The group has entered ACTIVE since PORST_N (R228). -/
  wasActive : Bool := false
  /-- The current training is a repair retrain (1,024 swatches suffice). -/
  repairTrain : Bool := false
  /-- The current training has sent OPS = 1, and commas with OPS = 1 have been received. -/
  opsTx : Bool := false
  opsRx : Bool := false
  /-- RESUME of this end (R218). -/
  resume : Bool := false
  goodTrain : Nat := 0
  txNonce : BitVec 47 := 0
  partner : Partner := {}
  /-- CREDIT items received in this training, one bit for each channel. -/
  creditSeen : BitVec 4 := 0
  /-- Active data lanes of the transmitter; the receiver follows the LANE fields of the partner's commas. -/
  width : Nat := 16
  /-- LANE value on each physical lane. -/
  txRole : Vector Nat 17
  rxRole : Vector Nat 17
  txFailed : BitVec 18 := 0
  rxFailed : BitVec 18 := 0
  txClockSpare : Bool := false
  rxClockSpare : Bool := false
  /-- Consecutive expected positions without a valid comma, by physical receive lane (R202 item 5). -/
  commaMiss : Vector Nat 17
  txLog : Vector LogLane 16
  rxLog : Vector LogLane 16
  /-- The last block was a hold block (transmit, receive). -/
  txHold : Bool := false
  rxHold : Bool := false
  /-- Receive swatch bytes reassembled and not yet taken as a swatch. -/
  rxStream : Bytes := []
  /-- Swatches of `rxStream`, counted from its front, that a training block cut short: they fail their CRC (R201). -/
  rxCut : List Nat := []
  /-- The next unit to reassemble, modulo the partner's active lanes. -/
  rxUnit : Nat := 0
  /-- The next unit to send, modulo the active lanes. -/
  txUnit : Nat := 0
  next : BitVec 16 := 0
  nakPending : Bool := false
  /-- NAK of the last swatch sent. -/
  lastNak : Bool := false
  sseq : BitVec 16 := 0
  /-- ACKSEQ received last plus 1: the oldest SSEQ not acknowledged. -/
  acked : BitVec 16 := 0
  replay : List Swatch := []
  /-- A kept swatch could not be resent: out of service until power-on reset (R338). -/
  replayLost : Bool := false
  /-- The next kept SSEQ to resend, while a rewind runs. -/
  resend : Option (BitVec 16) := none
  lastRewind : Option (BitVec 16 × Time) := none
  /-- NEXT − 1 as sent last. -/
  ackSent : BitVec 16 := 0xFFFF
  chan : Vector HostChan 4
  /-- Round robin: the channel served last. -/
  lastChan : Nat := 3
  /-- Changed sideband items, oldest first; items 0–3 CREDIT and 4–7 ACCEPT of channels 0–3. -/
  sbChanged : List Nat := []
  sbRotate : Nat := 0
  /-- Swatches that have carried another item since each item was sent (R213). -/
  sbAge : Vector Nat 8
  /-- Control messages waiting, 16 bytes each. -/
  control : List Bytes := []
  /-- A logical lane (0–15) or the clock (16) to be moved to the spare at a coming block. -/
  moveReq : Option Nat := none
  restore : Option Restore := none
  /-- IDLE_ENTER sent: the SSEQ of its swatch. -/
  idleSent : Option (BitVec 16) := none
  /-- IDLE_ENTER received, and when the acknowledgement that covers it was sent (R219). -/
  idleHeard : Bool := false
  idleAcked : Option Time := none
  /-- Width and transmit roles of a last operational block that carries RETRAIN_REQ (Table 7-9, ACTIVE). -/
  ending : Option (Nat × Vector Nat 17) := none
  txIdle : Bool := false
  rxIdle : Bool := false
  /-- Loop-back mode (Table 7-13), its scope, and the status of the last one: 0 none, 1 running, 2 released, 3 ABORTED. -/
  loopMode : Nat := 0
  loopScope : Nat := 0
  loopStatus : Nat := 0
  counts : LinkCounts := {}
  /-- The last transmit block: comma and 8,160 slots of each physical lane, none where it carries no block. -/
  lastBlock : List (Option (BitVec 32 × List Bool)) := []
  htx : Vector HtxSet 18
  /-- Settings taken from the next comma on (R456). -/
  htxNext : Vector HtxSet 18
  power : GroupPower := .off
  /-- GROUP_IDLE_TIMER in 0.1 µs. -/
  idleTimer : Nat := 10
  res : Residency
  /-- Being saved on entry to OFF (R323); HOST.RESET_GROUP runs (R309). -/
  saving : Bool := false
  /-- Session whose HOST.SET_POWER waits for the entry into OFF. -/
  powerSess : Option Sess := none
  resetting : Bool := false
  slotValid : Bool := false
  saveCount : BitVec 32 := 0
  /-- Lane 16 is in a running self-test check. -/
  selftest : Bool := false
deriving DecidableEq, Repr

/-- Physical lane k carries logical lane k, and lane 16 idles as the spare (R194). -/
def roleReset : Vector Nat 17 := Vector.ofFn (fun i : Fin 17 => i.val)

def HostGroup.reset : HostGroup :=
  { txRole := roleReset, rxRole := roleReset, commaMiss := Vector.replicate 17 0, txLog := Vector.replicate 16 {},
    rxLog := Vector.replicate 16 {}, chan := Vector.replicate 4 {}, htx := Vector.replicate 18 {},
    htxNext := Vector.replicate 18 {}, sbAge := Vector.replicate 8 0, res := Residency.reset 3 }

end Sys2Proof.Machine
end

