-- ==== Sys2Proof/Machine/LineUnits.lean ====
section
/-!
DEFINITION. The records of lane modes and power (chapters 1 and 10), decoding (chapter 4), line transmit and schedules
(chapter 5), and frame delivery (chapter 6).
-/
namespace Sys2Proof.Machine

/-- TRAIN of the lane status record (Table 13-4). -/
inductive TrainStatus where
  | none
  | running
  | passed
  | failed
deriving DecidableEq, Repr

/-- A mode change that has been accepted and not completed (R18, R146). -/
inductive ModeChange where
  /-- Draining toward TUNE or DARK; the command of `sess` waits. -/
  | drain (target : LaneMode) (sess : Option Sess)
  /-- Drained in SLOTTED or OPEN; waits for the end of the burst being sent (R135). -/
  | burstEnd (target : LaneMode) (sess : Option Sess)
  /-- SLOTTED to OPEN or back at the first pulse-started epoch from `epoch` on; `late` after the deadline. -/
  | epoch (target : LaneMode) (epoch : BitVec 32) (late : Bool)
deriving DecidableEq, Repr

/-- Lane power states (Table 10-7). -/
inductive LanePower where
  | active
  | idle
  | doze
  | off
deriving DecidableEq, Repr

/-- Steps of DELIVERY.REINTEGRATE (R187). -/
inductive Reint where
  | training
  | restoring (work : Work)
deriving DecidableEq, Repr

/-- Mode, training, reset and power of a physical lane. -/
structure LaneUnit where
  mode : LaneMode := .dark
  failed : Bool := false
  train : TrainStatus := .none
  trainTarget : LaneMode := .dark
  /-- A LANE.TRAIN has been issued since the lane last entered TUNE (R17). -/
  trainHere : Bool := false
  /-- The session whose LANE.TRAIN runs. -/
  trainSess : Option Sess := none
  change : Option ModeChange := none
  /-- Drain limit of the change in progress, in 10 µs (R18). -/
  drainLimit : Nat := 100
  reint : Option Reint := none
  /-- LANE.RESET accepted and waiting for bursts to end, or carried out and not restarted (R308). -/
  resetWait : Bool := false
  resetting : Bool := false
  /-- RX_SIGNAL and MARGIN conditions are not judged after a lane reset (R308). -/
  graceful : Bool := false
  /-- DEVICE_TIME of the last lane reset. -/
  resetAt : Time := 0
  power : LanePower := .off
  /-- LANE_IDLE_TIMER and LANE_DOZE_TIMER in 0.1 µs (Table 10-9). -/
  idleTimer : Nat := 20
  dozeTimer : Nat := 10000
  res : Residency
  /-- Exit from OFF in progress (R317); exit from DOZE in progress (R316). -/
  waking : Bool := false
  dozeExit : Bool := false
  /-- Why the exit from DOZE in progress started, as R329 codes causes. -/
  dozeCause : Nat := 3
  /-- The save slot being written on entry to OFF (R323). -/
  saving : Bool := false
  slotValid : Bool := false
  saveCount : BitVec 32 := 0
  /-- The memory and logic test emptied the slot: the bias outputs take their PORST_N values at the exit from OFF (R421). -/
  slotEmptied : Bool := false
  selftest : Bool := false
  pinned : Bool := false
deriving DecidableEq, Repr

def LaneUnit.reset : LaneUnit := { res := Residency.reset 4 }

/-- An inner codeword that has left its decoder: hard decisions, and the 120 bits passed on (R103, R104). -/
structure InnerWord where
  hard : BitVec 128
  out : BitVec 120
deriving DecidableEq, Repr

/-- An outer codeword that has left the decoders, c_543 first: as received and as passed on, with its failure mark (R102). -/
structure OuterWord where
  received : List (BitVec 10)
  word : List (BitVec 10)
  failed : Bool
deriving DecidableEq, Repr

/-- Marker lock, decoder outputs and delineation of a physical receive path (R112, R115). Codewords and bytes of the frame stream
count from marker lock, over the runs that follow, or from the start of the burst that decodes. -/
structure DecodeLane where
  amLocked : Bool := false
  missCount : Nat := 0
  /-- Station of the markers locked on. -/
  amSender : Nat := 16383
  /-- Marker positions passed since the lock. -/
  runs : Nat := 0
  /-- The burst that decodes, by its first payload symbol, and its outer codewords. -/
  burst : Option Sym := none
  cwTotal : Nat := 0
  /-- Inner codewords that wait for outer decoding, earliest first, and the number of the first one. -/
  inner : List InnerWord := []
  innerFirst : Nat := 0
  /-- Outer codewords that delineation or a frame check still needs, earliest first, and the number of the first one. -/
  outer : List OuterWord := []
  outerFirst : Nat := 0
  /-- 0 HUNT, 1 PRESYNC, 2 SYNC. -/
  delin : Nat := 0
  /-- Byte position of the candidate held in PRESYNC. -/
  candidate : Option Nat := none
  /-- Byte position of the next header expected, or at which the search resumes. -/
  nextHeader : Nat := 0
  /-- Byte positions of the frames that delineation has placed and that wait for their check (R116). -/
  toCheck : List Nat := []
  /-- Sketch candidates released and not resolved, by byte position and wire size (R117), and positions of frames whose confirmed
  sketch has been taken and that still wait for their check. -/
  cands : List (Nat × Nat) := []
  done : List Nat := []
  /-- Last inner decoder output and its flag (R104). -/
  innerOut : BitVec 120 := 0
  innerFlag : Bool := false
  /-- Last outer decoder output, message symbols c_543 first, and its failure mark (R102). -/
  outerOut : List (BitVec 10) := []
  outerFailed : Bool := false
deriving DecidableEq, Repr

/-- The decoders and delineation without anything of the stream before. -/
def DecodeLane.clear (d : DecodeLane) : DecodeLane :=
  { d with runs := 0, burst := none, cwTotal := 0, inner := [], innerFirst := 0, outer := [], outerFirst := 0, delin := 0,
           candidate := none, nextHeader := 0, toCheck := [], cands := [], done := [] }

/-- Marker lock on a run whose first header stands at byte `fptr` (Table 4-5). -/
def DecodeLane.lockAt (d : DecodeLane) (sender fptr : Nat) : DecodeLane :=
  { d.clear with amLocked := true, missCount := 0, amSender := sender, delin := 2, nextHeader := fptr }

/-- FEC parameters and statistics of a working lane (Table 4-10). -/
structure FecLane where
  windowExp : Nat := 34
  /-- LANE.SET_FEC forces HARD. -/
  hardForced : Bool := false
  /-- HARD mode in force from the next inner codeword on. -/
  hard : Bool := false
  preTx : Bool := false
  preRx : Bool := false
  /-- Learned STEADY peer, 16,383 for none. -/
  peer : Nat := 16383
  margin : Int := 0
  marginHard : Int := 0
  marginLb : Bool := false
  marginValid : Bool := false
  windowBer : BitVec 32 := 0
  /-- MARGIN was last seen below the floor (EV_FEC_MARGIN_LOW raised, R120). -/
  low : Bool := false
  /-- Consecutive windows with MARGIN below the floor less 1 dB (Table 6-5). -/
  failWindows : Nat := 0
  /-- Coded bits and corrections of the margin window in progress, and the corrections and exponents of windows that have ended
  (R119). -/
  winBits : Nat := 0
  winCorr : Nat := 0
  windows : List (Nat × Nat) := []
  codedBits : Nat := 0
  corrections : Nat := 0
  innerCw : Nat := 0
  innerChanged : Nat := 0
  innerFlagged : Nat := 0
  outerCw : Nat := 0
  outerFailed : Nat := 0
  outerCorrected : Nat := 0
  hist : Vector Nat 16 := Vector.replicate 16 0
  good : Nat := 0
  crc : Nat := 0
  lostCw : Nat := 0
  misaddressed : Nat := 0
  headersFailed : Nat := 0
  contradicted : Nat := 0
  delinLoss : Nat := 0
  amLoss : Nat := 0
  amMissed : Nat := 0
  peerChanges : Nat := 0
deriving DecidableEq, Repr

/-- A transmit palette (Table 5-2). -/
structure TxTaps where
  taps : Vector Int 15
  pt : Nat
deriving DecidableEq, Repr

def TxTaps.reset : TxTaps := { taps := Vector.ofFn (fun i : Fin 15 => if i.val = 3 then 512 else 0), pt := 3 }

/-- Burst transmitter states (Table 5-9). -/
inductive TxState where
  | idle
  | frozen
  | sending
deriving DecidableEq, Repr

/-- A frame put on the line: its 128-bit header (R95) and, for DATA and LINK, its payload. -/
structure LineFrame where
  header : BitVec 128
  payload : Bytes
deriving DecidableEq, Repr

/-- A burst fixed at its freeze point (R138). -/
structure TxBurst where
  dest : Nat
  num : Nat
  cold : Bool
  resync : Bool
  /-- LANE.SET_TX_BURST asked for the RESYNC of this burst (R136). -/
  asked : Bool := false
  retx : Bool
  cwCount : Nat
  frames : List LineFrame
  /-- Its expected preamble start in the epoch, in full-rate symbol periods (SLOTTED, R144). -/
  sendAt : Nat := 0
  /-- SEQ of the first retained frame carried, if any. -/
  firstSeq : Option (BitVec 32)
  /-- h[63:0] of the burst header (Table 3-2). -/
  header : BitVec 64
deriving DecidableEq, Repr

/-- Transmit diagnostics counters (Table 5-11). -/
structure TxDiag where
  bursts : Nat := 0
  coldBursts : Nat := 0
  probes : Nat := 0
  cwSent : Nat := 0
  framesSent : Nat := 0
  dacClip : Nat := 0
  underrun : Nat := 0
  skipped : Nat := 0
  cuts : Nat := 0
  collided : Nat := 0
  backoffs : Nat := 0
  swapCompleted : Nat := 0
  swapSuperseded : Nat := 0
  pdApplied : Nat := 0
deriving DecidableEq, Repr

/-- The settings that shape a lane's symbols (R126, R129, R130). -/
structure TxShape where
  pd : Vector Int 64
  paletteA : TxTaps
  paletteB : TxTaps
  activeB : Bool
  fade : Option Fade
deriving DecidableEq, Repr

/-- The transmitter of a physical lane (chapter 5). -/
structure TxLane where
  /-- Transmit symbol counter at a time (R125). -/
  symBase : Sym := 0
  symTime : Time := 0
  pd : Vector Int 64
  pdStaged : Option (Vector Int 64) := none
  paletteA : TxTaps
  paletteB : TxTaps
  activeB : Bool := false
  fade : Option Fade := none
  heldSwap : Option Swap := none
  swing : Nat := 15
  skew : Int := 0
  /-- SWING and skew set and not in effect yet (R128). -/
  staged : Option (Nat × Int) := none
  /-- SPARE idle content: zero scale (Table 5-4). -/
  idleZero : Bool := false
  /-- A training or calibration signal is requested in TUNE. -/
  trainSignal : Bool := false
  /-- A driver fault forces zero scale until LANE.SET_MODE to TUNE (Table 5-3 code 5); `faultNow` while it lasts. -/
  fault : Bool := false
  faultNow : Bool := false
  /-- The driver-fault declaration of R182 is due. -/
  faultDue : Bool := false
  /-- TRANSPARENT elastic buffer (R133). -/
  elastic : Bytes := []
  elasticOn : Bool := false
  /-- The buffer has emptied, and the underrun is not yet reported. -/
  dry : Bool := false
  /-- Keystream register of the underrun fill (R106, R133). -/
  keys : Nat := 2 ^ 31 - 1
  /-- Place in the training sequence that TUNE sends (R132). -/
  trainPos : Nat := 0
  state : TxState := .idle
  burst : Option TxBurst := none
  /-- The guard after the last burst has elapsed. -/
  guardDone : Bool := true
  /-- The lane has not left DARK since power was applied (Table 5-3 code 0). -/
  fresh : Bool := true
  /-- The rest of a frame begun in an earlier run, which the next run sends first: its length is FPTR of the marker (R100). -/
  rest : Bytes := []
  /-- The transmit symbol at which the next superframe starts (R134). -/
  boundary : Sym := 0
  /-- Symbols sent last, before shaping: a run with the marker that follows it, a whole burst, or those of the last cycle in TUNE and
  TRANSPARENT; empty after zero scale. -/
  line : List Int := []
  /-- The transmit symbol of its first one. -/
  lineAt : Sym := 0
  /-- Shaping settings no longer in force that symbols not yet shaped were sent under, oldest first, each with the symbol it ended at. -/
  shapes : List (Sym × TxShape) := []
  /-- RUN of the next alignment marker (Table 4-4), and a[63:0] of the last one sent. -/
  run : BitVec 12 := 0
  marker : BitVec 64 := 0
  /-- Frames put on the line by the last run or burst. -/
  lastSent : List LineFrame := []
  diag : TxDiag := {}
deriving DecidableEq, Repr

def TxLane.reset : TxLane :=
  { pd := Vector.replicate 64 0, paletteA := TxTaps.reset, paletteB := TxTaps.reset }

/-- A schedule buffer (Table 5-7, Table 5-8): eight header words and the entries written. -/
structure Schedule where
  header : Vector Word 8
  entries : Tab Word := []
  /-- Which of the lane's two buffers in FABRIC_SHARED it is. -/
  bank : Bool := false
deriving DecidableEq, Repr

/-- PRE_OFFSET 9,075 and TAIL_GUARD 454 (G_min at root × 8, NATIVE), the defaults of Table 5-7; other fields 0. -/
def Schedule.reset : Schedule := { header := #v[0, 0, 9075, 454, 0, 0, 0, 0] }

/-- A buffer with the defaults of the root the straps select (R143, Table 5-5). -/
def Schedule.fresh (standard : Bool) : Schedule :=
  { Schedule.reset with header := #v[0, 0, 9075, if standard then 425 else 454, 0, 0, 0, 0] }

/-- OPEN transmit parameters (Table 5-10). -/
structure OpenParams where
  cwMax : Nat
  openHold : Nat
  openGap : Nat
  backoffJ : Nat
  beMax : Nat
  attemptLimit : Nat
deriving DecidableEq, Repr

/-- What OPEN keeps for a destination (R149, R150). -/
structure OpenDest where
  attempts : Nat := 0
  backoff : Bool := false
  /-- r of the backoff drawn last. -/
  drawn : Nat := 0
  limitRaised : Bool := false
  /-- The oldest new frame has waited OPEN_HOLD. -/
  held : Bool := false
deriving DecidableEq, Repr

/-- Burst transmission of a working lane (R136–R150). -/
structure TxWork where
  /-- Burst counters by destination. -/
  burstNum : Tab Nat := []
  coldPending : List Nat := []
  /-- Stations named as a destination since the entry into SLOTTED or OPEN. -/
  named : List Nat := []
  /-- BURST_CW_MAX, OPEN_HOLD, OPEN_GAP, BACKOFF_UNIT, BE_MAX and ATTEMPT_LIMIT set and not in effect yet (R148). -/
  staged : Option OpenParams := none
  /-- Stations whose next burst carries RESYNC (R136). -/
  resync : List Nat := []
  cwMax : Nat := 32
  openHold : Nat := 0
  openGap : Nat := 0
  backoffJ : Nat := 3
  beMax : Nat := 8
  attemptLimit : Nat := 16
  dests : Tab OpenDest := []
  prng : BitVec 32 := 0
  lastDest : Nat := 16383
  active : Schedule
  shadow : Schedule
  /-- Armed swap: the target epoch, and whether its deadline has passed. -/
  armed : Option (BitVec 32 × Bool) := none
  /-- A schedule has been made active since power-on. -/
  loaded : Bool := false
deriving DecidableEq, Repr

def TxWork.reset : TxWork := { active := Schedule.reset, shadow := { Schedule.reset with bank := true } }

/-- The OPEN parameters set last are in effect (R148). -/
def TxWork.settle (t : TxWork) : TxWork :=
  match t.staged with
  | none => t
  | some x => { t with
      cwMax := x.cwMax, openHold := x.openHold, openGap := x.openGap, backoffJ := x.backoffJ, beMax := x.beMax,
      attemptLimit := x.attemptLimit, staged := none }

/-- Both buffers with the defaults of the root the straps select, nothing armed (R143). -/
def TxWork.blank (t : TxWork) (standard : Bool) : TxWork :=
  { t with active := Schedule.fresh standard, shadow := { Schedule.fresh standard with bank := true }, armed := none }

/-- Epoch timing of the device (R140, R141). -/
structure EpochUnit where
  epoch : BitVec 32 := 0
  period : Nat := 0
  fsTol : Nat := 256
  flyLimit : Nat := 4
  flyCount : Nat := 0
  lost : Bool := false
  /-- The current epoch is a flywheel epoch. -/
  flywheel : Bool := false
  /-- DEVICE_TIME of the current epoch's start. -/
  start : Time := 0
deriving DecidableEq, Repr

/-- A retained frame (R158). -/
structure Image where
  dest : Nat
  seq : BitVec 32
  /-- 1 DATA, 3 LINK. -/
  kind : Nat
  payload : Bytes
  /-- Acceptance tag, for DATA. -/
  tag : BitVec 32
  sent : Bool := false
  released : Bool := false
  /-- A read met an uncorrectable word: a VOID is sent in its place (R160). -/
  void : Bool := false
  /-- First word of it in RETENTION. -/
  word : Nat := 0
deriving DecidableEq, Repr

/-- A transmit context (R161). -/
structure TxCtx where
  next : BitVec 32
  sendPtr : BitVec 32
  ctxId : BitVec 16
  gen : Option (BitVec 10) := none
  rtoOn : Bool := false
  /-- Its CTX_OPEN waits for retention space, so no frame of it goes out yet (R156, R170). -/
  opening : Bool := false
  rewind : Option (BitVec 32 × Time) := none
  used : Time
  /-- When its last retained frame was released (R163). -/
  freed : Time := 0
deriving DecidableEq, Repr

/-- An outstanding sketch (R174). -/
structure Sketch where
  seq : BitVec 32
  bytes : Nat
  header : BitVec 128
  payload : Bytes
  /-- The physical lane it came on and its byte position there. -/
  lane : Nat := 0
  pos : Nat := 0
  /-- R117 has confirmed it; its varnish waits for credit (R211). -/
  confirmed : Bool := false
deriving DecidableEq, Repr

/-- A receive context (R161). -/
structure RxCtx where
  next : BitVec 32
  gen : BitVec 10
  ctxId : BitVec 16
  /-- SEQ that the pending NAK asks for (R167); NAK = k is its distance from ACK. -/
  nak : Option (BitVec 32) := none
  /-- The pending NAK was set from the sketch pointer (R167). -/
  nakSketch : Bool := false
  sketchPtr : BitVec 32
  sketches : List Sketch := []
  /-- Sketching paused at the frame whose SEQ is the sketch pointer (R174). -/
  paused : Bool := false
  heard : Time
deriving DecidableEq, Repr

/-- Acknowledgement state toward a station (R166). -/
structure AckState where
  changed : Bool := false
  duplicate : Bool := false
  /-- A standalone ACK frame is due. -/
  standalone : Bool := false
  /-- LINK messages that wait for a context or for retention space (R156), oldest first. -/
  links : List Bytes := []
deriving DecidableEq, Repr

/-- Phases of a spare move (Table 6-6, R185). -/
inductive MovePhase where
  | make
  | switch
  | breakP
  /-- SLOTTED and OPEN: waits for zero scale between bursts. -/
  | zeroWait
  /-- A failure move waiting for its mapping onto the spare (R183 step 2). -/
  | failing
deriving DecidableEq, Repr

/-- Reasons of Table 6-5. -/
inductive FailReason where
  | engine
  | txFault
  | rxSignal
  | margin
  | peerMove
  | ageing
  | command
deriving DecidableEq, Repr

/-- A spare move of a working lane from `src` to `dst`. -/
structure Move where
  src : Phys
  dst : Phys
  phase : MovePhase
  reason : FailReason
  planned : Bool
  /-- A DATA frame from the peer has arrived on `dst` in BREAK, so MOVE_SETTLE runs. -/
  settling : Bool := false
  /-- Physical lane whose reintegration this move ends (R187 step 3). -/
  reint : Bool := false
  /-- Lane engine whose cover this move completes (R14). -/
  cover : Option Core := none
deriving DecidableEq, Repr

/-- Delivery counters (Table 6-9). -/
structure DeliveryCounts where
  moves : Nat := 0
  accepted : Nat := 0
  refused : Nat := 0
  acked : Nat := 0
  retx : Nat := 0
  rtoExpiries : Nat := 0
  naks : Nat := 0
  delivered : Nat := 0
  duplicates : Nat := 0
  discarded : Nat := 0
  scrapes : Nat := 0
  uncertain : Nat := 0
deriving DecidableEq, Repr

/-- A working lane (chapters 3 to 6): everything that moves with it. -/
structure WorkLane where
  /-- The physical lane that carries it; `none` when out of service. -/
  phys : Option Phys
  /-- Its mode while out of service, and the order in which it went out of service. -/
  oosMode : LaneMode := .dark
  oosOrder : Option Nat := none
  /-- The physical lane it left for that, which keeps a mode change in progress until a spare takes it over (R18). -/
  oosFrom : Option Phys := none
  /-- The lane-engine core whose EV_DEV_COVER_DONE waits for a spare (R14). -/
  oosCover : Option Core := none
  station : Nat := 16383
  burst : BurstLane
  fec : FecLane := {}
  tx : TxWork
  -- delivery parameters (Table 6-1)
  /-- Retention extents asked for and held. -/
  extents : Nat := 4
  heldExtents : Nat := 4
  rto : Nat := 10
  ackInterval : Nat := 10
  moveSettle : Nat := 100
  ctxIdle : Nat := 1000
  moveLimit : Nat := 1000
  txQuota : Nat := 128
  rxQuota : Nat := 128
  sketch : Bool := false
  /-- SKETCH is to go off once every outstanding sketch is resolved (R173). -/
  sketchOff : Bool := false
  /-- Session whose DELIVERY.SET_SKETCH waits for that. -/
  sketchSess : Option Sess := none
  sketchWindow : Nat := 16
  losSpareDelay : Nat := 2
  autoFail : Bool := true
  autoAgeing : Bool := false
  restore : Bool := true
  -- delivery state
  images : List Image := []
  txCtx : Tab TxCtx := []
  /-- Previous CTX_ID by destination (R162). -/
  prevCtx : Tab (BitVec 16) := []
  rxCtx : Tab RxCtx := []
  acks : Tab AckState := []
  move : Option Move := none
  /-- Original physical lane for a restore move (R187). -/
  home : Phys
  counts : DeliveryCounts := {}
  -- margin floor and ladder (chapter 9)
  floor : Nat := 4
  /-- Throttle rungs held, 0–4, and the ceiling set by the margin plan. -/
  rungs : Nat := 0
  ceiling : Nat := 4
  /-- Penalties in 1/256 dB of rungs taken in the last complete margin window, and in the running one (R275). -/
  penLast : List (Nat × Int) := []
  penNow : List (Nat × Int) := []
deriving DecidableEq, Repr

def homeOf (w : Work) : Phys := ⟨17 * (w.val / 16) + w.val % 16, by omega⟩

def WorkLane.reset (w : Work) : WorkLane :=
  { phys := some (homeOf w), home := homeOf w, burst := BurstLane.reset w.val, tx := TxWork.reset }

/-- Bytes of a run's frame stream (R109). -/
def runBytes : Nat := 2631680

end Sys2Proof.Machine
end

