-- ==== Sys2Proof/Machine/PhotonUnits.lean ====
section
/-!
DEFINITION. The records of photonic control (chapter 8): bias outputs and their loops, monitor units, TRIG pins and
filter channels.
-/
namespace Sys2Proof.Machine

/-- LOOP_STATE of Table 8-4, in the order of its codes 0–4. -/
inductive LoopState where
  | off
  | settle
  | locked
  | rail
  | frozen
deriving DecidableEq, Repr

/-- Bias loop parameters (Table 8-8). -/
structure LoopParams where
  chan : Nat
  slot : Nat
  gain : Nat := 0
  /-- DEMOD FILTER. -/
  filter : Bool := false
  fch : Nat := 0
  d : Nat := 256
  h : Nat := 8
  a : Nat := 64
  target : Int := 0
  k : Nat := 256
  stepMax : Nat := 256
  lockThresh : Nat := 2048
  lockCount : Nat := 8
deriving DecidableEq, Repr

/-- Freeze conditions of R262. -/
inductive FreezeCause where
  | imageSwap
  | cover
  | selftest
  | fault
  | trip
  | lanePower
  | dormant
  | overrange
  | hold
  | laneReset
deriving DecidableEq, Repr

/-- A bias loop (R260–R263). -/
structure BiasLoop where
  params : LoopParams
  /-- TARGET, K, STEP_MAX, A and LOCK_THRESH to take effect at the next update. -/
  newParams : Option LoopParams := none
  state : LoopState := .off
  centre : Int := 0
  /-- A new centre takes effect at the next half-period boundary. -/
  nextCentre : Int := 0
  /-- Sign written last: +1 as `true`. -/
  positive : Bool := false
  /-- Sign of the applied output relative to the centre (R236). -/
  reference : Bool := false
  acc : Int := 0
  samples : Nat := 0
  halfSamples : Nat := 0
  within : Nat := 0
  outside : Nat := 0
  railed : Nat := 0
  overruns : Nat := 0
  freezes : List FreezeCause := []
deriving DecidableEq, Repr

/-- A range change in progress (R237). -/
structure RangeChange where
  target : Nat
  sess : Option Sess
  /-- The code applied when the change has ended, at the end of a self-test (R416). -/
  code : Option Nat := none
deriving DecidableEq, Repr

/-- A bias output (R231–R241). -/
structure BiasOut where
  range : Nat := 0
  ranging : Option RangeChange := none
  /-- Range changes of a self-test that follow the one in progress (R416). -/
  ranges : List RangeChange := []
  /-- Code at the ball. -/
  code : Nat := 0
  /-- Code applied and held back by the deglitcher (R236). -/
  holding : Option Nat := none
  pending : Option Nat := none
  replaced : Nat := 0
  codeMin : Nat := 0
  codeMax : Nat := 0
  safeCode : Nat := 0
  /-- FAULT of Table 8-4: the first condition latched; then the further ones. -/
  fault : Nat := 0
  moreFaults : List Nat := []
  aggClamp : Bool := false
  /-- SAFE_CODE in force after a trip, with the code to return to (R280). -/
  safe : Option Nat := none
  sense : Nat := 0
  loop : Option BiasLoop := none
deriving DecidableEq, Repr

/-- A sequence entry (Table 8-6). -/
structure SeqEntry where
  chan : Nat
  gain : Nat
  repeats : Nat
  fch : Option Nat
deriving DecidableEq, Repr

/-- A result register (Table 8-7). -/
structure MonResult where
  code : Nat := 0
  valid : Bool := false
  overrange : Bool := false
  restarted : Bool := false
  run : BitVec 8 := 0
  new : Bool := false
deriving DecidableEq, Repr

/-- A sequence of a monitor unit (R244–R251). -/
structure MonSeq where
  entries : List SeqEntry := []
  /-- MODE 0 CONT, 1 TRIG, 2 SOFT (regular). -/
  mode : Nat := 2
  pin : Option Pin := none
  edge : Nat := 0
  /-- URGENT 0–3 and its index (injected). -/
  urgent : Nat := 0
  urgentIdx : Nat := 0
  notify : Bool := false
  /-- Position of a run in progress: entry, and conversions of it done. -/
  running : Option (Nat × Nat) := none
  /-- The entry restarts after an abort (R249). -/
  restart : Bool := false
  pending : Bool := false
  runs : BitVec 32 := 0
  lost : Nat := 0
  /-- MON.STOP asked for an end. -/
  stopping : Bool := false
  /-- A CONT sequence loaded while its unit is suspended starts when the pair ends (R243). -/
  heldStart : Bool := false
deriving DecidableEq, Repr

/-- What the converter is doing. -/
inductive Conv where
  /-- A loop's sample, with the reference sign at its start (R261). -/
  | loop (out : Bias) (sign : Bool)
  | injected
  | adhoc
  | regular
deriving DecidableEq, Repr

/-- An ad-hoc conversion asked for by MON.READ_CHANNEL (R250). -/
structure Adhoc where
  sess : Option Sess
  chan : Nat
  gain : Nat
  /-- A conversion of self-test check 2 (R415). -/
  test : Bool := false
deriving DecidableEq, Repr

/-- A monitor converter unit. -/
structure MonUnit where
  paired : Bool := false
  /-- Loop frame F. -/
  frame : Nat := 100
  reg : MonSeq := {}
  inj : MonSeq := {}
  regRes : Vector MonResult 32
  injRes : Vector MonResult 4
  busy : Option Conv := none
  adhoc : List Adhoc := []
  overranges : Nat := 0
  /-- The latest loop slot: its number, its start and the conversions that have ended since (R247, R248). -/
  lastSlot : Option (Nat × Time) := none
  sinceSlot : Nat := 0
deriving DecidableEq, Repr

def MonUnit.reset : MonUnit := { regRes := Vector.replicate 32 {}, injRes := Vector.replicate 4 {} }

/-- TRIG pin modes (R253). -/
inductive PinMode where
  | unused
  | input
  | output
deriving DecidableEq, Repr

structure TrigPin where
  mode : PinMode := .unused
  /-- SOURCE: 0 event pulse, 1 run start, 2 dither reference; ARG; WIDTH in 10 ns. -/
  source : Nat := 0
  arg : Nat := 0
  width : Nat := 10
  high : Bool := false
deriving DecidableEq, Repr

/-- A filter channel (R254–R259). -/
structure FilterCh where
  /-- MODE 0 OFF, 1 NORMAL, 2 TONE, 3 SCS. -/
  mode : Nat := 0
  m : Nat := 4
  bank : Nat := 0
  dcK : Nat := 0
  autoOutput : Option Nat := none
  stepThresh : Nat := 4096
  freezeTime : Nat := 100
  frozen : Bool := false
  autoFrozen : Bool := false
  /-- CIC: integrators, comb delays, inputs since its last output; then its last 279 outputs, latest first. -/
  integ : List Int := [0, 0, 0, 0]
  comb : List Int := [0, 0, 0, 0]
  inCount : Nat := 0
  cic : List Int := []
  cicCount : Nat := 0
  /-- CIC outputs waiting for the channel's cycle of the round (R254), oldest first. -/
  cicReady : List Int := []
  /-- DC block state b, in 2^-16 output units. -/
  dcB : Int := 0
  /-- SCS: sum and count of the visit. -/
  sum : Int := 0
  sumCount : Nat := 0
  /-- SCS: averages that await the channel's cycle of the round, oldest first. -/
  ready : List Int := []
  output : Int := 0
  count : BitVec 32 := 0
  stamp : Time := 0
  overrun : Bool := false
  dropped : Nat := 0
deriving DecidableEq, Repr

/-- Photonic control. -/
structure PhotonUnit where
  bias : Vector BiasOut 544
  /-- mA. -/
  aggLimit : Nat := 8000
  mon : Vector MonUnit 8
  /-- The last conversion of each monitor channel: code, OVERRANGE and sample instant (Table 14-8). -/
  lastConv : Tab (Nat × Bool × Time) := []
  pins : Vector TrigPin 8
  filter : Vector FilterCh 64
  /-- Loadable banks 2–7. -/
  banks : Vector (Vector Int 63) 6
deriving DecidableEq, Repr

def PhotonUnit.reset : PhotonUnit :=
  { bias := Vector.replicate 544 {}, mon := Vector.replicate 8 MonUnit.reset, pins := Vector.replicate 8 {},
    filter := Vector.replicate 64 {}, banks := Vector.replicate 6 (Vector.replicate 63 0) }

end Sys2Proof.Machine
end

