-- ==== Sys2Proof/Machine/State.lean ====
section
/-!
DEFINITION. The state of the MY5128 as plain data, the reasons a command can stop, and the state right after reset.
-/
namespace Sys2Proof.Machine

/-- No command of this block stops with a fault: every row has an effect the spec gives, so the type has no member. -/
inductive Fault where
deriving DecidableEq, Repr

/-- Why a command is refused by the model. -/
inductive Refusal where
  /-- Raised by `exec` for a row that has no meaning yet; safe, since nothing can be proved of such a row. -/
  | notModelled (mnemonic : String)
deriving DecidableEq, Repr

/-- The device. Unit records are listed in INVENTORY.md under State. -/
structure State where
  /-- Buses, registers, sessions, events, counters (chapter 12). -/
  ctl : ControlPlane
  /-- Clocks, resets, cores, power, memories (chapters 10 and 11). -/
  sys : SystemUnit
  /-- Security, self-test, flash, images, relay (chapters 14 and 15). -/
  sec : SecureUnit
  /-- Mode, training, reset and power of each physical lane (chapters 1 and 10). -/
  lane : Vector LaneUnit 136
  /-- Line receive (chapter 2). -/
  rx : Vector RxLane 136
  /-- Burst acquisition (chapter 3). -/
  acq : Vector Acq 136
  /-- Decoders and delineation (chapter 4). -/
  dec : Vector DecodeLane 136
  /-- Line transmit (chapter 5). -/
  tx : Vector TxLane 136
  /-- Working lanes: burst parameters, statistics, schedules, delivery (chapters 3 to 6). -/
  work : Vector WorkLane 128
  /-- Portrait gallery (chapter 3). -/
  gallery : GalleryUnit
  /-- Epoch timing (chapter 5). -/
  epoch : EpochUnit
  /-- Rinlink groups (chapter 7). -/
  group : Vector HostGroup 32
  /-- Photonic control (chapter 8). -/
  photon : PhotonUnit
  /-- Temperature, throttling, calibration, ageing (chapter 9). -/
  therm : ThermUnit
  cal : CalUnit
  age : AgeUnit
  /-- The model's own: how many free values have been drawn. -/
  free : Nat
  /-- The model's own: commands waiting, first in, first out. -/
  pending : List Instr
deriving DecidableEq, Repr

/-- The machine right after power-on reset (R10, R306): every field at its reset value, PORST_N still low. -/
def State.reset : State :=
  { ctl := ControlPlane.reset, sys := SystemUnit.reset, sec := {}, lane := Vector.replicate 136 LaneUnit.reset,
    rx := Vector.replicate 136 RxLane.reset, acq := Vector.replicate 136 {}, dec := Vector.replicate 136 {},
    tx := Vector.replicate 136 TxLane.reset, work := Vector.ofFn (fun w : Fin 128 => WorkLane.reset w), gallery := {},
    epoch := {}, group := Vector.replicate 32 HostGroup.reset, photon := PhotonUnit.reset, therm := ThermUnit.reset,
    cal := CalUnit.reset, age := AgeUnit.reset, free := 0, pending := [] }

end Sys2Proof.Machine
end

