-- ==== Sys2Proof/Machine/Ops.lean ====
section
/-!
DEFINITION. Named operations over the state: access to units by index, time, event raising (R373–R375, R93), and the
mailbox wrapper that runs an accepted command and answers it (R368 step 7, R386).
-/
namespace Sys2Proof.Machine

/-! Units by index. -/

def State.modCtl (s : State) (f : ControlPlane → ControlPlane) : State := { s with ctl := f s.ctl }
def State.modSys (s : State) (f : SystemUnit → SystemUnit) : State := { s with sys := f s.sys }
def State.modSec (s : State) (f : SecureUnit → SecureUnit) : State := { s with sec := f s.sec }
def State.modImg (s : State) (f : ImageUnit → ImageUnit) : State := s.modSec fun u => { u with img := f u.img }
def State.modFlash (s : State) (f : FlashUnit → FlashUnit) : State := s.modSec fun u => { u with flash := f u.flash }
def State.modClk (s : State) (f : ClockUnit → ClockUnit) : State := s.modSys fun u => { u with clk := f u.clk }
def State.modPins (s : State) (f : PinUnit → PinUnit) : State := s.modSys fun u => { u with pins := f u.pins }
def State.modPower (s : State) (f : PowerUnit → PowerUnit) : State := s.modSys fun u => { u with power := f u.power }
def State.modAvs (s : State) (f : AvsUnit → AvsUnit) : State := s.modSys fun u => { u with avs := f u.avs }
def State.modCore (s : State) (c : Core) (f : CoreUnit → CoreUnit) : State :=
  s.modSys fun u => { u with core := vupd u.core c f }
def State.modArr (s : State) (a : Arr) (f : SramUnit → SramUnit) : State :=
  s.modSys fun u => { u with mem := { u.mem with arr := vupd u.mem.arr a f } }
def State.modLane (s : State) (p : Phys) (f : LaneUnit → LaneUnit) : State := { s with lane := vupd s.lane p f }
def State.modRx (s : State) (p : Phys) (f : RxLane → RxLane) : State := { s with rx := vupd s.rx p f }
def State.modDiag (s : State) (p : Phys) (f : RxDiag → RxDiag) : State :=
  s.modRx p fun r => { r with diag := f r.diag }
def State.modAcq (s : State) (p : Phys) (f : Acq → Acq) : State := { s with acq := vupd s.acq p f }
def State.modDec (s : State) (p : Phys) (f : DecodeLane → DecodeLane) : State := { s with dec := vupd s.dec p f }
def State.modTx (s : State) (p : Phys) (f : TxLane → TxLane) : State := { s with tx := vupd s.tx p f }
def State.modTxDiag (s : State) (p : Phys) (f : TxDiag → TxDiag) : State :=
  s.modTx p fun t => { t with diag := f t.diag }
def State.modWork (s : State) (w : Work) (f : WorkLane → WorkLane) : State := { s with work := vupd s.work w f }
def State.modFec (s : State) (w : Work) (f : FecLane → FecLane) : State :=
  s.modWork w fun u => { u with fec := f u.fec }
def State.modTxw (s : State) (w : Work) (f : TxWork → TxWork) : State :=
  s.modWork w fun u => { u with tx := f u.tx }
def State.modBurst (s : State) (w : Work) (f : BurstLane → BurstLane) : State :=
  s.modWork w fun u => { u with burst := f u.burst }
def State.modGroup (s : State) (g : Group) (f : HostGroup → HostGroup) : State := { s with group := vupd s.group g f }
def State.modPhoton (s : State) (f : PhotonUnit → PhotonUnit) : State := { s with photon := f s.photon }
def State.modBias (s : State) (o : Bias) (f : BiasOut → BiasOut) : State :=
  s.modPhoton fun u => { u with bias := vupd u.bias o f }
def State.modMon (s : State) (u : Mon) (f : MonUnit → MonUnit) : State :=
  s.modPhoton fun x => { x with mon := vupd x.mon u f }
def State.modFilter (s : State) (c : Fch) (f : FilterCh → FilterCh) : State :=
  s.modPhoton fun u => { u with filter := vupd u.filter c f }
def State.modEpoch (s : State) (f : EpochUnit → EpochUnit) : State := { s with epoch := f s.epoch }
def State.modTherm (s : State) (f : ThermUnit → ThermUnit) : State := { s with therm := f s.therm }
def State.modCal (s : State) (f : CalUnit → CalUnit) : State := { s with cal := f s.cal }
def State.modCalLane (s : State) (p : Phys) (f : CalLane → CalLane) : State :=
  s.modCal fun u => { u with lane := vupd u.lane p f }
def State.modAge (s : State) (f : AgeUnit → AgeUnit) : State := { s with age := f s.age }
def State.modSess (s : State) (k : Sess) (f : Session → Session) : State :=
  s.modCtl fun u => { u with sess := vupd u.sess k f }

def State.ln (s : State) (p : Phys) : LaneUnit := s.lane[p.val]
def State.rxl (s : State) (p : Phys) : RxLane := s.rx[p.val]
def State.txl (s : State) (p : Phys) : TxLane := s.tx[p.val]
def State.acl (s : State) (p : Phys) : Acq := s.acq[p.val]
def State.del (s : State) (p : Phys) : DecodeLane := s.dec[p.val]
def State.wk (s : State) (w : Work) : WorkLane := s.work[w.val]
def State.grp (s : State) (g : Group) : HostGroup := s.group[g.val]
def State.flt (s : State) (c : Fch) : FilterCh := s.photon.filter[c.val]
def State.sess (s : State) (k : Sess) : Session := s.ctl.sess[k.val]
def State.coreOf (s : State) (c : Core) : CoreUnit := s.sys.core[c.val]
def State.bias (s : State) (o : Bias) : BiasOut := s.photon.bias[o.val]
def State.mon (s : State) (u : Mon) : MonUnit := s.photon.mon[u.val]
def State.sensor (s : State) (i : Sensor) : SensorUnit := s.therm.sens[i.val]
def State.now (s : State) : Time := s.sys.clk.deviceTime

/-- Draw a free value: the counter of the draw, and the state with the counter advanced. -/
def State.draw (s : State) : Nat × State := (s.free, { s with free := s.free + 1 })

/-! Index arithmetic of R4, R13, R231 and R330. -/

def finOf (n : Nat) [NeZero n] (v : Nat) : Fin n := Fin.ofNat n v

def bankOfPhys (p : Phys) : Nat := p.val / 17
def bankOfWork (w : Work) : Nat := w.val / 16
def groupOfWork (w : Work) : Group := finOf 32 (w.val / 4)
def chanOfWork (w : Work) : Nat := w.val % 4
/-- W4g + c (R13). -/
def workOfChan (g : Group) (c : Nat) : Work := finOf 128 (4 * g.val + c)
def laneOfBias (o : Bias) : Phys := finOf 136 (o.val / 4)
def biasOf (p : Phys) (k : Nat) : Bias := finOf 544 (4 * p.val + k)
/-- The physical lanes of a bank, ascending. -/
def lanesOfBank (b : Nat) : List Phys := (List.finRange 136).filter fun p => bankOfPhys p = b
def physAll : List Phys := List.finRange 136
def workAll : List Work := List.finRange 128
def groupAll : List Group := List.finRange 32
def coreAll : List Core := List.finRange 192
def biasAll : List Bias := List.finRange 544

/-- The working lane a physical lane carries (R4, R16). -/
def State.workOf (s : State) (p : Phys) : Option Work := workAll.find? fun w => s.work[w.val].phys = some p

def State.physOf (s : State) (w : Work) : Option Phys := s.work[w.val].phys

/-- The mode of a working lane: that of its physical lane, or the one it holds while out of service. -/
def State.modeOfWork (s : State) (w : Work) : LaneMode :=
  match s.work[w.val].phys with
  | some p => s.lane[p.val].mode
  | none => s.work[w.val].oosMode

def State.modeOf (s : State) (p : Phys) : LaneMode := s.lane[p.val].mode

/-- Modes that carry frames under the guarantee (Table 1-5). -/
def guaranteed : LaneMode → Bool
  | .steady => true
  | .slotted => true
  | .openM => true
  | _ => false

/-- Modes that carry bursts. -/
def burstMode : LaneMode → Bool
  | .slotted => true
  | .openM => true
  | _ => false

/-- Modes of a continuous stream received under Table 2-7. DESIGN CHOICE (log 111): SPARE, which R28 and R46 do not name, is one: the
lane receives superframes there (R132, Table 6-6). -/
def continuousMode : LaneMode → Bool
  | .tune => true
  | .steady => true
  | .transparent => true
  | .loop => true
  | .spare => true
  | _ => false

/-- STRAP0 high: STANDARD root (R292). -/
def State.standard (s : State) : Bool := s.sys.clk.straps.getLsbD 0

/-- CK_MGMT in mHz (Table 10-1). -/
def State.mgmtMHz (s : State) : Nat := if s.standard then 415039062500 else 443115234375

/-- CK_MGMT cycles in a time given in ns, rounded down. -/
def State.cyclesNs (s : State) (ns : Nat) : Nat := ns * s.mgmtMHz / 1000000000000

/-- Microseconds in a number of CK_MGMT cycles, rounded down. -/
def State.usOf (s : State) (cycles : Nat) : Nat := cycles * 1000000000 / s.mgmtMHz

/-- Cycles elapsed since a DEVICE_TIME. -/
def State.since (s : State) (t : Time) : Nat := (s.now - t).toNat

/-- Life-cycle code of Table 12-4: the highest blown LC_FUSE (R403). -/
def State.lifecycle (s : State) : Nat :=
  let f := s.sec.otp.lcFuse
  if f.getLsbD 3 then 4 else if f.getLsbD 2 then 3 else if f.getLsbD 1 then 2 else if f.getLsbD 0 then 1 else 0

/-- RETIRED: line lanes stay in DARK and groups OFF (Table 14-2). -/
def State.retired (s : State) : Bool := decide (s.lifecycle = 4)

/-- Tripped (R279): from the trip to the end of recovery. -/
def State.tripped (s : State) : Bool := decide (s.therm.trip ≠ .none)

/-- RX_SIGNAL and MARGIN are not judged: from a lane reset to lock or commit, at most 200 µs (R308). -/
def State.graceOn (s : State) (p : Phys) : Bool :=
  (s.ln p).graceful && decide (s.usOf (s.since (s.ln p).resetAt) < 200)

/-! Events. -/

/-- Groups whose events may use the last 16 free entries (R373). -/
def evReserved (e : Ev) : Bool := decide (e.id / 16 ≤ 5)

/-- EV_ENABLE bit of an event (Table 12-7). -/
def EventUnit.enabled (u : EventUnit) (e : Ev) : Bool := (u.enable.toList.getD (e.id / 32) 0).getLsbD (e.id % 32)

/-- Route of an event group: bit 0 INT_A_N, bit 1 INT_B_N (Table 12-7). -/
def EventUnit.routeOf (u : EventUnit) (g : Nat) : BitVec 2 := u.route.extractLsb' (2 * g) 2

/-- The pins as R375 evaluates them from the queue and OVERFLOW. -/
def EventUnit.evalPins (u : EventUnit) : EventUnit :=
  { u with
    intA := u.queue.any (fun x => (u.routeOf (x.ev.id / 16)).getLsbD 0) || (u.overflow && (u.routeOf 7).getLsbD 0)
    intB := u.queue.any (fun x => (u.routeOf (x.ev.id / 16)).getLsbD 1) || (u.overflow && (u.routeOf 7).getLsbD 1) }

/-- Place an entry behind those of earlier cycles, and among those of its own cycle in the order of EVENT_ID and SOURCE
(R373 Order). -/
def placeEntry (x : EvEntry) (q : List EvEntry) : List EvEntry :=
  match q with
  | [] => [x]
  | y :: r =>
    if y.time = x.time ∧ (x.ev.id < y.ev.id ∨ (x.ev.id = y.ev.id ∧ x.source.toNat < y.source.toNat)) then x :: y :: r
    else y :: placeEntry x r

/-- QSEQ values rise by one along the queue and end at `next - 1` (Table 12-14). -/
def numberQueue (next : Word) (q : List EvEntry) : List EvEntry :=
  q.mapIdx fun i x => { x with qseq := next - BitVec.ofNat 32 (q.length - i) }

/-- Entries the queue may hold when an event is queued (R373 Reserved entries). -/
def evRoom (e : Ev) : Nat := if evReserved e then 256 else 240

/-- Queue the events of one cycle in their order behind `q`; an event that finds no entry it may use is lost. -/
def fillQueue (q : List EvEntry) : List EvEntry → List EvEntry
  | [] => q
  | x :: r => fillQueue (if q.length < evRoom x.ev then q ++ [x] else q) r

/-- Queue an entry, or lose one (R373): of the events of one cycle, those first in its order take the entries that are free. -/
def EventUnit.put (u : EventUnit) (x : EvEntry) : EventUnit :=
  if ¬ u.enabled x.ev then u
  else if u.queue.length < 240 then
    let next := u.nextQseq + 1
    { u with queue := numberQueue next (placeEntry x u.queue), nextQseq := next }
  else
    let q := fillQueue (u.queue.filter fun y => decide (y.time ≠ x.time)) (placeEntry x (u.queue.filter fun y => decide (y.time = x.time)))
    let lose := decide (q.length ≤ u.queue.length)
    let next := if lose then u.nextQseq else u.nextQseq + 1
    { u with
      queue := numberQueue next q, nextQseq := next, overflow := u.overflow || lose,
      lost := if lose ∧ u.lost ≠ 0xFFFF then u.lost + 1 else u.lost }

/-- The overflow report of R373. -/
def EventUnit.report (u : EventUnit) (now : Time) : EventUnit :=
  if u.lost ≠ 0 ∧ u.enabled .ctlEvqOverflow ∧ u.queue.length < 240 then
    { u.put { ev := .ctlEvqOverflow, coalesced := 0, source := 0, code := 0, arg1 := u.lost.setWidth 32, arg2 := 0,
              time := now, qseq := 0 } with lost := 0 }
  else u

/-- Re-evaluate the overflow report and the pins; the pins are released while CTLRST_N is low (R307). -/
def State.settleEvents (s : State) : State :=
  s.modCtl fun c => { c with ev :=
    if s.sys.pins.ctlrstLow then { c.ev with intA := false, intB := false } else (c.ev.report s.now).evalPins }

/-- Event hold-off in ms (R93, R153, R193, R229, R264, R291, R328, R346, R422, R442). Table 3-3 gives a lanes event the hold-off
of its working lane; one whose SOURCE names no working lane has none, and takes its default of 1 ms here. DESIGN CHOICE, log 30. -/
def State.holdMs (s : State) (e : Ev) (source : Nat) : Nat :=
  let g := e.id / 16
  if 0x0A ≤ g ∧ g ≤ 0x0F then
    if source % 256 < 128 then s.work[(finOf 128 (source % 256)).val].burst.holdoff else 1
  else if g ≤ 4 ∨ 0x10 ≤ g then 1 else 0

/-- TRIG pins that pulse on the raising of an event (R253). -/
def State.trigPulse (s : State) (e : Ev) : State :=
  s.modPhoton fun u => { u with pins := u.pins.map fun p =>
    if p.mode = .output ∧ p.source = 0 ∧ p.arg = e.id then { p with high := true } else p }

/-- Raise an event at once: queue it, or hold it from a control reset's release until EV_CTL_RESET_DONE (R307). -/
def State.raiseNow (s : State) (e : Ev) (source code arg1 arg2 coalesced : Nat) : State :=
  let s := s.trigPulse e
  if s.sys.pins.ctlrstLow then s
  else if s.sys.ctlRestart then
    s.modCtl fun c => { c with ev := { c.ev with held := c.ev.held ++
      [{ ev := e, source := BitVec.ofNat 16 source, code := BitVec.ofNat 8 code, arg1 := BitVec.ofNat 32 arg1,
         arg2 := BitVec.ofNat 32 arg2, time := s.now, coalesced := coalesced }] } }
  else
    let x : EvEntry :=
      { ev := e, coalesced := satW 16 coalesced, source := BitVec.ofNat 16 source, code := BitVec.ofNat 8 code,
        arg1 := BitVec.ofNat 32 arg1, arg2 := BitVec.ofNat 32 arg2, time := s.now, qseq := 0 }
    (s.modCtl fun c => { c with ev := c.ev.put x }).settleEvents

/-- Raise an event under its hold-off (R93): the first occurrence is raised and starts the hold-off; occurrences within
it are counted with the details of the last. -/
def State.raise (s : State) (e : Ev) (source : Nat := 0) (code arg1 arg2 : Nat := 0) : State :=
  if s.holdMs e source = 0 then s.raiseNow e source code arg1 arg2 0
  else
    let src := BitVec.ofNat 16 source
    if s.ctl.ev.holdoffs.any (fun h => decide (h.ev = e ∧ h.source = src)) then
      s.modCtl fun c => { c with ev := { c.ev with holdoffs := c.ev.holdoffs.map fun h =>
        if h.ev = e ∧ h.source = src then
          { h with count := satW 16 (h.count + 1), code := BitVec.ofNat 8 code, arg1 := BitVec.ofNat 32 arg1,
                   arg2 := BitVec.ofNat 32 arg2 }
        else h } }
    else
      (s.modCtl fun c => { c with ev := { c.ev with holdoffs := c.ev.holdoffs ++
        [{ ev := e, source := src, count := 0, code := 0, arg1 := 0, arg2 := 0 }] } }).raiseNow e source code arg1 arg2 0

/-- SOURCE of a lanes event: working lane in [7:0], physical lane in [15:8], 0xFF where there is none (R376). -/
def lanesSrc (w : Option Work) (p : Option Phys) : Nat :=
  (match w with | some w => w.val | none => 255) + 256 * (match p with | some p => p.val | none => 255)

/-- Raise a lanes event of a physical lane. -/
def State.raiseP (s : State) (e : Ev) (p : Phys) (code arg1 arg2 : Nat := 0) : State :=
  s.raise e (lanesSrc (s.workOf p) (some p)) code arg1 arg2

/-- Raise a lanes event of a working lane. -/
def State.raiseW (s : State) (e : Ev) (w : Work) (code arg1 arg2 : Nat := 0) : State :=
  s.raise e (lanesSrc (some w) (s.physOf w)) code arg1 arg2

/-! Mailbox. -/

/-- What a command's meaning answers: a response at once, a response by a later event, or none at all (R386, R307). -/
inductive Reply where
  | done (r : Result) (detail : Nat) (data : Bytes)
  | later
  | noResponse
deriving DecidableEq, Repr

def replyOk (data : Bytes := []) : Reply := .done .ok 0 data
def refuse (r : Result) (detail : Nat := 0) : Reply := .done r detail []

/-- Refuse with BAD_ARG naming an argument byte: its offset in the command area (R384, R380). -/
def badArg (argOff : Nat) : Reply := .done .badArg (0x10 + argOff) []

/-- Free a session (R364). -/
def State.freeSess (s : State) (k : Sess) : State :=
  (s.modSess k fun x => { x with phase := .free, closePending := false, cmd := none, challenge := none, signer := none,
                                 report := none, perfSeen := [] }).raise .ctlSessionClosed k.val

/-- Write the response, update SESS_RESULT and return to IDLE in one step, with EV_CTL_CMD_DONE under NOTIFY
(R368 step 7); under CLOSE_PENDING discard the response and free the session (R364). -/
def State.respond (s : State) (k : Sess) (r : Result) (detail : Nat) (data : Bytes) : State :=
  match (s.sess k).cmd with
  | none => s
  | some c =>
    if (s.sess k).closePending then s.freeSess k
    else
      let s' := s.modSess k fun x => { x with
        phase := .idle, cmd := none, rseq := c.seq, result := BitVec.ofNat 8 r.code,
        respLen := BitVec.ofNat 10 data.length,
        resp := some { code := BitVec.ofNat 16 c.code, seq := c.seq, result := r, detail := BitVec.ofNat 32 detail,
                       data := data } }
      if (s.sess k).notify then s'.raise .ctlCmdDone k.val r.code c.seq.toNat c.code else s'

/-- A core is active (Table 13-2). -/
def State.coreActive (s : State) (i : Nat) : Bool := decide ((s.coreOf (finOf 192 i)).state = .active)

/-- The unit of a command, a working lane as the physical lane that carries it, or 136 and up where none does. -/
def State.actsOn (s : State) (c : Accepted) : Nat × Option Nat :=
  match cmdUnit c.code c.args with
  | (2, some w) => (1, some (match s.physOf (finOf 128 w) with | some p => p.val | none => 136 + w))
  | (2, none) => (1, none)
  | x => x

/-- Two commands act on the same unit. -/
def State.sameUnit (s : State) (c d : Accepted) : Bool :=
  let x := s.actsOn c
  let y := s.actsOn d
  decide (x.1 = y.1) && (x.2.isNone || y.2.isNone || decide (x.2 = y.2))

/-- The pair that serves a session has an active core, or the loader serves the session (R369, R440). -/
def State.pairUp (s : State) (k : Sess) : Bool :=
  let base := 186 + 2 * (k.val / 4)
  decide (s.sys.clk.phase = .refill) || s.coreActive base || s.coreActive (base + 1)

/-- A session's command may take effect (R369): its pair has an active core, and every command on the same unit whose doorbell was
taken before has taken effect. -/
def State.turn (s : State) (k : Sess) : Bool :=
  match (s.sess k).cmd with
  | none => false
  | some c => s.pairUp k && (List.finRange 8).all fun j => match (s.sess j).cmd with
    | none => true
    | some d => decide (j = k) || d.started || decide (c.turn ≤ d.turn) || !s.sameUnit c d

/-- Run the accepted command of a session: `body` gets its arguments and answers a reply and the next state. A session
that holds no such command, has started it, or whose turn has not come (R369), is left alone. -/
def State.runCmd (s : State) (code : Nat) (k : Sess) (body : Bytes → State → Reply × State) : State :=
  match (s.sess k).cmd with
  | none => s
  | some c =>
    if c.code ≠ code ∨ c.started ∨ ¬ s.turn k then s
    else
      let r := body c.args s
      match r.1 with
      | .done res det data => r.2.respond k res det data
      | .later => r.2.modSess k fun x => { x with cmd := x.cmd.map fun c => { c with started := true } }
      | .noResponse => r.2

/-- Answer a waiting command of a session, if it is the one of the given code. -/
def State.answer (s : State) (k : Sess) (code : Nat) (r : Result) (detail : Nat) (data : Bytes) : State :=
  match (s.sess k).cmd with
  | some c => if c.code = code ∧ c.started then s.respond k r detail data else s
  | none => s

/-- Answer the session that waits, if one still does. -/
def State.answerOpt (s : State) (k : Option Sess) (code : Nat) (r : Result) (detail : Nat) (data : Bytes) : State :=
  match k with
  | some k => s.answer k code r detail data
  | none => s

/-- The first of a list of checks that fails gives the result (R384). -/
def firstFail : List (Bool × Reply) → Option Reply
  | [] => none
  | (true, r) :: _ => some r
  | (false, _) :: t => firstFail t

/-- Refuse with the first failing check, or go on. -/
def State.guarded (s : State) (checks : List (Bool × Reply)) (go : State → Reply × State) : Reply × State :=
  match firstFail checks with
  | some r => (r, s)
  | none => go s

/-- Fold a change over a list of units, in its order. -/
def State.each {α : Type} (s : State) (l : List α) (f : α → State → State) : State := l.foldl (fun s a => f a s) s

/-- Members a selector byte names: one, or every member in ascending order for 0xFF (R381). -/
def selAll (n : Nat) [NeZero n] (v : Nat) : List (Fin n) := if v < n then [finOf n v] else List.finRange n

/-- A command for one or all members (R381): checked against every member first; the lowest refusing member gives the
result, with its index in DETAIL when the selector is "all". A member under self-test goes before other refusals (R385). -/
def State.forAllSel {n : Nat} (s : State) (all : Bool) (l : List (Fin n)) (check : Fin n → Option Reply)
    (f : Fin n → State → State) : Reply × State :=
  let refusals := l.filterMap fun i => (check i).map fun r => (i, r)
  let tested (x : Fin n × Reply) : Bool := match x.2 with
    | .done .busySelftest _ _ => true
    | _ => false
  match (refusals.find? tested).or refusals.head? with
  | some (i, .done res det data) => (.done res (if all then i.val else det) data, s)
  | some (_, r) => (r, s)
  | none => (replyOk, s.each l f)

/-- Page prefix, NEXT naming the record after those returned, and at most `count` records from `first` (R382). -/
def pageN (fixed : Bytes) (recLen first count : Nat) (records : List Bytes) : Bytes :=
  let room := min count ((1004 - fixed.length) / recLen)
  let shown := (records.drop first).take room
  let nxt := if first + shown.length < records.length then first + shown.length else 0xFFFF
  leBytes 2 shown.length ++ leBytes 2 nxt ++ fixed ++ shown.flatten

/-- Page prefix and as many whole records as fit in 1,008 bytes with it and a fixed part (R382). -/
def page (fixed : Bytes) (recLen first : Nat) (records : List Bytes) : Bytes :=
  pageN fixed recLen first 1008 records

/-! Self-test (R385, R417). -/

/-- Remaining time of the running self-test in µs, at least 1 (R417). -/
def State.testRemaining (s : State) : Nat :=
  match s.sec.test with
  | none => 0
  | some t => max 1 (t.duration - s.usOf (s.since t.record.startTime))

/-- BUSY_SELFTEST with the remaining time. -/
def State.busyTest (s : State) : Reply := refuse .busySelftest s.testRemaining

/-- A status reply: STALE with full data when a described unit is under self-test (R385). -/
def State.statusReply (s : State) (tested : Bool) (data : Bytes) : Reply :=
  if tested then .done .stale s.testRemaining data else replyOk data

/-- The partner of a management or security core. -/
def corePartner (c : Core) : Core := finOf 192 (if c.val % 2 = 0 then c.val + 1 else c.val - 1)

end Sys2Proof.Machine
end

