-- ==== Sys2Proof/Machine/MemOps.lean ====
section
/-!
DEFINITION. SRAM words: array IDs and sizes (R330), reads with repair and poisoning (R332–R335), full-word and partial
writes (R336, R337), injections (R345), remap qualification (R341), and the status record (R344).
-/
namespace Sys2Proof.Machine

/-- Class and instance of an array (R330). -/
def arrClass (a : Arr) : Nat × Nat :=
  let i := a.val
  if i = 0 then (1, 0) else if i = 1 then (2, 0) else if i < 138 then (3, i - 2) else if i < 274 then (4, i - 138)
  else if i < 306 then (5, i - 274) else if i = 306 then (6, 0) else if i = 307 then (7, 0)
  else if i < 500 then (8, i - 308) else (9, i - 500)

/-- Array ID: class in [15:8], instance in [7:0] (R330). -/
def arrId (a : Arr) : Nat := 256 * (arrClass a).1 + (arrClass a).2

/-- The array of an ID. -/
def arrOfId (id : Nat) : Option Arr := (List.finRange 692).find? fun a => decide (arrId a = id)

/-- Words of a core memory by core index (Table 11-1). -/
def coreMemWords (instr : Bool) (i : Nat) : Nat :=
  if i < 136 then 8192 else if i < 168 then (if instr then 8192 else 16384) else if i < 186 then (if instr then 16384 else 32768)
  else if i < 190 then 131072 else (if instr then 32768 else 16384)

/-- Words per instance (Table 11-1). -/
def arrWords (a : Arr) : Nat :=
  match (arrClass a).1 with
  | 1 => 1572864
  | 2 => 8388608
  | 3 => 768
  | 4 => 1024
  | 5 => 32768
  | 6 => 16384
  | 7 => 1048576
  | 8 => coreMemWords true (arrClass a).2
  | _ => coreMemWords false (arrClass a).2

def arrGallery : Arr := 0
def arrRetention : Arr := 1
def arrHot (p : Phys) : Arr := finOf 692 (2 + p.val)
def arrFlipbook (p : Phys) : Arr := finOf 692 (138 + p.val)
def arrReplay (g : Group) : Arr := finOf 692 (274 + g.val)
def arrSave : Arr := 306
def arrFabric : Arr := 307
def arrCoreI (c : Core) : Arr := finOf 692 (308 + c.val)
def arrCoreD (c : Core) : Arr := finOf 692 (500 + c.val)

/-- The core whose memory an array is. -/
def arrCore (a : Arr) : Option Core := if (arrClass a).1 = 8 ∨ (arrClass a).1 = 9 then some (finOf 192 (arrClass a).2) else none

def State.arrOf (s : State) (a : Arr) : SramUnit := s.sys.mem.arr[a.val]

/-- Scrub settings of an array's class (R340). -/
def State.scrubOn (s : State) (a : Arr) : Bool := s.sys.mem.scrub.toList.getD ((arrClass a).1 - 1) true
def State.lapLimit (s : State) (a : Arr) : Nat := s.sys.mem.lapLimit.toList.getD ((arrClass a).1 - 1) 1000

/-- Clear the valid array of an instance (R333): no word is listed. -/
def SramUnit.clearValid (u : SramUnit) : SramUnit :=
  { u with words := [], written := [], repairs := [], poisons := [], copying := none }

/-- The valid bit by majority vote, and whether its copies agree (R333). -/
def SWord.valid (w : SWord) : Bool := (w.copies.getLsbD 0 && w.copies.getLsbD 1) || (w.copies.getLsbD 2 && (w.copies.getLsbD 0 || w.copies.getLsbD 1))
def SWord.agrees (w : SWord) : Bool := decide (w.copies = 0 ∨ w.copies = 7)

/-- Stored bits inverted: the 39 of the word in [38:0], the copies of its valid bit in [41:39]. -/
def SWord.flip (w : SWord) (x : BitVec 42) : SWord :=
  { bits := w.bits ^^^ x.extractLsb' 0 39, copies := w.copies ^^^ x.extractLsb' 39 3 }

/-- The stored word at an address. The data of an owner's good word stand in its own records, not here: zero stands for them, since no
syndrome depends on the data (DEDUCED, log 113). -/
def SramUnit.wordAt (u : SramUnit) (addr : Nat) : SWord :=
  match tabGet u.words addr with
  | some w => w
  | none => if u.written.any (fun r => decide (r.1 ≤ addr ∧ addr < r.2)) then { bits := encWord 0 } else { bits := 0, copies := 0 }

/-- Add a range to ranges, joined with those it touches. -/
def rangeAdd (l : List (Nat × Nat)) (r : Nat × Nat) : List (Nat × Nat) :=
  let touch (x : Nat × Nat) : Bool := decide (x.1 ≤ r.2 ∧ r.1 ≤ x.2)
  (l.filter touch).foldl (fun (y : Nat × Nat) x => (min y.1 x.1, max y.2 x.2)) r :: l.filter fun x => !touch x

/-- The array's own write of a word, a repair, a poisoning or a copy: a waiting injection inverts its bits (R345). -/
def SramUnit.putWord (u : SramUnit) (addr : Nat) (w : BitVec 39) : SramUnit :=
  let x := (tabGet u.inject addr).getD 0
  { u with words := tabSet u.words addr { bits := w ^^^ x }, inject := tabDel u.inject addr }

/-- What a functional write of the words that meet a condition drops: waiting repairs and poisonings, and a copy to a spare word; a
poisoned word is cleared (R334–R337, R341 item 2, R342). -/
def SramUnit.overwrite (u : SramUnit) (hit : Nat → Bool) : SramUnit :=
  let poisoned := u.words.filter fun x => hit x.1 && x.2.valid && decide (classify x.2.bits = .poisoned)
  { u with
    repairs := u.repairs.filter fun x => !hit x.1, poisons := u.poisons.filter fun x => !hit x,
    copying := u.copying.filter fun x => !hit x.1, clearedNow := u.clearedNow ++ poisoned.map (·.1) }

/-- Full-word writes by an array's owner of `len` words from `base` on (R336): they hold good data but where an injection strikes
(R345). -/
def SramUnit.write (u : SramUnit) (base len : Nat) : SramUnit :=
  let hit (x : Nat) : Bool := decide (base ≤ x ∧ x < base + len)
  let u := u.overwrite hit
  let u := { u with words := u.words.filter fun x => !hit x.1, written := if len = 0 then u.written else rangeAdd u.written (base, base + len) }
  ((u.inject.filter fun x => hit x.1).map (·.1)).foldl (fun u x => u.putWord x (encWord 0)) u

/-- A full-word write of known data (R336). -/
def SramUnit.store (u : SramUnit) (addr : Nat) (d : BitVec 32) : SramUnit :=
  (u.overwrite fun x => decide (x = addr)).putWord addr (encWord d)

/-- The address is served by a spare word in service. -/
def SramUnit.remapped (u : SramUnit) (addr : Nat) : Bool := u.remaps.any fun r => decide (r.addr = addr) && !r.retired

/-- A qualifying address asks for a remap if a spare word is free (R341, R342). -/
def SramUnit.qualify (u : SramUnit) (addr : Nat) : SramUnit :=
  if u.qualified.contains addr ∨ 8 ≤ u.remaps.length then u else { u with qualified := u.qualified ++ [addr] }

/-- Note a detection (Table 11-4, R341 item 2: an error of any class after a poisoned word was cleared). -/
def SramUnit.detect (u : SramUnit) (addr : Nat) (syn : BitVec 7) (ue : Bool) : SramUnit :=
  let u := { u with lastErrAddr := addr, lastSyndrome := syn, lastUe := ue }
  if addr ∈ u.clearedNow ∨ addr ∈ u.clearedPrev then u.qualify addr else u

/-- What a read returns. -/
inductive SramRead where
  | data (d : BitVec 32)
  | memError
deriving DecidableEq, Repr

/-- Raise an event of an array: the array ID in SOURCE and the word address in ARG1 (R346). -/
def State.raiseMem (s : State) (e : Ev) (a : Arr) (addr : Nat) : State := s.raise e (arrId a) 0 addr

/-- A correctable detection at an address (R334, R341 item 1). -/
def State.foundCe (s : State) (a : Arr) (addr : Nat) (syn : BitVec 7) (fix : Option (BitVec 32)) : State :=
  (s.modArr a fun u =>
    let again := decide (addr ∈ u.repairedNow ∨ addr ∈ u.repairedPrev) && fix.isSome
    let u := { (u.detect addr syn false) with ceCount := satW 32 (u.ceCount + 1) }
    let u := match fix with | some d => { u with repairs := tabSet u.repairs addr d } | none => u
    if again then u.qualify addr else u).raiseMem .memCorrected a addr

/-- Read a word (R332–R335): corrected data with a repair due, or MEM_ERROR with a poisoning due. Copies of the valid bit that disagree
are corrected first. `scrub` tells a scrub read, which returns to no reader. -/
def State.sramRead (s : State) (a : Arr) (addr : Nat) (scrub : Bool) : SramRead × State :=
  let w := (s.arrOf a).wordAt addr
  let s := if w.agrees then s
    else s.foundCe a addr 127 none |>.modArr a fun u =>
      { u with words := tabSet u.words addr { w with copies := if w.valid then 7 else 0 } }
  if ¬ w.valid then (.data 0, s)
  else
    let syn := syndrome w.bits
    match classify w.bits with
    | .clean => (.data (wordData w.bits), s)
    | .correctable d => (.data d, s.foundCe a addr syn (some d))
    | .uncorrectable =>
      (.memError, s.modArr a fun u =>
        let u := u.detect addr syn true
        { u with ueReads := if scrub then u.ueReads else satW 16 (u.ueReads + 1),
                 poisons := if u.poisons.contains addr then u.poisons else u.poisons ++ [addr] })
    | .poisoned =>
      (.memError, s.modArr a fun u =>
        if scrub then { u with lapPoison := u.lapPoison + 1 }
        else { u.detect addr syn true with ueReads := satW 16 (u.ueReads + 1) })

/-- A full-word write of known data (R336, R337). -/
def State.sramWrite (s : State) (a : Arr) (addr : Nat) (d : BitVec 32) : State := s.modArr a (·.store addr d)

/-- Merge the bytes selected by byte enables into a word. -/
def mergeBytes (old new : BitVec 32) (en : BitVec 4) : BitVec 32 :=
  BitVec.ofNat 32 (leNat ((List.range 4).map fun i =>
    BitVec.ofNat 8 ((if en.getLsbD i then new.toNat else old.toNat) / 256 ^ i)))

/-- A partial write (R336); answers whether it was carried out. -/
def State.sramPartial (s : State) (a : Arr) (addr : Nat) (d : BitVec 32) (en : BitVec 4) : Bool × State :=
  if en = 15 then (true, s.sramWrite a addr d)
  else
    let r := s.sramRead a addr false
    match r.1 with
    | .data old =>
      let repaired := (tabGet (r.2.arrOf a).repairs addr).isSome
      (true, (r.2.sramWrite a addr (mergeBytes old d en)).modArr a fun u =>
        if repaired then { u with repairedNow := u.repairedNow ++ [addr] } else u)
    | .memError => (false, r.2.raiseMem .memPoisonWrite a addr)

/-- A disturbance inverts stored bits of a word. -/
def State.disturb (s : State) (a : Arr) (addr : Nat) (x : BitVec 42) : State :=
  if x = 0 then s else s.modArr a fun u => { u with words := tabSet u.words addr ((u.wordAt addr).flip x) }

/-- The owner of an array writes `len` words from `base` on. -/
def State.unitWrite (s : State) (a : Arr) (base len : Nat) : State := s.modArr a (·.write base len)

/-- The owner of an array reads the words that `pos` gives a position, after the disturbance `d` of the word at an address: those with
a listing are read one by one. Answers the positions that met MEM_ERROR. -/
def State.wordsRead (s : State) (a : Arr) (pos : Nat → Option Nat) (d : Option (Nat × BitVec 42)) : List Nat × State :=
  let s := match d with
    | some x => s.disturb a x.1 x.2
    | none => s
  ((s.arrOf a).words.map (·.1)).foldl (fun acc x => match pos x with
    | some i =>
      let r := acc.2.sramRead a x false
      (if r.1 = .memError then acc.1 ++ [i] else acc.1, r.2)
    | none => acc) ([], s)

/-- The owner reads `len` words from `base` on; `d` disturbs the word at an offset in them. -/
def State.unitRead (s : State) (a : Arr) (base len : Nat) (d : Option (Nat × BitVec 42)) : List Nat × State :=
  s.wordsRead a (fun x => if base ≤ x ∧ x < base + len then some (x - base) else none)
    ((d.filter fun x => decide (x.1 < len)).map fun x => (base + x.1, x.2))

/-- The owner reads `count` words of a ring of `size` words from position `first` on. -/
def State.ringRead (s : State) (a : Arr) (size first count : Nat) (d : Option (Nat × BitVec 42)) : List Nat × State :=
  let at' (x : Nat) : Nat := (x + size - first % size) % size
  s.wordsRead a (fun x => if at' x < count then some (at' x) else none)
    ((d.filter fun x => decide (x.1 < count)).map fun x => ((first + x.1) % size, x.2))

/-! Places of items (Config.place where the spec gives no layout, log 112). -/

/-- First word of a portrait in the gallery (Table 11-5), and of an entry of a hot cache: 96 words each. -/
def galleryWord (i : Nat) : Nat := 96 * i

/-- A place in an array with room for any item, none of which is longer than 8,192 words. -/
def placeIn (a : Arr) (item : List Nat) : Nat := Config.place a.val item % (arrWords a - 8192)

/-- First word of a frame in RETENTION, of a swatch toward the host ASIC (60 words) and a frame in the receive staging of a REPLAY
array, of a context (8 words), a schedule entry, a log record and a directory word in FABRIC_SHARED. -/
def frameWord (w : Work) (st : Nat) (seq : BitVec 32) : Nat := placeIn arrRetention [w.val, st, seq.toNat]
def swatchWord (g : Group) (sseq : BitVec 16) : Nat := placeIn (arrReplay g) [0, sseq.toNat % 256]
def stagingWord (w : Work) (tag : BitVec 32) : Nat := placeIn (arrReplay (groupOfWork w)) [1, w.val, tag.toNat]
def contextWord (w : Work) (rx : Bool) (st : Nat) : Nat := placeIn arrFabric [rx.toNat, w.val, st]
def scheduleWord (w : Work) (bank : Bool) (k : Nat) : Nat := placeIn arrFabric [2 + bank.toNat, w.val, k]
def logWord (w : Work) (n : Nat) : Nat := placeIn arrFabric [4, w.val, n]
def directoryWord (i : Nat) : Nat := placeIn arrFabric [5, i]

/-- Words that hold n bytes. -/
def wordsFor (n : Nat) : Nat := (n + 3) / 4

/-- An instance is power-gated: a lane's hot cache and flipbook while the lane is OFF (Table 10-7). -/
def State.arrGated (s : State) (a : Arr) : Bool :=
  let c := arrClass a
  decide (c.1 = 3 ∨ c.1 = 4) && decide ((s.ln (finOf 136 c.2)).power = .off)

/-! Core instruction memories (R436, R438). -/

/-- Core kinds of Table 15-2 by core index. -/
def coreKind (c : Nat) : Nat :=
  if c < 136 then 1 else if c < 168 then 2 else if c < 180 then 3 else if c < 186 then 4 else if c < 190 then 5 else 6

def headerVersion (h : Bytes) : Nat := fieldLE h 0x00C 4

/-- Offset in the body and length of a kind's section (Table 15-2). -/
def sectionAt (h : Bytes) (kind : Nat) : Nat × Nat :=
  match (List.range 8).find? fun i => decide (byteAt h (0x040 + 16 * i) = kind) with
  | some i => (fieldLE h (0x044 + 16 * i) 4, fieldLE h (0x048 + 16 * i) 4)
  | none => (0, 0)

/-- Words of a core's section in the slot whose header is `h`. -/
def State.sectionWords (s : State) (h : Bytes) (c : Core) : List Word :=
  let x := sectionAt h (coreKind c.val)
  (List.range ((x.2 + 3) / 4)).map fun i => BitVec.ofNat 32 (leNat (memReads 0xFF s.sec.flash.slotBody (x.1 + 4 * i) 4))

/-- Write words from address 0 on. -/
def SramUnit.load (u : SramUnit) (ws : List Word) : SramUnit :=
  ws.zipIdx.foldl (fun u x => u.store x.2 x.1) u

/-- Load a core's instruction memory from the slot (R436). -/
def State.loadCore (s : State) (h : Bytes) (c : Core) : State := s.modArr (arrCoreI c) (·.load (s.sectionWords h c))

/-- The instruction memories of all cores after a load from the slot. -/
def State.loadCores (s : State) (h : Bytes) : State := s.each coreAll fun c s => s.loadCore h c

/-- The slot holds the section that a core runs: a valid image of the core's version. -/
def State.slotFor (s : State) (c : Core) : Option Bytes :=
  match s.sec.flash.slotHeader with
  | some h => if headerVersion h = (s.coreOf c).version.toNat then some h else none
  | none => none

/-- Data that a stored word gives, if it gives any. -/
def SWord.data (w : SWord) : Option Word :=
  match classify w.bits with
  | .clean => some (wordData w.bits)
  | .correctable d => some d
  | _ => none

/-- A word of another core of the same kind that runs the same section. -/
def State.donorWord (s : State) (c : Core) (addr : Nat) : Option Word :=
  coreAll.findSome? fun d =>
    if d ≠ c ∧ coreKind d.val = coreKind c.val ∧ (s.coreOf d).version = (s.coreOf c).version ∧ (s.coreOf d).state ≠ .retired then
      (tabGet (s.arrOf (arrCoreI d)).words addr).bind (·.data)
    else none

/-- The word that refills an instruction memory, and its source (R438): the slot when it holds the section the core runs, else a core of
the same kind that runs the same section. A word that neither gives stays as it is. -/
def State.refillWord (s : State) (c : Core) (addr : Nat) : Option Word :=
  match s.slotFor c with
  | some h => (s.sectionWords h c)[addr]?
  | none => s.donorWord c addr

/-- Refill a word of a core's instruction memory (R338, R438). -/
def State.refillCore (s : State) (c : Core) (addr : Nat) : State :=
  match s.refillWord c addr with
  | some d => s.sramWrite (arrCoreI c) addr d
  | none => s

/-! Save slots (Tables 10-11 and 10-12). -/

/-- Word ranges of the lane, group and device slots. -/
def laneSlot (p : Phys) : Nat × Nat := (0x100 + 0x60 * p.val, 0x60)
def groupSlot (g : Group) : Nat × Nat := (0x3400 + 0x20 * g.val, 0x20)
def deviceSlot : Nat × Nat := (0x3800, 0x800)

/-- Write a slot of the AON save area. -/
def State.writeSlot (s : State) (slot : Nat × Nat) : State := s.unitWrite arrSave slot.1 slot.2

/-- Read a slot at its restore: byte offsets in it of the words that read with MEM_ERROR (R324). -/
def State.readSlot (s : State) (slot : Nat × Nat) : List Nat × State :=
  let r := s.unitRead arrSave slot.1 slot.2 none
  (r.1.map (4 * ·), r.2)

/-- Array status record (Table 11-4). -/
def State.arrRecord (s : State) (a : Arr) : Bytes :=
  let u := s.arrOf a
  recWord [(16, arrId a), (4, u.remaps.length), (1, u.remapFull.toNat), (1, (s.scrubOn a).toNat), (1, u.slow.toNat),
    (1, (s.arrGated a).toNat), (8, 0)] ++
  leBytes 4 (arrWords a) ++ leBytes 8 s.now.toNat ++ leBytes 4 u.ceCount ++ leBytes 4 u.ueCount ++ leBytes 2 u.ueReads ++
  leBytes 2 u.poisonLap ++ leBytes 4 u.lastLap ++ leBytes 4 u.lastErrAddr ++
  recWord [(7, u.lastSyndrome.toNat), (1, u.lastUe.toNat), (24, 0)] ++ leBytes 4 u.maxLap ++ leBytes 4 u.laps

end Sys2Proof.Machine
end

