-- ==== Sys2Proof/Machine/LineCodes.lean ====
section
/-!
DEFINITION. Codes of the line: burst sequences (R55–R57), the extended BCH(128,64) code (R60, R61), the frame header
(R95–R99), RS(544,514) (R101, R102), the extended Hamming code with CHASE and HARD decoding (R103, R104), scrambler,
mapping and pilots (R106–R108), burst sizes (R114).
-/
namespace Sys2Proof.Machine

/-! Fields GF(2^m) as numbers below 2^m. -/

/-- Times α: shift, and reduce by the primitive polynomial. -/
def gfShift (m poly a : Nat) : Nat := if 2 ^ m ≤ 2 * a then (2 * a) ^^^ poly else 2 * a

/-- Product: the bits of b, most significant first. -/
def gfMul (m poly a b : Nat) : Nat :=
  (List.range m).foldl (fun acc i => let s := gfShift m poly acc; if b.testBit (m - 1 - i) then s ^^^ a else s) 0

/-- α^e. -/
def gfPow (m poly : Nat) (e : Nat) : Nat := (List.range e).foldl (fun a _ => gfShift m poly a) 1

/-- a^(2^m − 2): the inverse of a ≠ 0. -/
def gfInv (m poly a : Nat) : Nat :=
  ((List.range (m - 1)).foldl (fun (acc : Nat × Nat) _ =>
    let sq := gfMul m poly acc.1 acc.1
    (sq, gfMul m poly acc.2 sq)) (a, 1)).2

/-- Value of a polynomial, lowest coefficient first, at x. -/
def gfEval (m poly : Nat) (p : List Nat) (x : Nat) : Nat := p.foldr (fun c acc => gfMul m poly acc x ^^^ c) 0

/-- Sum of two polynomials. -/
def gfAdd (a b : List Nat) : List Nat :=
  (List.range (max a.length b.length)).map fun i => a.getD i 0 ^^^ b.getD i 0

/-- State of the Berlekamp–Massey iteration: connection polynomials C and B, L, shift and last discrepancy. -/
structure Bm where
  c : List Nat
  b : List Nat
  l : Nat
  sh : Nat
  d : Nat
deriving DecidableEq, Repr

/-- The error locator of a syndrome sequence S_1, S_2, …, lowest coefficient first, and its length L. -/
def bmLocator (m poly : Nat) (syn : List Nat) : List Nat × Nat :=
  let step (st : Bm) (n : Nat) : Bm :=
    let d := (List.range (st.l + 1)).foldl (fun acc i => acc ^^^ gfMul m poly (st.c.getD i 0) (syn.getD (n - i) 0)) 0
    if d = 0 then { st with sh := st.sh + 1 }
    else
      let k := gfMul m poly d (gfInv m poly st.d)
      let c := gfAdd st.c (List.replicate st.sh 0 ++ st.b.map (gfMul m poly k))
      if 2 * st.l ≤ n then { c := c, b := st.c, l := n + 1 - st.l, sh := 1, d := d }
      else { st with c := c, sh := st.sh + 1 }
  let r := (List.range syn.length).foldl step { c := [1], b := [1], l := 0, sh := 1, d := 1 }
  (r.c, r.l)

/-! Extended BCH(128,64) (R60, R61). -/

/-- g(x) of R60: the least common multiple of the minimal polynomials of α^1 to α^20, degree 63. -/
def bchGen : Nat := 0xa1ab815bc7ec8025

/-- Remainder of a polynomial of degree below n by g(x) of degree deg. -/
def polyMod (n deg g v : Nat) : Nat :=
  (List.range (n - deg)).foldl (fun v i => let top := n - 1 - i; if v.testBit top then v ^^^ (g * 2 ^ (top - deg)) else v) v

/-- Parity of the n low bits. -/
def weightOdd (n v : Nat) : Bool := (List.range n).foldl (fun p i => p ^^ v.testBit i) false

/-- The codeword of 64 information bits (R60). -/
def bchEncode (h : BitVec 64) : BitVec 128 :=
  let v := h.toNat * 2 ^ 63
  let c := v + polyMod 127 63 bchGen v
  BitVec.ofNat 128 (2 * c + (weightOdd 127 c).toNat)

/-- Decode with up to 10 corrections: the information bits and the number of corrected bits among c[127:1], where the
overall parity agrees with the corrected bits (R61, R111). -/
def bchDecode (c : BitVec 128) : Option (BitVec 64 × Nat) :=
  let v := c.toNat / 2
  let pow := (List.range 127).foldl (fun (acc : List Nat × Nat) _ => (acc.1 ++ [acc.2], gfShift 7 0x89 acc.2)) ([], 1)
  let at' (e : Nat) : Nat := pow.1.getD (e % 127) 1
  let syn := (List.range 20).map fun j =>
    (List.range 127).foldl (fun acc i => if v.testBit i then acc ^^^ at' ((j + 1) * i) else acc) 0
  let loc := bmLocator 7 0x89 syn
  let errs := (List.range 127).filter fun i => decide (gfEval 7 0x89 loc.1 (at' (127 - i)) = 0)
  if 10 < loc.2 ∨ errs.length ≠ loc.2 then none
  else
    let fixed := errs.foldl (fun v i => v ^^^ 2 ^ i) v
    if polyMod 127 63 bchGen fixed ≠ 0 ∨ (weightOdd 127 fixed) ≠ c.getLsbD 0 then none
    else some (BitVec.ofNat 64 (fixed / 2 ^ 63), errs.length)

/-! Burst sequences (R54–R57). -/

/-- A sequence of 64 bits by recurrence on earlier bits, b[63] = 0 (R55). -/
def seq64 (t : Nat) : List Bool :=
  ((List.range 57).foldl (fun (l : List Bool) _ => l ++ [l.getD (l.length - t) false ^^ l.getD (l.length - 6) false])
    (List.replicate 6 true)) ++ [false]

def w64 : List Bool := seq64 1
def c64 : List Bool := seq64 5

/-- SYNC, bit 63 first (R57), and AM_SYNC, its complement (R109). -/
def syncWord : BitVec 64 := 0x5E3AC6910F7B24D8#64
def amSync : BitVec 64 := ~~~ syncWord

/-- Bits of a word, most significant first. -/
def msbFirst {n : Nat} (x : BitVec n) : List Bool := (List.range n).map fun i => x.getLsbD (n - 1 - i)

/-- PAM2 levels (R54). -/
def pam2 (l : List Bool) : List Int := l.map fun b => if b then 3 else -3

/-- Gray PAM4 (R107): the earlier bit is the more significant. -/
def grayLevel (hi lo : Bool) : Int := if hi then (if lo then 1 else 3) else (if lo then -1 else -3)

/-- Pairs of bits as levels. -/
def pam4 : List Bool → List Int
  | a :: b :: r => grayLevel a b :: pam4 r
  | _ => []

/-- The 3,328 training symbols of the cold lead-in (R56). -/
def trainingSymbols : List Int :=
  let run := (List.range (6656 - 13)).foldl (fun (acc : List Bool × List Bool) _ =>
    let w := acc.2
    let b := (w.getD 12 false ^^ w.getD 2 false) ^^ (w.getD 1 false ^^ w.getD 0 false)
    (b :: acc.1, w.tail ++ [b])) ([], List.replicate 13 true)
  pam4 (List.replicate 13 true ++ run.1.reverse)

/-- Warm preamble: W64 three times, then W64 inverted (Table 3-1). -/
def warmPreamble : List Int := pam2 w64 ++ pam2 w64 ++ pam2 w64 ++ (pam2 w64).map (fun x => -x)

/-- Cold lead-in and warm preamble (Table 3-1). -/
def coldPreamble : List Int := (List.replicate 8 (pam2 c64)).flatten ++ trainingSymbols ++ warmPreamble

/-- +3, +3, −3, −3, eight times. -/
def postamble : List Int := (List.replicate 8 [3, 3, -3, -3]).flatten

/-! Frame header (R95–R99). -/

/-- Fields of a frame header (Table 4-2). -/
structure FrameHdr where
  type : Nat
  retx : Bool := false
  ackValid : Bool := false
  len : Nat := 0
  gen : BitVec 10 := 0
  seq : BitVec 32 := 0
  peer : Nat := 0
  nak : Nat := 0
  ack : BitVec 32 := 0
deriving DecidableEq, Repr

/-- HCS of the 120 bits above it (R96). -/
def hcs (v : Nat) : BitVec 8 := crc8 0xFF (beBytes 15 v)

/-- h[127:0] (Table 4-2). -/
def FrameHdr.bits (f : FrameHdr) : BitVec 128 :=
  let v := packBits [(32, f.ack.toNat), (10, f.nak), (14, f.peer), (32, f.seq.toNat), (10, f.gen.toNat), (14, f.len), (2, 0),
    (1, f.ackValid.toNat), (1, f.retx.toNat), (4, f.type)]
  BitVec.ofNat 128 (v * 256 + (hcs v).toNat)

def frameHdr (h : BitVec 128) : FrameHdr :=
  let v := h.toNat
  { type := bitsOf v 127 124, retx := bitOf v 123, ackValid := bitOf v 122, len := bitsOf v 119 106,
    gen := BitVec.ofNat 10 (bitsOf v 105 96), seq := BitVec.ofNat 32 (bitsOf v 95 64), peer := bitsOf v 63 50,
    nak := bitsOf v 49 40, ack := BitVec.ofNat 32 (bitsOf v 39 8) }

/-- A header is valid (R99). A FILL header's bits h[121:120] must be 0 too (DESIGN CHOICE, log 103: Table 4-2 ignores those bits of a header,
R99 asks that every other field of a FILL be 0, and neither says which of the two prevails). -/
def validHdr (h : BitVec 128) : Bool :=
  let f := frameHdr h
  decide (hcs (h.toNat / 256) = h.setWidth 8) &&
  (match f.type with
   | 0 => decide (h.toNat / 256 = 0)
   | 1 => decide (48 ≤ f.len ∧ f.len ≤ 16368)
   | 2 => decide (f.len = 0)
   | 3 => decide (48 ≤ f.len ∧ f.len ≤ 1024)
   | _ => false)

/-- Wire size of a frame (Table 4-3). -/
def wireSize (type len : Nat) : Nat := if type = 1 ∨ type = 3 then 20 + len else 16

def fillHdr : BitVec 128 := ({ type := 0 } : FrameHdr).bits

/-- Bytes of a frame on the wire: header, payload, trailer (R97, R98). -/
def frameBytes (h : BitVec 128) (payload : Bytes) : Bytes :=
  let b := beBytes 16 h.toNat
  let t := (frameHdr h).type
  if t = 1 ∨ t = 3 then b ++ payload ++ crc32Bytes (b ++ payload) else b

/-! Outer code (R101, R102). -/

/-- Generator of RS(544,514), lowest coefficient first. -/
def rsGen : List Nat :=
  ((List.range 30).foldl (fun (acc : List Nat × Nat) _ =>
    (gfAdd (0 :: acc.1) (acc.1.map (gfMul 10 0x409 acc.2)), gfShift 10 0x409 acc.2)) ([1], 1)).1

/-- The 30 parity symbols of 514 message symbols, c_29 first. -/
def rsParity (msg : List Nat) : List Nat :=
  let low := (rsGen.take 30).reverse
  msg.foldl (fun reg s =>
    let k := s ^^^ reg.headD 0
    let sh := reg.tail ++ [0]
    if k = 0 then sh else (sh.zip low).map fun p => p.1 ^^^ gfMul 10 0x409 k p.2) (List.replicate 30 0)

/-- A codeword, c_543 first. -/
def rsEncode (msg : List Nat) : List Nat := msg ++ rsParity msg

/-- Value of a word, c_543 first, at x. -/
def rsSyndrome (r : List Nat) (x : Nat) : Nat :=
  r.foldl (fun acc s => if acc = 0 then s else gfMul 10 0x409 acc x ^^^ s) 0

/-- Decode a received word, c_543 first: the message and the number of symbols corrected; none when the error pattern
cannot be resolved within 15 symbols. -/
def rsDecode (r : List Nat) : Option (List Nat × Nat) :=
  let pow := ((List.range 1023).foldl (fun (acc : List Nat × Nat) _ => (acc.2 :: acc.1, gfShift 10 0x409 acc.2)) ([], 1)).1.reverse
  let pw (e : Nat) : Nat := pow.getD (e % 1023) 1
  let syn := (List.range 30).map fun j => rsSyndrome r (pw j)
  if syn.all (fun x => decide (x = 0)) then some (r.take 514, 0)
  else
    let loc := bmLocator 10 0x409 syn
    let errs := (List.range 544).filter fun i => decide (gfEval 10 0x409 loc.1 (pw (1023 - i)) = 0)
    if 15 < loc.2 ∨ errs.length ≠ loc.2 then none
    else
      let omega := (List.range 30).map fun n =>
        (List.range (n + 1)).foldl (fun acc i => acc ^^^ gfMul 10 0x409 (loc.1.getD i 0) (syn.getD (n - i) 0)) 0
      let deriv := (List.range loc.1.length).map fun i => if i % 2 = 0 then loc.1.getD (i + 1) 0 else 0
      let fixed := errs.foldl (fun (r : List Nat) i =>
        let x := pw (1023 - i)
        let e := gfMul 10 0x409 (gfMul 10 0x409 (pw i) (gfEval 10 0x409 omega x)) (gfInv 10 0x409 (gfEval 10 0x409 deriv x))
        r.set (543 - i) (r.getD (543 - i) 0 ^^^ e)) r
      let again := (List.range 30).all fun j => decide (rsSyndrome fixed (pw j) = 0)
      if again then some (fixed.take 514, errs.length) else none

/-! Inner code (R103, R104). -/

/-- Codeword of a 120-bit message. -/
def innerEncode (msg : Nat) : Nat :=
  let c := msg * 128 + polyMod 127 7 0x89 (msg * 128)
  2 * c + (weightOdd 127 c).toNat

/-- Extended Hamming decoding of one pattern: the codeword, or none where it shows two errors. -/
def hammingDecode (v : Nat) : Option Nat :=
  let s := polyMod 127 7 0x89 (v / 2)
  let odd := weightOdd 128 v
  if s = 0 then some (if odd then v ^^^ 1 else v)
  else if ¬ odd then none
  else
    match (List.range 127).find? (fun i => decide (gfPow 7 0x89 i = s)) with
    | some i => some (v ^^^ 2 ^ (i + 1))
    | none => none

/-- Sum of the reliabilities of the bits in which two words differ; entry i of `rel` belongs to c[127−i]. -/
def changeCost (rel : List Nat) (a b : Nat) : Nat :=
  (List.range 128).foldl (fun acc i => if (a ^^^ b).testBit (127 - i) then acc + rel.getD i 0 else acc) 0

/-- Decode an inner codeword from hard decisions and reliabilities (R104): the word that passes on and the flag. -/
def innerDecode (hard : Bool) (v : Nat) (rel : List Nat) : Nat × Bool :=
  if hard then (match hammingDecode v with | some c => (c, false) | none => (v, true))
  else
    let weakest := ((sortBy (fun i => rel.getD i 0) (List.range 128)).take 4).map fun i => 127 - i
    let tries := (List.range 16).filterMap fun k =>
      hammingDecode ((List.range 4).foldl (fun x j => if k.testBit j then x ^^^ 2 ^ (weakest.getD j 0) else x) v)
    match minBy (fun c => (changeCost rel v c : Int)) tries with
    | some c => (c, false)
    | none => (v, true)

/-! Scrambler, pilots, burst payload (R106–R108, R114). -/

/-- n keystream bits from a state of the register, and the state after them (R106). -/
def keyBits (reg n : Nat) : List Bool × Nat :=
  let r := (List.range n).foldl (fun (acc : List Bool × Nat) _ =>
    let k := acc.2.testBit 30 ^^ acc.2.testBit 27
    (k :: acc.1, (2 * acc.2 + k.toNat) % 2 ^ 31)) ([], reg)
  (r.1.reverse, r.2)

/-- n keystream bits from the restart (R106). -/
def keystream (n : Nat) : List Bool := (keyBits (2 ^ 31 - 1) n).1

/-- Insert a pilot after every 255th data symbol, except the last (R108). -/
def withPilots (n : Nat) (j : Nat) (d : List Int) : List Int :=
  match n with
  | 0 => d
  | k + 1 => if d.length ≤ 255 then d
    else d.take 255 ++ (if j % 2 = 0 then 3 else -3) :: withPilots k (j + 1) (d.drop 255)

/-- Inner codewords, data symbols, pilots and symbols of a payload of n codewords (R114). -/
def innerCount (n : Nat) : Nat := (n * 5440 + 119) / 120
def payloadSymbols (n : Nat) : Nat :=
  if n = 0 then 0 else
    let d := 64 * innerCount n
    d + ((d + 254) / 255 - 1)

/-- Length of a burst in symbols (R138). -/
def burstLength (cold : Bool) (n : Nat) : Nat := (if cold then 4320 else 480) + payloadSymbols n

/-- Bytes of frame stream in n codewords (R138). -/
def streamBytes (n : Nat) : Nat := 1285 * n / 2

/-- Largest codeword count, up to 255, whose burst fits a space (R144). -/
def nMax (cold : Bool) (space : Nat) : Nat :=
  ((List.range 256).filter fun n => decide (burstLength cold n ≤ space)).getLastD 0

/-- Groups of ten bits as symbols. -/
def symbols10 (n : Nat) (bits : List Bool) : List Nat :=
  match n with
  | 0 => []
  | k + 1 => (bits.take 10).foldl (fun a b => 2 * a + b.toNat) 0 :: symbols10 k (bits.drop 10)

/-- Numbers of m bits as bits, most significant first. -/
def bitsOfNats (m : Nat) (l : List Nat) : List Bool := l.flatMap fun v => (List.range m).map fun i => v.testBit (m - 1 - i)

/-- Inner codewords of an outer bit stream, filled with zeros (R103). -/
def innerStream (n : Nat) (bits : List Bool) : List Bool :=
  match n with
  | 0 => []
  | k + 1 =>
    let m := (bits.take 120 ++ List.replicate (120 - (bits.take 120).length) false).foldl (fun a b => 2 * a + b.toNat) 0
    bitsOfNats 128 [innerEncode m] ++ innerStream k (bits.drop 120)

/-- Outer codewords of a message bit stream. -/
def outerStream (n : Nat) (bits : List Bool) : List Bool :=
  match n with
  | 0 => []
  | k + 1 => bitsOfNats 10 (rsEncode (symbols10 514 bits)) ++ outerStream k (bits.drop 5140)

/-- The payload symbols of a burst of n codewords from its frame stream (R100, R101, R103, R106–R108). -/
def payloadLine (n : Nat) (stream : Bytes) : List Int :=
  let bits := bitsOfNats 8 (stream.map (·.toNat))
  let coded := innerStream (innerCount n) (outerStream n (bits ++ List.replicate (5140 * n - bits.length) false))
  let sent := (coded.zip (keystream coded.length)).map fun p => p.1 ^^ p.2
  withPilots (innerCount n) 0 (pam4 sent)

/-- Fill the frame stream of n codewords after its last frame (R100). -/
def padStream (n : Nat) (stream : Bytes) : Bytes :=
  let left := streamBytes n - stream.length
  stream ++ (List.replicate (left / 16) (beBytes 16 fillHdr.toNat)).flatten ++ zeros (left % 16)

/-- The symbols of a burst (Table 3-1). -/
def burstLine (cold : Bool) (header : BitVec 64) (n : Nat) (stream : Bytes) : List Int :=
  (if cold then coldPreamble else warmPreamble) ++ pam2 (msbFirst syncWord) ++ pam2 (msbFirst (bchEncode header)) ++
  payloadLine n (padStream n stream) ++ postamble

/-- CRC8 over the upper 56 of 64 information bits (R59, Table 4-4). -/
def infoCrc (h : BitVec 64) : BitVec 8 := crc8 0xFF (beBytes 7 (h.toNat / 256))

/-- Information bits with their CRC. -/
def withCrc (upper : Nat) : BitVec 64 :=
  BitVec.ofNat 64 (upper * 256 + (crc8 0xFF (beBytes 7 upper)).toNat)

/-- The alignment marker's symbols (R109). -/
def markerLine (a : BitVec 64) : List Int :=
  pam2 (msbFirst amSync) ++ pam2 (msbFirst (bchEncode a)) ++ (List.replicate 16 [(-3 : Int), -1, 1, 3]).flatten

/-- Number of positions in which two words differ. -/
def hammingDist {n : Nat} (a b : BitVec n) : Nat := ((msbFirst (a ^^^ b)).filter id).length

/-- The n nearest to (e/2)·log10(x/y), within −m to +m, m a power of two: 10^(2n−1) ≤ (x/y)^e, compared exactly. -/
def logRatio (e : Nat) (m : Int) (x y : Nat) : Int :=
  let a := x ^ e
  let b := y ^ e
  let le (n : Int) : Bool :=
    let e := 2 * n - 1
    if 0 ≤ e then decide (b * 10 ^ e.toNat ≤ a) else decide (b ≤ a * 10 ^ (-e).toNat)
  (List.range 15).foldl (fun (n : Int) i => let k := n + ((2 ^ (14 - i) : Nat) : Int); if k ≤ m ∧ le k then k else n) (-m)

/-- The n nearest to 5120·log10(x/y), within −m to +m: a ratio of amplitudes in 1/256 dB. -/
def dbRatio (m : Int) (x y : Nat) : Int := logRatio 10240 m x y

end Sys2Proof.Machine
end

