-- ==== Sys2Proof/Machine/BiasOps.lean ====
section
/-!
DEFINITION. Shared operations of bias outputs and their loops (R231–R241, R260–R263).
-/
namespace Sys2Proof.Machine

/-- Budget current of a range at a code, in mA × 65,536 (R240). -/
def rangeCurrent (range code : Nat) : Nat :=
  match range with
  | 1 => 294912
  | 2 => 294912
  | 3 => 10 * code
  | 4 => 40 * code
  | _ => 0

/-- The code last applied: at the ball, or held back by the deglitcher. -/
def BiasOut.applied (b : BiasOut) : Nat := b.holding.getD b.code

/-- Budget current of an output: the greater of its applied and pending code's (R240); during a range change the greater
of the old range's at code 0 and the new one's at the code that follows. -/
def BiasOut.budget (b : BiasOut) : Nat :=
  match b.ranging with
  | some r => max (rangeCurrent b.range 0) (rangeCurrent r.target (r.code.getD 0))
  | none => rangeCurrent b.range (max b.applied (b.pending.getD 0))

/-- Sum of every output's budget current (R240). -/
def PhotonUnit.budget (u : PhotonUnit) : Nat := u.bias.toList.foldl (fun n b => n + b.budget) 0

/-- The sum with one output changed would pass the limit. -/
def PhotonUnit.exceeds (u : PhotonUnit) (o : Bias) (b : BiasOut) : Bool :=
  decide (u.aggLimit * 65536 < u.budget - (u.bias[o.val]).budget + b.budget) &&
    decide ((u.bias[o.val]).budget < b.budget)

/-- The lane of an output is under self-test (R235). -/
def State.biasTested (s : State) (o : Bias) : Bool := (s.lane[(laneOfBias o).val]).selftest

/-- A loop is running on an output: it owns the output, its slot and its filter channel (R263). -/
def BiasOut.owned (b : BiasOut) : Bool := match b.loop with | some l => decide (l.state ≠ .off) | none => false

/-- The ball steps to a code: loops and the DC-block auto-freeze see the step (R236, R257); dither reference pins follow
(R253). -/
def State.stepBall (s : State) (o : Bias) (code : Nat) : State :=
  let old := (s.bias o).code
  let size := max old code - min old code
  let s := s.modBias o fun b => { b with code := code, holding := none, loop := b.loop.map fun l =>
    { l with reference := decide (l.centre < (code : Int)) } }
  s.modPhoton fun u => { u with
    filter := u.filter.map fun c => if c.autoOutput = some o.val ∧ c.stepThresh ≤ size then { c with autoFrozen := true } else c
    pins := u.pins.map fun p => if p.mode = .output ∧ p.source = 2 ∧ p.arg = o.val then
      { p with high := match (s.bias o).loop with | some l => l.reference | none => false } else p }

/-- Forced zero scale (R236, R237, R238): at once, discarding the pending code; SAFE_CODE is in force no longer. -/
def State.zeroBias (s : State) (o : Bias) : State := (s.stepBall o 0).modBias o fun b => { b with pending := none, safe := none }

/-- Change an output's range under R237, after the changes in progress: zero scale in the old range and the pending code discarded. -/
def State.moveRange (s : State) (o : Bias) (c : RangeChange) : State :=
  if (s.bias o).ranging.isSome then s.modBias o fun b => { b with ranges := b.ranges ++ [c] }
  else (s.stepBall o 0).modBias o fun b => { b with pending := none, ranging := some c }

/-- The range an output has once its changes have ended. -/
def BiasOut.rangeAtEnd (b : BiasOut) : Nat := match b.ranges.getLast? with
  | some c => c.target
  | none => match b.ranging with
    | some c => c.target
    | none => b.range

/-- Apply a code: the deglitcher holds back a step of 4,096 or more, or one that changes bits [15:12] (R236). -/
def State.applyBias (s : State) (o : Bias) (n : Nat) : State :=
  let old := (s.bias o).code
  if 4096 ≤ max old n - min old n ∨ n / 4096 ≠ old / 4096 then s.modBias o fun b => { b with holding := some n }
  else s.stepBall o n

/-- An accepted write becomes the pending code; a replaced one is counted (R235). It fits the budget (R240). -/
def BiasOut.write (b : BiasOut) (code : Nat) : BiasOut :=
  { b with pending := some code, aggClamp := false, replaced := if b.pending.isSome then satW 32 (b.replaced + 1) else b.replaced }

/-- The largest code of an output within the budget, no greater than `code` (R240). -/
def PhotonUnit.fit (u : PhotonUnit) (o : Bias) (code : Nat) : Nat :=
  let b := u.bias[o.val]
  let room := u.aggLimit * 65536 - (u.budget - b.budget)
  match b.range with
  | 3 => min code (room / 10)
  | 4 => min code (room / 40)
  | _ => code

/-- The code nearest to a code within the limits (R234). -/
def BiasOut.inLimits (b : BiasOut) (code : Nat) : Nat := max b.codeMin (min b.codeMax code)

/-- The code that a loop's write leaves pending (R234, R240). -/
def PhotonUnit.loopCode (u : PhotonUnit) (o : Bias) (code : Nat) : Nat :=
  let b := u.bias[o.val]
  let c := b.inLimits code
  if u.exceeds o (b.write c) then u.fit o c else c

/-- A loop's write: within the limits (R234); one that would raise the sum above the budget limit is clamped to it, with
AGG_CLAMP set until a write fits (R240); none while a fault is latched or the range changes. -/
def State.loopWrite (s : State) (o : Bias) (code : Nat) : State :=
  let b := s.bias o
  if b.fault ≠ 0 ∨ b.ranging.isSome then s
  else
    let c := s.photon.loopCode o code
    s.modBias o fun b => { b.write c with aggClamp := decide (c ≠ b.inLimits code) }

/-- Number of a freeze cause in EV_BIAS_LOOP_FROZEN: its place in the list of R262. -/
def FreezeCause.code : FreezeCause → Nat
  | .imageSwap => 0
  | .cover => 1
  | .selftest => 2
  | .fault => 3
  | .trip => 4
  | .lanePower => 5
  | .dormant => 6
  | .overrange => 7
  | .hold => 8
  | .laneReset => 9

/-- A freeze condition begins (R262, Table 8-9): a running loop writes its centre, stops its dither and enters FROZEN. At a
lane reset its output holds its code instead (Table 8-3). -/
def State.freezeLoop (s : State) (o : Bias) (c : FreezeCause) : State :=
  match (s.bias o).loop with
  | none => s
  | some l =>
    match l.state with
    | .off => s
    | .frozen => s.modBias o fun b => { b with loop := b.loop.map fun l =>
        { l with freezes := if l.freezes.contains c then l.freezes else l.freezes ++ [c] } }
    | _ =>
      let s := if c = .laneReset then s else s.loopWrite o l.nextCentre.toNat
      (s.modBias o fun b => { b with loop := b.loop.map fun l =>
        { l with state := .frozen, centre := l.nextCentre, freezes := [c] } }).raise .biasLoopFrozen o.val c.code

/-- A freeze condition ends: with none left the loop resets its demodulation and returns to SETTLE (Table 8-9). -/
def State.thawLoop (s : State) (o : Bias) (c : FreezeCause) : State :=
  s.modBias o fun b => { b with loop := b.loop.map fun l =>
    let left := l.freezes.filter (· ≠ c)
    if l.state = .frozen ∧ left = [] then
      { l with state := .settle, freezes := [], positive := false, acc := 0, samples := 0, halfSamples := l.params.h,
               within := 0, outside := 0, railed := 0 }
    else { l with freezes := left } }

/-- Freeze or thaw the four loops of a lane (R231). -/
def State.freezeLane (s : State) (p : Phys) (c : FreezeCause) : State :=
  s.each [0, 1, 2, 3] fun k s => s.freezeLoop (biasOf p k) c

def State.thawLane (s : State) (p : Phys) (c : FreezeCause) : State :=
  s.each [0, 1, 2, 3] fun k s => s.thawLoop (biasOf p k) c

/-- Freeze or thaw every loop. -/
def State.freezeAll (s : State) (c : FreezeCause) : State := s.each biasAll fun o s => s.freezeLoop o c
def State.thawAll (s : State) (c : FreezeCause) : State := s.each biasAll fun o s => s.thawLoop o c

/-- Conditions latched on an output (R238). -/
def BiasOut.latched (b : BiasOut) : List Nat := if b.fault = 0 then [] else b.fault :: b.moreFaults

/-- Latch one more condition: FAULT keeps naming the first. DESIGN CHOICE, log 103: Table 8-4 shows one and does not say which. -/
def BiasOut.latch (b : BiasOut) (fault : Nat) : BiasOut :=
  if b.latched.contains fault then b
  else if b.fault = 0 then { b with fault := fault, moreFaults := [] } else { b with moreFaults := b.moreFaults ++ [fault] }

/-- Latch a fault and force zero scale (R238); a fault during a range change ends it in OFF (R237), and the command that
waits for the change has failed. -/
def State.latchFault (s : State) (o : Bias) (fault : Nat) : State :=
  let waiting := (s.bias o).ranging.bind (·.sess)
  let s := (s.freezeLoop o .fault).zeroBias o
  let s := s.modBias o fun b => { b.latch fault with range := if b.ranging.isSome then 0 else b.range, ranging := none, ranges := [] }
  match waiting with
  | some k => s.answer k 0x0803 .badState 0 []
  | none => s

/-- Loop slots a unit's loops hold (R247, R263). -/
def State.loopSlots (s : State) (u : Mon) : List Nat :=
  biasAll.filterMap fun o => match (s.bias o).loop with
    | some l => if l.state ≠ .off ∧ bankOfPhys (laneOfBias o) = u.val then some l.params.slot else none
    | none => none

/-- The unit of an output's bank (R243). -/
def monOfBias (o : Bias) : Mon := finOf 8 (bankOfPhys (laneOfBias o))

/-- A filter channel owned by a running loop other than that of `o` (R263), or named by a sequence entry other than those of
`skip`. -/
def State.fchTaken (s : State) (c : Nat) (o : Option Bias) (skip : Option (Mon × Bool)) : Bool :=
  biasAll.any (fun x => decide (some x ≠ o) && match (s.bias x).loop with
    | some l => decide (l.state ≠ .off) && l.params.filter && decide (l.params.fch = c)
    | none => false) ||
  (List.finRange 8).any (fun u =>
    (decide (some (u, false) ≠ skip) && (s.mon u).reg.entries.any (fun e => e.fch = some c)) ||
    (decide (some (u, true) ≠ skip) && (s.mon u).inj.entries.any (fun e => e.fch = some c)))

/-- The loop that owns a filter channel (R263); with `idle` also one that names it without running, as before its start. -/
def State.fchLoop (s : State) (c : Nat) (idle : Bool) : Option Bias := biasAll.find? fun x => match (s.bias x).loop with
  | some l => (idle || decide (l.state ≠ .off)) && l.params.filter && decide (l.params.fch = c)
  | none => false

/-- Status record of an output as its state is (Table 8-4). -/
def State.biasRecordNow (s : State) (o : Bias) : Bytes :=
  let b := s.bias o
  recWord [(10, o.val), (3, b.range), (1, b.ranging.isSome.toNat), (1, b.holding.isSome.toNat),
    (1, b.pending.isSome.toNat), (1, b.owned.toNat), (3, b.fault),
    (3, match b.loop with
      | none => 0
      | some l => match l.state with | .off => 0 | .settle => 1 | .locked => 2 | .rail => 3 | .frozen => 4),
    (1, b.aggClamp.toNat), (1, b.safe.isSome.toNat), (1, (s.biasTested o).toNat)] ++
  recWord [(16, b.code), (16, b.pending.getD 0)] ++ recWord [(16, b.codeMin), (16, b.codeMax)] ++
  recWord [(16, b.safeCode), (12, b.sense)]

/-- Status record of an output (Table 8-4): under a self-test with its last values from before the test, marked STALE. -/
def State.biasRecord (s : State) (o : Bias) : Bytes :=
  match s.sec.test with
  | none => s.biasRecordNow o
  | some t => match tabGet t.before o.val with
    | some b => b.set 3 (b.getD 3 0 ||| 2)
    | none => s.biasRecordNow o

end Sys2Proof.Machine
end

