-- ==== Sys2Proof/Machine/MonOps.lean ====
section
/-!
DEFINITION. Shared operations of monitor units and filter channels (R242–R259).
-/
namespace Sys2Proof.Machine

/-- The bank whose unit reaches a monitor channel; internal channels belong to every unit (Table 8-5). -/
inductive ChanReach where
  | bank (b : Nat)
  | everyUnit
  | reserved
deriving DecidableEq, Repr

def chanReach (a : Nat) : ChanReach :=
  if a < 0x110 then .bank (a / 2 / 17)
  else if 0x200 ≤ a ∧ a < 0x420 then .bank ((a - 0x200) / 4 / 17)
  else if 0x7F0 ≤ a ∧ a ≤ 0x7F6 then .everyUnit
  else .reserved

/-- The lane that owns a monitor channel. -/
def chanLane (a : Nat) : Option Phys :=
  if a < 0x110 then some (finOf 136 (a / 2)) else if 0x200 ≤ a ∧ a < 0x420 then some (finOf 136 ((a - 0x200) / 4)) else none

/-- A unit, or the pair it leads, reaches a channel (R243). -/
def State.reaches (s : State) (u : Mon) (a : Nat) : Bool :=
  match chanReach a with
  | .everyUnit => true
  | .reserved => false
  | .bank b => decide (b = u.val) || ((s.mon u).paired && decide (b / 2 = u.val / 2))

/-- The upper unit of a pair: its sequences are suspended (R243). -/
def State.suspended (s : State) (u : Mon) : Bool := (s.mon u).paired && decide (u.val % 2 = 1)

/-- A channel's lane is under self-test (R252). -/
def State.chanTested (s : State) (a : Nat) : Bool :=
  match chanLane a with | some p => (s.lane[p.val]).selftest | none => false

/-- A unit's event source (R376). -/
def monSrc (u : Mon) : Nat := 0x8000 + u.val

/-- The monitor units stand still in DORMANT (Table 8-3). -/
def State.monStopped (s : State) : Bool := decide (s.sys.power.dev = .dormant)

/-- Time since the start of a unit's latest loop slot, in ps: by DEVICE_TIME, and at least 40 ns for every conversion that has
ended since. -/
def State.slotAge (s : State) (m : MonUnit) (start : Time) : Nat :=
  max (s.since start * 1000000000000000 / s.mgmtMHz) (40000 * m.sinceSlot)

/-- A conversion that starts now ends at or before the start of the unit's next loop conversion (R247, R248). A unit that holds loop
slots starts none before its frame has been heard once: its start time is not in the state (DESIGN CHOICE, log 116). -/
def State.convFits (s : State) (u : Mon) : Bool :=
  let m := s.mon u
  match m.lastSlot with
  | none => decide (s.loopSlots u = [])
  | some (slot, start) =>
    let frame := 40000 * m.frame
    let pos := (40000 * slot + s.slotAge m start) % frame
    (s.loopSlots u).all fun x => decide (40000 ≤ (40000 * x + frame - pos) % frame)

/-- Start the waiting conversion: injected, then ad-hoc, then regular, where it fits before the next loop conversion (R248).
The sequences of a suspended unit wait (R243). -/
def State.schedule (s : State) (u : Mon) : State :=
  let m := s.mon u
  if m.busy.isSome ∨ s.monStopped ∨ ¬ s.convFits u then s
  else if m.inj.running.isSome ∧ ¬ s.suspended u then s.modMon u fun m => { m with busy := some .injected }
  else if m.adhoc ≠ [] then s.modMon u fun m => { m with busy := some .adhoc }
  else if m.reg.running.isSome ∧ ¬ s.suspended u then s.modMon u fun m => { m with busy := some .regular }
  else s

/-- A regular run starts: TRIG pins with that source pulse (R253). -/
def State.regularRun (s : State) (u : Mon) : State :=
  let s := s.modMon u fun m => { m with reg := { m.reg with running := some (0, 0), restart := false, heldStart := false } }
  s.modPhoton fun x => { x with pins := x.pins.map fun p =>
    if p.mode = .output ∧ p.source = 1 ∧ p.arg = u.val then { p with high := true } else p }

/-- An injected trigger (R249, R251): start the sequence, aborting a regular conversion; or become pending; or be lost. -/
def State.injectTrigger (s : State) (u : Mon) : State :=
  let m := s.mon u
  if s.suspended u ∨ s.monStopped ∨ m.inj.entries = [] then s
  else if m.inj.running.isSome then
    if m.inj.pending then
      (s.modMon u fun m => { m with inj := { m.inj with lost := satW 16 (m.inj.lost + 1) } }).raise .monTrigLost (monSrc u)
    else s.modMon u fun m => { m with inj := { m.inj with pending := true } }
  else
    (s.modMon u fun m =>
      let m := { m with inj := { m.inj with running := some (0, 0) } }
      if m.busy = some .regular then
        { m with busy := none, reg := { m.reg with restart := true, running := m.reg.running.map fun r => (r.1, 0) } }
      else m).schedule u

/-- A regular trigger of a TRIG sequence (R245, R251). -/
def State.regularTrigger (s : State) (u : Mon) : State :=
  let m := s.mon u
  if s.suspended u ∨ s.monStopped ∨ m.reg.entries = [] ∨ m.reg.mode ≠ 1 then s
  else if m.reg.running.isSome then
    if m.reg.pending then
      (s.modMon u fun m => { m with reg := { m.reg with lost := satW 16 (m.reg.lost + 1) } }).raise .monTrigLost (monSrc u)
    else s.modMon u fun m => { m with reg := { m.reg with pending := true } }
  else (s.regularRun u).schedule u

/-- An urgent condition (R246): 1 loss of signal, 2 driver fault, 3 bias protection, with its lane or output. -/
def State.urgent (s : State) (kind idx : Nat) : State :=
  s.each (List.finRange 8) fun u s =>
    if (s.mon u).inj.urgent = kind ∧ (s.mon u).inj.urgentIdx = idx then s.injectTrigger u else s

/-- A filter channel's event source (R376). -/
def fchSrc (c : Fch) : Nat := 0xC000 + c.val

/-- One step of the four integrators of the CIC (R254). -/
def cicIntegrate (x : Int) : List Int → List Int
  | [] => []
  | a :: r => (a + x) :: cicIntegrate (a + x) r

/-- The comb of the CIC: each stage's output is its input less its last input. -/
def cicComb (x : Int) : List Int → List Int × Int
  | [] => ([], x)
  | d :: r => let t := cicComb (x - d) r; (x :: t.1, t.2)

/-- Conversions of an entry and of its whole regular sequence, and the unit, of the sequence that feeds a channel. -/
def State.fchEntry (s : State) (c : Nat) : Option (Mon × Nat × Nat) :=
  (List.finRange 8).findSome? fun u =>
    let total := ((s.mon u).reg.entries.map (·.repeats)).sum
    ((s.mon u).reg.entries ++ (s.mon u).inj.entries).findSome? fun e =>
      if e.fch = some c then some (u, e.repeats, total) else none

/-- The loop that is a channel's source: the one that owns it, or, where no entry feeds it, one that names it. -/
def State.sourceLoop (s : State) (c : Nat) : Option Bias := s.fchLoop c (s.fchEntry c).isNone

/-- The source's maximum rate divided by R passes one per round (R254), in exact integers. -/
def State.tooFast (s : State) (c : Nat) (r : Nat) : Bool :=
  match s.sourceLoop c with
  | some o => decide (s.mgmtMHz * (s.mon (monOfBias o)).frame * r < 25000000 * 64 * 1000)
  | none => match s.fchEntry c with
    | some (u, n, total) =>
      decide (s.mgmtMHz * total * r < (if (s.mon u).paired then 50000000 else 25000000) * 64 * 1000 * n)
    | none => false

/-- An input sample of a channel in NORMAL or TONE (R254), in converter LSB. While a change of sequence has made the source too fast,
a sample that would complete an output of the CIC before the last is served is excess: it is dropped and counted (R259). -/
def FilterCh.input (f : FilterCh) (tooFast : Bool) (x : Int) : FilterCh × Bool :=
  let integ := cicIntegrate x f.integ
  let r := 2 ^ f.m / 8
  if f.inCount + 1 < r then ({ f with integ := integ, inCount := f.inCount + 1 }, false)
  else if tooFast ∧ f.cicReady ≠ [] then ({ f with overrun := true, dropped := f.dropped + 1 }, true)
  else
    let c := cicComb (integ.getLastD 0) f.comb
    ({ f with integ := integ, comb := c.1, inCount := 0, cicReady := f.cicReady ++ [c.2] }, false)

/-- Feed a sequence conversion to its filter channel; `first` opens and `last` closes the visit of its entry (R258). -/
def State.feedEntry (s : State) (c : Nat) (x : Int) (first last : Bool) : State :=
  if 64 ≤ c then s
  else
    let c : Fch := finOf 64 c
    let f := s.photon.filter[c.val]
    match f.mode with
    | 1 =>
      let r := f.input (s.tooFast c.val (2 ^ f.m / 8)) x
      let s := s.modFilter c fun _ => r.1
      if r.2 then s.raise .filterOverrun (fchSrc c) else s
    | 3 =>
      s.modFilter c fun f =>
        let sum := if first then x else f.sum + x
        let n := if first then 1 else f.sumCount + 1
        if last then { f with sum := 0, sumCount := 0, ready := f.ready ++ [roundDiv (2048 * sum) n] }
        else { f with sum := sum, sumCount := n }
    | _ => s

/-- Feed a loop sample to its channel, in TONE multiplied by the dither reference (R254). -/
def State.feedLoop (s : State) (c : Nat) (x : Int) (positive : Bool) : State :=
  if 64 ≤ c then s
  else
    let c : Fch := finOf 64 c
    let f := s.photon.filter[c.val]
    if f.mode = 1 ∨ f.mode = 2 then
      let r := f.input (s.tooFast c.val (2 ^ f.m / 8)) (if positive ∨ f.mode = 1 then x else -x)
      let s := s.modFilter c fun _ => r.1
      if r.2 then s.raise .filterOverrun (fchSrc c) else s
    else s

/-- Result register word (Table 8-7). -/
def MonResult.word (r : MonResult) (stale : Bool) : Nat :=
  packBits [(12, r.code), (1, r.valid.toNat), (1, r.overrange.toNat), (1, r.restarted.toNat), (1, stale.toNat),
    (8, r.run.toNat), (7, 0), (1, r.new.toNat)]

/-- Result words of a unit: 32 regular, then 4 injected (R252). -/
def State.resultWords (s : State) (u : Mon) : List Nat :=
  let m := s.mon u
  (List.range 32).map (fun i => (m.regRes.toList.getD i {}).word
    (match m.reg.entries[i]? with | some e => s.chanTested e.chan | none => false)) ++
  (List.range 4).map (fun i => (m.injRes.toList.getD i {}).word
    (match m.inj.entries[i]? with | some e => s.chanTested e.chan | none => false))

/-- Any channel of a unit's sequences has its lane under self-test. -/
def State.monTested (s : State) (u : Mon) : Bool :=
  ((s.mon u).reg.entries ++ (s.mon u).inj.entries).any fun e => s.chanTested e.chan

end Sys2Proof.Machine
end

