-- ==== Sys2Proof/Machine/RxOps.lean ====
section
/-!
DEFINITION. Shared operations of the receive path: coefficients as bytes (Table 3-7), sample correction (R33), palettes
(R47–R49), captures (R50, R51), staged sets (R39, R40), states on mode changes (R46), diagnostics record (Table 2-10).
-/
namespace Sys2Proof.Machine

/-! Coefficients as the 136 bytes of portrait offsets 0x024–0x0AB (Table 3-7). -/

def nlcBytes (t : NlcTerm) : Bytes :=
  recWord [(10, ofSigned 10 t.q), (3, t.l1), (3, t.l2), (3, t.l3), (1, t.order3.toNat), (1, t.en.toNat)]

def nlcOf (w : Nat) : NlcTerm :=
  { q := toSigned 10 w, l1 := bitsOf w 12 10, l2 := bitsOf w 15 13, l3 := bitsOf w 18 16, order3 := bitOf w 19, en := bitOf w 20 }

def coeffBytes (c : Coeffs) : Bytes :=
  recWord [(6, c.cursor), (1, c.ffe17.toNat), (1, c.seqDet.toNat), (1, c.nlcOn.toNat), (7, 0), (10, ofSigned 10 c.dfe)] ++
  c.ffe.toList.flatMap (fun t => leBytes 2 (ofSigned 12 t)) ++ zeros 2 ++ c.nlc.toList.flatMap nlcBytes

/-- Positions a 17-tap FFE keeps: P−4 to P+12 (R42). -/
def keptTap (c : Coeffs) (i : Nat) : Bool := decide (c.cursor ≤ i + 4 ∧ i ≤ c.cursor + 12)

/-- Hold the taps a 17-tap FFE drops at zero (R42). -/
def Coeffs.drop17 (c : Coeffs) : Coeffs :=
  { c with ffe := Vector.ofFn fun i : Fin 33 => if keptTap c i.val then c.ffe[i.val] else 0 }

def coeffsOf (bs : Bytes) : Coeffs :=
  let w := fieldLE bs 0 4
  let c : Coeffs :=
    { cursor := bitsOf w 5 0, ffe17 := bitOf w 6, seqDet := bitOf w 7, nlcOn := bitOf w 8, dfe := toSigned 10 (bitsOf w 25 16),
      ffe := Vector.ofFn fun i : Fin 33 => toSigned 12 (fieldLE bs (4 + 2 * i.val) 2),
      nlc := Vector.ofFn fun t : Fin 16 => nlcOf (fieldLE bs (72 + 4 * t.val) 4) }
  if c.ffe17 then c.drop17 else c

/-! Samples. -/

/-- Symbols per CK_DSP cycle (R44). -/
def qOf (rate : Nat) : Nat := 128 / 2 ^ rate

/-- Slices in use (Table 2-2). -/
def slicesOf (rate : Nat) : Nat := if rate = 0 then 64 else 32

/-- The corrected sample of raw codes x[s−1], x[s] (R33), in 1/4 LSB: u in 1/16384 LSB, y rounded to nearest and saturated
to 10 bits. -/
def correctSample (sl : Vector Slice 64) (rate dgain s : Nat) (xp x : Byte) : Int :=
  let n := slicesOf rate
  let slice (i : Nat) : Slice := sl.toList.getD (i % n) {}
  let e := slice s
  let p := slice (s + n - 1)
  let u (e : Slice) (x : Byte) : Int := (8 * x.toInt + e.offset) * (2048 + (e.gain : Int) - 512)
  let y := (512 + e.bwK) * u e x - e.bwK * u p xp
  clampI (-512) 511 (roundDiv (y * dgain * 4) (8 * 2048 * 512 * 256))

/-- The slice set and DGAIN of a symbol: those in force before a set applied in this cycle, up to its symbol (R39). -/
def RxLane.setAt (r : RxLane) (s : Sym) : Vector Slice 64 × Nat :=
  match r.before with
  | some (at', sl, g) => if (at' - 1 - s).toNat < 128 then (sl, g) else (r.slices, r.dgain)
  | none => (r.slices, r.dgain)

/-- Corrected samples of consecutive raw codes from counter `s` on, after the raw code `xp`. -/
def RxLane.correctRun (r : RxLane) (s : Sym) (xp : Byte) (xs : Bytes) : List Int :=
  match xs with
  | [] => []
  | x :: l => correctSample (r.setAt s).1 r.rate (r.setAt s).2 s.toNat xp x :: r.correctRun (s + 1) x l

/-- A new estimation window starts with the N in force (R35). -/
def RxLane.newWindow (r : RxLane) (now : Time) : RxLane := { r with sums := { exp := r.nExp, start := now } }

/-- A sample of counter `s` after the raw code `xp` enters the statistics of its slice, until the slice has contributed its N;
a product is entered when its second sample counts too (R35, R36; DESIGN CHOICE, log 91). -/
def EstSums.add (e : EstSums) (rate : Nat) (s : Sym) (xp x : Byte) : EstSums :=
  let n := slicesOf rate
  let mod (st : Vector SliceStat 64) (s : Sym) (f : SliceStat → SliceStat) := vupd st (finOf 64 (s.toNat % n)) f
  let st := if e.last = some (s - 1) then mod e.stats (s - 1) fun t => { t with sumProd := t.sumProd + xp.toInt * x.toInt }
    else e.stats
  if 2 ^ e.exp ≤ (st.toList.getD (s.toNat % n) {}).count then { e with stats := st, last := none }
  else
    { e with
      stats := mod st s fun t => { t with count := t.count + 1, sum := t.sum + x.toInt, sumSq := t.sumSq + x.toInt * x.toInt }
      clipped := e.clipped + (decide (x = 0x80 ∨ x = 0x7F)).toNat
      last := some s }

/-- The samples of counters `s` on. -/
def EstSums.addRun (e : EstSums) (rate : Nat) (s : Sym) (xp : Byte) : Bytes → EstSums
  | [] => e
  | x :: l => (e.add rate s xp x).addRun rate (s + 1) x l

/-- Every slice in use has contributed N samples. -/
def EstSums.full (e : EstSums) (rate : Nat) : Bool :=
  (List.range (slicesOf rate)).all fun j => decide (2 ^ e.exp ≤ (e.stats.toList.getD j {}).count)

/-! Working lane of a receive path, and marker lock. -/

/-- The working lane that takes a receive path's frames: the lane it carries, or one moving from or to it (Table 6-6); none
for the source of a failure move (R183 step 1), and none for a lane marked FAILED, which passes no bits (R469). -/
def State.rxWork (s : State) (p : Phys) : Option Work :=
  if (s.ln p).failed then none
  else match workAll.findSome? (fun w => (s.wk w).move.bind fun m => if m.src = p ∨ m.dst = p then some (w, m) else none) with
  | some (w, m) =>
    if m.phase = .failing then none
    else if m.phase = .zeroWait ∧ m.dst = p then none
    else some w
  | none => s.workOf p

/-! Palettes. -/

/-- Throttle rungs of the working lane a physical lane carries. -/
def State.rungsOf (s : State) (p : Phys) : Nat :=
  match s.workOf p with
  | some w => (s.wk w).rungs
  | none => 0

/-- The palette whose P, FFE length and decision mode are in force (R47). -/
def RxLane.inForce (r : RxLane) : Coeffs :=
  let b := match r.fade with | some f => r.activeB ^^ f.past | none => r.activeB
  if b then r.paletteB else r.paletteA

def RxLane.active (r : RxLane) : Coeffs := if r.activeB then r.paletteB else r.paletteA

def RxLane.setActive (r : RxLane) (c : Coeffs) : RxLane :=
  if r.activeB then { r with paletteB := c } else { r with paletteA := c }

/-- Change the active coefficients. -/
def State.modActive (s : State) (p : Phys) (f : Coeffs → Coeffs) : State := s.modRx p fun r => r.setActive (f r.active)

/-- Outcomes of EV_RX_PALETTE and EV_TX_PALETTE: 0 STARTED, 1 HELD, 2 COMPLETED, 3 SUPERSEDED, 4 CANCELLED, 5 REFUSED. -/
def State.rxPalette (s : State) (p : Phys) (tag : BitVec 16) (outcome : Nat) (sym : Sym) : State :=
  s.raiseP .rxPalette p outcome tag.toNat (sym.toNat % 2 ^ 32)

/-- A fade is in progress: it has started (R47, Table 2-10 FADING). -/
def RxLane.fading (r : RxLane) : Bool := match r.fade with | some f => f.started | none => false

/-- Adaptation is frozen (R44). -/
def RxLane.frozenAdapt (r : RxLane) : Bool :=
  r.los || (decide (r.state ≠ .converge) && decide (r.state ≠ .locked)) || r.fading || r.coverFreeze || r.swapFreeze

/-- A swap request (Table 2-8, outside SLOTTED and OPEN). -/
def State.rxSwap (s : State) (p : Phys) (w : Swap) (sym : Sym) : Nat × State :=
  let r := s.rxl p
  if r.fade.isNone then (0, s.modRx p fun r => { r with fade := some { swap := w } })
  else
    let s := match r.heldSwap with
      | some old => (s.modDiag p fun d => { d with swapSuperseded := satW 16 (d.swapSuperseded + 1) }).rxPalette p old.tag 3 sym
      | none => s
    (1, (s.modRx p fun r => { r with heldSwap := some w }).rxPalette p w.tag 1 sym)

/-- The fade ends: the other palette is active, and a held request starts (Table 2-8). -/
def State.rxFadeEnd (s : State) (p : Phys) (sym : Sym) : State :=
  match (s.rxl p).fade with
  | none => s
  | some f =>
    let held := (s.rxl p).heldSwap
    let s := s.modRx p fun r => { r with
      activeB := !r.activeB, heldSwap := none, fade := held.map fun w => { swap := w, started := true, start := sym } }
    let s := (s.modDiag p fun d => { d with swapCompleted := satW 16 (d.swapCompleted + 1) }).rxPalette p f.swap.tag 2 sym
    match held with
    | some w => s.rxPalette p w.tag 0 sym
    | none => s

/-- The lane enters TUNE, DARK, SLOTTED or OPEN: the fade completes in one step and a held request is dropped. -/
def State.rxFadeSettle (s : State) (p : Phys) : State :=
  match (s.rxl p).fade with
  | none => s
  | some f =>
    let sym := (s.rxl p).symCount
    let held := (s.rxl p).heldSwap
    let s := s.modRx p fun r => { r with activeB := !r.activeB, fade := none, heldSwap := none }
    let s := (s.modDiag p fun d => { d with swapCompleted := satW 16 (d.swapCompleted + 1) }).rxPalette p f.swap.tag 2 sym
    match held with
    | some w => (s.modDiag p fun d => { d with swapSuperseded := satW 16 (d.swapSuperseded + 1) }).rxPalette p w.tag 4 sym
    | none => s

/-! Staged sets and captures. -/

/-- Discard a staged set with outcome CANCELLED (R40); DGAIN stays as LANE.SET_RX set it (R34). -/
def State.calCancel (s : State) (p : Phys) : State :=
  let was := (s.rxl p).stagedPending
  let s := s.modRx p fun r => { r with stagedPending := false }
  if was then s.raiseP .rxCalApplied p 2 ((s.rxl p).symCount.toNat % 2 ^ 32) else s

/-- End a capture that is armed, filling or complete (R50, R51): 4 with EV_RX_FLIPBOOK for a replay, 5 for a mode change. -/
def State.captureAbort (s : State) (p : Phys) (st : CaptureStatus) : State :=
  let c := (s.rxl p).capture
  if c.status = .armed ∨ c.status = .filling ∨ c.status = .complete then
    let s := s.modRx p fun r => { r with capture := { c with status := st }, frozen := if c.status = .complete then false else r.frozen }
    if st = .abortedReplay then s.raiseP .rxFlipbook p 4 else s
  else s

def captureCode : CaptureStatus → Nat
  | .idle => 0
  | .armed => 1
  | .filling => 2
  | .complete => 3
  | .abortedReplay => 4
  | .abortedMode => 5

def rxStateCode : RxState → Nat
  | .off => 0
  | .signalWait => 1
  | .timingAcq => 2
  | .converge => 3
  | .locked => 4
  | .burst => 5

/-! Mode changes (Table 2-7, R28, R40, Table 2-8, R50, R52). -/

/-- The receive path when its lane's mode changes. A lane that leaves SLOTTED or OPEN for TUNE starts in SIGNAL_WAIT, as one
that leaves DARK (DESIGN CHOICE, log 92: Tables 2-7 and 3-6 name no next state), with the DGAIN and deskew of LANE.SET_RX. Every mode
change starts a new estimation window and drops a snapshot not yet used (DESIGN CHOICE, log 111: R35 does not say). -/
def State.rxMode (s : State) (p : Phys) (old new : LaneMode) : State :=
  let s := if new = .tune ∨ new = .dark ∨ burstMode new then s.rxFadeSettle p else s
  let s := if new = .tune ∨ new = .dark then s.calCancel p else s
  let s := s.captureAbort p .abortedMode
  let st (r : RxLane) : RxState :=
    if new = .dark then .off else if burstMode new then .burst
    else if old = .dark ∨ burstMode old then .signalWait else r.state
  s.modRx p fun r =>
    let r := if old = .dark then
        { r with symCount := 0, los := false, losLow := 0, losHigh := 0, corrected := [], raws := [], eq := {}, before := none }
      else r
    let r := if new = .dark ∨ (burstMode old ∧ ¬ burstMode new) then
        { r with dgain := r.dgainSet, stagedDgain := none, deskew := r.deskewSet, eq := { next := r.symCount, out := r.symCount } }
      else r
    { (r.newWindow s.now) with state := st r, agcOn := continuousMode new && !r.los, diag := r.diag.restart, window := none }

/-- The receive diagnostics record (Table 2-10). -/
def State.rxRecord (s : State) (p : Phys) : Bytes :=
  let r := s.rxl p
  let d := r.diag
  let b : BurstMeas := if burstMode (s.modeOf p) then r.committed
    else { freqOffset := r.freqOffset, timingPhase := r.timingPhase, dgain := r.dgain, snr := d.snr, eyeMin := d.eyeMin }
  let c := r.inForce
  let rungs := s.rungsOf p
  leBytes 1 1 ++ leBytes 1 p.val ++ leBytes 1 (match s.workOf p with | some w => w.val | none => 255) ++
  leBytes 1 (packBits [(4, (s.modeOf p).code), (4, rxStateCode r.state)]) ++
  recWord [(4, r.ctle), (7, r.vga), (2, r.rate), (1, r.activeB.toNat), (1, r.fading.toNat), (1, r.heldSwap.isSome.toNat),
    (1, c.seqDet.toNat), (1, (c.nlcOn && decide (rungs < 2)).toNat), (1, (c.ffe17 || decide (3 ≤ rungs)).toNat),
    (1, r.frozenAdapt.toNat), (1, (s.ln p).pinned.toNat), (1, (s.ln p).selftest.toNat), (3, captureCode r.capture.status)] ++
  leBytes 8 s.now.toNat ++ leBytes 4 (ofSigned 24 b.freqOffset) ++ leBytes 2 b.timingPhase.toNat ++ leBytes 2 b.dgain ++
  leBytes 2 b.snr.toNat ++ leBytes 2 b.eyeMin.toNat ++ leBytes 4 d.levelMean.toNat ++ leBytes 4 d.levelSigma.toNat ++
  leBytes 4 d.pilotErrors ++ leBytes 2 d.losCount ++ leBytes 2 d.lolCount ++ leBytes 4 d.clipCount ++ leBytes 2 d.calApplied ++
  leBytes 2 d.calRejected ++ leBytes 2 d.swapCompleted ++ leBytes 2 d.swapSuperseded ++ leBytes 6 d.lastCalSymbol.toNat ++ zeros 2

/-- Bursts in progress, oldest first. -/
def Acq.bursts (a : Acq) : List Burst := a.decoding ++ a.cur.toList

/-- Change the bursts in progress that meet a condition. -/
def Acq.mapBursts (a : Acq) (c : Burst → Bool) (f : Burst → Burst) : Acq :=
  { a with decoding := a.decoding.map (fun b => if c b then f b else b), cur := a.cur.map fun b => if c b then f b else b }

end Sys2Proof.Machine
end

