-- ==== Sys2Proof/Machine/Dsp.lean ====
section
/-!
DEFINITION. The receive datapath as arithmetic: the equaliser with its slicer and sequence detector (R41–R43, R47), pilots
(R108, R123), adaptation (R44), the timing loop (R45), and the acquisition detectors (R64–R68).
-/
namespace Sys2Proof.Machine

/-! Samples and levels. -/

/-- Half the level spacing in 1/4 LSB: the default AGC target of 40 LSB leaves the outer levels at ±60 LSB (R28), other targets in
proportion (DEDUCED, log 93). -/
def RxLane.level (r : RxLane) : Nat := 2 * r.agcTarget

/-- The corrected sample of a counter: from the last 256, else from the ring with DGAIN `g`, which is that of the burst it belongs to
(R34, R81); 0 where neither holds it. -/
def RxLane.yAt (r : RxLane) (g : Nat) (i : Sym) : Int :=
  let back := (r.symCount - 1 - i).toNat
  match r.corrected[back]? with
  | some y => y
  | none =>
    if 4095 ≤ back then 0
    else correctSample r.slices r.rate g i.toNat (memRead 0 r.ring ((i - 1).toNat % 4096)) (memRead 0 r.ring (i.toNat % 4096))

/-- A sample as the main equaliser takes it: 0 where its word of the ring read with an error (Table 11-3). -/
def RxLane.taken (r : RxLane) (g : Nat) (i : Sym) : Int :=
  if r.eq.zero.contains (i.toNat % 4096 / 4) then 0 else r.yAt g i

/-- The n corrected samples that end at a counter, earliest first, where the last 256 hold them all. -/
def RxLane.stretch (r : RxLane) (last : Sym) (n : Nat) : Option (List Int) :=
  let back := (r.symCount - 1 - last).toNat
  if back + n ≤ r.corrected.length then some ((r.corrected.drop back).take n).reverse else none

/-! The main equaliser. -/

/-- What an equaliser works with in a CK_DSP cycle: cursor, taps and DFE tap times `scale`, compensator terms with their weights. -/
structure EqSet where
  cursor : Nat
  taps : List Int
  dfe : Int
  nlc : List (NlcTerm × Int)
  scale : Nat
  det : Bool
deriving DecidableEq, Repr

/-- The terms a palette's compensator adds, with a weight. -/
def Coeffs.terms (c : Coeffs) (weight : Int) : List (NlcTerm × Int) :=
  if c.nlcOn then (c.nlc.toList.filter (·.en)).map fun t => (t, weight) else []

/-- The coefficients of a cycle from the active palette `act` (R41, R42): in a fade each tap and term is (1 − α) old + α new (R47);
rung 2 of the throttle ladder removes the compensator, rung 3 the taps a 17-tap FFE drops (Table 2-5). -/
def RxLane.eqSet (r : RxLane) (act : Coeffs) (rungs : Nat) : EqSet :=
  let new := if r.activeB then r.paletteA else r.paletteB
  let q := qOf r.rate
  let (total, k) : Nat × Nat := match r.fade with
    | some f => if f.started then (f.total q, f.steps q r.symCount) else (1, 0)
    | none => (1, 0)
  let c := if k = 0 then act else r.inForce
  let mix (a b : Int) : Int := (total - k : Nat) * a + k * b
  { cursor := c.cursor
    taps := (List.range 33).map fun i =>
      if (c.ffe17 || decide (3 ≤ rungs)) && !keptTap c i then 0 else mix (act.ffe.toList.getD i 0) (new.ffe.toList.getD i 0)
    dfe := mix act.dfe new.dfe
    nlc := if 2 ≤ rungs then [] else act.terms (total - k : Nat) ++ (if k = 0 then [] else new.terms k)
    scale := total
    det := c.seqDet }

/-- 2048 · scale · level² times the output of a symbol before decision feedback (R41): the products of the compensator are scaled
to the level spacing (DESIGN CHOICE, log 25). -/
def EqSet.feed (e : EqSet) (l : Nat) (y : Sym → Int) (s : Sym) : Int :=
  let at' (k : Nat) : Int := y (s - BitVec.ofNat 48 k)
  let lin := (List.range 33).foldl (fun acc i => acc + e.taps.getD i 0 * y (s + BitVec.ofNat 48 e.cursor - BitVec.ofNat 48 i)) 0
  let term (t : NlcTerm) : Int := t.q * at' t.l1 * at' t.l2 * (if t.order3 then at' t.l3 else (l : Int))
  2 * (l : Int) ^ 2 * lin + (e.nlc.map fun t => t.2 * term t.1).sum

/-- The level nearest to an output, for a step between half spacings (R41). -/
def sliceAt (z u : Int) : Int := if 2 * u ≤ z then 3 else if 0 ≤ z then 1 else if -(2 * u) ≤ z then -1 else -3

/-- One symbol of the sequence detector: the two best hypotheses that differ in their last decision, scored with the DFE tap as
the post-cursor interference (R43). -/
def pathStep (paths : List EqPath) (f d u : Int) : List EqPath :=
  let cand := paths.flatMap fun p => [-3, -1, 1, 3].map fun (a : Int) =>
    ({ score := p.score + ((f - d * p.path.headD 0 - a * u) ^ 2).toNat, path := (a :: p.path).take 32 } : EqPath)
  match minBy (fun c => (c.score : Int)) cand with
  | none => []
  | some b =>
    let other := minBy (fun (c : EqPath) => (c.score : Int)) (cand.filter fun c => decide (c.path.headD 0 ≠ b.path.headD 0))
    ([b] ++ other.toList).map fun c => { c with score := c.score - b.score }

/-- The detector's setting changes on the first symbol of a cycle (R43). -/
def Equaliser.switch (q : Equaliser) (det : Bool) : Equaliser :=
  if q.det = det then q
  else { q with det := det, since := q.next, paths := if det then [{ score := 0, path := q.recent.map (·.slice) }] else [] }

/-- The decision of a symbol that is released once symbol `s` is equalised (R43). -/
def Equaliser.decide' (q : Equaliser) (s m : Sym) : Int :=
  if q.det ∧ 16 ≤ (m - q.since).toNat then
    (match q.paths with
     | b :: _ => b.path.getD (s - m).toNat 0
     | [] => 0)
  else match q.recent.find? (fun x => decide (x.sym = m)) with
    | some x => x.slice
    | none => 0

/-- Decisions released once symbol `s` is equalised: at once from the slicer, 16 symbols later from the detector, whose first 16
come from the slicer (R43). -/
def Equaliser.release (q : Equaliser) (s : Sym) : Equaliser :=
  let k := (s - q.since).toNat
  let n := if ¬ q.det ∨ k < 16 then (s + 1 - q.out).toNat else max 16 (k - 15) - (q.out - q.since).toNat
  let n := min n 32
  { q with
    out := q.out + BitVec.ofNat 48 n
    decided := q.decided ++ (List.range n).map fun i => (q.out + BitVec.ofNat 48 i, q.decide' s (q.out + BitVec.ofNat 48 i)) }

/-- Equalise and decide one symbol (R41). -/
def Equaliser.one (q : Equaliser) (e : EqSet) (l : Nat) (y : Sym → Int) : Equaliser :=
  let s := q.next
  let f := e.feed l y s
  let u : Int := 2048 * e.scale * (l : Int) ^ 3
  let d : Int := 2 * (l : Int) ^ 3 * e.dfe
  let z := f - d * q.prev
  let a := sliceAt z u
  ({ q with
     next := s + 1
     prev := a
     recent := ({ sym := s, z := z, step := u, slice := a } :: q.recent).take 288
     paths := if q.det then pathStep q.paths f d u else [] } : Equaliser).release s

/-- Equalise n symbols. -/
def Equaliser.run (e : EqSet) (l : Nat) (y : Sym → Int) : Nat → Equaliser → Equaliser
  | 0, q => q
  | n + 1, q => Equaliser.run e l y n (q.one e l y)

/-- The symbols of the last n equalised, earliest first. -/
def Equaliser.latest (q : Equaliser) (n : Nat) : List EqSym := (q.recent.take n).reverse

/-- Begin a stretch of symbols at a counter; the decision before it is that of the outer level its sample shows (DESIGN CHOICE,
log 25); `g` is the burst's DGAIN. -/
def RxLane.beginAt (r : RxLane) (g : Nat) (s : Sym) : RxLane :=
  { r with eq := { r.eq with
    next := s, out := s, since := s, recent := [], zero := [], paths := if r.eq.det then [{ score := 0, path := [] }] else []
    prev := if 0 ≤ r.yAt g (s - 1) then 3 else -3 } }

/-- How many symbols a continuous mode equalises now: a symbol is equalised once 32 later samples are known, which reaches every
cursor position (DESIGN CHOICE, log 25). -/
def RxLane.due (r : RxLane) : Nat :=
  let n := (r.symCount - r.eq.next).toNat
  if 4096 < n then 0 else n - 32

/-- Equalise n symbols with the active palette `act` and the DGAIN `g`. -/
def RxLane.equalise (r : RxLane) (act : Coeffs) (g rungs n : Nat) : RxLane :=
  let e := r.eqSet act rungs
  let q := { r.eq.switch e.det with decided := [] }
  { r with eq := Equaliser.run e r.level (r.taken g) n q }

/-! Adaptation. -/

/-- The step exponent under the throttle ladder (Table 2-5). -/
def slowed (rungs k : Nat) : Nat := if 1 ≤ rungs then min 20 (k + 2) else k

/-- The coefficients an update may change (R42, R44, Table 2-4, Table 2-5): FFE, DFE and NLC as they are on, dropped taps
and lags never. -/
def adaptMask (r : RxLane) (rungs : Nat) (old new : Coeffs) : Coeffs :=
  let ffe17 := old.ffe17 || decide (3 ≤ rungs)
  { old with
    ffe := if r.adaptFfe then
        Vector.ofFn fun i : Fin 33 => if ffe17 ∧ ¬ keptTap old i.val then old.ffe[i.val] else clampI (-2048) 2047 (new.ffe[i.val])
      else old.ffe,
    dfe := if r.adaptDfe then clampI (-512) 511 new.dfe else old.dfe,
    nlc := if r.adaptNlc && old.nlcOn && decide (rungs < 2) then
        Vector.ofFn fun t : Fin 16 => { old.nlc[t.val] with
          q := if (old.nlc[t.val]).en then clampI (-512) 511 (new.nlc[t.val]).q else (old.nlc[t.val]).q }
      else old.nlc }

/-! Pilots. -/

/-- Symbols of a superframe and of its run (R110). -/
def superframeSymbols : Nat := 11930763
def runSymbols : Nat := 11930507

/-- The known pilot at an index of a run or payload (R108). -/
def pilotAt (o : Nat) : Option Int := if o % 256 = 255 then some (if o / 256 % 2 = 0 then 3 else -3) else none

/-- A path that carries superframes (R132): STEADY, LOOP, SPARE. -/
def superframes (m : LaneMode) : Bool := decide (m = .steady ∨ m = .loop ∨ m = .spare)

/-- The known value of a symbol of a STEADY, LOOP or SPARE line. -/
def RxLane.runPilot (r : RxLane) (s : Sym) : Option Int :=
  let o := (s - r.runStart).toNat % superframeSymbols
  if o < runSymbols then pilotAt o else none

/-- Symbol index within a run of the first symbol that carries a bit of outer codeword k (R103, R107, R108). -/
def cwSymbol (k : Nat) : Nat :=
  let d := (128 * (5440 * k / 120) + 5440 * k % 120) / 2
  d + d / 255

/-- A symbol is the first to carry a bit of an outer codeword of a run (R39). -/
def RxLane.cwStarts (r : RxLane) (s : Sym) : Bool :=
  let o := (s - r.runStart).toNat % superframeSymbols
  (List.range 4096).any fun k => decide (cwSymbol k = o)

/-- A pilot error: the DFE slicer's decision differs from the known pilot (Table 2-6). -/
def knownErr (known : Sym → Option Int) (x : EqSym) : Option Bool := (known x.sym).map fun v => decide (x.slice ≠ v)

/-- A pilot error of a lane without pilots: on symbols at a multiple of 256, farther than a quarter of the spacing from the
nearest level (R123). -/
def farErr (x : EqSym) : Option Bool :=
  if x.sym.toNat % 256 = 0 then some (decide (x.step < 2 * ((x.z - x.slice * x.step).natAbs : Int))) else none

/-- The decision error of a cycle's symbols lies below the lock threshold: mean square below −22 dB of the level spacing, that is
below 10^(−2.2) times its square (Table 2-7). -/
def quietCycle (l : List EqSym) : Bool :=
  match l with
  | [] => false
  | x :: _ =>
    let sum : Int := (l.map fun y => (y.z - y.slice * y.step) ^ 2).sum
    decide (sum ^ 5 * 10 ^ 11 < (l.length * (2 * x.step) ^ 2) ^ 5)

/-- The second-order loop over a cycle of n symbols: the integrator is the frequency offset, which advances the timing phase
(R45). -/
def RxLane.track (r : RxLane) (n : Nat) (err : Int) : RxLane :=
  let g := Config.loopGains r.loopBw r.damping r.rate
  let f := clampI (-250000) 250000 (r.freqOffset + g.2 * err)
  let acc : Int := (r.timingPhase.toNat : Int) * 10 ^ 9 + r.eq.phaseFrac + 1024 * f * n + g.1 * err
  { r with freqOffset := f, timingPhase := BitVec.ofInt 10 (acc / 10 ^ 9), eq := { r.eq with phaseFrac := (acc % 10 ^ 9).toNat } }

/-! Burst payloads for the main equaliser (R80–R82). -/

/-- First payload symbol of a burst whose sync word has been found. -/
def Burst.firstPay (b : Burst) : Sym := b.syncAt.getD 0 + 129

/-- The payloads to process; where another one comes first, its stretch begins. -/
def RxLane.setJobs (r : RxLane) (l : List EqJob) : RxLane :=
  let r' := { r with eq := { r.eq with jobs := l } }
  match l with
  | j :: _ => if (r.eq.jobs.head?).map (·.first) = some j.first then r' else r'.beginAt j.dgain j.first
  | [] => r'

/-- Symbols of the first payload that can be equalised now: all that have arrived when it is taken live, at most n from the ring,
which feeds one sample a symbol. -/
def RxLane.jobDue (r : RxLane) (j : EqJob) (live : Bool) (n : Nat) : Nat :=
  let m := min r.due (j.last + 1 - r.eq.next).toNat
  if live then m else min n m

/-! TRANSPARENT bits (R122). -/

/-- Bits of received levels, the number of the level before them and whether precoding is undone: v = (p + p before) mod 4 is the
Gray number 0 to 3 of −3, −1, +1, +3. -/
def levelBits (pre : Bool) (last : Nat) : List Int → List Bool × Nat
  | [] => ([], last)
  | a :: l =>
    let p := ((a + 3) / 2).toNat
    let v := if pre then (p + last) % 4 else p
    let r := levelBits pre p l
    (decide (2 ≤ v) :: decide (v = 1 ∨ v = 2) :: r.1, r.2)

/-- Levels of bits toward the line, precoded when asked: p = (v − p before) mod 4. -/
def bitLevels (pre : Bool) (last : Nat) : List Bool → List Int × Nat
  | a :: b :: l =>
    let v : Nat := if a then (if b then 2 else 3) else b.toNat
    let p := if pre then (v + 4 - last) % 4 else v
    let r := bitLevels pre p l
    ((2 * (p : Int) - 3) :: r.1, r.2)
  | _ => ([], last)

/-! Acquisition detectors. -/

/-- Correlation of the 64 samples that end at a counter with a sequence, and the samples' energy (R64). -/
def RxLane.rho (r : RxLane) (seq : List Bool) (last : Sym) : Int × Int :=
  match r.stretch last 64 with
  | some ys => (((ys.zip seq).map fun x => if x.2 then x.1 else -x.1).sum, (ys.map fun y => y * y).sum)
  | none => (0, 0)

/-- A correlation is at or above another. -/
def rhoGe (a b : Int × Int) : Bool := decide (b.1 * b.1.natAbs * max 1 a.2 ≤ a.1 * a.1.natAbs * max 1 b.2)

/-- A peak at a counter: a local extreme of ρ, at or beyond T/64, declared two symbols later (R64); an extreme among the two
symbols on each side (DESIGN CHOICE, log 94). -/
def RxLane.peak (r : RxLane) (cold negative : Bool) (t : Nat) (sym : Sym) : Bool :=
  let val (i : Sym) : Int × Int := let x := r.rho (if cold then c64 else w64) i; if negative then (-x.1, x.2) else x
  let v := val sym
  (r.stretch (sym + 2) 66).isSome && decide (0 < v.1) && decide ((t : Int) ^ 2 * v.2 ≤ 64 * v.1 ^ 2) &&
    [sym - 2, sym - 1, sym + 1, sym + 2].all fun i => rhoGe v (val i)

/-- Strength of 64 samples referred to the converter's input: their mean magnitude in 1/256 dB relative to 1 LSB, with the gains of
the variable-gain stage and DGAIN removed (R65). -/
def RxLane.strength (r : RxLane) (last : Sym) : Int :=
  match r.stretch last 64 with
  | some ys =>
    let sum := (ys.map Int.natAbs).sum
    if sum = 0 then -32768 else clampI (-32768) 32767 (dbRatio 16384 sum r.dgain - 64 * ((r.vga : Int) - 24))
  | none => -32768

/-- Four times the sum of |y| in LSB over the 16 samples that end at a counter (R66). -/
def RxLane.power (r : RxLane) (last : Sym) : Option Nat := (r.stretch last 16).map fun ys => (ys.map Int.natAbs).sum

/-- The mean has stayed at or above the threshold for 16 symbols, and below it for 64 (R66). -/
def RxLane.powerUp (r : RxLane) (thresh : Nat) (sym : Sym) : Bool :=
  (List.range 16).all fun i => match r.power (sym - BitVec.ofNat 48 i) with
    | some x => decide (64 * thresh ≤ x)
    | none => false
def RxLane.powerDown (r : RxLane) (thresh : Nat) (sym : Sym) : Bool :=
  (List.range 64).all fun i => match r.power (sym - BitVec.ofNat 48 i) with
    | some x => decide (x < 64 * thresh)
    | none => false

/-- A PAM2 decision of the acquisition equaliser: Σ tap[i] · y[s − i], whose cursor the spec does not place (DESIGN CHOICE, log
94). -/
def RxLane.acqBit (r : RxLane) (taps : Vector Int 8) (s : Sym) : Bool :=
  decide (0 ≤ (List.range 8).foldl (fun acc i => acc + taps.toList.getD i 0 * r.yAt r.dgain (s - BitVec.ofNat 48 i)) 0)

/-- Symbols in which the 64 decisions that end at a counter differ from SYNC (R67). -/
def RxLane.syncDist (r : RxLane) (taps : Vector Int 8) (last : Sym) : Nat :=
  ((msbFirst syncWord).zipIdx.filter fun x => r.acqBit taps (last - 63 + BitVec.ofNat 48 x.2) != x.1).length

/-- The symbol has been received. -/
def RxLane.passed (r : RxLane) (s : Sym) : Bool := decide ((r.symCount - 1 - s).toNat < 2 ^ 47)

/-- The symbol has been received and its neighbourhood is still held. -/
def RxLane.holds (r : RxLane) (s : Sym) : Bool := decide ((r.symCount - 1 - s).toNat < 128)

/-- The postamble stands at an offset of at most 4 symbols from the place computed from CW_COUNT (R68). -/
def RxLane.postambleAt (r : RxLane) (taps : Vector Int 8) (payEnd : Sym) : Bool :=
  (List.range 9).any fun o => decide (28 ≤ (postamble.zipIdx.filter fun x =>
    r.acqBit taps (payEnd + BitVec.ofNat 48 (o + x.2) - 3) == decide (0 < x.1)).length)

/-- Data-aided training of a cold preamble (R72, Table 3-6): the training symbols among the last n recorded adapt the active palette at
the cold training step exponent, under the freezes of R44. Each symbol's known value stands in place of its decision. -/
def State.trainCold (s : State) (p : Phys) (n : Nat) : State :=
  let r := s.rxl p
  let rungs := s.rungsOf p
  match (s.acl p).cur with
  | none => s
  | some b =>
    let value (i : Nat) : Option (Sym × Int) :=
      let x := r.symCount - BitVec.ofNat 48 (n - i)
      let o := (x - (b.firstPeak + 449)).toNat
      if o < 3328 then some (x, trainingSymbols.getD o 0) else none
    let refs := (List.range n).filterMap value
    if (s.acl p).state ≠ .training ∨ r.los ∨ r.coverFreeze ∨ r.swapFreeze ∨ refs = [] then s
    else s.modActive p fun c => adaptMask r rungs c (Config.lms (slowed rungs b.params.coldK) c refs [] r.corrected)

end Sys2Proof.Machine
end

