-- ==== Sys2Proof/Machine/PowerState.lean ====
section
/-!
DEFINITION. Power states with their codes, counters and events (R325, R329), of the device and of a group.
-/
namespace Sys2Proof.Machine

def LanePower.code : LanePower → Nat
  | .active => 0
  | .idle => 1
  | .doze => 2
  | .off => 3

def GroupPower.code : GroupPower → Nat
  | .active => 0
  | .idle => 1
  | .off => 2

def DevPower.code : DevPower → Nat
  | .run => 0
  | .quiet => 1
  | .dormant => 2

/-- SOURCE of a POWER event: scope in [15:14], index below (R376). -/
def pwrSrc (scope idx : Nat) : Nat := scope * 2 ^ 14 + idx

/-- Count an entry into a state (R325). -/
def Residency.enter (r : Residency) (st : Nat) : Residency :=
  { r with entries := r.entries.set st (r.entries.getD st 0 + 1) }

/-- Count an AON tick in a state (R325). -/
def Residency.tick (r : Residency) (st : Nat) : Residency := { r with ticks := r.ticks.set st (r.ticks.getD st 0 + 1) }

/-- Set the device power state with its event (R329); `cause` as R329 codes it. -/
def State.setDev (s : State) (st : DevPower) (cause : Nat) : State :=
  let old := s.sys.power.dev
  if old = st then s
  else (s.modPower fun p => { p with dev := st, res := p.res.enter st.code }).raise .pwrDeviceState (pwrSrc 2 0) st.code old.code
    cause

/-- A lane or group leaves the states QUIET asks for: the device returns to RUN (R319). -/
def State.leaveQuiet (s : State) : State := if s.sys.power.dev = .quiet then s.setDev .run 3 else s

/-- Set a group's power state with its event. -/
def State.setGroupPower (s : State) (g : Group) (st : GroupPower) (cause : Nat) : State :=
  let old := (s.grp g).power
  if old = st then s
  else
    let s := (s.modGroup g fun h => { h with power := st, res := h.res.enter st.code }).raise .pwrGroupState
      (pwrSrc 1 g.val) st.code old.code cause
    if st = .active then s.leaveQuiet else s

end Sys2Proof.Machine
end

