-- ==== Sys2Proof/Machine/HostOps.lean ====
section
/-!
DEFINITION. Shared operations of Rinlink groups: commas, blocks, swatches, channel streams, credits, training
(R196–R220). Functions over `HostGroup` alone come first, then those over the whole state.
-/
namespace Sys2Proof.Machine

/-! Commas (R196, R197). -/

/-- Manchester coding of the n low bits of v, most significant first: each bit, then its complement. -/
def manchester (n v : Nat) : Nat :=
  match n with
  | 0 => 0
  | k + 1 => manchester k (v / 2) * 4 + (if v % 2 = 1 then 2 else 1)

/-- The comma of a lane (Table 7-3). -/
def commaWord (g lane : Nat) (ops hold : Bool) : BitVec 32 :=
  BitVec.ofNat 32 (0x1FE * 2 ^ 22 + manchester 5 lane * 2 ^ 12 + manchester 4 (g % 16) * 2 ^ 4 +
    manchester 1 ops.toNat * 4 + manchester 1 hold.toNat)

/-- Decode n Manchester bits; none where a pair is not a bit and its complement. -/
def unmanchester (n v : Nat) : Option Nat :=
  match n with
  | 0 => some 0
  | k + 1 => match unmanchester k (v / 4), v % 4 with
    | some x, 2 => some (2 * x + 1)
    | some x, 1 => some (2 * x)
    | _, _ => none

/-- Fields of a comma whose HEAD and Manchester pairs are right: lane, GRP, OPS, HOLD. -/
def commaFields (c : BitVec 32) : Option (Nat × Nat × Bool × Bool) :=
  let v := c.toNat
  if v / 2 ^ 22 ≠ 0x1FE then none
  else match unmanchester 5 (v / 2 ^ 12 % 2 ^ 10), unmanchester 4 (v / 2 ^ 4 % 2 ^ 8), unmanchester 1 (v / 4 % 4),
      unmanchester 1 (v % 4) with
    | some l, some g, some o, some h => some (l, g, decide (o = 1), decide (h = 1))
    | _, _, _, _ => none

/-! Scrambling and block filling (R198–R202). -/

/-- Scrambler seed of logical lane j (R198). -/
def scrSeed (g j : Nat) (nonce : BitVec 47) : BitVec 58 :=
  BitVec.ofNat 58 (2 ^ 57 + g * 2 ^ 52 + j * 2 ^ 47 + nonce.toNat)

/-- The next keystream bit and the scrambler after it. -/
def scrStep (x : BitVec 58) : Bool × BitVec 58 :=
  let k := x.getLsbD 57 ^^ x.getLsbD 38
  (k, (x <<< 1) ||| (BitVec.ofBool k).setWidth 58)

/-- The bits of a byte string, bit 7 of each byte first. -/
def bitsOfBytes (bs : Bytes) : List Bool := bs.flatMap fun b => (List.range 8).map fun i => b.getLsbD (7 - i)

/-- Eight bits as a byte, the first as bit 7. -/
def byteOfBits (l : List Bool) : Byte := l.foldl (fun b x => (b <<< 1) ||| (BitVec.ofBool x).setWidth 8) 0

/-- Whole bytes of a bit list, at most n. -/
def bytesOfBits (n : Nat) (l : List Bool) : Bytes :=
  match n with
  | 0 => []
  | k + 1 => if l.length < 8 then [] else byteOfBits (l.take 8) :: bytesOfBits k (l.drop 8)

/-- Fill n data slots (R199): stuff bits after six equal bits, data while the count is below the target, then filler.
`fill` counts the filler slots of the block. Answers the slots and the lane after them. -/
def fillSlots (n : Nat) (l : LogLane) (run : Nat) (last : Bool) (fill : Nat) (out : List Bool) : List Bool × LogLane :=
  match n with
  | 0 => (out.reverse, l)
  | k + 1 =>
    if run = 6 then fillSlots k l 1 (!last) fill ((!last) :: out)
    else
      match decide (l.count < l.target), l.bits with
      | true, d :: rest =>
        let ks := scrStep l.scr
        let b := d ^^ ks.1
        fillSlots k { l with count := l.count + 1, scr := ks.2, bits := rest } (if b = last then run + 1 else 1) b fill (b :: out)
      | _, _ =>
        let b := decide (7 ≤ fill) && decide (fill % 2 = 1)
        fillSlots k l 0 b (fill + 1) (b :: out)

/-- Pad a lane to its target: positions lost to a slip (R202 item 2). -/
def padLane (n : Nat) (l : LogLane) (out : List Bool) : LogLane × List Bool :=
  match n with
  | 0 => (l, out)
  | k + 1 => if l.count < l.target then
      padLane k { l with count := l.count + 1, scr := (scrStep l.scr).2 } (false :: out)
    else (l, out)

/-- Result of receiving a lane's block: the lane, stuffing errors, and whether a slip was counted. -/
structure LaneBlock where
  lane : LogLane
  errors : Nat
  slip : Bool
deriving DecidableEq, Repr

/-- Take the slots of a received block (R202): stuff slots are checked and skipped, seven zeros start the filler. `out`
holds the data bits found, latest first. -/
def takeSlots (slots : List Bool) (l : LogLane) (run : Nat) (last : Bool) (errs : Nat) (out : List Bool) : LaneBlock :=
  let close (l : LogLane) (slip : Bool) (out : List Bool) : LaneBlock :=
    { lane := { l with bits := l.bits ++ out.reverse }, errors := errs, slip := slip }
  match slots with
  | [] => close l false out
  | b :: rest =>
    if l.target ≤ l.count then close l false out
    else if run = 6 then
      if b = last then
        if last = false then
          let p := padLane (l.target - l.count) l out
          close p.1 (decide (l.count ≠ l.target)) p.2
        else takeSlots rest l 1 (!last) (errs + 1) out
      else takeSlots rest l 1 (!last) errs out
    else
      let ks := scrStep l.scr
      takeSlots rest { l with count := l.count + 1, scr := ks.2 } (if b = last then run + 1 else 1) b errs
        ((b ^^ ks.1) :: out)

/-! Swatches (R204, R205). -/

/-- The 8 header bytes (Table 7-4). -/
def Swatch.header (w : Swatch) : Bytes :=
  beBytes 8 (w.type * 2 ^ 60 + w.raw.toNat * 2 ^ 59 + w.lch * 2 ^ 56 + w.sbCh * 2 ^ 53 + w.sseq.toNat * 2 ^ 32 +
    w.sbKind * 2 ^ 28 + w.sbValue.toNat)

/-- The 256 bytes of a swatch with an acknowledgement field. -/
def Swatch.bytes (w : Swatch) (ackSeq : BitVec 16) (nak : Bool) : Bytes :=
  let body := w.header ++ padTo 240 w.payload ++ beBytes 4 (ackSeq.toNat * 2 ^ 16 + nak.toNat * 2 ^ 15)
  body ++ crc32Bytes body

/-- Fields of a received swatch. -/
def parseSwatch (bs : Bytes) : Swatch :=
  let h := fieldBE bs 0 8
  { type := bitsOf h 63 60, raw := bitOf h 59, lch := bitsOf h 58 56, sbCh := bitsOf h 55 53,
    sseq := BitVec.ofNat 16 (bitsOf h 47 32), sbKind := bitsOf h 31 28, sbValue := BitVec.ofNat 24 (bitsOf h 23 0),
    payload := (bs.drop 8).take 240 }

/-- A swatch is good when its CRC matches and its TYPE and LCH are not reserved (R205). -/
def goodSwatch (bs : Bytes) : Bool :=
  decide (bs.length = 256) && decide (crc32Bytes (bs.take 252) = bs.drop 252) && decide ((parseSwatch bs).type ≤ 2) &&
    decide ((parseSwatch bs).lch ≤ 4)

/-! A group's sender. -/

/-- The physical lane that idles as the spare, if there is one (R194). A lane marked failed is none, though a candidate carries
idle-spare content: it becomes the spare when it has proved itself (R225). -/
def spareLane (roles : Vector Nat 17) (failed : BitVec 18) (clockMoved : Bool) : Option Nat :=
  (List.range 17).find? fun k => decide (roles.toList.getD k 31 = 16) && !failed.getLsbD k && !(clockMoved && decide (k = 16))

def HostGroup.txSpare (h : HostGroup) : Option Nat := spareLane h.txRole h.txFailed h.txClockSpare
def HostGroup.rxSpare (h : HostGroup) : Option Nat := spareLane h.rxRole h.rxFailed h.rxClockSpare

/-- TSTEP code (Table 7-8). -/
def TStep.code : TStep → Nat
  | .clock => 0
  | .align => 1
  | .check => 2
  | .seed => 3
  | .credit => 4
  | .ready => 5

def tstepOf (n : Nat) : TStep :=
  match n with | 0 => .clock | 1 => .align | 2 => .check | 3 => .seed | 4 => .credit | _ => .ready

/-- Physical receive lanes that have passed: phase-locked lanes not marked failed, from ALIGN on. -/
def HostGroup.lanesOk (h : HostGroup) : Nat :=
  if h.tstep = .clock then 0 else (~~~ h.rxFailed).setWidth 17 |>.toNat

/-- TRAIN payload (Table 7-8). -/
def HostGroup.trainPayload (h : HostGroup) (g : Nat) : Bytes :=
  leBytes 1 h.tstep.code ++
  leBytes 1 (packBits [(4, 0), (1, h.txClockSpare.toNat), (1, h.resume.toNat), (1, h.partner.seedValid.toNat),
    (1, (decide (3 ≤ h.tstep.code)).toNat)]) ++
  beBytes 3 h.lanesOk ++ beBytes 1 h.width ++ beBytes 6 (if 3 ≤ h.tstep.code then h.txNonce.toNat else 0) ++
  beBytes 2 h.next.toNat ++ beBytes 1 g

/-- The partner's TRAIN payload. -/
def parseTrain (p : Bytes) : Partner :=
  let f := byteAt p 1
  { step := tstepOf (byteAt p 0), seedValid := bitOf f 7, seedSeen := bitOf f 6, resume := bitOf f 5,
    clockOnSpare := bitOf f 4, lanesOk := BitVec.ofNat 17 (fieldBE p 2 3), width := byteAt p 5 % 32,
    nonce := BitVec.ofNat 47 (fieldBE p 6 6), rxNext := BitVec.ofNat 16 (fieldBE p 12 2), group := byteAt p 14 % 32 }

/-- Value of an ACCEPT item that may be sent now: held back before a REFUSED descriptor not yet sent (R212). -/
def HostChan.acceptNow (c : HostChan) : Option (BitVec 24) :=
  match c.refused.find? (fun r => decide (c.outSent < r.2)) with
  | some r => if c.accept.isSome then some (r.1 - 1) else none
  | none => c.accept

/-- A sideband item 0–7 as (channel, kind, value): 0–3 CREDIT, 4–7 ACCEPT. -/
def HostGroup.sbItem (h : HostGroup) (i : Nat) : Option (Nat × Nat × BitVec 24) :=
  let c := h.chan.toList.getD (i % 4) {}
  if i < 4 then some (i, 1, c.rxLimit) else (c.acceptNow).map fun v => (i % 4, 2, v)

/-- The item to send: the oldest changed one, else the next in rotation. One that 55 swatches have passed over goes first, so that
each of the 8 items is repeated at least once in every 64 swatches (R213; the 55 is DESIGN CHOICE, log 98). -/
def HostGroup.sbPick (h : HostGroup) : Nat :=
  match (List.range 8).find? fun i => decide (55 ≤ h.sbAge.toList.getD i 0) && (h.sbItem i).isSome with
  | some i => i
  | none => match h.sbChanged with
    | i :: _ => i
    | [] => h.sbRotate % 8

/-- Take the item to send, as (channel, kind, value). -/
def HostGroup.pickSb (h : HostGroup) : (Nat × Nat × BitVec 24) × HostGroup :=
  let i := h.sbPick
  ((h.sbItem i).getD (0, 0, 0), { h with
    sbChanged := h.sbChanged.filter fun x => decide (x ≠ i)
    sbRotate := if h.sbChanged = [] then (i + 1) % 8 else h.sbRotate
    sbAge := Vector.ofFn fun j : Fin 8 => if j.val = i then 0 else h.sbAge[j.val] + 1 })

/-- Mark a sideband item as changed. -/
def HostGroup.sbChange (h : HostGroup) (i : Nat) : HostGroup :=
  if h.sbChanged.contains i then h else { h with sbChanged := h.sbChanged ++ [i] }

/-- The next channel with bytes ready, in round robin (R207). -/
def HostGroup.nextChan (h : HostGroup) : Option Nat :=
  ([1, 2, 3, 4].map fun i => (h.lastChan + i) % 4).find? fun c =>
    let x := h.chan.toList.getD c {}
    decide (x.out ≠ []) || decide (240 ≤ x.rawOut.length)

/-- Form a new DATA swatch: control messages first, then the channels (R207–R209). -/
def HostGroup.newData (h : HostGroup) : Option (Swatch × HostGroup) :=
  if h.control ≠ [] then
    let msgs := h.control.take 15
    let sb := h.pickSb
    let w : Swatch := { type := 1, raw := false, lch := 4, sseq := h.sseq, sbCh := sb.1.1, sbKind := sb.1.2.1,
                        sbValue := sb.1.2.2, payload := padTo 240 msgs.flatten }
    let idle := if msgs.any (fun m => m.head? = some 0x02) then some h.sseq else h.idleSent
    some (w, { sb.2 with control := h.control.drop 15, sseq := h.sseq + 1, idleSent := idle })
  else match h.nextChan with
    | none => none
    | some c =>
      let x := h.chan.toList.getD c {}
      let sb := h.pickSb
      let raw := decide (x.out = [])
      let payload := if raw then x.rawOut.take 240 else x.out.take 240
      let gone := fun (e : Nat × Nat × BitVec 32 × Bool) => decide (e.1 ≤ x.outSent + payload.length)
      let x' := if raw then { x with rawOut := x.rawOut.drop 240, txUsed := x.txUsed + 15 }
        else { x with out := x.out.drop 240, outSent := x.outSent + payload.length, outEnds := x.outEnds.filter fun e => !gone e,
                      refused := x.refused.filter (fun r => decide (x.outSent + payload.length < r.2)) }
      let w : Swatch := { type := 1, raw := raw, lch := c, sseq := h.sseq, sbCh := sb.1.1, sbKind := sb.1.2.1,
                          sbValue := sb.1.2.2, payload := padTo 240 payload,
                          frames := if raw then [] else (x.outEnds.filter gone).map (·.2) }
      let again := if x.refused.length ≠ x'.refused.length then some (4 + c) else none
      let h := { sb.2 with chan := vupd h.chan (finOf 4 c) (fun _ => x'), lastChan := c, sseq := h.sseq + 1 }
      some (w, match again with | some i => h.sbChange i | none => h)

/-- An IDLE swatch, or TRAIN from SEED on until the link is ACTIVE, and in every training block (R216). -/
def HostGroup.idleSwatch (h : HostGroup) (g : Nat) : Swatch × HostGroup :=
  let train := decide (h.state = .train)
  let sb := h.pickSb
  ({ type := if train then 2 else 0, raw := false, lch := if train then 4 else 0, sseq := h.sseq, sbCh := sb.1.1,
     sbKind := sb.1.2.1, sbValue := sb.1.2.2, payload := if train then h.trainPayload g else [] }, sb.2)

/-- The next swatch to send (R215): a resent one while a rewind runs, else a new DATA swatch while the link is ACTIVE and
the buffer has room, else IDLE or TRAIN. A kept swatch with an uncorrectable word cannot be resent (`bad`, R338). -/
def HostGroup.nextSwatch (h : HostGroup) (g : Nat) : Swatch × HostGroup :=
  let resent : Option (Swatch × HostGroup) :=
    match h.resend with
    | none => none
    | some q => match h.replay.find? (fun x => x.sseq = q) with
      | none => none
      | some x =>
        some (x, { h with resend := if q + 1 = h.sseq then none else some (q + 1),
                          counts := { h.counts with swatchesTx := satW 32 (h.counts.swatchesTx + 1) } })
  match resent with
  | some r => r
  | none =>
    let h := { h with resend := none }
    if h.state = .active ∧ h.replay.length < 256 then
      match h.newData with
      | some r => (r.1, { r.2 with
          replay := r.2.replay ++ [r.1], counts := { r.2.counts with swatchesTx := satW 32 (r.2.counts.swatchesTx + 1) } })
      | none => h.idleSwatch g
    else h.idleSwatch g

/-- Send a swatch: its bytes with the current acknowledgement, and NAKS_SENT (Table 7-14). -/
def HostGroup.emit (h : HostGroup) (g : Nat) : Bytes × HostGroup :=
  let r := h.nextSwatch g
  let h' := r.2
  (r.1.bytes (h'.next - 1) h'.nakPending, { h' with
    ackSent := h'.next - 1, lastNak := h'.nakPending,
    counts := { h'.counts with naksSent := satW 16 (h'.counts.naksSent + (h'.nakPending && !h'.lastNak).toNat) } })

/-- Hand the 16 units of a swatch to the logical lanes, unit U to lane U mod N (R203). -/
def HostGroup.stripe (h : HostGroup) (bs : Bytes) : HostGroup :=
  (List.range 16).foldl (fun h i =>
    let lane := finOf 16 (h.txUnit % max 1 h.width)
    { h with txLog := vupd h.txLog lane (fun l => { l with bits := l.bits ++ bitsOfBytes ((bs.drop (16 * i)).take 16) }),
             txUnit := (h.txUnit + 1) % max 1 h.width }) h

/-- Lanes still short of the data bits their target asks for. -/
def HostGroup.hungry (h : HostGroup) : Bool :=
  (List.range h.width).any fun j =>
    let l := h.txLog.toList.getD j {}
    decide (l.bits.length < l.target - l.count)

/-- Form swatches until every lane has its data bits for the block. Near-end parallel loop-back feeds the units to the
receive path (Table 7-13). -/
def HostGroup.supply (n : Nat) (h : HostGroup) (g : Nat) : HostGroup :=
  match n with
  | 0 => h
  | k + 1 =>
    if h.hungry then
      let r := h.emit g
      let h := r.2.stripe r.1
      let h := if h.state = .loopback ∧ h.loopMode = 2 then { h with rxStream := h.rxStream ++ r.1 } else h
      HostGroup.supply k h g
    else h

/-- Lanes at the start of an operational stream, scrambled with a nonce (R198, R199). -/
def seedLanes (g : Nat) (nonce : BitVec 47) : Vector LogLane 16 := Vector.ofFn fun j : Fin 16 => { scr := scrSeed g j.val nonce }

/-- A control message of 16 bytes (Table 7-7). -/
def ctlMsg (kind b1 b2 : Nat) : Bytes := leBytes 1 kind ++ leBytes 1 b1 ++ leBytes 1 b2 ++ zeros 13

/-- Form a transmit block, operational or for training (R199–R201): decide HOLD, advance the targets, fill every lane. -/
def HostGroup.fillBlock (h : HostGroup) (g : Nat) (ops : Bool) : HostGroup :=
  let lag := (List.range h.width).any fun j =>
    let l := h.txLog.toList.getD j {}
    decide (1024 < l.target - l.count)
  let hold := ops && lag
  let h := { h with txHold := hold, counts := { h.counts with holdBlocks := satW 16 (h.counts.holdBlocks + hold.toNat) } }
  let h := if ops then
      { h with txLog := h.txLog.map fun l => if hold then l else { l with target := l.target + 8022 } }
    else
      { h with txUnit := 0, txLog := Vector.ofFn fun j : Fin 16 =>
        { scr := scrSeed g j.val 0, target := 7936, count := 0, bits := [] } }
  let h := HostGroup.supply 80 h g
  let filled := (List.range 16).map fun j => fillSlots 8160 (h.txLog.toList.getD j {}) 0 false 0 []
  let idle := fun (_ : Unit) => (fillSlots 8160 {} 0 false 0 []).1
  let lanes := (List.range 17).map fun k =>
    let role := h.txRole.toList.getD k 31
    if h.txClockSpare ∧ k = 16 then none
    else some (commaWord g role ops hold,
      if role < h.width then (filled.getD role ([], {})).1 else idle ())
  { h with lastBlock := lanes, htx := h.htxNext,
           txLog := Vector.ofFn fun j : Fin 16 => if j.val < h.width then (filled.getD j.val ([], {})).2 else h.txLog[j.val] }

/-- Start a transmit block. A group that leaves ACTIVE while its link runs sends one more operational block, on the lanes it had,
with RETRAIN_REQ in it (Table 7-9). -/
def HostGroup.block (h : HostGroup) (g : Nat) : HostGroup :=
  match h.ending with
  | none => h.fillBlock g (h.opsTx || decide (h.state = .active))
  | some (w, roles) =>
    let x := HostGroup.fillBlock { h with
      state := .active, width := w, txRole := roles, control := h.control ++ [ctlMsg 3 0 0], resend := none } g true
    { x with
      state := h.state, width := h.width, txRole := h.txRole, ending := none
      control := x.control.filter fun m => decide (m.head? ≠ some 3) }

/-! A group's receiver. -/

/-- Logical lanes that the partner's commas announce: its WIDTH (R197, R203). -/
def HostGroup.rxWidth (h : HostGroup) : Nat := ((List.range 16).filter fun j => h.rxRole.toList.contains j).length

/-- Whole units that the lanes hold. -/
def HostGroup.units (h : HostGroup) : Nat := (h.rxLog.toList.map fun l => l.bits.length / 128).sum

/-- Units are numbered afresh (R203): of the bytes reassembled only whole swatches stay. -/
def HostGroup.freshUnits (h : HostGroup) : HostGroup :=
  { h with rxUnit := 0, rxStream := h.rxStream.take (h.rxStream.length / 256 * 256) }

/-- Take whole units from `width` lanes in order of U (R203). -/
def HostGroup.gather (n width : Nat) (h : HostGroup) : HostGroup :=
  match n with
  | 0 => h
  | k + 1 =>
    let j := finOf 16 (h.rxUnit % max 1 width)
    let l := h.rxLog[j.val]
    if l.bits.length < 128 then h
    else HostGroup.gather k width
      { h with rxStream := h.rxStream ++ bytesOfBits 16 (l.bits.take 128), rxUnit := (h.rxUnit + 1) % max 1 width,
               rxLog := vupd h.rxLog j (fun l => { l with bits := l.bits.drop 128 }) }

/-- Majority of the valid commas; a tie counts as 1 (R202 item 4). -/
def majority (l : List Bool) : Bool := decide (l.length ≤ 2 * (l.filter id).length)

/-- Newer modulo the field's width (R213). -/
def newer24 (a b : BitVec 24) : Bool := decide (a ≠ b) && decide ((a - b).toNat < 2 ^ 23)

/-- Take an ACKSEQ (R214, R215): release the swatches it covers; the oldest kept swatch's timer restarts. -/
def HostGroup.takeAck (h : HostGroup) (ackSeq : BitVec 16) : HostGroup :=
  let n := ackSeq + 1
  let d := (n - h.acked).toNat
  if 0 < d ∧ d < 32768 ∧ (h.sseq - n).toNat < 32768 then
    let ahead : Bool := match h.resend with
      | some q => decide ((n - q).toNat < 32768)
      | none => false
    { h with acked := n, replay := h.replay.filter (fun x => decide ((x.sseq - n).toNat < 32768)),
             resend := if ahead then (if n = h.sseq then none else some n) else h.resend }
  else h

/-- Rewind to a kept swatch, and count it (R215). -/
def HostGroup.rewind (h : HostGroup) (q : BitVec 16) (now : Time) : HostGroup :=
  if h.replay.any (fun x => x.sseq = q) then
    { h with resend := some q, lastRewind := some (q, now), counts := { h.counts with rewinds := satW 16 (h.counts.rewinds + 1) } }
  else h

/-- Parse the channel stream of a working-lane channel (R206, R207): frames received whole, the partial rest, and whether a
reserved KIND was met. The units of each frame are charged against the limit (R210). -/
def parseStream (n : Nat) (c : HostChan) (bytes : Bytes) : HostChan × Nat × Nat :=
  match n with
  | 0 => ({ c with partialIn := bytes }, 0, 0)
  | k + 1 =>
    if bytes = [] ∨ (c.partialIn = [] ∧ byteAt bytes 0 / 16 = 0) then (c, 0, 0)
    else
      let b := c.partialIn ++ bytes
      let kind := byteAt b 0 / 16
      if kind ≠ 1 then ({ c with partialIn := [] }, 1, 0)
      else if b.length < 12 then ({ c with partialIn := b }, 0, 0)
      else
        let d := fieldBE b 0 12
        let len := bitsOf d 73 60
        if b.length < 12 + len then ({ c with partialIn := b }, 0, 0)
        else
          let units := (12 + len + 15) / 16
          let used := c.rxUsed + BitVec.ofNat 24 units
          let beyond := decide (2 ^ 23 ≤ (c.rxLimit - used).toNat)
          let f : HostFrame := { tag := BitVec.ofNat 32 (bitsOf d 31 0), station := bitsOf d 87 74,
                                 payload := if beyond then [] else (b.drop 12).take len, beyond := beyond }
          let r := parseStream k { c with partialIn := [], rxUsed := used, tagNext := f.tag + 1,
                                          inFrames := c.inFrames ++ [f] } (b.drop (12 + len))
          (r.1, r.2.1, r.2.2 + beyond.toNat)

/-- A descriptor (Table 7-5). -/
def descBytes (kind flags station len reason : Nat) (tag : BitVec 32) : Bytes :=
  beBytes 12 (kind * 2 ^ 92 + flags * 2 ^ 88 + station % 2 ^ 14 * 2 ^ 74 + len * 2 ^ 60 + reason * 2 ^ 56 + tag.toNat)

/-- Units a FRAME of this payload length consumes (Table 7-6). -/
def frameUnits (len : Nat) : Nat := (12 + len + 15) / 16

/-! Operations on a working lane's channel. -/

def State.chanOf (s : State) (w : Work) : HostChan := (s.grp (groupOfWork w)).chan.toList.getD (chanOfWork w) {}

def State.modChan (s : State) (w : Work) (f : HostChan → HostChan) : State :=
  s.modGroup (groupOfWork w) fun h => { h with chan := vupd h.chan (finOf 4 (chanOfWork w)) f }

/-- Received TRANSPARENT bits toward the host ASIC (R208): 15 units of credit cover a swatch of 240 bytes, and bits beyond the
credit granted are discarded. Answers how many. -/
def HostChan.takeRaw (c : HostChan) (bits : List Bool) : HostChan × Nat :=
  let credit := (c.txLimit - c.txUsed).toNat
  let room := 1920 * ((if 2 ^ 23 < credit then 0 else credit) / 15) - (8 * c.rawOut.length + c.rawBits.length)
  let all := c.rawBits ++ bits.take room
  ({ c with rawOut := c.rawOut ++ bytesOfBits (all.length / 8) all, rawBits := all.drop (8 * (all.length / 8)) },
    bits.length - room)

/-- The last swatch of a lane that leaves TRANSPARENT is completed with zeros (R208). -/
def HostChan.endRaw (c : HostChan) : HostChan :=
  let l := c.rawOut ++ (if c.rawBits = [] then [] else bytesOfBits 1 (c.rawBits ++ List.replicate 7 false))
  { c with rawOut := l ++ zeros ((240 - l.length % 240) % 240), rawBits := [] }

/-- Received TRANSPARENT bits of a working lane; the discarded ones are counted and reported (R208). The unit of TRANSPARENT_DROP,
which no record shows, is the bit (DESIGN CHOICE, log 95). -/
def State.rawBack (s : State) (w : Work) (bits : List Bool) : State :=
  let lost := ((s.chanOf w).takeRaw bits).2
  let s := s.modChan w fun c => (c.takeRaw bits).1
  if lost = 0 then s
  else
    (s.modGroup (groupOfWork w) fun h => { h with
      counts := { h.counts with transparentDrop := satW 32 (h.counts.transparentDrop + lost) } }).raise .hostTransparentDrop
      (groupOfWork w).val

/-- The replay buffer toward the host ASIC is full: kept swatches and those the ready bytes will fill (R172, R226). -/
def HostGroup.replayFull (h : HostGroup) (more : Nat) : Bool :=
  decide (256 < h.replay.length + (h.chan.toList.map fun c => (c.out.length + 239) / 240).sum + (more + 239) / 240)

/-- A frame for the host ASIC must be discarded as HOST_FULL (R172, R224, R226). -/
def State.hostFull (s : State) (w : Work) (len : Nat) : Bool :=
  let h := s.grp (groupOfWork w)
  let c := s.chanOf w
  decide ((c.txLimit - c.txUsed).toNat < frameUnits len) || decide (2 ^ 23 < (c.txLimit - c.txUsed).toNat) ||
    h.replayFull (12 + len) || decide (h.state = .outOfService)

/-- Put a descriptor, and a payload after it, into the channel stream toward the host ASIC. -/
def State.hostPut (s : State) (w : Work) (bytes : Bytes) : State :=
  s.modChan w fun c => { c with out := c.out ++ bytes }

/-- Deliver a FRAME: without SKETCH its units are charged when sent (R211). -/
def State.hostFrame (s : State) (w : Work) (station : Nat) (seq : BitVec 32) (payload : Bytes) (sketch : Bool) : State :=
  let s := if sketch then s else s.modChan w fun c => { c with txUsed := c.txUsed + BitVec.ofNat 24 (frameUnits payload.length) }
  (s.hostPut w (descBytes 1 sketch.toNat station payload.length 0 seq ++ payload)).modChan w fun c => { c with
    outEnds := c.outEnds ++ [(c.outSent + c.out.length, station, seq, sketch)] }

/-- A descriptor without payload: VARNISH 2, SCRAPE 3, UNCERTAIN 5, RELEASED 6, LOST 7 (Table 7-6). -/
def State.hostDesc (s : State) (w : Work) (kind station : Nat) (tag : BitVec 32) : State :=
  s.hostPut w (descBytes kind 0 station 0 0 tag)

/-- A REFUSED descriptor, which must leave before any ACCEPT item covers its frame (R212). -/
def State.hostRefuse (s : State) (w : Work) (station reason : Nat) (tag : BitVec 32) : State :=
  let s := s.hostPut w (descBytes 4 0 station 0 reason tag)
  (s.modChan w fun c => { c with refused := c.refused ++ [(tag.setWidth 24, c.outSent + c.out.length)],
                                  accept := some (tag.setWidth 24) }).modGroup (groupOfWork w)
    fun h => h.sbChange (4 + chanOfWork w)

/-- An acceptance token: the ACCEPT item covers this TAG (R212). -/
def State.hostAccept (s : State) (w : Work) (tag : BitVec 32) : State :=
  (s.modChan w fun c => { c with accept := some (tag.setWidth 24) }).modGroup (groupOfWork w)
    fun h => h.sbChange (4 + chanOfWork w)

/-! Link states. -/

/-- Clear what a training starts from: steps, nonces, the receive stream. The transmit lanes start afresh in every training
block (R201). -/
def HostGroup.toTrain (h : HostGroup) (repair : Bool) : HostGroup :=
  { h with state := .train, tstep := .clock, repairTrain := repair, opsTx := false, opsRx := false, goodTrain := 0,
           creditSeen := 0, partner := {}, rxStream := [], rxCut := [], rxUnit := 0, resend := none, ending := none, idleAcked := none,
             txIdle := false,
           rxIdle := false, idleSent := none, idleHeard := false, moveReq := none, commaMiss := Vector.replicate 17 0,
           rxLog := h.rxLog.map fun l => { l with bits := [] },
           counts := if h.state = .active then { h.counts with retrains := satW 16 (h.counts.retrains + 1) } else h.counts }

/-- A receiver that has declared the forwarded clock failing and asked for its move takes its clock from physical lane 16 from the
start of the retrain on (R223). A partner that did not move it says so in its TRAIN swatches (`State.followClock`). -/
def State.takeSpareClock (s : State) (g : Group) : State :=
  let h := s.grp g
  if h.rxClockSpare ∨ ¬ h.rxFailed.getLsbD 17 ∨ ¬ h.params.autoRepair ∨ h.rxSpare ≠ some 16 then s
  else (s.modGroup g fun h => { h with
    rxClockSpare := true, rxRole := h.rxRole.setIfInBounds 16 31,
    counts := { h.counts with substitutions := satW 16 (h.counts.substitutions + 1) } }).raise .hostClockMoved (g.val + 256 * 16)

/-- Leave ACTIVE for TRAIN with EV_HOST_LINK_DOWN (Table 7-9); a group already in TRAIN restarts at CLOCK; other states are
left alone. A group in IDLE becomes ACTIVE (R318). `ask`: the link still runs toward the partner, so one more block takes RETRAIN_REQ there. -/
def State.retrain (s : State) (g : Group) (code : Nat) (repair ask : Bool) : State :=
  match (s.grp g).state with
  | .active =>
    let s := s.modGroup g fun h => { h.toTrain repair with ending := if ask then some (h.width, h.txRole) else none }
    let s := if (s.grp g).power = .idle then s.setGroupPower g .active 3 else s
    (s.raise .hostLinkDown g.val code).takeSpareClock g
  | .train => s.modGroup g (·.toTrain repair)
  | _ => s

/-- Of FRAMEs toward the host ASIC, those that were delivered: all but sketches that no varnish covers (R172, R175). -/
def lostFrames (rx : Tab RxCtx) (l : List (Nat × BitVec 32 × Bool)) : Nat :=
  (l.filter fun f => !f.2.2 || match tabGet rx f.1 with
    | some c => decide ((c.next - f.2.1 - 1).toNat < 2 ^ 31)
    | none => true).length

/-- Delivered frames that the replay buffer and the ready bytes of a channel hold (R218 item 1). -/
def State.unsentFrames (s : State) (g : Group) (c : Nat) : Nat :=
  let h := s.grp g
  lostFrames (s.wk (workOfChan g c)).rxCtx
    ((h.replay.filter fun x => decide (x.lch = c)).flatMap (·.frames) ++ (h.chan.toList.getD c {}).outEnds.map (·.2))

/-- The steps of R218 when the partner sends RESUME = 0. -/
def State.partnerFresh (s : State) (g : Group) : State :=
  let lost := ([0, 1, 2, 3].map fun c => s.unsentFrames g c).sum
  let s := s.modGroup g fun h => { h with
    replay := [], sseq := 0, next := 0, acked := 0, ackSent := 0xFFFF, nakPending := false, resend := none, sbChanged := [],
    counts := { h.counts with freshLosses := satW 16 (h.counts.freshLosses + lost) },
    chan := h.chan.map fun c => { c with
      txLimit := 0, txUsed := 0, rxLimit := 0, rxUsed := 0, tagNext := 0, partialIn := [], inFrames := [], out := [], outEnds := [],
        rawOut := [], rawBits := [],
      accept := none, refused := [] } }
  let s := s.each [0, 1, 2, 3] fun c s => s.modWork (workOfChan g c) fun w => { w with
    rxCtx := w.rxCtx.map fun e => (e.1, { e.2 with sketches := [], sketchPtr := e.2.next, paused := false }) }
  s.raise .hostPartnerFresh g.val

/-- Lanes 0–16 that may carry data, of those not marked failed. -/
def workingLanes (failed : BitVec 18) (clockMoved : Bool) : List Nat :=
  (List.range 17).filter fun k => !(failed.getLsbD k) && !(clockMoved && decide (k = 16))

/-- The group becomes out of service (R224). -/
def State.groupOut (s : State) (g : Group) : State :=
  (s.modGroup g fun h => { h with state := .outOfService }).raise .hostOutOfService g.val

/-- Logical roles 0 … N−1 over the working physical lanes in ascending order; a lane left over idles as the spare, every
other one is retired (R224, R225). -/
def assignRoles (failed : BitVec 18) (clockMoved : Bool) (n : Nat) : Vector Nat 17 :=
  let ok := workingLanes failed clockMoved
  Vector.ofFn fun k : Fin 17 =>
    let i := ok.findIdx (fun x => decide (x = k.val))
    if ¬ ok.contains k.val then 31 else if i < n then i else if i = n then 16 else 31

/-- Width reduction (R224): retrain one lane narrower, or out of service below MIN_WIDTH. -/
def State.narrow (s : State) (g : Group) (ask : Bool) : State :=
  let h := s.grp g
  if h.width - 1 < h.params.minWidth then s.groupOut g
  else
    let s := s.retrain g 0 false ask
    (s.modGroup g fun h => { h with
      width := h.width - 1, txRole := assignRoles h.txFailed h.txClockSpare (h.width - 1),
      rxRole := assignRoles h.rxFailed h.rxClockSpare (h.width - 1) }).raise .hostWidth g.val (h.width - 1)

/-- A repair request for a transmit role: 0–15 a logical lane, 16 the clock (R222–R224). -/
def State.repairReq (s : State) (g : Group) (role : Nat) : State :=
  let h := s.grp g
  if h.state = .off ∨ h.state = .outOfService ∨ 16 < role then s
  else if h.txSpare.isSome ∧ (role = 16 → h.txSpare = some 16) then s.modGroup g fun h => { h with moveReq := some role }
  else
    let lane := if role = 16 then 17 else (List.range 17).find? (fun k => h.txRole.toList.getD k 31 = role) |>.getD 16
    (s.modGroup g fun h => { h with txFailed := h.txFailed ||| (1#18 <<< lane) }).narrow g (decide (role ≠ 16))

end Sys2Proof.Machine
end

