-- ==== Sys2Proof/Machine/TxOps.lean ====
section
/-!
DEFINITION. Shared operations of the transmitter: shaping (R126), palettes (R130), zero scale (R131), schedules (R139,
R143, R144), burst cuts (R142), the diagnostics record (Table 5-11).
-/
namespace Sys2Proof.Machine

/-! Shaping chain. -/

/-- Table index of a level −3, −1, +1, +3. -/
def levelIdx (a : Int) : Nat := ((a + 3) / 2).toNat

/-- 3·1024·x[s] of three neighbouring levels (R126); a level that does not exist is read as −3 by the table. -/
def shapeX (pd : Vector Int 64) (a b c : Option Int) : Int :=
  match b with
  | none => 0
  | some b => 1024 * b + 3 * pd.toList.getD (16 * levelIdx (a.getD (-3)) + 4 * levelIdx b + levelIdx (c.getD (-3))) 0

/-- What shapes one symbol: taps times 512 · scale, and the cursor. -/
structure TxSet where
  taps : List Int
  pt : Nat
  scale : Nat
deriving DecidableEq, Repr

/-- Codes of a stretch of symbols, nothing sent on either side of it, before they saturate; `w` and `pd` give each symbol's taps and
predistortion table (R126). -/
def shapeRaw (w : Nat → TxSet) (pd : Nat → Vector Int 64) (l : List Int) : List Int :=
  let sym (i : Int) : Option Int := if i < 0 then none else l[i.toNat]?
  let x (i : Int) : Int := shapeX (pd i.toNat) (sym (i - 1)) (sym i) (sym (i + 1))
  (List.range l.length).map fun s =>
    let t := w s
    roundDiv (127 * ((List.range 15).foldl (fun acc i => acc + t.taps.getD i 0 * x ((s : Int) + t.pt - i)) 0))
      (3 * 1024 * 512 * t.scale)

/-- The DAC code (R126). -/
def dacCode (v : Int) : Int := clampI (-127) 127 v

/-- Saturated codes of new symbols from counter `first` on that follow the symbols `old` on the line (R126). A code takes up to 15
symbols on each side: unless the stretch `ends` at zero scale, the last 15 are counted with the stretch that follows. -/
def clipsOf (w : Sym → TxSet) (pd : Sym → Vector Int 64) (first : Sym) (old new : List Int) (ends : Bool) : Nat :=
  let ctx := old.drop (old.length - 30)
  let l := ctx ++ new
  let at' (i : Nat) : Sym := first + BitVec.ofNat 48 i - BitVec.ofNat 48 ctx.length
  let raw := shapeRaw (fun i => w (at' i)) (fun i => pd (at' i)) l
  (((raw.take (if ends then l.length else l.length - 15)).drop (ctx.length - 15)).filter fun v => decide (dacCode v ≠ v)).length

/-! Symbol counter (R125). -/

/-- Symbol periods of a lane in one CK_MGMT cycle: 512 at root × 8. -/
def State.symsPerCycle (s : State) (p : Phys) : Nat := 512 / 2 ^ (s.rxl p).rate

/-- The transmit symbol counter at the start of the current CK_MGMT cycle. Before the lane first leaves DARK it stands at its reset
value. -/
def State.txSym (s : State) (p : Phys) : Sym :=
  if (s.txl p).fresh then (s.txl p).symBase
  else (s.txl p).symBase + BitVec.ofNat 48 (s.symsPerCycle p * s.since (s.txl p).symTime)

/-- A transmit symbol is reached in the current CK_MGMT cycle, or has passed. -/
def State.symDue (s : State) (p : Phys) (sym : Sym) : Bool :=
  decide ((s.txSym p + BitVec.ofNat 48 (s.symsPerCycle p) - 1 - sym).toNat < 2 ^ 47)

/-- A transmit symbol lies in the current CK_MGMT cycle. -/
def State.symNow (s : State) (p : Phys) (sym : Sym) : Bool := decide ((sym - s.txSym p).toNat < s.symsPerCycle p)

/-! Palettes (R130). -/

def TxLane.active (t : TxLane) : TxTaps := if t.activeB then t.paletteB else t.paletteA

/-- The palette whose P_T is in force. -/
def TxLane.inForce (t : TxLane) : TxTaps :=
  let b := match t.fade with | some f => t.activeB ^^ f.past | none => t.activeB
  if b then t.paletteB else t.paletteA

/-- Steps of a running fade at a symbol: none before it started (R47). -/
def Fade.stepsAt (f : Fade) (q : Nat) (sym : Sym) : Nat := if (sym - f.start).toNat < 2 ^ 47 then f.steps q sym else 0

/-- What shapes a symbol: in a fade each tap is (1 − α) old + α new, and P_T changes when α exceeds one half (R47, R130). -/
def TxShape.setAt (t : TxShape) (q : Nat) (sym : Sym) : TxSet :=
  let active := if t.activeB then t.paletteB else t.paletteA
  let new := if t.activeB then t.paletteA else t.paletteB
  let (total, k) : Nat × Nat := match t.fade with
    | some f => if f.started then (f.total q, f.stepsAt q sym) else (1, 0)
    | none => (1, 0)
  { taps := (List.range 15).map fun i => (total - k : Nat) * active.taps.toList.getD i 0 + k * new.taps.toList.getD i 0
    pt := if total < 2 * k then new.pt else active.pt
    scale := total }

/-- The shaping settings in force now, and at a symbol not yet shaped. -/
def TxLane.shape (t : TxLane) : TxShape :=
  { pd := t.pd, paletteA := t.paletteA, paletteB := t.paletteB, activeB := t.activeB, fade := t.fade }
def TxLane.shapeAt (t : TxLane) (sym : Sym) : TxShape :=
  match t.shapes.find? fun x => decide (sym ≠ x.1 ∧ (x.1 - sym).toNat < 2 ^ 47) with
  | some x => x.2
  | none => t.shape

/-- The settings in force end at a symbol: what was sent before it is shaped with them still. -/
def TxLane.keepShape (t : TxLane) (sym : Sym) : TxLane := { t with shapes := t.shapes ++ [(sym, t.shape)] }

/-- Steps a lane's fade has made by the end of the current CK_MGMT cycle, and all it makes. -/
def State.txFadeSteps (s : State) (p : Phys) (f : Fade) : Nat × Nat :=
  let q := qOf (s.rxl p).rate
  (f.stepsAt q (s.txSym p + BitVec.ofNat 48 (s.symsPerCycle p)), f.total q)

/-- Count the saturated codes of symbols from counter `first` on that follow `old` on the line (R126). -/
def State.countClips (s : State) (p : Phys) (first : Sym) (old new : List Int) (ends : Bool) : State :=
  let t := s.txl p
  let n := clipsOf (fun x => (t.shapeAt x).setAt (qOf (s.rxl p).rate) x) (fun x => (t.shapeAt x).pd) first old new ends
  s.modTxDiag p fun d => { d with dacClip := satW 32 (d.dacClip + n) }

/-- Symbols put on the line after those it holds: their saturated codes are counted, and settings that no symbol needs any more go. -/
def State.putLine (s : State) (p : Phys) (first : Sym) (old new : List Int) : State :=
  let last := first + BitVec.ofNat 48 new.length - 30
  (s.countClips p first old new false).modTx p fun t => { t with
    line := new, lineAt := first, shapes := t.shapes.filter fun x => decide ((x.1 - last).toNat < 2 ^ 47) }

/-- Zero scale follows the symbols on the line: the codes of the last 15 have nothing after them. -/
def State.endLine (s : State) (p : Phys) : State :=
  let t := s.txl p
  if t.line = [] then s
  else (s.countClips p (t.lineAt + BitVec.ofNat 48 t.line.length) t.line [] true).modTx p fun t => { t with line := [], shapes := [] }

/-- A burst, or what of it has been sent by a symbol, has nothing on either side. -/
def State.endBurstLine (s : State) (p : Phys) (sym : Sym) : State :=
  let t := s.txl p
  let n := if (sym - t.lineAt).toNat < 2 ^ 47 then (sym - t.lineAt).toNat else 0
  (s.countClips p t.lineAt [] (t.line.take n) true).modTx p fun t => { t with line := [], shapes := [] }

def State.txPalette (s : State) (p : Phys) (tag : BitVec 16) (outcome : Nat) (sym : Sym) : State :=
  s.raiseP .txPalette p outcome tag.toNat (sym.toNat % 2 ^ 32)

def State.txSwap (s : State) (p : Phys) (w : Swap) : Nat × State :=
  let t := s.txl p
  let sym := s.txSym p
  if t.fade.isNone then (0, s.modTx p fun t => { t with fade := some { swap := w } })
  else
    let s := match t.heldSwap with
      | some old => (s.modTxDiag p fun d => { d with swapSuperseded := satW 16 (d.swapSuperseded + 1) }).txPalette p old.tag 3 sym
      | none => s
    (1, (s.modTx p fun t => { t with heldSwap := some w }).txPalette p w.tag 1 sym)

def State.txFadeEnd (s : State) (p : Phys) : State :=
  match (s.txl p).fade with
  | none => s
  | some f =>
    let sym := f.start + BitVec.ofNat 48 (2 ^ f.swap.exp)
    let held := (s.txl p).heldSwap
    let s := s.modTx p fun t => { t.keepShape sym with
      activeB := !t.activeB, heldSwap := none, fade := held.map fun w => { swap := w, started := true, start := sym } }
    let s := (s.modTxDiag p fun d => { d with swapCompleted := satW 16 (d.swapCompleted + 1) }).txPalette p f.swap.tag 2 sym
    match held with
    | some w => s.txPalette p w.tag 0 sym
    | none => s

/-- A mode change completes the fade in one step and drops a held request (Table 2-8). -/
def State.txFadeSettle (s : State) (p : Phys) : State :=
  match (s.txl p).fade with
  | none => s
  | some f =>
    let sym := s.txSym p
    let held := (s.txl p).heldSwap
    let s := s.modTx p fun t => { t.keepShape sym with activeB := !t.activeB, fade := none, heldSwap := none }
    let s := (s.modTxDiag p fun d => { d with swapCompleted := satW 16 (d.swapCompleted + 1) }).txPalette p f.swap.tag 2 sym
    match held with
    | some w => (s.modTxDiag p fun d => { d with swapSuperseded := satW 16 (d.swapSuperseded + 1) }).txPalette p w.tag 4 sym
    | none => s

/-! Moves seen from a physical lane. -/

/-- The working lane with a spare move from or to a physical lane. -/
def State.moveOf (s : State) (p : Phys) : Option (Work × Move) :=
  workAll.findSome? fun w => match (s.wk w).move with
    | some m => if m.src = p ∨ m.dst = p then some (w, m) else none
    | none => none

/-- A spare move or mode change is in progress on a physical lane. -/
def State.moving (s : State) (p : Phys) : Bool := (s.ln p).change.isSome || (s.moveOf p).isSome

/-- A move claims the lane as its destination (R186). -/
def State.claimed (s : State) (p : Phys) : Bool :=
  match s.moveOf p with
  | some (_, m) => decide (m.dst = p)
  | none => false

/-- A failing declaration holds the source of a failure move at zero scale (R183 step 1); in SLOTTED and OPEN from the
switch point (R185). -/
def State.failingSrc (s : State) (p : Phys) : Bool :=
  match s.moveOf p with
  | some (_, m) => decide (m.src = p ∧ m.phase = .failing)
  | none => false

/-! Zero scale (Table 5-3). -/

/-- Training or a calibration run on the lane needs its signal in TUNE (Table 5-4). -/
def State.wantsSignal (s : State) (p : Phys) : Bool := (s.txl p).trainSignal || decide (s.cal.lane[p.val].state = .running)

/-- The conditions of Table 5-3 in force, in ascending order. -/
def State.zsConds (s : State) (p : Phys) : List Nat :=
  let l := s.ln p
  let t := s.txl p
  [(0, t.fresh), (1, decide (l.mode = .dark)), (2, decide (l.power ≠ .active)), (3, burstMode l.mode && decide (t.state ≠ .sending)),
    (4, decide (l.mode = .tune) && !s.wantsSignal p), (5, t.fault), (6, s.tripped), (7, (l.failed && l.reint.isNone) || s.failingSrc p),
    (8, decide (l.mode = .spare) && t.idleZero && !s.claimed p)].filterMap fun x => if x.2 then some x.1 else none

def State.zeroScale (s : State) (p : Phys) : Bool := decide (s.zsConds p ≠ [])

/-- A due trim of the line DAC takes effect: between codewords in STEADY, and at zero scale (Table 9-8). -/
def State.dacTrim (s : State) (p : Phys) : State := s.modTherm fun t => { t with trimDac := vupd t.trimDac p (·.take) }

/-- ZS_CAUSE: the lowest code, or 15 (R131). -/
def State.zsCause (s : State) (p : Phys) : Nat := (s.zsConds p).headD 15

/-- A protection condition holds the transmitter down (codes 5 to 7). -/
def State.protectedLow (s : State) (p : Phys) : Bool := (s.zsConds p).any fun c => decide (5 ≤ c ∧ c ≤ 7)

/-! Schedules. -/

/-- G_min (Table 5-5). -/
def State.gMin (s : State) (rate : Nat) : Nat :=
  if s.standard then (match rate with | 0 => 425 | 1 => 213 | _ => 107)
  else match rate with | 0 => 454 | 1 => 227 | _ => 114

def Schedule.word (c : Schedule) (i : Nat) : Nat := (c.header.toList.getD i 0).toNat
def Schedule.slots (c : Schedule) : Nat := bitsOf (c.word 0) 10 0
def Schedule.full (c : Schedule) : Bool := bitOf (c.word 0) 11
def Schedule.slotLen (c : Schedule) : Nat := bitsOf (c.word 1) 23 0
def Schedule.preOffset (c : Schedule) : Nat := bitsOf (c.word 2) 23 0
def Schedule.tailGuard (c : Schedule) : Nat := bitsOf (c.word 3) 15 0
def Schedule.txDelay (c : Schedule) : Nat := bitsOf (c.word 4) 23 0
def Schedule.rxDelay (c : Schedule) : Nat := bitsOf (c.word 5) 23 0
/-- Burst space (R144). -/
def Schedule.space (c : Schedule) : Nat := c.slotLen - c.preOffset - c.tailGuard
def Schedule.entry (c : Schedule) (k : Nat) : Nat := ((tabGet c.entries k).getD 0).toNat

def entryDest (e : Nat) : Nat := bitsOf e 13 0
def entryTxEn (e : Nat) : Bool := bitOf e 14
def entryTxCold (e : Nat) : Bool := bitOf e 15
def entrySender (e : Nat) : Nat := bitsOf e 29 16
def entryRxEn (e : Nat) : Bool := bitOf e 30
def entryProbe (e : Nat) : Bool := bitOf e 31

/-- Schedule bytes: the header, then entries (R143). -/
def Schedule.headerBytes (c : Schedule) : Bytes := c.header.toList.flatMap fun w => leBytes 4 w.toNat
def Schedule.entryBytes (c : Schedule) (first count : Nat) : Bytes :=
  (List.range count).flatMap fun i => leBytes 4 (c.entry (first + i))

/-- The offset that R143 reports for the first check a schedule fails. -/
def State.schedFault (s : State) (c : Schedule) (rate : Nat) : Option Nat :=
  let lo := (if s.standard then 13600 else 14520) / 2 ^ rate
  let hi := (if s.standard then 3400000 else 3630000) / 2 ^ rate
  if c.slots = 0 ∨ 1024 < c.slots then some 0
  else if c.slotLen < lo ∨ hi < c.slotLen then some 4
  else if c.tailGuard < s.gMin rate then some 12
  else if c.slotLen < c.preOffset + c.tailGuard + 480 then some 4
  else match (List.range c.slots).find? (fun k => entryTxEn (c.entry k) && decide (entryDest (c.entry k) = 16383)) with
    | some k => some (32 + 4 * k)
    | none => if s.epoch.period ≠ 0 ∧ s.epoch.period < (c.txDelay + c.slots * c.slotLen) * 2 ^ rate then some 16 else none

/-- Full-rate symbol periods since the current epoch started: 512 for each CK_MGMT cycle (Table 10-1, R140). -/
def State.epochSymbols (s : State) : Nat := 512 * s.since s.epoch.start

/-- A place in the epoch, in full-rate symbol periods, lies in the current CK_MGMT cycle. -/
def State.epochAt (s : State) (x : Nat) : Bool := decide (s.epochSymbols ≤ x ∧ x < s.epochSymbols + 512)

/-- Transmit slots of a schedule that have started in this epoch, at a rate (R142, R144). -/
def State.slotsStarted (s : State) (c : Schedule) (rate : Nat) : Nat :=
  let e := s.epochSymbols / 2 ^ rate
  if e < c.txDelay ∨ c.slotLen = 0 then 0 else min c.slots ((e - c.txDelay) / c.slotLen + 1)

/-! Cut bursts. -/

/-- Return a context's send pointer to a SEQ unless it stands at or before it (R142). -/
def ctxRewind (c : TxCtx) (t : BitVec 32) : TxCtx :=
  if (c.sendPtr - t).toNat = 0 ∨ 2 ^ 31 ≤ (c.sendPtr - t).toNat then c else { c with sendPtr := t }

/-- Stop a burst that is frozen or being sent: no postamble, zero scale, and its frames are sent again (R142, Table 5-9). An
acknowledgement that a frozen burst would have carried is due again, and a RESYNC asked for goes into the next burst (R136). -/
def State.cutBurst (s : State) (p : Phys) : State :=
  match (s.txl p).burst with
  | none => s
  | some b =>
    let unsent := decide ((s.txl p).state = .frozen ∧ 0 < b.cwCount)
    let again := decide ((s.txl p).state = .frozen) && b.asked
    let s := if (s.txl p).state = .sending then s.endBurstLine p (s.txSym p) else s
    let s := s.modTx p fun t => { t with state := .idle, burst := none, guardDone := false }
    match s.workOf p with
    | none => s
    | some w => s.modWork w fun u => { u with
        tx := if again ∧ ¬ u.tx.resync.contains b.dest then { u.tx with resync := u.tx.resync ++ [b.dest] } else u.tx,
        acks := if unsent then tabUpd u.acks b.dest {} fun a => { a with changed := true } else u.acks,
        txCtx := match tabGet u.txCtx b.dest, b.firstSeq with
          | some c, some q => tabSet u.txCtx b.dest (ctxRewind c q)
          | _, _ => u.txCtx }

/-! Mode changes (R125, R130, R135, R152). -/

/-- The transmitter when its lane's mode changes: its counters restart, and the symbol counter where the lane leaves DARK. RUN goes
on from its old value when a lane enters STEADY, LOOP or SPARE again (DESIGN CHOICE, log 103: R109 only lets it count superframes modulo
4,096). -/
def State.txMode (s : State) (p : Phys) (old new : LaneMode) : State :=
  let s := if new = .tune ∨ new = .dark ∨ burstMode new then s.txFadeSettle p else s
  let s := if burstMode old ∧ ¬ burstMode new then s.cutBurst p else s
  s.modTx p fun t =>
    let t := { t with diag := {}, elastic := if new = .transparent then [] else t.elastic, elasticOn := false, dry := false
                      keys := 2 ^ 31 - 1, trainPos := 0, rest := [], marker := 0, line := [], shapes := [],
                      trainSignal := false, fault := if new = .tune ∧ ¬ t.faultNow then false else t.fault }
    if old = .dark ∧ new ≠ .dark then { t with symBase := 0, symTime := s.now, fresh := false } else t

/-- TX_STATE (Table 5-11): outside SLOTTED and OPEN it reads 3 (continuous), at zero scale too, and 0 in DARK (DESIGN CHOICE, log 103: the
table gives codes 0 to 2 to the burst transmitter and does not say which a lane in DARK shows). -/
def txStateCode (s : State) (p : Phys) : Nat :=
  if burstMode (s.modeOf p) then (match (s.txl p).state with | .idle => 0 | .frozen => 1 | .sending => 2)
  else if (s.modeOf p = .dark) then 0 else 3

/-- A fade has started. -/
def TxLane.fading (t : TxLane) : Bool := match t.fade with
  | some f => f.started
  | none => false

/-- The transmit diagnostics record (Table 5-11). -/
def State.txRecord (s : State) (p : Phys) : Bytes :=
  let t := s.txl p
  let d := t.diag
  leBytes 1 1 ++ leBytes 1 p.val ++ leBytes 1 (match s.workOf p with | some w => w.val | none => 255) ++
  leBytes 1 (packBits [(4, (s.modeOf p).code), (2, txStateCode s p), (1, (s.zeroScale p).toNat), (1, 0)]) ++
  recWord [(4, s.zsCause p), (4, t.swing), (4, t.inForce.pt), (1, t.activeB.toNat), (1, t.fading.toNat),
    (1, t.heldSwap.isSome.toNat), (1, t.pdStaged.isSome.toNat), (16, 0)] ++
  leBytes 8 s.now.toNat ++ leBytes 6 (s.txSym p).toNat ++ zeros 2 ++ leBytes 4 d.bursts ++ leBytes 2 d.coldBursts ++
  leBytes 2 d.probes ++ leBytes 4 d.cwSent ++ leBytes 4 d.framesSent ++ leBytes 4 d.dacClip ++ leBytes 4 d.underrun ++
  leBytes 2 d.skipped ++ leBytes 2 d.cuts ++ leBytes 2 d.collided ++ leBytes 2 d.backoffs ++ leBytes 2 d.swapCompleted ++
  leBytes 2 d.swapSuperseded ++ leBytes 2 d.pdApplied ++ zeros 2

end Sys2Proof.Machine
end

