-- ==== Sys2Proof/Machine/DelivOps.lean ====
section
/-!
DEFINITION. Shared operations of frame delivery: retention and credit (R156, R158, R160), contexts (R161–R163), LINK
messages (R164), acknowledgements (R165–R170), receiving in order (R171, R172), sketches (R173–R177), frames for the line.
-/
namespace Sys2Proof.Machine

/-! Retention. -/

/-- Bytes of a retention image (R158). -/
def imageSize (len : Nat) : Nat := (16 + len + 7) / 8 * 8

def Image.size (i : Image) : Nat := imageSize i.payload.length

/-- Bytes of the ring in use. -/
def WorkLane.used (u : WorkLane) : Nat := (u.images.map Image.size).sum

/-- Bytes of LINK images in the ring. -/
def WorkLane.linkUsed (u : WorkLane) : Nat := ((u.images.filter fun i => decide (i.kind = 3)).map Image.size).sum

/-- Frames retained (R159). -/
def WorkLane.retained (u : WorkLane) : List Image := u.images.filter fun i => !i.released

/-- Frames retained for a station. -/
def WorkLane.retainedFor (u : WorkLane) (p : Nat) : List Image := u.images.filter fun i => !i.released && decide (i.dest = p)

/-- Space for frames with credit in the lane's extents: all but the LINK reserve of 512 bytes, less frames in assembly (R156). Extents no
longer asked for, which still hold frames or cover credit granted before, count for none (R158). -/
def WorkLane.space (u : WorkLane) (waiting : Nat) : Nat :=
  u.extents * 65536 - 512 - (u.used - min 512 u.linkUsed) - waiting

/-- Return space whose images are all released, and extents no longer asked for and empty (R158). `owed` bytes are kept for
frames received whole and for credit granted before, so that an accepted frame always finds space (R156). -/
def WorkLane.trim (u : WorkLane) (owed : Nat) : WorkLane :=
  let u := { u with images := u.images.dropWhile (·.released) }
  let need := if owed = 0 then u.used else u.used - min 512 u.linkUsed + 512 + owed
  { u with heldExtents := max u.extents (min u.heldExtents ((need + 65535) / 65536)) }

/-- Images of frames received whole on the channel and not accepted yet. -/
def HostChan.waitingBytes (c : HostChan) : Nat := (c.inFrames.map fun f => imageSize f.payload.length).sum

/-- Units granted and not used; none where a frame beyond the limit has been charged (R210). -/
def HostChan.openCredit (c : HostChan) : Nat :=
  if 2 ^ 23 ≤ (c.rxLimit - c.rxUsed).toNat then 0 else (c.rxLimit - c.rxUsed).toNat

/-- Retention bytes promised to the channel: frames received whole, and 18 bytes for each unit of open credit (R156). -/
def HostChan.owed (c : HostChan) : Nat := c.waitingBytes + 18 * c.openCredit

/-- A drain runs on the lane (R18). -/
def LaneUnit.draining (l : LaneUnit) : Bool :=
  match l.change with
  | some (.drain _ _) => true
  | some (.burstEnd _ _) => true
  | _ => false

def State.draining (s : State) (w : Work) : Bool :=
  match s.physOf w with
  | some p => (s.ln p).draining
  | none => false

/-- The lane may take frames from the host ASIC (R156, Table 6-2 order 2). -/
def State.takesFrames (s : State) (w : Work) : Bool :=
  (s.physOf w).isSome && guaranteed (s.modeOfWork w) && !s.draining w

/-- Units that may be granted now (R156, R133), none while tripped (Table 9-7), while the group is out of service (R224) or on
a lane that R469 keeps from passing bits: 18 bytes of retention cover any unit, since an image exceeds its units by at
most 8 bytes and a frame has at least four units. -/
def State.grantable (s : State) (w : Work) : Nat :=
  let u := s.wk w
  if s.tripped ∨ (s.grp (groupOfWork w)).state = .outOfService then 0
  else if s.modeOfWork w = .transparent then
    (match s.physOf w with
     | some p => if (s.ln p).failed then 0 else (2048 - (s.txl p).elastic.length) / 240 * 15
     | none => 0)
  else if s.takesFrames w && !(decide (s.modeOfWork w = .steady) && decide (u.fec.peer = 16383)) then
    u.space (s.chanOf w).waitingBytes / 18
  else 0

/-- Raise the channel's credit limit to what may be granted; a limit is never lowered (R210). -/
def State.grant (s : State) (w : Work) : State :=
  let c := s.chanOf w
  let n := s.grantable w
  if c.openCredit < n then
    (s.modChan w fun c => { c with rxLimit := c.rxUsed + BitVec.ofNat 24 n }).modGroup (groupOfWork w)
      fun h => h.sbChange (chanOfWork w)
  else s

/-- A LINK image fits: in the reserve, or in space no credit covers (R156). -/
def State.linkFits (s : State) (w : Work) : Bool :=
  let u := s.wk w
  let c := s.chanOf w
  decide (0 < u.extents) &&
    (decide (u.linkUsed + 64 ≤ 512) || decide (64 + 18 * c.openCredit ≤ u.space c.waitingBytes))

/-! Transmit contexts. -/

/-- Retire the least recently used transmit context without a retained frame (R162). -/
def WorkLane.retireTx (u : WorkLane) : Option WorkLane :=
  let idle := u.txCtx.filter fun e => decide (u.retainedFor e.1 = [])
  (minBy (fun e => (e.2.used.toNat : Int)) idle).map fun e => { u with txCtx := tabDel u.txCtx e.1 }

/-- Room for a new transmit context (R161, R162). -/
def WorkLane.roomTx (u : WorkLane) : Option WorkLane := if u.txCtx.length < u.txQuota then some u else u.retireTx

/-- A message of 48 bytes (R164). -/
def linkMsg (kind : Nat) (rest : Bytes) : Bytes := padTo 48 (leBytes 1 kind ++ rest)

/-- The image of a CTX_OPEN (R162). -/
def openImage (p : Nat) (id : BitVec 16) : Image :=
  { dest := p, seq := 0, kind := 3, payload := linkMsg 1 (beBytes 2 id.toNat), tag := 0 }

/-- The image is a CTX_OPEN, which belongs to its context and to no other (R162). -/
def Image.opens (i : Image) : Bool := decide (i.kind = 3) && decide (byteAt i.payload 0 = 1)

/-- Put a context in place with its CTX_OPEN (R162), which waits where `fits` is false (R156). -/
def WorkLane.openTx (u : WorkLane) (p : Nat) (gen : Option (BitVec 10)) (fits : Bool) (now : Time) : WorkLane :=
  let id : BitVec 16 := match tabGet u.prevCtx p with
    | some c => c + 1
    | none => 0
  { u with
    prevCtx := tabSet u.prevCtx p id,
    txCtx := tabSet u.txCtx p { next := 1, sendPtr := 0, ctxId := id, gen := gen, opening := !fits, used := now },
    images := if fits then u.images ++ [openImage p id] else u.images }

/-- GEN known of a station from its receive context. -/
def WorkLane.genOf (u : WorkLane) (p : Nat) : Option (BitVec 10) := (tabGet u.rxCtx p).map (·.gen)

/-- Why a frame or LINK message finds no transmit context. -/
inductive CtxFail where
  | noContext
  | noSpace
deriving DecidableEq, Repr

/-- The image taken last is written into RETENTION, and its transmit context into FABRIC_SHARED (R158, R161). -/
def State.storeLast (s : State) (w : Work) : State :=
  match (s.wk w).images.getLast? with
  | none => s
  | some i =>
    let at' := frameWord w i.dest i.seq
    let s := s.modWork w fun u => { u with images := u.images.dropLast ++ [{ i with word := at' }] }
    (s.unitWrite arrRetention at' (wordsFor i.size)).unitWrite arrFabric (contextWord w false i.dest) 8

/-- Make sure of a transmit context toward a station; a new one needs room for its CTX_OPEN. -/
def State.needTx (s : State) (w : Work) (p : Nat) : Except CtxFail State :=
  if (tabGet (s.wk w).txCtx p).isSome then .ok s
  else match (s.wk w).roomTx with
    | none => .error .noContext
    | some u => if s.linkFits w then .ok ((s.modWork w fun _ => u.openTx p (u.genOf p) true s.now).storeLast w) else .error .noSpace

/-- Append an image: it takes the next SEQ of its context (R155, R164). -/
def WorkLane.push (u : WorkLane) (p kind : Nat) (payload : Bytes) (tag : BitVec 32) (now : Time) : WorkLane :=
  match tabGet u.txCtx p with
  | none => u
  | some c => { u with
      txCtx := tabSet u.txCtx p { c with next := c.next + 1, used := now },
      images := u.images ++ [{ dest := p, seq := c.next, kind := kind, payload := payload, tag := tag }] }

/-! LINK messages. -/

def State.modAck (s : State) (w : Work) (p : Nat) (f : AckState → AckState) : State :=
  s.modWork w fun u => { u with acks := tabUpd u.acks p {} f }

/-- Send the LINK messages that wait for a context or for space, oldest first (R156). -/
def State.flushLinks (n : Nat) (s : State) (w : Work) (p : Nat) : State :=
  match n with
  | 0 => s
  | k + 1 =>
    match ((tabGet (s.wk w).acks p).getD {}).links with
    | [] => s
    | m :: _ =>
      if ¬ guaranteed (s.modeOfWork w) then s
      else match s.needTx w p with
        | .error _ => s
        | .ok t =>
          if t.linkFits w then
            State.flushLinks k (((t.modWork w fun u => u.push p 3 m 0 t.now).storeLast w).modAck w p fun a => { a with links := a.links.tail }) w p
          else t

/-- Send a LINK message, or let it wait. -/
def State.sendLink (s : State) (w : Work) (p : Nat) (msg : Bytes) : State :=
  let s := s.modAck w p fun a => { a with links := a.links ++ [msg] }
  let n := ((tabGet (s.wk w).acks p).getD {}).links.length
  s.flushLinks n w p

/-- The CTX_OPEN of a context that waits for space is stored once it fits (R156, R170). -/
def State.settleOpening (s : State) (w : Work) (p : Nat) : State :=
  match tabGet (s.wk w).txCtx p with
  | none => s
  | some c => if c.opening ∧ s.linkFits w then
      (s.modWork w fun u => { u with
        txCtx := tabSet u.txCtx p { c with opening := false }, images := u.images ++ [openImage p c.ctxId] }).storeLast w
    else s

/-- After space has freed: CTX_OPEN frames that wait for it, waiting LINK messages, then credit. -/
def State.settleRetention (s : State) (w : Work) : State :=
  let s := s.modWork w fun u => u.trim (s.chanOf w).owed
  let s := s.each (s.wk w).txCtx fun e s => s.settleOpening w e.1
  let s := s.each (s.wk w).acks fun e s => s.flushLinks e.2.links.length w e.1
  s.grant w

/-! Acceptance. -/

/-- The destination a frame is bound to: in STEADY 16,383 means the learned peer (R155). -/
def State.bindDest (s : State) (w : Work) (station : Nat) : Nat :=
  if s.modeOfWork w = .steady ∧ station = 16383 then (s.wk w).fec.peer else station

/-- Refuse the oldest frame of a channel with a reason of Table 7-5. -/
def State.refuseFrame (s : State) (w : Work) (f : HostFrame) (reason : Nat) : State :=
  let s := s.modWork w fun u => { u with counts := { u.counts with refused := satW 32 (u.counts.refused + 1) } }
  s.hostRefuse w f.station reason f.tag

/-- The reason Table 6-2 refuses a frame for, but for its context. -/
def State.frameFault (s : State) (w : Work) (f : HostFrame) : Option Nat :=
  let steady := decide (s.modeOfWork w = .steady)
  if ¬ s.takesFrames w ∨ (steady = true ∧ f.station = 16383 ∧ (s.wk w).fec.peer = 16383) then some 1
  else if f.payload.length < 48 ∨ 16368 < f.payload.length then some 2
  else if f.station = 16383 ∧ ¬ steady then some 3
  else none

/-- Accept or refuse the oldest frame of a channel (R155). -/
def State.acceptFrame (s : State) (w : Work) (f : HostFrame) (memError : Bool) : State :=
  let pop (s : State) : State := s.modChan w fun c => { c with inFrames := c.inFrames.tail }
  if f.beyond then (pop s).refuseFrame w f 5
  else if memError then ((pop s).refuseFrame w f 6).grant w
  else match s.frameFault w f with
    | some r => ((pop s).refuseFrame w f r).grant w
    | none =>
      let p := s.bindDest w f.station
      match s.needTx w p with
      | .error .noSpace => s
      | .error .noContext => (((pop s).refuseFrame w f 4).raiseW .deliveryCtxFull w 0 p).grant w
      | .ok t =>
        let t := pop t
        let t := (t.modWork w fun u => { (u.push p 1 f.payload f.tag t.now) with
          counts := { u.counts with accepted := satW 32 (u.counts.accepted + 1) } }).storeLast w
        let t := t.hostAccept w f.tag
        if t.modeOfWork w = .steady ∧ (t.wk w).fec.peer ≠ p then t.raiseW .deliveryHeldPeer w 0 p else t

/-! Acknowledgement state. -/

/-- NAK as a frame carries it: k = SEQ asked for − ACK, from 1 to 1,023, else 0 (R167). -/
def RxCtx.nakValue (c : RxCtx) : Nat :=
  match c.nak with
  | some q => let k := (q - (c.next - 1)).toNat; if 1 ≤ k ∧ k ≤ 1023 then k else 0
  | none => 0

/-- Change a receive context; a changed ACK or NAK makes an acknowledgement due, a NAK a standalone ACK at once (R166). -/
def State.modRxCtx (s : State) (w : Work) (p : Nat) (f : RxCtx → RxCtx) : State :=
  match tabGet (s.wk w).rxCtx p with
  | none => s
  | some c =>
    let c' := f c
    let s := (s.modWork w fun u => { u with rxCtx := tabSet u.rxCtx p c' }).unitWrite arrFabric (contextWord w true p) 8
    if c'.next ≠ c.next ∨ c'.nakValue ≠ c.nakValue then
      s.modAck w p fun a => { a with
        changed := true, standalone := a.standalone || (decide (c'.nakValue ≠ 0) && decide (c'.nakValue ≠ c.nakValue)) }
    else s

/-- A pending NAK from a SEQ, if none is pending (Table 6-4). -/
def RxCtx.askFor (c : RxCtx) (q : BitVec 32) : RxCtx :=
  if c.nak.isSome then c else { c with nak := some q, nakSketch := decide (q ≠ c.next) }

def State.count (s : State) (w : Work) (f : DeliveryCounts → DeliveryCounts) : State :=
  s.modWork w fun u => { u with counts := f u.counts }

/-! Send side. -/

/-- The device's generation (R179). -/
def State.gen (s : State) : BitVec 10 := s.sec.img.bootCount.setWidth 10

/-- SEQ a is before b, modulo 2^32. -/
def seqBefore (a b : BitVec 32) : Bool := decide (a ≠ b) && decide ((b - a).toNat < 2 ^ 31)

/-- Set the send pointer back to a SEQ (R142, R168, R169). -/
def State.rewindTo (s : State) (w : Work) (p : Nat) (q : BitVec 32) : State :=
  s.modWork w fun u => { u with txCtx := match tabGet u.txCtx p with
    | some c => tabSet u.txCtx p (ctxRewind c q)
    | none => u.txCtx }

/-- The retained frame of lowest SEQ toward a station. -/
def WorkLane.oldest (u : WorkLane) (p : Nat) : Option Image :=
  (u.retainedFor p).foldl (fun acc i => match acc with
    | some j => if seqBefore i.seq j.seq then some i else some j
    | none => some i) none

/-- Back to the oldest retained frame of a context. -/
def State.rewindOldest (s : State) (w : Work) (p : Nat) : State :=
  match (s.wk w).oldest p with
  | some i => s.rewindTo w p i.seq
  | none => s

/-- Backoff of a destination in OPEN (R150). -/
def State.enterBackoff (s : State) (w : Work) (p : Nat) : State :=
  if s.modeOfWork w ≠ .openM then s
  else
    let t := (s.wk w).tx
    let d := (tabGet t.dests p).getD {}
    let a := min 255 (d.attempts + 1)
    let e := if t.attemptLimit ≤ a then t.beMax else min a t.beMax
    let x := Config.prngStep t.prng
    let hit := decide (t.attemptLimit ≤ a) && !d.limitRaised
    let s := s.modTxw w fun t => { t with
      prng := x, dests := tabSet t.dests p { d with
        attempts := a, backoff := true, drawn := x.toNat % 2 ^ e, limitRaised := d.limitRaised || hit } }
    let s := match s.physOf w with
      | some l => s.modTxDiag l fun g => { g with backoffs := satW 16 (g.backoffs + 1) }
      | none => s
    if hit then s.raiseW .txBackoffLimit w 0 p else s

/-- A cumulative acknowledgement that advances ends the attempt count (R150). -/
def State.resetAttempts (s : State) (w : Work) (p : Nat) : State :=
  s.modTxw w fun t => { t with dests := match tabGet t.dests p with
    | some d => tabSet t.dests p { d with attempts := 0, limitRaised := false }
    | none => t.dests }

/-- Peer restart (R170): frames sent are released as uncertain, the others go out in a new context from SEQ 1. -/
def State.peerRestart (s : State) (w : Work) (p : Nat) (gen : Option (BitVec 10)) : State :=
  match tabGet (s.wk w).txCtx p with
  | none => s
  | some c =>
    let mine := (s.wk w).retainedFor p
    let sent := mine.filter (·.sent)
    let s := s.each (sent.filter fun i => decide (i.kind = 1)) fun i s =>
      (s.hostDesc w 5 p i.tag).count w fun n => { n with uncertain := satW 16 (n.uncertain + 1) }
    let kept := mine.filter fun i => !i.sent && !i.opens
    let s := s.modWork w fun u => { u with images := u.images.map fun i =>
        if i.dest = p ∧ ¬ i.released then
          (match kept.findIdx? (fun j => decide (j = i)) with
           | some k => { i with seq := BitVec.ofNat 32 (k + 1) }
           | none => { i with released := true })
        else i }
    let s := s.modWork w fun u => u.trim (s.chanOf w).owed
    let fits := s.linkFits w
    let s := s.modWork w fun u =>
      let u := u.openTx p (match gen with | some g => some g | none => c.gen) fits s.now
      { u with txCtx := tabUpd u.txCtx p { c with next := 1 } fun c => { c with next := BitVec.ofNat 32 (kept.length + 1) } }
    let s := if fits then s.storeLast w else s
    (s.settleRetention w).raiseW .deliveryPeerRestart w 0 p

/-- Use ACK and NAK of a valid frame whose GEN agrees (R168). -/
def State.useAck (s : State) (w : Work) (p : Nat) (ack : BitVec 32) (nak : Nat) : State :=
  match tabGet (s.wk w).txCtx p with
  | none => s
  | some c =>
    let covered (i : Image) : Bool := decide (i.dest = p) && !i.released && decide ((ack - i.seq).toNat < 2 ^ 31)
    let n := ((s.wk w).images.filter covered).length
    let s := if n = 0 then s
      else
        let s := s.modWork w fun u =>
          let u := { u with images := u.images.map fun i => if covered i then { i with released := true } else i }
          { u with
            txCtx := tabSet u.txCtx p { c with
              sendPtr := if seqBefore ack c.sendPtr then c.sendPtr else ack + 1, freed := s.now,
              rtoOn := (u.retainedFor p).any (·.sent) },
            counts := { u.counts with acked := satW 32 (u.counts.acked + n) } }
        (s.resetAttempts w p).settleRetention w
    match tabGet (s.wk w).txCtx p with
    | none => s
    | some c =>
      let t := ack + BitVec.ofNat 32 nak
      let recent : Bool := match c.rewind with
        | some (q, at') => decide (q = t) && decide (s.usOf (s.since at') < (s.wk w).rto)
        | none => false
      if nak ≠ 0 ∧ ((s.wk w).retainedFor p).any (fun i => decide (i.seq = t)) ∧ seqBefore t c.sendPtr ∧ ¬ recent then
        (s.modWork w fun u => { u with txCtx := tabSet u.txCtx p { c with sendPtr := t, rewind := some (t, s.now) } }).count w
          fun n => { n with naks := satW 16 (n.naks + 1) }
      else s

/-- Generation check and acknowledgement of a valid frame (R168, R170): a context that has recorded no GEN records it. ACK and
NAK of a frame that reveals a restart are not used. -/
def State.takeAckOf (s : State) (w : Work) (p : Nat) (f : FrameHdr) (reveals : Bool) : State :=
  match tabGet (s.wk w).txCtx p with
  | none => s
  | some c =>
    let g := c.gen.getD f.gen
    let r := s.unitRead arrFabric (contextWord w false p) 8 none
    let s := r.2
    if r.1 ≠ [] then s.peerRestart w p none
    else if g ≠ f.gen then s.peerRestart w p (some f.gen)
    else
      let s := s.modWork w fun u => { u with txCtx := tabSet u.txCtx p { c with gen := some f.gen } }
      if f.ackValid ∧ ¬ reveals then s.useAck w p f.ack f.nak else s

/-! Sketches. -/

/-- Outstanding sketch bytes of a lane (R173). -/
def WorkLane.sketchBytes (u : WorkLane) : Nat := (u.rxCtx.map fun e => (e.2.sketches.map (·.bytes)).sum).sum

/-- Turning SKETCH off takes effect once no sketch is outstanding, and its command is answered then (R173, R386). -/
def State.settleSketch (s : State) (w : Work) : State :=
  let u := s.wk w
  if u.sketchOff && decide (u.sketchBytes = 0) then
    let s := s.modWork w fun u => { u with sketch := false, sketchOff := false, sketchSess := none }
    match u.sketchSess with
    | some k => s.answer k 0x0604 .ok 0 []
    | none => s
  else s

/-- Withdraw the sketches of a station from SEQ n on (R176). A NAK pending beyond n is dropped: the next frame from n on that
is missing sets it again. -/
def State.scrape (s : State) (w : Work) (p : Nat) (n : BitVec 32) : State :=
  match tabGet (s.wk w).rxCtx p with
  | none => s
  | some c =>
    if c.sketches.all (fun k => seqBefore k.seq n) then s
    else
      let s := s.modRxCtx w p fun c => { c with
        sketches := c.sketches.filter fun k => seqBefore k.seq n, sketchPtr := n, paused := false,
        nak := match c.nak with
          | some q => if seqBefore n q then none else some q
          | none => none }
      let s := (s.hostDesc w 3 p n).count w fun x => { x with scrapes := satW 16 (x.scrapes + 1) }
      (s.raiseW .deliveryScrape w 0 p n.toNat).settleSketch w

/-- The receive path of a lane is lost: scrape from the oldest unvarnished sketch of every context (R176). -/
def State.scrapeAll (s : State) (w : Work) : State :=
  s.each (s.wk w).rxCtx fun e s => match e.2.sketches with
    | k :: _ => s.scrape w e.1 k.seq
    | [] => s

/-- How many leading sketches are confirmed and covered by credit (R175, R211), with the units they charge. -/
def varnishable (credit : Nat) : List Sketch → Nat × Nat
  | [] => (0, 0)
  | k :: r =>
    let u := frameUnits k.payload.length
    if k.confirmed ∧ u ≤ credit then
      let x := varnishable (credit - u) r
      (x.1 + 1, x.2 + u)
    else (0, 0)

/-- Deliver confirmed sketches and send the varnish (R175). -/
def State.varnish (s : State) (w : Work) (p : Nat) : State :=
  match tabGet (s.wk w).rxCtx p with
  | none => s
  | some c =>
    let h := s.chanOf w
    let left := (h.txLimit - h.txUsed).toNat
    let x := varnishable (if left ≤ 2 ^ 23 then left else 0) c.sketches
    if x.1 = 0 then s
    else
      let n := c.next + BitVec.ofNat 32 x.1
      let s := s.modChan w fun h => { h with txUsed := h.txUsed + BitVec.ofNat 24 x.2 }
      let s := s.modRxCtx w p fun c => { c with
        next := n, sketches := c.sketches.drop x.1,
        nak := match c.nak with
          | some q => if seqBefore q n then none else some q
          | none => none }
      let s := s.count w fun y => { y with delivered := satW 32 (y.delivered + x.1) }
      (s.hostDesc w 2 p (n - 1)).settleSketch w

/-- The host ASIC has granted credit: varnishes that waited for it go out (R211). -/
def State.varnishLane (s : State) (w : Work) : State := s.each (s.wk w).rxCtx fun e s => s.varnish w e.1

/-! Receiving. -/

/-- A LINK message's effect on the device's own delivery stage (Table 6-3). A reserved KIND is 'discarded and counted'; the
spec names no counter, and DISCARDED counts it. DESIGN CHOICE, log 103. -/
def State.linkAction (s : State) (w : Work) (p : Nat) (f : FrameHdr) (m : Bytes) : State :=
  match byteAt m 0 with
  | 2 => s.peerRestart w p (if byteAt m 5 = 1 then some f.gen else none)
  | 3 =>
    if byteAt m 3 = 7 then
      let s := s.rewindOldest w p
      let s := match s.physOf w with
        | some l => s.modTxDiag l fun g => { g with collided := satW 16 (g.collided + 1) }
        | none => s
      s.enterBackoff w p
    else if byteAt m 3 = 8 then
      s.modTxw w fun t => { t with coldPending := if t.coldPending.contains p then t.coldPending else t.coldPending ++ [p] }
    else s
  | 4 => s.raiseW .deliveryVoidReceived w 0 p (fieldBE m 1 4)
  | 1 => s
  | _ => s.count w fun c => { c with discarded := satW 32 (c.discarded + 1) }

/-- Deliver a frame with d = 0 (R172). -/
def State.deliver (s : State) (w : Work) (p : Nat) (f : FrameHdr) (payload : Bytes) : State :=
  if f.type = 1 ∧ s.hostFull w payload.length then
    (s.modRxCtx w p fun c => { c with nak := some f.seq, nakSketch := false }).count w
      fun n => { n with discarded := satW 32 (n.discarded + 1) }
  else
    let s := s.modRxCtx w p fun c =>
      let n := if c.sketches = [] then f.seq + 1 else c.next
      { c with next := n, sketchPtr := if c.sketches = [] then f.seq + 1 else c.sketchPtr, paused := false,
               nak := match c.nak with
                 | some q => if seqBefore q (f.seq + 1) then none else some q
                 | none => none }
    let s := s.count w fun n => { n with delivered := satW 32 (n.delivered + 1) }
    if f.type = 1 then s.hostFrame w p f.seq payload false else s.linkAction w p f payload

/-- Open or replace a receive context (Table 6-4). -/
def State.openRx (s : State) (w : Work) (p : Nat) (f : FrameHdr) (id : BitVec 16) : State :=
  let c : RxCtx := { next := 1, gen := f.gen, ctxId := id, sketchPtr := 1, heard := s.now }
  ((s.modWork w fun u => { u with rxCtx := tabSet u.rxCtx p c }).unitWrite arrFabric (contextWord w true p) 8).modAck w p
    fun a => { a with changed := true }

/-- Retire a receive context (R163); its outstanding sketches are withdrawn first. -/
def State.retireRx (s : State) (w : Work) (p : Nat) : State :=
  let s := match tabGet (s.wk w).rxCtx p with
    | some c => (match c.sketches with
      | k :: _ => s.scrape w p k.seq
      | [] => s)
    | none => s
  s.modWork w fun u => { u with rxCtx := tabDel u.rxCtx p }

/-- Room for a new sender (R161, R163). -/
def State.roomRx (s : State) (w : Work) : Option State :=
  let u := s.wk w
  if u.rxCtx.length < u.rxQuota then some s
  else
    let idle := u.rxCtx.filter fun e => decide (1000 * u.ctxIdle ≤ s.usOf (s.since e.2.heard))
    (minBy (fun e => (e.2.heard.toNat : Int)) idle).map fun e => s.retireRx w e.1

/-- A frame is discarded and counted in DISCARDED (Table 6-9). -/
def State.countDiscard (s : State) (w : Work) : State :=
  s.count w fun n => { n with discarded := satW 32 (n.discarded + 1) }

/-- CTX_RESET to a sender (R164, Table 6-4): a generation discard is counted in DISCARDED, a frame without a context is not
(Table 6-9). -/
def State.sendReset (s : State) (w : Work) (p : Nat) (seq : BitVec 32) (reason : Nat) : State :=
  (if reason = 1 then s.countDiscard w else s).sendLink w p (linkMsg 2 (beBytes 4 seq.toNat ++ leBytes 1 reason))

/-- The SEQ that d is taken against: NEXT, or the sketch pointer while sketches are outstanding. -/
def RxCtx.base (c : RxCtx) : BitVec 32 := if c.sketches = [] then c.next else c.sketchPtr

/-- A station has been heard (R163). -/
def State.heardFrom (s : State) (w : Work) (p : Nat) : State := s.modRxCtx w p fun c => { c with heard := s.now }

/-- Handle a GOOD DATA or LINK frame (Table 6-4) that no confirmed sketch stands for. A frame at
the sketch pointer that was not sketched finds earlier sketches waiting for credit only, so it is HOST_FULL (R172). A
CTX_OPEN that finds no receive context it may use is 'counted' by R163, which names no counter: DISCARDED counts it. DESIGN
CHOICE, log 103. -/
def State.receiveGood (s : State) (w : Work) (p : Nat) (f : FrameHdr) (payload : Bytes) : State :=
  let opens := decide (f.type = 3) && decide (byteAt payload 0 = 1) && decide (f.seq = 0)
  let id := BitVec.ofNat 16 (fieldBE payload 1 2)
  match tabGet (s.wk w).rxCtx p with
  | none =>
    if opens then
      match s.roomRx w with
      | some s => s.openRx w p f id
      | none => (s.count w fun n => { n with discarded := satW 32 (n.discarded + 1) }).raiseW .deliveryCtxFull w 0 p
    else s.sendReset w p f.seq 0
  | some c =>
    let s := s.modWork w fun u => { u with rxCtx := tabSet u.rxCtx p { c with heard := s.now } }
    if c.gen ≠ f.gen then
      if opens then
        let restart : Bool := match tabGet (s.wk w).txCtx p with
          | some t => decide (t.gen ≠ some f.gen)
          | none => false
        let s := if restart then s.peerRestart w p (some f.gen) else s
        let s := match c.sketches with
          | k :: _ => s.scrape w p k.seq
          | [] => s
        s.openRx w p f id
      else s.sendReset w p f.seq 1
    else if opens ∧ c.ctxId ≠ id then
      (match c.sketches with
        | k :: _ => s.scrape w p k.seq
        | [] => s).openRx w p f id
    else
      let d := (f.seq - c.base).toNat
      if d = 0 ∧ c.sketches = [] then s.deliver w p f payload
      else if d = 0 then
        (s.modRxCtx w p fun c => { c with nak := some f.seq, nakSketch := true, paused := true }).count w
          fun n => { n with discarded := satW 32 (n.discarded + 1) }
      else if d < 2 ^ 31 then
        (s.modRxCtx w p fun c => c.askFor c.base).count w fun n => { n with discarded := satW 32 (n.discarded + 1) }
      else
        (s.modAck w p fun a => { a with duplicate := true }).count w fun n => { n with duplicates := satW 32 (n.duplicates + 1) }

/-- A frame known to be lost sets the NAK at once when it is the one expected, whatever NAK was pending (R171). -/
def State.receiveLost (s : State) (w : Work) (p : Nat) (seq : BitVec 32) : State :=
  s.modRxCtx w p fun c =>
    if seq = c.next ∨ seq = c.base then { c with nak := some seq, nakSketch := decide (seq ≠ c.next) } else c

/-- A standalone ACK frame shows what is missing at the tail of the stream (R171). -/
def State.receiveAckFrame (s : State) (w : Work) (p : Nat) (f : FrameHdr) : State :=
  s.modRxCtx w p fun c =>
    let d := (f.seq - c.base).toNat
    let c := { c with heard := s.now }
    if c.gen = f.gen ∧ 0 < d ∧ d < 2 ^ 31 then c.askFor c.base else c

/-! Frames for the line. -/

/-- The header of a frame to a station as it goes out now (R158, R165). -/
def State.outHdr (s : State) (w : Work) (p type len : Nat) (seq : BitVec 32) (retx : Bool) : FrameHdr :=
  let c := tabGet (s.wk w).rxCtx p
  { type := type, retx := retx, ackValid := c.isSome, len := len, gen := s.gen, seq := seq, peer := p,
    nak := match c with | some c => c.nakValue | none => 0,
    ack := match c with | some c => c.next - 1 | none => 0 }

/-- A standalone ACK frame (R166). -/
def State.ackFrame (s : State) (w : Work) (p : Nat) : LineFrame :=
  let q : BitVec 32 := match tabGet (s.wk w).txCtx p with
    | some c => c.next
    | none => 0
  { header := (s.outHdr w p 2 0 q false).bits, payload := [] }

/-- What goes out for an image: a VOID in place of a lost one (R160). -/
def Image.linePayload (i : Image) : Bytes := if i.void then linkMsg 4 (beBytes 4 i.tag.toNat) else i.payload
def Image.lineType (i : Image) : Nat := if i.void then 3 else i.kind

def State.imageFrame (s : State) (w : Work) (i : Image) : LineFrame :=
  { header := (s.outHdr w i.dest i.lineType i.linePayload.length i.seq i.sent).bits, payload := i.linePayload }

def LineFrame.bytes (f : LineFrame) : Bytes := frameBytes f.header f.payload

/-- Retained frames toward a station from the send pointer on, in SEQ order (R168 step 3). -/
def WorkLane.toSend (u : WorkLane) (p : Nat) : List Image :=
  match tabGet u.txCtx p with
  | none => []
  | some c => if c.opening then [] else sortBy (fun i => (i.seq - c.sendPtr).toNat)
      ((u.retainedFor p).filter fun i => decide ((i.seq - c.sendPtr).toNat < 2 ^ 31))

/-- An image has been put on the line. -/
def State.markSent (s : State) (w : Work) (i : Image) : State :=
  s.modWork w fun u => { u with
    images := u.images.map fun j => if j.dest = i.dest ∧ j.seq = i.seq ∧ ¬ j.released then { j with sent := true } else j,
    txCtx := match tabGet u.txCtx i.dest with
      | some c => tabSet u.txCtx i.dest { c with sendPtr := i.seq + 1, rtoOn := true, used := s.now }
      | none => u.txCtx,
    counts := { u.counts with retx := satW 32 (u.counts.retx + i.sent.toNat) } }

/-- A frame has gone to a station: it carried the acknowledgement (R166). -/
def State.ackSent (s : State) (w : Work) (p : Nat) : State :=
  s.modAck w p fun a => { a with changed := false, duplicate := false, standalone := false }

/-- An acknowledgement to a station is due (R166). -/
def WorkLane.ackDue (u : WorkLane) (p : Nat) : Bool :=
  match tabGet u.acks p with
  | some a => a.changed || a.duplicate || a.standalone
  | none => false

/-- Retention images of a lane that a read finds lost (R160): the VOID, the report with the tag, and the event. -/
def State.retentionLoss (s : State) (w : Work) (i : Image) : State :=
  let s := s.modWork w fun u => { u with images := u.images.map fun j =>
    if j.dest = i.dest ∧ j.seq = i.seq ∧ ¬ j.released then { j with void := true } else j }
  let s := if i.kind = 1 then s.hostDesc w 7 i.dest i.tag else s
  s.raiseW .deliveryRetentionLoss w 0 i.dest i.tag.toNat

end Sys2Proof.Machine
end

