-- ==== Sys2Proof/Machine/CheckOps.lean ====
section
/-!
DEFINITION. Shared operations on the streams between the decoders: outer codewords and stretches of the frame stream (R101–R103,
R110), sketch candidates and their results (R117, R175–R177), and the loss of a receive path.
-/
namespace Sys2Proof.Machine

/-! The streams between the decoders (R101, R103). -/

/-- Outer codewords of a run, and inner codewords (R110). -/
def runOuter : Nat := 4096
def runInner : Nat := 185686

/-- Number of the next outer codeword to decode. -/
def DecodeLane.outerNext (d : DecodeLane) : Nat := d.outerFirst + d.outer.length

/-- The run's first inner codeword, and the place in the run, of outer codeword k; a burst is one run. -/
def DecodeLane.place (d : DecodeLane) (k : Nat) : Nat × Nat :=
  if d.burst.isSome then (0, k) else (k / runOuter * runInner, k % runOuter)

/-- Numbers of the first and last inner codeword that hold bits of outer codeword k. -/
def DecodeLane.innerSpan (d : DecodeLane) (k : Nat) : Nat × Nat :=
  let x := d.place k
  (x.1 + 5440 * x.2 / 120, x.1 + (5440 * x.2 + 5439) / 120)

/-- Outer codeword k is the last of its run or burst. -/
def DecodeLane.endsRun (d : DecodeLane) (k : Nat) : Bool :=
  if d.burst.isSome then decide (d.cwTotal ≤ k + 1) else decide (k % runOuter + 1 = runOuter)

/-- Outer codeword k as the inner decoder gave it, c_543 first, once every inner codeword of it has arrived. -/
def DecodeLane.rawWord (d : DecodeLane) (k : Nat) : Option (List (BitVec 10)) :=
  let x := d.innerSpan k
  if d.innerFirst ≤ x.1 ∧ x.2 < d.innerFirst + d.inner.length ∧ ¬ (d.burst.isSome ∧ d.cwTotal ≤ k) then
    let bits := ((d.inner.drop (x.1 - d.innerFirst)).take (x.2 + 1 - x.1)).flatMap fun w => msbFirst w.out
    some ((symbols10 544 (bits.drop (5440 * (d.place k).2 % 120))).map (BitVec.ofNat 10))
  else none

/-- Message bits of an outer codeword. -/
def messageBits (w : List (BitVec 10)) : List Bool := (w.take 514).flatMap msbFirst

/-- Bytes of bits, most significant first. -/
def bytesMsb (n : Nat) (bits : List Bool) : Bytes :=
  match n with
  | 0 => []
  | k + 1 => BitVec.ofNat 8 ((bits.take 8).foldl (fun a b => 2 * a + b.toNat) 0) :: bytesMsb k (bits.drop 8)

/-- Numbers of the first and last outer codeword that hold a byte of a stretch of the frame stream. -/
def cwSpan (pos n : Nat) : Nat × Nat := (8 * pos / 5140, (8 * (pos + n) - 1) / 5140)

/-- The outer codewords that hold a stretch, once all of them have left the decoders. -/
def DecodeLane.holding (d : DecodeLane) (pos n : Nat) : Option (List OuterWord) :=
  let x := cwSpan pos n
  if d.outerFirst ≤ x.1 ∧ x.2 < d.outerNext then some ((d.outer.drop (x.1 - d.outerFirst)).take (x.2 + 1 - x.1)) else none

/-- A stretch of the frame stream out of the codewords that hold it. -/
def stretchOf (pos n : Nat) (words : List (List (BitVec 10))) : Bytes :=
  bytesMsb n ((words.flatMap messageBits).drop (8 * pos - 5140 * (cwSpan pos n).1))

/-- A stretch after outer decoding, and whether a byte of it lies in an uncorrectable codeword. -/
def DecodeLane.read (d : DecodeLane) (pos n : Nat) : Option (Bytes × Bool) :=
  (d.holding pos n).map fun l => (stretchOf pos n (l.map (·.word)), l.any (·.failed))

/-- Number of the last uncorrectable codeword that holds a byte of a stretch. -/
def DecodeLane.lastFailed (d : DecodeLane) (pos n : Nat) : Nat :=
  let first := (cwSpan pos n).1
  (((d.holding pos n).getD []).zipIdx).foldl (fun k x => if x.1.failed then first + x.2 else k) first

/-- Outer codeword k before outer decoding, where it is held. -/
def DecodeLane.before (d : DecodeLane) (k : Nat) : Option (List (BitVec 10)) :=
  if k < d.outerFirst then none
  else match d.outer[k - d.outerFirst]? with
    | some w => some w.received
    | none => d.rawWord k

/-- A stretch of the stream as the inner decoder gave it (R117). -/
def DecodeLane.readBefore (d : DecodeLane) (pos n : Nat) : Option Bytes :=
  let x := cwSpan pos n
  let l := (List.range (x.2 + 1 - x.1)).map fun i => d.before (x.1 + i)
  if l.all (·.isSome) then some (stretchOf pos n (l.map fun w => w.getD [])) else none

/-- Bytes of the frame stream, where it ends: that of a burst (R100, R138). -/
def DecodeLane.streamEnd (d : DecodeLane) : Option Nat := if d.burst.isSome then some (streamBytes d.cwTotal) else none

/-- A stretch reaches past the end of the frame stream. -/
def DecodeLane.beyond (d : DecodeLane) (pos n : Nat) : Bool :=
  match d.streamEnd with
  | some e => decide (e < pos + n)
  | none => false

/-- The first byte that an outer codeword after number k holds alone. -/
def afterCw (k : Nat) : Nat := (5140 * (k + 1) + 7) / 8

/-- Drop the outer codewords that nothing needs any more; the last one stays for the statistics. -/
def DecodeLane.prune (d : DecodeLane) : DecodeLane :=
  let first := ((d.candidate.toList ++ d.toCheck.take 1 ++ (d.cands.take 1).map (·.1)).foldl min d.nextHeader)
  let keep := min (8 * first / 5140) (d.outerNext - 1)
  { d with outer := d.outer.drop (keep - d.outerFirst), outerFirst := max d.outerFirst keep }

/-- The working lane of a failure move that waits for zero scale between bursts has its receive path on this lane, which has
stopped passing frames (R183 step 1, R185). -/
def State.failWaits (s : State) (p : Phys) : Bool :=
  match s.moveOf p with
  | some (_, m) => decide (m.src = p) && !m.planned
  | none => false

/-- Frames of the burst whose codewords the decoders hold still wait for delineation or their check: it ends once they have had them
(Table 3-9). -/
def State.framesLeft (s : State) (p : Phys) (b : Burst) : Bool :=
  let d := s.del p
  !s.failWaits p && decide (d.burst = some b.firstPay) && (!d.beyond d.nextHeader 16 || decide (d.toCheck ≠ []))

/-! Sketch candidates. -/

/-- What outer decoding says of a candidate once every codeword of it has left the decoders and delineation has come to it: whether
every codeword decoded, no byte changed and delineation placed a header at its byte (R117). -/
def DecodeLane.verdict (d : DecodeLane) (pos n : Nat) : Option Bool :=
  let placed := d.toCheck.contains pos
  match d.holding pos n with
  | none => none
  | some l =>
    if ¬ placed ∧ (d.nextHeader ≤ pos ∨ d.candidate = some pos) then none
    else some (placed && !l.any (·.failed) &&
      decide (stretchOf pos n (l.map (·.word)) = stretchOf pos n (l.map (·.received))))

/-- A candidate has its result (R117): its confirmed sketch is varnished as far as credit goes, and the check of its frame finds it done;
a contradicted one is counted, and its sketch withdrawn after the varnish through the sketches before it (R175–R177). -/
def State.resolveCand (s : State) (p : Phys) (w : Work) (pos : Nat) (confirmed : Bool) : State :=
  let s := s.modDec p fun d => { d with cands := d.cands.filter fun c => decide (c.1 ≠ pos) }
  let s := if confirmed then s else s.modFec w fun f => { f with contradicted := satW 32 (f.contradicted + 1) }
  let here (k : Sketch) : Bool := decide (k.lane = p.val ∧ k.pos = pos)
  match (s.wk w).rxCtx.find? (fun e => e.2.sketches.any here) with
  | none => s
  | some (peer, c) =>
    let mark (k : Sketch) : Sketch := if here k then { k with confirmed := true } else k
    if confirmed then
      ((s.modDec p fun d => { d with done := d.done ++ [pos] }).modRxCtx w peer fun c => { c with sketches := c.sketches.map mark }).varnish
        w peer
    else match c.sketches.find? here with
      | some k => (s.varnish w peer).scrape w peer k.seq
      | none => s

/-- The candidates up to a byte have their results: those that outer decoding has not confirmed by now are contradicted. -/
def State.resolveTo (s : State) (p : Phys) (w : Work) (pos : Nat) : State :=
  let d := s.del p
  s.each (d.cands.filter fun c => decide (c.1 ≤ pos)) fun c s => s.resolveCand p w c.1 ((d.verdict c.1 c.2).getD false)

/-- The working lane whose candidates a receive path holds. -/
def State.candWork (s : State) (p : Phys) : Option Work :=
  match s.rxWork p with
  | some w => some w
  | none => s.workOf p

/-- What a receive path has decoded is about to be cleared: its candidates have the results that outer decoding has come to, and the
rest, which it can never confirm now, are contradicted (R117, R176). -/
def State.loseSketches (s : State) (p : Phys) : State :=
  let d := s.del p
  if d.cands = [] then s
  else match s.candWork p with
    | some w => s.each d.cands fun c s => s.resolveCand p w c.1 ((d.verdict c.1 c.2).getD false)
    | none => s

/-! Loss of a receive path. -/

/-- The receive path stops passing frames: AM_HUNT, delineation in HUNT with no candidate (Table 4-5, Table 4-6). -/
def State.amDrop (s : State) (p : Phys) : State :=
  let was := (s.del p).amLocked
  let s := (s.loseSketches p).modDec p fun d => { d.clear with amLocked := false, missCount := 0 }
  match s.workOf p with
  | some w => if was then s.modFec w fun f => { f with amLoss := satW 16 (f.amLoss + 1) } else s
  | none => s

end Sys2Proof.Machine
end

