-- ==== Sys2Proof/Machine/BurstOps.lean ====
section
/-!
DEFINITION. Shared operations of burst reception and portraits: hot cache and gallery (R85–R88), portrait records (Table
3-7), burst starts (R70, Table 3-6), decisions and lag (R80–R82), outcomes and commits (R89–R92).
-/
namespace Sys2Proof.Machine

/-! Portrait records. -/

def acqBytes (v : Vector Int 8) : Bytes := v.toList.flatMap fun t => leBytes 2 (ofSigned 12 t)

/-- A portrait as its 384 bytes (Table 3-7); VERSION reads 0 in an empty one (R79). -/
def Portrait.bytes (p : Portrait) : Bytes :=
  padTo 384 (recWord [(14, p.station), (7, p.work), (1, p.valid.toNat), (1, p.inherited.toNat), (1, p.isProtected.toNat),
    (1, p.coldLearned.toNat), (3, 0), (4, p.valid.toNat)] ++
  leBytes 4 p.commits ++ leBytes 8 p.lastHeard.toNat ++ leBytes 8 p.created.toNat ++ leBytes 1 p.vga ++
  leBytes 1 (ofSigned 8 p.deskew) ++ leBytes 2 p.dgain ++ recWord [(10, p.timingPhase.toNat), (6, 0), (4, p.fails), (12, 0)] ++
  leBytes 4 (ofSigned 24 p.freqOffset) ++ coeffBytes p.coeffs ++ acqBytes p.acq ++ leBytes 2 p.snr.toNat ++
  leBytes 2 p.eyeMin.toNat ++ leBytes 4 p.rsCorrected ++ leBytes 2 (ofSigned 16 p.strength))

/-- The channel fields of a written portrait (R393), the rest kept from `p`. -/
def Portrait.withChannel (p : Portrait) (b : Bytes) : Portrait :=
  { p with
    vga := byteAt b 0x18 % 128, deskew := toSigned 8 (byteAt b 0x19), dgain := fieldLE b 0x1A 2,
    timingPhase := BitVec.ofNat 10 (fieldLE b 0x1C 2), freqOffset := toSigned 24 (fieldLE b 0x20 3),
    coeffs := coeffsOf ((b.drop 0x24).take 136),
    acq := Vector.ofFn fun i : Fin 8 => toSigned 12 (fieldLE b (0xAC + 2 * i.val) 2) }

/-- Offset of the first field out of its range in a written portrait (R393). -/
def portraitFault (b : Bytes) : Option Nat :=
  let d := toSigned 8 (byteAt b 0x19)
  let g := fieldLE b 0x1A 2
  let f := toSigned 24 (fieldLE b 0x20 3)
  if 80 < byteAt b 0x18 % 128 then some 0x18
  else if d < -60 ∨ 60 < d then some 0x19
  else if g < 128 ∨ 512 < g then some 0x1A
  else if f < -250000 ∨ 250000 < f then some 0x20
  else if 32 < byteAt b 0x24 % 64 then some 0x24
  else none

/-! Hot cache. -/

def HotEntry.locked (e : HotEntry) : Bool := e.inUse || e.prefetch || e.target || e.writeback

def HotEntry.isFor (e : HotEntry) (w : Work) (st : Nat) : Bool := decide (e.work = w ∧ e.station = st)

def State.hotOf (s : State) (p : Phys) (w : Work) (st : Nat) : Option HotEntry := (s.acl p).hot.find? (·.isFor w st)

/-- Change an entry and make it the most recently used. -/
def Acq.hotUse (a : Acq) (w : Work) (st : Nat) (f : HotEntry → HotEntry) : Acq :=
  { a with hot := (a.hot.filter fun e => !e.isFor w st) ++ ((a.hot.filter fun e => e.isFor w st).map f) }

/-- Insert an entry, or replace one in its place: unlocked entries go least recently used first. -/
def Acq.hotPut (a : Acq) (e : HotEntry) : Acq :=
  let rest := a.hot.filter fun x => !x.isFor e.work e.station
  let free := (List.range 8).find? fun i => rest.all fun x => decide (x.slot ≠ i)
  match (a.hot.find? (·.isFor e.work e.station)).map (·.slot) |>.orElse fun _ => free with
  | some i => { a with hot := rest ++ [{ e with slot := i }] }
  | none =>
    let out := (rest.findIdx? (fun x => !x.locked)).getD 0
    { a with hot := rest.eraseIdx out ++ [{ e with slot := (rest[out]?.map (·.slot)).getD 0 }] }

/-- Write an entry into the hot cache. -/
def State.hotStore (s : State) (p : Phys) (e : HotEntry) : State :=
  let s := s.modAcq p fun a => a.hotPut e
  match s.hotOf p e.work e.station with
  | some x => s.unitWrite (arrHot p) (96 * x.slot) 96
  | none => s

/-- Read an entry of the hot cache; one with a word in error is dropped (Table 11-3). -/
def State.hotRead (s : State) (p : Phys) (w : Work) (st : Nat) (d : Option (Nat × BitVec 42)) : Option HotEntry × State :=
  match s.hotOf p w st with
  | none => (none, s)
  | some e =>
    let r := s.unitRead (arrHot p) (96 * e.slot) 96 d
    if r.1 = [] then (some e, r.2) else (none, r.2.modAcq p fun a => { a with hot := a.hot.filter fun e => !e.isFor w st })

/-- A portrait is locked in a hot cache. -/
def State.portraitLocked (s : State) (w : Work) (st : Nat) : Bool :=
  match s.physOf w with
  | some p => (s.acl p).hot.any fun e => e.isFor w st && e.locked
  | none => false

/-! Gallery. -/

def GalleryUnit.find (g : GalleryUnit) (w : Work) (st : Nat) : Option (Nat × Portrait) :=
  g.entries.find? fun e => decide (e.2.work = w.val ∧ e.2.station = st)

def GalleryUnit.ofLane (g : GalleryUnit) (w : Work) : List (Nat × Portrait) := g.entries.filter fun e => decide (e.2.work = w.val)

def State.modGallery (s : State) (f : GalleryUnit → GalleryUnit) : State := { s with gallery := f s.gallery }

/-- Write a portrait into its gallery entry, of which `len` words from `word` on change. -/
def State.galleryPut (s : State) (i : Nat) (q : Portrait) (word len : Nat) : State :=
  (s.modGallery fun g => { g with entries := tabSet g.entries i q }).unitWrite arrGallery (galleryWord i + word) len

/-- Word k of a portrait. -/
def Portrait.word (q : Portrait) (k : Nat) : Word := BitVec.ofNat 32 (fieldLE q.bytes (4 * k) 4)

/-- Count one of the burst counters (Table 3-11). -/
def State.countBurst (s : State) (w : Work) (i : Nat) : State :=
  s.modBurst w fun b => { b with counters := vupd b.counters (finOf 32 i) fun n => satW 32 (n + 1) }

/-- Remove a portrait: 0 LRU, 1 MEM_ERROR, 2 FAILED, 3 COMMAND, 4 QUOTA (R86). -/
def State.evict (s : State) (w : Work) (idx st reason : Nat) : State :=
  let s := (s.modGallery fun g => { g with entries := tabDel g.entries idx }).unitWrite arrFabric (directoryWord idx) 1
  let s := match s.physOf w with
    | some p => s.modAcq p fun a => { a with hot := a.hot.filter fun e => !e.isFor w st }
    | none => s
  (s.countBurst w 24).raiseW .portraitEvicted w reason st idx

/-- Portraits of a lane in the order of least recent hearing, lowest index first among equals. -/
def byLastHeard (l : List (Nat × Portrait)) : List (Nat × Portrait) := sortBy (fun e => e.2.lastHeard.toNat) l

/-- Take an entry for a new portrait (R86). -/
def State.takeEntry (s : State) (w : Work) : Option (Nat × State) :=
  let mine := s.gallery.ofLane w
  if mine.length < (s.wk w).burst.quota then
    ((List.range 16384).find? fun i => (tabGet s.gallery.entries i).isNone).map fun i => (i, s)
  else
    match byLastHeard (mine.filter fun e => !e.2.isProtected && !s.portraitLocked w e.2.station) with
    | e :: _ => if (s.wk w).burst.quota = 0 then none else some (e.1, s.evict w e.1 e.2.station 0)
    | [] => none

/-- Locks of prefetches end when the lane leaves SLOTTED, which alone prefetches (R87). -/
def Acq.dropPrefetch (a : Acq) : Acq := { a with hot := a.hot.map fun e => { e with prefetch := false } }

/-- Evict entries that waited for their locks to end (R85). -/
def State.hotSettle (s : State) (p : Phys) : State :=
  s.each ((s.acl p).hot.filter fun e => e.evictLater && !e.locked) fun e s =>
    match s.gallery.find e.work e.station with
    | some x => s.evict e.work x.1 e.station 4
    | none => s

/-- A pending write-back reaches the gallery (R89). -/
def State.writeBack (s : State) (e : HotEntry) : State :=
  match s.gallery.find e.work e.station with
  | some x => s.galleryPut x.1 { e.portrait with isProtected := x.2.isProtected } 0 96
  | none => s

/-- The hot cache is emptied: pending write-backs reach the gallery, and the locks that evictions waited for end (R85, R89). -/
def State.hotClear (s : State) (p : Phys) : State :=
  let s := s.each ((s.acl p).hot.filter (·.writeback)) fun e s => s.writeBack e
  let s := (s.modAcq p fun a => { a with hot := a.hot.map fun e =>
    { e with inUse := false, prefetch := false, target := false, writeback := false } }).hotSettle p
  s.modAcq p fun a => { a with hot := [] }

/-- The newest copy of a portrait: the hot one while it awaits its gallery write (R89). -/
def State.newest (s : State) (w : Work) (st : Nat) : Option (Nat × Portrait) :=
  (s.gallery.find w st).map fun e =>
    match (s.physOf w).bind fun p => s.hotOf p w st with
    | some h => if h.writeback then (e.1, { h.portrait with isProtected := e.2.isProtected }) else e
    | none => e

/-- A fetch finds a place among the sixteen, or waits behind those that wait (R87). -/
def State.requestFetch (s : State) (f : Fetch) : State :=
  s.modGallery fun g =>
    if g.inService.length < 16 ∧ g.waiting = [] then { g with inService := g.inService ++ [f] } else { g with waiting := g.waiting ++ [f] }

/-! Burst starts. -/

/-- In OPEN the lane holds the base portrait's gain code and deskew between bursts (R70). -/
def State.holdBase (s : State) (p : Phys) (w : Work) : State :=
  if s.modeOf p = .openM ∧ (s.acl p).cur.isNone then
    let b := (s.wk w).burst.base
    s.modRx p fun r => { r with vga := b.vga, deskew := b.deskew }
  else s

/-- Back to ARMED. -/
def State.toArmed (s : State) (p : Phys) : State :=
  let s := s.modAcq p fun a => { a with state := .armed, cur := none, triggerClean := false }
  match s.workOf p with
  | some w => s.holdBase p w
  | none => s

/-- The portrait a burst starts with: the predicted one once it is in the hot cache, else the base portrait. -/
def State.startPortrait (s : State) (p : Phys) (w : Work) (predicted : Nat) : Portrait × State :=
  if predicted = 16383 then ((s.wk w).burst.base, s)
  else
    let r := s.hotRead p w predicted none
    (match r.1 with
     | some e => e.portrait
     | none => (s.wk w).burst.base, r.2)

/-- Load a portrait's values without a fade (R48, R70), keeping what earlier bursts still decoding have in force. -/
def State.loadPortrait (s : State) (p : Phys) (q : Portrait) : State :=
  let old := (s.rxl p).active
  let s := s.modAcq p fun a => { a with decoding := a.decoding.map fun b => if b.coeffs.isNone then { b with coeffs := some old } else b }
  s.modRx p fun r => { r.setActive q.coeffs with dgain := q.dgain, timingPhase := q.timingPhase, freqOffset := q.freqOffset }

/-- A first peak or a qualified fall-back declaration opens a burst (Table 3-6, ARMED rows). -/
def State.startBurst (s : State) (p : Phys) (w : Work) (start : BurstStart) (sym : Sym) (strength : Int) : State :=
  let win := (s.acl p).rxWindow
  let slotted := decide (s.modeOf p = .slotted)
  let pred := if slotted then (match win with | some x => x.predicted | none => 16383) else 16383
  let x := s.startPortrait p w pred
  let q := x.1
  let s := x.2.loadPortrait p q
  let s := s.modBurst w fun u => { u with holdoff := u.params.holdoff }
  let r := s.rxl p
  let b : Burst :=
    { start := start, slotted := slotted, params := (s.wk w).burst.params, firstPeak := sym, firstStrength := strength,
      slot := match win with | some x => x.slot | none => 0, predicted := pred, syncOpen := decide (start = .fallback),
      inUse := q.station, inheritedUse := q.inherited, timingPhase := r.timingPhase, freqOffset := r.freqOffset,
      dgain := r.dgain, acq := q.acq, vga := r.vga, deskew := r.deskew }
  s.modAcq p fun a => { (a.hotUse w q.station fun e => { e with inUse := true }) with
    cur := some b, state := if start = .fallback then .syncWait else .preamble, triggerClean := false }

/-- Symbol on which a start is declared: a peak two symbols after the sample it names (R64), a fall-back start on its own symbol
(R66). -/
def BurstStart.declaredAt (a : BurstStart) (sym : Sym) : Sym := if a = .fallback then sym else sym + 2

/-- Two starts are declared in one CK_DSP cycle. -/
def RxLane.sameCycle (r : RxLane) (a : BurstStart) (x : Sym) (b : BurstStart) (y : Sym) : Bool :=
  decide ((a.declaredAt x).toNat / qOf r.rate = (b.declaredAt y).toNat / qOf r.rate)

/-- A peak or fall-back start found in ARMED, or taken anew (Table 3-6): in SLOTTED it must lie in a receive window. Of starts of
different kinds in one cycle only one prevails (R74), so they make one stray. -/
def State.judgeStart (s : State) (p : Phys) (w : Work) (start : BurstStart) (sym : Sym) (strength : Int) : State :=
  if s.modeOf p = .slotted ∧ (s.acl p).rxWindow.isNone then
    let again : Bool := match (s.acl p).stray with
      | some x => decide (x.1 ≠ start) && (s.rxl p).sameCycle x.1 x.2 start sym
      | none => false
    let s := if again then s else (s.countBurst w 17).raiseP .burstStray p
    s.modAcq p fun a => { a with triggerClean := false, stray := some (start, sym) }
  else s.startBurst p w start sym strength

/-- Refined values of the preamble (R70), DGAIN clamped to 0.5–2.0. -/
def State.refine (s : State) (p : Phys) (w : Work) (phase : BitVec 10) (freq dgain : Int) : State :=
  match (s.acl p).cur with
  | none => s
  | some b =>
    let g := (clampI 128 512 dgain).toNat
    let clamped := decide (dgain < 128 ∨ 512 < dgain)
    let s := s.modAcq p fun a => { a with cur := some { b with
      timingPhase := phase, freqOffset := freq, dgain := g, gainClamped := b.gainClamped || clamped } }
    let s := s.modRx p fun r => { r with timingPhase := phase, freqOffset := freq, dgain := g }
    if clamped && !b.gainClamped then s.countBurst w 21 else s

/-! Records and outcomes. -/

def burstSender (b : Burst) : Nat := match b.header with | some h => bitsOf h.toNat 63 50 | none => 16383
def burstNum (b : Burst) : Nat := match b.header with | some h => bitsOf h.toNat 35 24 | none => 0
def burstCw (b : Burst) : Nat := match b.header with | some h => bitsOf h.toNat 23 16 | none => 0
def burstResync (b : Burst) : Bool := match b.header with | some h => h.getLsbD 10 | none => false

/-- A burst record (Table 3-10). -/
def Burst.record (b : Burst) (outcome : Nat) (isNew : Bool) : Bytes :=
  let h := match b.header with | some h => h.toNat | none => 0
  recWord [(14, burstSender b), (14, b.predicted), (4, outcome)] ++
  recWord [(12, burstNum b), (8, burstCw b), (4, bitsOf h 15 12), (4, bitsOf h 11 8), (1, (decide (b.start = .cold)).toNat),
    (1, (decide (b.run = .replay)).toNat), (1, b.cacheMiss.toNat), (1, (decide (b.start = .fallback)).toNat)] ++
  leBytes 8 (packBits [(48, (b.syncAt.getD b.firstPeak).toNat), (10, b.slot), (1, b.slotted.toNat), (1, b.gainClamped.toNat),
    (1, b.inheritedUse.toNat), (1, isNew.toNat), (1, b.intruded.toNat), (1, 0)]) ++
  recWord [(16, ofSigned 16 b.strength), (7, b.syncDist), (4, b.hdrCorr), (5, 0)] ++
  recWord [(16, b.snr.toNat), (12, b.lag), (4, 0)] ++ recWord [(16, b.frames), (8, b.cwFailed), (8, 0)] ++ leBytes 4 b.rsCorrected

/-- The event an outcome raises (Table 3-9); COLLIDED raises its own with R77's arguments. -/
def outcomeEvent (outcome : Nat) : Option Ev :=
  match outcome with
  | 2 => some .burstDecodeFail
  | 3 => some .burstFalseStart
  | 4 => some .burstHeaderFail
  | 5 => some .burstMisdirected
  | 6 => some .burstHeaderFail
  | 8 => some .burstDecodeFail
  | 9 => some .burstOverrun
  | 10 => some .burstDecodeFail
  | _ => none

/-- A burst's locks in the hot cache end. -/
def State.unlockBurst (s : State) (p : Phys) (w : Work) (b : Burst) : State :=
  let others := (s.acl p).decoding ++ ((s.acl p).cur).toList
  let used (st : Nat) : Bool := others.any fun c => decide (c.inUse = st)
  let free (e : HotEntry) : HotEntry :=
    if e.isFor w b.inUse || e.isFor w (burstSender b) || e.isFor w b.predicted then
      { e with inUse := e.inUse && used e.station, target := e.target && used e.station }
    else e
  (s.modAcq p fun a => { a with hot := a.hot.map free }).hotSettle p

/-- The main equaliser leaves a burst's payload. -/
def State.endJob (s : State) (p : Phys) (b : Burst) : State :=
  if b.accepted ∧ ((s.rxl p).eq.jobs.any fun j => decide (j.first = b.firstPay)) then
    s.modRx p fun r => r.setJobs (r.eq.jobs.filter fun j => decide (j.first ≠ b.firstPay))
  else s

/-- The main equaliser is to process a burst's payload in its turn (R80–R82), with the burst adaptation step exponent and DGAIN. -/
def State.addJob (s : State) (p : Phys) (b : Burst) : State :=
  let later (j : EqJob) : Bool := decide ((j.first - b.firstPay).toNat < 2 ^ 47)
  s.modRx p fun r => r.setJobs (r.eq.jobs.filter (fun j => !later j) ++
    [{ first := b.firstPay, last := b.payEnd, k := b.params.burstK, dgain := b.dgain }] ++ r.eq.jobs.filter later)

/-- Write the record, count and report an outcome (R90, R91). The burst has been taken out of the datapath. -/
def State.reportBurst (s : State) (p : Phys) (w : Work) (b : Burst) (outcome : Nat) (isNew : Bool) : State :=
  let s := s.endJob p b
  let n := (s.wk w).burst.logged
  let s := s.modBurst w fun u => { u with log := (u.log ++ [b.record outcome isNew]).drop ((u.log.length + 1) - 64), logged := n + 1 }
  let s := s.unitWrite arrFabric (logWord w (n % 64)) 8
  let s := s.countBurst w outcome
  let s := match outcomeEvent outcome with
    | some e => s.raiseP e p outcome (burstSender b)
    | none => s
  s.unlockBurst p w b

/-- Tell the sender of a burst its outcome through the acknowledgement path (R90). -/
def State.reportSender (s : State) (w : Work) (b : Burst) (outcome : Nat) : State :=
  s.sendLink w (burstSender b) (linkMsg 3 (beBytes 2 (burstNum b) ++ leBytes 1 outcome))

/-- The burst whose codewords leave the decoders: the oldest in progress. -/
def Acq.decodingNow (a : Acq) : Option Burst := match a.decoding with | b :: _ => some b | [] => a.cur

/-- The burst whose payload the decoders work on: the oldest in progress, once its portrait decision has taken effect (R83). -/
def Acq.payloadNow (a : Acq) : Option Burst :=
  match a.decodingNow with
  | some b => if b.accepted ∧ b.run ≠ .undecided ∧ ¬ b.waiting then some b else none
  | none => none

/-- The decoders leave a burst: of the inner codewords that have arrived, those behind its payload belong to the next. -/
def DecodeLane.leave (d : DecodeLane) : DecodeLane :=
  { d.clear with inner := if d.burst.isSome then d.inner.drop (innerCount d.cwTotal - d.innerFirst) else d.inner }

/-- Where another burst's payload comes next, its delineation starts at the first payload byte (Table 4-6). -/
def State.startDelin (s : State) (p : Phys) : State :=
  let now := (s.acl p).payloadNow
  if (s.del p).burst = now.map (·.firstPay) then s
  else (s.loseSketches p).modDec p fun d =>
    match now with
    | some b => { d.leave with delin := 2, burst := some b.firstPay, cwTotal := burstCw b }
    | none => d.leave

/-- A replay or deferred start is in progress on the lane (R40). -/
def State.settleReplaying (s : State) (p : Phys) : State :=
  let a := s.acl p
  let on := (a.decoding ++ a.cur.toList).any fun b => decide (b.run = .replay ∨ b.run = .deferred)
  s.modRx p fun r => { r with replaying := on }

/-- End the burst being acquired with an outcome, and return to ARMED (Table 3-6). -/
def State.endCurrent (s : State) (p : Phys) (outcome : Nat) : State :=
  match (s.acl p).cur with
  | none => s
  | some b =>
    let wasFirst := (s.acl p).decoding.isEmpty
    let s := match s.workOf p with
      | some w => (s.modAcq p fun a => { a with cur := none }).reportBurst p w b outcome false
      | none => s
    let s := (s.toArmed p).settleReplaying p
    if wasFirst then s.startDelin p else s

/-- End every burst of the lane with ABANDONED_MODE, oldest first (Table 3-6, last row); sketches of its working lane that
outer decoding has not resolved are withdrawn (R176). -/
def State.abandonBursts (s : State) (p : Phys) : State :=
  let l := (s.acl p).decoding
  let s := match s.workOf p with
    | some w => s.scrapeAll w
    | none => s
  let s := match s.workOf p with
    | some w => s.each l fun b s =>
        (s.modAcq p fun a => { a with decoding := a.decoding.tail }).reportBurst p w b 11 false
    | none => s
  let s := s.modAcq p fun a => { a with decoding := [] }
  let s := if (s.acl p).cur.isSome then s.endCurrent p 11 else s
  ((s.modAcq p fun a => { a with state := .armed, cur := none, rxWindow := none }).settleReplaying p).startDelin p

/-! The bursts in progress. -/

/-- One burst in progress is another: they have one first peak. -/
def Burst.same (b c : Burst) : Bool := decide (b.firstPeak = c.firstPeak ∧ b.syncAt = c.syncAt)

/-- End one of the bursts in progress with an outcome. -/
def State.endBurst (s : State) (p : Phys) (w : Work) (b : Burst) (outcome : Nat) : State :=
  if (s.acl p).decoding.any b.same then
    let wasFirst : Bool := match (s.acl p).decoding with
      | c :: _ => b.same c
      | [] => false
    let s := (s.modAcq p fun a => { a with decoding := a.decoding.filter fun c => !b.same c }).reportBurst p w b outcome false
    let s := s.settleReplaying p
    if wasFirst then s.startDelin p else s
  else s.endCurrent p outcome

/-! Lag (R82). -/

/-- The lag with which the next payload starts: its own, or the last burst's less the symbols skipped. -/
def Acq.lagFor (a : Acq) (own : Nat) (firstPay : Sym) : Nat :=
  max own (a.lag - (firstPay - a.lastEnd - 1).toNat)

/-- The lag of a burst that begins late goes on into those behind it whose processing has been decided, as far as the gaps between
their payloads leave of it. -/
def relag (lag : Nat) (last : Sym) : List Burst → List Burst
  | [] => []
  | c :: l =>
    if c.accepted ∧ c.run ≠ .undecided ∧ ¬ c.waiting ∧ burstCw c ≠ 0 then
      let x := max c.lag (lag - (c.firstPay - last - 1).toNat)
      { c with lag := x, overrun := c.overrun || decide (3840 < x) } :: relag x c.payEnd l
    else c :: l

/-- A burst begins with a lag: the bursts behind it, and what the next one looks at, take it into account. -/
def Acq.spreadLag (a : Acq) (b : Burst) : Acq :=
  let l := a.bursts
  let k := (l.findIdx? b.same).getD l.length
  let l := l.take (k + 1) ++ relag b.lag b.payEnd (l.drop (k + 1))
  let n := a.decoding.length
  let past := l.take n
  { a with
    decoding := past, cur := (l.drop n).head?
    lag := match past.find? fun c => decide (c.payEnd = a.lastEnd ∧ c.accepted) with
      | some c => c.lag
      | none => a.lag }

/-! Commit (R89). -/

/-- n nearest to 80·log10(D/256): 10^(2n−1) ≤ (D/256)^160 < 10^(2n+1), compared exactly. -/
def gainSteps (d : Nat) : Int :=
  let le (k : Int) : Bool :=
    if 0 ≤ k then decide (10 ^ k.toNat * 256 ^ 160 ≤ d ^ 160) else decide (256 ^ 160 ≤ d ^ 160 * 10 ^ (-k).toNat)
  ((List.range 49).map fun (i : Nat) => ((i : Int) - 24)).foldl (fun acc n => if le (2 * n - 1) then n else acc) (-24)

/-- D · 10^(−n/80) rounded to the nearest integer, within 128–512. -/
def gainRest (d : Nat) (n : Int) : Nat :=
  let le (m : Nat) : Bool :=
    if 0 ≤ n then decide ((2 * m - 1) ^ 80 * 10 ^ n.toNat ≤ (2 * d) ^ 80)
    else decide ((2 * m - 1) ^ 80 ≤ (2 * d) ^ 80 * 10 ^ (-n).toNat)
  ((List.range 385).map (· + 128)).foldl (fun acc m => if le m then m else acc) 128

/-- The gain code and DGAIN that a commit writes back. -/
def renormGain (vga dgain : Nat) : Nat × Nat :=
  let v := clampI 0 80 (vga + gainSteps dgain)
  (v.toNat, gainRest dgain (v - vga))

/-- The portrait a commit writes back. -/
def State.commitPortrait (s : State) (p : Phys) (b : Burst) (old : Portrait) (isNew : Bool) : Portrait :=
  let g := renormGain b.vga b.dgain
  { old with
    valid := true, inherited := false, coldLearned := decide (b.start = .cold), commits := satW 32 (old.commits + 1),
    lastHeard := if isNew then b.headerTime else old.lastHeard, created := if isNew then s.now else old.created, vga := g.1, deskew := b.deskew,
    dgain := g.2, timingPhase := b.timingPhase, fails := 0, freqOffset := b.freqOffset,
    coeffs := b.coeffs.getD (s.rxl p).active, acq := b.acq, snr := b.snr, eyeMin := b.eyeMin,
    rsCorrected := b.rsCorrected, strength := b.strength }

/-- Change a portrait by full-word writes of `len` words from `word` on, in the gallery and in the hot copy. -/
def State.modPortrait (s : State) (w : Work) (st word len : Nat) (f : Portrait → Portrait) : State :=
  let s := match s.gallery.find w st with
    | some e => s.galleryPut e.1 (f e.2) word len
    | none => s
  match s.physOf w with
  | some p => match s.hotOf p w st with
    | some e => (s.modAcq p fun a => { a with hot := a.hot.map fun e => if e.isFor w st then { e with portrait := f e.portrait } else e
        }).unitWrite (arrHot p) (96 * e.slot + word) len
    | none => s
  | none => s

/-- Change a field that lies in byte 2 of a portrait's word, as FAILS, PROTECTED and INHERITED do, by partial writes in the gallery and in
the hot copy. A copy whose word is uncorrectable keeps its value (R336). Answers whether the gallery's write was carried out. -/
def State.markPortrait (s : State) (w : Work) (st word : Nat) (f : Portrait → Portrait) : Bool × State :=
  let r : Bool × State := match s.gallery.find w st with
    | some e =>
      let r := s.sramPartial arrGallery (galleryWord e.1 + word) ((f e.2).word word) 4
      (r.1, if r.1 then r.2.modGallery fun g => { g with entries := tabSet g.entries e.1 (f e.2) } else r.2)
    | none => (true, s)
  match s.physOf w with
  | some p => match s.hotOf p w st with
    | some e =>
      let x := r.2.sramPartial (arrHot p) (96 * e.slot + word) ((f e.portrait).word word) 4
      let mark (e : HotEntry) : HotEntry := if e.isFor w st then { e with portrait := f e.portrait } else e
      (r.1, if x.1 then x.2.modAcq p fun a => { a with hot := a.hot.map mark } else x.2)
    | none => r
  | none => r

/-- FAILS of a portrait. -/
def State.setFails (s : State) (w : Work) (st n : Nat) : State := (s.markPortrait w st 7 fun q => { q with fails := n }).2

/-- The hot-cache copy is written at once and awaits its gallery write (R89). -/
def State.hotCommit (s : State) (p : Phys) (w : Work) (q : Portrait) : State :=
  let old := (s.hotOf p w q.station).getD { work := w, station := q.station, portrait := q }
  s.hotStore p { old with portrait := q, writeback := true }

/-- Commit a burst: an existing portrait is rewritten, or a new one is created (R86, R89). Where the hot copy has a word in error, the
commit writes the gallery copy only (Table 11-3). Answers NEW_PORTRAIT. -/
def State.commit (s : State) (p : Phys) (w : Work) (b : Burst) (d : Option (Nat × BitVec 42)) : Bool × State :=
  let st := burstSender b
  match s.newest w st with
  | some e =>
    let q := s.commitPortrait p b e.2 false
    let held := (s.hotOf p w st).isSome
    let r := s.hotRead p w st d
    (false, if held && r.1.isNone then r.2.galleryPut e.1 q 0 96 else r.2.hotCommit p w q)
  | none =>
    match s.takeEntry w with
    | none => (false, (s.countBurst w 25).raiseP .portraitQuota p 0 st)
    | some (i, t) =>
      let blank : Portrait := { Portrait.empty w.val with station := st }
      let q := t.commitPortrait p b blank true
      let t := (t.galleryPut i q 0 96).unitWrite arrFabric (directoryWord i) 1
      (true, ((t.hotCommit p w q).countBurst w 23).raiseP .portraitNew p 0 st i)

/-- A failed burst counts against the sender's portrait; at the fail limit the portrait goes (R90). Answers removal. -/
def State.failPortrait (s : State) (w : Work) (b : Burst) : Bool × State :=
  let st := burstSender b
  match s.newest w st with
  | none => (false, s)
  | some e =>
    let n := satW 4 (e.2.fails + 1)
    if b.params.failLimit ≤ n then (true, s.evict w e.1 st 2) else (false, s.setFails w st n)

end Sys2Proof.Machine
end

