-- ==== Sys2Proof/Machine/PowerOps.lean ====
section
/-!
DEFINITION. Power state changes of lanes, abandoned entries (R313, R322, R329), and a group's save slot (R309, R318, R324).
-/
namespace Sys2Proof.Machine

/-- Set a lane's power state with its event; DOZE and OFF freeze its loops (Table 8-3). -/
def State.setLanePower (s : State) (p : Phys) (st : LanePower) (cause : Nat) : State :=
  let old := (s.ln p).power
  if old = st then s
  else
    let s := (s.modLane p fun l => { l with power := st, res := l.res.enter st.code }).raise .pwrLaneState
      (pwrSrc 0 p.val) st.code old.code cause
    let low := decide (st = .doze ∨ st = .off)
    let wasLow := decide (old = .doze ∨ old = .off)
    let s := if low ∧ ¬ wasLow then s.freezeLane p .lanePower else if wasLow ∧ ¬ low then s.thawLane p .lanePower else s
    if low then s else s.leaveQuiet

/-- An abandoned entry of a unit (R322); a group's waiting HOST.SET_POWER ends with `r`, BUSY where a reset closed its crossings (R304). -/
def State.abortGroupEntry (s : State) (g : Group) (r : Result) : State :=
  let k := (s.grp g).powerSess
  let s := (s.modGroup g fun h => { h with
    saving := false, slotValid := false, powerSess := none, res := { h.res with aborted := h.res.aborted + 1 } }).raise .pwrEntryAborted
    (pwrSrc 1 g.val)
  s.answerOpt k 0x0708 r 0 []

def State.abortLaneEntry (s : State) (p : Phys) : State :=
  (s.modLane p fun l => { l with
    saving := false, slotValid := false, res := { l.res with aborted := l.res.aborted + 1 } }).raise .pwrEntryAborted
    (pwrSrc 0 p.val)

/-- A lane in DOZE starts to leave it, for a cause of R329 (R316). -/
def State.startDozeExit (s : State) (p : Phys) (cause : Nat) : State :=
  if (s.ln p).power = .doze ∧ ¬ (s.ln p).dozeExit then s.modLane p fun l => { l with dozeExit := true, dozeCause := cause } else s

/-- A lane mode permits the power state (Table 10-8); the states on the way into and out of OFF aside. -/
def State.powerFits (s : State) (p : Phys) (m : LaneMode) : Bool :=
  match (s.ln p).power with
  | .idle => decide (m = .slotted ∨ m = .openM ∨ m = .dark) || (decide (m = .spare) && (s.txl p).idleZero)
  | .doze => decide (m = .slotted ∨ m = .dark)
  | _ => true

/-- A lane that enters a mode leaves a power state that the mode does not permit (R313, R315). -/
def State.fitPower (s : State) (p : Phys) (m : LaneMode) : State :=
  if s.powerFits p m then s else (s.modLane p fun l => { l with dozeExit := false }).setLanePower p .active 2

/-- Fields of a save slot in the word at a byte offset, where Table 10-12 leaves the packing open (`Config.inSlotWord`, log 117):
`kind` 0 a lane slot, 1 a group slot, 2 the device slot; fields are numbered in the order in which their part lists them. -/
def slotHit (kind off : Nat) (field : Nat) : Bool := Config.inSlotWord kind field (off / 4)

/-- Receive palette fields (Table 10-12): 0 P, 1 length, 2 decision mode, 3 NLC state, 4–36 the FFE taps, 37 the DFE tap, 38–53 the
NLC terms. -/
def Coeffs.slotPart (c : Coeffs) (hit : Nat → Bool) : Coeffs :=
  let keep {α : Type} (f : Nat) (fresh x : α) : α := if hit f then fresh else x
  let r := Coeffs.reset
  { cursor := keep 0 r.cursor c.cursor, ffe17 := keep 1 r.ffe17 c.ffe17, seqDet := keep 2 r.seqDet c.seqDet,
    nlcOn := keep 3 r.nlcOn c.nlcOn, dfe := keep 37 r.dfe c.dfe,
    ffe := c.ffe.mapIdx fun i x => keep (4 + i) (r.ffe.toList.getD i 0) x, nlc := c.nlc.mapIdx fun i x => keep (38 + i) {} x }

/-- Fields of a lane slot's part take their PORST_N values (R324, Table 10-12), those that `hit` names. Transmit palettes: 0–15 palette A
(taps, P_T), 16–31 palette B, 32 the active one. Outputs: 0 range, 1 code, 2–4 the limits and the safe code. -/
def State.slotPart (s : State) (p : Phys) (off : Nat) (hit : Nat → Bool) : State :=
  let keep {α : Type} (f : Nat) (fresh x : α) : α := if hit f then fresh else x
  if off < 0x60 then s.modRx p fun r => { r with paletteA := r.paletteA.slotPart hit }
  else if off < 0xC0 then s.modRx p fun r => { r with paletteB := r.paletteB.slotPart hit }
  else if off < 0xF0 then
    let taps (f : Nat) (x : TxTaps) : TxTaps :=
      { taps := x.taps.mapIdx fun i v => keep (f + i) (TxTaps.reset.taps.toList.getD i 0) v, pt := keep (f + 15) TxTaps.reset.pt x.pt }
    s.modTx p fun t => { t with paletteA := taps 0 t.paletteA, paletteB := taps 16 t.paletteB, activeB := keep 32 false t.activeB }
  else if off < 0x138 then s.modTx p fun t => { t with pd := t.pd.mapIdx fun i v => keep i 0 v }
  else if off < 0x168 then s.modBias (biasOf p ((off - 0x138) / 12)) fun b =>
    let gone := hit 0 || hit 1
    { b with
      range := keep 0 0 b.range, code := if gone then 0 else b.code, pending := if gone then none else b.pending,
      holding := if gone then none else b.holding, codeMin := keep 2 0 b.codeMin, codeMax := keep 3 0 b.codeMax,
      safeCode := keep 4 0 b.safeCode }
  else
    let s := s.modRx p fun r => { r with
      ctle := keep 0 6 r.ctle, vga := keep 1 24 r.vga, agcTarget := keep 2 40 r.agcTarget, dgain := keep 3 256 r.dgain,
      deskew := keep 4 0 r.deskew, losThresh := keep 5 8 r.losThresh, rate := keep 8 0 r.rate }
    (s.modTx p fun t => { t with swing := keep 6 15 t.swing, skew := keep 7 0 t.skew, idleZero := keep 10 false t.idleZero }).modLane p
      fun l => { l with pinned := keep 9 false l.pinned }

/-- The fields of a lane slot in the word at a byte offset: entry i of the predistortion table lies at bits 9i to 9i + 8 of its part
(DEDUCED, log 117); the packing of the other parts is open. -/
def laneHit (off : Nat) (field : Nat) : Bool :=
  if 0xF0 ≤ off ∧ off < 0x138 then decide (9 * field < 8 * (off - 0xF0) + 32 ∧ 8 * (off - 0xF0) < 9 * field + 9)
  else slotHit 0 off field

/-- All fields of a lane slot but those of the bias outputs at their PORST_N values. -/
def State.freshSlot (s : State) (p : Phys) : State := s.each [0, 0x60, 0xC0, 0xF0, 0x168] fun off s => s.slotPart p off fun _ => true

/-- Fields of a group slot's part take their PORST_N values (R324, Table 10-12): below 0x60 NEXT, SSEQ and the channels' TAG
counters, limits and counts, above it roles, failed marks and the clock's place. -/
def HostGroup.slotPart (h : HostGroup) (off : Nat) (hit : Nat → Bool) : HostGroup :=
  let keep {α : Type} (f : Nat) (fresh x : α) : α := if hit f then fresh else x
  if off < 0x60 then
    let chan (i : Nat) (c : HostChan) : HostChan := { c with
      tagNext := keep (2 + i) 0 c.tagNext, txLimit := keep (6 + i) 0 c.txLimit, rxLimit := keep (10 + i) 0 c.rxLimit,
      txUsed := keep (14 + i) 0 c.txUsed, rxUsed := keep (18 + i) 0 c.rxUsed }
    { h with next := keep 0 0 h.next, sseq := keep 1 0 h.sseq, chan := h.chan.mapIdx fun i c => chan i c }
  else
    let bits (f : Nat) (x : BitVec 18) : BitVec 18 := BitVec.ofNat 18 (packBits ((List.range 18).map fun i => (1,
      (keep (f + i) false (x.getLsbD i)).toNat)))
    let r := HostGroup.reset
    let role (f : Nat) (i : Nat) (x : Nat) : Nat := keep (f + i) (r.txRole.toList.getD i 31) x
    { h with
      txRole := h.txRole.mapIdx fun i x => role 0 i x, rxRole := h.rxRole.mapIdx fun i x => role 17 i x,
      txFailed := bits 34 h.txFailed, rxFailed := bits 52 h.rxFailed,
      txClockSpare := keep 70 false h.txClockSpare, rxClockSpare := keep 71 false h.rxClockSpare }

/-- A group slot without content: all its fields at their PORST_N values. -/
def HostGroup.freshSlot (h : HostGroup) : HostGroup := (h.slotPart 0 fun _ => true).slotPart 0x60 fun _ => true

/-- Loss of VDD_AON resets the always-on domain (R299): the tick counter, the save area and the residency counters. What a lane or
group slot held is gone; DEVICE_TIME, which never decreases, goes on from its value (R300). -/
def State.aonLost (s : State) : State :=
  let s := s.modClk fun c => { c with aonTicks := 0, tickTime := c.deviceTime, tickNum := 0 }
  let s := s.modArr arrSave (·.clearValid)
  let s := s.each physAll fun p s =>
    let s := if (s.ln p).slotValid then (s.freshSlot p).modLane p fun l => { l with slotEmptied := true } else s
    s.modLane p fun l => { l with slotValid := false, saveCount := 0, res := Residency.reset 4 }
  let s := s.each (List.finRange 32) fun g s => s.modGroup g fun h =>
    { (if h.slotValid then h.freshSlot else h) with slotValid := false, saveCount := 0, res := Residency.reset 3 }
  s.modPower fun p => { p with slotValid := false, saveCount := 0, wakeCtlReset := false, res := Residency.reset 3 }

/-- A group's link state is written to its save slot (R309, R318, R323). -/
def State.saveGroup (s : State) (g : Group) : State :=
  (s.writeSlot (groupSlot g)).modGroup g fun h => { h with slotValid := true, saveCount := h.saveCount + 1 }

/-- A group's slot is restored (R309, R318): the fields in an uncorrectable word take their PORST_N values, with an event for it
(R324). -/
def State.restoreGroup (s : State) (g : Group) : State :=
  let r := if (s.grp g).slotValid then s.readSlot (groupSlot g) else ([], s)
  let bad (off : Nat) (s : State) : State :=
    (s.modGroup g fun h => h.slotPart off (slotHit 1 off)).raise .pwrRestoreError (pwrSrc 1 g.val) 0 off
  (r.2.each r.1 bad).modGroup g fun h => { h with slotValid := false }

/-- The direct registers whose saved copies are loaded at the wake, and the word of the device slot that holds a register's copy (R356).
The others show live state, or sessions and the event queue, which stay in SRAM (R320); the indirect windows, two sets at one offset,
keep theirs (DESIGN CHOICE, log 118). -/
def blockRegs : List Nat :=
  [0x030, 0x040, 0x044, 0x048, 0x04C, 0x084, 0x088] ++ (List.range 10).map fun i => 0x0C0 + 4 * i
def blockWord (off : Nat) : Nat := deviceSlot.1 + off / 4

/-- The group leaves OFF: its slot is restored and it trains with RESUME (R318). An entry under way is abandoned (R322); its
HOST.SET_POWER answers BAD_STATE (DESIGN CHOICE, log 115). -/
def State.groupFromOff (s : State) (g : Group) (cause : Nat) : State :=
  let s := if (s.grp g).saving then s.abortGroupEntry g .badState else s
  if (s.grp g).power ≠ .off then s
  else
    let s := s.restoreGroup g
    (s.modGroup g fun h => { h.toTrain false with
      state := if h.replayLost then .outOfService else .train }).setGroupPower g .active cause

end Sys2Proof.Machine
end

