-- ==== Sys2Proof/Machine/RunOps.lean ====
section
/-!
DEFINITION. Shared operations on the runs of superframes: reading images, packing a run's frames (R134), and a run that zero scale cuts.
-/
namespace Sys2Proof.Machine

/-- Read the image about to be sent, the k-th: `bad` names an image, a word of it and the stored bits that a disturbance inverts
(R160). -/
def State.readImage (s : State) (w : Work) (k : Nat) (i : Image) (bad : Option (Nat × Nat × BitVec 42)) : Image × State :=
  let r := s.unitRead arrRetention i.word (wordsFor i.size) ((bad.filter fun x => decide (x.1 = k)).map (·.2))
  if r.1 = [] then (i, r.2) else ({ i with void := true }, r.2.retentionLoss w i)

/-- Send images while frames still begin before `limit`: the frames sent, the byte position after them, the state. -/
def State.sendRun (s : State) (w : Work) (p : Phys) (limit pos k : Nat) (bad : Option (Nat × Nat × BitVec 42)) (sent : List LineFrame) :
    List Image → List LineFrame × Nat × State
  | [] => (sent, pos, s)
  | i :: r =>
    if limit ≤ pos then (sent, pos, s)
    else
      let x := s.readImage w k i bad
      let f := x.2.imageFrame w x.1
      let t := (x.2.markSent w i).ackSent w i.dest
      let t := t.modTxDiag p fun d => { d with framesSent := satW 32 (d.framesSent + 1) }
      t.sendRun w p limit (pos + f.bytes.length) (k + 1) bad (sent ++ [f]) r

/-- Whether a path carries the frames of its working lane, or only ACK and FILL frames (Table 6-6). -/
def State.carriesFrames (s : State) (p : Phys) (w : Work) : Bool :=
  match (s.wk w).move with
  | some m => if m.phase = .make then decide (m.src = p) else if m.phase = .switch then false
      else if m.phase = .breakP then decide (m.dst = p) else decide (m.src = p)
  | none => decide (s.workOf p = some w)

/-- FILL frames after n bytes of a run, to its end or past it. -/
def runFill (n : Nat) : Bytes := (List.replicate ((runBytes - n + 15) / 16) (beBytes 16 fillHdr.toNat)).flatten

/-- The run that ends, or is cut after the outer codewords that hold `limit` bytes: the rest of the frame before, then in order a
standalone ACK, retransmissions, new frames, FILL (R134). Its last frame may go on into the next run. Its frame stream is coded,
scrambled and mapped (R101–R108, R110). -/
def State.endRun (s : State) (p : Phys) (limit cw : Nat) (bad : Option (Nat × Nat × BitVec 42)) : State :=
  let rest := (s.txl p).rest
  let start := rest.length
  let who : Option Work := match s.rxWork p with
    | some w => if s.modeOfWork w = .steady ∧ (s.wk w).fec.peer ≠ 16383 ∧ ¬ (s.ln p).resetting then some w else none
    | none => none
  let r : List LineFrame × Nat × State := match who with
    | none => ([], start, s)
    | some w =>
      let peer := (s.wk w).fec.peer
      let due := ((tabGet (s.wk w).acks peer).getD {}).standalone
      let first := if due then [s.ackFrame w peer] else []
      let s := if due then s.ackSent w peer else s
      if s.carriesFrames p w then
        s.sendRun w p limit (start + 16 * first.length) 0 bad first ((s.wk w).toSend peer)
      else (first, start + 16 * first.length, s)
  let stream := rest ++ r.1.flatMap LineFrame.bytes ++ runFill r.2.1
  (r.2.2.modTx p fun t => { t with
    rest := stream.drop runBytes, lastSent := r.1, run := t.run + 1, line := payloadLine 4096 (stream.take runBytes) }).modTxDiag p
      fun d => { d with cwSent := satW 32 (d.cwSent + cw) }

/-- The content of a lane ends now, and zero scale or other content follows: of a run in progress, the symbols up to now have been sent,
and the outer codewords they begin (R126, R134). -/
def State.cutRun (s : State) (p : Phys) : State :=
  let t := s.txl p
  if ¬ superframes (s.modeOf p) ∨ t.marker = 0 then s.endLine p
  else
    let start := t.boundary - BitVec.ofNat 48 runSymbols
    let n := if (s.txSym p - start).toNat < 2 ^ 47 then min (s.txSym p - start).toNat runSymbols else 0
    let cw := ((List.range 4096).filter fun k => decide (cwSymbol k < n)).length
    let s := s.endRun p ((5140 * cw + 7) / 8) cw none
    let s := (s.putLine p start t.line ((s.txl p).line.take n)).endLine p
    s.modTx p fun t => { t with marker := 0, rest := [] }

end Sys2Proof.Machine
end

