-- ==== Sys2Proof/Machine/MoveOps.lean ====
section
/-!
DEFINITION. Lane modes and spare moves: entering a mode (R16–R18, R317), training ends, failing declarations (R182, R186,
R469), failure moves (R183, R185), planned moves (R184), lanes entering SPARE (R186, R187).
-/
namespace Sys2Proof.Machine

/-! Training and calibration runs ended by a mode change. -/

/-- End a running LANE.TRAIN with a result (R391). -/
def State.endTrain (s : State) (p : Phys) (st : TrainStatus) (r : Result) (detail : Nat) : State :=
  let k := (s.ln p).trainSess
  let s := s.modLane p fun l => { l with train := st, trainSess := none }
  match k with
  | some k => s.answer k 0x0302 r detail []
  | none => s

/-- End a calibration run with outcome ABORTED, and drop a queued trigger (Table 9-10). -/
def State.calAbort (s : State) (p : Phys) : State :=
  let c := s.cal.lane[p.val]
  let s := s.modCal fun u => { u with queue := u.queue.filter fun x => decide (x.lane ≠ p) }
  if c.state = .running then
    ((s.modCalLane p fun c => { c with state := .idle, remaining := 0, outcome := .aborted, rejected := 0, lastStaged := false }).calCancel
      p).raise .calRunDone p.val 3
  else s.modCalLane p fun c => { c with state := .idle, remaining := 0 }

/-! Modes. -/

/-- The physical lane's part of a mode change. Between SLOTTED and OPEN the bursts in progress go on decoding (R78); prefetch locks
end with SLOTTED. -/
def State.physMode (s : State) (p : Phys) (new : LaneMode) : State :=
  let old := s.modeOf p
  let s := s.cutRun p
  let s := if burstMode old ∧ ¬ burstMode new then s.abandonBursts p else s
  let s := if burstMode old ∧ burstMode new then s else s.amDrop p
  let s := if old = .slotted then (s.modAcq p Acq.dropPrefetch).hotSettle p else s
  let s := (s.rxMode p old new).txMode p old new
  let s := if new = .dark then s.calAbort p else s
  let s := if burstMode new ∧ ¬ burstMode old then s.modAcq p fun a => { hot := a.hot } else s
  (s.modLane p fun l => { l with mode := new, trainHere := l.trainHere && decide (new ≠ .tune) }).fitPower p new

/-- Statistics and burst bookkeeping start anew when a working lane enters a mode (R92, R121, R136, R150, R192). DESIGN CHOICE (log 114):
the seed of the backoff generator is four bytes of the entropy source XOR the station ID; R150 names the two and no way to join them. -/
def State.workMode (s : State) (w : Work) (old new : LaneMode) : State :=
  let seed := Config.entropy s.free 4
  let s := if new = .openM then s.draw.2 else s
  let s := if old = .transparent then
      s.modChan w HostChan.endRaw else s
  let s := s.modWork w fun u => { u with
    counts := {},
    fec := { windowExp := u.fec.windowExp, hardForced := u.fec.hardForced, hard := u.fec.hard, preTx := u.fec.preTx,
             preRx := u.fec.preRx, margin := u.fec.margin, marginHard := u.fec.marginHard, marginLb := u.fec.marginLb,
             marginValid := u.fec.marginValid, windowBer := u.fec.windowBer, low := u.fec.low },
    burst := if burstMode new then { u.burst with counters := Vector.replicate 32 0 }
      else { u.burst with holdoff := u.burst.params.holdoff },
    tx := if burstMode new then
        { u.tx with burstNum := [], coldPending := [], named := [], dests := [], lastDest := 16383,
                    prng := if new = .openM then BitVec.ofNat 32 (leNat seed) ^^^ BitVec.ofNat 32 u.station else u.tx.prng }
      else u.tx }
  s.grant w

/-- A lane leaves DARK: an entry into OFF under way is abandoned, and a lane in OFF restores its slot (R317, R322). Its host group
leaves OFF (R318). -/
def State.leaveDark (s : State) (p : Phys) : State :=
  let s := if (s.ln p).saving then s.abortLaneEntry p else s
  let s := if (s.ln p).power = .off then s.modLane p fun l => { l with waking := true } else s
  match s.workOf p with
  | some w => s.groupFromOff (groupOfWork w) 3
  | none => s

/-- Change a physical lane's mode, with its working lane's part. -/
def State.setMode (s : State) (p : Phys) (new : LaneMode) : State :=
  let old := s.modeOf p
  if old = new then s
  else
    let s := if old = .dark then s.leaveDark p else s
    -- the receive path is lost by every change but that between SLOTTED and OPEN (R176, R78)
    let s := match s.workOf p with
      | some w => if guaranteed old ∧ ¬ (burstMode old ∧ burstMode new) then s.scrapeAll w else s
      | none => s
    let s := s.physMode p new
    let s := if new = .dark then s.modLane p fun l => { l with saving := true, waking := false } else s
    match s.workOf p with
    | some w => (s.workMode w old new).each [p] fun p s => s.holdBase p w
    | none => s

/-- A training fails: its LANE.TRAIN ends with a result, and a reintegration with it (R187, R391). -/
def State.trainFails (s : State) (p : Phys) (r : Result) (detail : Nat) : State :=
  let reint := decide ((s.ln p).reint = some .training)
  let s := (s.endTrain p .failed r detail).modTx p fun t => { t with trainSignal := false }
  if reint then
    let s := s.raiseP .deliveryReintegrated p 1 1 255
    (s.modLane p fun l => { l with reint := none }).setMode p .dark
  else s

/-- A reset of a lane's engine ends its running training: the crossing is closed, which LANE.TRAIN returns as BUSY (R304). -/
def State.cutTraining (s : State) (p : Phys) : State := if (s.ln p).train = .running then s.trainFails p .busy 0 else s

/-- A mode change with a drain takes effect and its command is answered (R18, R135). -/
def State.finishChange (s : State) (p : Phys) (target : LaneMode) (k : Option Sess) : State :=
  let s := (s.modLane p fun l => { l with change := none }).setMode p target
  s.answerOpt k 0x0301 .ok 0 (leBytes 1 target.code ++ zeros 7)

/-- A drained change waits for the end of a burst in progress (R135). -/
def LaneUnit.waitsBurst (l : LaneUnit) : Bool :=
  match l.change with
  | some (.burstEnd _ _) => true
  | _ => false

/-- A drained change of SLOTTED or OPEN takes effect once no burst is in progress on the lane, be it ended or cut (R135). -/
def State.settleBurstEnd (s : State) (p : Phys) : State :=
  match (s.ln p).change with
  | some (.burstEnd target k) => if (s.txl p).burst.isNone then s.finishChange p target k else s
  | _ => s

/-! Mapping a working lane. -/

/-- Destinations of a lane's bursts (R137). -/
def WorkLane.destinations (u : WorkLane) : List Nat := (u.tx.named ++ u.tx.coldPending ++ u.txCtx.map (·.1)).eraseDups

/-- The portraits of a working lane that moves are INHERITED (R87). -/
def State.inherit (s : State) (w : Work) : State :=
  s.each (s.gallery.ofLane w) fun e s => (s.markPortrait w e.2.station 0 fun q => { q with inherited := true }).2

/-- A spare move of a working lane is counted (Table 6-9). -/
def State.countMove (s : State) (w : Work) : State :=
  s.modWork w fun u => { u with counts := { u.counts with moves := satW 16 (u.counts.moves + 1) } }

/-- What a takeover brings: INHERITED portraits, cold bursts, send pointers at the oldest retained frame in STEADY (R87,
R137, R183 steps 3 and 4), and EV_DELIVERY_SPARE_MOVED. -/
def State.afterTakeover (s : State) (w : Work) : State :=
  let s := s.inherit w
  let m := s.modeOfWork w
  let s := if m = .steady then s.each (s.wk w).txCtx fun e s => s.rewindOldest w e.1 else s
  let s := if burstMode m then s.modTxw w fun t => { t with coldPending := (s.wk w).destinations } else s
  ((s.countMove w).raiseW .deliverySpareMoved w).grant w

/-- Map a working lane onto T, which takes up its mode (R183 step 2, R469 step 2). -/
def State.mapOnto (s : State) (w : Work) (t : Phys) : State :=
  let m := s.modeOfWork w
  let s := s.modWork w fun u => { u with phys := some t, oosOrder := none }
  let s := if (s.ln t).power = .idle then s.setLanePower t .active 3 else s
  let s := s.physMode t m
  let s := if m = .dark then s.modLane t fun l => { l with saving := true } else s
  let s := s.hotClear t
  ((s.holdBase t w).afterTakeover w).settleBurstEnd t

/-- S enters DARK after a takeover (R183 step 5, R469 step 3); write-backs still pending in its hot cache reach the gallery first. -/
def State.retireLane (s : State) (p : Phys) (failed : Bool) : State :=
  let s := (s.hotClear p).modLane p fun l => { l with failed := l.failed || failed, saving := l.saving || decide (l.mode ≠ .dark) }
  s.physMode p .dark

/-- Adaptation and loops of the lanes a failed core affects freeze while its cover is in progress (R14, R44, R262). -/
def State.freezeFor (s : State) (c : Core) (l : List Phys) : State :=
  (s.modCore c fun u => { u with frozen := l }).each l fun p s =>
    (s.modRx p fun r => { r with coverFreeze := true }).freezeLane p .cover

/-- The lanes that a core's cover froze go on, unless another cover holds them (R14). -/
def State.thawFor (s : State) (c : Core) : State :=
  let l := (s.coreOf c).frozen
  let s := s.modCore c fun u => { u with frozen := [] }
  let held := coreAll.flatMap fun d => (s.coreOf d).frozen
  s.each (l.filter fun p => !held.contains p) fun p s =>
    (s.modRx p fun r => { r with coverFreeze := false }).thawLane p .cover

/-- The cover of a failed core has completed (R14): its event, and the lanes it froze go on. -/
def State.coverDone (s : State) (c : Core) (code : Nat) : State :=
  ((s.modCore c fun u => { u with covered := true, covering := none }).thawFor c).raise .devCoverDone c.val code

/-- Event details of the end of a planned move (R184): 0 DONE, 1 TIMEOUT, 2 PREEMPTED, 3 ABANDONED, 4 CONVERTED. -/
def State.moveDone (s : State) (w : Work) (m : Move) (code : Nat) : State :=
  let s := s.raiseW .deliveryMoveDone w code m.src.val m.dst.val
  if m.reint then
    (s.modLane m.dst fun l => { l with reint := none }).raiseP .deliveryReintegrated m.dst 3
      (if code = 0 ∨ code = 4 then 0 else 1) w.val
  else s

/-- A mode change in progress goes on, on the lane that takes over (R16). -/
def State.carryChange (s : State) (src dst : Phys) : State :=
  let c := (s.ln src).change
  (s.modLane src fun l => { l with change := none }).modLane dst fun l => { l with change := c }

/-- W leaves S, which enters DARK marked FAILED, and T takes over (R183 steps 2 to 5). -/
def State.takeOver (s : State) (w : Work) (m : Move) : State :=
  let mode := s.modeOf m.src
  let s := s.carryChange m.src m.dst
  let s := s.retireLane m.src true
  let s := s.modWork w fun u => { u with oosMode := mode, phys := none, move := none }
  let s := s.mapOnto w m.dst
  match m.cover with
  | some c => s.coverDone c 0
  | none => s

/-! Spares. -/

/-- Lanes of a bank in SPARE that no move claims, ascending. -/
def State.freeSpares (s : State) (bank : Nat) : List Phys :=
  (lanesOfBank bank).filter fun p => decide (s.modeOf p = .spare) && !(s.ln p).failed && (s.moveOf p).isNone && (s.workOf p).isNone

/-- The planned move of a bank that a failure move preempts (R186): one still in MAKE, or one in burst modes that waits. -/
def State.preemptable (s : State) (bank : Nat) (ph : MovePhase) : Option (Work × Move) :=
  workAll.findSome? fun w => match (s.wk w).move with
    | some m => if m.planned ∧ m.phase = ph ∧ bankOfPhys m.dst = bank then some (w, m) else none
    | none => none

/-- Abandon a planned move: T returns to idle SPARE content and to its search for markers, and W stays on S (R184, R186). -/
def State.dropMove (s : State) (w : Work) (m : Move) (code : Nat) : State :=
  let s := (s.amDrop m.dst).modWork w fun u => { u with move := none }
  s.moveDone w m code

/-- Put a working lane out of service (R186). A mode change in progress stays on the lane it leaves, where its time limit runs,
until a spare takes it over (R18). No cover is then in progress: what a failed lane engine froze goes on, and only its event waits
for the spare (R14: frozen for no more than 2 ms). -/
def State.outOfService (s : State) (w : Work) (p : Phys) (cover : Option Core) : State :=
  let order := (workAll.filterMap fun x => (s.wk x).oosOrder).foldl (fun n k => max n (k + 1)) 0
  let m := s.modeOfWork w
  let was := (s.zsConds p).contains 7
  let s := (s.abandonBursts p).retireLane p true
  let s := if was then s else s.raiseP .txZeroScale p 7
  let s := s.modWork w fun u => { u with
    phys := none, oosMode := m, oosOrder := some order, oosFrom := some p, oosCover := cover, move := none }
  let s := match cover with
    | some c => s.thawFor c
    | none => s
  s.raiseW .deliveryNoSpare w

/-- The spare a failure move takes (R183 step 1, R186): the failing lane's own planned move becomes a failure move onto the same
spare; else a planned move in MAKE gives way, a free spare is taken, or a planned move that waits for zero scale gives way. -/
def State.failureTarget (s : State) (w : Work) (p : Phys) : Option Phys × State :=
  let bank := bankOfPhys p
  match (s.wk w).move with
  | some m =>
    let s := s.modWork w fun u => { u with move := none, phys := some p }
    (some m.dst, if m.planned then s.moveDone w m 4 else s)
  | none =>
    match s.preemptable bank .make with
    | some x => (some x.2.dst, s.dropMove x.1 x.2 2)
    | none => match s.freeSpares bank with
      | t :: _ => (some t, s)
      | [] => match s.preemptable bank .zeroWait with
        | some x => (some x.2.dst, s.dropMove x.1 x.2 2)
        | none => (none, s)

/-- Start of a failure move (R183, R185, R186): S is declared failing, T is the bank's cover. -/
def State.failureMove (s : State) (w : Work) (p : Phys) (reason : FailReason) (cover : Option Core) : State :=
  let atOnce := !burstMode (s.modeOf p) || decide (reason = .engine ∨ reason = .txFault)
  let x := s.failureTarget w p
  let s := x.2.scrapeAll w
  match x.1 with
  | none => s.outOfService w p cover
  | some t =>
    let m : Move := { src := p, dst := t, phase := if atOnce then .failing else .zeroWait, reason := reason, planned := false,
                      cover := cover }
    let s := if atOnce && burstMode (s.modeOf p) then (s.cutBurst p).abandonBursts p else s
    let was := (s.zsConds p).contains 7
    let s := if atOnce then (s.cutRun p).amDrop p else s
    let s := s.modWork w fun u => { u with move := some m }
    let s := if (s.ln t).power = .idle then s.setLanePower t .active 3 else s
    if atOnce ∧ ¬ was then s.raiseP .txZeroScale p 7 else s

/-- Start of a planned move (R184, R185). -/
def State.plannedMove (s : State) (w : Work) (p t : Phys) (reason : FailReason) (reint : Bool) : State :=
  let m : Move := { src := p, dst := t, phase := if s.modeOf p = .steady then .make else .zeroWait, reason := reason,
                    planned := true, reint := reint }
  let s := s.modWork w fun u => { u with move := some m }
  -- T starts its superframes for W with a marker (Table 6-6)
  let s := if m.phase = .make then (s.cutRun t).modTx t fun x => { x with marker := 0, rest := [] } else s
  if (s.ln t).power = .idle then s.setLanePower t .active 3 else s

def FailReason.code : FailReason → Nat
  | .engine => 0
  | .txFault => 1
  | .rxSignal => 2
  | .margin => 3
  | .peerMove => 4
  | .ageing => 5
  | .command => 6

/-- The switch of a working lane in a mode without the guarantee (R469). -/
def State.immediateSwitch (s : State) (w : Work) (p t : Phys) : State :=
  let m := s.modeOf p
  let s := if m = .tune ∧ (s.ln p).train = .running then s.endTrain p .failed .badState 4 else s
  let s := s.retireLane p false
  let s := s.modWork w fun u => { u with oosMode := m, phys := none }
  s.mapOnto w t

/-- The failure move of a declaration: one under way goes on, and at once for ENGINE and TX_FAULT, and completes the cover of
a lane engine that fails meanwhile (R14, R185, R186). -/
def State.failLane (s : State) (w : Work) (p : Phys) (reason : FailReason) (cover : Option Core) : State :=
  let hard := decide (reason = .engine ∨ reason = .txFault)
  match (s.wk w).move with
  | some m =>
    if ¬ m.planned ∧ (m.phase = .failing ∨ ¬ hard) then
      s.modWork w fun u => { u with move := some { m with cover := if cover.isSome then cover else m.cover } }
    else s.failureMove w p reason (if cover.isSome then cover else m.cover)
  | none => s.failureMove w p reason cover

/-- A failing lane that carries no working lane is marked FAILED and retired; `mv` is the move that names it (R183, R186). -/
def State.loseUnused (s : State) (p : Phys) (mv : Option (Work × Move)) : State :=
  let s := match mv with
    | some (w, m) => if m.dst ≠ p then s
        else if m.planned then s.dropMove w m 3
        else s.modWork w fun u => { u with move := none }
    | none => s
  let s := if s.modeOf p = .spare then s.retireLane p true else s.modLane p fun l => { l with failed := true }
  s.raiseP .txZeroScale p 7

/-- The working lane of a failure move onto a lost lane looks for another cover (R186). -/
def State.loseMove (s : State) (p : Phys) (mv : Option (Work × Move)) : State :=
  match mv with
  | some (w, m) => if m.dst = p ∧ ¬ m.planned then s.failureMove w m.src m.reason m.cover else s
  | none => s

/-- A lane that carries no working lane fails. -/
def State.loseLane (s : State) (p : Phys) (cover : Option Core) : State :=
  let mv := s.moveOf p
  let s := s.loseUnused p mv
  let s := match cover with
    | some c => s.coverDone c 1
    | none => s
  s.loseMove p mv

/-- Declare a physical lane failing for a reason of Table 6-5 (R182, R186, R469). `cover` is the failed lane engine. -/
def State.declareFail (s : State) (p : Phys) (reason : FailReason) (cover : Option Core) : State :=
  match s.workOf p with
  | some w =>
    if guaranteed (s.modeOf p) then
      let s := s.raiseP .deliveryLaneFail p reason.code
      let auto := (s.wk w).autoFail
      match reason with
      | .command => s
      | .ageing =>
        if (s.wk w).autoAgeing && (s.wk w).move.isNone then
          (match s.freeSpares (bankOfPhys p) with
           | t :: _ => s.plannedMove w p t .ageing false
           | [] => s)
        else s
      | .peerMove =>
        if (s.wk w).move.isNone then
          (match s.freeSpares (bankOfPhys p) with
           | t :: _ => s.plannedMove w p t .peerMove false
           | [] => s)
        else s
      | .rxSignal => if auto then s.failLane w p .rxSignal none else s
      | .margin => if auto then s.failLane w p .margin none else s
      | r => s.failLane w p r cover
    else if reason = .engine ∨ reason = .txFault then
      let s := s.raiseP .deliveryLaneFail p reason.code
      let s := (s.modLane p fun l => { l with failed := true }).raiseP .txZeroScale p 7
      match cover with | some c => s.coverDone c 1 | none => s
    else s
  | none =>
    if reason = .engine ∨ reason = .txFault then (s.raiseP .deliveryLaneFail p reason.code).loseLane p cover else s

/-- An out-of-service working lane of the bank takes the lane that enters SPARE (R186). -/
def State.spareEntered (s : State) (p : Phys) : State :=
  if ¬ (s.freeSpares (bankOfPhys p)).contains p then s
  else
  let waiting := workAll.filter fun w => decide (w.val / 16 = bankOfPhys p) && (s.wk w).oosOrder.isSome
  match minBy (fun w => (((s.wk w).oosOrder).getD 0 : Int)) waiting with
  | none => s
  | some w =>
    let c := (s.wk w).oosCover
    let s := match (s.wk w).oosFrom with
      | some q => s.carryChange q p
      | none => s
    let s := s.mapOnto w p
    let s := s.modWork w fun u => { u with oosCover := none, oosFrom := none }
    match c with
    | some c => s.coverDone c 0
    | none => s

end Sys2Proof.Machine
end

