-- ==== Sys2Proof/Machine/ResetOps.lean ====
section
/-!
DEFINITION. The reset of a physical lane (R308), crossings closed and reopened by resets (R304), and core covers (R14).
-/
namespace Sys2Proof.Machine

/-! Crossings. -/

/-- A reset closes the crossings of its domain (R304). -/
def State.closeXing (s : State) (domain : Nat) : State :=
  s.modClk fun c => { c with closed := if c.closed.contains domain then c.closed else c.closed ++ [domain] }

/-- The reset ends: the crossings open, and EV_CLK_XING_FLUSH tells how many transfers were discarded each way (R304). -/
def State.openXing (s : State) (domain : Nat) (discarded : Nat × Nat) : State :=
  if s.sys.clk.closed.contains domain then
    (s.modClk fun c => { c with closed := c.closed.filter fun d => decide (d ≠ domain) }).raise .clkXingFlush
      (Config.crossing domain) 0 discarded.1 discarded.2
  else s

/-- The core's own counters are cleared by its reset (R377). -/
def PerfUnit.cleared (u : PerfUnit) : PerfUnit :=
  let clear (x : PerfCounter) : PerfCounter := { x with count := 0, prev := false, overflowed := false }
  { u with cycles := 0, before := none, pc := u.pc.map clear }

/-- What every reset of a core clears: its counters (R377) and the valid array of its data memory (Table 11-1). -/
def State.clearCore (s : State) (c : Core) : State :=
  (s.modCtl fun x => { x with perf := vupd x.perf c (·.cleared) }).modArr (arrCoreD c) (·.clearValid)

/-- A lane or group reset resets its engine too: a reset of that core in progress is abandoned, as the lower one (R312). -/
def State.resetEngine (s : State) (c : Core) : State :=
  (s.modCore c fun u => { u with
    resets := u.resets + 1, commanded := false, state := if u.state = .restarting then .active else u.state }).clearCore c

/-! Lane reset. -/

/-- Step 2 of R308, with the bias outputs' part (R231, Table 8-3). -/
def State.doReset (s : State) (p : Phys) : State :=
  let s := s.cutTraining p
  let s := match s.workOf p with
    | some w => s.scrapeAll w
    | none => s
  let s := (s.rxFadeSettle p).amDrop p
  let s := if (s.ln p).saving then s.abortLaneEntry p else s
  let s := s.hotClear p
  let s := (s.modArr (arrHot p) (·.clearValid)).modArr (arrFlipbook p) (·.clearValid)
  let s := s.modRx p fun r => { r with
    ring := [], frozen := false, capture := {}, window := none, losLow := 0, losHigh := 0,
    state := if burstMode (s.modeOf p) then .burst else .off }
  let s := s.each [0, 1, 2, 3] fun k s => s.modBias (biasOf p k) fun b => { b with pending := none }
  let s := s.freezeLane p .laneReset
  let s := s.resetEngine (finOf 192 p.val)
  (s.modLane p fun l => { l with resetWait := false, resetting := true, graceful := true, resetAt := s.now }).closeXing p.val

/-- No burst is being sent or received on the lane; one that is frozen is yet to be sent. -/
def State.burstFree (s : State) (p : Phys) : Bool :=
  (s.txl p).burst.isNone && (s.acl p).cur.isNone && decide ((s.acl p).decoding = [])

/-- A lane reset that waits for bursts to end runs once none is left (R308 step 1). -/
def State.settleReset (s : State) (p : Phys) : State :=
  if (s.ln p).resetWait ∧ (¬ burstMode (s.modeOf p) ∨ s.burstFree p) then s.doReset p else s

/-! Core covers. -/

/-- Physical lanes whose adaptation a core's cover freezes: the lane of a lane engine, those of a host-group engine's working
lanes, and every lane for the pooled fabric and housekeeping engines. DESIGN CHOICE (log 110): R14 does not say which lanes the
cover of a pooled engine affects. -/
def State.coverLanes (s : State) (c : Core) : List Phys :=
  if c.val < 136 then [finOf 136 c.val]
  else if c.val < 168 then [0, 1, 2, 3].filterMap fun i => s.physOf (workOfChan (finOf 32 (c.val - 136)) i)
  else if c.val < 186 then physAll
  else []

/-- A cover starts: adaptation and loops of the affected lanes freeze (R14, R44, R262). -/
def State.startCover (s : State) (c : Core) (code : Nat) : State :=
  (s.modCore c fun u => { u with covering := some code, covered := false }).freezeFor c (s.coverLanes c)

/-- A cover that runs completes (R14). -/
def State.endCover (s : State) (c : Core) : State :=
  match (s.coreOf c).covering with
  | none => s
  | some code => s.coverDone c code

end Sys2Proof.Machine
end

