-- ==== Sys2Proof/Machine/Bursts.lean ====
section
/-!
DEFINITION. Meanings of the burst, acquisition and portrait rows (chapter 3, Tables 13-5 and 13-6).
-/
namespace Sys2Proof.Machine

/-- The working lane of a receive path in BURST. -/
def State.burstWork (s : State) (p : Phys) : Option Work := if (s.rxl p).state = .burst then s.workOf p else none

/-- Change the burst being acquired. -/
def State.modCur (s : State) (p : Phys) (f : Burst → Burst) : State := s.modAcq p fun a => { a with cur := a.cur.map f }

def near (x c : Nat) : Bool := decide (x ≤ c + 2 ∧ c ≤ x + 2)

/-- A positive peak at a repetition offset of a first peak of the same kind. -/
def repetition (cold : Bool) (d : Nat) : Bool :=
  if cold then [64, 128, 192, 256, 320, 384, 448].any (near d) else [64, 128].any (near d)

/-- A positive peak explained by the burst in progress: a repetition, the cold preamble's warm tail and its repetitions, or
a repetition of an intrusion counted before (R76). -/
def Burst.explains (b : Burst) (cold : Bool) (sym : Sym) : Bool :=
  let d := (sym - b.firstPeak).toNat
  let own := match b.start with
    | .warm => !cold && repetition false d
    | .cold => (cold && repetition true d) || (!cold && [3840, 3904, 3968].any (near d))
    | .fallback => false
  let other := b.intruders.any fun x =>
    let e := (sym - x.1).toNat
    decide (x.2 = cold) && repetition x.2 e || (x.2 && !cold && [3840, 3904, 3968].any (near e))
  own || other

/-- A repetition peak of the burst itself establishes it (R73). -/
def Burst.establishes (b : Burst) (cold : Bool) (sym : Sym) : Bool :=
  let d := (sym - b.firstPeak).toNat
  match b.start with
  | .warm => !cold && repetition false d
  | .cold => cold && repetition true d
  | .fallback => false

/-- The end marker's place (Acquisition states). -/
def Burst.endsAt (b : Burst) (sym : Sym) : Bool :=
  let d := (sym - b.firstPeak).toNat
  match b.start with
  | .warm => near d 192
  | .cold => near d 4032
  | .fallback => false

/-- The capture test of R77. -/
def State.captureTest (s : State) (p : Phys) (w : Work) (b : Burst) (start : BurstStart) (sym : Sym) (strength : Int) : State :=
  let sA := if b.syncAt.isSome then b.strength else b.firstStrength
  let d := strength - sA
  let arg := ofSigned 32 d
  if b.params.capture ≠ 0 ∧ 128 * (b.params.capture : Int) ≤ d then
    let s := (s.endCurrent p 7).raiseP .burstCollision p 7 (burstSender b) arg
    let s := if b.header.isSome then s.reportSender w b 7 else s
    s.judgeStart p w start sym strength
  else (s.countBurst w 22).raiseP .burstCollision p 0 (burstSender b) arg

/-- Of two starts found in one cycle in ARMED, whether the later row's peak prevails: a cold peak over a warm one, and a peak over a
fall-back declaration (R74). -/
def BurstStart.yields (a : BurstStart) (cold : Bool) : Bool :=
  match a with
  | .fallback => true
  | .warm => cold
  | .cold => false

/-- A new positive peak during a burst (Table 3-6). Of two correlators' peaks in the cycle of the first one the prevailing one counts
(R74); a second peak of one correlator is a new peak as any other. Before the burst is established it replaces it in PREAMBLE, TRAINING and
SYNC_WAIT; the table has no row for such a burst in HEADER, PAYLOAD and CLOSE, where the peak changes nothing. -/
def State.newPeak (s : State) (p : Phys) (w : Work) (b : Burst) (cold : Bool) (sym : Sym) (strength : Int) : State :=
  let start : BurstStart := if cold then .cold else .warm
  let st := (s.acl p).state
  if ¬ b.established then
    if b.start ≠ start ∧ (s.rxl p).sameCycle b.start b.firstPeak start sym then
      if b.start.yields cold then
        ((s.modAcq p fun a => { a with cur := none }).unlockBurst p w b).startBurst p w start sym strength
      else s
    else if st = .preamble ∨ st = .training ∨ st = .syncWait then (s.endCurrent p 3).judgeStart p w start sym strength
    else s
  else if b.slotted then
    ((s.modCur p fun b => { b with intruders := b.intruders ++ [(sym, cold)], intruded := true }).countBurst w 16).raiseP
      .slotIntrusion p
  else s.captureTest p w b start sym strength

/-- The acquisition parameters in force: the burst's in progress, else the lane's (R69). -/
def State.burstParams (s : State) (p : Phys) (w : Work) : BurstParams :=
  match (s.acl p).cur with
  | some b => b.params
  | none => (s.wk w).burst.params

/-- A correlator declares a peak at a sample (R64). -/
def State.declares (s : State) (p : Phys) (w : Work) (cold negative : Bool) (sym : Sym) : Bool :=
  let c := s.burstParams p w
  (s.rxl p).holds sym && (s.rxl p).peak cold negative (if cold then c.tc else c.tw) sym

/-- CORRELATOR_PEAK: a peak of the warm or cold correlator at sample `sym`, with the timing phase, frequency offset and DGAIN that the
preamble refines (R64, R65, R70, R73, R76, R77, Table 3-6). DESIGN CHOICE (log 111): a negative peak cancels the fall-back start of R66 as
a positive one does. -/
def execCorrelatorPeak (p : Phys) (cold negative : Bool) (sym : Sym) (phase : BitVec 10) (freq dgain : Int) (s : State) :
    Host.Outcome State Fault Refusal :=
  let strength := (s.rxl p).strength sym
  .next <| match s.burstWork p with
    | none => s
    | some w =>
      if ¬ s.declares p w cold negative sym then s else
      let s := s.modAcq p fun a => { a with triggerClean := false }
      match (s.acl p).cur with
      | none => if negative then s else s.judgeStart p w (if cold then .cold else .warm) sym strength
      | some b =>
        let st := (s.acl p).state
        let inPre := decide (st = .preamble ∨ st = .training)
        if negative then
          if ¬ cold ∧ inPre = true ∧ b.endsAt sym then
            (s.refine p w phase freq dgain).modAcq p fun a => { a with
              state := .syncWait, cur := a.cur.map fun b => { b with endMarker := true, syncOpen := true } }
          else s
        else if b.explains cold sym then
          let s := if b.establishes cold sym then s.modCur p fun b => { b with established := true } else s
          if inPre then s.refine p w phase freq dgain else s
        else s.newPeak p w b cold sym strength

/-- POWER_DETECTOR_TRIGGER: the mean has stayed at or above the threshold for the 16 symbols that end at `sym` (R66). -/
def execPowerDetectorTrigger (p : Phys) (sym : Sym) (s : State) : Host.Outcome State Fault Refusal :=
  .next <| match s.burstWork p with
    | none => s
    | some w => s.modAcq p fun a =>
      if ¬ ((s.rxl p).holds sym ∧ (s.rxl p).powerUp (s.burstParams p w).powerThresh sym) then a
      else if a.detArmed then { a with detArmed := false, trigger := some sym, triggerClean := decide (a.state = .armed) } else a

/-- FALLBACK_START: 112 symbols after a trigger without a peak, in ARMED throughout (R66). -/
def execFallbackStart (p : Phys) (sym : Sym) (s : State) : Host.Outcome State Fault Refusal :=
  .next <| match s.burstWork p with
    | none => s
    | some w =>
      let a := s.acl p
      if a.triggerClean ∧ a.trigger = some (sym - 112) ∧ a.state = .armed ∧ (s.rxl p).passed sym then
        let s := (s.modAcq p fun a => { a with trigger := none, triggerClean := false }).countBurst w 18
        s.judgeStart p w .fallback sym 0
      else s

/-- POWER_DETECTOR_REARM: the 64 symbols that end at `sym` lay below the threshold. They re-arm the detector (R66); in PAYLOAD the
burst is truncated. -/
def execPowerDetectorRearm (p : Phys) (sym : Sym) (s : State) : Host.Outcome State Fault Refusal :=
  .next <| match s.burstWork p with
    | none => s
    | some w =>
      if ¬ ((s.rxl p).holds sym ∧ (s.rxl p).powerDown (s.burstParams p w).powerThresh sym) then s else
      let s := s.modAcq p fun a => { a with detArmed := true }
      if (s.acl p).state = .payload then s.endCurrent p 10 else s

/-- The expected preamble end (R73). -/
def Burst.preambleEnd (b : Burst) : Sym := b.firstPeak + (if b.start = .cold then 4032 else 192)

/-- COLD_TRAINING_START: the last repetition of C64 has passed; data-aided training begins (Table 3-6). -/
def execColdTrainingStart (p : Phys) (s : State) : Host.Outcome State Fault Refusal :=
  .next <| match (s.acl p).cur with
    | some b => if b.start = .cold ∧ (s.acl p).state = .preamble ∧ (s.rxl p).passed (b.firstPeak + 448) then
        (s.modAcq p fun a => { a with state := .training }).trainCold p (qOf (s.rxl p).rate)
      else s
    | none => s

/-- COLD_TRAINING_END: the last training symbol has passed, and the trained coefficients are kept (Table 3-6, R72), with acquisition
taps whose training the spec does not give (log 12). -/
def execColdTrainingEnd (p : Phys) (s : State) : Host.Outcome State Fault Refusal :=
  .next <| match (s.acl p).cur with
    | some b => if (s.acl p).state = .training ∧ (s.rxl p).passed (b.firstPeak + 3776) then
        s.modAcq p fun a => { a with state := .preamble, cur := some { b with acq := Config.acqTaps p.val s.now } }
      else s
    | none => s

/-- PREAMBLE_END_PASSED without an end marker: the sync search opens (R73). -/
def execPreambleEndPassed (p : Phys) (s : State) : Host.Outcome State Fault Refusal :=
  .next <| match (s.acl p).cur with
    | some b =>
      let st := (s.acl p).state
      if b.start ≠ .fallback ∧ ¬ b.endMarker ∧ (st = .preamble ∨ st = .training ∨ st = .syncWait) ∧
          (s.rxl p).passed b.preambleEnd then
        s.modAcq p fun a => { a with state := .syncWait, cur := some { b with syncOpen := true } }
      else s
    | none => s

/-- The last symbol on which the sync word may be detected: 192 symbols after a fall-back declaration, else 128 after the expected
preamble end (R66, R73). -/
def Burst.syncBy (b : Burst) : Sym := if b.start = .fallback then b.firstPeak + 192 else b.preambleEnd + 128

/-- The sync word stands within tolerance in the samples that end at a symbol the search reaches (R67, R73). -/
def RxLane.syncAt (r : RxLane) (b : Burst) (sym : Sym) : Bool :=
  r.holds sym && decide ((b.syncBy - sym).toNat < 2 ^ 47) && decide (r.syncDist b.acq sym ≤ b.params.syncTol)

/-- The deadline of the sync search has passed, and no sync word in the cycle of its last symbol prevails over it (R74). -/
def RxLane.syncLost (r : RxLane) (b : Burst) : Bool :=
  r.passed b.syncBy && !((List.range (qOf r.rate)).any fun i => r.syncAt b (b.syncBy - BitVec.ofNat 48 i))

/-- FALLBACK_QUALIFICATION_EXPIRY: 192 symbols after the declaration (R66). -/
def execFallbackQualificationExpiry (p : Phys) (s : State) : Host.Outcome State Fault Refusal :=
  .next <| match (s.acl p).cur with
    | some b => if b.start = .fallback ∧ (s.acl p).state = .syncWait ∧ (s.rxl p).syncLost b then s.endCurrent p 3 else s
    | none => s

/-- SYNC_DETECTED on symbol `sym`: the sync word within tolerance; signal strength is latched (R65, R67, R73). -/
def execSyncDetected (p : Phys) (sym : Sym) (s : State) : Host.Outcome State Fault Refusal :=
  let r := s.rxl p
  .next <| match (s.acl p).cur with
    | some b =>
      let dist := r.syncDist b.acq sym
      let strength := r.strength sym
      if (s.acl p).state = .syncWait ∧ b.syncOpen ∧ r.syncAt b sym then
        s.modAcq p fun a => { a with state := .header, cur := some { b with
          syncAt := some sym, syncDist := dist, strength := strength, established := b.established || decide (b.start = .fallback) } }
      else s
    | none => s

/-- SYNC_DEADLINE_EXPIRY (R73). -/
def execSyncDeadlineExpiry (p : Phys) (s : State) : Host.Outcome State Fault Refusal :=
  .next <| match (s.acl p).cur with
    | some b =>
      if b.start ≠ .fallback ∧ (s.acl p).state = .syncWait ∧ (s.rxl p).syncLost b then s.endCurrent p 3 else s
    | none => s

/-- Lock the portrait chosen for a replay or deferred start, or fetch it (R80, R87). -/
def State.choosePortrait (s : State) (p : Phys) (w : Work) (st : Nat) (kind : FetchKind) (resync : Bool) : State :=
  if resync ∨ (s.gallery.find w st).isNone then
    s.modCur p fun b => { b with inUse := 16383, inheritedUse := false }
  else
    match s.hotOf p w st with
    | some e =>
      (s.modCur p fun b => { b with inUse := st, inheritedUse := e.portrait.inherited }).modAcq p fun a =>
        a.hotUse w st fun e => { e with target := true }
    | none =>
      let s := (s.modCur p fun b => { b with inUse := st, cacheMiss := true }).countBurst w 20
      s.requestFetch { kind := kind, phys := p, work := w, station := st }

/-- The portrait decision (Table 3-8). -/
def State.decidePortrait (s : State) (p : Phys) (w : Work) (b : Burst) : State :=
  let st := burstSender b
  let live (s : State) : State :=
    let lag := (s.acl p).lagFor 0 b.firstPay
    if 3840 < lag then (s.modCur p fun b => { b with overrun := true, lag := lag }).endCurrent p 9
    else ((s.modCur p fun b => { b with run := .live, lag := lag }).addJob p b).startDelin p
  if b.start = .cold then live s
  else if b.slotted then
    if st = b.predicted ∧ ¬ burstResync b then live s
    else
      let s := if b.predicted ≠ 16383 ∧ st ≠ b.predicted then
          (s.countBurst w 19).raiseP .burstMispredict p 0 st b.predicted else s
      let s := s.captureAbort p .abortedReplay
      (s.modCur p fun b => { b with run := .replay, waiting := true }).choosePortrait p w st .replay (burstResync b)
        |>.settleReplaying p
  else
    (s.modCur p fun b => { b with run := .deferred, waiting := true }).choosePortrait p w st .traffic (burstResync b)
      |>.settleReplaying p

/-- HEADER_DECODED: the 128 header decisions after the sync word (R58–R63, R80, R86). DESIGN CHOICE (log 111): a valid header that is
both misdirected and of a reserved FORMAT ends MISDIRECTED. -/
def execHeaderDecoded (p : Phys) (word : BitVec 128) (s : State) : Host.Outcome State Fault Refusal :=
  .next <| match s.burstWork p, (s.acl p).cur with
    | some w, some b =>
      if (s.acl p).state ≠ .header then s
      else match bchDecode word with
        | none => s.endCurrent p 4
        | some (h, corr) =>
          if infoCrc h ≠ h.setWidth 8 ∨ bitsOf h.toNat 63 50 = 16383 then s.endCurrent p 4
          else
            let st := bitsOf h.toNat 63 50
            let s := s.modPortrait w st 2 2 fun q => { q with lastHeard := s.now }
            let b := { b with header := some h, hdrCorr := corr, headerTime := s.now,
                              hadPortrait := (s.gallery.find w st).isSome }
            let s := s.modCur p fun _ => b
            let me := (s.wk w).station
            if me = 16383 ∨ bitsOf h.toNat 49 36 ≠ me then s.endCurrent p 5
            else if bitsOf h.toNat 15 12 ≠ 0 then s.endCurrent p 6
            else
              let n := burstCw b
              let b := { b with accepted := true, payEnd := b.syncAt.getD 0 + 128 + BitVec.ofNat 48 (payloadSymbols n) }
              let s := s.modCur p fun _ => b
              if n = 0 then
                s.modAcq p fun a => { a with state := .close, cur := some { b with run := .live } }
              else (s.modAcq p fun a => { a with state := .payload }).decidePortrait p w b
    | _, _ => s

/-- The coefficients of a replay or deferred start come into force: in the active palette, or beside it where a later burst has
loaded the palette (R81). -/
def State.replayCoeffs (s : State) (p : Phys) (b : Burst) (c : Coeffs) : State :=
  if b.coeffs.isSome then s.modAcq p fun a => a.mapBursts b.same fun x => { x with coeffs := some c }
  else s.modActive p fun _ => c

/-- REPLAY_START of the oldest burst that waits for its portrait: the chosen portrait's coefficients are loaded and processing begins
at the first payload sample (R81, R82). A replay takes the ring from a capture armed since the decision (R51). `bad` is a disturbance of
a word of its hot-cache entry, `ring` one of a word of the flipbook. -/
def execReplayStart (p : Phys) (bad ring : Option (Nat × BitVec 42)) (s : State) : Host.Outcome State Fault Refusal :=
  .next <| match s.workOf p, (s.acl p).bursts.find? (·.waiting) with
    | some w, some b =>
      let q : Option Portrait :=
        if b.inUse = 16383 then some (s.wk w).burst.base else (s.hotOf p w b.inUse).map (·.portrait)
      match q with
      | none => s
      | some q =>
        let r := if b.inUse ≠ 16383 then s.hotRead p w b.inUse bad else (none, s)
        let s := r.2
        if b.inUse ≠ 16383 ∧ r.1.isNone then
          s.requestFetch
            { kind := if b.run = .replay then .replay else .traffic, phys := p, work := w, station := b.inUse }
        else
          let lag := (s.acl p).lagFor ((s.rxl p).symCount - b.firstPay).toNat b.firstPay
          let b' := { b with waiting := false, lag := lag, inheritedUse := q.inherited, overrun := decide (3840 < lag) }
          let s := s.modAcq p fun a => (a.mapBursts b.same fun _ => b').spreadLag b'
          let s :=
            if 3840 < lag then s.endBurst p w b' 9
            else
              let s := if b.run = .replay then s.captureAbort p .abortedReplay else s
              let s := match ring with
                | some x => s.disturb (arrFlipbook p) (x.1 % 1024) x.2
                | none => s
              ((s.replayCoeffs p b q.coeffs).addJob p b').startDelin p
          s.each ((s.acl p).bursts.filter fun c => c.overrun && !c.same b') fun c s => s.endBurst p w c 9
    | _, _ => s

/-- A fetched portrait enters the hot cache under the lock its request asks for (R87): a prefetch locks only while the lane is in
SLOTTED. An entry that has come there meanwhile keeps its newer copy and its marks. -/
def State.fetched (s : State) (f : Fetch) (q : Portrait) : State :=
  let wanted : Bool := (s.acl f.phys).bursts.any fun b => b.waiting && decide (b.inUse = f.station)
  let ahead := f.ahead && decide (s.modeOf f.phys = .slotted)
  let lock (e : HotEntry) : HotEntry := { e with prefetch := e.prefetch || ahead, target := e.target || (!f.ahead && wanted) }
  if (s.hotOf f.phys f.work f.station).isSome then s.modAcq f.phys fun a => a.hotUse f.work f.station lock
  else s.hotStore f.phys (lock { work := f.work, station := f.station, portrait := q })

/-- PORTRAIT.READ response (Table 13-6). -/
def State.readReply (s : State) (w : Work) (idx : Nat) (q : Portrait) : Bytes :=
  let h : Option HotEntry := match s.physOf w with
    | some p => s.hotOf p w q.station
    | none => none
  let lk := match h with | some e => e.locked | none => false
  leBytes 2 idx ++ leBytes 1 (packBits [(1, h.isSome.toNat), (1, lk.toNat), (6, 0)]) ++ zeros 1 ++ q.bytes

/-- The physical lane of a working lane is under self-test (R385). -/
def State.workTested (s : State) (w : Work) : Bool :=
  match s.physOf w with
  | some p => (s.ln p).selftest
  | none => false

/-- Bursts that wait for a portrait that is not to be had use the base portrait (R87). -/
def State.waitBase (s : State) (p : Phys) (st : Nat) : State :=
  s.modAcq p fun a => a.mapBursts (fun b => b.waiting && decide (b.inUse = st)) fun b => { b with inUse := 16383 }

/-- GALLERY_FETCH_DONE: the i-th fetch in service completes; `bad` is a disturbance of a word of the portrait (R87). -/
def execGalleryFetchDone (i : Nat) (bad : Option (Nat × BitVec 42)) (s : State) : Host.Outcome State Fault Refusal :=
  .next <| match s.gallery.inService[i]? with
    | none => s
    | some f =>
      let s := s.modGallery fun g => { g with inService := g.inService.eraseIdx i }
      match s.gallery.find f.work f.station with
      | none =>
        let s := s.waitBase f.phys f.station
        (match f.sess with | some k => s.answer k 0x0503 .badState 0 [] | none => s)
      | some e =>
        let r := s.unitRead arrGallery (galleryWord e.1) 96 bad
        let s := r.2
        if r.1 ≠ [] then
          let s := s.evict f.work e.1 f.station 1
          let s := s.waitBase f.phys f.station
          (match f.sess with | some k => s.answer k 0x0503 .memError (arrId arrGallery) [] | none => s)
        else match f.sess with
          | some k =>
            if s.workTested f.work then s.answer k 0x0503 .stale s.testRemaining (s.readReply f.work e.1 e.2)
            else s.answer k 0x0503 .ok 0 (s.readReply f.work e.1 e.2)
          | none => s.fetched f e.2

/-- GALLERY_FETCH_SERVICE: a place frees for the first waiting fetch in the order traffic, replay, read (R87). -/
def execGalleryFetchService (s : State) : Host.Outcome State Fault Refusal :=
  .next <| s.modGallery fun g =>
    if 16 ≤ g.inService.length then g
    else
      let pick (k : FetchKind) : Option Nat := g.waiting.findIdx? fun f => decide (f.kind = k)
      match (pick .traffic).orElse (fun _ => (pick .replay).orElse fun _ => pick .read) with
      | some i => match g.waiting[i]? with
        | some f => { g with inService := g.inService ++ [f], waiting := g.waiting.eraseIdx i }
        | none => g
      | none => g

/-- The station a schedule predicts in a slot, 16,383 for none. -/
def Schedule.predicts (c : Schedule) (k : Nat) : Nat :=
  if k < c.slots ∧ entryRxEn (c.entry k) then entrySender (c.entry k) else 16383

/-- The schedule in force in the next epoch: the shadow when it is armed for it. -/
def State.nextSchedule (s : State) (w : Work) : Schedule :=
  let t := (s.wk w).tx
  match t.armed with
  | some (e, _) => if e = s.epoch.epoch + 1 then t.shadow else t.active
  | none => t.active

/-- Start of a receive slot in the epoch, in full-rate symbol periods (R144). -/
def Schedule.rxSlot (c : Schedule) (rate k : Nat) : Nat := (c.rxDelay + k * c.slotLen) * 2 ^ rate

/-- Where the receive window of a slot opens and closes: the expected first peak, 64 symbols after the expected preamble start, less
and plus the tolerance (R75). -/
def State.rxWindowAt (s : State) (p : Phys) (w : Work) (k : Nat) : Nat × Nat :=
  let c := (s.wk w).tx.active
  let peak := c.rxDelay + k * c.slotLen + c.preOffset + 64
  let tol := (s.wk w).burst.params.winTol
  ((peak - tol) * 2 ^ (s.rxl p).rate, (peak + tol) * 2 ^ (s.rxl p).rate)

/-- PORTRAIT_PREFETCH at the start of a slot: the portrait predicted for the next slot is requested and locked (R87). -/
def execPortraitPrefetch (p : Phys) (slot : Nat) (s : State) : Host.Outcome State Fault Refusal :=
  .next <| match s.workOf p with
    | none => s
    | some w =>
      if s.modeOf p ≠ .slotted ∨ s.epoch.lost then s
      else
        let c := (s.wk w).tx.active
        let next := if slot + 1 < c.slots then c.predicts (slot + 1) else (s.nextSchedule w).predicts 0
        let now := c.predicts slot
        let keep (e : HotEntry) : HotEntry :=
          { e with prefetch := decide (e.work = w) && (decide (e.station = next) || (e.prefetch && decide (e.station = now))) }
        let s := s.modAcq p fun a => { a with hot := a.hot.map keep }
        let s := s.hotSettle p
        if next = 16383 ∨ (s.gallery.find w next).isNone ∨ (s.hotOf p w next).isSome then s
        else s.requestFetch { kind := .traffic, phys := p, work := w, station := next, ahead := true }

/-- PREDICTED_ANALOGUE_LOAD, 64 symbols before the receive window of a slot (R70). -/
def execPredictedAnalogueLoad (p : Phys) (slot : Nat) (s : State) : Host.Outcome State Fault Refusal :=
  .next <| match s.workOf p with
    | none => s
    | some w =>
      if s.modeOf p ≠ .slotted ∨ s.epoch.lost ∨ (s.acl p).cur.isSome then s
      else
        let x := s.startPortrait p w ((s.wk w).tx.active.predicts slot)
        x.2.modRx p fun r => { r with vga := x.1.vga, deskew := x.1.deskew }

/-- RX_WINDOW_OPEN of a slot whose entry expects a burst, in the cycle in which the window opens (R75). In a flywheel epoch a window
that opened before the decision opens at the decision, unless it has closed (R141). -/
def execRxWindowOpen (p : Phys) (slot : Nat) (s : State) : Host.Outcome State Fault Refusal :=
  .next <| match s.workOf p with
    | none => s
    | some w =>
      let c := (s.wk w).tx.active
      let x := s.rxWindowAt p w slot
      let late := s.epoch.flywheel && decide (x.1 ≤ s.epoch.fsTol ∧ s.epochSymbols ≤ x.2)
      if s.modeOf p = .slotted ∧ ¬ s.epoch.lost ∧ slot < c.slots ∧ entryRxEn (c.entry slot) ∧ (s.epochAt x.1 ∨ late) then
        s.modAcq p fun a => { a with rxWindow := some { slot := slot, predicted := c.predicts slot } }
      else s

/-- RX_WINDOW_CLOSE: the open window's last symbol has come (R75). -/
def execRxWindowClose (p : Phys) (s : State) : Host.Outcome State Fault Refusal :=
  .next <| match s.workOf p, (s.acl p).rxWindow with
    | some w, some x =>
      if (s.rxWindowAt p w x.slot).2 < s.epochSymbols + 512 then s.modAcq p fun a => { a with rxWindow := none } else s
    | _, _ => s.modAcq p fun a => { a with rxWindow := none }

/-- PAYLOAD_END: the last payload symbol computed from CW_COUNT has been recorded (Table 3-6). -/
def execPayloadEnd (p : Phys) (sym : Sym) (s : State) : Host.Outcome State Fault Refusal :=
  .next <| match (s.acl p).cur with
    | some b => if (s.acl p).state = .payload ∧ sym = b.payEnd ∧ (s.rxl p).passed sym then s.modAcq p fun a => { a with state := .close } else s
    | none => s

/-- POSTAMBLE_CHECK, once the 36 symbols after the payload are recorded: found with at least 28 matches within 4 symbols of its place,
or missed; acquisition is re-armed while decoding goes on (R66, R68). The lag of a probe burst is that of no payload (R82). -/
def execPostambleCheck (p : Phys) (s : State) : Host.Outcome State Fault Refusal :=
  .next <| match (s.acl p).cur with
    | some b =>
      if (s.acl p).state ≠ .close ∨ ¬ (s.rxl p).passed (b.payEnd + 36) then s
      else
        let found := (s.rxl p).postambleAt b.acq b.payEnd
        let probe := decide (burstCw b = 0)
        (s.modAcq p fun a => { a with
          decoding := a.decoding ++ [{ b with postamble := some found }]
          lag := if probe then a.lag else b.lag
          lastEnd := if probe then a.lastEnd else b.payEnd
          detArmed := true }).toArmed p
    | none => s

/-- BURST_OUTCOME: the last codeword of the oldest burst has decoded and its frames have been checked; `snr` and `eyeMin` were measured
over its payload (R89, R90, Table 3-9), and `bad` is a disturbance of a word of the hot copy that a commit meets. DESIGN CHOICE (log
111): a failed cold burst from a sender with no portrait ends NO_PORTRAIT, though neither code 2 nor code 8 describes it. -/
def execBurstOutcome (p : Phys) (snr eyeMin : BitVec 16) (bad : Option (Nat × BitVec 42)) (s : State) : Host.Outcome State Fault Refusal :=
  .next <| match s.workOf p, (s.acl p).decoding with
    | some w, b :: rest =>
      let n := burstCw b
      if b.cwDone < n ∨ b.waiting ∨ s.framesLeft p b then s
      else
        let b := { b with snr := snr, eyeMin := eyeMin }
        let s := s.modAcq p fun a => { a with decoding := rest }
        let s :=
          if 0 < b.cwFailed then
            let base := if b.start = .cold then !b.hadPortrait else decide (b.inUse = 16383)
            let r := s.failPortrait w b
            let s := r.2.reportBurst p w b (if base then 8 else 2) false
            if base ∨ r.1 then s.reportSender w b 8 else s
          else
            let good := decide (b.postamble = some true) &&
              (if n = 0 then decide (b.hdrCorr ≤ 2) else decide (b.rsCorrected ≤ b.params.commitLimit * n))
            if good then
              let s := s.modRx p fun r => { r with committed :=
                { freqOffset := b.freqOffset, timingPhase := b.timingPhase, dgain := b.dgain, snr := snr, eyeMin := eyeMin } }
              let r := (s.modLane p fun l => { l with graceful := false }).commit p w b bad
              r.2.reportBurst p w b 0 r.1
            else (s.setFails w (burstSender b) 0).reportBurst p w b 1 false
        ((s.settleReplaying p).startDelin p).settleReset p
    | _, _ => s

/-- PORTRAIT_WRITEBACK: a committed portrait reaches the gallery and its hot-cache entry unlocks (R89, R85). -/
def execPortraitWriteback (p : Phys) (s : State) : Host.Outcome State Fault Refusal :=
  .next <| match (s.acl p).hot.find? (·.writeback) with
    | none => s
    | some e =>
      let s := s.writeBack e
      let done (x : HotEntry) : HotEntry := if x.isFor e.work e.station then { x with writeback := false } else x
      (s.modAcq p fun a => { a with hot := a.hot.map done }).hotSettle p

/-- EVENT_HOLDOFF_EXPIRY of an event kind and source (R93). -/
def execEventHoldoffExpiry (e : Ev) (source : BitVec 16) (s : State) : Host.Outcome State Fault Refusal :=
  .next <| match s.ctl.ev.holdoffs.find? (fun h => decide (h.ev = e ∧ h.source = source)) with
    | none => s
    | some h =>
      let others := s.ctl.ev.holdoffs.filter fun h => decide (¬ (h.ev = e ∧ h.source = source))
      if h.count = 0 then s.modCtl fun c => { c with ev := { c.ev with holdoffs := others } }
      else
        let again : Holdoff := { ev := e, source := source, count := 0, code := 0, arg1 := 0, arg2 := 0 }
        (s.modCtl fun c => { c with ev := { c.ev with holdoffs := others ++ [again] } }).raiseNow e source.toNat h.code.toNat
          h.arg1.toNat h.arg2.toNat h.count

/-! Commands. -/

/-- A burst is in progress on the lane that carries a working lane. -/
def State.burstRuns (s : State) (w : Work) : Bool :=
  match s.physOf w with
  | some p => (s.acl p).cur.isSome || decide ((s.acl p).decoding ≠ [])
  | none => false

/-- LANE.SET_BURST (R69): in force from the next burst start. -/
def execLaneSetBurst (k : Sess) (s : State) : Host.Outcome State Fault Refusal :=
  .next <| s.runCmd 0x0320 k fun a s =>
    s.forAllSel (decide (byteAt a 0 = 255)) (selAll 128 (byteAt a 0))
      (fun w => if s.workTested w then some s.busyTest else none)
      (fun w s => s.modBurst w fun b => { b with
        holdoff := if s.burstRuns w then b.holdoff else fieldLE a 12 2
        params :=
        { tw := byteAt a 1, tc := byteAt a 2, powerThresh := byteAt a 3, syncTol := byteAt a 4, capture := byteAt a 5,
          winTol := fieldLE a 6 2, burstK := byteAt a 8, coldK := byteAt a 9, commitLimit := byteAt a 10,
          failLimit := byteAt a 11, holdoff := fieldLE a 12 2 } })

/-- Read the burst log; a record with a word in error reads as zero (Table 11-3). `bad` is a disturbance of a word of a record: the
record, the word and the bits. -/
def State.readLog (s : State) (w : Work) (bad : Option (Nat × Nat × BitVec 42)) : List Bytes × State :=
  let u := (s.wk w).burst
  u.log.zipIdx.foldl (fun acc x =>
    let n := u.logged - u.log.length + x.2
    let r := acc.2.unitRead arrFabric (logWord w (n % 64)) 8 ((bad.filter fun y => decide (y.1 = x.2)).map (·.2))
    (acc.1 ++ [if r.1 = [] then x.1 else zeros 32], r.2)) ([], s)

/-- LANE.GET_BURST_LOG (R91). -/
def execLaneGetBurstLog (k : Sess) (bad : Option (Nat × Nat × BitVec 42)) (s : State) : Host.Outcome State Fault Refusal :=
  .next <| s.runCmd 0x0321 k fun a s =>
    let w : Work := finOf 128 (byteAt a 0)
    let r := s.readLog w bad
    (s.statusReply (s.workTested w) (pageN [] 32 (byteAt a 1) (byteAt a 2) r.1), r.2)

/-- LANE.GET_BURST_COUNTERS (R92, R383). -/
def execLaneGetBurstCounters (k : Sess) (s : State) : Host.Outcome State Fault Refusal :=
  .next <| s.runCmd 0x0322 k fun a s =>
    let w : Work := finOf 128 (byteAt a 0)
    (s.statusReply (s.workTested w) ((s.wk w).burst.counters.toList.flatMap fun n => leBytes 4 n),
      if bitOf (byteAt a 1) 0 then s.modBurst w fun b => { b with counters := Vector.replicate 32 0 } else s)

/-- PORTRAIT.SET_QUOTA (R85). -/
def execPortraitSetQuota (k : Sess) (s : State) : Host.Outcome State Fault Refusal :=
  .next <| s.runCmd 0x0501 k fun a s =>
    let w : Work := finOf 128 (byteAt a 0)
    let q := fieldLE a 2 2
    let mine := s.gallery.ofLane w
    let others := ((workAll.filter (· ≠ w)).map fun x => (s.wk x).burst.quota).sum
    s.guarded
      [(s.workTested w, s.busyTest), (decide (q < (mine.filter (·.2.isProtected)).length), refuse .badState),
        (decide (16384 < others + q), refuse .noResource)]
      fun s =>
        let s := s.modBurst w fun b => { b with quota := q }
        let surplus := (byLastHeard (mine.filter fun e => !e.2.isProtected)).take (mine.length - q)
        (replyOk, s.each surplus fun e s =>
          if s.portraitLocked w e.2.station then
            (match s.physOf w with
             | some p =>
               let late (x : HotEntry) : HotEntry := if x.isFor w e.2.station then { x with evictLater := true } else x
               s.modAcq p fun a => { a with hot := a.hot.map late }
             | none => s)
          else s.evict w e.1 e.2.station 4)

/-- PORTRAIT.SET_BASE (R393): channel fields only. -/
def execPortraitSetBase (k : Sess) (s : State) : Host.Outcome State Fault Refusal :=
  .next <| s.runCmd 0x0502 k fun a s =>
    let w : Work := finOf 128 (byteAt a 0)
    let b := a.drop 4
    if s.workTested w then (s.busyTest, s)
    else match portraitFault b with
      | some o => (badArg (4 + o), s)
      | none =>
        let s := s.modBurst w fun u => { u with base := { u.base.withChannel b with valid := true } }
        (replyOk, match s.physOf w with | some p => s.holdBase p w | none => s)

/-- PORTRAIT.READ: the base portrait at once, the gallery copy by a fetch (R87, R88). -/
def execPortraitRead (k : Sess) (s : State) : Host.Outcome State Fault Refusal :=
  .next <| s.runCmd 0x0503 k fun a s =>
    let w : Work := finOf 128 (byteAt a 0)
    let st := fieldLE a 2 2
    if st = 16383 then (s.statusReply (s.workTested w) (s.readReply w 0xFFFF (s.wk w).burst.base), s)
    else match s.gallery.find w st with
      | none => (refuse .badState, s)
      | some _ => (.later, s.requestFetch { kind := .read, phys := (s.physOf w).getD (homeOf w), work := w, station := st,
                                            sess := some k })

/-- PORTRAIT.WRITE (R86, R88, R393). -/
def execPortraitWrite (k : Sess) (s : State) : Host.Outcome State Fault Refusal :=
  .next <| s.runCmd 0x0504 k fun a s =>
    let w : Work := finOf 128 (byteAt a 0)
    let st := fieldLE a 2 2
    let b := a.drop 4
    if s.workTested w then (s.busyTest, s)
    else if s.portraitLocked w st then (refuse .busy, s)
    else match s.gallery.find w st with
      | some e =>
        (match portraitFault b with
         | some o => (badArg (4 + o), s)
         | none => (replyOk (leBytes 2 e.1), s.modPortrait w st 0 96 fun q =>
             { q.withChannel b with valid := true, fails := 0, coldLearned := false, inherited := false }))
      | none =>
        match s.takeEntry w with
        | none => (refuse .noResource, s)
        | some (i, t) =>
          match portraitFault b with
          | some o => (badArg (4 + o), s)
          | none =>
            let blank := Portrait.empty w.val
            let q := { blank.withChannel b with station := st, valid := true, lastHeard := s.now, created := s.now }
            (replyOk (leBytes 2 i),
              (((t.galleryPut i q 0 96).unitWrite arrFabric (directoryWord i) 1).countBurst w 23).raiseW .portraitNew w 0 st i)

/-- PORTRAIT.EVICT (R88). -/
def execPortraitEvict (k : Sess) (s : State) : Host.Outcome State Fault Refusal :=
  .next <| s.runCmd 0x0505 k fun a s =>
    let w : Work := finOf 128 (byteAt a 0)
    let st := fieldLE a 2 2
    if s.workTested w then (s.busyTest, s)
    else if s.portraitLocked w st then (refuse .busy, s)
    else match s.gallery.find w st with
      | some e => (replyOk, s.evict w e.1 st 3)
      | none => (refuse .badState, s)

/-- PORTRAIT.PROTECT: a partial write, which an uncorrectable word refuses (R336). -/
def execPortraitProtect (k : Sess) (s : State) : Host.Outcome State Fault Refusal :=
  .next <| s.runCmd 0x0506 k fun a s =>
    let w : Work := finOf 128 (byteAt a 0)
    let st := fieldLE a 2 2
    if s.workTested w then (s.busyTest, s)
    else match s.gallery.find w st with
      | some _ =>
        let r := s.markPortrait w st 0 fun q => { q with isProtected := decide (byteAt a 1 = 1) }
        (if r.1 then replyOk else refuse .memError (arrId arrGallery), r.2)
      | none => (refuse .badState, s)

/-- An entry of PORTRAIT.LIST's answer. -/
def State.listEntry (s : State) (w : Work) (e : Nat × Portrait) : Bytes :=
  let hot : Bool := match s.physOf w with
    | some p => (s.hotOf p w e.2.station).isSome
    | none => false
  leBytes 2 e.2.station ++ leBytes 2 e.1 ++
    leBytes 1 (packBits [(1, e.2.isProtected.toNat), (1, e.2.inherited.toNat), (1, hot.toNat), (5, 0)]) ++
    leBytes 1 e.2.fails ++ zeros 2 ++ leBytes 8 e.2.lastHeard.toNat

/-- PORTRAIT.LIST, in gallery-index order. An uncorrectable directory word removes its portrait (Table 11-3); `bad` is a disturbance of
that of the i-th portrait. -/
def execPortraitList (k : Sess) (bad : Option (Nat × BitVec 42)) (s : State) : Host.Outcome State Fault Refusal :=
  .next <| s.runCmd 0x0507 k fun a s =>
    let w : Work := finOf 128 (byteAt a 0)
    let s := s.each (s.gallery.ofLane w).zipIdx fun x s =>
      let r := s.unitRead arrFabric (directoryWord x.1.1) 1 ((bad.filter fun y => decide (y.1 = x.2)).map fun y => (0, y.2))
      if r.1 = [] then r.2 else r.2.evict w x.1.1 x.1.2.station 1
    (s.statusReply (s.workTested w) (page [] 16 (fieldLE a 2 2) ((s.gallery.ofLane w).map (s.listEntry w))), s)

end Sys2Proof.Machine
end

