-- ==== Sys2Proof/Machine/AvsOps.lean ====
section
/-!
DEFINITION. Shared operations of the AVSBus master (R326, R327).
-/
namespace Sys2Proof.Machine

/-- A target clamped to 0.65–0.85 V in 5-mV steps. -/
def avsClamp (mv : Nat) : Nat := min 850 (max 650 ((mv + 4) / 5 * 5))

/-- Make a request, or queue it: only the latest queued request is kept, and a queued wake request stays (R327). -/
def AvsUnit.request (u : AvsUnit) (src : AvsSource) (mv : Nat) : AvsUnit :=
  let r : AvsReq := { source := src, target := avsClamp mv }
  match u.openReq with
  | none => { u with openReq := some r }
  | some _ =>
    let wakeQueued : Bool := match u.queued with
      | some q => decide (q.source = .wake)
      | none => false
    if wakeQueued ∧ src ≠ .wake then u else { u with queued := some r }

/-- The open request is done: the queued one is served. -/
def AvsUnit.close (u : AvsUnit) : AvsUnit := { u with openReq := u.queued, queued := none }

/-- A plan's request that the regulator refused or did not acknowledge leaves the voltage unchanged (R288). -/
def State.avsFailed (s : State) (r : AvsReq) : State :=
  let s := s.modAvs (·.close)
  if r.source = .plan then (s.modAge fun g => { g with avsFail := true }).raise .ageAvsFail else s

end Sys2Proof.Machine
end

