-- ==== Sys2Proof/Machine/CalOps.lean ====
section
/-!
DEFINITION. Shared operations of calibration runs (R282–R284) and of used temperatures (R269).
-/
namespace Sys2Proof.Machine

/-- The quad sensor of a physical lane (R265). -/
def quadSensor (p : Phys) : Sensor := finOf 72 (p.val / 4)

/-- Every sample counts toward the estimator's window in the lane's mode and receive state (R36); in SLOTTED and OPEN none does but
the payload's. DESIGN CHOICE (log 111): a training pattern is being received while the lane's own transmitter sends one, and in SPARE,
which R36 does not name, no sample counts. -/
def State.samplesCount (s : State) (p : Phys) : Bool :=
  let r := s.rxl p
  !r.los && match s.modeOf p with
    | .steady => decide (r.state = .locked)
    | .transparent => decide (r.state = .locked)
    | .loop => decide (r.state = .locked)
    | .tune => s.wantsSignal p
    | _ => false

/-- Queue a trigger behind its own class: automatic triggers stand before command runs (R284). -/
def CalUnit.enqueue (u : CalUnit) (x : CalWait) : CalUnit :=
  { u with queue := if x.command then u.queue ++ [x]
    else (u.queue.filter fun y => !y.command) ++ [x] ++ u.queue.filter (·.command) }

/-- A trigger for a lane (R284): one that runs or waits already gets no second run; a command run raises the remaining
iterations of a running lane. -/
def State.calTrigger (s : State) (p : Phys) (command : Bool) (iters : Nat) : State :=
  match (s.cal.lane[p.val]).state with
  | .running => if command then s.modCalLane p fun c => { c with remaining := max c.remaining iters } else s
  | .queued => s
  | .idle =>
    (s.modCal fun u => u.enqueue { lane := p, command := command, iters := iters }).modCalLane p fun c => { c with
      state := .queued, remaining := iters }

/-- End a run (Table 9-10): 1 COMPLETED, which sets the reference temperature, or 2 STALLED. -/
def State.calFinish (s : State) (p : Phys) (completed : Bool) : State :=
  let used := (s.sensor (quadSensor p)).used
  (s.modCalLane p fun c => { c with
    state := .idle, remaining := 0, rejected := 0, lastStaged := false,
    outcome := if completed then .completed else .stalled,
    ref := if completed then some used else c.ref,
    dueRaised := if completed then false else c.dueRaised,
      doneAt := if completed then some s.now else c.doneAt }).raise .calRunDone p.val (if completed then 1 else 2)

/-- A set has been applied: the run whose last set it is has completed. -/
def State.calApplied (s : State) (p : Phys) : State :=
  let c := s.cal.lane[p.val]
  if c.state = .running ∧ c.lastStaged ∧ c.remaining = 0 then s.calFinish p true else s

end Sys2Proof.Machine
end

