-- ==== Sys2Proof/Machine/TestOps.lean ====
section
/-!
DEFINITION. Shared operations of the self-test (R414–R421): units, pattern counts, the result record, checks that start and
end, and the end of a test.
-/
namespace Sys2Proof.Machine

/-! Bias outputs of a tested lane (Table 14-7). -/

/-- Take an output to the OFF range at its ball, under R237. -/
def State.openBall (s : State) (o : Bias) : State :=
  if (s.bias o).rangeAtEnd = 0 then s else (s.zeroBias o).moveRange o { target := 0, sess := none }

/-- Return an output to its range under R237 and then, through the deglitcher, to its code (R416). -/
def State.closeBall (s : State) (o : Bias) (range code : Nat) : State :=
  if range = 0 then s else s.moveRange o { target := range, sess := none, code := some code }

/-- The outputs of a test's lanes, with the ranges and codes held before the test. -/
def TestRun.outputs (t : TestRun) : List (Bias × Nat × Nat) := t.held.map fun e => (finOf 544 e.1, e.2.1, e.2.2)

/-! Units and counts. -/

/-- Tested physical lanes of a record. -/
def TestRecord.physLanes (r : TestRecord) : List Phys :=
  if 8 ≤ r.scope then [] else (lanesOfBank r.scope).filter fun p => r.lanes.getLsbD (p.val % 17)

/-- Host groups whose lane 16 a record includes. -/
def TestRecord.groupList (r : TestRecord) : List Group :=
  if 8 ≤ r.scope then [] else ((List.range 4).filter fun j => r.groups.getLsbD j).map fun j => finOf 32 (4 * r.scope + j)

/-- Set bits of a mask. -/
def countBits {w : Nat} (b : BitVec w) : Nat := ((List.range w).filter fun i => b.getLsbD i).length

/-- Patterns of a check with the units of a test (Table 14-6, R421). -/
def checkPatterns (r : TestRecord) (check : Nat) : Nat :=
  if r.scope = 255 then (if check = 0 then 10 * ((List.finRange 692).map arrWords).sum else 0)
  else match check with
    | 0 => 12288 * countBits r.lanes
    | 1 => 512 * countBits r.lanes
    | 2 => 64 * countBits r.lanes
    | _ => 1024 * countBits r.groups

/-- Units of a check. -/
def checkUnits (r : TestRecord) (check : Nat) : Nat :=
  if r.scope = 255 then (if check = 0 then 692 else 192)
  else if check = 3 then countBits r.groups else countBits r.lanes

/-- Duration of a check in µs: for the memory and logic test, the limits of R421. -/
def checkTime (memory : Bool) (check : Nat) : Nat :=
  if memory then (if check = 0 then 1500000 else 800000)
  else match check with
    | 0 => 2000
    | 1 => 1000
    | 2 => 2000
    | _ => 1000

/-- Index of a scope in the flash region: banks 0–7, then memory and logic. -/
def scopeSlot (scope : Nat) : Nat := if 8 ≤ scope then 8 else scope

/-- Bytes of a list of signatures, in the order given. -/
def sigBytes (l : List (BitVec 64)) : Bytes := l.flatMap fun x => leBytes 8 x.toNat

/-- First eight bytes of SHAKE256 over per-check signatures (R415). -/
def testSignature (l : List (BitVec 64)) : Bytes := padTo 8 (Config.shake256 8 (sigBytes l))

/-- Result record (Table 14-9). -/
def TestRecord.bytes (r : TestRecord) : Bytes :=
  leBytes 1 1 ++ leBytes 1 r.scope ++ leBytes 1 r.outcome ++ leBytes 1 r.method ++ leBytes 1 r.checks.toNat ++
  leBytes 1 r.checksDone.toNat ++ leBytes 1 r.checksFailed.toNat ++ leBytes 1 r.endCause ++ leBytes 8 r.startTime.toNat ++
  leBytes 8 r.endTime.toNat ++ leBytes 1 r.lifecycle ++ zeros 1 ++ leBytes 3 r.lanes.toNat ++ leBytes 1 r.groups.toNat ++
  zeros 2 ++ leBytes 4 r.patterns ++ leBytes 4 r.expected ++ padTo 8 r.signature ++ padTo 8 r.expectedSig ++
  leBytes 4 r.failed.toNat ++ leBytes 4 r.runNum

/-- Write a record to its scope's region: a new run's, or the running one's in its place (R420). -/
def State.writeTest (s : State) (r : TestRecord) (new : Bool) : State :=
  s.modFlash fun f =>
    let l := f.tests.toList.getD (scopeSlot r.scope) []
    { f with tests := f.tests.setIfInBounds (scopeSlot r.scope) ((r :: if new then l else l.drop 1).take 8) }

/-! Checks. -/

/-- Check 2's conversions wait in the ad-hoc place of the bank's monitor unit, 16 for each tested output (R415). -/
def State.testConversions (s : State) (t : TestRun) : State :=
  let u : Mon := finOf 8 t.record.scope
  let l := t.outputs.flatMap fun o => List.replicate 16 ({ sess := none, chan := 0x200 + o.1.val, gain := 0, test := true } : Adhoc)
  (s.modMon u fun m => { m with adhoc := m.adhoc ++ l }).schedule u

/-- The conversions of check 2 that have not started are dropped when the check ends. -/
def State.dropConversions (s : State) (t : TestRun) : State :=
  s.modMon (finOf 8 t.record.scope) fun m => { m with
    adhoc := (if m.busy = some .adhoc then m.adhoc.take 1 else []) ++
      ((if m.busy = some .adhoc then m.adhoc.drop 1 else m.adhoc).filter fun x => !x.test) }

/-- A check starts: check 2 opens the balls (Table 14-7) and converts, check 3 takes lane 16 of its groups. -/
def State.startCheck (s : State) (t : TestRun) (check : Nat) : State :=
  if t.record.scope = 255 then s
  else if check = 2 then
    (if t.record.method = 0 then s.each t.outputs fun o s => s.openBall o.1 else s).testConversions t
  else if check = 3 then s.each t.record.groupList fun g s => s.modGroup g fun h => { h with selftest := true }
  else s

/-- A check ends: its balls close, its groups return to idle spare content. -/
def State.endCheck (s : State) (t : TestRun) (check : Nat) : State :=
  if t.record.scope = 255 then s
  else if check = 2 then
    let s := s.dropConversions t
    if t.record.method = 0 then s.each t.outputs fun o s => s.closeBall o.1 o.2.1 o.2.2 else s
  else if check = 3 then s.each t.record.groupList fun g s => s.modGroup g fun h => { h with selftest := false }
  else s

/-! End of a test (R418, R419, Table 14-7). -/

/-- Lane configuration, palettes, corrections and bias outputs take their PORST_N values, and the loops stop. -/
def State.isolateEnd (s : State) (p : Phys) : State :=
  let s := s.modRx p fun r => { RxLane.reset with diag := r.diag, symCount := r.symCount }
  let s := s.modTx p fun t => { TxLane.reset with
    symBase := t.symBase, symTime := t.symTime, fresh := t.fresh, fault := t.fault, faultNow := t.faultNow, faultDue := t.faultDue, diag := t.diag,
    run := t.run }
  let s := s.modLane p fun l => { l with slotValid := false, slotEmptied := false, pinned := false }
  let s := s.each [0, 1, 2, 3] fun k s => s.modBias (biasOf p k) fun b =>
    { ranging := b.ranging.map fun r => { r with target := 0, code := none } }
  s.schedule (finOf 8 (bankOfPhys p))

/-- What the arrays of a working lane held: frames, contexts, the burst log and the schedules (Table 11-1). -/
def WorkLane.arraysCleared (standard : Bool) (u : WorkLane) : WorkLane :=
  { u with images := [], txCtx := [], rxCtx := [], acks := [], burst := { u.burst with log := [] },
           tx := u.tx.blank standard }

/-- The memory and logic test clears every valid array, and refills the instruction memories from the image (R421). -/
def State.clearArrays (s : State) : State :=
  let s := s.modSys fun u => { u with mem := { u.mem with arr := u.mem.arr.map (·.clearValid) } }
  match s.sec.flash.slotHeader with
  | some h => s.loadCores h
  | none => s

/-- What the arrays of lanes and groups held is gone, and the AON save area is empty. -/
def State.emptySlots (s : State) : State :=
  let emptyLane (l : LaneUnit) : LaneUnit := { l with slotValid := false, slotEmptied := true }
  let emptyGroup (h : HostGroup) : HostGroup := { h.freshSlot with slotValid := false }
  { s with lane := s.lane.map emptyLane, group := s.group.map emptyGroup, work := s.work.map (WorkLane.arraysCleared s.standard) }

/-- After the memory and logic test, lanes and groups leave DARK and OFF with PORST_N values, and model offsets restart from their
manufacture values (R421). A lane's bias outputs take theirs at its exit from OFF. -/
def State.memoryTestEnd (s : State) : State :=
  let fresh (x : SensorUnit) : SensorUnit := { x with offsets := [0, 0, 0, 0] }
  let s := s.clearArrays.emptySlots.modGallery fun g => { g with entries := [] }
  let s := s.each physAll fun p s =>
    let s := (s.modAcq p fun a => { a with hot := [] }).modRx p fun r => { r with capture := {} }
    s.freshSlot p
  s.modTherm fun t => { t with sens := t.sens.map fresh }

/-- The outcome of a run (R419). -/
def TestRecord.result (r : TestRecord) (cause : Nat) : Nat :=
  if cause = 0 ∧ r.checksDone = r.checks ∧ r.patterns = r.expected then (if r.signature = r.expectedSig then 1 else 2) else 3

/-- Patterns of the running check that were applied before the run was cut short: an even share of its duration for each
pattern of a unit (Table 14-10). -/
def State.partialPatterns (s : State) (t : TestRun) : Nat :=
  match t.todo with
  | [] => 0
  | c :: _ =>
    let memory := decide (t.record.scope = 255)
    let before := ((List.range 8).filter fun i => t.record.checksDone.getLsbD i).map (checkTime memory)
    let start := s.cyclesNs (1000 * (before.sum + if memory then 0 else 20))
    let units := checkUnits t.record c
    let each := checkPatterns t.record c / units
    units * min each (each * (s.since t.record.startTime - start) / s.cyclesNs (1000 * checkTime memory c))

/-- End the running test for a cause of Table 14-9. -/
def State.endTest (s : State) (cause : Nat) : State :=
  match s.sec.test with
  | none => s
  | some t =>
    let s := match t.todo with
      | c :: _ => s.endCheck t c
      | [] => s
    let r : TestRecord := { t.record with
      signature := testSignature t.sigs, expectedSig := testSignature t.expSigs, endCause := cause, endTime := s.now,
      patterns := t.record.patterns + s.partialPatterns t }
    let r : TestRecord := { r with outcome := r.result cause }
    let s := if r.scope = 255 then s.memoryTestEnd
      else
        let s := s.each r.physLanes fun p s => s.modLane p fun l => { l with
          selftest := false, failed := l.failed || r.failed.getLsbD (p.val % 17) }
        if r.method = 1 then s.each r.physLanes fun p s => s.isolateEnd p
        else s.each r.physLanes fun p s => s.thawLane p .selftest
    let s := (s.writeTest r false).modSec fun u => { u with test := none }
    if cause = 0 then s.raise .testDone r.scope r.outcome else s.raise .testAborted r.scope cause

end Sys2Proof.Machine
end

