-- ==== Sys2Proof/Machine/ThermOps.lean ====
section
/-!
DEFINITION. Shared operations of temperature and power (R265–R281): neighbours, predictions, sensor states, used values, the
throttle ladder, trips and recovery, compensation trims.
-/
namespace Sys2Proof.Machine

/-! Sensors. -/

/-- Neighbours of a sensor in the order of Table 9-1. -/
def neighbours (i : Nat) : List Nat :=
  if i < 34 then (if 0 < i then [i - 1] else []) ++ (if i < 33 then [i + 1] else []) ++ [66 + i / 6]
  else if i < 66 then
    (if 34 < i then [i - 1] else []) ++ (if i < 65 then [i + 1] else []) ++ [66 + (i - 34) / 6]
  else (if 66 < i then [i - 1] else []) ++ (if i < 71 then [i + 1] else []) ++ [6 * (i - 66) + 2, 34 + 5 * (i - 66) + 2]

def ThermUnit.sensor (t : ThermUnit) (i : Nat) : SensorUnit := t.sens.toList.getD i {}

/-- Model temperatures of a sensor from the readings of its HEALTHY neighbours, in 1/65536 of 1/8 °C (R267). -/
def ThermUnit.models (t : ThermUnit) (i : Nat) : List Int :=
  ((neighbours i).zip (t.sensor i).offsets).filterMap fun x =>
    let y := t.sensor x.1
    if y.state = .healthy ∧ y.sampled then some (y.reading * 65536 + x.2) else none

/-- The prediction, rounded to 1/8 °C. -/
def meanOf (l : List Int) : Option Int := if l = [] then none else some (roundDiv l.sum (65536 * l.length))

/-- The sample differs from the prediction by more than 8 °C. -/
def disagrees (l : List Int) (v : Int) : Bool :=
  decide (l ≠ []) && decide (64 * 65536 * l.length < (v * 65536 * l.length - l.sum).natAbs)

/-- A reading outside −40 °C to +150 °C. -/
def outOfRange (v : Int) : Bool := decide (v < -320 ∨ 1200 < v)

/-- A sensor's state after a sample (Table 9-2). -/
def SensorUnit.judge (x : SensorUnit) (v : Option Int) (models : List Int) : SensorUnit :=
  match v with
  | none => { x with state := .failed, agreeRun := 0, prediction := meanOf models }
  | some v =>
    let x := { x with reading := v, sampled := true, prediction := meanOf models }
    if outOfRange v then { x with state := .failed, agreeRun := 0 }
    else if models = [] then x
    else if disagrees models v then
      match x.state with
      | .healthy => { x with state := .suspect, disagree := 1, agree := 0, agreeRun := 0 }
      | .suspect => { x with
          state := if 2 ≤ x.disagree then .failed else .suspect, disagree := x.disagree + 1, agree := 0, agreeRun := 0 }
      | .failed => { x with disagree := min 3 (x.disagree + 1), agreeRun := 0 }
    else
      let run := min 16 (x.agreeRun + 1)
      match x.state with
      | .suspect => if 16 ≤ x.agree + 1 then { x with state := .healthy, disagree := 0, agree := 0, agreeRun := run }
          else { x with disagree := 0, agree := x.agree + 1, agreeRun := run }
      | _ => { x with disagree := 0, agreeRun := run }

/-- The sensors after the samples of the first n: each is judged at its own sample, in index order, by the states and readings its
neighbours have by then. A sensor that its neighbours contradict is SUSPECT before it can contradict the later ones, as Table 9-13
shows it (DEDUCED, log 101). -/
def ThermUnit.judgeTo (t : ThermUnit) (xs : List (Option Int)) (n : Nat) : ThermUnit :=
  (List.range n).foldl (fun t i =>
    { t with sens := t.sens.setIfInBounds i ((t.sensor i).judge (xs.getD i none) (t.models i)) }) t

/-- The greatest of a list of readings. -/
def maxOf (l : List Int) : Option Int := l.foldl (fun acc v => some (match acc with | some m => max m v | none => v)) none

/-- Readings of the HEALTHY sensors among some. -/
def ThermUnit.healthyOf (t : ThermUnit) (l : List Nat) : List Int :=
  l.filterMap fun j => if (t.sensor j).state = .healthy then some (t.sensor j).reading else none

/-- The used value of a sensor (R269); a FAILED one without prediction keeps its last used value. -/
def ThermUnit.usedValue (t : ThermUnit) (i : Nat) : Int :=
  let x := t.sensor i
  match x.state with
  | .healthy => x.reading
  | .suspect => max x.reading (x.prediction.getD x.reading)
  | .failed =>
    let p := x.prediction.getD x.used
    if t.steps = 0 then p
    else
      match maxOf (t.healthyOf (neighbours i)), maxOf (t.healthyOf (List.range 72)) with
      | some m, _ => max p (m + 40)
      | none, some m => m + 40
      | none, none => p

/-- Form every used value anew. -/
def ThermUnit.refresh (t : ThermUnit) : ThermUnit :=
  { t with sens := Vector.ofFn fun i : Fin 72 => { t.sensor i.val with used := t.usedValue i.val } }

/-- Model offsets learn from a sample at which both sensors are HEALTHY (R267). -/
def ThermUnit.learn (t : ThermUnit) : ThermUnit :=
  { t with sens := Vector.ofFn fun i : Fin 72 =>
      let x := t.sensor i.val
      { x with offsets := ((neighbours i.val).zip x.offsets).map fun n =>
          let y := t.sensor n.1
          if x.state = .healthy ∧ y.state = .healthy then
            clampI (-120 * 65536) (120 * 65536) (n.2 + roundDiv ((x.reading - y.reading) * 65536 - n.2) 65536)
          else n.2 } }

/-- Index of the hottest used value, the lowest on a tie. -/
def ThermUnit.hottest (t : ThermUnit) : Nat :=
  (minBy (fun i => -(t.sensor i).used) (List.range 72)).getD 0

def ThermUnit.hotValue (t : ThermUnit) : Int := (t.sensor t.hottest).used

/-- Effective power limit in 0.1 W (R273). -/
def ThermUnit.pEff (t : ThermUnit) (steps : Nat) : Nat := max 1000 (t.params.pLim - 50 * steps)

/-! Compensation trims (R281). -/

/-- Mean used value of some sensors. -/
def ThermUnit.meanUsed (t : ThermUnit) (l : List Nat) : Int := roundDiv ((l.map fun i => (t.sensor i).used).sum) l.length

/-- Judge a circuit: the first sample sets the base, and each move of 1 °C makes a trim, clamped to the circuit's range; the
second value tells that it was clamped. -/
def Trim.judge (x : Trim) (circuit : Nat) (mean : Int) : Trim × Bool :=
  match x.mean with
  | none => ({ x with mean := some mean }, false)
  | some m =>
    if (mean - m).natAbs < 8 then (x, false)
    else
      let c := Config.trimCode circuit mean
      let r := Config.trimRange circuit
      let d := clampI r.1 r.2 c
      ({ x with mean := some mean, due := some d }, decide (d ≠ c))

/-- Trims of every circuit of Table 9-8 after a sample. -/
def State.trims (s : State) : State :=
  let t := s.therm
  let core := t.meanUsed [66, 67, 68, 69, 70, 71]
  let a := t.trimPll.judge 0 core
  let b := t.trimAon.judge 1 core
  let c := t.trimRef.judge 2 (t.meanUsed [68, 69])
  let d (p : Phys) := (t.trimDac[p.val]).judge 3 (t.sensor (p.val / 4)).used
  let e (g : Group) := (t.trimHtx[g.val]).judge 4 (t.sensor (34 + g.val)).used
  let s := s.modTherm fun t => { t with
    trimPll := a.1, trimAon := b.1, trimRef := c.1, trimDac := Vector.ofFn fun p => (d p).1,
    trimHtx := Vector.ofFn fun g => (e g).1 }
  let s := if a.2 then s.raise .calComp 0 0 else s
  let s := if b.2 then s.raise .calComp 0 1 else s
  let s := if c.2 then s.raise .calComp 0 2 else s
  let s := s.each (physAll.filter fun p => (d p).2) fun p s => s.raise .calComp p.val 3
  s.each (groupAll.filter fun g => (e g).2) fun g s => s.raise .calComp g.val 4

/-! The throttle ladder (R274–R276). -/

/-- Nominal saving of a rung in mW at 226.875 GBd (Table 9-6). -/
def rungSaving (r : Nat) : Nat :=
  match r with
  | 1 => 20
  | 2 => 60
  | 3 => 45
  | _ => 35

/-- Saving of a rung on a working lane in µW, scaled with its symbol rate. -/
def State.saving (s : State) (w : Work) (r : Nat) : Nat :=
  let rate := match s.physOf w with
    | some p => (s.rxl p).rate
    | none => 0
  rungSaving r * 1000 * (if s.standard then 212500 else 226875) / 2 ^ rate / 226875

/-- Modes a rung applies to. -/
def rungApplies (r : Nat) (m : LaneMode) : Bool := guaranteed m || (decide (m = .transparent) && decide (r = 1))

/-- 10·log10(1 + E/MSE) in 1/256 dB. -/
def LaneError.penalty (x : LaneError) (e : Nat) : Int :=
  if x.mse = 0 then Config.flatPenalty e else logRatio 5120 8192 (x.mse + e) x.mse

/-- Penalty of a rung in 1/256 dB (Table 9-6). -/
def WorkLane.penalty (u : WorkLane) (err : LaneError) (r : Nat) : Int :=
  match r with
  | 2 => err.penalty err.nlc
  | 3 => err.penalty err.ffe
  | 4 => u.fec.margin - u.fec.marginHard
  | _ => 0

/-- Predicted margin after a rung (R275); a lane without a complete window counts with the largest MARGIN of R119. -/
def WorkLane.predicted (u : WorkLane) (err : LaneError) (r : Nat) : Int :=
  (if u.fec.marginValid then u.fec.margin else 8192) - ((u.penLast ++ u.penNow).map (·.2)).sum - u.penalty err r

/-- Lanes of a mode that hold the rung below, and those of them that are eligible, in the ladder's order. -/
def State.rungLanes (s : State) (errs : List LaneError) (r : Nat) : List Work × List Work :=
  let holding := workAll.filter fun w =>
    decide ((s.wk w).rungs + 1 = r) && (s.physOf w).isSome && rungApplies r (s.modeOfWork w)
  let ok := holding.filter fun w =>
    decide (r ≤ (s.wk w).ceiling) && decide (64 * ((s.wk w).floor : Int) ≤ (s.wk w).predicted (errs.getD w.val ⟨1, 0, 0⟩) r)
  let phys (w : Work) : Nat := match s.physOf w with
    | some p => p.val
    | none => 0
  let sorted := sortBy (fun w => (16384 - (s.wk w).predicted (errs.getD w.val ⟨1, 0, 0⟩) r).toNat) (sortBy phys ok)
  (holding, sorted)

/-- Rung 3 is taken or given up: the taps that the 17-tap FFE drops stand at zero (R42). In SLOTTED and OPEN the palette holds a
portrait's taps, which are out of use meanwhile and written back unchanged (R89). -/
def State.rungTaps (s : State) (w : Work) (r : Nat) : State :=
  match s.physOf w with
  | some p => if r = 3 ∧ ¬ burstMode (s.modeOf p) then s.modActive p Coeffs.drop17 else s
  | none => s

/-- A lane takes its next rung. -/
def State.takeRung (s : State) (errs : List LaneError) (r : Nat) (w : Work) : State :=
  ((s.rungTaps w r).modWork w fun u => { u with
    rungs := r, penNow := u.penNow ++ [(r, u.penalty (errs.getD w.val ⟨1, 0, 0⟩) r)] }).modTherm fun t => { t with
    ladder := (w.val, r) :: t.ladder }

/-- Apply one rung to eligible lanes until the estimate in µW meets the target. -/
def State.applyRung (s : State) (errs : List LaneError) (target r : Nat) (est : Int) : List Work → Int × State
  | [] => (est, s)
  | w :: rest =>
    if est ≤ target then (est, s)
    else (s.takeRung errs r w).applyRung errs target r (est - s.saving w r) rest

/-- The ladder: rungs 1 to 4 in turn (R275). -/
def State.applyLadder (s : State) (errs : List LaneError) (target : Nat) : List Nat → Int → Int × State
  | [], est => (est, s)
  | r :: rest, est =>
    if est ≤ target then (est, s)
    else
      let x := s.applyRung errs target r est (s.rungLanes errs r).2
      x.2.applyLadder errs target rest x.1

/-- Give up rungs, latest first, while the estimate with the rung's saving stays 2 W below the limit (R276). -/
def State.giveUp (s : State) (limit : Int) (est : Int) : List (Nat × Nat) → State
  | [] => s
  | (w, r) :: rest =>
    let w : Work := finOf 128 w
    let up := est + s.saving w r
    if up ≤ limit then
      (((s.rungTaps w r).modWork w fun u => { u with
        rungs := r - 1, penLast := u.penLast.filter (fun x => decide (x.1 ≠ r)),
        penNow := u.penNow.filter fun x => decide (x.1 ≠ r) }).modTherm fun t => { t with ladder := rest }).giveUp limit up rest
    else s

/-! Trip and recovery (R278–R280, Table 9-7). -/

/-- A sensor's sample meets a trip condition. -/
def SensorUnit.qualifies (x : SensorUnit) : Bool :=
  match x.state with
  | .healthy => decide (960 ≤ x.reading)
  | .suspect => decide (960 ≤ x.reading) && (match x.prediction with
      | some p => decide (896 ≤ p)
      | none => false)
  | .failed => decide (960 ≤ x.used)

/-- The trip's effect on a lane's transmitter and receive path. -/
def State.tripLane (s : State) (p : Phys) : State :=
  let s := ((s.calAbort p).cutRun p).cutBurst p
  let s := if burstMode (s.modeOf p) then s.abandonBursts p else s
  let s := s.amDrop p
  let s := (s.modRx p fun r => { r with state := .off, agcOn := false }).settleBurstEnd p
  if s.modeOf p = .dark then s else s.raiseP .txZeroScale p 6

/-- The trip's effect on a bias output: SAFE_CODE, with the code to return to (Table 8-3). An output whose range changes takes it at the
end of the change, as every code (R235). -/
def State.tripBias (s : State) (o : Bias) : State :=
  let s := s.freezeLoop o .trip
  let b := s.bias o
  if b.rangeAtEnd = 0 ∨ b.fault ≠ 0 then s
  else if b.ranging.isSome then
    let safe (c : RangeChange) : RangeChange := { c with code := some b.safeCode }
    let last := b.ranges.getLast?.or b.ranging
    (s.modBias o fun b => { b with
      safe := some ((last.bind (·.code)).getD 0)
      ranging := if b.ranges = [] then b.ranging.map safe else b.ranging
      ranges := b.ranges.dropLast ++ (b.ranges.getLast?.map safe).toList }).raise .biasSafe o.val
  else
    let back : Nat := match b.loop with
      | some l => if l.state ≠ .off then l.centre.toNat else b.applied
      | none => b.applied
    ((s.modBias o fun b => { b with pending := none, safe := some back }).applyBias o b.safeCode).raise .biasSafe o.val

/-- A thermal trip (R279). The lanes of a recovery that has not powered them up are down already. -/
def State.trip (s : State) (sensor : Nat) : State :=
  let again := s.tripped
  let s := s.endTest 3
  let s := s.modTherm fun t => { t with trip := .tripped, trips := satW 16 (t.trips + 1), coolSince := none }
  let s := if again then s else s.each physAll fun p s => s.tripLane p
  let s := s.each biasAll fun o s => s.tripBias o
  let s := s.each workAll fun w s => s.scrapeAll w
  s.raise .thermTrip sensor

/-- The hottest used value has met the recovery condition for 1 s. -/
def State.coolEnough (s : State) : Bool :=
  match s.therm.coolSince with
  | some t => decide (1000000 ≤ s.usOf (s.since t))
  | none => false

/-- Recovery step 1 (R280): the bias outputs return. -/
def State.startRecovery (s : State) : State :=
  let s := s.each biasAll fun o s => match (s.bias o).safe with
    | some c => (s.applyBias o c).modBias o fun b => { b with safe := none }
    | none => s
  s.modTherm fun t => { t with trip := .recovering }

/-- Recovery of a lane: front end and ADC power up (R280 step 2). -/
def State.recoverLane (s : State) (p : Phys) : State :=
  let m := s.modeOf p
  let s := s.modRx p fun r => { r with
    state := if continuousMode m then .signalWait else if burstMode m then .burst else .off,
    agcOn := continuousMode m && !r.los }
  let s := if m = .steady then s.modTx p fun t => { t with marker := 0, rest := [] } else s
  match s.workOf p with
  | some w => if burstMode m then s.modTxw w fun t => { t with coldPending := (s.wk w).destinations } else s
  | none => s

end Sys2Proof.Machine
end

