-- ==== Sys2Proof/Machine/Calibrate.lean ====
section
/-!
DEFINITION. Meanings of the estimator, calibration and ageing rows (R35–R40, R282–R290) and of the CAL commands (Table
13-11).
-/
namespace Sys2Proof.Machine

/-! The blind estimator. -/

/-- ESTIMATION_WINDOW_END (R35): every slice has contributed N samples; the snapshot reaches a housekeeping engine, and the next
window starts. -/
def execEstimationWindowEnd (p : Phys) (s : State) : Host.Outcome State Fault Refusal :=
  .next <| s.modRx p fun r =>
    if r.state ≠ .off ∧ r.sums.full r.rate then
      { (r.newWindow s.now) with window := some { n := 2 ^ r.sums.exp, clipped := r.sums.clipped, stats := r.sums.stats.toList } }
    else r

/-- A rejected window: 0 STARVED, 1 CLIPPED, 2 BIASED; the eighth in a row ends a run STALLED (R36, R37, Table 9-10). -/
def State.rejectWindow (s : State) (p : Phys) (reason : Nat) : State :=
  let s := (s.modDiag p fun d => { d with calRejected := satW 16 (d.calRejected + 1) }).raiseP .rxCalRejected p reason
  if (s.cal.lane[p.val]).state ≠ .running then s
  else
    let s := s.modCalLane p fun c => { c with rejected := c.rejected + 1 }
    if 8 ≤ (s.cal.lane[p.val]).rejected then s.calFinish p false else s

/-- CK_MGMT cycles in 16·N periods of the slice clock, which is root/8, or root/16 at root × 2 (R36, Table 2-2). -/
def RxLane.starveLimit (r : RxLane) : Nat := 2 ^ r.sums.exp * (if r.rate = 2 then 4 else 2)

/-- ESTIMATION_WINDOW_STARVED (R36): a window that has not filled within its limit is closed and discarded, and the next one
starts. -/
def execEstimationWindowStarved (p : Phys) (s : State) : Host.Outcome State Fault Refusal :=
  let r := s.rxl p
  .next <|
    if r.state = .off ∨ r.sums.full r.rate ∨ s.since r.sums.start < r.starveLimit then s
    else (s.modRx p fun r => r.newWindow s.now).rejectWindow p 0

/-- One iteration of R38 for slice j, over sums scaled by n²: variances `vs` and neighbour covariances `cs`. It starts from the
active set, also while a staged one is pending (DESIGN CHOICE, log 91: the rule names neither). -/
def estimateSlice (r : RxLane) (n : Nat) (stats : List SliceStat) (vs cs : List Int) (j : Nat) : Slice :=
  let count := slicesOf r.rate
  let old := r.slices.toList.getD j {}
  let m : Int := match stats[j]? with
    | some x => x.sum
    | none => 0
  let v := vs.getD j 0
  let c := cs.getD j 0
  let cp := cs.getD ((j + count - 1) % count) 0
  let sumV := vs.sum
  let sumC := cs.sum
  let div (gain : Nat) (num den : Int) (field : Nat) : Int :=
    if gain = 0 then 0 else if den = 0 then Config.flatWindow j field else roundDiv num den
  { offset := clampI (-512) 511 (old.offset - roundDiv (r.gO * m) (16 * n)),
    gain := (clampI 0 1023 (old.gain - div r.gG (64 * r.gG * (count * v - sumV)) sumV 0)).toNat,
    skew := clampI (-512) 511 (old.skew - div r.gS (r.gS * count * (c - cp)) sumV 1),
    bwK := clampI (-128) 127 (old.bwK + div r.gB (r.gB * (count * (c + cp) - 2 * sumC)) (2 * sumV) 2) }

/-- The corrections an accepted window gives. -/
def estimate (r : RxLane) (w : EstWindow) : Vector Slice 64 :=
  let count := slicesOf r.rate
  let st (j : Nat) : SliceStat := w.stats.getD j {}
  let vs := (List.range count).map fun j => w.n * (st j).sumSq - (st j).sum * (st j).sum
  let cs := (List.range count).map fun j => w.n * (st j).sumProd - (st j).sum * (st ((j + 1) % count)).sum
  Vector.ofFn fun i : Fin 64 => if i.val < count then estimateSlice r w.n w.stats vs cs i.val else r.slices.toList.getD i.val {}

/-- ESTIMATOR_ITERATION (R37, R38, R40): judge the window; in a run, stage the next set. -/
def execEstimatorIteration (p : Phys) (s : State) : Host.Outcome State Fault Refusal :=
  let r := s.rxl p
  let c := s.cal.lane[p.val]
  .next <| match r.window with
    | none => s
    | some w =>
      let s := s.modRx p fun r => { r with window := none }
      let total := w.n * slicesOf r.rate
      let mean := (w.stats.take (slicesOf r.rate)).foldl (fun (acc : Int) x => acc + x.sum) 0
      if total < 100 * w.clipped then s.rejectWindow p 1
      else if 4 * total < mean.natAbs then s.rejectWindow p 2
      else if c.state ≠ .running ∨ c.remaining = 0 then s
      else
        let s := if r.stagedPending then s.raiseP .rxCalApplied p 1 (r.symCount.toNat % 2 ^ 32) else s
        let s := s.modRx p fun r => { r with staged := estimate r w, stagedPending := true }
        s.modCalLane p fun c => { c with rejected := 0, remaining := c.remaining - 1, lastStaged := decide (c.remaining = 1) }

/-! Runs. -/

/-- A lane can run a calibration now. -/
def State.canCalibrate (s : State) (p : Phys) : Bool :=
  decide (s.modeOf p ≠ .dark) && decide ((s.ln p).power = .active) && !(s.ln p).selftest && !s.tripped

/-- CAL_RUN_START (R284): the first queued trigger whose lane can run starts, while fewer than CAL_MAX_RUNS run. -/
def execCalRunStart (s : State) : Host.Outcome State Fault Refusal :=
  let running := (physAll.filter fun p => decide ((s.cal.lane[p.val]).state = .running)).length
  .next <| match s.cal.queue.find? fun x => s.canCalibrate x.lane with
    | none => s
    | some x =>
      if s.cal.maxRuns ≤ running then s
      else
        (s.modCal fun u => { u with queue := u.queue.filter fun y => decide (y.lane ≠ x.lane) }).modCalLane x.lane fun c => { c with
          state := .running, remaining := x.iters, rejected := 0, lastStaged := false }

/-- CAL_PERIOD minutes have passed since the lane's last completed run; a lane without one has no such moment (DEDUCED, log 53). -/
def State.periodPassed (s : State) (p : Phys) : Bool :=
  match (s.cal.lane[p.val]).doneAt with
  | some t => decide (s.cal.period ≠ 0) && decide (60000000 * s.cal.period ≤ s.usOf (s.since t))
  | none => false

/-- CAL_PERIOD_EXPIRY of a lane (Table 9-9). -/
def execCalPeriodExpiry (p : Phys) (s : State) : Host.Outcome State Fault Refusal :=
  .next <| if s.periodPassed p ∧ ¬ (s.ln p).pinned ∧ s.modeOf p ≠ .dark then s.calTrigger p false 32 else s

/-! Wear and plans. -/

/-- Wear of a monitor from the counts of its reference and its stressed oscillator over 1 ms: the deficit in ppm, less that at
manufacture (R285). A monitor without a count keeps its wear. -/
def State.wearOf (s : State) (counts : List (Nat × Nat)) (i : Fin 48) : Int :=
  match counts[i.val]? with
  | some (ref, stress) =>
    if ref = 0 then s.age.wear[i.val]
    else roundDiv (1000000 * ((ref : Int) - stress)) ref - s.sec.made.deficits.getD i.val 0
  | none => s.age.wear[i.val]

/-- The hour enters today's sums, the DAC swings as their detectors read them (R286). -/
def State.sumHour (s : State) (swings : List Nat) : State :=
  let made : Slice := {}
  let most (p : Phys) (f : Slice → Int) (m : Int) : Nat :=
    (s.rxl p).slices.toList.foldl (fun n x => max n (f x - m).natAbs) 0
  let day (p : Phys) : LaneAge :=
    let g := s.age.lane[p.val]
    { g with
      sumO := g.sumO + most p (·.offset) made.offset, sumG := g.sumG + most p (fun x => (x.gain : Int)) made.gain,
      sumS := g.sumS + most p (·.skew) made.skew, sumA := g.sumA + swings.getD p.val 0 }
  let centre (o : Bias) : Int × Nat :=
    let x := s.age.centre[o.val]
    match (s.bias o).loop with
    | some l => if l.state = .locked then (x.1 + l.centre, x.2 + 1) else x
    | none => x
  s.modAge fun g => { g with
    lane := Vector.ofFn day, centre := Vector.ofFn centre, hours := g.hours + 1, setpointSum := g.setpointSum + s.sys.avs.runSetpoint }

/-- WEAR_MEASUREMENT, every hour (R285); the histories of R286 take their sample with it, the DAC swings from `swings` (DESIGN CHOICE,
log 70). EV_AGE_WEAR comes for each multiple of 5,000 ppm that a monitor passes for the first time. -/
def execWearMeasurement (counts : List (Nat × Nat)) (swings : List Nat) (s : State) : Host.Outcome State Fault Refusal :=
  .next <| (s.sumHour swings).each (List.finRange 48) fun i s =>
    let w := s.wearOf counts i
    let steps := (w / 5000).toNat
    let old := s.age.wearStep[i.val]
    let s := s.modAge fun g => { g with wear := vupd g.wear i fun _ => w, wearStep := vupd g.wearStep i fun x => max x steps }
    s.each ((List.range steps).filter fun k => decide (old ≤ k)) fun k s => s.raise .ageWear i.val 0 (5000 * (k + 1))

/-- A least-squares line over the daily means of the 90 days up to `day`: intercept at that day, slope, and their common divisor
(R288). -/
def fitLine (day : Nat) (days : Hist) : Option (Int × Int × Int) :=
  let days := days.filter fun e => decide (day < e.1 + 90)
  if days.length < 7 then none
  else
    let n : Int := days.length
    let pts := days.map fun e => ((e.1 : Int) - day, e.2)
    let sx := (pts.map (·.1)).sum
    let sy := (pts.map (·.2)).sum
    let sxx := (pts.map fun x => x.1 * x.1).sum
    let sxy := (pts.map fun x => x.1 * x.2).sum
    some (sy * sxx - sx * sxy, n * sxy - sx * sy, n * sxx - sx * sx)

/-- Days until the line falls below a floor in 1/256 dB; 0xFFFF for none within ten years. -/
def daysToFloor (fit : Option (Int × Int × Int)) (floor : Int) : Nat :=
  match fit with
  | none => 0xFFFF
  | some (a, b, d) =>
    if a < floor * d then 0
    else if 0 ≤ b then 0xFFFF
    else
      let t := ((a - floor * d) / (-b)).toNat
      if 3650 < t then 0xFFFF else t

/-- The highest rung whose predicted margin at the forecast stays at or above the floor (R288); 4 without a forecast. -/
def WorkLane.ceilingFor (u : WorkLane) (fit : Option (Int × Int × Int)) (err : LaneError) : Nat :=
  match fit with
  | none => 4
  | some (a, b, d) =>
    let base := roundDiv (a + b) d
    let after (r : Nat) : Int :=
      base - (((List.range 5).filter fun k => decide (u.rungs < k ∧ k ≤ r)).map fun k => u.penalty err k).sum
    ((List.range 5).filter fun r => decide (64 * (u.floor : Int) ≤ after r)).foldl max 0

/-- What a plan finds for a physical lane. -/
structure LanePlan where
  fit : Option (Int × Int × Int)
  days : Nat
  proposed : Bool

/-- Swing change of a lane since manufacture in 0.1 %, by its latest daily mean. -/
def State.swingChange (s : State) (p : Phys) : Int :=
  let made : Nat := s.sec.made.swings.getD p.val 0
  match (s.age.lane[p.val]).swing with
  | e :: _ => clampI (-32768) 32767 (roundDiv (1000 * (e.2 - made)) made)
  | [] => 0

/-- The largest centre change of a lane's looped outputs since manufacture, by their latest daily means. -/
def State.biasDrift (s : State) (p : Phys) : Nat :=
  (List.range 4).foldl (fun n k =>
    let o := biasOf p k
    match (s.age.centres[o.val]) with
    | e :: _ => max n (e.2 - s.sec.made.centres.getD o.val 0).natAbs
    | [] => n) 0

/-- Lane ageing entry (Table 9-12). -/
def State.ageEntry (s : State) (p : Phys) (x : LanePlan) : Bytes :=
  let g := s.age.lane[p.val]
  let w := s.workOf p
  let slope := match x.fit with
    | some (_, b, d) => roundDiv (256 * b) d
    | none => 0
  recWord [(8, p.val), (8, match w with | some w => w.val | none => 255), (16, ofSigned 16 (g.days.headD (0, 0)).2)] ++
  recWord [(16, ofSigned 16 (clampI (-32768) 32767 slope)), (16, x.days)] ++
  recWord [(3, match w with | some w => (s.wk w).ceiling | none => 4), (1, x.proposed.toNat), (1, (s.ln p).pinned.toNat),
    (7, (s.rxl p).agcTarget), (4, 0), (16, satW 16 (g.driftO.headD (0, 0)).2.toNat)] ++
  recWord [(16, ofSigned 16 (s.swingChange p)), (16, satW 16 (s.biasDrift p))]

/-- Histories at the end of a day (R286): the daily means; of what had no sample the day leaves none. -/
def State.endDay (s : State) : State :=
  let n := s.age.day + 1
  let mean (sum : Int) (count : Nat) (h : Hist) : Hist := if count = 0 then h else pushDay n (roundDiv sum count) h
  let day (p : Phys) : LaneAge :=
    let g := s.age.lane[p.val]
    { days := mean g.marginSum g.marginCount g.days, driftO := mean g.sumO s.age.hours g.driftO
      driftG := mean g.sumG s.age.hours g.driftG, driftS := mean g.sumS s.age.hours g.driftS
      swing := mean g.sumA s.age.hours g.swing }
  let centre (o : Bias) : Hist := let x := s.age.centre[o.val]; mean x.1 x.2 s.age.centres[o.val]
  s.modAge fun g => { g with
    day := n, lane := Vector.ofFn day, setpoints := mean g.setpointSum g.hours g.setpoints, centres := Vector.ofFn centre,
    setpointSum := 0, hours := 0, centre := Vector.replicate 544 (0, 0) }

/-- The AVS target of a plan (R288): never lower than before, at most 10 mV higher, clamped at 850 mV. -/
def State.planTarget (s : State) : Nat × Bool :=
  let wear := (s.age.wear.toList.foldl max 0).toNat
  let goal := (1000 * s.sec.made.setpoint + wear + 4999) / 5000 * 5
  let old := if s.age.avsTarget = 0 then s.sec.made.setpoint else s.age.avsTarget
  let t := max old (min goal (old + 10))
  (min t 850, decide (850 < t))

/-- AGEING moves of a plan: in each bank the proposed lane with the fewest days whose working lane has AUTO_AGEING on,
while the bank has a lane in SPARE (R289). -/
def State.ageingMoves (s : State) (plan : Phys → LanePlan) : Nat × State :=
  (List.range 8).foldl (fun acc b =>
    let s := acc.2
    let cand := (lanesOfBank b).filter fun p => (plan p).proposed && match s.workOf p with
      | some w => (s.wk w).autoAgeing && (s.wk w).move.isNone && guaranteed (s.modeOf p)
      | none => false
    match minBy (fun p => ((plan p).days : Int)) cand with
    | some p => if s.freeSpares b = [] then acc else (acc.1 + 1, s.declareFail p .ageing none)
    | none => acc) (0, s)

/-- MARGIN_PLAN (R287–R289): `daily` tells the 24-hour plan, with which a day ends (R286), from that of CAL.PLAN_NOW; a plan is
deferred while tripped. -/
def execMarginPlan (daily : Bool) (lanes : List LaneDay) (s : State) : Host.Outcome State Fault Refusal :=
  .next <|
    if ¬ daily ∧ ¬ s.age.asked ∧ ¬ s.age.deferred then s
    else
    let s := if daily then s.endDay else s
    if s.tripped then s.modAge fun g => { g with deferred := true }
    else
      let err (p : Phys) : LaneError := match lanes[p.val]? with
        | some d => d.err
        | none => ⟨1, 0, 0⟩
      let plan (p : Phys) : LanePlan :=
        let fit := fitLine s.age.day (s.age.lane[p.val]).days
        match s.workOf p with
        | some w =>
          let n := daysToFloor fit (64 * (s.wk w).floor)
          { fit := fit, days := n, proposed := decide (n ≤ 90) && decide (s.modeOf p ≠ .spare) }
        | none => { fit := fit, days := 0xFFFF, proposed := false }
      let avs := s.planTarget
      let s := s.modAge fun g => { g with
        planNum := g.planNum + 1, asked := false, deferred := false, avsTarget := avs.1 }
      let s := if avs.1 ≠ s.sys.avs.runSetpoint then s.modAvs fun u => u.request .plan avs.1 else s
      let s := if avs.2 then s.raise .ageAvsCeiling else s
      let s := s.each workAll fun w s => match s.physOf w with
        | some p => s.modWork w fun u => { u with ceiling := u.ceilingFor (plan p).fit (err p) }
        | none => s
      let s := s.each physAll fun p s => match lanes[p.val]? with
        | some d => if d.samples < 1000 * d.clipped ∧ 32 < (s.rxl p).agcTarget then
            s.modRx p fun r => { r with agcTarget := max 32 (r.agcTarget - 2) } else s
        | none => s
      let proposed := physAll.filter fun p => (plan p).proposed
      let s := s.each proposed fun p s => s.raise .ageSpareProposal p.val 0
        (match s.workOf p with | some w => w.val | none => 255) (plan p).days
      let entries := physAll.flatMap fun p => s.ageEntry p (plan p)
      let mv := s.ageingMoves plan
      let s := mv.2
      let wears := s.age.wear.toList
      let worst := (minBy (fun i => -(wears.getD i 0)) (List.range 48)).getD 0
      let hist := (physAll.map fun p => (s.age.lane[p.val]).days.length).foldl max 0
      let head := recWord [(8, 1), (24, s.age.planNum)] ++ zeros 4 ++ leBytes 8 s.now.toNat ++
        recWord [(16, avs.1), (16, ((s.age.setpoints.headD (0, 0)).2).toNat)] ++
        recWord [(16, ofSigned 16 (wears.getD worst 0)), (6, worst)] ++
        recWord [(16, ofSigned 16 (roundDiv wears.sum 48)), (8, proposed.length), (8, mv.1)] ++
        recWord [(7, hist), (1, s.age.avsFail.toNat), (1, avs.2.toNat)] ++ zeros 32
      s.modAge fun g => { g with avsFail := false, writing := some { number := g.planNum, bytes := head ++ entries } }

/-- PLAN_WRITE_DONE (R287): the record is in the flash ring of 400. -/
def execPlanWriteDone (s : State) : Host.Outcome State Fault Refusal :=
  .next <| match s.age.writing with
    | some r => (s.modAge fun g => { g with writing := none, ring := (r :: g.ring).take 400 }).raise .agePlan 0 0 r.number
    | none => s

/-! Commands. -/

/-- CAL.RUN_LANE (R284): ITER in force is answered. -/
def execCalRunLane (k : Sess) (s : State) : Host.Outcome State Fault Refusal :=
  .next <| s.runCmd 0x0B01 k fun a s =>
    let p : Phys := finOf 136 (byteAt a 0)
    let n := fieldLE a 2 2
    s.guarded [((s.ln p).selftest, s.busyTest), (decide (s.modeOf p = .dark) || s.tripped, refuse .badState)] fun s =>
      let s := (s.startDozeExit p 1).calTrigger p true (if n = 0 then 32 else n)
      (replyOk (leBytes 2 (s.cal.lane[p.val]).remaining), s)

/-- CAL.SET_TRIGGERS (R282, R284). -/
def execCalSetTriggers (k : Sess) (s : State) : Host.Outcome State Fault Refusal :=
  .next <| s.runCmd 0x0B02 k fun a s =>
    (replyOk, s.modCal fun u => { u with dT := byteAt a 0, maxRuns := byteAt a 1, period := fieldLE a 2 4 })

/-- Pin or unpin a lane (R283): an automatic trigger that waits does not run on a pinned lane, and unpinning starts none. -/
def State.pinLane (s : State) (p : Phys) (pin : Bool) : State :=
  let s := s.modLane p fun l => { l with pinned := pin }
  if pin ∧ s.cal.queue.any fun x => decide (x.lane = p) && !x.command then
    (s.modCal fun u => { u with queue := u.queue.filter fun x => decide (x.lane ≠ p) || x.command }).modCalLane p fun c => { c with
      state := .idle, remaining := 0 }
  else s

/-- CAL.PIN_LANE (R283). -/
def execCalPinLane (k : Sess) (s : State) : Host.Outcome State Fault Refusal :=
  .next <| s.runCmd 0x0B03 k fun a s =>
    s.forAllSel (decide (byteAt a 0 = 255)) (selAll 136 (byteAt a 0))
      (fun p => if (s.ln p).selftest then some s.busyTest else none)
      (fun p s => s.pinLane p (decide (byteAt a 1 = 1)))

/-- CAL.SET_FLOOR (R275). -/
def execCalSetFloor (k : Sess) (s : State) : Host.Outcome State Fault Refusal :=
  .next <| s.runCmd 0x0B04 k fun a s =>
    s.forAllSel (decide (byteAt a 0 = 255)) (selAll 128 (byteAt a 0))
      (fun w => match s.physOf w with
        | some p => if (s.ln p).selftest then some s.busyTest else none
        | none => none)
      (fun w s => s.modWork w fun u => { u with floor := byteAt a 1 })

/-- Entry of CAL.GET_STATUS. -/
def State.calEntry (s : State) (p : Phys) : Bytes :=
  let c := s.cal.lane[p.val]
  leBytes 1 p.val ++ leBytes 1 (packBits [(1, (s.ln p).pinned.toNat),
    (2, match c.state with | .idle => 0 | .queued => 1 | .running => 2),
    (2, match c.outcome with | .none => 0 | .completed => 1 | .stalled => 2 | .aborted => 3)]) ++
  leBytes 2 (match c.ref with | some t => ofSigned 16 t | none => 0x8000) ++ leBytes 2 c.remaining ++ zeros 2

/-- CAL.GET_STATUS (R284): a page holds 125 entries (R382), and is STALE where one of them describes a lane under self-test. -/
def execCalGetStatus (k : Sess) (s : State) : Host.Outcome State Fault Refusal :=
  .next <| s.runCmd 0x0B05 k fun a s =>
    let first := byteAt a 0
    (s.statusReply (((physAll.drop first).take 125).any fun p => (s.ln p).selftest) (page [] 8 first (physAll.map s.calEntry)), s)

/-- CAL.PLAN_NOW (R287). -/
def execCalPlanNow (k : Sess) (s : State) : Host.Outcome State Fault Refusal :=
  .next <| s.runCmd 0x0B06 k fun _ s =>
    (replyOk (leBytes 4 (s.age.planNum + 1)), s.modAge fun g => { g with asked := true })

/-- CAL.GET_AGEING (R290): a plan that is not held is refused. -/
def execCalGetAgeing (k : Sess) (s : State) : Host.Outcome State Fault Refusal :=
  .next <| s.runCmd 0x0B07 k fun a s =>
    let n := fieldLE a 0 4
    let r := if n = 0xFFFFFFFF then s.age.ring.head? else s.age.ring.find? fun x => decide (x.number = n)
    match r with
    | none => (refuse .badState, s)
    | some r => (replyOk (pageN (r.bytes.take 64) 16 (byteAt a 4) 58
        ((List.range 136).map fun i => (r.bytes.drop (64 + 16 * i)).take 16)), s)

/-- CAL.SET_ESTIMATOR (R35, R38). -/
def execCalSetEstimator (k : Sess) (s : State) : Host.Outcome State Fault Refusal :=
  .next <| s.runCmd 0x0B08 k fun a s =>
    s.forAllSel (decide (byteAt a 0 = 255)) (selAll 136 (byteAt a 0))
      (fun p => if (s.ln p).selftest then some s.busyTest else none)
      (fun p s => s.modRx p fun r => { r with
        nExp := byteAt a 1, gO := byteAt a 2, gG := byteAt a 3, gS := byteAt a 4, gB := byteAt a 5 })

end Sys2Proof.Machine
end

