-- ==== Sys2Proof/Machine/Flags.lean ====
section
/-!
DEFINITION. Status words: the direct registers (Tables 10-2, 12-3 to 12-8) and the indirect regions (Table 12-9) as they read.
-/
namespace Sys2Proof.Machine

/-- A 32-bit word of bit fields, lowest first. -/
def wordOf (fs : List (Nat × Nat)) : Word := BitVec.ofNat 32 (packBits fs)

def DevPower.status : DevPower → Nat
  | .quiet => 1
  | _ => 0

/-- DEV_ID (Table 12-4). -/
def State.devId (s : State) : Word := wordOf [(16, 0x5128), (8, s.sec.made.step.toNat), (8, 0x4D)]

/-- DEV_INFO (Table 12-4). -/
def State.devInfo (s : State) : Word :=
  wordOf [(1, s.sec.made.gradeFx.toNat), (3, 0), (3, s.lifecycle), (1, s.sys.fwReady.toNat), (8, 0),
    (16, s.sec.img.runningVer.toNat)]

/-- CLK_STATUS (Table 10-2). -/
def State.clkStatus (s : State) : Word :=
  let c := s.sys.clk
  wordOf [(1, (c.straps.getLsbD 0).toNat), (1, (c.straps.getLsbD 1).toNat), (4, c.straps.toNat), (1, c.rootLock.toNat),
    (1, c.holdover.toNat), (1, c.refclkOk.toNat), (1, c.fabclkOk.toNat), (1, c.aonFallback.toNat), (1, c.refLost.toNat),
    (1, c.intPor.toNat)]

/-- Management and security cores work from the start of the image on, and management cores not while CTLRST_N is low (R307). -/
def State.mgmtRuns (s : State) : Bool :=
  decide (s.sys.clk.phase = .running ∨ s.sys.clk.phase = .noCount) && !s.sys.pins.ctlrstLow
def State.secRuns (s : State) : Bool :=
  decide (s.sys.clk.phase ≠ .inReset ∧ s.sys.clk.phase ≠ .waitLock ∧ s.sys.clk.phase ≠ .locked)

/-- SYS_STATUS (Table 12-4). -/
def State.sysStatus (s : State) : Word :=
  let m (i : Nat) : Nat × Nat := (1, (s.mgmtRuns && s.coreActive (186 + i)).toNat)
  let x (i : Nat) : Nat × Nat := (1, (s.secRuns && s.coreActive (190 + i)).toNat)
  wordOf [(2, s.sys.power.dev.status), (1, s.tripped.toNat), (5, 0), (8, s.ctl.snapSeq.toNat), m 0, m 1, m 2, m 3, x 0, x 1]

/-- The SMBus address 0x5A + 2 × STRAP3 + STRAP2 (R351). -/
def State.smbAddr (s : State) : Nat :=
  0x5A + 2 * (s.sys.clk.straps.getLsbD 3).toNat + (s.sys.clk.straps.getLsbD 2).toNat

/-- IND_STATUS (Table 12-6). -/
def IndWindow.status (w : IndWindow) : Word :=
  wordOf [(1, w.word.isSome.toNat), (1, w.early.toNat), (1, w.unmapped.toNat), (1, w.dropped.toNat), (1, w.locked.toNat),
    (1, w.timeout.toNat), (1, w.memError.toNat), (1, 0), (5, w.fifo.length)]

/-- INT_STATUS and EVQ_STATUS (Table 12-7). -/
def EventUnit.intStatus (u : EventUnit) : Word := wordOf [(1, u.intA.toNat), (1, u.intB.toNat), (1, u.overflow.toNat)]
def EventUnit.queueStatus (u : EventUnit) : Word :=
  wordOf [(9, u.queue.length), (1, (decide (u.lost ≠ 0)).toNat), (1, u.ackMiss.toNat)]

/-- Bytes of an event entry (Table 12-14). -/
def EvEntry.bytes (x : EvEntry) : Bytes :=
  recWord [(9, x.ev.id), (7, 0), (16, x.coalesced)] ++ recWord [(16, x.source.toNat), (8, x.code.toNat)] ++
  leBytes 4 x.arg1.toNat ++ leBytes 4 x.arg2.toNat ++ leBytes 8 x.time.toNat ++ leBytes 4 x.qseq.toNat ++ zeros 4

/-- EVQ_ENTRY word i: 0 when the queue is empty. -/
def EventUnit.headWord (u : EventUnit) (i : Nat) : Word :=
  match u.queue with
  | [] => 0
  | x :: _ => BitVec.ofNat 32 (fieldLE x.bytes (4 * i) 4)

def SessPhase.code : SessPhase → Nat
  | .free => 0
  | .idle => 1
  | .busy => 2

def Iface.code : Iface → Nat
  | .spi => 0
  | .smb => 1

/-- Session registers (Table 12-8) at +0x00 to +0x10. -/
def Session.ctrlWord (x : Session) : Word := wordOf [(2, 0), (2, x.reqPriv.toNat), (1, x.notify.toNat), (11, 0), (16, x.ownerTag.toNat)]
def Session.stateWord (x : Session) : Word :=
  wordOf [(2, x.phase.code), (2, x.priv.code), (1, Iface.code x.iface), (1, x.closePending.toNat), (2, 0), (8, x.lastSeq.toNat),
    (16, x.owner.toNat)]
def Session.resultWord (x : Session) : Word := wordOf [(8, x.rseq.toNat), (8, x.result.toNat), (10, x.respLen.toNat)]
def Session.errWord (x : Session) : Word := wordOf [(1, x.ringBusy.toNat), (1, x.areaBusy.toNat)]

def Session.regWord (x : Session) (off : Nat) : Word :=
  match off with
  | 0x00 => x.ctrlWord
  | 0x04 => x.stateWord
  | 0x08 => wordOf [(8, x.bellSeq.toNat)]
  | 0x0C => x.resultWord
  | 0x10 => x.errWord
  | _ => 0

def State.window (s : State) (i : Iface) : IndWindow := match i with | .spi => s.ctl.indSpi | .smb => s.ctl.indSmb

/-- A direct register as it reads, apart from IND_DATA (Table 12-3); reserved offsets read 0 (R356). -/
def State.regWord (s : State) (i : Iface) (addr : Nat) : Word :=
  let u := s.ctl.ev
  match addr with
  | 0x000 => s.devId
  | 0x004 => s.devInfo
  | 0x008 => s.clkStatus
  | 0x00C => s.sysStatus
  | 0x010 => s.now.setWidth 32
  | 0x014 => s.now.extractLsb' 32 32
  | 0x018 => s.sys.clk.aonTicks.setWidth 32
  | 0x01C => (s.sys.clk.aonTicks.extractLsb' 32 16).setWidth 32
  | 0x020 => s.sec.img.bootCount
  | 0x030 => s.ctl.sysLock.setWidth 32
  | 0x040 => wordOf [(1, s.ctl.bus.crcReq.toNat)]
  | 0x044 => s.ctl.bus.spiStatus.setWidth 32
  | 0x048 => wordOf [(7, s.smbAddr), (1, 0), (1, s.ctl.bus.pecReq.toNat)]
  | 0x04C => s.ctl.bus.smbStatus.setWidth 32
  | 0x050 => (s.window i).addr.setWidth 32
  | 0x054 => ((s.window i).addr.extractLsb' 32 8).setWidth 32
  | 0x058 => wordOf [(1, (s.window i).noInc.toNat)]
  | 0x05C => (s.window i).status
  | 0x080 => u.intStatus
  | 0x084 => u.route.setWidth 32
  | 0x088 => (u.route.extractLsb' 32 8).setWidth 32
  | 0x120 => u.queueStatus
  | 0x124 => u.lastRemoved
  | 0x128 => u.lost.setWidth 32
  | _ =>
    if 0x0C0 ≤ addr ∧ addr ≤ 0x0E4 then u.enable.toList.getD ((addr - 0x0C0) / 4) 0
    else if 0x100 ≤ addr ∧ addr ≤ 0x11C then u.headWord ((addr - 0x100) / 4)
    else if 0x200 ≤ addr ∧ addr < 0x300 then (s.sess (finOf 8 ((addr - 0x200) / 0x20))).regWord (addr % 0x20)
    else 0

/-! Indirect space (Table 12-9). -/

/-- A place in the indirect space. -/
inductive IndTarget where
  | command (k : Sess) (off : Nat)
  | response (k : Sess) (off : Nat)
  | receive (p : Phys) (off : Nat)
  | results (u : Mon) (off : Nat)
  | snapshot (off : Nat)
  | unmapped
deriving DecidableEq, Repr

def indTarget (addr : BitVec 40) : IndTarget :=
  let a := addr.toNat
  if 0x10000 ≤ a ∧ a < 0x14000 then
    let k : Sess := finOf 8 ((a - 0x10000) / 0x800)
    let off := a % 0x800
    if off < 0x400 then .command k off else .response k (off - 0x400)
  else if 0x100000000 ≤ a ∧ a < 0x100000000 + 0x10000 * 136 then
    .receive (finOf 136 ((a - 0x100000000) / 0x10000)) (a % 0x10000)
  else if 0x200000000 ≤ a ∧ a < 0x200000000 + 0x1000 * 8 then .results (finOf 8 ((a - 0x200000000) / 0x1000)) (a % 0x1000)
  else if 0x300000000 ≤ a ∧ a < 0x300010000 then .snapshot (a % 0x10000)
  else .unmapped

/-- Response header and data (Table 12-12); the CRC covers bytes 0x00–0x07 and the data. -/
def Response.bytes (r : Response) : Bytes :=
  let head := leBytes 2 r.code.toNat ++ [r.seq] ++ leBytes 1 r.result.code ++ leBytes 2 r.data.length ++ zeros 2
  head ++ crc32Bytes (head ++ r.data) ++ leBytes 4 r.detail.toNat ++ r.data

/-- A correction entry's words (Table 2-3). -/
def Slice.words (x : Slice) : List Nat := [packBits [(10, ofSigned 10 x.offset), (10, x.gain), (10, ofSigned 10 x.skew)], ofSigned 8 x.bwK]

/-- A word of a receive block (R32). -/
def RxLane.blockWord (r : RxLane) (off : Nat) : Nat :=
  let set := if off < 0x200 then some r.slices else if off < 0x400 then some r.staged else none
  match set with
  | some v => ((v.toList.getD (off % 0x200 / 8) {}).words).getD (off / 4 % 2) 0
  | none => 0

/-- A word of the indirect space as it reads, without clearing (R361); reserved addresses read 0 (R363). -/
def State.indWord (s : State) (t : IndTarget) : Word :=
  match t with
  | .command k off => BitVec.ofNat 32 (leNat (memReads 0 (s.sess k).area off 4))
  | .response k off => match (s.sess k).resp with
    | some r => BitVec.ofNat 32 (fieldLE r.bytes off 4)
    | none => 0
  | .receive p off => BitVec.ofNat 32 ((s.rxl p).blockWord off)
  | .results u off => BitVec.ofNat 32 ((s.resultWords u).getD (off / 4) 0)
  | .snapshot off =>
    if off = 0 then s.ctl.snap.seqBegin else if off = 0xFC then s.ctl.snap.seqEnd
    else BitVec.ofNat 32 (leNat (memReads 0 s.ctl.snap.content off 4))
  | .unmapped => 0

end Sys2Proof.Machine
end

