-- ==== Sys2Proof/Machine/DoorbellOps.lean ====
section
/-!
DEFINITION. Sessions and doorbells (R364, R368–R370), and the event queue's acknowledgement (R374).
-/
namespace Sys2Proof.Machine

/-! Event queue. -/

/-- Remove the head entry if its QSEQ is the given value (R374). -/
def State.evAck (s : State) (q : Word) : Option State :=
  match s.ctl.ev.queue with
  | [] => none
  | x :: r =>
    if x.qseq = q then some (s.modCtl fun c => { c with ev := { c.ev with queue := r, lastRemoved := q } }).settleEvents else none

/-! Sessions. -/

/-- OPEN of a session (R364): ignored with REQ_PRIV 3 and on a session in use. -/
def State.openSess (s : State) (i : Iface) (k : Sess) : State :=
  let x := s.sess k
  if x.phase ≠ .free ∨ x.reqPriv = 3 then s
  else
    let asked : Priv := if x.reqPriv = 0 then .observe else if x.reqPriv = 1 then .configure else .maintain
    let priv : Priv := if i = .smb ∧ s.ctl.sysLock.getLsbD 1 then .observe else asked
    (s.modSess k fun x => { x with
      phase := .idle, priv := priv, owner := x.ownerTag, iface := i, lastSeq := 0, anyAccepted := false, closePending := false,
      staging := [], challenge := none, signer := none, report := none, perfSeen := [], openTime := s.now }).raise
      .ctlSessionOpen k.val

/-- CLOSE of a session (R364): a BUSY session closes when its command completes. -/
def State.closeSess (s : State) (k : Sess) : State :=
  match (s.sess k).phase with
  | .free => s
  | .idle => s.freeSess k
  | .busy => s.modSess k fun x => { x with closePending := true }

/-- A write to SESS_CTRL: the RW fields, then OPEN, then CLOSE (Table 12-8). -/
def State.writeSessCtrl (s : State) (i : Iface) (k : Sess) (d : Word) : State :=
  let s := s.modSess k fun x => { x with reqPriv := d.extractLsb' 2 2, notify := d.getLsbD 4, ownerTag := d.extractLsb' 16 16 }
  let s := if d.getLsbD 0 then s.openSess i k else s
  if d.getLsbD 1 then s.closeSess k else s

/-! Doorbells. -/

/-- The management core that serves a session: the active core of its pair (R369). -/
def State.servingCore (s : State) (k : Sess) : Core :=
  let base := 186 + 2 * (k.val / 4)
  finOf 192 (if s.coreActive base then base else base + 1)

/-- Doorbells are served: the image runs, or the loader serves them in REFILL (R440), and neither a control reset's restart
(R307) nor a DORMANT entry (R320) holds them. -/
def State.serving (s : State) : Bool :=
  !s.sys.ctlRestart && !s.sys.pins.ctlrstLow && (s.sys.fwReady || decide (s.sys.clk.phase = .refill)) &&
    decide (s.sys.power.dormantPhase = .none)

/-- A counter of selector 7 counts a mailbox command started on its core (Table 12-16), not one that the loader serves (R440). -/
def State.countStart (s : State) (k : Sess) : State :=
  let bump (x : PerfCounter) : PerfCounter :=
    if x.sel = 7 then { x with count := x.count + 1, overflowed := x.overflowed || decide (x.count + 1 = 0) } else x
  if ¬ s.mgmtRuns then s
  else s.modCtl fun c => { c with perf := vupd c.perf (s.servingCore k) fun u => { u with pc := u.pc.map bump } }

/-- Offset of the first faulty byte of a command header (R368 step 5): SEQ at 0x02, ARG_LEN at 0x04, reserved bytes, CRC. -/
def headerFault (area : Bytes) (seq : Byte) : Option Nat :=
  let len := fieldLE area 4 2
  let checked := bitOf (byteAt area 3) 0
  let args := (area.drop 16).take len
  let reserved (o : Nat) : Option Nat := if byteAt area o ≠ 0 then some o else none
  ([if byteAt area 2 ≠ seq.toNat then some 2 else none, if 1008 < len then some 4 else none, reserved 6, reserved 7,
    if checked && decide (len ≤ 1008) && decide (crc32Bytes (area.take 8 ++ args) ≠ (area.drop 8).take 4) then some 8 else none,
    reserved 12, reserved 13, reserved 14, reserved 15].filterMap id).head?

/-- The first failing check of R368 step 5 after the SEQ comparison, with its DETAIL. -/
def State.ringFault (s : State) (k : Sess) (area : Bytes) (seq : Byte) : Option (Result × Nat) :=
  let code := fieldLE area 0 2
  let args := (area.drop 16).take (fieldLE area 4 2)
  match headerFault area seq with
  | some o => some (.badArg, o)
  | none => match cmdForm code with
    | none => some (.notSupported, 0)
    | some f =>
      if s.sys.clk.phase = .refill ∧ code / 256 ≠ 0x02 ∧ code / 256 ≠ 0x0F then some (.notSupported, 0)
      else if (s.sess k).priv.code < privNeeded f args then some (.denied, 0)
      else match (lockOf f args).filter (fun b => s.ctl.sysLock.getLsbD b) with
        | some b => some (.locked, b)
        | none => (argFault f args).map fun o => (.badArg, o)

/-- A SESSION.AUTH or SEC.SET_LIFECYCLE uses up the challenge whatever its result (R407). -/
def State.useChallenge (s : State) (k : Sess) : State :=
  s.modSess k fun x => { x with challenge := x.challenge.map fun c => { c with used := true } }

/-- Take a rung doorbell (R368 steps 4 to 6): the command passes the checks and waits for its row, or ends. -/
def State.takeRing (s : State) (k : Sess) (seq : Byte) : State :=
  let x := s.sess k
  if x.phase ≠ .busy then s
  else if x.anyAccepted ∧ seq = x.lastSeq then
    if x.closePending then s.freeSess k else s.modSess k fun x => { x with phase := .idle }
  else
    let area := memReads 0 x.area 0 1024
    let code := fieldLE area 0 2
    let args := (area.drop 16).take (fieldLE area 4 2)
    let turn := s.ctl.nextTurn
    let s' := (s.modSess k fun x => { x with cmd := some { code := code, seq := seq, args := args, turn := turn } }).modCtl fun c => { c with
      nextTurn := turn + 1 }
    match s.ringFault k area seq with
    | some (r, d) => (if code = 0x0202 ∨ code = 0x1003 then s'.useChallenge k else s').respond k r d []
    | none => (s'.modSess k fun x => { x with lastSeq := seq, anyAccepted := true }).countStart k

/-- Take the doorbells that were held, in the order of their rings (R307, R320), where the session's pair has an active core. -/
def State.releaseRings (s : State) : State :=
  let l := s.ctl.heldRings
  (s.modCtl fun c => { c with heldRings := l.filter fun r => !s.pairUp r.1 }).each (l.filter fun r => s.pairUp r.1) fun r s =>
    s.takeRing r.1 r.2

/-- Doorbells held until the state serves them. -/
def State.settleRings (s : State) : State := if s.serving then s.releaseRings else s

end Sys2Proof.Machine
end

