-- ==== Sys2Proof/Machine/CoreOps.lean ====
section
/-!
DEFINITION. Failures of cores and what covers them (R14, R310, R312, R338).
-/
namespace Sys2Proof.Machine

/-- Expiries of the last hour that count toward retirement (R310). -/
def State.recentExpiries (s : State) (c : Core) : List Time :=
  (s.coreOf c).expiries.filter fun t => decide (s.usOf (s.since t) < 3600000000)

/-- The reset of a lane engine (R310, Table 8-3): its outputs hold, pending codes are discarded, its loops freeze; the lane is
declared failing for ENGINE. -/
def State.laneEngineFails (s : State) (c : Core) : State :=
  let p : Phys := finOf 136 c.val
  let s := s.each [0, 1, 2, 3] fun k s => s.modBias (biasOf p k) fun b => { b with pending := none }
  let s := s.cutTraining p
  ((s.freezeLane p .laneReset).freezeFor c [p]).declareFail p .engine (some c)

/-- A commanded reset of the core's lane or group, or a control reset, is resetting the core (R312). -/
def State.inReset (s : State) (c : Core) : Bool :=
  if c.val < 136 then (s.ln (finOf 136 c.val)).resetting
  else if c.val < 168 then (s.grp (finOf 32 (c.val - 136))).resetting
  else decide (186 ≤ c.val ∧ c.val < 190) && s.sys.pins.ctlrstLow

/-- A core fails: 0 watchdog expiry, 1 DEV.RESET_CORE, 2 an uncorrectable word of its memory (R14). A commanded reset in progress
absorbs it (R312); the expiry of a core that restarts after another one counts again (R310), and its duties stay covered. DESIGN CHOICE
(log 110): a host-group engine, whatever its group's state, and a pooled engine always have duties to cover, CODE 0. -/
def State.coreFails (s : State) (c : Core) (cause : Nat) : State :=
  let u := s.coreOf c
  if u.state = .retired ∨ (cause ≠ 2 ∧ (s.inReset c ∨ (u.state = .restarting ∧ u.commanded))) then s
  else
    let was := u.state
    let again := decide (was = .restarting)
    let s := if cause = 2 then s else s.raise .devWatchdog c.val
    let s := s.raise .devCoreFailed c.val cause
    let times := if cause = 2 then s.recentExpiries c else s.now :: s.recentExpiries c
    let retire := decide (3 ≤ times.length)
    let s := s.modCore c fun u => { u with
      expiries := times, resets := u.resets + 1, commanded := decide (cause = 1), covered := u.covered && again,
      state := if retire then .retired else .restarting }
    let s := s.clearCore c
    let s := if retire then s.raise .devCoreRetired c.val else s
    let s := s.closeXing (3 * 2 ^ 14 + c.val)
    if again then s
    else if c.val < 136 then s.laneEngineFails c
    else
      let running : Bool := match s.sec.test with
        | some t => decide (t.core = c)
        | none => false
      let s := if running then s.endTest 5 else s
      let g : Group := finOf 32 (c.val - 136)
      let s := if c.val < 168 ∧ (s.grp g).saving then s.abortGroupEntry g .busy else s
      if c.val < 186 then s.startCover c 0
      else
        let q := corePartner c
        let s := if was = .active ∧ (s.coreOf q).state = .standby then s.modCore q fun u => { u with state := .active } else s
        s.startCover c (if was = .active then 0 else 1)

/-- A restarted core that served its watchdog within 10 ms rejoins its pool or partner (R310). -/
def State.coreRejoins (s : State) (c : Core) : State :=
  if (s.coreOf c).state ≠ .restarting then s
  else
    let alone := decide ((s.coreOf (corePartner c)).state ≠ .active)
    let s := s.modCore c fun u => { u with commanded := false, state := if c.val < 186 ∨ alone then .active else .standby }
    (if c.val < 136 then s.thawLane (finOf 136 c.val) .laneReset else s).settleRings

end Sys2Proof.Machine
end

