-- ==== Sys2Proof/Machine/Transmit.lean ====
section
/-!
DEFINITION. Meanings of the line transmit rows (chapter 5, Tables 13-5 and 13-6): shaping settings, palettes, faults,
TRANSPARENT, superframes, slot bursts, epochs, schedules and OPEN bursts.
-/
namespace Sys2Proof.Machine

/-! Settings and palettes. -/

/-- LANE.SET_TX (R127, R128, Table 5-4): SWING and skew are staged. -/
def execLaneSetTx (k : Sess) (s : State) : Host.Outcome State Fault Refusal :=
  .next <| s.runCmd 0x0330 k fun a s =>
    s.forAllSel (decide (byteAt a 0 = 255)) (selAll 136 (byteAt a 0))
      (fun p => if (s.ln p).selftest then some s.busyTest else none)
      (fun p s => s.modTx p fun t => { t with
        staged := some (byteAt a 1, toSigned 8 (byteAt a 2)), idleZero := decide (byteAt a 3 = 1) })

/-- Palette bytes of LANE.LOAD_TX_PALETTE: P_T, and 15 taps of 11 bits. -/
def tapsOf (pt : Nat) (bs : Bytes) : TxTaps :=
  { taps := Vector.ofFn fun i : Fin 15 => toSigned 11 (fieldLE bs (2 * i.val) 2), pt := pt }

/-- Sum of the taps' magnitudes in 1/512. -/
def TxTaps.sumAbs (t : TxTaps) : Nat := (t.taps.toList.map Int.natAbs).sum

/-- LANE.LOAD_TX_PALETTE (R127, R130): refused while a fade runs, which raises EV_TX_PALETTE with the tag 0 a load has none of
(DESIGN CHOICE, log 27), and for the active palette; taps adding up to more than 1.0 are refused. -/
def execLaneLoadTxPalette (k : Sess) (s : State) : Host.Outcome State Fault Refusal :=
  .next <| s.runCmd 0x0331 k fun a s =>
    let p : Phys := finOf 136 (byteAt a 0)
    let b := decide (byteAt a 1 = 1)
    let t := s.txl p
    let c := tapsOf (byteAt a 2) (a.drop 4)
    if ¬ (s.ln p).selftest ∧ t.fade.isSome then (refuse .busy, s.txPalette p 0 5 (s.txSym p))
    else s.guarded [((s.ln p).selftest, s.busyTest), (t.activeB == b, refuse .busy), (decide (512 < c.sumAbs), badArg 4)]
      fun s => (replyOk, s.modTx p fun t => if b then { t with paletteB := c } else { t with paletteA := c })

/-- LANE.GET_TX_DIAG (R152). -/
def execLaneGetTxDiag (k : Sess) (s : State) : Host.Outcome State Fault Refusal :=
  .next <| s.runCmd 0x0332 k fun a s =>
    let p : Phys := finOf 136 (byteAt a 0)
    (s.statusReply (s.ln p).selftest (s.txRecord p), if bitOf (byteAt a 1) 0 then s.modTxDiag p fun _ => {} else s)

/-- LANE.SWAP_TX_PALETTE (R130). -/
def execLaneSwapTxPalette (k : Sess) (s : State) : Host.Outcome State Fault Refusal :=
  .next <| s.runCmd 0x0333 k fun a s =>
    let p : Phys := finOf 136 (byteAt a 0)
    let w : Swap := { exp := byteAt a 2, tag := BitVec.ofNat 16 (fieldLE a 4 2) }
    let m := s.modeOf p
    if (s.ln p).selftest then (s.busyTest, s)
    else if m = .steady ∨ m = .transparent ∨ m = .tune ∨ m = .loop then
      let r := s.txSwap p w
      (replyOk (leBytes 1 r.1), r.2)
    else (refuse .badState, s.txPalette p w.tag 5 (s.txSym p))

/-- LANE.SET_PREDISTORT (R129): a table still staged is replaced and reported SUPERSEDED (CODE 1). -/
def execLaneSetPredistort (k : Sess) (s : State) : Host.Outcome State Fault Refusal :=
  .next <| s.runCmd 0x0334 k fun a s =>
    let p : Phys := finOf 136 (byteAt a 0)
    let pd : Vector Int 64 := Vector.ofFn fun i : Fin 64 => toSigned 9 (fieldLE a (4 + 2 * i.val) 2)
    s.guarded [((s.ln p).selftest, s.busyTest)] fun s =>
      let s := if (s.txl p).pdStaged.isSome then s.raiseP .txPdApplied p 1 ((s.txSym p).toNat % 2 ^ 32) else s
      (replyOk, s.modTx p fun t => { t with pdStaged := some pd })

/-- LANE.SET_TX_BURST (R148, R136): the OPEN parameters wait for the next burst chosen. -/
def execLaneSetTxBurst (k : Sess) (s : State) : Host.Outcome State Fault Refusal :=
  .next <| s.runCmd 0x0335 k fun a s =>
    let st := fieldLE a 10 2
    s.forAllSel (decide (byteAt a 0 = 255)) (selAll 128 (byteAt a 0))
      (fun w => match s.physOf w with
        | some p => if (s.ln p).selftest then some s.busyTest else none
        | none => none)
      (fun w s => s.modTxw w fun t => { t with
        staged := some { cwMax := byteAt a 1, backoffJ := byteAt a 2, beMax := byteAt a 3, attemptLimit := byteAt a 4,
                         openHold := fieldLE a 6 2, openGap := fieldLE a 8 2 }
        resync := if st = 16383 ∨ t.resync.contains st then t.resync else t.resync ++ [st] })

/-- TX_SETTING_APPLY (R128): in SLOTTED and OPEN only at zero scale between bursts. -/
def execTxSettingApply (p : Phys) (s : State) : Host.Outcome State Fault Refusal :=
  .next <|
    if burstMode (s.modeOf p) ∧ (s.txl p).state = .sending then s
    else s.modTx p fun t => match t.staged with
      | some (g, k) => { t with swing := g, skew := k, staged := none }
      | none => t

/-- Apply a staged predistortion table (R129). -/
def State.applyPd (s : State) (p : Phys) (sym : Sym) : State :=
  match (s.txl p).pdStaged with
  | none => s
  | some pd =>
    ((s.modTx p fun t => { t.keepShape sym with pd := pd, pdStaged := none }).modTxDiag p fun d =>
      { d with pdApplied := satW 16 (d.pdApplied + 1) }).raiseP .txPdApplied p 0 (sym.toNat % 2 ^ 32)

/-- A transmit symbol is the first to carry a bit of an outer codeword of the run that leads to the next boundary (R129). -/
def TxLane.cwStarts (t : TxLane) (sym : Sym) : Bool :=
  let o := (sym - (t.boundary - BitVec.ofNat 48 runSymbols)).toNat
  (List.range 4096).any fun k => decide (cwSymbol k = o)

/-- A symbol on which a staged table may come into force (R129). SPARE is not named by the rule and follows TRANSPARENT, TUNE and
LOOP (DESIGN CHOICE, log 91). -/
def State.mayApplyPd (s : State) (p : Phys) (sym : Sym) : Bool :=
  let m := s.modeOf p
  if m = .steady then (s.txl p).cwStarts sym
  else decide ((m = .transparent ∨ m = .tune ∨ m = .loop ∨ m = .spare) ∧ sym.toNat % 4096 = 0)

/-- PREDISTORT_APPLY on a symbol of the current CK_MGMT cycle (R129): STEADY at an outer codeword, TRANSPARENT, TUNE and LOOP at a
multiple of 4,096; SLOTTED and OPEN apply it at BURST_SEND_START. -/
def execPredistortApply (p : Phys) (sym : Sym) (s : State) : Host.Outcome State Fault Refusal :=
  .next <| if s.symNow p sym ∧ s.mayApplyPd p sym then s.applyPd p sym else s

/-- TX_FADE_START (R130). -/
def execTxFadeStart (p : Phys) (s : State) : Host.Outcome State Fault Refusal :=
  let sym := s.txSym p
  .next <| match (s.txl p).fade with
    | some f => if f.started then s
        else (s.modTx p fun t => { t with fade := some { f with started := true, start := sym } }).txPalette p f.swap.tag 0 sym
    | none => s

/-- TX_FADE_MIDPOINT (R130): α has exceeded one half, and P_T becomes the new palette's. -/
def execTxFadeMidpoint (p : Phys) (s : State) : Host.Outcome State Fault Refusal :=
  .next <| match (s.txl p).fade with
    | some f =>
      let x := s.txFadeSteps p f
      if f.started ∧ x.2 < 2 * x.1 then s.modTx p fun t => { t with fade := some { f with past := true } } else s
    | none => s

/-- TX_FADE_END (R130, Table 2-8): α has reached 1. -/
def execTxFadeEnd (p : Phys) (s : State) : Host.Outcome State Fault Refusal :=
  .next <| match (s.txl p).fade with
    | some f =>
      let x := s.txFadeSteps p f
      if f.started ∧ x.1 = x.2 then s.txFadeEnd p else s
    | none => s

/-! Faults. -/

/-- TX_DRIVER_FAULT (R131, Table 5-3 code 5): `kind` 0 over-current, 1 compliance, 2 VDD_HS low; `present` false tells that
the fault has cleared, which ends nothing by itself. -/
def execTxDriverFault (p : Phys) (kind : Nat) (present : Bool) (s : State) : Host.Outcome State Fault Refusal :=
  .next <|
    if ¬ present then s.modTx p fun t => { t with faultNow := false }
    else if (s.txl p).faultNow then s
    else
      let s := (s.cutRun p).modTx p fun t => { t with fault := true, faultNow := true, faultDue := true }
      (((s.cutBurst p).raiseP .txFault p kind).urgent 2 p.val).settleBurstEnd p

/-- TX_FAULT_DECLARATION (R182, R469). -/
def execTxFaultDeclaration (p : Phys) (s : State) : Host.Outcome State Fault Refusal :=
  .next <|
    if (s.txl p).faultDue then (s.modTx p fun t => { t with faultDue := false }).declareFail p .txFault none else s

/-! TRANSPARENT (R133). -/

/-- TRANSPARENT_START: the buffer holds 512 bytes. -/
def execTransparentStart (p : Phys) (s : State) : Host.Outcome State Fault Refusal :=
  .next <|
    if s.modeOf p = .transparent ∧ ¬ (s.txl p).elasticOn ∧ 512 ≤ (s.txl p).elastic.length then
      s.modTx p fun t => { t with elasticOn := true }
    else s

/-- TRANSPARENT_UNDERRUN: the buffer has emptied; the keystream of the fill restarts with the underrun. -/
def execTransparentUnderrun (p : Phys) (s : State) : Host.Outcome State Fault Refusal :=
  let t := s.txl p
  .next <|
    if s.modeOf p = .transparent ∧ (t.dry ∨ (t.elasticOn ∧ t.elastic = [])) then
      (s.modTx p fun t =>
        if t.elasticOn then { t with elasticOn := false, dry := false, keys := 2 ^ 31 - 1 } else { t with dry := false }).raiseP
          .txUnderrun p
    else s

/-! Superframes (R109, R110, R113, R134). -/

/-- SENDER and DEST of the markers a path sends (R111, R113, R183, the text before R182). -/
def State.markerIds (s : State) (p : Phys) : Nat × Nat :=
  match s.rxWork p with
  | some w =>
    let st := (s.wk w).station
    if s.modeOf p = .loop then (st, st) else (st, (s.wk w).fec.peer)
  | none => (16383, 16383)

/-- SUPERFRAME_BOUNDARY: the run that ends is accounted for as a whole, and an alignment marker follows (R134). The first one in a
mode or after zero scale ends no run; each later one acts when its transmit symbol has come (R110). -/
def execSuperframeBoundary (p : Phys) (bad : Option (Nat × Nat × BitVec 42)) (s : State) : Host.Outcome State Fault Refusal :=
  let t := s.txl p
  let first := decide (t.marker = 0)
  .next <|
    if ¬ superframes (s.modeOf p) then s
    else if s.zeroScale p then (s.endLine p).modTx p fun t => { t with marker := 0, rest := [] }
    else if ¬ first ∧ ¬ s.symDue p t.boundary then s
    else
      let start := if first then s.txSym p else t.boundary
      let s := if first then s.modTx p fun t => { t with rest := [], lastSent := [], line := [], shapes := [] } else s.endRun p runBytes 4096 bad
      let ids := s.markerIds p
      let run := (s.txl p).line
      let a := withCrc (((ids.1 * 2 ^ 14 + ids.2) * 2 ^ 12 + (s.txl p).run.toNat) * 2 ^ 16 + (s.txl p).rest.length * 2)
      let s := s.modTx p fun t => { t with marker := a, boundary := start + BitVec.ofNat 48 superframeSymbols }
      (s.putLine p (start - BitVec.ofNat 48 run.length) t.line (run ++ markerLine a)).dacTrim p

/-! Bursts (R136–R138, R144, R145, Table 5-9). -/

/-- A station is named as a destination: the first time it enters the cold-pending set (R137). -/
def TxWork.name (t : TxWork) (d : Nat) : TxWork :=
  if t.named.contains d then t
  else { t with named := t.named ++ [d], coldPending := if t.coldPending.contains d then t.coldPending else t.coldPending ++ [d] }

/-- The images from the front that fit in n codewords together. -/
def takeFit (room : Nat) : List Image → List Image
  | [] => []
  | i :: r => let b := wireSize i.lineType i.linePayload.length; if b ≤ room then i :: takeFit (room - b) r else []

/-- Read every chosen image. -/
def State.readImages (s : State) (w : Work) (k : Nat) (bad : Option (Nat × Nat × BitVec 42)) : List Image → List Image × State
  | [] => ([], s)
  | i :: r =>
    let x := s.readImage w k i bad
    let y := x.2.readImages w (k + 1) bad r
    (x.1 :: y.1, y.2)

/-- Smallest codeword count whose frame stream holds n bytes. -/
def cwFor (n : Nat) : Nat := ((List.range 256).find? fun k => decide (n ≤ streamBytes k)).getD 255

/-- Fix a burst's contents (R136, R138): the destination, the preamble, RESYNC, the largest codeword counts, FULL fill. -/
def State.freeze (s : State) (p : Phys) (w : Work) (dest : Nat) (cold resync full : Bool) (nmax : Nat)
    (bad : Option (Nat × Nat × BitVec 42)) : State :=
  let chosen := takeFit (streamBytes nmax) ((s.wk w).toSend dest)
  let ack := decide (chosen = []) && (s.wk w).ackDue dest && decide (1 ≤ nmax)
  let r := s.readImages w 0 bad chosen
  let s := r.2
  let frames := if ack then [s.ackFrame w dest] else r.1.map (s.imageFrame w)
  let n := if ack then 1 else if chosen = [] then 0 else if full then nmax else cwFor ((frames.map fun f => f.bytes.length).sum)
  let retx := match chosen with | i :: _ => i.sent | [] => false
  let asked := (s.wk w).tx.resync.contains dest
  let mark := resync || asked
  let num := (tabGet (s.wk w).tx.burstNum dest).getD 0
  let h := withCrc (((((((((s.wk w).station * 2 ^ 14 + dest) * 2 ^ 12 + num) * 2 ^ 8 + n) * 2 ^ 4) * 2 + cold.toNat) * 2 +
    mark.toNat) * 2 + retx.toNat) * 2)
  let b : TxBurst := { dest := dest, num := num, cold := cold, resync := mark, asked := asked, retx := retx, cwCount := n, frames := frames,
                       firstSeq := (chosen.head?).map (·.seq), header := h }
  let s := if n = 0 then s else s.ackSent w dest
  let s := match chosen.getLast? with
    | some i => s.modWork w fun u => { u with txCtx := match tabGet u.txCtx dest with
        | some c => tabSet u.txCtx dest { c with sendPtr := i.seq + 1 }
        | none => u.txCtx }
    | none => s
  let s := s.modTxw w fun t => { t with resync := t.resync.filter fun d => decide (d ≠ dest) }
  s.modTx p fun t => { t with state := .frozen, burst := some b, guardDone := true }

/-- A transmit slot the lane cannot use (R141, R145, R308, R316). -/
def State.skipSlot (s : State) (p : Phys) (slot : Nat) : State :=
  (s.modTxDiag p fun d => { d with skipped := satW 16 (d.skipped + 1) }).raiseP .txSlotSkipped p 0 slot

/-- The lane may not send: a protection condition, no station ID, or a move that has taken its source away. -/
def State.mayBurst (s : State) (p : Phys) (w : Work) : Bool := !s.protectedLow p && decide ((s.wk w).station ≠ 16383)

/-- Expected preamble start of a transmit slot in the epoch, in full-rate symbol periods (R144). -/
def Schedule.txStart (c : Schedule) (rate k : Nat) : Nat := (c.txDelay + k * c.slotLen + c.preOffset) * 2 ^ rate

/-- BURST_FREEZE of a slot, 2,048 symbols before its expected preamble start (R138, R144, R145). -/
def execBurstFreeze (p : Phys) (slot : Nat) (entry : BitVec 42) (bad : Option (Nat × Nat × BitVec 42))
    (s : State) : Host.Outcome State Fault Refusal :=
  .next <| match s.workOf p with
    | none => s
    | some w =>
      let c := (s.wk w).tx.active
      let e := c.entry slot
      let rate := (s.rxl p).rate
      let start := c.txStart rate slot
      if ¬ s.epochAt (start - 2048 * 2 ^ rate) then s else
      let read := decide (s.modeOf p = .slotted ∧ slot < c.slots)
      let r := if read then s.unitRead arrFabric (scheduleWord w c.bank slot) 1 (some (0, entry)) else ([], s)
      let s := r.2
      if r.1 ≠ [] then s.skipSlot p slot
      else if s.modeOf p ≠ .slotted ∨ c.slots ≤ slot ∨ ¬ entryTxEn e then s
      else if s.epoch.lost ∨ (s.txl p).state ≠ .idle ∨ (s.ln p).power ≠ .active ∨ (s.ln p).resetting then s.skipSlot p slot
      else if ¬ s.mayBurst p w then s
      else
        let dest := entryDest e
        let s := s.modTxw w fun t => t.name dest
        let pending := (s.wk w).tx.coldPending.contains dest
        let want := entryTxCold e || pending
        let cold := want && decide (4320 ≤ c.space)
        let eligible := decide ((s.wk w).toSend dest ≠ []) || (s.wk w).ackDue dest
        if eligible || entryProbe e || pending then
          (s.freeze p w dest cold (want && !cold) c.full (nMax cold c.space) bad).modTx p fun t => { t with
            burst := t.burst.map fun b => { b with sendAt := start } }
        else s

/-- The images of a burst's frames are on the line: they count as sent, and their timer runs (R169). -/
def State.sentFrames (s : State) (w : Work) (dest : Nat) (frames : List LineFrame) : State :=
  let seqs := (frames.filter fun f => decide ((frameHdr f.header).type ≠ 2)).map fun f => (frameHdr f.header).seq
  if seqs = [] then s
  else s.modWork w fun u =>
    let again := (u.images.filter fun i => decide (i.dest = dest) && !i.released && i.sent && seqs.contains i.seq).length
    { u with
      images := u.images.map fun i => if i.dest = dest ∧ ¬ i.released ∧ seqs.contains i.seq then { i with sent := true } else i,
      txCtx := match tabGet u.txCtx dest with
        | some c => tabSet u.txCtx dest { c with rtoOn := (u.retainedFor dest) ≠ [], used := s.now }
        | none => u.txCtx,
      counts := { u.counts with retx := satW 32 (u.counts.retx + again) } }

/-- BURST_SEND_START at the expected preamble start or the end of the guard (Table 5-9). -/
def execBurstSendStart (p : Phys) (s : State) : Host.Outcome State Fault Refusal :=
  .next <| match s.workOf p, (s.txl p).burst with
    | some w, some b =>
      if (s.txl p).state ≠ .frozen ∨ (s.ln p).resetting ∨ ¬ s.mayBurst p w ∨ (s.modeOf p = .slotted ∧ ¬ s.epochAt b.sendAt) then s
      else
        let ahead := if s.modeOf p = .slotted then (b.sendAt - s.epochSymbols) / 2 ^ (s.rxl p).rate else 0
        let sym := s.txSym p + BitVec.ofNat 48 ahead
        let s := s.applyPd p sym
        let stream := b.frames.flatMap LineFrame.bytes
        let line := burstLine b.cold b.header b.cwCount stream
        let s := s.modTx p fun t => { t with
          state := .sending, lastSent := b.frames, line := line, lineAt := sym, shapes := [] }
        let s := s.modTxw w fun t => { t with
          burstNum := tabSet t.burstNum b.dest ((b.num + 1) % 4096),
          coldPending := if b.cold then t.coldPending.filter fun d => decide (d ≠ b.dest) else t.coldPending,
          dests := tabUpd t.dests b.dest {} fun d => { d with held := false } }
        s.sentFrames w b.dest b.frames
    | _, _ => s

/-- BURST_SEND_END (Table 5-9, R135). -/
def execBurstSendEnd (p : Phys) (s : State) : Host.Outcome State Fault Refusal :=
  .next <| match (s.txl p).burst with
    | none => s
    | some b =>
      if (s.txl p).state ≠ .sending then s
      else
        let x := s.txl p
        let s := s.endBurstLine p (x.lineAt + BitVec.ofNat 48 x.line.length)
        let s := s.modTx p fun t => { t with state := .idle, burst := none, guardDone := false }
        let data := (b.frames.filter fun f => decide ((frameHdr f.header).type ≠ 2)).length
        let s := s.modTxDiag p fun d => { d with
          bursts := satW 32 (d.bursts + 1), coldBursts := satW 16 (d.coldBursts + b.cold.toNat),
          probes := satW 16 (d.probes + (decide (b.cwCount = 0)).toNat), cwSent := satW 32 (d.cwSent + b.cwCount),
          framesSent := satW 32 (d.framesSent + data) }
        ((s.dacTrim p).settleBurstEnd p).settleReset p

/-! Epochs (R140–R142, R146). -/

/-- An epoch's start ends the slots of the epoch before on a SLOTTED lane: unstarted slots are skipped and a burst frozen or
being sent is cut (R142). A receive window still open ends with them. -/
def State.endSlots (s : State) (lost : Bool) (w : Work) : State :=
  match s.physOf w with
  | none => s
  | some p =>
    if s.modeOf p ≠ .slotted then s
    else
      let c := (s.wk w).tx.active
      let s := s.modAcq p fun a => { a with rxWindow := none }
      let left := if lost then 0 else c.slots - s.slotsStarted c (s.rxl p).rate
      let s := s.modTxDiag p fun d => { d with skipped := satW 16 (d.skipped + left) }
      if (s.txl p).burst.isSome then
        (((s.cutBurst p).modTxDiag p fun d => { d with cuts := satW 16 (d.cuts + 1) }).raiseP .schedEpochShort p).settleBurstEnd p
      else s

/-- An epoch number has been reached, modulo 2^32. -/
def reached (target now : BitVec 32) : Bool := decide ((now - target).toNat < 2 ^ 31)

/-- Swaps and mode changes of a lane at an epoch started by a pulse (R146). -/
def State.swapLane (s : State) (w : Work) : State :=
  let n := s.epoch.epoch
  let s := match (s.wk w).tx.armed with
    | some (e, _) => if ¬ reached e n then s
        else (s.modTxw w fun t => { t with active := t.shadow, shadow := t.active, armed := none, loaded := true }).raiseW
          .schedSwapped w 0 n.toNat
    | none => s
  match s.physOf w with
  | none => s
  | some p =>
    match (s.ln p).change with
    | some (.epoch m e _) => if ¬ reached e n then s
        else ((s.modLane p fun l => { l with change := none }).setMode p m).raiseP .schedSwapped p m.code n.toNat
    | _ => s

/-- FABSYNC_EDGE: a rising edge starts an epoch; `offset` is its distance from the prediction in full-rate symbol periods
(R140–R142, R146). -/
def execFabsyncEdge (offset : Int) (s : State) : Host.Outcome State Fault Refusal :=
  let e := s.epoch
  .next <|
    let s := s.each workAll fun w s => s.endSlots e.lost w
    let now := s.now
    let s := s.modEpoch fun e => { e with epoch := e.epoch + 1, flyCount := 0, lost := false, flywheel := false, start := now }
    let s := if e.period ≠ 0 ∧ e.fsTol < offset.natAbs then s.raise .schedFabsyncSlip 0xFFFF else s
    s.each workAll fun w s => s.swapLane w

/-- Transmit slots of a new flywheel epoch whose freeze point lies before the decision (R141). -/
def State.lateSlots (s : State) (w : Work) : State :=
  match s.physOf w with
  | none => s
  | some p =>
    if s.modeOf p ≠ .slotted then s
    else
      let c := (s.wk w).tx.active
      let late (k : Nat) : Bool := entryTxEn (c.entry k) &&
        decide ((c.txDelay + k * c.slotLen + c.preOffset) * 2 ^ (s.rxl p).rate < s.epoch.fsTol + 2048 * 2 ^ (s.rxl p).rate)
      s.each ((List.range c.slots).filter late) fun k s => s.skipSlot p k

/-- FABSYNC_MISS_DECISION (R141): a flywheel epoch that started at the prediction; the FLY_LIMIT-th in a row declares
FABSYNC lost. -/
def execFabsyncMissDecision (s : State) : Host.Outcome State Fault Refusal :=
  let e := s.epoch
  .next <|
    if e.period = 0 ∨ e.lost then s
    else
      let s := s.each workAll fun w s => s.endSlots false w
      let n := e.flyCount + 1
      let lost := decide (e.flyLimit ≤ n)
      let start := s.now - BitVec.ofNat 64 (e.fsTol / 512)
      let s := s.modEpoch fun e => { e with epoch := e.epoch + 1, flywheel := true, flyCount := n, lost := lost, start := start }
      let s := s.raise .schedFabsyncMiss 0xFFFF
      let s := if lost then s.raise .schedFabsyncLoss 0xFFFF else s
      s.each workAll fun w s => s.lateSlots w

/-- ARM_DEADLINE of an armed swap or, with `change`, of a pending change between SLOTTED and OPEN (R146). -/
def execArmDeadline (w : Work) (change : Bool) (s : State) : Host.Outcome State Fault Refusal :=
  .next <|
    if ¬ change then s.modTxw w fun t => { t with armed := t.armed.map fun x => (x.1, true) }
    else match s.physOf w with
      | some p => s.modLane p fun l => { l with change := match l.change with
          | some (.epoch m e _) => some (.epoch m e true)
          | c => c }
      | none => s

/-- The next epoch whose deadline is still open (R146): the deadline is the start of the last transmit slot of the epoch
before, or that epoch's start when no schedule runs in it; in the cycle of the deadline the target is still open. -/
def State.nextTarget (s : State) (w : Work) : BitVec 32 :=
  let runs := decide (s.modeOfWork w = .slotted) && (s.physOf w).isSome && !s.epoch.lost
  let c := (s.wk w).tx.active
  let rate := match s.physOf w with | some p => (s.rxl p).rate | none => 0
  let last := if runs then (c.txDelay + (c.slots - 1) * c.slotLen) * 2 ^ rate else 0
  if s.epochSymbols ≤ last then s.epoch.epoch + 1 else s.epoch.epoch + 2

/-! Schedules (R143, R146, R393). -/

/-- SCHED.SET_EPOCH (R140). -/
def execSchedSetEpoch (k : Sess) (s : State) : Host.Outcome State Fault Refusal :=
  .next <| s.runCmd 0x0401 k fun a s =>
    (replyOk, s.modEpoch fun e => { e with period := fieldLE a 0 4, fsTol := fieldLE a 4 2, flyLimit := byteAt a 6 })

/-- Words of a byte string. -/
def wordsOf (n : Nat) (bs : Bytes) : List Word := (List.range n).map fun i => BitVec.ofNat 32 (fieldLE bs (4 * i) 4)

/-- A working lane's physical lane is under self-test. -/
def State.workTest (s : State) (w : Work) : Bool :=
  match s.physOf w with
  | some p => (s.ln p).selftest
  | none => false

/-- SCHED.LOAD (R393): BUSY for an armed shadow. -/
def execSchedLoad (k : Sess) (s : State) : Host.Outcome State Fault Refusal :=
  .next <| s.runCmd 0x0402 k fun a s =>
    let w : Work := finOf 128 (byteAt a 0)
    let first := fieldLE a 2 2
    let count := fieldLE a 4 2
    let part (c : Schedule) : Schedule :=
      if byteAt a 1 = 0 then { c with header := Vector.ofFn fun i : Fin 8 => BitVec.ofNat 32 (fieldLE a (8 + 4 * i.val) 4) }
      else { c with entries := ((wordsOf count (a.drop 8)).zipIdx).foldl (fun m x => tabSet m (first + x.2) x.1) c.entries }
    s.guarded [(s.workTest w, s.busyTest), ((s.wk w).tx.armed.isSome, refuse .busy)] fun s =>
      let bank := (s.wk w).tx.shadow.bank
      let s := if byteAt a 1 = 0 then s else s.each (List.range count) fun i s => s.unitWrite arrFabric (scheduleWord w bank (first + i)) 1
      (replyOk, s.modTxw w fun t => { t with shadow := part t.shadow })

/-- A schedule without an entry that sends or expects a burst (R316). -/
def Schedule.silent (c : Schedule) : Bool :=
  (List.range c.slots).all fun k => !entryTxEn (c.entry k) && !entryRxEn (c.entry k)

/-- SCHED.ARM (R143, R146). -/
def execSchedArm (k : Sess) (s : State) : Host.Outcome State Fault Refusal :=
  .next <| s.runCmd 0x0403 k fun a s =>
    let w : Work := finOf 128 (byteAt a 0)
    let c := (s.wk w).tx.shadow
    let next := s.nextTarget w
    let named := BitVec.ofNat 32 (fieldLE a 4 4)
    let target := if byteAt a 1 = 0 then next else named
    let late : Bool := match (s.wk w).tx.armed with
      | some (_, l) => l
      | none => false
    let rate := match s.physOf w with | some p => (s.rxl p).rate | none => 0
    let bad := s.schedFault c rate
    s.guarded [(s.workTest w, s.busyTest), (late, refuse .busy), (!reached next target, refuse .badState),
        (bad.isSome, refuse .badArg (0x80000000 + bad.getD 0))]
      fun s =>
        let s := s.modTxw w fun t => { t with armed := some (target, false) }
        let s := match s.physOf w with
          | some p => if c.silent then s else s.startDozeExit p 1
          | none => s
        (replyOk (leBytes 4 target.toNat), s)

/-- SCHED.DISARM (R146); with nothing armed it returns OK. -/
def execSchedDisarm (k : Sess) (s : State) : Host.Outcome State Fault Refusal :=
  .next <| s.runCmd 0x0404 k fun a s =>
    let w : Work := finOf 128 (byteAt a 0)
    let late : Bool := match (s.wk w).tx.armed with
      | some (_, l) => l
      | none => false
    s.guarded [(s.workTest w, s.busyTest), (late, refuse .badState)] fun s =>
      (replyOk, s.modTxw w fun t => { t with armed := none })

/-- The record SCHED.GET_STATUS answers (R393). -/
def State.schedRecord (s : State) (w : Work) : Bytes :=
  let t := (s.wk w).tx
  let target : Nat := match t.armed with
    | some (e, _) => e.toNat
    | none => 0
  leBytes 1 w.val ++ leBytes 1 (packBits [(1, t.armed.isSome.toNat), (1, s.epoch.lost.toNat), (1, s.epoch.flywheel.toNat)]) ++
    leBytes 2 t.active.slots ++ leBytes 4 s.epoch.epoch.toNat ++ leBytes 4 target ++ zeros 4 ++
    leBytes 8 s.epoch.start.toNat ++ leBytes 1 (nMax false t.active.space) ++ leBytes 1 (nMax true t.active.space) ++ zeros 6

/-- SCHED.GET_STATUS (R393). -/
def execSchedGetStatus (k : Sess) (s : State) : Host.Outcome State Fault Refusal :=
  .next <| s.runCmd 0x0405 k fun a s =>
    let w : Work := finOf 128 (byteAt a 0)
    (s.statusReply (s.workTest w) (s.schedRecord w), s)

/-- SCHED.READ (R393). -/
def execSchedRead (k : Sess) (s : State) : Host.Outcome State Fault Refusal :=
  .next <| s.runCmd 0x0406 k fun a s =>
    let w : Work := finOf 128 (byteAt a 0)
    let t := (s.wk w).tx
    let c := if byteAt a 1 = 0 then t.active else t.shadow
    let first := fieldLE a 2 2
    let count := fieldLE a 4 2
    s.guarded [(decide (1024 < first + count), badArg 2)] fun s =>
      (s.statusReply (s.workTest w) (c.headerBytes ++ c.entryBytes first count), s)

/-! OPEN (R148–R150). -/

/-- Ready conditions of a destination (R149). -/
def WorkLane.ready (u : WorkLane) (d : Nat) : Bool :=
  let o := (tabGet u.tx.dests d).getD {}
  let l := u.toSend d
  !o.backoff &&
    (decide (streamBytes u.tx.cwMax ≤ (l.map fun i => wireSize i.lineType i.linePayload.length).sum) ||
     (l.any fun i => !i.sent) && (o.held || decide (u.tx.openHold = 0)) ||
     (l.any fun i => i.sent) || ((tabGet u.acks d).getD {}).standalone || u.tx.coldPending.contains d)

/-- Destinations a lane may have something for, in ascending order. -/
def WorkLane.candidates (u : WorkLane) : List Nat :=
  sortBy id ((u.txCtx.map (·.1) ++ u.acks.map (·.1) ++ u.tx.coldPending).eraseDups)

/-- The next ready destination after the last one served, with wrap-around. -/
def WorkLane.nextReady (u : WorkLane) : Option Nat :=
  let l := u.candidates.filter u.ready
  match l.find? (fun d => decide (u.tx.lastDest < d ∧ u.tx.lastDest ≠ 16383)) with
  | some d => some d
  | none => l.head?

/-- OPEN_BURST_CHOICE once the guard has elapsed (R149, R138), by the OPEN parameters set last (R148). Bursts of OPEN use burst fill
FIT (DESIGN CHOICE, log 103: FILL is a field of the schedule header, and OPEN has no schedule). -/
def execOpenBurstChoice (p : Phys) (bad : Option (Nat × Nat × BitVec 42)) (s : State) : Host.Outcome State Fault Refusal :=
  .next <| match s.workOf p with
    | none => s
    | some w =>
      if s.modeOf p ≠ .openM ∨ (s.txl p).state ≠ .idle ∨ (s.ln p).power ≠ .active ∨ (s.ln p).resetting ∨ ¬ s.mayBurst p w then s
      else
        let s := s.modTx p fun t => { t with guardDone := true }
        let u := s.wk w
        match { u with tx := u.tx.settle }.nextReady with
        | none => s
        | some d =>
          let s := s.modTxw w fun t => { t.settle.name d with lastDest := d }
          let cold := (s.wk w).tx.coldPending.contains d
          s.freeze p w d cold false false (s.wk w).tx.cwMax bad

/-- OPEN_HOLD_EXPIRY (R149). -/
def execOpenHoldExpiry (w : Work) (dest : Nat) (s : State) : Host.Outcome State Fault Refusal :=
  .next <|
    if s.modeOfWork w = .openM ∧ ((s.wk w).toSend dest).any (fun i => !i.sent) then
      s.modTxw w fun t => { t with dests := tabUpd t.dests dest {} fun d => { d with held := true } }
    else s

/-- BACKOFF_EXPIRY (R150). -/
def execBackoffExpiry (w : Work) (dest : Nat) (s : State) : Host.Outcome State Fault Refusal :=
  .next <| s.modTxw w fun t => { t with dests := match tabGet t.dests dest with
    | some d => tabSet t.dests dest { d with backoff := false }
    | none => t.dests }

end Sys2Proof.Machine
end

