-- ==== Sys2Proof/Machine/Clocks.lean ====
section
/-!
DEFINITION. Meanings of the clock, reset, watchdog, lane and group power, and AVSBus rows (chapter 10, Table 13-11).
-/
namespace Sys2Proof.Machine

/-! Power-on reset and clocks. -/

/-- A power-on reset (R10, R306, Table 10-4): flash, OTP and what was fixed at manufacture stay, and with the flash's ageing
region the histories that its plans rest on, and the plan number and AVS target of its latest record. That SIG_REMAINING has fallen
below a limit follows from OTP (R411). -/
def State.powerOnReset (s : State) (internal : Bool) : State :=
  let kept : Nat × Nat := match s.age.ring with
    | r :: _ => (r.number, fieldLE r.bytes 0x10 2)
    | [] => (0, 0)
  let age : AgeUnit := { s.age with asked := false, deferred := false, writing := none, planNum := kept.1, avsTarget := kept.2 }
  let r := State.reset
  let r := { r with
    sec := { otp := s.sec.otp, made := s.sec.made, nextIndex := s.sec.nextIndex, low1024 := s.sec.low1024, low256 := s.sec.low256,
             flash := s.sec.flash },
    age := age, free := s.free, pending := s.pending }
  let r := r.modTherm fun t => { t with params := { t.params with threshold := if s.sec.made.gradeFx then 800 else 720 } }
  let r := r.modPins fun p => { s.sys.pins with
    porstLow := p.porstLow, ctlrstLow := s.sys.pins.ctlrstLow, hbeat := false, sclHeld := false }
  r.modClk fun c => { c with intPor := internal }

/-- PORST_N_ASSERT (R306). -/
def execPorstNAssert (s : State) : Host.Outcome State Fault Refusal := .next <| s.powerOnReset false

/-- Start-up begins with strap levels and the references that are valid; schedules take the default guard of the root the straps select
(R143, R292, R306). -/
def State.startUp (s : State) (straps : BitVec 4) (refclk fabclk : Bool) : State :=
  let s := (s.modPins fun p => { p with porstLow := false }).modClk fun c => { c with
    phase := .waitLock, straps := straps, refclkOk := refclk, fabclkOk := fabclk }
  { s with work := s.work.map fun u => { u with tx := u.tx.blank (straps.getLsbD 0) } }

/-- PORST_N_RELEASE: the straps are sampled and start-up begins (R292, R306); `refclk` and `fabclk` tell which references
are valid. -/
def execPorstNRelease (straps : BitVec 4) (refclk fabclk : Bool) (s : State) : Host.Outcome State Fault Refusal :=
  .next <| if s.sys.clk.phase ≠ .inReset then s else s.startUp straps refclk fabclk

/-- The selected reference is valid (STRAP1, R292). -/
def State.refOk (s : State) : Bool := if s.sys.clk.straps.getLsbD 1 then s.sys.clk.fabclkOk else s.sys.clk.refclkOk

/-- ROOT_PLL_LOCK (R294, R300, R333): at start-up DEVICE_TIME runs from 0 and every valid array is clear; in a wake
DEVICE_TIME waits for the first AON tick. -/
def execRootPllLock (s : State) : Host.Outcome State Fault Refusal :=
  .next <|
    if s.sys.clk.rootLock ∨ ¬ s.refOk then s
    else if s.sys.clk.phase = .waitLock then
      let s := s.modClk fun c => { c with phase := .locked, rootLock := true, counting := true, deviceTime := 0 }
      s.modSys fun u => { u with mem := { u.mem with arr := u.mem.arr.map (·.clearValid) } }
    else match s.sys.power.dormantPhase with
      | .waking _ =>
        if s.sys.clk.timebaseLock ∧ s.sys.avs.openReq.isNone then
          s.modClk fun c => { c with rootLock := true, waitTick := true } else s
      | _ => s

/-- TIMEBASE_LOCK (R294): the monitor timebase, which AVS_CLK divides. -/
def execTimebaseLock (s : State) : Host.Outcome State Fault Refusal :=
  .next <|
    if s.sys.clk.phase = .inReset ∨ ¬ s.refOk ∨ s.sys.power.dormantPhase = .dormant then s
    else s.modClk fun c => { c with timebaseLock := true }

/-- PLL_LOCK_LOSS with a valid reference (R296): an internal power-on reset, recorded in INT_POR; start-up follows with the
same strap levels. -/
def execPllLockLoss (s : State) : Host.Outcome State Fault Refusal :=
  .next <|
    if ¬ s.sys.clk.rootLock ∨ ¬ s.refOk then s
    else
      let c := s.sys.clk
      (s.powerOnReset true).startUp c.straps c.refclkOk c.fabclkOk

/-- An input is the selected reference. -/
def State.selected (s : State) (fab : Bool) : Bool := s.sys.clk.straps.getLsbD 1 == fab

/-- REF_LOSS of FABCLK or REFCLK (R295). -/
def execRefLoss (fab : Bool) (s : State) : Host.Outcome State Fault Refusal :=
  .next <|
    let was := if fab then s.sys.clk.fabclkOk else s.sys.clk.refclkOk
    let s := s.modClk fun c => if fab then { c with fabclkOk := false } else { c with refclkOk := false }
    if was ∧ s.selected fab ∧ s.sys.clk.phase ≠ .inReset then
      let s := s.modClk fun c => { c with refLost := true }
      if s.sys.clk.rootLock then (s.modClk fun c => { c with holdover := true }).raise .clkRefLoss else s
    else s

/-- REF_VALID of FABCLK or REFCLK (R295): 10 ms without a loss condition. -/
def execRefValid (fab : Bool) (s : State) : Host.Outcome State Fault Refusal :=
  .next <|
    let s := s.modClk fun c => if fab then { c with fabclkOk := true } else { c with refclkOk := true }
    if s.selected fab ∧ s.sys.clk.holdover then (s.modClk fun c => { c with holdover := false }).raise .clkRefRestored else s

/-- AON_FALLBACK_SWITCH at a tick boundary (R299). -/
def execAonFallbackSwitch (s : State) : Host.Outcome State Fault Refusal :=
  .next <|
    if s.sys.clk.phase = .inReset ∨ s.sys.clk.aonFallback = !s.sys.clk.refclkOk then s
    else
      let lost := !s.sys.clk.refclkOk
      (s.modClk fun c => { c with aonFallback := lost }).raise (if lost then .clkAonFallback else .clkAonRestored)

/-- CK_MGMT cycles of one AON tick (R293). -/
def State.tickRatio (s : State) : Nat := if s.standard then 2720 else 2904

/-- AON_TICK (R300, R325, R281). -/
def execAonTick (s : State) : Host.Outcome State Fault Refusal :=
  .next <|
    if s.sys.clk.phase = .inReset then s
    else
      let ratio := BitVec.ofNat 64 s.tickRatio
      let s := s.modClk fun c =>
        let k := c.aonTicks + 1
        if c.waitTick then
          let t := c.tickTime + (k - c.tickNum).setWidth 64 * ratio
          { c with aonTicks := k, deviceTime := t, waitTick := false, counting := true, tickTime := t, tickNum := k }
        else if c.counting then { c with aonTicks := k, tickTime := c.deviceTime, tickNum := k }
        else { c with aonTicks := k }
      let lane (l : LaneUnit) : LaneUnit := { l with res := l.res.tick l.power.code }
      let group (h : HostGroup) : HostGroup := { h with res := h.res.tick h.power.code }
      let s := { s with lane := s.lane.map lane, group := s.group.map group }
      let s := s.modPower fun p => { p with res := p.res.tick p.dev.code }
      s.modTherm fun t => { t with trimAon := match t.trimAon.due with
        | some d => { t.trimAon with code := d, due := none }
        | none => t.trimAon }

/-- CROSSING_TIMEOUT (R303): the crossing of a domain, and the session whose command waits on the transfer. -/
def execCrossingTimeout (domain : Nat) (k : Option Sess) (s : State) : Host.Outcome State Fault Refusal :=
  .next <|
    let s := s.raise .clkXingTimeout (Config.crossing domain)
    match k with
    | some k => if (s.sess k).cmd.isSome then s.respond k .timeout 0 [] else s
    | none => s

/-! Cores. -/

/-- WATCHDOG_EXPIRY (R310, R14). -/
def execWatchdogExpiry (c : Core) (s : State) : Host.Outcome State Fault Refusal := .next <| s.coreFails c 0

/-- CORE_REJOIN (R310); `discarded` transfers of its crossings were lost each way (R304). -/
def execCoreRejoin (c : Core) (discarded : Nat × Nat) (s : State) : Host.Outcome State Fault Refusal :=
  .next <| (s.coreRejoins c).openXing (3 * 2 ^ 14 + c.val) discarded

/-- HBEAT_TOGGLE (R311): in RUN or QUIET, without a trip; `served` tells whether a housekeeping engine has served the heartbeat within
the last 2 ms. -/
def execHbeatToggle (served : Bool) (s : State) : Host.Outcome State Fault Refusal :=
  .next <|
    if s.sys.power.dev ≠ .dormant ∧ ¬ s.tripped ∧ served ∧ (s.sys.clk.phase = .running ∨ s.sys.clk.phase = .noCount) then
      s.modPins fun p => { p with hbeat := !p.hbeat }
    else s

/-! Lane power states. -/

/-- A capture holds the flipbook. -/
def State.capturing (s : State) (p : Phys) : Bool :=
  let c := (s.rxl p).capture.status
  decide (c = .armed ∨ c = .filling ∨ c = .complete)

/-- Conditions of R315 that the state shows; `near`: a transmit slot's freeze point lies within the next 64 cycles. -/
def State.mayIdle (s : State) (p : Phys) (near : Bool) : Bool :=
  let m := s.modeOf p
  decide ((s.ln p).idleTimer ≠ 0) && decide ((s.ln p).power = .active) && !s.capturing p && !(s.ln p).resetWait &&
    !(s.ln p).resetting && (s.ln p).change.isNone &&
    (s.rxl p).fade.isNone && (s.rxl p).heldSwap.isNone && (s.txl p).fade.isNone && (s.txl p).heldSwap.isNone &&
    (if m = .spare then (s.txl p).idleZero && (s.moveOf p).isNone
     else burstMode m && decide ((s.txl p).state = .idle) && !(decide (m = .slotted) && near) &&
       (match s.workOf p with
        | some w => decide (m ≠ .openM) || ((s.wk w).nextReady.isNone && !((s.wk w).acks.any fun e => (s.wk w).ackDue e.1))
        | none => false))

/-- LANE_IDLE_TIMER_EXPIRY (R315, Table 9-10). -/
def execLaneIdleTimerExpiry (p : Phys) (near : Bool) (s : State) : Host.Outcome State Fault Refusal :=
  .next <| if s.mayIdle p near then (s.calAbort p).setLanePower p .idle 0 else s

/-- LANE_IDLE_EXIT (R315). -/
def execLaneIdleExit (p : Phys) (s : State) : Host.Outcome State Fault Refusal :=
  .next <| if (s.ln p).power = .idle then s.setLanePower p .active 3 else s

/-- LANE_DOZE_TIMER_EXPIRY (R316): bursts and captures end, loops freeze (R313). -/
def execLaneDozeTimerExpiry (p : Phys) (s : State) : Host.Outcome State Fault Refusal :=
  .next <| match s.workOf p with
    | none => s
    | some w =>
      if s.modeOf p = .slotted ∧ (s.ln p).power = .idle ∧ (s.ln p).dozeTimer ≠ 0 ∧ (s.wk w).tx.active.silent then
        ((s.abandonBursts p).captureAbort p .abortedMode).setLanePower p .doze 0
      else s

/-- LANE_DOZE_EXIT_DONE (R316), for the cause that started the exit (R329). -/
def execLaneDozeExitDone (p : Phys) (s : State) : Host.Outcome State Fault Refusal :=
  .next <|
    if (s.ln p).dozeExit then (s.modLane p fun l => { l with dozeExit := false }).setLanePower p .active (s.ln p).dozeCause else s

/-- QUIET_TIMER_EXPIRY (R319). -/
def execQuietTimerExpiry (s : State) : Host.Outcome State Fault Refusal :=
  .next <|
    let lanes := physAll.all fun p => decide ((s.ln p).power = .doze ∨ (s.ln p).power = .off)
    let groups := groupAll.all fun g => decide ((s.grp g).power ≠ .active)
    let calm := (physAll.all fun p => decide ((s.cal.lane[p.val]).state ≠ .running)) && s.sec.test.isNone
    if s.sys.power.dev = .run ∧ s.sys.power.quietTimer ≠ 0 ∧ lanes ∧ groups ∧ calm then s.setDev .quiet 0 else s

/-! Save slots. -/

/-- SAVE_SLOT_WRITTEN (R317, R318, R323): `scope` 0 lane, 1 group, 2 device. -/
def execSaveSlotWritten (scope idx : Nat) (s : State) : Host.Outcome State Fault Refusal :=
  .next <|
    match scope with
    | 0 =>
      let p : Phys := finOf 136 idx
      if (s.ln p).saving ∧ s.modeOf p = .dark ∧ (s.rxl p).state = .off then
        let s := s.writeSlot (laneSlot p)
        let s := s.captureAbort p .abortedMode
        let s := (s.modLane p fun l => { l with saving := false, slotValid := true, slotEmptied := false, saveCount := l.saveCount + 1 }).hotClear p
        ((s.modArr (arrHot p) (·.clearValid)).modArr (arrFlipbook p) (·.clearValid)).setLanePower p .off 2
      else s
    | 1 =>
      let g : Group := finOf 32 idx
      if (s.grp g).saving then
        let waiting := (s.grp g).powerSess
        let s := (s.saveGroup g).modGroup g fun h => { h with
          saving := false, state := .off, txIdle := false, rxIdle := false,
          idleSent := none, idleHeard := false, powerSess := none }
        (s.setGroupPower g .off 1).answerOpt waiting 0x0708 .ok 0 []
      else s
    | _ =>
      if s.sys.power.dormantPhase = .saving then
        let s := s.writeSlot deviceSlot
        let s := s.each blockRegs fun off s => s.sramWrite arrSave (blockWord off) (s.regWord .spi off)
        s.modPower fun p => { p with slotValid := true, saveCount := p.saveCount + 1 }
      else s

/-- LANE_OFF_EXIT_DONE (R317, R324): the slot is restored and the datapath powered. -/
def execLaneOffExitDone (p : Phys) (s : State) : Host.Outcome State Fault Refusal :=
  .next <|
    if ¬ (s.ln p).waking then s
    else
      let r := if (s.ln p).slotValid then s.readSlot (laneSlot p) else ([], s)
      let s := r.2.each r.1 fun off s => (s.slotPart p off (laneHit off)).raise .pwrRestoreError (pwrSrc 0 p.val) 0 off
      let s := if (s.ln p).slotEmptied then s.each [0, 1, 2, 3] fun k s => s.slotPart p (0x138 + 12 * k) fun _ => true else s
      (s.modLane p fun l => { l with waking := false, slotValid := false, slotEmptied := false }).setLanePower p .active 2

/-! AVSBus. -/

/-- AVS_ACK (R326): settling starts; a refused request leaves the voltage unchanged (R288), and a wake repeats it (R321). -/
def execAvsAck (refused : Bool) (s : State) : Host.Outcome State Fault Refusal :=
  .next <| match s.sys.avs.openReq with
    | none => s
    | some r =>
      if r.settling then s
      else if refused ∧ r.source = .wake then s.modAvs fun u => { u with wakeMisses := u.wakeMisses + 1 }
      else if refused then s.avsFailed r
      else s.modAvs fun u => { u with
        openReq := some { r with settling := true }, runSetpoint := if r.source = .plan then r.target else u.runSetpoint }

/-- AVS_ACK_TIMEOUT (R326, R321): the request is repeated once, in a wake until it is acknowledged. -/
def execAvsAckTimeout (s : State) : Host.Outcome State Fault Refusal :=
  .next <| match s.sys.avs.openReq with
    | none => s
    | some r =>
      if r.settling then s
      else if r.source = .wake then s.modAvs fun u => { u with wakeMisses := u.wakeMisses + 1 }
      else if r.missed = 0 then s.modAvs fun u => { u with openReq := some { r with missed := 1 } }
      else (s.raise .pwrAvsTimeout (pwrSrc 2 0)).avsFailed r

/-- AVS_SETTLE_EXPIRY (R326): the device relies on the new voltage. -/
def execAvsSettleExpiry (s : State) : Host.Outcome State Fault Refusal :=
  .next <| match s.sys.avs.openReq with
    | none => s
    | some r =>
      if ¬ r.settling then s
      else
        let n := s.sys.avs.wakeMisses
        let s := (s.modAvs fun u => { u.close with volts := r.target }).raise .pwrAvsDone (pwrSrc 2 0) 0 r.target
        if r.source = .wake ∧ n ≠ 0 then
          (s.modAvs fun u => { u with wakeMisses := 0 }).raise .pwrAvsTimeout (pwrSrc 2 0) 0 n
        else s

/-! Commands. -/

/-- POWER.SET_TIMERS (R314). -/
def execPowerSetTimers (k : Sess) (s : State) : Host.Outcome State Fault Refusal :=
  .next <| s.runCmd 0x0D01 k fun a s =>
    let i := byteAt a 1
    let t1 := fieldLE a 4 4
    let t2 := fieldLE a 8 4
    match byteAt a 0 with
    | 0 => s.forAllSel (decide (i = 255)) (selAll 136 i) (fun p => if (s.ln p).selftest then some s.busyTest else none)
        (fun p s => s.modLane p fun l => { l with idleTimer := t1, dozeTimer := t2 })
    | 1 => s.forAllSel (decide (i = 255)) (selAll 32 i) (fun _ => none)
        (fun g s => s.modGroup g fun h => { h with idleTimer := t1 })
    | _ => (replyOk, (s.modPower fun p => { p with quietTimer := t1 }).modAvs fun u => { u with
        dormantVcore := fieldLE a 12 2, settle := fieldLE a 14 2 })

/-- Response of POWER.GET_RESIDENCY for one unit. -/
def Residency.bytes (r : Residency) : Bytes :=
  leBytes 1 r.ticks.length ++ zeros 1 ++ leBytes 2 r.aborted.toNat ++
  (r.ticks.zip r.entries).flatMap fun x => leBytes 8 x.1.toNat ++ leBytes 4 x.2.toNat

/-- POWER.GET_RESIDENCY (R325). -/
def execPowerGetResidency (k : Sess) (s : State) : Host.Outcome State Fault Refusal :=
  .next <| s.runCmd 0x0D03 k fun a s =>
    let i := byteAt a 1
    match byteAt a 0 with
    | 0 => (s.statusReply (s.ln (finOf 136 i)).selftest (s.ln (finOf 136 i)).res.bytes, s)
    | 1 => (s.statusReply (s.grp (finOf 32 i)).selftest (s.grp (finOf 32 i)).res.bytes, s)
    | _ => (replyOk s.sys.power.res.bytes, s)

end Sys2Proof.Machine
end

