-- ==== Sys2Proof/Machine/BusOps.lean ====
section
/-!
DEFINITION. Reads and writes of direct registers, the indirect window, and doorbell rings through a bus (R349, R350, R356–R370).
-/
namespace Sys2Proof.Machine

/-- The buses reach the direct block: CK_MGMT runs, CTLRST_N is high, and the device is not in DORMANT, which lasts until a wake
completes (R307, R320, R354). -/
def State.busOpen (s : State) : Bool := s.sys.clk.counting && !s.sys.pins.ctlrstLow && decide (s.sys.power.dev ≠ .dormant)

/-- Set a bit of SPI_STATUS or SMB_STATUS; the first one after a read raises EV_CTL_BUS_ERROR (R376). -/
def State.busErr (s : State) (i : Iface) (bit : Nat) : State :=
  let old := match i with | .spi => s.ctl.bus.spiStatus | .smb => s.ctl.bus.smbStatus
  let new := old ||| (1#6 <<< bit)
  let s := s.modCtl fun c => { c with bus := match i with
    | .spi => { c.bus with spiStatus := new }
    | .smb => { c.bus with smbStatus := new } }
  if old = 0 then s.raise .ctlBusError else s

/-! Indirect window. -/

def State.modWindow (s : State) (i : Iface) (f : IndWindow → IndWindow) : State :=
  s.modCtl fun c => match i with
    | .spi => { c with indSpi := f c.indSpi }
    | .smb => { c with indSmb := f c.indSmb }

/-- The address after an access (R360). -/
def IndWindow.advance (w : IndWindow) : BitVec 40 := if w.noInc then w.addr else w.addr + 4

/-- A write to IND_ADDR discards the prefetch and starts one at the new address (R357, R361). -/
def IndWindow.setAddr (w : IndWindow) (a : BitVec 40) : IndWindow := { w with addr := a, word := none, fetching := some a }

/-- A posted write reaches its target (R362, R363, R370). -/
def State.applyPosted (s : State) (i : Iface) (x : PostedWrite) : State :=
  match indTarget x.addr with
  | .command k off =>
    if (s.sess k).phase = .busy then
      (s.modSess k fun y => { y with areaBusy := true }).modWindow i fun w => { w with locked := true }
    else s.modSess k fun y => { y with area := memWrites 0 y.area off (leBytes 4 x.data.toNat) }
  | t =>
    let lock := s.ctl.sysLock.getLsbD 4
    s.modWindow i fun w => { w with locked := w.locked || lock, unmapped := w.unmapped || decide (t = .unmapped) }

/-- Apply every posted write of an interface, in order. -/
def State.drainFifo (s : State) (i : Iface) : State :=
  let l := (s.window i).fifo
  (s.modWindow i fun w => { w with fifo := [] }).each l fun x s => s.applyPosted i x

/-- A write to IND_DATA (R360, R362). -/
def State.indPost (s : State) (i : Iface) (d : Word) : State :=
  s.modWindow i fun w =>
    let w' := { w with addr := w.advance }
    if 16 ≤ w.fifo.length then { w' with dropped := true } else { w' with fifo := w.fifo ++ [{ addr := w.addr, data := d }] }

/-- The prefetch ends, once the FIFO ahead of it is empty (R361–R363). -/
def State.fetchDone (s : State) (i : Iface) (r : Prefetch) : State :=
  let w := s.window i
  match w.fetching with
  | none => s
  | some a =>
    if w.fifo ≠ [] then s
    else
      let d := if r = .arrived then s.indWord (indTarget a) else 0
      s.modWindow i fun w => { w with fetching := none, word := some { addr := a, data := d, fault := r } }

/-- RC fields of the target that the returned word showed as 1: NEW of a converter result that no later conversion has
written (R361, R252). -/
def State.clearTarget (s : State) (f : FetchedWord) : State :=
  match indTarget f.addr with
  | .results u off =>
    let i := off / 4
    if f.data.getLsbD 31 ∧ ¬ f.renewed then
      let old (r : MonResult) : MonResult := { r with new := false }
      s.modMon u fun m =>
        if i < 32 then { m with regRes := m.regRes.mapIdx fun j r => if j = i then old r else r }
        else { m with injRes := m.injRes.mapIdx fun j r => if 32 + j = i then old r else r }
    else s
  | _ => s

/-- A read of IND_DATA (R361, R363). -/
def State.indTake (s : State) (i : Iface) : Word × State :=
  match (s.window i).word with
  | none => (0, s.modWindow i fun w => { w with early := true })
  | some f =>
    let none' := decide (indTarget f.addr = .unmapped)
    (f.data, (s.clearTarget f).modWindow i fun w =>
      let w := { w with unmapped := w.unmapped || none', timeout := w.timeout || decide (f.fault = Prefetch.timeout),
                        memError := w.memError || decide (f.fault = Prefetch.memError), addr := w.advance, word := none }
      { w with fetching := some w.addr })

/-! Direct registers. -/

/-- Clear the RC fields of a register that has just been read whole (R9, R350). -/
def State.clearRc (s : State) (i : Iface) (addr : Nat) : State :=
  match addr with
  | 0x008 => s.modClk fun c => { c with refLost := false }
  | 0x044 => s.modCtl fun c => { c with bus := { c.bus with spiStatus := 0 } }
  | 0x04C => s.modCtl fun c => { c with bus := { c.bus with smbStatus := 0 } }
  | 0x05C => s.modWindow i fun w => { w with
      early := false, unmapped := false, dropped := false, locked := false, timeout := false, memError := false }
  | 0x080 => (s.modCtl fun c => { c with ev := { c.ev with overflow := false } }).settleEvents
  | 0x120 => s.modCtl fun c => { c with ev := { c.ev with ackMiss := false } }
  | _ =>
    if 0x200 ≤ addr ∧ addr < 0x300 ∧ addr % 0x20 = 0x10 then
      s.modSess (finOf 8 ((addr - 0x200) / 0x20)) fun x => { x with ringBusy := false, areaBusy := false }
    else s

/-- Read a direct register whole. -/
def State.readReg (s : State) (i : Iface) (addr : Nat) : Word × State :=
  if addr = 0x060 then s.indTake i else (s.regWord i addr, s.clearRc i addr)

/-- Ring a doorbell (R368 step 4, R362, R370): the writes ahead of it in the interface's FIFO are applied first. -/
def State.ring (s : State) (i : Iface) (k : Sess) (seq : Byte) : State :=
  match (s.sess k).phase with
  | .free => s
  | .busy => s.modSess k fun x => { x with ringBusy := true }
  | .idle =>
    let s := (s.drainFifo i).modSess k fun x => { x with phase := .busy }
    if s.serving ∧ s.pairUp k then s.takeRing k seq else s.modCtl fun c => { c with heldRings := c.heldRings ++ [(k, seq)] }

/-- A write to SESS_DOORBELL. -/
def State.writeBell (s : State) (i : Iface) (k : Sess) (d : Word) : State :=
  let seq : Byte := d.extractLsb' 0 8
  let s := s.modSess k fun x => { x with bellSeq := seq }
  if d.getLsbD 8 then s.ring i k seq else s

/-- A write to EVQ_ACK (R374). -/
def State.writeAck (s : State) (d : Word) : State :=
  (s.evAck d).getD (s.modCtl fun c => { c with ev := { c.ev with ackMiss := true } })

/-- A write to INT_ROUTE or EV_ENABLE, unless ROUTE_LOCK is set; the pins are evaluated again (R357, Table 12-5). -/
def State.writeEvents (s : State) (f : EventUnit → EventUnit) : State :=
  if s.ctl.sysLock.getLsbD 6 then s else (s.modCtl fun c => { c with ev := f c.ev }).settleEvents

/-- Write a direct register whole (Tables 12-3 to 12-8). -/
def State.writeReg (s : State) (i : Iface) (addr : Nat) (d : Word) : State :=
  match addr with
  | 0x030 => s.modCtl fun c => { c with sysLock := c.sysLock ||| d.extractLsb' 0 7 }
  | 0x040 => s.modCtl fun c => { c with bus := { c.bus with crcReq := d.getLsbD 0 } }
  | 0x048 => s.modCtl fun c => { c with bus := { c.bus with pecReq := d.getLsbD 8 } }
  | 0x050 => s.modWindow i fun w => w.setAddr (w.addr.extractLsb' 32 8 ++ d.extractLsb' 2 30 ++ 0#2)
  | 0x054 => s.modWindow i fun w => w.setAddr (d.extractLsb' 0 8 ++ w.addr.extractLsb' 0 32)
  | 0x058 => s.modWindow i fun w => { w with noInc := d.getLsbD 0 }
  | 0x060 => s.indPost i d
  | 0x084 => s.writeEvents fun u => { u with route := u.route.extractLsb' 32 8 ++ d }
  | 0x088 => s.writeEvents fun u => { u with route := d.extractLsb' 0 8 ++ u.route.extractLsb' 0 32 }
  | 0x124 => s.writeAck d
  | _ =>
    if 0x0C0 ≤ addr ∧ addr ≤ 0x0E4 ∧ addr % 4 = 0 then
      let w := (addr - 0x0C0) / 4
      s.writeEvents fun u => { u with enable := u.enable.setIfInBounds w (d &&& enableReset w) }
    else if 0x200 ≤ addr ∧ addr < 0x300 then
      let k : Sess := finOf 8 ((addr - 0x200) / 0x20)
      if addr % 0x20 = 0 then s.writeSessCtrl i k d else if addr % 0x20 = 8 then s.writeBell i k d else s
    else s

/-! Bursts. -/

/-- A start address that R349 refuses. -/
def addrBad (a : BitVec 16) : Bool := decide (a.extractLsb' 0 2 ≠ 0#2 ∨ a.extractLsb' 12 4 ≠ 0#4)

/-- The address of the next word of a burst that started at `start` (R349, R360). -/
def burstNext (start a : Nat) : Nat := if start = 0x060 then a else a + 4

/-- Write the words of a burst; addresses beyond 0xFFC are ignored, and posted writes drain between words. -/
def State.writeBurst (s : State) (i : Iface) (start a : Nat) : List Word → State
  | [] => s
  | d :: r =>
    let s := if a ≤ 0xFFC then s.writeReg i a d else s
    (if a = 0x060 then s.drainFifo i else s).writeBurst i start (burstNext start a) r

/-- Read n whole words of a burst; addresses beyond 0xFFC read 0, and each prefetch is complete at the next word. -/
def State.readBurst (s : State) (i : Iface) (start a : Nat) : Nat → Bytes × State
  | 0 => ([], s)
  | n + 1 =>
    let r := if a ≤ 0xFFC then s.readReg i a else (0, s)
    let s := if start = 0x060 then (r.2.drainFifo i).fetchDone i .arrived else r.2
    let t := s.readBurst i start (burstNext start a) n
    (leBytes 4 r.1.toNat ++ t.1, t.2)

/-- The bytes a bus master clocks out of a burst: whole words with their effects, and of a word cut short its first bytes,
which clear nothing (R350). -/
def State.readBytes (s : State) (i : Iface) (start n : Nat) : Bytes × State :=
  let r := s.readBurst i start start (n / 4)
  let a := if start = 0x060 then start else start + 4 * (n / 4)
  let last := if a = 0x060 then (match (r.2.window i).word with | some f => f.data | none => 0)
    else if a ≤ 0xFFC then r.2.regWord i a else 0
  (r.1 ++ (leBytes 4 last.toNat).take (n % 4), r.2)

/-- The words of a byte string, lowest-addressed byte first; bytes of an unfinished word are dropped. -/
def busWords (bs : Bytes) : List Word :=
  (List.range (bs.length / 4)).map fun j => BitVec.ofNat 32 (fieldLE bs (4 * j) 4)

/-- Record what the device drove on the bus. -/
def State.drive (s : State) (bs : Bytes) : State := s.modCtl fun c => { c with busOut := bs }

end Sys2Proof.Machine
end

