-- ==== Sys2Proof/Machine/Control.lean ====
section
/-!
DEFINITION. Meanings of the bus, register, window, session, doorbell and queue rows (chapter 12).
-/
namespace Sys2Proof.Machine

/-! Quad SPI. -/

/-- SPI_WRITE: a transaction that is not READ, WRITE_C or READ_C, with its opcode byte as it came (R348, R349). A word cut
short is discarded with PARTIAL. -/
def execSpiWrite (op : Byte) (addr : BitVec 16) (data : Bytes) (s : State) : Host.Outcome State Fault Refusal :=
  .next <|
    if ¬ s.busOpen ∨ op = 0x03 ∨ op = 0x12 ∨ op = 0x13 then s
    else if op ≠ 0x02 then s.busErr .spi 2
    else if addrBad addr then s.busErr .spi 3
    else
      let s := if s.ctl.bus.crcReq then s.busErr .spi 1 else s.writeBurst .spi addr.toNat addr.toNat (busWords data)
      if data.length % 4 ≠ 0 then s.busErr .spi 5 else s

/-- SPI_READ: `clocked` data bytes are clocked out before QSPI_CS_N rises (R349, R350). -/
def execSpiRead (addr : BitVec 16) (clocked : Nat) (s : State) : Host.Outcome State Fault Refusal :=
  .next <|
    if ¬ s.busOpen then s
    else if addrBad addr then s.busErr .spi 3
    else
      let r := s.readBytes .spi addr.toNat clocked
      r.2.drive r.1

/-- SPI_WRITE_C: `rest` holds what follows the address, the CRC byte last (R349); more than 64 words, or a word cut short, write
nothing. -/
def execSpiWriteC (addr : BitVec 16) (rest : Bytes) (s : State) : Host.Outcome State Fault Refusal :=
  .next <|
    if ¬ s.busOpen then s
    else if addrBad addr then s.busErr .spi 3
    else if rest.length % 4 ≠ 1 ∨ 64 < rest.length / 4 then
      let s := if 64 < rest.length / 4 then s.busErr .spi 4 else s
      if rest.length % 4 ≠ 1 then s.busErr .spi 5 else s
    else
      let data := rest.take (rest.length - 1)
      if rest.getLast? ≠ some (crc8 0xFF ([0x12] ++ beBytes 2 addr.toNat ++ data)) then s.busErr .spi 0
      else s.writeBurst .spi addr.toNat addr.toNat (busWords data)

/-- SPI_READ_C: N words, then a CRC over opcode, address, count and data (R349). -/
def execSpiReadC (addr : BitVec 16) (count : Byte) (clocked : Nat) (s : State) : Host.Outcome State Fault Refusal :=
  .next <|
    if ¬ s.busOpen then s
    else if addrBad addr then s.busErr .spi 3
    else if count = 0 ∨ 64 < count.toNat then s.busErr .spi 4
    else
      let r := s.readBytes .spi addr.toNat (min clocked (4 * count.toNat))
      let crc := crc8 0xFF ([0x13] ++ beBytes 2 addr.toNat ++ [count] ++ r.1)
      r.2.drive (if 4 * count.toNat < clocked then r.1 ++ [crc] else r.1)

/-! SMBus. -/

/-- The first byte of an SMBus transfer: the address with the read bit. -/
def smbByte (target : BitVec 7) (read : Bool) : Byte := target ++ BitVec.ofBool read

/-- SMBUS_BLOCK_WRITE (R352, R353): the words take effect as a whole. -/
def execSmbusBlockWrite (target : BitVec 7) (count : Byte) (addr : BitVec 16) (data : Bytes) (pec : Option Byte) (s : State) :
    Host.Outcome State Fault Refusal :=
  .next <|
    if ¬ s.busOpen ∨ target.toNat ≠ s.smbAddr then s
    else if count.toNat < 6 ∨ 34 < count.toNat ∨ count.toNat % 4 ≠ 2 then s.busErr .smb 2
    else if addrBad addr then s.busErr .smb 3
    else if data.length + 2 ≠ count.toNat then s
    else
      let good := crc8 0 ([smbByte target false, 0x01, count] ++ leBytes 2 addr.toNat ++ data)
      match pec with
      | none => if s.ctl.bus.pecReq then s.busErr .smb 1 else s.writeBurst .smb addr.toNat addr.toNat (busWords data)
      | some b => if b = good then s.writeBurst .smb addr.toNat addr.toNat (busWords data) else s.busErr .smb 0

/-- SMBUS_PROCESS_CALL (R352, R353): the count, the words and the PEC; the master takes `clocked` bytes after the count, and gets the PEC
where it acknowledges the last data byte. -/
def execSmbusProcessCall (target : BitVec 7) (count : Byte) (addr : BitVec 16) (words : Byte) (clocked : Nat) (s : State) :
    Host.Outcome State Fault Refusal :=
  .next <|
    if ¬ s.busOpen ∨ target.toNat ≠ s.smbAddr then s
    else if count ≠ 3 ∨ words = 0 ∨ 8 < words.toNat then s.busErr .smb 2
    else if addrBad addr then s.busErr .smb 3
    else
      let n := 4 * words.toNat
      let r := s.readBytes .smb addr.toNat (min clocked n)
      let head : Bytes := leBytes 1 n
      let pec := crc8 0 ([smbByte target false, 0x02, count] ++ leBytes 2 addr.toNat ++ [words, smbByte target true] ++ head ++ r.1)
      r.2.drive (head ++ r.1 ++ if n < clocked then [pec] else [])

/-- SMBUS_TIMEOUT (R351). -/
def execSmbusTimeout (s : State) : Host.Outcome State Fault Refusal := .next <| if s.busOpen then s.busErr .smb 4 else s

/-! Registers. -/

/-- REGISTER_WRITE (R357). -/
def execRegisterWrite (i : Iface) (addr : BitVec 16) (data : Word) (s : State) : Host.Outcome State Fault Refusal :=
  .next <| if ¬ s.busOpen then s else if addrBad addr then s.busErr i 3 else s.writeReg i addr.toNat data

/-- RC_FIELD_READ (R9, R350). -/
def execRcFieldRead (i : Iface) (addr : BitVec 16) (s : State) : Host.Outcome State Fault Refusal :=
  .next <|
    if ¬ s.busOpen then s
    else if addrBad addr then s.busErr i 3
    else
      let r := s.readReg i addr.toNat
      r.2.drive (leBytes 4 r.1.toNat)

/-! Indirect window. -/

/-- IND_ADDR_WRITE (R357, R361): IND_ADDR_HI or IND_ADDR_LO. -/
def execIndAddrWrite (i : Iface) (high : Bool) (data : Word) (s : State) : Host.Outcome State Fault Refusal :=
  .next <| if s.busOpen then s.writeReg i (if high then 0x054 else 0x050) data else s

/-- IND_PREFETCH_DONE (R361). -/
def execIndPrefetchDone (i : Iface) (result : Prefetch) (s : State) : Host.Outcome State Fault Refusal := .next <| s.fetchDone i result

/-- IND_DATA_READ (R361). -/
def execIndDataRead (i : Iface) (s : State) : Host.Outcome State Fault Refusal :=
  .next <|
    if ¬ s.busOpen then s
    else
      let r := s.indTake i
      r.2.drive (leBytes 4 r.1.toNat)

/-- IND_DATA_WRITE (R360, R362). -/
def execIndDataWrite (i : Iface) (data : Word) (s : State) : Host.Outcome State Fault Refusal :=
  .next <| if s.busOpen then s.indPost i data else s

/-- IND_WRITE_APPLY (R362): the oldest posted write. -/
def execIndWriteApply (i : Iface) (s : State) : Host.Outcome State Fault Refusal :=
  .next <| match (s.window i).fifo with
    | [] => s
    | x :: r => (s.modWindow i fun w => { w with fifo := r }).applyPosted i x

/-! Sessions, doorbells and the event queue. -/

/-- SESSION_OPEN: a write to SESS_CTRL with OPEN (R364). -/
def execSessionOpen (i : Iface) (k : Sess) (priv : BitVec 2) (notify : Bool) (tag : BitVec 16) (s : State) :
    Host.Outcome State Fault Refusal :=
  .next <|
    if ¬ s.busOpen then s
    else (s.modSess k fun x => { x with reqPriv := priv, notify := notify, ownerTag := tag }).openSess i k

/-- SESSION_CLOSE: a write to SESS_CTRL with CLOSE (R364). -/
def execSessionClose (k : Sess) (s : State) : Host.Outcome State Fault Refusal := .next <| if s.busOpen then s.closeSess k else s

/-- DOORBELL_RING (R368): SESS_DOORBELL written with RING. -/
def execDoorbellRing (i : Iface) (k : Sess) (seq : Byte) (s : State) : Host.Outcome State Fault Refusal :=
  .next <| if ¬ s.busOpen then s else (s.modSess k fun x => { x with bellSeq := seq }).ring i k seq

/-- EVQ_ACK (R374). -/
def execEvqAck (qseq : Word) (s : State) : Host.Outcome State Fault Refusal := .next <| if s.busOpen then s.writeAck qseq else s

end Sys2Proof.Machine
end

