-- ==== Sys2Proof/Machine/Delivery.lean ====
section
/-!
DEFINITION. Meanings of the delivery rows (chapter 6, Table 13-8): acceptance, timers, contexts, failing lanes and spare
moves, drains, and the DELIVERY commands.
-/
namespace Sys2Proof.Machine

/-! Timers and acceptance. -/

/-- FRAME_ACCEPTED: the oldest frame received whole on a channel is judged, and accepted or refused (R155). `bad` names a word of it in
the receive staging and the stored bits a disturbance inverts. -/
def execFrameAccepted (w : Work) (bad : Option (Nat × BitVec 42)) (s : State) : Host.Outcome State Fault Refusal :=
  .next <| match (s.chanOf w).inFrames with
    | [] => s
    | f :: _ =>
      let r := s.unitRead (arrReplay (groupOfWork w)) (stagingWord w f.tag) (wordsFor (12 + f.payload.length)) bad
      r.2.acceptFrame w f (decide (r.1 ≠ []))

/-- RTO_EXPIRY of the context toward `p` (R169, R150); `bad` names a word of the context and the stored bits a disturbance inverts. -/
def execRtoExpiry (w : Work) (p : Nat) (bad : Option (Nat × BitVec 42)) (s : State) : Host.Outcome State Fault Refusal :=
  .next <| match tabGet (s.wk w).txCtx p with
    | none => s
    | some c =>
      let r := s.unitRead arrFabric (contextWord w false p) 8 bad
      let s := r.2
      if r.1 ≠ [] then s.peerRestart w p none
      else if ¬ c.rtoOn then s
      else
        let s := (s.rewindOldest w p).count w fun n => { n with rtoExpiries := satW 16 (n.rtoExpiries + 1) }
        (s.raiseW .deliveryRto w 0 p).enterBackoff w p

/-- ACK_INTERVAL_EXPIRY toward `p` (R166). -/
def execAckIntervalExpiry (w : Work) (p : Nat) (s : State) : Host.Outcome State Fault Refusal :=
  let u := s.wk w
  .next <|
    if u.ackDue p ∨ (s.modeOfWork w = .steady ∧ u.fec.peer = p ∧ p ≠ 16383 ∧ (tabGet u.rxCtx p).isSome) then
      s.modAck w p fun a => { a with standalone := true }
    else s

/-- CTX_IDLE_EXPIRY of the transmit context, or with `rx` the receive context, of station `p` (R163). -/
def execCtxIdleExpiry (w : Work) (p : Nat) (rx : Bool) (s : State) : Host.Outcome State Fault Refusal :=
  let u := s.wk w
  .next <|
    if rx then
      match tabGet u.rxCtx p with
      | some c =>
        if 2000 * u.ctxIdle ≤ s.usOf (s.since c.heard) then s.retireRx w p else s
      | none => s
    else
      match tabGet u.txCtx p with
      | some c =>
        if 1000 * u.ctxIdle ≤ min (s.usOf (s.since c.used)) (s.usOf (s.since c.freed)) ∧ u.retainedFor p = [] then
          (s.modWork w fun u => { u with txCtx := tabDel u.txCtx p }).settleRetention w
        else s
      | none => s

/-! Failing lanes and moves. -/

/-- LOS_SPARE_DELAY_EXPIRY: loss of signal, or AM_HUNT after AM_LOCKED, has lasted LOS_SPARE_DELAY in STEADY (Table 6-5). -/
def execLosSpareDelayExpiry (p : Phys) (s : State) : Host.Outcome State Fault Refusal :=
  .next <| match s.workOf p with
    | none => s
    | some w =>
      let lost := (s.rxl p).los || (!(s.del p).amLocked && decide ((s.wk w).fec.peer ≠ 16383))
      if s.modeOf p = .steady ∧ lost ∧ ¬ s.graceOn p ∧ ¬ s.tripped then s.declareFail p .rxSignal none else s

/-- FAILURE_MOVE_MAP: the failing lane's working lane is mapped onto the spare (R183). -/
def execFailureMoveMap (w : Work) (s : State) : Host.Outcome State Fault Refusal :=
  .next <| match (s.wk w).move with
    | some m => if m.phase = .failing then s.takeOver w m else s
    | none => s

/-- The end of a planned STEADY move: W is mapped onto T, which keeps its markers and its lock, and S goes to SPARE (Table 6-6).
Table 6-6 does not say at which moment the map changes; here it is the end of BREAK, the one moment at which S, with the
mode of W until then, may enter SPARE (R16). DEDUCED, log 102. -/
def State.finishMove (s : State) (w : Work) (m : Move) : State :=
  let mode := s.modeOf m.src
  let s := (s.loseSketches m.src).carryChange m.src m.dst
  let s := s.modWork w fun u => { u with phys := some m.dst, move := none }
  let s := s.modLane m.dst fun l => { l with mode := mode }
  let s := (s.modTxDiag m.dst fun _ => {}).modDiag m.dst RxDiag.restart
  let s := if (s.ln m.src).failed then s.retireLane m.src true else s.physMode m.src .spare
  let s := (((s.inherit w).countMove w).grant w).moveDone w m 0
  if (s.ln m.src).failed then s else s.spareEntered m.src

/-- MOVE_SETTLE_EXPIRY: in SWITCH T sends the next frame, and BREAK begins; in BREAK the move is done (Table 6-6). -/
def execMoveSettleExpiry (w : Work) (s : State) : Host.Outcome State Fault Refusal :=
  .next <| match (s.wk w).move with
    | none => s
    | some m =>
      if m.phase = .switch then s.modWork w fun u => { u with move := some { m with phase := .breakP } }
      else if m.phase = .breakP ∧ m.settling then s.finishMove w m
      else s

/-- MOVE_LIMIT_EXPIRY (Table 6-6): T returns to idle SPARE content, and a working lane out of service takes it (R186). -/
def execMoveLimitExpiry (w : Work) (s : State) : Host.Outcome State Fault Refusal :=
  .next <| match (s.wk w).move with
    | some m => if m.planned ∧ (m.phase = .make ∨ m.phase = .switch ∨ m.phase = .breakP) then
        (s.dropMove w m 1).spareEntered m.dst
      else s
    | none => s

/-- MOVE_SWITCH_ZERO_SCALE: S is at zero scale between bursts (R185). A burst frozen on S is sent from T instead. -/
def execMoveSwitchZeroScale (w : Work) (s : State) : Host.Outcome State Fault Refusal :=
  .next <| match (s.wk w).move with
    | none => s
    | some m =>
      if m.phase ≠ .zeroWait ∨ (s.txl m.src).state = .sending then s
      else
        let s := (s.cutBurst m.src).scrapeAll w
        if m.planned then
          let mode := s.modeOf m.src
          let s := s.carryChange m.src m.dst
          let s := s.physMode m.src .spare
          let s := s.modWork w fun u => { u with oosMode := mode, phys := none, move := none }
          ((s.mapOnto w m.dst).moveDone w m 0).spareEntered m.src
        else (s.takeOver w m).raiseP .txZeroScale m.src 7

/-! Drains (R18, R135). -/

/-- No frame is retained and no sketch is outstanding. -/
def WorkLane.drained (u : WorkLane) : Bool := decide (u.retained = []) && decide (u.sketchBytes = 0)

/-- DRAIN_COMPLETE (R18, R135): in SLOTTED and OPEN the change waits for the end of the burst in progress. While a spare move
of the lane runs the change waits for its end, and then takes effect on the lane that carries W. -/
def execDrainComplete (p : Phys) (s : State) : Host.Outcome State Fault Refusal :=
  .next <| match s.workOf p, (s.ln p).change with
    | some w, some (.drain target k) =>
      if ¬ (s.wk w).drained ∨ (s.wk w).move.isSome then s
      else if (s.txl p).burst.isSome then s.modLane p fun l => { l with change := some (.burstEnd target k) }
      else s.finishChange p target k
    | _, _ => s

/-- DRAIN_TIMEOUT (R18): the lane stays in its mode and accepts frames again. -/
def execDrainTimeout (p : Phys) (s : State) : Host.Outcome State Fault Refusal :=
  .next <| match (s.ln p).change with
    | some (.drain _ k) =>
      let s := (s.modLane p fun l => { l with change := none }).answerOpt k 0x0301 .timeout 0 []
      match s.workOf p with
      | some w => s.grant w
      | none => s
    | _ => s

/-! Commands. -/

/-- DELIVERY.SET_RETENTION (R15, R158). -/
def execDeliverySetRetention (k : Sess) (s : State) : Host.Outcome State Fault Refusal :=
  .next <| s.runCmd 0x0601 k fun a s =>
    let w : Work := finOf 128 (byteAt a 0)
    let n := byteAt a 1
    let others := ((workAll.filter fun x => decide (x ≠ w)).map fun x => (s.wk x).heldExtents).sum
    s.guarded [(s.workTest w, s.busyTest), (decide ((s.wk w).heldExtents < n ∧ 512 < others + n), refuse .noResource)] fun s =>
      let s := (s.modWork w fun u => { u with extents := n }).settleRetention w
      (replyOk (leBytes 1 (s.wk w).heldExtents), s)

/-- DELIVERY.SET_TIMERS (R154): CTX_IDLE must stay above RTO. -/
def execDeliverySetTimers (k : Sess) (s : State) : Host.Outcome State Fault Refusal :=
  .next <| s.runCmd 0x0602 k fun a s =>
    let rto := fieldLE a 4 4
    let idle := fieldLE a 12 4
    s.forAllSel (decide (byteAt a 0 = 255)) (selAll 128 (byteAt a 0))
      (fun w => if s.workTest w then some s.busyTest else if 1000 * idle ≤ rto then some (badArg 12) else none)
      (fun w s => s.modWork w fun u => { u with
        rto := rto, ackInterval := fieldLE a 8 2, moveSettle := fieldLE a 10 2, ctxIdle := idle, moveLimit := fieldLE a 16 4 })

/-- DELIVERY.SET_QUOTA (R154, R161): each lane counts the greater of its quota and its open contexts. -/
def execDeliverySetQuota (k : Sess) (s : State) : Host.Outcome State Fault Refusal :=
  .next <| s.runCmd 0x0603 k fun a s =>
    let w : Work := finOf 128 (byteAt a 0)
    let tx := fieldLE a 2 2
    let rx := fieldLE a 4 2
    let sumTx := (workAll.map fun x => max (s.wk x).txCtx.length (if x = w then tx else (s.wk x).txQuota)).sum
    let sumRx := (workAll.map fun x => max (s.wk x).rxCtx.length (if x = w then rx else (s.wk x).rxQuota)).sum
    s.guarded [(s.workTest w, s.busyTest), (decide (16384 < sumTx ∨ 16384 < sumRx), refuse .noResource)] fun s =>
      (replyOk, s.modWork w fun u => { u with txQuota := tx, rxQuota := rx })

/-- DELIVERY.SET_SKETCH (R173): turning SKETCH off is answered when it takes effect (R386). -/
def execDeliverySetSketch (k : Sess) (s : State) : Host.Outcome State Fault Refusal :=
  .next <| s.runCmd 0x0604 k fun a s =>
    let w : Work := finOf 128 (byteAt a 0)
    let on := decide (byteAt a 1 = 1)
    s.guarded [(s.workTest w, s.busyTest), ((s.wk w).sketchSess.isSome, refuse .busy),
        (on && !guaranteed (s.modeOfWork w), refuse .badState)] fun s =>
      let s := s.modWork w fun u => { u with sketchWindow := fieldLE a 2 2 }
      if on then (replyOk, s.modWork w fun u => { u with sketch := true, sketchOff := false })
      else if (s.wk w).sketchBytes = 0 then (replyOk, s.modWork w fun u => { u with sketch := false, sketchOff := false })
      else (.later, s.modWork w fun u => { u with sketchOff := true, sketchSess := some k })

/-- DELIVERY.SET_SPARE_POLICY (R154). -/
def execDeliverySetSparePolicy (k : Sess) (s : State) : Host.Outcome State Fault Refusal :=
  .next <| s.runCmd 0x0605 k fun a s =>
    let f := byteAt a 1
    s.forAllSel (decide (byteAt a 0 = 255)) (selAll 128 (byteAt a 0))
      (fun w => if s.workTest w then some s.busyTest else none)
      (fun w s => s.modWork w fun u => { u with
        autoFail := bitOf f 0, autoAgeing := bitOf f 1, restore := bitOf f 2, losSpareDelay := fieldLE a 2 2 })

/-- DELIVERY.RELEASE_PEER (R163): frames held for a former STEADY peer are released and reported. -/
def execDeliveryReleasePeer (k : Sess) (s : State) : Host.Outcome State Fault Refusal :=
  .next <| s.runCmd 0x0606 k fun a s =>
    let w : Work := finOf 128 (byteAt a 0)
    let p := fieldLE a 2 2
    s.guarded [(s.workTest w, s.busyTest)] fun s =>
      let u := s.wk w
      let held := if s.modeOfWork w = .steady ∧ u.fec.peer ≠ p then u.retainedFor p else []
      let s := s.each (held.filter fun i => decide (i.kind = 1)) fun i s => s.hostDesc w 6 p i.tag
      let s := if held = [] then s
        else (s.modWork w fun u => { u with
          images := u.images.map fun i => if i.dest = p then { i with released := true } else i,
          txCtx := match tabGet u.txCtx p with
            | some c => tabSet u.txCtx p { c with rtoOn := false, freed := s.now }
            | none => u.txCtx }).settleRetention w
      (replyOk (leBytes 4 held.length), s)

/-- DELIVERY.SPARE_MOVE (R184, R185, R469) with its results in the order chapter 13 gives. -/
def execDeliverySpareMove (k : Sess) (s : State) : Host.Outcome State Fault Refusal :=
  .next <| s.runCmd 0x0607 k fun a s =>
    let w : Work := finOf 128 (byteAt a 0)
    let named := byteAt a 1
    let bank := bankOfWork w
    let free := s.freeSpares bank
    let target : Phys := if named = 255 then free.headD 0 else finOf 136 named
    let lane : Phys := (s.physOf w).getD 0
    s.guarded
      [(decide (named ≠ 255) && (decide (136 ≤ named) || decide (bankOfPhys target ≠ bank)), badArg 1),
        (s.workTest w || (decide (named ≠ 255) && (s.ln target).selftest), s.busyTest),
        ((s.wk w).move.isSome, refuse .busy),
        ((s.physOf w).isNone, refuse .badState 1),
        (s.tripped, refuse .badState 2),
        (decide (named ≠ 255) && !free.contains target, refuse .badState 3),
        (decide (named = 255) && free.isEmpty, refuse .noResource)]
      fun s =>
        let s := if guaranteed (s.modeOfWork w) then (s.declareFail lane .command none).plannedMove w lane target .command false
          else s.immediateSwitch w lane target
        (replyOk (leBytes 1 target.val), s)

/-- The map of working lanes and marks of physical lanes (Table 13-8). -/
def State.mapBytes (s : State) : Bytes :=
  workAll.flatMap (fun w => leBytes 1 (match s.physOf w with | some p => p.val | none => 255)) ++
  physAll.flatMap fun p => leBytes 1 (packBits
    [(1, (s.ln p).failed.toNat), (1, (decide (s.modeOf p = .spare)).toNat), (1, (s.moving p).toNat)])

/-- DELIVERY.GET_MAP (R187, R394). -/
def execDeliveryGetMap (k : Sess) (s : State) : Host.Outcome State Fault Refusal :=
  .next <| s.runCmd 0x0609 k fun _ s => (replyOk s.mapBytes, s)

/-- Delivery status record (Table 6-9). SKETCH_OUT counts in units of 16 bytes; the table does not say how a rest is rounded,
and it is rounded up here. DESIGN CHOICE, log 103. -/
def State.deliveryRecord (s : State) (w : Work) : Bytes :=
  let u := s.wk w
  let c := u.counts
  leBytes 1 1 ++ leBytes 1 w.val ++ leBytes 1 (match u.phys with | some p => p.val | none => 255) ++
  leBytes 1 (packBits [(4, (s.modeOfWork w).code), (1, u.sketch.toNat), (1, u.phys.isNone.toNat), (1, u.move.isSome.toNat),
    (1, (s.draining w).toNat)]) ++
  recWord [(6, u.heldExtents), (10, 0), (13, (u.sketchBytes + 15) / 16)] ++ leBytes 8 s.now.toNat ++ leBytes 4 u.used ++
  leBytes 2 u.retained.length ++ leBytes 2 u.txCtx.length ++ leBytes 2 u.rxCtx.length ++ leBytes 2 c.moves ++
  leBytes 4 c.accepted ++ leBytes 4 c.refused ++ leBytes 4 c.acked ++ leBytes 4 c.retx ++ leBytes 2 c.rtoExpiries ++
  leBytes 2 c.naks ++ leBytes 4 c.delivered ++ leBytes 4 c.duplicates ++ leBytes 4 c.discarded ++ leBytes 2 c.scrapes ++
  leBytes 2 c.uncertain

/-- DELIVERY.GET_STATUS (R192, R383). -/
def execDeliveryGetStatus (k : Sess) (s : State) : Host.Outcome State Fault Refusal :=
  .next <| s.runCmd 0x060A k fun a s =>
    let w : Work := finOf 128 (byteAt a 0)
    (s.statusReply (s.workTest w) (s.deliveryRecord w), if bitOf (byteAt a 1) 0 then s.count w fun _ => {} else s)

end Sys2Proof.Machine
end

