-- ==== Sys2Proof/Machine/SecOps.lean ====
section
/-!
DEFINITION. OTP, owner keys, tokens and the identity key (R400–R411).
-/
namespace Sys2Proof.Machine

/-! Owner keys (R402, R408). -/

/-- The bytes of a key record that its tag covers. -/
def OwnerKey.body (k : OwnerKey) : Bytes := leBytes 1 k.uses.toNat ++ leBytes 1 k.policy.toNat ++ k.pub

/-- The record of an owner slot; one that fails its check counts as empty (R408). -/
def State.ownerKey (s : State) (i : Nat) : Option OwnerKey :=
  match s.sec.flash.owner.toList.getD i none with
  | some k => if k.tag = Config.kmac s.sec.otp.ownerWrap k.body then some k else none
  | none => none

/-- A slot whose key verifies: none does in BLANK, RETURNED and RETIRED (R402). -/
def State.verifying (s : State) (i : Nat) : Option OwnerKey :=
  if s.lifecycle = 1 ∨ s.lifecycle = 2 then s.ownerKey i else none

/-- OWNER_KEYS: one bit for each occupied slot. -/
def State.ownerKeys (s : State) : Nat := packBits ((List.range 8).map fun i => (1, (s.ownerKey i).isSome.toNat))

/-- REQUIRE_COSIGN is in force (R402). -/
def State.requireCosign (s : State) : Bool :=
  match s.verifying 0 with
  | some k => k.policy.getLsbD 0
  | none => false

/-- Signature length of a parameter set (Table 14-4). -/
def sigLength (h : Nat) : Nat := if h = 10 then 2500 else if h = 16 then 2692 else 2820

/-- Height of a public key's parameter set, if it is one of the three that R408 names. -/
def keyHeight (pub : Bytes) : Option Nat :=
  (Config.xmssHeight (beNat (pub.take 4))).filter fun h => decide (h = 10 ∨ h = 16 ∨ h = 20)

/-- Length of a key's signatures. -/
def keySigLength (pub : Bytes) : Nat := sigLength ((keyHeight pub).getD 20)

/-! Tokens (R406, R407). -/

/-- The signer a token names may sign it in this state: its public key. -/
def State.signerKey (s : State) (signer kind : Nat) (vsAdmitted : Bool) : Option Bytes :=
  if signer = 0x80 then (if vsAdmitted then some Config.serviceKey else none)
  else match s.verifying signer with
    | some k => if signer < 8 ∧ k.uses.getLsbD (kind - 1) then some k.pub else none
    | none => none

/-- VS may sign a token of a kind in the life-cycle state (Tables 14-2 and 14-3). -/
def State.vsAdmitted (s : State) (kind target : Nat) : Bool :=
  if kind = 1 then decide (s.lifecycle = 0 ∨ s.lifecycle = 3)
  else decide ((s.lifecycle = 0 ∧ target = 1) ∨ ((s.lifecycle = 1 ∨ s.lifecycle = 2) ∧ target = 3) ∨ (s.lifecycle = 3 ∧ target = 4))

/-- The session's challenge may still be answered with this value: unused, and no more than 10 s old (R366, R407). -/
def State.challengeGood (s : State) (k : Sess) (v : Bytes) : Bool :=
  match (s.sess k).challenge with
  | some c => !c.used && decide (c.value = v) && decide (1000000000 * s.since c.time ≤ 10000000 * s.mgmtMHz)
  | none => false

/-- A staged token is valid (R407): its signer. -/
def State.validToken (s : State) (k : Sess) (len kind target : Nat) : Option Nat :=
  let t := memReads 0 (s.sess k).staging 0 len
  let signer := byteAt t 2
  match s.signerKey signer kind (s.vsAdmitted kind target) with
  | none => none
  | some pub =>
    let sig := if signer = 0x80 then sigLength 20 else keySigLength pub
    let form := decide (len = 64 + sig) && decide (byteAt t 0 = 1) && decide (byteAt t 1 = kind) && decide (byteAt t 3 = target) &&
      decide ((t.drop 4).take 12 = zeros 12) && decide (fieldLE t 0x10 16 = s.sec.otp.uid.toNat)
    if form ∧ s.challengeGood k ((t.drop 0x20).take 32) ∧ Config.xmssOk pub (t.take 64) (t.drop 64) then some signer else none

/-! Identity key and signature index (R409–R411). -/

/-- The identity seed in use: the one whose completion fuse is blown and that is not destroyed. -/
def OtpUnit.seedInUse (o : OtpUnit) : Option Bytes :=
  if o.seedA.complete ∧ ¬ o.seedA.destroyed then some o.seedA.seed
  else if o.seedB.complete ∧ ¬ o.seedB.destroyed then some o.seedB.seed else none

/-- Destroy the seed in use: every fuse blown (R400). -/
def OtpUnit.destroySeed (o : OtpUnit) : OtpUnit :=
  if o.seedA.complete then { o with seedA := { o.seedA with seed := List.replicate 96 0xFF, destroyed := true } }
  else { o with seedB := { o.seedB with seed := List.replicate 96 0xFF, destroyed := true } }

def OtpUnit.destroyWrap (o : OtpUnit) : OtpUnit := { o with ownerWrap := BitVec.allOnes 256, ownerWrapDestroyed := true }

def OtpUnit.blow (o : OtpUnit) (fuse : Nat) : OtpUnit := { o with lcFuse := o.lcFuse ||| (1#4 <<< fuse) }

/-- Blocks reserved: the position of the highest blown SIG_BLOCK fuse plus 1 (R410). -/
def OtpUnit.blocks (o : OtpUnit) : Nat :=
  (List.range 2048).foldl (fun n i => if o.sigBlock.getLsbD i then i + 1 else n) 0

/-- SIG_REMAINING (R410). -/
def State.sigRemaining (s : State) : Nat := 65536 - s.sec.nextIndex

/-- Raise EV_SEC_INDEX_LOW at the first fall below 1,024 and below 256 (R411). -/
def State.indexLow (s : State) : State :=
  let n := s.sigRemaining
  let s := if n < 1024 ∧ ¬ s.sec.low1024 then (s.modSec fun u => { u with low1024 := true }).raise .secIndexLow 0 0 n else s
  if n < 256 ∧ ¬ s.sec.low256 then (s.modSec fun u => { u with low256 := true }).raise .secIndexLow 0 0 n else s

/-- Take the next identity index, reserving the next block when the current one has none left; `bad` fuses in a row fail
their read-back first and are left (R410). -/
def State.takeIndex (s : State) (bad : Nat) : Option (Nat × State) :=
  let old := s.sec.nextIndex
  let held := decide (old < 32 * s.sec.otp.blocks)
  let i := if held then old else 32 * (old / 32 + bad)
  if 65536 ≤ i then none
  else
    let s := if held then s
      else (s.modSec fun u => { u with otp := { u.otp with sigBlock := u.otp.sigBlock ||| (1#2048 <<< (i / 32)) } }).raise
        .secIndexReserved 0 0 (i / 32)
    some (i, (s.modSec fun u => { u with nextIndex := i + 1 }).indexLow)

/-! Boot (R401, R405). -/

/-- Complete the fuses of a life-cycle transition that a power failure interrupted (R405). In BLANK a seed slot that has been touched and
has no completion fuse is spent as it stands: no fuse is unblown (R400). -/
def OtpUnit.complete (o : OtpUnit) (lifecycle : Nat) : OtpUnit :=
  let dead := (o.seedA.complete && o.seedA.destroyed) || (o.seedB.complete && o.seedB.destroyed)
  match lifecycle with
  | 1 => if o.ownerWrapDestroyed ∧ ¬ dead then o.blow 2 else o
  | 2 => if dead then o.destroyWrap.blow 3 else if o.ownerWrapDestroyed then o.blow 2 else o
  | 3 => if dead then o.blow 3 else o
  | _ => o

end Sys2Proof.Machine
end

