-- ==== Sys2Proof/Machine/ImageOps.lean ====
section
/-!
DEFINITION. Images and relay (chapter 15): header checks, the download, relay frames and transfers, boot and refill.
-/
namespace Sys2Proof.Machine

def Stage.code : Stage → Nat
  | .idle => 0
  | .header => 1
  | .body => 2
  | .verified => 3
  | .activating => 4
  | .activated => 5
  | .invalid => 6
  | .refill => 7

/-- The anti-rollback counter: blown fuses in word A (R439). -/
def State.rollback (s : State) : Nat := countBits s.sec.otp.rollA

/-- A thermometer of n fuses. -/
def thermometer (n : Nat) : BitVec 32 := BitVec.ofNat 32 (2 ^ n - 1)

/-! Header (R426, R427). -/

def headerMinVer (h : Bytes) : Nat := fieldLE h 0x010 4
def headerBodyLen (h : Bytes) : Nat := fieldLE h 0x014 4
def headerSecVer (h : Bytes) : Nat := byteAt h 0x018

/-- The bytes from an offset on are zero. -/
def zeroAt (h : Bytes) (off n : Nat) : Bool := (List.range n).all fun i => decide (byteAt h (off + i) = 0)

/-- CORE_I size in bytes of a core kind 1–6 (Table 11-1). -/
def kindBytes (kind : Nat) : Nat :=
  4 * coreMemWords true (match kind with | 1 => 0 | 2 => 136 | 3 => 168 | 4 => 180 | 5 => 186 | _ => 190)

/-- A section entry is consistent with the body (R426). -/
def sectionOk (h : Bytes) (i : Nat) : Bool :=
  let o := 0x040 + 16 * i
  let kind := byteAt h o
  if kind = 0 then zeroAt h o 16
  else decide (kind ≤ 6) && zeroAt h (o + 1) 3 && decide (fieldLE h (o + 4) 4 + fieldLE h (o + 8) 4 ≤ headerBodyLen h) &&
    decide (fieldLE h (o + 8) 4 ≤ kindBytes kind)

/-- Check 1 of Table 15-3. -/
def headerFormat (h : Bytes) : Bool :=
  decide (h.take 4 = [0x4D, 0x59, 0x49, 0x4D]) && decide (fieldLE h 4 2 = 1) && zeroAt h 6 2 && zeroAt h 0x01A 6 &&
  zeroAt h 0x0C0 64 && zeroAt h 0xC05 3 && zeroAt h 0x170C 2292 && (List.range 8).all (sectionOk h) &&
  [1, 2, 3, 4, 5, 6].all fun k => decide (((List.range 8).filter fun i => decide (byteAt h (0x040 + 16 * i) = k)).length = 1)

/-- A named slot's co-signature verifies (R426, R427 check 5). -/
def State.cosigOk (s : State) (h : Bytes) (slot : Nat) : Bool :=
  match s.verifying slot with
  | some k => decide (slot < 8) && Config.xmssOk k.pub (h.take 256) ((h.drop 0xC08).take (keySigLength k.pub))
  | none => false

def State.cosignPasses (s : State) (h : Bytes) : Bool :=
  let slot := byteAt h 0xC04
  if s.requireCosign then
    (match s.verifying slot with | some k => k.uses.getLsbD 2 | none => false) && s.cosigOk h slot
  else decide (slot = 0xFF) || s.cosigOk h slot

/-- The first check of Table 15-3 that fails, 0 for none; check 7 is made while an image runs. -/
def State.headerCheck (s : State) (h : Bytes) (length : Nat) (image : Bool) : Nat :=
  let body := headerBodyLen h
  let step := s.sec.made.step.toNat
  if ¬ headerFormat h then 1
  else if fieldLE h 0x008 2 ≠ 0x5128 ∨ ¬ (decide (step < 16) && bitOf (fieldLE h 0x00A 2) step) then 2
  else if body < 4 ∨ 25157632 < body ∨ body % 4 ≠ 0 ∨ body + 8192 ≠ length then 3
  else if 3 < byteAt h 0x019 ∨ ¬ Config.xmssOk (Config.vendorKey (byteAt h 0x019)) (h.take 256) ((h.drop 0x100).take 2820) then 4
  else if ¬ s.cosignPasses h then 5
  else if headerSecVer h < s.rollback then 6
  else if image ∧ s.sec.img.runningVer.toNat < headerMinVer h then 7
  else 0

/-- The stored body hashes to the header's BODY_HASH (R429, R440). -/
def State.bodyMatches (s : State) (h : Bytes) : Bool :=
  decide (Config.shake256 32 (memReads 0xFF s.sec.flash.slotBody 0 (headerBodyLen h)) = (h.drop 0x020).take 32)

/-- The slot holds a valid image (R440 step 2): its header. -/
def State.validSlot (s : State) : Option Bytes :=
  match s.sec.flash.slotHeader with
  | some h => if s.headerCheck h (headerBodyLen h + 8192) false = 0 ∧ s.bodyMatches h then some h else none
  | none => none

/-! Relay frames (R433). -/

/-- TYPE, LEN, payload and CRC of a frame. -/
def relayFrame (type : Nat) (payload : Bytes) : Bytes :=
  let head := leBytes 1 type ++ leBytes 2 payload.length ++ payload
  head ++ crc32Bytes head

/-- A received frame's CRC matches. -/
def frameGood (type : Nat) (payload : Bytes) (crc : BitVec 32) : Bool :=
  decide (crc32Bytes (leBytes 1 type ++ leBytes 2 payload.length ++ payload) = leBytes 4 crc.toNat)

def State.rport (s : State) (q : Port) : RelayPort := s.sec.img.port[q.val]
def State.modPort (s : State) (q : Port) (f : RelayPort → RelayPort) : State := s.modImg fun u => { u with port := vupd u.port q f }

/-- Send a frame on a port. -/
def State.send (s : State) (q : Port) (type : Nat) (payload : Bytes) : State :=
  s.modPort q fun p => { p with out := p.out ++ [relayFrame type payload] }

/-- A new row that may send frames begins. -/
def State.quietPorts (s : State) : State :=
  let none' (p : RelayPort) : RelayPort := { p with out := [] }
  s.modImg fun u => { u with port := u.port.map none' }

def State.sendHello (s : State) (q : Port) : State :=
  s.send q 1 (leBytes 2 0x5128 ++ [s.sec.made.step] ++ leBytes 1 s.sec.img.stage.code ++ leBytes 4 s.sec.img.runningVer.toNat ++
    leBytes 1 s.rollback ++ zeros 3)
def State.sendAck (s : State) (q : Port) (next : Nat) : State := s.send q 4 (leBytes 4 next ++ [8] ++ zeros 3)
def State.sendNak (s : State) (q : Port) (reason : Nat) : State := s.send q 5 (leBytes 1 reason ++ zeros 3)
def State.sendAbort (s : State) (q : Port) (reason : Nat) : State := s.send q 7 (leBytes 1 reason ++ zeros 3)
def State.sendRefillReq (s : State) (q : Port) (counter : Nat) : State :=
  s.send q 6 (leBytes 2 0x5128 ++ [s.sec.made.step] ++ leBytes 1 counter)

/-! Transfers that this device sends (R434, R435, R441). -/

/-- A byte of what a transfer carries: the loader sector, the stored image, or the image being received. -/
def State.txByte (s : State) (t : RelayTx) (o : Nat) : Byte :=
  let u := s.sec.img
  match t.cargo with
  | .loader => memRead 0xFF s.sec.flash.loader o
  | .image =>
    if o < 8192 then (if t.refill then (s.sec.flash.slotHeader.getD []) else u.header).getD o 0
    else if t.refill ∨ o - 8192 < u.written then memRead 0xFF s.sec.flash.slotBody (o - 8192)
    else u.buffer.getD (o - 8192 - u.written) 0

/-- Bytes of a transfer that may be sent: those of whole received chunks of an image that is being forwarded. -/
def State.txReady (s : State) (t : RelayTx) : Nat :=
  let u := s.sec.img
  if t.cargo = .loader ∨ t.refill then t.length
  else if u.received = u.length then t.length
  else u.received / 4096 * 4096

/-- Send DATA frames within the window and what is ready (R434). -/
def State.pump (s : State) (q : Port) (t : RelayTx) : Nat → State
  | 0 => s.modPort q fun p => { p with tx := some t }
  | n + 1 =>
    let size := min 4096 (t.length - t.sent)
    if t.phase = 2 ∧ 0 < size ∧ t.sent + size ≤ s.txReady t ∧ t.sent < t.next + 4096 * t.window then
      let s := s.send q 3 (leBytes 4 t.sent ++ (List.range size).map fun i => s.txByte t (t.sent + i))
      s.pump q { t with sent := t.sent + size } n
    else s.modPort q fun p => { p with tx := some t }

/-- Let every transfer go on. -/
def State.pumpAll (s : State) : State :=
  s.each [0, 1] fun q s => match (s.rport q).tx with
    | some t => s.pump q t 256
    | none => s

/-- The VERSION that events of a transfer name (R442): the image being forwarded, the slot's image in a refill, none for the loader. -/
def State.txVersion (s : State) (t : RelayTx) : Nat :=
  if t.cargo = .loader then 0
  else if t.refill then headerVersion (s.sec.flash.slotHeader.getD [])
  else s.sec.img.pendingVer.toNat

/-- A transfer fails: EV_IMG_RELAY_FAIL with a REJECT or NAK code (R434, R435). -/
def State.relayFail (s : State) (q : Port) (code : Nat) : State :=
  match (s.rport q).tx with
  | none => s
  | some t => (s.modPort q fun p => { p with tx := none }).raise .imgRelayFail (q.val + 1) code (s.txVersion t)

/-- NEXT as this device may acknowledge it upstream: written and read back here, and acknowledged by every live downstream. -/
def State.upNext (s : State) : Nat :=
  let u := s.sec.img
  let own := if u.headerOk then 8192 + u.written else 0
  ([0, 1] : List Port).foldl (fun n q => match (s.rport q).tx with
    | some t => if t.cargo = .image ∧ ¬ t.refill then min n t.next else n
    | none => n) own

/-- Acknowledge upstream when NEXT has advanced (R435). -/
def State.ackUp (s : State) : State :=
  let u := s.sec.img
  let n := s.upNext
  if u.source ≠ 0 ∧ u.headerOk ∧ (u.active ∨ u.stage = .verified) ∧ u.acked < n then
    (s.modImg fun u => { u with acked := n }).sendAck (finOf 2 (u.source - 1)) n
  else s

/-- Ports that forward the image of this download (R435): PORTS [2] RLY_DN, [3] RLY_UP. -/
def ImageUnit.forwardPorts (u : ImageUnit) : List Port :=
  if u.stage = .refill ∨ ¬ u.forward then []
  else ([0, 1] : List Port).filter fun q => u.ports.getLsbD (if q = 1 then 2 else 3) && decide (u.source ≠ q.val + 1)

/-- Open a transfer with HELLO (R434). -/
def State.startForward (s : State) (q : Port) : State :=
  if (s.rport q).tx.isSome then s
  else
    let t : RelayTx := { cargo := .image, phase := 0, length := s.sec.img.length, since := s.now }
    (s.modPort q fun p => { p with tx := some t }).sendHello q

/-! The download. -/

/-- Requests of refills (R440): RLY_UP first, then RLY_DN, then EV_IMG_REFILL with CODE 2 and a wait for the retry. -/
def State.askRefill (s : State) (q : Port) : State := (s.modPort q fun p => { p with asked := true }).sendRefillReq q s.rollback

def State.refillFailed (s : State) (q : Port) : State :=
  let s := s.modPort q fun p => { p with asked := false }
  if s.sys.clk.phase ≠ .refill ∨ (s.sec.img.active ∧ s.sec.img.source = 0) then s
  else if q = 0 then s.askRefill 1
  else (s.modImg fun u => { u with refillWait := true }).raise .imgRefill 0 2

/-- A download ends without a verified image (R430, R431): the stage of Table 15-4, forwarding abandoned, and in REFILL the
next attempt. -/
def State.stopDownload (s : State) (code : Nat) : State :=
  let u := s.sec.img
  let stage := if u.stage = .refill then Stage.refill else if u.headerOk then .invalid else .idle
  let s := s.modImg fun u => { u with
    active := false, reject := code, stage := stage, headerOk := false, bodyOk := false, buffer := [] }
  let s := s.each ([0, 1] : List Port) fun q s => match (s.rport q).tx with
    | some t => if t.cargo = .image ∧ ¬ t.refill then (s.modPort q fun p => { p with tx := none }).sendAbort q code else s
    | none => s
  if u.source ≠ 0 ∧ u.stage = .refill then s.refillFailed (finOf 2 (u.source - 1)) else s

/-- A download is rejected or abandoned: EV_IMG_REJECTED with its code, and a NAK to a relay source that is still there. -/
def State.rejectDownload (s : State) (code : Nat) (nak : Bool) : State :=
  let u := s.sec.img
  if ¬ u.active then s
  else
    let s := s.raise .imgRejected u.source code u.pendingVer.toNat
    let s := if nak ∧ u.source ≠ 0 then s.sendNak (finOf 2 (u.source - 1)) code else s
    s.stopDownload code

/-- Record a download's source and length (Table 15-4). -/
def State.beginDownload (s : State) (source length : Nat) (forward : Bool) : State :=
  s.modImg fun u => { u with
    stage := if u.stage = .refill then .refill else .header, active := true, source := source, length := length, begun := s.now, received := 0,
    written := 0, header := [], headerOk := false, bodyOk := false, buffer := [], forward := forward, reject := 0, acked := 0,
    pendingVer := 0, refillWait := false }

/-- Take received bytes: the header first, then the body's buffer. -/
def ImageUnit.take (u : ImageUnit) (bs : Bytes) : ImageUnit :=
  let n := 8192 - u.header.length
  { u with header := u.header ++ bs.take n, buffer := u.buffer ++ bs.drop n, received := u.received + bs.length }

/-! Boot (R401, R425, R440). -/

/-- The boot count record the loader writes; `none` when it cannot be advanced (R425). -/
def BootRegion.next : BootRegion → Option (Word × Word)
  | .erased => some (1, 0)
  | .count b q => some (b + 1, q + 1)
  | .spoiled => none

/-- Reapply recorded remaps, except those of the security cores' memories (R343). -/
def State.reapplyRemaps (s : State) : State :=
  s.each s.sec.flash.remapLog fun r s => match arrOfId r.1 with
    | none => s
    | some a =>
      let sec : Bool := match arrCore a with
        | some c => decide (190 ≤ c.val)
        | none => false
      let u := s.arrOf a
      if sec ∨ 8 ≤ u.remaps.length ∨ u.remaps.any (fun x => decide (x.addr = r.2)) then s
      else s.modArr a fun u => { u with
        remaps := u.remaps ++ [{ addr := r.2, retired := false }], remapFull := decide (8 ≤ u.remaps.length + 1) }

/-- The loader's AVSBus target: that of the latest plan record (Table 9-11), or the manufacture setpoint (R450). -/
def State.bootTarget (s : State) : Nat :=
  match s.age.ring with
  | r :: _ => fieldLE r.bytes 0x10 2
  | [] => s.sec.made.setpoint

/-- The cores are released, and run a version (R401 step 4). -/
def State.releaseCores (s : State) (ver : Word) : State :=
  let run (c : CoreUnit) : CoreUnit := { c with version := ver }
  s.modSys fun u => { u with core := u.core.map run, fwReady := true }

/-- At a boot the identity indices go on from the first block not blown (R410); the skip may be the first fall below a limit (R411). -/
def State.restartSigning (s : State) : State :=
  (s.modSec fun u => { u with nextIndex := 32 * u.otp.blocks, signReady := false }).indexLow

/-- The slot's image starts: the cores' sections, AVSBus target (R450), boot count, remaps, release of the cores (R401 step 4, R440 step 3). -/
def State.runImage (s : State) (h : Bytes) : State :=
  let j := s.sec.flash.journal
  let ver := BitVec.ofNat 32 (headerVersion h)
  let fresh := !j.confirmed && decide (s.rollback < headerSecVer h)
  let target := s.bootTarget
  let s := ((s.modAvs fun u => u.request .plan target).reapplyRemaps.loadCores h).releaseCores ver
  let s := s.modImg fun u => { u with
    stage := if fresh then .activated else .idle, active := false, running := h, runningVer := ver, unconfirmed := fresh,
    refillWait := false }
  let s := (s.modPins fun p => { p with flashProtected := true }).restartSigning
  let s := match s.sec.flash.boot.next with
    | some (b, q) => ((s.modFlash fun f => { f with boot := .count b q }).modImg fun u => { u with bootCount := b }).modClk fun c =>
        { c with phase := .running }
    | none => (s.modClk fun c => { c with phase := .noCount }).raise .deliveryGenFail 0xFFFF
  s.settleRings

/-- The loader finds the slot invalid (R440 step 4). -/
def State.enterRefill (s : State) : State :=
  let s := (s.modClk fun c => { c with phase := .refill }).modImg fun u => { u with stage := .refill, active := false }
  ((s.raise .imgRefill 0 0).askRefill 0).settleRings

/-- The loader's steps of R440. -/
def State.loaderBoot (s : State) : State :=
  let s := s.modSec fun u => { u with otp := { u.otp with rollB := u.otp.rollB ||| u.otp.rollA } }
  match s.validSlot with
  | some h => s.runImage h
  | none => s.enterRefill

/-- The boot ROM cannot verify the loader: it asks both neighbours for it (R441). -/
def State.askLoader (s : State) : State :=
  s.each ([0, 1] : List Port) fun q s => (s.modPort q fun p => { p with asked := true }).sendRefillReq q 0xFF

/-- Complete an interrupted life-cycle transition (R401 step 1, R405); the move to RETURNED overwrites the flash owner region
(Table 14-3). -/
def State.completeMove (s : State) : State :=
  let old := s.lifecycle
  let s := s.modSec fun u => { u with otp := u.otp.complete old }
  if s.lifecycle = 3 ∧ old ≠ 3 then s.modFlash fun f => { f with owner := Vector.replicate 8 none } else s

/-- The boot ROM's steps (R401). -/
def State.bootRom (s : State) : State :=
  let s := s.completeMove
  if Config.loaderOk s.sec.flash.loader then
    (s.modImg fun u => { u with loaderHash := Config.shake256 32 (memReads 0xFF s.sec.flash.loader 0 1048576) }).loaderBoot
  else (s.modClk fun c => { c with phase := .romRefill }).askLoader

end Sys2Proof.Machine
end

