-- ==== Sys2Proof/Machine/LaneOps.lean ====
section
/-!
DEFINITION. Meanings of the lane rows: modes and transitions (R16–R19), training (R391), lane reset (R308), status (R390),
reintegration (R187), and the end of a core cover (R14).
-/
namespace Sys2Proof.Machine

/-! Modes. -/

/-- The mode a code of Table 2-10 names. -/
def modeOfCode (n : Nat) : LaneMode :=
  match n with
  | 1 => .tune
  | 2 => .steady
  | 3 => .transparent
  | 4 => .slotted
  | 5 => .openM
  | 6 => .loop
  | 7 => .spare
  | _ => .dark

/-- Transitions of Table 1-6 with the conditions that a state shows. -/
def State.mayChange (s : State) (p : Phys) (target : LaneMode) : Bool :=
  let l := s.ln p
  let trained := decide (l.train = .passed) && l.trainHere
  let w := s.workOf p
  match l.mode, target with
  | .dark, .tune => decide (s.sys.clk.phase ≠ .noCount)
  | .dark, .loop => decide (s.sys.clk.phase ≠ .noCount)
  | .tune, .dark => true
  | .tune, .loop => true
  | .tune, .steady => trained && decide (l.trainTarget = .steady) && w.isSome
  | .tune, .transparent => trained && decide (l.trainTarget = .transparent) && w.isSome
  | .tune, .slotted => trained && decide (l.trainTarget = .slotted) && w.isSome
  | .tune, .openM => trained && decide (l.trainTarget = .openM) && w.isSome
  | .tune, .spare => trained && w.isNone
  | .steady, .tune => true
  | .steady, .dark => true
  | .slotted, .openM => true
  | .openM, .slotted => match w with
    | some w => (s.wk w).tx.loaded
    | none => false
  | .slotted, .tune => true
  | .slotted, .dark => true
  | .openM, .tune => true
  | .openM, .dark => true
  | .transparent, .tune => true
  | .transparent, .dark => true
  | .loop, .tune => true
  | .loop, .dark => true
  | .spare, .tune => true
  | .spare, .dark => true
  | _, _ => false

/-- A request that cancels a pending change between SLOTTED and OPEN (R146). -/
def State.cancelsChange (s : State) (p : Phys) (target : LaneMode) : Bool :=
  match (s.ln p).change with
  | some (.epoch _ _ late) => decide (target = s.modeOf p) && !late
  | _ => false

/-- A transition without a drain takes effect at once (R17). -/
def State.changeNow (s : State) (p : Phys) (target : LaneMode) : State :=
  let s := if (s.ln p).train = .running then s.endTrain p .failed .badState 4 else s
  let s := s.setMode p target
  if target = .spare then s.spareEntered p else s

/-- LANE.SET_MODE (R17–R19, R146, R279). -/
def execLaneSetMode (k : Sess) (s : State) : Host.Outcome State Fault Refusal :=
  .next <| s.runCmd 0x0301 k fun a s =>
    let p : Phys := finOf 136 (byteAt a 0)
    let target := modeOfCode (byteAt a 1)
    let limit := fieldLE a 2 2
    let l := s.ln p
    let cancel := s.cancelsChange p target
    s.guarded
      [(l.selftest, s.busyTest), (s.moving p && !cancel, refuse .busy),
        (s.retired || s.tripped || l.failed || (!cancel && !s.mayChange p target), refuse .badState),
        (decide (target = .transparent) && !s.standard, refuse .notSupported)]
      fun s =>
        let s := s.startDozeExit p 2
        let s := if (s.ln p).power = .idle then s.setLanePower p .active 2 else s
        if cancel then
          (replyOk (leBytes 1 l.mode.code ++ zeros 7), s.modLane p fun l => { l with change := none })
        else if guaranteed l.mode ∧ ¬ burstMode target then
          (.later, s.modLane p fun l => { l with
            change := some (.drain target (some k)), drainLimit := if limit = 0 then 100 else limit })
        else if burstMode l.mode then
          let e := match s.workOf p with
            | some w => s.nextTarget w
            | none => 0
          (replyOk (leBytes 1 target.code ++ zeros 3 ++ leBytes 4 e.toNat), s.modLane p fun l => { l with
            change := some (.epoch target e false) })
        else (replyOk (leBytes 1 target.code ++ zeros 7), s.changeNow p target)

/-! Training. -/

/-- LANE.TRAIN (R391), with the TRAIN trigger of Table 9-9 for an unpinned lane. -/
def execLaneTrain (k : Sess) (s : State) : Host.Outcome State Fault Refusal :=
  .next <| s.runCmd 0x0302 k fun a s =>
    let p : Phys := finOf 136 (byteAt a 0)
    let l := s.ln p
    s.guarded
      [(l.selftest, s.busyTest), (decide (l.train = .running), refuse .busy), (decide (l.mode ≠ .tune), refuse .badState)]
      fun s =>
        let s := (s.modLane p fun l => { l with
          train := .running, trainTarget := modeOfCode (byteAt a 1), trainHere := true, trainSess := some k }).modTx p fun t => { t with
          trainSignal := true }
        (.later, if l.pinned then s else s.calTrigger p false 64)

/-- The home of a working lane is this physical lane (R3). -/
def originalWork (p : Phys) : Option Work := workAll.find? fun w => decide (homeOf w = p)

/-- Step 3 of a reintegration (R187): the restore move, or its outcome where none is made. -/
def State.restoreMove (s : State) (p : Phys) : State :=
  let done (s : State) (outcome w : Nat) : State :=
    (s.modLane p fun l => { l with reint := none }).raiseP .deliveryReintegrated p 3 outcome w
  match originalWork p with
  | none => done s 2 255
  | some w =>
    match s.physOf w with
    | none => done s 2 255
    | some src =>
      if src = p then done s 0 w.val
      else if ¬ (s.wk w).restore ∨ ¬ guaranteed (s.modeOf src) ∨ (s.workOf p).isSome then done s 2 255
      else if (s.wk w).move.isSome ∨ (s.moveOf p).isSome ∨ s.tripped then done s 1 w.val
      else (s.modLane p fun l => { l with reint := some (.restoring w) }).plannedMove w src p .command true

/-- Training for SLOTTED or OPEN writes the base portrait from the receive path as it stands (R79). -/
def State.baseFromTraining (s : State) (p : Phys) : State :=
  let r := s.rxl p
  match s.workOf p with
  | none => s
  | some w =>
    let q : Portrait := { Portrait.empty w.val with
      valid := true, vga := r.vga, deskew := r.deskew, dgain := r.dgain, timingPhase := r.timingPhase, freqOffset := r.freqOffset,
      coeffs := r.active, acq := Config.acqTaps p.val s.now, snr := r.diag.snr, eyeMin := r.diag.eyeMin }
    s.modBurst w fun u => { u with base := q }

/-- A training ends; one of a reintegration goes on to its next step (R187). -/
def State.trainingEnds (s : State) (p : Phys) (passed : Bool) (reason : Nat) : State :=
  let reint := decide ((s.ln p).reint = some .training)
  if ¬ passed then s.trainFails p .timeout reason
  else
    let s := if burstMode (s.ln p).trainTarget then s.baseFromTraining p else s
    let s := (s.endTrain p .passed .ok 0).modTx p fun t => { t with trainSignal := false }
    if ¬ reint then s
    else
      let s := s.raiseP .deliveryReintegrated p 1 0 255
      let s := (s.setMode p .spare).modLane p fun l => { l with failed := false }
      let s := s.raiseP .deliveryReintegrated p 2 0 255
      (s.spareEntered p).restoreMove p

/-- LANE_TRAINING_DONE (R17): a failing end answers as the time limit does, with its reason. -/
def execLaneTrainingDone (p : Phys) (passed : Bool) (reason : Nat) (s : State) : Host.Outcome State Fault Refusal :=
  .next <| if (s.ln p).train = .running then s.trainingEnds p passed reason else s

/-- LANE_TRAIN_TIMEOUT (R391): 90 ms have passed; `reason` 1 no signal, 2 no lock, 3 no marker. -/
def execLaneTrainTimeout (p : Phys) (reason : Nat) (s : State) : Host.Outcome State Fault Refusal :=
  .next <| if (s.ln p).train = .running then s.trainingEnds p false reason else s

/-- DELIVERY.REINTEGRATE (R187): the FAILED lane goes to TUNE and trains toward SPARE. -/
def execDeliveryReintegrate (k : Sess) (s : State) : Host.Outcome State Fault Refusal :=
  .next <| s.runCmd 0x0608 k fun a s =>
    let p : Phys := finOf 136 (byteAt a 0)
    let l := s.ln p
    s.guarded
      [(l.selftest, s.busyTest), (l.reint.isSome, refuse .busy),
        (!l.failed || s.retired || s.tripped || decide (l.mode ≠ .dark) || (s.workOf p).isSome || decide (s.sys.clk.phase = .noCount),
          refuse .badState)]
      fun s =>
        let s := (s.modLane p fun l => { l with reint := some .training }).setMode p .tune
        let s := (s.modLane p fun l => { l with train := .running, trainTarget := .spare, trainHere := true, trainSess := none }).modTx p fun t =>
          { t with trainSignal := true }
        (replyOk, if l.pinned then s else s.calTrigger p false 64)

/-! Lane reset. -/

/-- LANE.RESET (R308): in SLOTTED and OPEN it waits for the bursts in progress. -/
def execLaneReset (k : Sess) (s : State) : Host.Outcome State Fault Refusal :=
  .next <| s.runCmd 0x0303 k fun a s =>
    let p : Phys := finOf 136 (byteAt a 0)
    let l := s.ln p
    s.guarded [(l.selftest, s.busyTest), (s.moving p || l.resetWait || l.resetting, refuse .busy)] fun s =>
      let s := s.startDozeExit p 5
      let s := if l.power = .idle then s.setLanePower p .active 5 else s
      (replyOk, (s.modLane p fun l => { l with resetWait := true }).settleReset p)

/-- LANE_RESET_DONE (R308): the lane engine restarts; `discarded` transfers of its crossings were lost each way (R304). -/
def execLaneResetDone (p : Phys) (discarded : Nat × Nat) (s : State) : Host.Outcome State Fault Refusal :=
  .next <|
    let s := s.settleReset p
    if ¬ (s.ln p).resetting then s
    else
      let m := s.modeOf p
      let s := s.modLane p fun l => { l with
        resetting := false, saving := l.saving || decide (l.mode = .dark ∧ l.power ≠ .off) }
      let s := s.modRx p fun r => { r with
        state := if continuousMode m && !s.tripped then .signalWait else r.state, agcOn := continuousMode m && !r.los }
      ((s.thawLane p .laneReset).openXing p.val discarded).raise .devResetDone (pwrSrc 0 p.val)

/-! Status and station. -/

/-- Lane status record (Table 13-4). -/
def State.laneRecord (s : State) (p : Phys) : Bytes :=
  let l := s.ln p
  let w := s.workOf p
  let f : FecLane := match w with
    | some w => (s.wk w).fec
    | none => {}
  let sk : Bool := match w with
    | some w => (s.wk w).sketch
    | none => false
  let st : Nat := match w with
    | some w => (s.wk w).station
    | none => 16383
  recWord [(8, p.val), (8, match w with | some w => w.val | none => 255), (4, l.mode.code), (4, rxStateCode (s.rxl p).state),
    (2, l.power.code), (1, l.failed.toNat), (1, s.tripped.toNat), (1, l.selftest.toNat), (1, (s.moving p).toNat),
    (1, l.pinned.toNat), (1, sk.toNat)] ++
  recWord [(14, st), (14, f.peer)] ++ leBytes 8 s.now.toNat ++
  recWord [(16, ofSigned 16 f.margin), (3, s.rungsOf p), (1, f.hard.toNat), (3, captureCode (s.rxl p).capture.status),
    (1, (s.zeroScale p).toNat), (4, s.zsCause p),
    (2, match l.train with | .none => 0 | .running => 1 | .passed => 2 | .failed => 3)] ++
  recWord [(4, l.trainTarget.code)] ++ zeros 8

/-- LANE.GET_STATUS (R390). -/
def execLaneGetStatus (k : Sess) (s : State) : Host.Outcome State Fault Refusal :=
  .next <| s.runCmd 0x0304 k fun a s =>
    let p : Phys := finOf 136 (byteAt a 0)
    (s.statusReply (s.ln p).selftest (s.laneRecord p), s)

/-- LANE.SET_STATION (R391, R62): only while the physical lane is in DARK or TUNE. -/
def execLaneSetStation (k : Sess) (s : State) : Host.Outcome State Fault Refusal :=
  .next <| s.runCmd 0x0305 k fun a s =>
    let w : Work := finOf 128 (byteAt a 0)
    let m := s.modeOfWork w
    s.guarded
      [(s.workTest w, s.busyTest), ((s.physOf w).isNone || decide (m ≠ .dark ∧ m ≠ .tune), refuse .badState)]
      fun s => (replyOk, s.modWork w fun u => { u with station := fieldLE a 2 2 })

/-! Covers. -/

/-- CORE_COVER_DONE (R14): a lane engine's cover is reported by its spare move or its FAILED mark instead. -/
def execCoreCoverDone (c : Core) (s : State) : Host.Outcome State Fault Refusal := .next <| s.endCover c

end Sys2Proof.Machine
end

