-- ==== Sys2Proof/Machine/Rinlink.lean ====
section
/-!
DEFINITION. Meanings of the Rinlink rows: blocks, swatches, replay, training, faults, idle, and the HOST commands
(chapter 7, Table 13-8).
-/
namespace Sys2Proof.Machine

/-! Lane faults. -/

/-- The spare lane is taken for traffic: a loop of it ends as ABORTED, and a self-test that uses it ends with cause 4 (R21, R227,
R418). -/
def State.spareTaken (s : State) (g : Group) : State :=
  let h := s.grp g
  let s := if h.selftest then s.endTest 4 else s
  if h.loopStatus = 1 ∧ h.loopScope = 1 then
    (s.modGroup g fun h => { h with loopMode := 0, loopStatus := 3 }).raise .hostLoopback (g.val + 256 * 16) 3
  else s

/-- Declare a receive lane failing (R221, R224): 17 is the forwarded clock. With AUTO_REPAIR on REPAIR_REQ goes out for the role the
lane carries; an idle spare or a retired lane carries none. The repair asked for needs the spare, which a loop or self-test on it
gives up (R227). -/
def State.hostLaneFail (s : State) (g : Group) (lane reason : Nat) : State :=
  let h := s.grp g
  if h.state = .off ∨ h.state = .outOfService ∨ h.rxFailed.getLsbD lane then s
  else
    let role := if lane = 17 then 16 else h.rxRole.toList.getD lane 31
    let s := s.modGroup g fun h => { h with rxFailed := h.rxFailed ||| (1#18 <<< lane) }
    let s := s.raise .hostLaneFail (g.val + 256 * lane) reason
    if lane ≠ 17 ∧ (role = 16 ∨ role = 31) then
      s.modGroup g fun h => { h with rxRole := h.rxRole.setIfInBounds lane 31 }
    else
      let s := if h.params.autoRepair then s.modGroup g fun h => { h with control := h.control ++ [ctlMsg 1 role reason] } else s
      if h.rxSpare.isSome then (if h.params.autoRepair then s.spareTaken g else s) else s.narrow g true

/-! Transmit and receive blocks. -/

/-- A group's transmitter sends blocks of its own: not OFF, not idle, not resetting, not in far-end loop-back (Table 7-13). -/
def HostGroup.sending (h : HostGroup) : Bool :=
  decide (h.state ≠ .off) && !h.txIdle && !h.resetting && !decide (h.state = .loopback ∧ h.loopMode = 3)

/-- Note when the acknowledgement of an IDLE_ENTER heard has gone out (R219). -/
def HostGroup.noteIdleAck (h : HostGroup) (now : Time) : HostGroup :=
  if h.idleHeard ∧ h.idleAcked = none ∧ h.ackSent = h.next - 1 then { h with idleAcked := some now } else h

/-- SSEQ of the kept swatches that a block resends, from the group before it and after it. -/
def HostGroup.resentIn (h h' : HostGroup) : List (BitVec 16) :=
  match h.resend with
  | none => []
  | some q =>
    let n := ((h'.resend.getD h.sseq) - q).toNat
    (h.replay.map (·.sseq)).filter fun x => decide ((x - q).toNat < n)

/-- Read kept swatches to resend them, 60 words each; answers whether a word read with MEM_ERROR. -/
def State.readSwatches (s : State) (g : Group) (l : List (BitVec 16)) (bad : Option (Nat × BitVec 42)) : Bool × State :=
  l.zipIdx.foldl (fun acc x =>
    let d := (bad.filter fun y => decide (y.1 / 60 = x.2)).map fun y => (y.1 % 60, y.2)
    let r := acc.2.unitRead (arrReplay g) (swatchWord g x.1) 60 d
    (acc.1 || decide (r.1 ≠ []), r.2)) (false, s)

/-- TX_BLOCK_START: a comma opens a block on every lane (R196–R201). `bad` is a word of the kept swatches that the block resends and
the stored bits a disturbance inverts in it; an uncorrectable word puts the group out of service (R338). -/
def execTxBlockStart (g : Group) (bad : Option (Nat × BitVec 42)) (s : State) : Host.Outcome State Fault Refusal :=
  let h := s.grp g
  .next <|
    if ¬ h.sending then s
    else
      let h' := h.block g.val
      let r := s.readSwatches g (h.resentIn h') bad
      let s := r.2
      if r.1 then (s.modGroup g fun h => { h with replay := [], resend := none, replayLost := true }).groupOut g
      else
      let s := s.each (h'.replay.drop h.replay.length) fun x s => s.unitWrite (arrReplay g) (swatchWord g x.sseq) 60
      let s := s.modTherm fun t => { t with trimHtx := vupd t.trimHtx g (·.take) }
      s.modGroup g fun _ => h'.noteIdleAck s.now

/-- The lane field of a physical lane after its comma, and whether the comma was valid (R197). -/
def commaOf (g : Group) (c : Option (BitVec 32)) : Option (Nat × Bool × Bool) :=
  match c with
  | none => none
  | some w => match commaFields w with
    | some (l, grp, ops, hold) => if grp = g.val % 16 then some (l, ops, hold) else none
    | none => none

/-- GRP of a comma whose other fields are right differs from this group's (Table 7-9, ALIGN). -/
def groupDiffers (g : Group) (c : Option (BitVec 32)) : Bool :=
  match c with
  | none => false
  | some w => match commaFields w with
    | some (_, grp, _, _) => decide (grp ≠ g.val % 16)
    | none => false

/-- Take the LANE fields of valid commas; a lane that newly carries a data role on the spare is a substitution by the
partner (R222). Invalid or missing commas are counted (R197). -/
def HostGroup.takeCommas (h : HostGroup) (g : Group) (cs : List (Option (BitVec 32))) : HostGroup :=
  (List.range 17).foldl (fun h k =>
    if h.rxClockSpare ∧ k = 16 then h
    else match commaOf g (cs.getD k none) with
      | some (l, _, _) => { h with
          rxRole := h.rxRole.setIfInBounds k (if l < 17 then l else if l = 31 then 31 else h.rxRole.toList.getD k 31)
          commaMiss := h.commaMiss.setIfInBounds k 0 }
      | none => { h with
          commaMiss := h.commaMiss.setIfInBounds k (h.commaMiss.toList.getD k 0 + 1)
          goodTrain := if h.rxFailed.getLsbD k then h.goodTrain else 0,
            counts := { h.counts with commaErrors := satW 16 (h.counts.commaErrors + 1) } }) h

/-- A lane's 7,936 data bits of a training block: those that stuffing left no slot for are missing, and 0 holds their places until the
swatches they cut short are dropped (R201). -/
def LogLane.padTraining (l : LogLane) : LogLane := { l with bits := l.bits ++ List.replicate (7936 - l.bits.length) false }

/-- Swatches of a training block over n lanes that have lost data bits, by the bits each lane carried (R201, R203). -/
def cutSwatches (n : Nat) (got : List Nat) : List Nat :=
  ((List.range n).flatMap fun j => let k := got.getD j 0 / 128
    (List.range (62 - k)).map fun i => ((k + i) * n + j) / 16).eraseDups

/-- The end of a training block: the swatches it cuts short are marked, and every active lane is filled up to 62 units. -/
def HostGroup.padBlock (h : HostGroup) : HostGroup :=
  let cut := (cutSwatches h.rxWidth (h.rxLog.toList.map fun l => l.bits.length)).map fun m => h.rxStream.length / 256 + m
  { h with rxCut := h.rxCut ++ cut, rxLog := h.rxLog.map (·.padTraining) }

/-- Receive the block of every logical lane (R202) and reassemble its units (R203). In training `op` is the OPS of the block: the first
operational block after training blocks starts the stream with the partner's nonce (R198, R202 item 4, Table 7-9). -/
def HostGroup.takeBlock (h : HostGroup) (g : Group) (op hold : Bool) (slots : List (List Bool)) : HostGroup × List Nat :=
  let ops := op || decide (h.state = .active ∨ h.state = .loopback)
  let h := if ops then (if h.opsRx then h else { h.freshUnits with opsRx := true, rxLog := seedLanes g.val h.partner.nonce })
    else { h.freshUnits with opsRx := false }
  let r := (List.range 16).foldl (fun (acc : HostGroup × List Nat) j =>
    let h := acc.1
    match (List.range 17).find? (fun k => h.rxRole.toList.getD k 31 = j) with
    | none => acc
    | some k =>
      let l0 := h.rxLog.toList.getD j {}
      let l := if ops then (if hold then l0 else { l0 with target := l0.target + 8022 })
        else { scr := scrSeed g.val j 0, target := 7936, count := 0, bits := [] }
      let b := takeSlots (slots.getD k []) l 0 false 0 []
      let h' := { h with
        rxLog := h.rxLog.setIfInBounds j b.lane, goodTrain := if b.errors = 0 then h.goodTrain else 0,
        counts := { h.counts with stuffErrors := satW 16 (h.counts.stuffErrors + b.errors),
                                  slip := satW 16 (h.counts.slip + b.slip.toNat) } }
      (h', if h.params.stuffFail ≤ b.errors then acc.2 ++ [k] else acc.2)) (h, [])
  let h := r.1
  let h := if ops then { h with
      rxHold := hold, counts := { h.counts with holdBlocks := satW 16 (h.counts.holdBlocks + hold.toNat) } } else h.padBlock
  (HostGroup.gather h.units h.rxWidth h, r.2)

/-- Events of the partner's substitutions: the spare took over a data role (R222). -/
def State.noteSpareUse (s : State) (g : Group) (before : HostGroup) : State :=
  match before.rxSpare with
  | none => s
  | some k =>
    let role := (s.grp g).rxRole.toList.getD k 31
    if role < 16 then
      let s := s.spareTaken g
      let old := (List.range 17).find? (fun x => before.rxRole.toList.getD x 31 = role)
      (s.modGroup g fun h => { h with
        counts := { h.counts with substitutions := satW 16 (h.counts.substitutions + 1) }
        rxRole := match old with | some x => h.rxRole.setIfInBounds x 31 | none => h.rxRole
        rxFailed := match old with | some x => h.rxFailed ||| (1#18 <<< x) | none => h.rxFailed }).raise
        .hostSpareUsed (g.val + 256 * k) role
    else s

/-- The slots of an idle spare: filler only (R199, R222). -/
def idleSlots : List Bool := (fillSlots 8160 {} 0 false 0 []).1

/-- A restored lane proves itself over 128 consecutive valid commas without a filler error (R225): SPARE_OK goes out. -/
def HostGroup.watchRestore (h : HostGroup) (valid : Nat → Bool) : HostGroup :=
  match h.restore with
  | some r =>
    if r.dir ≠ 0 then h
    else if ¬ valid r.lane then { h with restore := some { r with commas := 0 } }
    else if r.commas + 1 < 128 then { h with restore := some { r with commas := r.commas + 1 } }
    else { h with
      restore := none, control := h.control ++ [ctlMsg 4 r.lane 0], rxRole := h.rxRole.setIfInBounds r.lane 16
      rxFailed := h.rxFailed &&& ~~~ (1#18 <<< r.lane) }
  | none => h

/-- Commas have expected positions: the lanes are aligned (Table 7-9), so R202 item 5 judges them. -/
def HostGroup.aligned (h : HostGroup) : Bool :=
  match h.state with
  | .active => true
  | .train => decide (h.tstep ≠ .clock ∧ h.tstep ≠ .align)
  | _ => false

/-- What the deserialisers of a group receive: the lanes' blocks, or the device's own last block on every lane, or on physical
lane 16 alone, in near-end serial loop-back (Table 7-13). -/
def HostGroup.heard (h : HostGroup) (blocks : List (Option (BitVec 32) × List Bool)) : List (Option (BitVec 32) × List Bool) :=
  let own := h.lastBlock.map fun b => match b with | some (c, l) => (some c, l) | none => (none, [])
  if h.loopStatus ≠ 1 ∨ h.loopMode ≠ 1 then blocks
  else if h.loopScope = 1 then (List.range 17).map fun k => if k = 16 then own.getD 16 (none, []) else blocks.getD k (none, [])
  else own

/-- COMMA_RECEIVED: the commas of one block, and the block's slots, on physical lanes 0–16 of HRX (R197, R202, R203). Far-end
loop-back sends them again on the same-index HTX lanes; near-end parallel loop-back takes the unit path away from HRX (R227). -/
def execCommaReceived (g : Group) (blocks : List (Option (BitVec 32) × List Bool)) (s : State) :
    Host.Outcome State Fault Refusal :=
  let h := s.grp g
  .next <|
    if h.state = .off ∨ h.state = .outOfService ∨ h.rxIdle ∨ h.resetting ∨ (h.state = .loopback ∧ h.loopMode = 2) then s
    else
      let blocks := h.heard blocks
      let s := if h.state = .loopback ∧ h.loopMode = 3 then
          s.modGroup g fun h => { h with lastBlock := blocks.map fun b => b.1.map fun c => (c, b.2) }
        else s
      let cs := blocks.map (·.1)
      let s := s.modGroup g (·.takeCommas g cs)
      let s := s.noteSpareUse g h
      let h1 := s.grp g
      let seen := (List.range 17).filterMap fun k =>
        if h1.rxRole.toList.getD k 31 < 16 then commaOf g (cs.getD k none) else none
      let ops := majority (seen.map fun x => x.2.1) && decide (seen ≠ [])
      let hold := majority (seen.map fun x => x.2.2)
      let all := (List.range 17).all fun k => h1.rxFailed.getLsbD k || (h1.rxClockSpare && decide (k = 16)) ||
        (commaOf g (cs.getD k none)).isSome
      let s := match h1.state, h1.tstep with
        | .train, .align =>
          if cs.any (groupDiffers g) then s.raise .hostGroupMismatch g.val
          else if all then s.modGroup g fun h => { h with tstep := .check, goodTrain := 0 } else s
        | .train, .seed =>
          if ops then
            let s := if h1.partner.resume then s else s.partnerFresh g
            let s := s.each [0, 1, 2, 3] fun c s => s.grant (workOfChan g c)
            s.modGroup g fun h => { (List.range 4).foldl HostGroup.sbChange h with tstep := .credit }
          else s
        | _, _ => s
      let r := (s.grp g).takeBlock g ops hold (blocks.map (·.2))
      let s := s.modGroup g fun _ => r.1
      let aligned := h1.aligned
      let s := s.each r.2 fun k s => if aligned then s.hostLaneFail g k 2 else s
      let s := s.each (List.range 17) fun k s =>
        if (s.grp g).commaMiss.toList.getD k 0 = 2 ∧ aligned then s.hostLaneFail g k 1 else s
      let idles := fun k => (match commaOf g (cs.getD k none) with | some (l, _, _) => decide (l = 16) | none => false) &&
        decide ((blocks.getD k (none, [])).2 = idleSlots)
      s.modGroup g (·.watchRestore idles)

/-! Swatches. -/

/-- A CREDIT item raises a channel's limit (R210, R213); an ACCEPT item is never sent by the host ASIC and has no effect. -/
def HostGroup.takeSb (h : HostGroup) (w : Swatch) : HostGroup :=
  if w.sbKind = 1 ∧ w.sbCh < 4 then
    { h with
      chan := vupd h.chan (finOf 4 w.sbCh) fun c => if newer24 w.sbValue c.txLimit then { c with txLimit := w.sbValue } else c }
  else h

/-- A CREDIT item has come for a channel, whether R213 lets it be used or not (Table 7-9, CREDIT). -/
def HostGroup.noteCredit (h : HostGroup) (w : Swatch) : HostGroup :=
  if w.sbKind = 1 ∧ w.sbCh < 4 then { h with creditSeen := h.creditSeen ||| (1#4 <<< w.sbCh) } else h

/-- The link becomes ACTIVE and replay runs from the partner's RX_NEXT (R216, R218). -/
def State.linkUp (s : State) (g : Group) : State :=
  (s.modGroup g fun h =>
    let h := { h with state := .active, wasActive := true, downShown := false, resume := true, repairTrain := false,
                      counts := if h.wasActive then h.counts else {} }
    let h := h.takeAck (h.partner.rxNext - 1)
    { h with resend := (h.replay.head?).map (·.sseq) }).raise .hostLinkUp g.val

/-- The receiver takes its clock from physical lane 16 while the partner says CLOCK_ON_SPARE (R223). -/
def State.followClock (s : State) (g : Group) : State :=
  let h := s.grp g
  if h.partner.clockOnSpare = h.rxClockSpare then s
  else if h.rxClockSpare then s.modGroup g fun h => { h with rxClockSpare := false }
  else ((s.spareTaken g).modGroup g fun h => { h with
    rxClockSpare := true, rxFailed := h.rxFailed ||| (1#18 <<< 17), rxRole := h.rxRole.setIfInBounds 16 31,
    counts := { h.counts with substitutions := satW 16 (h.counts.substitutions + 1) } }).raise .hostClockMoved (g.val + 256 * 16)

/-- Fix WIDTH at the end of CHECK (Table 7-9): no more lanes than have passed at either end, with this end's transmit roles on lanes
that the partner has passed; out of service below MIN_WIDTH (R224). -/
def State.fixWidth (s : State) (g : Group) : State :=
  let h := s.grp g
  let bad := h.txFailed ||| ((~~~ h.partner.lanesOk).setWidth 18 &&& 0x1FFFF)
  let n := min h.width (min (workingLanes bad h.txClockSpare).length (workingLanes h.rxFailed h.rxClockSpare).length)
  let fits := (List.range 17).all fun k => decide (16 ≤ h.txRole.toList.getD k 31) || !bad.getLsbD k
  if n < h.params.minWidth then s.groupOut g
  else if n = h.width ∧ fits then s
  else
    let s := s.modGroup g fun h => { h with width := n, txRole := assignRoles bad h.txClockSpare n }
    if n = h.width then s else s.raise .hostWidth g.val n

/-- The partner has received this end's nonce: OPS = 1 from the next block on (Table 7-9, SEED). -/
def HostGroup.startOps (h : HostGroup) (g : Nat) : HostGroup :=
  if h.partner.seedSeen ∧ ¬ h.opsTx then { h with opsTx := true, txUnit := 0, txLog := seedLanes g h.txNonce } else h

/-- Training steps driven by a good TRAIN swatch (Table 7-9). -/
def State.trainSwatch (s : State) (g : Group) (w : Swatch) : State :=
  let s := (s.modGroup g fun h => { h with partner := parseTrain w.payload, goodTrain := h.goodTrain + 1 }).followClock g
  let h := s.grp g
  match h.tstep with
  | .check =>
    if (if h.repairTrain then 1024 else 8192) ≤ h.goodTrain then
      let d := s.draw
      let nonce := BitVec.ofNat 47 (leNat (Config.entropy d.1 6))
      (d.2.modGroup g fun h => { h with tstep := .seed, txNonce := if nonce = 0 then 1 else nonce }).fixWidth g
    else s
  | .seed => s.modGroup g (·.startOps g.val)
  | .credit =>
    let s := s.modGroup g (·.startOps g.val)
    if h.creditSeen = 15 ∧ (h.partner.step = .credit ∨ h.partner.step = .ready) then
      s.modGroup g fun h => { h with tstep := .ready }
    else s
  | .ready => if h.partner.step = .ready then s.linkUp g else s
  | _ => s

/-- Bits from the host ASIC for a TRANSPARENT lane: into the 2 KiB elastic buffer (R208, R133). -/
def State.rawIn (s : State) (w : Work) (bytes : Bytes) : State :=
  match s.physOf w with
  | some p => if s.modeOf p = .transparent then s.modTx p fun t => { t with elastic := (t.elastic ++ bytes).take 2048 } else s
  | none => s

/-- IDLE_ENTER heard; its acknowledgement is still to be sent (R219). -/
def HostGroup.hearIdle (h : HostGroup) : HostGroup := { h with idleHeard := true, idleAcked := none }

/-- RETRAIN_REQ heard: an ACTIVE link retrains with RESUME; one in training goes on with it (Table 7-9). -/
def State.retrainAsked (s : State) (g : Group) : State :=
  if (s.grp g).state = .active then s.retrain g 0 false false else s

/-- SPARE_OK for a transmit lane: the candidate of a pending restore becomes the spare (R225). -/
def State.spareOk (s : State) (g : Group) (lane : Nat) : State :=
  match (s.grp g).restore with
  | some r => if r.dir = 1 ∧ r.lane = lane then s.modGroup g fun h => { h with
      restore := none, txRole := h.txRole.setIfInBounds lane 16, txFailed := h.txFailed &&& ~~~ (1#18 <<< lane) }
    else s
  | none => s

/-- A control message (Table 7-7); a reserved one is ignored and counted (R209). -/
def State.controlMessage (s : State) (g : Group) (m : Bytes) : State :=
  match byteAt m 0 with
  | 0 => s
  | 1 => s.repairReq g (byteAt m 1)
  | 2 => s.modGroup g (·.hearIdle)
  | 3 => s.retrainAsked g
  | 4 => s.spareOk g (byteAt m 1)
  | _ => s.modGroup g fun h => { h with counts := { h.counts with badDesc := satW 16 (h.counts.badDesc + 1) } }

/-- Control messages of a swatch: the first PAD ends them. -/
def State.controlSwatch (n : Nat) (s : State) (g : Group) (p : Bytes) : State :=
  match n with
  | 0 => s
  | k + 1 => if byteAt p 0 = 0 then s else State.controlSwatch k (s.controlMessage g (p.take 16)) g (p.drop 16)

/-- Take an accepted DATA swatch into its channel (R206–R210). -/
def State.takeData (s : State) (g : Group) (w : Swatch) : State :=
  if w.lch = 4 then s.controlSwatch 15 g w.payload
  else
    let work := workOfChan g w.lch
    if w.raw then
      (s.modChan work fun c => { c with rxUsed := c.rxUsed + 15 }).rawIn work w.payload
    else
      let r := parseStream 30 (s.chanOf work) w.payload
      let before := (s.chanOf work).inFrames.length
      let s := s.modChan work fun _ => r.1
      let s := s.each (r.1.inFrames.drop before) fun f s =>
        s.unitWrite (arrReplay g) (stagingWord work f.tag) (wordsFor (12 + f.payload.length))
      let s := s.modGroup g fun h => { h with counts := { h.counts with
        badDesc := satW 16 (h.counts.badDesc + r.2.1), creditViolation := satW 16 (h.counts.creditViolation + r.2.2) } }
      let s := if r.2.1 ≠ 0 then s.raise .hostBadDesc g.val else s
      if r.2.2 ≠ 0 then s.raise .hostCreditViolation g.val else s

/-- Process a received swatch (R205, R213–R215). -/
def State.takeSwatch (s : State) (g : Group) (bs : Bytes) : State :=
  let h := s.grp g
  if ¬ goodSwatch bs then
    s.modGroup g fun h => { h with
      nakPending := h.nakPending || decide (h.state = .active ∨ h.state = .train), goodTrain := 0,
      counts := { h.counts with crcErrors := satW 32 (h.counts.crcErrors + 1) } }
  else
    let w := parseSwatch bs
    let d := (w.sseq - h.next).toNat
    let a := fieldBE bs 248 4
    let inSeq := decide (d = 0)
    let linked := decide (h.state = .active ∨ h.state = .train)
    let sbOk := inSeq && linked
    let s := if linked then s.modGroup g (·.noteCredit w) else s
    let s := if sbOk then s.modGroup g (·.takeSb w) else s
    let s := if sbOk ∧ w.sbKind = 1 then s.varnishLane (workOfChan g w.sbCh) else s
    let s := if linked then
        let s := s.modGroup g (·.takeAck (BitVec.ofNat 16 (a / 2 ^ 16)))
        if bitOf a 15 ∧ h.state = .active then
          let q := BitVec.ofNat 16 (a / 2 ^ 16) + 1
          let recent : Bool := match (s.grp g).lastRewind with
            | some (r, t) => decide (r = q ∧ s.since t < s.cyclesNs (s.grp g).params.replayHold)
            | none => false
          if recent then s else s.modGroup g (·.rewind q s.now)
        else s
      else s
    if w.type = 1 then
      if ¬ linked then s
      else if d = 0 then
        (s.modGroup g fun h => { h with
          next := h.next + 1, nakPending := false,
          counts := { h.counts with swatchesRx := satW 32 (h.counts.swatchesRx + 1) } }).takeData g w
      else if d < 32768 then s.modGroup g fun h => { h with nakPending := true }
      else s
    else
      let s := if linked ∧ 1 ≤ d ∧ d < 32768 then s.modGroup g fun h => { h with nakPending := true } else s
      if w.type = 2 ∧ h.state = .train then s.trainSwatch g w else s

/-- SWATCH_RECEIVED: the next 256 bytes reassembled from the lanes (R203–R215). One that its training block cut short is bad (R201). -/
def execSwatchReceived (g : Group) (s : State) : Host.Outcome State Fault Refusal :=
  let h := s.grp g
  .next <|
    if h.rxStream.length < 256 ∨ h.state = .off ∨ h.state = .outOfService then s
    else (s.modGroup g fun h => { h with
        rxStream := h.rxStream.drop 256, rxCut := (h.rxCut.filter fun m => decide (m ≠ 0)).map (· - 1) }).takeSwatch g
      (if h.rxCut.contains 0 then [] else h.rxStream.take 256)

/-- REPLAY_TIMEOUT: the oldest kept swatch has waited REPLAY_TO (R215). -/
def execReplayTimeout (g : Group) (s : State) : Host.Outcome State Fault Refusal :=
  .next <| match (s.grp g).replay.head? with
    | some x => if (s.grp g).state = .active then s.modGroup g (·.rewind x.sseq s.now) else s
    | none => s

/-! Control messages and link events. -/

/-- REPAIR_REQ: the partner asks for a role to move to the spare (R222–R224). -/
def execRepairReq (g : Group) (role : Nat) (s : State) : Host.Outcome State Fault Refusal :=
  .next <| s.repairReq g role

/-- IDLE_ENTER: the partner's transmitter is about to idle (R219). -/
def execIdleEnter (g : Group) (s : State) : Host.Outcome State Fault Refusal :=
  .next <| if (s.grp g).state = .active then s.modGroup g (·.hearIdle) else s

/-- RETRAIN_REQ: retrain with RESUME (R216). -/
def execRetrainReq (g : Group) (s : State) : Host.Outcome State Fault Refusal := .next <| s.retrainAsked g

/-- SPARE_OK: the restored lane becomes the transmitter's spare (R225). -/
def execSpareOk (g : Group) (lane : HLane) (s : State) : Host.Outcome State Fault Refusal := .next <| s.spareOk g lane.val

/-- TRAIN_PHASE_LOCK: HCKRX present, all 17 lanes phase-locked (Table 7-9). -/
def execTrainPhaseLock (g : Group) (s : State) : Host.Outcome State Fault Refusal :=
  .next <| if (s.grp g).state = .train ∧ (s.grp g).tstep = .clock then s.modGroup g fun h => { h with tstep := .align } else s

/-- TRAIN_LIMIT_EXPIRY (Table 7-9): report DOWN and restart at CLOCK. -/
def execTrainLimitExpiry (g : Group) (s : State) : Host.Outcome State Fault Refusal :=
  .next <|
    if (s.grp g).state = .train then
      (s.modGroup g fun h => { h.toTrain h.repairTrain with downShown := true }).raise .hostTrainFail g.val
    else s

/-- WANDER_LIMIT: a repair retrain with RESUME (R195, Table 7-9). -/
def execWanderLimit (g : Group) (s : State) : Host.Outcome State Fault Refusal :=
  .next <| if (s.grp g).state = .active then s.retrain g 1 true true else s

/-- A stop of the forwarded clock now is electrical idle: it comes within 2 blocks, 64 CK_MGMT cycles, after the acknowledgement of
IDLE_ENTER (R219). -/
def State.idleStop (s : State) (g : Group) : Bool :=
  match (s.grp g).idleAcked with
  | some t => (s.grp g).idleHeard && decide (s.since t ≤ 64)
  | none => false

/-- HCKRX_STOP: electrical idle after an acknowledged IDLE_ENTER, else loss of the partner (R219, R226). -/
def execHckrxStop (g : Group) (s : State) : Host.Outcome State Fault Refusal :=
  .next <|
    if (s.grp g).state ≠ .active ∨ (s.grp g).rxIdle then s
    else if s.idleStop g then (s.modGroup g fun h => { h with rxIdle := true }).raise .hostIdle g.val
    else s.retrain g 0 false false

/-- The transmitter has something to send (R220). -/
def HostGroup.hasWork (h : HostGroup) : Bool :=
  h.resend.isSome || decide (h.control ≠ []) || h.nextChan.isSome || decide (h.sbChanged ≠ []) ||
    decide (h.ackSent ≠ h.next - 1) || h.nakPending

/-- TX_ELECTRICAL_IDLE_ENTRY: every condition of R219 holds; the group power state becomes IDLE (Table 10-7). -/
def execTxElectricalIdleEntry (g : Group) (s : State) : Host.Outcome State Fault Refusal :=
  let h := s.grp g
  .next <| match h.idleSent with
    | none => s
    | some q =>
      if h.state = .active ∧ ¬ h.txIdle ∧ h.replay = [] ∧ (h.acked - q - 1).toNat < 32768 ∧ ¬ h.hasWork then
        (s.modGroup g fun h => { h with txIdle := true }).setGroupPower g .idle 0
      else s

/-- TX_WAKE: a transmitter with something to send leaves electrical idle (R220). -/
def execTxWake (g : Group) (s : State) : Host.Outcome State Fault Refusal :=
  .next <|
    if (s.grp g).txIdle ∧ (s.grp g).hasWork then
      (s.modGroup g fun h => { h with txIdle := false, idleSent := none }).setGroupPower g .active 3
    else s

/-- RX_WAKE_BURST: the receiver regains lock within the wake burst (R220). -/
def execRxWakeBurst (g : Group) (s : State) : Host.Outcome State Fault Refusal :=
  .next <|
    if (s.grp g).rxIdle then (s.modGroup g fun h => { h with rxIdle := false, idleHeard := false, idleAcked := none }).raise .hostWake g.val
    else s

/-- RX_WAKE_COMMA_TIMEOUT: no valid comma within 2 blocks after the burst (R220). -/
def execRxWakeCommaTimeout (g : Group) (s : State) : Host.Outcome State Fault Refusal :=
  .next <| if (s.grp g).state = .active ∧ ¬ (s.grp g).rxIdle then s.retrain g 0 false true else s

/-- HOST_LANE_FAIL: a receive lane, or the clock (17), is declared failing (R221, R224). -/
def execHostLaneFail (g : Group) (lane : Fin 18) (reason : Nat) (s : State) : Host.Outcome State Fault Refusal :=
  .next <| s.hostLaneFail g lane.val reason

/-- CLOCK_MOVE: the forwarded clock moves to physical lane 16, and the link retrains with RESUME (R223). -/
def execClockMove (g : Group) (s : State) : Host.Outcome State Fault Refusal :=
  .next <|
    if (s.grp g).moveReq = some 16 ∧ (s.grp g).txSpare = some 16 then
      let s := (s.spareTaken g).modGroup g fun h => { h with
        txClockSpare := true, txFailed := h.txFailed ||| (1#18 <<< 17), txRole := h.txRole.setIfInBounds 16 31,
        moveReq := none, counts := { h.counts with substitutions := satW 16 (h.counts.substitutions + 1) } }
      (s.raise .hostClockMoved (g.val + 256 * 16)).retrain g 0 false false
    else s

/-- SPARE_SUBSTITUTION: at the block start the asked-for logical lane moves onto the idle spare (R222, R227). -/
def execSpareSubstitution (g : Group) (s : State) : Host.Outcome State Fault Refusal :=
  let h := s.grp g
  .next <| match h.moveReq, h.txSpare with
    | some j, some spare =>
      if j = 16 ∨ h.state = .off ∨ h.state = .outOfService then s
      else
        let s := s.spareTaken g
        let old := (List.range 17).find? fun k => decide (h.txRole.toList.getD k 31 = j)
        let s := s.modGroup g fun h => { h with
          moveReq := none
          txRole := (match old with | some k => h.txRole.setIfInBounds k 31 | none => h.txRole).setIfInBounds spare j
          txFailed := match old with | some k => h.txFailed ||| (1#18 <<< k) | none => h.txFailed
          counts := { h.counts with substitutions := satW 16 (h.counts.substitutions + 1) } }
        s.raise .hostSpareUsed (g.val + 256 * spare) j
    | _, _ => s

/-- GROUP_IDLE_TIMER_EXPIRY: the device sends IDLE_ENTER (R318). -/
def execGroupIdleTimerExpiry (g : Group) (s : State) : Host.Outcome State Fault Refusal :=
  let h := s.grp g
  .next <|
    if h.state = .active ∧ h.idleTimer ≠ 0 ∧ ¬ h.txIdle ∧ h.idleSent.isNone ∧ ¬ h.hasWork ∧ h.replay = [] then
      s.modGroup g fun h => { h with control := h.control ++ [ctlMsg 2 0 0] }
    else s

/-! Commands. -/

/-- Start or restart training from OFF, TRAIN, ACTIVE or out of service; a group in OFF leaves it with its slot restored (R318).
Restored lanes and the clock role take effect here (R216, R225); below MIN_WIDTH the group is out of service (R224). -/
def State.startTraining (s : State) (g : Group) : State :=
  let s := if (s.grp g).power = .off then s.groupFromOff g 1 else s
  let s := if (s.grp g).state = .active then s.retrain g 0 false true else s.modGroup g (·.toTrain false)
  let s := s.modGroup g fun h =>
    let txc := h.txClockSpare && h.txFailed.getLsbD 17
    let rxc := h.rxClockSpare && h.rxFailed.getLsbD 17
    let n := min 16 (min (workingLanes h.txFailed txc).length (workingLanes h.rxFailed rxc).length)
    { h with width := n, txClockSpare := txc, rxClockSpare := rxc, txRole := assignRoles h.txFailed txc n,
             rxRole := assignRoles h.rxFailed rxc n }
  if (s.grp g).width < (s.grp g).params.minWidth then s.groupOut g else s

/-- HOST.TRAIN (R216). A group whose replay buffer lost a swatch stays out of service until power-on reset (R338): BAD_STATE, which
that rule does not name (DESIGN CHOICE, log 115). -/
def execHostTrain (k : Sess) (s : State) : Host.Outcome State Fault Refusal :=
  .next <| s.runCmd 0x0701 k fun a s =>
    let g : Group := finOf 32 (byteAt a 0)
    let h := s.grp g
    s.guarded [(h.selftest, s.busyTest), (h.resetting || h.saving, refuse .busy),
        (s.retired || h.replayLost || decide (h.state = .loopback), refuse .badState)]
      fun s => (replyOk, s.startTraining g)

/-- HOST.SET_LINK (Table 7-2). -/
def execHostSetLink (k : Sess) (s : State) : Host.Outcome State Fault Refusal :=
  .next <| s.runCmd 0x0702 k fun a s =>
    let v := byteAt a 0
    let p : LinkParams := { stuffFail := byteAt a 1, autoRepair := bitOf (byteAt a 2) 0, minWidth := byteAt a 3,
                            replayTo := fieldLE a 4 2, replayHold := fieldLE a 6 2, trainLimit := fieldLE a 8 4 }
    s.forAllSel (decide (v = 255)) (selAll 32 v) (fun _ => none) fun g s => s.modGroup g fun h => { h with params := p }

/-- HOST.SET_TX: swing and de-emphasis from the next comma on (R456). -/
def execHostSetTx (k : Sess) (s : State) : Host.Outcome State Fault Refusal :=
  .next <| s.runCmd 0x0703 k fun a s =>
    let v := byteAt a 0
    let lane := byteAt a 1
    let x : HtxSet := { swing := byteAt a 2, pre := byteAt a 3, post := byteAt a 4 }
    s.forAllSel (decide (v = 255)) (selAll 32 v) (fun _ => none) fun g s => s.modGroup g fun h => { h with
      htxNext := if lane < 18 then h.htxNext.setIfInBounds lane x else Vector.replicate 18 x }

/-- HOST.REPAIR declares a transmit lane failing: the role it carries moves as REPAIR_REQ would move it; an idle spare is retired, and
a retired lane only marked (R221, R394). -/
def State.hostTxFail (s : State) (g : Group) (lane : Nat) : State :=
  let role := if lane = 17 then 16 else (s.grp g).txRole.toList.getD lane 31
  if lane < 17 ∧ 16 ≤ role then (s.spareTaken g).modGroup g fun h => { h with
    txFailed := h.txFailed ||| (1#18 <<< lane), txRole := h.txRole.setIfInBounds lane 31 }
  else s.repairReq g role

/-- HOST.REPAIR (R221, R225): declare a lane failing, or restore one marked failed as a candidate spare. -/
def execHostRepair (k : Sess) (s : State) : Host.Outcome State Fault Refusal :=
  .next <| s.runCmd 0x0704 k fun a s =>
    let g : Group := finOf 32 (byteAt a 0)
    let lane := byteAt a 1
    let restore := decide (byteAt a 2 = 1)
    let tx := decide (byteAt a 3 = 1)
    let h := s.grp g
    let roles := if tx then h.txRole else h.rxRole
    let failed := if tx then h.txFailed.getLsbD lane else h.rxFailed.getLsbD lane
    let may := failed && (decide (lane = 16) || (decide (lane < 16) && decide (roles.toList.getD lane 31 = 31) && decide (h.width < 16)))
    s.guarded
      [(h.selftest, s.busyTest), (h.resetting || h.saving, refuse .busy),
        (decide (h.state = .off ∨ h.state = .outOfService), refuse .badState), (restore && !may, refuse .badState)]
      fun s => (replyOk,
        if restore then s.modGroup g fun h => { h with
          restore := some { lane := lane, dir := tx.toNat, commas := 0 }
          txRole := if tx then h.txRole.setIfInBounds lane 16 else h.txRole }
        else if tx then s.hostTxFail g lane
        else s.hostLaneFail g lane 3)

/-- A whole-group loop-back starts: operational blocks from both ends of the loop's path, with the device's own nonce. Table 7-13 does
not say what they carry: here IDLE swatches in a stream started afresh (DESIGN CHOICE, log 100). -/
def HostGroup.startLoop (h : HostGroup) (g mode : Nat) : HostGroup :=
  let lanes := seedLanes g h.txNonce
  { h with
    state := .loopback, loopMode := mode, loopScope := 0, loopStatus := 1, opsTx := true, opsRx := true, txUnit := 0, rxUnit := 0,
    rxStream := [], rxCut := [], txLog := lanes, rxLog := lanes, resend := none, ending := none, txIdle := false, rxIdle := false }

/-- HOST.SET_LOOPBACK (R227, Table 7-13). -/
def execHostSetLoopback (k : Sess) (s : State) : Host.Outcome State Fault Refusal :=
  .next <| s.runCmd 0x0705 k fun a s =>
    let g : Group := finOf 32 (byteAt a 0)
    let mode := byteAt a 1
    let spare := decide (byteAt a 2 = 1)
    let h := s.grp g
    let carrying := [0, 1, 2, 3].any fun c =>
      let m := s.modeOfWork (workOfChan g c)
      guaranteed m || decide (m = .transparent)
    let spareLoop := decide (h.loopStatus = 1 ∧ h.loopScope = 1)
    s.guarded
      [(h.selftest, s.busyTest), (h.resetting || h.saving, refuse .busy),
        (decide (mode ≠ 0) && !spare && (carrying || decide (h.state ≠ .train ∧ h.state ≠ .active)), refuse .badState),
        (decide (mode ≠ 0) && spare && (decide (h.txSpare ≠ some 16 ∨ h.rxSpare ≠ some 16 ∨ h.state = .loopback)), refuse .badState),
        (spare && decide (2 ≤ mode), badArg 1)]
      fun s =>
        if mode = 0 then
          if spare then (replyOk, if spareLoop then (s.modGroup g fun h => { h with loopMode := 0, loopStatus := 2 }).raise
            .hostLoopback (g.val + 256 * 16) 2 else s)
          else if h.state = .loopback then
            (replyOk, (s.modGroup g fun h => { h.toTrain false with loopMode := 0, loopStatus := 2 }).raise .hostLoopback g.val 2)
          else (replyOk, s)
        else
          let s := if ¬ spare ∧ h.power = .idle then s.setGroupPower g .active 1 else s
          let s := s.modGroup g fun h =>
            if spare then { h with loopMode := mode, loopScope := 1, loopStatus := 1 } else h.startLoop g.val mode
          (replyOk, s.raise .hostLoopback (g.val + if spare then 256 * 16 else 0) 1)

/-- LINK_STATE of Table 7-14. -/
def HostGroup.linkCode (h : HostGroup) : Nat :=
  match h.state with
  | .off => 0
  | .train => if h.downShown then 4 else 1
  | .active => 2
  | .loopback => 3
  | .outOfService => 5

/-- Host group status record (Table 7-14). The counters count from the first entry into ACTIVE on (R228). -/
def State.groupRecord (s : State) (g : Group) : Bytes :=
  let h := s.grp g
  let c := if h.wasActive then h.counts else {}
  recWord [(8, 1), (5, g.val), (3, h.linkCode), (3, h.tstep.code), (1, h.txIdle.toNat), (1, h.rxIdle.toNat), (5, h.width),
    (1, h.txClockSpare.toNat), (1, h.rxClockSpare.toNat)] ++
  recWord [(5, h.txRole.toList.getD 16 31), (3, 0), (5, h.rxRole.toList.getD 16 31)] ++ leBytes 8 s.now.toNat ++
  recWord [(18, h.txFailed.toNat)] ++ recWord [(18, h.rxFailed.toNat)] ++ recWord [(16, h.sseq.toNat), (16, h.next.toNat)] ++
  recWord [(16, h.replay.length), (16, c.freshLosses)] ++ leBytes 4 c.swatchesTx ++ leBytes 4 c.swatchesRx ++
  leBytes 4 c.crcErrors ++ recWord [(16, c.rewinds), (16, c.naksSent)] ++ recWord [(16, c.stuffErrors), (16, c.commaErrors)] ++
  recWord [(16, c.holdBlocks), (16, c.slip)] ++ recWord [(16, c.substitutions), (16, c.retrains)] ++
  recWord [(16, c.badDesc), (16, c.creditViolation)]

/-- HOST.GET_STATUS (R228, R383). -/
def execHostGetStatus (k : Sess) (s : State) : Host.Outcome State Fault Refusal :=
  .next <| s.runCmd 0x0706 k fun a s =>
    let g : Group := finOf 32 (byteAt a 0)
    (s.statusReply (s.grp g).selftest (s.groupRecord g),
      if bitOf (byteAt a 1) 0 then s.modGroup g fun h => { h with counts := {} } else s)

/-- HOST.RESET_GROUP (R309): the link state is saved, the group logic reset; an entry into OFF is abandoned (R312). -/
def execHostResetGroup (k : Sess) (s : State) : Host.Outcome State Fault Refusal :=
  .next <| s.runCmd 0x0707 k fun a s =>
    let g : Group := finOf 32 (byteAt a 0)
    let h := s.grp g
    s.guarded [(h.selftest, s.busyTest), (h.resetting, refuse .busy)]
      fun s =>
        let s := (if h.saving then s.abortGroupEntry g .busy else s).saveGroup g
        let s := s.modGroup g fun h => { h with resetting := true, restore := none, moveReq := none, loopMode := 0 }
        (replyOk, (s.resetEngine (finOf 192 (136 + g.val))).closeXing (pwrSrc 1 g.val))

/-- GROUP_RESET_DONE: the link state is restored and the link retrains with RESUME (R309); `discarded` transfers of the
group's crossings were lost each way (R304). -/
def execGroupResetDone (g : Group) (discarded : Nat × Nat) (s : State) : Host.Outcome State Fault Refusal :=
  .next <|
    if (s.grp g).resetting then
      let s := ((s.restoreGroup g).modGroup g fun h => { h with resetting := false }).openXing (pwrSrc 1 g.val) discarded
      let s := s.raise .devResetDone (pwrSrc 1 g.val)
      match (s.grp g).state with
      | .off => s
      | .outOfService => s
      | .active => s.retrain g 0 false false
      | _ => s.modGroup g (·.toTrain false)
    else s

/-- HOST.SET_POWER (R318). -/
def execHostSetPower (k : Sess) (s : State) : Host.Outcome State Fault Refusal :=
  .next <| s.runCmd 0x0708 k fun a s =>
    let g : Group := finOf 32 (byteAt a 0)
    let h := s.grp g
    let carrying := [0, 1, 2, 3].any fun c =>
      let m := s.modeOfWork (workOfChan g c)
      guaranteed m || decide (m = .transparent)
    let held := decide (h.replay ≠ []) || h.chan.toList.any fun c => decide (c.out ≠ [] ∨ c.partialIn ≠ [] ∨ c.inFrames ≠ [])
    if byteAt a 1 = 0 then
      s.guarded [(h.selftest, s.busyTest), (h.resetting, refuse .busy), (s.retired, refuse .badState)] fun s =>
        (replyOk, s.groupFromOff g 1)
    else
      s.guarded
        [(h.selftest, s.busyTest), (h.resetting || h.saving, refuse .busy),
          (s.retired || carrying || held, refuse .badState)]
        fun s => if h.power = .off then (replyOk, s)
          else (.later, s.modGroup g fun h => { h with saving := true, powerSess := some k })

end Sys2Proof.Machine
end

