-- ==== Sys2Proof/Machine/Thermal.lean ====
section
/-!
DEFINITION. Meanings of the temperature and power-limit rows: samples, throttle ticks, trips, trims, and the THERM commands
(chapter 9, Table 13-11).
-/
namespace Sys2Proof.Machine

/-! Samples. -/

/-- Events of a sensor's change of state (Table 9-2). -/
def State.sensorEvents (s : State) (before : ThermUnit) : State :=
  s.each (List.range 72) fun i s =>
    let a := (before.sensor i).state
    let b := (s.therm.sensor i).state
    if a = b then s
    else match b with
      | .suspect => s.raise .thermSensorSuspect i
      | .failed => s.raise .thermSensorFailed i
      | .healthy => s

/-- The sampling interval of R266. -/
def State.fastSampling (s : State) : State :=
  let hot := s.therm.hotValue
  let thr := s.therm.params.threshold
  if ¬ s.therm.fast ∧ thr - 40 ≤ hot then (s.modTherm fun t => { t with fast := true }).raise .thermFast 0xFFFF
  else if s.therm.fast ∧ hot < thr - 48 then s.modTherm fun t => { t with fast := false }
  else s

/-- The TEMP trigger of a lane (Table 9-9), judged against the new reference where a run is in progress (R284): a pinned lane raises
EV_CAL_DUE once per crossing; DOZE waits (R316). -/
def State.tempTrigger (s : State) (p : Phys) : State :=
  let c := s.cal.lane[p.val]
  match c.ref with
  | none => s
  | some r =>
    let far := decide (4 * (s.cal.dT : Int) < ((s.sensor (quadSensor p)).used - r).natAbs)
    if c.state = .running then s
    else if ¬ far then s.modCalLane p fun c => { c with dueRaised := false }
    else if (s.ln p).pinned then
      if c.dueRaised then s else (s.modCalLane p fun c => { c with dueRaised := true }).raise .calDue p.val
    else if c.state = .idle ∧ s.modeOf p ≠ .dark ∧ ¬ s.tripped ∧ ¬ (s.ln p).selftest then s.calTrigger p false 32
    else s

/-- Since when the recovery condition has held (R280). -/
def State.watchCool (s : State) : State :=
  let low := decide (s.therm.hotValue ≤ s.therm.params.threshold - 8 * s.therm.params.recoverHyst)
  s.modTherm fun t => { t with
    coolSince := if t.trip = .tripped ∧ low then some (t.coolSince.getD s.now) else none }

/-- SENSOR_SAMPLE: a reading of each sensor in 1/8 °C, none for a conversion error (R265–R269, R281, R282). -/
def execSensorSample (readings : List (Option Int)) (s : State) : Host.Outcome State Fault Refusal :=
  .next <|
    let t := s.therm
    let s1 := s.modTherm fun _ => (t.judgeTo readings 72).refresh.learn
    let s1 := (s1.sensorEvents t).fastSampling
    let s1 := s1.trims.each physAll fun p s => if s.zeroScale p then s.dacTrim p else s
    (s1.each physAll fun p s => s.tempTrigger p).watchCool

/-- A 1-ms power sample in 0.1 W (R272): the rails but VDD_BIAS as mV and mA, VDD_BIAS in mV, and of each bias output its ball
voltage in mV and its current in µA. The stages dissipate VDD_BIAS times the total current, less the power into the loads. -/
def powerSample (rails : List (Nat × Nat)) (vBias : Nat) (outs : List (Nat × Nat)) : Nat :=
  let stages : Int := (outs.map fun x => ((vBias : Int) - x.1) * x.2).sum
  let rest : Nat := (rails.map fun x => x.1 * x.2).sum
  (roundDiv (1000 * (rest : Int) + stages) 100000000).toNat

/-- POWER_MEASUREMENT: P_dev is the mean over the last ten 1-ms samples (R272). -/
def execPowerMeasurement (rails : List (Nat × Nat)) (vBias : Nat) (outs : List (Nat × Nat)) (s : State) :
    Host.Outcome State Fault Refusal :=
  .next <| s.modTherm fun t =>
    let l := (powerSample rails vBias outs :: t.power).take 10
    { t with power := l, pDev := (roundDiv l.sum l.length).toNat }

/-! Throttle. -/

/-- THROTTLE_TICK (R273–R277): `errs` are the measured errors by working lane. A tick is skipped while tripped. -/
def execThrottleTick (errs : List LaneError) (s : State) : Host.Outcome State Fault Refusal :=
  .next <|
    if s.tripped then s
    else
      let hot := s.therm.hotValue
      let thr := s.therm.params.threshold
      let attempt := decide (thr ≤ hot)
      let limit := if attempt then s.therm.pEff (s.therm.steps + 1) else s.therm.pEff s.therm.steps
      let start : Int := 100000 * s.therm.pDev
      let s := if attempt ∨ 100000 * (limit : Int) < start then s.endTest 2 else s
      let x := s.applyLadder errs (100000 * limit) [1, 2, 3, 4] start
      let s := x.2
      let met := decide (x.1 ≤ 100000 * (limit : Int))
      let s := if attempt then
          (if met then (s.modTherm fun t => { t with steps := satW 8 (t.steps + 1), critical := false }).raise .thermThrottle 0xFFFF
           else (s.modTherm fun t => { t with critical := true, refused := satW 16 (t.refused + 1) }).raise .thermCritical 0xFFFF)
        else s.modTherm fun t => { t with critical := false }
      let s := if hot ≤ thr - s.therm.params.hyst ∧ 0 < s.therm.steps then
          (s.modTherm fun t => { t with steps := t.steps - 1 }).raise .thermRelease 0xFFFF
        else s
      let s := s.giveUp (100000 * ((s.therm.pEff s.therm.steps : Int) - 20)) start s.therm.ladder
      s.modTherm (·.refresh)

/-! Trip. -/

/-- TRIP_SAMPLE (R278, R279): two consecutive qualifying samples of one sensor trip the device, during a recovery again. -/
def execTripSample (s : State) : Host.Outcome State Fault Refusal :=
  .next <|
    let count (x : SensorUnit) : SensorUnit := { x with tripRun := if x.qualifies then x.tripRun + 1 else 0 }
    let near (x : SensorUnit) : Bool := decide (920 ≤ x.reading) || (decide (x.state = .failed) && decide (920 ≤ x.used))
    let s := s.modTherm fun t => { t with sens := t.sens.map count, tripFast := t.sens.toList.any near }
    match (List.range 72).find? fun i => decide (2 ≤ (s.therm.sensor i).tripRun) with
    | some i => if s.therm.trip = .tripped then s else s.trip i
    | none => s

/-- TRIP_RECOVER_TIMER (R280): with AUTO, recovery starts. -/
def execTripRecoverTimer (s : State) : Host.Outcome State Fault Refusal :=
  .next <| if s.therm.trip = .tripped ∧ ¬ s.therm.params.command ∧ s.coolEnough then s.startRecovery else s

/-- TRIP_RECOVERY_POWER_UP (R280 steps 2 to 4). -/
def execTripRecoveryPowerUp (s : State) : Host.Outcome State Fault Refusal :=
  .next <|
    if s.therm.trip ≠ .recovering then s
    else
      let s := s.modTherm fun t => { t with trip := .none, coolSince := none }
      let s := s.each physAll fun p s => s.recoverLane p
      let s := s.thawAll .trip
      let s := s.each workAll fun w s => s.grant w
      let s := s.each (physAll.filter fun p => decide (s.modeOf p ≠ .dark) && !(s.ln p).pinned) fun p s => s.calTrigger p false 64
      s.raise .thermTripClear 0xFFFF

/-- PLL_TRIM_STEP: one fine code per 100 µs toward the target, never while an AVSBus request is open (R281, R327). -/
def execPllTrimStep (s : State) : Host.Outcome State Fault Refusal :=
  .next <|
    if s.sys.avs.openReq.isSome then s
    else s.modTherm fun t => { t with trimPll := match t.trimPll.due with
      | none => t.trimPll
      | some d =>
        let c := if t.trimPll.code < d then t.trimPll.code + 1 else if d < t.trimPll.code then t.trimPll.code - 1 else d
        { t.trimPll with code := c, due := if c = d then none else some d } }

/-! Commands. -/

/-- Thermal status header and entries (Tables 9-3 and 9-4). -/
def State.thermRecord (s : State) : Bytes :=
  let t := s.therm
  let rung (r : Nat) : Nat := (workAll.filter fun w => decide (r ≤ (s.wk w).rungs)).length
  recWord [(8, 1), (7, t.hottest), (1, (t.fast || t.tripFast).toNat), (1, s.tripped.toNat), (1, t.critical.toNat)] ++
  recWord [(16, ofSigned 16 t.hotValue), (16, ofSigned 16 t.params.threshold)] ++ leBytes 8 s.now.toNat ++
  recWord [(12, t.params.pLim), (12, t.pEff t.steps), (8, t.steps)] ++ recWord [(12, t.pDev)] ++
  recWord [(8, rung 1), (8, rung 2), (8, rung 3), (8, rung 4)] ++ recWord [(16, t.refused), (16, t.trips)] ++
  t.sens.toList.flatMap fun x =>
    recWord [(16, ofSigned 16 x.reading), (16, ofSigned 16 x.used)] ++
    recWord [(16, match x.prediction with | some p => ofSigned 16 p | none => 0x8000),
      (2, match x.state with | .healthy => 0 | .suspect => 1 | .failed => 2), (2, min 3 x.disagree)]

/-- THERM.GET_STATUS (R270). -/
def execThermGetStatus (k : Sess) (s : State) : Host.Outcome State Fault Refusal :=
  .next <| s.runCmd 0x0C01 k fun _ s => (replyOk s.thermRecord, s)

/-- THERM.SET_LIMITS (R271): THRESHOLD must lie in the grade's range. -/
def execThermSetLimits (k : Sess) (s : State) : Host.Outcome State Fault Refusal :=
  .next <| s.runCmd 0x0C02 k fun a s =>
    let thr := toSigned 16 (fieldLE a 2 2)
    let top : Int := if s.sec.made.gradeFx then 840 else 760
    s.guarded [(decide (thr < 480 ∨ top < thr), badArg 2)] fun s =>
      (replyOk, s.modTherm fun t => { t with params := { pLim := fieldLE a 0 2, threshold := thr, hyst := byteAt a 4,
                                                         command := decide (byteAt a 5 = 1), recoverHyst := byteAt a 6 } })

/-- THERM.RESTORE_SENSOR (R268): the sensor's last 16 samples must agree. -/
def execThermRestoreSensor (k : Sess) (s : State) : Host.Outcome State Fault Refusal :=
  .next <| s.runCmd 0x0C03 k fun a s =>
    let i : Sensor := finOf 72 (byteAt a 0)
    let x := s.sensor i
    s.guarded [(decide (x.state ≠ .failed) || decide (x.agreeRun < 16), refuse .badState)] fun s =>
      let s := s.modTherm fun t => { t with sens := vupd t.sens i fun x => { x with state := .healthy, disagree := 0, agree := 0 } }
      (replyOk, (s.modTherm (·.refresh)).raise .thermSensorRestored i.val)

/-- THERM.CLEAR_TRIP (R280). -/
def execThermClearTrip (k : Sess) (s : State) : Host.Outcome State Fault Refusal :=
  .next <| s.runCmd 0x0C04 k fun _ s =>
    s.guarded [(decide (s.therm.trip ≠ .tripped) || !s.coolEnough, refuse .badState)] fun s => (replyOk, s.startRecovery)

end Sys2Proof.Machine
end

