-- ==== Sys2Proof/Machine/CtlReset.lean ====
section
/-!
DEFINITION. State snapshot (R389), control reset (R307), and entry into and wake from DORMANT (R320–R322).
-/
namespace Sys2Proof.Machine

/-! Snapshot. -/

/-- Bytes from address 0 on as a canonical memory whose unlisted bytes read as 0. -/
def memOfBytes (bs : Bytes) : Mem :=
  bs.zipIdx.filterMap fun x => if x.1 = 0 then none else some (x.2, x.1)

/-- SESS_STATE, SESS_RESULT and the time of the open (Table 13-3). -/
def Session.record (x : Session) : Bytes :=
  leBytes 4 x.stateWord.toNat ++ leBytes 4 x.resultWord.toNat ++ leBytes 8 x.openTime.toNat

/-- Content of the snapshot region (Table 13-3); SEQ_BEGIN and SEQ_END are kept apart and read over it. -/
def State.snapshotBytes (s : State) (byCommand : Bool) : Bytes :=
  let copies := leBytes 4 s.sec.img.bootCount.toNat ++ leBytes 4 s.devInfo.toNat ++ leBytes 4 s.clkStatus.toNat ++
    leBytes 4 s.sysStatus.toNat
  zeros 4 ++ leBytes 1 1 ++ leBytes 1 byCommand.toNat ++ zeros 2 ++ leBytes 8 s.ctl.snap.start.toNat ++ copies ++ zeros 224 ++
  physAll.flatMap (fun p => padTo 32 (s.laneRecord p)) ++ padTo 512 (padTo 264 s.mapBytes) ++
  groupAll.flatMap (fun g => padTo 64 (s.groupRecord g)) ++
  (List.finRange 8).flatMap (fun k => (s.sess k).record) ++ padTo 896 (padTo 608 s.thermRecord) ++
  workAll.flatMap (fun w => padTo 64 (s.deliveryRecord w)) ++ biasAll.flatMap (fun o => padTo 16 (s.biasRecord o)) ++
  (List.finRange 692).flatMap (fun a => padTo 48 (s.arrRecord a))

/-- A publication starts: SEQ_BEGIN takes its number. -/
def State.startSnapshot (s : State) (byCommand : Bool) (k : Option Sess) : State :=
  let now := s.now
  s.modCtl fun c =>
    let n := c.snap.number + 1
    { c with snap := { c.snap with number := n, seqBegin := BitVec.ofNat 32 n, running := some (byCommand, k), start := now } }

/-- The publication ends: the sections, SEQ_END, SNAPSHOT_SEQ, and the event (R389 steps 2 to 5). -/
def State.endSnapshot (s : State) : State :=
  match s.ctl.snap.running with
  | none => s
  | some (byCommand, k) =>
    let n := s.ctl.snap.number
    let m := memOfBytes (s.snapshotBytes byCommand)
    let s := s.modCtl fun c => { c with
      snapSeq := BitVec.ofNat 8 n, snap := { c.snap with seqEnd := BitVec.ofNat 32 n, running := none, content := m } }
    (s.raise .ctlSnapshot 0 byCommand.toNat).answerOpt k 0x0104 .ok 0 (leBytes 4 n)

/-! Control reset. -/

/-- Commands in progress lose the session that waits for them; reads of portraits are dropped (R307). -/
def State.forgetWaiters (s : State) : State :=
  let lane (l : LaneUnit) : LaneUnit :=
    { l with trainSess := none, change := l.change.map fun c => match c with
        | .drain t _ => .drain t none
        | .burstEnd t _ => .burstEnd t none
        | c => c }
  let work (u : WorkLane) : WorkLane := { u with sketchSess := none }
  let group (h : HostGroup) : HostGroup := { h with powerSess := none }
  let out (b : BiasOut) : BiasOut := { b with ranging := b.ranging.map fun r => { r with sess := none } }
  let unit (m : MonUnit) : MonUnit := { m with adhoc := m.adhoc.map fun x => { x with sess := none } }
  let fetch (l : List Fetch) : List Fetch := l.filter fun f => f.sess.isNone
  { s with
    lane := s.lane.map lane, work := s.work.map work, group := s.group.map group,
    photon := { s.photon with bias := s.photon.bias.map out, mon := s.photon.mon.map unit },
    gallery := { s.gallery with inService := fetch s.gallery.inService, waiting := fetch s.gallery.waiting } }

def mgmtCores : List Core := [186, 187, 188, 189]

/-- The control plane after a control reset: registers of Table 12-3 marked "reset", sessions and events; the lock fields, the
other cores' counters and the published snapshot stay. -/
def ControlPlane.afterReset (c : ControlPlane) : ControlPlane :=
  { ControlPlane.reset with
    sysLock := c.sysLock, snap := { c.snap with running := none }, snapSeq := c.snapSeq,
    perf := mgmtCores.foldl (fun v i => vupd v i (·.cleared)) c.perf }

/-- The number of the control domain in crossing events, as EV_DEV_RESET_DONE codes scopes. -/
def ctlDomain : Nat := 2 * 2 ^ 14

/-- CTLRST_N goes low, or DEV.CTL_RESET is accepted (R307): a download in HEADER or BODY ends as ABORTED. -/
def State.ctlAssert (s : State) : State :=
  let s := if s.sec.img.stage = .header ∨ s.sec.img.stage = .body then s.quietPorts.rejectDownload 10 true else s
  let s := (s.forgetWaiters.modCtl (·.afterReset)).modSys fun u => { u with fwReady := false, ctlRestart := false }
  let restart (u : CoreUnit) : CoreUnit := { u with resets := u.resets + 1, covering := none, covered := false }
  let s := s.each mgmtCores fun c s => (s.modCore c restart).modArr (arrCoreD c) (·.clearValid)
  (s.closeXing ctlDomain).settleEvents

/-- CTLRST_N is released: the management cores restart, the lower-indexed of each pair active unless retired; `discarded`
transfers of the domain's crossings were lost each way (R304). -/
def State.ctlRelease (s : State) (discarded : Nat × Nat) : State :=
  let s := s.modPins fun p => { p with ctlrstLow := false }
  let role (c : Core) (s : State) : State :=
    let lower := (s.coreOf (corePartner c)).state ≠ .retired ∧ c.val % 2 = 1
    s.modCore c fun u => if u.state = .retired then u else { u with commanded := false, state := if lower then .standby else .active }
  let s := s.each mgmtCores role
  let runs := decide (s.sys.clk.phase = .running ∨ s.sys.clk.phase = .noCount)
  ((s.modSys fun u => { u with ctlRestart := runs }).openXing ctlDomain discarded).settleEvents

/-- The restarted firmware's first act (R307): the snapshot, EV_CTL_RESET_DONE as first entry, the events of the interval, then
the held doorbells. -/
def State.ctlDone (s : State) : State :=
  let held := s.ctl.ev.held
  let s := s.modSys fun u => { u with ctlRestart := false, fwReady := true }
  let s := s.modCtl fun c => { c with ev := { c.ev with held := [] } }
  let s := ((s.raise .ctlResetDone).startSnapshot false none).endSnapshot
  let put (h : HeldEvent) (s : State) : State :=
    let x : EvEntry :=
      { ev := h.ev, coalesced := satW 16 h.coalesced, source := h.source, code := h.code, arg1 := h.arg1, arg2 := h.arg2, time := h.time, qseq := 0 }
    s.modCtl fun c => { c with ev := c.ev.put x }
  (s.each held put).settleEvents.settleRings

/-- A reset pin edge acts on the management domain only while its clocks run. -/
def State.ctlPowered (s : State) : Bool :=
  s.sys.clk.counting && (decide (s.sys.power.dormantPhase = .none) || decide (s.sys.power.dormantPhase = .saving))

/-! Abandoned entry into DORMANT. -/

/-- A wake source up to the commit prevails (R322). -/
def State.abandonDormant (s : State) (src : Nat) : State :=
  if s.sys.power.dormantPhase ≠ .saving then s
  else
    let s := s.modPower fun p => { p with
      dormantPhase := .none, slotValid := false, res := { p.res with aborted := p.res.aborted + 1 } }
    (s.raise .pwrEntryAborted (pwrSrc 2 0) src).settleRings

/-! Meanings: control reset. -/

/-- CTLRST_N_ASSERT (R307, R321, R322). -/
def execCtlrstNAssert (s : State) : Host.Outcome State Fault Refusal :=
  .next <|
    if s.sys.pins.ctlrstLow then s
    else if ¬ s.ctlPowered then s.modPins fun p => { p with ctlrstLow := true }
    else ((s.abandonDormant 3).modPins fun p => { p with ctlrstLow := true }).ctlAssert

/-- CTLRST_N_RELEASE (R307). -/
def execCtlrstNRelease (discarded : Nat × Nat) (s : State) : Host.Outcome State Fault Refusal :=
  .next <|
    if ¬ s.sys.pins.ctlrstLow then s
    else if ¬ s.ctlPowered then s.modPins fun p => { p with ctlrstLow := false }
    else s.ctlRelease discarded

/-- CTL_RESET_DONE (R307). -/
def execCtlResetDone (s : State) : Host.Outcome State Fault Refusal :=
  .next <| if s.sys.ctlRestart ∧ ¬ s.sys.pins.ctlrstLow ∧ s.sys.power.dormantPhase = .none then s.ctlDone else s

/-- DEV.CTL_RESET (R307): a CTLRST_N pulse from its acceptance; no response is written. -/
def execDevCtlReset (k : Sess) (discarded : Nat × Nat) (s : State) : Host.Outcome State Fault Refusal :=
  .next <| s.runCmd 0x0101 k fun _ s => (.noResponse, s.ctlAssert.ctlRelease discarded)

/-! Meanings: DORMANT. -/

/-- Conditions of R320. -/
def State.mayDormant (s : State) : Bool :=
  let stage := s.sec.img.stage.code
  (physAll.all fun p => decide ((s.ln p).power = .off)) && (groupAll.all fun g => decide ((s.grp g).power = .off)) &&
    (physAll.all fun p => decide ((s.cal.lane[p.val]).state ≠ .running)) && s.sec.test.isNone &&
    decide (stage < 1 ∨ 4 < stage) && s.age.writing.isNone && s.sys.avs.openReq.isNone &&
    decide (s.sys.power.dormantPhase = .none)

/-- POWER.ENTER_DORMANT (R320): the response is written before entry. -/
def execPowerEnterDormant (k : Sess) (s : State) : Host.Outcome State Fault Refusal :=
  .next <| s.runCmd 0x0D02 k fun _ s =>
    s.guarded [(!s.mayDormant, refuse .badState)] fun s => (replyOk, s.modPower fun p => { p with dormantPhase := .saving })

/-- DORMANT_COMMIT: the device slot is written and the root PLL stops (R320 steps 2 and 3). -/
def execDormantCommit (s : State) : Host.Outcome State Fault Refusal :=
  .next <|
    if s.sys.power.dormantPhase ≠ .saving ∨ ¬ s.sys.power.slotValid then s
    else
      let s := (s.freezeAll .dormant).setDev .dormant 1
      let s := s.modClk fun c => { c with rootLock := false, counting := false }
      (s.modAvs fun u => u.request .dormant u.dormantVcore).modPower fun p => { p with dormantPhase := .committed }

/-- DORMANT_REACHED: DORMANT_VCORE is acknowledged and settled, and the timebase stops (R320 step 4). -/
def execDormantReached (s : State) : Host.Outcome State Fault Refusal :=
  .next <|
    if s.sys.power.dormantPhase ≠ .committed ∨ s.sys.avs.openReq.isSome then s
    else (s.modClk fun c => { c with timebaseLock := false }).modPower fun p => { p with dormantPhase := .dormant }

/-- WAKE_SOURCE: 0 SMBUS, 1 RELAY_UP, 2 RELAY_DN, 3 CTLRST_N (R321, R322). -/
def execWakeSource (src : Fin 4) (s : State) : Host.Outcome State Fault Refusal :=
  .next <| match s.sys.power.dormantPhase with
    | .none => s
    | .saving => s.abandonDormant src.val
    | .waking _ => if src = 3 then s.modPower fun p => { p with wakeCtlReset := true } else s
    | _ =>
      let s := s.modAvs fun u => u.request .wake u.runSetpoint
      let s := if src = 0 then s.modPins fun p => { p with sclHeld := true } else s
      s.modPower fun p => { p with dormantPhase := .waking src.val, wakeCtlReset := decide (src = 3) }

/-- A direct register takes the value of a saved word (R356), or its PORST_N value where the word is uncorrectable (R324). -/
def State.loadReg (s : State) (off : Nat) (d : Word) : State :=
  if off = 0x030 then s.modCtl fun c => { c with sysLock := d.extractLsb' 0 7 }
  else if off = 0x040 then s.modCtl fun c => { c with bus := { c.bus with crcReq := d.getLsbD 0 } }
  else if off = 0x044 then s.modCtl fun c => { c with bus := { c.bus with spiStatus := d.extractLsb' 0 6 } }
  else if off = 0x048 then s.modCtl fun c => { c with bus := { c.bus with pecReq := d.getLsbD 8 } }
  else if off = 0x04C then s.modCtl fun c => { c with bus := { c.bus with smbStatus := d.extractLsb' 0 6 } }
  else if off = 0x080 then s.modCtl fun c => { c with ev := { c.ev with overflow := d.getLsbD 2 } }
  else if off = 0x084 then s.modCtl fun c => { c with ev := { c.ev with route := c.ev.route.extractLsb' 32 8 ++ d } }
  else if off = 0x088 then s.modCtl fun c => { c with ev := { c.ev with route := d.extractLsb' 0 8 ++ c.ev.route.extractLsb' 0 32 } }
  else if 0x0C0 ≤ off ∧ off ≤ 0x0E4 then s.modCtl fun c => { c with ev := { c.ev with
    enable := c.ev.enable.setIfInBounds ((off - 0x0C0) / 4) d } }
  else if off = 0x120 then s.modCtl fun c => { c with ev := { c.ev with ackMiss := d.getLsbD 10 } }
  else if off = 0x124 then s.modCtl fun c => { c with ev := { c.ev with lastRemoved := d } }
  else if off = 0x128 then s.modCtl fun c => { c with ev := { c.ev with lost := d.extractLsb' 0 16 } }
  else if 0x200 ≤ off ∧ off < 0x300 then
    let k : Sess := finOf 8 ((off - 0x200) / 0x20)
    match off % 0x20 with
    | 0x00 => s.modSess k fun x => { x with reqPriv := d.extractLsb' 2 2, notify := d.getLsbD 4, ownerTag := d.extractLsb' 16 16 }
    | 0x08 => s.modSess k fun x => { x with bellSeq := d.extractLsb' 0 8 }
    | 0x10 => s.modSess k fun x => { x with ringBusy := d.getLsbD 0, areaBusy := d.getLsbD 1 }
    | _ => s
  else s

/-- The PORST_N value of a direct register that holds a value of its own (Tables 12-5 to 12-8). -/
def regReset (off : Nat) : Word :=
  if off = 0x084 then 0xAAAA5555#32 else if off = 0x088 then 0xAA#32
  else if 0x0C0 ≤ off ∧ off ≤ 0x0E4 then enableReset ((off - 0x0C0) / 4) else 0

/-- A session as the device slot's descriptor would leave it (R324): FREE, with nothing of the session that was open. -/
def Session.blank (x : Session) : Session :=
  { x with phase := .free, priv := .observe, iface := .spi, closePending := false, lastSeq := 0, anyAccepted := false, owner := 0,
           cmd := none, challenge := none, signer := none }

/-- The event masks of the device slot that `hit` names, at their PORST_N values: fields 210–219 of its second half. -/
def State.maskPart (s : State) (hit : Nat → Bool) : State :=
  let mask (i : Nat) (w : Word) : Word := if hit (210 + i) then enableReset i else w
  s.modCtl fun c => { c with ev := { c.ev with enable := c.ev.enable.mapIdx mask } }

/-- Fields of the device slot's second half at their PORST_N values (Table 10-12), those that `hit` names: 0–191 watchdog timeouts,
192 QUIET_TIMER, 193 AVS_SETTLE, 194 DORMANT_VCORE, 195 the RUN setpoint, 210–219 event masks, 220–227 session descriptors, from 300
on the lane timers, from 600 on the group timers and from 1,000 on the model offsets, four for each sensor. -/
def State.configPart (s : State) (hit : Nat → Bool) : State :=
  let keep {α : Type} (f : Nat) (fresh x : α) : α := if hit f then fresh else x
  let s := s.each coreAll fun c s => s.modCore c fun u => { u with timeout := keep c.val (CoreUnit.reset c.val).timeout u.timeout }
  let s := s.modPower fun p => { p with quietTimer := keep 192 1000 p.quietTimer }
  let s := s.modAvs fun u => { u with
    settle := keep 193 50 u.settle, dormantVcore := keep 194 650 u.dormantVcore, runSetpoint := keep 195 750 u.runSetpoint }
  let s := s.modTherm fun t => { t with sens := t.sens.mapIdx fun i x => { x with
    offsets := x.offsets.mapIdx fun j v => keep (1000 + 4 * i + j) 0 v } }
  let s := s.maskPart hit
  let s := s.each (List.finRange 8) fun k s => if hit (220 + k.val) then s.modSess k (·.blank) else s
  let s := s.each physAll fun p s => s.modLane p fun l => { l with
    idleTimer := keep (300 + 2 * p.val) 20 l.idleTimer, dozeTimer := keep (301 + 2 * p.val) 10000 l.dozeTimer }
  s.each groupAll fun g s => s.modGroup g fun h => { h with idleTimer := keep (600 + g.val) HostGroup.reset.idleTimer h.idleTimer }

/-- The device slot is restored at the wake (R324, R356): the saved registers and the configuration half, whose values also stand in
retained SRAM; an uncorrectable word leaves its fields at their PORST_N values and is reported. -/
def State.restoreDevice (s : State) : State :=
  let r := s.readSlot deviceSlot
  let good (off : Nat) (s : State) : State :=
    if r.1.contains off then s
    else match ((s.arrOf arrSave).wordAt (blockWord off)).data with
      | some d => s.loadReg off d
      | none => s
  let bad (off : Nat) (s : State) : State :=
    let s := if 0x1000 ≤ off then s.configPart (slotHit 2 off)
      else if 0x050 ≤ off ∧ off ≤ 0x060 then s.modCtl fun c => { c with indSpi := {}, indSmb := {} }
      else if 0x200 ≤ off ∧ off < 0x300 ∧ off % 0x20 = 0x04 then s.modSess (finOf 8 ((off - 0x200) / 0x20)) (·.blank)
      else if 0x200 ≤ off ∧ off < 0x300 ∧ off % 0x20 = 0x0C then s.modSess (finOf 8 ((off - 0x200) / 0x20)) fun x =>
        { x with rseq := 0, result := 0, respLen := 0 }
      else s.loadReg off (regReset off)
    s.raise .pwrRestoreError (pwrSrc 2 0) 0 off
  ((r.2.each blockRegs good).each r.1 bad).settleEvents

/-- WAKE_COMPLETE (Table 10-10, R324): the device slot is restored, a scrub lap starts, the loops thaw; the control reset of a
CTLRST_N wake runs, whose crossings lost `discarded` transfers each way (R304), and the doorbells are released. -/
def execWakeComplete (discarded : Nat × Nat) (s : State) : Host.Outcome State Fault Refusal :=
  .next <| match s.sys.power.dormantPhase with
    | .waking src =>
      if ¬ s.sys.clk.timebaseLock ∨ ¬ s.sys.clk.rootLock ∨ s.sys.clk.waitTick ∨ s.sys.avs.openReq.isSome then s
      else
        let s := if s.sys.power.slotValid then s.restoreDevice else s
        let now := s.now
        let lap (u : SramUnit) : SramUnit := { u with scrubAddr := 0, lapStart := now, lapPoison := 0 }
        let s := s.modSys fun u => { u with mem := { u.mem with arr := u.mem.arr.map lap } }
        let due := s.sys.power.wakeCtlReset
        let s := s.modPower fun p => { p with dormantPhase := .none, slotValid := false, wakeCtlReset := false }
        let s := (s.modPins fun p => { p with sclHeld := false }).thawAll .dormant
        let s := (s.raise .pwrWake (pwrSrc 2 0) src).setDev .run 4
        if due ∨ s.sys.pins.ctlrstLow then
          if s.sys.pins.ctlrstLow then s.ctlAssert else s.ctlAssert.ctlRelease discarded
        else s.settleRings
    | _ => s

/-- CLOCK_STRETCH_LIMIT (R321): SMB_SCL is released after 1 ms of a wake and STRETCH_EXPIRED is set. -/
def execClockStretchLimit (s : State) : Host.Outcome State Fault Refusal :=
  .next <| if s.sys.pins.sclHeld then (s.modPins fun p => { p with sclHeld := false }).busErr .smb 5 else s

end Sys2Proof.Machine
end

