-- ==== Sys2Proof/Machine/Device.lean ====
section
/-!
DEFINITION. Meanings of the DEV, EVENT and PERF rows (R310, R374, R377–R379, R388, R389, R398, R399).
-/
namespace Sys2Proof.Machine

/-! Cores. -/

/-- The core is the active one of the management pair that serves the session (R369). -/
def State.servesMe (s : State) (k : Sess) (c : Core) : Bool :=
  decide (c = s.servingCore k) && decide ((s.coreOf c).state = .active)

/-- DEV.RESET_CORE (R310, R388): an immediate watchdog expiry. -/
def execDevResetCore (k : Sess) (s : State) : Host.Outcome State Fault Refusal :=
  .next <| s.runCmd 0x0102 k fun a s =>
    let c : Core := finOf 192 (byteAt a 0)
    s.guarded [(s.servesMe k c || decide ((s.coreOf c).state = .retired), refuse .badState)] fun s => (replyOk, s.coreFails c 1)

/-- DEV.SET_WATCHDOG (R310, R388). -/
def execDevSetWatchdog (k : Sess) (s : State) : Host.Outcome State Fault Refusal :=
  .next <| s.runCmd 0x0103 k fun a s =>
    let v := byteAt a 0
    s.forAllSel (decide (v = 255)) (selAll 192 v) (fun c => if s.servesMe k c then some (refuse .badState) else none)
      (fun c s => s.modCore c fun u => { u with timeout := fieldLE a 4 4 })

def CoreState.code : CoreState → Nat
  | .active => 0
  | .standby => 1
  | .restarting => 2
  | .retired => 3

/-- DEV.GET_CORES (R388). -/
def execDevGetCores (k : Sess) (s : State) : Host.Outcome State Fault Refusal :=
  .next <| s.runCmd 0x0105 k fun _ s =>
    (replyOk (coreAll.flatMap fun c => leBytes 1 (packBits [(2, (s.coreOf c).state.code), (1, (s.coreOf c).covered.toNat)])), s)

/-! Snapshot. -/

/-- DEV.PUBLISH_SNAPSHOT (R389): answered at the end of the publication. -/
def execDevPublishSnapshot (k : Sess) (s : State) : Host.Outcome State Fault Refusal :=
  .next <| s.runCmd 0x0104 k fun _ s =>
    s.guarded [(s.ctl.snap.running.isSome, refuse .busy)] fun s => (.later, s.startSnapshot true (some k))

/-- SNAPSHOT_PUBLISHED (R389 steps 2 to 5). -/
def execSnapshotPublished (s : State) : Host.Outcome State Fault Refusal := .next s.endSnapshot

/-! Events. -/

/-- EVENT.READ (R388): entries from the head, none removed. -/
def execEventRead (k : Sess) (s : State) : Host.Outcome State Fault Refusal :=
  .next <| s.runCmd 0x1301 k fun a s =>
    let l := s.ctl.ev.queue.take (byteAt a 0)
    (replyOk (leBytes 2 l.length ++ leBytes 2 0xFFFF ++ l.flatMap (·.bytes)), s)

/-- EVENT.ACK (R374, R388). -/
def execEventAck (k : Sess) (s : State) : Host.Outcome State Fault Refusal :=
  .next <| s.runCmd 0x1302 k fun a s =>
    match s.evAck (BitVec.ofNat 32 (fieldLE a 0 4)) with
    | some s => (replyOk, s)
    | none => (refuse .badState, s)

/-! Performance counters. -/

def State.perf (s : State) (c : Core) : PerfUnit := s.ctl.perf[c.val]
def State.modPerf (s : State) (c : Core) (f : PerfUnit → PerfUnit) : State := s.modCtl fun x => { x with perf := vupd x.perf c f }

/-- The pooled engines that run in QUIET: one fabric and two housekeeping engines (Table 10-7), the lowest in service. -/
def State.quietCores (s : State) : List Nat :=
  (((List.range 12).filter fun i => s.coreActive (168 + i)).take 1).map (168 + ·) ++
    (((List.range 6).filter fun i => s.coreActive (180 + i)).take 2).map (180 + ·)

/-- The core's clock is gated (Table 10-7, R319, R320): a lane engine with its lane in DOZE or OFF, a group engine with its
group OFF, the other pooled engines in QUIET, every core while the clocks stand. -/
def State.coreGated (s : State) (c : Core) : Bool :=
  let i := c.val
  !s.sys.clk.counting ||
  (if i < 136 then
    let p := (s.ln (finOf 136 i)).power
    decide (p = .doze ∨ p = .off)
  else if i < 168 then decide ((s.grp (finOf 32 (i - 136))).power = .off)
  else decide (i < 186 ∧ s.sys.power.dev = .quiet) && !s.quietCores.contains i)

/-- The core is held in reset: a management core by CTLRST_N (R307), every core until the boot releases it (R401 step 4), the security
cores until the boot ROM starts. -/
def State.coreHeld (s : State) (c : Core) : Bool :=
  if 190 ≤ c.val then !s.secRuns
  else if 186 ≤ c.val then !s.mgmtRuns
  else decide (s.sys.clk.phase ≠ .running ∧ s.sys.clk.phase ≠ .noCount)

/-- PERF.LIST_SELECTORS (R398, Table 12-16). -/
def execPerfListSelectors (k : Sess) (s : State) : Host.Outcome State Fault Refusal :=
  .next <| s.runCmd 0x1201 k fun a s =>
    let c := byteAt a 0
    let l := (List.range 32).filter fun x => selectorListed c x
    (replyOk (page [] 16 0 (l.map fun x => leBytes 1 x ++ padTo 15 (Config.selectorName c x))), s)

/-- The counters as a snapshot latches them: those before a change of the same cycle (R399). -/
def PerfUnit.shown (u : PerfUnit) : PerfUnit := { u with pc := u.before.getD u.pc }

/-- PERF.SNAPSHOT record (R399). -/
def State.perfRecord (s : State) (k : Sess) (c : Core) : Bytes :=
  let u := (s.perf c).shown
  let restarted : Bool := match tabGet (s.sess k).perfSeen c.val with
    | some n => decide (n ≠ (s.coreOf c).resets)
    | none => false
  leBytes 1 c.val ++ leBytes 1 (packBits [(1, (s.coreGated c).toNat), (1, restarted.toNat)]) ++
  leBytes 1 (packBits (u.pc.toList.map fun x => (1, x.level.toNat))) ++ zeros 1 ++
  (u.pc.toList.map fun x => x.sel) ++ zeros 6 ++ leBytes 8 s.now.toNat ++ leBytes 8 u.cycles.toNat ++
  u.pc.toList.flatMap fun x => leBytes 8 x.count.toNat

/-- PERF.SNAPSHOT (R378, R399): each record tells whether its core has been reset since the session's last snapshot of it. -/
def execPerfSnapshot (k : Sess) (s : State) : Host.Outcome State Fault Refusal :=
  .next <| s.runCmd 0x1202 k fun a s =>
    let first := byteAt a 0
    let count := byteAt a 1
    let shown := (coreAll.drop first).take count
    let seen (t : Tab Nat) : Tab Nat := shown.foldl (fun t c => tabSet t c.val (s.coreOf c).resets) t
    (replyOk (pageN [] 80 first count (coreAll.map fun c => s.perfRecord k c)),
      s.modSess k fun x => { x with perfSeen := seen x.perfSeen })

/-- PERF.CONFIGURE (R378): selectors and modes of the named counters, which it clears. -/
def execPerfConfigure (k : Sess) (s : State) : Host.Outcome State Fault Refusal :=
  .next <| s.runCmd 0x1203 k fun a s =>
    let v := byteAt a 0
    let one (i : Nat) (x : PerfCounter) : PerfCounter :=
      { x with sel := BitVec.ofNat 8 (byteAt a (4 + i)), level := bitOf (byteAt a 2) i, count := 0, prev := false, overflowed := false }
    let conf (u : PerfUnit) : PerfUnit :=
      { u with
        before := some (u.before.getD u.pc)
        pc := Vector.ofFn fun i : Fin 6 => if bitOf (byteAt a 1) i.val then one i.val u.pc[i.val] else u.pc[i.val] }
    s.forAllSel (decide (v = 255)) (selAll 192 v) (fun _ => none) (fun c s => s.modPerf c conf)

/-- PERF.SET_SAMPLE (R379, R398). -/
def execPerfSetSample (k : Sess) (s : State) : Host.Outcome State Fault Refusal :=
  .next <| s.runCmd 0x1204 k fun a s =>
    let c : Core := finOf 192 (byteAt a 0)
    let period (x : PerfCounter) : PerfCounter := { x with period := fieldLE a 4 4 }
    (replyOk, s.modPerf c fun u => { u with pc := vupd u.pc (finOf 6 (byteAt a 1)) period })

/-- A sample (R398). -/
def PerfSample.bytes (x : PerfSample) : Bytes :=
  leBytes 4 x.address.toNat ++ leBytes 1 x.counter ++ leBytes 1 x.count ++ zeros 2 ++ leBytes 8 x.time.toNat

/-- PERF.READ_SAMPLES (R379, R398): the oldest samples leave the ring, and the overwrites are cleared. -/
def execPerfReadSamples (k : Sess) (s : State) : Host.Outcome State Fault Refusal :=
  .next <| s.runCmd 0x1205 k fun a s =>
    let c : Core := finOf 192 (byteAt a 0)
    let u := s.perf c
    let l := u.ring.take (byteAt a 1)
    (replyOk (leBytes 2 l.length ++ leBytes 2 u.overwrites.toNat ++ l.flatMap (·.bytes)),
      s.modPerf c fun u => { u with ring := u.ring.drop l.length, overwrites := 0 })

/-- Record a sample in a core's ring of 64; a full ring loses its oldest (R379). -/
def PerfUnit.sample (u : PerfUnit) (x : PerfSample) : PerfUnit :=
  if u.ring.length < 64 then { u with ring := u.ring ++ [x] }
  else { u with ring := u.ring.drop 1 ++ [x], overwrites := if u.overwrites = 0xFFFF then u.overwrites else u.overwrites + 1 }

/-- PERF_COUNTER_OVERFLOW (R379): counter `i` overflowed and reloads with 2^48 − P, to which what it has counted since is added; the
sample holds the instruction address that the core recorded, and `two` tells a second overflow within the skid. -/
def execPerfCounterOverflow (c : Core) (i : Fin 6) (address : Word) (two : Bool) (s : State) : Host.Outcome State Fault Refusal :=
  .next <|
    let x := (s.perf c).pc[i.val]
    if ¬ x.overflowed ∨ x.period = 0 ∨ s.coreGated c then s
    else
      let half := decide ((s.perf c).ring.length = 31)
      let reload (y : PerfCounter) : PerfCounter := { y with count := y.count + BitVec.ofNat 48 (2 ^ 48 - y.period), overflowed := false }
      let new : PerfSample := { address := address, counter := i.val, count := if two then 2 else 1, time := s.now }
      let s := s.modPerf c fun u => ({ u with pc := vupd u.pc i reload }).sample new
      if half then s.raise .ctlPerfSample 0 0 c.val else s

end Sys2Proof.Machine
end

