-- ==== Sys2Proof/Machine/Fec.lean ====
section
/-!
DEFINITION. Meanings of the line format and error correction rows (chapter 4): decoders, marker lock, delineation, frame
check, sketches, margin.
-/
namespace Sys2Proof.Machine

/-! Margin (R119), in exact arithmetic. -/

/-- Scale of the fixed-point numbers below. -/
def fxOne : Int := 2 ^ 160

/-- Square root of 2π, scaled: 2.5066282746310005024157652848110452530 · 2^160, rounded down. -/
def sqrt2Pi : Int := 25066282746310005024157652848110452530 * 2 ^ 160 / 10 ^ 37

/-- √(2π)·(1/2 − Q(x)) for x ≥ 0 in units of 2^−24: the series Σ (−1)^k x^(2k+1) / (k! 2^k (2k+1)). -/
def gaussArea (x : Nat) : Int :=
  let xs : Int := x * 2 ^ 136
  ((List.range 160).foldl (fun (acc : Int × Int) (k : Nat) =>
    let part : Int := acc.2 / ((2 * k + 1 : Nat) : Int)
    let sum : Int := if k % 2 = 0 then acc.1 + part else acc.1 - part
    (sum, acc.2 * xs / fxOne * xs / fxOne / ((2 * (k + 1) : Nat) : Int))) (0, xs)).1

/-- Q(x) ≥ num/den, with x in units of 2^−24. -/
def tailAtLeast (x num den : Nat) : Bool := decide (2 * gaussArea x * den ≤ sqrt2Pi * ((den : Int) - 2 * num))

/-- Qinv(num/den) in units of 2^−24 for num/den < 1/2: the largest x with Q(x) ≥ num/den. -/
def qInv (num den : Nat) : Nat :=
  (List.range 28).foldl (fun x i => let y := x + 2 ^ (27 - i); if tailAtLeast y num den then y else x) 0

/-- MARGIN against a design ratio num/den in 1/256 dB, for a window of 2^exp bits (R119). -/
def marginOf (corrections exp dnum dden : Nat) : Int :=
  let c := max 1 corrections
  if 2 ^ exp < 2 * c then clampI (-8192) 8192 (Config.marginOver corrections exp)
  else if 2 ^ exp = 2 * c then -8192
  else dbRatio 8192 (qInv c (2 ^ exp)) (qInv dnum dden)

/-! Decoders. -/

/-- The mode a receive path decodes in: the destination of a planned STEADY move decodes as its source does, since receive
contexts take frames from both lanes (Table 6-6). -/
def State.pathMode (s : State) (p : Phys) : LaneMode :=
  match s.moveOf p with
  | some (_, m) => if m.dst = p ∧ m.planned ∧ m.phase ≠ .zeroWait then s.modeOf m.src else s.modeOf p
  | none => s.modeOf p

/-- The lane on which frames of a working lane are sketch candidates: T from the moment it sends the next frame (Table 6-6). -/
def State.sketchLane (s : State) (w : Work) : Option Phys :=
  match (s.wk w).move with
  | some m => if m.planned ∧ m.phase = .breakP then some m.dst else s.physOf w
  | none => s.physOf w

/-- A burst whose codewords are leaving the decoders. -/
def State.burstNow (s : State) (p : Phys) : Option Burst := (s.acl p).payloadNow

/-- Codewords are aligned, so the decoders work: in AM_LOCKED, or on a burst past its portrait decision (R83, R112). -/
def State.decodes (s : State) (p : Phys) : Bool :=
  if burstMode (s.modeOf p) then (s.burstNow p).isSome else (s.del p).amLocked

/-- Corrections of the inner codewords that are complete with outer codeword k (R118): those whose message bits all lie in codewords
that decoded, the one at hand `o` and, where they begin in it, the one before. -/
def DecodeLane.corrected (d : DecodeLane) (k : Nat) (o : OuterWord) : List Nat :=
  let x := d.innerSpan k
  let kk := (d.place k).2
  let prev := d.outer.getLast?
  let bits := (match prev with
    | some w => if 0 < kk then w.word.flatMap msbFirst else []
    | none => []) ++ o.word.flatMap msbFirst
  let base : Nat := if 0 < kk ∧ prev.isSome then 5440 * (kk - 1) else 5440 * kk
  (List.range (x.2 + 1 - x.1)).filterMap fun i =>
    let j := x.1 + i - (d.place k).1
    let split := decide (120 * j < 5440 * kk)
    let whole := decide (120 * (j + 1) ≤ 5440 * (kk + 1)) || d.endsRun k
    let lost := o.failed || (split && (match prev with
      | some w => w.failed
      | none => true))
    if ¬ whole ∨ lost then none
    else match d.inner[x.1 + i - d.innerFirst]? with
      | none => none
      | some w =>
        let m := (bits.drop (120 * j - base)).take 120
        let v := (m ++ List.replicate (120 - m.length) false).foldl (fun a b => 2 * a + b.toNat) 0
        some (hammingDist w.hard (BitVec.ofNat 128 (innerEncode v)))

/-- An outer codeword leaves the decoders. -/
def DecodeLane.took (d : DecodeLane) (o : OuterWord) : DecodeLane :=
  let k := d.outerNext
  let first := if d.endsRun k then (if d.burst.isSome then innerCount d.cwTotal else (k / runOuter + 1) * runInner)
    else (d.innerSpan (k + 1)).1
  ({ d with
    inner := d.inner.drop (first - d.innerFirst)
    innerFirst := first
    outer := d.outer ++ [o] } : DecodeLane).prune

/-- An inner codeword enters the statistics with its corrections; a margin window ends with the coded bit that fills it (R118,
R119). -/
def FecLane.count (f : FecLane) (corr : Nat) : FecLane :=
  let f := { f with codedBits := satW 64 (f.codedBits + 128), corrections := satW 64 (f.corrections + corr) }
  if f.winBits + 128 < 2 ^ f.windowExp then { f with winBits := f.winBits + 128, winCorr := f.winCorr + corr }
  else { f with winBits := 0, winCorr := 0, windows := f.windows ++ [(f.winCorr + corr, f.windowExp)] }

/-- INNER_CW_DECODED: hard decisions and reliabilities of one inner codeword, the reliability of c[127] first. A pending
change of decoding mode takes effect first (R104, R105). Of a burst only a payload past its portrait decision counts (R83, R118). -/
def execInnerCwDecoded (p : Phys) (hard : BitVec 128) (rel : List Nat) (s : State) : Host.Outcome State Fault Refusal :=
  .next <| match s.rxWork p with
    | none => s
    | some w =>
      if ¬ s.decodes p then s else
      let want := (s.wk w).fec.hardForced || decide (4 ≤ (s.wk w).rungs)
      let s := if (s.wk w).fec.hard = want then s
        else (s.modFec w fun f => { f with hard := want }).raiseW .fecDecodeMode w want.toNat
      let r := innerDecode want hard.toNat rel
      let out := BitVec.ofNat 120 (r.1 / 256)
      let s := s.modDec p fun d => { d with innerOut := out, innerFlag := r.2, inner := d.inner ++ [{ hard := hard, out := out }] }
      s.modFec w fun f => { f with
        innerCw := satW 64 (f.innerCw + 1), innerChanged := satW 32 (f.innerChanged + (decide (r.1 ≠ hard.toNat)).toNat),
        innerFlagged := satW 32 (f.innerFlagged + r.2.toNat) }

/-- Change the burst whose codewords are leaving the decoders. -/
def State.modBurstNow (s : State) (p : Phys) (f : Burst → Burst) : State :=
  s.modAcq p fun a => match a.decoding with
    | b :: r => { a with decoding := f b :: r }
    | [] => { a with cur := a.cur.map f }

/-- OUTER_CW_DECODED: the next outer codeword, once every inner codeword of it has arrived (R102, R118, R120). -/
def execOuterCwDecoded (p : Phys) (s : State) : Host.Outcome State Fault Refusal :=
  let d := s.del p
  .next <| match s.rxWork p, d.rawWord d.outerNext with
    | some w, some word =>
      if ¬ s.decodes p then s
      else
        let r := rsDecode (word.map (·.toNat))
        let n := match r with | some x => x.2 | none => 0
        let final := match r with | some x => (rsEncode x.1).map (BitVec.ofNat 10) | none => word
        let o : OuterWord := { received := word, word := final, failed := r.isNone }
        let counts := d.corrected d.outerNext o
        let s := s.modDec p fun d => { d.took o with outerOut := final.take 514, outerFailed := r.isNone }
        let s := s.modFec w fun f => { counts.foldl FecLane.count f with
          outerCw := satW 64 (f.outerCw + 1), outerFailed := satW 32 (f.outerFailed + r.isNone.toNat),
          outerCorrected := satW 32 (f.outerCorrected + n),
          hist := if r.isSome then vupd f.hist (finOf 16 n) (fun x => satW 32 (x + 1)) else f.hist }
        let s := if burstMode (s.modeOf p) then s.modBurstNow p fun b => { b with
            cwDone := b.cwDone + 1, cwFailed := satW 8 (b.cwFailed + r.isNone.toNat), rsCorrected := satW 32 (b.rsCorrected + n) }
          else s
        if r.isNone then s.raiseW .fecUncorrectable w else s
    | _, _ => s

/-! Markers. -/

/-- Fields of a valid alignment marker (R111): SENDER, DEST, FPTR. -/
def readMarker (sync : BitVec 64) (code : BitVec 128) : Option (Nat × Nat × Nat) :=
  if 4 < hammingDist sync amSync then none
  else match bchDecode code with
    | none => none
    | some (a, _) =>
      if infoCrc a ≠ a.setWidth 8 ∨ bitsOf a.toNat 63 50 = 16383 then none
      else some (bitsOf a.toNat 63 50, bitsOf a.toNat 49 36, bitsOf a.toNat 23 9)

/-- A marker position passes, and the next run follows. -/
def State.nextRun (s : State) (p : Phys) : State :=
  (s.modDec p fun d => { d with runs := d.runs + 1 }).modRx p fun r =>
    { r with runStart := r.runStart + BitVec.ofNat 48 superframeSymbols }

/-- The symbol on which a locked path expects its next marker to start (R110). -/
def RxLane.markerDue (r : RxLane) : Sym := r.runStart + BitVec.ofNat 48 runSymbols

/-- A missing, invalid or refused marker at the expected position (Table 4-5). -/
def State.amMiss (s : State) (p : Phys) (w : Work) : State :=
  let s := s.modFec w fun f => { f with amMissed := satW 16 (f.amMissed + 1) }
  if (s.del p).missCount < 2 then (s.nextRun p).modDec p fun d => { d with missCount := d.missCount + 1 }
  else
    let s := (s.loseSketches p).modDec p fun d => { d.clear with amLocked := false, missCount := 0 }
    (s.modFec w fun f => { f with amLoss := satW 16 (f.amLoss + 1) }).raiseP .fecAmLoss p

/-- The peer station is learned; frames retained for other stations are held (R111, R163). -/
def State.learnPeer (s : State) (w : Work) (peer : Nat) : State :=
  let old := (s.wk w).fec.peer
  let s := s.modFec w fun f => { f with peer := peer }
  let s := if old = peer then s
    else s.each (((s.wk w).retained.map (·.dest)).eraseDups.filter fun d => decide (d ≠ peer)) fun d s =>
      s.raiseW .deliveryHeldPeer w 0 d
  s.settleRetention w

/-- T locks on its peer's marker, which ends MAKE (Table 6-6). -/
def State.endMake (s : State) (p : Phys) (sender dest fptr : Nat) (sym : Sym) : State :=
  match s.moveOf p with
  | some (w, m) =>
    if m.dst = p ∧ m.planned ∧ m.phase = .make ∧ sender = (s.wk w).fec.peer ∧ (dest = (s.wk w).station ∨ dest = 16383) then
      ((s.modDec p fun d => d.lockAt sender fptr).modRx p fun r => { r with runStart := sym + 256 }).modWork w
        fun u => { u with move := some { m with phase := .switch } }
    else s
  | none => s

/-- A marker in a SPARE lane: the end of MAKE (Table 6-6), or the peer of a working lane of this bank (PEER_MOVE), where the marker that
starts the move also ends its MAKE. -/
def State.spareMarker (s : State) (p : Phys) (sender dest fptr : Nat) (sym : Sym) : State :=
  match s.moveOf p with
  | some _ => s.endMake p sender dest fptr sym
  | none =>
    match workAll.find? (fun w => decide (w.val / 16 = bankOfPhys p) && decide (s.modeOfWork w = .steady) &&
        decide ((s.wk w).fec.peer = sender) && decide ((s.wk w).station = dest)) with
    | some w =>
      (match s.physOf w with
       | some q =>
         let s := s.raiseP .deliveryLaneFail q FailReason.peerMove.code
         if (s.wk w).move.isNone ∧ (s.freeSpares (bankOfPhys p)).contains p then
           (s.plannedMove w q p .peerMove false).endMake p sender dest fptr sym
         else s
       | none => s)
    | none => s

/-- ALIGNMENT_MARKER whose first symbol is `sym`: 64 AM_SYNC decisions and the 128 code decisions (R111, R112, Table 4-5). The marker
that is judged at the expected position is the one that starts on that symbol. -/
def execAlignmentMarker (p : Phys) (sync : BitVec 64) (code : BitVec 128) (sym : Sym) (s : State) :
    Host.Outcome State Fault Refusal :=
  let expected := decide (sym = (s.rxl p).markerDue)
  .next <|
    if (s.rxl p).state ≠ .locked ∨ ¬ (s.rxl p).passed (sym + 255) then s
    else if s.modeOf p = .spare ∧ ¬ (s.del p).amLocked then
      (match readMarker sync code with
       | some (sender, dest, fptr) => s.spareMarker p sender dest fptr sym
       | none => s)
    else match s.rxWork p with
      | none => s
      | some w =>
        let steady := decide (s.pathMode p = .steady ∨ s.pathMode p = .loop)
        if ¬ steady then s
        else
          let d := s.del p
          let me := (s.wk w).station
          let peer := (s.wk w).fec.peer
          -- LOOP expects the lane's own station ID as both fields (R113)
          match (readMarker sync code).filter fun x => decide (s.pathMode p ≠ .loop ∨ (x.1 = me ∧ x.2.1 = me)) with
          | none => if d.amLocked ∧ expected then s.amMiss p w else s
          | some (sender, dest, fptr) =>
            let mine := decide (dest = me)
            let open16 := decide (dest = 16383)
            let first := runBytes * (d.runs + 1) + fptr
            if ¬ d.amLocked then
              if mine ∨ open16 then
                let s := (s.modLane p fun l => { l with graceful := false }).modDec p fun d => d.lockAt sender fptr
                ((s.modRx p fun r => { r with runStart := sym + 256 }).raiseP .fecAmLock p 0 sender).learnPeer w sender
              else (s.modFec w fun f => { f with amMissed := satW 16 (f.amMissed + 1) }).raiseP .fecDestMismatch p 0 dest
            else if ¬ expected then s
            else if sender = peer ∧ (mine ∨ open16) then
              (s.nextRun p).modDec p fun d =>
                let d := { d with missCount := 0, amSender := sender }
                if d.delin = 0 then { d with delin := 2, candidate := none, nextHeader := first } else d
            else if mine then
              let s := ((s.modLane p fun l => { l with graceful := false }).nextRun p).modDec p fun d => { d with
                missCount := 0, amSender := sender, delin := 2, candidate := none, nextHeader := first, toCheck := [], done := [] }
              ((s.modFec w fun f => { f with peerChanges := satW 16 (f.peerChanges + 1) }).raiseP .fecPeerChange p 0
                sender).learnPeer w sender
            else if open16 then s.amMiss p w
            else (s.amMiss p w).raiseP .fecDestMismatch p 0 dest

/-- MARKER_MISSING once the expected position has passed (Table 4-5). -/
def execMarkerMissing (p : Phys) (s : State) : Host.Outcome State Fault Refusal :=
  .next <| match s.rxWork p with
    | some w => if (s.del p).amLocked ∧ (s.rxl p).passed ((s.rxl p).markerDue + 255) then s.amMiss p w else s
    | none => s

/-! Delineation and frames. -/

/-- Frames pass from the receive path: in AM_LOCKED, or from a burst past its portrait decision (R83, R112); none from a lane
declared failing (R183 step 1). -/
def State.passes (s : State) (p : Phys) : Bool := !s.failWaits p && s.decodes p

/-- A header at a byte: its 128 bits. -/
def hdrAt (b : Bytes) : BitVec 128 := BitVec.ofNat 128 (beNat b)

/-- DELINEATION_HEADER: the delineator takes the 16 bytes at its position, once the codewords that hold them have left the decoders
(R115, Table 4-6). A header in an uncorrectable codeword is not used; the search resumes behind the last such codeword of it. -/
def execDelineationHeader (p : Phys) (s : State) : Host.Outcome State Fault Refusal :=
  let d := s.del p
  let pos := d.nextHeader
  .next <| match s.rxWork p, d.read pos 16 with
    | some w, some (bytes, bad) =>
      if ¬ s.passes p ∨ d.beyond pos 16 then s
      else
        let hdr := hdrAt bytes
        let ok := validHdr hdr && !bad
        let next := pos + wireSize (frameHdr hdr).type (frameHdr hdr).len
        let resume := afterCw (d.lastFailed pos 16)
        let lose (s : State) (failed : Nat) : State :=
          (s.modFec w fun f => { f with
            headersFailed := satW 32 (f.headersFailed + failed), delinLoss := satW 16 (f.delinLoss + 1) }).raiseP .fecDelinLoss p
        let set (s : State) (f : DecodeLane → DecodeLane) : State := s.modDec p fun d => (f d).prune
        if d.delin = 2 then
          if ok then set s fun d => { d with nextHeader := next, toCheck := d.toCheck ++ [pos] }
          else if bad then set (lose s 0) fun d => { d with delin := 0, nextHeader := resume }
          else set (lose s 1) fun d => { d with delin := 0, nextHeader := pos + 1 }
        else if d.delin = 1 then
          if ok then set s fun d => { d with
            delin := 2, candidate := none, nextHeader := next, toCheck := d.toCheck ++ d.candidate.toList ++ [pos] }
          else if bad then set s fun d => { d with delin := 0, candidate := none, nextHeader := resume }
          else set s fun d => { d with delin := 0, candidate := none, nextHeader := (d.candidate.getD pos) + 1 }
        else if ok then set s fun d => { d with delin := 1, candidate := some pos, nextHeader := next }
        else set s fun d => { d with nextHeader := pos + 1 }
    | _, _ => s

/-- The station whose frames a receive path takes. -/
def State.senderOf (s : State) (p : Phys) (w : Work) : Nat :=
  match s.burstNow p with
  | some b => if burstMode (s.modeOf p) then burstSender b else (s.wk w).fec.peer
  | none => (s.wk w).fec.peer

/-- The trailer of a DATA or LINK frame matches (R98). -/
def trailerOk (hdr : BitVec 128) (payload : Bytes) (crc : BitVec 32) : Bool :=
  decide (crc32 (beBytes 16 hdr.toNat ++ payload) = crc)

/-- The receive context of station `q` is read (R338); `bad` names a word of it and the stored bits a disturbance inverts. A context
with an uncorrectable word is discarded, and the frame at hand finds none. -/
def State.seeRxContext (s : State) (w : Work) (q : Nat) (bad : Option (Nat × BitVec 42)) : State :=
  match tabGet (s.wk w).rxCtx q with
  | none => s
  | some c =>
    let r := s.unitRead arrFabric (contextWord w true q) 8 bad
    if r.1 = [] then r.2
    else
      let s := match c.sketches with
        | k :: _ => r.2.scrape w q k.seq
        | [] => r.2
      s.modWork w fun u => { u with rxCtx := tabDel u.rxCtx q }

/-- The frame is a CTX_RESET that is delivered now, and so reveals a restart whatever its GEN (R170, Table 6-4). -/
def State.revealsRestart (s : State) (w : Work) (q : Nat) (f : FrameHdr) (payload : Bytes) : Bool :=
  decide (f.type = 3) && decide (byteAt payload 0 = 2) &&
    match tabGet (s.wk w).rxCtx q with
    | some c => decide (c.gen = f.gen) && decide (c.sketches = []) && decide (f.seq = c.next)
    | none => false

/-- A frame after outer decoding: header, payload, trailer CRC, and whether a byte of it lies in an uncorrectable codeword. -/
structure CheckedFrame where
  hdr : BitVec 128
  payload : Bytes
  crc : BitVec 32
  lostCw : Bool
deriving DecidableEq, Repr

/-- Split the bytes of a frame (R97, R98). -/
def splitFrame (b : Bytes) (lostCw : Bool) : CheckedFrame :=
  let hdr := hdrAt (b.take 16)
  let n := (frameHdr hdr).len
  { hdr := hdr, payload := (b.drop 16).take n, crc := BitVec.ofNat 32 (leNat ((b.drop (16 + n)).take 4)), lostCw := lostCw }

/-- The frame at a byte, once it has left the decoders whole. -/
def DecodeLane.frameAt (d : DecodeLane) (pos : Nat) : Option CheckedFrame :=
  match d.read pos 16 with
  | none => none
  | some (h, _) => (d.read pos (wireSize (frameHdr (hdrAt h)).type (frameHdr (hdrAt h)).len)).map fun x => splitFrame x.1 x.2

/-- What Table 4-7 makes of a frame, passed to delivery (R116, R168, R170, R171); `done` tells that its confirmed sketch has been taken. -/
def State.checkFrame (s : State) (p : Phys) (w : Work) (x : CheckedFrame) (done : Bool) (bad : Option (Nat × BitVec 42)) : State :=
  let f := frameHdr x.hdr
  if f.type = 0 then s
  else if f.peer ≠ (s.wk w).station then s.modFec w fun x => { x with misaddressed := satW 32 (x.misaddressed + 1) }
  else
    let q := s.senderOf p w
    let data := decide (f.type = 1 ∨ f.type = 3)
    let deliver := guaranteed (s.pathMode p)
    let s := if deliver then s.seeRxContext w q bad else s
    if x.lostCw then
      let s := s.modFec w fun x => { x with lostCw := satW 32 (x.lostCw + 1) }
      if deliver then
        let s := s.takeAckOf w q f false
        if data then s.receiveLost w q f.seq else s
      else s
    else if data && !trailerOk x.hdr x.payload x.crc then
      let s := s.modFec w fun x => { x with crc := satW 32 (x.crc + 1) }
      if deliver then s.receiveLost w q f.seq else s
    else
      let s := s.modFec w fun x => { x with good := satW 32 (x.good + 1) }
      let s := if burstMode (s.modeOf p) then s.modBurstNow p fun b => { b with frames := satW 16 (b.frames + 1) } else s
      if ¬ deliver then s
      else
        let s := s.modWork w fun u => { u with move := u.move.map fun m =>
          if m.phase = .breakP ∧ m.dst = p ∧ f.type = 1 then { m with settling := true } else m }
        let s := s.takeAckOf w q f (s.revealsRestart w q f x.payload)
        if done then s.heardFrom w q else if data then s.receiveGood w q f x.payload else s.receiveAckFrame w q f

/-- The oldest frame that waits for its check leaves the list. -/
def DecodeLane.popCheck (d : DecodeLane) (pos : Nat) : DecodeLane :=
  ({ d with toCheck := d.toCheck.tail, done := d.done.filter fun x => decide (x ≠ pos) } : DecodeLane).prune

/-- FRAME_CHECK: the next frame that delineation has placed, once it has left the decoders whole (R115, R116, Table 4-7); `bad` names a
word of its receive context and the stored bits a disturbance inverts. Sketch candidates up to its byte have their results first, and the
frame of a sketch they confirm has been taken with it (R117, R175). A frame that its header puts past the end of a burst is dropped without a
report: no outcome of Table 4-7 can be tested on it (DEDUCED, log 96). -/
def execFrameCheck (p : Phys) (bad : Option (Nat × BitVec 42)) (s : State) : Host.Outcome State Fault Refusal :=
  let d := s.del p
  .next <| match s.rxWork p, d.toCheck with
    | some w, pos :: _ =>
      if ¬ s.passes p then s
      else match d.read pos 16 with
        | none => s
        | some (h, _) =>
          if d.beyond pos (wireSize (frameHdr (hdrAt h)).type (frameHdr (hdrAt h)).len) then s.modDec p fun d => d.popCheck pos
          else match d.frameAt pos with
            | none => s
            | some x =>
              let s := s.resolveTo p w pos
              let done := (s.del p).done.contains pos
              (s.modDec p fun d => d.popCheck pos).checkFrame p w x done bad
    | _, _ => s

/-- A frame before outer decoding at a byte, once it has left the inner decoder whole and before all of it has left the outer
decoders (R117). -/
def DecodeLane.earlyFrame (d : DecodeLane) (pos : Nat) : Option CheckedFrame :=
  match d.readBefore pos 16 with
  | none => none
  | some h =>
    let n := wireSize (frameHdr (hdrAt h)).type (frameHdr (hdrAt h)).len
    if d.beyond pos n ∨ (cwSpan pos n).2 < d.outerNext then none else (d.readBefore pos n).map fun b => splitFrame b false

/-- A released candidate is sketched where the delivery stage takes it (R174). -/
def State.sketchFrame (s : State) (p : Phys) (w : Work) (pos : Nat) (x : CheckedFrame) (ok : Bool) : State :=
  let u := s.wk w
  let f := frameHdr x.hdr
  let q := s.senderOf p w
  match tabGet u.rxCtx q with
  | none => s
  | some c =>
    let ptr := if c.sketches = [] then c.next else c.sketchPtr
    if c.gen ≠ f.gen ∨ f.seq ≠ ptr ∨ c.paused then s
    else
      let room := decide (u.sketchBytes + wireSize 1 f.len ≤ 1024 * u.sketchWindow) &&
        !(s.grp (groupOfWork w)).replayFull (12 + f.len)
      if ¬ ok ∨ ¬ room then s.modRxCtx w q fun c => { c with paused := true }
      else
        let s := s.modRxCtx w q fun c => { c with
          sketches := c.sketches ++ [{ seq := f.seq, bytes := wireSize 1 f.len, header := x.hdr, payload := x.payload,
                                       lane := p.val, pos := pos }],
          sketchPtr := f.seq + 1,
          nak := if c.nakSketch ∧ c.nak = some f.seq then none else c.nak }
        s.hostFrame w q f.seq x.payload true

/-- SKETCH_CANDIDATE: the checker's delineation of the inner decoder's output meets a header at byte `pos` (how it delineates before
outer decoding is not given: log 97). A DATA frame that passes the checks is released as a candidate (R117) and goes to the delivery
stage, as one that fails its trailer does (R174). -/
def execSketchCandidate (p : Phys) (pos : Nat) (s : State) : Host.Outcome State Fault Refusal :=
  let d := s.del p
  .next <| match s.rxWork p, d.earlyFrame pos with
    | some w, some x =>
      let u := s.wk w
      let f := frameHdr x.hdr
      if ¬ u.sketch ∨ u.sketchOff ∨ ¬ s.passes p ∨ ¬ guaranteed (s.pathMode p) ∨ s.sketchLane w ≠ some p then s
      else if ¬ validHdr x.hdr ∨ f.type ≠ 1 ∨ f.peer ≠ u.station ∨ d.cands.any (fun c => decide (c.1 = pos)) then s
      else
        let ok := trailerOk x.hdr x.payload x.crc
        let s := if ok then s.modDec p fun d => { d with cands := d.cands ++ [(pos, wireSize 1 f.len)] } else s
        s.sketchFrame p w pos x ok
    | _, _ => s

/-- SKETCH_RESOLVED: outer decoding of every codeword of the oldest candidate is complete (R117, R175–R177). -/
def execSketchResolved (p : Phys) (s : State) : Host.Outcome State Fault Refusal :=
  .next <| match s.rxWork p, (s.del p).cands with
    | some w, (pos, n) :: _ =>
      (match (s.del p).verdict pos n with
       | none => s
       | some confirmed => (s.resolveCand p w pos confirmed).modDec p (·.prune))
    | _, _ => s

/-- MARGIN_WINDOW_END: the oldest window that has ended and is not yet judged (R119, R120, R182, R286). -/
def execMarginWindowEnd (w : Work) (s : State) : Host.Outcome State Fault Refusal :=
  let f := (s.wk w).fec
  let corrections := (f.windows.headD (0, 0)).1
  let exp := (f.windows.headD (0, 0)).2
  let m := marginOf corrections exp 24 10000
  let mh := marginOf corrections exp 15 10000
  let floor : Int := 64 * (s.wk w).floor
  .next <| match s.physOf w with
    | none => s
    | some p =>
      if ¬ (guaranteed (s.modeOf p) || decide (s.modeOf p = .loop)) ∨ f.windows = [] then s
      else
        let s := s.modWork w fun u => { u with penLast := u.penNow, penNow := [] }
        let ber := (max 1 corrections * 2 ^ 33 + 2 ^ exp) / 2 ^ (exp + 1)
        let under := guaranteed (s.modeOf p) && decide (m < floor - 256) && !s.graceOn p
        let fails := if under then f.failWindows + 1 else 0
        let s := s.modFec w fun f => { f with
          windows := f.windows.tail, margin := m, marginHard := mh, marginLb := decide (corrections = 0), marginValid := true,
          windowBer := BitVec.ofNat 32 ber, low := if m < floor then true else if floor + 128 ≤ m then false else f.low,
          failWindows := if 3 ≤ fails then 0 else fails }
        let s := s.modAge fun a => { a with lane := vupd a.lane p fun x => { x with
          marginSum := x.marginSum + m, marginCount := x.marginCount + 1 } }
        let s := if ¬ f.low ∧ m < floor then s.raiseW .fecMarginLow w
          else if f.low ∧ floor + 128 ≤ m then s.raiseW .fecMarginOk w else s
        if 3 ≤ fails then s.declareFail p .margin none else s

/-! Commands. -/

/-- LANE.SET_FEC (R105, R119, Table 4-11). A new window length starts the window in progress anew, and windows that have ended keep theirs
(DESIGN CHOICE, log 113: R119 does not say what becomes of the window in progress). -/
def execLaneSetFec (k : Sess) (s : State) : Host.Outcome State Fault Refusal :=
  .next <| s.runCmd 0x0328 k fun a s =>
    s.forAllSel (decide (byteAt a 0 = 255)) (selAll 128 (byteAt a 0))
      (fun w => match s.physOf w with
        | some p => if (s.ln p).selftest then some s.busyTest else none
        | none => none)
      (fun w s => s.modFec w fun f =>
        let keep := decide (f.windowExp = byteAt a 1)
        { f with
        winBits := if keep then f.winBits else 0, winCorr := if keep then f.winCorr else 0, windowExp := byteAt a 1,
          hardForced := decide (byteAt a 2 = 1), preTx := bitOf (byteAt a 3) 0,
        preRx := bitOf (byteAt a 3) 1 })

/-- The FEC statistics record (Table 4-10). PHYS_LANE of a working lane with no physical lane is 255 (DESIGN CHOICE, log 113: the table
gives 0–135 alone). -/
def State.fecRecord (s : State) (w : Work) : Bytes :=
  let m := s.modeOfWork w
  let d := match s.physOf w with | some p => s.del p | none => {}
  let f0 := (s.wk w).fec
  let f : FecLane := if m = .transparent then {} else f0
  let delin := if guaranteed m ∨ m = .loop then d.delin else 3
  leBytes 1 1 ++ leBytes 1 (match s.physOf w with | some p => p.val | none => 255) ++ leBytes 1 w.val ++
  leBytes 1 (packBits [(4, m.code), (2, delin), (1, d.amLocked.toNat), (1, f0.hard.toNat)]) ++
  leBytes 2 (ofSigned 16 f.margin) ++ leBytes 2 (ofSigned 16 f.marginHard) ++ leBytes 8 s.now.toNat ++
  leBytes 8 f.codedBits ++ leBytes 8 f.corrections ++ leBytes 8 f.innerCw ++ leBytes 4 f.innerChanged ++
  leBytes 4 f.innerFlagged ++ leBytes 8 f.outerCw ++ leBytes 4 f.outerFailed ++ leBytes 4 f.outerCorrected ++
  f.hist.toList.flatMap (fun n => leBytes 4 n) ++ leBytes 4 f.good ++ leBytes 4 f.crc ++ leBytes 4 f.lostCw ++
  leBytes 4 f.misaddressed ++ leBytes 4 f.headersFailed ++ leBytes 4 f.contradicted ++ leBytes 2 f.delinLoss ++
  leBytes 2 f.amLoss ++ leBytes 2 f.amMissed ++ leBytes 2 f.peerChanges ++
  recWord [(14, f.peer), (1, f.marginLb.toNat), (1, f.marginValid.toNat), (16, 0)] ++ leBytes 4 f.windowBer.toNat

/-- LANE.GET_FEC_STATS (R121, R383). -/
def execLaneGetFecStats (k : Sess) (s : State) : Host.Outcome State Fault Refusal :=
  .next <| s.runCmd 0x0329 k fun a s =>
    let w : Work := finOf 128 (byteAt a 0)
    let tested := match s.physOf w with | some p => (s.ln p).selftest | none => false
    (s.statusReply tested (s.fecRecord w),
      if bitOf (byteAt a 1) 0 then s.modFec w fun f => { f with
        codedBits := 0, corrections := 0, innerCw := 0, innerChanged := 0, innerFlagged := 0, outerCw := 0, outerFailed := 0,
        outerCorrected := 0, hist := Vector.replicate 16 0, good := 0, crc := 0, lostCw := 0, misaddressed := 0,
        headersFailed := 0, contradicted := 0, delinLoss := 0, amLoss := 0, amMissed := 0, peerChanges := 0 }
      else s)

end Sys2Proof.Machine
end

