-- ==== Sys2Proof/Machine/Images.lean ====
section
/-!
DEFINITION. Meanings of the boot, image and relay rows (chapter 15, R401).
-/
namespace Sys2Proof.Machine

/-- BOOT_ROM_START (R401, R405, R440). -/
def execBootRomStart (s : State) : Host.Outcome State Fault Refusal :=
  .next <| if s.sys.clk.phase = .locked then s.quietPorts.bootRom else s

/-! Download. -/

/-- A download that runs under a host or a neighbour refuses IMAGE.BEGIN (R431, R440). -/
def ImageUnit.beginBusy (u : ImageUnit) : Bool := decide (u.stage = .activating) || (u.active && decide (u.source ≠ 0))

/-- IMAGE.BEGIN (R428, R431, R440): a download of the same source in progress is abandoned first; in REFILL the retries end. -/
def execImageBegin (k : Sess) (s : State) : Host.Outcome State Fault Refusal :=
  .next <| s.runCmd 0x0F01 k fun a s =>
    s.guarded [(s.sec.img.beginBusy, refuse .busy)] fun s =>
      let s := s.quietPorts.rejectDownload 10 false
      let s := s.each ([0, 1] : List Port) fun q s => s.modPort q fun p => { p with asked := false }
      (replyOk, s.beginDownload 0 (fieldLE a 0 4) (bitOf (byteAt a 4) 0))

/-- IMAGE.WRITE (R428): the next piece in order. -/
def execImageWrite (k : Sess) (s : State) : Host.Outcome State Fault Refusal :=
  .next <| s.runCmd 0x0F02 k fun a s =>
    let u := s.sec.img
    let off := fieldLE a 0 4
    let len := fieldLE a 4 2
    let body := off + len - max off (min 8192 (off + len))
    let runs := u.active && decide (u.source = 0)
    s.guarded
      [(runs && !u.headerOk && decide (8192 < off + len), refuse .busy),
        (runs && decide (65536 < u.buffer.length + body), refuse .busy), (!runs, refuse .badState),
        (decide (off ≠ u.received), badArg 0), (decide (u.length < off + len), badArg 4),
        (decide (len % 4 ≠ 0 ∧ off + len ≠ u.length), badArg 4)]
      fun s =>
        let s := (s.quietPorts.modImg fun u => u.take (a.drop 8)).pumpAll
        (replyOk (leBytes 1 s.sec.img.stage.code), s)

/-- Live downstreams of the image being received. -/
def State.downstreams (s : State) : List RelayTx :=
  ([0, 1] : List Port).filterMap fun q => (s.rport q).tx.filter fun t => decide (t.cargo = .image) && !t.refill

/-- Response of IMAGE.GET_STATUS (Table 13-11). -/
def State.imageStatus (s : State) : Bytes :=
  let u := s.sec.img
  let live := s.downstreams
  let forwarded := match live.map (·.next) with
    | [] => 0
    | x :: r => r.foldl min x
  leBytes 1 u.stage.code ++ leBytes 1 u.source ++
    leBytes 1 (packBits [(1, u.headerOk.toNat), (1, u.bodyOk.toNat), (1, (decide (live ≠ [])).toNat)]) ++ leBytes 1 u.reject ++
    leBytes 4 u.length ++ leBytes 4 u.received ++ leBytes 4 u.written ++ leBytes 4 u.pendingVer.toNat ++
    leBytes 4 u.runningVer.toNat ++ leBytes 4 forwarded ++ zeros 4

/-- IMAGE.GET_STATUS (R397, Table 13-11). -/
def execImageGetStatus (k : Sess) (s : State) : Host.Outcome State Fault Refusal :=
  .next <| s.runCmd 0x0F03 k fun _ s => (replyOk s.imageStatus, s)

/-- HEADER_VERDICT (R427, R429 steps 1 and 2, R435): check 7 is skipped during refill. -/
def execHeaderVerdict (s : State) : Host.Outcome State Fault Refusal :=
  .next <|
    let u := s.sec.img
    if ¬ u.active ∨ u.headerOk ∨ u.header.length < 8192 then s
    else
      let s := s.quietPorts.modImg fun u => { u with pendingVer := BitVec.ofNat 32 (headerVersion u.header) }
      let code := s.headerCheck u.header u.length (decide (u.stage ≠ .refill))
      if code ≠ 0 then s.rejectDownload code true
      else
        let s := s.raise .imgHeaderOk u.source 0 (headerVersion u.header)
        let started (f : FlashUnit) : Journal :=
          { stage := 2, bodyHash := (u.header.drop 0x020).take 32, secVer := headerSecVer u.header, seq := f.journal.seq + 1 }
        let s := s.modFlash fun f => { f with slotHeader := none, journal := started f }
        let s := s.modImg fun u => { u with headerOk := true, stage := if u.stage = .refill then .refill else .body }
        (s.each s.sec.img.forwardPorts fun q s => s.startForward q).ackUp

/-- SECTOR_WRITE_DONE (R429 step 3): `ok` unless erase, program or read-back failed three times. -/
def execSectorWriteDone (ok : Bool) (s : State) : Host.Outcome State Fault Refusal :=
  .next <|
    let u := s.sec.img
    if ¬ u.active ∨ ¬ u.headerOk ∨ u.buffer = [] ∨ (u.buffer.length < 4096 ∧ u.received ≠ u.length) then s
    else if ¬ ok then s.quietPorts.rejectDownload 9 true
    else
      let bs := u.buffer.take 4096
      let body (m : Mem) : Mem :=
        memWrites 0xFF (m.filter fun c => decide (c.1 < u.written ∨ u.written + 4096 ≤ c.1)) u.written bs
      let s := s.quietPorts.modFlash fun f => { f with slotBody := body f.slotBody }
      let n := u.written + bs.length
      let s := s.modImg fun u => { u with written := n, buffer := u.buffer.drop 4096 }
      let s := if u.written / 1048576 < n / 1048576 then s.raise .imgProgress u.source 0 n else s
      s.ackUp

/-- BODY_VERIFY_DONE (R429 steps 4 and 5, R440): `ok` unless the header's sector failed three times. -/
def execBodyVerifyDone (ok : Bool) (s : State) : Host.Outcome State Fault Refusal :=
  .next <|
    let u := s.sec.img
    let ver := u.pendingVer.toNat
    if ¬ u.active ∨ ¬ u.headerOk ∨ u.buffer ≠ [] ∨ u.received ≠ u.length ∨ 8192 + u.written ≠ u.length then s
    else if ¬ ok then s.quietPorts.rejectDownload 9 true
    else
      let s := s.quietPorts.modFlash fun f => { f with slotHeader := some u.header }
      if ¬ s.bodyMatches u.header then
        let s := s.raise .imgBodyFail u.source 8 ver
        (if u.source ≠ 0 then s.sendNak (finOf 2 (u.source - 1)) 8 else s).stopDownload 8
      else
        let s := (s.raise .imgBodyOk u.source 0 ver).modFlash fun f => { f with
          journal := { f.journal with stage := 3, confirmed := false, swapped := 0, seq := f.journal.seq + 1 } }
        if u.stage = .refill then
          let s := s.each ([0, 1] : List Port) fun q s => s.modPort q fun p => { p with asked := false }
          (s.raise .imgRefill u.source 1 ver).runImage u.header
        else s.modImg fun u => { u with stage := .verified, active := false, bodyOk := true }

/-- HOST_SOURCE_TIMEOUT (R427): 60 s without a piece. -/
def execHostSourceTimeout (s : State) : Host.Outcome State Fault Refusal :=
  .next <|
    let u := s.sec.img
    if u.active ∧ u.source = 0 ∧ u.received < u.length then s.quietPorts.rejectDownload 11 false else s

/-- IMAGE.ABORT (R431). -/
def execImageAbort (k : Sess) (s : State) : Host.Outcome State Fault Refusal :=
  .next <| s.runCmd 0x0F06 k fun _ s =>
    let u := s.sec.img
    s.guarded [(decide (u.stage = .activating), refuse .busy), (!u.active && decide (u.stage ≠ .verified), refuse .badState)]
      fun s => (replyOk, if u.active then s.quietPorts.rejectDownload 10 true else s.modImg fun u => { u with stage := .idle })

/-- IMAGE.SET_RELAY (R435). -/
def execImageSetRelay (k : Sess) (s : State) : Host.Outcome State Fault Refusal :=
  .next <| s.runCmd 0x0F07 k fun a s => (replyOk, s.modImg fun u => { u with ports := BitVec.ofNat 4 (byteAt a 0) })

/-! Activation (R436). -/

/-- The standby of a pair, then its active core. -/
def State.pairRounds (s : State) (base : Nat) : List (List Nat) :=
  if s.coreActive base then [[base + 1], [base]] else [[base], [base + 1]]

/-- The rounds of Table 15-6; the management pair that serves the command's session comes last. -/
def State.activationRounds (s : State) (k : Sess) : List (List Nat) :=
  let one (lo n : Nat) : List (List Nat) := (List.range n).map fun i => [lo + i]
  one 180 6 ++ one 168 12 ++
  [(List.range 16).map (fun i => 136 + 2 * i), (List.range 16).map (fun i => 137 + 2 * i)] ++
  (List.range 17).map (fun i => (List.range 8).map fun b => 17 * b + i) ++ s.pairRounds 190 ++
  (if k.val < 4 then s.pairRounds 188 ++ s.pairRounds 186 else s.pairRounds 186 ++ s.pairRounds 188)

/-- A round of lane engines starts: adaptation and loops of their lanes freeze (R44, R262). -/
def State.startRound (s : State) : State :=
  match s.sec.img.rounds with
  | [] => s
  | r :: _ => s.each (r.filter fun c => decide (c < 136)) fun c s =>
    let p : Phys := finOf 136 c
    (s.modRx p fun r => { r with swapFreeze := true }).freezeLane p .imageSwap

/-- IMAGE.ACTIVATE (R436, R417, R431). -/
def execImageActivate (k : Sess) (s : State) : Host.Outcome State Fault Refusal :=
  .next <| s.runCmd 0x0F04 k fun _ s =>
    s.guarded [(s.sec.test.isSome, s.busyTest), (decide (s.sec.img.stage ≠ .verified), refuse .badState)] fun s =>
      let rounds := s.activationRounds k
      let s := s.modFlash fun f => { f with journal := { f.journal with stage := 4, swapped := 0, seq := f.journal.seq + 1 } }
      (replyOk, (s.modImg fun u => { u with stage := .activating, rounds := rounds }).startRound)

/-- A core has swapped: its section is loaded from the slot and it runs it; the first of a pair takes over from its partner, unless it
is retired. -/
def State.coreSwapped (s : State) (rest : List (List Nat)) (i : Nat) : State :=
  let c : Core := finOf 192 i
  if (s.coreOf c).state = .retired then s
  else
    let ver := s.sec.img.pendingVer
    let s := s.modCore c fun u => { u with version := ver }
    let s := match s.sec.flash.slotHeader with | some h => s.loadCore h c | none => s
    if i < 136 then
      let p : Phys := finOf 136 i
      (s.modRx p fun r => { r with swapFreeze := false }).thawLane p .imageSwap
    else
      let q := corePartner c
      let first := rest.any fun r => r.contains q.val
      if 186 ≤ i ∧ first ∧ (s.coreOf c).state = .standby ∧ (s.coreOf q).state = .active then
        (s.modCore c fun u => { u with state := .active }).modCore q fun u => { u with state := .standby }
      else s

/-- CORE_SWAP_DONE (R436): a lane engine's round waits for mode changes and moves of its lanes. -/
def execCoreSwapDone (s : State) : Host.Outcome State Fault Refusal :=
  .next <|
    let u := s.sec.img
    let ver := u.pendingVer.toNat
    match u.rounds with
    | [] => s
    | r :: rest =>
      if u.stage ≠ .activating ∨ r.any (fun c => decide (c < 136) && s.moving (finOf 136 c)) then s
      else
        let kind := coreKind (r.headD 0)
        let s := s.each r fun c s => s.coreSwapped rest c
        let s := (s.modImg fun u => { u with rounds := rest }).modFlash fun f => { f with
          journal := { f.journal with swapped := f.journal.swapped + r.length, seq := f.journal.seq + 1 } }
        let s := if rest.any (fun x => decide (coreKind (x.headD 0) = kind)) then s else s.raise .imgCoreSwapped u.source kind ver
        if rest ≠ [] then s.startRound
        else
          let s := (s.modImg fun u => { u with
            stage := .activated, runningVer := u.pendingVer, running := u.header, unconfirmed := true }).modFlash fun f => { f with
            journal := { f.journal with stage := 5, seq := f.journal.seq + 1 } }
          s.raise .imgActivated u.source 0 ver

/-- IMAGE.CONFIRM (R439): it applies to the running image, also while a later download has taken the slot (R431). -/
def execImageConfirm (k : Sess) (s : State) : Host.Outcome State Fault Refusal :=
  .next <| s.runCmd 0x0F05 k fun _ s =>
    let u := s.sec.img
    s.guarded [(decide (u.stage ≠ .activated) && !u.unconfirmed, refuse .badState)] fun s =>
      let sv := headerSecVer u.running
      let s := if s.rollback < sv then s.modSec fun x => { x with otp := { x.otp with
          rollA := x.otp.rollA ||| thermometer sv, rollB := x.otp.rollB ||| thermometer sv } } else s
      let s := if u.stage = .activated then s.modFlash fun f => { f with
          journal := { f.journal with stage := 0, confirmed := true, seq := f.journal.seq + 1 } } else s
      let s := s.modImg fun u => { u with unconfirmed := false, stage := if u.stage = .activated then .idle else u.stage }
      (replyOk, s.raise .imgConfirmed u.source 0 u.runningVer.toNat)

/-! Relay frames. Each row carries the frame's payload and CRC; a frame with a bad CRC, or of another length, is discarded. -/

/-- Frames reach a port that is up while the clocks run. -/
def State.hears (s : State) (q : Port) (type : Nat) (payload : Bytes) (crc : BitVec 32) : Bool :=
  s.sys.clk.counting && (s.rport q).up && frameGood type payload crc

/-- HELLO (R434): it opens a transfer that this device repeats HELLO for, or is answered by HELLO. -/
def execHello (q : Port) (payload : Bytes) (crc : BitVec 32) (s : State) : Host.Outcome State Fault Refusal :=
  .next <|
    if ¬ s.hears q 1 payload crc ∨ payload.length ≠ 12 then s
    else
      let s := s.quietPorts
      match (s.rport q).tx with
      | some t =>
        if t.phase = 0 then
          (s.modPort q fun p => { p with tx := some { t with phase := 1, since := s.now } }).send q 2 (leBytes 4 t.length)
        else s.sendHello q
      | none => s.sendHello q

/-- An OFFER on RLY_UP meets one that RLY_DN brought in the same cycle: RLY_UP prevails (R435). -/
def State.prevails (s : State) (q : Port) : Bool :=
  let u := s.sec.img
  decide (q = 0) && u.active && decide (u.source = 2 ∧ u.stage = .header ∧ u.received = 0 ∧ u.begun = s.now)

/-- Whether an OFFER is accepted (R435, R440, R441): 0, or the NAK reason. -/
def State.offerVerdict (s : State) (q : Port) (length : Nat) : Nat :=
  let u := s.sec.img
  if s.sys.clk.phase = .romRefill then
    if (s.rport q).asked ∧ ¬ u.active ∧ length = 1048576 then 0 else 0x20
  else if u.stage = .refill then if (s.rport q).asked ∧ ¬ u.active then 0 else 0x20
  else if ¬ u.ports.getLsbD q.val then 0x21
  else if u.stage = .idle ∨ u.stage = .verified ∨ u.stage = .activated ∨ u.stage = .invalid ∨ s.prevails q then 0
  else 0x20

/-- OFFER (R435). -/
def execOffer (q : Port) (payload : Bytes) (crc : BitVec 32) (s : State) : Host.Outcome State Fault Refusal :=
  .next <|
    if ¬ s.hears q 2 payload crc ∨ payload.length ≠ 4 then s
    else
      let s := s.quietPorts
      let n := fieldLE payload 0 4
      let v := s.offerVerdict q n
      if v ≠ 0 then s.sendNak q v
      else if s.sys.clk.phase = .romRefill then
        (s.modImg fun u => { u with active := true, source := q.val + 1, loaderBuf := [], loaderNext := 0 }).sendAck q 0
      else ((if s.prevails q then s.sendNak 1 0x20 else s).beginDownload (q.val + 1) n true).sendAck q 0

/-- The boot ROM takes loader bytes; the last ones are verified, and a good loader is written and boots (R441). -/
def State.takeLoader (s : State) (q : Port) (off : Nat) (bs : Bytes) : State :=
  let u := s.sec.img
  let fits := decide (off = u.loaderNext) && decide (off + bs.length ≤ 1048576)
  let s := if fits then s.modImg fun u => { u with
    loaderBuf := memWrites 0xFF u.loaderBuf off bs, loaderNext := off + bs.length } else s
  let s := s.sendAck q s.sec.img.loaderNext
  if ¬ fits ∨ s.sec.img.loaderNext ≠ 1048576 then s
  else
    let buf := s.sec.img.loaderBuf
    let s := s.modImg fun u => { u with active := false, loaderBuf := [], loaderNext := 0 }
    if Config.loaderOk buf then
      let s := s.each ([0, 1] : List Port) fun q s => s.modPort q fun p => { p with asked := false }
      ((s.modFlash fun f => { f with loader := buf }).modPins fun p => { p with flashProtected := false }).modClk fun c =>
        { c with phase := .locked }
    else s

/-- DATA (R434, R435): image bytes in order; others are answered with the NEXT in force. -/
def execData (q : Port) (payload : Bytes) (crc : BitVec 32) (s : State) : Host.Outcome State Fault Refusal :=
  .next <|
    let u := s.sec.img
    let off := fieldLE payload 0 4
    let bs := payload.drop 4
    if ¬ s.hears q 3 payload crc ∨ bs = [] ∨ 4096 < bs.length ∨ off % 4096 ≠ 0 ∨ ¬ u.active ∨ u.source ≠ q.val + 1 then s
    else if s.sys.clk.phase = .romRefill then s.quietPorts.takeLoader q off bs
    else if off = u.received ∧ u.received + bs.length ≤ u.length ∧ u.buffer.length + bs.length ≤ 65536 then
      (s.quietPorts.modImg fun u => u.take bs).pumpAll
    else s.quietPorts.sendAck q u.acked

/-- An acknowledgement moves a transfer on (R434, R435). -/
def State.takeAck (s : State) (q : Port) (t : RelayTx) (next window : Nat) : State :=
  if t.phase = 0 ∨ next < t.next ∨ t.length < next then s
  else
    let moved := decide (t.next < next) || decide (t.phase = 1)
    let t' := { t with phase := 2, next := next, window := window, sent := max t.sent next,
                       since := if moved then s.now else t.since, started := t.started || decide (0 < next) }
    let s := s.modPort q fun p => { p with tx := some t' }
    let s := if t'.started ∧ ¬ t.started then s.raise .imgRelayStart (q.val + 1) 0 (s.txVersion t) else s
    (if next = t.length then s.modPort q fun p => { p with tx := none } else s.pump q t' 256).ackUp

/-- ACK (R434). -/
def execAck (q : Port) (payload : Bytes) (crc : BitVec 32) (s : State) : Host.Outcome State Fault Refusal :=
  .next <|
    if ¬ s.hears q 4 payload crc ∨ payload.length ≠ 8 then s
    else match (s.rport q).tx with
      | some t => s.quietPorts.takeAck q t (fieldLE payload 0 4) (byteAt payload 4)
      | none => s

/-- NAK (R435, R440): a downstream is dropped, or this device's REFILL_REQ is refused. -/
def execNak (q : Port) (payload : Bytes) (crc : BitVec 32) (s : State) : Host.Outcome State Fault Refusal :=
  .next <|
    if ¬ s.hears q 5 payload crc ∨ payload.length ≠ 4 then s
    else
      let s := s.quietPorts
      if (s.rport q).tx.isSome then (s.relayFail q (byteAt payload 0)).ackUp
      else if (s.rport q).asked ∧ ¬ (s.sec.img.active ∧ s.sec.img.source = q.val + 1) then s.refillFailed q
      else s

/-- REFILL_REQ (R441): COUNTER 0xFF asks for the loader sector. -/
def execRefillReq (q : Port) (payload : Bytes) (crc : BitVec 32) (s : State) : Host.Outcome State Fault Refusal :=
  .next <|
    if ¬ s.hears q 6 payload crc ∨ payload.length ≠ 4 then s
    else
      let s := s.quietPorts
      let u := s.sec.img
      let open' := decide (u.stage = .idle ∨ u.stage = .verified ∨ u.stage = .activated) && s.sys.fwReady
      let serving := ([0, 1] : List Port).any fun j => match (s.rport j).tx with
        | some t => t.refill
        | none => false
      let loader := decide (byteAt payload 3 = 0xFF)
      let length := if loader then 1048576 else 8192 + headerBodyLen (s.sec.flash.slotHeader.getD [])
      if ¬ open' ∨ serving ∨ (s.rport q).tx.isSome ∨ (s.sec.flash.slotHeader.isNone ∧ ¬ loader) then s.sendNak q 0x20
      else
        let t : RelayTx := { cargo := if loader then .loader else .image, phase := 1, length := length, since := s.now, refill := true }
        (s.modPort q fun p => { p with tx := some t }).send q 2 (leBytes 4 length)

/-- ABORT (R433): the sender abandons the transfer. -/
def execAbort (q : Port) (payload : Bytes) (crc : BitVec 32) (s : State) : Host.Outcome State Fault Refusal :=
  .next <|
    let u := s.sec.img
    if ¬ s.hears q 7 payload crc ∨ payload.length ≠ 4 ∨ ¬ u.active ∨ u.source ≠ q.val + 1 then s
    else if s.sys.clk.phase = .romRefill then s.modImg fun u => { u with active := false }
    else s.quietPorts.rejectDownload 10 false

/-! Relay timers and ports. -/

/-- HELLO_REPEAT (R434): given up after 500 ms. -/
def execHelloRepeat (q : Port) (s : State) : Host.Outcome State Fault Refusal :=
  .next <| match (s.rport q).tx with
    | some t =>
      if t.phase ≠ 0 then s
      else if 500 ≤ t.hellos + 1 then (s.quietPorts.relayFail q 11).ackUp
      else (s.quietPorts.modPort q fun p => { p with tx := some { t with hellos := t.hellos + 1 } }).sendHello q
    | none => s

/-- RELAY_RESEND_TIMEOUT (R434): resent from NEXT; an OFFER without an answer is repeated. -/
def execRelayResendTimeout (q : Port) (s : State) : Host.Outcome State Fault Refusal :=
  .next <| match (s.rport q).tx with
    | some t =>
      if t.phase = 1 then s.quietPorts.send q 2 (leBytes 4 t.length)
      else if t.phase = 2 then s.quietPorts.pump q { t with sent := t.next } 256
      else s
    | none => s

/-- What this device receives on a port ends as SOURCE_LOST; an unanswered REFILL_REQ fails (R434, R440). -/
def State.sourceLost (s : State) (q : Port) : State :=
  let u := s.sec.img
  if u.active ∧ u.source = q.val + 1 then
    if s.sys.clk.phase = .romRefill then s.modImg fun u => { u with active := false } else s.rejectDownload 11 false
  else if (s.rport q).asked then s.refillFailed q else s

/-- RELAY_SOURCE_TIMEOUT (R434): 2 s without an advance, of what this device sends or receives. -/
def execRelaySourceTimeout (q : Port) (sender : Bool) (s : State) : Host.Outcome State Fault Refusal :=
  .next <| if sender then (s.quietPorts.relayFail q 11).ackUp else s.quietPorts.sourceLost q

/-- RELAY_PORT_DOWN (R432, R434). -/
def execRelayPortDown (q : Port) (s : State) : Host.Outcome State Fault Refusal :=
  .next <|
    if ¬ (s.rport q).up then s
    else (((s.quietPorts.modPort q fun p => { p with up := false }).relayFail q 11).ackUp).sourceLost q

/-- RELAY_PORT_UP (R432). -/
def execRelayPortUp (q : Port) (s : State) : Host.Outcome State Fault Refusal :=
  .next <| if s.sys.clk.counting then s.modPort q fun p => { p with up := true } else s

/-- REFILL_RETRY (R440). -/
def execRefillRetry (s : State) : Host.Outcome State Fault Refusal :=
  .next <|
    if s.sec.img.stage = .refill ∧ s.sec.img.refillWait then
      (s.quietPorts.modImg fun u => { u with refillWait := false }).askRefill 0
    else s

/-- LOADER_REFILL_RETRY (R441). -/
def execLoaderRefillRetry (s : State) : Host.Outcome State Fault Refusal :=
  .next <| if s.sys.clk.phase = .romRefill ∧ ¬ s.sec.img.active then s.quietPorts.askLoader else s

end Sys2Proof.Machine
end

