-- ==== Sys2Proof/Machine/LineRx.lean ====
section
/-!
DEFINITION. Meanings of the line receive rows (chapter 2, Table 13-5): detectors, timing states, palettes, flipbook and
adaptation. The estimator's rows stand with calibration.
-/
namespace Sys2Proof.Machine

/-- A new symbol rate starts the histories, the equaliser and the estimation window anew; the transmit symbol counter goes on at
the new rate (R125). -/
def State.setRate (s : State) (p : Phys) (rate : Nat) : State :=
  if (s.rxl p).rate = rate then s
  else
    let sym := s.txSym p
    (s.modTx p fun t => { t with symBase := sym, symTime := s.now }).modRx p fun r =>
      { (r.newWindow s.now) with rate := rate, corrected := [], raws := [], eq := { next := r.symCount, out := r.symCount } }

/-- LANE.SET_RX (R26–R29, R34, R41, R44, R45): RATE changes only in DARK and TUNE; DGAIN is staged outside DARK (R39). In SLOTTED
and OPEN the deskew stays the portrait's (R70), and DGAIN returns to the value set here in a continuous mode (R34). -/
def execLaneSetRx (k : Sess) (s : State) : Host.Outcome State Fault Refusal :=
  .next <| s.runCmd 0x0310 k fun a s =>
    let all := decide (byteAt a 0 = 255)
    let l := selAll 136 (byteAt a 0)
    let rate := byteAt a 9
    let ad := byteAt a 8
    s.forAllSel all l
      (fun p =>
        if (s.ln p).selftest then some s.busyTest
        else if (s.rxl p).rate ≠ rate ∧ s.modeOf p ≠ .dark ∧ s.modeOf p ≠ .tune then some (refuse .badState) else none)
      (fun p s => (s.setRate p rate).modRx p fun r =>
        let dg := fieldLE a 4 2
        let dk := toSigned 8 (byteAt a 6)
        { r with
          ctle := byteAt a 1, agcTarget := byteAt a 2, losThresh := byteAt a 3, deskewSet := dk,
          deskew := if burstMode (s.modeOf p) then r.deskew else dk, adaptK := byteAt a 7, adaptFfe := bitOf ad 0,
            adaptDfe := bitOf ad 1, adaptNlc := bitOf ad 2, dgainSet := dg,
          loopBw := byteAt a 10, damping := byteAt a 11, acqLimit := fieldLE a 12 2,
          dgain := if r.state = .off then dg else r.dgain,
          stagedDgain := if r.state = .off ∨ dg = r.dgain then none else some dg })

/-- LANE.LOAD_RX_PALETTE (Table 2-8): refused while a fade runs, which raises EV_RX_PALETTE with the tag 0 a load has none of
(DESIGN CHOICE, log 27), and for the active palette. -/
def execLaneLoadRxPalette (k : Sess) (s : State) : Host.Outcome State Fault Refusal :=
  .next <| s.runCmd 0x0311 k fun a s =>
    let p : Phys := finOf 136 (byteAt a 0)
    let b := decide (byteAt a 1 = 1)
    let r := s.rxl p
    let c := coeffsOf (a.drop 4)
    if ¬ (s.ln p).selftest ∧ r.fade.isSome then (refuse .busy, s.rxPalette p 0 5 r.symCount)
    else s.guarded [((s.ln p).selftest, s.busyTest), (r.activeB == b, refuse .busy)]
      fun s => (replyOk, s.modRx p fun r => if b then { r with paletteB := c } else { r with paletteA := c })

/-- LANE.GET_RX_DIAG (R52, R383). -/
def execLaneGetRxDiag (k : Sess) (s : State) : Host.Outcome State Fault Refusal :=
  .next <| s.runCmd 0x0312 k fun a s =>
    let p : Phys := finOf 136 (byteAt a 0)
    (s.statusReply (s.ln p).selftest (s.rxRecord p),
      if bitOf (byteAt a 1) 0 then s.modDiag p RxDiag.restart else s)

/-- LANE.SWAP_PALETTE (R47–R49). -/
def execLaneSwapPalette (k : Sess) (s : State) : Host.Outcome State Fault Refusal :=
  .next <| s.runCmd 0x0313 k fun a s =>
    let p : Phys := finOf 136 (byteAt a 0)
    let w : Swap := { exp := byteAt a 2, tag := BitVec.ofNat 16 (fieldLE a 4 2) }
    let m := s.modeOf p
    let sym := (s.rxl p).symCount
    if (s.ln p).selftest then (s.busyTest, s)
    else if m = .steady ∨ m = .transparent ∨ m = .tune ∨ m = .loop then
      let r := s.rxSwap p w sym
      (replyOk (leBytes 1 r.1), r.2)
    else (refuse .badState, s.rxPalette p w.tag 5 sym)

/-- LANE.CAPTURE_FLIPBOOK (R50, R84); a capture armed while a replay has the ring ends at once (R21, R51). -/
def execLaneCaptureFlipbook (k : Sess) (s : State) : Host.Outcome State Fault Refusal :=
  .next <| s.runCmd 0x0314 k fun a s =>
    let p : Phys := finOf 136 (byteAt a 0)
    let arm := decide (byteAt a 1 = 0)
    let c := (s.rxl p).capture
    s.guarded
      [((s.ln p).selftest, s.busyTest), (arm && decide (c.status = .complete), refuse .busy),
        (decide (s.modeOf p = .openM), refuse .badState)]
      fun s =>
        let t := (s.startDozeExit p 1).modRx p fun r =>
          if arm then
            { r with capture := { status := .armed, trigger := byteAt a 2, post := fieldLE a 4 2, rate := r.rate } }
          else if c.status = .armed ∨ c.status = .filling ∨ c.status = .complete then
            { r with capture := {}, frozen := if c.status = .complete then false else r.frozen }
          else r
        (replyOk, if (s.rxl p).replaying then t.captureAbort p .abortedReplay else t)

/-- Words of a capture from the oldest sample, with the words that met MEM_ERROR read as zero (R392, R338). -/
def RxLane.captureWords (r : RxLane) (first count : Nat) (errs : List Nat) : Bytes :=
  (List.range count).flatMap fun i =>
    if errs.contains i then zeros 4
    else (List.range 4).map fun j => memRead 0 r.ring ((r.capture.oldest.toNat + 4 * (first + i) + j) % 4096)

/-- LANE.READ_FLIPBOOK (R51, R392); `bad` lists disturbances of words of the returned range, by their index in it. Reading to the end
releases the capture. -/
def execLaneReadFlipbook (k : Sess) (bad : List (Nat × BitVec 42)) (s : State) : Host.Outcome State Fault Refusal :=
  .next <| s.runCmd 0x0315 k fun a s =>
    let p : Phys := finOf 136 (byteAt a 0)
    let first := fieldLE a 2 2
    let count := fieldLE a 4 2
    let r := s.rxl p
    let c := r.capture
    s.guarded [(decide (c.status ≠ .complete), refuse .badState), (decide (1024 < first + count), badArg 4)]
      fun s =>
        let start := c.oldest.toNat / 4 + first
        let s := s.each bad fun x s => if x.1 < count then s.disturb (arrFlipbook p) ((start + x.1) % 1024) x.2 else s
        let seen := s.ringRead (arrFlipbook p) 1024 start count none
        let err := seen.1.foldl (fun m i => m + 2 ^ i) 0
        let data := leBytes 1 (captureCode c.status) ++ leBytes 1 c.trigger ++ leBytes 1 c.rate ++ zeros 5 ++
          leBytes 8 c.oldest.toNat ++ leBytes 8 c.triggerTime.toNat ++ leBytes 32 err ++ r.captureWords first count seen.1
        (s.statusReply (s.ln p).selftest data,
          if first + count = 1024 then seen.2.modRx p fun r => { r with capture := { c with status := .idle }, frozen := false }
          else seen.2)

/-- LOS_BLOCK_END: the mean magnitude of a block of 256 corrected samples against the threshold (R29, Table 2-7). Where the timing
loop starts, so do its pilots. -/
def execLosBlockEnd (p : Phys) (s : State) : Host.Outcome State Fault Refusal :=
  let r := s.rxl p
  let sum := (r.corrected.map Int.natAbs).sum
  let quietMode := burstMode (s.modeOf p)
  .next <|
    if r.state = .off ∨ r.corrected.length ≠ 256 ∨ r.symCount.toNat % 256 ≠ 0 then s
    else
      let low := if sum < 1024 * r.losThresh then r.losLow + 1 else 0
      let high := if 1024 * (r.losThresh + 4) ≤ sum then r.losHigh + 1 else 0
      let s := s.modRx p fun r => { r with losLow := low, losHigh := high }
      if ¬ r.los ∧ 4 ≤ low then
        let s := s.modRx p fun r => { r with
          los := true, losHigh := 0, agcOn := false, state := if r.state = .burst then .burst else .signalWait }
        let s := s.modDiag p fun d => { d with losCount := satW 16 (d.losCount + 1) }
        (if quietMode then s else (s.amDrop p).raiseP .rxLos p).urgent 1 p.val
      else
        let clear := r.los && decide (4 ≤ high)
        let s := if clear then s.modRx p fun r => { r with los := false, losLow := 0, agcOn := continuousMode (s.modeOf p) } else s
        let s := if clear && !quietMode then s.raiseP .rxLosClear p else s
        s.modRx p fun r => if r.state = .signalWait ∧ ¬ r.los then
          { r with state := .timingAcq, runStart := Config.runGuess p.val r.symCount, eq := { r.eq with pilots := [] } } else r

/-- AGC_UPDATE: one step toward the target; `rms` of the corrected samples in 1/4 LSB (R28). -/
def execAgcUpdate (p : Phys) (rms : Nat) (s : State) : Host.Outcome State Fault Refusal :=
  .next <| s.modRx p fun r =>
    if ¬ r.agcOn ∨ r.state = .off ∨ r.state = .burst then r
    else if rms < 4 * r.agcTarget then { r with vga := min 80 (r.vga + 1) }
    else if 4 * r.agcTarget < rms then { r with vga := r.vga - 1 }
    else r

/-- A symbol of the coming cycle on which a staged set may come into force (R39): in STEADY one that starts an outer codeword, in
SLOTTED and OPEN the first one after the 32 postamble symbols of the burst being received, or the next one if none is, elsewhere a
multiple of 4,096. SPARE is not named by the rule and follows the last (DESIGN CHOICE, log 91). -/
def State.mayApplySet (s : State) (p : Phys) (sym : Sym) : Bool :=
  let r := s.rxl p
  decide ((sym - r.symCount).toNat < qOf r.rate) &&
    if s.modeOf p = .steady then r.cwStarts sym
    else if burstMode (s.modeOf p) then
      match (s.acl p).cur with
      | some b => b.accepted && decide (sym = b.payEnd + 33)
      | none => decide (sym = r.symCount)
    else decide (sym.toNat % 4096 = 0)

/-- CAL_SET_APPLY: the staged set and DGAIN come into force on symbol `sym` (R39), deferred by a replay (R40). A DGAIN staged
without a set raises no EV_RX_CAL_APPLIED and is not counted (DESIGN CHOICE, log 91: the rule speaks of a set). -/
def execCalSetApply (p : Phys) (sym : Sym) (s : State) : Host.Outcome State Fault Refusal :=
  let r := s.rxl p
  .next <|
    if r.replaying ∨ r.state = .off ∨ ¬ s.mayApplySet p sym then s
    else
      let s := s.modRx p fun r => { r with
        slices := if r.stagedPending then r.staged else r.slices, stagedPending := false,
        before := some (sym, r.slices, r.dgain), dgain := r.stagedDgain.getD r.dgain, stagedDgain := none }
      if r.stagedPending then
        ((s.modDiag p fun d => { d with calApplied := satW 16 (d.calApplied + 1), lastCalSymbol := sym }).raiseP
          .rxCalApplied p 0 (sym.toNat % 2 ^ 32)).calApplied p
      else s

/-- PILOT_EVALUATION: the errors of the last 64 pilots, and what the path measures besides (R45, R123, Table 2-7). -/
def execPilotEvaluation (p : Phys) (m : RxMeas) (s : State) : Host.Outcome State Fault Refusal :=
  let st := (s.rxl p).state
  let errors := ((s.rxl p).eq.pilots.filter id).length
  .next <|
    if st = .off ∨ st = .burst ∨ st = .signalWait ∨ (s.rxl p).eq.pilots.length < 64 then s
    else
      let s := s.modDiag p fun d => { d with
        snr := m.snr, eyeMin := m.eyeMin, levelMean := m.levelMean, levelSigma := m.levelSigma }
      if st = .timingAcq then (if errors ≤ 2 then s.modRx p fun r => { r with state := .converge } else s)
      else if 16 ≤ errors then
        (((s.modRx p fun r => { r with state := .timingAcq }).amDrop p).modDiag p fun d =>
          { d with lolCount := satW 16 (d.lolCount + 1) }).raiseP .rxLol p
      else s

/-- ACQ_LIMIT_EXPIRY (Table 2-7): the frequency integrator returns to 0 ppm. -/
def execAcqLimitExpiry (p : Phys) (s : State) : Host.Outcome State Fault Refusal :=
  .next <|
    if (s.rxl p).state = .timingAcq then
      (s.modRx p fun r => { r with state := .signalWait, freqOffset := 0 }).raiseP .rxAcqFail p
    else s

/-- CONVERGE_LOCK: the decision error has stayed below the threshold for 64 cycles (Table 2-7). -/
def execConvergeLock (p : Phys) (s : State) : Host.Outcome State Fault Refusal :=
  .next <|
    if (s.rxl p).state = .converge ∧ 64 ≤ (s.rxl p).eq.quiet then
      (s.modRx p fun r => { r with state := .locked }).raiseP .rxLock p
    else s

/-- FADE_START at the CK_DSP edge after acceptance: adaptation freezes (R47, R44). -/
def execFadeStart (p : Phys) (s : State) : Host.Outcome State Fault Refusal :=
  let sym := (s.rxl p).symCount
  .next <| match (s.rxl p).fade with
    | some f => if f.started then s
        else (s.modRx p fun r => { r with fade := some { f with started := true, start := sym } }).rxPalette p f.swap.tag 0 sym
    | none => s

/-- FADE_MIDPOINT: α has exceeded one half; P, FFE length and decision mode become those of the new palette (R47). -/
def execFadeMidpoint (p : Phys) (s : State) : Host.Outcome State Fault Refusal :=
  .next <| s.modRx p fun r =>
    let q := qOf r.rate
    { r with fade := r.fade.map fun f => if f.started ∧ f.total q < 2 * f.steps q r.symCount then { f with past := true } else f }

/-- FADE_END: α has reached 1 (R47, Table 2-8). -/
def execFadeEnd (p : Phys) (s : State) : Host.Outcome State Fault Refusal :=
  let r := s.rxl p
  .next <| match r.fade with
    | some f => if f.started ∧ f.steps (qOf r.rate) r.symCount = f.total (qOf r.rate) then s.rxFadeEnd p r.symCount else s
    | none => s

/-- FLIPBOOK_TRIGGER: the armed capture's trigger of this kind occurs (R50). Recording goes on for the count that was set, and to
the end of a memory word (R392). -/
def execFlipbookTrigger (p : Phys) (kind : Nat) (s : State) : Host.Outcome State Fault Refusal :=
  let c := (s.rxl p).capture
  .next <|
    if c.status = .armed ∧ c.trigger = kind then
      s.modRx p fun r => { r with capture := { c with
        status := .filling, triggerTime := s.now, rate := r.rate
        stop := BitVec.ofNat 48 ((r.symCount.toNat + c.post + 3) / 4 * 4) } }
    else s

/-- FLIPBOOK_CAPTURE_COMPLETE: the post-trigger samples have been recorded and the ring freezes (R50, R392). -/
def execFlipbookCaptureComplete (p : Phys) (s : State) : Host.Outcome State Fault Refusal :=
  let r := s.rxl p
  let c := r.capture
  .next <|
    if c.status = .filling ∧ (r.symCount - c.stop).toNat < 2 ^ 47 then
      s.modRx p fun r => { r with capture := { c with status := .complete, oldest := c.stop - 4096 }, frozen := true }
    else s

/-- The ring records the sample of a counter: it is not frozen, and no capture has all its samples. -/
def RxLane.wants (r : RxLane) (s : Sym) : Bool :=
  !r.frozen && !(decide (r.capture.status = .filling) && decide ((s - r.capture.stop).toNat < 2 ^ 47))

/-- The words of the flipbook array that a cycle of n samples writes, four samples to a word. -/
def State.ringWrite (s : State) (p : Phys) (n : Nat) : State :=
  let r := s.rxl p
  let first := r.symCount.toNat % 4096 / 4
  let k := ((List.range (n / 4)).filter fun i => r.wants (r.symCount + BitVec.ofNat 48 (4 * i))).length
  if k = 0 then s
  else
    let s := s.unitWrite (arrFlipbook p) first (min k (1024 - first))
    if 1024 < first + k then s.unitWrite (arrFlipbook p) 0 (first + k - 1024) else s

/-- Record the raw samples of a CK_DSP cycle: in the ring unless it is frozen or a capture has all its samples, in the histories
raw and corrected, and in the clip count (R31, R33, R50). DESIGN CHOICE (log 111): the raw code before the first sample after DARK is
taken as 0. -/
def RxLane.record (r : RxLane) (raw : Bytes) : RxLane :=
  let ys := r.correctRun r.symCount (r.raws.headD 0) raw
  let at' (i : Nat) : Sym := r.symCount + BitVec.ofNat 48 i
  { r with
    symCount := at' raw.length
    raws := (raw.reverse ++ r.raws).take 512
    corrected := (ys.reverse ++ r.corrected).take 256
    before := none
    ring := raw.zipIdx.foldl (fun m x => if r.wants (at' x.2) then memWrite 0 m ((at' x.2).toNat % 4096) x.1 else m) r.ring
    diag := { r.diag with clipCount := satW 32 (r.diag.clipCount +
      (raw.filter fun x => decide (x = 0x80 ∨ x = 0x7F)).length) } }

/-- The samples of a cycle that count toward the estimation window (R36), `n` symbols after they were recorded: all of them, or in
SLOTTED and OPEN those of the payload of a burst whose header decoded, from its first symbol on: the header is validated at most
384 payload symbols later. -/
def State.countSamples (s : State) (p : Phys) (n : Nat) : State :=
  let r := s.rxl p
  let take (first : Sym) (n drop : Nat) : State :=
    let l := ((r.raws.take n).drop drop).reverse
    s.modRx p fun r => { r with sums := r.sums.addRun r.rate first (r.raws.getD n 0) l }
  if s.samplesCount p then take (r.symCount - BitVec.ofNat 48 n) n 0
  else match burstMode (s.modeOf p) && !r.los, (s.acl p).cur with
    | true, some b =>
      if ¬ b.accepted ∨ b.payEnd = b.firstPay - 1 then s
      else
        let from' := match r.sums.last with
          | some l => if (l - b.firstPay).toNat < 2 ^ 40 then l + 1 else b.firstPay
          | none => b.firstPay
        let n := min 511 (min r.raws.length (r.symCount - from').toNat)
        let past := (r.symCount - 1 - b.payEnd).toNat
        if 2 ^ 47 ≤ (r.symCount - from').toNat then s
        else take (r.symCount - BitVec.ofNat 48 n) n (if past < 2 ^ 47 then past else 0)
    | _, _ => s

/-- Decided bits of a TRANSPARENT lane go to the host ASIC while the lane is in LOCKED, unless it is marked FAILED (R122, R208,
R469; DESIGN CHOICE, log 95: other receive states pass none). -/
def State.passBits (s : State) (p : Phys) : State :=
  let r := s.rxl p
  match s.workOf p with
  | some w =>
    if s.modeOf p ≠ .transparent ∨ r.state ≠ .locked ∨ (s.ln p).failed then s
    else
      let x := levelBits (s.wk w).fec.preRx r.eq.lastLevel (r.eq.decided.map (·.2))
      (s.modRx p fun r => { r with eq := { r.eq with lastLevel := x.2 } }).rawBack w x.1
  | none => s

/-- References of the decisions released in a cycle: the known value where there is one (R44). -/
def Equaliser.refs (q : Equaliser) (known : Sym → Option Int) : List (Sym × Int) :=
  q.decided.map fun x => (x.1, (known x.1).getD x.2)

/-- A cycle of the main equaliser in a continuous mode: decisions, pilot errors (R45, R123), lock error, the timing loop, bits of
TRANSPARENT, and the update of the active palette unless adaptation is frozen (R44). TUNE is judged as TRANSPARENT, since a
training sequence has no pilots (DESIGN CHOICE, log 25). -/
def State.equaliseCycle (s : State) (p : Phys) : State :=
  let r := s.rxl p
  let rungs := s.rungsOf p
  let m := r.due
  let r' := r.equalise r.active r.dgain rungs m
  let new := r'.eq.latest m
  let known (x : Sym) : Option Int := if superframes (s.modeOf p) then r.runPilot x else none
  let errs := new.filterMap fun x => if superframes (s.modeOf p) then knownErr known x else farErr x
  let tracks := !r.los && (decide (r.state = .timingAcq) || decide (r.state = .converge) || decide (r.state = .locked))
  let err := Config.timingErr new r.corrected +
    (new.filterMap fun x => (known x.sym).map fun v => Config.pilotErr x v).sum
  let s := s.modRx p fun _ =>
    let q := { r'.eq with
      pilots := (errs.reverse ++ r.eq.pilots).take 64
      quiet := if r.state ≠ .converge then 0 else if m = 0 then r.eq.quiet else if quietCycle new then r.eq.quiet + 1 else 0 }
    let r' := { r' with
      eq := q
      diag := { r.diag with pilotErrors := satW 32 (r.diag.pilotErrors + (errs.filter id).length) } }
    if tracks then r'.track m err else r'
  let s := s.passBits p
  if r.frozenAdapt then s
  else s.modActive p fun c => adaptMask r rungs c
    (Config.lms (slowed rungs r.adaptK) c (r'.eq.refs known) r'.eq.recent r.corrected)

/-- A replay or deferred start reads the words of the ring that the next m symbols newly need (Table 11-3). Answers those that met
MEM_ERROR. -/
def State.replayRead (s : State) (p : Phys) (cursor : Nat) (j : EqJob) (m : Nat) : List Nat × State :=
  let next := (s.rxl p).eq.next
  let first := if next = j.first then next - 32 else next + BitVec.ofNat 48 cursor
  let last := next + BitVec.ofNat 48 (cursor + m - 1)
  let w := first.toNat % 4096 / 4
  let r := s.ringRead (arrFlipbook p) 1024 w ((last - first).toNat / 4 + 1) none
  (r.1.map fun i => (w + i) % 1024, r.2)

/-- A cycle of the main equaliser in SLOTTED and OPEN: it processes the payload that comes first, with the coefficients that burst
left if a later one has loaded the palette anew and with its own DGAIN, and adapts at the burst's step exponent under the freezes of
R44 (R80–R82, R89). Payloads are processed in order: one waits while an earlier burst waits for its portrait. -/
def State.equaliseBurst (s : State) (p : Phys) (n : Nat) : State :=
  let r := s.rxl p
  let rungs := s.rungsOf p
  match r.eq.jobs with
  | [] => s
  | j :: rest =>
    let kept : Option Coeffs := ((s.acl p).decoding.find? fun b => decide (b.firstPay = j.first)).bind (·.coeffs)
    let act := kept.getD r.active
    let behind := (s.acl p).bursts.takeWhile fun b => decide (b.firstPay ≠ j.first)
    let live := ((s.acl p).bursts.find? fun b => decide (b.firstPay = j.first)).all fun b => decide (b.lag = 0)
    let m := if behind.any (·.waiting) then 0 else r.jobDue j live n
    let x := if live ∨ m = 0 then ([], s) else s.replayRead p act.cursor j m
    let s := x.2
    let r : RxLane := { r with eq := { r.eq with zero := (x.1 ++ r.eq.zero).take 1024 } }
    let r' : RxLane := r.equalise act j.dgain rungs m
    let known (x : Sym) : Option Int := pilotAt (x - j.first).toNat
    let errs := (r'.eq.latest m).filterMap (knownErr known)
    let s := s.modRx p fun _ => { r' with
      diag := { r.diag with pilotErrors := satW 32 (r.diag.pilotErrors + (errs.filter id).length) } }
    let s :=
      if r.los ∨ r.coverFreeze ∨ r.swapFreeze ∨ m = 0 then s
      else
        let c := adaptMask r rungs act (Config.lms (slowed rungs j.k) act (r'.eq.refs known) r'.eq.recent r.corrected)
        if kept.isSome then s.modAcq p fun a => { a with decoding := a.decoding.map fun b =>
            if b.firstPay = j.first then { b with coeffs := some c } else b }
        else s.modActive p fun _ => c
    if r'.eq.next = j.last + 1 then s.modRx p fun r => r.setJobs rest else s

/-- ADAPTATION_UPDATE: the raw samples of one CK_DSP cycle. They are recorded and corrected, enter the estimator's statistics, and
the equaliser goes on (R30–R36, R41–R45). -/
def execAdaptationUpdate (p : Phys) (raw : Bytes) (s : State) : Host.Outcome State Fault Refusal :=
  let r := s.rxl p
  .next <|
    if r.state = .off then s
    else
      let raw := raw.take (qOf r.rate)
      let s := ((s.ringWrite p raw.length).modRx p fun r => r.record raw).countSamples p raw.length
      if r.state = .burst then (s.trainCold p raw.length).equaliseBurst p raw.length else s.equaliseCycle p

end Sys2Proof.Machine
end

