-- ==== Sys2Proof/Machine/Memory.lean ====
section
/-!
DEFINITION. Meanings of the memory rows: repairs, poisoning, scrubbing, remapping, and the MEM commands (chapter 11, Table
13-11).
-/
namespace Sys2Proof.Machine

/-! Arrays in idle cycles. -/

/-- REPAIR_WRITE (R334): the oldest repair due is written with new check bits. -/
def execRepairWrite (a : Arr) (s : State) : Host.Outcome State Fault Refusal :=
  .next <| match (s.arrOf a).repairs with
    | [] => s
    | (addr, d) :: rest => s.modArr a fun u =>
        { (u.putWord addr (encWord d)) with repairs := rest, repairedNow := u.repairedNow ++ [addr] }

/-- POISON_WRITE (R335); an uncorrectable word of a core's memory resets the core, and the word of an instruction memory is
refilled before the restart (R338). -/
def execPoisonWrite (a : Arr) (s : State) : Host.Outcome State Fault Refusal :=
  .next <| match (s.arrOf a).poisons with
    | [] => s
    | addr :: rest =>
      match tabGet (s.arrOf a).words addr with
      | none => s.modArr a fun u => { u with poisons := rest }
      | some w =>
        let s := s.modArr a fun u =>
          { (u.putWord addr (poisonWord w.bits)) with poisons := rest, ueCount := satW 32 (u.ueCount + 1) }
        let s := s.raiseMem .memUncorrectable a addr
        match arrCore a with
        | none => s
        | some c =>
          let s := s.coreFails c 2
          if (arrClass a).1 = 8 then s.refillCore c addr else s

/-- The end of a lap (R340). -/
def SramUnit.endLap (u : SramUnit) (now : Time) (us limitMs : Nat) : SramUnit :=
  { u with
    lastLap := satW 32 us, maxLap := max u.maxLap (satW 32 us), laps := satW 32 (u.laps + 1), poisonLap := satW 16 u.lapPoison,
    slow := u.slow && decide (limitMs * 1000 < us), late := false, scrubAddr := 0, lapStart := now, lapPoison := 0,
    repairedPrev := u.repairedNow, repairedNow := [], clearedPrev := u.clearedNow, clearedNow := [] }

/-- SCRUB_READ (R339, R340): one word is read; `flips` are the stored bits of it, and copies of its valid bit, that a disturbance has
inverted since it was last read. -/
def execScrubRead (a : Arr) (flips : BitVec 42) (s : State) : Host.Outcome State Fault Refusal :=
  let u := s.arrOf a
  .next <|
    if s.arrGated a ∨ ¬ s.scrubOn a then s
    else
      let addr := u.scrubAddr
      let s := ((s.disturb a addr flips).sramRead a addr true).2
      if addr + 1 < arrWords a then s.modArr a fun u => { u with scrubAddr := addr + 1 }
      else
        let us := s.usOf (s.since u.lapStart)
        s.modArr a fun u => u.endLap s.now us (s.lapLimit a)

/-- The lap in progress has reached LAP_LIMIT (R340). -/
def State.lapLate (s : State) (a : Arr) : Bool :=
  !s.arrGated a && s.scrubOn a && decide (1000 * s.lapLimit a ≤ s.usOf (s.since (s.arrOf a).lapStart))

/-- SCRUB_LAP_LIMIT (R340): once for each lap that reaches the limit. -/
def execScrubLapLimit (a : Arr) (s : State) : Host.Outcome State Fault Refusal :=
  .next <| if (s.arrOf a).late ∨ ¬ s.lapLate a then s
    else (s.modArr a fun u => { u with slow := true, late := true }).raiseMem .memScrubSlow a 0

/-- The word as it is copied to a spare word (R342). -/
def copiedWord (w : SWord) : SWord :=
  match classify w.bits with
  | .clean => w
  | .correctable d => { w with bits := encWord d }
  | _ => { w with bits := poisonWord w.bits }

/-- Answer the MEM.REMAP commands that waited for this address, and once the table is full those for any other (R343). -/
def State.answerRemap (s : State) (a : Arr) (addr : Nat) : State :=
  s.each (List.finRange 8) fun k s => match (s.sess k).cmd with
    | some c =>
      if c.code = 0x0E03 ∧ c.started ∧ fieldLE c.args 0 2 = arrId a then
        if fieldLE c.args 4 4 = addr then s.answer k 0x0E03 .ok 0 []
        else if (s.arrOf a).remapFull then s.answer k 0x0E03 .noResource 0 []
        else s
      else s
    | none => s

/-- REMAP_COPY (R342): the first idle cycle reads the word, the second writes the spare word and redirects the address. -/
def execRemapCopy (a : Arr) (s : State) : Host.Outcome State Fault Refusal :=
  let u := s.arrOf a
  .next <| match u.copying with
    | some (addr, w) =>
      let retire (r : Remap) : Remap := if r.addr = addr then { r with retired := true } else r
      let s := s.modArr a fun u =>
        let full := u.remapFull || decide (8 ≤ u.remaps.length + 1)
        let u := if w.valid then u.putWord addr (copiedWord w).bits else { u with words := tabSet u.words addr w }
        { u with
          remaps := u.remaps.map retire ++ [{ addr := addr, retired := false }], copying := none,
          qualified := if full then [] else u.qualified.filter fun x => decide (x ≠ addr), remapFull := full }
      let s := s.raiseMem .memRemapped a addr
      let s := if u.remapFull = false ∧ (s.arrOf a).remapFull then s.raiseMem .memRemapFull a addr else s
      s.answerRemap a addr
    | none =>
      match u.qualified with
      | [] => s
      | addr :: _ =>
        if 8 ≤ u.remaps.length then s
        else s.modArr a fun u => { u with copying := some (addr, u.wordAt addr) }

/-- REMAP_RECORD (R343): completed remaps are recorded in the flash, except those of the security cores' memories. -/
def execRemapRecord (a : Arr) (s : State) : Host.Outcome State Fault Refusal :=
  .next <|
    let secure : Bool := match arrCore a with
      | some c => decide (190 ≤ c.val)
      | none => false
    if secure then s
    else s.modFlash fun f =>
      let new := (((s.arrOf a).remaps.filter fun r => !r.retired).map fun r => (arrId a, r.addr)).filter fun x => !f.remapLog.contains x
      { f with remapLog := f.remapLog ++ new }

/-! Commands. -/

/-- An array of a lane under self-test, or any array during the memory and logic test (R345, R417). -/
def State.arrTested (s : State) (a : Arr) : Bool :=
  let c := arrClass a
  (match s.sec.test with | some t => decide (t.record.scope = 255) | none => false) ||
    (decide (c.1 = 3 ∨ c.1 = 4) && (s.ln (finOf 136 c.2)).selftest)

/-- MEM.GET_STATUS (R344): up to 20 records. -/
def execMemGetStatus (k : Sess) (s : State) : Host.Outcome State Fault Refusal :=
  .next <| s.runCmd 0x0E01 k fun a s =>
    let id := fieldLE a 0 2
    let first := fieldLE a 2 2
    let l : List Arr := if id = 0xFFFF then List.finRange 692 else (arrOfId id).toList
    s.guarded [(decide (l = []), badArg 0)] fun s =>
      let shown := (l.drop first).take 20
      let clear (u : SramUnit) : SramUnit := { u with ceCount := 0, ueCount := 0, ueReads := 0, maxLap := 0, laps := 0 }
      (s.statusReply (shown.any s.arrTested) (pageN [] 48 first 20 (l.map s.arrRecord)),
        if bitOf (byteAt a 4) 0 then s.each shown fun x s => s.modArr x clear else s)

/-- MEM.SET_SCRUB (R340): the privilege and lock conditions of SCRUB = 0 are checked with the doorbell. -/
def execMemSetScrub (k : Sess) (s : State) : Host.Outcome State Fault Refusal :=
  .next <| s.runCmd 0x0E02 k fun a s =>
    let c := byteAt a 0 - 1
    (replyOk, s.modSys fun u => { u with mem := { u.mem with
      scrub := u.mem.scrub.setIfInBounds c (decide (byteAt a 1 = 1)), lapLimit := u.mem.lapLimit.setIfInBounds c (fieldLE a 4 4) } })

/-- MEM.REMAP (R343): answered once the remap is complete. -/
def execMemRemap (k : Sess) (s : State) : Host.Outcome State Fault Refusal :=
  .next <| s.runCmd 0x0E03 k fun a s =>
    let addr := fieldLE a 4 4
    match arrOfId (fieldLE a 0 2) with
    | none => (badArg 0, s)
    | some x =>
      s.guarded
        [(decide (arrWords x ≤ addr), badArg 4), (s.arrTested x, s.busyTest),
          (!(s.arrOf x).remapped addr && decide (8 ≤ (s.arrOf x).remaps.length), refuse .noResource)]
        fun s => if (s.arrOf x).remapped addr then (replyOk, s) else (.later, s.modArr x (·.qualify addr))

/-- The bits that an injection inverts: bit i, and bit j unless it is 0xFF. -/
def injectMask (i j : Nat) : BitVec 39 := (1#39 <<< i) ||| (if j = 255 then 0 else 1#39 <<< j)

/-- MEM.INJECT (R345). -/
def execMemInject (k : Sess) (s : State) : Host.Outcome State Fault Refusal :=
  .next <| s.runCmd 0x0E04 k fun a s =>
    let addr := fieldLE a 4 4
    match arrOfId (fieldLE a 0 2) with
    | none => (badArg 0, s)
    | some x =>
      s.guarded [(decide (arrWords x ≤ addr), badArg 4), (s.arrTested x, s.busyTest)] fun s =>
        (replyOk, s.modArr x fun u => { u with
          inject := tabSet u.inject addr (((tabGet u.inject addr).getD 0) ^^^ injectMask (byteAt a 2) (byteAt a 3)) })

end Sys2Proof.Machine
end

