-- ==== Sys2Proof/Machine/Photonic.lean ====
section
/-!
DEFINITION. Meanings of the photonic rows: bias outputs, bias loops, monitor units, TRIG pins and filter channels
(chapter 8, Table 13-9).
-/
namespace Sys2Proof.Machine

/-! Bias outputs. -/

/-- BIAS.WRITE (R234, R235, R238, R240, R263). -/
def execBiasWrite (k : Sess) (s : State) : Host.Outcome State Fault Refusal :=
  .next <| s.runCmd 0x0801 k fun a s =>
    let o : Bias := finOf 544 (fieldLE a 0 2)
    let code := fieldLE a 2 2
    let b := s.bias o
    let above := s.photon.exceeds o (b.write code)
    let s := if ¬ s.biasTested o ∧ b.ranging.isNone ∧ b.fault = 0 ∧ ¬ b.owned ∧ above then s.raise .biasAggLimit o.val else s
    s.guarded
      [(s.biasTested o, s.busyTest), (b.ranging.isSome, refuse .busy), (decide (b.fault ≠ 0), refuse .badState),
        (b.owned, refuse .badState), (above, refuse .noResource),
        (decide (code < b.codeMin ∨ b.codeMax < code), badArg 2)]
      fun s => (replyOk, s.modBias o (·.write code))

/-- Limits in force: where they exclude the code in force, at the ball or held by the deglitcher, or the pending code, the
nearest limit is a new write (R234). -/
def BiasOut.setLimits (b : BiasOut) (lo hi : Nat) : BiasOut :=
  let b := { b with codeMin := lo, codeMax := hi }
  match ([b.code, b.applied] ++ b.pending.toList).find? fun c => decide (c < lo ∨ hi < c) with
  | some c => b.write (if c < lo then lo else hi)
  | none => b

/-- BIAS.SET_LIMITS (R234, R240, R263). -/
def execBiasSetLimits (k : Sess) (s : State) : Host.Outcome State Fault Refusal :=
  .next <| s.runCmd 0x0802 k fun a s =>
    let o : Bias := finOf 544 (fieldLE a 0 2)
    let b := (s.bias o).setLimits (fieldLE a 2 2) (fieldLE a 4 2)
    let above := s.photon.exceeds o b
    let s := if ¬ s.biasTested o ∧ ¬ (s.bias o).owned ∧ above then s.raise .biasAggLimit o.val else s
    s.guarded
      [(s.biasTested o, s.busyTest), ((s.bias o).owned, refuse .badState), (above, refuse .noResource)]
      fun s => (replyOk, s.modBias o fun _ => b)

/-- BIAS.SET_RANGE (R237, R240, R263): zero scale now, the answer at the end of the change. -/
def execBiasSetRange (k : Sess) (s : State) : Host.Outcome State Fault Refusal :=
  .next <| s.runCmd 0x0803 k fun a s =>
    let o : Bias := finOf 544 (fieldLE a 0 2)
    let range := byteAt a 2
    let b := s.bias o
    let moved := { b with code := 0, holding := none, pending := none, ranging := some { target := range, sess := some k } }
    s.guarded
      [(s.biasTested o, s.busyTest), (b.ranging.isSome, refuse .busy), (b.owned, refuse .badState),
        (decide (range = 1 ∨ range = 2) && s.photon.exceeds o moved, refuse .noResource)]
      fun s => (.later, (s.zeroBias o).modBias o fun b => { b with ranging := moved.ranging })

/-- BIAS.CLEAR_FAULT (R238): every latched condition must have cleared; `gone` says so of over-current and compliance. -/
def execBiasClearFault (k : Sess) (gone : Bool) (s : State) : Host.Outcome State Fault Refusal :=
  .next <| s.runCmd 0x0804 k fun a s =>
    let o : Bias := finOf 544 (fieldLE a 0 2)
    let b := s.bias o
    let present := b.latched.any fun f => if f = 3 then s.sys.pins.biasLow else !gone
    s.guarded [(s.biasTested o, s.busyTest), (present, refuse .badState)]
      fun s => (replyOk, if b.fault = 0 then s else (s.modBias o fun b => { b with
        fault := 0, moreFaults := [], code := 0, holding := none, pending := none,
        loop := b.loop.map fun l => if l.state = .frozen then { l with state := .off, freezes := [] } else l }).schedule (monOfBias o))

/-- BIAS.SET_SAFE (R239): SAFE_CODE lies within the output's limits. -/
def execBiasSetSafe (k : Sess) (s : State) : Host.Outcome State Fault Refusal :=
  .next <| s.runCmd 0x0805 k fun a s =>
    let v := fieldLE a 0 2
    let code := fieldLE a 2 2
    let all := decide (v = 0xFFFF)
    let l := selAll 544 v
    s.forAllSel all l
      (fun o =>
        if s.biasTested o then some s.busyTest
        else if code < (s.bias o).codeMin ∨ (s.bias o).codeMax < code then some (badArg 2) else none)
      (fun o s => s.modBias o fun b => { b with safeCode := code })

/-- BIAS.SET_AGG_LIMIT (R240). -/
def execBiasSetAggLimit (k : Sess) (s : State) : Host.Outcome State Fault Refusal :=
  .next <| s.runCmd 0x0806 k fun a s => (replyOk, s.modPhoton fun u => { u with aggLimit := fieldLE a 0 2 })

/-- BIAS.GET_STATUS (R241). -/
def execBiasGetStatus (k : Sess) (s : State) : Host.Outcome State Fault Refusal :=
  .next <| s.runCmd 0x0807 k fun a s =>
    let first := fieldLE a 0 2
    let count := fieldLE a 2 2
    let shown := (biasAll.drop first).take count
    (s.statusReply (shown.any s.biasTested) (pageN [] 16 first count (biasAll.map s.biasRecord)), s)

/-- Parameters of a loop as BIAS.SET_LOOP gives them (Table 8-8, Table 13-9). -/
def loopParams (a : Bytes) : LoopParams :=
  { chan := fieldLE a 2 2, slot := fieldLE a 4 2, gain := byteAt a 6, filter := decide (byteAt a 7 = 1), fch := byteAt a 8,
    d := fieldLE a 10 2, h := fieldLE a 12 2, a := fieldLE a 14 2, target := toSigned 24 (fieldLE a 16 3),
    k := fieldLE a 20 2, stepMax := fieldLE a 22 2, lockThresh := fieldLE a 24 4, lockCount := byteAt a 28 }

/-- Two parameter sets differ at most in what may change under a running loop (R263). -/
def LoopParams.sameFixed (p q : LoopParams) : Bool :=
  decide ({ p with target := q.target, k := q.k, stepMax := q.stepMax, a := q.a, lockThresh := q.lockThresh } = q)

/-- The parameters a stopped loop would start with: the ones accepted last (R263). -/
def BiasLoop.latest (l : BiasLoop) : LoopParams := l.newParams.getD l.params

/-- BIAS.SET_LOOP (R260, R263). CHAN is one that the unit of the output's own bank reaches, paired or not. -/
def execBiasSetLoop (k : Sess) (s : State) : Host.Outcome State Fault Refusal :=
  .next <| s.runCmd 0x0808 k fun a s =>
    let o : Bias := finOf 544 (fieldLE a 0 2)
    let p := loopParams a
    let b := s.bias o
    let u := monOfBias o
    let same := match b.loop with | some l => LoopParams.sameFixed p l.params | none => false
    s.guarded
      [(s.biasTested o || s.chanTested p.chan, s.busyTest), (b.owned && !same, refuse .badState),
        (p.filter && s.fchTaken p.fch (some o) none, refuse .noResource),
        (decide (b.range = 0), badArg 0), (decide (chanReach p.chan ≠ .bank u.val), badArg 2),
        (decide ((s.mon u).frame ≤ p.slot), badArg 4), (decide (p.h * (s.mon u).frame < 25), badArg 12)]
      fun s => (replyOk, s.modBias o fun b => { b with loop := match b.loop with
        | some l => if b.owned then some { l with newParams := some p } else some { l with params := p, newParams := none }
        | none => some { params := p } })

/-- Freeze conditions in force for the loops of a lane (R262). -/
def State.laneFreezes (s : State) (p : Phys) : List FreezeCause :=
  (if s.tripped then [.trip] else []) ++
  (if (s.ln p).power = .doze ∨ (s.ln p).power = .off then [.lanePower] else []) ++
  (if (s.ln p).resetting then [.laneReset] else []) ++
  (if (s.rxl p).coverFreeze then [.cover] else []) ++ (if (s.rxl p).swapFreeze then [.imageSwap] else [])

/-- Start a loop (R261, Table 8-9): the centre is the code in force, clamped. -/
def State.startLoop (s : State) (o : Bias) : State :=
  let b := s.bias o
  let p := s.laneFreezes (laneOfBias o)
  match b.loop with
  | none => s
  | some l =>
    let q := l.latest
    let centre := clampI ((b.codeMin : Int) + q.a) ((b.codeMax : Int) - q.a) b.code
    let started : BiasLoop := { params := q, state := .settle, centre := centre, nextCentre := centre, halfSamples := q.h }
    let s := s.modBias o fun b => { b with loop := some started }
    s.each p fun c s => s.freezeLoop o c

/-- A loop stops and writes its centre (Table 8-9, R263), and its slot is free for a waiting conversion (R248); under SAFE_CODE the
recovery brings the centre (R280). -/
def State.stopLoop (s : State) (o : Bias) : State :=
  let b := s.bias o
  let centre := match b.loop with | some l => l.nextCentre.toNat | none => 0
  let s := if b.safe.isSome then s else s.loopWrite o centre
  (s.modBias o fun b => { b with loop := b.loop.map fun l => { l with state := .off, freezes := [] } }).schedule (monOfBias o)

/-- BIAS.LOOP_CTRL (R260–R263). -/
def execBiasLoopCtrl (k : Sess) (s : State) : Host.Outcome State Fault Refusal :=
  .next <| s.runCmd 0x0809 k fun a s =>
    let o : Bias := finOf 544 (fieldLE a 0 2)
    let b := s.bias o
    let u := monOfBias o
    match byteAt a 2 with
    | 0 =>
      let p := match b.loop with | some l => l.latest | none => { chan := 0, slot := 0 }
      s.guarded
        [(s.biasTested o, s.busyTest), (b.ranging.isSome, refuse .busy),
          (b.owned || b.loop.isNone || (s.mon u).paired || decide (b.range = 0 ∨ b.fault ≠ 0), refuse .badState),
          (decide (p.slot ∈ s.loopSlots u) || decide (3 * (s.mon u).frame / 4 ≤ (s.loopSlots u).length) ||
            (p.filter && s.fchTaken p.fch (some o) none), refuse .noResource),
          (decide (b.codeMax - b.codeMin < 2 * p.a ∨ (s.mon u).frame ≤ p.slot ∨ p.h * (s.mon u).frame < 25), badArg 0),
          (p.filter && decide ((s.flt (finOf 64 p.fch)).mode ≠ 2 ∨ 2 ^ (s.flt (finOf 64 p.fch)).m ≠ p.d), badArg 0)]
        fun s => (replyOk, s.startLoop o)
    | n =>
      s.guarded [(s.biasTested o, s.busyTest), (!b.owned, refuse .badState)]
        fun s => (replyOk,
          if n = 1 then s.freezeLoop o .hold
          else if n = 2 then s.thawLoop o .hold
          else s.stopLoop o)

/-- BIAS_CODE_APPLY: the pending code is applied (R235, R236). -/
def execBiasCodeApply (o : Bias) (s : State) : Host.Outcome State Fault Refusal :=
  let b := s.bias o
  .next <| match b.pending with
    | some n => if b.ranging.isSome ∨ b.holding.isSome ∨ b.fault ≠ 0 then s
        else (s.applyBias o n).modBias o fun b => { b with pending := none }
    | none => s

/-- DEGLITCH_STEP: the ball steps to the held code (R236). -/
def execDeglitchStep (o : Bias) (s : State) : Host.Outcome State Fault Refusal :=
  .next <| match (s.bias o).holding with
    | some n => s.stepBall o n
    | none => s

/-- The next range change of a self-test begins (R416). -/
def State.nextRange (s : State) (o : Bias) : State :=
  match (s.bias o).ranges with
  | c :: rest => (s.modBias o fun b => { b with ranges := rest }).moveRange o c
  | [] => s

/-- RANGE_CHANGE_DONE: code 0 in the new range (R237); a code written meanwhile stays pending (R235). The supply gate keeps range
OFF (R451). After a self-test the output returns to its code through the deglitcher, but not while a fault is latched (R238, R416). -/
def execRangeChangeDone (o : Bias) (s : State) : Host.Outcome State Fault Refusal :=
  .next <| match (s.bias o).ranging with
    | none => s
    | some r =>
      let s := s.modBias o fun b => { b with
        range := if s.sys.pins.supplyGate then 0 else r.target, ranging := none, code := 0, holding := none }
      let s := s.raise .biasRangeDone o.val
      let s := s.answerOpt r.sess 0x0803 .ok 0 []
      let s := match r.code with
        | some n => if (s.bias o).fault = 0 ∧ (s.bias o).range ≠ 0 then s.applyBias o n else s
        | none => s
      s.nextRange o

/-- BIAS_FAULT: over-current in a voltage range, compliance in a current range (Table 8-2), during a change that of the
range it leads to (R237); an urgent source (R246). -/
def execBiasFault (o : Bias) (s : State) : Host.Outcome State Fault Refusal :=
  let r := match (s.bias o).ranging with
    | some c => if c.target = 0 then (s.bias o).range else c.target
    | none => (s.bias o).range
  .next <|
    if r = 0 then s
    else
      let kind := if r ≤ 2 then 1 else 2
      ((s.latchFault o kind).raise .biasFault o.val kind).urgent 3 o.val

/-- BIAS_SUPPLY_LOW: VDD_BIAS falls below 3.3 V, or returns (Table 8-2). -/
def execBiasSupplyLow (low : Bool) (s : State) : Host.Outcome State Fault Refusal :=
  .next <|
    let s := s.modPins fun p => { p with biasLow := low }
    if low then
      (s.each biasAll fun o s => (s.latchFault o 3).urgent 3 o.val).raise .biasSupply 0xFFFF
    else s

/-- SUPPLY_GATE: while VDD_BIAS is present with VDD_AON or VDD_ANA below 90 %, every output is in range OFF (R451). `aonLost`: VDD_AON is
lost, which resets the always-on domain (R299). -/
def execSupplyGate (on aonLost : Bool) (s : State) : Host.Outcome State Fault Refusal :=
  .next <|
    let s := s.modPins fun p => { p with supplyGate := on }
    let s := if on ∧ aonLost then s.aonLost else s
    if on then s.each biasAll fun o s => (s.zeroBias o).modBias o fun b => { b with range := 0 }
    else s

/-! Loops. -/

/-- DITHER_HALF_PERIOD: after H loop samples, and at the start of the dither, the boundary takes a new centre and writes centre
plus or minus A (R260, R261). -/
def execDitherHalfPeriod (o : Bias) (s : State) : Host.Outcome State Fault Refusal :=
  .next <| match (s.bias o).loop with
    | none => s
    | some l =>
      if l.state = .off ∨ l.state = .frozen ∨ l.halfSamples < l.params.h then s
      else
        let pos := !l.positive
        let s := s.modBias o fun b => { b with loop := some { l with centre := l.nextCentre, positive := pos, halfSamples := 0 } }
        s.loopWrite o (if pos then l.nextCentre + l.params.a else l.nextCentre - l.params.a).toNat

/-- The step of R261: the next centre and whether it lies on a limit. -/
def loopStep (p : LoopParams) (lo hi : Nat) (centre demod : Int) : Int × Bool × Int :=
  let e := clampI (-(16 * p.lockThresh : Nat)) (16 * p.lockThresh : Nat) (demod - p.target)
  let delta := clampI (-(p.stepMax : Int)) p.stepMax (roundDiv (p.k * e) 65536)
  let c := clampI ((lo : Int) + p.a) ((hi : Int) - p.a) (centre + delta)
  (c, decide (c = (lo : Int) + p.a ∨ c = (hi : Int) - p.a), e)

/-- The state row of Table 8-9 after an update with error `e`: SETTLE to LOCKED and back, then RAIL. -/
def BiasLoop.judge (l : BiasLoop) (e : Int) (rail : Bool) : BiasLoop × List Ev :=
  let inside := decide (e.natAbs < l.params.lockThresh)
  let l := { l with within := if inside then l.within + 1 else 0, outside := if inside then 0 else l.outside + 1,
                    railed := if rail then l.railed + 1 else 0 }
  let n := l.params.lockCount
  let r : BiasLoop × List Ev :=
    match l.state with
    | .settle => if n ≤ l.within then ({ l with state := .locked, outside := 0 }, [.biasLoopLock]) else (l, [])
    | .locked => if n ≤ l.outside then ({ l with state := .settle, within := 0 }, [.biasLoopUnlock]) else (l, [])
    | .rail => if rail then (l, []) else ({ l with state := .settle, within := 0, outside := 0 }, [])
    | _ => (l, [])
  if (r.1.state = .settle ∨ r.1.state = .locked) ∧ n ≤ r.1.railed then
    ({ r.1 with state := .rail, railed := 0 }, r.2 ++ [.biasLoopRail])
  else r

/-- LOOP_UPDATE: after D loop samples (R261, Table 8-9). -/
def execLoopUpdate (o : Bias) (s : State) : Host.Outcome State Fault Refusal :=
  let b := s.bias o
  .next <| match b.loop with
    | none => s
    | some l =>
      if l.state = .off ∨ l.state = .frozen ∨ l.samples < l.params.d then s
      else
        let l := match l.newParams with | some p => { l with params := p, newParams := none } | none => l
        let demod := if l.params.filter then (s.flt (finOf 64 l.params.fch)).output
          else roundDiv (2048 * l.acc) l.params.d
        let r := loopStep l.params b.codeMin b.codeMax l.nextCentre demod
        let j := BiasLoop.judge { l with nextCentre := r.1, acc := 0, samples := 0 } r.2.2 r.2.1
        let s := s.modBias o fun b => { b with loop := some j.1 }
        s.each j.2 fun e s => s.raise e o.val

/-! Monitor units. -/

/-- A unit whose pair ends goes on with its sequences; a CONT sequence loaded meanwhile starts (R243). -/
def State.resumeMon (s : State) (u : Mon) : State :=
  let s := if (s.mon u).reg.heldStart then s.regularRun u else s
  s.schedule u

/-- MON.SET_PAIR (R243): the upper unit's sequences wait while the pair lasts; a conversion in progress ends. -/
def execMonSetPair (k : Sess) (s : State) : Host.Outcome State Fault Refusal :=
  .next <| s.runCmd 0x0901 k fun a s =>
    let lo : Mon := finOf 8 (2 * byteAt a 0)
    let hi : Mon := finOf 8 (2 * byteAt a 0 + 1)
    let on := decide (byteAt a 1 = 1)
    s.guarded [(decide (s.loopSlots lo ≠ [] ∨ s.loopSlots hi ≠ []), refuse .badState)]
      fun s =>
        let s := (s.modMon lo fun m => { m with paired := on }).modMon hi fun m => { m with paired := on }
        (replyOk, if on then s else s.resumeMon hi)

/-- A sequence entry from its word (Table 8-6). -/
def seqEntry (w : Nat) : SeqEntry :=
  { chan := bitsOf w 10 0, gain := bitsOf w 12 11, repeats := bitsOf w 18 13 + 1,
    fch := if bitOf w 25 then some (bitsOf w 24 19) else none }

/-- Entries of a MON.SET_SEQ. -/
def seqEntries (a : Bytes) : List SeqEntry := (List.range (byteAt a 2)).map fun i => seqEntry (fieldLE a (12 + 4 * i) 4)

/-- An entry's filter channel is taken by a loop, by an entry of another sequence, or by another entry of this one (R254). -/
def State.seqTaken (s : State) (es : List SeqEntry) (u : Mon) (inj : Bool) : Bool :=
  let l := es.filterMap (·.fch)
  l.any (fun c => s.fchTaken c none (some (u, inj))) || decide (l.eraseDups ≠ l)

/-- MON.SET_SEQ (R244–R246, R253, R395). -/
def execMonSetSeq (k : Sess) (s : State) : Host.Outcome State Fault Refusal :=
  .next <| s.runCmd 0x0902 k fun a s =>
    let u : Mon := finOf 8 (byteAt a 0)
    let inj := decide (byteAt a 1 = 1)
    let es := seqEntries a
    let m := s.mon u
    let cur := if inj then m.inj else m.reg
    let pin : Option Pin := if byteAt a 4 < 8 then some (finOf 8 (byteAt a 4)) else none
    let idx := fieldLE a 8 2
    let urgent := byteAt a 6
    let badIdx := inj && (
      (decide (urgent = 1 ∨ urgent = 2) && decide (idx / 17 ≠ u.val)) || (decide (urgent = 3) && decide (idx / 4 / 17 ≠ u.val)))
    s.guarded
      [(es.any fun e => s.chanTested e.chan, s.busyTest), (cur.running.isSome, refuse .busy),
        (match pin with | some p => decide ((s.photon.pins[p.val]).mode = .output) | none => false, refuse .badState),
        (s.seqTaken es u inj, refuse .noResource),
        (es.any (fun e => !s.reaches u e.chan), badArg (12 + 4 * (es.findIdx (fun e => !s.reaches u e.chan)))),
        (badIdx, badArg 8)]
      fun s =>
        let q : MonSeq := { cur with
          entries := es, mode := if inj then 2 else byteAt a 3, pin := pin, edge := byteAt a 5,
          urgent := if inj then urgent else 0, urgentIdx := idx, notify := bitOf (byteAt a 7) 0, running := none,
          restart := false, pending := false, stopping := false, heldStart := !inj && decide (byteAt a 3 = 0) && s.suspended u }
        let s := s.modMon u fun m => if inj then { m with inj := q, injRes := Vector.replicate 4 {} }
          else { m with reg := q, regRes := Vector.replicate 32 {} }
        (replyOk, if ¬ inj ∧ q.mode = 0 ∧ ¬ s.suspended u then (s.regularRun u).schedule u else s)

/-- MON.START: one SOFT run (R245). -/
def execMonStart (k : Sess) (s : State) : Host.Outcome State Fault Refusal :=
  .next <| s.runCmd 0x0903 k fun a s =>
    let u : Mon := finOf 8 (byteAt a 0)
    let m := s.mon u
    s.guarded
      [(m.reg.running.isSome, refuse .busy), (decide (m.reg.entries = [] ∨ m.reg.mode ≠ 2) || s.suspended u, refuse .badState)]
      fun s => (replyOk, (s.regularRun u).schedule u)

/-- MON.STOP: the regular sequence ends after the conversion in progress (R245). -/
def execMonStop (k : Sess) (s : State) : Host.Outcome State Fault Refusal :=
  .next <| s.runCmd 0x0904 k fun a s =>
    let u : Mon := finOf 8 (byteAt a 0)
    (replyOk, s.modMon u fun m =>
      if m.busy = some .regular then { m with reg := { m.reg with stopping := true, pending := false } }
      else { m with reg := { m.reg with running := none, restart := false, pending := false, heldStart := false } })

/-- MON.INJECT: an urgent source of the unit's injected sequence (R246). -/
def execMonInject (k : Sess) (s : State) : Host.Outcome State Fault Refusal :=
  .next <| s.runCmd 0x0905 k fun a s =>
    let u : Mon := finOf 8 (byteAt a 0)
    s.guarded [(decide ((s.mon u).inj.entries = []) || s.suspended u, refuse .badState)]
      fun s => (replyOk, s.injectTrigger u)

/-- The data of a MON.READ_CHANNEL response. -/
def convBytes (x : Nat × Bool × Time) : Bytes := leBytes 2 x.1 ++ leBytes 1 x.2.1.toNat ++ zeros 1 ++ leBytes 8 x.2.2.toNat

/-- MON.READ_CHANNEL: one ad-hoc conversion, answered when it ends (R250). For a tested lane's channel there is none: the answer is
STALE with the last code converted, or 0 (Table 14-8). -/
def execMonReadChannel (k : Sess) (s : State) : Host.Outcome State Fault Refusal :=
  .next <| s.runCmd 0x0906 k fun a s =>
    let u : Mon := finOf 8 (byteAt a 0)
    let chan := fieldLE a 2 2
    s.guarded [(!s.reaches u chan, badArg 2),
        (s.chanTested chan, s.statusReply true (convBytes ((tabGet s.photon.lastConv chan).getD (0, false, 0))))]
      fun s => (.later, (s.modMon u fun m => { m with
        adhoc := m.adhoc ++ [{ sess := some k, chan := fieldLE a 2 2, gain := byteAt a 1 }] }).schedule u)

/-- MON_READ_CHANNEL_TIMEOUT: no free period within 100 µs (R250). -/
def execMonReadChannelTimeout (u : Mon) (k : Sess) (s : State) : Host.Outcome State Fault Refusal :=
  .next <|
    if (s.mon u).adhoc.any (fun x => decide (x.sess = some k)) ∧ ((s.mon u).busy ≠ some .adhoc ∨
        ((s.mon u).adhoc.head?.map (·.sess)) ≠ some (some k)) then
      (s.modMon u fun m => { m with adhoc := m.adhoc.filter (fun x => decide (x.sess ≠ some k)) }).answer k 0x0906 .timeout 0 []
    else s

/-- MON.SET_FRAME (R247). -/
def execMonSetFrame (k : Sess) (s : State) : Host.Outcome State Fault Refusal :=
  .next <| s.runCmd 0x0907 k fun a s =>
    let u : Mon := finOf 8 (byteAt a 0)
    s.guarded [(decide (s.loopSlots u ≠ []), refuse .badState)]
      fun s => (replyOk, s.modMon u fun m => { m with frame := fieldLE a 2 2, lastSlot := none })

/-- NEW of every result register of a unit is cleared. -/
def MonUnit.clearNew (m : MonUnit) : MonUnit :=
  { m with regRes := m.regRes.map fun r => { r with new := false }, injRes := m.injRes.map fun r => { r with new := false } }

/-- MON.READ_RESULTS (R252). -/
def execMonReadResults (k : Sess) (s : State) : Host.Outcome State Fault Refusal :=
  .next <| s.runCmd 0x0908 k fun a s =>
    let u : Mon := finOf 8 (byteAt a 0)
    (s.statusReply (s.monTested u) ((s.resultWords u).flatMap (leBytes 4)), s.modMon u (·.clearNew))

/-- The record MON.GET_STATUS answers (R252). -/
def State.monRecord (s : State) (u : Mon) : Bytes :=
  let m := s.mon u
  leBytes 1 u.val ++ leBytes 1 (packBits [(1, m.paired.toNat), (2, m.reg.mode)]) ++ leBytes 2 m.frame ++
    leBytes 2 (s.loopSlots u).length ++ zeros 2 ++ leBytes 4 m.reg.runs.toNat ++ leBytes 4 m.inj.runs.toNat ++
    leBytes 2 m.reg.lost ++ leBytes 2 m.inj.lost ++ leBytes 4 (satW 32 m.overranges) ++ zeros 8

/-- MON.GET_STATUS (R252): lost-trigger counts clear on read. -/
def execMonGetStatus (k : Sess) (s : State) : Host.Outcome State Fault Refusal :=
  .next <| s.runCmd 0x0909 k fun a s =>
    let u : Mon := finOf 8 (byteAt a 0)
    (replyOk (s.monRecord u), s.modMon u fun m => { m with reg := { m.reg with lost := 0 }, inj := { m.inj with lost := 0 } })

/-- A pin triggers some sequence. -/
def State.pinUsed (s : State) (p : Pin) : Bool :=
  (List.finRange 8).any fun u => decide ((s.mon u).reg.pin = some p ∨ (s.mon u).inj.pin = some p)

/-- MON.SET_PIN (R253): a mode changes only through UNUSED; a pin that keeps its mode may get a new source. -/
def execMonSetPin (k : Sess) (s : State) : Host.Outcome State Fault Refusal :=
  .next <| s.runCmd 0x090A k fun a s =>
    let p : Pin := finOf 8 (byteAt a 0)
    let mode : PinMode := match byteAt a 1 with | 0 => .unused | 1 => .input | _ => .output
    let cur := (s.photon.pins[p.val]).mode
    let arg := fieldLE a 4 2
    let badSrc := decide (mode = .output) && (match byteAt a 2 with
      | 0 => !(Ev.all.any fun e => decide (e.id = arg))
      | 1 => decide (8 ≤ arg)
      | _ => decide (544 ≤ arg))
    s.guarded
      [(decide (mode = .output ∧ byteAt a 2 = 2 ∧ arg < 544) && s.biasTested (finOf 544 arg), s.busyTest),
        (decide (cur ≠ .unused ∧ mode ≠ .unused ∧ cur ≠ mode), refuse .badState),
        (decide (mode = .output) && s.pinUsed p, refuse .badState), (badSrc, badArg 4)]
      fun s => (replyOk, s.modPhoton fun u => { u with pins := vupd u.pins p fun _ =>
        { mode := mode, source := byteAt a 2, arg := arg, width := fieldLE a 6 2,
          high := decide (mode = .output ∧ byteAt a 2 = 2) && match (s.bias (finOf 544 arg)).loop with
            | some l => l.reference
            | none => false } })

/-- The output whose running loop holds a slot of a unit. -/
def State.slotLoop (s : State) (u : Mon) (slot : Nat) : Option Bias :=
  biasAll.find? fun o => decide (monOfBias o = u) && match (s.bias o).loop with
    | some l => decide (l.state ≠ .off ∧ l.params.slot = slot)
    | none => false

/-- A due trim of the internal reference is applied when every monitor unit is at a frame boundary (Table 9-8). -/
def State.refTrim (s : State) : State :=
  if (List.finRange 8).all fun u => decide ((s.mon u).lastSlot = some (0, s.now)) then
    s.modTherm fun t => { t with trimRef := t.trimRef.take }
  else s

/-- LOOP_SLOT_START: a loop conversion starts at its slot time, ahead of every waiting conversion (R247, R248); no conversion that
R248 lets start is in progress then, and an ad-hoc or loop conversion is never aborted. In a slot without a loop a waiting conversion
may start. -/
def execLoopSlotStart (u : Mon) (slot : Nat) (s : State) : Host.Outcome State Fault Refusal :=
  .next <|
    if s.monStopped then s
    else
      let s := (s.modMon u fun m => { m with lastSlot := some (slot, s.now), sinceSlot := 0 }).refTrim
      match s.slotLoop u slot, (s.mon u).busy with
      | none, _ => s.schedule u
      | some _, some .adhoc => s
      | some _, some (.loop _ _) => s
      | some o, _ =>
        let sign := match (s.bias o).loop with | some l => l.reference | none => false
        s.modMon u fun m => { m with busy := some (.loop o sign) }

/-- code = ⌊4,096 × V × G / 1.25 V⌋ before saturation, V in nV (R244). -/
def convCode (nV gain : Nat) : Nat := 4096 * nV * 2 ^ gain / 1250000000

/-- A loop sample (R261, R262): judge OVERRANGE, in FROZEN too, then demodulate it and feed its filter channel. The sample at which a
freeze begins is ignored with the later ones: the freeze prevails (R262). -/
def State.loopSample (s : State) (o : Bias) (sign : Bool) (code : Nat) (above : Bool) : State :=
  match (s.bias o).loop with
  | none => s
  | some l =>
    let n := if above then l.overruns + 1 else 0
    let s := s.modBias o fun b => { b with loop := b.loop.map fun l => { l with overruns := n } }
    let s := if n = 0 then s.thawLoop o .overrange else s
    let s := if 4 ≤ n then s.freezeLoop o .overrange else s
    if l.state = .frozen ∨ l.state = .off then s
    else
      let s := s.modBias o fun b => { b with loop := b.loop.map fun l =>
        { l with acc := l.acc + (if sign then (code : Int) else -(code : Int)), samples := l.samples + 1,
                 halfSamples := l.halfSamples + 1 } }
      if l.params.filter then s.feedLoop l.params.fch code sign else s

/-- DEVICE_TIME of the sample instant of the conversion that ends now: 28 ns ago (R244). -/
def State.sampleInstant (s : State) : Time := s.now - BitVec.ofNat 64 ((28 * s.mgmtMHz + 999999999999) / 1000000000000)

/-- Keep a conversion of a channel: of an output's sense channel also for its record (Table 8-4). -/
def State.keepSense (s : State) (chan code : Nat) (above : Bool) : State :=
  let s := s.modPhoton fun u => { u with lastConv := tabSet u.lastConv chan (code, above, s.sampleInstant) }
  if 0x200 ≤ chan ∧ chan < 0x420 then s.modBias (finOf 544 (chan - 0x200)) fun b => { b with sense := code } else s

/-- Count an OVERRANGE result (R252). -/
def State.countOver (s : State) (u : Mon) (above : Bool) : State :=
  if above then (s.modMon u fun m => { m with overranges := satW 32 (m.overranges + 1) }).raise .monOverrange (monSrc u) else s

/-- A new result at a window target: the word an interface has fetched from there shows an older one (R361). -/
def IndWindow.renew (t : IndTarget) (w : IndWindow) : IndWindow :=
  { w with word := w.word.map fun f => { f with renewed := f.renewed || decide (indTarget f.addr = t) } }

/-- A new result of a unit at an offset of its block. -/
def State.resultWritten (s : State) (u : Mon) (off : Nat) : State :=
  (s.modWindow .spi (·.renew (.results u off))).modWindow .smb (·.renew (.results u off))

/-- The position after a conversion of an entry: its next conversion, the next entry, or the end of the run. -/
def MonSeq.advance (q : MonSeq) : Option (Nat × Nat) :=
  match q.running with
  | none => none
  | some (e, r) =>
    let rep := match q.entries[e]? with | some x => x.repeats | none => 1
    if r + 1 < rep then some (e, r + 1) else if e + 1 < q.entries.length then some (e + 1, 0) else none

/-- The end of an injected conversion (R244, R246, R249). -/
def State.injDone (s : State) (u : Mon) (nV : Nat) : State :=
  let q := (s.mon u).inj
  match q.running with
  | none => s
  | some (e, r) =>
    match q.entries[e]? with
    | none => s.modMon u fun m => { m with inj := { m.inj with running := none } }
    | some x =>
      let raw := convCode nV x.gain
      let code := min raw 4095
      let above := decide (4095 < raw)
      let s := if s.chanTested x.chan then s else
        let word : MonResult := { code := code, valid := true, overrange := above, run := q.runs.setWidth 8, new := true }
        ((s.modMon u fun m => { m with injRes := m.injRes.setIfInBounds e word }).keepSense x.chan code above).resultWritten u (0x80 + 4 * e)
      let s := match x.fch with | some c => s.feedEntry c code (decide (r = 0)) (decide (x.repeats ≤ r + 1)) | none => s
      let s := s.countOver u above
      match q.advance with
      | some pos => s.modMon u fun m => { m with inj := { m.inj with running := some pos } }
      | none =>
        (s.modMon u fun m => { m with inj := { m.inj with
          runs := m.inj.runs + 1, running := if m.inj.pending then some (0, 0) else none, pending := false } }).raise
          .monInjDone (monSrc u)

/-- The end of a regular conversion (R244, R245, R249, R251). -/
def State.regDone (s : State) (u : Mon) (nV : Nat) : State :=
  let q := (s.mon u).reg
  match q.running with
  | none => s
  | some (e, r) =>
    match q.entries[e]? with
    | none => s.modMon u fun m => { m with reg := { m.reg with running := none } }
    | some x =>
      let raw := convCode nV x.gain
      let code := min raw 4095
      let above := decide (4095 < raw)
      let lastRep := decide (x.repeats ≤ r + 1)
      let s := if s.chanTested x.chan then s else
        let word : MonResult := { code := code, valid := true, overrange := above, restarted := q.restart,
                                  run := q.runs.setWidth 8, new := true }
        ((s.modMon u fun m => { m with regRes := m.regRes.setIfInBounds e word }).keepSense x.chan code above).resultWritten u (4 * e)
      let s := match x.fch with | some c => s.feedEntry c code (decide (r = 0)) lastRep | none => s
      let s := s.countOver u above
      let s := if lastRep then s.modMon u fun m => { m with reg := { m.reg with restart := false } } else s
      match q.advance with
      | some pos => s.modMon u fun m => { m with reg := { m.reg with
          running := if q.stopping then none else some pos, stopping := false, restart := m.reg.restart && !q.stopping } }
      | none =>
        let s := s.modMon u fun m => { m with reg := { m.reg with runs := m.reg.runs + 1, running := none, stopping := false } }
        let s := if q.notify then s.raise .monSeqDone (monSrc u) else s
        if q.stopping then s
        else if q.mode = 0 then s.regularRun u
        else if q.pending then (s.modMon u fun m => { m with reg := { m.reg with pending := false } }).regularRun u
        else s

/-- CONVERSION_DONE: the conversion in progress ends at a converter input of `nV` nanovolts, and the next waiting one
starts (R244, R248–R251, R254, R261). -/
def execConversionDone (u : Mon) (nV : Nat) (s : State) : Host.Outcome State Fault Refusal :=
  let m := s.mon u
  .next <| match m.busy with
    | none => s
    | some c =>
      if s.monStopped then s
      else
      let s := s.modMon u fun m => { m with busy := none, sinceSlot := m.sinceSlot + 1 }
      let s := match c with
        | .loop o sign =>
          let p := match (s.bias o).loop with | some l => l.params | none => { chan := 0, slot := 0 }
          let raw := convCode nV p.gain
          ((s.loopSample o sign (min raw 4095) (decide (4095 < raw))).keepSense p.chan (min raw 4095) (decide (4095 < raw))).countOver u
            (decide (4095 < raw))
        | .injected => s.injDone u nV
        | .regular => s.regDone u nV
        | .adhoc => match m.adhoc with
          | [] => s
          | x :: r =>
            let raw := convCode nV x.gain
            let above := decide (4095 < raw)
            let s := (s.modMon u fun m => { m with adhoc := r }).keepSense x.chan (min raw 4095) above
            let s := s.countOver u above
            let data := convBytes (min raw 4095, above, s.sampleInstant)
            if s.chanTested x.chan then s.answerOpt x.sess 0x0906 .stale s.testRemaining data
            else s.answerOpt x.sess 0x0906 .ok 0 data
      s.schedule u

/-- An edge suits a sequence's EDGE setting: 0 rising, 1 falling, 2 both (Table 13-9). -/
def edgeSuits (edge : Nat) (rising : Bool) : Bool := decide (edge = 2) || decide (edge = 0) == rising

/-- TRIG_EDGE: a recognised edge of an INPUT pin; an injected sequence goes before a regular one (R251). -/
def execTrigEdge (pin : Pin) (rising : Bool) (s : State) : Host.Outcome State Fault Refusal :=
  .next <|
    if (s.photon.pins[pin.val]).mode ≠ .input ∨ s.monStopped then s
    else
      let s := s.each (List.finRange 8) fun u s =>
        if (s.mon u).inj.pin = some pin ∧ edgeSuits (s.mon u).inj.edge rising then s.injectTrigger u else s
      s.each (List.finRange 8) fun u s =>
        if (s.mon u).reg.pin = some pin ∧ edgeSuits (s.mon u).reg.edge rising then s.regularTrigger u else s

/-- TRIG_PULSE_END: an output pulse reaches its width (R253). -/
def execTrigPulseEnd (pin : Pin) (s : State) : Host.Outcome State Fault Refusal :=
  .next <| s.modPhoton fun u => { u with pins := vupd u.pins pin fun p =>
    if p.mode = .output ∧ p.source ≠ 2 then { p with high := false } else p }

/-! Filter channels. -/

/-- The DC-blocking stage (R257), with b in 2^-16 output units: y = x − b, then b moves unless frozen. -/
def FilterCh.dcBlock (f : FilterCh) (x : Int) : FilterCh × Int :=
  if f.dcK = 0 then (f, x)
  else
    let y := x - roundDiv f.dcB 65536
    if f.frozen ∨ f.autoFrozen then (f, y)
    else ({ f with dcB := f.dcB + (65536 * x - f.dcB) / 2 ^ f.dcK }, y)

/-- Release an output with its stamp; an overflow of the 24-bit value saturates and sets OVERRUN (R256, R259). -/
def State.releaseOut (s : State) (c : Fch) (y : Int) : State :=
  let v := clampI (-8388608) 8388607 y
  let s' := s.modFilter c fun f => { f with
    output := v, count := f.count + 1, stamp := s.now, overrun := f.overrun || decide (v ≠ y) }
  if v ≠ y then s'.raise .filterOverrun (fchSrc c) else s'

/-- Coefficients of a bank: those loaded in banks 2 to 7; banks 0 and 1 are fixed and free values (R255). -/
def PhotonUnit.bankCoeffs (u : PhotonUnit) (b : Nat) : List Int :=
  if 2 ≤ b ∧ b < 8 then ((u.banks[(finOf 6 (b - 2)).val])).toList else (List.range 63).map (Config.firCoeff b)

/-- The 63-tap FIR over the latest outputs of the half-band stages, newest first, coefficients in units of 2^-17 (R255). DESIGN
CHOICE: the sum is rounded to the nearest output unit. -/
def firSum (coeffs inputs : List Int) : Int := roundDiv ((List.zipWith (· * ·) coeffs inputs).sum) 131072

/-- Input j of the FIR: every fourth CIC output gives one, over 31 CIC outputs of both half-band stages (R254). -/
def firInput (r : Nat) (hist : List Int) (j : Nat) : Int := Config.halfBand r ((hist.drop (4 * j)).take 31)

/-- FILTER_OUTPUT_RELEASE: the channel is served in its cycle of the round (R254, R256). Every eighth CIC output gives an
output of the chain. -/
def execFilterOutputRelease (c : Fch) (s : State) : Host.Outcome State Fault Refusal :=
  let f := s.flt c
  .next <|
    if f.mode = 3 then
      match f.ready with
      | y :: rest => (s.modFilter c fun f => { f with ready := rest }).releaseOut c y
      | [] => s
    else match f.cicReady with
      | [] => s
      | x :: rest =>
        let hist := (x :: f.cic).take 279
        let s := s.modFilter c fun f => { f with cic := hist, cicReady := rest, cicCount := (f.cicCount + 1) % 8 }
        if (f.cicCount + 1) % 8 = 0 then
          let y := firSum (s.photon.bankCoeffs f.bank) ((List.range 63).map (firInput (2 ^ f.m / 8) hist))
          let r := (s.flt c).dcBlock y
          (s.modFilter c fun _ => r.1).releaseOut c r.2
        else s

/-- DC_FREEZE_EXPIRY: an auto-freeze ends (R257). -/
def execDcFreezeExpiry (c : Fch) (s : State) : Host.Outcome State Fault Refusal :=
  .next <| s.modFilter c fun f => { f with autoFrozen := false }

/-- FILTER.SET_CHANNEL (R254–R258). -/
def execFilterSetChannel (k : Sess) (s : State) : Host.Outcome State Fault Refusal :=
  .next <| s.runCmd 0x0A01 k fun a s =>
    let c : Fch := finOf 64 (byteAt a 0)
    let mode := byteAt a 1
    let auto := fieldLE a 6 2
    s.guarded
      [(decide (auto < 544) && s.biasTested (finOf 544 auto), s.busyTest), (decide (mode = 2) && (s.fchLoop c.val true).isNone,
        badArg 1), (decide (mode = 3) && (s.sourceLoop c.val).isSome, badArg 1),
        (decide (mode = 1 ∨ mode = 2) && s.tooFast c.val (2 ^ byteAt a 2 / 8), badArg 2)]
      fun s => (replyOk, s.modFilter c fun _ =>
        { mode := mode, m := byteAt a 2, bank := byteAt a 3, dcK := byteAt a 4,
          autoOutput := if auto = 0xFFFF then none else some auto, stepThresh := fieldLE a 8 2,
          freezeTime := fieldLE a 10 2 })

/-- FILTER.LOAD_COEFF (R255): refused while any channel uses the bank. -/
def execFilterLoadCoeff (k : Sess) (s : State) : Host.Outcome State Fault Refusal :=
  .next <| s.runCmd 0x0A02 k fun a s =>
    let b := byteAt a 0
    s.guarded [(s.photon.filter.toList.any (fun f => decide (f.mode ≠ 0 ∧ f.bank = b)), refuse .busy)]
      fun s =>
        let coeffs := Vector.ofFn fun i : Fin 63 => toSigned 18 (fieldLE a (4 + 4 * i.val) 4)
        (replyOk, s.modPhoton fun u => { u with banks := vupd u.banks (finOf 6 (b - 2)) (fun _ => coeffs) })

/-- FILTER.FREEZE_DC (R257). -/
def execFilterFreezeDc (k : Sess) (s : State) : Host.Outcome State Fault Refusal :=
  .next <| s.runCmd 0x0A03 k fun a s =>
    (replyOk, s.modFilter (finOf 64 (byteAt a 0)) fun f => { f with frozen := decide (byteAt a 1 = 1) })

/-- The record FILTER.READ answers (R259). -/
def FilterCh.record (f : FilterCh) : Bytes :=
  leBytes 4 (ofSigned 24 f.output) ++ leBytes 4 f.count.toNat ++ leBytes 8 f.stamp.toNat ++
    leBytes 1 (packBits [(1, f.overrun.toNat), (1, (f.frozen || f.autoFrozen).toNat)]) ++ zeros 3

/-- FILTER.READ (R259): OVERRUN clears. -/
def execFilterRead (k : Sess) (s : State) : Host.Outcome State Fault Refusal :=
  .next <| s.runCmd 0x0A04 k fun a s =>
    let c : Fch := finOf 64 (byteAt a 0)
    (replyOk (s.flt c).record, s.modFilter c fun f => { f with overrun := false })

end Sys2Proof.Machine
end

