-- ==== Sys2Proof/Machine/Security.lean ====
section
/-!
DEFINITION. Meanings of the SESSION and SEC rows (R366, R387, R397, R404–R413).
-/
namespace Sys2Proof.Machine

/-! Sessions. -/

/-- SESSION.GET_CHALLENGE (R366): a new challenge replaces the last. -/
def execSessionGetChallenge (k : Sess) (s : State) : Host.Outcome State Fault Refusal :=
  .next <| s.runCmd 0x0201 k fun _ s =>
    let d := s.draw
    let v : Bytes := padTo 32 (Config.entropy d.1 32)
    let t := s.now
    (replyOk v, d.2.modSess k fun x => { x with challenge := some { value := v, time := t, used := false } })

/-- SESSION.AUTH (R366, R407): the token is judged before its challenge is used up. -/
def execSessionAuth (k : Sess) (s : State) : Host.Outcome State Fault Refusal :=
  .next <| s.runCmd 0x0202 k fun a s =>
    let verdict := s.validToken k (fieldLE a 0 2) 1 0
    let s := s.useChallenge k
    match verdict with
    | some signer => (replyOk, (s.modSess k fun x => { x with priv := .secure, signer := some signer }).raise .secAuthOk k.val)
    | none => (refuse .denied, s.raise .secAuthFail k.val)

/-- SESSION.STAGE (R387). -/
def execSessionStage (k : Sess) (s : State) : Host.Outcome State Fault Refusal :=
  .next <| s.runCmd 0x0203 k fun a s =>
    (replyOk, s.modSess k fun x => { x with staging := memWrites 0 x.staging (fieldLE a 0 2) ((a.drop 4).take (fieldLE a 2 2)) })

/-! Identity key. -/

/-- SIGNING_STATE_READY (R410). -/
def execSigningStateReady (s : State) : Host.Outcome State Fault Refusal :=
  .next <|
    if s.sys.clk.phase = .running ∨ s.sys.clk.phase = .noCount then s.modSec fun u => { u with signReady := true } else s

/-- SEC.GET_STATE (R397). -/
def execSecGetState (k : Sess) (s : State) : Host.Outcome State Fault Refusal :=
  .next <| s.runCmd 0x1001 k fun _ s =>
    (replyOk (leBytes 1 s.lifecycle ++ leBytes 1 s.ctl.sysLock.toNat ++ leBytes 1 s.ownerKeys ++ zeros 1 ++
      leBytes 4 s.sigRemaining ++ leBytes 4 s.sec.img.runningVer.toNat ++ zeros 4), s)

/-- Public keys of slots 0–7 in order, 68 zero bytes for an empty slot (Table 14-5). -/
def State.ownerPubs (s : State) : Bytes :=
  (List.range 8).flatMap fun i => match s.ownerKey i with
    | some x => padTo 68 x.pub
    | none => zeros 68

/-- Latest self-test records of banks 0–7, then of memory and logic. -/
def State.latestTests (s : State) : Bytes :=
  s.sec.flash.tests.toList.flatMap fun l => match l with
    | r :: _ => padTo 64 r.bytes
    | [] => zeros 64

/-- Bytes 0x000–0x33F of a report (Table 14-5). -/
def State.reportBody (s : State) (nonce seed : Bytes) (index : Nat) : Bytes :=
  let h := s.sec.img.running
  leBytes 2 1 ++ leBytes 2 3524 ++ leBytes 1 s.lifecycle ++ leBytes 1 s.ctl.sysLock.toNat ++ leBytes 1 s.ownerKeys ++
  leBytes 1 (packBits [(1, s.requireCosign.toNat), (1, (decide (byteAt h 0xC04 ≠ 0xFF)).toNat)]) ++
  leBytes 16 s.sec.otp.uid.toNat ++ padTo 32 nonce ++ leBytes 8 s.now.toNat ++ leBytes 4 s.sec.img.bootCount.toNat ++
  leBytes 4 s.sec.img.runningVer.toNat ++ leBytes 4 s.rollback ++ leBytes 4 index ++ padTo 32 (h.drop 0x020) ++
  padTo 32 s.sec.img.loaderHash ++ padTo 32 (Config.shake256 32 s.ownerPubs) ++ padTo 68 (Config.xmssPub seed) ++ zeros 12 ++
  s.latestTests

/-- A signed report (Table 14-5). -/
def State.signedReport (s : State) (nonce seed : Bytes) (index : Nat) : Bytes :=
  s.reportBody nonce seed index ++ padTo 2692 (Config.xmssSign seed index (s.reportBody nonce seed index))

/-- Response bytes of SEC.ATTEST from an offset of a report. -/
def reportPage (r : Bytes) (off : Nat) : Bytes := leBytes 4 3524 ++ (r.drop off).take 1000

/-- Sign a new report for a session (R410–R413). -/
def State.attest (s : State) (k : Sess) (nonce : Bytes) (bad : Nat) (switched : Bool) : Reply × State :=
  match s.sec.otp.seedInUse with
    | none => (refuse .badState, s)
    | some seed => match s.takeIndex bad with
      | none => (refuse .noResource, s)
      | some (i, s) =>
        if switched then (refuse .timeout, s)
        else
          let r := s.signedReport nonce seed i
          let s := s.modSess k fun x => { x with report := some { nonce := nonce, bytes := r } }
          (replyOk (reportPage r 0), s.raise .secAttest k.val 0 i)

/-- SEC.ATTEST (R397, R410, R412, R413, Table 14-2), its checks in the order of R384: `bad` SIG_BLOCK fuses in a row fail their
read-back; `switched` tells a switch between the security cores while the report is signed. -/
def execSecAttest (k : Sess) (bad : Nat) (switched : Bool) (s : State) : Host.Outcome State Fault Refusal :=
  .next <| s.runCmd 0x1002 k fun a s =>
    let nonce := a.take 32
    let off := fieldLE a 32 4
    let other : Bool := match (s.sess k).report with
      | some r => decide (r.nonce ≠ nonce)
      | none => true
    s.guarded [(!s.sec.signReady, refuse .busy), (decide (s.lifecycle = 0) || s.retired, refuse .badState),
        (decide (off ≠ 0) && other, refuse .badState), (decide (3524 ≤ off), badArg 32)] fun s =>
      if off = 0 then s.attest k nonce bad switched
      else match (s.sess k).report with
        | some r => (replyOk (reportPage r.bytes off), s)
        | none => (refuse .badState, s)

/-! Life-cycle. -/

/-- A transition of Table 14-3. -/
def lifecycleMove (src dst : Nat) : Bool :=
  (decide (src = 0) && decide (dst = 1)) || (decide (src = 1) && decide (dst = 2)) ||
  ((decide (src = 1) || decide (src = 2)) && decide (dst = 3)) ||
  ((decide (src = 2) || decide (src = 3)) && decide (dst = 4))

/-- Every line lane is in DARK and every group OFF. -/
def State.allDark (s : State) : Bool :=
  (physAll.all fun p => decide (s.modeOf p = .dark)) && groupAll.all fun g => decide ((s.grp g).power = .off)

/-- The Condition column of Table 14-3. -/
def State.moveCondition (s : State) (dst : Nat) : Bool :=
  if dst = 1 then (s.ownerKey 0).isSome else if dst = 4 then s.allDark else true

/-- Signer that the table names. -/
def moveSigner (src dst : Nat) : Nat := if (src = 1 ∧ dst = 2) ∨ (src = 2 ∧ dst = 4) then 0 else 0x80

/-- A staged token that Table 14-3 admits for its transition: valid, and signed by the signer the table names. -/
def State.moveToken (s : State) (k : Sess) (len dst : Nat) : Bool :=
  decide (s.validToken k len 2 dst = some (moveSigner s.lifecycle dst))

/-- Provision the identity seed (R409): the first slot that nothing has touched. Answers whether a seed is in place; `ok` tells
that the read-back succeeded. -/
def OtpUnit.provision (o : OtpUnit) (seed : Bytes) (ok : Bool) : Bool × OtpUnit :=
  let x : SeedSlot := { seed := seed, complete := ok, touched := true }
  if ¬ o.seedA.touched then (ok, { o with seedA := x })
  else if ¬ o.seedB.touched then (ok, { o with seedB := x })
  else (false, o)

/-- Actions of a transition (Table 14-3), with the new OTP; `none` where the identity seed cannot be provisioned. -/
def State.moveActions (s : State) (dst : Nat) (ok : Bool) : Bool × State :=
  let otp (f : OtpUnit → OtpUnit) (s : State) : State := s.modSec fun u => { u with otp := f u.otp }
  match dst with
  | 1 =>
    let d := s.draw
    let r := s.sec.otp.provision (padTo 96 (Config.entropy d.1 96)) ok
    (r.1, otp (fun _ => if r.1 then r.2.blow 0 else r.2) d.2)
  | 2 => (true, otp (·.blow 1) s)
  | 3 =>
    let s := (otp (·.destroyWrap) s).modFlash fun f => { f with owner := Vector.replicate 8 none }
    (true, otp (·.blow 2) s)
  | _ =>
    let s := otp (·.destroySeed) s
    let s := if s.lifecycle = 2 then otp (·.destroyWrap) s else s
    (true, otp (·.blow 3) s)

/-- Every SECURE session drops to MAINTAIN (R404). -/
def State.dropSecure (s : State) : State :=
  let down (x : Session) : Session := if x.priv = .secure then { x with priv := .maintain } else x
  s.modCtl fun c => { c with sess := c.sess.map down }

/-- SEC.SET_LIFECYCLE (R404, R405, R407): `ok` tells that the identity seed reads back. -/
def execSecSetLifecycle (k : Sess) (ok : Bool) (s : State) : Host.Outcome State Fault Refusal :=
  .next <| s.runCmd 0x1003 k fun a s =>
    let dst := byteAt a 0
    let stage := s.sec.img.stage.code
    let token := s.moveToken k (fieldLE a 2 2) dst
    let checks : List (Bool × Reply) :=
      [(s.sec.test.isSome, s.busyTest), (decide (1 ≤ stage ∧ stage ≤ 4), refuse .busy),
        (!lifecycleMove s.lifecycle dst, refuse .badState), (!s.moveCondition dst, refuse .badState),
        (!token, refuse .denied)]
    (s.useChallenge k).guarded checks fun s =>
      let r := s.moveActions dst ok
      if ¬ r.1 then (refuse .noResource, r.2)
      else (replyOk, (r.2.raise .secLifecycle 0 dst).dropSecure)

/-- SEC.SET_OWNER_KEY (R408). -/
def execSecSetOwnerKey (k : Sess) (s : State) : Host.Outcome State Fault Refusal :=
  .next <| s.runCmd 0x1004 k fun a s =>
    let slot := byteAt a 0
    let len := fieldLE a 2 2
    let r := memReads 0 (s.sess k).staging 0 72
    let signer := (s.sess k).signer
    let pub := r.drop 4
    let install := decide (byteAt r 1 = 0)
    let filled := (s.ownerKey slot).isSome
    let may := decide (signer = some 0) || (decide (signer = some 0x80) && decide (s.lifecycle = 0) && decide (slot = 0))
    let sound := decide (len = 72) && decide (byteAt r 0 = 1) && decide (byteAt r 1 ≤ 1) && (keyHeight pub).isSome
    let clash := if install then decide (slot ≠ 0) && filled else decide (byteAt r 1 = 1) && (decide (slot = 0) || !filled)
    s.guarded [(clash, refuse .badState), (!may, refuse .denied), (!sound, badArg 2)]
      fun s =>
        let key : OwnerKey := { uses := BitVec.ofNat 8 (byteAt r 2), policy := BitVec.ofNat 8 (byteAt r 3), pub := pub, tag := [] }
        let key : OwnerKey := { key with tag := Config.kmac s.sec.otp.ownerWrap key.body }
        let s := s.modFlash fun f => { f with owner := f.owner.setIfInBounds slot (if install then some key else none) }
        (replyOk, s.raise .secOwnerKey 0 0 slot)

end Sys2Proof.Machine
end

