-- ==== Sys2Proof/Machine/SelfTest.lean ====
section
/-!
DEFINITION. Meanings of the TEST rows (R414–R421).
-/
namespace Sys2Proof.Machine

/-- Lanes of a bank that an analogue test takes: in DARK and not in a mode change (R414). -/
def State.testLanes (s : State) (b : Nat) : List Phys :=
  (lanesOfBank b).filter fun p => decide (s.modeOf p = .dark) && !s.moving p

/-- Groups of a bank whose lane 16 a test takes: ACTIVE links with lane 16 idle as spare both ways, in no loop-back (R414). -/
def State.testGroups (s : State) (b : Nat) : List Group :=
  ([0, 1, 2, 3].map fun j => (finOf 32 (4 * b + j) : Group)).filter fun g =>
    let h := s.grp g
    decide (h.state = .active) && decide (h.txSpare = some 16) && decide (h.rxSpare = some 16) && decide (h.loopStatus ≠ 1)

/-- A scope that the life-cycle state permits (Table 14-2). -/
def State.scopePermitted (s : State) (memory : Bool) : Bool :=
  if memory then decide (s.lifecycle = 0 ∨ s.lifecycle = 3) else !s.retired

/-- The memory and logic test's preconditions (R414): lanes dark, groups off, no calibration run, no image operation. -/
def State.memoryTestReady (s : State) : Bool :=
  s.allDark && (physAll.all fun p => decide ((s.cal.lane[p.val]).state ≠ .running)) &&
    decide (s.sec.img.stage.code < 1 ∨ 4 < s.sec.img.stage.code)

/-- A requested check has a unit. -/
def checkQualifies (r : TestRecord) : Bool :=
  (List.range 4).any fun c => r.checks.getLsbD c && decide (checkUnits r c ≠ 0)

/-- An analogue start that R277 and the bias budget of R240 admit. -/
def State.testAdmitted (s : State) (lanes : Nat) : Bool :=
  decide (s.therm.pDev + 60 ≤ s.therm.pEff s.therm.steps) &&
    decide (s.photon.budget + 40 * lanes * 65536 ≤ s.photon.aggLimit * 65536)

/-- The result record as a test starts (R420, Table 14-9). -/
def State.startRecord (s : State) (scope method : Nat) (checks : BitVec 8) (lanes : List Phys) (groups : List Group) :
    TestRecord :=
  let runs : Nat := match s.sec.flash.tests.toList.getD (scopeSlot scope) [] with
    | r :: _ => r.runNum
    | [] => 0
  let r : TestRecord :=
    { scope := scope, outcome := 3, method := method, checks := checks, checksDone := 0, checksFailed := 0, endCause := 7,
      startTime := s.now, endTime := 0, lifecycle := s.lifecycle,
      lanes := lanes.foldl (fun m p => m ||| (1#17 <<< (p.val % 17))) 0,
      groups := groups.foldl (fun m g => m ||| (1#4 <<< (g.val % 4))) 0, patterns := 0, expected := 0, signature := [],
      expectedSig := [], failed := 0, runNum := runs + 1 }
  let bits := (List.range 8).filter fun c => checks.getLsbD c
  { r with expected := (bits.map (checkPatterns r)).sum }

/-- The core that runs a test: the lowest housekeeping engine in service. -/
def State.testCore (s : State) : Core := (coreAll.find? fun c => decide (180 ≤ c.val) && s.coreActive c.val).getD 180

/-- The record of the test that a TEST.START asks for. -/
def State.askedRecord (s : State) (a : Bytes) : TestRecord :=
  let asked := BitVec.ofNat 8 (byteAt a 3)
  let b := byteAt a 1
  if byteAt a 0 = 1 then s.startRecord 255 (byteAt a 2) (asked &&& 3) [] []
  else s.startRecord b (byteAt a 2) (asked &&& 15) (s.testLanes b) (s.testGroups b)

/-- The requested checks, in bit order. -/
def TestRecord.todo (r : TestRecord) : List Nat := (List.range 8).filter fun c => r.checks.getLsbD c

/-- DURATION of a test in µs (R415, R421). -/
def TestRecord.duration (r : TestRecord) : Nat :=
  (r.todo.map (checkTime (decide (r.scope = 255)))).sum + if r.scope = 255 then 0 else 40

/-- Start a test (R414–R416, R420). -/
def State.startTest (s : State) (r : TestRecord) : State :=
  let todo := r.todo
  let duration := r.duration
  let outputs := r.physLanes.flatMap fun p => [0, 1, 2, 3].map fun k => biasOf p k
  let before : Tab Bytes := outputs.map fun o => (o.val, s.biasRecordNow o)
  let s := s.each r.physLanes fun p s => (s.modLane p fun l => { l with selftest := true }).freezeLane p .selftest
  let t : TestRun :=
    { record := r, todo := todo, duration := duration, core := s.testCore, sigs := [],
      expSigs := todo.map fun c => Config.testSig c (checkUnits r c),
      held := outputs.map fun o => (o.val, (s.bias o).rangeAtEnd, (s.bias o).pending.getD (s.bias o).applied)
      before := before }
  let s := if r.method = 1 then s.each t.outputs fun o s => s.openBall o.1 else s
  let s := (s.modSec fun u => { u with test := some t }).writeTest r true
  let s := match todo with
    | c :: _ => s.startCheck t c
    | [] => s
  s.raise .testStarted r.scope

/-- TEST.START (R414, R415). -/
def execTestStart (k : Sess) (s : State) : Host.Outcome State Fault Refusal :=
  .next <| s.runCmd 0x1101 k fun a s =>
    let memory := decide (byteAt a 0 = 1)
    let r := s.askedRecord a
    s.guarded
      [(s.sec.test.isSome, refuse .busy), (!s.scopePermitted memory, refuse .badState 1),
        (memory && !s.memoryTestReady, refuse .badState 3),
        (!(if memory then decide (r.checks ≠ 0) else checkQualifies r), refuse .badState 2),
        (!memory && !s.testAdmitted (s.testLanes (byteAt a 1)).length, refuse .noResource)]
      fun s => (replyOk (leBytes 4 r.duration), s.startTest r)

/-- TEST.ABORT (R418). -/
def execTestAbort (k : Sess) (s : State) : Host.Outcome State Fault Refusal :=
  .next <| s.runCmd 0x1102 k fun a s =>
    let named : Bool := match s.sec.test with
      | some t => decide (t.record.scope = byteAt a 0)
      | none => false
    s.guarded [(!named, refuse .badState)] fun s => (replyOk, s.endTest 1)

/-- TEST.GET_RESULT (R420): an index without a record returns one whose OUTCOME is 0. -/
def execTestGetResult (k : Sess) (s : State) : Host.Outcome State Fault Refusal :=
  .next <| s.runCmd 0x1103 k fun a s =>
    let scope := byteAt a 0
    let l := s.sec.flash.tests.toList.getD (scopeSlot scope) []
    (replyOk (match l[byteAt a 1]? with
      | some r => r.bytes
      | none => leBytes 1 1 ++ leBytes 1 scope ++ zeros 62), s)

/-- No measurement of a check was out of limit. -/
def CheckFound.clean (x : CheckFound) : Bool := decide (x.lanes = 0) && decide (x.groups = 0) && x.unit.isNone

/-- The record after a check (R415, R419, Table 14-9). -/
def TestRecord.afterCheck (r : TestRecord) (check : Nat) (x : CheckFound) : TestRecord :=
  let bit := 1#8 <<< check
  let found : Word := if r.scope = 255 then
      (match x.unit with
        | some (core, i, _) => if core then BitVec.ofNat 32 (0x8000 + i) else BitVec.ofNat 32 (arrId (finOf 692 i))
        | none => 0)
    else (x.lanes &&& r.lanes).setWidth 32 ||| ((x.groups &&& r.groups).setWidth 32 <<< 17)
  { r with
    checksDone := r.checksDone ||| bit, checksFailed := if x.clean then r.checksFailed else r.checksFailed ||| bit,
    patterns := r.patterns + checkPatterns r check,
    failed := if r.scope = 255 then (if r.failed = 0 then found else r.failed) else r.failed ||| found }

/-- The logic test of a management or security pair ends with the roles exchanged: the standby core is tested first, then
becomes active, and then its partner is tested (R421). -/
def State.exchangePair (s : State) (c : Core) : State :=
  let q := corePartner c
  if (s.coreOf c).state = .active ∧ (s.coreOf q).state = .standby then
    (s.modCore c fun u => { u with state := .standby }).modCore q fun u => { u with state := .active }
  else if (s.coreOf q).state = .active ∧ (s.coreOf c).state = .standby then
    (s.modCore q fun u => { u with state := .standby }).modCore c fun u => { u with state := .active }
  else s

/-- The pairs' lower cores. -/
def pairCores : List Core := [186, 188, 190]

/-- TEST_CHECK_DONE (R415, R421): the running check completes and the next requested one starts. A failing word of a memory
check qualifies for a remap. -/
def execTestCheckDone (x : CheckFound) (s : State) : Host.Outcome State Fault Refusal :=
  .next <| match s.sec.test with
    | none => s
    | some t => match t.todo with
      | [] => s
      | c :: rest =>
        let s := s.endCheck t c
        let r := t.record.afterCheck c x
        let sig := if x.clean then Config.testSig c (checkUnits t.record c) else x.sig
        let t := { t with record := r, todo := rest, sigs := t.sigs ++ [sig] }
        let s := s.modSec fun u => { u with test := some t }
        let s := match x.unit with
          | some (false, i, addr) => if r.scope = 255 then s.modArr (finOf 692 i) (·.qualify addr) else s
          | _ => s
        let s := if r.scope = 255 ∧ c = 1 then s.each pairCores fun c s => s.exchangePair c else s
        match rest with
        | n :: _ => s.startCheck t n
        | [] => s

/-- TEST_COMPLETE (R419): every requested check has completed and the restore time has passed. -/
def execTestComplete (s : State) : Host.Outcome State Fault Refusal :=
  .next <| match s.sec.test with
    | none => s
    | some t => if t.todo = [] then s.endTest 0 else s

end Sys2Proof.Machine
end

