-- ==== Sys2Proof/Machine/Dispatch.lean ====
section
/-!
DEFINITION. Dispatch: one arm for each command, in the order of the opcode table.
-/
namespace Sys2Proof.Machine

/-- A command's effect on everything but the queue. -/
def exec (i : Instr) (s : State) : Host.Outcome State Fault Refusal :=
  match i with
  | .laneSetMode k => Sys2Proof.Machine.execLaneSetMode k s
  | .laneTrain k => Sys2Proof.Machine.execLaneTrain k s
  | .laneTrainingDone p passed reason => Sys2Proof.Machine.execLaneTrainingDone p passed reason s
  | .laneTrainTimeout p reason => Sys2Proof.Machine.execLaneTrainTimeout p reason s
  | .laneReset k => Sys2Proof.Machine.execLaneReset k s
  | .laneResetDone p discarded => Sys2Proof.Machine.execLaneResetDone p discarded s
  | .laneGetStatus k => Sys2Proof.Machine.execLaneGetStatus k s
  | .laneSetStation k => Sys2Proof.Machine.execLaneSetStation k s
  | .laneSetRx k => Sys2Proof.Machine.execLaneSetRx k s
  | .laneLoadRxPalette k => Sys2Proof.Machine.execLaneLoadRxPalette k s
  | .laneGetRxDiag k => Sys2Proof.Machine.execLaneGetRxDiag k s
  | .laneSwapPalette k => Sys2Proof.Machine.execLaneSwapPalette k s
  | .laneCaptureFlipbook k => Sys2Proof.Machine.execLaneCaptureFlipbook k s
  | .laneReadFlipbook k bad => Sys2Proof.Machine.execLaneReadFlipbook k bad s
  | .laneSetBurst k => Sys2Proof.Machine.execLaneSetBurst k s
  | .laneGetBurstLog k bad => Sys2Proof.Machine.execLaneGetBurstLog k bad s
  | .laneGetBurstCounters k => Sys2Proof.Machine.execLaneGetBurstCounters k s
  | .laneSetFec k => Sys2Proof.Machine.execLaneSetFec k s
  | .laneGetFecStats k => Sys2Proof.Machine.execLaneGetFecStats k s
  | .laneSetTx k => Sys2Proof.Machine.execLaneSetTx k s
  | .laneLoadTxPalette k => Sys2Proof.Machine.execLaneLoadTxPalette k s
  | .laneGetTxDiag k => Sys2Proof.Machine.execLaneGetTxDiag k s
  | .laneSwapTxPalette k => Sys2Proof.Machine.execLaneSwapTxPalette k s
  | .laneSetPredistort k => Sys2Proof.Machine.execLaneSetPredistort k s
  | .laneSetTxBurst k => Sys2Proof.Machine.execLaneSetTxBurst k s
  | .drainComplete p => Sys2Proof.Machine.execDrainComplete p s
  | .drainTimeout p => Sys2Proof.Machine.execDrainTimeout p s
  | .coreCoverDone c => Sys2Proof.Machine.execCoreCoverDone c s
  | .losBlockEnd p => Sys2Proof.Machine.execLosBlockEnd p s
  | .agcUpdate p rms => Sys2Proof.Machine.execAgcUpdate p rms s
  | .estimationWindowEnd p => Sys2Proof.Machine.execEstimationWindowEnd p s
  | .estimationWindowStarved p => Sys2Proof.Machine.execEstimationWindowStarved p s
  | .estimatorIteration p => Sys2Proof.Machine.execEstimatorIteration p s
  | .calSetApply p sym => Sys2Proof.Machine.execCalSetApply p sym s
  | .pilotEvaluation p m => Sys2Proof.Machine.execPilotEvaluation p m s
  | .acqLimitExpiry p => Sys2Proof.Machine.execAcqLimitExpiry p s
  | .convergeLock p => Sys2Proof.Machine.execConvergeLock p s
  | .fadeStart p => Sys2Proof.Machine.execFadeStart p s
  | .fadeMidpoint p => Sys2Proof.Machine.execFadeMidpoint p s
  | .fadeEnd p => Sys2Proof.Machine.execFadeEnd p s
  | .flipbookTrigger p kind => Sys2Proof.Machine.execFlipbookTrigger p kind s
  | .flipbookCaptureComplete p => Sys2Proof.Machine.execFlipbookCaptureComplete p s
  | .correlatorPeak p cold negative sym phase freq dgain => Sys2Proof.Machine.execCorrelatorPeak p cold negative sym phase freq dgain s
  | .powerDetectorTrigger p sym => Sys2Proof.Machine.execPowerDetectorTrigger p sym s
  | .fallbackStart p sym => Sys2Proof.Machine.execFallbackStart p sym s
  | .fallbackQualificationExpiry p => Sys2Proof.Machine.execFallbackQualificationExpiry p s
  | .powerDetectorRearm p sym => Sys2Proof.Machine.execPowerDetectorRearm p sym s
  | .coldTrainingStart p => Sys2Proof.Machine.execColdTrainingStart p s
  | .coldTrainingEnd p => Sys2Proof.Machine.execColdTrainingEnd p s
  | .preambleEndPassed p => Sys2Proof.Machine.execPreambleEndPassed p s
  | .syncDetected p sym => Sys2Proof.Machine.execSyncDetected p sym s
  | .syncDeadlineExpiry p => Sys2Proof.Machine.execSyncDeadlineExpiry p s
  | .headerDecoded p word => Sys2Proof.Machine.execHeaderDecoded p word s
  | .replayStart p bad ring => Sys2Proof.Machine.execReplayStart p bad ring s
  | .galleryFetchDone j bad => Sys2Proof.Machine.execGalleryFetchDone j bad s
  | .galleryFetchService => Sys2Proof.Machine.execGalleryFetchService s
  | .portraitPrefetch p slot => Sys2Proof.Machine.execPortraitPrefetch p slot s
  | .predictedAnalogueLoad p slot => Sys2Proof.Machine.execPredictedAnalogueLoad p slot s
  | .rxWindowOpen p slot => Sys2Proof.Machine.execRxWindowOpen p slot s
  | .rxWindowClose p => Sys2Proof.Machine.execRxWindowClose p s
  | .payloadEnd p sym => Sys2Proof.Machine.execPayloadEnd p sym s
  | .postambleCheck p => Sys2Proof.Machine.execPostambleCheck p s
  | .burstOutcome p snr eyeMin bad => Sys2Proof.Machine.execBurstOutcome p snr eyeMin bad s
  | .portraitWriteback p => Sys2Proof.Machine.execPortraitWriteback p s
  | .eventHoldoffExpiry e source => Sys2Proof.Machine.execEventHoldoffExpiry e source s
  | .portraitSetQuota k => Sys2Proof.Machine.execPortraitSetQuota k s
  | .portraitSetBase k => Sys2Proof.Machine.execPortraitSetBase k s
  | .portraitRead k => Sys2Proof.Machine.execPortraitRead k s
  | .portraitWrite k => Sys2Proof.Machine.execPortraitWrite k s
  | .portraitEvict k => Sys2Proof.Machine.execPortraitEvict k s
  | .portraitProtect k => Sys2Proof.Machine.execPortraitProtect k s
  | .portraitList k bad => Sys2Proof.Machine.execPortraitList k bad s
  | .innerCwDecoded p hard rel => Sys2Proof.Machine.execInnerCwDecoded p hard rel s
  | .outerCwDecoded p => Sys2Proof.Machine.execOuterCwDecoded p s
  | .alignmentMarker p sync code sym => Sys2Proof.Machine.execAlignmentMarker p sync code sym s
  | .markerMissing p => Sys2Proof.Machine.execMarkerMissing p s
  | .delineationHeader p => Sys2Proof.Machine.execDelineationHeader p s
  | .frameCheck p bad => Sys2Proof.Machine.execFrameCheck p bad s
  | .sketchCandidate p pos => Sys2Proof.Machine.execSketchCandidate p pos s
  | .sketchResolved p => Sys2Proof.Machine.execSketchResolved p s
  | .marginWindowEnd w => Sys2Proof.Machine.execMarginWindowEnd w s
  | .txSettingApply p => Sys2Proof.Machine.execTxSettingApply p s
  | .predistortApply p sym => Sys2Proof.Machine.execPredistortApply p sym s
  | .txFadeStart p => Sys2Proof.Machine.execTxFadeStart p s
  | .txFadeMidpoint p => Sys2Proof.Machine.execTxFadeMidpoint p s
  | .txFadeEnd p => Sys2Proof.Machine.execTxFadeEnd p s
  | .txDriverFault p kind present => Sys2Proof.Machine.execTxDriverFault p kind present s
  | .txFaultDeclaration p => Sys2Proof.Machine.execTxFaultDeclaration p s
  | .transparentStart p => Sys2Proof.Machine.execTransparentStart p s
  | .transparentUnderrun p => Sys2Proof.Machine.execTransparentUnderrun p s
  | .superframeBoundary p bad => Sys2Proof.Machine.execSuperframeBoundary p bad s
  | .burstFreeze p slot entry bad => Sys2Proof.Machine.execBurstFreeze p slot entry bad s
  | .burstSendStart p => Sys2Proof.Machine.execBurstSendStart p s
  | .burstSendEnd p => Sys2Proof.Machine.execBurstSendEnd p s
  | .fabsyncEdge offset => Sys2Proof.Machine.execFabsyncEdge offset s
  | .fabsyncMissDecision => Sys2Proof.Machine.execFabsyncMissDecision s
  | .armDeadline w change => Sys2Proof.Machine.execArmDeadline w change s
  | .schedSetEpoch k => Sys2Proof.Machine.execSchedSetEpoch k s
  | .schedLoad k => Sys2Proof.Machine.execSchedLoad k s
  | .schedArm k => Sys2Proof.Machine.execSchedArm k s
  | .schedDisarm k => Sys2Proof.Machine.execSchedDisarm k s
  | .schedGetStatus k => Sys2Proof.Machine.execSchedGetStatus k s
  | .schedRead k => Sys2Proof.Machine.execSchedRead k s
  | .openBurstChoice p bad => Sys2Proof.Machine.execOpenBurstChoice p bad s
  | .openHoldExpiry w dest => Sys2Proof.Machine.execOpenHoldExpiry w dest s
  | .backoffExpiry w dest => Sys2Proof.Machine.execBackoffExpiry w dest s
  | .frameAccepted w bad => Sys2Proof.Machine.execFrameAccepted w bad s
  | .rtoExpiry w p bad => Sys2Proof.Machine.execRtoExpiry w p bad s
  | .ackIntervalExpiry w p => Sys2Proof.Machine.execAckIntervalExpiry w p s
  | .ctxIdleExpiry w p rx => Sys2Proof.Machine.execCtxIdleExpiry w p rx s
  | .losSpareDelayExpiry p => Sys2Proof.Machine.execLosSpareDelayExpiry p s
  | .failureMoveMap w => Sys2Proof.Machine.execFailureMoveMap w s
  | .moveSettleExpiry w => Sys2Proof.Machine.execMoveSettleExpiry w s
  | .moveLimitExpiry w => Sys2Proof.Machine.execMoveLimitExpiry w s
  | .moveSwitchZeroScale w => Sys2Proof.Machine.execMoveSwitchZeroScale w s
  | .deliverySetRetention k => Sys2Proof.Machine.execDeliverySetRetention k s
  | .deliverySetTimers k => Sys2Proof.Machine.execDeliverySetTimers k s
  | .deliverySetQuota k => Sys2Proof.Machine.execDeliverySetQuota k s
  | .deliverySetSketch k => Sys2Proof.Machine.execDeliverySetSketch k s
  | .deliverySetSparePolicy k => Sys2Proof.Machine.execDeliverySetSparePolicy k s
  | .deliveryReleasePeer k => Sys2Proof.Machine.execDeliveryReleasePeer k s
  | .deliverySpareMove k => Sys2Proof.Machine.execDeliverySpareMove k s
  | .deliveryReintegrate k => Sys2Proof.Machine.execDeliveryReintegrate k s
  | .deliveryGetMap k => Sys2Proof.Machine.execDeliveryGetMap k s
  | .deliveryGetStatus k => Sys2Proof.Machine.execDeliveryGetStatus k s
  | .txBlockStart g bad => Sys2Proof.Machine.execTxBlockStart g bad s
  | .commaReceived g blocks => Sys2Proof.Machine.execCommaReceived g blocks s
  | .swatchReceived g => Sys2Proof.Machine.execSwatchReceived g s
  | .replayTimeout g => Sys2Proof.Machine.execReplayTimeout g s
  | .repairReq g role => Sys2Proof.Machine.execRepairReq g role s
  | .idleEnter g => Sys2Proof.Machine.execIdleEnter g s
  | .retrainReq g => Sys2Proof.Machine.execRetrainReq g s
  | .spareOk g lane => Sys2Proof.Machine.execSpareOk g lane s
  | .trainPhaseLock g => Sys2Proof.Machine.execTrainPhaseLock g s
  | .trainLimitExpiry g => Sys2Proof.Machine.execTrainLimitExpiry g s
  | .wanderLimit g => Sys2Proof.Machine.execWanderLimit g s
  | .hckrxStop g => Sys2Proof.Machine.execHckrxStop g s
  | .txElectricalIdleEntry g => Sys2Proof.Machine.execTxElectricalIdleEntry g s
  | .txWake g => Sys2Proof.Machine.execTxWake g s
  | .rxWakeBurst g => Sys2Proof.Machine.execRxWakeBurst g s
  | .rxWakeCommaTimeout g => Sys2Proof.Machine.execRxWakeCommaTimeout g s
  | .hostLaneFail g lane reason => Sys2Proof.Machine.execHostLaneFail g lane reason s
  | .spareSubstitution g => Sys2Proof.Machine.execSpareSubstitution g s
  | .clockMove g => Sys2Proof.Machine.execClockMove g s
  | .groupIdleTimerExpiry g => Sys2Proof.Machine.execGroupIdleTimerExpiry g s
  | .hostTrain k => Sys2Proof.Machine.execHostTrain k s
  | .hostSetLink k => Sys2Proof.Machine.execHostSetLink k s
  | .hostSetTx k => Sys2Proof.Machine.execHostSetTx k s
  | .hostRepair k => Sys2Proof.Machine.execHostRepair k s
  | .hostSetLoopback k => Sys2Proof.Machine.execHostSetLoopback k s
  | .hostGetStatus k => Sys2Proof.Machine.execHostGetStatus k s
  | .hostResetGroup k => Sys2Proof.Machine.execHostResetGroup k s
  | .groupResetDone g discarded => Sys2Proof.Machine.execGroupResetDone g discarded s
  | .hostSetPower k => Sys2Proof.Machine.execHostSetPower k s
  | .biasWrite k => Sys2Proof.Machine.execBiasWrite k s
  | .biasSetLimits k => Sys2Proof.Machine.execBiasSetLimits k s
  | .biasSetRange k => Sys2Proof.Machine.execBiasSetRange k s
  | .biasClearFault k gone => Sys2Proof.Machine.execBiasClearFault k gone s
  | .biasSetSafe k => Sys2Proof.Machine.execBiasSetSafe k s
  | .biasSetAggLimit k => Sys2Proof.Machine.execBiasSetAggLimit k s
  | .biasGetStatus k => Sys2Proof.Machine.execBiasGetStatus k s
  | .biasSetLoop k => Sys2Proof.Machine.execBiasSetLoop k s
  | .biasLoopCtrl k => Sys2Proof.Machine.execBiasLoopCtrl k s
  | .biasCodeApply o => Sys2Proof.Machine.execBiasCodeApply o s
  | .deglitchStep o => Sys2Proof.Machine.execDeglitchStep o s
  | .rangeChangeDone o => Sys2Proof.Machine.execRangeChangeDone o s
  | .biasFault o => Sys2Proof.Machine.execBiasFault o s
  | .biasSupplyLow low => Sys2Proof.Machine.execBiasSupplyLow low s
  | .supplyGate on aonLost => Sys2Proof.Machine.execSupplyGate on aonLost s
  | .monSetPair k => Sys2Proof.Machine.execMonSetPair k s
  | .monSetSeq k => Sys2Proof.Machine.execMonSetSeq k s
  | .monStart k => Sys2Proof.Machine.execMonStart k s
  | .monStop k => Sys2Proof.Machine.execMonStop k s
  | .monInject k => Sys2Proof.Machine.execMonInject k s
  | .monReadChannel k => Sys2Proof.Machine.execMonReadChannel k s
  | .monReadChannelTimeout u k => Sys2Proof.Machine.execMonReadChannelTimeout u k s
  | .monSetFrame k => Sys2Proof.Machine.execMonSetFrame k s
  | .monReadResults k => Sys2Proof.Machine.execMonReadResults k s
  | .monGetStatus k => Sys2Proof.Machine.execMonGetStatus k s
  | .monSetPin k => Sys2Proof.Machine.execMonSetPin k s
  | .loopSlotStart u slot => Sys2Proof.Machine.execLoopSlotStart u slot s
  | .conversionDone u nV => Sys2Proof.Machine.execConversionDone u nV s
  | .trigEdge pin rising => Sys2Proof.Machine.execTrigEdge pin rising s
  | .trigPulseEnd pin => Sys2Proof.Machine.execTrigPulseEnd pin s
  | .filterOutputRelease c => Sys2Proof.Machine.execFilterOutputRelease c s
  | .dcFreezeExpiry c => Sys2Proof.Machine.execDcFreezeExpiry c s
  | .filterSetChannel k => Sys2Proof.Machine.execFilterSetChannel k s
  | .filterLoadCoeff k => Sys2Proof.Machine.execFilterLoadCoeff k s
  | .filterFreezeDc k => Sys2Proof.Machine.execFilterFreezeDc k s
  | .filterRead k => Sys2Proof.Machine.execFilterRead k s
  | .ditherHalfPeriod o => Sys2Proof.Machine.execDitherHalfPeriod o s
  | .loopUpdate o => Sys2Proof.Machine.execLoopUpdate o s
  | .sensorSample readings => Sys2Proof.Machine.execSensorSample readings s
  | .powerMeasurement rails vBias outs => Sys2Proof.Machine.execPowerMeasurement rails vBias outs s
  | .throttleTick errs => Sys2Proof.Machine.execThrottleTick errs s
  | .tripSample => Sys2Proof.Machine.execTripSample s
  | .tripRecoverTimer => Sys2Proof.Machine.execTripRecoverTimer s
  | .tripRecoveryPowerUp => Sys2Proof.Machine.execTripRecoveryPowerUp s
  | .pllTrimStep => Sys2Proof.Machine.execPllTrimStep s
  | .calRunStart => Sys2Proof.Machine.execCalRunStart s
  | .calPeriodExpiry p => Sys2Proof.Machine.execCalPeriodExpiry p s
  | .wearMeasurement counts swings => Sys2Proof.Machine.execWearMeasurement counts swings s
  | .marginPlan daily lanes => Sys2Proof.Machine.execMarginPlan daily lanes s
  | .planWriteDone => Sys2Proof.Machine.execPlanWriteDone s
  | .calRunLane k => Sys2Proof.Machine.execCalRunLane k s
  | .calSetTriggers k => Sys2Proof.Machine.execCalSetTriggers k s
  | .calPinLane k => Sys2Proof.Machine.execCalPinLane k s
  | .calSetFloor k => Sys2Proof.Machine.execCalSetFloor k s
  | .calGetStatus k => Sys2Proof.Machine.execCalGetStatus k s
  | .calPlanNow k => Sys2Proof.Machine.execCalPlanNow k s
  | .calGetAgeing k => Sys2Proof.Machine.execCalGetAgeing k s
  | .calSetEstimator k => Sys2Proof.Machine.execCalSetEstimator k s
  | .thermGetStatus k => Sys2Proof.Machine.execThermGetStatus k s
  | .thermSetLimits k => Sys2Proof.Machine.execThermSetLimits k s
  | .thermRestoreSensor k => Sys2Proof.Machine.execThermRestoreSensor k s
  | .thermClearTrip k => Sys2Proof.Machine.execThermClearTrip k s
  | .porstNAssert => Sys2Proof.Machine.execPorstNAssert s
  | .porstNRelease straps refclk fabclk => Sys2Proof.Machine.execPorstNRelease straps refclk fabclk s
  | .rootPllLock => Sys2Proof.Machine.execRootPllLock s
  | .timebaseLock => Sys2Proof.Machine.execTimebaseLock s
  | .pllLockLoss => Sys2Proof.Machine.execPllLockLoss s
  | .refLoss fab => Sys2Proof.Machine.execRefLoss fab s
  | .refValid fab => Sys2Proof.Machine.execRefValid fab s
  | .aonFallbackSwitch => Sys2Proof.Machine.execAonFallbackSwitch s
  | .aonTick => Sys2Proof.Machine.execAonTick s
  | .crossingTimeout domain k => Sys2Proof.Machine.execCrossingTimeout domain k s
  | .ctlrstNAssert => Sys2Proof.Machine.execCtlrstNAssert s
  | .ctlrstNRelease discarded => Sys2Proof.Machine.execCtlrstNRelease discarded s
  | .ctlResetDone => Sys2Proof.Machine.execCtlResetDone s
  | .watchdogExpiry c => Sys2Proof.Machine.execWatchdogExpiry c s
  | .coreRejoin c discarded => Sys2Proof.Machine.execCoreRejoin c discarded s
  | .hbeatToggle served => Sys2Proof.Machine.execHbeatToggle served s
  | .laneIdleTimerExpiry p near => Sys2Proof.Machine.execLaneIdleTimerExpiry p near s
  | .laneIdleExit p => Sys2Proof.Machine.execLaneIdleExit p s
  | .laneDozeTimerExpiry p => Sys2Proof.Machine.execLaneDozeTimerExpiry p s
  | .laneDozeExitDone p => Sys2Proof.Machine.execLaneDozeExitDone p s
  | .quietTimerExpiry => Sys2Proof.Machine.execQuietTimerExpiry s
  | .powerSetTimers k => Sys2Proof.Machine.execPowerSetTimers k s
  | .powerEnterDormant k => Sys2Proof.Machine.execPowerEnterDormant k s
  | .dormantCommit => Sys2Proof.Machine.execDormantCommit s
  | .dormantReached => Sys2Proof.Machine.execDormantReached s
  | .powerGetResidency k => Sys2Proof.Machine.execPowerGetResidency k s
  | .wakeSource src => Sys2Proof.Machine.execWakeSource src s
  | .wakeComplete discarded => Sys2Proof.Machine.execWakeComplete discarded s
  | .avsAck refused => Sys2Proof.Machine.execAvsAck refused s
  | .avsAckTimeout => Sys2Proof.Machine.execAvsAckTimeout s
  | .avsSettleExpiry => Sys2Proof.Machine.execAvsSettleExpiry s
  | .devCtlReset k discarded => Sys2Proof.Machine.execDevCtlReset k discarded s
  | .devResetCore k => Sys2Proof.Machine.execDevResetCore k s
  | .devSetWatchdog k => Sys2Proof.Machine.execDevSetWatchdog k s
  | .devPublishSnapshot k => Sys2Proof.Machine.execDevPublishSnapshot k s
  | .snapshotPublished => Sys2Proof.Machine.execSnapshotPublished s
  | .devGetCores k => Sys2Proof.Machine.execDevGetCores k s
  | .repairWrite a => Sys2Proof.Machine.execRepairWrite a s
  | .poisonWrite a => Sys2Proof.Machine.execPoisonWrite a s
  | .scrubRead a flips => Sys2Proof.Machine.execScrubRead a flips s
  | .scrubLapLimit a => Sys2Proof.Machine.execScrubLapLimit a s
  | .remapCopy a => Sys2Proof.Machine.execRemapCopy a s
  | .remapRecord a => Sys2Proof.Machine.execRemapRecord a s
  | .memGetStatus k => Sys2Proof.Machine.execMemGetStatus k s
  | .memSetScrub k => Sys2Proof.Machine.execMemSetScrub k s
  | .memRemap k => Sys2Proof.Machine.execMemRemap k s
  | .memInject k => Sys2Proof.Machine.execMemInject k s
  | .spiWrite op addr data => Sys2Proof.Machine.execSpiWrite op addr data s
  | .spiRead addr clocked => Sys2Proof.Machine.execSpiRead addr clocked s
  | .spiWriteC addr rest => Sys2Proof.Machine.execSpiWriteC addr rest s
  | .spiReadC addr count clocked => Sys2Proof.Machine.execSpiReadC addr count clocked s
  | .smbusBlockWrite target count addr data pec => Sys2Proof.Machine.execSmbusBlockWrite target count addr data pec s
  | .smbusProcessCall target count addr words clocked => Sys2Proof.Machine.execSmbusProcessCall target count addr words clocked s
  | .smbusTimeout => Sys2Proof.Machine.execSmbusTimeout s
  | .registerWrite j addr data => Sys2Proof.Machine.execRegisterWrite j addr data s
  | .rcFieldRead j addr => Sys2Proof.Machine.execRcFieldRead j addr s
  | .indAddrWrite j high data => Sys2Proof.Machine.execIndAddrWrite j high data s
  | .indPrefetchDone j result => Sys2Proof.Machine.execIndPrefetchDone j result s
  | .indDataRead j => Sys2Proof.Machine.execIndDataRead j s
  | .indDataWrite j data => Sys2Proof.Machine.execIndDataWrite j data s
  | .indWriteApply j => Sys2Proof.Machine.execIndWriteApply j s
  | .sessionOpen j k priv notify tag => Sys2Proof.Machine.execSessionOpen j k priv notify tag s
  | .sessionClose k => Sys2Proof.Machine.execSessionClose k s
  | .doorbellRing j k seq => Sys2Proof.Machine.execDoorbellRing j k seq s
  | .evqAck qseq => Sys2Proof.Machine.execEvqAck qseq s
  | .sessionGetChallenge k => Sys2Proof.Machine.execSessionGetChallenge k s
  | .sessionAuth k => Sys2Proof.Machine.execSessionAuth k s
  | .sessionStage k => Sys2Proof.Machine.execSessionStage k s
  | .eventRead k => Sys2Proof.Machine.execEventRead k s
  | .eventAck k => Sys2Proof.Machine.execEventAck k s
  | .perfListSelectors k => Sys2Proof.Machine.execPerfListSelectors k s
  | .perfSnapshot k => Sys2Proof.Machine.execPerfSnapshot k s
  | .perfConfigure k => Sys2Proof.Machine.execPerfConfigure k s
  | .perfSetSample k => Sys2Proof.Machine.execPerfSetSample k s
  | .perfReadSamples k => Sys2Proof.Machine.execPerfReadSamples k s
  | .perfCounterOverflow c j address two => Sys2Proof.Machine.execPerfCounterOverflow c j address two s
  | .bootRomStart => Sys2Proof.Machine.execBootRomStart s
  | .signingStateReady => Sys2Proof.Machine.execSigningStateReady s
  | .secGetState k => Sys2Proof.Machine.execSecGetState k s
  | .secAttest k bad switched => Sys2Proof.Machine.execSecAttest k bad switched s
  | .secSetLifecycle k ok => Sys2Proof.Machine.execSecSetLifecycle k ok s
  | .secSetOwnerKey k => Sys2Proof.Machine.execSecSetOwnerKey k s
  | .testStart k => Sys2Proof.Machine.execTestStart k s
  | .testAbort k => Sys2Proof.Machine.execTestAbort k s
  | .testGetResult k => Sys2Proof.Machine.execTestGetResult k s
  | .testCheckDone x => Sys2Proof.Machine.execTestCheckDone x s
  | .testComplete => Sys2Proof.Machine.execTestComplete s
  | .imageBegin k => Sys2Proof.Machine.execImageBegin k s
  | .imageWrite k => Sys2Proof.Machine.execImageWrite k s
  | .imageGetStatus k => Sys2Proof.Machine.execImageGetStatus k s
  | .imageActivate k => Sys2Proof.Machine.execImageActivate k s
  | .imageConfirm k => Sys2Proof.Machine.execImageConfirm k s
  | .imageAbort k => Sys2Proof.Machine.execImageAbort k s
  | .imageSetRelay k => Sys2Proof.Machine.execImageSetRelay k s
  | .headerVerdict => Sys2Proof.Machine.execHeaderVerdict s
  | .sectorWriteDone ok => Sys2Proof.Machine.execSectorWriteDone ok s
  | .bodyVerifyDone ok => Sys2Proof.Machine.execBodyVerifyDone ok s
  | .coreSwapDone => Sys2Proof.Machine.execCoreSwapDone s
  | .hostSourceTimeout => Sys2Proof.Machine.execHostSourceTimeout s
  | .hello q payload crc => Sys2Proof.Machine.execHello q payload crc s
  | .offer q payload crc => Sys2Proof.Machine.execOffer q payload crc s
  | .data q payload crc => Sys2Proof.Machine.execData q payload crc s
  | .ack q payload crc => Sys2Proof.Machine.execAck q payload crc s
  | .nak q payload crc => Sys2Proof.Machine.execNak q payload crc s
  | .refillReq q payload crc => Sys2Proof.Machine.execRefillReq q payload crc s
  | .abort q payload crc => Sys2Proof.Machine.execAbort q payload crc s
  | .helloRepeat q => Sys2Proof.Machine.execHelloRepeat q s
  | .relayResendTimeout q => Sys2Proof.Machine.execRelayResendTimeout q s
  | .relaySourceTimeout q sender => Sys2Proof.Machine.execRelaySourceTimeout q sender s
  | .relayPortDown q => Sys2Proof.Machine.execRelayPortDown q s
  | .relayPortUp q => Sys2Proof.Machine.execRelayPortUp q s
  | .refillRetry => Sys2Proof.Machine.execRefillRetry s
  | .loaderRefillRetry => Sys2Proof.Machine.execLoaderRefillRetry s
  | .adaptationUpdate p raw => Sys2Proof.Machine.execAdaptationUpdate p raw s
  | .laneOffExitDone p => Sys2Proof.Machine.execLaneOffExitDone p s
  | .saveSlotWritten scope idx => Sys2Proof.Machine.execSaveSlotWritten scope idx s
  | .clockStretchLimit => Sys2Proof.Machine.execClockStretchLimit s

end Sys2Proof.Machine
end

