-- ==== Sys2Proof/Machine/Tick.lean ====
section
/-!
DEFINITION. What a CK_MGMT cycle does by itself, with no command waiting: DEVICE_TIME (R300), the cores' counters (R377), and
what lanes in TUNE and TRANSPARENT send (R132, R133). Every other timed effect is a row of the opcode table.
-/
namespace Sys2Proof.Machine

/-- Cycles of a core's clock in one CK_MGMT cycle: CK_CPU runs at twice its rate (Table 10-1). -/
def coreRate (c : Core) : Nat := if 186 ≤ c.val ∧ c.val < 190 then 1 else 2

/-- The condition a selector names, in the core's cycle `n`; selector 7 counts at command starts (Table 12-16). -/
def conditionOf (c : Core) (sel : Byte) (n : BitVec 64) : Bool :=
  if sel = 0 ∨ sel = 7 then false else Config.condition c.val sel.toNat n

/-- A programmable counter over one cycle (R377). -/
def PerfCounter.count1 (x : PerfCounter) (holds : Bool) : PerfCounter :=
  if (if x.level then holds else holds && !x.prev) then
    { x with count := x.count + 1, prev := holds, overflowed := x.overflowed || decide (x.count + 1 = 0) }
  else { x with prev := holds }

/-- One cycle of a core's clock. -/
def PerfUnit.cycle (u : PerfUnit) (c : Core) : PerfUnit :=
  { u with cycles := u.cycles + 1, before := none, pc := u.pc.map fun x => x.count1 (conditionOf c x.sel u.cycles) }

/-- The counters of a core over one CK_MGMT cycle; they stop while its clock is gated, and a core in reset holds them clear. -/
def State.countCore (s : State) (c : Core) : PerfUnit :=
  if s.coreGated c ∨ s.coreHeld c ∨ (s.coreOf c).state = .restarting ∨ (s.coreOf c).state = .retired then s.perf c
  else if coreRate c = 1 then (s.perf c).cycle c
  else ((s.perf c).cycle c).cycle c

/-- The next n bits of a TRANSPARENT lane: host bits while there are some, else underrun fill, whose keystream restarts where the
buffer empties (R133). With them the transmitter after them and the symbols of fill. -/
def TxLane.nextBits (t : TxLane) (n : Nat) : List Bool × TxLane × Nat :=
  if ¬ t.elasticOn then
    let k := keyBits t.keys n
    (k.1, { t with keys := k.2 }, n / 2)
  else
    let got := bitsOfNats 8 ((t.elastic.take (n / 8)).map (·.toNat))
    let left := n - got.length
    if left = 0 then (got, { t with elastic := t.elastic.drop (n / 8) }, 0)
    else
      let k := keyBits (2 ^ 31 - 1) left
      (got ++ k.1, { t with elastic := [], elasticOn := false, dry := true, keys := k.2 }, left / 2)

/-- A TRANSPARENT lane sends two bits in every symbol, precoded as Table 4-11 says; credits are granted for the space freed (R133). -/
def State.sendTransparent (s : State) (p : Phys) : State :=
  let n := s.symsPerCycle p
  let old := (s.txl p).line
  let x := (s.txl p).nextBits (2 * n)
  let pre := match s.workOf p with
    | some w => (s.wk w).fec.preTx
    | none => false
  let last : Nat := match old.getLast? with
    | some a => ((a + 3) / 2).toNat
    | none => 0
  let s := (s.modTx p fun _ => x.2.1).modTxDiag p fun d => { d with underrun := satW 32 (d.underrun + x.2.2) }
  let s := s.putLine p (s.txSym p) old (bitLevels pre last x.1).1
  match s.workOf p with
  | some w => s.grant w
  | none => s

/-- A lane in TUNE sends the training sequence while its signal is asked for, restarting every 3,328 symbols (Table 5-4). -/
def State.sendTraining (s : State) (p : Phys) : State :=
  let n := s.symsPerCycle p
  let t := s.txl p
  let new := (List.range n).map fun i => trainingSymbols.getD ((t.trainPos + i) % 3328) 0
  (s.modTx p fun t => { t with trainPos := (t.trainPos + n) % 3328 }).putLine p (s.txSym p) t.line new

/-- What a lane sends in one CK_MGMT cycle where no row of the table says it: TUNE and TRANSPARENT (R132, R133). -/
def State.sendCycle (s : State) (p : Phys) : State :=
  let m := s.modeOf p
  if m ≠ .tune ∧ m ≠ .transparent then s
  else if s.zeroScale p then (s.endLine p).modTx p fun t => { t with trainPos := 0 }
  else if m = .tune then s.sendTraining p
  else s.sendTransparent p

/-- One CK_MGMT cycle. -/
def State.tick (s : State) : State :=
  if ¬ s.sys.clk.counting then s
  else
    let counters : Vector PerfUnit 192 := Vector.ofFn s.countCore
    let s := s.modCtl fun c => { c with perf := counters }
    let s := s.each physAll fun p s => s.sendCycle p
    s.modClk fun c => { c with deviceTime := c.deviceTime + 1 }

end Sys2Proof.Machine
end

