-- ==== Sys2Proof/Safety.lean ====
section
/-!
DEFINITION. What a safe run is, in the terms the statements use: a step that answers a next state, and the invariants of a
state that every step keeps.
-/
namespace Sys2Proof.Machine

/-! Frames. -/

/-- The parts of the state that frames speak of. -/
inductive Part where
  /-- SYS_LOCK -/
  | lock
  /-- bus registers, indirect windows, held rings, doorbells taken and the record of the bus pins -/
  | bus
  /-- mailbox sessions -/
  | sess
  /-- event queue and interrupt pins -/
  | ev
  /-- performance counters -/
  | perf
  /-- state snapshot -/
  | snap
  /-- supplies and reset pins -/
  | pins
  /-- clocks and time -/
  | clk
  /-- cores -/
  | core
  /-- device power -/
  | power
  /-- AVSBus master -/
  | avs
  /-- SRAM arrays -/
  | mem
  /-- FW_READY -/
  | fwReady
  /-- control restart -/
  | ctlRestart
  /-- OTP -/
  | otp
  /-- manufacture values -/
  | made
  /-- identity signing -/
  | signing
  /-- running self-test -/
  | selfTest
  /-- external flash -/
  | flash
  /-- image update and relay -/
  | img
  /-- lane modes and power -/
  | lane
  /-- line receive -/
  | rx
  /-- burst acquisition -/
  | acq
  /-- decoding -/
  | dec
  /-- line transmit -/
  | tx
  /-- working lanes -/
  | work
  /-- portrait gallery -/
  | gallery
  /-- epoch timing -/
  | epoch
  /-- host groups -/
  | group
  /-- bias outputs -/
  | bias
  /-- monitor units -/
  | mon
  /-- TRIG pins -/
  | trigPins
  /-- filter channels -/
  | filter
  /-- temperature and throttling -/
  | therm
  /-- calibration -/
  | cal
  /-- ageing -/
  | age
  /-- count of free values drawn -/
  | free
  /-- command queue -/
  | pending
deriving DecidableEq, Repr

/-- Two states agree in a part. -/
abbrev Part.same (q : Part) (s t : State) : Prop :=
  match q with
  | .lock => t.ctl.sysLock = s.ctl.sysLock
  | .bus => (t.ctl.bus, t.ctl.indSpi, t.ctl.indSmb, t.ctl.busOut, t.ctl.heldRings, t.ctl.nextTurn) =
      (s.ctl.bus, s.ctl.indSpi, s.ctl.indSmb, s.ctl.busOut, s.ctl.heldRings, s.ctl.nextTurn)
  | .sess => t.ctl.sess = s.ctl.sess
  | .ev => t.ctl.ev = s.ctl.ev
  | .perf => t.ctl.perf = s.ctl.perf
  | .snap => (t.ctl.snap, t.ctl.snapSeq) = (s.ctl.snap, s.ctl.snapSeq)
  | .pins => t.sys.pins = s.sys.pins
  | .clk => t.sys.clk = s.sys.clk
  | .core => t.sys.core = s.sys.core
  | .power => t.sys.power = s.sys.power
  | .avs => t.sys.avs = s.sys.avs
  | .mem => t.sys.mem = s.sys.mem
  | .fwReady => t.sys.fwReady = s.sys.fwReady
  | .ctlRestart => t.sys.ctlRestart = s.sys.ctlRestart
  | .otp => t.sec.otp = s.sec.otp
  | .made => t.sec.made = s.sec.made
  | .signing => (t.sec.nextIndex, t.sec.signReady, t.sec.low1024, t.sec.low256) =
      (s.sec.nextIndex, s.sec.signReady, s.sec.low1024, s.sec.low256)
  | .selfTest => t.sec.test = s.sec.test
  | .flash => t.sec.flash = s.sec.flash
  | .img => t.sec.img = s.sec.img
  | .lane => t.lane = s.lane
  | .rx => t.rx = s.rx
  | .acq => t.acq = s.acq
  | .dec => t.dec = s.dec
  | .tx => t.tx = s.tx
  | .work => t.work = s.work
  | .gallery => t.gallery = s.gallery
  | .epoch => t.epoch = s.epoch
  | .group => t.group = s.group
  | .bias => (t.photon.bias, t.photon.aggLimit) = (s.photon.bias, s.photon.aggLimit)
  | .mon => (t.photon.mon, t.photon.lastConv) = (s.photon.mon, s.photon.lastConv)
  | .trigPins => t.photon.pins = s.photon.pins
  | .filter => (t.photon.filter, t.photon.banks) = (s.photon.filter, s.photon.banks)
  | .therm => t.therm = s.therm
  | .cal => t.cal = s.cal
  | .age => t.age = s.age
  | .free => t.free = s.free
  | .pending => t.pending = s.pending

/-- The states agree in every part but the listed ones. -/
def SameBut (ps : List Part) (s t : State) : Prop := ∀ q, q ∉ ps → q.same s t

end Sys2Proof.Machine

namespace Sys2Proof
open Sys2Proof.Machine

/-- The parts a command may change; every other part it leaves as it is. -/
def Instr.touches (i : Instr) : List Part :=
  match i with
  | .laneSetMode _ => [.sess, .ev, .core, .power, .mem, .lane, .rx, .acq, .dec, .tx, .work, .gallery, .group, .bias, .trigPins, .cal, .free]
  | .laneTrain _ => [.sess, .ev, .lane, .tx, .trigPins, .cal]
  | .laneTrainingDone _ _ _ => [.sess, .ev, .core, .power, .mem, .lane, .rx, .acq, .dec, .tx, .work, .gallery, .group, .bias, .trigPins, .cal, .free]
  | .laneTrainTimeout _ _ => [.sess, .ev, .core, .power, .mem, .lane, .rx, .acq, .dec, .tx, .work, .gallery, .group, .bias, .trigPins, .cal, .free]
  | .laneReset _ => [.sess, .ev, .perf, .clk, .core, .power, .mem, .lane, .rx, .acq, .dec, .tx, .work, .gallery, .group, .bias, .trigPins, .cal, .free]
  | .laneResetDone _ _ => [.sess, .ev, .perf, .clk, .core, .power, .mem, .lane, .rx, .acq, .dec, .tx, .work, .gallery, .group, .bias, .trigPins, .cal, .free]
  | .laneGetStatus _ => [.sess, .ev, .trigPins]
  | .laneSetStation _ => [.sess, .ev, .work, .trigPins]
  | .laneSetRx _ => [.sess, .ev, .rx, .tx, .trigPins]
  | .laneLoadRxPalette _ => [.sess, .ev, .rx, .trigPins]
  | .laneGetRxDiag _ => [.sess, .ev, .rx, .trigPins]
  | .laneSwapPalette _ => [.sess, .ev, .rx, .trigPins]
  | .laneCaptureFlipbook _ => [.sess, .ev, .lane, .rx, .trigPins]
  | .laneReadFlipbook _ _ => [.sess, .ev, .mem, .rx, .trigPins]
  | .laneSetBurst _ => [.sess, .ev, .work, .trigPins]
  | .laneGetBurstLog _ _ => [.sess, .ev, .mem, .trigPins]
  | .laneGetBurstCounters _ => [.sess, .ev, .work, .trigPins]
  | .laneSetFec _ => [.sess, .ev, .work, .trigPins]
  | .laneGetFecStats _ => [.sess, .ev, .work, .trigPins]
  | .laneSetTx _ => [.sess, .ev, .tx, .trigPins]
  | .laneLoadTxPalette _ => [.sess, .ev, .tx, .trigPins]
  | .laneGetTxDiag _ => [.sess, .ev, .tx, .trigPins]
  | .laneSwapTxPalette _ => [.sess, .ev, .tx, .trigPins]
  | .laneSetPredistort _ => [.sess, .ev, .tx, .trigPins]
  | .laneSetTxBurst _ => [.sess, .ev, .work, .trigPins]
  | .drainComplete _ => [.sess, .ev, .core, .power, .mem, .lane, .rx, .acq, .dec, .tx, .work, .gallery, .group, .bias, .trigPins, .cal, .free]
  | .drainTimeout _ => [.sess, .ev, .lane, .group, .trigPins]
  | .coreCoverDone _ => [.ev, .core, .rx, .bias, .trigPins]
  | .losBlockEnd _ => [.sess, .ev, .mem, .rx, .dec, .work, .group, .mon, .trigPins]
  | .agcUpdate _ _ => [.rx]
  | .estimationWindowEnd _ => [.rx]
  | .estimationWindowStarved _ => [.ev, .rx, .trigPins, .cal]
  | .estimatorIteration _ => [.ev, .rx, .trigPins, .cal]
  | .calSetApply _ _ => [.ev, .rx, .trigPins, .cal]
  | .pilotEvaluation _ _ => [.sess, .ev, .mem, .rx, .dec, .work, .group, .trigPins]
  | .acqLimitExpiry _ => [.ev, .rx, .trigPins]
  | .convergeLock _ => [.ev, .rx, .trigPins]
  | .fadeStart _ => [.ev, .rx, .trigPins]
  | .fadeMidpoint _ => [.rx]
  | .fadeEnd _ => [.ev, .rx, .trigPins]
  | .flipbookTrigger _ _ => [.rx]
  | .flipbookCaptureComplete _ => [.rx]
  | .correlatorPeak _ _ _ _ _ _ _ => [.sess, .ev, .mem, .rx, .acq, .dec, .work, .gallery, .group, .trigPins]
  | .powerDetectorTrigger _ _ => [.acq]
  | .fallbackStart _ _ => [.ev, .mem, .rx, .acq, .work, .trigPins]
  | .fallbackQualificationExpiry _ => [.sess, .ev, .mem, .rx, .acq, .dec, .work, .gallery, .group, .trigPins]
  | .powerDetectorRearm _ _ => [.sess, .ev, .mem, .rx, .acq, .dec, .work, .gallery, .group, .trigPins]
  | .coldTrainingStart _ => [.rx, .acq]
  | .coldTrainingEnd _ => [.acq]
  | .preambleEndPassed _ => [.acq]
  | .syncDetected _ _ => [.acq]
  | .syncDeadlineExpiry _ => [.sess, .ev, .mem, .rx, .acq, .dec, .work, .gallery, .group, .trigPins]
  | .headerDecoded _ _ => [.sess, .ev, .mem, .rx, .acq, .dec, .work, .gallery, .group, .trigPins]
  | .replayStart _ _ _ => [.sess, .ev, .mem, .rx, .acq, .dec, .work, .gallery, .group, .trigPins]
  | .galleryFetchDone _ _ => [.sess, .ev, .mem, .acq, .work, .gallery, .trigPins]
  | .galleryFetchService => [.gallery]
  | .portraitPrefetch _ _ => [.ev, .mem, .acq, .work, .gallery, .trigPins]
  | .predictedAnalogueLoad _ _ => [.ev, .mem, .rx, .acq, .trigPins]
  | .rxWindowOpen _ _ => [.acq]
  | .rxWindowClose _ => [.acq]
  | .payloadEnd _ _ => [.acq]
  | .postambleCheck _ => [.rx, .acq]
  | .burstOutcome _ _ _ _ => [.sess, .ev, .perf, .clk, .core, .power, .mem, .lane, .rx, .acq, .dec, .tx, .work, .gallery, .group, .bias, .trigPins, .cal, .free]
  | .portraitWriteback _ => [.ev, .mem, .acq, .work, .gallery, .trigPins]
  | .eventHoldoffExpiry _ _ => [.ev, .trigPins]
  | .portraitSetQuota _ => [.sess, .ev, .mem, .acq, .work, .gallery, .trigPins]
  | .portraitSetBase _ => [.sess, .ev, .rx, .work, .trigPins]
  | .portraitRead _ => [.sess, .ev, .gallery, .trigPins]
  | .portraitWrite _ => [.sess, .ev, .mem, .acq, .work, .gallery, .trigPins]
  | .portraitEvict _ => [.sess, .ev, .mem, .acq, .work, .gallery, .trigPins]
  | .portraitProtect _ => [.sess, .ev, .mem, .acq, .gallery, .trigPins]
  | .portraitList _ _ => [.sess, .ev, .mem, .acq, .work, .gallery, .trigPins]
  | .innerCwDecoded _ _ _ => [.ev, .dec, .work, .trigPins]
  | .outerCwDecoded _ => [.ev, .acq, .dec, .work, .trigPins]
  | .alignmentMarker _ _ _ _ => [.sess, .ev, .power, .mem, .lane, .rx, .dec, .tx, .work, .group, .bias, .trigPins]
  | .markerMissing _ => [.sess, .ev, .mem, .rx, .dec, .work, .group, .trigPins]
  | .delineationHeader _ => [.ev, .dec, .work, .trigPins]
  | .frameCheck _ _ => [.sess, .ev, .mem, .acq, .dec, .tx, .work, .group, .trigPins]
  | .sketchCandidate _ _ => [.mem, .dec, .work, .group]
  | .sketchResolved _ => [.sess, .ev, .mem, .dec, .work, .group, .trigPins]
  | .marginWindowEnd _ => [.sess, .ev, .core, .power, .mem, .lane, .rx, .acq, .dec, .tx, .work, .gallery, .group, .bias, .trigPins, .cal, .age]
  | .txSettingApply _ => [.tx]
  | .predistortApply _ _ => [.ev, .tx, .trigPins]
  | .txFadeStart _ => [.ev, .tx, .trigPins]
  | .txFadeMidpoint _ => [.tx]
  | .txFadeEnd _ => [.ev, .tx, .trigPins]
  | .txDriverFault _ _ _ => [.sess, .ev, .core, .power, .mem, .lane, .rx, .acq, .dec, .tx, .work, .gallery, .group, .bias, .mon, .trigPins, .cal, .free]
  | .txFaultDeclaration _ => [.sess, .ev, .core, .power, .mem, .lane, .rx, .acq, .dec, .tx, .work, .gallery, .group, .bias, .trigPins, .cal]
  | .transparentStart _ => [.tx]
  | .transparentUnderrun _ => [.ev, .tx, .trigPins]
  | .superframeBoundary _ _ => [.ev, .mem, .tx, .work, .group, .trigPins, .therm]
  | .burstFreeze _ _ _ _ => [.ev, .mem, .tx, .work, .group, .trigPins]
  | .burstSendStart _ => [.ev, .tx, .work, .trigPins]
  | .burstSendEnd _ => [.sess, .ev, .perf, .clk, .core, .power, .mem, .lane, .rx, .acq, .dec, .tx, .work, .gallery, .group, .bias, .trigPins, .therm, .cal, .free]
  | .fabsyncEdge _ => [.sess, .ev, .core, .power, .mem, .lane, .rx, .acq, .dec, .tx, .work, .gallery, .epoch, .group, .bias, .trigPins, .cal, .free]
  | .fabsyncMissDecision => [.sess, .ev, .core, .power, .mem, .lane, .rx, .acq, .dec, .tx, .work, .gallery, .epoch, .group, .bias, .trigPins, .cal, .free]
  | .armDeadline _ _ => [.lane, .work]
  | .schedSetEpoch _ => [.sess, .ev, .epoch, .trigPins]
  | .schedLoad _ => [.sess, .ev, .mem, .work, .trigPins]
  | .schedArm _ => [.sess, .ev, .lane, .work, .trigPins]
  | .schedDisarm _ => [.sess, .ev, .work, .trigPins]
  | .schedGetStatus _ => [.sess, .ev, .trigPins]
  | .schedRead _ => [.sess, .ev, .trigPins]
  | .openBurstChoice _ _ => [.ev, .mem, .tx, .work, .group, .trigPins]
  | .openHoldExpiry _ _ => [.work]
  | .backoffExpiry _ _ => [.work]
  | .frameAccepted _ _ => [.ev, .mem, .work, .group, .trigPins]
  | .rtoExpiry _ _ _ => [.ev, .mem, .tx, .work, .group, .trigPins]
  | .ackIntervalExpiry _ _ => [.work]
  | .ctxIdleExpiry _ _ _ => [.sess, .ev, .mem, .work, .group, .trigPins]
  | .losSpareDelayExpiry _ => [.sess, .ev, .core, .power, .mem, .lane, .rx, .acq, .dec, .tx, .work, .gallery, .group, .bias, .trigPins, .cal]
  | .failureMoveMap _ => [.sess, .ev, .core, .power, .mem, .lane, .rx, .acq, .dec, .tx, .work, .gallery, .group, .bias, .trigPins, .cal, .free]
  | .moveSettleExpiry _ => [.sess, .ev, .core, .power, .mem, .lane, .rx, .acq, .dec, .tx, .work, .gallery, .group, .bias, .trigPins, .cal, .free]
  | .moveLimitExpiry _ => [.sess, .ev, .core, .power, .mem, .lane, .rx, .acq, .dec, .tx, .work, .gallery, .group, .bias, .trigPins, .cal, .free]
  | .moveSwitchZeroScale _ => [.sess, .ev, .core, .power, .mem, .lane, .rx, .acq, .dec, .tx, .work, .gallery, .group, .bias, .trigPins, .cal, .free]
  | .deliverySetRetention _ => [.sess, .ev, .mem, .work, .group, .trigPins]
  | .deliverySetTimers _ => [.sess, .ev, .work, .trigPins]
  | .deliverySetQuota _ => [.sess, .ev, .work, .trigPins]
  | .deliverySetSketch _ => [.sess, .ev, .work, .trigPins]
  | .deliverySetSparePolicy _ => [.sess, .ev, .work, .trigPins]
  | .deliveryReleasePeer _ => [.sess, .ev, .mem, .work, .group, .trigPins]
  | .deliverySpareMove _ => [.sess, .ev, .core, .power, .mem, .lane, .rx, .acq, .dec, .tx, .work, .gallery, .group, .bias, .trigPins, .cal, .free]
  | .deliveryReintegrate _ => [.sess, .ev, .core, .power, .mem, .lane, .rx, .acq, .dec, .tx, .work, .gallery, .group, .bias, .trigPins, .cal, .free]
  | .deliveryGetMap _ => [.sess, .ev, .trigPins]
  | .deliveryGetStatus _ => [.sess, .ev, .work, .trigPins]
  | .txBlockStart _ _ => [.sess, .ev, .core, .power, .mem, .lane, .rx, .acq, .dec, .tx, .work, .gallery, .group, .bias, .trigPins, .therm, .cal]
  | .commaReceived _ _ => [.sess, .ev, .core, .power, .mem, .selfTest, .flash, .lane, .rx, .acq, .dec, .tx, .work, .gallery, .group, .bias, .mon, .trigPins, .filter, .therm, .cal]
  | .swatchReceived _ => [.sess, .ev, .core, .power, .mem, .selfTest, .flash, .img, .lane, .rx, .acq, .dec, .tx, .work, .gallery, .group, .bias, .mon, .trigPins, .filter, .therm, .cal, .free]
  | .replayTimeout _ => [.group]
  | .repairReq _ _ => [.sess, .ev, .core, .power, .mem, .lane, .rx, .acq, .dec, .tx, .work, .gallery, .group, .bias, .trigPins, .cal]
  | .idleEnter _ => [.group]
  | .retrainReq _ => [.ev, .power, .group, .trigPins]
  | .spareOk _ _ => [.group]
  | .trainPhaseLock _ => [.group]
  | .trainLimitExpiry _ => [.ev, .group, .trigPins]
  | .wanderLimit _ => [.ev, .power, .group, .trigPins]
  | .hckrxStop _ => [.ev, .power, .group, .trigPins]
  | .txElectricalIdleEntry _ => [.ev, .power, .group, .trigPins]
  | .txWake _ => [.ev, .power, .group, .trigPins]
  | .rxWakeBurst _ => [.ev, .group, .trigPins]
  | .rxWakeCommaTimeout _ => [.ev, .power, .group, .trigPins]
  | .hostLaneFail _ _ _ => [.sess, .ev, .core, .power, .mem, .selfTest, .flash, .lane, .rx, .acq, .dec, .tx, .work, .gallery, .group, .bias, .mon, .trigPins, .filter, .therm, .cal]
  | .spareSubstitution _ => [.sess, .ev, .core, .power, .mem, .selfTest, .flash, .lane, .rx, .acq, .dec, .tx, .work, .gallery, .group, .bias, .mon, .trigPins, .filter, .therm, .cal]
  | .clockMove _ => [.ev, .power, .mem, .selfTest, .flash, .lane, .rx, .acq, .tx, .work, .gallery, .group, .bias, .mon, .trigPins, .filter, .therm]
  | .groupIdleTimerExpiry _ => [.group]
  | .hostTrain _ => [.sess, .ev, .core, .power, .mem, .lane, .rx, .acq, .dec, .tx, .work, .gallery, .group, .bias, .trigPins, .cal]
  | .hostSetLink _ => [.sess, .ev, .group, .trigPins]
  | .hostSetTx _ => [.sess, .ev, .group, .trigPins]
  | .hostRepair _ => [.sess, .ev, .core, .power, .mem, .selfTest, .flash, .lane, .rx, .acq, .dec, .tx, .work, .gallery, .group, .bias, .mon, .trigPins, .filter, .therm, .cal]
  | .hostSetLoopback _ => [.sess, .ev, .power, .group, .bias, .trigPins]
  | .hostGetStatus _ => [.sess, .ev, .group, .trigPins]
  | .hostResetGroup _ => [.sess, .ev, .perf, .clk, .core, .mem, .group, .trigPins]
  | .groupResetDone _ _ => [.sess, .ev, .clk, .core, .power, .mem, .lane, .rx, .acq, .dec, .tx, .work, .gallery, .group, .bias, .trigPins, .cal]
  | .hostSetPower _ => [.sess, .ev, .core, .power, .mem, .lane, .rx, .acq, .dec, .tx, .work, .gallery, .group, .bias, .trigPins, .cal]
  | .biasWrite _ => [.sess, .ev, .bias, .trigPins]
  | .biasSetLimits _ => [.sess, .ev, .bias, .trigPins]
  | .biasSetRange _ => [.sess, .ev, .bias, .trigPins, .filter]
  | .biasClearFault _ _ => [.sess, .ev, .bias, .mon, .trigPins]
  | .biasSetSafe _ => [.sess, .ev, .bias, .trigPins]
  | .biasSetAggLimit _ => [.sess, .ev, .bias, .trigPins]
  | .biasGetStatus _ => [.sess, .ev, .trigPins]
  | .biasSetLoop _ => [.sess, .ev, .bias, .trigPins]
  | .biasLoopCtrl _ => [.sess, .ev, .bias, .mon, .trigPins]
  | .biasCodeApply _ => [.bias, .trigPins, .filter]
  | .deglitchStep _ => [.bias, .trigPins, .filter]
  | .rangeChangeDone _ => [.sess, .ev, .bias, .trigPins, .filter]
  | .biasFault _ => [.sess, .ev, .bias, .mon, .trigPins, .filter]
  | .biasSupplyLow _ => [.sess, .ev, .pins, .bias, .mon, .trigPins, .filter]
  | .supplyGate _ _ => [.pins, .clk, .power, .mem, .lane, .rx, .tx, .group, .bias, .trigPins, .filter]
  | .monSetPair _ => [.sess, .ev, .mon, .trigPins]
  | .monSetSeq _ => [.sess, .ev, .mon, .trigPins]
  | .monStart _ => [.sess, .ev, .mon, .trigPins]
  | .monStop _ => [.sess, .ev, .mon, .trigPins]
  | .monInject _ => [.sess, .ev, .mon, .trigPins]
  | .monReadChannel _ => [.sess, .ev, .mon, .trigPins]
  | .monReadChannelTimeout _ _ => [.sess, .ev, .mon, .trigPins]
  | .monSetFrame _ => [.sess, .ev, .mon, .trigPins]
  | .monReadResults _ => [.sess, .ev, .mon, .trigPins]
  | .monGetStatus _ => [.sess, .ev, .mon, .trigPins]
  | .monSetPin _ => [.sess, .ev, .trigPins]
  | .loopSlotStart _ _ => [.mon, .therm]
  | .conversionDone _ _ => [.bus, .sess, .ev, .bias, .mon, .trigPins, .filter]
  | .trigEdge _ _ => [.ev, .mon, .trigPins]
  | .trigPulseEnd _ => [.trigPins]
  | .filterOutputRelease _ => [.ev, .trigPins, .filter]
  | .dcFreezeExpiry _ => [.filter]
  | .filterSetChannel _ => [.sess, .ev, .trigPins, .filter]
  | .filterLoadCoeff _ => [.sess, .ev, .trigPins, .filter]
  | .filterFreezeDc _ => [.sess, .ev, .trigPins, .filter]
  | .filterRead _ => [.sess, .ev, .trigPins, .filter]
  | .ditherHalfPeriod _ => [.bias]
  | .loopUpdate _ => [.ev, .bias, .trigPins]
  | .sensorSample _ => [.ev, .trigPins, .therm, .cal]
  | .powerMeasurement _ _ _ => [.therm]
  | .throttleTick _ => [.ev, .mem, .selfTest, .flash, .lane, .rx, .acq, .tx, .work, .gallery, .group, .bias, .mon, .trigPins, .filter, .therm]
  | .tripSample => [.sess, .ev, .core, .power, .mem, .selfTest, .flash, .lane, .rx, .acq, .dec, .tx, .work, .gallery, .group, .bias, .mon, .trigPins, .filter, .therm, .cal, .free]
  | .tripRecoverTimer => [.bias, .trigPins, .filter, .therm]
  | .tripRecoveryPowerUp => [.ev, .rx, .tx, .work, .group, .bias, .trigPins, .therm, .cal]
  | .pllTrimStep => [.therm]
  | .calRunStart => [.cal]
  | .calPeriodExpiry _ => [.cal]
  | .wearMeasurement _ _ => [.ev, .trigPins, .age]
  | .marginPlan _ _ => [.sess, .ev, .core, .power, .avs, .mem, .lane, .rx, .acq, .dec, .tx, .work, .gallery, .group, .bias, .trigPins, .cal, .age]
  | .planWriteDone => [.ev, .trigPins, .age]
  | .calRunLane _ => [.sess, .ev, .lane, .trigPins, .cal]
  | .calSetTriggers _ => [.sess, .ev, .trigPins, .cal]
  | .calPinLane _ => [.sess, .ev, .lane, .trigPins, .cal]
  | .calSetFloor _ => [.sess, .ev, .work, .trigPins]
  | .calGetStatus _ => [.sess, .ev, .trigPins]
  | .calPlanNow _ => [.sess, .ev, .trigPins, .age]
  | .calGetAgeing _ => [.sess, .ev, .trigPins]
  | .calSetEstimator _ => [.sess, .ev, .rx, .trigPins]
  | .thermGetStatus _ => [.sess, .ev, .trigPins]
  | .thermSetLimits _ => [.sess, .ev, .trigPins, .therm]
  | .thermRestoreSensor _ => [.sess, .ev, .trigPins, .therm]
  | .thermClearTrip _ => [.sess, .ev, .bias, .trigPins, .filter, .therm]
  | .porstNAssert => [.lock, .bus, .sess, .ev, .perf, .snap, .pins, .clk, .core, .power, .avs, .mem, .fwReady,
      .ctlRestart, .signing, .selfTest, .img, .lane, .rx, .acq, .dec, .tx, .work, .gallery, .epoch, .group, .bias, .mon,
      .trigPins, .filter, .therm, .cal, .age]
  | .porstNRelease _ _ _ => [.pins, .clk, .work]
  | .rootPllLock => [.clk, .mem]
  | .timebaseLock => [.clk]
  | .pllLockLoss => [.lock, .bus, .sess, .ev, .perf, .snap, .pins, .clk, .core, .power, .avs, .mem, .fwReady,
      .ctlRestart, .signing, .selfTest, .img, .lane, .rx, .acq, .dec, .tx, .work, .gallery, .epoch, .group, .bias, .mon,
      .trigPins, .filter, .therm, .cal, .age]
  | .refLoss _ => [.ev, .clk, .trigPins]
  | .refValid _ => [.ev, .clk, .trigPins]
  | .aonFallbackSwitch => [.ev, .clk, .trigPins]
  | .aonTick => [.perf, .clk, .power, .lane, .tx, .group, .therm]
  | .crossingTimeout _ _ => [.sess, .ev, .trigPins]
  | .ctlrstNAssert => [.bus, .sess, .ev, .perf, .snap, .pins, .clk, .core, .power, .mem, .fwReady, .ctlRestart, .img,
      .lane, .work, .gallery, .group, .bias, .mon, .trigPins]
  | .ctlrstNRelease _ => [.ev, .pins, .clk, .core, .ctlRestart, .trigPins]
  | .ctlResetDone => [.bus, .sess, .ev, .perf, .snap, .fwReady, .ctlRestart, .trigPins]
  | .watchdogExpiry _ => [.sess, .ev, .perf, .clk, .core, .power, .mem, .selfTest, .flash, .lane, .rx, .acq, .dec, .tx, .work, .gallery, .group, .bias, .mon, .trigPins, .filter, .therm, .cal, .free]
  | .coreRejoin _ _ => [.bus, .sess, .ev, .perf, .clk, .core, .bias, .trigPins]
  | .hbeatToggle _ => [.pins]
  | .laneIdleTimerExpiry _ _ => [.ev, .power, .lane, .rx, .bias, .trigPins, .cal]
  | .laneIdleExit _ => [.ev, .power, .lane, .bias, .trigPins]
  | .laneDozeTimerExpiry _ => [.sess, .ev, .power, .mem, .lane, .rx, .acq, .dec, .work, .gallery, .group, .bias, .trigPins]
  | .laneDozeExitDone _ => [.ev, .power, .lane, .bias, .trigPins]
  | .quietTimerExpiry => [.ev, .power, .trigPins]
  | .powerSetTimers _ => [.sess, .ev, .power, .avs, .lane, .group, .trigPins]
  | .powerEnterDormant _ => [.sess, .ev, .power, .trigPins]
  | .dormantCommit => [.ev, .clk, .power, .avs, .bias, .trigPins]
  | .dormantReached => [.clk, .power]
  | .powerGetResidency _ => [.sess, .ev, .trigPins]
  | .wakeSource _ => [.bus, .sess, .ev, .perf, .pins, .power, .avs, .trigPins]
  | .wakeComplete _ => [.lock, .bus, .sess, .ev, .perf, .snap, .pins, .clk, .core, .power, .avs, .mem, .fwReady, .ctlRestart, .img, .lane, .work, .gallery, .group, .bias, .mon, .trigPins, .therm]
  | .avsAck _ => [.ev, .avs, .trigPins, .age]
  | .avsAckTimeout => [.ev, .avs, .trigPins, .age]
  | .avsSettleExpiry => [.ev, .avs, .trigPins]
  | .devCtlReset _ _ => [.bus, .sess, .ev, .perf, .snap, .pins, .clk, .core, .mem, .fwReady, .ctlRestart, .img, .lane,
      .work, .gallery, .group, .bias, .mon, .trigPins]
  | .devResetCore _ => [.sess, .ev, .perf, .clk, .core, .power, .mem, .selfTest, .flash, .lane, .rx, .acq, .dec, .tx, .work, .gallery, .group, .bias, .mon, .trigPins, .filter, .therm, .cal, .free]
  | .devSetWatchdog _ => [.sess, .ev, .core, .trigPins]
  | .devPublishSnapshot _ => [.sess, .ev, .snap, .trigPins]
  | .snapshotPublished => [.sess, .ev, .snap, .trigPins]
  | .devGetCores _ => [.sess, .ev, .trigPins]
  | .repairWrite _ => [.mem]
  | .poisonWrite _ => [.sess, .ev, .perf, .clk, .core, .power, .mem, .selfTest, .flash, .lane, .rx, .acq, .dec, .tx, .work, .gallery, .group, .bias, .mon, .trigPins, .filter, .therm, .cal, .free]
  | .scrubRead _ _ => [.ev, .mem, .trigPins]
  | .scrubLapLimit _ => [.ev, .mem, .trigPins]
  | .remapCopy _ => [.sess, .ev, .mem, .trigPins]
  | .remapRecord _ => [.flash]
  | .memGetStatus _ => [.sess, .ev, .mem, .trigPins]
  | .memSetScrub _ => [.sess, .ev, .mem, .trigPins]
  | .memRemap _ => [.sess, .ev, .mem, .trigPins]
  | .memInject _ => [.sess, .ev, .mem, .trigPins]
  | .spiWrite _ _ _ => [.lock, .bus, .sess, .ev, .perf, .trigPins]
  | .spiRead _ _ => [.bus, .sess, .ev, .clk, .mon, .trigPins]
  | .spiWriteC _ _ => [.lock, .bus, .sess, .ev, .perf, .trigPins]
  | .spiReadC _ _ _ => [.bus, .sess, .ev, .clk, .mon, .trigPins]
  | .smbusBlockWrite _ _ _ _ _ => [.lock, .bus, .sess, .ev, .perf, .trigPins]
  | .smbusProcessCall _ _ _ _ _ => [.bus, .sess, .ev, .clk, .mon, .trigPins]
  | .smbusTimeout => [.bus, .ev, .trigPins]
  | .registerWrite _ _ _ => [.lock, .bus, .sess, .ev, .perf, .trigPins]
  | .rcFieldRead _ _ => [.bus, .sess, .ev, .clk, .mon, .trigPins]
  | .indAddrWrite _ _ _ => [.lock, .bus, .sess, .ev, .perf, .trigPins]
  | .indPrefetchDone _ _ => [.bus]
  | .indDataRead _ => [.bus, .mon]
  | .indDataWrite _ _ => [.bus]
  | .indWriteApply _ => [.bus, .sess]
  | .sessionOpen _ _ _ _ _ => [.sess, .ev, .trigPins]
  | .sessionClose _ => [.sess, .ev, .trigPins]
  | .doorbellRing _ _ _ => [.bus, .sess, .ev, .perf, .trigPins]
  | .evqAck _ => [.ev]
  | .sessionGetChallenge _ => [.sess, .ev, .trigPins, .free]
  | .sessionAuth _ => [.sess, .ev, .trigPins]
  | .sessionStage _ => [.sess, .ev, .trigPins]
  | .eventRead _ => [.sess, .ev, .trigPins]
  | .eventAck _ => [.sess, .ev, .trigPins]
  | .perfListSelectors _ => [.sess, .ev, .trigPins]
  | .perfSnapshot _ => [.sess, .ev, .trigPins]
  | .perfConfigure _ => [.sess, .ev, .perf, .trigPins]
  | .perfSetSample _ => [.sess, .ev, .perf, .trigPins]
  | .perfReadSamples _ => [.sess, .ev, .perf, .trigPins]
  | .perfCounterOverflow _ _ _ _ => [.bus, .sess, .ev, .perf, .trigPins]
  | .bootRomStart => [.bus, .sess, .ev, .perf, .pins, .clk, .core, .avs, .mem, .fwReady, .otp, .signing, .flash, .img, .trigPins]
  | .signingStateReady => [.signing]
  | .secGetState _ => [.sess, .ev, .trigPins]
  | .secAttest _ _ _ => [.sess, .ev, .otp, .signing, .trigPins]
  | .secSetLifecycle _ _ => [.sess, .ev, .otp, .flash, .trigPins, .free]
  | .secSetOwnerKey _ => [.sess, .ev, .flash, .trigPins]
  | .testStart _ => [.sess, .ev, .selfTest, .flash, .lane, .group, .bias, .mon, .trigPins, .filter]
  | .testAbort _ => [.sess, .ev, .mem, .selfTest, .flash, .lane, .rx, .acq, .tx, .work, .gallery, .group, .bias, .mon, .trigPins, .filter, .therm]
  | .testGetResult _ => [.sess, .ev, .trigPins]
  | .testCheckDone _ => [.core, .mem, .selfTest, .group, .bias, .mon, .trigPins, .filter]
  | .testComplete => [.ev, .mem, .selfTest, .flash, .lane, .rx, .acq, .tx, .work, .gallery, .group, .bias, .mon, .trigPins, .filter, .therm]
  | .imageBegin _ => [.sess, .ev, .img, .trigPins]
  | .imageWrite _ => [.sess, .ev, .img, .trigPins]
  | .imageGetStatus _ => [.sess, .ev, .trigPins]
  | .imageActivate _ => [.sess, .ev, .flash, .img, .rx, .bias, .trigPins]
  | .imageConfirm _ => [.sess, .ev, .otp, .flash, .img, .trigPins]
  | .imageAbort _ => [.sess, .ev, .img, .trigPins]
  | .imageSetRelay _ => [.sess, .ev, .img, .trigPins]
  | .headerVerdict => [.ev, .flash, .img, .trigPins]
  | .sectorWriteDone _ => [.ev, .flash, .img, .trigPins]
  | .bodyVerifyDone _ => [.bus, .sess, .ev, .perf, .pins, .clk, .core, .avs, .mem, .fwReady, .signing, .flash, .img, .trigPins]
  | .coreSwapDone => [.ev, .core, .mem, .flash, .img, .rx, .bias, .trigPins]
  | .hostSourceTimeout => [.ev, .img, .trigPins]
  | .hello _ _ _ => [.img]
  | .offer _ _ _ => [.img]
  | .data _ _ _ => [.pins, .clk, .flash, .img]
  | .ack _ _ _ => [.ev, .img, .trigPins]
  | .nak _ _ _ => [.ev, .img, .trigPins]
  | .refillReq _ _ _ => [.img]
  | .abort _ _ _ => [.ev, .img, .trigPins]
  | .helloRepeat _ => [.ev, .img, .trigPins]
  | .relayResendTimeout _ => [.img]
  | .relaySourceTimeout _ _ => [.ev, .img, .trigPins]
  | .relayPortDown _ => [.ev, .img, .trigPins]
  | .relayPortUp _ => [.img]
  | .refillRetry => [.img]
  | .loaderRefillRetry => [.img]
  | .adaptationUpdate _ _ => [.ev, .mem, .rx, .acq, .group, .trigPins]
  | .laneOffExitDone _ => [.ev, .power, .mem, .lane, .rx, .tx, .bias, .trigPins]
  | .saveSlotWritten _ _ => [.sess, .ev, .power, .mem, .lane, .rx, .acq, .work, .gallery, .group, .bias, .trigPins]
  | .clockStretchLimit => [.bus, .ev, .pins, .trigPins]

end Sys2Proof

namespace Sys2Proof.Machine

/-! Completion and invariants. -/

/-- Session `k` holds the command `code` with arguments `a`: accepted, not started yet, no close is pending (R368), and its turn has
come: its pair has an active core, and no command on the same unit waits whose doorbell was taken before (R369). -/
abbrev State.holds (s : State) (k : Sess) (code : Nat) (a : Bytes) : Prop :=
  (s.sess k).cmd.map (fun c => (c.code, c.args, c.started)) = some (code, a, false) ∧ (s.sess k).closePending = false ∧
    s.turn k = true

/-- The session is IDLE with the response of `code`: its result, DETAIL and data (R368 step 7). -/
abbrev State.answered (t : State) (k : Sess) (code : Nat) (r : Result) (detail : Nat) (data : Bytes) : Prop :=
  (t.sess k).phase = .idle ∧ (t.sess k).cmd = none ∧ (t.sess k).result = BitVec.ofNat 8 r.code ∧
    (t.sess k).resp.map (fun x => (x.code, x.result, x.detail, x.data)) =
      some (BitVec.ofNat 16 code, r, BitVec.ofNat 32 detail, data)

/-- The session stays BUSY with the command `code` carried out and its response due with a later event (R386). -/
abbrev State.waits (t : State) (k : Sess) (code : Nat) : Prop :=
  (t.sess k).cmd.map (fun c => (c.code, c.started)) = some (code, true)

/-- A receiver holds every setting that LANE.SET_RX carries in its arguments (R391). -/
abbrev RxLane.isSet (r : RxLane) (a : Bytes) : Prop :=
  r.ctle = byteAt a 1 ∧ r.agcTarget = byteAt a 2 ∧ r.losThresh = byteAt a 3 ∧ r.dgainSet = fieldLE a 4 2 ∧
    r.deskewSet = toSigned 8 (byteAt a 6) ∧ r.adaptK = byteAt a 7 ∧ r.adaptFfe = bitOf (byteAt a 8) 0 ∧
    r.adaptDfe = bitOf (byteAt a 8) 1 ∧ r.adaptNlc = bitOf (byteAt a 8) 2 ∧ r.rate = byteAt a 9 ∧ r.loopBw = byteAt a 10 ∧
    r.damping = byteAt a 11 ∧ r.acqLimit = fieldLE a 12 2

/-- The command completes with a next state of which `post` holds. -/
def Leads (i : Instr) (s : State) (post : State → Prop) : Prop := ∃ t, exec i s = .next t ∧ post t

/-- The command completes, the session is answered, and `post` holds of the next state. -/
def Answers (i : Instr) (s : State) (k : Sess) (code : Nat) (r : Result) (detail : Nat) (data : Bytes)
    (post : State → Prop) : Prop := ∃ t, exec i s = .next t ∧ t.answered k code r detail data ∧ post t

/-- The command completes, the session waits for the event that answers it, and `post` holds of the next state. -/
def Starts (i : Instr) (s : State) (k : Sess) (code : Nat) (post : State → Prop) : Prop :=
  ∃ t, exec i s = .next t ∧ t.waits k code ∧ post t

/-! What a row is about. -/

end Sys2Proof.Machine

namespace Sys2Proof
open Sys2Proof.Machine

/-- The session of a mailbox row, and the code of the command it carries out (Table 13-2). -/
def Instr.mailbox (i : Instr) : Option (Sess × Nat) :=
  match i with
  | .laneSetMode k => some (k, 0x0301)
  | .laneTrain k => some (k, 0x0302)
  | .laneReset k => some (k, 0x0303)
  | .laneGetStatus k => some (k, 0x0304)
  | .laneSetStation k => some (k, 0x0305)
  | .laneSetRx k => some (k, 0x0310)
  | .laneLoadRxPalette k => some (k, 0x0311)
  | .laneGetRxDiag k => some (k, 0x0312)
  | .laneSwapPalette k => some (k, 0x0313)
  | .laneCaptureFlipbook k => some (k, 0x0314)
  | .laneReadFlipbook k _ => some (k, 0x0315)
  | .laneSetBurst k => some (k, 0x0320)
  | .laneGetBurstLog k _ => some (k, 0x0321)
  | .laneGetBurstCounters k => some (k, 0x0322)
  | .laneSetFec k => some (k, 0x0328)
  | .laneGetFecStats k => some (k, 0x0329)
  | .laneSetTx k => some (k, 0x0330)
  | .laneLoadTxPalette k => some (k, 0x0331)
  | .laneGetTxDiag k => some (k, 0x0332)
  | .laneSwapTxPalette k => some (k, 0x0333)
  | .laneSetPredistort k => some (k, 0x0334)
  | .laneSetTxBurst k => some (k, 0x0335)
  | .portraitSetQuota k => some (k, 0x0501)
  | .portraitSetBase k => some (k, 0x0502)
  | .portraitRead k => some (k, 0x0503)
  | .portraitWrite k => some (k, 0x0504)
  | .portraitEvict k => some (k, 0x0505)
  | .portraitProtect k => some (k, 0x0506)
  | .portraitList k _ => some (k, 0x0507)
  | .schedSetEpoch k => some (k, 0x0401)
  | .schedLoad k => some (k, 0x0402)
  | .schedArm k => some (k, 0x0403)
  | .schedDisarm k => some (k, 0x0404)
  | .schedGetStatus k => some (k, 0x0405)
  | .schedRead k => some (k, 0x0406)
  | .deliverySetRetention k => some (k, 0x0601)
  | .deliverySetTimers k => some (k, 0x0602)
  | .deliverySetQuota k => some (k, 0x0603)
  | .deliverySetSketch k => some (k, 0x0604)
  | .deliverySetSparePolicy k => some (k, 0x0605)
  | .deliveryReleasePeer k => some (k, 0x0606)
  | .deliverySpareMove k => some (k, 0x0607)
  | .deliveryReintegrate k => some (k, 0x0608)
  | .deliveryGetMap k => some (k, 0x0609)
  | .deliveryGetStatus k => some (k, 0x060A)
  | .hostTrain k => some (k, 0x0701)
  | .hostSetLink k => some (k, 0x0702)
  | .hostSetTx k => some (k, 0x0703)
  | .hostRepair k => some (k, 0x0704)
  | .hostSetLoopback k => some (k, 0x0705)
  | .hostGetStatus k => some (k, 0x0706)
  | .hostResetGroup k => some (k, 0x0707)
  | .hostSetPower k => some (k, 0x0708)
  | .biasWrite k => some (k, 0x0801)
  | .biasSetLimits k => some (k, 0x0802)
  | .biasSetRange k => some (k, 0x0803)
  | .biasClearFault k _ => some (k, 0x0804)
  | .biasSetSafe k => some (k, 0x0805)
  | .biasSetAggLimit k => some (k, 0x0806)
  | .biasGetStatus k => some (k, 0x0807)
  | .biasSetLoop k => some (k, 0x0808)
  | .biasLoopCtrl k => some (k, 0x0809)
  | .monSetPair k => some (k, 0x0901)
  | .monSetSeq k => some (k, 0x0902)
  | .monStart k => some (k, 0x0903)
  | .monStop k => some (k, 0x0904)
  | .monInject k => some (k, 0x0905)
  | .monReadChannel k => some (k, 0x0906)
  | .monSetFrame k => some (k, 0x0907)
  | .monReadResults k => some (k, 0x0908)
  | .monGetStatus k => some (k, 0x0909)
  | .monSetPin k => some (k, 0x090A)
  | .filterSetChannel k => some (k, 0x0A01)
  | .filterLoadCoeff k => some (k, 0x0A02)
  | .filterFreezeDc k => some (k, 0x0A03)
  | .filterRead k => some (k, 0x0A04)
  | .calRunLane k => some (k, 0x0B01)
  | .calSetTriggers k => some (k, 0x0B02)
  | .calPinLane k => some (k, 0x0B03)
  | .calSetFloor k => some (k, 0x0B04)
  | .calGetStatus k => some (k, 0x0B05)
  | .calPlanNow k => some (k, 0x0B06)
  | .calGetAgeing k => some (k, 0x0B07)
  | .calSetEstimator k => some (k, 0x0B08)
  | .thermGetStatus k => some (k, 0x0C01)
  | .thermSetLimits k => some (k, 0x0C02)
  | .thermRestoreSensor k => some (k, 0x0C03)
  | .thermClearTrip k => some (k, 0x0C04)
  | .powerSetTimers k => some (k, 0x0D01)
  | .powerEnterDormant k => some (k, 0x0D02)
  | .powerGetResidency k => some (k, 0x0D03)
  | .devCtlReset k _ => some (k, 0x0101)
  | .devResetCore k => some (k, 0x0102)
  | .devSetWatchdog k => some (k, 0x0103)
  | .devPublishSnapshot k => some (k, 0x0104)
  | .devGetCores k => some (k, 0x0105)
  | .memGetStatus k => some (k, 0x0E01)
  | .memSetScrub k => some (k, 0x0E02)
  | .memRemap k => some (k, 0x0E03)
  | .memInject k => some (k, 0x0E04)
  | .sessionGetChallenge k => some (k, 0x0201)
  | .sessionAuth k => some (k, 0x0202)
  | .sessionStage k => some (k, 0x0203)
  | .eventRead k => some (k, 0x1301)
  | .eventAck k => some (k, 0x1302)
  | .perfListSelectors k => some (k, 0x1201)
  | .perfSnapshot k => some (k, 0x1202)
  | .perfConfigure k => some (k, 0x1203)
  | .perfSetSample k => some (k, 0x1204)
  | .perfReadSamples k => some (k, 0x1205)
  | .secGetState k => some (k, 0x1001)
  | .secAttest k _ _ => some (k, 0x1002)
  | .secSetLifecycle k _ => some (k, 0x1003)
  | .secSetOwnerKey k => some (k, 0x1004)
  | .testStart k => some (k, 0x1101)
  | .testAbort k => some (k, 0x1102)
  | .testGetResult k => some (k, 0x1103)
  | .imageBegin k => some (k, 0x0F01)
  | .imageWrite k => some (k, 0x0F02)
  | .imageGetStatus k => some (k, 0x0F03)
  | .imageActivate k => some (k, 0x0F04)
  | .imageConfirm k => some (k, 0x0F05)
  | .imageAbort k => some (k, 0x0F06)
  | .imageSetRelay k => some (k, 0x0F07)
  | _ => none

/-- The physical lane of an event that happens inside one receiver, acquisition unit or transmitter. -/
def Instr.laneEvent (i : Instr) : Option Phys :=
  match i with
  | .agcUpdate x _ => some x
  | .estimationWindowEnd x => some x
  | .fadeStart x => some x
  | .fadeMidpoint x => some x
  | .fadeEnd x => some x
  | .flipbookTrigger x _ => some x
  | .flipbookCaptureComplete x => some x
  | .predictedAnalogueLoad x _ => some x
  | .adaptationUpdate x _ => some x
  | .acqLimitExpiry x => some x
  | .convergeLock x => some x
  | .powerDetectorTrigger x _ => some x
  | .coldTrainingStart x => some x
  | .coldTrainingEnd x => some x
  | .preambleEndPassed x => some x
  | .syncDetected x _ => some x
  | .rxWindowOpen x _ => some x
  | .rxWindowClose x => some x
  | .payloadEnd x _ => some x
  | .postambleCheck x => some x
  | .txSettingApply x => some x
  | .predistortApply x _ => some x
  | .txFadeStart x => some x
  | .txFadeMidpoint x => some x
  | .txFadeEnd x => some x
  | .transparentStart x => some x
  | _ => none

/-- The host group of an event of its link. -/
def Instr.groupEvent (i : Instr) : Option Group :=
  match i with
  | .replayTimeout x => some x
  | .idleEnter x => some x
  | .retrainReq x => some x
  | .trainPhaseLock x => some x
  | .trainLimitExpiry x => some x
  | .wanderLimit x => some x
  | .hckrxStop x => some x
  | .txElectricalIdleEntry x => some x
  | .txWake x => some x
  | .rxWakeBurst x => some x
  | .rxWakeCommaTimeout x => some x
  | .clockMove x => some x
  | .groupIdleTimerExpiry x => some x
  | _ => none

/-- The bias output of an event of its channel. -/
def Instr.outputEvent (i : Instr) : Option Bias :=
  match i with
  | .biasCodeApply x => some x
  | .deglitchStep x => some x
  | .rangeChangeDone x => some x
  | .ditherHalfPeriod x => some x
  | .loopUpdate x => some x
  | _ => none

/-- The SRAM array of an event of its scrubber or repair. -/
def Instr.arrayEvent (i : Instr) : Option Arr :=
  match i with
  | .repairWrite x => some x
  | .scrubRead x _ => some x
  | .scrubLapLimit x => some x
  | _ => none

/-- The working lane of a timer of its burst and delivery records. -/
def Instr.workEvent (i : Instr) : Option Work :=
  match i with
  | .openHoldExpiry x _ => some x
  | .backoffExpiry x _ => some x
  | .ackIntervalExpiry x _ => some x
  | _ => none

end Sys2Proof

namespace Sys2Proof.Machine

/-- No mailbox command of code `c` waits in session `k` for its row. -/
abbrev State.lacks (s : State) (k : Sess) (c : Nat) : Prop := ∀ x, (s.sess k).cmd = some x → x.code ≠ c ∨ x.started = true

/-! Invariants. -/

/-- An event entry without the number its place in the queue gives it (R373). -/
def EvEntry.event (x : EvEntry) : EvEntry := { x with qseq := 0 }

/-- The memories of a mailbox session keep their canonical form. -/
def Session.wf (x : Session) : Bool := memWf 0 x.area && memWf 0 x.staging

/-- A VDD_CORE target the regulator may be asked for: 0.65–0.85 V in 5-mV steps (Table 10-9, R326). -/
def AvsReq.legal (r : AvsReq) : Prop := 650 ≤ r.target ∧ r.target ≤ 850 ∧ r.target % 5 = 0

/-- What every step keeps: each AVSBus request open or queued asks for a legal voltage, at most 400 plan records are kept
(R287), and at most 90 daily means of each lane (R286). -/
def State.inv (s : State) : Prop :=
  (∀ r, s.sys.avs.openReq = some r → r.legal) ∧ (∀ r, s.sys.avs.queued = some r → r.legal) ∧
    s.age.ring.length ≤ 400 ∧ ∀ p : Phys, (s.age.lane[p.val]).days.length ≤ 90

/-- Every fuse blown in `s` is blown in `t`: the security fuses and counters of Table 14-1 and R439 hold no fewer ones. -/
def OtpUnit.keptIn (a b : OtpUnit) : Prop :=
  a.lcFuse &&& b.lcFuse = a.lcFuse ∧ a.sigBlock &&& b.sigBlock = a.sigBlock ∧ a.rollA &&& b.rollA = a.rollA ∧
    a.rollB &&& b.rollB = a.rollB ∧ (a.ownerWrapDestroyed = true → b.ownerWrapDestroyed = true) ∧
    (a.seedA.touched = true → b.seedA.touched = true) ∧ (a.seedB.touched = true → b.seedB.touched = true)

end Sys2Proof.Machine
end

