-- ==== Sys2Proof/Certificates/Slice0/Obligations.lean ====
section
/-!
DEFINITION. The statements for the provers: the rules of the spec, family by family of the command table, and what holds of the
whole block. A row of the table completes where its statement says so: the conclusion is a next state.
-/
open Sys2Proof Sys2Proof.Machine

/-- A step runs the command at the front of the queue. With a command at the front of the queue, a step is that command's
effect on the state with the rest of the queue. The queue is the model's own (00_scope, 95_what_each_step_holds). -/
def Obligations.StepRunsFront : Prop :=
  ∀ (s : State) (c : Instr) (rest : List Instr), s.pending = c :: rest → step s = exec c { s with pending := rest }

/-- An empty queue lets one CK_MGMT cycle pass (the model's choice, log entry 1). With no command waiting a step always
answers a next state: while DEVICE_TIME counts it is one more and the queue stays empty; while it does not count nothing
changes. That an empty queue lets a cycle pass is a DESIGN CHOICE (log entry 1) (R300, R377). -/
def Obligations.IdleTick : Prop :=
  ∀ s : State, s.pending = [] → ∃ t, step s = .next t ∧ t.pending = [] ∧
    t.now = (if s.sys.clk.counting then s.now + 1 else s.now) ∧ (s.sys.clk.counting = false → t = s)

/-- Every command answers a next state in every state. No row of the command table stops the block: exec answers a next
state for every command and every state, whatever its operands (95_what_each_step_holds). -/
def Obligations.EveryCommandCompletes : Prop :=
  ∀ (i : Instr) (s : State), ∃ t, exec i s = .next t

/-- No command changes the queue of waiting commands. The commands that wait behind the one carried out stay as they are,
in every state. The queue is the model's own (95_what_each_step_holds). -/
def Obligations.QueueUntouched : Prop :=
  ∀ (i : Instr) (s t : State), exec i s = .next t → t.pending = s.pending

/-- A command changes only the parts of the state that its row names. For every command and state, every part of the state
that Instr.touches does not list for the command is left as it was: registers, sessions, events, clocks, memories, lanes,
groups, outputs, monitors, filters, thermal, calibration, ageing, security and image records (95_what_each_step_holds, R9,
R12, R386). -/
def Obligations.CommandFrames : Prop :=
  ∀ (i : Instr) (s t : State), exec i s = .next t → SameBut i.touches s t

/-- An event inside one line lane changes no other lane. Every event that happens inside one receiver, acquisition unit or
transmitter leaves the receivers, acquisition units, decoders, transmitters and mode records of all other physical lanes
as they were (R3, R4, 02_line_receive, 03_bursts_and_portraits, 05_line_transmit). -/
def Obligations.LaneEventFrames : Prop :=
  ∀ (i : Instr) (p q : Phys) (s t : State), i.laneEvent = some p → q ≠ p → exec i s = .next t →
    t.rxl q = s.rxl q ∧ t.acl q = s.acl q ∧ t.del q = s.del q ∧ t.txl q = s.txl q ∧ t.ln q = s.ln q

/-- An event inside one unit changes no other unit of its kind. Link events of a host group leave all other groups as they
were, but for a CLOCK_MOVE that takes the spare lane of a self-test: its end changes every group tested; channel events of
a bias output leave all other outputs; scrub and repair events of an SRAM array leave all other arrays; timers of a
working lane's destinations leave all other working lanes (R3, R330, 07_rinlink, 08_photonic_control, 11_memories). -/
def Obligations.UnitFrames : Prop :=
  (∀ (i : Instr) (g h : Group) (s t : State), i.groupEvent = some g → h ≠ g →
    (i = .clockMove g → (s.grp g).selftest = false) → exec i s = .next t → t.grp h = s.grp h) ∧
  (∀ (i : Instr) (o q : Bias) (s t : State), i.outputEvent = some o → q ≠ o → exec i s = .next t → t.bias q = s.bias q) ∧
  (∀ (i : Instr) (a b : Arr) (s t : State), i.arrayEvent = some a → b ≠ a → exec i s = .next t → t.arrOf b = s.arrOf b) ∧
  (∀ (i : Instr) (w v : Work) (s t : State), i.workEvent = some w → v ≠ w → exec i s = .next t → t.wk v = s.wk v)

/-- A mailbox row acts only for a session that holds its command. A mailbox row for a session that holds no command of the
row's code waiting to be carried out leaves the whole state as it was (R366, R368, R386). -/
def Obligations.MailboxRowNeedsItsCommand : Prop :=
  ∀ (i : Instr) (k : Sess) (c : Nat) (s : State), i.mailbox = some (k, c) → s.lacks k c → exec i s = .next s

/-- A query answers its own session and leaves the others. A mailbox row that touches sessions, events and pins alone
leaves every other session as it was (R366, R386). -/
def Obligations.QueryFrames : Prop :=
  ∀ (i : Instr) (j k : Sess) (c : Nat) (s t : State), i.mailbox = some (k, c) → (∀ q ∈ i.touches, q ∈ [Part.sess, .ev, .trigPins]) →
    j ≠ k → exec i s = .next t → t.sess j = s.sess j

/-- A mailbox command that names one unit changes no other unit of its kind. A line receive, transmit or flipbook command
for one physical lane leaves the receivers, transmitters and mode records of all others; a burst, FEC, epoch or delivery
setting for one working lane leaves all others; link settings, reading and clearing of one group, of one bias output, of
one monitor unit and of one filter channel leave all others (R381, R386, R12, 13_commands). -/
def Obligations.NamedUnitFrames : Prop :=
  ∀ (i : Instr) (k : Sess) (c : Nat) (a : Bytes) (s t : State), i.mailbox = some (k, c) → s.holds k c a → exec i s = .next t →
    (c ∈ [0x0310, 0x0311, 0x0312, 0x0313, 0x0314, 0x0315, 0x0330, 0x0331, 0x0332, 0x0333, 0x0334] →
      ∀ p q : Phys, byteAt a 0 = p.val → q ≠ p → t.rxl q = s.rxl q ∧ t.txl q = s.txl q ∧ t.ln q = s.ln q) ∧
    (c ∈ [0x0305, 0x0320, 0x0322, 0x0328, 0x0329, 0x0335, 0x0402, 0x0602, 0x0603, 0x0604, 0x0605, 0x060A] →
      ∀ w v : Work, byteAt a 0 = w.val → v ≠ w → t.wk v = s.wk v) ∧
    (c ∈ [0x0702, 0x0703, 0x0706] → ∀ g h : Group, byteAt a 0 = g.val → h ≠ g → t.grp h = s.grp h) ∧
    (c ∈ [0x0801, 0x0802, 0x0803, 0x0804, 0x0808] → ∀ o q : Bias, fieldLE a 0 2 = o.val → q ≠ o → t.bias q = s.bias q) ∧
    (c ∈ [0x0904, 0x0906, 0x0907, 0x0908, 0x0909] → ∀ u v : Mon, byteAt a 0 = u.val → v ≠ u → t.mon v = s.mon v) ∧
    (c ∈ [0x0A01, 0x0A03, 0x0A04] → ∀ f g : Fch, byteAt a 0 = f.val → g ≠ f → t.flt g = s.flt g)

/-- The state right after power-on reset. Working lane 16b+i maps to physical lane 17b+i and the last lane of each bank is
spare; lanes are in DARK; groups are OFF; SYS_LOCK is 0; the event queue is empty, every defined event enabled and
INT_ROUTE 0xAA_AAAA_5555; sessions are FREE; DEVICE_TIME, AON ticks and EVQ_LOST are 0; the core setpoint is 750 mV;
PORST_N is low. The values the spec does not give are the model's (log entry 4) (R4, R9, R10, Table 1-5, Table 12-5, Table
12-7, R450). -/
def Obligations.ResetState : Prop :=
  (∀ w : Work, ((State.reset.physOf w).map Fin.val) = some (17 * (w.val / 16) + w.val % 16)) ∧
  (∀ b : Bank, ∀ h : 17 * b.val + 16 < 136, State.reset.workOf ⟨17 * b.val + 16, h⟩ = none) ∧
  (∀ p : Phys, State.reset.modeOf p = .dark) ∧ (∀ g : Group, (State.reset.grp g).power = .off) ∧
  State.reset.ctl.sysLock = 0 ∧ State.reset.ctl.ev.queue = [] ∧ State.reset.ctl.ev.lost = 0 ∧
  State.reset.ctl.ev.route = 0xAAAAAA5555#40 ∧ (∀ e : Ev, State.reset.ctl.ev.enabled e = true) ∧
  (∀ k : Sess, (State.reset.sess k).phase = .free) ∧ State.reset.now = 0 ∧ State.reset.sys.clk.aonTicks = 0 ∧
  State.reset.sys.avs.runSetpoint = 750 ∧ State.reset.sys.pins.porstLow = true ∧ State.reset.pending = []

/-- The state after reset meets the invariant. After power-on reset no AVSBus request is open or queued, no plan record
and no daily mean is kept (R286, R287, R326). -/
def Obligations.ResetInvariant : Prop :=
  State.reset.inv

/-- Every step keeps the invariant of voltage requests, plan records and histories. In every state that meets the
invariant, a step that answers a next state meets it again: each open or queued AVSBus request asks for 0.65 to 0.85 V in
5-mV steps, the ring keeps at most 400 plan records, and each lane at most 90 daily means (R286, R287, R288, R290, R326,
R327, Table 10-9). -/
def Obligations.StepKeepsInvariant : Prop :=
  ∀ s t : State, s.inv → step s = .next t → t.inv

/-- No step unblows a fuse. Whatever a step does, every fuse that was blown stays blown: the life-cycle fuses, the
signature blocks, both anti-rollback words, the owner wrap's destruction and the seed slots that something has touched
(R400, R403, R405, R439). -/
def Obligations.FusesStayBlown : Prop :=
  ∀ s t : State, step s = .next t → s.sec.otp.keptIn t.sec.otp

/-- Only a power-on reset and a damaged device slot clear lock bits. Every command but PORST_N_ASSERT, PLL_LOCK_LOSS and
WAKE_COMPLETE (whose restore of a damaged device slot puts the register at its reset value, R324) keeps every bit of
SYS_LOCK that is set (R9, R324, Table 12-5, Table 10-7). -/
def Obligations.LockBitsStaySet : Prop :=
  ∀ (i : Instr) (s t : State), i ≠ .porstNAssert → i ≠ .pllLockLoss → (∀ d, i ≠ .wakeComplete d) → exec i s = .next t →
    s.ctl.sysLock &&& t.ctl.sysLock = s.ctl.sysLock

/-- Writes to mailbox areas keep the canonical form of their memories. A posted write applied to the command area and a
chunk staged by SESSION.STAGE keep every session's memories in canonical form: addresses strictly rise and no listed byte
equals the byte an unlisted address reads as. The canonical form is the model's own (R362, R363, R367, R370). -/
def Obligations.MailboxAreasStayCanonical : Prop :=
  ∀ (i : Instr) (s t : State), ((∃ b, i = .indWriteApply b) ∨ ∃ k, i = .sessionStage k) → (∀ k, (s.sess k).wf = true) →
    exec i s = .next t → ∀ k, (t.sess k).wf = true

/-- An event is queued, lost or ignored by its enable and the free entries. An enabled event that finds fewer than 240
entries queued is queued, and none is lost. From 240 on an event of the groups with reserved entries is queued below 256;
whenever the queue does not grow, one event is lost: EVQ_LOST counts up to 0xFFFF and OVERFLOW is set. With no entry of
its own cycle queued, an event without a free entry leaves the queue's events as they are. A disabled event changes
nothing. The queue never passes 256 entries (R373, Table 12-14). -/
def Obligations.EventQueuing : Prop :=
  (∀ (u : EventUnit) (x : EvEntry), u.enabled x.ev = true → u.queue.length < 240 →
    (u.put x).queue.length = u.queue.length + 1 ∧ (u.put x).lost = u.lost ∧ (u.put x).overflow = u.overflow ∧
    (u.put x).nextQseq = u.nextQseq + 1 ∧ x.event ∈ (u.put x).queue.map EvEntry.event) ∧
  (∀ (u : EventUnit) (x : EvEntry), u.enabled x.ev = true → evReserved x.ev = true → u.queue.length < 256 →
    x.event ∈ (u.put x).queue.map EvEntry.event) ∧
  (∀ (u : EventUnit) (x : EvEntry), u.enabled x.ev = true → 240 ≤ u.queue.length →
    (u.put x).overflow = (u.overflow || decide ((u.put x).queue.length ≤ u.queue.length)) ∧
    (u.put x).lost.toNat =
      if (u.put x).queue.length ≤ u.queue.length then min 0xFFFF (u.lost.toNat + 1) else u.lost.toNat) ∧
  (∀ (u : EventUnit) (x : EvEntry), u.enabled x.ev = true → (if evReserved x.ev then 256 else 240) ≤ u.queue.length →
    (∀ y ∈ u.queue, y.time ≠ x.time) → (u.put x).queue.map EvEntry.event = u.queue.map EvEntry.event) ∧
  (∀ (u : EventUnit) (x : EvEntry), u.enabled x.ev = false → u.put x = u) ∧
  (∀ (u : EventUnit) (x : EvEntry), u.queue.length ≤ 256 → (u.put x).queue.length ≤ 256)

/-- A stored word with no wrong bit is clean, with one is corrected, and a poisoned word reads so. For every 32-bit value:
its stored word is clean; with any one of the 39 stored bits inverted the word is correctable and the value returned;
rewritten with the two low check bits inverted it is poisoned and returns no data (R331, R332, R334, R335, Table 11-2). -/
def Obligations.SecDedCorrects : Prop :=
  ∀ d : BitVec 32, classify (encWord d) = .clean ∧ wordData (encWord d) = d ∧
    (∀ i : Fin 39, classify (encWord d ^^^ (1#39 <<< i.val)) = .correctable d) ∧ classify (poisonWord (encWord d)) = .poisoned

/-- CRC8 of a burst header is the bit-serial division of R59. For every header h, CRC8 over h[63:8] is the register of a
bit-serial division that takes h[63] first and h[8] last, has the generator x^8 + x^2 + x + 1 and starts at 0xFF, with no
reflection and no final inversion (R59). -/
def Obligations.HeaderCrc : Prop :=
  ∀ h : BitVec 64, infoCrc h = (List.range 56).foldl
    (fun (r : BitVec 8) i => if (r.msb ^^ h.getLsbD (63 - i)) = true then (r <<< 1) ^^^ 0x07#8 else r <<< 1) 0xFF#8

/-- Pairs of scrambled bits map to PAM4 levels as R107 says. The earlier bit of a pair is the more significant; 00 maps to
−3, 01 to −1, 11 to +1 and 10 to +3, pair by pair in order; the training symbols of R56 use the same mapping (R107). -/
def Obligations.GrayMapping : Prop :=
  (∀ l : List Bool, pam4 (false :: false :: l) = -3 :: pam4 l ∧ pam4 (false :: true :: l) = -1 :: pam4 l ∧
    pam4 (true :: true :: l) = 1 :: pam4 l ∧ pam4 (true :: false :: l) = 3 :: pam4 l) ∧ pam4 [] = [] ∧
  ∃ l : List Bool, l.length = 6656 ∧ trainingSymbols = pam4 l

/-- A bus read cut short within its first word clears nothing, and a whole word clears its RC fields. A register read that
ends before its first word is whole only drives its bytes: the registers keep every bit. A read of one whole word of
SPI_STATUS clears its RC fields. The register holding the driven bytes is the model's own record (R350). -/
def Obligations.CutShortReadClearsNothing : Prop :=
  (∀ (s t : State) (a : BitVec 16) (n : Nat), n < 4 → exec (.spiRead a n) s = .next t → addrBad a = false →
    ∃ b, t = s.drive b ∨ t = s) ∧
  (∀ (s t : State) (a : BitVec 16) (c : Byte) (n : Nat), n < 4 → exec (.spiReadC a c n) s = .next t → addrBad a = false →
    c ≠ 0 → c.toNat ≤ 64 → ∃ b, t = s.drive b ∨ t = s) ∧
  (∀ (s : State) (n : Nat), s.busOpen = true → 4 ≤ n → n < 8 →
    Leads (.spiRead 0x044 n) s fun t => t.ctl.bus.spiStatus = 0 ∧ t.ctl.bus.smbStatus = s.ctl.bus.smbStatus ∧
      t.ctl.bus.crcReq = s.ctl.bus.crcReq)

/-- Loss of root PLL lock with a valid reference is an internal power-on reset. With the root PLL locked and its reference
valid, loss of lock leaves the state that PORST_N leaves when it is asserted and released with the same strap levels and
references, but for CLK_STATUS.INT_POR, which records the reset (R296). -/
def Obligations.PllLockLossIsPowerOn : Prop :=
  ∀ s : State, s.sys.clk.rootLock = true → s.refOk = true → ∃ v u, exec .porstNAssert s = .next v ∧
    exec (.porstNRelease s.sys.clk.straps s.sys.clk.refclkOk s.sys.clk.fabclkOk) v = .next u ∧ u.sys.clk.intPor = false ∧
    exec .pllLockLoss s = .next (u.modClk fun c => { c with intPor := true })

/-- The lane mode, training, reset, status and station commands carry out their effect. LANE.SET_MODE: from a mode that
needs no drain, a legal target is entered at once and is answered with its code; SPARE is entered while no working lane is
out of service; leaving STEADY, SLOTTED or OPEN for TUNE or DARK starts a drain with its time limit (100 ms for a 0), the
lane keeps its mode and the command waits; a legal change between SLOTTED and OPEN is set for the target epoch that the
answer carries, and asking for the mode the lane still has cancels it while it is not late. LANE.TRAIN in TUNE starts
training toward its target, sends the training signal, and the command waits. LANE.RESET of a lane outside the burst modes
starts its reset at once and empties its hot set and flipbook ring, the lane keeping its mode; a training in progress (no
reintegration's) has failed and its signal ended; in a burst mode with a burst in progress the reset waits.
LANE.GET_STATUS answers with the lane's record and changes no lane, with STALE and the remaining time in DETAIL while the
lane is under test. LANE.SET_STATION sets one working lane's station, and no other's, in DARK or TUNE, and is refused with
BAD_STATE in the other modes. Each of these forms completes with a next state in every state that meets its conditions:
laneSetMode, laneTrain, laneReset, laneGetStatus, laneSetStation (R17, R18, R146, R391, R308, R390). -/
def Obligations.LaneModeCommands : Prop :=
  (∀ (s : State) (k : Sess) (a : Bytes) (p : Phys), s.holds k 0x0301 a → byteAt a 0 = p.val → (s.ln p).selftest = false ∧
      s.moving p = false ∧ s.retired = false ∧ s.tripped = false ∧ (s.ln p).failed = false →
      guaranteed (s.modeOf p) = false ∧ s.mayChange p (modeOfCode (byteAt a 1)) = true ∧ modeOfCode (byteAt a 1) ≠ .spare
      → (modeOfCode (byteAt a 1) = .transparent → s.standard = true) → Answers (.laneSetMode k) s k 0x0301 .ok 0 (leBytes
      1 (modeOfCode (byteAt a 1)).code ++ zeros 7) fun t => t.modeOf p = modeOfCode (byteAt a 1)) ∧
  (∀ (s : State) (k : Sess) (a : Bytes) (p : Phys), s.holds k 0x0301 a → byteAt a 0 = p.val → (s.ln p).selftest = false ∧
      s.moving p = false ∧ s.retired = false ∧ s.tripped = false ∧ (s.ln p).failed = false → s.mayChange p .spare = true
      ∧ modeOfCode (byteAt a 1) = .spare → (∀ w : Work, (s.wk w).oosOrder = none) → Answers (.laneSetMode k) s k 0x0301
      .ok 0 (leBytes 1 LaneMode.spare.code ++ zeros 7) fun t => t.modeOf p = .spare) ∧
  (∀ (s : State) (k : Sess) (a : Bytes) (p : Phys) (w : Work), s.holds k 0x0301 a → byteAt a 0 = p.val →
      (s.ln p).selftest = false ∧ s.moving p = false ∧ s.retired = false ∧ s.tripped = false ∧ (s.ln p).failed = false →
      burstMode (s.modeOf p) = true ∧ burstMode (modeOfCode (byteAt a 1)) = true ∧ s.mayChange p (modeOfCode (byteAt a
      1)) = true ∧ s.workOf p = some w → Answers (.laneSetMode k) s k 0x0301 .ok 0 (leBytes 1 (modeOfCode (byteAt a
      1)).code ++ zeros 3 ++ leBytes 4 (s.nextTarget w).toNat) fun t => (t.ln p).change = some (.epoch (modeOfCode
      (byteAt a 1)) (s.nextTarget w) false) ∧ t.modeOf p = s.modeOf p) ∧
  (∀ (s : State) (k : Sess) (a : Bytes) (p : Phys) (e : BitVec 32) (target : LaneMode), s.holds k 0x0301 a →
      byteAt a 0 = p.val → (s.ln p).selftest = false ∧ s.retired = false ∧ s.tripped = false ∧ (s.ln p).failed = false →
      (s.ln p).change = some (.epoch target e false) ∧ modeOfCode (byteAt a 1) = s.modeOf p ∧
      burstMode (s.modeOf p) = true → Answers (.laneSetMode k) s k 0x0301 .ok 0 (leBytes 1 (s.modeOf p).code ++ zeros 7)
      fun t => (t.ln p).change = none ∧ t.modeOf p = s.modeOf p) ∧
  (∀ (s : State) (k : Sess) (a : Bytes) (p : Phys), s.holds k 0x0301 a → byteAt a 0 = p.val → (s.ln p).selftest = false ∧
      s.moving p = false ∧ s.retired = false ∧ s.tripped = false ∧ (s.ln p).failed = false →
      guaranteed (s.modeOf p) = true ∧ (modeOfCode (byteAt a 1) = .tune ∨ modeOfCode (byteAt a 1) = .dark) →
      Starts (.laneSetMode k) s k 0x0301 fun t => (t.ln p).change = some (.drain (modeOfCode (byteAt a 1)) (some k)) ∧
      (t.ln p).drainLimit = (if fieldLE a 2 2 = 0 then 100 else fieldLE a 2 2) ∧ t.modeOf p = s.modeOf p) ∧
  (∀ (s : State) (k : Sess) (a : Bytes) (p : Phys), s.holds k 0x0302 a → byteAt a 0 = p.val → (s.ln p).selftest = false ∧
      (s.ln p).train ≠ .running ∧ s.modeOf p = .tune → Starts (.laneTrain k) s k 0x0302 fun t =>
      (t.ln p).train = .running ∧ (t.ln p).trainTarget = modeOfCode (byteAt a 1) ∧ (t.ln p).trainSess = some k ∧
      (t.txl p).trainSignal = true) ∧
  (∀ (s : State) (k : Sess) (a : Bytes) (p : Phys), s.holds k 0x0303 a → byteAt a 0 = p.val → (s.ln p).selftest = false ∧
      s.moving p = false ∧ (s.ln p).resetWait = false ∧ (s.ln p).resetting = false → burstMode (s.modeOf p) = false ∧
      (s.ln p).train ≠ .running → Answers (.laneReset k) s k 0x0303 .ok 0 [] fun t => (t.ln p).resetting = true ∧
      (t.acl p).hot = [] ∧ (t.rxl p).ring = [] ∧ t.modeOf p = s.modeOf p ∧ (t.ln p).train = (s.ln p).train) ∧
  (∀ (s : State) (k : Sess) (a : Bytes) (p : Phys), s.holds k 0x0303 a → byteAt a 0 = p.val → (s.ln p).selftest = false ∧
      s.moving p = false ∧ (s.ln p).resetWait = false ∧ (s.ln p).resetting = false → burstMode (s.modeOf p) = false ∧
      (s.ln p).train = .running ∧ (s.ln p).reint = none → Answers (.laneReset k) s k 0x0303 .ok 0 [] fun t =>
      (t.ln p).resetting = true ∧ (t.ln p).train = .failed ∧ (t.txl p).trainSignal = false ∧ (t.acl p).hot = [] ∧
      (t.rxl p).ring = [] ∧ t.modeOf p = s.modeOf p) ∧
  (∀ (s : State) (k : Sess) (a : Bytes) (p : Phys), s.holds k 0x0303 a → byteAt a 0 = p.val → (s.ln p).selftest = false ∧
      s.moving p = false ∧ (s.ln p).resetWait = false ∧ (s.ln p).resetting = false → burstMode (s.modeOf p) = true ∧
      s.burstFree p = false → Answers (.laneReset k) s k 0x0303 .ok 0 [] fun t => (t.ln p).resetWait = true ∧
      (t.ln p).resetting = false) ∧
  (∀ (s : State) (k : Sess) (a : Bytes) (p : Phys), s.holds k 0x0304 a → byteAt a 0 = p.val → (s.ln p).selftest = false →
      Answers (.laneGetStatus k) s k 0x0304 .ok 0 (s.laneRecord p) fun t => t.lane = s.lane) ∧
  (∀ (s : State) (k : Sess) (a : Bytes) (p : Phys), s.holds k 0x0304 a → byteAt a 0 = p.val → (s.ln p).selftest = true →
      Answers (.laneGetStatus k) s k 0x0304 .stale s.testRemaining (s.laneRecord p) fun t => t.lane = s.lane) ∧
  (∀ (s : State) (k : Sess) (a : Bytes) (w : Work), s.holds k 0x0305 a → byteAt a 0 = w.val → s.workTest w = false ∧
      (s.physOf w).isSome ∧ (s.modeOfWork w = .dark ∨ s.modeOfWork w = .tune) → Answers (.laneSetStation k) s k 0x0305
      .ok 0 [] fun t => (t.wk w).station = fieldLE a 2 2 ∧ ∀ v, v ≠ w → t.wk v = s.wk v) ∧
  (∀ (s : State) (k : Sess) (a : Bytes) (w : Work), s.holds k 0x0305 a → byteAt a 0 = w.val → s.workTest w = false ∧
      s.modeOfWork w ≠ .dark ∧ s.modeOfWork w ≠ .tune → Answers (.laneSetStation k) s k 0x0305 .badState 0 [] fun t =>
      t.work = s.work)

/-- Training ends, drains, lane resets and core covers take effect when their events come. Outside a reintegration, a
training that passes marks the lane passed, ends the training signal, leaves the mode and answers the waiting session OK;
one that fails or runs out of time marks it failed and answers TIMEOUT with its reason in DETAIL. A lane reset ends, the
lane keeps its mode, and while the device is not tripped the receiver of a continuous mode starts again at SIGNAL_WAIT. A
core's cover ends. DELIVERY.REINTEGRATE takes a FAILED lane in DARK that carries no working lane to TUNE and trains it
toward SPARE. A drain that runs out of time answers TIMEOUT and the lane stays in its mode; one that completes with no
move in progress changes the mode to TUNE or DARK and answers OK with the mode's code, and while a burst is being sent
waits for its end. Each of these forms completes with a next state in every state that meets its conditions:
laneTrainingDone, laneTrainTimeout, laneResetDone, coreCoverDone, deliveryReintegrate, drainTimeout, drainComplete (R17,
R18, R187, R308, R14, R391). -/
def Obligations.LaneModeEvents : Prop :=
  (∀ (s : State) (p : Phys) (reason : Nat), (s.ln p).train = .running ∧ (s.ln p).reint ≠ some .training →
      Leads (.laneTrainingDone p true reason) s fun t => (t.ln p).train = .passed ∧ (t.ln p).trainSess = none ∧
      (t.txl p).trainSignal = false ∧ t.modeOf p = s.modeOf p) ∧
  (∀ (s : State) (p : Phys) (k : Sess) (reason : Nat), (s.ln p).train = .running ∧ (s.ln p).reint ≠ some .training ∧
      (s.ln p).trainSess = some k → s.waits k 0x0302 ∧ (s.sess k).closePending = false → Leads (.laneTrainingDone p true
      reason) s fun t => t.answered k 0x0302 .ok 0 []) ∧
  (∀ (s : State) (p : Phys) (k : Sess) (reason : Nat), (s.ln p).train = .running ∧ (s.ln p).reint ≠ some .training ∧
      (s.ln p).trainSess = some k → s.waits k 0x0302 ∧ (s.sess k).closePending = false → Leads (.laneTrainingDone p false
      reason) s fun t => (t.ln p).train = .failed ∧ t.answered k 0x0302 .timeout reason []) ∧
  (∀ (s : State) (p : Phys) (k : Sess) (reason : Nat), (s.ln p).train = .running ∧ (s.ln p).reint ≠ some .training ∧
      (s.ln p).trainSess = some k → s.waits k 0x0302 ∧ (s.sess k).closePending = false →
      Leads (.laneTrainTimeout p reason) s fun t => (t.ln p).train = .failed ∧ t.answered k 0x0302 .timeout reason []) ∧
  (∀ (s : State) (p : Phys) (d : Nat × Nat), (s.ln p).resetting = true ∧ (s.ln p).resetWait = false →
      Leads (.laneResetDone p d) s fun t => (t.ln p).resetting = false ∧ t.modeOf p = s.modeOf p ∧
      ((t.rxl p).state = if continuousMode (s.modeOf p) ∧ s.tripped = false then .signalWait else (s.rxl p).state)) ∧
  (∀ (s : State) (c : Core) (code : Nat), (s.coreOf c).covering = some code → Leads (.coreCoverDone c) s fun t =>
      (t.coreOf c).covering = none) ∧
  (∀ (s : State) (k : Sess) (a : Bytes) (p : Phys), s.holds k 0x0608 a → byteAt a 0 = p.val → (s.ln p).selftest = false ∧
      (s.ln p).reint = none ∧ (s.ln p).failed = true ∧ s.modeOf p = .dark ∧ s.workOf p = none → s.retired = false ∧
      s.tripped = false ∧ s.sys.clk.phase ≠ .noCount → Answers (.deliveryReintegrate k) s k 0x0608 .ok 0 [] fun t =>
      t.modeOf p = .tune ∧ (t.ln p).reint = some .training ∧ (t.ln p).train = .running ∧ (t.ln p).trainTarget = .spare ∧
      (t.txl p).trainSignal = true) ∧
  (∀ (s : State) (p : Phys) (target : LaneMode) (k : Sess), (s.ln p).change = some (.drain target (some k)) ∧
      s.waits k 0x0301 ∧ (s.sess k).closePending = false → Leads (.drainTimeout p) s fun t => (t.ln p).change = none ∧
      t.modeOf p = s.modeOf p ∧ t.answered k 0x0301 .timeout 0 []) ∧
  (∀ (s : State) (p : Phys) (w : Work) (k : Sess) (target : LaneMode), s.workOf p = some w ∧
      (s.ln p).change = some (.drain target (some k)) ∧ (s.wk w).drained = true ∧ (s.wk w).move = none ∧
      (s.txl p).burst = none → s.waits k 0x0301 ∧ (s.sess k).closePending = false ∧ (target = .tune ∨ target = .dark) →
      Leads (.drainComplete p) s fun t => t.modeOf p = target ∧ t.answered k 0x0301 .ok 0 (leBytes 1 target.code ++ zeros
      7)) ∧
  (∀ (s : State) (p : Phys) (w : Work) (k : Option Sess) (target : LaneMode), s.workOf p = some w ∧
      (s.ln p).change = some (.drain target k) ∧ (s.wk w).drained = true ∧ (s.wk w).move = none ∧
      (s.txl p).burst ≠ none → Leads (.drainComplete p) s fun t => (t.ln p).change = some (.burstEnd target k) ∧
      t.modeOf p = s.modeOf p)

/-- The line receive commands carry out their effect. LANE.SET_RX, to one lane and to "all", stores every setting it
carries: CTLE, AGC target, LOS threshold, DGAIN, deskew, ADAPT_K, the three adaptation bits, rate, loop bandwidth, damping
and acquisition limit. Outside the burst modes the deskew is in force at once, in them the one in force is kept; DGAIN is
in force at once in OFF and is otherwise staged; named singly, no other lane changes. Another rate outside DARK and TUNE
is refused with BAD_STATE and changes no lane. LANE.LOAD_RX_PALETTE loads a palette that is not active whole, A or B, and
leaves the other; of the active one, or while a swap is pending, it is answered BUSY and no receiver changes.
LANE.GET_RX_DIAG answers the record, with STALE while the lane is under test; CLEAR zeroes all eight counts and keeps the
measurements and the symbol of the last set. LANE.SWAP_PALETTE in STEADY, TRANSPARENT, TUNE and LOOP starts a fade with
OUTCOME 0, the active palette unchanged, or with one pending is held with OUTCOME 1; in the burst modes, DARK and SPARE it
is refused with BAD_STATE and reported. LANE.CAPTURE_FLIPBOOK arms a capture with its trigger, length and the lane's rate,
outside OPEN, with none complete and no replay in progress; a release ends a capture that is armed, filling or complete,
and thaws the ring of a complete one. LANE.READ_FLIPBOOK of a complete capture answers its header and words, those that
read with an error as 0 and marked; reading to word 1,023 ends the capture, a range beyond it is refused with BAD_ARG, and
of a capture that is not complete it is refused with BAD_STATE. Each of these forms completes with a next state in every
state that meets its conditions: laneSetRx, laneLoadRxPalette, laneGetRxDiag, laneSwapPalette, laneCaptureFlipbook,
laneReadFlipbook (R26, R28, R49, R50, R52, R391, R392). -/
def Obligations.LineReceiveCommands : Prop :=
  (∀ (s : State) (k : Sess) (a : Bytes) (p : Phys), s.holds k 0x0310 a → byteAt a 0 = p.val → (s.ln p).selftest = false ∧
      ((s.rxl p).rate = byteAt a 9 ∨ s.modeOf p = .dark ∨ s.modeOf p = .tune) → Answers (.laneSetRx k) s k 0x0310 .ok 0
      [] fun t => (t.rxl p).isSet a ∧ (t.rxl p).deskew = (if burstMode (s.modeOf p) then (s.rxl p).deskew else toSigned 8
      (byteAt a 6)) ∧ (t.rxl p).dgain = (if (s.rxl p).state = .off then fieldLE a 4 2 else (s.rxl p).dgain) ∧
      (t.rxl p).stagedDgain = (if (s.rxl p).state = .off ∨ fieldLE a 4 2 = (s.rxl p).dgain then none else some (fieldLE a
      4 2)) ∧ ∀ q, q ≠ p → t.rxl q = s.rxl q) ∧
  (∀ (s : State) (k : Sess) (a : Bytes), s.holds k 0x0310 a → byteAt a 0 = 255 → (∀ p : Phys, (s.ln p).selftest = false ∧
      ((s.rxl p).rate = byteAt a 9 ∨ s.modeOf p = .dark ∨ s.modeOf p = .tune)) → Answers (.laneSetRx k) s k 0x0310 .ok 0
      [] fun t => ∀ p, (t.rxl p).isSet a ∧ (t.rxl p).deskew = (if burstMode (s.modeOf p) then (s.rxl p).deskew else
      toSigned 8 (byteAt a 6)) ∧ (t.rxl p).dgain = (if (s.rxl p).state = .off then fieldLE a 4 2 else (s.rxl p).dgain) ∧
      (t.rxl p).stagedDgain = (if (s.rxl p).state = .off ∨ fieldLE a 4 2 = (s.rxl p).dgain then none else some (fieldLE a
      4 2))) ∧
  (∀ (s : State) (k : Sess) (a : Bytes) (p : Phys), s.holds k 0x0310 a → byteAt a 0 = p.val → (s.ln p).selftest = false ∧
      (s.rxl p).rate ≠ byteAt a 9 ∧ s.modeOf p ≠ .dark ∧ s.modeOf p ≠ .tune → Answers (.laneSetRx k) s k 0x0310 .badState
      0 [] fun t => t.rx = s.rx) ∧
  (∀ (s : State) (k : Sess) (a : Bytes) (p : Phys), s.holds k 0x0311 a → byteAt a 0 = p.val → (s.ln p).selftest = false ∧
      (s.rxl p).fade = none ∧ (s.rxl p).activeB ≠ decide (byteAt a 1 = 1) → Answers (.laneLoadRxPalette k) s k 0x0311 .ok
      0 [] fun t => (t.rxl p).paletteA = (if byteAt a 1 = 1 then (s.rxl p).paletteA else coeffsOf (a.drop 4)) ∧
      (t.rxl p).paletteB = (if byteAt a 1 = 1 then coeffsOf (a.drop 4) else (s.rxl p).paletteB)) ∧
  (∀ (s : State) (k : Sess) (a : Bytes) (p : Phys), s.holds k 0x0311 a → byteAt a 0 = p.val → (s.ln p).selftest = false ∧
      ((s.rxl p).fade ≠ none ∨ (s.rxl p).activeB = decide (byteAt a 1 = 1)) → Answers (.laneLoadRxPalette k) s k 0x0311
      .busy 0 [] fun t => t.rx = s.rx) ∧
  (∀ (s : State) (k : Sess) (a : Bytes) (p : Phys), s.holds k 0x0312 a → byteAt a 0 = p.val → (s.ln p).selftest = false ∧
      bitOf (byteAt a 1) 0 = false → Answers (.laneGetRxDiag k) s k 0x0312 .ok 0 (s.rxRecord p) fun t => t.rx = s.rx) ∧
  (∀ (s : State) (k : Sess) (a : Bytes) (p : Phys), s.holds k 0x0312 a → byteAt a 0 = p.val → (s.ln p).selftest = false ∧
      bitOf (byteAt a 1) 0 = true → Answers (.laneGetRxDiag k) s k 0x0312 .ok 0 (s.rxRecord p) fun t =>
      (t.rxl p).diag = { (s.rxl p).diag with losCount := 0, lolCount := 0, clipCount := 0, pilotErrors := 0,
                                             calApplied := 0, calRejected := 0, swapCompleted := 0, swapSuperseded := 0 }) ∧
  (∀ (s : State) (k : Sess) (a : Bytes) (p : Phys), s.holds k 0x0312 a → byteAt a 0 = p.val → (s.ln p).selftest = true ∧
      bitOf (byteAt a 1) 0 = false → Answers (.laneGetRxDiag k) s k 0x0312 .stale s.testRemaining (s.rxRecord p) fun t =>
      t.rx = s.rx) ∧
  (∀ (s : State) (k : Sess) (a : Bytes) (p : Phys), s.holds k 0x0313 a → byteAt a 0 = p.val → (s.ln p).selftest = false ∧
      (s.rxl p).fade = none ∧ (s.modeOf p = .steady ∨ s.modeOf p = .transparent ∨ s.modeOf p = .tune ∨ s.modeOf p =
      .loop) → Answers (.laneSwapPalette k) s k 0x0313 .ok 0 [0] fun t => (t.rxl p).fade = some
      { swap := { exp := byteAt a 2, tag := BitVec.ofNat 16 (fieldLE a 4 2) } } ∧ (t.rxl p).activeB = (s.rxl p).activeB) ∧
  (∀ (s : State) (k : Sess) (a : Bytes) (p : Phys) (f : Fade), s.holds k 0x0313 a → byteAt a 0 = p.val →
      (s.ln p).selftest = false ∧ (s.rxl p).fade = some f ∧ (s.modeOf p = .steady ∨ s.modeOf p = .transparent ∨ s.modeOf
      p = .tune ∨ s.modeOf p = .loop) → Answers (.laneSwapPalette k) s k 0x0313 .ok 0 [1] fun t => (t.rxl p).fade = some
      f ∧ (t.rxl p).heldSwap = some { exp := byteAt a 2, tag := BitVec.ofNat 16 (fieldLE a 4 2) }) ∧
  (∀ (s : State) (k : Sess) (a : Bytes) (p : Phys), s.holds k 0x0313 a → byteAt a 0 = p.val → (s.ln p).selftest = false ∧
      (burstMode (s.modeOf p) = true ∨ s.modeOf p = .dark ∨ s.modeOf p = .spare) → Answers (.laneSwapPalette k) s k
      0x0313 .badState 0 [] fun t => t.rx = s.rx ∧ t.ctl.ev = ((s.rxPalette p (BitVec.ofNat 16 (fieldLE a 4 2)) 5 (s.rxl
      p).symCount).respond k .badState 0 []).ctl.ev) ∧
  (∀ (s : State) (k : Sess) (a : Bytes) (p : Phys), s.holds k 0x0314 a → byteAt a 0 = p.val ∧ byteAt a 1 = 0 →
      (s.ln p).selftest = false ∧ (s.rxl p).capture.status ≠ .complete ∧ s.modeOf p ≠ .openM ∧
      (s.rxl p).replaying = false → Answers (.laneCaptureFlipbook k) s k 0x0314 .ok 0 [] fun t =>
      (t.rxl p).capture = { status := .armed, trigger := byteAt a 2, post := fieldLE a 4 2, rate := (s.rxl p).rate }) ∧
  (∀ (s : State) (k : Sess) (a : Bytes) (p : Phys), s.holds k 0x0314 a → byteAt a 0 = p.val ∧ byteAt a 1 = 1 →
      (s.ln p).selftest = false ∧ s.modeOf p ≠ .openM ∧ (s.rxl p).replaying = false → (s.rxl p).capture.status = .armed ∨
      (s.rxl p).capture.status = .filling ∨ (s.rxl p).capture.status = .complete → Answers (.laneCaptureFlipbook k) s k
      0x0314 .ok 0 [] fun t => (t.rxl p).capture = {} ∧ (t.rxl p).frozen = (if (s.rxl p).capture.status = .complete then
      false else (s.rxl p).frozen)) ∧
  (∀ (s : State) (k : Sess) (a : Bytes) (p : Phys), s.holds k 0x0315 a → byteAt a 0 = p.val ∧ fieldLE a 2 2 + fieldLE a 4
      2 ≤ 1024 → (s.ln p).selftest = false ∧ (s.rxl p).capture.status = .complete → let c := (s.rxl p).capture; let e :=
      (s.ringRead (arrFlipbook p) 1024 (c.oldest.toNat / 4 + fieldLE a 2 2) (fieldLE a 4 2) none).1; Answers
      (.laneReadFlipbook k []) s k 0x0315 .ok 0 (leBytes 1 3 ++ leBytes 1 c.trigger ++ leBytes 1 c.rate ++ zeros 5 ++
      leBytes 8 c.oldest.toNat ++ leBytes 8 c.triggerTime.toNat ++ leBytes 32 (e.foldl (fun m i => m + 2 ^ i) 0) ++
      (s.rxl p).captureWords (fieldLE a 2 2) (fieldLE a 4 2) e) fun t => (t.rxl p).capture.status = if fieldLE a 2 2 +
      fieldLE a 4 2 = 1024 then .idle else .complete) ∧
  (∀ (s : State) (k : Sess) (a : Bytes) (p : Phys), s.holds k 0x0315 a → byteAt a 0 = p.val ∧
      1024 < fieldLE a 2 2 + fieldLE a 4 2 ∧ (s.rxl p).capture.status = .complete → Answers (.laneReadFlipbook k []) s k
      0x0315 .badArg 0x14 [] fun t => t.rx = s.rx) ∧
  (∀ (s : State) (k : Sess) (a : Bytes) (p : Phys), s.holds k 0x0315 a → byteAt a 0 = p.val ∧
      (s.rxl p).capture.status ≠ .complete → Answers (.laneReadFlipbook k []) s k 0x0315 .badState 0 [] fun t =>
      t.rx = s.rx)

/-- The receive path's detectors, states, palettes and captures act on their events. Outside the burst modes the fourth
low block in a row declares loss of signal: counted, the AGC stopped, marker lock lost, the lane in SIGNAL_WAIT; the
fourth high block ends it and starts timing acquisition. A running AGC moves the gain one step toward the target, at most
to 80, of that lane only. A staged set comes into force with a staged DGAIN at a symbol where it may, its symbol noted,
and nothing changes at another symbol or during a replay. With at most 2 errors in 64 pilots timing acquisition goes on to
CONVERGE with the SNR measured; with 16 or more a LOCKED lane goes back to it, counted, marker lock lost. The acquisition
limit leads from timing acquisition to SIGNAL_WAIT with an event; CONVERGE ends LOCKED, with an event, once the lock error
has been low for 64 cycles. A fade starts with adaptation frozen, passes its midpoint with the other palette in force, and
ends with it active, counted, or goes on with a held swap. The trigger a capture is armed for starts its filling and is
timed, and past its last symbol it is complete and the ring frozen. In LOCKED, samples are recorded, corrected and counted
and their clipped ones counted; in TUNE the active taps take the update of R42 and R44 within its mask unless adaptation
is frozen, and then they stay. Each of these forms completes with a next state in every state that meets its conditions:
losBlockEnd, agcUpdate, calSetApply, pilotEvaluation, acqLimitExpiry, convergeLock, fadeStart, fadeMidpoint, fadeEnd,
flipbookTrigger, flipbookCaptureComplete, adaptationUpdate (R28, R29, R31, R38, R39, R44, R45, R46, R47, R50). -/
def Obligations.LineReceiveEvents : Prop :=
  (∀ (s : State) (p : Phys), (s.rxl p).state ≠ .off ∧ (s.rxl p).state ≠ .burst ∧ (s.rxl p).los = false ∧
      3 ≤ (s.rxl p).losLow ∧ burstMode (s.modeOf p) = false → (s.rxl p).corrected.length = 256 ∧
      (s.rxl p).symCount.toNat % 256 = 0 ∧ ((s.rxl p).corrected.map Int.natAbs).sum < 1024 * (s.rxl p).losThresh →
      Leads (.losBlockEnd p) s fun t => (t.rxl p).los = true ∧ (t.rxl p).state = .signalWait ∧ (t.rxl p).agcOn = false ∧
      (t.del p).amLocked = false ∧ (t.rxl p).diag.losCount = satW 16 ((s.rxl p).diag.losCount + 1)) ∧
  (∀ (s : State) (p : Phys), (s.rxl p).state = .signalWait ∧ (s.rxl p).los = true ∧ 3 ≤ (s.rxl p).losHigh ∧
      burstMode (s.modeOf p) = false → (s.rxl p).corrected.length = 256 ∧ (s.rxl p).symCount.toNat % 256 = 0 ∧
      1024 * ((s.rxl p).losThresh + 4) ≤ ((s.rxl p).corrected.map Int.natAbs).sum → Leads (.losBlockEnd p) s fun t =>
      (t.rxl p).los = false ∧ (t.rxl p).state = .timingAcq) ∧
  (∀ (s : State) (p : Phys) (rms : Nat), (s.rxl p).agcOn = true ∧ (s.rxl p).state ≠ .off ∧ (s.rxl p).state ≠ .burst ∧
      rms < 4 * (s.rxl p).agcTarget → Leads (.agcUpdate p rms) s fun t => (t.rxl p).vga = min 80 ((s.rxl p).vga + 1) ∧
      (t.rxl p).state = (s.rxl p).state ∧ ∀ q, q ≠ p → t.rxl q = s.rxl q) ∧
  (∀ (s : State) (p : Phys) (rms : Nat), (s.rxl p).agcOn = true ∧ (s.rxl p).state ≠ .off ∧ (s.rxl p).state ≠ .burst ∧
      4 * (s.rxl p).agcTarget < rms → Leads (.agcUpdate p rms) s fun t => (t.rxl p).vga = (s.rxl p).vga - 1) ∧
  (∀ (s : State) (p : Phys) (sym : Sym), (s.rxl p).replaying = false ∧ (s.rxl p).stagedPending = true ∧
      (s.rxl p).state ≠ .off ∧ s.mayApplySet p sym = true → Leads (.calSetApply p sym) s fun t =>
      (t.rxl p).slices = (s.rxl p).staged ∧ (t.rxl p).stagedPending = false ∧
      (t.rxl p).dgain = (s.rxl p).stagedDgain.getD (s.rxl p).dgain ∧ (t.rxl p).diag.lastCalSymbol = sym) ∧
  (∀ (s : State) (p : Phys) (sym : Sym), (s.rxl p).replaying = true ∨ s.mayApplySet p sym = false →
      Leads (.calSetApply p sym) s fun t => t = s) ∧
  (∀ (s : State) (p : Phys) (m : RxMeas), (s.rxl p).state = .timingAcq ∧ (s.rxl p).eq.pilots.length = 64 ∧
      ((s.rxl p).eq.pilots.filter id).length ≤ 2 → Leads (.pilotEvaluation p m) s fun t => (t.rxl p).state = .converge ∧
      (t.rxl p).diag.snr = m.snr) ∧
  (∀ (s : State) (p : Phys) (m : RxMeas), (s.rxl p).state = .locked ∧ (s.rxl p).eq.pilots.length = 64 ∧
      16 ≤ ((s.rxl p).eq.pilots.filter id).length → Leads (.pilotEvaluation p m) s fun t => (t.rxl p).state = .timingAcq
      ∧ (t.del p).amLocked = false ∧ (t.rxl p).diag.lolCount = satW 16 ((s.rxl p).diag.lolCount + 1)) ∧
  (∀ (s : State) (p : Phys), (s.rxl p).state = .timingAcq → Leads (.acqLimitExpiry p) s fun t =>
      (t.rxl p).state = .signalWait ∧ (t.rxl p).freqOffset = 0 ∧ t.ctl.ev = (s.raiseP .rxAcqFail p).ctl.ev) ∧
  (∀ (s : State) (p : Phys), (s.rxl p).state = .converge ∧ 64 ≤ (s.rxl p).eq.quiet → Leads (.convergeLock p) s fun t =>
      (t.rxl p).state = .locked ∧ t.ctl.ev = (s.raiseP .rxLock p).ctl.ev) ∧
  (∀ (s : State) (p : Phys) (f : Fade), (s.rxl p).fade = some f ∧ f.started = false → Leads (.fadeStart p) s fun t =>
      (t.rxl p).fade = some { f with started := true, start := (s.rxl p).symCount } ∧ (t.rxl p).frozenAdapt = true) ∧
  (∀ (s : State) (p : Phys) (f : Fade), (s.rxl p).fade = some f ∧ f.started = true ∧ f.total (qOf (s.rxl p).rate) < 2 *
      f.steps (qOf (s.rxl p).rate) (s.rxl p).symCount → Leads (.fadeMidpoint p) s fun t => (t.rxl p).fade = some
      { f with past := true } ∧ (t.rxl p).inForce = (if (s.rxl p).activeB then (s.rxl p).paletteA else (s.rxl
      p).paletteB)) ∧
  (∀ (s : State) (p : Phys) (f : Fade), (s.rxl p).fade = some f ∧ f.started = true ∧ (s.rxl p).heldSwap = none ∧
      f.steps (qOf (s.rxl p).rate) (s.rxl p).symCount = f.total (qOf (s.rxl p).rate) → Leads (.fadeEnd p) s fun t =>
      (t.rxl p).fade = none ∧ (t.rxl p).activeB = !(s.rxl p).activeB ∧ (t.rxl p).diag.swapCompleted = satW 16 ((s.rxl
      p).diag.swapCompleted + 1)) ∧
  (∀ (s : State) (p : Phys) (f : Fade) (w : Swap), (s.rxl p).fade = some f ∧ f.started = true ∧
      (s.rxl p).heldSwap = some w ∧ f.steps (qOf (s.rxl p).rate) (s.rxl p).symCount = f.total (qOf (s.rxl p).rate) →
      Leads (.fadeEnd p) s fun t => (t.rxl p).fade = some { swap := w, started := true, start := (s.rxl p).symCount } ∧
      (t.rxl p).activeB = !(s.rxl p).activeB ∧ (t.rxl p).heldSwap = none) ∧
  (∀ (s : State) (p : Phys) (kind : Nat), (s.rxl p).capture.status = .armed ∧ (s.rxl p).capture.trigger = kind →
      Leads (.flipbookTrigger p kind) s fun t => (t.rxl p).capture.status = .filling ∧ (t.rxl p).capture.triggerTime =
      s.now) ∧
  (∀ (s : State) (p : Phys), (s.rxl p).capture.status = .filling ∧ ((s.rxl p).symCount - (s.rxl p).capture.stop).toNat <
      2 ^ 47 → Leads (.flipbookCaptureComplete p) s fun t => (t.rxl p).capture.status = .complete ∧
      (t.rxl p).capture.oldest = (s.rxl p).capture.stop - 4096 ∧ (t.rxl p).frozen = true) ∧
  (∀ (s : State) (p : Phys) (raw : Bytes), (s.rxl p).state = .locked ∧ (s.rxl p).frozenAdapt = true ∧
      raw.length ≤ qOf (s.rxl p).rate → Leads (.adaptationUpdate p raw) s fun t => (t.rxl p).active = (s.rxl p).active ∧
      (t.rxl p).corrected = ((s.rxl p).record raw).corrected ∧ (t.rxl p).symCount = (s.rxl p).symCount + BitVec.ofNat 48
      raw.length ∧ (t.rxl p).diag.clipCount = satW 32 ((s.rxl p).diag.clipCount + (raw.filter fun x => decide (x = 0x80 ∨
      x = 0x7F)).length)) ∧
  (∀ (s : State) (p : Phys) (raw : Bytes), (s.rxl p).state = .locked ∧ (s.rxl p).frozenAdapt = false ∧
      raw.length ≤ qOf (s.rxl p).rate ∧ s.modeOf p = .tune → Leads (.adaptationUpdate p raw) s fun t =>
      let r := ((s.modRx p fun r => r.record raw).countSamples p raw.length).rxl p; let e := (r.equalise r.active r.dgain
      (s.rungsOf p) r.due).eq; (t.rxl p).active = adaptMask r (s.rungsOf p) r.active (Config.lms (slowed (s.rungsOf p)
      r.adaptK) r.active (e.refs fun _ => none) e.recent r.corrected))

/-- Peaks, triggers and deadlines take the acquisition of a burst from ARMED to HEADER. A positive peak that a correlator
declares with no burst being acquired opens a warm or cold burst in PREAMBLE, in OPEN and in SLOTTED inside a receive
window; in SLOTTED outside every window, and with no stray noted before, it is counted as a stray and opens none. The end
marker refines the timing phase and opens the sync search in SYNC_WAIT. The power detector latches a trigger when its mean
has reached the threshold, and notes whether the lane is in ARMED; 112 symbols later, with no peak in ARMED since, a
fall-back start goes to SYNC_WAIT and is counted, in OPEN or inside a window; once no sync word can come any more it ends
as a false start. The detector re-arms below the threshold, which truncates a burst in PAYLOAD and leaves one in another
state. A cold burst enters TRAINING after its last repetition and leaves it for PREAMBLE, with acquisition taps that are a
free value. A preamble end that passes without an end marker opens the sync search. The sync word within its tolerance
moves the burst to HEADER and latches the symbol, the distance and the strength; once none can come by its deadline the
burst ends as a false start. A burst that ends here is in the log with its outcome, 3 or 10. Each of these forms completes
with a next state in every state that meets its conditions: correlatorPeak, powerDetectorTrigger, fallbackStart,
fallbackQualificationExpiry, powerDetectorRearm, coldTrainingStart, coldTrainingEnd, preambleEndPassed, syncDetected,
syncDeadlineExpiry (R64, R66, R67, R70, R73, R75, R76, R91). -/
def Obligations.BurstStartsAndSync : Prop :=
  (∀ (s : State) (p : Phys) (w : Work) (cold : Bool) (sym : Sym) (phase : BitVec 10) (freq dgain : Int),
      s.burstWork p = some w ∧ s.declares p w cold false sym = true ∧ (s.acl p).cur = none → s.modeOf p = .openM ∨ (s.acl
      p).rxWindow.isSome → Leads (.correlatorPeak p cold false sym phase freq dgain) s fun t =>
      (t.acl p).state = .preamble ∧ (t.acl p).cur.map (fun b => (b.firstPeak, b.start, b.firstStrength)) = some (sym,
      if cold then .cold else .warm, (s.rxl p).strength sym)) ∧
  (∀ (s : State) (p : Phys) (w : Work) (sym : Sym) (phase : BitVec 10) (freq dgain : Int), s.burstWork p = some w ∧
      s.declares p w true false sym = true ∧ (s.acl p).cur = none → s.modeOf p = .slotted ∧ (s.acl p).rxWindow.isSome →
      Leads (.correlatorPeak p true false sym phase freq dgain) s fun t => (t.acl p).state = .preamble ∧
      (t.acl p).cur.map (fun b => (b.start, b.slotted)) = some (.cold, true)) ∧
  (∀ (s : State) (p : Phys) (w : Work) (cold : Bool) (sym : Sym) (phase : BitVec 10) (freq dgain : Int),
      s.burstWork p = some w ∧ s.declares p w cold false sym = true ∧ (s.acl p).cur = none ∧ s.modeOf p = .slotted ∧
      (s.acl p).rxWindow = none ∧ (s.acl p).stray = none → Leads (.correlatorPeak p cold false sym phase freq dgain) s
      fun t => (t.acl p).cur = none ∧ (t.wk w).burst.counters[17] = satW 32 ((s.wk w).burst.counters[17] + 1)) ∧
  (∀ (s : State) (p : Phys) (w : Work) (b : Burst) (sym : Sym) (phase : BitVec 10) (freq dgain : Int),
      s.burstWork p = some w ∧ s.declares p w false true sym = true ∧ (s.acl p).cur = some b ∧
      (s.acl p).state = .preamble ∧ b.endsAt sym = true → Leads (.correlatorPeak p false true sym phase freq dgain) s fun
      t => (t.acl p).state = .syncWait ∧ (t.acl p).cur.map (fun b => (b.endMarker, b.syncOpen,
      b.timingPhase)) = some (true, true, phase)) ∧
  (∀ (s : State) (p : Phys) (w : Work) (sym : Sym), s.burstWork p = some w ∧ (s.acl p).detArmed = true →
      (s.rxl p).holds sym = true ∧ (s.rxl p).powerUp (s.burstParams p w).powerThresh sym = true →
      Leads (.powerDetectorTrigger p sym) s fun t => (t.acl p).detArmed = false ∧ (t.acl p).trigger = some sym ∧
      (t.acl p).triggerClean = decide ((s.acl p).state = .armed)) ∧
  (∀ (s : State) (p : Phys) (w : Work) (sym : Sym), s.burstWork p = some w ∧ (s.acl p).triggerClean = true ∧
      (s.acl p).trigger = some (sym - 112) → (s.acl p).state = .armed ∧ (s.rxl p).passed sym = true ∧
      (s.modeOf p = .openM ∨ (s.acl p).rxWindow.isSome) → Leads (.fallbackStart p sym) s fun t =>
      (t.acl p).state = .syncWait ∧ (t.acl p).cur.map (·.start) = some .fallback ∧ (t.wk w).burst.counters[18] = satW 32
      ((s.wk w).burst.counters[18] + 1)) ∧
  (∀ (s : State) (p : Phys) (w : Work) (b : Burst), s.workOf p = some w ∧ (s.acl p).cur = some b ∧ b.start = .fallback ∧
      (s.acl p).state = .syncWait ∧ (s.rxl p).syncLost b = true → Leads (.fallbackQualificationExpiry p) s fun t =>
      (t.acl p).state = .armed ∧ (t.acl p).cur = none ∧ (t.wk w).burst.log = ((s.wk w).burst.log ++ [b.record 3
      false]).drop ((s.wk w).burst.log.length + 1 - 64)) ∧
  (∀ (s : State) (p : Phys) (w : Work) (sym : Sym), s.burstWork p = some w ∧ (s.acl p).state ≠ .payload →
      (s.rxl p).holds sym = true ∧ (s.rxl p).powerDown (s.burstParams p w).powerThresh sym = true →
      Leads (.powerDetectorRearm p sym) s fun t => (t.acl p).detArmed = true ∧ (t.acl p).state = (s.acl p).state ∧
      (t.acl p).cur = (s.acl p).cur) ∧
  (∀ (s : State) (p : Phys) (w : Work) (b : Burst) (sym : Sym), s.burstWork p = some w ∧ (s.acl p).cur = some b ∧
      (s.acl p).state = .payload → (s.rxl p).holds sym = true ∧ (s.rxl p).powerDown (s.burstParams p w).powerThresh sym =
      true → Leads (.powerDetectorRearm p sym) s fun t => (t.acl p).detArmed = true ∧ (t.acl p).state = .armed ∧
      (t.wk w).burst.log = ((s.wk w).burst.log ++ [b.record 10 false]).drop ((s.wk w).burst.log.length + 1 - 64)) ∧
  (∀ (s : State) (p : Phys) (b : Burst), (s.acl p).cur = some b ∧ b.start = .cold ∧ (s.acl p).state = .preamble ∧
      (s.rxl p).passed (b.firstPeak + 448) = true → Leads (.coldTrainingStart p) s fun t => (t.acl p).state = .training ∧
      (t.acl p).cur = some b) ∧
  (∀ (s : State) (p : Phys) (b : Burst), (s.acl p).cur = some b ∧ (s.acl p).state = .training ∧
      (s.rxl p).passed (b.firstPeak + 3776) = true → Leads (.coldTrainingEnd p) s fun t => (t.acl p).state = .preamble ∧
      (t.acl p).cur = some { b with acq := Config.acqTaps p.val s.now } ∧ t.rx = s.rx) ∧
  (∀ (s : State) (p : Phys) (b : Burst), (s.acl p).cur = some b ∧ b.start ≠ .fallback ∧ b.endMarker = false ∧
      ((s.acl p).state = .preamble ∨ (s.acl p).state = .training ∨ (s.acl p).state = .syncWait) ∧
      (s.rxl p).passed b.preambleEnd = true → Leads (.preambleEndPassed p) s fun t => (t.acl p).state = .syncWait ∧
      (t.acl p).cur.map (·.syncOpen) = some true) ∧
  (∀ (s : State) (p : Phys) (b : Burst) (sym : Sym), (s.acl p).cur = some b ∧ (s.acl p).state = .syncWait ∧
      b.syncOpen = true → (s.rxl p).holds sym = true ∧ (s.rxl p).syncDist b.acq sym ≤ b.params.syncTol ∧
      (b.syncBy - sym).toNat < 2 ^ 47 → Leads (.syncDetected p sym) s fun t => (t.acl p).state = .header ∧
      (t.acl p).cur.map (fun b => (b.syncAt, b.syncDist, b.strength)) = some (some sym, (s.rxl p).syncDist b.acq sym,
      (s.rxl p).strength sym)) ∧
  (∀ (s : State) (p : Phys) (w : Work) (b : Burst), s.workOf p = some w ∧ (s.acl p).cur = some b ∧ b.start ≠ .fallback ∧
      (s.acl p).state = .syncWait ∧ (s.rxl p).syncLost b = true → Leads (.syncDeadlineExpiry p) s fun t =>
      (t.acl p).state = .armed ∧ (t.acl p).cur = none ∧ (t.wk w).burst.log = ((s.wk w).burst.log ++ [b.record 3
      false]).drop ((s.wk w).burst.log.length + 1 - 64))

/-- Headers, replays, prefetches, windows and outcomes of a burst take effect. A header with a right CRC for this station,
of format 0 and with codewords, is accepted, and a cold burst whose lag is within the limit is processed live; one for
another station ends the burst. A replay or deferred start that waits on the base portrait loads its coefficients and no
longer waits. A fetch for a PORTRAIT.READ whose words read without error answers it; a waiting traffic fetch takes a free
place; a prefetch asks for the portrait predicted in the next slot; the predicted gain code and deskew are loaded before a
slot. A receive window opens with the schedule's prediction at its place in the epoch and closes after its last symbol,
leaving a burst in progress. After the payload's last symbol the burst is in CLOSE; the postamble check notes whether the
postamble was found, moves the burst to decoding and re-arms acquisition. A decoded burst all of whose codewords decoded
is NOT_COMMITTED without a postamble and, with one, within the commit limit and of a sender with a portrait, COMMITTED,
each with its record in the log. A committed portrait reaches the gallery, with the gallery's protection. A hold-off
without a held occurrence ends and queues nothing. Each of these forms completes with a next state in every state that
meets its conditions: headerDecoded, replayStart, galleryFetchDone, galleryFetchService, portraitPrefetch,
predictedAnalogueLoad, rxWindowOpen, rxWindowClose, payloadEnd, postambleCheck, burstOutcome, portraitWriteback,
eventHoldoffExpiry (R58, R63, R68, R75, R80, R81, R82, R85, R87, R89, R90, R93). -/
def Obligations.BurstPayloadAndOutcome : Prop :=
  (∀ (s : State) (p : Phys) (w : Work) (b : Burst) (word : BitVec 128) (h : BitVec 64) (corr : Nat),
      s.burstWork p = some w ∧ (s.acl p).cur = some b ∧ (s.acl p).state = .header ∧ b.start = .cold →
      bchDecode word = some (h, corr) ∧ infoCrc h = h.setWidth 8 ∧ bitsOf h.toNat 63 50 ≠ 16383 →
      (s.wk w).station ≠ 16383 ∧ bitsOf h.toNat 49 36 = (s.wk w).station ∧ bitsOf h.toNat 15 12 = 0 ∧
      bitsOf h.toNat 23 16 ≠ 0 → (s.acl p).lagFor 0 (b.syncAt.getD 0 + 129) ≤ 3840 → Leads (.headerDecoded p word) s fun
      t => (t.acl p).state = .payload ∧ (t.acl p).cur.map (fun b => (b.accepted, b.header, b.run)) = some (true, some h,
      .live)) ∧
  (∀ (s : State) (p : Phys) (w : Work) (b : Burst) (word : BitVec 128) (h : BitVec 64) (corr : Nat),
      s.burstWork p = some w ∧ (s.acl p).cur = some b ∧ (s.acl p).state = .header → bchDecode word = some (h, corr) ∧
      infoCrc h = h.setWidth 8 ∧ bitsOf h.toNat 63 50 ≠ 16383 → bitsOf h.toNat 49 36 ≠ (s.wk w).station →
      Leads (.headerDecoded p word) s fun t => (t.acl p).state = .armed ∧ (t.acl p).cur = none) ∧
  (∀ (s : State) (p : Phys) (w : Work) (b : Burst) (bad ring : Option (Nat × BitVec 42)), s.workOf p = some w ∧
      (s.acl p).cur = some b ∧ (s.acl p).bursts.find? (·.waiting) = some b ∧ b.inUse = 16383 ∧ b.coeffs = none →
      (s.acl p).lagFor ((s.rxl p).symCount - b.firstPay).toNat b.firstPay ≤ 3840 → Leads (.replayStart p bad ring) s fun
      t => (t.rxl p).active = (s.wk w).burst.base.coeffs ∧ (t.acl p).cur.map (·.waiting) = some false) ∧
  (∀ (s : State) (i : Nat) (f : Fetch) (e : Nat × Portrait) (k : Sess), s.gallery.inService[i]? = some f ∧
      s.gallery.find f.work f.station = some e ∧ f.sess = some k → s.waits k 0x0503 ∧ (s.sess k).closePending = false ∧
      s.workTested f.work = false ∧ (s.arrOf arrGallery).words = [] → Leads (.galleryFetchDone i none) s fun t =>
      t.answered k 0x0503 .ok 0 (s.readReply f.work e.1 e.2) ∧ t.gallery.inService = s.gallery.inService.eraseIdx i) ∧
  (∀ (s : State) (f : Fetch) (rest : List Fetch), s.gallery.inService.length < 16 ∧ s.gallery.waiting = f :: rest ∧
      f.kind = .traffic → Leads .galleryFetchService s fun t => t.gallery.inService = s.gallery.inService ++ [f] ∧
      t.gallery.waiting = rest) ∧
  (∀ (s : State) (p : Phys) (w : Work) (slot : Nat) (e : Nat × Portrait), s.workOf p = some w ∧ s.modeOf p = .slotted ∧
      s.epoch.lost = false → slot + 1 < (s.wk w).tx.active.slots ∧ (s.wk w).tx.active.predicts (slot + 1) ≠ 16383 →
      s.gallery.find w ((s.wk w).tx.active.predicts (slot + 1)) = some e ∧ s.hotOf p w ((s.wk w).tx.active.predicts (slot
      + 1)) = none → ((s.acl p).hot.all fun x => !x.evictLater) = true ∧ s.gallery.inService.length < 16 ∧
      s.gallery.waiting = [] → Leads (.portraitPrefetch p slot) s fun t => t.gallery.inService.map (fun f => (f.work,
      f.station, f.ahead)) = s.gallery.inService.map (fun f => (f.work, f.station, f.ahead)) ++ [(w,
      (s.wk w).tx.active.predicts (slot + 1), true)]) ∧
  (∀ (s : State) (p : Phys) (w : Work) (slot : Nat), s.workOf p = some w ∧ s.modeOf p = .slotted ∧ s.epoch.lost = false ∧
      (s.acl p).cur = none → Leads (.predictedAnalogueLoad p slot) s fun t => (t.rxl p).vga = (s.startPortrait p w ((s.wk
      w).tx.active.predicts slot)).1.vga ∧ (t.rxl p).deskew = (s.startPortrait p w ((s.wk w).tx.active.predicts
      slot)).1.deskew) ∧
  (∀ (s : State) (p : Phys) (w : Work) (slot : Nat), s.workOf p = some w ∧ s.modeOf p = .slotted ∧ s.epoch.lost = false →
      slot < (s.wk w).tx.active.slots ∧ entryRxEn ((s.wk w).tx.active.entry slot) = true ∧ s.epochAt (s.rxWindowAt p w
      slot).1 = true → Leads (.rxWindowOpen p slot) s fun t => (t.acl p).rxWindow = some ⟨slot,
      (s.wk w).tx.active.predicts slot⟩) ∧
  (∀ (s : State) (p : Phys) (w : Work) (x : RxWindow), s.workOf p = some w ∧ (s.acl p).rxWindow = some x ∧
      (s.rxWindowAt p w x.slot).2 < s.epochSymbols + 512 → Leads (.rxWindowClose p) s fun t => (t.acl p).rxWindow = none
      ∧ (t.acl p).cur = (s.acl p).cur) ∧
  (∀ (s : State) (p : Phys) (b : Burst), (s.acl p).cur = some b ∧ (s.acl p).state = .payload ∧
      (s.rxl p).passed b.payEnd = true → Leads (.payloadEnd p b.payEnd) s fun t => (t.acl p).state = .close ∧
      (t.acl p).cur = some b) ∧
  (∀ (s : State) (p : Phys) (b : Burst), (s.acl p).cur = some b ∧ (s.acl p).state = .close ∧ (s.rxl p).passed (b.payEnd +
      36) = true → Leads (.postambleCheck p) s fun t => (t.acl p).state = .armed ∧ (t.acl p).cur = none ∧
      (t.acl p).detArmed = true ∧ (t.acl p).decoding = (s.acl p).decoding ++
      [{ b with postamble := some ((s.rxl p).postambleAt b.acq b.payEnd) }]) ∧
  (∀ (s : State) (p : Phys) (w : Work) (b : Burst) (rest : List Burst) (snr eyeMin : BitVec 16), s.workOf p = some w ∧
      (s.acl p).decoding = b :: rest ∧ burstCw b ≤ b.cwDone ∧ b.waiting = false ∧ s.framesLeft p b = false →
      b.cwFailed = 0 ∧ b.postamble = some false ∧ (s.ln p).resetWait = false → Leads (.burstOutcome p snr eyeMin none) s
      fun t => (t.acl p).decoding = rest ∧ (t.wk w).burst.log = ((s.wk w).burst.log ++
      [{ b with snr := snr, eyeMin := eyeMin }.record 1 false]).drop ((s.wk w).burst.log.length + 1 - 64)) ∧
  (∀ (s : State) (p : Phys) (w : Work) (b : Burst) (rest : List Burst) (e : Nat × Portrait) (snr eyeMin : BitVec 16),
      s.workOf p = some w ∧ (s.acl p).decoding = b :: rest ∧ burstCw b ≤ b.cwDone ∧ b.waiting = false ∧
      s.framesLeft p b = false → b.cwFailed = 0 ∧ b.postamble = some true ∧ (s.ln p).resetWait = false ∧
      s.gallery.find w (burstSender b) = some e → burstCw b ≠ 0 ∧ b.rsCorrected ≤ b.params.commitLimit * burstCw b →
      Leads (.burstOutcome p snr eyeMin none) s fun t => (t.acl p).decoding = rest ∧ (t.wk w).burst.log = ((s.wk
      w).burst.log ++ [{ b with snr := snr, eyeMin := eyeMin }.record 0 false]).drop ((s.wk w).burst.log.length + 1 - 64)) ∧
  (∀ (s : State) (p : Phys) (e : HotEntry) (x : Nat × Portrait), (s.acl p).hot.find? (·.writeback) = some e ∧
      s.gallery.find e.work e.station = some x → ((s.acl p).hot.all fun y => !y.evictLater) = true →
      Leads (.portraitWriteback p) s fun t => tabGet t.gallery.entries x.1 = some
      { e.portrait with isProtected := x.2.isProtected }) ∧
  (∀ (s : State) (e : Ev) (source : BitVec 16) (x : Holdoff), s.ctl.ev.holdoffs.find? (fun y => decide (y.ev = e ∧
      y.source = source)) = some x ∧ x.count = 0 → Leads (.eventHoldoffExpiry e source) s fun t =>
      t.ctl.ev.holdoffs = s.ctl.ev.holdoffs.filter (fun y => decide (¬ (y.ev = e ∧ y.source = source))) ∧
      t.ctl.ev.queue = s.ctl.ev.queue)

/-- The burst and portrait commands carry out their effect. LANE.SET_BURST writes the eleven parameters of Table 3-3 of
the named lane, or of every lane for "all". The log, the counters and the list of portraits are returned, their words free
of errors; the counters are cleared when asked. A quota that holds the lane's portraits is set when the sum of the quotas
allows it, and is refused with NO_RESOURCE beyond 16,384, nothing changed. PORTRAIT.SET_BASE writes the channel fields of
its record into the base portrait; PORTRAIT.WRITE writes them into an existing gallery portrait that is not locked, with
FAILS, the cold-learned and the inherited mark cleared, or creates one in the first free entry under the quota. A read of
the base portrait is answered at once, one of a gallery portrait starts a fetch and waits. Eviction of a portrait that is
not locked removes the gallery entry and is counted; protection changes only its flag, where its word can be written. Each
of these forms completes with a next state in every state that meets its conditions: laneSetBurst, laneGetBurstLog,
laneGetBurstCounters, portraitSetQuota, portraitSetBase, portraitRead, portraitWrite, portraitEvict, portraitProtect,
portraitList (R69, R85, R86, R87, R88, R91, R92, R382, R383, R393). -/
def Obligations.BurstAndPortraitCommands : Prop :=
  (∀ (s : State) (k : Sess) (a : Bytes) (w : Work), s.holds k 0x0320 a → (byteAt a 0 = w.val ∧
      s.workTested w = false) ∨ (byteAt a 0 = 255 ∧ ∀ v, s.workTested v = false) → Answers (.laneSetBurst k) s k 0x0320
      .ok 0 [] fun t => (t.wk w).burst.params = ⟨byteAt a 1, byteAt a 2, byteAt a 3, byteAt a 4, byteAt a 5,
      fieldLE a 6 2, byteAt a 8, byteAt a 9, byteAt a 10, byteAt a 11, fieldLE a 12 2⟩) ∧
  (∀ (s : State) (k : Sess) (a : Bytes) (w : Work), s.holds k 0x0321 a → byteAt a 0 = w.val ∧ s.workTested w = false ∧
      (s.arrOf arrFabric).words = [] → Answers (.laneGetBurstLog k none) s k 0x0321 .ok 0 (pageN [] 32 (byteAt a 1)
      (byteAt a 2) (s.wk w).burst.log) fun t => t.work = s.work) ∧
  (∀ (s : State) (k : Sess) (a : Bytes) (w : Work), s.holds k 0x0322 a → byteAt a 0 = w.val ∧ s.workTested w = false →
      Answers (.laneGetBurstCounters k) s k 0x0322 .ok 0 ((s.wk w).burst.counters.toList.flatMap fun n => leBytes 4 n)
      fun t => (t.wk w).burst.counters = if bitOf (byteAt a 1) 0 then Vector.replicate 32 0 else (s.wk w).burst.counters) ∧
  (∀ (s : State) (k : Sess) (a : Bytes) (w : Work), s.holds k 0x0501 a → byteAt a 0 = w.val ∧ s.workTested w = false ∧
      (s.gallery.ofLane w).length ≤ fieldLE a 2 2 → ((workAll.filter (· ≠ w)).map fun x => (s.wk x).burst.quota).sum +
      fieldLE a 2 2 ≤ 16384 → Answers (.portraitSetQuota k) s k 0x0501 .ok 0 [] fun t => (t.wk w).burst.quota = fieldLE a
      2 2 ∧ t.gallery = s.gallery) ∧
  (∀ (s : State) (k : Sess) (a : Bytes) (w : Work), s.holds k 0x0501 a → byteAt a 0 = w.val ∧ s.workTested w = false ∧
      (s.gallery.ofLane w).length ≤ fieldLE a 2 2 → 16384 < ((workAll.filter (· ≠ w)).map fun x => (s.wk
      x).burst.quota).sum + fieldLE a 2 2 → Answers (.portraitSetQuota k) s k 0x0501 .noResource 0 [] fun t =>
      t.work = s.work ∧ t.gallery = s.gallery) ∧
  (∀ (s : State) (k : Sess) (a : Bytes) (w : Work), s.holds k 0x0502 a → byteAt a 0 = w.val ∧ s.workTested w = false ∧
      portraitFault (a.drop 4) = none → Answers (.portraitSetBase k) s k 0x0502 .ok 0 [] fun t => (t.wk w).burst.base =
      { (s.wk w).burst.base.withChannel (a.drop 4) with valid := true }) ∧
  (∀ (s : State) (k : Sess) (a : Bytes) (w : Work), s.holds k 0x0503 a → byteAt a 0 = w.val ∧ s.workTested w = false ∧
      fieldLE a 2 2 = 16383 → Answers (.portraitRead k) s k 0x0503 .ok 0 (s.readReply w 0xFFFF (s.wk w).burst.base) fun t
      => t.gallery = s.gallery) ∧
  (∀ (s : State) (k : Sess) (a : Bytes) (w : Work) (e : Nat × Portrait), s.holds k 0x0503 a → byteAt a 0 = w.val ∧
      fieldLE a 2 2 ≠ 16383 ∧ s.gallery.find w (fieldLE a 2 2) = some e ∧ s.gallery.inService.length < 16 ∧
      s.gallery.waiting = [] → Starts (.portraitRead k) s k 0x0503 fun t => t.gallery.inService.map (fun f => (f.work,
      f.station, f.sess)) = s.gallery.inService.map (fun f => (f.work, f.station, f.sess)) ++ [(w, fieldLE a 2 2,
      some k)]) ∧
  (∀ (s : State) (k : Sess) (a : Bytes) (w : Work) (e : Nat × Portrait), s.holds k 0x0504 a → byteAt a 0 = w.val ∧
      s.workTested w = false ∧ s.portraitLocked w (fieldLE a 2 2) = false → s.gallery.find w (fieldLE a 2 2) = some e ∧
      portraitFault (a.drop 4) = none → Answers (.portraitWrite k) s k 0x0504 .ok 0 (leBytes 2 e.1) fun t =>
      t.gallery.entries = tabSet s.gallery.entries e.1 { e.2.withChannel (a.drop 4) with valid := true, fails := 0,
                                                                                         coldLearned := false,
                                                                                         inherited := false }) ∧
  (∀ (s : State) (k : Sess) (a : Bytes) (w : Work) (i : Nat), s.holds k 0x0504 a → byteAt a 0 = w.val ∧
      s.workTested w = false ∧ s.portraitLocked w (fieldLE a 2 2) = false → s.gallery.find w (fieldLE a 2 2) = none ∧
      portraitFault (a.drop 4) = none ∧ (s.gallery.ofLane w).length < (s.wk w).burst.quota →
      (List.range 16384).find? (fun j => (tabGet s.gallery.entries j).isNone) = some i → Answers (.portraitWrite k) s k
      0x0504 .ok 0 (leBytes 2 i) fun t => t.gallery.entries = tabSet s.gallery.entries i
      { (Portrait.empty w.val).withChannel (a.drop 4) with station := fieldLE a 2 2, valid := true, lastHeard := s.now,
                                                           created := s.now }) ∧
  (∀ (s : State) (k : Sess) (a : Bytes) (w : Work) (e : Nat × Portrait), s.holds k 0x0505 a → byteAt a 0 = w.val ∧
      s.workTested w = false ∧ s.portraitLocked w (fieldLE a 2 2) = false ∧ s.gallery.find w (fieldLE a 2 2) = some e →
      Answers (.portraitEvict k) s k 0x0505 .ok 0 [] fun t => t.gallery.entries = tabDel s.gallery.entries e.1 ∧
      (t.wk w).burst.counters[24] = satW 32 ((s.wk w).burst.counters[24] + 1)) ∧
  (∀ (s : State) (k : Sess) (a : Bytes) (w : Work) (e : Nat × Portrait), s.holds k 0x0506 a → byteAt a 0 = w.val ∧
      s.workTested w = false ∧ s.gallery.find w (fieldLE a 2 2) = some e → (s.sramPartial arrGallery (galleryWord e.1)
      (({ e.2 with isProtected := decide (byteAt a 1 = 1) } : Portrait).word 0) 4).1 = true →
      Answers (.portraitProtect k) s k 0x0506 .ok 0 [] fun t => t.gallery.entries = tabSet s.gallery.entries e.1
      { e.2 with isProtected := decide (byteAt a 1 = 1) }) ∧
  (∀ (s : State) (k : Sess) (a : Bytes) (w : Work), s.holds k 0x0507 a → byteAt a 0 = w.val ∧ s.workTested w = false ∧
      (s.arrOf arrFabric).words = [] → Answers (.portraitList k none) s k 0x0507 .ok 0 (page [] 16 (fieldLE a 2 2)
      ((s.gallery.ofLane w).map (s.listEntry w))) fun t => t.gallery = s.gallery)

/-- Decoder outputs, markers, headers, frames, sketches and margin windows take effect. On a path that decodes, an inner
codeword decodes in the mode that applies and is counted; the next outer codeword, once its inner codewords have arrived,
gives its corrected message or is passed on and marked failed, and is counted. A valid marker for this station locks a
hunting STEADY path, in LOOP one of its own station alone, on its sender and first header; in STEADY one for another
station does not and is counted; one from the peer at the expected position keeps lock and clears the miss count; a first
and second miss are counted, a third ends lock. In SYNC a valid header moves delineation to the next header and places its
frame for the check; an invalid one ends SYNC and the search resumes at the next byte. A placed frame whose bytes have
arrived is counted as misaddressed, as good, or by its trailer; a misaddressed one leaves the list. A sketch candidate at
the sketch pointer, within window and replay space, is sketched; the oldest candidate leaves the list once outer decoding
confirms or contradicts it, and is counted if contradicted. The oldest margin window that has ended gives both margins, in
its own length. LANE.SET_FEC, to one lane or to "all", writes its four parameters, and a new length starts the window in
progress anew; LANE.GET_FEC_STATS answers the record, changes no working lane, and with CLEAR zeroes the counters and
nothing else, so not MARGIN. Each of these forms completes with a next state in every state that meets its conditions:
innerCwDecoded, outerCwDecoded, alignmentMarker, markerMissing, delineationHeader, frameCheck, sketchCandidate,
sketchResolved, marginWindowEnd, laneSetFec, laneGetFecStats (R102, R104, R105, R111, R112, R115, R116, R117, R119, R121,
R174, R383). -/
def Obligations.DecodersMarkersAndFrames : Prop :=
  (∀ (s : State) (p : Phys) (w : Work) (hard : BitVec 128) (rel : List Nat), s.rxWork p = some w ∧ s.decodes p = true →
      Leads (.innerCwDecoded p hard rel) s fun t => (t.wk w).fec.hard = ((s.wk w).fec.hardForced || decide (4 ≤ (s.wk
      w).rungs)) ∧ (t.wk w).fec.innerCw = satW 64 ((s.wk w).fec.innerCw + 1) ∧ ((t.del p).innerOut.toNat,
      (t.del p).innerFlag) = ((innerDecode ((s.wk w).fec.hardForced || decide (4 ≤ (s.wk w).rungs)) hard.toNat rel).1 /
      256 % 2 ^ 120, (innerDecode ((s.wk w).fec.hardForced || decide (4 ≤ (s.wk w).rungs)) hard.toNat rel).2)) ∧
  (∀ (s : State) (p : Phys) (w : Work) (word : List (BitVec 10)) (n : Nat) (msg : List Nat), s.rxWork p = some w ∧
      s.decodes p = true → (s.del p).rawWord (s.del p).outerNext = some word ∧ rsDecode (word.map (·.toNat)) = some (msg,
      n) → Leads (.outerCwDecoded p) s fun t => (t.del p).outerOut = ((rsEncode msg).map (BitVec.ofNat 10)).take 514 ∧
      (t.del p).outerFailed = false ∧ (t.wk w).fec.outerCw = satW 64 ((s.wk w).fec.outerCw + 1) ∧
      (t.wk w).fec.outerCorrected = satW 32 ((s.wk w).fec.outerCorrected + n)) ∧
  (∀ (s : State) (p : Phys) (w : Work) (word : List (BitVec 10)), s.rxWork p = some w ∧ s.decodes p = true →
      (s.del p).rawWord (s.del p).outerNext = some word ∧ rsDecode (word.map (·.toNat)) = none →
      Leads (.outerCwDecoded p) s fun t => (t.del p).outerOut = word.take 514 ∧ (t.del p).outerFailed = true ∧
      (t.wk w).fec.outerFailed = satW 32 ((s.wk w).fec.outerFailed + 1)) ∧
  (∀ (s : State) (p : Phys) (w : Work) (sync : BitVec 64) (code : BitVec 128) (sym : Sym) (sender dest fptr : Nat),
      (s.rxl p).state = .locked ∧ (s.rxl p).passed (sym + 255) = true ∧ s.modeOf p ≠ .spare ∧ s.rxWork p = some w ∧
      (s.del p).amLocked = false → readMarker sync code = some (sender, dest, fptr) → (s.pathMode p = .steady ∧
      (dest = (s.wk w).station ∨ dest = 16383)) ∨ (s.pathMode p = .loop ∧ sender = (s.wk w).station ∧
      dest = (s.wk w).station) → Leads (.alignmentMarker p sync code sym) s fun t => (t.del p).amLocked = true ∧
      (t.del p).amSender = sender ∧ (t.del p).delin = 2 ∧ (t.del p).nextHeader = fptr ∧ (t.rxl p).runStart = sym + 256 ∧
      (t.wk w).fec.peer = sender) ∧
  (∀ (s : State) (p : Phys) (w : Work) (sync : BitVec 64) (code : BitVec 128) (sym : Sym) (sender dest fptr : Nat),
      (s.rxl p).state = .locked ∧ (s.rxl p).passed (sym + 255) = true ∧ s.modeOf p ≠ .spare ∧ s.pathMode p = .steady ∧
      s.rxWork p = some w ∧ (s.del p).amLocked = true → readMarker sync code = some (sender, dest, fptr) ∧
      (dest = (s.wk w).station ∨ dest = 16383) ∧ sender = (s.wk w).fec.peer ∧ sym = (s.rxl p).markerDue →
      Leads (.alignmentMarker p sync code sym) s fun t => (t.del p).amLocked = true ∧ (t.del p).missCount = 0 ∧
      (t.del p).delin = (if (s.del p).delin = 0 then 2 else (s.del p).delin) ∧ (t.wk w).fec.peer = sender) ∧
  (∀ (s : State) (p : Phys) (w : Work) (sync : BitVec 64) (code : BitVec 128) (sym : Sym) (sender dest fptr : Nat),
      (s.rxl p).state = .locked ∧ (s.rxl p).passed (sym + 255) = true ∧ s.modeOf p ≠ .spare ∧ s.pathMode p = .steady ∧
      s.rxWork p = some w ∧ (s.del p).amLocked = false → readMarker sync code = some (sender, dest, fptr) ∧
      dest ≠ (s.wk w).station ∧ dest ≠ 16383 → Leads (.alignmentMarker p sync code sym) s fun t => (t.del p).amLocked =
      false ∧ (t.wk w).fec.peer = (s.wk w).fec.peer ∧ (t.wk w).fec.amMissed = satW 16 ((s.wk w).fec.amMissed + 1)) ∧
  (∀ (s : State) (p : Phys) (w : Work), s.rxWork p = some w ∧ (s.del p).amLocked = true ∧ (s.del p).missCount < 2 ∧
      (s.rxl p).passed ((s.rxl p).markerDue + 255) = true → Leads (.markerMissing p) s fun t => (t.del p).amLocked = true
      ∧ (t.del p).missCount = (s.del p).missCount + 1 ∧ (t.wk w).fec.amMissed = satW 16 ((s.wk w).fec.amMissed + 1)) ∧
  (∀ (s : State) (p : Phys) (w : Work), s.rxWork p = some w ∧ (s.del p).amLocked = true ∧ 2 ≤ (s.del p).missCount ∧
      (s.rxl p).passed ((s.rxl p).markerDue + 255) = true → Leads (.markerMissing p) s fun t => (t.del p).amLocked =
      false ∧ (t.del p).delin = 0 ∧ (t.wk w).fec.amLoss = satW 16 ((s.wk w).fec.amLoss + 1)) ∧
  (∀ (s : State) (p : Phys) (w : Work) (bytes : Bytes), s.rxWork p = some w ∧ s.passes p = true ∧ (s.del p).delin = 2 ∧
      (s.del p).read (s.del p).nextHeader 16 = some (bytes, false) ∧ (s.del p).beyond (s.del p).nextHeader 16 = false →
      validHdr (hdrAt bytes) = true → Leads (.delineationHeader p) s fun t => (t.del p).delin = 2 ∧
      (t.del p).nextHeader = (s.del p).nextHeader + wireSize (frameHdr (hdrAt bytes)).type (frameHdr (hdrAt bytes)).len ∧
      (t.del p).toCheck = (s.del p).toCheck ++ [(s.del p).nextHeader]) ∧
  (∀ (s : State) (p : Phys) (w : Work) (bytes : Bytes), s.rxWork p = some w ∧ s.passes p = true ∧ (s.del p).delin = 2 ∧
      (s.del p).read (s.del p).nextHeader 16 = some (bytes, false) ∧ (s.del p).beyond (s.del p).nextHeader 16 = false →
      validHdr (hdrAt bytes) = false → Leads (.delineationHeader p) s fun t => (t.del p).delin = 0 ∧
      (t.del p).nextHeader = (s.del p).nextHeader + 1 ∧ (t.wk w).fec.headersFailed = satW 32 ((s.wk w).fec.headersFailed
      + 1) ∧ (t.wk w).fec.delinLoss = satW 16 ((s.wk w).fec.delinLoss + 1)) ∧
  (∀ (s : State) (p : Phys) (w : Work) (pos : Nat) (rest : List Nat) (h : Bytes) (lost : Bool) (x : CheckedFrame) (bad :
      Option (Nat × BitVec 42)), s.rxWork p = some w ∧ s.passes p = true ∧ (s.del p).toCheck = pos :: rest ∧
      (s.del p).read pos 16 = some (h, lost) → (s.del p).beyond pos (wireSize (frameHdr (hdrAt h)).type (frameHdr (hdrAt
      h)).len) = false ∧ (s.del p).frameAt pos = some x → (frameHdr x.hdr).type ≠ 0 ∧ (frameHdr x.hdr).peer ≠ (s.wk
      w).station → Leads (.frameCheck p bad) s fun t => (t.wk w).fec.misaddressed = satW 32 ((s.wk w).fec.misaddressed +
      1) ∧ (t.wk w).fec.good = (s.wk w).fec.good ∧ (t.del p).toCheck = rest) ∧
  (∀ (s : State) (p : Phys) (w : Work) (pos : Nat) (rest : List Nat) (h : Bytes) (lost : Bool) (x : CheckedFrame),
      s.rxWork p = some w ∧ s.passes p = true ∧ (s.del p).toCheck = pos :: rest ∧ (s.del p).read pos 16 = some (h,
      lost) → (s.del p).beyond pos (wireSize (frameHdr (hdrAt h)).type (frameHdr (hdrAt h)).len) = false ∧
      (s.del p).frameAt pos = some x → (frameHdr x.hdr).type ≠ 0 ∧ (frameHdr x.hdr).peer = (s.wk w).station ∧
      x.lostCw = false → ((frameHdr x.hdr).type ≠ 1 ∧ (frameHdr x.hdr).type ≠ 3) ∨ trailerOk x.hdr x.payload x.crc = true
      → Leads (.frameCheck p none) s fun t => (t.wk w).fec.good = satW 32 ((s.wk w).fec.good + 1) ∧
      (t.wk w).fec.misaddressed = (s.wk w).fec.misaddressed) ∧
  (∀ (s : State) (p : Phys) (w : Work) (pos : Nat) (rest : List Nat) (h : Bytes) (lost : Bool) (x : CheckedFrame),
      s.rxWork p = some w ∧ s.passes p = true ∧ (s.del p).toCheck = pos :: rest ∧ (s.del p).read pos 16 = some (h,
      lost) → (s.del p).beyond pos (wireSize (frameHdr (hdrAt h)).type (frameHdr (hdrAt h)).len) = false ∧
      (s.del p).frameAt pos = some x → ((frameHdr x.hdr).type = 1 ∨ (frameHdr x.hdr).type = 3) ∧
      (frameHdr x.hdr).peer = (s.wk w).station ∧ x.lostCw = false ∧ trailerOk x.hdr x.payload x.crc = false →
      Leads (.frameCheck p none) s fun t => (t.wk w).fec.crc = satW 32 ((s.wk w).fec.crc + 1) ∧
      (t.wk w).fec.good = (s.wk w).fec.good) ∧
  (∀ (s : State) (p : Phys) (w : Work) (pos : Nat) (x : CheckedFrame) (c : RxCtx), s.rxWork p = some w ∧
      (s.wk w).sketch = true ∧ (s.wk w).sketchOff = false ∧ s.passes p = true ∧ guaranteed (s.pathMode p) = true ∧
      s.sketchLane w = some p → (s.del p).earlyFrame pos = some x ∧ ((s.del p).cands.any fun c => decide (c.1 = pos)) =
      false → validHdr x.hdr = true ∧ (frameHdr x.hdr).type = 1 ∧ (frameHdr x.hdr).peer = (s.wk w).station ∧
      trailerOk x.hdr x.payload x.crc = true → tabGet (s.wk w).rxCtx (s.senderOf p w) = some c ∧
      c.gen = (frameHdr x.hdr).gen ∧ (frameHdr x.hdr).seq = (if c.sketches = [] then c.next else c.sketchPtr) ∧
      c.paused = false → (s.wk w).sketchBytes + wireSize 1 (frameHdr x.hdr).len ≤ 1024 * (s.wk w).sketchWindow ∧
      (s.grp (groupOfWork w)).replayFull (12 + (frameHdr x.hdr).len) = false → Leads (.sketchCandidate p pos) s fun t =>
      (t.del p).cands = (s.del p).cands ++ [(pos, wireSize 1 (frameHdr x.hdr).len)] ∧ (tabGet (t.wk w).rxCtx (s.senderOf
      p w)).map (fun c => (c.sketches.map (·.seq), c.sketchPtr)) = some (c.sketches.map (·.seq) ++ [(frameHdr
      x.hdr).seq], (frameHdr x.hdr).seq + 1)) ∧
  (∀ (s : State) (p : Phys) (w : Work) (pos n : Nat) (rest : List (Nat × Nat)), s.rxWork p = some w ∧
      (s.del p).cands = (pos, n) :: rest ∧ (s.del p).verdict pos n = some false → Leads (.sketchResolved p) s fun t =>
      (t.wk w).fec.contradicted = satW 32 ((s.wk w).fec.contradicted + 1) ∧ (t.del p).cands = rest.filter fun c => decide
      (c.1 ≠ pos)) ∧
  (∀ (s : State) (p : Phys) (w : Work) (pos n : Nat) (rest : List (Nat × Nat)), s.rxWork p = some w ∧
      (s.del p).cands = (pos, n) :: rest ∧ (s.del p).verdict pos n = some true → Leads (.sketchResolved p) s fun t =>
      (t.wk w).fec.contradicted = (s.wk w).fec.contradicted ∧ (t.del p).cands = rest.filter fun c => decide (c.1 ≠ pos)) ∧
  (∀ (s : State) (w : Work) (p : Phys) (c e : Nat) (rest : List (Nat × Nat)), s.physOf w = some p ∧
      (guaranteed (s.modeOf p) = true ∨ s.modeOf p = .loop) ∧ (s.wk w).fec.windows = (c, e) :: rest ∧
      (s.wk w).fec.failWindows < 2 → Leads (.marginWindowEnd w) s fun t => (t.wk w).fec.margin = marginOf c e 24 10000 ∧
      (t.wk w).fec.marginHard = marginOf c e 15 10000 ∧ (t.wk w).fec.marginValid = true ∧ (t.wk w).fec.marginLb = decide
      (c = 0) ∧ (t.wk w).fec.windows = rest ∧ (t.wk w).penLast = (s.wk w).penNow ∧ (t.wk w).penNow = []) ∧
  (∀ (s : State) (k : Sess) (a : Bytes) (w : Work), s.holds k 0x0328 a → (byteAt a 0 = w.val ∧
      s.workTest w = false) ∨ (byteAt a 0 = 255 ∧ ∀ v, s.workTest v = false) → Answers (.laneSetFec k) s k 0x0328 .ok 0
      [] fun t => (t.wk w).fec.windowExp = byteAt a 1 ∧ (t.wk w).fec.hardForced = decide (byteAt a 2 = 1) ∧
      (t.wk w).fec.preTx = bitOf (byteAt a 3) 0 ∧ (t.wk w).fec.preRx = bitOf (byteAt a 3) 1 ∧
      (t.wk w).fec.winBits = if (s.wk w).fec.windowExp = byteAt a 1 then (s.wk w).fec.winBits else 0) ∧
  (∀ (s : State) (k : Sess) (a : Bytes) (w : Work), s.holds k 0x0329 a → byteAt a 0 = w.val ∧ s.workTest w = false ∧
      bitOf (byteAt a 1) 0 = false → Answers (.laneGetFecStats k) s k 0x0329 .ok 0 (s.fecRecord w) fun t =>
      t.work = s.work) ∧
  (∀ (s : State) (k : Sess) (a : Bytes) (w : Work), s.holds k 0x0329 a → byteAt a 0 = w.val ∧ s.workTest w = false ∧
      bitOf (byteAt a 1) 0 = true → Answers (.laneGetFecStats k) s k 0x0329 .ok 0 (s.fecRecord w) fun t =>
      (t.wk w).fec = { (s.wk w).fec with codedBits := 0, corrections := 0, innerCw := 0, innerChanged := 0,
                                         innerFlagged := 0, outerCw := 0, outerFailed := 0, outerCorrected := 0,
                                         hist := Vector.replicate 16 0, good := 0, crc := 0, lostCw := 0,
                                         misaddressed := 0, headersFailed := 0, contradicted := 0, delinLoss := 0,
                                         amLoss := 0, amMissed := 0, peerChanges := 0 })

/-- The transmit setting commands stage or write what they carry. LANE.SET_TX, to one lane or to "all", stages SWING and
skew, which are not yet in force, and writes the idle setting. LANE.LOAD_TX_PALETTE writes the palette that is not active,
A or B, when its taps add up to at most 1.0, and leaves the other; it refuses with BUSY of the active palette or while a
swap is pending, and with BAD_ARG larger sums, no transmitter changed. LANE.SWAP_TX_PALETTE asks for a fade with OUTCOME
0, holds the request with OUTCOME 1 while one is pending or runs, and is refused with BAD_STATE in the modes that have no
fades. A predistortion table is staged, and the one in force stays. LANE.SET_TX_BURST, to one lane or to "all", stages its
six burst parameters for the next burst that is chosen, with those in force unchanged until then, and asks RESYNC of a
named station. LANE.GET_TX_DIAG returns the diagnostics record and clears its counters only when asked. Each of these
forms completes with a next state in every state that meets its conditions: laneSetTx, laneLoadTxPalette, laneGetTxDiag,
laneSwapTxPalette, laneSetPredistort, laneSetTxBurst (R127, R128, R129, R130, R136, R148, R152, R383). -/
def Obligations.TransmitSettings : Prop :=
  (∀ (s : State) (k : Sess) (a : Bytes) (p : Phys), s.holds k 0x0330 a → (byteAt a 0 = p.val ∧
      (s.ln p).selftest = false) ∨ (byteAt a 0 = 255 ∧ ∀ q, (s.ln q).selftest = false) →
      Answers (.laneSetTx k) s k 0x0330 .ok 0 [] fun t => (t.txl p).staged = some (byteAt a 1, toSigned 8 (byteAt a 2)) ∧
      (t.txl p).idleZero = decide (byteAt a 3 = 1) ∧ (t.txl p).swing = (s.txl p).swing ∧ (t.txl p).skew = (s.txl p).skew) ∧
  (∀ (s : State) (k : Sess) (a : Bytes) (p : Phys), s.holds k 0x0331 a → byteAt a 0 = p.val ∧ (s.ln p).selftest = false ∧
      (s.txl p).fade = none ∧ (s.txl p).activeB ≠ decide (byteAt a 1 = 1) ∧ (tapsOf (byteAt a 2) (a.drop 4)).sumAbs ≤ 512
      → Answers (.laneLoadTxPalette k) s k 0x0331 .ok 0 [] fun t => (t.txl p).paletteA = (if byteAt a 1 = 1 then (s.txl
      p).paletteA else tapsOf (byteAt a 2) (a.drop 4)) ∧ (t.txl p).paletteB = (if byteAt a 1 = 1 then tapsOf (byteAt a 2)
      (a.drop 4) else (s.txl p).paletteB)) ∧
  (∀ (s : State) (k : Sess) (a : Bytes) (p : Phys), s.holds k 0x0331 a → byteAt a 0 = p.val ∧ (s.ln p).selftest = false ∧
      ((s.txl p).fade ≠ none ∨ (s.txl p).activeB = decide (byteAt a 1 = 1)) → Answers (.laneLoadTxPalette k) s k 0x0331
      .busy 0 [] fun t => t.tx = s.tx) ∧
  (∀ (s : State) (k : Sess) (a : Bytes) (p : Phys), s.holds k 0x0331 a → byteAt a 0 = p.val ∧ (s.ln p).selftest = false ∧
      (s.txl p).fade = none ∧ (s.txl p).activeB ≠ decide (byteAt a 1 = 1) ∧ 512 < (tapsOf (byteAt a 2) (a.drop 4)).sumAbs
      → Answers (.laneLoadTxPalette k) s k 0x0331 .badArg 0x14 [] fun t => t.tx = s.tx) ∧
  (∀ (s : State) (k : Sess) (a : Bytes) (p : Phys), s.holds k 0x0332 a → byteAt a 0 = p.val ∧ (s.ln p).selftest = false →
      Answers (.laneGetTxDiag k) s k 0x0332 .ok 0 (s.txRecord p) fun t => (t.txl p).diag = if bitOf (byteAt a 1) 0 then
      { } else (s.txl p).diag) ∧
  (∀ (s : State) (k : Sess) (a : Bytes) (p : Phys), s.holds k 0x0333 a → byteAt a 0 = p.val ∧ (s.ln p).selftest = false ∧
      (s.modeOf p = .steady ∨ s.modeOf p = .transparent ∨ s.modeOf p = .tune ∨ s.modeOf p = .loop) ∧
      (s.txl p).fade = none → Answers (.laneSwapTxPalette k) s k 0x0333 .ok 0 [0] fun t => (t.txl p).fade = some
      { swap := ⟨byteAt a 2, BitVec.ofNat 16 (fieldLE a 4 2)⟩ } ∧ (t.txl p).activeB = (s.txl p).activeB) ∧
  (∀ (s : State) (k : Sess) (a : Bytes) (p : Phys) (f : Fade), s.holds k 0x0333 a → byteAt a 0 = p.val ∧
      (s.ln p).selftest = false ∧ (s.modeOf p = .steady ∨ s.modeOf p = .transparent ∨ s.modeOf p = .tune ∨ s.modeOf p =
      .loop) ∧ (s.txl p).fade = some f → Answers (.laneSwapTxPalette k) s k 0x0333 .ok 0 [1] fun t =>
      (t.txl p).fade = some f ∧ (t.txl p).heldSwap = some ⟨byteAt a 2, BitVec.ofNat 16 (fieldLE a 4 2)⟩) ∧
  (∀ (s : State) (k : Sess) (a : Bytes) (p : Phys), s.holds k 0x0333 a → byteAt a 0 = p.val ∧ (s.ln p).selftest = false ∧
      s.modeOf p ≠ .steady ∧ s.modeOf p ≠ .transparent ∧ s.modeOf p ≠ .tune ∧ s.modeOf p ≠ .loop →
      Answers (.laneSwapTxPalette k) s k 0x0333 .badState 0 [] fun t => t.tx = s.tx) ∧
  (∀ (s : State) (k : Sess) (a : Bytes) (p : Phys), s.holds k 0x0334 a → byteAt a 0 = p.val ∧ (s.ln p).selftest = false →
      Answers (.laneSetPredistort k) s k 0x0334 .ok 0 [] fun t => (t.txl p).pdStaged = some (Vector.ofFn fun i : Fin 64
      => toSigned 9 (fieldLE a (4 + 2 * i.val) 2)) ∧ (t.txl p).pd = (s.txl p).pd) ∧
  (∀ (s : State) (k : Sess) (a : Bytes) (w : Work), s.holds k 0x0335 a → (byteAt a 0 = w.val ∧
      s.workTest w = false) ∨ (byteAt a 0 = 255 ∧ ∀ v, s.workTest v = false) → Answers (.laneSetTxBurst k) s k 0x0335 .ok
      0 [] fun t => (t.wk w).tx.staged = some { cwMax := byteAt a 1, backoffJ := byteAt a 2, beMax := byteAt a 3,
                                                attemptLimit := byteAt a 4, openHold := fieldLE a 6 2,
                                                openGap := fieldLE a 8 2 } ∧ ((t.wk w).tx.cwMax,
      (t.wk w).tx.beMax) = ((s.wk w).tx.cwMax, (s.wk w).tx.beMax) ∧ (t.wk w).tx.resync = if fieldLE a 10 2 = 16383 ∨
      (s.wk w).tx.resync.contains (fieldLE a 10 2) = true then (s.wk w).tx.resync else (s.wk w).tx.resync ++ [fieldLE a
      10 2])

/-- Staged settings, fades, driver faults, TRANSPARENT and superframes take effect at their events. Staged SWING and skew
come into force, in SLOTTED and OPEN not while a burst is sent; a staged predistortion table does on a symbol that its
mode allows, and is counted, and not on another symbol. A fade starts at the transmit symbol counter, passes its midpoint
when more than half of its steps are done, and ends with the other palette active; a held swap starts there. A driver
fault, with no mode change pending, latches zero scale and stops a burst, and its end clears nothing; its declaration
marks a lane without the guarantee FAILED. The elastic buffer of TRANSPARENT starts to drain at 512 bytes and stops at an
underrun. Outside zero scale, a superframe boundary sends a marker: the first one with the path's SENDER and DEST, the run
number and no bytes of an earlier frame, and it ends no run; each later one, when its symbol has come, puts one whole
coded run of the run's bytes before the marker and counts RUN on. Each of these forms completes with a next state in every
state that meets its conditions: txSettingApply, predistortApply, txFadeStart, txFadeMidpoint, txFadeEnd, txDriverFault,
txFaultDeclaration, transparentStart, transparentUnderrun, superframeBoundary (R109, R113, R128, R129, R130, R131, R133,
R182, R469). -/
def Obligations.TransmitEvents : Prop :=
  (∀ (s : State) (p : Phys) (g : Nat) (x : Int), (burstMode (s.modeOf p) = false ∨ (s.txl p).state ≠ .sending) ∧
      (s.txl p).staged = some (g, x) → Leads (.txSettingApply p) s fun t => (t.txl p).swing = g ∧ (t.txl p).skew = x ∧
      (t.txl p).staged = none) ∧
  (∀ (s : State) (p : Phys) (pd : Vector Int 64) (sym : Sym), s.symNow p sym = true ∧ s.mayApplyPd p sym = true ∧
      (s.txl p).pdStaged = some pd → Leads (.predistortApply p sym) s fun t => (t.txl p).pd = pd ∧
      (t.txl p).pdStaged = none ∧ (t.txl p).diag.pdApplied = satW 16 ((s.txl p).diag.pdApplied + 1)) ∧
  (∀ (s : State) (p : Phys) (sym : Sym), s.symNow p sym = false ∨ s.mayApplyPd p sym = false →
      Leads (.predistortApply p sym) s fun t => (t.txl p).pd = (s.txl p).pd ∧ (t.txl p).pdStaged = (s.txl p).pdStaged) ∧
  (∀ (s : State) (p : Phys) (f : Fade), (s.txl p).fade = some f ∧ f.started = false → Leads (.txFadeStart p) s fun t =>
      (t.txl p).fade = some { f with started := true, start := s.txSym p } ∧ (t.txl p).activeB = (s.txl p).activeB) ∧
  (∀ (s : State) (p : Phys) (f : Fade), (s.txl p).fade = some f ∧ f.started = true ∧ (s.txFadeSteps p f).2 < 2 *
      (s.txFadeSteps p f).1 → Leads (.txFadeMidpoint p) s fun t => (t.txl p).fade = some { f with past := true }) ∧
  (∀ (s : State) (p : Phys) (f : Fade), (s.txl p).fade = some f ∧ f.started = true ∧
      (s.txFadeSteps p f).1 = (s.txFadeSteps p f).2 → Leads (.txFadeEnd p) s fun t => (t.txl p).activeB = (!(s.txl
      p).activeB) ∧ (t.txl p).fade = (s.txl p).heldSwap.map (fun x =>
      { swap := x, started := true, start := f.start + BitVec.ofNat 48 (2 ^ f.swap.exp) }) ∧ (t.txl p).heldSwap = none ∧
      (t.txl p).diag.swapCompleted = satW 16 ((s.txl p).diag.swapCompleted + 1)) ∧
  (∀ (s : State) (p : Phys) (kind : Nat), (s.txl p).faultNow = false ∧ (s.ln p).change = none →
      Leads (.txDriverFault p kind true) s fun t => (t.txl p).fault = true ∧ (t.txl p).faultNow = true ∧
      (t.txl p).faultDue = true ∧ (t.txl p).burst = none) ∧
  (∀ (s : State) (p : Phys) (kind : Nat), Leads (.txDriverFault p kind false) s fun t => (t.txl p).faultNow = false ∧
      (t.txl p).fault = (s.txl p).fault) ∧
  (∀ (s : State) (p : Phys) (w : Work), (s.txl p).faultDue = true ∧ s.workOf p = some w ∧ guaranteed (s.modeOf p) = false
      → Leads (.txFaultDeclaration p) s fun t => (t.txl p).faultDue = false ∧ (t.ln p).failed = true ∧ t.work = s.work) ∧
  (∀ (s : State) (p : Phys), s.modeOf p = .transparent ∧ (s.txl p).elasticOn = false ∧ 512 ≤ (s.txl p).elastic.length →
      Leads (.transparentStart p) s fun t => (t.txl p).elasticOn = true ∧ (t.txl p).elastic = (s.txl p).elastic) ∧
  (∀ (s : State) (p : Phys), s.modeOf p = .transparent ∧ (s.txl p).elasticOn = true ∧ (s.txl p).elastic = [] →
      Leads (.transparentUnderrun p) s fun t => (t.txl p).elasticOn = false ∧ (t.txl p).elastic = []) ∧
  (∀ (s : State) (p : Phys) (bad : Option (Nat × Nat × BitVec 42)), superframes (s.modeOf p) = true ∧
      s.zeroScale p = false ∧ (s.txl p).marker = 0 → Leads (.superframeBoundary p bad) s fun t =>
      (t.txl p).marker = withCrc ((((s.markerIds p).1 * 2 ^ 14 + (s.markerIds p).2) * 2 ^ 12 + (s.txl p).run.toNat) * 2 ^
      16) ∧ (t.txl p).line = markerLine (t.txl p).marker ∧ (t.txl p).run = (s.txl p).run ∧ (t.txl p).boundary = s.txSym p
      + BitVec.ofNat 48 superframeSymbols) ∧
  (∀ (s : State) (p : Phys), superframes (s.modeOf p) = true ∧ s.zeroScale p = false ∧ (s.txl p).marker ≠ 0 ∧
      s.symDue p (s.txl p).boundary = true → Leads (.superframeBoundary p none) s fun t => (t.txl p).run = (s.txl p).run
      + 1 ∧ (t.txl p).boundary = (s.txl p).boundary + BitVec.ofNat 48 superframeSymbols ∧ ∃ b : Bytes,
      b.length = runBytes ∧ (t.txl p).line = payloadLine 4096 b ++ markerLine (t.txl p).marker)

/-- Slot bursts, epochs and OPEN bursts take effect at their events. At its freeze point a usable transmit slot, its word
of the schedule free of errors, fixes a burst for its destination with the burst counter; its start puts the burst on the
line and counts on; its end leaves the transmitter idle and counts the burst and its codewords. A FABSYNC edge starts the
next epoch; a missed one starts a flywheel epoch at the prediction, and the limit of them declares FABSYNC lost. The
deadline of an armed swap or of a mode change closes its target. OPEN, with the burst parameters staged last in force,
chooses the next ready destination and fixes a burst for it. A hold with frames to send and a backoff end. Each of these
forms completes with a next state in every state that meets its conditions: burstFreeze, burstSendStart, burstSendEnd,
fabsyncEdge, fabsyncMissDecision, armDeadline, openBurstChoice, openHoldExpiry, backoffExpiry (R136, R137, R138, R140,
R141, R144, R145, R146, R149, R150). -/
def Obligations.BurstTransmission : Prop :=
  (∀ (s : State) (p : Phys) (w : Work) (slot : Nat), s.workOf p = some w ∧ s.modeOf p = .slotted ∧
      slot < (s.wk w).tx.active.slots ∧ entryTxEn ((s.wk w).tx.active.entry slot) = true ∧ (s.arrOf arrFabric).words = []
      → s.epochAt ((s.wk w).tx.active.txStart (s.rxl p).rate slot - 2048 * 2 ^ (s.rxl p).rate) = true ∧
      s.epoch.lost = false ∧ (s.txl p).state = .idle ∧ (s.ln p).power = .active ∧ (s.ln p).resetting = false ∧
      s.mayBurst p w = true → entryProbe ((s.wk w).tx.active.entry slot) = true ∨ (s.wk w).toSend (entryDest ((s.wk
      w).tx.active.entry slot)) ≠ [] ∨ (s.wk w).tx.coldPending.contains (entryDest ((s.wk w).tx.active.entry slot)) =
      true → Leads (.burstFreeze p slot 0 none) s fun t => (t.txl p).state = .frozen ∧ (t.txl p).burst.map (fun b =>
      (b.dest, b.num)) = some (entryDest ((s.wk w).tx.active.entry slot), (tabGet (s.wk w).tx.burstNum (entryDest ((s.wk
      w).tx.active.entry slot))).getD 0)) ∧
  (∀ (s : State) (p : Phys) (w : Work) (b : TxBurst), s.workOf p = some w ∧ (s.txl p).burst = some b ∧
      (s.txl p).state = .frozen ∧ (s.ln p).resetting = false ∧ s.mayBurst p w = true → s.modeOf p = .openM ∨ s.modeOf p =
      .slotted ∧ s.epochAt b.sendAt = true → Leads (.burstSendStart p) s fun t => (t.txl p).state = .sending ∧
      (t.txl p).line = burstLine b.cold b.header b.cwCount (b.frames.flatMap LineFrame.bytes) ∧
      (t.txl p).lastSent = b.frames ∧ tabGet (t.wk w).tx.burstNum b.dest = some ((b.num + 1) % 4096)) ∧
  (∀ (s : State) (p : Phys) (b : TxBurst), (s.txl p).burst = some b ∧ (s.txl p).state = .sending ∧
      (s.ln p).change = none ∧ (s.ln p).resetWait = false → Leads (.burstSendEnd p) s fun t => (t.txl p).state = .idle ∧
      (t.txl p).burst = none ∧ (t.txl p).guardDone = false ∧ (t.txl p).diag.bursts = satW 32 ((s.txl p).diag.bursts + 1)
      ∧ (t.txl p).diag.cwSent = satW 32 ((s.txl p).diag.cwSent + b.cwCount)) ∧
  (∀ (s : State) (offset : Int), Leads (.fabsyncEdge offset) s fun t => t.epoch.epoch = s.epoch.epoch + 1 ∧
      t.epoch.flyCount = 0 ∧ t.epoch.lost = false ∧ t.epoch.flywheel = false ∧ t.epoch.start = s.now) ∧
  (∀ (s : State), s.epoch.period ≠ 0 ∧ s.epoch.lost = false → Leads .fabsyncMissDecision s fun t =>
      t.epoch.epoch = s.epoch.epoch + 1 ∧ t.epoch.flywheel = true ∧ t.epoch.start = s.now - BitVec.ofNat 64
      (s.epoch.fsTol / 512) ∧ t.epoch.flyCount = s.epoch.flyCount + 1 ∧ t.epoch.lost = decide (s.epoch.flyLimit ≤
      s.epoch.flyCount + 1)) ∧
  (∀ (s : State) (w : Work), Leads (.armDeadline w false) s fun t => (t.wk w).tx.armed = (s.wk w).tx.armed.map fun x =>
      (x.1, true)) ∧
  (∀ (s : State) (w : Work) (p : Phys) (m : LaneMode) (e : BitVec 32) (l : Bool), s.physOf w = some p ∧
      (s.ln p).change = some (.epoch m e l) → Leads (.armDeadline w true) s fun t => (t.ln p).change = some (.epoch m e
      true)) ∧
  (∀ (s : State) (p : Phys) (w : Work) (d : Nat), s.workOf p = some w ∧ s.modeOf p = .openM ∧ (s.txl p).state = .idle ∧
      (s.ln p).power = .active ∧ (s.ln p).resetting = false ∧ s.mayBurst p w = true →
      ({ s.wk w with tx := (s.wk w).tx.settle } : WorkLane).nextReady = some d → Leads (.openBurstChoice p none) s fun t
      => (t.txl p).state = .frozen ∧ (t.txl p).burst.map (fun b => (b.dest, b.num)) = some (d,
      (tabGet (s.wk w).tx.burstNum d).getD 0) ∧ (t.wk w).tx.lastDest = d) ∧
  (∀ (s : State) (w : Work) (dest : Nat), s.modeOfWork w = .openM ∧ ((s.wk w).toSend dest).any (fun i => !i.sent) = true
      → Leads (.openHoldExpiry w dest) s fun t => (tabGet (t.wk w).tx.dests dest).map (·.held) = some true) ∧
  (∀ (s : State) (w : Work) (dest : Nat) (o : OpenDest), tabGet (s.wk w).tx.dests dest = some o →
      Leads (.backoffExpiry w dest) s fun t => tabGet (t.wk w).tx.dests dest = some { o with backoff := false })

/-- The schedule commands set the epoch, load, arm, disarm and read schedules. SCHED.SET_EPOCH writes the period, the
tolerance and the limit and leaves the epoch number. SCHED.LOAD writes the header or entries of the shadow schedule, and
nothing of the active one; an armed shadow is BUSY. SCHED.ARM arms a shadow that passes its checks for the next or a named
epoch that is still open, and answers with the epoch; one that fails a check is refused with its offset in DETAIL, no
working lane changed. SCHED.DISARM takes the arming back before its deadline. SCHED.GET_STATUS and SCHED.READ answer with
the status record, and the header with the entries asked for of the schedule asked for, and change no working lane. Each
of these forms completes with a next state in every state that meets its conditions: schedSetEpoch, schedLoad, schedArm,
schedDisarm, schedGetStatus, schedRead (R140, R143, R146, R393). -/
def Obligations.ScheduleCommands : Prop :=
  (∀ (s : State) (k : Sess) (a : Bytes), s.holds k 0x0401 a → Answers (.schedSetEpoch k) s k 0x0401 .ok 0 [] fun t =>
      (t.epoch.period, t.epoch.fsTol, t.epoch.flyLimit) = (fieldLE a 0 4, fieldLE a 4 2, byteAt a 6) ∧
      t.epoch.epoch = s.epoch.epoch) ∧
  (∀ (s : State) (k : Sess) (a : Bytes) (w : Work), s.holds k 0x0402 a → byteAt a 0 = w.val ∧ byteAt a 1 = 0 ∧
      s.workTest w = false ∧ (s.wk w).tx.armed = none → Answers (.schedLoad k) s k 0x0402 .ok 0 [] fun t =>
      (t.wk w).tx.shadow =
      { (s.wk w).tx.shadow with header := Vector.ofFn fun i : Fin 8 => BitVec.ofNat 32 (fieldLE a (8 + 4 * i.val) 4) } ∧
      (t.wk w).tx.active = (s.wk w).tx.active) ∧
  (∀ (s : State) (k : Sess) (a : Bytes) (w : Work), s.holds k 0x0402 a → byteAt a 0 = w.val ∧ byteAt a 1 ≠ 0 ∧
      s.workTest w = false ∧ (s.wk w).tx.armed = none → Answers (.schedLoad k) s k 0x0402 .ok 0 [] fun t =>
      (t.wk w).tx.shadow.entries = ((wordsOf (fieldLE a 4 2) (a.drop 8)).zipIdx).foldl (fun m x => tabSet m (fieldLE a 2
      2 + x.2) x.1) (s.wk w).tx.shadow.entries ∧ (t.wk w).tx.shadow.header = (s.wk w).tx.shadow.header ∧
      (t.wk w).tx.active = (s.wk w).tx.active) ∧
  (∀ (s : State) (k : Sess) (a : Bytes) (w : Work), s.holds k 0x0402 a → byteAt a 0 = w.val ∧ s.workTest w = false ∧
      (s.wk w).tx.armed ≠ none → Answers (.schedLoad k) s k 0x0402 .busy 0 [] fun t => t.work = s.work) ∧
  (∀ (s : State) (k : Sess) (a : Bytes) (w : Work) (p : Phys), s.holds k 0x0403 a → byteAt a 0 = w.val ∧
      s.physOf w = some p ∧ (s.ln p).selftest = false ∧ ((s.wk w).tx.armed.map (·.2)).getD false = false →
      byteAt a 1 = 0 ∨ reached (s.nextTarget w) (BitVec.ofNat 32 (fieldLE a 4 4)) = true →
      s.schedFault (s.wk w).tx.shadow (s.rxl p).rate = none → Answers (.schedArm k) s k 0x0403 .ok 0 (leBytes 4 (if
      byteAt a 1 = 0 then s.nextTarget w else BitVec.ofNat 32 (fieldLE a 4 4)).toNat) fun t => (t.wk w).tx.armed = some
      (if byteAt a 1 = 0 then s.nextTarget w else BitVec.ofNat 32 (fieldLE a 4 4), false)) ∧
  (∀ (s : State) (k : Sess) (a : Bytes) (w : Work) (p : Phys) (o : Nat), s.holds k 0x0403 a → byteAt a 0 = w.val ∧
      s.physOf w = some p ∧ (s.ln p).selftest = false ∧ (s.wk w).tx.armed = none ∧ byteAt a 1 = 0 →
      s.schedFault (s.wk w).tx.shadow (s.rxl p).rate = some o → Answers (.schedArm k) s k 0x0403 .badArg (0x80000000 + o)
      [] fun t => t.work = s.work) ∧
  (∀ (s : State) (k : Sess) (a : Bytes) (w : Work), s.holds k 0x0404 a → byteAt a 0 = w.val ∧ s.workTest w = false ∧
      ((s.wk w).tx.armed.map (·.2)).getD false = false → Answers (.schedDisarm k) s k 0x0404 .ok 0 [] fun t =>
      (t.wk w).tx.armed = none ∧ (t.wk w).tx.shadow = (s.wk w).tx.shadow) ∧
  (∀ (s : State) (k : Sess) (a : Bytes) (w : Work), s.holds k 0x0405 a → byteAt a 0 = w.val ∧ s.workTest w = false →
      Answers (.schedGetStatus k) s k 0x0405 .ok 0 (s.schedRecord w) fun t => t.work = s.work) ∧
  (∀ (s : State) (k : Sess) (a : Bytes) (w : Work), s.holds k 0x0406 a → byteAt a 0 = w.val ∧ s.workTest w = false ∧
      fieldLE a 2 2 + fieldLE a 4 2 ≤ 1024 → Answers (.schedRead k) s k 0x0406 .ok 0 ((if byteAt a 1 = 0 then (s.wk
      w).tx.active else (s.wk w).tx.shadow).headerBytes ++ (if byteAt a 1 = 0 then (s.wk w).tx.active else (s.wk
      w).tx.shadow).entryBytes (fieldLE a 2 2) (fieldLE a 4 2)) fun t => t.work = s.work)

/-- Frames are accepted or refused, contexts and timers expire, and spare moves go through their phases. A frame with a
context, its staged words free of errors, is retained under the next SEQ and counted accepted; a faulty one is refused and
counted. An expired RTO is counted where the context's words read without error; an expired acknowledgement interval makes
a standalone ACK due where one is owed; an idle receive context goes, with sketches too, and so does an idle transmit
context without retained frames while no context waits to open and no LINK message waits. A lost signal in STEADY starts a
failure move onto the free spare when AUTO_FAIL allows, and is only reported when it does not. The map point of a failure
move puts the working lane on T in S's mode and S in DARK marked FAILED. Of a planned STEADY move the settle time of
SWITCH begins BREAK and leaves the map, that of BREAK ends the move with the working lane on T in S's mode and S in SPARE
(that the map changes there is DEDUCED, log entry 102); its limit ends it with the map as it was. A planned move in the
burst modes maps the working lane onto T when S is not sending, and puts S in SPARE. The ends of planned moves are stated
where no working lane waits for a spare, and the map points where no mode change waits for the end of a burst. Each of
these forms completes with a next state in every state that meets its conditions: frameAccepted, rtoExpiry,
ackIntervalExpiry, ctxIdleExpiry, losSpareDelayExpiry, failureMoveMap, moveSettleExpiry, moveLimitExpiry,
moveSwitchZeroScale (R155, R163, R166, R169, R182, R183, R184, R185, R186). -/
def Obligations.DeliveryTimersAndMoves : Prop :=
  (∀ (s : State) (w : Work) (f : HostFrame) (rest : List HostFrame) (c : TxCtx), (s.chanOf w).inFrames = f :: rest ∧
      f.beyond = false ∧ s.frameFault w f = none ∧ tabGet (s.wk w).txCtx (s.bindDest w f.station) = some c ∧
      (s.arrOf (arrReplay (groupOfWork w))).words = [] → Leads (.frameAccepted w none) s fun t => (t.chanOf w).inFrames =
      rest ∧ (t.wk w).images = (s.wk w).images ++ [{ dest := s.bindDest w f.station, seq := c.next, kind := 1,
                                                     payload := f.payload, tag := f.tag }] ∧
      (t.wk w).counts.accepted = satW 32 ((s.wk w).counts.accepted + 1)) ∧
  (∀ (s : State) (w : Work) (f : HostFrame) (rest : List HostFrame) (r : Nat), (s.chanOf w).inFrames = f :: rest ∧
      f.beyond = false ∧ s.frameFault w f = some r → Leads (.frameAccepted w none) s fun t => (t.chanOf w).inFrames =
      rest ∧ (t.wk w).images = (s.wk w).images ∧ (t.wk w).counts.refused = satW 32 ((s.wk w).counts.refused + 1)) ∧
  (∀ (s : State) (w : Work) (p : Nat) (c : TxCtx), tabGet (s.wk w).txCtx p = some c ∧ c.rtoOn = true ∧
      (s.arrOf arrFabric).words = [] → Leads (.rtoExpiry w p none) s fun t => (t.wk w).counts.rtoExpiries = satW 16
      ((s.wk w).counts.rtoExpiries + 1)) ∧
  (∀ (s : State) (w : Work) (p : Nat), (s.wk w).ackDue p = true → Leads (.ackIntervalExpiry w p) s fun t =>
      (tabGet (t.wk w).acks p).map (·.standalone) = some true) ∧
  (∀ (s : State) (w : Work) (p : Nat) (c : RxCtx), tabGet (s.wk w).rxCtx p = some c ∧ c.sketches = [] ∧
      2000 * (s.wk w).ctxIdle ≤ s.usOf (s.since c.heard) → Leads (.ctxIdleExpiry w p true) s fun t =>
      (t.wk w).rxCtx = tabDel (s.wk w).rxCtx p) ∧
  (∀ (s : State) (w : Work) (p : Nat) (c : RxCtx), tabGet (s.wk w).rxCtx p = some c ∧ c.sketches ≠ [] ∧
      2000 * (s.wk w).ctxIdle ≤ s.usOf (s.since c.heard) → Leads (.ctxIdleExpiry w p true) s fun t =>
      tabGet (t.wk w).rxCtx p = none) ∧
  (∀ (s : State) (w : Work) (p : Nat) (c : TxCtx), tabGet (s.wk w).txCtx p = some c ∧ (s.wk w).retainedFor p = [] ∧
      1000 * (s.wk w).ctxIdle ≤ s.usOf (s.since c.used) ∧ 1000 * (s.wk w).ctxIdle ≤ s.usOf (s.since c.freed) →
      ((s.wk w).acks.all fun e => e.2.links.isEmpty) = true ∧ ((s.wk w).txCtx.all fun e => !e.2.opening) = true →
      Leads (.ctxIdleExpiry w p false) s fun t => (t.wk w).txCtx = tabDel (s.wk w).txCtx p) ∧
  (∀ (s : State) (p d : Phys) (w : Work) (rest : List Phys), s.workOf p = some w ∧ s.modeOf p = .steady ∧
      (s.rxl p).los = true ∧ s.graceOn p = false ∧ s.tripped = false → (s.wk w).autoFail = true ∧ (s.wk w).move = none ∧
      s.preemptable (bankOfPhys p) .make = none ∧ s.freeSpares (bankOfPhys p) = d :: rest → Leads (.losSpareDelayExpiry
      p) s fun t => (t.wk w).move.map (fun m => (m.src, m.dst, m.phase, m.planned)) = some (p, d, .failing, false)) ∧
  (∀ (s : State) (p : Phys) (w : Work), s.workOf p = some w ∧ s.modeOf p = .steady ∧ (s.rxl p).los = true ∧
      s.graceOn p = false ∧ s.tripped = false ∧ (s.wk w).autoFail = false → Leads (.losSpareDelayExpiry p) s fun t =>
      t.ctl.ev = (s.raiseP .deliveryLaneFail p 2).ctl.ev ∧ t.work = s.work ∧ t.lane = s.lane) ∧
  (∀ (s : State) (w : Work) (m : Move), (s.wk w).move = some m ∧ m.phase = .failing ∧ m.src ≠ m.dst →
      (s.ln m.src).waitsBurst = false → Leads (.failureMoveMap w) s fun t => (t.wk w).phys = some m.dst ∧
      (t.wk w).move = none ∧ t.modeOf m.dst = s.modeOf m.src ∧ t.modeOf m.src = .dark ∧ (t.ln m.src).failed = true) ∧
  (∀ (s : State) (w : Work) (m : Move), (s.wk w).move = some m ∧ m.phase = .switch → Leads (.moveSettleExpiry w) s fun t
      => (t.wk w).move = some { m with phase := .breakP } ∧ (t.wk w).phys = (s.wk w).phys ∧ t.lane = s.lane) ∧
  (∀ (s : State) (w : Work) (m : Move), (s.wk w).move = some m ∧ m.phase = .breakP ∧ m.settling = true ∧ m.src ≠ m.dst ∧
      (s.ln m.src).failed = false ∧ ∀ v, (s.wk v).oosOrder = none → Leads (.moveSettleExpiry w) s fun t =>
      (t.wk w).move = none ∧ (t.wk w).phys = some m.dst ∧ t.modeOf m.dst = s.modeOf m.src ∧ t.modeOf m.src = .spare ∧
      (t.wk w).counts.moves = satW 16 ((s.wk w).counts.moves + 1)) ∧
  (∀ (s : State) (w : Work) (m : Move), (s.wk w).move = some m ∧ m.planned = true ∧ (m.phase = .make ∨ m.phase = .switch
      ∨ m.phase = .breakP) ∧ ∀ v, (s.wk v).oosOrder = none → Leads (.moveLimitExpiry w) s fun t => (t.wk w).move = none ∧
      (t.wk w).phys = (s.wk w).phys ∧ t.modeOf m.src = s.modeOf m.src) ∧
  (∀ (s : State) (w : Work) (m : Move), (s.wk w).move = some m ∧ m.phase = .zeroWait ∧ m.planned = true ∧
      (s.txl m.src).state ≠ .sending ∧ m.src ≠ m.dst ∧ ∀ v, (s.wk v).oosOrder = none → (s.ln m.src).waitsBurst = false →
      Leads (.moveSwitchZeroScale w) s fun t => (t.wk w).phys = some m.dst ∧ (t.wk w).move = none ∧
      t.modeOf m.dst = s.modeOf m.src ∧ t.modeOf m.src = .spare)

/-- The delivery commands write their parameters, release peers, move lanes and return records. DELIVERY.SET_RETENTION
writes the extents where the sum of extents allows, and answers those held. Timers are written, to one lane or to "all",
when CTX_IDLE stays above RTO, and are refused with BAD_ARG otherwise; quotas are written when their sums allow; the spare
policy, to one lane or to "all", always. SKETCH goes on in a guaranteed mode, and off at once or, with sketches
outstanding, later: the command waits. Frames held for a former STEADY peer are released and counted in the answer, none
otherwise. DELIVERY.SPARE_MOVE to any free spare starts a planned move in a guaranteed mode, switches at once in
TRANSPARENT and DARK, and is refused with NO_RESOURCE without a free spare; its answer names the spare. The map and the
status record are returned; the counters are cleared only when asked. The lanes named are under no self-test. Each of
these forms completes with a next state in every state that meets its conditions: deliverySetRetention, deliverySetTimers,
deliverySetQuota, deliverySetSketch, deliverySetSparePolicy, deliveryReleasePeer, deliverySpareMove, deliveryGetMap,
deliveryGetStatus (R15, R154, R158, R161, R163, R173, R184, R192, R383, R386, R394, R469). -/
def Obligations.DeliveryCommands : Prop :=
  (∀ (s : State) (k : Sess) (a : Bytes) (w : Work), s.holds k 0x0601 a → byteAt a 0 = w.val ∧ s.workTest w = false ∧
      (byteAt a 1 ≤ (s.wk w).heldExtents ∨ ((workAll.filter fun x => decide (x ≠ w)).map fun x => (s.wk
      x).heldExtents).sum + byteAt a 1 ≤ 512) → Answers (.deliverySetRetention k) s k 0x0601 .ok 0 (leBytes 1
      (({ s.wk w with extents := byteAt a 1 } : WorkLane).trim (s.chanOf w).owed).heldExtents) fun t =>
      (t.wk w).extents = byteAt a 1 ∧ (t.wk w).heldExtents = (({ s.wk w with extents := byteAt a 1 } : WorkLane).trim
      (s.chanOf w).owed).heldExtents) ∧
  (∀ (s : State) (k : Sess) (a : Bytes) (w : Work), s.holds k 0x0602 a → ((byteAt a 0 = w.val ∧
      s.workTest w = false) ∨ (byteAt a 0 = 255 ∧ ∀ v, s.workTest v = false)) ∧ fieldLE a 4 4 < 1000 * fieldLE a 12 4 →
      Answers (.deliverySetTimers k) s k 0x0602 .ok 0 [] fun t => ((t.wk w).rto, (t.wk w).ackInterval,
      (t.wk w).moveSettle, (t.wk w).ctxIdle, (t.wk w).moveLimit) = (fieldLE a 4 4, fieldLE a 8 2, fieldLE a 10 2,
      fieldLE a 12 4, fieldLE a 16 4)) ∧
  (∀ (s : State) (k : Sess) (a : Bytes) (w : Work), s.holds k 0x0602 a → byteAt a 0 = w.val ∧ s.workTest w = false ∧
      1000 * fieldLE a 12 4 ≤ fieldLE a 4 4 → Answers (.deliverySetTimers k) s k 0x0602 .badArg 28 [] fun t =>
      t.work = s.work) ∧
  (∀ (s : State) (k : Sess) (a : Bytes) (w : Work), s.holds k 0x0603 a → byteAt a 0 = w.val ∧ s.workTest w = false →
      (workAll.map fun x => max (s.wk x).txCtx.length (if x = w then fieldLE a 2 2 else (s.wk x).txQuota)).sum ≤ 16384 →
      (workAll.map fun x => max (s.wk x).rxCtx.length (if x = w then fieldLE a 4 2 else (s.wk x).rxQuota)).sum ≤ 16384 →
      Answers (.deliverySetQuota k) s k 0x0603 .ok 0 [] fun t => (t.wk w).txQuota = fieldLE a 2 2 ∧
      (t.wk w).rxQuota = fieldLE a 4 2) ∧
  (∀ (s : State) (k : Sess) (a : Bytes) (w : Work), s.holds k 0x0604 a → byteAt a 0 = w.val ∧ byteAt a 1 = 1 ∧
      s.workTest w = false ∧ (s.wk w).sketchSess = none ∧ guaranteed (s.modeOfWork w) = true →
      Answers (.deliverySetSketch k) s k 0x0604 .ok 0 [] fun t => (t.wk w).sketch = true ∧ (t.wk w).sketchOff = false ∧
      (t.wk w).sketchWindow = fieldLE a 2 2) ∧
  (∀ (s : State) (k : Sess) (a : Bytes) (w : Work), s.holds k 0x0604 a → byteAt a 0 = w.val ∧ byteAt a 1 ≠ 1 ∧
      s.workTest w = false ∧ (s.wk w).sketchSess = none ∧ (s.wk w).sketchBytes = 0 → Answers (.deliverySetSketch k) s k
      0x0604 .ok 0 [] fun t => (t.wk w).sketch = false ∧ (t.wk w).sketchWindow = fieldLE a 2 2) ∧
  (∀ (s : State) (k : Sess) (a : Bytes) (w : Work), s.holds k 0x0604 a → byteAt a 0 = w.val ∧ byteAt a 1 ≠ 1 ∧
      s.workTest w = false ∧ (s.wk w).sketchSess = none ∧ (s.wk w).sketchBytes ≠ 0 → Starts (.deliverySetSketch k) s k
      0x0604 fun t => (t.wk w).sketch = (s.wk w).sketch ∧ (t.wk w).sketchOff = true ∧ (t.wk w).sketchSess = some k) ∧
  (∀ (s : State) (k : Sess) (a : Bytes) (w : Work), s.holds k 0x0605 a → (byteAt a 0 = w.val ∧
      s.workTest w = false) ∨ (byteAt a 0 = 255 ∧ ∀ v, s.workTest v = false) → Answers (.deliverySetSparePolicy k) s k
      0x0605 .ok 0 [] fun t => (t.wk w).autoFail = bitOf (byteAt a 1) 0 ∧ (t.wk w).autoAgeing = bitOf (byteAt a 1) 1 ∧
      (t.wk w).restore = bitOf (byteAt a 1) 2 ∧ (t.wk w).losSpareDelay = fieldLE a 2 2) ∧
  (∀ (s : State) (k : Sess) (a : Bytes) (w : Work), s.holds k 0x0606 a → byteAt a 0 = w.val ∧ s.workTest w = false ∧
      s.modeOfWork w = .steady ∧ (s.wk w).fec.peer ≠ fieldLE a 2 2 → (s.wk w).retainedFor (fieldLE a 2 2) ≠ [] ∧
      ((s.wk w).acks.all fun e => e.2.links.isEmpty) = true ∧ ((s.wk w).txCtx.all fun e => !e.2.opening) = true →
      Answers (.deliveryReleasePeer k) s k 0x0606 .ok 0 (leBytes 4 ((s.wk w).retainedFor (fieldLE a 2 2)).length) fun t
      => (t.wk w).retainedFor (fieldLE a 2 2) = []) ∧
  (∀ (s : State) (k : Sess) (a : Bytes) (w : Work), s.holds k 0x0606 a → byteAt a 0 = w.val ∧ s.workTest w = false ∧
      (s.modeOfWork w ≠ .steady ∨ (s.wk w).fec.peer = fieldLE a 2 2) → Answers (.deliveryReleasePeer k) s k 0x0606 .ok 0
      [0, 0, 0, 0] fun t => t.work = s.work) ∧
  (∀ (s : State) (k : Sess) (a : Bytes) (w : Work) (p d : Phys) (rest : List Phys), s.holds k 0x0607 a →
      byteAt a 0 = w.val ∧ s.physOf w = some p ∧ s.workOf p = some w ∧ (s.ln p).selftest = false ∧ (s.wk w).move = none →
      (byteAt a 1 = 255 ∧ s.freeSpares (bankOfWork w) = d :: rest) ∨ (byteAt a 1 = d.val ∧ bankOfPhys d = bankOfWork w ∧
      (s.ln d).selftest = false ∧ (s.freeSpares (bankOfWork w)).contains d = true) → s.tripped = false ∧
      guaranteed (s.modeOf p) = true → Answers (.deliverySpareMove k) s k 0x0607 .ok 0 (leBytes 1 d.val) fun t =>
      (t.wk w).move.map (fun m => (m.src, m.dst, m.planned, m.reason)) = some (p, d, true, .command) ∧
      (t.wk w).phys = some p) ∧
  (∀ (s : State) (k : Sess) (a : Bytes) (w : Work) (p d : Phys) (rest : List Phys), s.holds k 0x0607 a →
      byteAt a 0 = w.val ∧ s.physOf w = some p ∧ (s.ln p).selftest = false ∧ (s.wk w).move = none → (byteAt a 1 = 255 ∧
      s.freeSpares (bankOfWork w) = d :: rest) ∨ (byteAt a 1 = d.val ∧ bankOfPhys d = bankOfWork w ∧
      (s.ln d).selftest = false ∧ (s.freeSpares (bankOfWork w)).contains d = true) → s.tripped = false ∧
      (s.modeOf p = .transparent ∨ s.modeOf p = .dark) ∧ p ≠ d ∧ (s.ln d).change = none → Answers (.deliverySpareMove k)
      s k 0x0607 .ok 0 (leBytes 1 d.val) fun t => (t.wk w).phys = some d ∧ t.modeOf d = s.modeOf p ∧ t.modeOf p = .dark) ∧
  (∀ (s : State) (k : Sess) (a : Bytes) (w : Work) (p : Phys), s.holds k 0x0607 a → byteAt a 0 = w.val ∧
      byteAt a 1 = 255 ∧ s.physOf w = some p ∧ (s.ln p).selftest = false ∧ (s.wk w).move = none → s.tripped = false ∧
      s.freeSpares (bankOfWork w) = [] → Answers (.deliverySpareMove k) s k 0x0607 .noResource 0 [] fun t =>
      t.work = s.work ∧ t.lane = s.lane) ∧
  (∀ (s : State) (k : Sess) (a : Bytes), s.holds k 0x0609 a → Answers (.deliveryGetMap k) s k 0x0609 .ok 0 s.mapBytes fun
      t => t.work = s.work ∧ t.lane = s.lane) ∧
  (∀ (s : State) (k : Sess) (a : Bytes) (w : Work), s.holds k 0x060A a → byteAt a 0 = w.val ∧ s.workTest w = false →
      Answers (.deliveryGetStatus k) s k 0x060A .ok 0 (s.deliveryRecord w) fun t => (t.wk w).counts = if bitOf (byteAt a
      1) 0 then { } else (s.wk w).counts)

/-- Blocks, commas, swatches, replay and substitutions of a Rinlink take effect. A running transmitter with nothing to
send again sends its next block and notes when the acknowledgement of an IDLE_ENTER has gone out. Outside a loop-back, a
valid comma clears a lane's count of misses. In ACTIVE, a swatch with a wrong CRC is counted and asks for a NAK and NEXT
stays; a good DATA swatch in sequence moves NEXT on, clears the NAK and is counted. REPLAY_TO rewinds to the oldest kept
swatch and is counted. A repair request notes the role to move when lane 16 is the spare, and narrows the link by one lane
without a spare while MIN_WIDTH allows. A failing receive lane is marked. SPARE_OK makes the candidate of a pending
restore the spare, no longer marked failed. At a block start the spare takes over the asked-for data role and is counted;
the clock moves onto lane 16 and the clock lane is marked failed. A lane's failure and the moves are stated while no
memory test runs. Each of these forms completes with a next state in every state that meets its conditions: txBlockStart,
commaReceived, swatchReceived, replayTimeout, repairReq, hostLaneFail, spareOk, spareSubstitution, clockMove (R197, R202,
R205, R213, R214, R215, R222, R223, R224, R225, R228). -/
def Obligations.RinlinkBlocksAndSwatches : Prop :=
  (∀ (s : State) (g : Group), (s.grp g).sending = true ∧ (s.grp g).resend = none → Leads (.txBlockStart g none) s fun t
      => t.grp g = ((s.grp g).block g.val).noteIdleAck s.now) ∧
  (∀ (s : State) (g : Group) (k : Fin 16) (blocks : List (Option (BitVec 32) × List Bool)), (s.grp g).state ≠ .off ∧
      (s.grp g).state ≠ .outOfService ∧ (s.grp g).state ≠ .loopback ∧ (s.grp g).rxIdle = false ∧
      (s.grp g).resetting = false ∧ (s.grp g).loopStatus ≠ 1 → (commaOf g ((blocks.map (·.1)).getD k.val none)).isSome →
      Leads (.commaReceived g blocks) s fun t => (t.grp g).commaMiss.toList.getD k.val 0 = 0) ∧
  (∀ (s : State) (g : Group), 256 ≤ (s.grp g).rxStream.length ∧ (s.grp g).state = .active ∧
      goodSwatch ((s.grp g).rxStream.take 256) = false → Leads (.swatchReceived g) s fun t => (t.grp g).rxStream = (s.grp
      g).rxStream.drop 256 ∧ (t.grp g).nakPending = true ∧ (t.grp g).next = (s.grp g).next ∧ (t.grp g).counts.crcErrors =
      satW 32 ((s.grp g).counts.crcErrors + 1)) ∧
  (∀ (s : State) (g : Group), 256 ≤ (s.grp g).rxStream.length ∧ (s.grp g).state = .active ∧
      goodSwatch ((s.grp g).rxStream.take 256) = true → (parseSwatch ((s.grp g).rxStream.take 256)).type = 1 ∧
      (parseSwatch ((s.grp g).rxStream.take 256)).sseq = (s.grp g).next ∧ (s.grp g).rxCut.contains 0 = false →
      Leads (.swatchReceived g) s fun t => (t.grp g).next = (s.grp g).next + 1 ∧ (t.grp g).nakPending = false ∧
      (t.grp g).counts.swatchesRx = satW 32 ((s.grp g).counts.swatchesRx + 1)) ∧
  (∀ (s : State) (g : Group) (x : Swatch) (rest : List Swatch), (s.grp g).state = .active ∧ (s.grp g).replay = x :: rest
      → Leads (.replayTimeout g) s fun t => (t.grp g).resend = some x.sseq ∧ (t.grp g).lastRewind = some (x.sseq,
      s.now) ∧ (t.grp g).counts.rewinds = satW 16 ((s.grp g).counts.rewinds + 1)) ∧
  (∀ (s : State) (g : Group) (role : Nat), (s.grp g).state ≠ .off ∧ (s.grp g).state ≠ .outOfService ∧ role ≤ 16 ∧
      (s.grp g).txSpare = some 16 → Leads (.repairReq g role) s fun t => (t.grp g).moveReq = some role ∧
      (t.grp g).txRole = (s.grp g).txRole) ∧
  (∀ (s : State) (g : Group) (role : Nat), (s.grp g).state ≠ .off ∧ (s.grp g).state ≠ .outOfService ∧ role ≤ 16 ∧
      (s.grp g).txSpare = none ∧ (s.grp g).params.minWidth ≤ (s.grp g).width - 1 → Leads (.repairReq g role) s fun t =>
      (t.grp g).width = (s.grp g).width - 1) ∧
  (∀ (s : State) (g : Group) (lane : Fin 18) (reason : Nat), (s.grp g).state ≠ .off ∧ (s.grp g).state ≠ .outOfService ∧
      (s.grp g).rxFailed.getLsbD lane.val = false ∧ s.sec.test.map (·.record.scope) ≠ some 255 →
      Leads (.hostLaneFail g lane reason) s fun t => (t.grp g).rxFailed = (s.grp g).rxFailed ||| (1#18 <<< lane.val)) ∧
  (∀ (s : State) (g : Group) (lane : HLane) (r : Restore), (s.grp g).restore = some r ∧ r.dir = 1 ∧ r.lane = lane.val →
      Leads (.spareOk g lane) s fun t => (t.grp g).restore = none ∧ (t.grp g).txRole.toList.getD lane.val 31 = 16 ∧
      (t.grp g).txFailed.getLsbD lane.val = false) ∧
  (∀ (s : State) (g : Group) (j spare : Nat), (s.grp g).moveReq = some j ∧ j < 16 ∧ (s.grp g).txSpare = some spare ∧
      (s.grp g).state ≠ .off ∧ (s.grp g).state ≠ .outOfService → s.sec.test.map (·.record.scope) ≠ some 255 →
      Leads (.spareSubstitution g) s fun t => (t.grp g).moveReq = none ∧ (t.grp g).txRole.toList.getD spare 31 = j ∧
      (t.grp g).counts.substitutions = satW 16 ((s.grp g).counts.substitutions + 1)) ∧
  (∀ (s : State) (g : Group), (s.grp g).moveReq = some 16 ∧ (s.grp g).txSpare = some 16 ∧ s.sec.test.map (·.record.scope)
      ≠ some 255 → Leads (.clockMove g) s fun t => (t.grp g).txClockSpare = true ∧ (t.grp g).moveReq = none ∧
      (t.grp g).txFailed = (s.grp g).txFailed ||| (1#18 <<< 17))

/-- Training, retraining, electrical idle and the end of a group reset take effect. A locked CLOCK step goes on to ALIGN.
RETRAIN_REQ, wander, a stopped clock and a missed wake comma take an ACTIVE link back to training at CLOCK, wander to a
repair retrain; RETRAIN_REQ is counted. TRAIN_LIMIT restarts training as DOWN. IDLE_ENTER is heard. A clock that stops
within 2 blocks after the acknowledgement of IDLE_ENTER is electrical idle; the transmitter enters it when its IDLE_ENTER
is acknowledged and nothing is kept or waits, and leaves it when it has something to send; the receiver leaves it with the
wake burst. The idle timer queues IDLE_ENTER. A reset group retrains from CLOCK and its saved slot is used up. Each of
these forms completes with a next state in every state that meets its conditions: trainPhaseLock, trainLimitExpiry,
retrainReq, wanderLimit, hckrxStop, idleEnter, txElectricalIdleEntry, txWake, rxWakeBurst, rxWakeCommaTimeout,
groupIdleTimerExpiry, groupResetDone (R195, R209, R216, R219, R220, R226, R309, R318). -/
def Obligations.RinlinkTrainingAndIdle : Prop :=
  (∀ (s : State) (g : Group), (s.grp g).state = .train ∧ (s.grp g).tstep = .clock → Leads (.trainPhaseLock g) s fun t =>
      (t.grp g).tstep = .align ∧ (t.grp g).state = .train) ∧
  (∀ (s : State) (g : Group), (s.grp g).state = .train → Leads (.trainLimitExpiry g) s fun t => (t.grp g).state = .train
      ∧ (t.grp g).tstep = .clock ∧ (t.grp g).downShown = true) ∧
  (∀ (s : State) (g : Group), (s.grp g).state = .active → Leads (.retrainReq g) s fun t => (t.grp g).state = .train ∧
      (t.grp g).tstep = .clock ∧ (t.grp g).repairTrain = false ∧ (t.grp g).counts.retrains = satW 16 ((s.grp
      g).counts.retrains + 1)) ∧
  (∀ (s : State) (g : Group), (s.grp g).state = .active → Leads (.wanderLimit g) s fun t => (t.grp g).state = .train ∧
      (t.grp g).tstep = .clock ∧ (t.grp g).repairTrain = true) ∧
  (∀ (s : State) (g : Group), (s.grp g).state = .active ∧ (s.grp g).rxIdle = false ∧ s.idleStop g = true →
      Leads (.hckrxStop g) s fun t => (t.grp g).rxIdle = true ∧ (t.grp g).state = .active) ∧
  (∀ (s : State) (g : Group), (s.grp g).state = .active ∧ (s.grp g).rxIdle = false ∧ s.idleStop g = false →
      Leads (.hckrxStop g) s fun t => (t.grp g).state = .train ∧ (t.grp g).tstep = .clock) ∧
  (∀ (s : State) (g : Group), (s.grp g).state = .active → Leads (.idleEnter g) s fun t => (t.grp g).idleHeard = true ∧
      (t.grp g).idleAcked = none ∧ (t.grp g).state = .active) ∧
  (∀ (s : State) (g : Group) (q : BitVec 16), (s.grp g).idleSent = some q ∧ (s.grp g).state = .active ∧
      (s.grp g).txIdle = false ∧ (s.grp g).replay = [] → ((s.grp g).acked - q - 1).toNat < 32768 ∧
      (s.grp g).hasWork = false → Leads (.txElectricalIdleEntry g) s fun t => (t.grp g).txIdle = true ∧
      (t.grp g).power = .idle) ∧
  (∀ (s : State) (g : Group), (s.grp g).txIdle = true ∧ (s.grp g).hasWork = true → Leads (.txWake g) s fun t =>
      (t.grp g).txIdle = false ∧ (t.grp g).idleSent = none ∧ (t.grp g).power = .active) ∧
  (∀ (s : State) (g : Group), (s.grp g).rxIdle = true → Leads (.rxWakeBurst g) s fun t => (t.grp g).rxIdle = false ∧
      (t.grp g).idleHeard = false) ∧
  (∀ (s : State) (g : Group), (s.grp g).state = .active ∧ (s.grp g).rxIdle = false → Leads (.rxWakeCommaTimeout g) s fun
      t => (t.grp g).state = .train ∧ (t.grp g).tstep = .clock) ∧
  (∀ (s : State) (g : Group), (s.grp g).state = .active ∧ (s.grp g).idleTimer ≠ 0 ∧ (s.grp g).txIdle = false ∧
      (s.grp g).idleSent = none ∧ (s.grp g).hasWork = false ∧ (s.grp g).replay = [] → Leads (.groupIdleTimerExpiry g) s
      fun t => (t.grp g).control = (s.grp g).control ++ [ctlMsg 2 0 0]) ∧
  (∀ (s : State) (g : Group) (d : Nat × Nat), (s.grp g).resetting = true ∧ ((s.grp g).state = .active ∨ (s.grp g).state =
      .train) → Leads (.groupResetDone g d) s fun t => (t.grp g).resetting = false ∧ (t.grp g).slotValid = false ∧
      (t.grp g).state = .train ∧ (t.grp g).tstep = .clock)

/-- The HOST commands carry out their effect. HOST.TRAIN starts training at CLOCK with all 16 lanes where none has failed
and no replay was lost, and leaves OFF and IDLE; in loop-back it is refused with BAD_STATE. HOST.SET_LINK writes the six
link parameters, of one group or all; HOST.SET_TX writes the swing and de-emphasis of one lane or all for the next comma,
not those in force. HOST.REPAIR marks a receive lane failing, asks for the move of a working transmit lane's role onto
spare lane 16, or marks a transmit lane without a role failed; a restore makes a failed lane, 16 or one without a role on
a narrow link, the candidate, in receive with roles unchanged until it has proved itself, in transmit with the role of a
candidate. A whole-group loop-back starts in TRAIN or ACTIVE while no lane carries traffic, and its release goes back to
training; the spare's near-end loop-back starts while lane 16 is the spare of both directions and its release ends it,
both leaving the link state. HOST.GET_STATUS answers the record and clears the counters only when asked. HOST.RESET_GROUP
saves the slot, counts the save and starts the reset. HOST.SET_POWER leaves OFF into training, or starts the entry into
OFF of a group that carries and keeps nothing: the command waits. Each of these forms completes with a next state in every
state that meets its conditions: hostTrain, hostSetLink, hostSetTx, hostRepair, hostSetLoopback, hostGetStatus,
hostResetGroup, hostSetPower (R216, R221, R225, R227, R228, R309, R318, R383, R456). -/
def Obligations.HostCommands : Prop :=
  (∀ (s : State) (k : Sess) (a : Bytes) (g : Group), s.holds k 0x0701 a → byteAt a 0 = g.val ∧
      (s.grp g).selftest = false ∧ (s.grp g).resetting = false ∧ (s.grp g).saving = false ∧ s.retired = false ∧
      (s.grp g).state ≠ .loopback → ((s.grp g).replayLost = false ∧ (s.grp g).txFailed = 0 ∧ (s.grp g).rxFailed = 0 ∧
      (s.grp g).params.minWidth ≤ 16 ∧ ((s.grp g).power = .idle → (s.grp g).state = .active)) →
      Answers (.hostTrain k) s k 0x0701 .ok 0 [] fun t => (t.grp g).state = .train ∧ (t.grp g).tstep = .clock ∧
      (t.grp g).power = .active ∧ (t.grp g).width = 16) ∧
  (∀ (s : State) (k : Sess) (a : Bytes) (g : Group), s.holds k 0x0701 a → byteAt a 0 = g.val ∧
      (s.grp g).selftest = false ∧ (s.grp g).resetting = false ∧ (s.grp g).saving = false ∧ (s.grp g).state = .loopback →
      Answers (.hostTrain k) s k 0x0701 .badState 0 [] fun t => t.group = s.group) ∧
  (∀ (s : State) (k : Sess) (a : Bytes) (g : Group), s.holds k 0x0702 a → byteAt a 0 = g.val ∨ byteAt a 0 = 255 →
      Answers (.hostSetLink k) s k 0x0702 .ok 0 [] fun t => (t.grp g).params = ⟨fieldLE a 4 2, fieldLE a 6 2,
      fieldLE a 8 4, byteAt a 1, bitOf (byteAt a 2) 0, byteAt a 3⟩) ∧
  (∀ (s : State) (k : Sess) (a : Bytes) (g : Group), s.holds k 0x0703 a → (byteAt a 0 = g.val ∨ byteAt a 0 = 255) ∧
      byteAt a 1 < 18 → Answers (.hostSetTx k) s k 0x0703 .ok 0 [] fun t => (t.grp g).htxNext = (s.grp
      g).htxNext.setIfInBounds (byteAt a 1) ⟨byteAt a 2, byteAt a 3, byteAt a 4⟩ ∧ (t.grp g).htx = (s.grp g).htx) ∧
  (∀ (s : State) (k : Sess) (a : Bytes) (g : Group), s.holds k 0x0703 a → (byteAt a 0 = g.val ∨ byteAt a 0 = 255) ∧
      18 ≤ byteAt a 1 → Answers (.hostSetTx k) s k 0x0703 .ok 0 [] fun t => (t.grp g).htxNext = Vector.replicate 18
      ⟨byteAt a 2, byteAt a 3, byteAt a 4⟩) ∧
  (∀ (s : State) (k : Sess) (a : Bytes) (g : Group), s.holds k 0x0704 a → byteAt a 0 = g.val ∧ byteAt a 2 ≠ 1 ∧
      byteAt a 3 ≠ 1 ∧ (s.grp g).selftest = false ∧ (s.grp g).resetting = false ∧ (s.grp g).saving = false →
      (s.grp g).state ≠ .off ∧ (s.grp g).state ≠ .outOfService ∧ (s.grp g).rxFailed.getLsbD (byteAt a 1) = false →
      Answers (.hostRepair k) s k 0x0704 .ok 0 [] fun t => (t.grp g).rxFailed = (s.grp g).rxFailed ||| (1#18 <<< byteAt a
      1)) ∧
  (∀ (s : State) (k : Sess) (a : Bytes) (g : Group), s.holds k 0x0704 a → byteAt a 0 = g.val ∧ byteAt a 2 = 1 ∧
      byteAt a 3 ≠ 1 ∧ (s.grp g).selftest = false ∧ (s.grp g).resetting = false ∧ (s.grp g).saving = false →
      (s.grp g).state ≠ .off ∧ (s.grp g).state ≠ .outOfService ∧ (s.grp g).rxFailed.getLsbD (byteAt a 1) = true →
      byteAt a 1 = 16 ∨ (byteAt a 1 < 16 ∧ (s.grp g).rxRole.toList.getD (byteAt a 1) 31 = 31 ∧ (s.grp g).width < 16) →
      Answers (.hostRepair k) s k 0x0704 .ok 0 [] fun t => (t.grp g).restore = some ⟨byteAt a 1, 0, 0⟩ ∧
      (t.grp g).txRole = (s.grp g).txRole) ∧
  (∀ (s : State) (k : Sess) (a : Bytes) (g : Group), s.holds k 0x0704 a → byteAt a 0 = g.val ∧ byteAt a 2 = 1 ∧
      byteAt a 3 = 1 ∧ (s.grp g).selftest = false ∧ (s.grp g).resetting = false ∧ (s.grp g).saving = false →
      (s.grp g).state ≠ .off ∧ (s.grp g).state ≠ .outOfService ∧ (s.grp g).txFailed.getLsbD (byteAt a 1) = true →
      byteAt a 1 = 16 ∨ (byteAt a 1 < 16 ∧ (s.grp g).txRole.toList.getD (byteAt a 1) 31 = 31 ∧ (s.grp g).width < 16) →
      Answers (.hostRepair k) s k 0x0704 .ok 0 [] fun t => (t.grp g).restore = some ⟨byteAt a 1, 1, 0⟩ ∧
      (t.grp g).txRole = (s.grp g).txRole.setIfInBounds (byteAt a 1) 16) ∧
  (∀ (s : State) (k : Sess) (a : Bytes) (g : Group) (role : Nat), s.holds k 0x0704 a → byteAt a 0 = g.val ∧
      byteAt a 2 ≠ 1 ∧ byteAt a 3 = 1 ∧ (s.grp g).selftest = false ∧ (s.grp g).resetting = false ∧
      (s.grp g).saving = false → (s.grp g).state ≠ .off ∧ (s.grp g).state ≠ .outOfService ∧ byteAt a 1 < 17 ∧
      (s.grp g).txRole.toList.getD (byteAt a 1) 31 = role ∧ role < 16 ∧ (s.grp g).txSpare = some 16 →
      Answers (.hostRepair k) s k 0x0704 .ok 0 [] fun t => (t.grp g).moveReq = some role ∧
      (t.grp g).txRole = (s.grp g).txRole) ∧
  (∀ (s : State) (k : Sess) (a : Bytes) (g : Group), s.holds k 0x0704 a → byteAt a 0 = g.val ∧ byteAt a 2 ≠ 1 ∧
      byteAt a 3 = 1 ∧ (s.grp g).selftest = false ∧ (s.grp g).resetting = false ∧ (s.grp g).saving = false →
      (s.grp g).state ≠ .off ∧ (s.grp g).state ≠ .outOfService ∧ byteAt a 1 < 17 ∧ 16 ≤ (s.grp g).txRole.toList.getD
      (byteAt a 1) 31 → Answers (.hostRepair k) s k 0x0704 .ok 0 [] fun t => (t.grp g).txFailed = (s.grp g).txFailed |||
      (1#18 <<< byteAt a 1) ∧ (t.grp g).moveReq = (s.grp g).moveReq) ∧
  (∀ (s : State) (k : Sess) (a : Bytes) (g : Group), s.holds k 0x0705 a → byteAt a 0 = g.val ∧ byteAt a 1 ≠ 0 ∧
      byteAt a 2 ≠ 1 ∧ (s.grp g).selftest = false ∧ (s.grp g).resetting = false ∧ (s.grp g).saving = false →
      (((s.grp g).state = .train ∨ (s.grp g).state = .active) ∧ ∀ c : Nat, c < 4 → guaranteed (s.modeOfWork (workOfChan g
      c)) = false ∧ s.modeOfWork (workOfChan g c) ≠ .transparent) → Answers (.hostSetLoopback k) s k 0x0705 .ok 0 [] fun
      t => (t.grp g).state = .loopback ∧ (t.grp g).loopMode = byteAt a 1 ∧ (t.grp g).loopStatus = 1) ∧
  (∀ (s : State) (k : Sess) (a : Bytes) (g : Group), s.holds k 0x0705 a → byteAt a 0 = g.val ∧ byteAt a 1 = 0 ∧
      byteAt a 2 ≠ 1 ∧ (s.grp g).selftest = false ∧ (s.grp g).resetting = false ∧ (s.grp g).saving = false ∧
      (s.grp g).state = .loopback → Answers (.hostSetLoopback k) s k 0x0705 .ok 0 [] fun t => (t.grp g).state = .train ∧
      (t.grp g).loopMode = 0 ∧ (t.grp g).loopStatus = 2) ∧
  (∀ (s : State) (k : Sess) (a : Bytes) (g : Group), s.holds k 0x0705 a → byteAt a 0 = g.val ∧ byteAt a 1 = 1 ∧
      byteAt a 2 = 1 ∧ (s.grp g).selftest = false ∧ (s.grp g).resetting = false ∧ (s.grp g).saving = false →
      (s.grp g).txSpare = some 16 ∧ (s.grp g).rxSpare = some 16 ∧ (s.grp g).state ≠ .loopback →
      Answers (.hostSetLoopback k) s k 0x0705 .ok 0 [] fun t => (t.grp g).state = (s.grp g).state ∧
      (t.grp g).loopMode = 1 ∧ (t.grp g).loopScope = 1 ∧ (t.grp g).loopStatus = 1) ∧
  (∀ (s : State) (k : Sess) (a : Bytes) (g : Group), s.holds k 0x0705 a → byteAt a 0 = g.val ∧ byteAt a 1 = 0 ∧
      byteAt a 2 = 1 ∧ (s.grp g).selftest = false ∧ (s.grp g).resetting = false ∧ (s.grp g).saving = false →
      (s.grp g).loopStatus = 1 ∧ (s.grp g).loopScope = 1 → Answers (.hostSetLoopback k) s k 0x0705 .ok 0 [] fun t =>
      (t.grp g).state = (s.grp g).state ∧ (t.grp g).loopMode = 0 ∧ (t.grp g).loopStatus = 2) ∧
  (∀ (s : State) (k : Sess) (a : Bytes) (g : Group), s.holds k 0x0706 a → byteAt a 0 = g.val ∧
      (s.grp g).selftest = false → Answers (.hostGetStatus k) s k 0x0706 .ok 0 (s.groupRecord g) fun t =>
      (t.grp g).counts = if bitOf (byteAt a 1) 0 then { } else (s.grp g).counts) ∧
  (∀ (s : State) (k : Sess) (a : Bytes) (g : Group), s.holds k 0x0707 a → byteAt a 0 = g.val ∧
      (s.grp g).selftest = false ∧ (s.grp g).resetting = false → Answers (.hostResetGroup k) s k 0x0707 .ok 0 [] fun t =>
      (t.grp g).resetting = true ∧ (t.grp g).slotValid = true ∧ (t.grp g).saveCount = (s.grp g).saveCount + 1) ∧
  (∀ (s : State) (k : Sess) (a : Bytes) (g : Group), s.holds k 0x0708 a → byteAt a 0 = g.val ∧ byteAt a 1 = 0 ∧
      (s.grp g).selftest = false ∧ (s.grp g).resetting = false ∧ (s.grp g).saving = false ∧ s.retired = false ∧
      (s.grp g).power = .off ∧ (s.grp g).replayLost = false → Answers (.hostSetPower k) s k 0x0708 .ok 0 [] fun t =>
      (t.grp g).power = .active ∧ (t.grp g).state = .train) ∧
  (∀ (s : State) (k : Sess) (a : Bytes) (g : Group), s.holds k 0x0708 a → byteAt a 0 = g.val ∧ byteAt a 1 ≠ 0 ∧
      (s.grp g).selftest = false ∧ (s.grp g).resetting = false ∧ (s.grp g).saving = false ∧ s.retired = false ∧
      (s.grp g).power ≠ .off → ((s.grp g).replay = [] ∧ ∀ c : Nat, c < 4 → guaranteed (s.modeOfWork (workOfChan g c)) =
      false ∧ s.modeOfWork (workOfChan g c) ≠ .transparent) → ((s.grp g).chan.toList.all fun c => decide (c.out = [] ∧
      c.partialIn = [] ∧ c.inFrames = [])) = true → Starts (.hostSetPower k) s k 0x0708 fun t => (t.grp g).saving = true
      ∧ (t.grp g).powerSess = some k ∧ (t.grp g).power = (s.grp g).power)

/-- The BIAS commands carry out their effect. BIAS.WRITE of a code within the limits becomes the output's write; outside
them it is refused BAD_ARG, over the aggregate limit NO_RESOURCE, outputs unchanged. BIAS.SET_LIMITS sets the limits,
moving an excluded code. BIAS.SET_RANGE starts a range change at zero scale, the range still the old one, and waits.
BIAS.CLEAR_FAULT, with every latched condition gone, clears the fault, in a range change too, and leaves code 0 with none
pending. BIAS.SET_SAFE writes the safe code of one output, or of all where all their limits admit it. BIAS.SET_AGG_LIMIT
writes the limit and no output. BIAS.GET_STATUS answers a page of records. BIAS.SET_LOOP configures a loop that its output
has not, when its channel, slot, filter and half-period fit. BIAS.LOOP_CTRL starts a stopped loop with its latest
parameters in SETTLE, its centre at the code in force clamped by A, or in FROZEN where a freeze condition of its lane is
in force; it freezes a running one on hold, returns it to SETTLE at the release of its only freeze, and on stop puts it
OFF, its output free. Each of these forms completes with a next state in every state that meets its conditions: biasWrite,
biasSetLimits, biasSetRange, biasClearFault, biasSetSafe, biasSetAggLimit, biasGetStatus, biasSetLoop, biasLoopCtrl (R234,
R235, R237, R238, R239, R240, R241, R260, R262, R263). -/
def Obligations.BiasCommands : Prop :=
  (∀ (s : State) (k : Sess) (a : Bytes) (o : Bias), s.holds k 0x0801 a → fieldLE a 0 2 = o.val ∧ s.biasTested o = false ∧
      (s.bias o).ranging = none ∧ (s.bias o).fault = 0 ∧ (s.bias o).owned = false → s.photon.exceeds o ((s.bias o).write
      (fieldLE a 2 2)) = false ∧ (s.bias o).codeMin ≤ fieldLE a 2 2 ∧ fieldLE a 2 2 ≤ (s.bias o).codeMax →
      Answers (.biasWrite k) s k 0x0801 .ok 0 [] fun t => t.bias o = (s.bias o).write (fieldLE a 2 2)) ∧
  (∀ (s : State) (k : Sess) (a : Bytes) (o : Bias), s.holds k 0x0801 a → fieldLE a 0 2 = o.val ∧ s.biasTested o = false ∧
      (s.bias o).ranging = none ∧ (s.bias o).fault = 0 ∧ (s.bias o).owned = false → s.photon.exceeds o ((s.bias o).write
      (fieldLE a 2 2)) = false ∧ (fieldLE a 2 2 < (s.bias o).codeMin ∨ (s.bias o).codeMax < fieldLE a 2 2) →
      Answers (.biasWrite k) s k 0x0801 .badArg 18 [] fun t => t.photon.bias = s.photon.bias) ∧
  (∀ (s : State) (k : Sess) (a : Bytes) (o : Bias), s.holds k 0x0801 a → fieldLE a 0 2 = o.val ∧ s.biasTested o = false ∧
      (s.bias o).ranging = none ∧ (s.bias o).fault = 0 ∧ (s.bias o).owned = false → s.photon.exceeds o ((s.bias o).write
      (fieldLE a 2 2)) = true → Answers (.biasWrite k) s k 0x0801 .noResource 0 [] fun t => t.photon.bias = s.photon.bias) ∧
  (∀ (s : State) (k : Sess) (a : Bytes) (o : Bias), s.holds k 0x0802 a → fieldLE a 0 2 = o.val ∧ s.biasTested o = false ∧
      (s.bias o).owned = false ∧ s.photon.exceeds o ((s.bias o).setLimits (fieldLE a 2 2) (fieldLE a 4 2)) = false →
      Answers (.biasSetLimits k) s k 0x0802 .ok 0 [] fun t => t.bias o = (s.bias o).setLimits (fieldLE a 2 2) (fieldLE a
      4 2)) ∧
  (∀ (s : State) (k : Sess) (a : Bytes) (o : Bias), s.holds k 0x0803 a → fieldLE a 0 2 = o.val ∧ s.biasTested o = false ∧
      (s.bias o).ranging = none ∧ (s.bias o).owned = false → (byteAt a 2 = 1 ∨ byteAt a 2 = 2 →
      s.photon.exceeds o { s.bias o with code := 0, holding := none, pending := none,
                                         ranging := some { target := byteAt a 2, sess := some k } } = false) →
      Starts (.biasSetRange k) s k 0x0803 fun t => (t.bias o).code = 0 ∧ (t.bias o).pending = none ∧
      (t.bias o).ranging = some { target := byteAt a 2, sess := some k } ∧ (t.bias o).range = (s.bias o).range) ∧
  (∀ (s : State) (k : Sess) (a : Bytes) (o : Bias) (gone : Bool), s.holds k 0x0804 a → fieldLE a 0 2 = o.val ∧
      s.biasTested o = false ∧ (s.bias o).fault ≠ 0 → ((s.bias o).latched.any fun f => if f = 3 then s.sys.pins.biasLow
      else !gone) = false → Answers (.biasClearFault k gone) s k 0x0804 .ok 0 [] fun t => (t.bias o).fault = 0 ∧
      (t.bias o).code = 0 ∧ (t.bias o).pending = none) ∧
  (∀ (s : State) (k : Sess) (a : Bytes) (o : Bias), s.holds k 0x0805 a → fieldLE a 0 2 = o.val ∧ s.biasTested o = false ∧
      (s.bias o).codeMin ≤ fieldLE a 2 2 ∧ fieldLE a 2 2 ≤ (s.bias o).codeMax → Answers (.biasSetSafe k) s k 0x0805 .ok 0
      [] fun t => (t.bias o).safeCode = fieldLE a 2 2) ∧
  (∀ (s : State) (k : Sess) (a : Bytes) (o : Bias), s.holds k 0x0805 a → fieldLE a 0 2 = 0xFFFF ∧
      (biasAll.all fun x => !s.biasTested x && decide ((s.bias x).codeMin ≤ fieldLE a 2 2 ∧
      fieldLE a 2 2 ≤ (s.bias x).codeMax)) = true → Answers (.biasSetSafe k) s k 0x0805 .ok 0 [] fun t =>
      (t.bias o).safeCode = fieldLE a 2 2) ∧
  (∀ (s : State) (k : Sess) (a : Bytes), s.holds k 0x0806 a → Answers (.biasSetAggLimit k) s k 0x0806 .ok 0 [] fun t =>
      t.photon.aggLimit = fieldLE a 0 2 ∧ t.photon.bias = s.photon.bias) ∧
  (∀ (s : State) (k : Sess) (a : Bytes), s.holds k 0x0807 a → (((biasAll.drop (fieldLE a 0 2)).take (fieldLE a 2 2)).any
      s.biasTested) = false → Answers (.biasGetStatus k) s k 0x0807 .ok 0 (pageN [] 16 (fieldLE a 0 2) (fieldLE a 2 2)
      (biasAll.map s.biasRecord)) fun t => t.photon.bias = s.photon.bias) ∧
  (∀ (s : State) (k : Sess) (a : Bytes) (o : Bias), s.holds k 0x0808 a → fieldLE a 0 2 = o.val ∧ s.biasTested o = false ∧
      (s.bias o).loop = none ∧ (s.bias o).range ≠ 0 → (((loopParams a).filter = true → s.fchTaken (loopParams a).fch
      (some o) none = false) ∧ chanReach (loopParams a).chan = .bank (monOfBias o).val ∧ s.chanTested (loopParams a).chan
      = false) → (loopParams a).slot < (s.mon (monOfBias o)).frame ∧ 25 ≤ (loopParams a).h * (s.mon (monOfBias o)).frame
      → Answers (.biasSetLoop k) s k 0x0808 .ok 0 [] fun t => (t.bias o).loop = some { params := loopParams a }) ∧
  (∀ (s : State) (k : Sess) (a : Bytes) (o : Bias) (l : BiasLoop), s.holds k 0x0809 a → fieldLE a 0 2 = o.val ∧
      byteAt a 2 = 0 ∧ s.biasTested o = false ∧ (s.bias o).ranging = none ∧ (s.bias o).loop = some l ∧ l.state = .off →
      (s.mon (monOfBias o)).paired = false ∧ (s.bias o).range ≠ 0 ∧ (s.bias o).fault = 0 ∧ l.latest.slot ∉ s.loopSlots
      (monOfBias o) → (s.loopSlots (monOfBias o)).length < 3 * (s.mon (monOfBias o)).frame / 4 ∧
      2 * l.latest.a ≤ (s.bias o).codeMax - (s.bias o).codeMin → (l.latest.filter = true → s.fchTaken l.latest.fch (some
      o) none = false ∧ (s.flt (finOf 64 l.latest.fch)).mode = 2 ∧ 2 ^ (s.flt (finOf 64 l.latest.fch)).m = l.latest.d) →
      l.latest.slot < (s.mon (monOfBias o)).frame ∧ 25 ≤ l.latest.h * (s.mon (monOfBias o)).frame →
      s.laneFreezes (laneOfBias o) = [] → Answers (.biasLoopCtrl k) s k 0x0809 .ok 0 [] fun t => (t.bias o).loop.map (fun
      x => (x.state, x.params, x.centre)) = some (.settle, l.latest, clampI (((s.bias o).codeMin : Int) + l.latest.a)
      (((s.bias o).codeMax : Int) - l.latest.a) (s.bias o).code)) ∧
  (∀ (s : State) (k : Sess) (a : Bytes) (o : Bias) (l : BiasLoop), s.holds k 0x0809 a → fieldLE a 0 2 = o.val ∧
      byteAt a 2 = 0 ∧ s.biasTested o = false ∧ (s.bias o).ranging = none ∧ (s.bias o).loop = some l ∧ l.state = .off →
      (s.mon (monOfBias o)).paired = false ∧ (s.bias o).range ≠ 0 ∧ (s.bias o).fault = 0 ∧ l.latest.slot ∉ s.loopSlots
      (monOfBias o) → (s.loopSlots (monOfBias o)).length < 3 * (s.mon (monOfBias o)).frame / 4 ∧
      2 * l.latest.a ≤ (s.bias o).codeMax - (s.bias o).codeMin → (l.latest.filter = true → s.fchTaken l.latest.fch (some
      o) none = false ∧ (s.flt (finOf 64 l.latest.fch)).mode = 2 ∧ 2 ^ (s.flt (finOf 64 l.latest.fch)).m = l.latest.d) →
      l.latest.slot < (s.mon (monOfBias o)).frame ∧ 25 ≤ l.latest.h * (s.mon (monOfBias o)).frame →
      s.laneFreezes (laneOfBias o) ≠ [] → Answers (.biasLoopCtrl k) s k 0x0809 .ok 0 [] fun t =>
      (t.bias o).loop.map (·.state) = some .frozen) ∧
  (∀ (s : State) (k : Sess) (a : Bytes) (o : Bias), s.holds k 0x0809 a → fieldLE a 0 2 = o.val ∧ byteAt a 2 = 1 ∧
      s.biasTested o = false ∧ (s.bias o).owned = true → Answers (.biasLoopCtrl k) s k 0x0809 .ok 0 [] fun t =>
      (t.bias o).loop.map (·.state) = some .frozen) ∧
  (∀ (s : State) (k : Sess) (a : Bytes) (o : Bias) (l : BiasLoop), s.holds k 0x0809 a → fieldLE a 0 2 = o.val ∧
      byteAt a 2 = 2 ∧ s.biasTested o = false ∧ (s.bias o).loop = some l ∧ l.state = .frozen ∧ l.freezes = [.hold] →
      Answers (.biasLoopCtrl k) s k 0x0809 .ok 0 [] fun t => (t.bias o).loop.map (fun x => (x.state,
      x.freezes)) = some (.settle, [])) ∧
  (∀ (s : State) (k : Sess) (a : Bytes) (o : Bias), s.holds k 0x0809 a → fieldLE a 0 2 = o.val ∧ byteAt a 2 = 3 ∧
      s.biasTested o = false ∧ (s.bias o).owned = true → Answers (.biasLoopCtrl k) s k 0x0809 .ok 0 [] fun t =>
      (t.bias o).owned = false ∧ (t.bias o).loop.map (·.state) = some .off)

/-- Codes, range changes, faults, supplies and loops of the bias outputs take effect at their events. A pending code is
applied: a step of 4,096 or more, or into another segment of 4,096 codes, is held by the deglitcher with the old code in
force, another is in force at once; the deglitch step puts a held code in force. A commanded range change ends in the new
range at code 0 and is answered. A fault is latched by its range's kind at code 0 with none pending, the range kept, or,
in a change to another range than OFF, by that range's kind with the output in OFF; a low bias supply latches its own
fault at code 0; the supply gate puts every output in range 0 at code 0. A dither half-period of a running loop takes the
next centre, flips the sign and writes the centre plus or minus A. A loop update with its samples complete takes the
latest parameters, computes the next centre and starts its sums afresh. A free unit starts the loop conversion of its
slot. Each of these forms completes with a next state in every state that meets its conditions: biasCodeApply,
deglitchStep, rangeChangeDone, biasFault, biasSupplyLow, supplyGate, ditherHalfPeriod, loopUpdate, loopSlotStart (R235,
R236, R237, R238, R246, R248, R261, R451). -/
def Obligations.BiasEvents : Prop :=
  (∀ (s : State) (o : Bias) (n : Nat), (s.bias o).pending = some n ∧ (s.bias o).ranging = none ∧
      (s.bias o).holding = none ∧ (s.bias o).fault = 0 → Leads (.biasCodeApply o) s fun t => (t.bias o).pending = none ∧
      (if 4096 ≤ max (s.bias o).code n - min (s.bias o).code n ∨ n / 4096 ≠ (s.bias o).code / 4096 then (t.bias
      o).holding = some n ∧ (t.bias o).code = (s.bias o).code else (t.bias o).code = n)) ∧
  (∀ (s : State) (o : Bias) (n : Nat), (s.bias o).holding = some n → Leads (.deglitchStep o) s fun t =>
      (t.bias o).code = n ∧ (t.bias o).holding = none) ∧
  (∀ (s : State) (o : Bias) (r : RangeChange) (k : Sess), (s.bias o).ranging = some r ∧ r.sess = some k ∧ r.code = none ∧
      (s.bias o).ranges = [] ∧ s.waits k 0x0803 ∧ (s.sess k).closePending = false ∧ s.sys.pins.supplyGate = false →
      Leads (.rangeChangeDone o) s fun t => (t.bias o).range = r.target ∧ (t.bias o).ranging = none ∧
      (t.bias o).code = 0 ∧ t.answered k 0x0803 .ok 0 []) ∧
  (∀ (s : State) (o : Bias), (s.bias o).range ≠ 0 ∧ (s.bias o).ranging = none ∧ (s.bias o).fault = 0 →
      Leads (.biasFault o) s fun t => (t.bias o).fault = (if (s.bias o).range ≤ 2 then 1 else 2) ∧ (t.bias o).code = 0 ∧
      (t.bias o).pending = none ∧ (t.bias o).range = (s.bias o).range) ∧
  (∀ (s : State) (o : Bias) (r : RangeChange), (s.bias o).ranging = some r ∧ r.target ≠ 0 ∧ (s.bias o).fault = 0 →
      Leads (.biasFault o) s fun t => (t.bias o).fault = (if r.target ≤ 2 then 1 else 2) ∧ (t.bias o).code = 0 ∧
      (t.bias o).pending = none ∧ (t.bias o).range = 0 ∧ (t.bias o).ranging = none) ∧
  (∀ (s : State) (o : Bias), (s.bias o).fault = 0 → Leads (.biasSupplyLow true) s fun t => t.sys.pins.biasLow = true ∧
      (t.bias o).fault = 3 ∧ (t.bias o).code = 0 ∧ (t.bias o).pending = none) ∧
  (∀ (s : State) (o : Bias) (lost : Bool), Leads (.supplyGate true lost) s fun t => t.sys.pins.supplyGate = true ∧
      (t.bias o).range = 0 ∧ (t.bias o).code = 0) ∧
  (∀ (s : State) (o : Bias) (l : BiasLoop), (s.bias o).loop = some l ∧ l.state ≠ .off ∧ l.state ≠ .frozen ∧
      (s.bias o).fault = 0 ∧ (s.bias o).ranging = none ∧ l.params.h ≤ l.halfSamples → Leads (.ditherHalfPeriod o) s fun t
      => (t.bias o).loop.map (fun x => (x.centre, x.positive)) = some (l.nextCentre, !l.positive) ∧
      (t.bias o).pending = some (s.photon.loopCode o (if l.positive then l.nextCentre - l.params.a else l.nextCentre +
      l.params.a).toNat)) ∧
  (∀ (s : State) (o : Bias) (l : BiasLoop), (s.bias o).loop = some l ∧ l.state ≠ .off ∧ l.state ≠ .frozen ∧
      l.params.d ≤ l.samples → Leads (.loopUpdate o) s fun t => (t.bias o).loop.map (fun x => (x.params, x.nextCentre,
      x.acc, x.samples)) = some (l.latest, (loopStep l.latest (s.bias o).codeMin (s.bias o).codeMax l.nextCentre (if
      l.latest.filter then (s.flt (finOf 64 l.latest.fch)).output else roundDiv (2048 * l.acc) l.latest.d)).1, 0, 0)) ∧
  (∀ (s : State) (u : Mon) (slot : Nat) (o : Bias) (l : BiasLoop), (s.bias o).loop = some l ∧
      s.slotLoop u slot = some o ∧ (s.mon u).busy = none ∧ s.monStopped = false → Leads (.loopSlotStart u slot) s fun t
      => (t.mon u).busy = some (.loop o l.reference))

/-- Monitor, pin and filter commands and events carry out their effect. MON.SET_PAIR pairs or unpairs two units without
running loops. MON.SET_SEQ writes a regular sequence or an injected one whose channels are reachable, free and not under
test, results cleared, the other sequence unchanged. MON.START runs a SOFT sequence; MON.STOP ends it, at the end of a
regular conversion in progress; MON.INJECT runs the injected one. MON.READ_CHANNEL queues an ad-hoc conversion and waits,
or answers a channel under test with its last conversion, STALE; it is answered when it ends, or with TIMEOUT and dropped
at its limit before it starts. MON.SET_FRAME writes the frame of a unit without loops. MON.READ_RESULTS answers the result
words and clears their NEW bits; MON.GET_STATUS answers the record and clears the lost counts. MON.SET_PIN makes a pin
INPUT or OUTPUT unless it is the other, or UNUSED. A regular conversion fills its result register, valid and new. An edge
starts the injected sequence of its pin; a pulse end lowers an output pin. A filter output in AVERAGE is clamped and
stamped, OVERRUN noting the clamp; in the other modes a decimated sample is kept, and the eighth computes the 63-tap sum
through the DC block. The freeze time ends the automatic freeze only. FILTER.SET_CHANNEL, LOAD_COEFF of a bank not in use
and FREEZE_DC write their settings; FILTER.READ answers the record and clears OVERRUN. Each of these forms completes with
a next state in every state that meets its conditions: monSetPair, monSetSeq, monStart, monStop, monInject,
monReadChannel, monReadChannelTimeout, monSetFrame, monReadResults, monGetStatus, monSetPin, conversionDone, trigEdge,
trigPulseEnd, filterOutputRelease, dcFreezeExpiry, filterSetChannel, filterLoadCoeff, filterFreezeDc, filterRead (R243,
R244, R245, R246, R247, R250, R251, R252, R253, R255, R257). -/
def Obligations.MonitorsAndFilters : Prop :=
  (∀ (s : State) (k : Sess) (a : Bytes) (lo hi : Mon), s.holds k 0x0901 a → lo.val = 2 * byteAt a 0 ∧
      hi.val = 2 * byteAt a 0 + 1 ∧ s.loopSlots lo = [] ∧ s.loopSlots hi = [] → Answers (.monSetPair k) s k 0x0901 .ok 0
      [] fun t => (t.mon lo).paired = decide (byteAt a 1 = 1) ∧ (t.mon hi).paired = decide (byteAt a 1 = 1)) ∧
  (∀ (s : State) (k : Sess) (a : Bytes) (u : Mon), s.holds k 0x0902 a → (byteAt a 0 = u.val ∧ byteAt a 1 ≠ 1 ∧
      (s.mon u).reg.running = none ∧ (byteAt a 4 < 8 → (s.photon.pins[(finOf 8 (byteAt a 4)).val]).mode ≠ .output)) →
      ((seqEntries a).any fun e => s.chanTested e.chan) = false ∧ s.seqTaken (seqEntries a) u false = false ∧
      ((seqEntries a).all fun e => s.reaches u e.chan) = true → Answers (.monSetSeq k) s k 0x0902 .ok 0 [] fun t =>
      (t.mon u).reg.entries = seqEntries a ∧ (t.mon u).reg.mode = byteAt a 3 ∧ (t.mon u).regRes = Vector.replicate 32 { }
      ∧ (t.mon u).inj = (s.mon u).inj) ∧
  (∀ (s : State) (k : Sess) (a : Bytes) (u : Mon), s.holds k 0x0902 a → (byteAt a 0 = u.val ∧ byteAt a 1 = 1 ∧
      (s.mon u).inj.running = none ∧ (byteAt a 4 < 8 → (s.photon.pins[(finOf 8 (byteAt a 4)).val]).mode ≠ .output)) →
      ((seqEntries a).any fun e => s.chanTested e.chan) = false ∧ s.seqTaken (seqEntries a) u true = false ∧
      ((seqEntries a).all fun e => s.reaches u e.chan) = true → ((byteAt a 6 = 1 ∨ byteAt a 6 = 2 →
      fieldLE a 8 2 / 17 = u.val) ∧ (byteAt a 6 = 3 → fieldLE a 8 2 / 4 / 17 = u.val)) →
      Answers (.monSetSeq k) s k 0x0902 .ok 0 [] fun t => (t.mon u).inj.entries = seqEntries a ∧
      (t.mon u).inj.urgent = byteAt a 6 ∧ (t.mon u).injRes = Vector.replicate 4 { } ∧ (t.mon u).reg = (s.mon u).reg) ∧
  (∀ (s : State) (k : Sess) (a : Bytes) (u : Mon), s.holds k 0x0903 a → byteAt a 0 = u.val ∧ (s.mon u).reg.running = none
      ∧ (s.mon u).reg.entries ≠ [] ∧ (s.mon u).reg.mode = 2 ∧ s.suspended u = false → Answers (.monStart k) s k 0x0903
      .ok 0 [] fun t => (t.mon u).reg.running = some (0, 0) ∧ (t.mon u).reg.entries = (s.mon u).reg.entries) ∧
  (∀ (s : State) (k : Sess) (a : Bytes) (u : Mon), s.holds k 0x0904 a → byteAt a 0 = u.val →
      Answers (.monStop k) s k 0x0904 .ok 0 [] fun t => (t.mon u).reg.pending = false ∧
      (if (s.mon u).busy = some .regular then (t.mon u).reg.stopping = true else (t.mon u).reg.running = none)) ∧
  (∀ (s : State) (k : Sess) (a : Bytes) (u : Mon), s.holds k 0x0905 a → byteAt a 0 = u.val ∧ (s.mon u).inj.entries ≠ [] ∧
      s.suspended u = false ∧ (s.mon u).inj.running = none ∧ s.monStopped = false → Answers (.monInject k) s k 0x0905 .ok
      0 [] fun t => (t.mon u).inj.running = some (0, 0)) ∧
  (∀ (s : State) (k : Sess) (a : Bytes) (u : Mon), s.holds k 0x0906 a → byteAt a 0 = u.val ∧ s.reaches u (fieldLE a 2 2)
      = true ∧ s.chanTested (fieldLE a 2 2) = false → Starts (.monReadChannel k) s k 0x0906 fun t =>
      (t.mon u).adhoc = (s.mon u).adhoc ++ [{ sess := some k, chan := fieldLE a 2 2, gain := byteAt a 1 }]) ∧
  (∀ (s : State) (k : Sess) (a : Bytes) (u : Mon), s.holds k 0x0906 a → byteAt a 0 = u.val ∧ s.reaches u (fieldLE a 2 2)
      = true ∧ s.chanTested (fieldLE a 2 2) = true → Answers (.monReadChannel k) s k 0x0906 .stale s.testRemaining
      (convBytes ((tabGet s.photon.lastConv (fieldLE a 2 2)).getD (0, false, 0))) fun t => (t.mon u).adhoc = (s.mon
      u).adhoc) ∧
  (∀ (s : State) (u : Mon) (k : Sess), (s.mon u).adhoc.any (fun x => decide (x.sess = some k)) = true ∧
      ((s.mon u).busy ≠ some .adhoc ∨ ((s.mon u).adhoc.head?.map (·.sess)) ≠ some (some k)) ∧ s.waits k 0x0906 ∧
      (s.sess k).closePending = false → Leads (.monReadChannelTimeout u k) s fun t => t.answered k 0x0906 .timeout 0 [] ∧
      (t.mon u).adhoc = (s.mon u).adhoc.filter fun x => decide (x.sess ≠ some k)) ∧
  (∀ (s : State) (k : Sess) (a : Bytes) (u : Mon), s.holds k 0x0907 a → byteAt a 0 = u.val ∧ s.loopSlots u = [] →
      Answers (.monSetFrame k) s k 0x0907 .ok 0 [] fun t => (t.mon u).frame = fieldLE a 2 2) ∧
  (∀ (s : State) (k : Sess) (a : Bytes) (u : Mon), s.holds k 0x0908 a → byteAt a 0 = u.val ∧ s.monTested u = false →
      Answers (.monReadResults k) s k 0x0908 .ok 0 ((s.resultWords u).flatMap (leBytes 4)) fun t =>
      t.mon u = (s.mon u).clearNew) ∧
  (∀ (s : State) (k : Sess) (a : Bytes) (u : Mon), s.holds k 0x0909 a → byteAt a 0 = u.val → Answers (.monGetStatus k) s
      k 0x0909 .ok 0 (s.monRecord u) fun t => (t.mon u).reg.lost = 0 ∧ (t.mon u).inj.lost = 0) ∧
  (∀ (s : State) (k : Sess) (a : Bytes) (p : Pin), s.holds k 0x090A a → byteAt a 0 = p.val ∧ (s.photon.pins[p.val]).mode
      ≠ .output ∧ byteAt a 1 = 1 → Answers (.monSetPin k) s k 0x090A .ok 0 [] fun t => (t.photon.pins[p.val]).mode =
      .input) ∧
  (∀ (s : State) (k : Sess) (a : Bytes) (p : Pin), s.holds k 0x090A a → byteAt a 0 = p.val ∧ (s.photon.pins[p.val]).mode
      ≠ .input ∧ byteAt a 1 = 2 ∧ s.pinUsed p = false → (byteAt a 2 = 0 ∧ (Ev.all.any fun e => decide (e.id = fieldLE a 4
      2)) = true) ∨ (byteAt a 2 = 1 ∧ fieldLE a 4 2 < 8) ∨ (byteAt a 2 = 2 ∧ fieldLE a 4 2 < 544 ∧
      s.biasTested (finOf 544 (fieldLE a 4 2)) = false) → Answers (.monSetPin k) s k 0x090A .ok 0 [] fun t =>
      (t.photon.pins[p.val]).mode = .output ∧ (t.photon.pins[p.val]).source = byteAt a 2 ∧ (t.photon.pins[p.val]).arg =
      fieldLE a 4 2 ∧ (t.photon.pins[p.val]).width = fieldLE a 6 2) ∧
  (∀ (s : State) (k : Sess) (a : Bytes) (p : Pin), s.holds k 0x090A a → byteAt a 0 = p.val ∧ byteAt a 1 = 0 →
      Answers (.monSetPin k) s k 0x090A .ok 0 [] fun t => (t.photon.pins[p.val]).mode = .unused) ∧
  (∀ (s : State) (u : Mon) (nV e r : Nat) (x : SeqEntry), (s.mon u).busy = some .regular ∧ (s.mon u).reg.running = some
      (e, r) ∧ (s.mon u).reg.entries[e]? = some x ∧ e < 32 ∧ s.chanTested x.chan = false ∧ s.monStopped = false →
      Leads (.conversionDone u nV) s fun t => ((t.mon u).regRes.toList.getD e { }).code = min (convCode nV x.gain) 4095 ∧
      ((t.mon u).regRes.toList.getD e { }).valid = true ∧ ((t.mon u).regRes.toList.getD e { }).new = true) ∧
  (∀ (s : State) (u : Mon) (nV : Nat) (k : Sess) (x : Adhoc) (rest : List Adhoc), (s.mon u).busy = some .adhoc ∧
      (s.mon u).adhoc = x :: rest ∧ x.sess = some k ∧ s.chanTested x.chan = false ∧ s.monStopped = false ∧
      s.waits k 0x0906 ∧ (s.sess k).closePending = false → Leads (.conversionDone u nV) s fun t =>
      t.answered k 0x0906 .ok 0 (leBytes 2 (min (convCode nV x.gain) 4095) ++ leBytes 1 (decide (4095 < convCode nV
      x.gain)).toNat ++ zeros 1 ++ leBytes 8 s.sampleInstant.toNat) ∧ (t.mon u).adhoc = rest) ∧
  (∀ (s : State) (pin : Pin) (rising : Bool) (u : Mon), (s.photon.pins[pin.val]).mode = .input ∧
      (s.mon u).inj.pin = some pin ∧ edgeSuits (s.mon u).inj.edge rising = true ∧ (s.mon u).inj.entries ≠ [] ∧
      (s.mon u).inj.running = none ∧ s.suspended u = false ∧ s.monStopped = false → Leads (.trigEdge pin rising) s fun t
      => (t.mon u).inj.running = some (0, 0)) ∧
  (∀ (s : State) (pin : Pin), (s.photon.pins[pin.val]).mode = .output ∧ (s.photon.pins[pin.val]).source ≠ 2 →
      Leads (.trigPulseEnd pin) s fun t => (t.photon.pins[pin.val]).high = false) ∧
  (∀ (s : State) (c : Fch) (y : Int) (rest : List Int), (s.flt c).mode = 3 ∧ (s.flt c).ready = y :: rest →
      Leads (.filterOutputRelease c) s fun t => (t.flt c).output = clampI (-8388608) 8388607 y ∧
      (t.flt c).count = (s.flt c).count + 1 ∧ (t.flt c).stamp = s.now ∧ (t.flt c).ready = rest ∧
      (t.flt c).overrun = ((s.flt c).overrun || decide (clampI (-8388608) 8388607 y ≠ y))) ∧
  (∀ (s : State) (c : Fch) (x : Int) (rest : List Int), (s.flt c).mode ≠ 3 ∧ (s.flt c).cicReady = x :: rest ∧
      ((s.flt c).cicCount + 1) % 8 ≠ 0 → Leads (.filterOutputRelease c) s fun t => (t.flt c).cic = (x :: (s.flt
      c).cic).take 279 ∧ (t.flt c).cicReady = rest ∧ (t.flt c).cicCount = ((s.flt c).cicCount + 1) % 8 ∧
      (t.flt c).output = (s.flt c).output) ∧
  (∀ (s : State) (c : Fch) (x : Int) (rest : List Int), (s.flt c).mode ≠ 3 ∧ (s.flt c).cicReady = x :: rest ∧
      ((s.flt c).cicCount + 1) % 8 = 0 → Leads (.filterOutputRelease c) s fun t => (t.flt c).output = clampI (-8388608)
      8388607 ((s.flt c).dcBlock (firSum (s.photon.bankCoeffs (s.flt c).bank) ((List.range 63).map (firInput (2 ^ (s.flt
      c).m / 8) ((x :: (s.flt c).cic).take 279))))).2 ∧ (t.flt c).count = (s.flt c).count + 1 ∧ (t.flt c).stamp = s.now) ∧
  (∀ (s : State) (c : Fch), Leads (.dcFreezeExpiry c) s fun t => (t.flt c).autoFrozen = false ∧
      (t.flt c).frozen = (s.flt c).frozen) ∧
  (∀ (s : State) (k : Sess) (a : Bytes) (c : Fch), s.holds k 0x0A01 a → (fieldLE a 6 2 < 544 →
      s.biasTested (finOf 544 (fieldLE a 6 2)) = false) → (byteAt a 0 = c.val ∧ (byteAt a 1 = 2 →
      (s.fchLoop c.val true).isSome) ∧ (byteAt a 1 = 3 → s.sourceLoop c.val = none) ∧ (byteAt a 1 = 1 ∨ byteAt a 1 = 2 →
      s.tooFast c.val (2 ^ byteAt a 2 / 8) = false)) → Answers (.filterSetChannel k) s k 0x0A01 .ok 0 [] fun t =>
      (t.flt c).mode = byteAt a 1 ∧ (t.flt c).m = byteAt a 2 ∧ (t.flt c).bank = byteAt a 3 ∧ (t.flt c).dcK = byteAt a 4 ∧
      (t.flt c).stepThresh = fieldLE a 8 2 ∧ (t.flt c).freezeTime = fieldLE a 10 2 ∧ (t.flt c).count = 0) ∧
  (∀ (s : State) (k : Sess) (a : Bytes) (b : Fin 6), s.holds k 0x0A02 a → byteAt a 0 = b.val + 2 ∧
      s.photon.filter.toList.any (fun f => decide (f.mode ≠ 0 ∧ f.bank = byteAt a 0)) = false →
      Answers (.filterLoadCoeff k) s k 0x0A02 .ok 0 [] fun t => t.photon.banks[b.val] = Vector.ofFn fun i : Fin 63 =>
      toSigned 18 (fieldLE a (4 + 4 * i.val) 4)) ∧
  (∀ (s : State) (k : Sess) (a : Bytes) (c : Fch), s.holds k 0x0A03 a → byteAt a 0 = c.val → Answers (.filterFreezeDc k)
      s k 0x0A03 .ok 0 [] fun t => (t.flt c).frozen = decide (byteAt a 1 = 1)) ∧
  (∀ (s : State) (k : Sess) (a : Bytes) (c : Fch), s.holds k 0x0A04 a → byteAt a 0 = c.val → Answers (.filterRead k) s k
      0x0A04 .ok 0 (s.flt c).record fun t => (t.flt c).overrun = false ∧ (t.flt c).output = (s.flt c).output)

/-- The blind estimator and calibration runs carry out their effect. A full window is handed to the engine and the next
one starts empty with the N in force. A window not full within its limit is rejected: counted, the calibration unit
otherwise untouched outside a run; in a run it counts toward the eight, and the eighth in a row ends the run STALLED with
its reference unchanged. In a run, a window neither clipped nor biased stages the next set, uses up one iteration and
clears the count of rejections, the active set unchanged; outside a run, a window with more than one sample in a hundred
clipped is counted as rejected and stages nothing. The first queued trigger whose lane can run starts while fewer than
CAL_MAX_RUNS run. The period queues a run of 32 iterations on an idle lane. Each of these forms completes with a next
state in every state that meets its conditions: estimationWindowEnd, estimationWindowStarved, estimatorIteration,
calRunStart, calPeriodExpiry (R35, R36, R37, R38, R40, R282, R284, Table 9-9, Table 9-10). -/
def Obligations.EstimatorAndRuns : Prop :=
  (∀ (s : State) (p : Phys), (s.rxl p).state ≠ .off ∧ (s.rxl p).sums.full (s.rxl p).rate = true →
      Leads (.estimationWindowEnd p) s fun t => (t.rxl p).window = some
      { n := 2 ^ (s.rxl p).sums.exp, clipped := (s.rxl p).sums.clipped, stats := (s.rxl p).sums.stats.toList } ∧
      (t.rxl p).sums = { exp := (s.rxl p).nExp, start := s.now }) ∧
  (∀ (s : State) (p : Phys), (s.rxl p).state ≠ .off ∧ (s.rxl p).sums.full (s.rxl p).rate = false ∧
      (s.rxl p).starveLimit ≤ s.since (s.rxl p).sums.start → (s.cal.lane[p.val]).state ≠ .running →
      Leads (.estimationWindowStarved p) s fun t => (t.rxl p).diag.calRejected = satW 16 ((s.rxl p).diag.calRejected + 1)
      ∧ t.cal = s.cal) ∧
  (∀ (s : State) (p : Phys), (s.rxl p).state ≠ .off ∧ (s.rxl p).sums.full (s.rxl p).rate = false ∧
      (s.rxl p).starveLimit ≤ s.since (s.rxl p).sums.start → (s.cal.lane[p.val]).state = .running ∧
      (s.cal.lane[p.val]).rejected < 7 → Leads (.estimationWindowStarved p) s fun t => (t.rxl p).diag.calRejected = satW
      16 ((s.rxl p).diag.calRejected + 1) ∧ (t.cal.lane[p.val]).rejected = (s.cal.lane[p.val]).rejected + 1 ∧
      (t.cal.lane[p.val]).state = .running) ∧
  (∀ (s : State) (p : Phys), (s.rxl p).state ≠ .off ∧ (s.rxl p).sums.full (s.rxl p).rate = false ∧
      (s.rxl p).starveLimit ≤ s.since (s.rxl p).sums.start → (s.cal.lane[p.val]).state = .running ∧
      7 ≤ (s.cal.lane[p.val]).rejected → Leads (.estimationWindowStarved p) s fun t => (t.cal.lane[p.val]).state = .idle
      ∧ (t.cal.lane[p.val]).outcome = .stalled ∧ (t.cal.lane[p.val]).ref = (s.cal.lane[p.val]).ref) ∧
  (∀ (s : State) (p : Phys) (w : EstWindow), (s.rxl p).window = some w ∧ w.n * (slicesOf (s.rxl p).rate) ≥ 100 *
      w.clipped ∧ ((w.stats.take (slicesOf (s.rxl p).rate)).foldl (fun (acc : Int) x => acc + x.sum) 0).natAbs ≤ 4 * (w.n
      * (slicesOf (s.rxl p).rate)) → (s.cal.lane[p.val]).state = .running ∧ (s.cal.lane[p.val]).remaining ≠ 0 →
      Leads (.estimatorIteration p) s fun t => (t.rxl p).staged = estimate (s.rxl p) w ∧ (t.rxl p).stagedPending = true ∧
      (t.rxl p).window = none ∧ (t.cal.lane[p.val]).remaining = (s.cal.lane[p.val]).remaining - 1 ∧
      (t.cal.lane[p.val]).rejected = 0 ∧ (t.rxl p).slices = (s.rxl p).slices) ∧
  (∀ (s : State) (p : Phys) (w : EstWindow), (s.rxl p).window = some w ∧ w.n * (slicesOf (s.rxl p).rate) < 100 *
      w.clipped ∧ (s.cal.lane[p.val]).state ≠ .running → Leads (.estimatorIteration p) s fun t => (t.rxl p).window = none
      ∧ (t.rxl p).staged = (s.rxl p).staged ∧ (t.rxl p).diag.calRejected = satW 16 ((s.rxl p).diag.calRejected + 1)) ∧
  (∀ (s : State) (x : CalWait), s.cal.queue.find? (fun y => s.canCalibrate y.lane) = some x →
      (physAll.filter fun q => decide ((s.cal.lane[q.val]).state = .running)).length < s.cal.maxRuns →
      Leads .calRunStart s fun t => (t.cal.lane[x.lane.val]).state = .running ∧ (t.cal.lane[x.lane.val]).remaining =
      x.iters ∧ t.cal.queue = s.cal.queue.filter fun y => decide (y.lane ≠ x.lane)) ∧
  (∀ (s : State) (p : Phys), s.periodPassed p = true ∧ (s.ln p).pinned = false ∧ s.modeOf p ≠ .dark ∧
      (s.cal.lane[p.val]).state = .idle → Leads (.calPeriodExpiry p) s fun t => (t.cal.lane[p.val]).state = .queued ∧
      (t.cal.lane[p.val]).remaining = 32)

/-- Wear measurements and margin plans carry out their effect. A measurement becomes the wear of its monitor, its count of
5,000-ppm steps never falls, and the hour, its setpoint and the lanes' swings enter the sums of the day. A plan due, asked
for or deferred takes the next number, uses up the request, sets the AVS target and prepares the record of its number, the
ring unchanged; while tripped the plan is only noted as deferred, the day's means kept where the day ends. A written
record heads the ring of 400. Each of these forms completes with a next state in every state that meets its conditions:
wearMeasurement, marginPlan, planWriteDone (R285, R287, R288, R289, R290). -/
def Obligations.WearAndPlans : Prop :=
  (∀ (s : State) (counts : List (Nat × Nat)) (swings : List Nat) (m : Fin 48) (p : Phys), Leads (.wearMeasurement counts
      swings) s fun t => t.age.wear[m.val] = s.wearOf counts m ∧ t.age.wearStep[m.val] = max s.age.wearStep[m.val]
      (s.wearOf counts m / 5000).toNat ∧ t.age.hours = s.age.hours + 1 ∧ t.age.setpointSum = s.age.setpointSum +
      s.sys.avs.runSetpoint ∧ (t.age.lane[p.val]).sumA = (s.age.lane[p.val]).sumA + swings.getD p.val 0) ∧
  (∀ (s : State) (daily : Bool) (lanes : List LaneDay), (daily = true ∨ s.age.asked = true ∨ s.age.deferred = true) ∧
      s.tripped = false → Leads (.marginPlan daily lanes) s fun t => t.age.planNum = s.age.planNum + 1 ∧
      t.age.asked = false ∧ t.age.deferred = false ∧ t.age.avsTarget = s.planTarget.1 ∧ t.age.writing.map (·.number) =
      some (s.age.planNum + 1) ∧ t.age.ring = s.age.ring) ∧
  (∀ (s : State) (daily : Bool) (lanes : List LaneDay), (daily = true ∨ s.age.asked = true ∨ s.age.deferred = true) ∧
      s.tripped = true → Leads (.marginPlan daily lanes) s fun t =>
      t.age = { (if daily then s.endDay else s).age with deferred := true }) ∧
  (∀ (s : State) (r : PlanRecord), s.age.writing = some r → Leads .planWriteDone s fun t =>
      t.age.ring = (r :: s.age.ring).take 400 ∧ t.age.writing = none)

/-- The CAL commands carry out their effect. CAL.RUN_LANE queues a run of the asked iterations, 32 for 0, on an idle lane,
leaves a queued one as it is, or raises a running one's remaining iterations to the larger count, and answers them; a lane
in DARK or a tripped device is refused BAD_STATE and a lane under self-test BUSY_SELFTEST with the test's remaining time.
CAL.SET_TRIGGERS writes the threshold, the limit of runs and the period. CAL.PIN_LANE, CAL.SET_FLOOR and CAL.SET_ESTIMATOR
write the pin, the floor and N and the loop gains of one lane or of all; a pin drops the lane's waiting automatic trigger.
CAL.GET_STATUS answers a page of lane entries, STALE where one of them describes a lane under test. CAL.PLAN_NOW asks for
a plan and answers its number. CAL.GET_AGEING answers a page of the plan named, or of the latest, and BAD_STATE where
there is none. Each of these forms completes with a next state in every state that meets its conditions: calRunLane,
calSetTriggers, calPinLane, calSetFloor, calGetStatus, calPlanNow, calGetAgeing, calSetEstimator (R275, R283, R284, R287,
R290, R384, R385). -/
def Obligations.CalCommands : Prop :=
  (∀ (s : State) (k : Sess) (a : Bytes) (p : Phys), s.holds k 0x0B01 a → byteAt a 0 = p.val ∧ (s.ln p).selftest = false ∧
      s.modeOf p ≠ .dark ∧ s.tripped = false ∧ (s.cal.lane[p.val]).state = .idle → Answers (.calRunLane k) s k 0x0B01 .ok
      0 (leBytes 2 (if fieldLE a 2 2 = 0 then 32 else fieldLE a 2 2)) fun t => (t.cal.lane[p.val]).state = .queued ∧
      (t.cal.lane[p.val]).remaining = if fieldLE a 2 2 = 0 then 32 else fieldLE a 2 2) ∧
  (∀ (s : State) (k : Sess) (a : Bytes) (p : Phys), s.holds k 0x0B01 a → byteAt a 0 = p.val ∧ (s.ln p).selftest = false ∧
      s.modeOf p ≠ .dark ∧ s.tripped = false ∧ (s.cal.lane[p.val]).state = .queued → Answers (.calRunLane k) s k 0x0B01
      .ok 0 (leBytes 2 (s.cal.lane[p.val]).remaining) fun t => t.cal = s.cal) ∧
  (∀ (s : State) (k : Sess) (a : Bytes) (p : Phys), s.holds k 0x0B01 a → byteAt a 0 = p.val ∧ (s.ln p).selftest = false ∧
      s.modeOf p ≠ .dark ∧ s.tripped = false ∧ (s.cal.lane[p.val]).state = .running → Answers (.calRunLane k) s k 0x0B01
      .ok 0 (leBytes 2 (max (s.cal.lane[p.val]).remaining (if fieldLE a 2 2 = 0 then 32 else fieldLE a 2 2))) fun t =>
      (t.cal.lane[p.val]).remaining = max (s.cal.lane[p.val]).remaining (if fieldLE a 2 2 = 0 then 32 else fieldLE a 2 2)
      ∧ t.cal.queue = s.cal.queue) ∧
  (∀ (s : State) (k : Sess) (a : Bytes) (p : Phys), s.holds k 0x0B01 a → byteAt a 0 = p.val ∧ (s.ln p).selftest = false ∧
      (s.modeOf p = .dark ∨ s.tripped = true) → Answers (.calRunLane k) s k 0x0B01 .badState 0 [] fun t => t.cal = s.cal) ∧
  (∀ (s : State) (k : Sess) (a : Bytes) (p : Phys), s.holds k 0x0B01 a → byteAt a 0 = p.val ∧ (s.ln p).selftest = true →
      Answers (.calRunLane k) s k 0x0B01 .busySelftest s.testRemaining [] fun t => t.cal = s.cal) ∧
  (∀ (s : State) (k : Sess) (a : Bytes), s.holds k 0x0B02 a → Answers (.calSetTriggers k) s k 0x0B02 .ok 0 [] fun t =>
      t.cal = { s.cal with dT := byteAt a 0, maxRuns := byteAt a 1, period := fieldLE a 2 4 }) ∧
  (∀ (s : State) (k : Sess) (a : Bytes) (p : Phys), s.holds k 0x0B03 a → (byteAt a 0 = p.val ∧
      (s.ln p).selftest = false) ∨ (byteAt a 0 = 255 ∧ ∀ q : Phys, (s.ln q).selftest = false) →
      Answers (.calPinLane k) s k 0x0B03 .ok 0 [] fun t => (t.ln p).pinned = decide (byteAt a 1 = 1) ∧ (byteAt a 1 = 1 →
      t.cal.queue.any (fun x => decide (x.lane = p) && !x.command) = false)) ∧
  (∀ (s : State) (k : Sess) (a : Bytes) (w : Work), s.holds k 0x0B04 a → (byteAt a 0 = w.val ∧ ∀ p ∈ s.physOf w,
      (s.ln p).selftest = false) ∨ (byteAt a 0 = 255 ∧ ∀ q : Phys, (s.ln q).selftest = false) →
      Answers (.calSetFloor k) s k 0x0B04 .ok 0 [] fun t => (t.wk w).floor = byteAt a 1) ∧
  (∀ (s : State) (k : Sess) (a : Bytes), s.holds k 0x0B05 a → ((physAll.drop (byteAt a 0)).take 125).any (fun p => (s.ln
      p).selftest) = false → Answers (.calGetStatus k) s k 0x0B05 .ok 0 (page [] 8 (byteAt a 0) (physAll.map s.calEntry))
      fun t => t.cal = s.cal) ∧
  (∀ (s : State) (k : Sess) (a : Bytes), s.holds k 0x0B05 a → ((physAll.drop (byteAt a 0)).take 125).any (fun p => (s.ln
      p).selftest) = true → Answers (.calGetStatus k) s k 0x0B05 .stale s.testRemaining (page [] 8 (byteAt a 0)
      (physAll.map s.calEntry)) fun t => t.cal = s.cal) ∧
  (∀ (s : State) (k : Sess) (a : Bytes), s.holds k 0x0B06 a → Answers (.calPlanNow k) s k 0x0B06 .ok 0 (leBytes 4
      (s.age.planNum + 1)) fun t => t.age.asked = true) ∧
  (∀ (s : State) (k : Sess) (a : Bytes) (r : PlanRecord), s.holds k 0x0B07 a → fieldLE a 0 4 ≠ 0xFFFFFFFF ∧
      s.age.ring.find? (fun x => decide (x.number = fieldLE a 0 4)) = some r → Answers (.calGetAgeing k) s k 0x0B07 .ok 0
      (pageN (r.bytes.take 64) 16 (byteAt a 4) 58 ((List.range 136).map fun j => (r.bytes.drop (64 + 16 * j)).take 16))
      fun t => t.age = s.age) ∧
  (∀ (s : State) (k : Sess) (a : Bytes) (r : PlanRecord), s.holds k 0x0B07 a → fieldLE a 0 4 = 0xFFFFFFFF ∧
      s.age.ring.head? = some r → Answers (.calGetAgeing k) s k 0x0B07 .ok 0 (pageN (r.bytes.take 64) 16 (byteAt a 4) 58
      ((List.range 136).map fun j => (r.bytes.drop (64 + 16 * j)).take 16)) fun t => t.age = s.age) ∧
  (∀ (s : State) (k : Sess) (a : Bytes), s.holds k 0x0B07 a → (fieldLE a 0 4 = 0xFFFFFFFF ∧ s.age.ring = []) ∨ (fieldLE a
      0 4 ≠ 0xFFFFFFFF ∧ s.age.ring.find? (fun x => decide (x.number = fieldLE a 0 4)) = none) →
      Answers (.calGetAgeing k) s k 0x0B07 .badState 0 [] fun t => t.age = s.age) ∧
  (∀ (s : State) (k : Sess) (a : Bytes) (p : Phys), s.holds k 0x0B08 a → (byteAt a 0 = p.val ∧
      (s.ln p).selftest = false) ∨ (byteAt a 0 = 255 ∧ ∀ q : Phys, (s.ln q).selftest = false) →
      Answers (.calSetEstimator k) s k 0x0B08 .ok 0 [] fun t => (t.rxl p).nExp = byteAt a 1 ∧ (t.rxl p).gO = byteAt a 2 ∧
      (t.rxl p).gG = byteAt a 3 ∧ (t.rxl p).gS = byteAt a 4 ∧ (t.rxl p).gB = byteAt a 5)

/-- Sensors, power, throttling, trip and recovery carry out their effect. A conversion error fails a sensor. A sample that
agrees with its models keeps a healthy sensor healthy and is used as read; one that disagrees makes it suspect and the
larger of the sample and the mean of the models is used. Power is kept and averaged over ten samples. A tick below the
threshold and within the limit clears CRITICAL and releases a step below the hysteresis; at the threshold it takes a step
when the new limit is met; without a lane to throttle it refuses the step, counted, CRITICAL set; while tripped it does
nothing. A first qualifying sample starts a sensor's run without a trip; the second trips, in recovery too, counted, and
outside recovery steps and modes unchanged, receive paths off. Recovery starts when the device has been cool long enough
in AUTO, freeing the outputs; its end clears the trip and puts receive paths in the state of their mode. The PLL trim
moves one code toward its target; it holds while an AVSBus request is open. Each of these forms completes with a next
state in every state that meets its conditions: sensorSample, powerMeasurement, throttleTick, tripSample,
tripRecoverTimer, tripRecoveryPowerUp, pllTrimStep (R267, R268, R269, R272, R273, R275, R276, R277, R278, R279, R280,
R281). -/
def Obligations.TemperatureAndThrottle : Prop :=
  (∀ (s : State) (xs : List (Option Int)) (j : Sensor), xs.getD j.val none = none → Leads (.sensorSample xs) s fun t =>
      (t.sensor j).state = .failed) ∧
  (∀ (s : State) (xs : List (Option Int)) (j : Sensor) (v : Int), xs.getD j.val none = some v ∧ -320 ≤ v ∧ v ≤ 1200 ∧
      (s.sensor j).state = .healthy ∧ disagrees ((s.therm.judgeTo xs j.val).models j.val) v = false →
      Leads (.sensorSample xs) s fun t => (t.sensor j).state = .healthy ∧ (t.sensor j).reading = v ∧
      (t.sensor j).used = v) ∧
  (∀ (s : State) (xs : List (Option Int)) (j : Sensor) (v : Int), xs.getD j.val none = some v ∧ -320 ≤ v ∧ v ≤ 1200 ∧
      (s.sensor j).state = .healthy ∧ disagrees ((s.therm.judgeTo xs j.val).models j.val) v = true →
      Leads (.sensorSample xs) s fun t => (t.sensor j).state = .suspect ∧ (t.sensor j).disagree = 1 ∧
      (t.sensor j).used = max v ((meanOf ((s.therm.judgeTo xs j.val).models j.val)).getD v)) ∧
  (∀ (s : State) (rails outs : List (Nat × Nat)) (v : Nat), Leads (.powerMeasurement rails v outs) s fun t =>
      t.therm.power = (powerSample rails v outs :: s.therm.power).take 10 ∧ t.therm.pDev = (roundDiv ((powerSample rails
      v outs :: s.therm.power).take 10).sum ((powerSample rails v outs :: s.therm.power).take 10).length).toNat) ∧
  (∀ (s : State) (errs : List LaneError), s.tripped = false ∧ s.therm.hotValue < s.therm.params.threshold ∧
      s.therm.pDev ≤ s.therm.pEff s.therm.steps → Leads (.throttleTick errs) s fun t => t.therm.critical = false ∧
      t.therm.steps = if s.therm.hotValue ≤ s.therm.params.threshold - s.therm.params.hyst then s.therm.steps - 1 else
      s.therm.steps) ∧
  (∀ (s : State) (errs : List LaneError), s.tripped = false ∧ s.therm.params.threshold ≤ s.therm.hotValue ∧
      s.therm.pDev ≤ s.therm.pEff (s.therm.steps + 1) ∧ 0 < s.therm.params.hyst → Leads (.throttleTick errs) s fun t =>
      t.therm.steps = satW 8 (s.therm.steps + 1) ∧ t.therm.critical = false) ∧
  (∀ (s : State) (errs : List LaneError), s.tripped = false ∧ s.sec.test = none ∧
      s.therm.params.threshold ≤ s.therm.hotValue ∧ s.therm.pEff (s.therm.steps + 1) < s.therm.pDev ∧
      0 < s.therm.params.hyst → (∀ r ∈ [1, 2, 3, 4], (s.rungLanes errs r).2 = []) → Leads (.throttleTick errs) s fun t =>
      t.therm.steps = s.therm.steps ∧ t.therm.critical = true ∧ t.therm.refused = satW 16 (s.therm.refused + 1)) ∧
  (∀ (s : State) (errs : List LaneError), s.tripped = true → Leads (.throttleTick errs) s fun t => t = s) ∧
  (∀ (s : State), (∀ j : Sensor, (s.sensor j).qualifies = true → (s.sensor j).tripRun = 0) → Leads .tripSample s fun t =>
      t.therm.trip = s.therm.trip ∧ ∀ j : Sensor, (t.sensor j).tripRun = if (s.sensor j).qualifies then 1 else 0) ∧
  (∀ (s : State) (j : Sensor) (p : Phys), (s.sensor j).qualifies = true ∧ 1 ≤ (s.sensor j).tripRun ∧ s.tripped = false →
      Leads .tripSample s fun t => t.therm.trip = .tripped ∧ t.therm.trips = satW 16 (s.therm.trips + 1) ∧
      t.therm.steps = s.therm.steps ∧ (t.rxl p).state = .off ∧ t.modeOf p = s.modeOf p) ∧
  (∀ (s : State) (j : Sensor), (s.sensor j).qualifies = true ∧ 1 ≤ (s.sensor j).tripRun ∧ s.therm.trip = .recovering →
      Leads .tripSample s fun t => t.therm.trip = .tripped ∧ t.therm.trips = satW 16 (s.therm.trips + 1)) ∧
  (∀ (s : State) (o : Bias), s.therm.trip = .tripped ∧ s.therm.params.command = false ∧ s.coolEnough = true →
      Leads .tripRecoverTimer s fun t => t.therm.trip = .recovering ∧ (t.bias o).safe = none) ∧
  (∀ (s : State) (p : Phys), s.therm.trip = .recovering → Leads .tripRecoveryPowerUp s fun t => t.therm.trip = .none ∧
      (t.rxl p).state = if continuousMode (s.modeOf p) then .signalWait else if burstMode (s.modeOf p) then .burst else
      .off) ∧
  (∀ (s : State) (d : Int), s.sys.avs.openReq = none ∧ s.therm.trimPll.due = some d → Leads .pllTrimStep s fun t =>
      t.therm.trimPll.code = (if s.therm.trimPll.code < d then s.therm.trimPll.code + 1 else if d < s.therm.trimPll.code
      then s.therm.trimPll.code - 1 else d) ∧ t.therm.trimPll.due = if t.therm.trimPll.code = d then none else some d) ∧
  (∀ (s : State), s.sys.avs.openReq.isSome → Leads .pllTrimStep s fun t => t = s)

/-- The THERM commands carry out their effect. THERM.GET_STATUS answers the record. THERM.SET_LIMITS writes all limits
when THRESHOLD lies in the grade's range and is otherwise refused BAD_ARG naming the field, nothing written.
THERM.RESTORE_SENSOR makes a failed sensor whose last 16 samples agree healthy and uses its reading, and is otherwise
refused BAD_STATE. THERM.CLEAR_TRIP starts recovery, freeing the outputs, when the recovery condition has held long enough
while tripped, and is otherwise refused BAD_STATE, outputs unchanged. Each of these forms completes with a next state in
every state that meets its conditions: thermGetStatus, thermSetLimits, thermRestoreSensor, thermClearTrip (R268, R270,
R271, R280). -/
def Obligations.ThermCommands : Prop :=
  (∀ (s : State) (k : Sess) (a : Bytes), s.holds k 0x0C01 a → Answers (.thermGetStatus k) s k 0x0C01 .ok 0 s.thermRecord
      fun t => t.therm = s.therm) ∧
  (∀ (s : State) (k : Sess) (a : Bytes), s.holds k 0x0C02 a → 480 ≤ toSigned 16 (fieldLE a 2 2) ∧
      toSigned 16 (fieldLE a 2 2) ≤ (if s.sec.made.gradeFx then (840 : Int) else 760) → Answers (.thermSetLimits k) s k
      0x0C02 .ok 0 [] fun t => t.therm =
      { s.therm with params := { pLim := fieldLE a 0 2, threshold := toSigned 16 (fieldLE a 2 2), hyst := byteAt a 4,
                                 command := decide (byteAt a 5 = 1), recoverHyst := byteAt a 6 } }) ∧
  (∀ (s : State) (k : Sess) (a : Bytes), s.holds k 0x0C02 a → toSigned 16 (fieldLE a 2 2) < 480 ∨ (if s.sec.made.gradeFx
      then (840 : Int) else 760) < toSigned 16 (fieldLE a 2 2) → Answers (.thermSetLimits k) s k 0x0C02 .badArg 18 [] fun
      t => t.therm = s.therm) ∧
  (∀ (s : State) (k : Sess) (a : Bytes) (j : Sensor), s.holds k 0x0C03 a → byteAt a 0 = j.val ∧
      (s.sensor j).state = .failed ∧ 16 ≤ (s.sensor j).agreeRun → Answers (.thermRestoreSensor k) s k 0x0C03 .ok 0 [] fun
      t => (t.sensor j).state = .healthy ∧ (t.sensor j).used = (s.sensor j).reading) ∧
  (∀ (s : State) (k : Sess) (a : Bytes) (j : Sensor), s.holds k 0x0C03 a → byteAt a 0 = j.val ∧
      ((s.sensor j).state ≠ .failed ∨ (s.sensor j).agreeRun < 16) → Answers (.thermRestoreSensor k) s k 0x0C03 .badState
      0 [] fun t => t.therm = s.therm) ∧
  (∀ (s : State) (k : Sess) (a : Bytes) (o : Bias), s.holds k 0x0C04 a → s.therm.trip = .tripped ∧ s.coolEnough = true →
      Answers (.thermClearTrip k) s k 0x0C04 .ok 0 [] fun t => t.therm.trip = .recovering ∧ (t.bias o).safe = none) ∧
  (∀ (s : State) (k : Sess) (a : Bytes), s.holds k 0x0C04 a → s.therm.trip ≠ .tripped ∨ s.coolEnough = false →
      Answers (.thermClearTrip k) s k 0x0C04 .badState 0 [] fun t => t.therm = s.therm ∧ t.photon.bias = s.photon.bias)

/-- Power-on reset and the clock events carry out their effect. PORST_N resets lanes, receive paths, working lanes,
photonics, groups, galleries and control, and keeps flash, OTP and manufacture values. At its release the straps are
sampled and the reference states taken. The root PLL's lock starts DEVICE_TIME at 0 with every array empty; at a wake it
waits for a tick, DEVICE_TIME kept. The timebase PLL locks with a valid reference. Loss of root lock with a valid
reference is an internal power-on reset, straps and OTP kept. Loss of the selected reference starts holdover, the root PLL
still locked; loss of the other one changes nothing of it; a valid selected reference ends holdover. The AON clock
switches between reference and fallback. An AON tick counts, notes DEVICE_TIME and adds to the residencies; the tick a
wake waits for gives DEVICE_TIME from the ticks counted. A crossing timeout answers TIMEOUT to its command. Each of these
forms completes with a next state in every state that meets its conditions: porstNAssert, porstNRelease, rootPllLock,
timebaseLock, pllLockLoss, refLoss, refValid, aonFallbackSwitch, aonTick, crossingTimeout (R10, R292, R294, R295, R296,
R299, R300, R303, R306, R325, R333). -/
def Obligations.PowerOnAndClocks : Prop :=
  (∀ (s : State), Leads .porstNAssert s fun t => t.sys.clk.phase = .inReset ∧ t.sys.pins.porstLow = true ∧
      t.sec.otp = s.sec.otp ∧ t.sec.flash = s.sec.flash ∧ t.sec.made = s.sec.made ∧ t.lane = State.reset.lane ∧
      t.rx = State.reset.rx ∧ t.work = State.reset.work ∧ t.photon = State.reset.photon ∧ t.group = State.reset.group ∧
      t.gallery = State.reset.gallery ∧ t.ctl = State.reset.ctl) ∧
  (∀ (s : State) (straps : BitVec 4) (ref fab : Bool), s.sys.clk.phase = .inReset → Leads (.porstNRelease straps ref fab)
      s fun t => t.sys.clk.phase = .waitLock ∧ t.sys.clk.straps = straps ∧ t.sys.clk.refclkOk = ref ∧
      t.sys.clk.fabclkOk = fab ∧ t.sys.pins.porstLow = false) ∧
  (∀ (s : State) (a : Arr), s.sys.clk.rootLock = false ∧ s.refOk = true ∧ s.sys.clk.phase = .waitLock →
      Leads .rootPllLock s fun t => t.sys.clk.phase = .locked ∧ t.sys.clk.rootLock = true ∧ t.sys.clk.counting = true ∧
      t.now = 0 ∧ (t.arrOf a).words = []) ∧
  (∀ (s : State) (src : Nat), s.sys.clk.rootLock = false ∧ s.refOk = true ∧ s.sys.clk.phase ≠ .waitLock ∧
      s.sys.power.dormantPhase = .waking src ∧ s.sys.clk.timebaseLock = true ∧ s.sys.avs.openReq = none →
      Leads .rootPllLock s fun t => t.sys.clk.rootLock = true ∧ t.sys.clk.waitTick = true ∧ t.now = s.now) ∧
  (∀ (s : State), s.sys.clk.phase ≠ .inReset ∧ s.refOk = true ∧ s.sys.power.dormantPhase ≠ .dormant →
      Leads .timebaseLock s fun t => t.sys.clk.timebaseLock = true) ∧
  (∀ (s : State), s.sys.clk.rootLock = true ∧ s.refOk = true → Leads .pllLockLoss s fun t => t.sys.clk.intPor = true ∧
      t.sys.clk.phase = .waitLock ∧ t.sys.clk.straps = s.sys.clk.straps ∧ t.sys.clk.rootLock = false ∧
      t.sec.otp = s.sec.otp ∧ t.lane = State.reset.lane ∧ t.ctl = State.reset.ctl) ∧
  (∀ (s : State) (fab : Bool), s.refOk = true ∧ s.selected fab = true ∧ s.sys.clk.rootLock = true ∧
      s.sys.clk.phase ≠ .inReset → Leads (.refLoss fab) s fun t => t.sys.clk.holdover = true ∧ t.sys.clk.refLost = true ∧
      t.refOk = false ∧ t.sys.clk.rootLock = true) ∧
  (∀ (s : State) (fab : Bool), s.selected fab = false → Leads (.refLoss fab) s fun t => t.sys.clk.holdover =
      s.sys.clk.holdover ∧ t.sys.clk.refLost = s.sys.clk.refLost ∧ t.refOk = s.refOk) ∧
  (∀ (s : State) (fab : Bool), s.selected fab = true ∧ s.sys.clk.holdover = true → Leads (.refValid fab) s fun t =>
      t.sys.clk.holdover = false ∧ t.refOk = true) ∧
  (∀ (s : State), s.sys.clk.phase ≠ .inReset ∧ s.sys.clk.aonFallback = s.sys.clk.refclkOk →
      Leads .aonFallbackSwitch s fun t => t.sys.clk.aonFallback = !s.sys.clk.refclkOk) ∧
  (∀ (s : State) (p : Phys) (g : Group), s.sys.clk.phase ≠ .inReset ∧ s.sys.clk.waitTick = false ∧
      s.sys.clk.counting = true → Leads .aonTick s fun t => t.sys.clk.aonTicks = s.sys.clk.aonTicks + 1 ∧
      t.sys.clk.tickTime = s.now ∧ t.sys.clk.tickNum = s.sys.clk.aonTicks + 1 ∧ t.now = s.now ∧
      (t.ln p).res = (s.ln p).res.tick (s.ln p).power.code ∧ (t.grp g).res = (s.grp g).res.tick (s.grp g).power.code ∧
      t.sys.power.res = s.sys.power.res.tick s.sys.power.dev.code) ∧
  (∀ (s : State), s.sys.clk.phase ≠ .inReset ∧ s.sys.clk.waitTick = true → Leads .aonTick s fun t =>
      t.now = s.sys.clk.tickTime + (s.sys.clk.aonTicks + 1 - s.sys.clk.tickNum).setWidth 64 * BitVec.ofNat 64 s.tickRatio
      ∧ t.sys.clk.counting = true ∧ t.sys.clk.waitTick = false) ∧
  (∀ (s : State) (domain : Nat) (k : Sess) (c : Accepted), (s.sess k).cmd = some c ∧ (s.sess k).closePending = false →
      Leads (.crossingTimeout domain (some k)) s fun t => t.answered k c.code .timeout 0 [])

/-- Watchdogs, heartbeat, lane and device power states and AVSBus carry out their effect. An expired core restarts, or
retires at the third expiry in the window, counted, also while it restarts from an expiry; a core restarting by command,
retired or in reset absorbs an expiry. A restarted core rejoins its pool as active, or its pair as standby beside an
active partner. HBEAT toggles where a housekeeping engine served it, and not while tripped or DORMANT. A lane enters IDLE
and leaves it, its mode kept; a silent SLOTTED lane in IDLE enters DOZE and leaves it. QUIET is entered when no lane,
group or calibration is active. A written slot puts a saving lane or group OFF, valid, counted for a lane, answered for a
group, and marks the device's slot valid and counted; the exit from OFF uses up the slot. An accepted AVSBus request
settles, a plan's becoming the run set-point; a refused one ends with the voltage unchanged and AVS_FAIL; a missed answer
is repeated once, then given up; a settled one is the voltage, and the queued request opens. POWER.SET_TIMERS writes the
timers of lanes, groups or the device; POWER.GET_RESIDENCY answers a lane's (STALE under test), a group's or the device's.
Each of these forms completes with a next state in every state that meets its conditions: watchdogExpiry, coreRejoin,
hbeatToggle, laneIdleTimerExpiry, laneIdleExit, laneDozeTimerExpiry, laneDozeExitDone, quietTimerExpiry, saveSlotWritten,
laneOffExitDone, avsAck, avsAckTimeout, avsSettleExpiry, powerSetTimers, powerGetResidency (R14, R310, R311, R313, R314,
R315, R316, R317, R318, R319, R323, R325). -/
def Obligations.WatchdogsAndPowerStates : Prop :=
  (∀ (s : State) (c : Core), ((s.coreOf c).state ≠ .retired ∧ ((s.coreOf c).state = .restarting →
      (s.coreOf c).commanded = false) ∧ s.inReset c = false) → Leads (.watchdogExpiry c) s fun t => (t.coreOf c).state =
      (if 2 ≤ (s.recentExpiries c).length then .retired else .restarting) ∧ (t.coreOf c).resets = (s.coreOf c).resets + 1
      ∧ (t.coreOf c).expiries = s.now :: s.recentExpiries c) ∧
  (∀ (s : State) (c : Core), ((s.coreOf c).state = .restarting ∧ (s.coreOf c).commanded = true) ∨ (s.coreOf c).state =
      .retired ∨ s.inReset c = true → Leads (.watchdogExpiry c) s fun t => t = s) ∧
  (∀ (s : State) (c : Core) (d : Nat × Nat), (s.coreOf c).state = .restarting ∧ c.val < 186 →
      Leads (.coreRejoin c d) s fun t => (t.coreOf c).state = .active) ∧
  (∀ (s : State) (c : Core) (d : Nat × Nat), (s.coreOf c).state = .restarting ∧ 186 ≤ c.val →
      Leads (.coreRejoin c d) s fun t => (t.coreOf c).state = if (s.coreOf (corePartner c)).state = .active then .standby
      else .active) ∧
  (∀ (s : State), s.sys.power.dev ≠ .dormant ∧ s.tripped = false ∧ (s.sys.clk.phase = .running ∨ s.sys.clk.phase =
      .noCount) → Leads (.hbeatToggle true) s fun t => t.sys.pins.hbeat = !s.sys.pins.hbeat) ∧
  (∀ (s : State) (served : Bool), s.tripped = true ∨ s.sys.power.dev = .dormant ∨ served = false →
      Leads (.hbeatToggle served) s fun t => t = s) ∧
  (∀ (s : State) (p : Phys) (near : Bool), s.mayIdle p near = true → Leads (.laneIdleTimerExpiry p near) s fun t =>
      (t.ln p).power = .idle ∧ t.modeOf p = s.modeOf p) ∧
  (∀ (s : State) (p : Phys), (s.ln p).power = .idle → Leads (.laneIdleExit p) s fun t => (t.ln p).power = .active) ∧
  (∀ (s : State) (p : Phys) (w : Work), s.workOf p = some w ∧ s.modeOf p = .slotted ∧ (s.ln p).power = .idle ∧
      (s.ln p).dozeTimer ≠ 0 ∧ (s.wk w).tx.active.silent = true → Leads (.laneDozeTimerExpiry p) s fun t =>
      (t.ln p).power = .doze) ∧
  (∀ (s : State) (p : Phys), (s.ln p).dozeExit = true ∧ (s.ln p).power = .doze → Leads (.laneDozeExitDone p) s fun t =>
      (t.ln p).power = .active ∧ (t.ln p).dozeExit = false) ∧
  (∀ (s : State), s.sys.power.dev = .run ∧ s.sys.power.quietTimer ≠ 0 ∧ s.sec.test = none → (∀ p : Phys,
      ((s.ln p).power = .doze ∨ (s.ln p).power = .off) ∧ (s.cal.lane[p.val]).state ≠ .running) → (∀ g : Group,
      (s.grp g).power ≠ .active) → Leads .quietTimerExpiry s fun t => t.sys.power.dev = .quiet) ∧
  (∀ (s : State) (p : Phys), (s.ln p).saving = true ∧ s.modeOf p = .dark ∧ (s.rxl p).state = .off →
      Leads (.saveSlotWritten 0 p.val) s fun t => (t.ln p).power = .off ∧ (t.ln p).saving = false ∧
      (t.ln p).slotValid = true ∧ (t.ln p).saveCount = (s.ln p).saveCount + 1) ∧
  (∀ (s : State) (g : Group) (k : Sess), (s.grp g).saving = true ∧ (s.grp g).powerSess = some k ∧ s.waits k 0x0708 ∧
      (s.sess k).closePending = false → Leads (.saveSlotWritten 1 g.val) s fun t => (t.grp g).power = .off ∧
      (t.grp g).saving = false ∧ (t.grp g).slotValid = true ∧ t.answered k 0x0708 .ok 0 []) ∧
  (∀ (s : State), s.sys.power.dormantPhase = .saving → Leads (.saveSlotWritten 2 0) s fun t => t.sys.power.slotValid =
      true ∧ t.sys.power.saveCount = s.sys.power.saveCount + 1) ∧
  (∀ (s : State) (p : Phys), (s.ln p).waking = true → Leads (.laneOffExitDone p) s fun t => (t.ln p).power = .active ∧
      (t.ln p).waking = false ∧ (t.ln p).slotValid = false) ∧
  (∀ (s : State) (r : AvsReq), s.sys.avs.openReq = some r ∧ r.settling = false → Leads (.avsAck false) s fun t =>
      t.sys.avs.openReq = some { r with settling := true } ∧ t.sys.avs.runSetpoint = if r.source = .plan then r.target
      else s.sys.avs.runSetpoint) ∧
  (∀ (s : State) (r : AvsReq), s.sys.avs.openReq = some r ∧ r.settling = false ∧ r.source = .plan →
      Leads (.avsAck true) s fun t => t.sys.avs.openReq = s.sys.avs.queued ∧ t.sys.avs.volts = s.sys.avs.volts ∧
      t.age.avsFail = true) ∧
  (∀ (s : State) (r : AvsReq), s.sys.avs.openReq = some r ∧ r.settling = false ∧ r.source ≠ .wake ∧ r.missed = 0 →
      Leads .avsAckTimeout s fun t => t.sys.avs.openReq = some { r with missed := 1 }) ∧
  (∀ (s : State) (r : AvsReq), s.sys.avs.openReq = some r ∧ r.settling = false ∧ r.source ≠ .wake ∧ r.missed ≠ 0 →
      Leads .avsAckTimeout s fun t => t.sys.avs.openReq = s.sys.avs.queued ∧ t.sys.avs.volts = s.sys.avs.volts) ∧
  (∀ (s : State) (r : AvsReq), s.sys.avs.openReq = some r ∧ r.settling = true → Leads .avsSettleExpiry s fun t =>
      t.sys.avs.volts = r.target ∧ t.sys.avs.openReq = s.sys.avs.queued ∧ t.sys.avs.queued = none) ∧
  (∀ (s : State) (k : Sess) (a : Bytes) (p : Phys), s.holds k 0x0D01 a → byteAt a 0 = 0 ∧ ((byteAt a 1 = p.val ∧
      (s.ln p).selftest = false) ∨ (byteAt a 1 = 255 ∧ ∀ q : Phys, (s.ln q).selftest = false)) →
      Answers (.powerSetTimers k) s k 0x0D01 .ok 0 [] fun t => (t.ln p).idleTimer = fieldLE a 4 4 ∧
      (t.ln p).dozeTimer = fieldLE a 8 4) ∧
  (∀ (s : State) (k : Sess) (a : Bytes) (g : Group), s.holds k 0x0D01 a → byteAt a 0 = 1 ∧ (byteAt a 1 = g.val ∨ byteAt a
      1 = 255) → Answers (.powerSetTimers k) s k 0x0D01 .ok 0 [] fun t => (t.grp g).idleTimer = fieldLE a 4 4) ∧
  (∀ (s : State) (k : Sess) (a : Bytes), s.holds k 0x0D01 a → 2 ≤ byteAt a 0 → Answers (.powerSetTimers k) s k 0x0D01 .ok
      0 [] fun t => t.sys.power.quietTimer = fieldLE a 4 4 ∧ t.sys.avs.dormantVcore = fieldLE a 12 2 ∧
      t.sys.avs.settle = fieldLE a 14 2) ∧
  (∀ (s : State) (k : Sess) (a : Bytes) (p : Phys), s.holds k 0x0D03 a → byteAt a 0 = 0 ∧ byteAt a 1 = p.val ∧
      (s.ln p).selftest = false → Answers (.powerGetResidency k) s k 0x0D03 .ok 0 (s.ln p).res.bytes fun t =>
      t.lane = s.lane) ∧
  (∀ (s : State) (k : Sess) (a : Bytes) (g : Group), s.holds k 0x0D03 a → byteAt a 0 = 1 ∧ byteAt a 1 = g.val ∧
      (s.grp g).selftest = false → Answers (.powerGetResidency k) s k 0x0D03 .ok 0 (s.grp g).res.bytes fun t =>
      (t.grp g).res = (s.grp g).res) ∧
  (∀ (s : State) (k : Sess) (a : Bytes) (p : Phys), s.holds k 0x0D03 a → byteAt a 0 = 0 ∧ byteAt a 1 = p.val ∧
      (s.ln p).selftest = true → Answers (.powerGetResidency k) s k 0x0D03 .stale s.testRemaining (s.ln p).res.bytes fun
      t => (t.ln p).res = (s.ln p).res) ∧
  (∀ (s : State) (k : Sess) (a : Bytes), s.holds k 0x0D03 a → 2 ≤ byteAt a 0 → Answers (.powerGetResidency k) s k 0x0D03
      .ok 0 s.sys.power.res.bytes fun t => t.sys.power = s.sys.power)

/-- Control reset and DORMANT carry out their effect. CTLRST_N clears sessions, the event queue and the interrupt pins and
keeps SYS_LOCK, lane modes and OTP; unpowered it only moves the pin. Its release restarts the firmware, and at the
restart's end the firmware serves, no event is held any more and a snapshot has been published with the next number.
POWER.ENTER_DORMANT starts saving when the device may enter, else BAD_STATE. The commit, with the slot written, stops the
clocks, DEVICE_TIME kept; DORMANT is reached when no AVSBus request is open. A wake source starts the wake, noting a
control reset and holding SCL for its sources; before the commit it abandons the entry, slot dropped, counted. A complete
wake is RUN with SCL released and the slot used up. DEV.CTL_RESET clears every session, keeps SYS_LOCK, and restarts the
firmware of a running image. The clock-stretch limit releases SCL and is noted. Each of these forms completes with a next
state in every state that meets its conditions: ctlrstNAssert, ctlrstNRelease, ctlResetDone, powerEnterDormant,
dormantCommit, dormantReached, wakeSource, wakeComplete, devCtlReset, clockStretchLimit (R307, R320, R321, R322, R324,
R389, Table 10-10, Table 12-5). -/
def Obligations.ControlResetAndDormant : Prop :=
  (∀ (s : State) (k : Sess), s.sys.pins.ctlrstLow = false ∧ s.ctlPowered = true → Leads .ctlrstNAssert s fun t =>
      t.sys.pins.ctlrstLow = true ∧ t.sess k = { } ∧ t.ctl.ev.queue = [] ∧ t.ctl.ev.intA = false ∧
      t.ctl.ev.intB = false ∧ t.sys.fwReady = false ∧ t.ctl.sysLock = s.ctl.sysLock ∧ t.modeOf 0 = s.modeOf 0 ∧
      t.sec.otp = s.sec.otp) ∧
  (∀ (s : State), s.ctlPowered = false → Leads .ctlrstNAssert s fun t => t = s.modPins fun p =>
      { p with ctlrstLow := true }) ∧
  (∀ (s : State) (d : Nat × Nat), s.sys.pins.ctlrstLow = true ∧ s.ctlPowered = true ∧ (s.sys.clk.phase = .running ∨
      s.sys.clk.phase = .noCount) → Leads (.ctlrstNRelease d) s fun t => t.sys.pins.ctlrstLow = false ∧
      t.sys.ctlRestart = true ∧ t.ctl.sess = s.ctl.sess) ∧
  (∀ (s : State), s.sys.ctlRestart = true ∧ s.sys.pins.ctlrstLow = false ∧ s.sys.power.dormantPhase = .none →
      Leads .ctlResetDone s fun t => t.sys.ctlRestart = false ∧ t.sys.fwReady = true ∧ t.ctl.ev.held = [] ∧
      t.ctl.snap.running = none ∧ t.ctl.snap.number = s.ctl.snap.number + 1) ∧
  (∀ (s : State) (k : Sess) (a : Bytes), s.holds k 0x0D02 a → s.mayDormant = true → Answers (.powerEnterDormant k) s k
      0x0D02 .ok 0 [] fun t => t.sys.power.dormantPhase = .saving) ∧
  (∀ (s : State) (k : Sess) (a : Bytes), s.holds k 0x0D02 a → s.mayDormant = false → Answers (.powerEnterDormant k) s k
      0x0D02 .badState 0 [] fun t => t.sys.power = s.sys.power) ∧
  (∀ (s : State), s.sys.power.dormantPhase = .saving ∧ s.sys.power.slotValid = true → Leads .dormantCommit s fun t =>
      t.sys.power.dev = .dormant ∧ t.sys.power.dormantPhase = .committed ∧ t.sys.clk.rootLock = false ∧
      t.sys.clk.counting = false ∧ t.now = s.now) ∧
  (∀ (s : State), s.sys.power.dormantPhase = .committed ∧ s.sys.avs.openReq = none → Leads .dormantReached s fun t =>
      t.sys.power.dormantPhase = .dormant ∧ t.sys.clk.timebaseLock = false) ∧
  (∀ (s : State) (src : Fin 4), s.sys.power.dormantPhase = .dormant → Leads (.wakeSource src) s fun t =>
      t.sys.power.dormantPhase = .waking src.val ∧ t.sys.power.wakeCtlReset = decide (src = 3) ∧
      t.sys.pins.sclHeld = (s.sys.pins.sclHeld || decide (src = 0))) ∧
  (∀ (s : State) (src : Fin 4), s.sys.power.dormantPhase = .saving → Leads (.wakeSource src) s fun t =>
      t.sys.power.dormantPhase = .none ∧ t.sys.power.slotValid = false ∧
      t.sys.power.res.aborted = s.sys.power.res.aborted + 1) ∧
  (∀ (s : State) (d : Nat × Nat) (src : Nat), s.sys.power.dormantPhase = .waking src ∧ s.sys.clk.timebaseLock = true ∧
      s.sys.clk.rootLock = true ∧ s.sys.clk.waitTick = false ∧ s.sys.avs.openReq = none → Leads (.wakeComplete d) s fun t
      => t.sys.power.dormantPhase = .none ∧ t.sys.power.dev = .run ∧ t.sys.power.slotValid = false ∧
      t.sys.power.wakeCtlReset = false ∧ t.sys.pins.sclHeld = false) ∧
  (∀ (s : State) (k : Sess) (d : Nat × Nat) (a : Bytes) (j : Sess), s.holds k 0x0101 a → Leads (.devCtlReset k d) s fun t
      => t.sess j = { } ∧ t.ctl.sysLock = s.ctl.sysLock ∧ t.sys.pins.ctlrstLow = false ∧ t.sys.fwReady = false ∧
      t.sys.ctlRestart = decide (s.sys.clk.phase = .running ∨ s.sys.clk.phase = .noCount)) ∧
  (∀ (s : State), s.sys.pins.sclHeld = true → Leads .clockStretchLimit s fun t => t.sys.pins.sclHeld = false ∧
      t.ctl.bus.smbStatus = s.ctl.bus.smbStatus ||| 32)

/-- The DEV, EVENT and PERF commands and their events carry out their effect. DEV.RESET_CORE resets a core, retired at its
third expiry in the window, else restarting, and counts it; a reset in progress absorbs it; a core that serves the session
or is retired is refused BAD_STATE. DEV.SET_WATCHDOG writes the timeout of one core or of all; where one serves the
session it is refused BAD_STATE, with its index for all. DEV.PUBLISH_SNAPSHOT starts a collection with the next number and
waits; while one runs it answers BUSY; the end publishes the content and its number and answers the waiting command.
DEV.GET_CORES answers the states of all cores. EVENT.READ answers the head of the queue and, its session not notified,
leaves it; EVENT.ACK removes the head with the given QSEQ, and another QSEQ is refused BAD_STATE. PERF.LIST_SELECTORS and
PERF.SNAPSHOT answer their pages. PERF.CONFIGURE sets the selected counters of the selected cores, cleared, and leaves the
others. PERF.SET_SAMPLE writes a counter's period and keeps its count. PERF.READ_SAMPLES removes the samples it answers
and clears the record of overwritten ones. The overflow of a sampled counter adds its next period's start to what it has
counted since and stores a sample. Each of these forms completes with a next state in every state that meets its
conditions: devResetCore, devSetWatchdog, devPublishSnapshot, snapshotPublished, devGetCores, eventRead, eventAck,
perfListSelectors, perfSnapshot, perfConfigure, perfSetSample, perfReadSamples, perfCounterOverflow (R310, R374, R377,
R378, R379, R388, R389, R398, R399). -/
def Obligations.DeviceAndPerfCommands : Prop :=
  (∀ (s : State) (k : Sess) (a : Bytes) (c : Core), s.holds k 0x0102 a → (byteAt a 0 = c.val ∧ s.servesMe k c = false ∧
      (s.coreOf c).state ≠ .retired ∧ ((s.coreOf c).state = .restarting → (s.coreOf c).commanded = false) ∧
      s.inReset c = false) → Answers (.devResetCore k) s k 0x0102 .ok 0 [] fun t => (t.coreOf c).state = (if 2 ≤
      (s.recentExpiries c).length then .retired else .restarting) ∧ (t.coreOf c).resets = (s.coreOf c).resets + 1) ∧
  (∀ (s : State) (k : Sess) (a : Bytes) (c : Core), s.holds k 0x0102 a → byteAt a 0 = c.val ∧ s.servesMe k c = false ∧
      (s.coreOf c).state ≠ .retired ∧ (((s.coreOf c).state = .restarting ∧ (s.coreOf c).commanded = true) ∨ s.inReset c =
      true) → Answers (.devResetCore k) s k 0x0102 .ok 0 [] fun t => t.sys.core = s.sys.core) ∧
  (∀ (s : State) (k : Sess) (a : Bytes) (c : Core), s.holds k 0x0102 a → byteAt a 0 = c.val ∧
      (s.servesMe k c = true ∨ (s.coreOf c).state = .retired) → Answers (.devResetCore k) s k 0x0102 .badState 0 [] fun t
      => t.sys.core = s.sys.core) ∧
  (∀ (s : State) (k : Sess) (a : Bytes) (c : Core), s.holds k 0x0103 a → (byteAt a 0 = c.val ∧
      s.servesMe k c = false) ∨ (byteAt a 0 = 255 ∧ ∀ x : Core, s.servesMe k x = false) → Answers (.devSetWatchdog k) s k
      0x0103 .ok 0 [] fun t => (t.coreOf c).timeout = fieldLE a 4 4) ∧
  (∀ (s : State) (k : Sess) (a : Bytes) (c : Core), s.holds k 0x0103 a → (byteAt a 0 = c.val ∨ byteAt a 0 = 255) ∧
      s.servesMe k c = true → Answers (.devSetWatchdog k) s k 0x0103 .badState (if byteAt a 0 = 255 then c.val else 0) []
      fun t => t.sys.core = s.sys.core) ∧
  (∀ (s : State) (k : Sess) (a : Bytes), s.holds k 0x0104 a → s.ctl.snap.running = none → Starts (.devPublishSnapshot k)
      s k 0x0104 fun t => t.ctl.snap.running = some (true, some k) ∧ t.ctl.snap.number = s.ctl.snap.number + 1 ∧
      t.ctl.snap.seqBegin = BitVec.ofNat 32 (s.ctl.snap.number + 1) ∧ t.ctl.snap.start = s.now) ∧
  (∀ (s : State) (k : Sess) (a : Bytes), s.holds k 0x0104 a → s.ctl.snap.running.isSome → Answers (.devPublishSnapshot k)
      s k 0x0104 .busy 0 [] fun t => t.ctl.snap = s.ctl.snap) ∧
  (∀ (s : State) (k : Sess), s.ctl.snap.running = some (true, some k) ∧ s.waits k 0x0104 ∧
      (s.sess k).closePending = false → Leads .snapshotPublished s fun t => t.answered k 0x0104 .ok 0 (leBytes 4
      s.ctl.snap.number) ∧ t.ctl.snap.running = none ∧ t.ctl.snap.seqEnd = BitVec.ofNat 32 s.ctl.snap.number ∧
      t.ctl.snapSeq = BitVec.ofNat 8 s.ctl.snap.number ∧ t.ctl.snap.content = memOfBytes (s.snapshotBytes true)) ∧
  (∀ (s : State) (k : Sess) (a : Bytes), s.holds k 0x0105 a → Answers (.devGetCores k) s k 0x0105 .ok 0 (coreAll.flatMap
      fun c => leBytes 1 (packBits [(2, (s.coreOf c).state.code), (1, (s.coreOf c).covered.toNat)])) fun t =>
      t.sys.core = s.sys.core) ∧
  (∀ (s : State) (k : Sess) (a : Bytes), s.holds k 0x1301 a → Answers (.eventRead k) s k 0x1301 .ok 0 (leBytes 2
      (s.ctl.ev.queue.take (byteAt a 0)).length ++ leBytes 2 0xFFFF ++ (s.ctl.ev.queue.take (byteAt a 0)).flatMap
      (·.bytes)) fun t => (s.sess k).notify = false → t.ctl.ev.queue = s.ctl.ev.queue) ∧
  (∀ (s : State) (k : Sess) (a : Bytes) (x : EvEntry) (rest : List EvEntry), s.holds k 0x1302 a →
      s.ctl.ev.queue = x :: rest ∧ x.qseq = BitVec.ofNat 32 (fieldLE a 0 4) → Answers (.eventAck k) s k 0x1302 .ok 0 []
      fun t => ((s.sess k).notify = false → s.ctl.ev.lost = 0 → t.ctl.ev.queue = rest) ∧ t.ctl.ev.lastRemoved = x.qseq) ∧
  (∀ (s : State) (k : Sess) (a : Bytes), s.holds k 0x1302 a → (∀ x ∈ s.ctl.ev.queue.head?,
      x.qseq ≠ BitVec.ofNat 32 (fieldLE a 0 4)) → Answers (.eventAck k) s k 0x1302 .badState 0 [] fun t =>
      (s.sess k).notify = false → t.ctl.ev = s.ctl.ev) ∧
  (∀ (s : State) (k : Sess) (a : Bytes), s.holds k 0x1201 a → Answers (.perfListSelectors k) s k 0x1201 .ok 0 (page [] 16
      0 (((List.range 32).filter fun x => selectorListed (byteAt a 0) x).map fun x => leBytes 1 x ++ padTo 15
      (Config.selectorName (byteAt a 0) x))) fun t => t.ctl.perf = s.ctl.perf) ∧
  (∀ (s : State) (k : Sess) (a : Bytes), s.holds k 0x1202 a → Answers (.perfSnapshot k) s k 0x1202 .ok 0 (pageN [] 80
      (byteAt a 0) (byteAt a 1) (coreAll.map fun c => s.perfRecord k c)) fun t => t.ctl.perf = s.ctl.perf) ∧
  (∀ (s : State) (k : Sess) (a : Bytes) (c : Core) (j : Fin 6), s.holds k 0x1203 a → (byteAt a 0 = c.val ∨ byteAt a 0 =
      255) ∧ bitOf (byteAt a 1) j.val = true → Answers (.perfConfigure k) s k 0x1203 .ok 0 [] fun t =>
      ((t.perf c).pc[j.val]).sel = BitVec.ofNat 8 (byteAt a (4 + j.val)) ∧ ((t.perf c).pc[j.val]).level = bitOf (byteAt a
      2) j.val ∧ ((t.perf c).pc[j.val]).count = 0) ∧
  (∀ (s : State) (k : Sess) (a : Bytes) (c : Core) (j : Fin 6), s.holds k 0x1203 a → (byteAt a 0 < 192 ∧
      byteAt a 0 ≠ c.val) ∨ bitOf (byteAt a 1) j.val = false → Answers (.perfConfigure k) s k 0x1203 .ok 0 [] fun t =>
      (t.perf c).pc[j.val] = (s.perf c).pc[j.val]) ∧
  (∀ (s : State) (k : Sess) (a : Bytes) (c : Core) (j : Fin 6), s.holds k 0x1204 a → byteAt a 0 = c.val ∧
      byteAt a 1 = j.val → Answers (.perfSetSample k) s k 0x1204 .ok 0 [] fun t => ((t.perf c).pc[j.val]).period =
      fieldLE a 4 4 ∧ ((t.perf c).pc[j.val]).count = ((s.perf c).pc[j.val]).count) ∧
  (∀ (s : State) (k : Sess) (a : Bytes) (c : Core), s.holds k 0x1205 a → byteAt a 0 = c.val →
      Answers (.perfReadSamples k) s k 0x1205 .ok 0 (leBytes 2 ((s.perf c).ring.take (byteAt a 1)).length ++ leBytes 2
      (s.perf c).overwrites.toNat ++ ((s.perf c).ring.take (byteAt a 1)).flatMap (·.bytes)) fun t =>
      (t.perf c).ring = (s.perf c).ring.drop (byteAt a 1) ∧ (t.perf c).overwrites = 0) ∧
  (∀ (s : State) (c : Core) (j : Fin 6) (address : Word) (two : Bool), ((s.perf c).pc[j.val]).overflowed = true ∧
      ((s.perf c).pc[j.val]).period ≠ 0 ∧ s.coreGated c = false ∧ (s.perf c).ring.length < 64 →
      Leads (.perfCounterOverflow c j address two) s fun t => ((t.perf c).pc[j.val]).count = ((s.perf c).pc[j.val]).count
      + BitVec.ofNat 48 (2 ^ 48 - ((s.perf c).pc[j.val]).period) ∧ (t.perf c).ring = (s.perf c).ring ++
      [{ address := address, counter := j.val, count := if two then 2 else 1, time := s.now }])

/-- SRAM repair, poisoning, scrubbing and remapping, and the MEM commands, carry out their effect. A due repair is written
with new check bits. An uncorrectable word is poisoned and counted; in a core's memory it also resets the core, counted,
and a word of an instruction memory that the slot or a core of the same kind can supply is refilled. A scrub read, of a
word that a disturbance may have met, advances, notes the repair of a correctable word and counts it, notes the poisoning
of an uncorrectable one, and ends a lap at the last word with its time; the lap limit marks the lap slow, once in a lap. A
qualifying address is read, then written to a spare word in two idle cycles, and the command that asked is answered. A
remap is recorded in flash. MEM.GET_STATUS answers an array's record, or a page of all, and clears their counts of
corrections only when asked; an unknown array is refused BAD_ARG. MEM.SET_SCRUB writes a class's settings. MEM.REMAP
qualifies the address and waits; at a remapped address it answers at once, and with all eight spare words used it is
refused NO_RESOURCE. MEM.INJECT adds its bits to those waiting at the address. Each of these forms completes with a next
state in every state that meets its conditions: repairWrite, poisonWrite, scrubRead, scrubLapLimit, remapCopy,
remapRecord, memGetStatus, memSetScrub, memRemap, memInject (R333, R334, R335, R338, R438, R339, R340, R341, R342, R343,
R344, R345). -/
def Obligations.MemoryEventsAndCommands : Prop :=
  (∀ (s : State) (a : Arr) (addr : Nat) (d : Word) (rest : Tab Word), (s.arrOf a).repairs = (addr, d) :: rest ∧
      tabGet (s.arrOf a).inject addr = none → Leads (.repairWrite a) s fun t => tabGet (t.arrOf a).words addr = some
      { bits := encWord d } ∧ (t.arrOf a).repairs = rest) ∧
  (∀ (s : State) (a : Arr) (addr : Nat) (rest : List Nat) (w : SWord), (s.arrOf a).poisons = addr :: rest ∧
      tabGet (s.arrOf a).words addr = some w ∧ tabGet (s.arrOf a).inject addr = none ∧ arrCore a = none →
      Leads (.poisonWrite a) s fun t => tabGet (t.arrOf a).words addr = some { bits := poisonWord w.bits } ∧
      (t.arrOf a).poisons = rest ∧ (t.arrOf a).ueCount = satW 32 ((s.arrOf a).ueCount + 1)) ∧
  (∀ (s : State) (a : Arr) (c : Core) (addr : Nat) (rest : List Nat) (w : SWord), (s.arrOf a).poisons = addr :: rest ∧
      tabGet (s.arrOf a).words addr = some w ∧ arrCore a = some c ∧ (s.coreOf c).state ≠ .retired →
      Leads (.poisonWrite a) s fun t => (t.coreOf c).state = (if 3 ≤ (s.recentExpiries c).length then .retired else
      .restarting) ∧ (t.coreOf c).resets = (s.coreOf c).resets + 1) ∧
  (∀ (s : State) (c : Core) (addr : Nat) (rest : List Nat) (w : SWord) (d : Word), (s.arrOf (arrCoreI c)).poisons = addr
      :: rest ∧ tabGet (s.arrOf (arrCoreI c)).words addr = some w ∧ tabGet (s.arrOf (arrCoreI c)).inject addr = none →
      (s.coreOf c).state ≠ .retired ∧ s.sec.test = none ∧ s.refillWord c addr = some d → Leads (.poisonWrite (arrCoreI
      c)) s fun t => tabGet (t.arrOf (arrCoreI c)).words addr = some { bits := encWord d } ∧ (t.coreOf c).state ≠ .active) ∧
  (∀ (s : State) (a : Arr) (x : BitVec 42), s.arrGated a = false ∧ s.scrubOn a = true ∧ (s.arrOf a).scrubAddr + 1 <
      arrWords a → Leads (.scrubRead a x) s fun t => (t.arrOf a).scrubAddr = (s.arrOf a).scrubAddr + 1 ∧
      (t.arrOf a).laps = (s.arrOf a).laps) ∧
  (∀ (s : State) (a : Arr) (x : BitVec 42) (w : SWord) (d : BitVec 32), s.arrGated a = false ∧ s.scrubOn a = true ∧
      (s.arrOf a).scrubAddr + 1 < arrWords a ∧ ((s.arrOf a).wordAt (s.arrOf a).scrubAddr).flip x = w ∧ w.copies = 7 ∧
      classify w.bits = .correctable d → Leads (.scrubRead a x) s fun t => tabGet (t.arrOf a).repairs (s.arrOf
      a).scrubAddr = some d ∧ (t.arrOf a).ceCount = satW 32 ((s.arrOf a).ceCount + 1)) ∧
  (∀ (s : State) (a : Arr) (x : BitVec 42) (w : SWord), s.arrGated a = false ∧ s.scrubOn a = true ∧
      (s.arrOf a).scrubAddr + 1 < arrWords a ∧ ((s.arrOf a).wordAt (s.arrOf a).scrubAddr).flip x = w ∧ w.copies = 7 ∧
      classify w.bits = .uncorrectable → Leads (.scrubRead a x) s fun t => (s.arrOf a).scrubAddr ∈ (t.arrOf a).poisons ∧
      (t.arrOf a).repairs = (s.arrOf a).repairs) ∧
  (∀ (s : State) (a : Arr) (x : BitVec 42), s.arrGated a = false ∧ s.scrubOn a = true ∧
      arrWords a ≤ (s.arrOf a).scrubAddr + 1 → Leads (.scrubRead a x) s fun t => (t.arrOf a).scrubAddr = 0 ∧
      (t.arrOf a).laps = satW 32 ((s.arrOf a).laps + 1) ∧ (t.arrOf a).lastLap = satW 32 (s.usOf (s.since (s.arrOf
      a).lapStart))) ∧
  (∀ (s : State) (a : Arr), s.lapLate a = true ∧ (s.arrOf a).late = false → Leads (.scrubLapLimit a) s fun t =>
      (t.arrOf a).slow = true ∧ (t.arrOf a).late = true) ∧
  (∀ (s : State) (a : Arr) (addr : Nat) (rest : List Nat), (s.arrOf a).copying = none ∧ (s.arrOf a).qualified = addr ::
      rest ∧ (s.arrOf a).remaps.length < 8 → Leads (.remapCopy a) s fun t => (t.arrOf a).copying = some (addr,
      (s.arrOf a).wordAt addr)) ∧
  (∀ (s : State) (a : Arr) (addr : Nat) (w : SWord) (k : Sess) (c : Accepted), (s.arrOf a).copying = some (addr, w) ∧
      w.valid = true ∧ (s.arrOf a).remaps = [] ∧ tabGet (s.arrOf a).inject addr = none → (s.sess k).cmd = some c ∧
      c.code = 0x0E03 ∧ c.started = true ∧ fieldLE c.args 0 2 = arrId a ∧ fieldLE c.args 4 4 = addr ∧
      (s.sess k).closePending = false → Leads (.remapCopy a) s fun t => t.answered k 0x0E03 .ok 0 [] ∧
      (t.arrOf a).remaps = [{ addr := addr, retired := false }] ∧ tabGet (t.arrOf a).words addr = some
      { bits := (copiedWord w).bits } ∧ (t.arrOf a).copying = none ∧ (t.arrOf a).remapped addr = true) ∧
  (∀ (s : State) (a : Arr) (r : Remap), r ∈ (s.arrOf a).remaps ∧ r.retired = false ∧ arrCore a = none →
      Leads (.remapRecord a) s fun t => (arrId a, r.addr) ∈ t.sec.flash.remapLog) ∧
  (∀ (s : State) (k : Sess) (a : Bytes) (x : Arr), s.holds k 0x0E01 a → fieldLE a 0 2 ≠ 0xFFFF ∧
      arrOfId (fieldLE a 0 2) = some x ∧ s.arrTested x = false ∧ fieldLE a 2 2 = 0 → Answers (.memGetStatus k) s k 0x0E01
      .ok 0 (pageN [] 48 0 20 [s.arrRecord x]) fun t => (t.arrOf x).ceCount = (if bitOf (byteAt a 4) 0 then 0 else
      (s.arrOf x).ceCount) ∧ (t.arrOf x).words = (s.arrOf x).words) ∧
  (∀ (s : State) (k : Sess) (a : Bytes), s.holds k 0x0E01 a → fieldLE a 0 2 = 0xFFFF ∧
      (((List.finRange 692).drop (fieldLE a 2 2)).take 20).any s.arrTested = false → Answers (.memGetStatus k) s k 0x0E01
      .ok 0 (pageN [] 48 (fieldLE a 2 2) 20 ((List.finRange 692).map s.arrRecord)) fun t => ∀ x ∈ ((List.finRange
      692).drop (fieldLE a 2 2)).take 20, (t.arrOf x).ceCount = if bitOf (byteAt a 4) 0 then 0 else (s.arrOf x).ceCount) ∧
  (∀ (s : State) (k : Sess) (a : Bytes), s.holds k 0x0E01 a → fieldLE a 0 2 ≠ 0xFFFF ∧ arrOfId (fieldLE a 0 2) = none →
      Answers (.memGetStatus k) s k 0x0E01 .badArg 16 [] fun t => t.sys.mem = s.sys.mem) ∧
  (∀ (s : State) (k : Sess) (a : Bytes) (c : Fin 9), s.holds k 0x0E02 a → byteAt a 0 = c.val + 1 →
      Answers (.memSetScrub k) s k 0x0E02 .ok 0 [] fun t => t.sys.mem.scrub[c.val] = decide (byteAt a 1 = 1) ∧
      t.sys.mem.lapLimit[c.val] = fieldLE a 4 4) ∧
  (∀ (s : State) (k : Sess) (a : Bytes) (x : Arr), s.holds k 0x0E03 a → arrOfId (fieldLE a 0 2) = some x ∧
      fieldLE a 4 4 < arrWords x ∧ s.arrTested x = false ∧ (s.arrOf x).remapped (fieldLE a 4 4) = false ∧
      (s.arrOf x).remaps.length < 8 → Starts (.memRemap k) s k 0x0E03 fun t => fieldLE a 4 4 ∈ (t.arrOf x).qualified) ∧
  (∀ (s : State) (k : Sess) (a : Bytes) (x : Arr), s.holds k 0x0E03 a → arrOfId (fieldLE a 0 2) = some x ∧
      fieldLE a 4 4 < arrWords x ∧ s.arrTested x = false ∧ (s.arrOf x).remapped (fieldLE a 4 4) = true →
      Answers (.memRemap k) s k 0x0E03 .ok 0 [] fun t => t.sys.mem = s.sys.mem) ∧
  (∀ (s : State) (k : Sess) (a : Bytes) (x : Arr), s.holds k 0x0E03 a → arrOfId (fieldLE a 0 2) = some x ∧
      fieldLE a 4 4 < arrWords x ∧ s.arrTested x = false ∧ (s.arrOf x).remapped (fieldLE a 4 4) = false ∧
      8 ≤ (s.arrOf x).remaps.length → Answers (.memRemap k) s k 0x0E03 .noResource 0 [] fun t => t.sys.mem = s.sys.mem) ∧
  (∀ (s : State) (k : Sess) (a : Bytes) (x : Arr), s.holds k 0x0E04 a → arrOfId (fieldLE a 0 2) = some x ∧
      fieldLE a 4 4 < arrWords x ∧ s.arrTested x = false → Answers (.memInject k) s k 0x0E04 .ok 0 [] fun t =>
      tabGet (t.arrOf x).inject (fieldLE a 4 4) = some (((tabGet (s.arrOf x).inject (fieldLE a 4 4)).getD 0) ^^^
      injectMask (byteAt a 2) (byteAt a 3)))

/-- Quad-SPI and SMBus transactions carry out their effect. A one-word write, with its CRC or PEC right where it has one,
has the effect of the register write. A plain one-word read has the effect of the register read; a read with CRC and a
process call drive the register's word and its checksum, and a process call whose last data byte is not acknowledged
drives no checksum. An unknown opcode, a bad address of a write or of a plain read, a missing required CRC, with a word
cut short noted beside it, and a wrong CRC or PEC set their status bits and change neither the other bus registers nor a
session; a bad count of a read sets its bit and drives nothing new; a bus timeout sets its bit. A block write to another
target changes nothing. Each of these forms completes with a next state in every state that meets its conditions:
spiWrite, spiRead, spiWriteC, spiReadC, smbusBlockWrite, smbusProcessCall, smbusTimeout (R348, R349, R350, R351, R352,
R353, R354, R357, Table 12-5). -/
def Obligations.BusTransactions : Prop :=
  (∀ (s : State) (addr : BitVec 16) (data : Bytes), s.busOpen = true ∧ addrBad addr = false ∧ addr ≠ 0x060 ∧
      s.ctl.bus.crcReq = false ∧ data.length = 4 → Leads (.spiWrite 0x02 addr data) s fun u => exec (.registerWrite .spi
      addr (BitVec.ofNat 32 (fieldLE data 0 4))) s = .next u) ∧
  (∀ (s : State) (op : Byte) (addr : BitVec 16) (data : Bytes), s.busOpen = true ∧ op ≠ 0x02 ∧ op ≠ 0x03 ∧ op ≠ 0x12 ∧
      op ≠ 0x13 → Leads (.spiWrite op addr data) s fun t =>
      t.ctl.bus = { s.ctl.bus with spiStatus := s.ctl.bus.spiStatus ||| 4 } ∧ t.ctl.sess = s.ctl.sess ∧
      t.ctl.indSpi = s.ctl.indSpi) ∧
  (∀ (s : State) (addr : BitVec 16) (data : Bytes), s.busOpen = true ∧ addrBad addr = true →
      Leads (.spiWrite 0x02 addr data) s fun t => t.ctl.bus = { s.ctl.bus with spiStatus := s.ctl.bus.spiStatus ||| 8 } ∧
      t.ctl.sess = s.ctl.sess) ∧
  (∀ (s : State) (addr : BitVec 16) (data : Bytes), s.busOpen = true ∧ addrBad addr = false ∧ s.ctl.bus.crcReq = true →
      Leads (.spiWrite 0x02 addr data) s fun t =>
      t.ctl.bus = { s.ctl.bus with spiStatus := s.ctl.bus.spiStatus ||| (if data.length % 4 = 0 then 2 else 34) } ∧
      t.ctl.sess = s.ctl.sess) ∧
  (∀ (s : State) (addr : BitVec 16), s.busOpen = true ∧ addrBad addr = false ∧ addr ≠ 0x060 →
      Leads (.spiRead addr 4) s fun u => exec (.rcFieldRead .spi addr) s = .next u) ∧
  (∀ (s : State) (addr : BitVec 16) (n : Nat), s.busOpen = true ∧ addrBad addr = true → Leads (.spiRead addr n) s fun t
      => t.ctl.bus = { s.ctl.bus with spiStatus := s.ctl.bus.spiStatus ||| 8 } ∧ t.ctl.busOut = s.ctl.busOut) ∧
  (∀ (s : State) (addr : BitVec 16) (data : Bytes), s.busOpen = true ∧ addrBad addr = false ∧ addr ≠ 0x060 ∧
      data.length = 4 → Leads (.spiWriteC addr (data ++ [crc8 0xFF ([0x12] ++ beBytes 2 addr.toNat ++ data)])) s fun u =>
      exec (.registerWrite .spi addr (BitVec.ofNat 32 (fieldLE data 0 4))) s = .next u) ∧
  (∀ (s : State) (addr : BitVec 16) (data : Bytes) (b : Byte), s.busOpen = true ∧ addrBad addr = false ∧
      data.length = 4 ∧ b ≠ crc8 0xFF ([0x12] ++ beBytes 2 addr.toNat ++ data) → Leads (.spiWriteC addr (data ++ [b])) s
      fun t => t.ctl.bus = { s.ctl.bus with spiStatus := s.ctl.bus.spiStatus ||| 1 } ∧ t.ctl.sess = s.ctl.sess ∧
      t.ctl.sysLock = s.ctl.sysLock) ∧
  (∀ (s : State) (addr : BitVec 16), s.busOpen = true ∧ addrBad addr = false ∧ addr ≠ 0x060 →
      Leads (.spiReadC addr 1 5) s fun t => t.ctl.busOut = leBytes 4 (s.regWord .spi addr.toNat).toNat ++ [crc8 0xFF
      ([0x13] ++ beBytes 2 addr.toNat ++ [1] ++ leBytes 4 (s.regWord .spi addr.toNat).toNat)]) ∧
  (∀ (s : State) (addr : BitVec 16) (count : Byte) (n : Nat), s.busOpen = true ∧ addrBad addr = false ∧
      (count = 0 ∨ 64 < count.toNat) → Leads (.spiReadC addr count n) s fun t =>
      t.ctl.bus = { s.ctl.bus with spiStatus := s.ctl.bus.spiStatus ||| 16 } ∧ t.ctl.busOut = s.ctl.busOut) ∧
  (∀ (s : State) (target : BitVec 7) (addr : BitVec 16) (data : Bytes), s.busOpen = true ∧ target.toNat = s.smbAddr ∧
      addrBad addr = false ∧ addr ≠ 0x060 ∧ data.length = 4 → Leads (.smbusBlockWrite target 6 addr data (some (crc8 0
      ([smbByte target false, 0x01, 6] ++ leBytes 2 addr.toNat ++ data)))) s fun u => exec (.registerWrite .smb addr
      (BitVec.ofNat 32 (fieldLE data 0 4))) s = .next u) ∧
  (∀ (s : State) (target : BitVec 7) (addr : BitVec 16) (data : Bytes) (b : Byte), s.busOpen = true ∧
      target.toNat = s.smbAddr ∧ addrBad addr = false ∧ data.length = 4 ∧ b ≠ crc8 0 ([smbByte target false, 0x01,
      6] ++ leBytes 2 addr.toNat ++ data) → Leads (.smbusBlockWrite target 6 addr data (some b)) s fun t =>
      t.ctl.bus = { s.ctl.bus with smbStatus := s.ctl.bus.smbStatus ||| 1 } ∧ t.ctl.sess = s.ctl.sess ∧
      t.ctl.sysLock = s.ctl.sysLock) ∧
  (∀ (s : State) (target : BitVec 7) (count : Byte) (addr : BitVec 16) (data : Bytes) (pec : Option Byte),
      target.toNat ≠ s.smbAddr → Leads (.smbusBlockWrite target count addr data pec) s fun t => t = s) ∧
  (∀ (s : State) (target : BitVec 7) (addr : BitVec 16), s.busOpen = true ∧ target.toNat = s.smbAddr ∧
      addrBad addr = false ∧ addr ≠ 0x060 → Leads (.smbusProcessCall target 3 addr 1 5) s fun t => t.ctl.busOut = [4] ++
      leBytes 4 (s.regWord .smb addr.toNat).toNat ++ [crc8 0 ([smbByte target false, 0x02, 3] ++ leBytes 2 addr.toNat ++
      [1, smbByte target true] ++ [4] ++ leBytes 4 (s.regWord .smb addr.toNat).toNat)]) ∧
  (∀ (s : State) (target : BitVec 7) (addr : BitVec 16), s.busOpen = true ∧ target.toNat = s.smbAddr ∧
      addrBad addr = false ∧ addr ≠ 0x060 → Leads (.smbusProcessCall target 3 addr 1 4) s fun t => t.ctl.busOut = [4] ++
      leBytes 4 (s.regWord .smb addr.toNat).toNat) ∧
  (∀ (s : State), s.busOpen = true → Leads .smbusTimeout s fun t =>
      t.ctl.bus = { s.ctl.bus with smbStatus := s.ctl.bus.smbStatus ||| 16 })

/-- Direct registers and the indirect window carry out their effect. SYS_LOCK bits are set and never cleared by a write;
the CRC and PEC requirements, NO_INC of the window, and, unless locked, the event routes and enables take the word
written; a write to a read-only register changes nothing. Reading SPI_STATUS or CLOCK_STATUS answers the word and clears
it or its lost-reference bit. An address write sets its half of the address, drops the word held and starts a prefetch,
posted writes kept. A prefetch that arrives holds the target's word; one that fails holds 0 with its cause. IND_DATA read
takes the held word, advances and starts the next prefetch; without a word it answers 0 and sets EARLY. IND_DATA write
posts the word at the address and advances; at a full FIFO it is dropped, noted. A posted write is applied in order to the
command area; of a BUSY session the area is unchanged and the refusal is noted. Each of these forms completes with a next
state in every state that meets its conditions: registerWrite, rcFieldRead, indAddrWrite, indPrefetchDone, indDataRead,
indDataWrite, indWriteApply (R9, R357, R360, R361, R362, R363, R370, Table 12-5, Table 12-6, Table 12-7). -/
def Obligations.RegistersAndIndirectWindow : Prop :=
  (∀ (s : State) (f : Iface) (d : Word), s.busOpen = true → Leads (.registerWrite f 0x030 d) s fun t =>
      t.ctl.sysLock = s.ctl.sysLock ||| d.extractLsb' 0 7 ∧ t.ctl.sess = s.ctl.sess ∧ t.ctl.ev = s.ctl.ev) ∧
  (∀ (s : State) (f : Iface) (d : Word), s.busOpen = true → Leads (.registerWrite f 0x040 d) s fun t =>
      t.ctl.bus = { s.ctl.bus with crcReq := d.getLsbD 0 }) ∧
  (∀ (s : State) (f : Iface) (d : Word), s.busOpen = true → Leads (.registerWrite f 0x048 d) s fun t =>
      t.ctl.bus = { s.ctl.bus with pecReq := d.getLsbD 8 }) ∧
  (∀ (s : State) (f : Iface) (d : Word), s.busOpen = true → Leads (.registerWrite f 0x058 d) s fun t =>
      (t.window f).noInc = d.getLsbD 0 ∧ (t.window f).addr = (s.window f).addr) ∧
  (∀ (s : State) (f : Iface) (d : Word), s.busOpen = true → Leads (.registerWrite f 0x084 d) s fun t =>
      t.ctl.ev.route = if s.ctl.sysLock.getLsbD 6 then s.ctl.ev.route else s.ctl.ev.route.extractLsb' 32 8 ++ d) ∧
  (∀ (s : State) (f : Iface) (d : Word) (n : Fin 10), s.busOpen = true → Leads (.registerWrite f (0x0C0 + 4 *
      BitVec.ofNat 16 n.val) d) s fun t => t.ctl.ev.enable[n.val] = if s.ctl.sysLock.getLsbD 6 then
      s.ctl.ev.enable[n.val] else d &&& enableReset n.val) ∧
  (∀ (s : State) (f : Iface) (d : Word) (addr : BitVec 16), s.busOpen = true ∧ addr ∈ [0x000, 0x004, 0x008, 0x00C, 0x044,
      0x04C, 0x05C, 0x080, 0x120] → Leads (.registerWrite f addr d) s fun t => t = s) ∧
  (∀ (s : State) (f : Iface), s.busOpen = true → Leads (.rcFieldRead f 0x044) s fun t => t.ctl.busOut = leBytes 4
      (s.ctl.bus.spiStatus.setWidth 32).toNat ∧ t.ctl.bus = { s.ctl.bus with spiStatus := 0 }) ∧
  (∀ (s : State) (f : Iface), s.busOpen = true → Leads (.rcFieldRead f 0x008) s fun t => t.sys.clk.refLost = false ∧
      t.ctl.busOut = leBytes 4 (s.regWord f 0x008).toNat) ∧
  (∀ (s : State) (f : Iface) (high : Bool) (d : Word), s.busOpen = true → Leads (.indAddrWrite f high d) s fun t =>
      (t.window f).addr = (if high then d.extractLsb' 0 8 ++ (s.window f).addr.extractLsb' 0 32 else (s.window
      f).addr.extractLsb' 32 8 ++ d.extractLsb' 2 30 ++ 0#2) ∧ (t.window f).fetching = some (t.window f).addr ∧
      (t.window f).word = none ∧ (t.window f).fifo = (s.window f).fifo) ∧
  (∀ (s : State) (f : Iface) (a : BitVec 40), (s.window f).fetching = some a ∧ (s.window f).fifo = [] →
      Leads (.indPrefetchDone f .arrived) s fun t => (t.window f).word = some
      { addr := a, data := s.indWord (indTarget a), fault := .arrived } ∧ (t.window f).fetching = none) ∧
  (∀ (s : State) (f : Iface) (a : BitVec 40) (r : Prefetch), (s.window f).fetching = some a ∧ (s.window f).fifo = [] ∧
      r ≠ .arrived → Leads (.indPrefetchDone f r) s fun t => (t.window f).word = some
      { addr := a, data := 0, fault := r } ∧ (t.window f).fetching = none) ∧
  (∀ (s : State) (f : Iface) (x : FetchedWord), s.busOpen = true ∧ (s.window f).word = some x →
      Leads (.indDataRead f) s fun t => t.ctl.busOut = leBytes 4 x.data.toNat ∧ (t.window f).addr = (s.window f).advance
      ∧ (t.window f).word = none ∧ (t.window f).fetching = some (s.window f).advance) ∧
  (∀ (s : State) (f : Iface), s.busOpen = true ∧ (s.window f).word = none → Leads (.indDataRead f) s fun t =>
      t.ctl.busOut = [0, 0, 0, 0] ∧ t.window f = { s.window f with early := true }) ∧
  (∀ (s : State) (f : Iface) (d : Word), s.busOpen = true ∧ (s.window f).fifo.length < 16 → Leads (.indDataWrite f d) s
      fun t => (t.window f).fifo = (s.window f).fifo ++ [{ addr := (s.window f).addr, data := d }] ∧
      (t.window f).addr = (s.window f).advance ∧ (t.window f).dropped = (s.window f).dropped) ∧
  (∀ (s : State) (f : Iface) (d : Word), s.busOpen = true ∧ 16 ≤ (s.window f).fifo.length → Leads (.indDataWrite f d) s
      fun t => (t.window f).fifo = (s.window f).fifo ∧ (t.window f).dropped = true) ∧
  (∀ (s : State) (f : Iface) (x : PostedWrite) (rest : List PostedWrite) (k : Sess) (off : Nat),
      (s.window f).fifo = x :: rest ∧ indTarget x.addr = .command k off ∧ (s.sess k).phase ≠ .busy ∧
      (s.sess k).wf = true → Leads (.indWriteApply f) s fun t => memReads 0 (t.sess k).area off 4 = leBytes 4
      x.data.toNat ∧ (t.window f).fifo = rest) ∧
  (∀ (s : State) (f : Iface) (x : PostedWrite) (rest : List PostedWrite) (k : Sess) (off : Nat),
      (s.window f).fifo = x :: rest ∧ indTarget x.addr = .command k off ∧ (s.sess k).phase = .busy →
      Leads (.indWriteApply f) s fun t => (t.sess k).area = (s.sess k).area ∧ (t.sess k).areaBusy = true ∧
      (t.window f).locked = true ∧ (t.window f).fifo = rest)

/-- Sessions, doorbells and the event queue's acknowledgement carry out their effect. An open takes a free session with
the requested privilege, owner and notification, nothing staged; over SMBus under SMB_LOCK with OBSERVE; of a session not
free or with the reserved privilege it only writes the requested fields. A close frees an IDLE session and marks a BUSY
one to close at its end. A doorbell with a new sequence number takes a command that passes the checks, answers one that
fails them with the number unused, does nothing for a number already taken, is noted on a BUSY session, and is held while
doorbells are held. EVQ_ACK removes the head event with the given QSEQ; another QSEQ leaves the queue and is noted. Each
of these forms completes with a next state in every state that meets its conditions: sessionOpen, sessionClose,
doorbellRing, evqAck (R364, R368, R369, R370, R373, R374, Table 12-5, Table 12-8). -/
def Obligations.SessionsDoorbellsAndQueue : Prop :=
  (∀ (s : State) (f : Iface) (k : Sess) (priv : BitVec 2) (notify : Bool) (tag : BitVec 16), s.busOpen = true ∧
      (s.sess k).phase = .free ∧ priv ≠ 3 ∧ ¬ (f = .smb ∧ s.ctl.sysLock.getLsbD 1 = true) → Leads (.sessionOpen f k priv
      notify tag) s fun t => (t.sess k).phase = .idle ∧ (t.sess k).priv.code = priv.toNat ∧ (t.sess k).owner = tag ∧
      (t.sess k).notify = notify ∧ (t.sess k).iface = f ∧ (t.sess k).openTime = s.now ∧ (t.sess k).staging = []) ∧
  (∀ (s : State) (k : Sess) (priv : BitVec 2) (notify : Bool) (tag : BitVec 16), s.busOpen = true ∧
      (s.sess k).phase = .free ∧ priv ≠ 3 ∧ s.ctl.sysLock.getLsbD 1 = true → Leads (.sessionOpen .smb k priv notify tag)
      s fun t => (t.sess k).phase = .idle ∧ (t.sess k).priv = .observe) ∧
  (∀ (s : State) (f : Iface) (k : Sess) (priv : BitVec 2) (notify : Bool) (tag : BitVec 16), s.busOpen = true ∧
      ((s.sess k).phase ≠ .free ∨ priv = 3) → Leads (.sessionOpen f k priv notify tag) s fun t =>
      t.sess k = { s.sess k with reqPriv := priv, notify := notify, ownerTag := tag }) ∧
  (∀ (s : State) (k : Sess), s.busOpen = true ∧ (s.sess k).phase = .idle → Leads (.sessionClose k) s fun t =>
      (t.sess k).phase = .free) ∧
  (∀ (s : State) (k : Sess), s.busOpen = true ∧ (s.sess k).phase = .busy → Leads (.sessionClose k) s fun t =>
      (t.sess k).phase = .busy ∧ (t.sess k).closePending = true) ∧
  (∀ (s : State) (f : Iface) (k : Sess) (seq : Byte), s.busOpen = true ∧ s.serving = true ∧ s.pairUp k = true ∧
      (s.sess k).phase = .idle ∧ (s.window f).fifo = [] ∧ ((s.sess k).anyAccepted = false ∨ seq ≠ (s.sess k).lastSeq) →
      s.ringFault k (memReads 0 (s.sess k).area 0 1024) seq = none → Leads (.doorbellRing f k seq) s fun t =>
      (t.sess k).phase = .busy ∧ (t.sess k).lastSeq = seq ∧ (t.sess k).cmd.map (fun c => (c.code, c.seq,
      c.started)) = some (fieldLE (memReads 0 (s.sess k).area 0 1024) 0 2, seq, false)) ∧
  (∀ (s : State) (f : Iface) (k : Sess) (seq : Byte) (r : Result) (d : Nat), s.busOpen = true ∧ s.serving = true ∧
      s.pairUp k = true ∧ (s.sess k).phase = .idle ∧ (s.sess k).closePending = false ∧ (s.window f).fifo = [] ∧
      ((s.sess k).anyAccepted = false ∨ seq ≠ (s.sess k).lastSeq) → s.ringFault k (memReads 0 (s.sess k).area 0 1024) seq
      = some (r, d) → Leads (.doorbellRing f k seq) s fun t => t.answered k (fieldLE (memReads 0 (s.sess k).area 0 1024)
      0 2) r d [] ∧ (t.sess k).lastSeq = (s.sess k).lastSeq) ∧
  (∀ (s : State) (f : Iface) (k : Sess) (seq : Byte), s.busOpen = true ∧ s.serving = true ∧ s.pairUp k = true ∧
      (s.sess k).phase = .idle ∧ (s.sess k).closePending = false ∧ (s.window f).fifo = [] ∧ (s.sess k).anyAccepted = true
      ∧ seq = (s.sess k).lastSeq → Leads (.doorbellRing f k seq) s fun t => t.sess k = { s.sess k with bellSeq := seq }) ∧
  (∀ (s : State) (f : Iface) (k : Sess) (seq : Byte), s.busOpen = true ∧ (s.sess k).phase = .busy →
      Leads (.doorbellRing f k seq) s fun t => t.sess k = { s.sess k with bellSeq := seq, ringBusy := true }) ∧
  (∀ (s : State) (f : Iface) (k : Sess) (seq : Byte), s.busOpen = true ∧ (s.serving = false ∨ s.pairUp k = false) ∧
      (s.sess k).phase = .idle → Leads (.doorbellRing f k seq) s fun t => (t.sess k).phase = .busy ∧
      t.ctl.heldRings = s.ctl.heldRings ++ [(k, seq)]) ∧
  (∀ (s : State) (q : Word) (x : EvEntry) (rest : List EvEntry), s.busOpen = true ∧ s.ctl.ev.queue = x :: rest ∧
      x.qseq = q ∧ s.ctl.ev.lost = 0 → Leads (.evqAck q) s fun t => t.ctl.ev.queue = rest ∧ t.ctl.ev.lastRemoved = q ∧
      t.ctl.ev.ackMiss = s.ctl.ev.ackMiss) ∧
  (∀ (s : State) (q : Word), s.busOpen = true ∧ ∀ x ∈ s.ctl.ev.queue.head?, x.qseq ≠ q → Leads (.evqAck q) s fun t =>
      t.ctl.ev.queue = s.ctl.ev.queue ∧ t.ctl.ev.ackMiss = true)

/-- The SESSION and SEC commands carry out their effect. A challenge is 32 bytes of entropy, new and unused, with its
time. SESSION.AUTH with a valid token makes the session SECURE, any other is DENIED, and either uses the challenge up.
Bytes are staged at their offset. The signing state becomes ready. SEC.GET_STATE answers the state. A first SEC.ATTEST
signs with the next index and answers page 0; without one in the blocks reserved it reserves the next block that programs;
a later page comes from the session's report of the same nonce; before the signing state is ready it answers BUSY. A
life-cycle transition of the table whose condition holds, with its token, blows the fuse and ends every SECURE session,
without it is DENIED; provisioning needs the root owner key and completes the seed; a transition not in the table is
refused BAD_STATE with OTP unchanged. The signer of an owner key 0 record installs it when the key is well formed, else
BAD_ARG; it deletes a key that is there, else BAD_STATE; without that signer the installation is DENIED, flash unchanged.
Each of these forms completes with a next state in every state that meets its conditions: sessionGetChallenge,
sessionAuth, sessionStage, signingStateReady, secGetState, secAttest, secSetLifecycle, secSetOwnerKey (R366, R387, R397,
R404, R405, R407, R408, R410, R412, R413, Table 14-3, Table 14-5). -/
def Obligations.SecurityCommands : Prop :=
  (∀ (s : State) (k : Sess) (a : Bytes), s.holds k 0x0201 a → Answers (.sessionGetChallenge k) s k 0x0201 .ok 0 (padTo 32
      (Config.entropy s.free 32)) fun t => (t.sess k).challenge = some { value := padTo 32 (Config.entropy s.free 32),
                                                                         time := s.now, used := false } ∧
      t.free = s.free + 1) ∧
  (∀ (s : State) (k : Sess) (a : Bytes), s.holds k 0x0202 a → Answers (.sessionAuth k) s k 0x0202 (if (s.validToken k
      (fieldLE a 0 2) 1 0).isSome then .ok else .denied) 0 [] fun t => (t.sess k).priv = (if (s.validToken k (fieldLE a 0
      2) 1 0).isSome then .secure else (s.sess k).priv) ∧ (t.sess k).challenge.map (·.used) = (s.sess k).challenge.map
      fun _ => true) ∧
  (∀ (s : State) (k : Sess) (a : Bytes), s.holds k 0x0203 a → (s.sess k).wf = true ∧ a.length = 4 + fieldLE a 2 2 →
      Answers (.sessionStage k) s k 0x0203 .ok 0 [] fun t => memReads 0 (t.sess k).staging (fieldLE a 0 2) (fieldLE a 2
      2) = a.drop 4) ∧
  (∀ (s : State), s.sys.clk.phase = .running ∨ s.sys.clk.phase = .noCount → Leads .signingStateReady s fun t =>
      t.sec.signReady = true ∧ t.sec.nextIndex = s.sec.nextIndex) ∧
  (∀ (s : State) (k : Sess) (a : Bytes), s.holds k 0x1001 a → Answers (.secGetState k) s k 0x1001 .ok 0 (leBytes 1
      s.lifecycle ++ leBytes 1 s.ctl.sysLock.toNat ++ leBytes 1 s.ownerKeys ++ zeros 1 ++ leBytes 4 s.sigRemaining ++
      leBytes 4 s.sec.img.runningVer.toNat ++ zeros 4) fun t => t.sec = s.sec) ∧
  (∀ (s : State) (k : Sess) (a seed : Bytes), s.holds k 0x1002 a → fieldLE a 32 4 = 0 ∧ s.sec.signReady = true ∧
      s.lifecycle ≠ 0 ∧ s.lifecycle ≠ 4 ∧ s.sec.otp.seedInUse = some seed ∧ s.sec.nextIndex < 32 * s.sec.otp.blocks ∧
      s.sec.nextIndex < 65536 → Answers (.secAttest k 0 false) s k 0x1002 .ok 0 (reportPage (s.signedReport (a.take 32)
      seed s.sec.nextIndex) 0) fun t => t.sec.nextIndex = s.sec.nextIndex + 1 ∧
      (t.sess k).report = some { nonce := a.take 32, bytes := s.signedReport (a.take 32) seed s.sec.nextIndex } ∧
      t.sec.otp = s.sec.otp) ∧
  (∀ (s : State) (k : Sess) (a seed : Bytes) (bad : Nat), s.holds k 0x1002 a → fieldLE a 32 4 = 0 ∧
      s.sec.signReady = true ∧ s.lifecycle ≠ 0 ∧ s.lifecycle ≠ 4 ∧ s.sec.otp.seedInUse = some seed ∧
      32 * s.sec.otp.blocks ≤ s.sec.nextIndex ∧ s.sec.nextIndex / 32 + bad < 2048 → Answers (.secAttest k bad false) s k
      0x1002 .ok 0 (reportPage (s.signedReport (a.take 32) seed (32 * (s.sec.nextIndex / 32 + bad))) 0) fun t =>
      t.sec.nextIndex = 32 * (s.sec.nextIndex / 32 + bad) + 1 ∧ t.sec.otp.sigBlock.getLsbD (s.sec.nextIndex / 32 + bad) =
      true) ∧
  (∀ (s : State) (k : Sess) (bad : Nat) (sw : Bool) (a : Bytes) (r : Report), s.holds k 0x1002 a → fieldLE a 32 4 ≠ 0 ∧
      fieldLE a 32 4 < 3524 ∧ s.sec.signReady = true ∧ s.lifecycle ≠ 0 ∧ s.lifecycle ≠ 4 ∧ (s.sess k).report = some r ∧
      r.nonce = a.take 32 → Answers (.secAttest k bad sw) s k 0x1002 .ok 0 (reportPage r.bytes (fieldLE a 32 4)) fun t =>
      t.sec = s.sec) ∧
  (∀ (s : State) (k : Sess) (bad : Nat) (sw : Bool) (a : Bytes), s.holds k 0x1002 a → s.sec.signReady = false →
      Answers (.secAttest k bad sw) s k 0x1002 .busy 0 [] fun t => t.sec = s.sec) ∧
  (∀ (s : State) (k : Sess) (ok : Bool) (a : Bytes) (j : Sess), s.holds k 0x1003 a → s.sec.test = none ∧
      (s.sec.img.stage.code = 0 ∨ 5 ≤ s.sec.img.stage.code) ∧ lifecycleMove s.lifecycle (byteAt a 0) = true ∧
      s.moveCondition (byteAt a 0) = true ∧ byteAt a 0 ≠ 1 → Answers (.secSetLifecycle k ok) s k 0x1003 (if s.moveToken k
      (fieldLE a 2 2) (byteAt a 0) then .ok else .denied) 0 [] fun t => if s.moveToken k (fieldLE a 2 2) (byteAt a 0)
      then t.sec.otp.lcFuse.getLsbD (byteAt a 0 - 1) = true ∧ (t.sess j).priv ≠ .secure else t.sec.otp = s.sec.otp) ∧
  (∀ (s : State) (k : Sess) (a : Bytes) (j : Sess), s.holds k 0x1003 a → s.sec.test = none ∧ (s.sec.img.stage.code = 0 ∨
      5 ≤ s.sec.img.stage.code) ∧ s.lifecycle = 0 ∧ byteAt a 0 = 1 ∧ s.sec.otp.seedA.touched = false →
      Answers (.secSetLifecycle k true) s k 0x1003 (if (s.ownerKey 0).isNone then .badState else if s.moveToken k
      (fieldLE a 2 2) 1 then .ok else .denied) 0 [] fun t => if (s.ownerKey 0).isSome ∧ s.moveToken k (fieldLE a 2 2) 1
      then t.sec.otp.lcFuse.getLsbD 0 = true ∧ t.sec.otp.seedA.complete = true ∧ (t.sess j).priv ≠ .secure else t.sec.otp
      = s.sec.otp) ∧
  (∀ (s : State) (k : Sess) (ok : Bool) (a : Bytes), s.holds k 0x1003 a → s.sec.test = none ∧ (s.sec.img.stage.code = 0 ∨
      5 ≤ s.sec.img.stage.code) ∧ lifecycleMove s.lifecycle (byteAt a 0) = false → Answers (.secSetLifecycle k ok) s k
      0x1003 .badState 0 [] fun t => t.sec.otp = s.sec.otp) ∧
  (∀ (s : State) (k : Sess) (a r : Bytes), s.holds k 0x1004 a → r = memReads 0 (s.sess k).staging 0 72 ∧
      (s.sess k).signer = some 0 ∧ byteAt a 0 = 0 ∧ fieldLE a 2 2 = 72 ∧ byteAt r 0 = 1 ∧ byteAt r 1 = 0 →
      Answers (.secSetOwnerKey k) s k 0x1004 (if (keyHeight (r.drop 4)).isSome then .ok else .badArg) (if (keyHeight
      (r.drop 4)).isSome then 0 else 18) [] fun t => if (keyHeight (r.drop 4)).isSome then (t.sec.flash.owner[0]).map
      (fun x => (x.uses.toNat, x.policy.toNat, x.pub)) = some (byteAt r 2, byteAt r 3, r.drop 4) ∧
      (t.ownerKey 0).isSome else t.sec.flash = s.sec.flash) ∧
  (∀ (s : State) (k : Sess) (a r : Bytes) (slot : Fin 8), s.holds k 0x1004 a → r = memReads 0 (s.sess k).staging 0 72 ∧
      (s.sess k).signer = some 0 ∧ byteAt a 0 = slot.val ∧ slot.val ≠ 0 ∧ fieldLE a 2 2 = 72 ∧ byteAt r 0 = 1 ∧
      byteAt r 1 = 1 → Answers (.secSetOwnerKey k) s k 0x1004 (if (s.ownerKey slot.val).isNone then .badState else if
      (keyHeight (r.drop 4)).isSome then .ok else .badArg) (if (s.ownerKey slot.val).isNone ∨ (keyHeight (r.drop
      4)).isSome then 0 else 18) [] fun t => ((keyHeight (r.drop 4)).isSome → (t.ownerKey slot.val) = none) ∧
      t.sec.otp = s.sec.otp) ∧
  (∀ (s : State) (k : Sess) (a : Bytes), s.holds k 0x1004 a → byteAt a 0 = 0 ∧ byteAt (memReads 0 (s.sess k).staging 0
      72) 1 = 0 ∧ (s.sess k).signer ≠ some 0 ∧ (s.sess k).signer ≠ some 0x80 → Answers (.secSetOwnerKey k) s k 0x1004
      .denied 0 [] fun t => t.sec.flash = s.sec.flash)

/-- Boot and the download of an image carry out their effect. The boot ROM with a good loader runs a valid slot or else
enters REFILL and asks a neighbour, and with a loader it cannot verify enters its own refill and asks its neighbours.
IMAGE.BEGIN starts a download of its length from the host, BUSY against an activation or another source. IMAGE.WRITE takes
the next bytes in order into header and buffer and answers the stage; without a host download it is refused BAD_STATE.
IMAGE.GET_STATUS answers the record. A header that passes the checks invalidates the slot and starts the body; one that
fails ends the download with the check's code, flash unchanged. A sector is written to the slot and leaves the buffer; a
failed write ends the download INVALID with code 9. A verified body puts the header in the slot: VERIFIED when its hash
matches, else INVALID with code 8. Silence ends a host download with code 11, flash unchanged. IMAGE.ABORT ends a download
with code 10 or drops a verified image, and is otherwise refused BAD_STATE. Each of these forms completes with a next
state in every state that meets its conditions: bootRomStart, imageBegin, imageWrite, imageGetStatus, headerVerdict,
sectorWriteDone, bodyVerifyDone, hostSourceTimeout, imageAbort (R401, R425, R426, R427, R428, R429, R430, R431, R440,
Table 15-3, Table 15-4). -/
def Obligations.BootAndImageDownload : Prop :=
  (∀ (s : State), s.sys.clk.phase = .locked ∧ s.sec.flash.boot ≠ .spoiled → Leads .bootRomStart s fun t =>
      t.sys.clk.phase = if Config.loaderOk s.sec.flash.loader then (if (s.completeMove.modSec fun u =>
      { u with otp := { u.otp with rollB := u.otp.rollB ||| u.otp.rollA } }).validSlot.isSome then .running else .refill)
      else .romRefill) ∧
  (∀ (s : State), s.sys.clk.phase = .locked ∧ s.sec.flash.slotHeader = none → Leads .bootRomStart s fun t =>
      if Config.loaderOk s.sec.flash.loader then t.sys.clk.phase = .refill ∧ t.sec.img.stage = .refill ∧
      (t.rport 0).asked = true ∧ t.sys.fwReady = s.sys.fwReady else t.sys.clk.phase = .romRefill ∧
      (t.rport 0).asked = true ∧ (t.rport 1).asked = true) ∧
  (∀ (s : State) (k : Sess) (a : Bytes), s.holds k 0x0F01 a → s.sec.img.beginBusy = false ∧ s.sec.img.stage ≠ .refill →
      Answers (.imageBegin k) s k 0x0F01 .ok 0 [] fun t => t.sec.img.stage = .header ∧ t.sec.img.active = true ∧
      t.sec.img.source = 0 ∧ t.sec.img.length = fieldLE a 0 4 ∧ t.sec.img.received = 0 ∧
      t.sec.img.forward = bitOf (byteAt a 4) 0 ∧ t.sec.img.reject = 0) ∧
  (∀ (s : State) (k : Sess) (a : Bytes), s.holds k 0x0F01 a → s.sec.img.stage = .activating ∨ (s.sec.img.active = true ∧
      s.sec.img.source ≠ 0) → Answers (.imageBegin k) s k 0x0F01 .busy 0 [] fun t => t.sec = s.sec) ∧
  (∀ (s : State) (k : Sess) (a : Bytes), s.holds k 0x0F02 a → s.sec.img.active = true ∧ s.sec.img.source = 0 ∧
      fieldLE a 0 4 = s.sec.img.received ∧ a.length = 8 + fieldLE a 4 2 ∧ s.sec.img.received + fieldLE a 4 2 ≤
      s.sec.img.length ∧ fieldLE a 4 2 % 4 = 0 ∧ s.sec.img.buffer.length + fieldLE a 4 2 ≤ 65536 →
      s.sec.img.headerOk = true ∨ s.sec.img.received + fieldLE a 4 2 ≤ 8192 → Answers (.imageWrite k) s k 0x0F02 .ok 0
      (leBytes 1 s.sec.img.stage.code) fun t => t.sec.img.received = s.sec.img.received + fieldLE a 4 2 ∧
      t.sec.img.active = true ∧ t.sec.img.header ++ t.sec.img.buffer = s.sec.img.header ++ (a.drop 8).take (8192 -
      s.sec.img.header.length) ++ s.sec.img.buffer ++ (a.drop 8).drop (8192 - s.sec.img.header.length)) ∧
  (∀ (s : State) (k : Sess) (a : Bytes), s.holds k 0x0F02 a → s.sec.img.active = false ∨ s.sec.img.source ≠ 0 →
      Answers (.imageWrite k) s k 0x0F02 .badState 0 [] fun t => t.sec = s.sec) ∧
  (∀ (s : State) (k : Sess) (a : Bytes), s.holds k 0x0F03 a → Answers (.imageGetStatus k) s k 0x0F03 .ok 0 s.imageStatus
      fun t => t.sec = s.sec) ∧
  (∀ (s : State), s.sec.img.active = true ∧ s.sec.img.headerOk = false ∧ 8192 ≤ s.sec.img.header.length ∧
      s.sec.img.stage ≠ .refill → Leads .headerVerdict s fun t => if s.headerCheck s.sec.img.header s.sec.img.length true
      = 0 then t.sec.img.headerOk = true ∧ t.sec.img.stage = .body ∧ t.sec.img.active = true ∧
      t.sec.flash.slotHeader = none ∧ t.sec.flash.journal.stage = 2 else t.sec.img.active = false ∧
      t.sec.img.stage = .idle ∧ t.sec.img.reject = s.headerCheck s.sec.img.header s.sec.img.length true ∧
      t.sec.flash = s.sec.flash) ∧
  (∀ (s : State) (n : Nat), s.sec.img.active = true ∧ s.sec.img.headerOk = true ∧ s.sec.img.buffer ≠ [] ∧
      (4096 ≤ s.sec.img.buffer.length ∨ s.sec.img.received = s.sec.img.length) ∧ memWf 0xFF s.sec.flash.slotBody = true ∧
      n = (s.sec.img.buffer.take 4096).length → Leads (.sectorWriteDone true) s fun t =>
      t.sec.img.written = s.sec.img.written + n ∧ t.sec.img.buffer = s.sec.img.buffer.drop 4096 ∧
      memReads 0xFF t.sec.flash.slotBody s.sec.img.written n = s.sec.img.buffer.take 4096) ∧
  (∀ (s : State), s.sec.img.active = true ∧ s.sec.img.headerOk = true ∧ s.sec.img.buffer ≠ [] ∧
      (4096 ≤ s.sec.img.buffer.length ∨ s.sec.img.received = s.sec.img.length) ∧ s.sec.img.stage ≠ .refill →
      Leads (.sectorWriteDone false) s fun t => t.sec.img.active = false ∧ t.sec.img.reject = 9 ∧
      t.sec.img.stage = .invalid) ∧
  (∀ (s : State), s.sec.img.active = true ∧ s.sec.img.headerOk = true ∧ s.sec.img.buffer = [] ∧
      s.sec.img.received = s.sec.img.length ∧ 8192 + s.sec.img.written = s.sec.img.length ∧ s.sec.img.stage ≠ .refill →
      Leads (.bodyVerifyDone true) s fun t => t.sec.flash.slotHeader = some s.sec.img.header ∧ t.sec.img.active = false ∧
      if s.bodyMatches s.sec.img.header then t.sec.img.stage = .verified ∧ t.sec.img.bodyOk = true ∧
      t.sec.flash.journal.stage = 3 else t.sec.img.stage = .invalid ∧ t.sec.img.reject = 8) ∧
  (∀ (s : State), s.sec.img.active = true ∧ s.sec.img.source = 0 ∧ s.sec.img.received < s.sec.img.length →
      Leads .hostSourceTimeout s fun t => t.sec.img.active = false ∧ t.sec.img.reject = 11 ∧ t.sec.flash = s.sec.flash) ∧
  (∀ (s : State) (k : Sess) (a : Bytes), s.holds k 0x0F06 a → s.sec.img.active = true ∧ s.sec.img.stage ≠ .activating →
      Answers (.imageAbort k) s k 0x0F06 .ok 0 [] fun t => t.sec.img.active = false ∧ t.sec.img.reject = 10) ∧
  (∀ (s : State) (k : Sess) (a : Bytes), s.holds k 0x0F06 a → s.sec.img.active = false ∧ s.sec.img.stage = .verified →
      Answers (.imageAbort k) s k 0x0F06 .ok 0 [] fun t => t.sec.img.stage = .idle) ∧
  (∀ (s : State) (k : Sess) (a : Bytes), s.holds k 0x0F06 a → s.sec.img.active = false ∧ s.sec.img.stage ≠ .activating ∧
      s.sec.img.stage ≠ .verified → Answers (.imageAbort k) s k 0x0F06 .badState 0 [] fun t => t.sec = s.sec)

/-- Activation, confirmation and relay settings carry out their effect. IMAGE.ACTIVATE of a verified image starts its
rounds, no core swapped yet; at another stage it is refused BAD_STATE. The end of a round gives its cores that are not
retired the new version and counts them in the journal; the last round makes the image the running one, unconfirmed.
IMAGE.CONFIRM of an activated image confirms it in the journal and blows both banks of anti-rollback fuses up to its
security version; without one it is refused BAD_STATE. IMAGE.SET_RELAY writes the ports and nothing else of the image
state. Each of these forms completes with a next state in every state that meets its conditions: imageActivate,
coreSwapDone, imageConfirm, imageSetRelay (R417, R431, R435, R436, R439, Table 15-6). -/
def Obligations.ImageActivation : Prop :=
  (∀ (s : State) (k : Sess) (a : Bytes), s.holds k 0x0F04 a → s.sec.test = none ∧ s.sec.img.stage = .verified →
      Answers (.imageActivate k) s k 0x0F04 .ok 0 [] fun t => t.sec.img.stage = .activating ∧
      t.sec.img.rounds = s.activationRounds k ∧ t.sec.flash.journal.stage = 4 ∧ t.sec.flash.journal.swapped = 0 ∧
      t.sys.core = s.sys.core) ∧
  (∀ (s : State) (k : Sess) (a : Bytes), s.holds k 0x0F04 a → s.sec.test = none ∧ s.sec.img.stage ≠ .verified →
      Answers (.imageActivate k) s k 0x0F04 .badState 0 [] fun t => t.sec = s.sec) ∧
  (∀ (s : State) (r : List Nat) (rest : List (List Nat)) (c : Core), s.sec.img.stage = .activating ∧
      s.sec.img.rounds = r :: rest ∧ rest ≠ [] ∧ c.val ∈ r ∧ (s.coreOf c).state ≠ .retired → (∀ p : Phys, p.val ∈ r →
      s.moving p = false) → Leads .coreSwapDone s fun t => t.sec.img.rounds = rest ∧
      (t.coreOf c).version = s.sec.img.pendingVer ∧ t.sec.img.stage = .activating ∧ t.sec.flash.journal.swapped =
      s.sec.flash.journal.swapped + r.length) ∧
  (∀ (s : State) (r : List Nat), s.sec.img.stage = .activating ∧ s.sec.img.rounds = [r] → (∀ p : Phys, p.val ∈ r →
      s.moving p = false) → Leads .coreSwapDone s fun t => t.sec.img.rounds = [] ∧ t.sec.img.stage = .activated ∧
      t.sec.img.runningVer = s.sec.img.pendingVer ∧ t.sec.img.running = s.sec.img.header ∧ t.sec.img.unconfirmed = true ∧
      t.sec.flash.journal.stage = 5) ∧
  (∀ (s : State) (k : Sess) (a : Bytes), s.holds k 0x0F05 a → s.sec.img.stage = .activated ∧
      s.rollback < headerSecVer s.sec.img.running → Answers (.imageConfirm k) s k 0x0F05 .ok 0 [] fun t =>
      t.sec.img.stage = .idle ∧ t.sec.img.unconfirmed = false ∧ t.sec.flash.journal.confirmed = true ∧
      t.sec.otp.rollA = s.sec.otp.rollA ||| thermometer (headerSecVer s.sec.img.running) ∧
      t.sec.otp.rollB = s.sec.otp.rollB ||| thermometer (headerSecVer s.sec.img.running)) ∧
  (∀ (s : State) (k : Sess) (a : Bytes), s.holds k 0x0F05 a → s.sec.img.stage ≠ .activated ∧
      s.sec.img.unconfirmed = false → Answers (.imageConfirm k) s k 0x0F05 .badState 0 [] fun t => t.sec = s.sec) ∧
  (∀ (s : State) (k : Sess) (a : Bytes), s.holds k 0x0F07 a → Answers (.imageSetRelay k) s k 0x0F07 .ok 0 [] fun t =>
      t.sec.img = { s.sec.img with ports := BitVec.ofNat 4 (byteAt a 0) })

/-- The relay's frames and timers carry out their effect. HELLO is answered with the device's record, or opens the waiting
transfer with an OFFER; a bad CRC changes nothing. An OFFER that passes starts a download from the port and is
acknowledged; one that fails is answered NAK, no download begun. DATA in order is received; other DATA is answered with
the bytes acknowledged. ACK moves a transfer on, and of the whole length completes it; NAK drops it. REFILL_REQ for an
image is served with an OFFER from a running device with a slot, or answered NAK without one. ABORT from the source ends
the download with code 10, INVALID once the header was good. HELLO is repeated, and at the 500th time the transfer is
dropped. A silent transfer repeats its OFFER, or its data from NEXT. A transfer without progress is dropped; a download
whose source is silent ends with code 11. A port that goes down loses its transfer; one that comes up keeps it. An empty
slot's refill and the ROM's are asked for again. Each of these forms completes with a next state in every state that meets
its conditions: hello, offer, data, ack, nak, refillReq, abort, helloRepeat, relayResendTimeout, relaySourceTimeout,
relayPortDown, relayPortUp, refillRetry, loaderRefillRetry (R432, R433, R434, R435, R440, R441). -/
def Obligations.RelayFrames : Prop :=
  (∀ (s : State) (q : Port) (payload : Bytes) (crc : BitVec 32), s.hears q 1 payload crc = true ∧ payload.length = 12 ∧
      (s.rport q).tx = none → Leads (.hello q payload crc) s fun t => (t.rport q).out = [relayFrame 1 (leBytes 2 0x5128
      ++ [s.sec.made.step] ++ leBytes 1 s.sec.img.stage.code ++ leBytes 4 s.sec.img.runningVer.toNat ++ leBytes 1
      s.rollback ++ zeros 3)] ∧ (t.rport q).tx = none) ∧
  (∀ (s : State) (q : Port) (payload : Bytes) (crc : BitVec 32) (x : RelayTx), s.hears q 1 payload crc = true ∧
      payload.length = 12 ∧ (s.rport q).tx = some x ∧ x.phase = 0 → Leads (.hello q payload crc) s fun t =>
      (t.rport q).out = [relayFrame 2 (leBytes 4 x.length)] ∧ (t.rport q).tx = some { x with phase := 1, since := s.now }) ∧
  (∀ (s : State) (q : Port) (payload : Bytes) (crc : BitVec 32), frameGood 1 payload crc = false →
      Leads (.hello q payload crc) s fun t => t = s) ∧
  (∀ (s : State) (q : Port) (payload : Bytes) (crc : BitVec 32), s.hears q 2 payload crc = true ∧ payload.length = 4 ∧
      s.offerVerdict q (fieldLE payload 0 4) = 0 ∧ s.sys.clk.phase ≠ .romRefill ∧ s.sec.img.stage ≠ .refill →
      Leads (.offer q payload crc) s fun t => t.sec.img.stage = .header ∧ t.sec.img.active = true ∧
      t.sec.img.source = q.val + 1 ∧ t.sec.img.length = fieldLE payload 0 4 ∧ (t.rport q).out = [relayFrame 4 (leBytes 4
      0 ++ [8] ++ zeros 3)]) ∧
  (∀ (s : State) (q : Port) (payload : Bytes) (crc : BitVec 32), s.hears q 2 payload crc = true ∧ payload.length = 4 ∧
      s.offerVerdict q (fieldLE payload 0 4) ≠ 0 → Leads (.offer q payload crc) s fun t => (t.rport q).out = [relayFrame
      5 (leBytes 1 (s.offerVerdict q (fieldLE payload 0 4)) ++ zeros 3)] ∧ t.sec.img.stage = s.sec.img.stage ∧
      t.sec.img.active = s.sec.img.active) ∧
  (∀ (s : State) (q : Port) (payload : Bytes) (crc : BitVec 32), s.hears q 3 payload crc = true ∧
      s.sys.clk.phase ≠ .romRefill ∧ s.sec.img.active = true ∧ s.sec.img.source = q.val + 1 → 4 < payload.length ∧
      payload.length ≤ 4100 ∧ fieldLE payload 0 4 % 4096 = 0 ∧ fieldLE payload 0 4 = s.sec.img.received ∧
      s.sec.img.received + (payload.length - 4) ≤ s.sec.img.length ∧ s.sec.img.buffer.length + (payload.length - 4) ≤
      65536 → Leads (.data q payload crc) s fun t => t.sec.img.received = s.sec.img.received + (payload.length - 4) ∧
      t.sec.img.stage = s.sec.img.stage) ∧
  (∀ (s : State) (q : Port) (payload : Bytes) (crc : BitVec 32), s.hears q 3 payload crc = true ∧
      s.sys.clk.phase ≠ .romRefill ∧ s.sec.img.active = true ∧ s.sec.img.source = q.val + 1 → 4 < payload.length ∧
      payload.length ≤ 4100 ∧ fieldLE payload 0 4 % 4096 = 0 ∧ fieldLE payload 0 4 ≠ s.sec.img.received →
      Leads (.data q payload crc) s fun t => t.sec.img.received = s.sec.img.received ∧ (t.rport q).out = [relayFrame 4
      (leBytes 4 s.sec.img.acked ++ [8] ++ zeros 3)]) ∧
  (∀ (s : State) (q : Port) (payload : Bytes) (crc : BitVec 32) (x : RelayTx), s.hears q 4 payload crc = true ∧
      payload.length = 8 ∧ (s.rport q).tx = some x ∧ x.phase ≠ 0 ∧ x.next ≤ fieldLE payload 0 4 ∧
      fieldLE payload 0 4 < x.length → Leads (.ack q payload crc) s fun t => (t.rport q).tx.map (fun y => (y.phase,
      y.next, y.window)) = some (2, fieldLE payload 0 4, byteAt payload 4)) ∧
  (∀ (s : State) (q : Port) (payload : Bytes) (crc : BitVec 32) (x : RelayTx), s.hears q 4 payload crc = true ∧
      payload.length = 8 ∧ (s.rport q).tx = some x ∧ x.phase ≠ 0 ∧ x.next ≤ fieldLE payload 0 4 ∧
      fieldLE payload 0 4 = x.length → Leads (.ack q payload crc) s fun t => (t.rport q).tx = none) ∧
  (∀ (s : State) (q : Port) (payload : Bytes) (crc : BitVec 32) (x : RelayTx), s.hears q 5 payload crc = true ∧
      payload.length = 4 ∧ (s.rport q).tx = some x → Leads (.nak q payload crc) s fun t => (t.rport q).tx = none) ∧
  (∀ (s : State) (q : Port) (payload hdr : Bytes) (crc : BitVec 32), s.hears q 6 payload crc = true ∧
      payload.length = 4 ∧ s.sec.img.stage = .idle ∧ s.sys.fwReady = true ∧ (∀ j : Port, (s.rport j).tx = none) ∧
      s.sec.flash.slotHeader = some hdr ∧ byteAt payload 3 ≠ 0xFF → Leads (.refillReq q payload crc) s fun t =>
      (t.rport q).tx = some { cargo := .image, phase := 1, length := 8192 + headerBodyLen hdr, since := s.now,
                              refill := true } ∧ (t.rport q).out = [relayFrame 2 (leBytes 4 (8192 + headerBodyLen hdr))]) ∧
  (∀ (s : State) (q : Port) (payload : Bytes) (crc : BitVec 32), s.hears q 6 payload crc = true ∧ payload.length = 4 ∧
      (s.sec.flash.slotHeader = none ∨ s.sys.fwReady = false) ∧ byteAt payload 3 ≠ 0xFF → Leads (.refillReq q payload
      crc) s fun t => (t.rport q).tx = (s.rport q).tx ∧ (t.rport q).out = [relayFrame 5 (leBytes 1 0x20 ++ zeros 3)]) ∧
  (∀ (s : State) (q : Port) (payload : Bytes) (crc : BitVec 32), s.hears q 7 payload crc = true ∧ payload.length = 4 ∧
      s.sec.img.active = true ∧ s.sec.img.source = q.val + 1 ∧ s.sys.clk.phase ≠ .romRefill ∧ s.sec.img.stage ≠ .refill →
      Leads (.abort q payload crc) s fun t => t.sec.img.active = false ∧ t.sec.img.reject = 10 ∧
      t.sec.img.stage = if s.sec.img.headerOk then .invalid else .idle) ∧
  (∀ (s : State) (q : Port) (x : RelayTx), (s.rport q).tx = some x ∧ x.phase = 0 ∧ x.hellos < 499 →
      Leads (.helloRepeat q) s fun t => (t.rport q).tx = some { x with hellos := x.hellos + 1 } ∧
      (t.rport q).out.length = 1) ∧
  (∀ (s : State) (q : Port) (x : RelayTx), (s.rport q).tx = some x ∧ x.phase = 0 ∧ 499 ≤ x.hellos →
      Leads (.helloRepeat q) s fun t => (t.rport q).tx = none) ∧
  (∀ (s : State) (q : Port) (x : RelayTx), (s.rport q).tx = some x ∧ x.phase = 1 → Leads (.relayResendTimeout q) s fun t
      => (t.rport q).out = [relayFrame 2 (leBytes 4 x.length)] ∧ (t.rport q).tx = some x) ∧
  (∀ (s : State) (q : Port) (x : RelayTx), (s.rport q).tx = some x ∧ x.phase = 2 ∧ x.next = 0 ∧ x.window = 0 →
      Leads (.relayResendTimeout q) s fun t => (t.rport q).out = [] ∧ (t.rport q).tx = some { x with sent := 0 }) ∧
  (∀ (s : State) (q : Port), Leads (.relaySourceTimeout q true) s fun t => (t.rport q).tx = none) ∧
  (∀ (s : State) (q : Port), s.sec.img.active = true ∧ s.sec.img.source = q.val + 1 ∧ s.sys.clk.phase ≠ .romRefill →
      Leads (.relaySourceTimeout q false) s fun t => t.sec.img.active = false ∧ t.sec.img.reject = 11) ∧
  (∀ (s : State) (q : Port), (s.rport q).up = true → Leads (.relayPortDown q) s fun t => (t.rport q).up = false ∧
      (t.rport q).tx = none) ∧
  (∀ (s : State) (q : Port), s.sys.clk.counting = true → Leads (.relayPortUp q) s fun t => (t.rport q).up = true ∧
      (t.rport q).tx = (s.rport q).tx) ∧
  (∀ (s : State), s.sec.img.stage = .refill ∧ s.sec.img.refillWait = true → Leads .refillRetry s fun t =>
      t.sec.img.refillWait = false ∧ (t.rport 0).asked = true ∧ (t.rport 0).out = [relayFrame 6 (leBytes 2 0x5128 ++
      [s.sec.made.step] ++ leBytes 1 s.rollback)]) ∧
  (∀ (s : State) (q : Port), s.sys.clk.phase = .romRefill ∧ s.sec.img.active = false → Leads .loaderRefillRetry s fun t
      => (t.rport q).asked = true ∧ (t.rport q).out = [relayFrame 6 (leBytes 2 0x5128 ++ [s.sec.made.step] ++ leBytes 1
      0xFF)])

/-- The self-test's commands and events carry out their effect. A permitted test of a bank starts on its units with its
lanes under test and answers its duration; so does a memory test on a quiet device; while one runs another is answered
BUSY. TEST.ABORT ends the named test and releases its lanes; of a test that does not run it is refused BAD_STATE.
TEST.GET_RESULT answers the record asked for, or an empty one. A check done is entered in the record and the next one
follows; at the end the record is stored with PASS, FAIL by signature when every check and pattern is done, else
INCOMPLETE, and end cause 0. Each of these forms completes with a next state in every state that meets its conditions:
testStart, testAbort, testGetResult, testCheckDone, testComplete (R277, R414, R415, R417, R418, R419, R420, R421, Table
14-9). -/
def Obligations.SelfTestCommands : Prop :=
  (∀ (s : State) (k : Sess) (a : Bytes) (p : Phys), s.holds k 0x1101 a → byteAt a 0 = 0 ∧ byteAt a 1 < 8 ∧
      s.sec.test = none ∧ s.scopePermitted false = true ∧ checkQualifies (s.askedRecord a) = true ∧
      s.testAdmitted (s.testLanes (byteAt a 1)).length = true ∧ p ∈ (s.askedRecord a).physLanes →
      Answers (.testStart k) s k 0x1101 .ok 0 (leBytes 4 (s.askedRecord a).duration) fun t => t.sec.test.map (fun x =>
      (x.record, x.todo, x.duration)) = some (s.askedRecord a, (s.askedRecord a).todo, (s.askedRecord a).duration) ∧
      (t.ln p).selftest = true) ∧
  (∀ (s : State) (k : Sess) (a : Bytes), s.holds k 0x1101 a → byteAt a 0 = 1 ∧ s.sec.test = none ∧
      s.scopePermitted true = true ∧ s.memoryTestReady = true ∧ (s.askedRecord a).checks ≠ 0 →
      Answers (.testStart k) s k 0x1101 .ok 0 (leBytes 4 (s.askedRecord a).duration) fun t => t.sec.test.map (fun x =>
      (x.record, x.todo)) = some (s.askedRecord a, (s.askedRecord a).todo)) ∧
  (∀ (s : State) (k : Sess) (a : Bytes), s.holds k 0x1101 a → s.sec.test.isSome → Answers (.testStart k) s k 0x1101 .busy
      0 [] fun t => t.sec = s.sec ∧ t.lane = s.lane) ∧
  (∀ (s : State) (k : Sess) (a : Bytes) (x : TestRun) (p : Phys), s.holds k 0x1102 a → s.sec.test = some x ∧
      x.record.scope = byteAt a 0 ∧ x.record.scope < 8 ∧ p ∈ x.record.physLanes → Answers (.testAbort k) s k 0x1102 .ok 0
      [] fun t => t.sec.test = none ∧ (t.ln p).selftest = false) ∧
  (∀ (s : State) (k : Sess) (a : Bytes), s.holds k 0x1102 a → (∀ x ∈ s.sec.test, x.record.scope ≠ byteAt a 0) →
      Answers (.testAbort k) s k 0x1102 .badState 0 [] fun t => t.sec = s.sec) ∧
  (∀ (s : State) (k : Sess) (a : Bytes) (r : TestRecord), s.holds k 0x1103 a → (s.sec.flash.tests.toList.getD (scopeSlot
      (byteAt a 0)) [])[byteAt a 1]? = some r → Answers (.testGetResult k) s k 0x1103 .ok 0 r.bytes fun t =>
      t.sec = s.sec) ∧
  (∀ (s : State) (k : Sess) (a : Bytes), s.holds k 0x1103 a → (s.sec.flash.tests.toList.getD (scopeSlot (byteAt a 0))
      []).length ≤ byteAt a 1 → Answers (.testGetResult k) s k 0x1103 .ok 0 (leBytes 1 1 ++ leBytes 1 (byteAt a 0) ++
      zeros 62) fun t => t.sec = s.sec) ∧
  (∀ (s : State) (x : CheckFound) (r : TestRun) (c : Nat) (rest : List Nat), s.sec.test = some r ∧ r.todo = c :: rest →
      Leads (.testCheckDone x) s fun t => t.sec.test.map (fun y => (y.record, y.todo)) = some (r.record.afterCheck c x,
      rest)) ∧
  (∀ (s : State) (r : TestRun), s.sec.test = some r ∧ r.todo = [] → Leads .testComplete s fun t => t.sec.test = none ∧
      (t.sec.flash.tests.toList.getD (scopeSlot r.record.scope) []).head?.map (fun y => (y.outcome,
      y.endCause)) = some (if r.record.checksDone = r.record.checks ∧ r.record.patterns = r.record.expected then (if
      testSignature r.sigs = testSignature r.expSigs then 1 else 2) else 3, 0))
end

