-- ==== Sys2Proof/Laws/FrameBase.lean ====
section
/-!
SUPPORT. Frames: the relation SameBut and what each update of a unit keeps.
-/
set_option maxRecDepth 10000
namespace Sys2Proof.Machine


theorem SameBut.refl (ps : List Part) (s : State) : SameBut ps s s := by
  intro q _
  cases q <;> exact rfl

theorem Part.same_trans {q : Part} {s t u : State} (h : q.same s t) (k : q.same t u) : q.same s u := by
  cases q <;> exact Eq.trans k h

theorem SameBut.trans {ps : List Part} {s t u : State} (h : SameBut ps s t) (k : SameBut ps t u) : SameBut ps s u :=
  fun q hq => Part.same_trans (h q hq) (k q hq)

theorem SameBut.ite {ps : List Part} {s a b : State} {c : Prop} [Decidable c] (ha : SameBut ps s a) (hb : SameBut ps s b) :
    SameBut ps s (if c then a else b) := by split <;> assumption

theorem SameBut.iteKeep {ps : List Part} {s a b : State} {c : Prop} [Decidable c] (hb : SameBut ps s b)
    (ha : SameBut ps s b → SameBut ps s a) : SameBut ps s (if c then a else b) := by split <;> simp_all

theorem SameBut.pair {α : Type} {ps : List Part} {s a : State} {i : α} (h : SameBut ps s (i, a).2) : SameBut ps s a := h

theorem SameBut.foldl {α : Type} {ps : List Part} {s t : State} (l : List α) (f : State → α → State) (h : SameBut ps s t)
    (k : ∀ x a, SameBut ps s x → SameBut ps s (f x a)) : SameBut ps s (l.foldl f t) := by
  induction l generalizing t with
  | nil => exact h
  | cons a l ih => exact ih (k t a h)

theorem SameBut.foldlSnd {α β : Type} {ps : List Part} {s : State} (l : List α) (f : β × State → α → β × State) (x :
    β × State)
    (h : SameBut ps s x.2) (k : ∀ y a, SameBut ps s y.2 → SameBut ps s (f y a).2) : SameBut ps s (l.foldl f x).2 := by
  induction l generalizing x with
  | nil => exact h
  | cons a l ih => exact ih (f x a) (k x a h)

theorem SameBut.each {α : Type} {ps : List Part} {s t : State} (l : List α) (f : α → State → State) (h : SameBut ps s t)
    (k : ∀ a x, SameBut ps s x → SameBut ps s (f a x)) : SameBut ps s (t.each l f) :=
  SameBut.foldl l _ h fun x a => k a x

theorem SameBut.guarded {ps : List Part} {s t : State} (c : List (Bool × Reply)) (go : State → Reply × State)
    (h : SameBut ps s t) (k : ∀ x, SameBut ps s x → SameBut ps s (go x).2) : SameBut ps s (t.guarded c go).2 := by
  unfold State.guarded
  split
  · exact h
  · exact k _ h

theorem SameBut.forAllSel {n : Nat} {ps : List Part} {s t : State} (all : Bool) (l : List (Fin n))
    (check : Fin n → Option Reply) (f : Fin n → State → State)
    (h : SameBut ps s t) (k : ∀ i x, SameBut ps s x → SameBut ps s (f i x)) : SameBut ps s (t.forAllSel all l check f).2 := by
  unfold State.forAllSel
  dsimp only
  split
  · exact h
  · exact h
  · exact SameBut.each _ _ h k

theorem SameBut.mod {ps : List Part} {s t u : State} (h : SameBut ps s t) (k : ∀ q, q ∉ ps → q.same t u) : SameBut ps s u :=
  h.trans k

theorem SameBut.modCtl {ps : List Part} {s t : State} {f : ControlPlane → ControlPlane} (h : SameBut ps s t)
    (k : ∀ q, q ∉ ps → q.same t (t.modCtl f)) : SameBut ps s (t.modCtl f) := h.trans k
theorem SameBut.modSys {ps : List Part} {s t : State} {f : SystemUnit → SystemUnit} (h : SameBut ps s t)
    (k : ∀ q, q ∉ ps → q.same t (t.modSys f)) : SameBut ps s (t.modSys f) := h.trans k
theorem SameBut.modSec {ps : List Part} {s t : State} {f : SecureUnit → SecureUnit} (h : SameBut ps s t)
    (k : ∀ q, q ∉ ps → q.same t (t.modSec f)) : SameBut ps s (t.modSec f) := h.trans k
theorem SameBut.modPhoton {ps : List Part} {s t : State} {f : PhotonUnit → PhotonUnit} (h : SameBut ps s t)
    (k : ∀ q, q ∉ ps → q.same t (t.modPhoton f)) : SameBut ps s (t.modPhoton f) := h.trans k

theorem SameBut.setPerf {ps : List Part} {s t : State} (v : Vector PerfUnit 192) (h : SameBut ps s t)
    (hs : [.perf] ⊆ ps) : SameBut ps s (t.modCtl fun c => { c with perf := v }) := by
  refine SameBut.modCtl h ?_
  (intro q hq; cases q <;> first | exact rfl | exact absurd (hs (by decide)) hq)

theorem SameBut.drawKeeps {ps : List Part} {s t : State} (h : SameBut ps s t) (hs : [.free] ⊆ ps) :
    SameBut ps s t.draw.2 := by
  refine h.mod ?_
  (intro q hq; cases q <;> first | exact rfl | exact absurd (hs (by decide)) hq)

theorem State.modImg_keeps {ps : List Part} {s t : State} (h : SameBut ps s t)
    (hs : [.img] ⊆ ps) (f : ImageUnit → ImageUnit) : SameBut ps s (t.modImg f) := by
  refine h.mod ?_
  (intro q hq; cases q <;> first | exact rfl | exact absurd (hs (by decide)) hq)

theorem State.modFlash_keeps {ps : List Part} {s t : State} (h : SameBut ps s t)
    (hs : [.flash] ⊆ ps) (f : FlashUnit → FlashUnit) : SameBut ps s (t.modFlash f) := by
  refine h.mod ?_
  (intro q hq; cases q <;> first | exact rfl | exact absurd (hs (by decide)) hq)

theorem State.modClk_keeps {ps : List Part} {s t : State} (h : SameBut ps s t)
    (hs : [.clk] ⊆ ps) (f : ClockUnit → ClockUnit) : SameBut ps s (t.modClk f) := by
  refine h.mod ?_
  (intro q hq; cases q <;> first | exact rfl | exact absurd (hs (by decide)) hq)

theorem State.modPins_keeps {ps : List Part} {s t : State} (h : SameBut ps s t)
    (hs : [.pins] ⊆ ps) (f : PinUnit → PinUnit) : SameBut ps s (t.modPins f) := by
  refine h.mod ?_
  (intro q hq; cases q <;> first | exact rfl | exact absurd (hs (by decide)) hq)

theorem State.modPower_keeps {ps : List Part} {s t : State} (h : SameBut ps s t)
    (hs : [.power] ⊆ ps) (f : PowerUnit → PowerUnit) : SameBut ps s (t.modPower f) := by
  refine h.mod ?_
  (intro q hq; cases q <;> first | exact rfl | exact absurd (hs (by decide)) hq)

theorem State.modAvs_keeps {ps : List Part} {s t : State} (h : SameBut ps s t)
    (hs : [.avs] ⊆ ps) (f : AvsUnit → AvsUnit) : SameBut ps s (t.modAvs f) := by
  refine h.mod ?_
  (intro q hq; cases q <;> first | exact rfl | exact absurd (hs (by decide)) hq)

theorem State.modCore_keeps {ps : List Part} {s t : State} (h : SameBut ps s t)
    (hs : [.core] ⊆ ps) (c : Core) (f : CoreUnit → CoreUnit) : SameBut ps s (t.modCore c f) := by
  refine h.mod ?_
  (intro q hq; cases q <;> first | exact rfl | exact absurd (hs (by decide)) hq)

theorem State.modArr_keeps {ps : List Part} {s t : State} (h : SameBut ps s t)
    (hs : [.mem] ⊆ ps) (a : Arr) (f : SramUnit → SramUnit) : SameBut ps s (t.modArr a f) := by
  refine h.mod ?_
  (intro q hq; cases q <;> first | exact rfl | exact absurd (hs (by decide)) hq)

theorem State.modLane_keeps {ps : List Part} {s t : State} (h : SameBut ps s t)
    (hs : [.lane] ⊆ ps) (p : Phys) (f : LaneUnit → LaneUnit) : SameBut ps s (t.modLane p f) := by
  refine h.mod ?_
  (intro q hq; cases q <;> first | exact rfl | exact absurd (hs (by decide)) hq)

theorem State.modRx_keeps {ps : List Part} {s t : State} (h : SameBut ps s t)
    (hs : [.rx] ⊆ ps) (p : Phys) (f : RxLane → RxLane) : SameBut ps s (t.modRx p f) := by
  refine h.mod ?_
  (intro q hq; cases q <;> first | exact rfl | exact absurd (hs (by decide)) hq)

theorem State.modDiag_keeps {ps : List Part} {s t : State} (h : SameBut ps s t)
    (hs : [.rx] ⊆ ps) (p : Phys) (f : RxDiag → RxDiag) : SameBut ps s (t.modDiag p f) := by
  refine h.mod ?_
  (intro q hq; cases q <;> first | exact rfl | exact absurd (hs (by decide)) hq)

theorem State.modAcq_keeps {ps : List Part} {s t : State} (h : SameBut ps s t)
    (hs : [.acq] ⊆ ps) (p : Phys) (f : Acq → Acq) : SameBut ps s (t.modAcq p f) := by
  refine h.mod ?_
  (intro q hq; cases q <;> first | exact rfl | exact absurd (hs (by decide)) hq)

theorem State.modDec_keeps {ps : List Part} {s t : State} (h : SameBut ps s t)
    (hs : [.dec] ⊆ ps) (p : Phys) (f : DecodeLane → DecodeLane) : SameBut ps s (t.modDec p f) := by
  refine h.mod ?_
  (intro q hq; cases q <;> first | exact rfl | exact absurd (hs (by decide)) hq)

theorem State.modTx_keeps {ps : List Part} {s t : State} (h : SameBut ps s t)
    (hs : [.tx] ⊆ ps) (p : Phys) (f : TxLane → TxLane) : SameBut ps s (t.modTx p f) := by
  refine h.mod ?_
  (intro q hq; cases q <;> first | exact rfl | exact absurd (hs (by decide)) hq)

theorem State.modTxDiag_keeps {ps : List Part} {s t : State} (h : SameBut ps s t)
    (hs : [.tx] ⊆ ps) (p : Phys) (f : TxDiag → TxDiag) : SameBut ps s (t.modTxDiag p f) := by
  refine h.mod ?_
  (intro q hq; cases q <;> first | exact rfl | exact absurd (hs (by decide)) hq)

theorem State.modWork_keeps {ps : List Part} {s t : State} (h : SameBut ps s t)
    (hs : [.work] ⊆ ps) (w : Work) (f : WorkLane → WorkLane) : SameBut ps s (t.modWork w f) := by
  refine h.mod ?_
  (intro q hq; cases q <;> first | exact rfl | exact absurd (hs (by decide)) hq)

theorem State.modFec_keeps {ps : List Part} {s t : State} (h : SameBut ps s t)
    (hs : [.work] ⊆ ps) (w : Work) (f : FecLane → FecLane) : SameBut ps s (t.modFec w f) := by
  refine h.mod ?_
  (intro q hq; cases q <;> first | exact rfl | exact absurd (hs (by decide)) hq)

theorem State.modTxw_keeps {ps : List Part} {s t : State} (h : SameBut ps s t)
    (hs : [.work] ⊆ ps) (w : Work) (f : TxWork → TxWork) : SameBut ps s (t.modTxw w f) := by
  refine h.mod ?_
  (intro q hq; cases q <;> first | exact rfl | exact absurd (hs (by decide)) hq)

theorem State.modBurst_keeps {ps : List Part} {s t : State} (h : SameBut ps s t)
    (hs : [.work] ⊆ ps) (w : Work) (f : BurstLane → BurstLane) : SameBut ps s (t.modBurst w f) := by
  refine h.mod ?_
  (intro q hq; cases q <;> first | exact rfl | exact absurd (hs (by decide)) hq)

theorem State.modGroup_keeps {ps : List Part} {s t : State} (h : SameBut ps s t)
    (hs : [.group] ⊆ ps) (g : Group) (f : HostGroup → HostGroup) : SameBut ps s (t.modGroup g f) := by
  refine h.mod ?_
  (intro q hq; cases q <;> first | exact rfl | exact absurd (hs (by decide)) hq)

theorem State.modBias_keeps {ps : List Part} {s t : State} (h : SameBut ps s t)
    (hs : [.bias] ⊆ ps) (o : Bias) (f : BiasOut → BiasOut) : SameBut ps s (t.modBias o f) := by
  refine h.mod ?_
  (intro q hq; cases q <;> first | exact rfl | exact absurd (hs (by decide)) hq)

theorem State.modMon_keeps {ps : List Part} {s t : State} (h : SameBut ps s t)
    (hs : [.mon] ⊆ ps) (u : Mon) (f : MonUnit → MonUnit) : SameBut ps s (t.modMon u f) := by
  refine h.mod ?_
  (intro q hq; cases q <;> first | exact rfl | exact absurd (hs (by decide)) hq)

theorem State.modFilter_keeps {ps : List Part} {s t : State} (h : SameBut ps s t)
    (hs : [.filter] ⊆ ps) (c : Fch) (f : FilterCh → FilterCh) : SameBut ps s (t.modFilter c f) := by
  refine h.mod ?_
  (intro q hq; cases q <;> first | exact rfl | exact absurd (hs (by decide)) hq)

theorem State.modEpoch_keeps {ps : List Part} {s t : State} (h : SameBut ps s t)
    (hs : [.epoch] ⊆ ps) (f : EpochUnit → EpochUnit) : SameBut ps s (t.modEpoch f) := by
  refine h.mod ?_
  (intro q hq; cases q <;> first | exact rfl | exact absurd (hs (by decide)) hq)

theorem State.modTherm_keeps {ps : List Part} {s t : State} (h : SameBut ps s t)
    (hs : [.therm] ⊆ ps) (f : ThermUnit → ThermUnit) : SameBut ps s (t.modTherm f) := by
  refine h.mod ?_
  (intro q hq; cases q <;> first | exact rfl | exact absurd (hs (by decide)) hq)

theorem State.modCal_keeps {ps : List Part} {s t : State} (h : SameBut ps s t)
    (hs : [.cal] ⊆ ps) (f : CalUnit → CalUnit) : SameBut ps s (t.modCal f) := by
  refine h.mod ?_
  (intro q hq; cases q <;> first | exact rfl | exact absurd (hs (by decide)) hq)

theorem State.modCalLane_keeps {ps : List Part} {s t : State} (h : SameBut ps s t)
    (hs : [.cal] ⊆ ps) (p : Phys) (f : CalLane → CalLane) : SameBut ps s (t.modCalLane p f) := by
  refine h.mod ?_
  (intro q hq; cases q <;> first | exact rfl | exact absurd (hs (by decide)) hq)

theorem State.modAge_keeps {ps : List Part} {s t : State} (h : SameBut ps s t)
    (hs : [.age] ⊆ ps) (f : AgeUnit → AgeUnit) : SameBut ps s (t.modAge f) := by
  refine h.mod ?_
  (intro q hq; cases q <;> first | exact rfl | exact absurd (hs (by decide)) hq)

theorem State.modSess_keeps {ps : List Part} {s t : State} (h : SameBut ps s t)
    (hs : [.sess] ⊆ ps) (k : Sess) (f : Session → Session) : SameBut ps s (t.modSess k f) := by
  refine h.mod ?_
  (intro q hq; cases q <;> first | exact rfl | exact absurd (hs (by decide)) hq)

end Sys2Proof.Machine
end

