-- ==== Sys2Proof/Laws/FrameOps1.lean ====
section
/-!
SUPPORT. Frames: what each shared operation keeps.
-/
set_option maxRecDepth 10000
namespace Sys2Proof.Machine

theorem State.settleEvents_keeps {ps : List Part} {s0 t : State} (h : SameBut ps s0 t)
    (hs : [.ev] ⊆ ps)  : SameBut ps s0 (State.settleEvents t) := by
  unfold State.settleEvents
  repeat' first
    | with_reducible exact h
    | with_reducible assumption
    | ((with_reducible refine SameBut.iteKeep ?_ ?_); rotate_left; intro h; rotate_left)
    | ((with_reducible refine SameBut.modCtl ?_ ?_); rotate_left; (intro q hq; cases q <;> first | exact rfl | exact absurd (hs (by decide)) hq))
    | split
    | (dsimp only)

theorem State.trigPulse_keeps {ps : List Part} {s0 t : State} (h : SameBut ps s0 t)
    (hs : [.trigPins] ⊆ ps) (e : Ev) : SameBut ps s0 (State.trigPulse t e) := by
  unfold State.trigPulse
  repeat' first
    | with_reducible exact h
    | with_reducible assumption
    | ((with_reducible refine SameBut.iteKeep ?_ ?_); rotate_left; intro h; rotate_left)
    | ((with_reducible refine SameBut.modPhoton ?_ ?_); rotate_left; (intro q hq; cases q <;> first | exact rfl | exact absurd (hs (by decide)) hq))
    | split
    | (dsimp only)

theorem State.raiseNow_keeps {ps : List Part} {s0 t : State} (h : SameBut ps s0 t)
    (hs : [.ev, .trigPins] ⊆ ps) (e : Ev) (source : Nat) (code : Nat) (arg1 : Nat) (arg2 : Nat) (coalesced : Nat) :
        SameBut ps s0 (State.raiseNow t e source code arg1 arg2 coalesced) := by
  unfold State.raiseNow
  have h1 : [.ev] ⊆ ps := List.Subset.trans (by decide) hs
  have h2 : [.trigPins] ⊆ ps := List.Subset.trans (by decide) hs
  repeat' first
    | with_reducible exact h
    | with_reducible assumption
    | with_reducible refine State.settleEvents_keeps ?_ h1 ..
    | with_reducible refine State.trigPulse_keeps ?_ h2 ..
    | ((with_reducible refine SameBut.iteKeep ?_ ?_); rotate_left; intro h; rotate_left)
    | ((with_reducible refine SameBut.modCtl ?_ ?_); rotate_left; (intro q hq; cases q <;> first | exact rfl | exact absurd (hs (by decide)) hq))
    | split
    | (dsimp only)

theorem State.raise_keeps {ps : List Part} {s0 t : State} (h : SameBut ps s0 t)
    (hs : [.ev, .trigPins] ⊆ ps) (e : Ev) (source : Nat) (code : Nat) (arg1 : Nat) (arg2 : Nat) :
        SameBut ps s0 (State.raise t e source code arg1 arg2) := by
  unfold State.raise
  have h1 : [.ev, .trigPins] ⊆ ps := List.Subset.trans (by decide) hs
  repeat' first
    | with_reducible exact h
    | with_reducible assumption
    | with_reducible refine State.raiseNow_keeps ?_ h1 ..
    | ((with_reducible refine SameBut.iteKeep ?_ ?_); rotate_left; intro h; rotate_left)
    | ((with_reducible refine SameBut.modCtl ?_ ?_); rotate_left; (intro q hq; cases q <;> first | exact rfl | exact absurd (hs (by decide)) hq))
    | split
    | (dsimp only)

theorem State.raiseP_keeps {ps : List Part} {s0 t : State} (h : SameBut ps s0 t)
    (hs : [.ev, .trigPins] ⊆ ps) (e : Ev) (p : Phys) (code : Nat) (arg1 : Nat) (arg2 : Nat) :
        SameBut ps s0 (State.raiseP t e p code arg1 arg2) := by
  unfold State.raiseP
  have h1 : [.ev, .trigPins] ⊆ ps := List.Subset.trans (by decide) hs
  repeat' first
    | with_reducible exact h
    | with_reducible assumption
    | with_reducible refine State.raise_keeps ?_ h1 ..
    | split
    | (dsimp only)

theorem State.raiseW_keeps {ps : List Part} {s0 t : State} (h : SameBut ps s0 t)
    (hs : [.ev, .trigPins] ⊆ ps) (e : Ev) (w : Work) (code : Nat) (arg1 : Nat) (arg2 : Nat) :
        SameBut ps s0 (State.raiseW t e w code arg1 arg2) := by
  unfold State.raiseW
  have h1 : [.ev, .trigPins] ⊆ ps := List.Subset.trans (by decide) hs
  repeat' first
    | with_reducible exact h
    | with_reducible assumption
    | with_reducible refine State.raise_keeps ?_ h1 ..
    | split
    | (dsimp only)

theorem State.freeSess_keeps {ps : List Part} {s0 t : State} (h : SameBut ps s0 t)
    (hs : [.sess, .ev, .trigPins] ⊆ ps) (k : Sess) : SameBut ps s0 (State.freeSess t k) := by
  unfold State.freeSess
  have h1 : [.ev, .trigPins] ⊆ ps := List.Subset.trans (by decide) hs
  have h2 : [.sess] ⊆ ps := List.Subset.trans (by decide) hs
  repeat' first
    | with_reducible exact h
    | with_reducible assumption
    | with_reducible refine State.raise_keeps ?_ h1 ..
    | with_reducible refine State.modSess_keeps ?_ h2 ..
    | split
    | (dsimp only)

theorem State.respond_keeps {ps : List Part} {s0 t : State} (h : SameBut ps s0 t)
    (hs : [.sess, .ev, .trigPins] ⊆ ps) (k : Sess) (r : Result) (detail : Nat) (data : Bytes) :
        SameBut ps s0 (State.respond t k r detail data) := by
  unfold State.respond
  have h1 : [.sess, .ev, .trigPins] ⊆ ps := List.Subset.trans (by decide) hs
  have h2 : [.ev, .trigPins] ⊆ ps := List.Subset.trans (by decide) hs
  have h3 : [.sess] ⊆ ps := List.Subset.trans (by decide) hs
  repeat' first
    | with_reducible exact h
    | with_reducible assumption
    | with_reducible refine State.freeSess_keeps ?_ h1 ..
    | with_reducible refine State.raise_keeps ?_ h2 ..
    | with_reducible refine State.modSess_keeps ?_ h3 ..
    | ((with_reducible refine SameBut.iteKeep ?_ ?_); rotate_left; intro h; rotate_left)
    | split
    | (dsimp only)

theorem SameBut.runCmd {ps : List Part} {s t : State} (code : Nat) (k : Sess) (body : Bytes → State → Reply × State)
    (hs : [.sess, .ev, .trigPins] ⊆ ps) (h : SameBut ps s t) (hb : ∀ a x, SameBut ps s x → SameBut ps s (body a x).2) :
    SameBut ps s (t.runCmd code k body) := by
  unfold State.runCmd
  split
  · exact h
  · rename_i c _
    have h2 := hb c.args t h
    dsimp only
    split
    · exact h
    · split
      · exact State.respond_keeps h2 hs _ _ _ _
      · exact State.modSess_keeps h2 (List.Subset.trans (by decide) hs) _ _
      · exact h2

theorem State.answer_keeps {ps : List Part} {s0 t : State} (h : SameBut ps s0 t)
    (hs : [.sess, .ev, .trigPins] ⊆ ps) (k : Sess) (code : Nat) (r : Result) (detail : Nat) (data : Bytes) :
        SameBut ps s0 (State.answer t k code r detail data) := by
  unfold State.answer
  have h1 : [.sess, .ev, .trigPins] ⊆ ps := List.Subset.trans (by decide) hs
  repeat' first
    | with_reducible exact h
    | with_reducible assumption
    | with_reducible refine State.respond_keeps ?_ h1 ..
    | ((with_reducible refine SameBut.iteKeep ?_ ?_); rotate_left; intro h; rotate_left)
    | split
    | (dsimp only)

theorem State.answerOpt_keeps {ps : List Part} {s0 t : State} (h : SameBut ps s0 t)
    (hs : [.sess, .ev, .trigPins] ⊆ ps) (k : Option Sess) (code : Nat) (r : Result) (detail : Nat) (data : Bytes) :
        SameBut ps s0 (State.answerOpt t k code r detail data) := by
  unfold State.answerOpt
  have h1 : [.sess, .ev, .trigPins] ⊆ ps := List.Subset.trans (by decide) hs
  repeat' first
    | with_reducible exact h
    | with_reducible assumption
    | with_reducible refine State.answer_keeps ?_ h1 ..
    | split
    | (dsimp only)

theorem State.stepBall_keeps {ps : List Part} {s0 t : State} (h : SameBut ps s0 t)
    (hs : [.bias, .trigPins, .filter] ⊆ ps) (o : Bias) (code : Nat) : SameBut ps s0 (State.stepBall t o code) := by
  unfold State.stepBall
  have h1 : [.bias] ⊆ ps := List.Subset.trans (by decide) hs
  repeat' first
    | with_reducible exact h
    | with_reducible assumption
    | with_reducible refine State.modBias_keeps ?_ h1 ..
    | ((with_reducible refine SameBut.iteKeep ?_ ?_); rotate_left; intro h; rotate_left)
    | ((with_reducible refine SameBut.modPhoton ?_ ?_); rotate_left; (intro q hq; cases q <;> first | exact rfl | exact absurd (hs (by decide)) hq))
    | split
    | (dsimp only)

theorem State.zeroBias_keeps {ps : List Part} {s0 t : State} (h : SameBut ps s0 t)
    (hs : [.bias, .trigPins, .filter] ⊆ ps) (o : Bias) : SameBut ps s0 (State.zeroBias t o) := by
  unfold State.zeroBias
  have h1 : [.bias, .trigPins, .filter] ⊆ ps := List.Subset.trans (by decide) hs
  have h2 : [.bias] ⊆ ps := List.Subset.trans (by decide) hs
  repeat' first
    | with_reducible exact h
    | with_reducible assumption
    | with_reducible refine State.stepBall_keeps ?_ h1 ..
    | with_reducible refine State.modBias_keeps ?_ h2 ..
    | split
    | (dsimp only)

theorem State.moveRange_keeps {ps : List Part} {s0 t : State} (h : SameBut ps s0 t)
    (hs : [.bias, .trigPins, .filter] ⊆ ps) (o : Bias) (c : RangeChange) : SameBut ps s0 (State.moveRange t o c) := by
  unfold State.moveRange
  have h1 : [.bias, .trigPins, .filter] ⊆ ps := List.Subset.trans (by decide) hs
  have h2 : [.bias] ⊆ ps := List.Subset.trans (by decide) hs
  repeat' first
    | with_reducible exact h
    | with_reducible assumption
    | with_reducible refine State.stepBall_keeps ?_ h1 ..
    | with_reducible refine State.modBias_keeps ?_ h2 ..
    | ((with_reducible refine SameBut.iteKeep ?_ ?_); rotate_left; intro h; rotate_left)
    | split
    | (dsimp only)

theorem State.applyBias_keeps {ps : List Part} {s0 t : State} (h : SameBut ps s0 t)
    (hs : [.bias, .trigPins, .filter] ⊆ ps) (o : Bias) (n : Nat) : SameBut ps s0 (State.applyBias t o n) := by
  unfold State.applyBias
  have h1 : [.bias, .trigPins, .filter] ⊆ ps := List.Subset.trans (by decide) hs
  have h2 : [.bias] ⊆ ps := List.Subset.trans (by decide) hs
  repeat' first
    | with_reducible exact h
    | with_reducible assumption
    | with_reducible refine State.stepBall_keeps ?_ h1 ..
    | with_reducible refine State.modBias_keeps ?_ h2 ..
    | ((with_reducible refine SameBut.iteKeep ?_ ?_); rotate_left; intro h; rotate_left)
    | split
    | (dsimp only)

theorem State.loopWrite_keeps {ps : List Part} {s0 t : State} (h : SameBut ps s0 t)
    (hs : [.bias] ⊆ ps) (o : Bias) (code : Nat) : SameBut ps s0 (State.loopWrite t o code) := by
  unfold State.loopWrite
  have h1 : [.bias] ⊆ ps := List.Subset.trans (by decide) hs
  repeat' first
    | with_reducible exact h
    | with_reducible assumption
    | with_reducible refine State.modBias_keeps ?_ h1 ..
    | ((with_reducible refine SameBut.iteKeep ?_ ?_); rotate_left; intro h; rotate_left)
    | split
    | (dsimp only)

theorem State.freezeLoop_keeps {ps : List Part} {s0 t : State} (h : SameBut ps s0 t)
    (hs : [.ev, .bias, .trigPins] ⊆ ps) (o : Bias) (c : FreezeCause) : SameBut ps s0 (State.freezeLoop t o c) := by
  unfold State.freezeLoop
  have h1 : [.bias] ⊆ ps := List.Subset.trans (by decide) hs
  have h2 : [.ev, .trigPins] ⊆ ps := List.Subset.trans (by decide) hs
  repeat' first
    | with_reducible exact h
    | with_reducible assumption
    | with_reducible refine State.loopWrite_keeps ?_ h1 ..
    | with_reducible refine State.raise_keeps ?_ h2 ..
    | with_reducible refine State.modBias_keeps ?_ h1 ..
    | ((with_reducible refine SameBut.iteKeep ?_ ?_); rotate_left; intro h; rotate_left)
    | split
    | (dsimp only)

theorem State.thawLoop_keeps {ps : List Part} {s0 t : State} (h : SameBut ps s0 t)
    (hs : [.bias] ⊆ ps) (o : Bias) (c : FreezeCause) : SameBut ps s0 (State.thawLoop t o c) := by
  unfold State.thawLoop
  have h1 : [.bias] ⊆ ps := List.Subset.trans (by decide) hs
  repeat' first
    | with_reducible exact h
    | with_reducible assumption
    | with_reducible refine State.modBias_keeps ?_ h1 ..
    | ((with_reducible refine SameBut.iteKeep ?_ ?_); rotate_left; intro h; rotate_left)
    | split
    | (dsimp only)

theorem State.freezeLane_keeps {ps : List Part} {s0 t : State} (h : SameBut ps s0 t)
    (hs : [.ev, .bias, .trigPins] ⊆ ps) (p : Phys) (c : FreezeCause) : SameBut ps s0 (State.freezeLane t p c) := by
  unfold State.freezeLane
  have h1 : [.ev, .bias, .trigPins] ⊆ ps := List.Subset.trans (by decide) hs
  repeat' first
    | with_reducible exact h
    | with_reducible assumption
    | with_reducible refine State.freezeLoop_keeps ?_ h1 ..
    | ((with_reducible refine SameBut.each _ _ ?_ ?_); rotate_left; intro _ _ h; rotate_left)
    | split
    | (dsimp only)

theorem State.thawLane_keeps {ps : List Part} {s0 t : State} (h : SameBut ps s0 t)
    (hs : [.bias] ⊆ ps) (p : Phys) (c : FreezeCause) : SameBut ps s0 (State.thawLane t p c) := by
  unfold State.thawLane
  have h1 : [.bias] ⊆ ps := List.Subset.trans (by decide) hs
  repeat' first
    | with_reducible exact h
    | with_reducible assumption
    | with_reducible refine State.thawLoop_keeps ?_ h1 ..
    | ((with_reducible refine SameBut.each _ _ ?_ ?_); rotate_left; intro _ _ h; rotate_left)
    | split
    | (dsimp only)

theorem State.freezeAll_keeps {ps : List Part} {s0 t : State} (h : SameBut ps s0 t)
    (hs : [.ev, .bias, .trigPins] ⊆ ps) (c : FreezeCause) : SameBut ps s0 (State.freezeAll t c) := by
  unfold State.freezeAll
  have h1 : [.ev, .bias, .trigPins] ⊆ ps := List.Subset.trans (by decide) hs
  repeat' first
    | with_reducible exact h
    | with_reducible assumption
    | with_reducible refine State.freezeLoop_keeps ?_ h1 ..
    | ((with_reducible refine SameBut.each _ _ ?_ ?_); rotate_left; intro _ _ h; rotate_left)
    | split
    | (dsimp only)

theorem State.thawAll_keeps {ps : List Part} {s0 t : State} (h : SameBut ps s0 t)
    (hs : [.bias] ⊆ ps) (c : FreezeCause) : SameBut ps s0 (State.thawAll t c) := by
  unfold State.thawAll
  have h1 : [.bias] ⊆ ps := List.Subset.trans (by decide) hs
  repeat' first
    | with_reducible exact h
    | with_reducible assumption
    | with_reducible refine State.thawLoop_keeps ?_ h1 ..
    | ((with_reducible refine SameBut.each _ _ ?_ ?_); rotate_left; intro _ _ h; rotate_left)
    | split
    | (dsimp only)

theorem State.latchFault_keeps {ps : List Part} {s0 t : State} (h : SameBut ps s0 t)
    (hs : [.sess, .ev, .bias, .trigPins, .filter] ⊆ ps) (o : Bias) (fault : Nat) :
        SameBut ps s0 (State.latchFault t o fault) := by
  unfold State.latchFault
  have h1 : [.sess, .ev, .trigPins] ⊆ ps := List.Subset.trans (by decide) hs
  have h2 : [.ev, .bias, .trigPins] ⊆ ps := List.Subset.trans (by decide) hs
  have h3 : [.bias, .trigPins, .filter] ⊆ ps := List.Subset.trans (by decide) hs
  have h4 : [.bias] ⊆ ps := List.Subset.trans (by decide) hs
  repeat' first
    | with_reducible exact h
    | with_reducible assumption
    | with_reducible refine State.answer_keeps ?_ h1 ..
    | with_reducible refine State.freezeLoop_keeps ?_ h2 ..
    | with_reducible refine State.zeroBias_keeps ?_ h3 ..
    | with_reducible refine State.modBias_keeps ?_ h4 ..
    | ((with_reducible refine SameBut.iteKeep ?_ ?_); rotate_left; intro h; rotate_left)
    | split
    | (dsimp only)

theorem State.setDev_keeps {ps : List Part} {s0 t : State} (h : SameBut ps s0 t)
    (hs : [.ev, .power, .trigPins] ⊆ ps) (st : DevPower) (cause : Nat) : SameBut ps s0 (State.setDev t st cause) := by
  unfold State.setDev
  have h1 : [.ev, .trigPins] ⊆ ps := List.Subset.trans (by decide) hs
  have h2 : [.power] ⊆ ps := List.Subset.trans (by decide) hs
  repeat' first
    | with_reducible exact h
    | with_reducible assumption
    | with_reducible refine State.raise_keeps ?_ h1 ..
    | with_reducible refine State.modPower_keeps ?_ h2 ..
    | ((with_reducible refine SameBut.iteKeep ?_ ?_); rotate_left; intro h; rotate_left)
    | split
    | (dsimp only)

theorem State.leaveQuiet_keeps {ps : List Part} {s0 t : State} (h : SameBut ps s0 t)
    (hs : [.ev, .power, .trigPins] ⊆ ps)  : SameBut ps s0 (State.leaveQuiet t) := by
  unfold State.leaveQuiet
  have h1 : [.ev, .power, .trigPins] ⊆ ps := List.Subset.trans (by decide) hs
  repeat' first
    | with_reducible exact h
    | with_reducible assumption
    | with_reducible refine State.setDev_keeps ?_ h1 ..
    | ((with_reducible refine SameBut.iteKeep ?_ ?_); rotate_left; intro h; rotate_left)
    | split
    | (dsimp only)

theorem State.setGroupPower_keeps {ps : List Part} {s0 t : State} (h : SameBut ps s0 t)
    (hs : [.ev, .power, .group, .trigPins] ⊆ ps) (g : Group) (st : GroupPower) (cause : Nat) :
        SameBut ps s0 (State.setGroupPower t g st cause) := by
  unfold State.setGroupPower
  have h1 : [.ev, .power, .trigPins] ⊆ ps := List.Subset.trans (by decide) hs
  have h2 : [.ev, .trigPins] ⊆ ps := List.Subset.trans (by decide) hs
  have h3 : [.group] ⊆ ps := List.Subset.trans (by decide) hs
  repeat' first
    | with_reducible exact h
    | with_reducible assumption
    | with_reducible refine State.leaveQuiet_keeps ?_ h1 ..
    | with_reducible refine State.raise_keeps ?_ h2 ..
    | with_reducible refine State.modGroup_keeps ?_ h3 ..
    | ((with_reducible refine SameBut.iteKeep ?_ ?_); rotate_left; intro h; rotate_left)
    | split
    | (dsimp only)

theorem State.modChan_keeps {ps : List Part} {s0 t : State} (h : SameBut ps s0 t)
    (hs : [.group] ⊆ ps) (w : Work) (f : HostChan → HostChan) : SameBut ps s0 (State.modChan t w f) := by
  unfold State.modChan
  have h1 : [.group] ⊆ ps := List.Subset.trans (by decide) hs
  repeat' first
    | with_reducible exact h
    | with_reducible assumption
    | with_reducible refine State.modGroup_keeps ?_ h1 ..
    | split
    | (dsimp only)

theorem State.rawBack_keeps {ps : List Part} {s0 t : State} (h : SameBut ps s0 t)
    (hs : [.ev, .group, .trigPins] ⊆ ps) (w : Work) (bits : List Bool) : SameBut ps s0 (State.rawBack t w bits) := by
  unfold State.rawBack
  have h1 : [.group] ⊆ ps := List.Subset.trans (by decide) hs
  have h2 : [.ev, .trigPins] ⊆ ps := List.Subset.trans (by decide) hs
  repeat' first
    | with_reducible exact h
    | with_reducible assumption
    | with_reducible refine State.modChan_keeps ?_ h1 ..
    | with_reducible refine State.raise_keeps ?_ h2 ..
    | with_reducible refine State.modGroup_keeps ?_ h1 ..
    | ((with_reducible refine SameBut.iteKeep ?_ ?_); rotate_left; intro h; rotate_left)
    | split
    | (dsimp only)

theorem State.hostPut_keeps {ps : List Part} {s0 t : State} (h : SameBut ps s0 t)
    (hs : [.group] ⊆ ps) (w : Work) (bytes : Bytes) : SameBut ps s0 (State.hostPut t w bytes) := by
  unfold State.hostPut
  have h1 : [.group] ⊆ ps := List.Subset.trans (by decide) hs
  repeat' first
    | with_reducible exact h
    | with_reducible assumption
    | with_reducible refine State.modChan_keeps ?_ h1 ..
    | split
    | (dsimp only)

theorem State.hostFrame_keeps {ps : List Part} {s0 t : State} (h : SameBut ps s0 t)
    (hs : [.group] ⊆ ps) (w : Work) (station : Nat) (seq : BitVec 32) (payload : Bytes) (sketch : Bool) :
        SameBut ps s0 (State.hostFrame t w station seq payload sketch) := by
  unfold State.hostFrame
  have h1 : [.group] ⊆ ps := List.Subset.trans (by decide) hs
  repeat' first
    | with_reducible exact h
    | with_reducible assumption
    | with_reducible refine State.hostPut_keeps ?_ h1 ..
    | with_reducible refine State.modChan_keeps ?_ h1 ..
    | ((with_reducible refine SameBut.iteKeep ?_ ?_); rotate_left; intro h; rotate_left)
    | split
    | (dsimp only)

theorem State.hostDesc_keeps {ps : List Part} {s0 t : State} (h : SameBut ps s0 t)
    (hs : [.group] ⊆ ps) (w : Work) (kind : Nat) (station : Nat) (tag : BitVec 32) :
        SameBut ps s0 (State.hostDesc t w kind station tag) := by
  unfold State.hostDesc
  have h1 : [.group] ⊆ ps := List.Subset.trans (by decide) hs
  repeat' first
    | with_reducible exact h
    | with_reducible assumption
    | with_reducible refine State.hostPut_keeps ?_ h1 ..
    | split
    | (dsimp only)

theorem State.hostRefuse_keeps {ps : List Part} {s0 t : State} (h : SameBut ps s0 t)
    (hs : [.group] ⊆ ps) (w : Work) (station : Nat) (reason : Nat) (tag : BitVec 32) :
        SameBut ps s0 (State.hostRefuse t w station reason tag) := by
  unfold State.hostRefuse
  have h1 : [.group] ⊆ ps := List.Subset.trans (by decide) hs
  repeat' first
    | with_reducible exact h
    | with_reducible assumption
    | with_reducible refine State.hostPut_keeps ?_ h1 ..
    | with_reducible refine State.modChan_keeps ?_ h1 ..
    | with_reducible refine State.modGroup_keeps ?_ h1 ..
    | split
    | (dsimp only)

theorem State.hostAccept_keeps {ps : List Part} {s0 t : State} (h : SameBut ps s0 t)
    (hs : [.group] ⊆ ps) (w : Work) (tag : BitVec 32) : SameBut ps s0 (State.hostAccept t w tag) := by
  unfold State.hostAccept
  have h1 : [.group] ⊆ ps := List.Subset.trans (by decide) hs
  repeat' first
    | with_reducible exact h
    | with_reducible assumption
    | with_reducible refine State.modChan_keeps ?_ h1 ..
    | with_reducible refine State.modGroup_keeps ?_ h1 ..
    | split
    | (dsimp only)

theorem State.takeSpareClock_keeps {ps : List Part} {s0 t : State} (h : SameBut ps s0 t)
    (hs : [.ev, .group, .trigPins] ⊆ ps) (g : Group) : SameBut ps s0 (State.takeSpareClock t g) := by
  unfold State.takeSpareClock
  have h1 : [.ev, .trigPins] ⊆ ps := List.Subset.trans (by decide) hs
  have h2 : [.group] ⊆ ps := List.Subset.trans (by decide) hs
  repeat' first
    | with_reducible exact h
    | with_reducible assumption
    | with_reducible refine State.raise_keeps ?_ h1 ..
    | with_reducible refine State.modGroup_keeps ?_ h2 ..
    | ((with_reducible refine SameBut.iteKeep ?_ ?_); rotate_left; intro h; rotate_left)
    | split
    | (dsimp only)

theorem State.retrain_keeps {ps : List Part} {s0 t : State} (h : SameBut ps s0 t)
    (hs : [.ev, .power, .group, .trigPins] ⊆ ps) (g : Group) (code : Nat) (repair : Bool) (ask : Bool) :
        SameBut ps s0 (State.retrain t g code repair ask) := by
  unfold State.retrain
  have h1 : [.ev, .trigPins] ⊆ ps := List.Subset.trans (by decide) hs
  have h2 : [.ev, .power, .group, .trigPins] ⊆ ps := List.Subset.trans (by decide) hs
  have h3 : [.ev, .group, .trigPins] ⊆ ps := List.Subset.trans (by decide) hs
  have h4 : [.group] ⊆ ps := List.Subset.trans (by decide) hs
  repeat' first
    | with_reducible exact h
    | with_reducible assumption
    | with_reducible refine State.raise_keeps ?_ h1 ..
    | with_reducible refine State.setGroupPower_keeps ?_ h2 ..
    | with_reducible refine State.takeSpareClock_keeps ?_ h3 ..
    | with_reducible refine State.modGroup_keeps ?_ h4 ..
    | ((with_reducible refine SameBut.iteKeep ?_ ?_); rotate_left; intro h; rotate_left)
    | split
    | (dsimp only)

theorem State.partnerFresh_keeps {ps : List Part} {s0 t : State} (h : SameBut ps s0 t)
    (hs : [.ev, .work, .group, .trigPins] ⊆ ps) (g : Group) : SameBut ps s0 (State.partnerFresh t g) := by
  unfold State.partnerFresh
  have h1 : [.ev, .trigPins] ⊆ ps := List.Subset.trans (by decide) hs
  have h2 : [.work] ⊆ ps := List.Subset.trans (by decide) hs
  have h3 : [.group] ⊆ ps := List.Subset.trans (by decide) hs
  repeat' first
    | with_reducible exact h
    | with_reducible assumption
    | with_reducible refine State.raise_keeps ?_ h1 ..
    | with_reducible refine State.modWork_keeps ?_ h2 ..
    | with_reducible refine State.modGroup_keeps ?_ h3 ..
    | ((with_reducible refine SameBut.each _ _ ?_ ?_); rotate_left; intro _ _ h; rotate_left)
    | split
    | (dsimp only)

theorem State.groupOut_keeps {ps : List Part} {s0 t : State} (h : SameBut ps s0 t)
    (hs : [.sess, .ev, .core, .power, .mem, .lane, .rx, .acq, .dec, .tx, .work, .gallery, .group, .bias, .trigPins,
        .cal] ⊆ ps) (g : Group) : SameBut ps s0 (State.groupOut t g) := by
  unfold State.groupOut
  have h1 : [.sess, .ev, .core, .power, .mem, .lane, .rx, .acq, .dec, .tx, .work, .gallery, .group, .bias, .trigPins,
      .cal] ⊆ ps := List.Subset.trans (by decide) hs
  have h2 : [.ev, .trigPins] ⊆ ps := List.Subset.trans (by decide) hs
  have h3 : [.group] ⊆ ps := List.Subset.trans (by decide) hs
  repeat' first
    | with_reducible exact h
    | with_reducible assumption
    | with_reducible refine State.outOfService_keeps ?_ h1 ..
    | with_reducible refine State.raise_keeps ?_ h2 ..
    | with_reducible refine State.modGroup_keeps ?_ h3 ..
    | split
    | (dsimp only)

theorem State.narrow_keeps {ps : List Part} {s0 t : State} (h : SameBut ps s0 t)
    (hs : [.sess, .ev, .core, .power, .mem, .lane, .rx, .acq, .dec, .tx, .work, .gallery, .group, .bias, .trigPins,
        .cal] ⊆ ps) (g : Group) (ask : Bool) : SameBut ps s0 (State.narrow t g ask) := by
  unfold State.narrow
  have h1 : [.sess, .ev, .core, .power, .mem, .lane, .rx, .acq, .dec, .tx, .work, .gallery, .group, .bias, .trigPins,
      .cal] ⊆ ps := List.Subset.trans (by decide) hs
  have h2 : [.ev, .trigPins] ⊆ ps := List.Subset.trans (by decide) hs
  have h3 : [.ev, .power, .group, .trigPins] ⊆ ps := List.Subset.trans (by decide) hs
  have h4 : [.group] ⊆ ps := List.Subset.trans (by decide) hs
  repeat' first
    | with_reducible exact h
    | with_reducible assumption
    | with_reducible refine State.groupOut_keeps ?_ h1 ..
    | with_reducible refine State.raise_keeps ?_ h2 ..
    | with_reducible refine State.retrain_keeps ?_ h3 ..
    | with_reducible refine State.modGroup_keeps ?_ h4 ..
    | ((with_reducible refine SameBut.iteKeep ?_ ?_); rotate_left; intro h; rotate_left)
    | split
    | (dsimp only)

theorem State.repairReq_keeps {ps : List Part} {s0 t : State} (h : SameBut ps s0 t)
    (hs : [.sess, .ev, .core, .power, .mem, .lane, .rx, .acq, .dec, .tx, .work, .gallery, .group, .bias, .trigPins,
        .cal] ⊆ ps) (g : Group) (role : Nat) : SameBut ps s0 (State.repairReq t g role) := by
  unfold State.repairReq
  have h1 : [.sess, .ev, .core, .power, .mem, .lane, .rx, .acq, .dec, .tx, .work, .gallery, .group, .bias, .trigPins,
      .cal] ⊆ ps := List.Subset.trans (by decide) hs
  have h2 : [.group] ⊆ ps := List.Subset.trans (by decide) hs
  repeat' first
    | with_reducible exact h
    | with_reducible assumption
    | with_reducible refine State.narrow_keeps ?_ h1 ..
    | with_reducible refine State.outOfService_keeps ?_ h1 ..
    | with_reducible refine State.modGroup_keeps ?_ h2 ..
    | ((with_reducible refine SameBut.iteKeep ?_ ?_); rotate_left; intro h; rotate_left)
    | split
    | (dsimp only)

theorem State.raiseMem_keeps {ps : List Part} {s0 t : State} (h : SameBut ps s0 t)
    (hs : [.ev, .trigPins] ⊆ ps) (e : Ev) (a : Arr) (addr : Nat) : SameBut ps s0 (State.raiseMem t e a addr) := by
  unfold State.raiseMem
  have h1 : [.ev, .trigPins] ⊆ ps := List.Subset.trans (by decide) hs
  repeat' first
    | with_reducible exact h
    | with_reducible assumption
    | with_reducible refine State.raise_keeps ?_ h1 ..
    | split
    | (dsimp only)

theorem State.foundCe_keeps {ps : List Part} {s0 t : State} (h : SameBut ps s0 t)
    (hs : [.ev, .mem, .trigPins] ⊆ ps) (a : Arr) (addr : Nat) (syn : BitVec 7) (fix : Option (BitVec 32)) :
        SameBut ps s0 (State.foundCe t a addr syn fix) := by
  unfold State.foundCe
  have h1 : [.ev, .trigPins] ⊆ ps := List.Subset.trans (by decide) hs
  have h2 : [.mem] ⊆ ps := List.Subset.trans (by decide) hs
  repeat' first
    | with_reducible exact h
    | with_reducible assumption
    | with_reducible refine State.raiseMem_keeps ?_ h1 ..
    | with_reducible refine State.modArr_keeps ?_ h2 ..
    | ((with_reducible refine SameBut.iteKeep ?_ ?_); rotate_left; intro h; rotate_left)
    | split
    | (dsimp only)

theorem State.sramRead_keeps {ps : List Part} {s0 t : State} (h : SameBut ps s0 t)
    (hs : [.ev, .mem, .trigPins] ⊆ ps) (a : Arr) (addr : Nat) (scrub : Bool) :
        SameBut ps s0 (State.sramRead t a addr scrub).2 := by
  unfold State.sramRead
  have h1 : [.ev, .mem, .trigPins] ⊆ ps := List.Subset.trans (by decide) hs
  have h2 : [.mem] ⊆ ps := List.Subset.trans (by decide) hs
  repeat' first
    | with_reducible exact h
    | with_reducible assumption
    | with_reducible refine State.foundCe_keeps ?_ h1 ..
    | with_reducible refine State.modArr_keeps ?_ h2 ..
    | ((with_reducible refine SameBut.iteKeep ?_ ?_); rotate_left; intro h; rotate_left)
    | split
    | (dsimp only)

theorem State.sramWrite_keeps {ps : List Part} {s0 t : State} (h : SameBut ps s0 t)
    (hs : [.mem] ⊆ ps) (a : Arr) (addr : Nat) (d : BitVec 32) : SameBut ps s0 (State.sramWrite t a addr d) := by
  unfold State.sramWrite
  have h1 : [.mem] ⊆ ps := List.Subset.trans (by decide) hs
  repeat' first
    | with_reducible exact h
    | with_reducible assumption
    | with_reducible refine State.modArr_keeps ?_ h1 ..
    | split
    | (dsimp only)

theorem State.sramPartial_keeps {ps : List Part} {s0 t : State} (h : SameBut ps s0 t)
    (hs : [.ev, .mem, .trigPins] ⊆ ps) (a : Arr) (addr : Nat) (d : BitVec 32) (en : BitVec 4) :
        SameBut ps s0 (State.sramPartial t a addr d en).2 := by
  unfold State.sramPartial
  have h1 : [.ev, .trigPins] ⊆ ps := List.Subset.trans (by decide) hs
  have h2 : [.ev, .mem, .trigPins] ⊆ ps := List.Subset.trans (by decide) hs
  have h3 : [.mem] ⊆ ps := List.Subset.trans (by decide) hs
  repeat' first
    | with_reducible exact h
    | with_reducible assumption
    | with_reducible refine State.raiseMem_keeps ?_ h1 ..
    | with_reducible refine State.sramRead_keeps ?_ h2 ..
    | with_reducible refine State.sramWrite_keeps ?_ h3 ..
    | with_reducible refine State.modArr_keeps ?_ h3 ..
    | ((with_reducible refine SameBut.iteKeep ?_ ?_); rotate_left; intro h; rotate_left)
    | split
    | (dsimp only)

theorem State.disturb_keeps {ps : List Part} {s0 t : State} (h : SameBut ps s0 t)
    (hs : [.mem] ⊆ ps) (a : Arr) (addr : Nat) (x : BitVec 42) : SameBut ps s0 (State.disturb t a addr x) := by
  unfold State.disturb
  have h1 : [.mem] ⊆ ps := List.Subset.trans (by decide) hs
  repeat' first
    | with_reducible exact h
    | with_reducible assumption
    | with_reducible refine State.modArr_keeps ?_ h1 ..
    | ((with_reducible refine SameBut.iteKeep ?_ ?_); rotate_left; intro h; rotate_left)
    | split
    | (dsimp only)

theorem State.unitWrite_keeps {ps : List Part} {s0 t : State} (h : SameBut ps s0 t)
    (hs : [.mem] ⊆ ps) (a : Arr) (base : Nat) (len : Nat) : SameBut ps s0 (State.unitWrite t a base len) := by
  unfold State.unitWrite
  have h1 : [.mem] ⊆ ps := List.Subset.trans (by decide) hs
  repeat' first
    | with_reducible exact h
    | with_reducible assumption
    | with_reducible refine State.modArr_keeps ?_ h1 ..
    | split
    | (dsimp only)

theorem State.wordsRead_keeps {ps : List Part} {s0 t : State} (h : SameBut ps s0 t)
    (hs : [.ev, .mem, .trigPins] ⊆ ps) (a : Arr) (pos : Nat → Option Nat) (d : Option (Nat × BitVec 42)) :
        SameBut ps s0 (State.wordsRead t a pos d).2 := by
  unfold State.wordsRead
  have h1 : [.mem] ⊆ ps := List.Subset.trans (by decide) hs
  have h2 : [.ev, .mem, .trigPins] ⊆ ps := List.Subset.trans (by decide) hs
  repeat' first
    | with_reducible exact h
    | with_reducible assumption
    | with_reducible refine State.disturb_keeps ?_ h1 ..
    | with_reducible refine State.sramRead_keeps ?_ h2 ..
    | ((with_reducible refine SameBut.iteKeep ?_ ?_); rotate_left; intro h; rotate_left)
    | ((with_reducible refine SameBut.foldlSnd _ _ _ ?_ ?_); rotate_left; intro _ _ h; rotate_left)
    | ((with_reducible refine SameBut.foldl _ _ ?_ ?_); rotate_left; intro _ _ h; rotate_left)
    | split
    | (dsimp only)

theorem State.unitRead_keeps {ps : List Part} {s0 t : State} (h : SameBut ps s0 t)
    (hs : [.ev, .mem, .trigPins] ⊆ ps) (a : Arr) (base : Nat) (len : Nat) (d : Option (Nat × BitVec 42)) :
        SameBut ps s0 (State.unitRead t a base len d).2 := by
  unfold State.unitRead
  have h1 : [.ev, .mem, .trigPins] ⊆ ps := List.Subset.trans (by decide) hs
  repeat' first
    | with_reducible exact h
    | with_reducible assumption
    | with_reducible refine State.wordsRead_keeps ?_ h1 ..
    | ((with_reducible refine SameBut.iteKeep ?_ ?_); rotate_left; intro h; rotate_left)
    | split
    | (dsimp only)

theorem State.ringRead_keeps {ps : List Part} {s0 t : State} (h : SameBut ps s0 t)
    (hs : [.ev, .mem, .trigPins] ⊆ ps) (a : Arr) (size : Nat) (first : Nat) (count : Nat) (d :
        Option (Nat × BitVec 42)) : SameBut ps s0 (State.ringRead t a size first count d).2 := by
  unfold State.ringRead
  have h1 : [.ev, .mem, .trigPins] ⊆ ps := List.Subset.trans (by decide) hs
  repeat' first
    | with_reducible exact h
    | with_reducible assumption
    | with_reducible refine State.wordsRead_keeps ?_ h1 ..
    | ((with_reducible refine SameBut.iteKeep ?_ ?_); rotate_left; intro h; rotate_left)
    | split
    | (dsimp only)

theorem State.loadCore_keeps {ps : List Part} {s0 t : State} (h : SameBut ps s0 t)
    (hs : [.mem] ⊆ ps) (h' : Bytes) (c : Core) : SameBut ps s0 (State.loadCore t h' c) := by
  unfold State.loadCore
  have h1 : [.mem] ⊆ ps := List.Subset.trans (by decide) hs
  repeat' first
    | with_reducible exact h
    | with_reducible assumption
    | with_reducible refine State.modArr_keeps ?_ h1 ..
    | split
    | (dsimp only)

theorem State.loadCores_keeps {ps : List Part} {s0 t : State} (h : SameBut ps s0 t)
    (hs : [.mem] ⊆ ps) (h' : Bytes) : SameBut ps s0 (State.loadCores t h') := by
  unfold State.loadCores
  have h1 : [.mem] ⊆ ps := List.Subset.trans (by decide) hs
  repeat' first
    | with_reducible exact h
    | with_reducible assumption
    | with_reducible refine State.loadCore_keeps ?_ h1 ..
    | ((with_reducible refine SameBut.each _ _ ?_ ?_); rotate_left; intro _ _ h; rotate_left)
    | split
    | (dsimp only)

theorem State.refillCore_keeps {ps : List Part} {s0 t : State} (h : SameBut ps s0 t)
    (hs : [.mem] ⊆ ps) (c : Core) (addr : Nat) : SameBut ps s0 (State.refillCore t c addr) := by
  unfold State.refillCore
  have h1 : [.mem] ⊆ ps := List.Subset.trans (by decide) hs
  repeat' first
    | with_reducible exact h
    | with_reducible assumption
    | with_reducible refine State.sramWrite_keeps ?_ h1 ..
    | split
    | (dsimp only)

theorem State.writeSlot_keeps {ps : List Part} {s0 t : State} (h : SameBut ps s0 t)
    (hs : [.mem] ⊆ ps) (slot : Nat × Nat) : SameBut ps s0 (State.writeSlot t slot) := by
  unfold State.writeSlot
  have h1 : [.mem] ⊆ ps := List.Subset.trans (by decide) hs
  repeat' first
    | with_reducible exact h
    | with_reducible assumption
    | with_reducible refine State.unitWrite_keeps ?_ h1 ..
    | split
    | (dsimp only)

theorem State.readSlot_keeps {ps : List Part} {s0 t : State} (h : SameBut ps s0 t)
    (hs : [.ev, .mem, .trigPins] ⊆ ps) (slot : Nat × Nat) : SameBut ps s0 (State.readSlot t slot).2 := by
  unfold State.readSlot
  have h1 : [.ev, .mem, .trigPins] ⊆ ps := List.Subset.trans (by decide) hs
  repeat' first
    | with_reducible exact h
    | with_reducible assumption
    | with_reducible refine State.unitRead_keeps ?_ h1 ..
    | split
    | (dsimp only)

theorem State.setLanePower_keeps {ps : List Part} {s0 t : State} (h : SameBut ps s0 t)
    (hs : [.ev, .power, .lane, .bias, .trigPins] ⊆ ps) (p : Phys) (st : LanePower) (cause : Nat) :
        SameBut ps s0 (State.setLanePower t p st cause) := by
  unfold State.setLanePower
  have h1 : [.ev, .bias, .trigPins] ⊆ ps := List.Subset.trans (by decide) hs
  have h2 : [.ev, .power, .trigPins] ⊆ ps := List.Subset.trans (by decide) hs
  have h3 : [.ev, .trigPins] ⊆ ps := List.Subset.trans (by decide) hs
  have h4 : [.bias] ⊆ ps := List.Subset.trans (by decide) hs
  have h5 : [.lane] ⊆ ps := List.Subset.trans (by decide) hs
  repeat' first
    | with_reducible exact h
    | with_reducible assumption
    | with_reducible refine State.freezeLane_keeps ?_ h1 ..
    | with_reducible refine State.leaveQuiet_keeps ?_ h2 ..
    | with_reducible refine State.raise_keeps ?_ h3 ..
    | with_reducible refine State.thawLane_keeps ?_ h4 ..
    | with_reducible refine State.modLane_keeps ?_ h5 ..
    | ((with_reducible refine SameBut.iteKeep ?_ ?_); rotate_left; intro h; rotate_left)
    | split
    | (dsimp only)

theorem State.abortGroupEntry_keeps {ps : List Part} {s0 t : State} (h : SameBut ps s0 t)
    (hs : [.sess, .ev, .group, .trigPins] ⊆ ps) (g : Group) (r : Result) : SameBut ps s0 (State.abortGroupEntry t g r) := by
  unfold State.abortGroupEntry
  have h1 : [.sess, .ev, .trigPins] ⊆ ps := List.Subset.trans (by decide) hs
  have h2 : [.ev, .trigPins] ⊆ ps := List.Subset.trans (by decide) hs
  have h3 : [.group] ⊆ ps := List.Subset.trans (by decide) hs
  repeat' first
    | with_reducible exact h
    | with_reducible assumption
    | with_reducible refine State.answerOpt_keeps ?_ h1 ..
    | with_reducible refine State.raise_keeps ?_ h2 ..
    | with_reducible refine State.modGroup_keeps ?_ h3 ..
    | split
    | (dsimp only)

theorem State.abortLaneEntry_keeps {ps : List Part} {s0 t : State} (h : SameBut ps s0 t)
    (hs : [.ev, .lane, .trigPins] ⊆ ps) (p : Phys) : SameBut ps s0 (State.abortLaneEntry t p) := by
  unfold State.abortLaneEntry
  have h1 : [.ev, .trigPins] ⊆ ps := List.Subset.trans (by decide) hs
  have h2 : [.lane] ⊆ ps := List.Subset.trans (by decide) hs
  repeat' first
    | with_reducible exact h
    | with_reducible assumption
    | with_reducible refine State.raise_keeps ?_ h1 ..
    | with_reducible refine State.modLane_keeps ?_ h2 ..
    | split
    | (dsimp only)

theorem State.startDozeExit_keeps {ps : List Part} {s0 t : State} (h : SameBut ps s0 t)
    (hs : [.lane] ⊆ ps) (p : Phys) (cause : Nat) : SameBut ps s0 (State.startDozeExit t p cause) := by
  unfold State.startDozeExit
  have h1 : [.lane] ⊆ ps := List.Subset.trans (by decide) hs
  repeat' first
    | with_reducible exact h
    | with_reducible assumption
    | with_reducible refine State.modLane_keeps ?_ h1 ..
    | ((with_reducible refine SameBut.iteKeep ?_ ?_); rotate_left; intro h; rotate_left)
    | split
    | (dsimp only)

theorem State.fitPower_keeps {ps : List Part} {s0 t : State} (h : SameBut ps s0 t)
    (hs : [.ev, .power, .lane, .bias, .trigPins] ⊆ ps) (p : Phys) (m : LaneMode) : SameBut ps s0 (State.fitPower t p m) := by
  unfold State.fitPower
  have h1 : [.ev, .power, .lane, .bias, .trigPins] ⊆ ps := List.Subset.trans (by decide) hs
  have h2 : [.lane] ⊆ ps := List.Subset.trans (by decide) hs
  repeat' first
    | with_reducible exact h
    | with_reducible assumption
    | with_reducible refine State.setLanePower_keeps ?_ h1 ..
    | with_reducible refine State.modLane_keeps ?_ h2 ..
    | ((with_reducible refine SameBut.iteKeep ?_ ?_); rotate_left; intro h; rotate_left)
    | split
    | (dsimp only)

theorem State.slotPart_keeps {ps : List Part} {s0 t : State} (h : SameBut ps s0 t)
    (hs : [.lane, .rx, .tx, .bias] ⊆ ps) (p : Phys) (off : Nat) (hit : Nat → Bool) :
        SameBut ps s0 (State.slotPart t p off hit) := by
  unfold State.slotPart
  have h1 : [.lane] ⊆ ps := List.Subset.trans (by decide) hs
  have h2 : [.rx] ⊆ ps := List.Subset.trans (by decide) hs
  have h3 : [.tx] ⊆ ps := List.Subset.trans (by decide) hs
  have h4 : [.bias] ⊆ ps := List.Subset.trans (by decide) hs
  repeat' first
    | with_reducible exact h
    | with_reducible assumption
    | with_reducible refine State.modLane_keeps ?_ h1 ..
    | with_reducible refine State.modRx_keeps ?_ h2 ..
    | with_reducible refine State.modTx_keeps ?_ h3 ..
    | with_reducible refine State.modBias_keeps ?_ h4 ..
    | ((with_reducible refine SameBut.iteKeep ?_ ?_); rotate_left; intro h; rotate_left)
    | (refine SameBut.mod h ?_; (intro q hq; cases q <;> first | exact rfl | exact absurd (hs (by decide)) hq))
    | split
    | (dsimp only)

theorem State.freshSlot_keeps {ps : List Part} {s0 t : State} (h : SameBut ps s0 t)
    (hs : [.lane, .rx, .tx, .bias] ⊆ ps) (p : Phys) : SameBut ps s0 (State.freshSlot t p) := by
  unfold State.freshSlot
  have h1 : [.lane, .rx, .tx, .bias] ⊆ ps := List.Subset.trans (by decide) hs
  repeat' first
    | with_reducible exact h
    | with_reducible assumption
    | with_reducible refine State.slotPart_keeps ?_ h1 ..
    | ((with_reducible refine SameBut.each _ _ ?_ ?_); rotate_left; intro _ _ h; rotate_left)
    | split
    | (dsimp only)

theorem State.aonLost_keeps {ps : List Part} {s0 t : State} (h : SameBut ps s0 t)
    (hs : [.clk, .power, .mem, .lane, .rx, .tx, .group, .bias] ⊆ ps)  : SameBut ps s0 (State.aonLost t) := by
  unfold State.aonLost
  have h1 : [.lane, .rx, .tx, .bias] ⊆ ps := List.Subset.trans (by decide) hs
  have h2 : [.clk] ⊆ ps := List.Subset.trans (by decide) hs
  have h3 : [.power] ⊆ ps := List.Subset.trans (by decide) hs
  have h4 : [.mem] ⊆ ps := List.Subset.trans (by decide) hs
  have h5 : [.lane] ⊆ ps := List.Subset.trans (by decide) hs
  have h6 : [.group] ⊆ ps := List.Subset.trans (by decide) hs
  repeat' first
    | with_reducible exact h
    | with_reducible assumption
    | with_reducible refine State.freshSlot_keeps ?_ h1 ..
    | with_reducible refine State.modClk_keeps ?_ h2 ..
    | with_reducible refine State.modPower_keeps ?_ h3 ..
    | with_reducible refine State.modArr_keeps ?_ h4 ..
    | with_reducible refine State.modLane_keeps ?_ h5 ..
    | with_reducible refine State.modGroup_keeps ?_ h6 ..
    | ((with_reducible refine SameBut.iteKeep ?_ ?_); rotate_left; intro h; rotate_left)
    | ((with_reducible refine SameBut.each _ _ ?_ ?_); rotate_left; intro _ _ h; rotate_left)
    | split
    | (dsimp only)

theorem State.saveGroup_keeps {ps : List Part} {s0 t : State} (h : SameBut ps s0 t)
    (hs : [.mem, .group] ⊆ ps) (g : Group) : SameBut ps s0 (State.saveGroup t g) := by
  unfold State.saveGroup
  have h1 : [.mem] ⊆ ps := List.Subset.trans (by decide) hs
  have h2 : [.group] ⊆ ps := List.Subset.trans (by decide) hs
  repeat' first
    | with_reducible exact h
    | with_reducible assumption
    | with_reducible refine State.writeSlot_keeps ?_ h1 ..
    | with_reducible refine State.modGroup_keeps ?_ h2 ..
    | split
    | (dsimp only)

theorem State.restoreGroup_keeps {ps : List Part} {s0 t : State} (h : SameBut ps s0 t)
    (hs : [.ev, .mem, .lane, .rx, .tx, .group, .bias, .trigPins] ⊆ ps) (g : Group) :
        SameBut ps s0 (State.restoreGroup t g) := by
  unfold State.restoreGroup
  have h1 : [.ev, .trigPins] ⊆ ps := List.Subset.trans (by decide) hs
  have h2 : [.ev, .mem, .trigPins] ⊆ ps := List.Subset.trans (by decide) hs
  have h3 : [.lane, .rx, .tx, .bias] ⊆ ps := List.Subset.trans (by decide) hs
  have h4 : [.group] ⊆ ps := List.Subset.trans (by decide) hs
  repeat' first
    | with_reducible exact h
    | with_reducible assumption
    | with_reducible refine State.raise_keeps ?_ h1 ..
    | with_reducible refine State.readSlot_keeps ?_ h2 ..
    | with_reducible refine State.slotPart_keeps ?_ h3 ..
    | with_reducible refine State.modGroup_keeps ?_ h4 ..
    | ((with_reducible refine SameBut.iteKeep ?_ ?_); rotate_left; intro h; rotate_left)
    | ((with_reducible refine SameBut.each _ _ ?_ ?_); rotate_left; intro _ _ h; rotate_left)
    | split
    | (dsimp only)

theorem State.groupFromOff_keeps {ps : List Part} {s0 t : State} (h : SameBut ps s0 t)
    (hs : [.sess, .ev, .core, .power, .mem, .lane, .rx, .acq, .dec, .tx, .work, .gallery, .group, .bias, .trigPins,
        .cal] ⊆ ps) (g : Group) (cause : Nat) : SameBut ps s0 (State.groupFromOff t g cause) := by
  unfold State.groupFromOff
  have h1 : [.sess, .ev, .group, .trigPins] ⊆ ps := List.Subset.trans (by decide) hs
  have h2 : [.sess, .ev, .core, .power, .mem, .lane, .rx, .acq, .dec, .tx, .work, .gallery, .group, .bias, .trigPins,
      .cal] ⊆ ps := List.Subset.trans (by decide) hs
  have h3 : [.ev, .mem, .lane, .rx, .tx, .group, .bias, .trigPins] ⊆ ps := List.Subset.trans (by decide) hs
  have h4 : [.ev, .power, .group, .trigPins] ⊆ ps := List.Subset.trans (by decide) hs
  have h5 : [.group] ⊆ ps := List.Subset.trans (by decide) hs
  repeat' first
    | with_reducible exact h
    | with_reducible assumption
    | with_reducible refine State.abortGroupEntry_keeps ?_ h1 ..
    | with_reducible refine State.outOfService_keeps ?_ h2 ..
    | with_reducible refine State.restoreGroup_keeps ?_ h3 ..
    | with_reducible refine State.setGroupPower_keeps ?_ h4 ..
    | with_reducible refine State.modGroup_keeps ?_ h5 ..
    | ((with_reducible refine SameBut.iteKeep ?_ ?_); rotate_left; intro h; rotate_left)
    | split
    | (dsimp only)

theorem State.schedule_keeps {ps : List Part} {s0 t : State} (h : SameBut ps s0 t)
    (hs : [.mon] ⊆ ps) (u : Mon) : SameBut ps s0 (State.schedule t u) := by
  unfold State.schedule
  have h1 : [.mon] ⊆ ps := List.Subset.trans (by decide) hs
  repeat' first
    | with_reducible exact h
    | with_reducible assumption
    | with_reducible refine State.modMon_keeps ?_ h1 ..
    | ((with_reducible refine SameBut.iteKeep ?_ ?_); rotate_left; intro h; rotate_left)
    | split
    | (dsimp only)

theorem State.regularRun_keeps {ps : List Part} {s0 t : State} (h : SameBut ps s0 t)
    (hs : [.mon, .trigPins] ⊆ ps) (u : Mon) : SameBut ps s0 (State.regularRun t u) := by
  unfold State.regularRun
  have h1 : [.mon] ⊆ ps := List.Subset.trans (by decide) hs
  repeat' first
    | with_reducible exact h
    | with_reducible assumption
    | with_reducible refine State.modMon_keeps ?_ h1 ..
    | ((with_reducible refine SameBut.iteKeep ?_ ?_); rotate_left; intro h; rotate_left)
    | ((with_reducible refine SameBut.modPhoton ?_ ?_); rotate_left; (intro q hq; cases q <;> first | exact rfl | exact absurd (hs (by decide)) hq))
    | split
    | (dsimp only)

theorem State.injectTrigger_keeps {ps : List Part} {s0 t : State} (h : SameBut ps s0 t)
    (hs : [.ev, .mon, .trigPins] ⊆ ps) (u : Mon) : SameBut ps s0 (State.injectTrigger t u) := by
  unfold State.injectTrigger
  have h1 : [.ev, .trigPins] ⊆ ps := List.Subset.trans (by decide) hs
  have h2 : [.mon] ⊆ ps := List.Subset.trans (by decide) hs
  repeat' first
    | with_reducible exact h
    | with_reducible assumption
    | with_reducible refine State.raise_keeps ?_ h1 ..
    | with_reducible refine State.schedule_keeps ?_ h2 ..
    | with_reducible refine State.modMon_keeps ?_ h2 ..
    | ((with_reducible refine SameBut.iteKeep ?_ ?_); rotate_left; intro h; rotate_left)
    | split
    | (dsimp only)

theorem State.regularTrigger_keeps {ps : List Part} {s0 t : State} (h : SameBut ps s0 t)
    (hs : [.ev, .mon, .trigPins] ⊆ ps) (u : Mon) : SameBut ps s0 (State.regularTrigger t u) := by
  unfold State.regularTrigger
  have h1 : [.ev, .trigPins] ⊆ ps := List.Subset.trans (by decide) hs
  have h2 : [.mon, .trigPins] ⊆ ps := List.Subset.trans (by decide) hs
  have h3 : [.mon] ⊆ ps := List.Subset.trans (by decide) hs
  repeat' first
    | with_reducible exact h
    | with_reducible assumption
    | with_reducible refine State.raise_keeps ?_ h1 ..
    | with_reducible refine State.regularRun_keeps ?_ h2 ..
    | with_reducible refine State.schedule_keeps ?_ h3 ..
    | with_reducible refine State.modMon_keeps ?_ h3 ..
    | ((with_reducible refine SameBut.iteKeep ?_ ?_); rotate_left; intro h; rotate_left)
    | split
    | (dsimp only)

theorem State.urgent_keeps {ps : List Part} {s0 t : State} (h : SameBut ps s0 t)
    (hs : [.ev, .mon, .trigPins] ⊆ ps) (kind : Nat) (idx : Nat) : SameBut ps s0 (State.urgent t kind idx) := by
  unfold State.urgent
  have h1 : [.ev, .mon, .trigPins] ⊆ ps := List.Subset.trans (by decide) hs
  repeat' first
    | with_reducible exact h
    | with_reducible assumption
    | with_reducible refine State.injectTrigger_keeps ?_ h1 ..
    | ((with_reducible refine SameBut.iteKeep ?_ ?_); rotate_left; intro h; rotate_left)
    | ((with_reducible refine SameBut.each _ _ ?_ ?_); rotate_left; intro _ _ h; rotate_left)
    | split
    | (dsimp only)

theorem State.feedEntry_keeps {ps : List Part} {s0 t : State} (h : SameBut ps s0 t)
    (hs : [.ev, .trigPins, .filter] ⊆ ps) (c : Nat) (x : Int) (first : Bool) (last : Bool) :
        SameBut ps s0 (State.feedEntry t c x first last) := by
  unfold State.feedEntry
  have h1 : [.ev, .trigPins] ⊆ ps := List.Subset.trans (by decide) hs
  have h2 : [.filter] ⊆ ps := List.Subset.trans (by decide) hs
  repeat' first
    | with_reducible exact h
    | with_reducible assumption
    | with_reducible refine State.raise_keeps ?_ h1 ..
    | with_reducible refine State.modFilter_keeps ?_ h2 ..
    | ((with_reducible refine SameBut.iteKeep ?_ ?_); rotate_left; intro h; rotate_left)
    | split
    | (dsimp only)

theorem State.feedLoop_keeps {ps : List Part} {s0 t : State} (h : SameBut ps s0 t)
    (hs : [.ev, .trigPins, .filter] ⊆ ps) (c : Nat) (x : Int) (positive : Bool) :
        SameBut ps s0 (State.feedLoop t c x positive) := by
  unfold State.feedLoop
  have h1 : [.ev, .trigPins] ⊆ ps := List.Subset.trans (by decide) hs
  have h2 : [.filter] ⊆ ps := List.Subset.trans (by decide) hs
  repeat' first
    | with_reducible exact h
    | with_reducible assumption
    | with_reducible refine State.raise_keeps ?_ h1 ..
    | with_reducible refine State.modFilter_keeps ?_ h2 ..
    | ((with_reducible refine SameBut.iteKeep ?_ ?_); rotate_left; intro h; rotate_left)
    | split
    | (dsimp only)

theorem State.evAck_keeps {ps : List Part} {s0 t : State} (h : SameBut ps s0 t)
    (hs : [.ev] ⊆ ps) (q : Word) : ∀ out, State.evAck t q = some out → SameBut ps s0 out := by
  have h1 : [.ev] ⊆ ps := List.Subset.trans (by decide) hs
  intro out e
  unfold State.evAck at e
  split at e
  · cases e
  · split at e
    · cases e
      exact State.settleEvents_keeps (SameBut.modCtl h (by intro q hq; cases q <;> first | exact rfl | exact absurd (hs (by decide)) hq)) h1
    · cases e

theorem State.openSess_keeps {ps : List Part} {s0 t : State} (h : SameBut ps s0 t)
    (hs : [.sess, .ev, .trigPins] ⊆ ps) (i : Iface) (k : Sess) : SameBut ps s0 (State.openSess t i k) := by
  unfold State.openSess
  have h1 : [.ev, .trigPins] ⊆ ps := List.Subset.trans (by decide) hs
  have h2 : [.sess] ⊆ ps := List.Subset.trans (by decide) hs
  repeat' first
    | with_reducible exact h
    | with_reducible assumption
    | with_reducible refine State.raise_keeps ?_ h1 ..
    | with_reducible refine State.modSess_keeps ?_ h2 ..
    | ((with_reducible refine SameBut.iteKeep ?_ ?_); rotate_left; intro h; rotate_left)
    | split
    | (dsimp only)

theorem State.closeSess_keeps {ps : List Part} {s0 t : State} (h : SameBut ps s0 t)
    (hs : [.sess, .ev, .trigPins] ⊆ ps) (k : Sess) : SameBut ps s0 (State.closeSess t k) := by
  unfold State.closeSess
  have h1 : [.sess, .ev, .trigPins] ⊆ ps := List.Subset.trans (by decide) hs
  have h2 : [.sess] ⊆ ps := List.Subset.trans (by decide) hs
  repeat' first
    | with_reducible exact h
    | with_reducible assumption
    | with_reducible refine State.freeSess_keeps ?_ h1 ..
    | with_reducible refine State.modSess_keeps ?_ h2 ..
    | split
    | (dsimp only)

theorem State.writeSessCtrl_keeps {ps : List Part} {s0 t : State} (h : SameBut ps s0 t)
    (hs : [.sess, .ev, .trigPins] ⊆ ps) (i : Iface) (k : Sess) (d : Word) : SameBut ps s0 (State.writeSessCtrl t i k d) := by
  unfold State.writeSessCtrl
  have h1 : [.sess, .ev, .trigPins] ⊆ ps := List.Subset.trans (by decide) hs
  have h2 : [.sess] ⊆ ps := List.Subset.trans (by decide) hs
  repeat' first
    | with_reducible exact h
    | with_reducible assumption
    | with_reducible refine State.closeSess_keeps ?_ h1 ..
    | with_reducible refine State.openSess_keeps ?_ h1 ..
    | with_reducible refine State.modSess_keeps ?_ h2 ..
    | ((with_reducible refine SameBut.iteKeep ?_ ?_); rotate_left; intro h; rotate_left)
    | split
    | (dsimp only)

theorem State.countStart_keeps {ps : List Part} {s0 t : State} (h : SameBut ps s0 t)
    (hs : [.perf] ⊆ ps) (k : Sess) : SameBut ps s0 (State.countStart t k) := by
  unfold State.countStart
  repeat' first
    | with_reducible exact h
    | with_reducible assumption
    | ((with_reducible refine SameBut.iteKeep ?_ ?_); rotate_left; intro h; rotate_left)
    | ((with_reducible refine SameBut.modCtl ?_ ?_); rotate_left; (intro q hq; cases q <;> first | exact rfl | exact absurd (hs (by decide)) hq))
    | split
    | (dsimp only)

theorem State.useChallenge_keeps {ps : List Part} {s0 t : State} (h : SameBut ps s0 t)
    (hs : [.sess] ⊆ ps) (k : Sess) : SameBut ps s0 (State.useChallenge t k) := by
  unfold State.useChallenge
  have h1 : [.sess] ⊆ ps := List.Subset.trans (by decide) hs
  repeat' first
    | with_reducible exact h
    | with_reducible assumption
    | with_reducible refine State.modSess_keeps ?_ h1 ..
    | split
    | (dsimp only)

theorem State.takeRing_keeps {ps : List Part} {s0 t : State} (h : SameBut ps s0 t)
    (hs : [.bus, .sess, .ev, .perf, .trigPins] ⊆ ps) (k : Sess) (seq : Byte) : SameBut ps s0 (State.takeRing t k seq) := by
  unfold State.takeRing
  have h1 : [.perf] ⊆ ps := List.Subset.trans (by decide) hs
  have h2 : [.sess, .ev, .trigPins] ⊆ ps := List.Subset.trans (by decide) hs
  have h3 : [.sess] ⊆ ps := List.Subset.trans (by decide) hs
  repeat' first
    | with_reducible exact h
    | with_reducible assumption
    | with_reducible refine State.countStart_keeps ?_ h1 ..
    | with_reducible refine State.freeSess_keeps ?_ h2 ..
    | with_reducible refine State.respond_keeps ?_ h2 ..
    | with_reducible refine State.useChallenge_keeps ?_ h3 ..
    | with_reducible refine State.modSess_keeps ?_ h3 ..
    | ((with_reducible refine SameBut.iteKeep ?_ ?_); rotate_left; intro h; rotate_left)
    | ((with_reducible refine SameBut.modCtl ?_ ?_); rotate_left; (intro q hq; cases q <;> first | exact rfl | exact absurd (hs (by decide)) hq))
    | split
    | (dsimp only)

theorem State.releaseRings_keeps {ps : List Part} {s0 t : State} (h : SameBut ps s0 t)
    (hs : [.bus, .sess, .ev, .perf, .trigPins] ⊆ ps)  : SameBut ps s0 (State.releaseRings t) := by
  unfold State.releaseRings
  have h1 : [.bus, .sess, .ev, .perf, .trigPins] ⊆ ps := List.Subset.trans (by decide) hs
  repeat' first
    | with_reducible exact h
    | with_reducible assumption
    | with_reducible refine State.takeRing_keeps ?_ h1 ..
    | ((with_reducible refine SameBut.each _ _ ?_ ?_); rotate_left; intro _ _ h; rotate_left)
    | ((with_reducible refine SameBut.modCtl ?_ ?_); rotate_left; (intro q hq; cases q <;> first | exact rfl | exact absurd (hs (by decide)) hq))
    | split
    | (dsimp only)

theorem State.settleRings_keeps {ps : List Part} {s0 t : State} (h : SameBut ps s0 t)
    (hs : [.bus, .sess, .ev, .perf, .trigPins] ⊆ ps)  : SameBut ps s0 (State.settleRings t) := by
  unfold State.settleRings
  have h1 : [.bus, .sess, .ev, .perf, .trigPins] ⊆ ps := List.Subset.trans (by decide) hs
  repeat' first
    | with_reducible exact h
    | with_reducible assumption
    | with_reducible refine State.releaseRings_keeps ?_ h1 ..
    | ((with_reducible refine SameBut.iteKeep ?_ ?_); rotate_left; intro h; rotate_left)
    | split
    | (dsimp only)

theorem State.busErr_keeps {ps : List Part} {s0 t : State} (h : SameBut ps s0 t)
    (hs : [.bus, .ev, .trigPins] ⊆ ps) (i : Iface) (bit : Nat) : SameBut ps s0 (State.busErr t i bit) := by
  unfold State.busErr
  have h1 : [.ev, .trigPins] ⊆ ps := List.Subset.trans (by decide) hs
  repeat' first
    | with_reducible exact h
    | with_reducible assumption
    | with_reducible refine State.raise_keeps ?_ h1 ..
    | ((with_reducible refine SameBut.iteKeep ?_ ?_); rotate_left; intro h; rotate_left)
    | ((with_reducible refine SameBut.modCtl ?_ ?_); rotate_left; (intro q hq; cases q <;> first | exact rfl | exact absurd (hs (by decide)) hq))
    | split
    | (dsimp only)

theorem State.modWindow_keeps {ps : List Part} {s0 t : State} (h : SameBut ps s0 t)
    (hs : [.bus] ⊆ ps) (i : Iface) (f : IndWindow → IndWindow) : SameBut ps s0 (State.modWindow t i f) := by
  unfold State.modWindow
  repeat' first
    | with_reducible exact h
    | with_reducible assumption
    | ((with_reducible refine SameBut.modCtl ?_ ?_); rotate_left; (intro q hq; cases q <;> first | exact rfl | exact absurd (hs (by decide)) hq))
    | split
    | (dsimp only)

theorem State.applyPosted_keeps {ps : List Part} {s0 t : State} (h : SameBut ps s0 t)
    (hs : [.bus, .sess] ⊆ ps) (i : Iface) (x : PostedWrite) : SameBut ps s0 (State.applyPosted t i x) := by
  unfold State.applyPosted
  have h1 : [.bus] ⊆ ps := List.Subset.trans (by decide) hs
  have h2 : [.sess] ⊆ ps := List.Subset.trans (by decide) hs
  repeat' first
    | with_reducible exact h
    | with_reducible assumption
    | with_reducible refine State.modWindow_keeps ?_ h1 ..
    | with_reducible refine State.modSess_keeps ?_ h2 ..
    | ((with_reducible refine SameBut.iteKeep ?_ ?_); rotate_left; intro h; rotate_left)
    | split
    | (dsimp only)

theorem State.drainFifo_keeps {ps : List Part} {s0 t : State} (h : SameBut ps s0 t)
    (hs : [.bus, .sess] ⊆ ps) (i : Iface) : SameBut ps s0 (State.drainFifo t i) := by
  unfold State.drainFifo
  have h1 : [.bus, .sess] ⊆ ps := List.Subset.trans (by decide) hs
  have h2 : [.bus] ⊆ ps := List.Subset.trans (by decide) hs
  repeat' first
    | with_reducible exact h
    | with_reducible assumption
    | with_reducible refine State.applyPosted_keeps ?_ h1 ..
    | with_reducible refine State.modWindow_keeps ?_ h2 ..
    | ((with_reducible refine SameBut.each _ _ ?_ ?_); rotate_left; intro _ _ h; rotate_left)
    | split
    | (dsimp only)

theorem State.indPost_keeps {ps : List Part} {s0 t : State} (h : SameBut ps s0 t)
    (hs : [.bus] ⊆ ps) (i : Iface) (d : Word) : SameBut ps s0 (State.indPost t i d) := by
  unfold State.indPost
  have h1 : [.bus] ⊆ ps := List.Subset.trans (by decide) hs
  repeat' first
    | with_reducible exact h
    | with_reducible assumption
    | with_reducible refine State.modWindow_keeps ?_ h1 ..
    | ((with_reducible refine SameBut.iteKeep ?_ ?_); rotate_left; intro h; rotate_left)
    | split
    | (dsimp only)

theorem State.fetchDone_keeps {ps : List Part} {s0 t : State} (h : SameBut ps s0 t)
    (hs : [.bus] ⊆ ps) (i : Iface) (r : Prefetch) : SameBut ps s0 (State.fetchDone t i r) := by
  unfold State.fetchDone
  have h1 : [.bus] ⊆ ps := List.Subset.trans (by decide) hs
  repeat' first
    | with_reducible exact h
    | with_reducible assumption
    | with_reducible refine State.modWindow_keeps ?_ h1 ..
    | ((with_reducible refine SameBut.iteKeep ?_ ?_); rotate_left; intro h; rotate_left)
    | split
    | (dsimp only)

theorem State.clearTarget_keeps {ps : List Part} {s0 t : State} (h : SameBut ps s0 t)
    (hs : [.mon] ⊆ ps) (f : FetchedWord) : SameBut ps s0 (State.clearTarget t f) := by
  unfold State.clearTarget
  have h1 : [.mon] ⊆ ps := List.Subset.trans (by decide) hs
  repeat' first
    | with_reducible exact h
    | with_reducible assumption
    | with_reducible refine State.modMon_keeps ?_ h1 ..
    | ((with_reducible refine SameBut.iteKeep ?_ ?_); rotate_left; intro h; rotate_left)
    | split
    | (dsimp only)

theorem State.indTake_keeps {ps : List Part} {s0 t : State} (h : SameBut ps s0 t)
    (hs : [.bus, .mon] ⊆ ps) (i : Iface) : SameBut ps s0 (State.indTake t i).2 := by
  unfold State.indTake
  have h1 : [.mon] ⊆ ps := List.Subset.trans (by decide) hs
  have h2 : [.bus] ⊆ ps := List.Subset.trans (by decide) hs
  repeat' first
    | with_reducible exact h
    | with_reducible assumption
    | with_reducible refine State.clearTarget_keeps ?_ h1 ..
    | with_reducible refine State.modWindow_keeps ?_ h2 ..
    | split
    | (dsimp only)

theorem State.clearRc_keeps {ps : List Part} {s0 t : State} (h : SameBut ps s0 t)
    (hs : [.bus, .sess, .ev, .clk] ⊆ ps) (i : Iface) (addr : Nat) : SameBut ps s0 (State.clearRc t i addr) := by
  unfold State.clearRc
  have h1 : [.bus] ⊆ ps := List.Subset.trans (by decide) hs
  have h2 : [.ev] ⊆ ps := List.Subset.trans (by decide) hs
  have h3 : [.clk] ⊆ ps := List.Subset.trans (by decide) hs
  have h4 : [.sess] ⊆ ps := List.Subset.trans (by decide) hs
  repeat' first
    | with_reducible exact h
    | with_reducible assumption
    | with_reducible refine State.modWindow_keeps ?_ h1 ..
    | with_reducible refine State.settleEvents_keeps ?_ h2 ..
    | with_reducible refine State.modClk_keeps ?_ h3 ..
    | with_reducible refine State.modSess_keeps ?_ h4 ..
    | ((with_reducible refine SameBut.iteKeep ?_ ?_); rotate_left; intro h; rotate_left)
    | ((with_reducible refine SameBut.modCtl ?_ ?_); rotate_left; (intro q hq; cases q <;> first | exact rfl | exact absurd (hs (by decide)) hq))
    | split
    | (dsimp only)

theorem State.readReg_keeps {ps : List Part} {s0 t : State} (h : SameBut ps s0 t)
    (hs : [.bus, .sess, .ev, .clk, .mon] ⊆ ps) (i : Iface) (addr : Nat) : SameBut ps s0 (State.readReg t i addr).2 := by
  unfold State.readReg
  have h1 : [.bus, .sess, .ev, .clk] ⊆ ps := List.Subset.trans (by decide) hs
  have h2 : [.bus, .mon] ⊆ ps := List.Subset.trans (by decide) hs
  repeat' first
    | with_reducible exact h
    | with_reducible assumption
    | with_reducible refine State.clearRc_keeps ?_ h1 ..
    | with_reducible refine State.indTake_keeps ?_ h2 ..
    | ((with_reducible refine SameBut.iteKeep ?_ ?_); rotate_left; intro h; rotate_left)
    | split
    | (dsimp only)

theorem State.ring_keeps {ps : List Part} {s0 t : State} (h : SameBut ps s0 t)
    (hs : [.bus, .sess, .ev, .perf, .trigPins] ⊆ ps) (i : Iface) (k : Sess) (seq : Byte) :
        SameBut ps s0 (State.ring t i k seq) := by
  unfold State.ring
  have h1 : [.bus, .sess] ⊆ ps := List.Subset.trans (by decide) hs
  have h2 : [.bus, .sess, .ev, .perf, .trigPins] ⊆ ps := List.Subset.trans (by decide) hs
  have h3 : [.sess] ⊆ ps := List.Subset.trans (by decide) hs
  repeat' first
    | with_reducible exact h
    | with_reducible assumption
    | with_reducible refine State.drainFifo_keeps ?_ h1 ..
    | with_reducible refine State.takeRing_keeps ?_ h2 ..
    | with_reducible refine State.modSess_keeps ?_ h3 ..
    | ((with_reducible refine SameBut.iteKeep ?_ ?_); rotate_left; intro h; rotate_left)
    | ((with_reducible refine SameBut.modCtl ?_ ?_); rotate_left; (intro q hq; cases q <;> first | exact rfl | exact absurd (hs (by decide)) hq))
    | split
    | (dsimp only)

theorem State.writeBell_keeps {ps : List Part} {s0 t : State} (h : SameBut ps s0 t)
    (hs : [.bus, .sess, .ev, .perf, .trigPins] ⊆ ps) (i : Iface) (k : Sess) (d : Word) :
        SameBut ps s0 (State.writeBell t i k d) := by
  unfold State.writeBell
  have h1 : [.bus, .sess, .ev, .perf, .trigPins] ⊆ ps := List.Subset.trans (by decide) hs
  have h2 : [.sess] ⊆ ps := List.Subset.trans (by decide) hs
  repeat' first
    | with_reducible exact h
    | with_reducible assumption
    | with_reducible refine State.ring_keeps ?_ h1 ..
    | with_reducible refine State.modSess_keeps ?_ h2 ..
    | ((with_reducible refine SameBut.iteKeep ?_ ?_); rotate_left; intro h; rotate_left)
    | split
    | (dsimp only)

theorem State.writeAck_keeps {ps : List Part} {s0 t : State} (h : SameBut ps s0 t)
    (hs : [.ev] ⊆ ps) (d : Word) : SameBut ps s0 (State.writeAck t d) := by
  have h1 : [.ev] ⊆ ps := List.Subset.trans (by decide) hs
  unfold State.writeAck
  cases e : t.evAck d with
  | none =>
    simp only [Option.getD_none]
    refine SameBut.modCtl h ?_
    (intro q hq; cases q <;> first | exact rfl | exact absurd (hs (by decide)) hq)
  | some u => exact State.evAck_keeps h h1 _ _ e

theorem State.writeEvents_keeps {ps : List Part} {s0 t : State} (h : SameBut ps s0 t)
    (hs : [.ev] ⊆ ps) (f : EventUnit → EventUnit) : SameBut ps s0 (State.writeEvents t f) := by
  unfold State.writeEvents
  have h1 : [.ev] ⊆ ps := List.Subset.trans (by decide) hs
  repeat' first
    | with_reducible exact h
    | with_reducible assumption
    | with_reducible refine State.settleEvents_keeps ?_ h1 ..
    | ((with_reducible refine SameBut.iteKeep ?_ ?_); rotate_left; intro h; rotate_left)
    | ((with_reducible refine SameBut.modCtl ?_ ?_); rotate_left; (intro q hq; cases q <;> first | exact rfl | exact absurd (hs (by decide)) hq))
    | split
    | (dsimp only)

theorem State.writeReg_keeps {ps : List Part} {s0 t : State} (h : SameBut ps s0 t)
    (hs : [.lock, .bus, .sess, .ev, .perf, .trigPins] ⊆ ps) (i : Iface) (addr : Nat) (d : Word) :
        SameBut ps s0 (State.writeReg t i addr d) := by
  unfold State.writeReg
  have h1 : [.bus] ⊆ ps := List.Subset.trans (by decide) hs
  have h2 : [.ev] ⊆ ps := List.Subset.trans (by decide) hs
  have h3 : [.bus, .sess, .ev, .perf, .trigPins] ⊆ ps := List.Subset.trans (by decide) hs
  have h4 : [.sess, .ev, .trigPins] ⊆ ps := List.Subset.trans (by decide) hs
  repeat' first
    | with_reducible exact h
    | with_reducible assumption
    | with_reducible refine State.indPost_keeps ?_ h1 ..
    | with_reducible refine State.modWindow_keeps ?_ h1 ..
    | with_reducible refine State.writeAck_keeps ?_ h2 ..
    | with_reducible refine State.writeBell_keeps ?_ h3 ..
    | with_reducible refine State.writeEvents_keeps ?_ h2 ..
    | with_reducible refine State.writeSessCtrl_keeps ?_ h4 ..
    | ((with_reducible refine SameBut.iteKeep ?_ ?_); rotate_left; intro h; rotate_left)
    | ((with_reducible refine SameBut.modCtl ?_ ?_); rotate_left; (intro q hq; cases q <;> first | exact rfl | exact absurd (hs (by decide)) hq))
    | split
    | (dsimp only)

theorem State.writeBurst_keeps {ps : List Part} {s0 t : State} (h : SameBut ps s0 t)
    (hs : [.lock, .bus, .sess, .ev, .perf, .trigPins] ⊆ ps) (i : Iface) (start : Nat) (a : Nat) (r0 : List Word) :
        SameBut ps s0 (State.writeBurst t i start a r0) := by
  have h1 : [.bus, .sess] ⊆ ps := List.Subset.trans (by decide) hs
  have h2 : [.lock, .bus, .sess, .ev, .perf, .trigPins] ⊆ ps := List.Subset.trans (by decide) hs
  induction r0 generalizing t a with
  | nil => unfold State.writeBurst; (first | (with_reducible exact h) | exact State.modPort_keeps h hs _ _ | exact h | (intro out e; cases e; exact h))
  | cons _ _ ih =>
    unfold State.writeBurst
    repeat' first
      | with_reducible exact h
      | with_reducible assumption
      | with_reducible refine ih ?_ ..
      | with_reducible refine State.drainFifo_keeps ?_ h1 ..
      | with_reducible refine State.writeReg_keeps ?_ h2 ..
      | ((with_reducible refine SameBut.iteKeep ?_ ?_); rotate_left; intro h; rotate_left)
      | split
      | (dsimp only)

theorem State.readBurst_keeps {ps : List Part} {s0 t : State} (h : SameBut ps s0 t)
    (hs : [.bus, .sess, .ev, .clk, .mon] ⊆ ps) (i : Iface) (start : Nat) (a : Nat) (r0 : Nat) :
        SameBut ps s0 (State.readBurst t i start a r0).2 := by
  have h1 : [.bus, .sess] ⊆ ps := List.Subset.trans (by decide) hs
  have h2 : [.bus] ⊆ ps := List.Subset.trans (by decide) hs
  have h3 : [.bus, .sess, .ev, .clk, .mon] ⊆ ps := List.Subset.trans (by decide) hs
  induction r0 generalizing t a with
  | zero => unfold State.readBurst; (first | (with_reducible exact h) | exact State.modPort_keeps h hs _ _ | exact h | (intro out e; cases e; exact h))
  | succ _ ih =>
    unfold State.readBurst
    repeat' first
      | with_reducible exact h
      | with_reducible assumption
      | with_reducible refine ih ?_ ..
      | with_reducible refine State.drainFifo_keeps ?_ h1 ..
      | with_reducible refine State.fetchDone_keeps ?_ h2 ..
      | with_reducible refine State.readReg_keeps ?_ h3 ..
      | ((with_reducible refine SameBut.iteKeep ?_ ?_); rotate_left; intro h; rotate_left)
      | split
      | (dsimp only)

theorem State.readBytes_keeps {ps : List Part} {s0 t : State} (h : SameBut ps s0 t)
    (hs : [.bus, .sess, .ev, .clk, .mon] ⊆ ps) (i : Iface) (start : Nat) (n : Nat) :
        SameBut ps s0 (State.readBytes t i start n).2 := by
  unfold State.readBytes
  have h1 : [.bus, .sess, .ev, .clk, .mon] ⊆ ps := List.Subset.trans (by decide) hs
  repeat' first
    | with_reducible exact h
    | with_reducible assumption
    | with_reducible refine State.readBurst_keeps ?_ h1 ..
    | ((with_reducible refine SameBut.iteKeep ?_ ?_); rotate_left; intro h; rotate_left)
    | split
    | (dsimp only)

theorem State.drive_keeps {ps : List Part} {s0 t : State} (h : SameBut ps s0 t)
    (hs : [.bus] ⊆ ps) (bs : Bytes) : SameBut ps s0 (State.drive t bs) := by
  unfold State.drive
  repeat' first
    | with_reducible exact h
    | with_reducible assumption
    | ((with_reducible refine SameBut.modCtl ?_ ?_); rotate_left; (intro q hq; cases q <;> first | exact rfl | exact absurd (hs (by decide)) hq))
    | split
    | (dsimp only)

theorem State.startLoop_keeps {ps : List Part} {s0 t : State} (h : SameBut ps s0 t)
    (hs : [.ev, .bias, .trigPins] ⊆ ps) (o : Bias) : SameBut ps s0 (State.startLoop t o) := by
  unfold State.startLoop
  have h1 : [.ev, .bias, .trigPins] ⊆ ps := List.Subset.trans (by decide) hs
  have h2 : [.bias] ⊆ ps := List.Subset.trans (by decide) hs
  repeat' first
    | with_reducible exact h
    | with_reducible assumption
    | with_reducible refine State.freezeLoop_keeps ?_ h1 ..
    | with_reducible refine State.modBias_keeps ?_ h2 ..
    | ((with_reducible refine SameBut.each _ _ ?_ ?_); rotate_left; intro _ _ h; rotate_left)
    | split
    | (dsimp only)

theorem State.stopLoop_keeps {ps : List Part} {s0 t : State} (h : SameBut ps s0 t)
    (hs : [.bias, .mon] ⊆ ps) (o : Bias) : SameBut ps s0 (State.stopLoop t o) := by
  unfold State.stopLoop
  have h1 : [.bias] ⊆ ps := List.Subset.trans (by decide) hs
  have h2 : [.mon] ⊆ ps := List.Subset.trans (by decide) hs
  repeat' first
    | with_reducible exact h
    | with_reducible assumption
    | with_reducible refine State.loopWrite_keeps ?_ h1 ..
    | with_reducible refine State.schedule_keeps ?_ h2 ..
    | with_reducible refine State.modBias_keeps ?_ h1 ..
    | ((with_reducible refine SameBut.iteKeep ?_ ?_); rotate_left; intro h; rotate_left)
    | split
    | (dsimp only)

theorem State.nextRange_keeps {ps : List Part} {s0 t : State} (h : SameBut ps s0 t)
    (hs : [.bias, .trigPins, .filter] ⊆ ps) (o : Bias) : SameBut ps s0 (State.nextRange t o) := by
  unfold State.nextRange
  have h1 : [.bias, .trigPins, .filter] ⊆ ps := List.Subset.trans (by decide) hs
  have h2 : [.bias] ⊆ ps := List.Subset.trans (by decide) hs
  repeat' first
    | with_reducible exact h
    | with_reducible assumption
    | with_reducible refine State.moveRange_keeps ?_ h1 ..
    | with_reducible refine State.modBias_keeps ?_ h2 ..
    | split
    | (dsimp only)

theorem State.resumeMon_keeps {ps : List Part} {s0 t : State} (h : SameBut ps s0 t)
    (hs : [.mon, .trigPins] ⊆ ps) (u : Mon) : SameBut ps s0 (State.resumeMon t u) := by
  unfold State.resumeMon
  have h1 : [.mon, .trigPins] ⊆ ps := List.Subset.trans (by decide) hs
  have h2 : [.mon] ⊆ ps := List.Subset.trans (by decide) hs
  repeat' first
    | with_reducible exact h
    | with_reducible assumption
    | with_reducible refine State.regularRun_keeps ?_ h1 ..
    | with_reducible refine State.schedule_keeps ?_ h2 ..
    | ((with_reducible refine SameBut.iteKeep ?_ ?_); rotate_left; intro h; rotate_left)
    | split
    | (dsimp only)

theorem State.refTrim_keeps {ps : List Part} {s0 t : State} (h : SameBut ps s0 t)
    (hs : [.therm] ⊆ ps)  : SameBut ps s0 (State.refTrim t) := by
  unfold State.refTrim
  have h1 : [.therm] ⊆ ps := List.Subset.trans (by decide) hs
  repeat' first
    | with_reducible exact h
    | with_reducible assumption
    | with_reducible refine State.modTherm_keeps ?_ h1 ..
    | ((with_reducible refine SameBut.iteKeep ?_ ?_); rotate_left; intro h; rotate_left)
    | (refine SameBut.mod h ?_; (intro q hq; cases q <;> first | exact rfl | exact absurd (hs (by decide)) hq))
    | split
    | (dsimp only)

theorem State.loopSample_keeps {ps : List Part} {s0 t : State} (h : SameBut ps s0 t)
    (hs : [.ev, .bias, .trigPins, .filter] ⊆ ps) (o : Bias) (sign : Bool) (code : Nat) (above : Bool) :
        SameBut ps s0 (State.loopSample t o sign code above) := by
  unfold State.loopSample
  have h1 : [.ev, .trigPins, .filter] ⊆ ps := List.Subset.trans (by decide) hs
  have h2 : [.ev, .bias, .trigPins] ⊆ ps := List.Subset.trans (by decide) hs
  have h3 : [.bias] ⊆ ps := List.Subset.trans (by decide) hs
  repeat' first
    | with_reducible exact h
    | with_reducible assumption
    | with_reducible refine State.feedLoop_keeps ?_ h1 ..
    | with_reducible refine State.freezeLoop_keeps ?_ h2 ..
    | with_reducible refine State.thawLoop_keeps ?_ h3 ..
    | with_reducible refine State.modBias_keeps ?_ h3 ..
    | ((with_reducible refine SameBut.iteKeep ?_ ?_); rotate_left; intro h; rotate_left)
    | split
    | (dsimp only)

theorem State.keepSense_keeps {ps : List Part} {s0 t : State} (h : SameBut ps s0 t)
    (hs : [.bias, .mon] ⊆ ps) (chan : Nat) (code : Nat) (above : Bool) :
        SameBut ps s0 (State.keepSense t chan code above) := by
  unfold State.keepSense
  have h1 : [.bias] ⊆ ps := List.Subset.trans (by decide) hs
  repeat' first
    | with_reducible exact h
    | with_reducible assumption
    | with_reducible refine State.modBias_keeps ?_ h1 ..
    | ((with_reducible refine SameBut.iteKeep ?_ ?_); rotate_left; intro h; rotate_left)
    | ((with_reducible refine SameBut.modPhoton ?_ ?_); rotate_left; (intro q hq; cases q <;> first | exact rfl | exact absurd (hs (by decide)) hq))
    | split
    | (dsimp only)

theorem State.countOver_keeps {ps : List Part} {s0 t : State} (h : SameBut ps s0 t)
    (hs : [.ev, .mon, .trigPins] ⊆ ps) (u : Mon) (above : Bool) : SameBut ps s0 (State.countOver t u above) := by
  unfold State.countOver
  have h1 : [.ev, .trigPins] ⊆ ps := List.Subset.trans (by decide) hs
  have h2 : [.mon] ⊆ ps := List.Subset.trans (by decide) hs
  repeat' first
    | with_reducible exact h
    | with_reducible assumption
    | with_reducible refine State.raise_keeps ?_ h1 ..
    | with_reducible refine State.modMon_keeps ?_ h2 ..
    | ((with_reducible refine SameBut.iteKeep ?_ ?_); rotate_left; intro h; rotate_left)
    | split
    | (dsimp only)

theorem State.resultWritten_keeps {ps : List Part} {s0 t : State} (h : SameBut ps s0 t)
    (hs : [.bus] ⊆ ps) (u : Mon) (off : Nat) : SameBut ps s0 (State.resultWritten t u off) := by
  unfold State.resultWritten
  have h1 : [.bus] ⊆ ps := List.Subset.trans (by decide) hs
  repeat' first
    | with_reducible exact h
    | with_reducible assumption
    | with_reducible refine State.modWindow_keeps ?_ h1 ..
    | split
    | (dsimp only)

theorem State.injDone_keeps {ps : List Part} {s0 t : State} (h : SameBut ps s0 t)
    (hs : [.bus, .ev, .bias, .mon, .trigPins, .filter] ⊆ ps) (u : Mon) (nV : Nat) :
        SameBut ps s0 (State.injDone t u nV) := by
  unfold State.injDone
  have h1 : [.ev, .mon, .trigPins] ⊆ ps := List.Subset.trans (by decide) hs
  have h2 : [.ev, .trigPins, .filter] ⊆ ps := List.Subset.trans (by decide) hs
  have h3 : [.bias, .mon] ⊆ ps := List.Subset.trans (by decide) hs
  have h4 : [.ev, .trigPins] ⊆ ps := List.Subset.trans (by decide) hs
  have h5 : [.bus] ⊆ ps := List.Subset.trans (by decide) hs
  have h6 : [.mon] ⊆ ps := List.Subset.trans (by decide) hs
  repeat' first
    | with_reducible exact h
    | with_reducible assumption
    | with_reducible refine State.countOver_keeps ?_ h1 ..
    | with_reducible refine State.feedEntry_keeps ?_ h2 ..
    | with_reducible refine State.keepSense_keeps ?_ h3 ..
    | with_reducible refine State.raise_keeps ?_ h4 ..
    | with_reducible refine State.resultWritten_keeps ?_ h5 ..
    | with_reducible refine State.modMon_keeps ?_ h6 ..
    | ((with_reducible refine SameBut.iteKeep ?_ ?_); rotate_left; intro h; rotate_left)
    | split
    | (dsimp only)

theorem State.regDone_keeps {ps : List Part} {s0 t : State} (h : SameBut ps s0 t)
    (hs : [.bus, .ev, .bias, .mon, .trigPins, .filter] ⊆ ps) (u : Mon) (nV : Nat) :
        SameBut ps s0 (State.regDone t u nV) := by
  unfold State.regDone
  have h1 : [.ev, .mon, .trigPins] ⊆ ps := List.Subset.trans (by decide) hs
  have h2 : [.ev, .trigPins, .filter] ⊆ ps := List.Subset.trans (by decide) hs
  have h3 : [.bias, .mon] ⊆ ps := List.Subset.trans (by decide) hs
  have h4 : [.ev, .trigPins] ⊆ ps := List.Subset.trans (by decide) hs
  have h5 : [.mon, .trigPins] ⊆ ps := List.Subset.trans (by decide) hs
  have h6 : [.bus] ⊆ ps := List.Subset.trans (by decide) hs
  have h7 : [.mon] ⊆ ps := List.Subset.trans (by decide) hs
  repeat' first
    | with_reducible exact h
    | with_reducible assumption
    | with_reducible refine State.countOver_keeps ?_ h1 ..
    | with_reducible refine State.feedEntry_keeps ?_ h2 ..
    | with_reducible refine State.keepSense_keeps ?_ h3 ..
    | with_reducible refine State.raise_keeps ?_ h4 ..
    | with_reducible refine State.regularRun_keeps ?_ h5 ..
    | with_reducible refine State.resultWritten_keeps ?_ h6 ..
    | with_reducible refine State.modMon_keeps ?_ h7 ..
    | ((with_reducible refine SameBut.iteKeep ?_ ?_); rotate_left; intro h; rotate_left)
    | split
    | (dsimp only)

theorem State.releaseOut_keeps {ps : List Part} {s0 t : State} (h : SameBut ps s0 t)
    (hs : [.ev, .trigPins, .filter] ⊆ ps) (c : Fch) (y : Int) : SameBut ps s0 (State.releaseOut t c y) := by
  unfold State.releaseOut
  have h1 : [.ev, .trigPins] ⊆ ps := List.Subset.trans (by decide) hs
  have h2 : [.filter] ⊆ ps := List.Subset.trans (by decide) hs
  repeat' first
    | with_reducible exact h
    | with_reducible assumption
    | with_reducible refine State.raise_keeps ?_ h1 ..
    | with_reducible refine State.modFilter_keeps ?_ h2 ..
    | ((with_reducible refine SameBut.iteKeep ?_ ?_); rotate_left; intro h; rotate_left)
    | split
    | (dsimp only)

theorem State.indexLow_keeps {ps : List Part} {s0 t : State} (h : SameBut ps s0 t)
    (hs : [.ev, .signing, .trigPins] ⊆ ps)  : SameBut ps s0 (State.indexLow t) := by
  unfold State.indexLow
  have h1 : [.ev, .trigPins] ⊆ ps := List.Subset.trans (by decide) hs
  repeat' first
    | with_reducible exact h
    | with_reducible assumption
    | with_reducible refine State.raise_keeps ?_ h1 ..
    | ((with_reducible refine SameBut.iteKeep ?_ ?_); rotate_left; intro h; rotate_left)
    | ((with_reducible refine SameBut.modSec ?_ ?_); rotate_left; (intro q hq; cases q <;> first | exact rfl | exact absurd (hs (by decide)) hq))
    | split
    | (dsimp only)

theorem State.takeIndex_keeps {ps : List Part} {s0 t : State} (h : SameBut ps s0 t)
    (hs : [.ev, .otp, .signing, .trigPins] ⊆ ps) (bad : Nat) : ∀ out,
        State.takeIndex t bad = some out → SameBut ps s0 out.2 := by
  have h1 : [.ev, .signing, .trigPins] ⊆ ps := List.Subset.trans (by decide) hs
  have h2 : [.ev, .trigPins] ⊆ ps := List.Subset.trans (by decide) hs
  intro out e
  unfold State.takeIndex at e
  dsimp only at e
  repeat' split at e
  all_goals first
    | (cases e; done)
    | (simp only [Option.some.injEq] at e
       subst e
       with_reducible refine State.indexLow_keeps ?_ h1 ..
       refine SameBut.modSec ?_ (by intro q hq; cases q <;> first | exact rfl | exact absurd (hs (by decide)) hq)
       first
         | exact h
         | (with_reducible refine State.raise_keeps ?_ h2 ..
            refine SameBut.modSec h (by intro q hq; cases q <;> first | exact rfl | exact absurd (hs (by decide)) hq)))

theorem State.modActive_keeps {ps : List Part} {s0 t : State} (h : SameBut ps s0 t)
    (hs : [.rx] ⊆ ps) (p : Phys) (f : Coeffs → Coeffs) : SameBut ps s0 (State.modActive t p f) := by
  unfold State.modActive
  have h1 : [.rx] ⊆ ps := List.Subset.trans (by decide) hs
  repeat' first
    | with_reducible exact h
    | with_reducible assumption
    | with_reducible refine State.modRx_keeps ?_ h1 ..
    | split
    | (dsimp only)

theorem State.rxPalette_keeps {ps : List Part} {s0 t : State} (h : SameBut ps s0 t)
    (hs : [.ev, .trigPins] ⊆ ps) (p : Phys) (tag : BitVec 16) (outcome : Nat) (sym : Sym) :
        SameBut ps s0 (State.rxPalette t p tag outcome sym) := by
  unfold State.rxPalette
  have h1 : [.ev, .trigPins] ⊆ ps := List.Subset.trans (by decide) hs
  repeat' first
    | with_reducible exact h
    | with_reducible assumption
    | with_reducible refine State.raiseP_keeps ?_ h1 ..
    | split
    | (dsimp only)

theorem State.rxSwap_keeps {ps : List Part} {s0 t : State} (h : SameBut ps s0 t)
    (hs : [.ev, .rx, .trigPins] ⊆ ps) (p : Phys) (w : Swap) (sym : Sym) : SameBut ps s0 (State.rxSwap t p w sym).2 := by
  unfold State.rxSwap
  have h1 : [.ev, .trigPins] ⊆ ps := List.Subset.trans (by decide) hs
  have h2 : [.rx] ⊆ ps := List.Subset.trans (by decide) hs
  repeat' first
    | with_reducible exact h
    | with_reducible assumption
    | with_reducible refine State.rxPalette_keeps ?_ h1 ..
    | with_reducible refine State.modRx_keeps ?_ h2 ..
    | with_reducible refine State.modDiag_keeps ?_ h2 ..
    | ((with_reducible refine SameBut.iteKeep ?_ ?_); rotate_left; intro h; rotate_left)
    | split
    | (dsimp only)

theorem State.rxFadeEnd_keeps {ps : List Part} {s0 t : State} (h : SameBut ps s0 t)
    (hs : [.ev, .rx, .trigPins] ⊆ ps) (p : Phys) (sym : Sym) : SameBut ps s0 (State.rxFadeEnd t p sym) := by
  unfold State.rxFadeEnd
  have h1 : [.ev, .trigPins] ⊆ ps := List.Subset.trans (by decide) hs
  have h2 : [.rx] ⊆ ps := List.Subset.trans (by decide) hs
  repeat' first
    | with_reducible exact h
    | with_reducible assumption
    | with_reducible refine State.rxPalette_keeps ?_ h1 ..
    | with_reducible refine State.modRx_keeps ?_ h2 ..
    | with_reducible refine State.modDiag_keeps ?_ h2 ..
    | split
    | (dsimp only)

theorem State.rxFadeSettle_keeps {ps : List Part} {s0 t : State} (h : SameBut ps s0 t)
    (hs : [.ev, .rx, .trigPins] ⊆ ps) (p : Phys) : SameBut ps s0 (State.rxFadeSettle t p) := by
  unfold State.rxFadeSettle
  have h1 : [.ev, .trigPins] ⊆ ps := List.Subset.trans (by decide) hs
  have h2 : [.rx] ⊆ ps := List.Subset.trans (by decide) hs
  repeat' first
    | with_reducible exact h
    | with_reducible assumption
    | with_reducible refine State.rxPalette_keeps ?_ h1 ..
    | with_reducible refine State.modRx_keeps ?_ h2 ..
    | with_reducible refine State.modDiag_keeps ?_ h2 ..
    | split
    | (dsimp only)

theorem State.calCancel_keeps {ps : List Part} {s0 t : State} (h : SameBut ps s0 t)
    (hs : [.ev, .rx, .trigPins] ⊆ ps) (p : Phys) : SameBut ps s0 (State.calCancel t p) := by
  unfold State.calCancel
  have h1 : [.ev, .trigPins] ⊆ ps := List.Subset.trans (by decide) hs
  have h2 : [.rx] ⊆ ps := List.Subset.trans (by decide) hs
  repeat' first
    | with_reducible exact h
    | with_reducible assumption
    | with_reducible refine State.raiseP_keeps ?_ h1 ..
    | with_reducible refine State.modRx_keeps ?_ h2 ..
    | ((with_reducible refine SameBut.iteKeep ?_ ?_); rotate_left; intro h; rotate_left)
    | split
    | (dsimp only)

theorem State.captureAbort_keeps {ps : List Part} {s0 t : State} (h : SameBut ps s0 t)
    (hs : [.ev, .rx, .trigPins] ⊆ ps) (p : Phys) (st : CaptureStatus) : SameBut ps s0 (State.captureAbort t p st) := by
  unfold State.captureAbort
  have h1 : [.ev, .trigPins] ⊆ ps := List.Subset.trans (by decide) hs
  have h2 : [.rx] ⊆ ps := List.Subset.trans (by decide) hs
  repeat' first
    | with_reducible exact h
    | with_reducible assumption
    | with_reducible refine State.raiseP_keeps ?_ h1 ..
    | with_reducible refine State.modRx_keeps ?_ h2 ..
    | ((with_reducible refine SameBut.iteKeep ?_ ?_); rotate_left; intro h; rotate_left)
    | split
    | (dsimp only)

theorem State.rxMode_keeps {ps : List Part} {s0 t : State} (h : SameBut ps s0 t)
    (hs : [.ev, .rx, .trigPins] ⊆ ps) (p : Phys) (old : LaneMode) (new : LaneMode) :
        SameBut ps s0 (State.rxMode t p old new) := by
  unfold State.rxMode
  have h1 : [.ev, .rx, .trigPins] ⊆ ps := List.Subset.trans (by decide) hs
  have h2 : [.rx] ⊆ ps := List.Subset.trans (by decide) hs
  repeat' first
    | with_reducible exact h
    | with_reducible assumption
    | with_reducible refine State.calCancel_keeps ?_ h1 ..
    | with_reducible refine State.captureAbort_keeps ?_ h1 ..
    | with_reducible refine State.rxFadeSettle_keeps ?_ h1 ..
    | with_reducible refine State.modRx_keeps ?_ h2 ..
    | ((with_reducible refine SameBut.iteKeep ?_ ?_); rotate_left; intro h; rotate_left)
    | split
    | (dsimp only)

theorem State.trainCold_keeps {ps : List Part} {s0 t : State} (h : SameBut ps s0 t)
    (hs : [.rx] ⊆ ps) (p : Phys) (n : Nat) : SameBut ps s0 (State.trainCold t p n) := by
  unfold State.trainCold
  have h1 : [.rx] ⊆ ps := List.Subset.trans (by decide) hs
  repeat' first
    | with_reducible exact h
    | with_reducible assumption
    | with_reducible refine State.modActive_keeps ?_ h1 ..
    | ((with_reducible refine SameBut.iteKeep ?_ ?_); rotate_left; intro h; rotate_left)
    | split
    | (dsimp only)

theorem State.countClips_keeps {ps : List Part} {s0 t : State} (h : SameBut ps s0 t)
    (hs : [.tx] ⊆ ps) (p : Phys) (first : Sym) (old : List Int) (new : List Int) (ends : Bool) :
        SameBut ps s0 (State.countClips t p first old new ends) := by
  unfold State.countClips
  have h1 : [.tx] ⊆ ps := List.Subset.trans (by decide) hs
  repeat' first
    | with_reducible exact h
    | with_reducible assumption
    | with_reducible refine State.modTxDiag_keeps ?_ h1 ..
    | split
    | (dsimp only)

theorem State.putLine_keeps {ps : List Part} {s0 t : State} (h : SameBut ps s0 t)
    (hs : [.tx] ⊆ ps) (p : Phys) (first : Sym) (old : List Int) (new : List Int) :
        SameBut ps s0 (State.putLine t p first old new) := by
  unfold State.putLine
  have h1 : [.tx] ⊆ ps := List.Subset.trans (by decide) hs
  repeat' first
    | with_reducible exact h
    | with_reducible assumption
    | with_reducible refine State.countClips_keeps ?_ h1 ..
    | with_reducible refine State.modTx_keeps ?_ h1 ..
    | (refine SameBut.mod h ?_; (intro q hq; cases q <;> first | exact rfl | exact absurd (hs (by decide)) hq))
    | split
    | (dsimp only)

theorem State.endLine_keeps {ps : List Part} {s0 t : State} (h : SameBut ps s0 t)
    (hs : [.tx] ⊆ ps) (p : Phys) : SameBut ps s0 (State.endLine t p) := by
  unfold State.endLine
  have h1 : [.tx] ⊆ ps := List.Subset.trans (by decide) hs
  repeat' first
    | with_reducible exact h
    | with_reducible assumption
    | with_reducible refine State.countClips_keeps ?_ h1 ..
    | with_reducible refine State.modTx_keeps ?_ h1 ..
    | ((with_reducible refine SameBut.iteKeep ?_ ?_); rotate_left; intro h; rotate_left)
    | (refine SameBut.mod h ?_; (intro q hq; cases q <;> first | exact rfl | exact absurd (hs (by decide)) hq))
    | split
    | (dsimp only)

theorem State.endBurstLine_keeps {ps : List Part} {s0 t : State} (h : SameBut ps s0 t)
    (hs : [.tx] ⊆ ps) (p : Phys) (sym : Sym) : SameBut ps s0 (State.endBurstLine t p sym) := by
  unfold State.endBurstLine
  have h1 : [.tx] ⊆ ps := List.Subset.trans (by decide) hs
  repeat' first
    | with_reducible exact h
    | with_reducible assumption
    | with_reducible refine State.countClips_keeps ?_ h1 ..
    | with_reducible refine State.modTx_keeps ?_ h1 ..
    | ((with_reducible refine SameBut.iteKeep ?_ ?_); rotate_left; intro h; rotate_left)
    | (refine SameBut.mod h ?_; (intro q hq; cases q <;> first | exact rfl | exact absurd (hs (by decide)) hq))
    | split
    | (dsimp only)

theorem State.txPalette_keeps {ps : List Part} {s0 t : State} (h : SameBut ps s0 t)
    (hs : [.ev, .trigPins] ⊆ ps) (p : Phys) (tag : BitVec 16) (outcome : Nat) (sym : Sym) :
        SameBut ps s0 (State.txPalette t p tag outcome sym) := by
  unfold State.txPalette
  have h1 : [.ev, .trigPins] ⊆ ps := List.Subset.trans (by decide) hs
  repeat' first
    | with_reducible exact h
    | with_reducible assumption
    | with_reducible refine State.raiseP_keeps ?_ h1 ..
    | split
    | (dsimp only)

theorem State.txSwap_keeps {ps : List Part} {s0 t : State} (h : SameBut ps s0 t)
    (hs : [.ev, .tx, .trigPins] ⊆ ps) (p : Phys) (w : Swap) : SameBut ps s0 (State.txSwap t p w).2 := by
  unfold State.txSwap
  have h1 : [.ev, .trigPins] ⊆ ps := List.Subset.trans (by decide) hs
  have h2 : [.tx] ⊆ ps := List.Subset.trans (by decide) hs
  repeat' first
    | with_reducible exact h
    | with_reducible assumption
    | with_reducible refine State.txPalette_keeps ?_ h1 ..
    | with_reducible refine State.modTx_keeps ?_ h2 ..
    | with_reducible refine State.modTxDiag_keeps ?_ h2 ..
    | ((with_reducible refine SameBut.iteKeep ?_ ?_); rotate_left; intro h; rotate_left)
    | (refine SameBut.mod h ?_; (intro q hq; cases q <;> first | exact rfl | exact absurd (hs (by decide)) hq))
    | split
    | (dsimp only)

theorem State.txFadeEnd_keeps {ps : List Part} {s0 t : State} (h : SameBut ps s0 t)
    (hs : [.ev, .tx, .trigPins] ⊆ ps) (p : Phys) : SameBut ps s0 (State.txFadeEnd t p) := by
  unfold State.txFadeEnd
  have h1 : [.ev, .trigPins] ⊆ ps := List.Subset.trans (by decide) hs
  have h2 : [.tx] ⊆ ps := List.Subset.trans (by decide) hs
  repeat' first
    | with_reducible exact h
    | with_reducible assumption
    | with_reducible refine State.txPalette_keeps ?_ h1 ..
    | with_reducible refine State.modTx_keeps ?_ h2 ..
    | with_reducible refine State.modTxDiag_keeps ?_ h2 ..
    | split
    | (dsimp only)

theorem State.txFadeSettle_keeps {ps : List Part} {s0 t : State} (h : SameBut ps s0 t)
    (hs : [.ev, .tx, .trigPins] ⊆ ps) (p : Phys) : SameBut ps s0 (State.txFadeSettle t p) := by
  unfold State.txFadeSettle
  have h1 : [.ev, .trigPins] ⊆ ps := List.Subset.trans (by decide) hs
  have h2 : [.tx] ⊆ ps := List.Subset.trans (by decide) hs
  repeat' first
    | with_reducible exact h
    | with_reducible assumption
    | with_reducible refine State.txPalette_keeps ?_ h1 ..
    | with_reducible refine State.modTx_keeps ?_ h2 ..
    | with_reducible refine State.modTxDiag_keeps ?_ h2 ..
    | split
    | (dsimp only)

theorem State.dacTrim_keeps {ps : List Part} {s0 t : State} (h : SameBut ps s0 t)
    (hs : [.therm] ⊆ ps) (p : Phys) : SameBut ps s0 (State.dacTrim t p) := by
  unfold State.dacTrim
  have h1 : [.therm] ⊆ ps := List.Subset.trans (by decide) hs
  repeat' first
    | with_reducible exact h
    | with_reducible assumption
    | with_reducible refine State.modTherm_keeps ?_ h1 ..
    | (refine SameBut.mod h ?_; (intro q hq; cases q <;> first | exact rfl | exact absurd (hs (by decide)) hq))
    | split
    | (dsimp only)

theorem State.cutBurst_keeps {ps : List Part} {s0 t : State} (h : SameBut ps s0 t)
    (hs : [.tx, .work] ⊆ ps) (p : Phys) : SameBut ps s0 (State.cutBurst t p) := by
  unfold State.cutBurst
  have h1 : [.tx] ⊆ ps := List.Subset.trans (by decide) hs
  have h2 : [.work] ⊆ ps := List.Subset.trans (by decide) hs
  repeat' first
    | with_reducible exact h
    | with_reducible assumption
    | with_reducible refine State.endBurstLine_keeps ?_ h1 ..
    | with_reducible refine State.modTx_keeps ?_ h1 ..
    | with_reducible refine State.modWork_keeps ?_ h2 ..
    | ((with_reducible refine SameBut.iteKeep ?_ ?_); rotate_left; intro h; rotate_left)
    | (refine SameBut.mod h ?_; (intro q hq; cases q <;> first | exact rfl | exact absurd (hs (by decide)) hq))
    | split
    | (dsimp only)

theorem State.txMode_keeps {ps : List Part} {s0 t : State} (h : SameBut ps s0 t)
    (hs : [.ev, .tx, .work, .trigPins] ⊆ ps) (p : Phys) (old : LaneMode) (new : LaneMode) :
        SameBut ps s0 (State.txMode t p old new) := by
  unfold State.txMode
  have h1 : [.tx, .work] ⊆ ps := List.Subset.trans (by decide) hs
  have h2 : [.ev, .tx, .trigPins] ⊆ ps := List.Subset.trans (by decide) hs
  have h3 : [.tx] ⊆ ps := List.Subset.trans (by decide) hs
  repeat' first
    | with_reducible exact h
    | with_reducible assumption
    | with_reducible refine State.cutBurst_keeps ?_ h1 ..
    | with_reducible refine State.txFadeSettle_keeps ?_ h2 ..
    | with_reducible refine State.modTx_keeps ?_ h3 ..
    | ((with_reducible refine SameBut.iteKeep ?_ ?_); rotate_left; intro h; rotate_left)
    | (refine SameBut.mod h ?_; (intro q hq; cases q <;> first | exact rfl | exact absurd (hs (by decide)) hq))
    | split
    | (dsimp only)

theorem State.grant_keeps {ps : List Part} {s0 t : State} (h : SameBut ps s0 t)
    (hs : [.group] ⊆ ps) (w : Work) : SameBut ps s0 (State.grant t w) := by
  unfold State.grant
  have h1 : [.group] ⊆ ps := List.Subset.trans (by decide) hs
  repeat' first
    | with_reducible exact h
    | with_reducible assumption
    | with_reducible refine State.modChan_keeps ?_ h1 ..
    | with_reducible refine State.modGroup_keeps ?_ h1 ..
    | ((with_reducible refine SameBut.iteKeep ?_ ?_); rotate_left; intro h; rotate_left)
    | split
    | (dsimp only)

end Sys2Proof.Machine
end

