-- ==== Sys2Proof/Laws/State.lean ====
section
/-!
SUPPORT. One lemma for each top field of the state and each update of a unit, the laws of an updated vector entry, and what
raising an event and answering a command leave alone.
-/
namespace Sys2Proof.Machine

/-! An updated vector entry. -/

@[simp] theorem vupd_self {α : Type} {n : Nat} (v : Vector α n) (i : Fin n) (f : α → α) :
    (vupd v i f)[i.val] = f v[i.val] := by simp [vupd]

theorem vupd_other {α : Type} {n : Nat} (v : Vector α n) (i j : Fin n) (f : α → α) (h : j ≠ i) :
    (vupd v i f)[j.val] = v[j.val] := by
  have h' : i.val ≠ j.val := fun e => h (Fin.ext e.symm)
  simp [vupd, h']

/-- Entry j after entry i has been changed. -/
theorem vupd_get {α : Type} {n : Nat} (v : Vector α n) (i j : Fin n) (f : α → α) :
    (vupd v i f)[j.val] = if j = i then f v[j.val] else v[j.val] := by
  by_cases h : j = i
  · subst h; simp
  · simp [vupd_other v i j f h, h]

/-! Updates of a unit, field by field. -/

@[simp] theorem State.modCtl_ctl (s : State) (f : ControlPlane → ControlPlane) : (s.modCtl f).ctl = f s.ctl := rfl
@[simp] theorem State.modCtl_sys (s : State) (f : ControlPlane → ControlPlane) : (s.modCtl f).sys = s.sys := rfl
@[simp] theorem State.modCtl_sec (s : State) (f : ControlPlane → ControlPlane) : (s.modCtl f).sec = s.sec := rfl
@[simp] theorem State.modCtl_lane (s : State) (f : ControlPlane → ControlPlane) : (s.modCtl f).lane = s.lane := rfl
@[simp] theorem State.modCtl_rx (s : State) (f : ControlPlane → ControlPlane) : (s.modCtl f).rx = s.rx := rfl
@[simp] theorem State.modCtl_acq (s : State) (f : ControlPlane → ControlPlane) : (s.modCtl f).acq = s.acq := rfl
@[simp] theorem State.modCtl_dec (s : State) (f : ControlPlane → ControlPlane) : (s.modCtl f).dec = s.dec := rfl
@[simp] theorem State.modCtl_tx (s : State) (f : ControlPlane → ControlPlane) : (s.modCtl f).tx = s.tx := rfl
@[simp] theorem State.modCtl_work (s : State) (f : ControlPlane → ControlPlane) : (s.modCtl f).work = s.work := rfl
@[simp] theorem State.modCtl_gallery (s : State) (f : ControlPlane → ControlPlane) : (s.modCtl f).gallery = s.gallery := rfl
@[simp] theorem State.modCtl_epoch (s : State) (f : ControlPlane → ControlPlane) : (s.modCtl f).epoch = s.epoch := rfl
@[simp] theorem State.modCtl_group (s : State) (f : ControlPlane → ControlPlane) : (s.modCtl f).group = s.group := rfl
@[simp] theorem State.modCtl_photon (s : State) (f : ControlPlane → ControlPlane) : (s.modCtl f).photon = s.photon := rfl
@[simp] theorem State.modCtl_therm (s : State) (f : ControlPlane → ControlPlane) : (s.modCtl f).therm = s.therm := rfl
@[simp] theorem State.modCtl_cal (s : State) (f : ControlPlane → ControlPlane) : (s.modCtl f).cal = s.cal := rfl
@[simp] theorem State.modCtl_age (s : State) (f : ControlPlane → ControlPlane) : (s.modCtl f).age = s.age := rfl
@[simp] theorem State.modCtl_free (s : State) (f : ControlPlane → ControlPlane) : (s.modCtl f).free = s.free := rfl
@[simp] theorem State.modCtl_pending (s : State) (f : ControlPlane → ControlPlane) : (s.modCtl f).pending = s.pending := rfl
@[simp] theorem State.modSys_ctl (s : State) (f : SystemUnit → SystemUnit) : (s.modSys f).ctl = s.ctl := rfl
@[simp] theorem State.modSys_sys (s : State) (f : SystemUnit → SystemUnit) : (s.modSys f).sys = f s.sys := rfl
@[simp] theorem State.modSys_sec (s : State) (f : SystemUnit → SystemUnit) : (s.modSys f).sec = s.sec := rfl
@[simp] theorem State.modSys_lane (s : State) (f : SystemUnit → SystemUnit) : (s.modSys f).lane = s.lane := rfl
@[simp] theorem State.modSys_rx (s : State) (f : SystemUnit → SystemUnit) : (s.modSys f).rx = s.rx := rfl
@[simp] theorem State.modSys_acq (s : State) (f : SystemUnit → SystemUnit) : (s.modSys f).acq = s.acq := rfl
@[simp] theorem State.modSys_dec (s : State) (f : SystemUnit → SystemUnit) : (s.modSys f).dec = s.dec := rfl
@[simp] theorem State.modSys_tx (s : State) (f : SystemUnit → SystemUnit) : (s.modSys f).tx = s.tx := rfl
@[simp] theorem State.modSys_work (s : State) (f : SystemUnit → SystemUnit) : (s.modSys f).work = s.work := rfl
@[simp] theorem State.modSys_gallery (s : State) (f : SystemUnit → SystemUnit) : (s.modSys f).gallery = s.gallery := rfl
@[simp] theorem State.modSys_epoch (s : State) (f : SystemUnit → SystemUnit) : (s.modSys f).epoch = s.epoch := rfl
@[simp] theorem State.modSys_group (s : State) (f : SystemUnit → SystemUnit) : (s.modSys f).group = s.group := rfl
@[simp] theorem State.modSys_photon (s : State) (f : SystemUnit → SystemUnit) : (s.modSys f).photon = s.photon := rfl
@[simp] theorem State.modSys_therm (s : State) (f : SystemUnit → SystemUnit) : (s.modSys f).therm = s.therm := rfl
@[simp] theorem State.modSys_cal (s : State) (f : SystemUnit → SystemUnit) : (s.modSys f).cal = s.cal := rfl
@[simp] theorem State.modSys_age (s : State) (f : SystemUnit → SystemUnit) : (s.modSys f).age = s.age := rfl
@[simp] theorem State.modSys_free (s : State) (f : SystemUnit → SystemUnit) : (s.modSys f).free = s.free := rfl
@[simp] theorem State.modSys_pending (s : State) (f : SystemUnit → SystemUnit) : (s.modSys f).pending = s.pending := rfl
@[simp] theorem State.modSec_ctl (s : State) (f : SecureUnit → SecureUnit) : (s.modSec f).ctl = s.ctl := rfl
@[simp] theorem State.modSec_sys (s : State) (f : SecureUnit → SecureUnit) : (s.modSec f).sys = s.sys := rfl
@[simp] theorem State.modSec_sec (s : State) (f : SecureUnit → SecureUnit) : (s.modSec f).sec = f s.sec := rfl
@[simp] theorem State.modSec_lane (s : State) (f : SecureUnit → SecureUnit) : (s.modSec f).lane = s.lane := rfl
@[simp] theorem State.modSec_rx (s : State) (f : SecureUnit → SecureUnit) : (s.modSec f).rx = s.rx := rfl
@[simp] theorem State.modSec_acq (s : State) (f : SecureUnit → SecureUnit) : (s.modSec f).acq = s.acq := rfl
@[simp] theorem State.modSec_dec (s : State) (f : SecureUnit → SecureUnit) : (s.modSec f).dec = s.dec := rfl
@[simp] theorem State.modSec_tx (s : State) (f : SecureUnit → SecureUnit) : (s.modSec f).tx = s.tx := rfl
@[simp] theorem State.modSec_work (s : State) (f : SecureUnit → SecureUnit) : (s.modSec f).work = s.work := rfl
@[simp] theorem State.modSec_gallery (s : State) (f : SecureUnit → SecureUnit) : (s.modSec f).gallery = s.gallery := rfl
@[simp] theorem State.modSec_epoch (s : State) (f : SecureUnit → SecureUnit) : (s.modSec f).epoch = s.epoch := rfl
@[simp] theorem State.modSec_group (s : State) (f : SecureUnit → SecureUnit) : (s.modSec f).group = s.group := rfl
@[simp] theorem State.modSec_photon (s : State) (f : SecureUnit → SecureUnit) : (s.modSec f).photon = s.photon := rfl
@[simp] theorem State.modSec_therm (s : State) (f : SecureUnit → SecureUnit) : (s.modSec f).therm = s.therm := rfl
@[simp] theorem State.modSec_cal (s : State) (f : SecureUnit → SecureUnit) : (s.modSec f).cal = s.cal := rfl
@[simp] theorem State.modSec_age (s : State) (f : SecureUnit → SecureUnit) : (s.modSec f).age = s.age := rfl
@[simp] theorem State.modSec_free (s : State) (f : SecureUnit → SecureUnit) : (s.modSec f).free = s.free := rfl
@[simp] theorem State.modSec_pending (s : State) (f : SecureUnit → SecureUnit) : (s.modSec f).pending = s.pending := rfl
@[simp] theorem State.modImg_ctl (s : State) (f : ImageUnit → ImageUnit) : (s.modImg f).ctl = s.ctl := rfl
@[simp] theorem State.modImg_sys (s : State) (f : ImageUnit → ImageUnit) : (s.modImg f).sys = s.sys := rfl
@[simp] theorem State.modImg_sec (s : State) (f : ImageUnit → ImageUnit) : (s.modImg f).sec = { s.sec with img := f s.sec.img } := rfl
@[simp] theorem State.modImg_lane (s : State) (f : ImageUnit → ImageUnit) : (s.modImg f).lane = s.lane := rfl
@[simp] theorem State.modImg_rx (s : State) (f : ImageUnit → ImageUnit) : (s.modImg f).rx = s.rx := rfl
@[simp] theorem State.modImg_acq (s : State) (f : ImageUnit → ImageUnit) : (s.modImg f).acq = s.acq := rfl
@[simp] theorem State.modImg_dec (s : State) (f : ImageUnit → ImageUnit) : (s.modImg f).dec = s.dec := rfl
@[simp] theorem State.modImg_tx (s : State) (f : ImageUnit → ImageUnit) : (s.modImg f).tx = s.tx := rfl
@[simp] theorem State.modImg_work (s : State) (f : ImageUnit → ImageUnit) : (s.modImg f).work = s.work := rfl
@[simp] theorem State.modImg_gallery (s : State) (f : ImageUnit → ImageUnit) : (s.modImg f).gallery = s.gallery := rfl
@[simp] theorem State.modImg_epoch (s : State) (f : ImageUnit → ImageUnit) : (s.modImg f).epoch = s.epoch := rfl
@[simp] theorem State.modImg_group (s : State) (f : ImageUnit → ImageUnit) : (s.modImg f).group = s.group := rfl
@[simp] theorem State.modImg_photon (s : State) (f : ImageUnit → ImageUnit) : (s.modImg f).photon = s.photon := rfl
@[simp] theorem State.modImg_therm (s : State) (f : ImageUnit → ImageUnit) : (s.modImg f).therm = s.therm := rfl
@[simp] theorem State.modImg_cal (s : State) (f : ImageUnit → ImageUnit) : (s.modImg f).cal = s.cal := rfl
@[simp] theorem State.modImg_age (s : State) (f : ImageUnit → ImageUnit) : (s.modImg f).age = s.age := rfl
@[simp] theorem State.modImg_free (s : State) (f : ImageUnit → ImageUnit) : (s.modImg f).free = s.free := rfl
@[simp] theorem State.modImg_pending (s : State) (f : ImageUnit → ImageUnit) : (s.modImg f).pending = s.pending := rfl
@[simp] theorem State.modFlash_ctl (s : State) (f : FlashUnit → FlashUnit) : (s.modFlash f).ctl = s.ctl := rfl
@[simp] theorem State.modFlash_sys (s : State) (f : FlashUnit → FlashUnit) : (s.modFlash f).sys = s.sys := rfl
@[simp] theorem State.modFlash_sec (s : State) (f : FlashUnit → FlashUnit) : (s.modFlash f).sec = { s.sec with flash := f s.sec.flash } := rfl
@[simp] theorem State.modFlash_lane (s : State) (f : FlashUnit → FlashUnit) : (s.modFlash f).lane = s.lane := rfl
@[simp] theorem State.modFlash_rx (s : State) (f : FlashUnit → FlashUnit) : (s.modFlash f).rx = s.rx := rfl
@[simp] theorem State.modFlash_acq (s : State) (f : FlashUnit → FlashUnit) : (s.modFlash f).acq = s.acq := rfl
@[simp] theorem State.modFlash_dec (s : State) (f : FlashUnit → FlashUnit) : (s.modFlash f).dec = s.dec := rfl
@[simp] theorem State.modFlash_tx (s : State) (f : FlashUnit → FlashUnit) : (s.modFlash f).tx = s.tx := rfl
@[simp] theorem State.modFlash_work (s : State) (f : FlashUnit → FlashUnit) : (s.modFlash f).work = s.work := rfl
@[simp] theorem State.modFlash_gallery (s : State) (f : FlashUnit → FlashUnit) : (s.modFlash f).gallery = s.gallery := rfl
@[simp] theorem State.modFlash_epoch (s : State) (f : FlashUnit → FlashUnit) : (s.modFlash f).epoch = s.epoch := rfl
@[simp] theorem State.modFlash_group (s : State) (f : FlashUnit → FlashUnit) : (s.modFlash f).group = s.group := rfl
@[simp] theorem State.modFlash_photon (s : State) (f : FlashUnit → FlashUnit) : (s.modFlash f).photon = s.photon := rfl
@[simp] theorem State.modFlash_therm (s : State) (f : FlashUnit → FlashUnit) : (s.modFlash f).therm = s.therm := rfl
@[simp] theorem State.modFlash_cal (s : State) (f : FlashUnit → FlashUnit) : (s.modFlash f).cal = s.cal := rfl
@[simp] theorem State.modFlash_age (s : State) (f : FlashUnit → FlashUnit) : (s.modFlash f).age = s.age := rfl
@[simp] theorem State.modFlash_free (s : State) (f : FlashUnit → FlashUnit) : (s.modFlash f).free = s.free := rfl
@[simp] theorem State.modFlash_pending (s : State) (f : FlashUnit → FlashUnit) : (s.modFlash f).pending = s.pending := rfl
@[simp] theorem State.modClk_ctl (s : State) (f : ClockUnit → ClockUnit) : (s.modClk f).ctl = s.ctl := rfl
@[simp] theorem State.modClk_sys (s : State) (f : ClockUnit → ClockUnit) : (s.modClk f).sys = { s.sys with clk := f s.sys.clk } := rfl
@[simp] theorem State.modClk_sec (s : State) (f : ClockUnit → ClockUnit) : (s.modClk f).sec = s.sec := rfl
@[simp] theorem State.modClk_lane (s : State) (f : ClockUnit → ClockUnit) : (s.modClk f).lane = s.lane := rfl
@[simp] theorem State.modClk_rx (s : State) (f : ClockUnit → ClockUnit) : (s.modClk f).rx = s.rx := rfl
@[simp] theorem State.modClk_acq (s : State) (f : ClockUnit → ClockUnit) : (s.modClk f).acq = s.acq := rfl
@[simp] theorem State.modClk_dec (s : State) (f : ClockUnit → ClockUnit) : (s.modClk f).dec = s.dec := rfl
@[simp] theorem State.modClk_tx (s : State) (f : ClockUnit → ClockUnit) : (s.modClk f).tx = s.tx := rfl
@[simp] theorem State.modClk_work (s : State) (f : ClockUnit → ClockUnit) : (s.modClk f).work = s.work := rfl
@[simp] theorem State.modClk_gallery (s : State) (f : ClockUnit → ClockUnit) : (s.modClk f).gallery = s.gallery := rfl
@[simp] theorem State.modClk_epoch (s : State) (f : ClockUnit → ClockUnit) : (s.modClk f).epoch = s.epoch := rfl
@[simp] theorem State.modClk_group (s : State) (f : ClockUnit → ClockUnit) : (s.modClk f).group = s.group := rfl
@[simp] theorem State.modClk_photon (s : State) (f : ClockUnit → ClockUnit) : (s.modClk f).photon = s.photon := rfl
@[simp] theorem State.modClk_therm (s : State) (f : ClockUnit → ClockUnit) : (s.modClk f).therm = s.therm := rfl
@[simp] theorem State.modClk_cal (s : State) (f : ClockUnit → ClockUnit) : (s.modClk f).cal = s.cal := rfl
@[simp] theorem State.modClk_age (s : State) (f : ClockUnit → ClockUnit) : (s.modClk f).age = s.age := rfl
@[simp] theorem State.modClk_free (s : State) (f : ClockUnit → ClockUnit) : (s.modClk f).free = s.free := rfl
@[simp] theorem State.modClk_pending (s : State) (f : ClockUnit → ClockUnit) : (s.modClk f).pending = s.pending := rfl
@[simp] theorem State.modPins_ctl (s : State) (f : PinUnit → PinUnit) : (s.modPins f).ctl = s.ctl := rfl
@[simp] theorem State.modPins_sys (s : State) (f : PinUnit → PinUnit) : (s.modPins f).sys = { s.sys with pins := f s.sys.pins } := rfl
@[simp] theorem State.modPins_sec (s : State) (f : PinUnit → PinUnit) : (s.modPins f).sec = s.sec := rfl
@[simp] theorem State.modPins_lane (s : State) (f : PinUnit → PinUnit) : (s.modPins f).lane = s.lane := rfl
@[simp] theorem State.modPins_rx (s : State) (f : PinUnit → PinUnit) : (s.modPins f).rx = s.rx := rfl
@[simp] theorem State.modPins_acq (s : State) (f : PinUnit → PinUnit) : (s.modPins f).acq = s.acq := rfl
@[simp] theorem State.modPins_dec (s : State) (f : PinUnit → PinUnit) : (s.modPins f).dec = s.dec := rfl
@[simp] theorem State.modPins_tx (s : State) (f : PinUnit → PinUnit) : (s.modPins f).tx = s.tx := rfl
@[simp] theorem State.modPins_work (s : State) (f : PinUnit → PinUnit) : (s.modPins f).work = s.work := rfl
@[simp] theorem State.modPins_gallery (s : State) (f : PinUnit → PinUnit) : (s.modPins f).gallery = s.gallery := rfl
@[simp] theorem State.modPins_epoch (s : State) (f : PinUnit → PinUnit) : (s.modPins f).epoch = s.epoch := rfl
@[simp] theorem State.modPins_group (s : State) (f : PinUnit → PinUnit) : (s.modPins f).group = s.group := rfl
@[simp] theorem State.modPins_photon (s : State) (f : PinUnit → PinUnit) : (s.modPins f).photon = s.photon := rfl
@[simp] theorem State.modPins_therm (s : State) (f : PinUnit → PinUnit) : (s.modPins f).therm = s.therm := rfl
@[simp] theorem State.modPins_cal (s : State) (f : PinUnit → PinUnit) : (s.modPins f).cal = s.cal := rfl
@[simp] theorem State.modPins_age (s : State) (f : PinUnit → PinUnit) : (s.modPins f).age = s.age := rfl
@[simp] theorem State.modPins_free (s : State) (f : PinUnit → PinUnit) : (s.modPins f).free = s.free := rfl
@[simp] theorem State.modPins_pending (s : State) (f : PinUnit → PinUnit) : (s.modPins f).pending = s.pending := rfl
@[simp] theorem State.modPower_ctl (s : State) (f : PowerUnit → PowerUnit) : (s.modPower f).ctl = s.ctl := rfl
@[simp] theorem State.modPower_sys (s : State) (f : PowerUnit → PowerUnit) : (s.modPower f).sys = { s.sys with power := f s.sys.power } := rfl
@[simp] theorem State.modPower_sec (s : State) (f : PowerUnit → PowerUnit) : (s.modPower f).sec = s.sec := rfl
@[simp] theorem State.modPower_lane (s : State) (f : PowerUnit → PowerUnit) : (s.modPower f).lane = s.lane := rfl
@[simp] theorem State.modPower_rx (s : State) (f : PowerUnit → PowerUnit) : (s.modPower f).rx = s.rx := rfl
@[simp] theorem State.modPower_acq (s : State) (f : PowerUnit → PowerUnit) : (s.modPower f).acq = s.acq := rfl
@[simp] theorem State.modPower_dec (s : State) (f : PowerUnit → PowerUnit) : (s.modPower f).dec = s.dec := rfl
@[simp] theorem State.modPower_tx (s : State) (f : PowerUnit → PowerUnit) : (s.modPower f).tx = s.tx := rfl
@[simp] theorem State.modPower_work (s : State) (f : PowerUnit → PowerUnit) : (s.modPower f).work = s.work := rfl
@[simp] theorem State.modPower_gallery (s : State) (f : PowerUnit → PowerUnit) : (s.modPower f).gallery = s.gallery := rfl
@[simp] theorem State.modPower_epoch (s : State) (f : PowerUnit → PowerUnit) : (s.modPower f).epoch = s.epoch := rfl
@[simp] theorem State.modPower_group (s : State) (f : PowerUnit → PowerUnit) : (s.modPower f).group = s.group := rfl
@[simp] theorem State.modPower_photon (s : State) (f : PowerUnit → PowerUnit) : (s.modPower f).photon = s.photon := rfl
@[simp] theorem State.modPower_therm (s : State) (f : PowerUnit → PowerUnit) : (s.modPower f).therm = s.therm := rfl
@[simp] theorem State.modPower_cal (s : State) (f : PowerUnit → PowerUnit) : (s.modPower f).cal = s.cal := rfl
@[simp] theorem State.modPower_age (s : State) (f : PowerUnit → PowerUnit) : (s.modPower f).age = s.age := rfl
@[simp] theorem State.modPower_free (s : State) (f : PowerUnit → PowerUnit) : (s.modPower f).free = s.free := rfl
@[simp] theorem State.modPower_pending (s : State) (f : PowerUnit → PowerUnit) : (s.modPower f).pending = s.pending := rfl
@[simp] theorem State.modAvs_ctl (s : State) (f : AvsUnit → AvsUnit) : (s.modAvs f).ctl = s.ctl := rfl
@[simp] theorem State.modAvs_sys (s : State) (f : AvsUnit → AvsUnit) : (s.modAvs f).sys = { s.sys with avs := f s.sys.avs } := rfl
@[simp] theorem State.modAvs_sec (s : State) (f : AvsUnit → AvsUnit) : (s.modAvs f).sec = s.sec := rfl
@[simp] theorem State.modAvs_lane (s : State) (f : AvsUnit → AvsUnit) : (s.modAvs f).lane = s.lane := rfl
@[simp] theorem State.modAvs_rx (s : State) (f : AvsUnit → AvsUnit) : (s.modAvs f).rx = s.rx := rfl
@[simp] theorem State.modAvs_acq (s : State) (f : AvsUnit → AvsUnit) : (s.modAvs f).acq = s.acq := rfl
@[simp] theorem State.modAvs_dec (s : State) (f : AvsUnit → AvsUnit) : (s.modAvs f).dec = s.dec := rfl
@[simp] theorem State.modAvs_tx (s : State) (f : AvsUnit → AvsUnit) : (s.modAvs f).tx = s.tx := rfl
@[simp] theorem State.modAvs_work (s : State) (f : AvsUnit → AvsUnit) : (s.modAvs f).work = s.work := rfl
@[simp] theorem State.modAvs_gallery (s : State) (f : AvsUnit → AvsUnit) : (s.modAvs f).gallery = s.gallery := rfl
@[simp] theorem State.modAvs_epoch (s : State) (f : AvsUnit → AvsUnit) : (s.modAvs f).epoch = s.epoch := rfl
@[simp] theorem State.modAvs_group (s : State) (f : AvsUnit → AvsUnit) : (s.modAvs f).group = s.group := rfl
@[simp] theorem State.modAvs_photon (s : State) (f : AvsUnit → AvsUnit) : (s.modAvs f).photon = s.photon := rfl
@[simp] theorem State.modAvs_therm (s : State) (f : AvsUnit → AvsUnit) : (s.modAvs f).therm = s.therm := rfl
@[simp] theorem State.modAvs_cal (s : State) (f : AvsUnit → AvsUnit) : (s.modAvs f).cal = s.cal := rfl
@[simp] theorem State.modAvs_age (s : State) (f : AvsUnit → AvsUnit) : (s.modAvs f).age = s.age := rfl
@[simp] theorem State.modAvs_free (s : State) (f : AvsUnit → AvsUnit) : (s.modAvs f).free = s.free := rfl
@[simp] theorem State.modAvs_pending (s : State) (f : AvsUnit → AvsUnit) : (s.modAvs f).pending = s.pending := rfl
@[simp] theorem State.modCore_ctl (s : State) (c : Core) (f : CoreUnit → CoreUnit) : (s.modCore c f).ctl = s.ctl := rfl
@[simp] theorem State.modCore_sys (s : State) (c : Core) (f : CoreUnit → CoreUnit) : (s.modCore c f).sys = { s.sys with core := vupd s.sys.core c f } := rfl
@[simp] theorem State.modCore_sec (s : State) (c : Core) (f : CoreUnit → CoreUnit) : (s.modCore c f).sec = s.sec := rfl
@[simp] theorem State.modCore_lane (s : State) (c : Core) (f : CoreUnit → CoreUnit) : (s.modCore c f).lane = s.lane := rfl
@[simp] theorem State.modCore_rx (s : State) (c : Core) (f : CoreUnit → CoreUnit) : (s.modCore c f).rx = s.rx := rfl
@[simp] theorem State.modCore_acq (s : State) (c : Core) (f : CoreUnit → CoreUnit) : (s.modCore c f).acq = s.acq := rfl
@[simp] theorem State.modCore_dec (s : State) (c : Core) (f : CoreUnit → CoreUnit) : (s.modCore c f).dec = s.dec := rfl
@[simp] theorem State.modCore_tx (s : State) (c : Core) (f : CoreUnit → CoreUnit) : (s.modCore c f).tx = s.tx := rfl
@[simp] theorem State.modCore_work (s : State) (c : Core) (f : CoreUnit → CoreUnit) : (s.modCore c f).work = s.work := rfl
@[simp] theorem State.modCore_gallery (s : State) (c : Core) (f : CoreUnit → CoreUnit) : (s.modCore c f).gallery = s.gallery := rfl
@[simp] theorem State.modCore_epoch (s : State) (c : Core) (f : CoreUnit → CoreUnit) : (s.modCore c f).epoch = s.epoch := rfl
@[simp] theorem State.modCore_group (s : State) (c : Core) (f : CoreUnit → CoreUnit) : (s.modCore c f).group = s.group := rfl
@[simp] theorem State.modCore_photon (s : State) (c : Core) (f : CoreUnit → CoreUnit) : (s.modCore c f).photon = s.photon := rfl
@[simp] theorem State.modCore_therm (s : State) (c : Core) (f : CoreUnit → CoreUnit) : (s.modCore c f).therm = s.therm := rfl
@[simp] theorem State.modCore_cal (s : State) (c : Core) (f : CoreUnit → CoreUnit) : (s.modCore c f).cal = s.cal := rfl
@[simp] theorem State.modCore_age (s : State) (c : Core) (f : CoreUnit → CoreUnit) : (s.modCore c f).age = s.age := rfl
@[simp] theorem State.modCore_free (s : State) (c : Core) (f : CoreUnit → CoreUnit) : (s.modCore c f).free = s.free := rfl
@[simp] theorem State.modCore_pending (s : State) (c : Core) (f : CoreUnit → CoreUnit) : (s.modCore c f).pending = s.pending := rfl
@[simp] theorem State.modArr_ctl (s : State) (a : Arr) (f : SramUnit → SramUnit) : (s.modArr a f).ctl = s.ctl := rfl
@[simp] theorem State.modArr_sys (s : State) (a : Arr) (f : SramUnit → SramUnit) : (s.modArr a f).sys = { s.sys with mem := { s.sys.mem with arr := vupd s.sys.mem.arr a f } } := rfl
@[simp] theorem State.modArr_sec (s : State) (a : Arr) (f : SramUnit → SramUnit) : (s.modArr a f).sec = s.sec := rfl
@[simp] theorem State.modArr_lane (s : State) (a : Arr) (f : SramUnit → SramUnit) : (s.modArr a f).lane = s.lane := rfl
@[simp] theorem State.modArr_rx (s : State) (a : Arr) (f : SramUnit → SramUnit) : (s.modArr a f).rx = s.rx := rfl
@[simp] theorem State.modArr_acq (s : State) (a : Arr) (f : SramUnit → SramUnit) : (s.modArr a f).acq = s.acq := rfl
@[simp] theorem State.modArr_dec (s : State) (a : Arr) (f : SramUnit → SramUnit) : (s.modArr a f).dec = s.dec := rfl
@[simp] theorem State.modArr_tx (s : State) (a : Arr) (f : SramUnit → SramUnit) : (s.modArr a f).tx = s.tx := rfl
@[simp] theorem State.modArr_work (s : State) (a : Arr) (f : SramUnit → SramUnit) : (s.modArr a f).work = s.work := rfl
@[simp] theorem State.modArr_gallery (s : State) (a : Arr) (f : SramUnit → SramUnit) : (s.modArr a f).gallery = s.gallery := rfl
@[simp] theorem State.modArr_epoch (s : State) (a : Arr) (f : SramUnit → SramUnit) : (s.modArr a f).epoch = s.epoch := rfl
@[simp] theorem State.modArr_group (s : State) (a : Arr) (f : SramUnit → SramUnit) : (s.modArr a f).group = s.group := rfl
@[simp] theorem State.modArr_photon (s : State) (a : Arr) (f : SramUnit → SramUnit) : (s.modArr a f).photon = s.photon := rfl
@[simp] theorem State.modArr_therm (s : State) (a : Arr) (f : SramUnit → SramUnit) : (s.modArr a f).therm = s.therm := rfl
@[simp] theorem State.modArr_cal (s : State) (a : Arr) (f : SramUnit → SramUnit) : (s.modArr a f).cal = s.cal := rfl
@[simp] theorem State.modArr_age (s : State) (a : Arr) (f : SramUnit → SramUnit) : (s.modArr a f).age = s.age := rfl
@[simp] theorem State.modArr_free (s : State) (a : Arr) (f : SramUnit → SramUnit) : (s.modArr a f).free = s.free := rfl
@[simp] theorem State.modArr_pending (s : State) (a : Arr) (f : SramUnit → SramUnit) : (s.modArr a f).pending = s.pending := rfl
@[simp] theorem State.modLane_ctl (s : State) (p : Phys) (f : LaneUnit → LaneUnit) : (s.modLane p f).ctl = s.ctl := rfl
@[simp] theorem State.modLane_sys (s : State) (p : Phys) (f : LaneUnit → LaneUnit) : (s.modLane p f).sys = s.sys := rfl
@[simp] theorem State.modLane_sec (s : State) (p : Phys) (f : LaneUnit → LaneUnit) : (s.modLane p f).sec = s.sec := rfl
@[simp] theorem State.modLane_lane (s : State) (p : Phys) (f : LaneUnit → LaneUnit) : (s.modLane p f).lane = vupd s.lane p f := rfl
@[simp] theorem State.modLane_rx (s : State) (p : Phys) (f : LaneUnit → LaneUnit) : (s.modLane p f).rx = s.rx := rfl
@[simp] theorem State.modLane_acq (s : State) (p : Phys) (f : LaneUnit → LaneUnit) : (s.modLane p f).acq = s.acq := rfl
@[simp] theorem State.modLane_dec (s : State) (p : Phys) (f : LaneUnit → LaneUnit) : (s.modLane p f).dec = s.dec := rfl
@[simp] theorem State.modLane_tx (s : State) (p : Phys) (f : LaneUnit → LaneUnit) : (s.modLane p f).tx = s.tx := rfl
@[simp] theorem State.modLane_work (s : State) (p : Phys) (f : LaneUnit → LaneUnit) : (s.modLane p f).work = s.work := rfl
@[simp] theorem State.modLane_gallery (s : State) (p : Phys) (f : LaneUnit → LaneUnit) : (s.modLane p f).gallery = s.gallery := rfl
@[simp] theorem State.modLane_epoch (s : State) (p : Phys) (f : LaneUnit → LaneUnit) : (s.modLane p f).epoch = s.epoch := rfl
@[simp] theorem State.modLane_group (s : State) (p : Phys) (f : LaneUnit → LaneUnit) : (s.modLane p f).group = s.group := rfl
@[simp] theorem State.modLane_photon (s : State) (p : Phys) (f : LaneUnit → LaneUnit) : (s.modLane p f).photon = s.photon := rfl
@[simp] theorem State.modLane_therm (s : State) (p : Phys) (f : LaneUnit → LaneUnit) : (s.modLane p f).therm = s.therm := rfl
@[simp] theorem State.modLane_cal (s : State) (p : Phys) (f : LaneUnit → LaneUnit) : (s.modLane p f).cal = s.cal := rfl
@[simp] theorem State.modLane_age (s : State) (p : Phys) (f : LaneUnit → LaneUnit) : (s.modLane p f).age = s.age := rfl
@[simp] theorem State.modLane_free (s : State) (p : Phys) (f : LaneUnit → LaneUnit) : (s.modLane p f).free = s.free := rfl
@[simp] theorem State.modLane_pending (s : State) (p : Phys) (f : LaneUnit → LaneUnit) : (s.modLane p f).pending = s.pending := rfl
@[simp] theorem State.modRx_ctl (s : State) (p : Phys) (f : RxLane → RxLane) : (s.modRx p f).ctl = s.ctl := rfl
@[simp] theorem State.modRx_sys (s : State) (p : Phys) (f : RxLane → RxLane) : (s.modRx p f).sys = s.sys := rfl
@[simp] theorem State.modRx_sec (s : State) (p : Phys) (f : RxLane → RxLane) : (s.modRx p f).sec = s.sec := rfl
@[simp] theorem State.modRx_lane (s : State) (p : Phys) (f : RxLane → RxLane) : (s.modRx p f).lane = s.lane := rfl
@[simp] theorem State.modRx_rx (s : State) (p : Phys) (f : RxLane → RxLane) : (s.modRx p f).rx = vupd s.rx p f := rfl
@[simp] theorem State.modRx_acq (s : State) (p : Phys) (f : RxLane → RxLane) : (s.modRx p f).acq = s.acq := rfl
@[simp] theorem State.modRx_dec (s : State) (p : Phys) (f : RxLane → RxLane) : (s.modRx p f).dec = s.dec := rfl
@[simp] theorem State.modRx_tx (s : State) (p : Phys) (f : RxLane → RxLane) : (s.modRx p f).tx = s.tx := rfl
@[simp] theorem State.modRx_work (s : State) (p : Phys) (f : RxLane → RxLane) : (s.modRx p f).work = s.work := rfl
@[simp] theorem State.modRx_gallery (s : State) (p : Phys) (f : RxLane → RxLane) : (s.modRx p f).gallery = s.gallery := rfl
@[simp] theorem State.modRx_epoch (s : State) (p : Phys) (f : RxLane → RxLane) : (s.modRx p f).epoch = s.epoch := rfl
@[simp] theorem State.modRx_group (s : State) (p : Phys) (f : RxLane → RxLane) : (s.modRx p f).group = s.group := rfl
@[simp] theorem State.modRx_photon (s : State) (p : Phys) (f : RxLane → RxLane) : (s.modRx p f).photon = s.photon := rfl
@[simp] theorem State.modRx_therm (s : State) (p : Phys) (f : RxLane → RxLane) : (s.modRx p f).therm = s.therm := rfl
@[simp] theorem State.modRx_cal (s : State) (p : Phys) (f : RxLane → RxLane) : (s.modRx p f).cal = s.cal := rfl
@[simp] theorem State.modRx_age (s : State) (p : Phys) (f : RxLane → RxLane) : (s.modRx p f).age = s.age := rfl
@[simp] theorem State.modRx_free (s : State) (p : Phys) (f : RxLane → RxLane) : (s.modRx p f).free = s.free := rfl
@[simp] theorem State.modRx_pending (s : State) (p : Phys) (f : RxLane → RxLane) : (s.modRx p f).pending = s.pending := rfl
@[simp] theorem State.modDiag_ctl (s : State) (p : Phys) (f : RxDiag → RxDiag) : (s.modDiag p f).ctl = s.ctl := rfl
@[simp] theorem State.modDiag_sys (s : State) (p : Phys) (f : RxDiag → RxDiag) : (s.modDiag p f).sys = s.sys := rfl
@[simp] theorem State.modDiag_sec (s : State) (p : Phys) (f : RxDiag → RxDiag) : (s.modDiag p f).sec = s.sec := rfl
@[simp] theorem State.modDiag_lane (s : State) (p : Phys) (f : RxDiag → RxDiag) : (s.modDiag p f).lane = s.lane := rfl
@[simp] theorem State.modDiag_rx (s : State) (p : Phys) (f : RxDiag → RxDiag) : (s.modDiag p f).rx = vupd s.rx p fun r => { r with diag := f r.diag } := rfl
@[simp] theorem State.modDiag_acq (s : State) (p : Phys) (f : RxDiag → RxDiag) : (s.modDiag p f).acq = s.acq := rfl
@[simp] theorem State.modDiag_dec (s : State) (p : Phys) (f : RxDiag → RxDiag) : (s.modDiag p f).dec = s.dec := rfl
@[simp] theorem State.modDiag_tx (s : State) (p : Phys) (f : RxDiag → RxDiag) : (s.modDiag p f).tx = s.tx := rfl
@[simp] theorem State.modDiag_work (s : State) (p : Phys) (f : RxDiag → RxDiag) : (s.modDiag p f).work = s.work := rfl
@[simp] theorem State.modDiag_gallery (s : State) (p : Phys) (f : RxDiag → RxDiag) : (s.modDiag p f).gallery = s.gallery := rfl
@[simp] theorem State.modDiag_epoch (s : State) (p : Phys) (f : RxDiag → RxDiag) : (s.modDiag p f).epoch = s.epoch := rfl
@[simp] theorem State.modDiag_group (s : State) (p : Phys) (f : RxDiag → RxDiag) : (s.modDiag p f).group = s.group := rfl
@[simp] theorem State.modDiag_photon (s : State) (p : Phys) (f : RxDiag → RxDiag) : (s.modDiag p f).photon = s.photon := rfl
@[simp] theorem State.modDiag_therm (s : State) (p : Phys) (f : RxDiag → RxDiag) : (s.modDiag p f).therm = s.therm := rfl
@[simp] theorem State.modDiag_cal (s : State) (p : Phys) (f : RxDiag → RxDiag) : (s.modDiag p f).cal = s.cal := rfl
@[simp] theorem State.modDiag_age (s : State) (p : Phys) (f : RxDiag → RxDiag) : (s.modDiag p f).age = s.age := rfl
@[simp] theorem State.modDiag_free (s : State) (p : Phys) (f : RxDiag → RxDiag) : (s.modDiag p f).free = s.free := rfl
@[simp] theorem State.modDiag_pending (s : State) (p : Phys) (f : RxDiag → RxDiag) : (s.modDiag p f).pending = s.pending := rfl
@[simp] theorem State.modAcq_ctl (s : State) (p : Phys) (f : Acq → Acq) : (s.modAcq p f).ctl = s.ctl := rfl
@[simp] theorem State.modAcq_sys (s : State) (p : Phys) (f : Acq → Acq) : (s.modAcq p f).sys = s.sys := rfl
@[simp] theorem State.modAcq_sec (s : State) (p : Phys) (f : Acq → Acq) : (s.modAcq p f).sec = s.sec := rfl
@[simp] theorem State.modAcq_lane (s : State) (p : Phys) (f : Acq → Acq) : (s.modAcq p f).lane = s.lane := rfl
@[simp] theorem State.modAcq_rx (s : State) (p : Phys) (f : Acq → Acq) : (s.modAcq p f).rx = s.rx := rfl
@[simp] theorem State.modAcq_acq (s : State) (p : Phys) (f : Acq → Acq) : (s.modAcq p f).acq = vupd s.acq p f := rfl
@[simp] theorem State.modAcq_dec (s : State) (p : Phys) (f : Acq → Acq) : (s.modAcq p f).dec = s.dec := rfl
@[simp] theorem State.modAcq_tx (s : State) (p : Phys) (f : Acq → Acq) : (s.modAcq p f).tx = s.tx := rfl
@[simp] theorem State.modAcq_work (s : State) (p : Phys) (f : Acq → Acq) : (s.modAcq p f).work = s.work := rfl
@[simp] theorem State.modAcq_gallery (s : State) (p : Phys) (f : Acq → Acq) : (s.modAcq p f).gallery = s.gallery := rfl
@[simp] theorem State.modAcq_epoch (s : State) (p : Phys) (f : Acq → Acq) : (s.modAcq p f).epoch = s.epoch := rfl
@[simp] theorem State.modAcq_group (s : State) (p : Phys) (f : Acq → Acq) : (s.modAcq p f).group = s.group := rfl
@[simp] theorem State.modAcq_photon (s : State) (p : Phys) (f : Acq → Acq) : (s.modAcq p f).photon = s.photon := rfl
@[simp] theorem State.modAcq_therm (s : State) (p : Phys) (f : Acq → Acq) : (s.modAcq p f).therm = s.therm := rfl
@[simp] theorem State.modAcq_cal (s : State) (p : Phys) (f : Acq → Acq) : (s.modAcq p f).cal = s.cal := rfl
@[simp] theorem State.modAcq_age (s : State) (p : Phys) (f : Acq → Acq) : (s.modAcq p f).age = s.age := rfl
@[simp] theorem State.modAcq_free (s : State) (p : Phys) (f : Acq → Acq) : (s.modAcq p f).free = s.free := rfl
@[simp] theorem State.modAcq_pending (s : State) (p : Phys) (f : Acq → Acq) : (s.modAcq p f).pending = s.pending := rfl
@[simp] theorem State.modDec_ctl (s : State) (p : Phys) (f : DecodeLane → DecodeLane) : (s.modDec p f).ctl = s.ctl := rfl
@[simp] theorem State.modDec_sys (s : State) (p : Phys) (f : DecodeLane → DecodeLane) : (s.modDec p f).sys = s.sys := rfl
@[simp] theorem State.modDec_sec (s : State) (p : Phys) (f : DecodeLane → DecodeLane) : (s.modDec p f).sec = s.sec := rfl
@[simp] theorem State.modDec_lane (s : State) (p : Phys) (f : DecodeLane → DecodeLane) : (s.modDec p f).lane = s.lane := rfl
@[simp] theorem State.modDec_rx (s : State) (p : Phys) (f : DecodeLane → DecodeLane) : (s.modDec p f).rx = s.rx := rfl
@[simp] theorem State.modDec_acq (s : State) (p : Phys) (f : DecodeLane → DecodeLane) : (s.modDec p f).acq = s.acq := rfl
@[simp] theorem State.modDec_dec (s : State) (p : Phys) (f : DecodeLane → DecodeLane) : (s.modDec p f).dec = vupd s.dec p f := rfl
@[simp] theorem State.modDec_tx (s : State) (p : Phys) (f : DecodeLane → DecodeLane) : (s.modDec p f).tx = s.tx := rfl
@[simp] theorem State.modDec_work (s : State) (p : Phys) (f : DecodeLane → DecodeLane) : (s.modDec p f).work = s.work := rfl
@[simp] theorem State.modDec_gallery (s : State) (p : Phys) (f : DecodeLane → DecodeLane) : (s.modDec p f).gallery = s.gallery := rfl
@[simp] theorem State.modDec_epoch (s : State) (p : Phys) (f : DecodeLane → DecodeLane) : (s.modDec p f).epoch = s.epoch := rfl
@[simp] theorem State.modDec_group (s : State) (p : Phys) (f : DecodeLane → DecodeLane) : (s.modDec p f).group = s.group := rfl
@[simp] theorem State.modDec_photon (s : State) (p : Phys) (f : DecodeLane → DecodeLane) : (s.modDec p f).photon = s.photon := rfl
@[simp] theorem State.modDec_therm (s : State) (p : Phys) (f : DecodeLane → DecodeLane) : (s.modDec p f).therm = s.therm := rfl
@[simp] theorem State.modDec_cal (s : State) (p : Phys) (f : DecodeLane → DecodeLane) : (s.modDec p f).cal = s.cal := rfl
@[simp] theorem State.modDec_age (s : State) (p : Phys) (f : DecodeLane → DecodeLane) : (s.modDec p f).age = s.age := rfl
@[simp] theorem State.modDec_free (s : State) (p : Phys) (f : DecodeLane → DecodeLane) : (s.modDec p f).free = s.free := rfl
@[simp] theorem State.modDec_pending (s : State) (p : Phys) (f : DecodeLane → DecodeLane) : (s.modDec p f).pending = s.pending := rfl
@[simp] theorem State.modTx_ctl (s : State) (p : Phys) (f : TxLane → TxLane) : (s.modTx p f).ctl = s.ctl := rfl
@[simp] theorem State.modTx_sys (s : State) (p : Phys) (f : TxLane → TxLane) : (s.modTx p f).sys = s.sys := rfl
@[simp] theorem State.modTx_sec (s : State) (p : Phys) (f : TxLane → TxLane) : (s.modTx p f).sec = s.sec := rfl
@[simp] theorem State.modTx_lane (s : State) (p : Phys) (f : TxLane → TxLane) : (s.modTx p f).lane = s.lane := rfl
@[simp] theorem State.modTx_rx (s : State) (p : Phys) (f : TxLane → TxLane) : (s.modTx p f).rx = s.rx := rfl
@[simp] theorem State.modTx_acq (s : State) (p : Phys) (f : TxLane → TxLane) : (s.modTx p f).acq = s.acq := rfl
@[simp] theorem State.modTx_dec (s : State) (p : Phys) (f : TxLane → TxLane) : (s.modTx p f).dec = s.dec := rfl
@[simp] theorem State.modTx_tx (s : State) (p : Phys) (f : TxLane → TxLane) : (s.modTx p f).tx = vupd s.tx p f := rfl
@[simp] theorem State.modTx_work (s : State) (p : Phys) (f : TxLane → TxLane) : (s.modTx p f).work = s.work := rfl
@[simp] theorem State.modTx_gallery (s : State) (p : Phys) (f : TxLane → TxLane) : (s.modTx p f).gallery = s.gallery := rfl
@[simp] theorem State.modTx_epoch (s : State) (p : Phys) (f : TxLane → TxLane) : (s.modTx p f).epoch = s.epoch := rfl
@[simp] theorem State.modTx_group (s : State) (p : Phys) (f : TxLane → TxLane) : (s.modTx p f).group = s.group := rfl
@[simp] theorem State.modTx_photon (s : State) (p : Phys) (f : TxLane → TxLane) : (s.modTx p f).photon = s.photon := rfl
@[simp] theorem State.modTx_therm (s : State) (p : Phys) (f : TxLane → TxLane) : (s.modTx p f).therm = s.therm := rfl
@[simp] theorem State.modTx_cal (s : State) (p : Phys) (f : TxLane → TxLane) : (s.modTx p f).cal = s.cal := rfl
@[simp] theorem State.modTx_age (s : State) (p : Phys) (f : TxLane → TxLane) : (s.modTx p f).age = s.age := rfl
@[simp] theorem State.modTx_free (s : State) (p : Phys) (f : TxLane → TxLane) : (s.modTx p f).free = s.free := rfl
@[simp] theorem State.modTx_pending (s : State) (p : Phys) (f : TxLane → TxLane) : (s.modTx p f).pending = s.pending := rfl
@[simp] theorem State.modTxDiag_ctl (s : State) (p : Phys) (f : TxDiag → TxDiag) : (s.modTxDiag p f).ctl = s.ctl := rfl
@[simp] theorem State.modTxDiag_sys (s : State) (p : Phys) (f : TxDiag → TxDiag) : (s.modTxDiag p f).sys = s.sys := rfl
@[simp] theorem State.modTxDiag_sec (s : State) (p : Phys) (f : TxDiag → TxDiag) : (s.modTxDiag p f).sec = s.sec := rfl
@[simp] theorem State.modTxDiag_lane (s : State) (p : Phys) (f : TxDiag → TxDiag) : (s.modTxDiag p f).lane = s.lane := rfl
@[simp] theorem State.modTxDiag_rx (s : State) (p : Phys) (f : TxDiag → TxDiag) : (s.modTxDiag p f).rx = s.rx := rfl
@[simp] theorem State.modTxDiag_acq (s : State) (p : Phys) (f : TxDiag → TxDiag) : (s.modTxDiag p f).acq = s.acq := rfl
@[simp] theorem State.modTxDiag_dec (s : State) (p : Phys) (f : TxDiag → TxDiag) : (s.modTxDiag p f).dec = s.dec := rfl
@[simp] theorem State.modTxDiag_tx (s : State) (p : Phys) (f : TxDiag → TxDiag) : (s.modTxDiag p f).tx = vupd s.tx p fun t => { t with diag := f t.diag } := rfl
@[simp] theorem State.modTxDiag_work (s : State) (p : Phys) (f : TxDiag → TxDiag) : (s.modTxDiag p f).work = s.work := rfl
@[simp] theorem State.modTxDiag_gallery (s : State) (p : Phys) (f : TxDiag → TxDiag) : (s.modTxDiag p f).gallery = s.gallery := rfl
@[simp] theorem State.modTxDiag_epoch (s : State) (p : Phys) (f : TxDiag → TxDiag) : (s.modTxDiag p f).epoch = s.epoch := rfl
@[simp] theorem State.modTxDiag_group (s : State) (p : Phys) (f : TxDiag → TxDiag) : (s.modTxDiag p f).group = s.group := rfl
@[simp] theorem State.modTxDiag_photon (s : State) (p : Phys) (f : TxDiag → TxDiag) : (s.modTxDiag p f).photon = s.photon := rfl
@[simp] theorem State.modTxDiag_therm (s : State) (p : Phys) (f : TxDiag → TxDiag) : (s.modTxDiag p f).therm = s.therm := rfl
@[simp] theorem State.modTxDiag_cal (s : State) (p : Phys) (f : TxDiag → TxDiag) : (s.modTxDiag p f).cal = s.cal := rfl
@[simp] theorem State.modTxDiag_age (s : State) (p : Phys) (f : TxDiag → TxDiag) : (s.modTxDiag p f).age = s.age := rfl
@[simp] theorem State.modTxDiag_free (s : State) (p : Phys) (f : TxDiag → TxDiag) : (s.modTxDiag p f).free = s.free := rfl
@[simp] theorem State.modTxDiag_pending (s : State) (p : Phys) (f : TxDiag → TxDiag) : (s.modTxDiag p f).pending = s.pending := rfl
@[simp] theorem State.modWork_ctl (s : State) (w : Work) (f : WorkLane → WorkLane) : (s.modWork w f).ctl = s.ctl := rfl
@[simp] theorem State.modWork_sys (s : State) (w : Work) (f : WorkLane → WorkLane) : (s.modWork w f).sys = s.sys := rfl
@[simp] theorem State.modWork_sec (s : State) (w : Work) (f : WorkLane → WorkLane) : (s.modWork w f).sec = s.sec := rfl
@[simp] theorem State.modWork_lane (s : State) (w : Work) (f : WorkLane → WorkLane) : (s.modWork w f).lane = s.lane := rfl
@[simp] theorem State.modWork_rx (s : State) (w : Work) (f : WorkLane → WorkLane) : (s.modWork w f).rx = s.rx := rfl
@[simp] theorem State.modWork_acq (s : State) (w : Work) (f : WorkLane → WorkLane) : (s.modWork w f).acq = s.acq := rfl
@[simp] theorem State.modWork_dec (s : State) (w : Work) (f : WorkLane → WorkLane) : (s.modWork w f).dec = s.dec := rfl
@[simp] theorem State.modWork_tx (s : State) (w : Work) (f : WorkLane → WorkLane) : (s.modWork w f).tx = s.tx := rfl
@[simp] theorem State.modWork_work (s : State) (w : Work) (f : WorkLane → WorkLane) : (s.modWork w f).work = vupd s.work w f := rfl
@[simp] theorem State.modWork_gallery (s : State) (w : Work) (f : WorkLane → WorkLane) : (s.modWork w f).gallery = s.gallery := rfl
@[simp] theorem State.modWork_epoch (s : State) (w : Work) (f : WorkLane → WorkLane) : (s.modWork w f).epoch = s.epoch := rfl
@[simp] theorem State.modWork_group (s : State) (w : Work) (f : WorkLane → WorkLane) : (s.modWork w f).group = s.group := rfl
@[simp] theorem State.modWork_photon (s : State) (w : Work) (f : WorkLane → WorkLane) : (s.modWork w f).photon = s.photon := rfl
@[simp] theorem State.modWork_therm (s : State) (w : Work) (f : WorkLane → WorkLane) : (s.modWork w f).therm = s.therm := rfl
@[simp] theorem State.modWork_cal (s : State) (w : Work) (f : WorkLane → WorkLane) : (s.modWork w f).cal = s.cal := rfl
@[simp] theorem State.modWork_age (s : State) (w : Work) (f : WorkLane → WorkLane) : (s.modWork w f).age = s.age := rfl
@[simp] theorem State.modWork_free (s : State) (w : Work) (f : WorkLane → WorkLane) : (s.modWork w f).free = s.free := rfl
@[simp] theorem State.modWork_pending (s : State) (w : Work) (f : WorkLane → WorkLane) : (s.modWork w f).pending = s.pending := rfl
@[simp] theorem State.modFec_ctl (s : State) (w : Work) (f : FecLane → FecLane) : (s.modFec w f).ctl = s.ctl := rfl
@[simp] theorem State.modFec_sys (s : State) (w : Work) (f : FecLane → FecLane) : (s.modFec w f).sys = s.sys := rfl
@[simp] theorem State.modFec_sec (s : State) (w : Work) (f : FecLane → FecLane) : (s.modFec w f).sec = s.sec := rfl
@[simp] theorem State.modFec_lane (s : State) (w : Work) (f : FecLane → FecLane) : (s.modFec w f).lane = s.lane := rfl
@[simp] theorem State.modFec_rx (s : State) (w : Work) (f : FecLane → FecLane) : (s.modFec w f).rx = s.rx := rfl
@[simp] theorem State.modFec_acq (s : State) (w : Work) (f : FecLane → FecLane) : (s.modFec w f).acq = s.acq := rfl
@[simp] theorem State.modFec_dec (s : State) (w : Work) (f : FecLane → FecLane) : (s.modFec w f).dec = s.dec := rfl
@[simp] theorem State.modFec_tx (s : State) (w : Work) (f : FecLane → FecLane) : (s.modFec w f).tx = s.tx := rfl
@[simp] theorem State.modFec_work (s : State) (w : Work) (f : FecLane → FecLane) : (s.modFec w f).work = vupd s.work w fun u => { u with fec := f u.fec } := rfl
@[simp] theorem State.modFec_gallery (s : State) (w : Work) (f : FecLane → FecLane) : (s.modFec w f).gallery = s.gallery := rfl
@[simp] theorem State.modFec_epoch (s : State) (w : Work) (f : FecLane → FecLane) : (s.modFec w f).epoch = s.epoch := rfl
@[simp] theorem State.modFec_group (s : State) (w : Work) (f : FecLane → FecLane) : (s.modFec w f).group = s.group := rfl
@[simp] theorem State.modFec_photon (s : State) (w : Work) (f : FecLane → FecLane) : (s.modFec w f).photon = s.photon := rfl
@[simp] theorem State.modFec_therm (s : State) (w : Work) (f : FecLane → FecLane) : (s.modFec w f).therm = s.therm := rfl
@[simp] theorem State.modFec_cal (s : State) (w : Work) (f : FecLane → FecLane) : (s.modFec w f).cal = s.cal := rfl
@[simp] theorem State.modFec_age (s : State) (w : Work) (f : FecLane → FecLane) : (s.modFec w f).age = s.age := rfl
@[simp] theorem State.modFec_free (s : State) (w : Work) (f : FecLane → FecLane) : (s.modFec w f).free = s.free := rfl
@[simp] theorem State.modFec_pending (s : State) (w : Work) (f : FecLane → FecLane) : (s.modFec w f).pending = s.pending := rfl
@[simp] theorem State.modTxw_ctl (s : State) (w : Work) (f : TxWork → TxWork) : (s.modTxw w f).ctl = s.ctl := rfl
@[simp] theorem State.modTxw_sys (s : State) (w : Work) (f : TxWork → TxWork) : (s.modTxw w f).sys = s.sys := rfl
@[simp] theorem State.modTxw_sec (s : State) (w : Work) (f : TxWork → TxWork) : (s.modTxw w f).sec = s.sec := rfl
@[simp] theorem State.modTxw_lane (s : State) (w : Work) (f : TxWork → TxWork) : (s.modTxw w f).lane = s.lane := rfl
@[simp] theorem State.modTxw_rx (s : State) (w : Work) (f : TxWork → TxWork) : (s.modTxw w f).rx = s.rx := rfl
@[simp] theorem State.modTxw_acq (s : State) (w : Work) (f : TxWork → TxWork) : (s.modTxw w f).acq = s.acq := rfl
@[simp] theorem State.modTxw_dec (s : State) (w : Work) (f : TxWork → TxWork) : (s.modTxw w f).dec = s.dec := rfl
@[simp] theorem State.modTxw_tx (s : State) (w : Work) (f : TxWork → TxWork) : (s.modTxw w f).tx = s.tx := rfl
@[simp] theorem State.modTxw_work (s : State) (w : Work) (f : TxWork → TxWork) : (s.modTxw w f).work = vupd s.work w fun u => { u with tx := f u.tx } := rfl
@[simp] theorem State.modTxw_gallery (s : State) (w : Work) (f : TxWork → TxWork) : (s.modTxw w f).gallery = s.gallery := rfl
@[simp] theorem State.modTxw_epoch (s : State) (w : Work) (f : TxWork → TxWork) : (s.modTxw w f).epoch = s.epoch := rfl
@[simp] theorem State.modTxw_group (s : State) (w : Work) (f : TxWork → TxWork) : (s.modTxw w f).group = s.group := rfl
@[simp] theorem State.modTxw_photon (s : State) (w : Work) (f : TxWork → TxWork) : (s.modTxw w f).photon = s.photon := rfl
@[simp] theorem State.modTxw_therm (s : State) (w : Work) (f : TxWork → TxWork) : (s.modTxw w f).therm = s.therm := rfl
@[simp] theorem State.modTxw_cal (s : State) (w : Work) (f : TxWork → TxWork) : (s.modTxw w f).cal = s.cal := rfl
@[simp] theorem State.modTxw_age (s : State) (w : Work) (f : TxWork → TxWork) : (s.modTxw w f).age = s.age := rfl
@[simp] theorem State.modTxw_free (s : State) (w : Work) (f : TxWork → TxWork) : (s.modTxw w f).free = s.free := rfl
@[simp] theorem State.modTxw_pending (s : State) (w : Work) (f : TxWork → TxWork) : (s.modTxw w f).pending = s.pending := rfl
@[simp] theorem State.modBurst_ctl (s : State) (w : Work) (f : BurstLane → BurstLane) : (s.modBurst w f).ctl = s.ctl := rfl
@[simp] theorem State.modBurst_sys (s : State) (w : Work) (f : BurstLane → BurstLane) : (s.modBurst w f).sys = s.sys := rfl
@[simp] theorem State.modBurst_sec (s : State) (w : Work) (f : BurstLane → BurstLane) : (s.modBurst w f).sec = s.sec := rfl
@[simp] theorem State.modBurst_lane (s : State) (w : Work) (f : BurstLane → BurstLane) : (s.modBurst w f).lane = s.lane := rfl
@[simp] theorem State.modBurst_rx (s : State) (w : Work) (f : BurstLane → BurstLane) : (s.modBurst w f).rx = s.rx := rfl
@[simp] theorem State.modBurst_acq (s : State) (w : Work) (f : BurstLane → BurstLane) : (s.modBurst w f).acq = s.acq := rfl
@[simp] theorem State.modBurst_dec (s : State) (w : Work) (f : BurstLane → BurstLane) : (s.modBurst w f).dec = s.dec := rfl
@[simp] theorem State.modBurst_tx (s : State) (w : Work) (f : BurstLane → BurstLane) : (s.modBurst w f).tx = s.tx := rfl
@[simp] theorem State.modBurst_work (s : State) (w : Work) (f : BurstLane → BurstLane) : (s.modBurst w f).work = vupd s.work w fun u => { u with burst := f u.burst } := rfl
@[simp] theorem State.modBurst_gallery (s : State) (w : Work) (f : BurstLane → BurstLane) : (s.modBurst w f).gallery = s.gallery := rfl
@[simp] theorem State.modBurst_epoch (s : State) (w : Work) (f : BurstLane → BurstLane) : (s.modBurst w f).epoch = s.epoch := rfl
@[simp] theorem State.modBurst_group (s : State) (w : Work) (f : BurstLane → BurstLane) : (s.modBurst w f).group = s.group := rfl
@[simp] theorem State.modBurst_photon (s : State) (w : Work) (f : BurstLane → BurstLane) : (s.modBurst w f).photon = s.photon := rfl
@[simp] theorem State.modBurst_therm (s : State) (w : Work) (f : BurstLane → BurstLane) : (s.modBurst w f).therm = s.therm := rfl
@[simp] theorem State.modBurst_cal (s : State) (w : Work) (f : BurstLane → BurstLane) : (s.modBurst w f).cal = s.cal := rfl
@[simp] theorem State.modBurst_age (s : State) (w : Work) (f : BurstLane → BurstLane) : (s.modBurst w f).age = s.age := rfl
@[simp] theorem State.modBurst_free (s : State) (w : Work) (f : BurstLane → BurstLane) : (s.modBurst w f).free = s.free := rfl
@[simp] theorem State.modBurst_pending (s : State) (w : Work) (f : BurstLane → BurstLane) : (s.modBurst w f).pending = s.pending := rfl
@[simp] theorem State.modGroup_ctl (s : State) (g : Group) (f : HostGroup → HostGroup) : (s.modGroup g f).ctl = s.ctl := rfl
@[simp] theorem State.modGroup_sys (s : State) (g : Group) (f : HostGroup → HostGroup) : (s.modGroup g f).sys = s.sys := rfl
@[simp] theorem State.modGroup_sec (s : State) (g : Group) (f : HostGroup → HostGroup) : (s.modGroup g f).sec = s.sec := rfl
@[simp] theorem State.modGroup_lane (s : State) (g : Group) (f : HostGroup → HostGroup) : (s.modGroup g f).lane = s.lane := rfl
@[simp] theorem State.modGroup_rx (s : State) (g : Group) (f : HostGroup → HostGroup) : (s.modGroup g f).rx = s.rx := rfl
@[simp] theorem State.modGroup_acq (s : State) (g : Group) (f : HostGroup → HostGroup) : (s.modGroup g f).acq = s.acq := rfl
@[simp] theorem State.modGroup_dec (s : State) (g : Group) (f : HostGroup → HostGroup) : (s.modGroup g f).dec = s.dec := rfl
@[simp] theorem State.modGroup_tx (s : State) (g : Group) (f : HostGroup → HostGroup) : (s.modGroup g f).tx = s.tx := rfl
@[simp] theorem State.modGroup_work (s : State) (g : Group) (f : HostGroup → HostGroup) : (s.modGroup g f).work = s.work := rfl
@[simp] theorem State.modGroup_gallery (s : State) (g : Group) (f : HostGroup → HostGroup) : (s.modGroup g f).gallery = s.gallery := rfl
@[simp] theorem State.modGroup_epoch (s : State) (g : Group) (f : HostGroup → HostGroup) : (s.modGroup g f).epoch = s.epoch := rfl
@[simp] theorem State.modGroup_group (s : State) (g : Group) (f : HostGroup → HostGroup) : (s.modGroup g f).group = vupd s.group g f := rfl
@[simp] theorem State.modGroup_photon (s : State) (g : Group) (f : HostGroup → HostGroup) : (s.modGroup g f).photon = s.photon := rfl
@[simp] theorem State.modGroup_therm (s : State) (g : Group) (f : HostGroup → HostGroup) : (s.modGroup g f).therm = s.therm := rfl
@[simp] theorem State.modGroup_cal (s : State) (g : Group) (f : HostGroup → HostGroup) : (s.modGroup g f).cal = s.cal := rfl
@[simp] theorem State.modGroup_age (s : State) (g : Group) (f : HostGroup → HostGroup) : (s.modGroup g f).age = s.age := rfl
@[simp] theorem State.modGroup_free (s : State) (g : Group) (f : HostGroup → HostGroup) : (s.modGroup g f).free = s.free := rfl
@[simp] theorem State.modGroup_pending (s : State) (g : Group) (f : HostGroup → HostGroup) : (s.modGroup g f).pending = s.pending := rfl
@[simp] theorem State.modPhoton_ctl (s : State) (f : PhotonUnit → PhotonUnit) : (s.modPhoton f).ctl = s.ctl := rfl
@[simp] theorem State.modPhoton_sys (s : State) (f : PhotonUnit → PhotonUnit) : (s.modPhoton f).sys = s.sys := rfl
@[simp] theorem State.modPhoton_sec (s : State) (f : PhotonUnit → PhotonUnit) : (s.modPhoton f).sec = s.sec := rfl
@[simp] theorem State.modPhoton_lane (s : State) (f : PhotonUnit → PhotonUnit) : (s.modPhoton f).lane = s.lane := rfl
@[simp] theorem State.modPhoton_rx (s : State) (f : PhotonUnit → PhotonUnit) : (s.modPhoton f).rx = s.rx := rfl
@[simp] theorem State.modPhoton_acq (s : State) (f : PhotonUnit → PhotonUnit) : (s.modPhoton f).acq = s.acq := rfl
@[simp] theorem State.modPhoton_dec (s : State) (f : PhotonUnit → PhotonUnit) : (s.modPhoton f).dec = s.dec := rfl
@[simp] theorem State.modPhoton_tx (s : State) (f : PhotonUnit → PhotonUnit) : (s.modPhoton f).tx = s.tx := rfl
@[simp] theorem State.modPhoton_work (s : State) (f : PhotonUnit → PhotonUnit) : (s.modPhoton f).work = s.work := rfl
@[simp] theorem State.modPhoton_gallery (s : State) (f : PhotonUnit → PhotonUnit) : (s.modPhoton f).gallery = s.gallery := rfl
@[simp] theorem State.modPhoton_epoch (s : State) (f : PhotonUnit → PhotonUnit) : (s.modPhoton f).epoch = s.epoch := rfl
@[simp] theorem State.modPhoton_group (s : State) (f : PhotonUnit → PhotonUnit) : (s.modPhoton f).group = s.group := rfl
@[simp] theorem State.modPhoton_photon (s : State) (f : PhotonUnit → PhotonUnit) : (s.modPhoton f).photon = f s.photon := rfl
@[simp] theorem State.modPhoton_therm (s : State) (f : PhotonUnit → PhotonUnit) : (s.modPhoton f).therm = s.therm := rfl
@[simp] theorem State.modPhoton_cal (s : State) (f : PhotonUnit → PhotonUnit) : (s.modPhoton f).cal = s.cal := rfl
@[simp] theorem State.modPhoton_age (s : State) (f : PhotonUnit → PhotonUnit) : (s.modPhoton f).age = s.age := rfl
@[simp] theorem State.modPhoton_free (s : State) (f : PhotonUnit → PhotonUnit) : (s.modPhoton f).free = s.free := rfl
@[simp] theorem State.modPhoton_pending (s : State) (f : PhotonUnit → PhotonUnit) : (s.modPhoton f).pending = s.pending := rfl
@[simp] theorem State.modBias_ctl (s : State) (o : Bias) (f : BiasOut → BiasOut) : (s.modBias o f).ctl = s.ctl := rfl
@[simp] theorem State.modBias_sys (s : State) (o : Bias) (f : BiasOut → BiasOut) : (s.modBias o f).sys = s.sys := rfl
@[simp] theorem State.modBias_sec (s : State) (o : Bias) (f : BiasOut → BiasOut) : (s.modBias o f).sec = s.sec := rfl
@[simp] theorem State.modBias_lane (s : State) (o : Bias) (f : BiasOut → BiasOut) : (s.modBias o f).lane = s.lane := rfl
@[simp] theorem State.modBias_rx (s : State) (o : Bias) (f : BiasOut → BiasOut) : (s.modBias o f).rx = s.rx := rfl
@[simp] theorem State.modBias_acq (s : State) (o : Bias) (f : BiasOut → BiasOut) : (s.modBias o f).acq = s.acq := rfl
@[simp] theorem State.modBias_dec (s : State) (o : Bias) (f : BiasOut → BiasOut) : (s.modBias o f).dec = s.dec := rfl
@[simp] theorem State.modBias_tx (s : State) (o : Bias) (f : BiasOut → BiasOut) : (s.modBias o f).tx = s.tx := rfl
@[simp] theorem State.modBias_work (s : State) (o : Bias) (f : BiasOut → BiasOut) : (s.modBias o f).work = s.work := rfl
@[simp] theorem State.modBias_gallery (s : State) (o : Bias) (f : BiasOut → BiasOut) : (s.modBias o f).gallery = s.gallery := rfl
@[simp] theorem State.modBias_epoch (s : State) (o : Bias) (f : BiasOut → BiasOut) : (s.modBias o f).epoch = s.epoch := rfl
@[simp] theorem State.modBias_group (s : State) (o : Bias) (f : BiasOut → BiasOut) : (s.modBias o f).group = s.group := rfl
@[simp] theorem State.modBias_photon (s : State) (o : Bias) (f : BiasOut → BiasOut) : (s.modBias o f).photon = { s.photon with bias := vupd s.photon.bias o f } := rfl
@[simp] theorem State.modBias_therm (s : State) (o : Bias) (f : BiasOut → BiasOut) : (s.modBias o f).therm = s.therm := rfl
@[simp] theorem State.modBias_cal (s : State) (o : Bias) (f : BiasOut → BiasOut) : (s.modBias o f).cal = s.cal := rfl
@[simp] theorem State.modBias_age (s : State) (o : Bias) (f : BiasOut → BiasOut) : (s.modBias o f).age = s.age := rfl
@[simp] theorem State.modBias_free (s : State) (o : Bias) (f : BiasOut → BiasOut) : (s.modBias o f).free = s.free := rfl
@[simp] theorem State.modBias_pending (s : State) (o : Bias) (f : BiasOut → BiasOut) : (s.modBias o f).pending = s.pending := rfl
@[simp] theorem State.modMon_ctl (s : State) (u : Mon) (f : MonUnit → MonUnit) : (s.modMon u f).ctl = s.ctl := rfl
@[simp] theorem State.modMon_sys (s : State) (u : Mon) (f : MonUnit → MonUnit) : (s.modMon u f).sys = s.sys := rfl
@[simp] theorem State.modMon_sec (s : State) (u : Mon) (f : MonUnit → MonUnit) : (s.modMon u f).sec = s.sec := rfl
@[simp] theorem State.modMon_lane (s : State) (u : Mon) (f : MonUnit → MonUnit) : (s.modMon u f).lane = s.lane := rfl
@[simp] theorem State.modMon_rx (s : State) (u : Mon) (f : MonUnit → MonUnit) : (s.modMon u f).rx = s.rx := rfl
@[simp] theorem State.modMon_acq (s : State) (u : Mon) (f : MonUnit → MonUnit) : (s.modMon u f).acq = s.acq := rfl
@[simp] theorem State.modMon_dec (s : State) (u : Mon) (f : MonUnit → MonUnit) : (s.modMon u f).dec = s.dec := rfl
@[simp] theorem State.modMon_tx (s : State) (u : Mon) (f : MonUnit → MonUnit) : (s.modMon u f).tx = s.tx := rfl
@[simp] theorem State.modMon_work (s : State) (u : Mon) (f : MonUnit → MonUnit) : (s.modMon u f).work = s.work := rfl
@[simp] theorem State.modMon_gallery (s : State) (u : Mon) (f : MonUnit → MonUnit) : (s.modMon u f).gallery = s.gallery := rfl
@[simp] theorem State.modMon_epoch (s : State) (u : Mon) (f : MonUnit → MonUnit) : (s.modMon u f).epoch = s.epoch := rfl
@[simp] theorem State.modMon_group (s : State) (u : Mon) (f : MonUnit → MonUnit) : (s.modMon u f).group = s.group := rfl
@[simp] theorem State.modMon_photon (s : State) (u : Mon) (f : MonUnit → MonUnit) : (s.modMon u f).photon = { s.photon with mon := vupd s.photon.mon u f } := rfl
@[simp] theorem State.modMon_therm (s : State) (u : Mon) (f : MonUnit → MonUnit) : (s.modMon u f).therm = s.therm := rfl
@[simp] theorem State.modMon_cal (s : State) (u : Mon) (f : MonUnit → MonUnit) : (s.modMon u f).cal = s.cal := rfl
@[simp] theorem State.modMon_age (s : State) (u : Mon) (f : MonUnit → MonUnit) : (s.modMon u f).age = s.age := rfl
@[simp] theorem State.modMon_free (s : State) (u : Mon) (f : MonUnit → MonUnit) : (s.modMon u f).free = s.free := rfl
@[simp] theorem State.modMon_pending (s : State) (u : Mon) (f : MonUnit → MonUnit) : (s.modMon u f).pending = s.pending := rfl
@[simp] theorem State.modFilter_ctl (s : State) (c : Fch) (f : FilterCh → FilterCh) : (s.modFilter c f).ctl = s.ctl := rfl
@[simp] theorem State.modFilter_sys (s : State) (c : Fch) (f : FilterCh → FilterCh) : (s.modFilter c f).sys = s.sys := rfl
@[simp] theorem State.modFilter_sec (s : State) (c : Fch) (f : FilterCh → FilterCh) : (s.modFilter c f).sec = s.sec := rfl
@[simp] theorem State.modFilter_lane (s : State) (c : Fch) (f : FilterCh → FilterCh) : (s.modFilter c f).lane = s.lane := rfl
@[simp] theorem State.modFilter_rx (s : State) (c : Fch) (f : FilterCh → FilterCh) : (s.modFilter c f).rx = s.rx := rfl
@[simp] theorem State.modFilter_acq (s : State) (c : Fch) (f : FilterCh → FilterCh) : (s.modFilter c f).acq = s.acq := rfl
@[simp] theorem State.modFilter_dec (s : State) (c : Fch) (f : FilterCh → FilterCh) : (s.modFilter c f).dec = s.dec := rfl
@[simp] theorem State.modFilter_tx (s : State) (c : Fch) (f : FilterCh → FilterCh) : (s.modFilter c f).tx = s.tx := rfl
@[simp] theorem State.modFilter_work (s : State) (c : Fch) (f : FilterCh → FilterCh) : (s.modFilter c f).work = s.work := rfl
@[simp] theorem State.modFilter_gallery (s : State) (c : Fch) (f : FilterCh → FilterCh) : (s.modFilter c f).gallery = s.gallery := rfl
@[simp] theorem State.modFilter_epoch (s : State) (c : Fch) (f : FilterCh → FilterCh) : (s.modFilter c f).epoch = s.epoch := rfl
@[simp] theorem State.modFilter_group (s : State) (c : Fch) (f : FilterCh → FilterCh) : (s.modFilter c f).group = s.group := rfl
@[simp] theorem State.modFilter_photon (s : State) (c : Fch) (f : FilterCh → FilterCh) : (s.modFilter c f).photon = { s.photon with filter := vupd s.photon.filter c f } := rfl
@[simp] theorem State.modFilter_therm (s : State) (c : Fch) (f : FilterCh → FilterCh) : (s.modFilter c f).therm = s.therm := rfl
@[simp] theorem State.modFilter_cal (s : State) (c : Fch) (f : FilterCh → FilterCh) : (s.modFilter c f).cal = s.cal := rfl
@[simp] theorem State.modFilter_age (s : State) (c : Fch) (f : FilterCh → FilterCh) : (s.modFilter c f).age = s.age := rfl
@[simp] theorem State.modFilter_free (s : State) (c : Fch) (f : FilterCh → FilterCh) : (s.modFilter c f).free = s.free := rfl
@[simp] theorem State.modFilter_pending (s : State) (c : Fch) (f : FilterCh → FilterCh) : (s.modFilter c f).pending = s.pending := rfl
@[simp] theorem State.modEpoch_ctl (s : State) (f : EpochUnit → EpochUnit) : (s.modEpoch f).ctl = s.ctl := rfl
@[simp] theorem State.modEpoch_sys (s : State) (f : EpochUnit → EpochUnit) : (s.modEpoch f).sys = s.sys := rfl
@[simp] theorem State.modEpoch_sec (s : State) (f : EpochUnit → EpochUnit) : (s.modEpoch f).sec = s.sec := rfl
@[simp] theorem State.modEpoch_lane (s : State) (f : EpochUnit → EpochUnit) : (s.modEpoch f).lane = s.lane := rfl
@[simp] theorem State.modEpoch_rx (s : State) (f : EpochUnit → EpochUnit) : (s.modEpoch f).rx = s.rx := rfl
@[simp] theorem State.modEpoch_acq (s : State) (f : EpochUnit → EpochUnit) : (s.modEpoch f).acq = s.acq := rfl
@[simp] theorem State.modEpoch_dec (s : State) (f : EpochUnit → EpochUnit) : (s.modEpoch f).dec = s.dec := rfl
@[simp] theorem State.modEpoch_tx (s : State) (f : EpochUnit → EpochUnit) : (s.modEpoch f).tx = s.tx := rfl
@[simp] theorem State.modEpoch_work (s : State) (f : EpochUnit → EpochUnit) : (s.modEpoch f).work = s.work := rfl
@[simp] theorem State.modEpoch_gallery (s : State) (f : EpochUnit → EpochUnit) : (s.modEpoch f).gallery = s.gallery := rfl
@[simp] theorem State.modEpoch_epoch (s : State) (f : EpochUnit → EpochUnit) : (s.modEpoch f).epoch = f s.epoch := rfl
@[simp] theorem State.modEpoch_group (s : State) (f : EpochUnit → EpochUnit) : (s.modEpoch f).group = s.group := rfl
@[simp] theorem State.modEpoch_photon (s : State) (f : EpochUnit → EpochUnit) : (s.modEpoch f).photon = s.photon := rfl
@[simp] theorem State.modEpoch_therm (s : State) (f : EpochUnit → EpochUnit) : (s.modEpoch f).therm = s.therm := rfl
@[simp] theorem State.modEpoch_cal (s : State) (f : EpochUnit → EpochUnit) : (s.modEpoch f).cal = s.cal := rfl
@[simp] theorem State.modEpoch_age (s : State) (f : EpochUnit → EpochUnit) : (s.modEpoch f).age = s.age := rfl
@[simp] theorem State.modEpoch_free (s : State) (f : EpochUnit → EpochUnit) : (s.modEpoch f).free = s.free := rfl
@[simp] theorem State.modEpoch_pending (s : State) (f : EpochUnit → EpochUnit) : (s.modEpoch f).pending = s.pending := rfl
@[simp] theorem State.modTherm_ctl (s : State) (f : ThermUnit → ThermUnit) : (s.modTherm f).ctl = s.ctl := rfl
@[simp] theorem State.modTherm_sys (s : State) (f : ThermUnit → ThermUnit) : (s.modTherm f).sys = s.sys := rfl
@[simp] theorem State.modTherm_sec (s : State) (f : ThermUnit → ThermUnit) : (s.modTherm f).sec = s.sec := rfl
@[simp] theorem State.modTherm_lane (s : State) (f : ThermUnit → ThermUnit) : (s.modTherm f).lane = s.lane := rfl
@[simp] theorem State.modTherm_rx (s : State) (f : ThermUnit → ThermUnit) : (s.modTherm f).rx = s.rx := rfl
@[simp] theorem State.modTherm_acq (s : State) (f : ThermUnit → ThermUnit) : (s.modTherm f).acq = s.acq := rfl
@[simp] theorem State.modTherm_dec (s : State) (f : ThermUnit → ThermUnit) : (s.modTherm f).dec = s.dec := rfl
@[simp] theorem State.modTherm_tx (s : State) (f : ThermUnit → ThermUnit) : (s.modTherm f).tx = s.tx := rfl
@[simp] theorem State.modTherm_work (s : State) (f : ThermUnit → ThermUnit) : (s.modTherm f).work = s.work := rfl
@[simp] theorem State.modTherm_gallery (s : State) (f : ThermUnit → ThermUnit) : (s.modTherm f).gallery = s.gallery := rfl
@[simp] theorem State.modTherm_epoch (s : State) (f : ThermUnit → ThermUnit) : (s.modTherm f).epoch = s.epoch := rfl
@[simp] theorem State.modTherm_group (s : State) (f : ThermUnit → ThermUnit) : (s.modTherm f).group = s.group := rfl
@[simp] theorem State.modTherm_photon (s : State) (f : ThermUnit → ThermUnit) : (s.modTherm f).photon = s.photon := rfl
@[simp] theorem State.modTherm_therm (s : State) (f : ThermUnit → ThermUnit) : (s.modTherm f).therm = f s.therm := rfl
@[simp] theorem State.modTherm_cal (s : State) (f : ThermUnit → ThermUnit) : (s.modTherm f).cal = s.cal := rfl
@[simp] theorem State.modTherm_age (s : State) (f : ThermUnit → ThermUnit) : (s.modTherm f).age = s.age := rfl
@[simp] theorem State.modTherm_free (s : State) (f : ThermUnit → ThermUnit) : (s.modTherm f).free = s.free := rfl
@[simp] theorem State.modTherm_pending (s : State) (f : ThermUnit → ThermUnit) : (s.modTherm f).pending = s.pending := rfl
@[simp] theorem State.modCal_ctl (s : State) (f : CalUnit → CalUnit) : (s.modCal f).ctl = s.ctl := rfl
@[simp] theorem State.modCal_sys (s : State) (f : CalUnit → CalUnit) : (s.modCal f).sys = s.sys := rfl
@[simp] theorem State.modCal_sec (s : State) (f : CalUnit → CalUnit) : (s.modCal f).sec = s.sec := rfl
@[simp] theorem State.modCal_lane (s : State) (f : CalUnit → CalUnit) : (s.modCal f).lane = s.lane := rfl
@[simp] theorem State.modCal_rx (s : State) (f : CalUnit → CalUnit) : (s.modCal f).rx = s.rx := rfl
@[simp] theorem State.modCal_acq (s : State) (f : CalUnit → CalUnit) : (s.modCal f).acq = s.acq := rfl
@[simp] theorem State.modCal_dec (s : State) (f : CalUnit → CalUnit) : (s.modCal f).dec = s.dec := rfl
@[simp] theorem State.modCal_tx (s : State) (f : CalUnit → CalUnit) : (s.modCal f).tx = s.tx := rfl
@[simp] theorem State.modCal_work (s : State) (f : CalUnit → CalUnit) : (s.modCal f).work = s.work := rfl
@[simp] theorem State.modCal_gallery (s : State) (f : CalUnit → CalUnit) : (s.modCal f).gallery = s.gallery := rfl
@[simp] theorem State.modCal_epoch (s : State) (f : CalUnit → CalUnit) : (s.modCal f).epoch = s.epoch := rfl
@[simp] theorem State.modCal_group (s : State) (f : CalUnit → CalUnit) : (s.modCal f).group = s.group := rfl
@[simp] theorem State.modCal_photon (s : State) (f : CalUnit → CalUnit) : (s.modCal f).photon = s.photon := rfl
@[simp] theorem State.modCal_therm (s : State) (f : CalUnit → CalUnit) : (s.modCal f).therm = s.therm := rfl
@[simp] theorem State.modCal_cal (s : State) (f : CalUnit → CalUnit) : (s.modCal f).cal = f s.cal := rfl
@[simp] theorem State.modCal_age (s : State) (f : CalUnit → CalUnit) : (s.modCal f).age = s.age := rfl
@[simp] theorem State.modCal_free (s : State) (f : CalUnit → CalUnit) : (s.modCal f).free = s.free := rfl
@[simp] theorem State.modCal_pending (s : State) (f : CalUnit → CalUnit) : (s.modCal f).pending = s.pending := rfl
@[simp] theorem State.modCalLane_ctl (s : State) (p : Phys) (f : CalLane → CalLane) : (s.modCalLane p f).ctl = s.ctl := rfl
@[simp] theorem State.modCalLane_sys (s : State) (p : Phys) (f : CalLane → CalLane) : (s.modCalLane p f).sys = s.sys := rfl
@[simp] theorem State.modCalLane_sec (s : State) (p : Phys) (f : CalLane → CalLane) : (s.modCalLane p f).sec = s.sec := rfl
@[simp] theorem State.modCalLane_lane (s : State) (p : Phys) (f : CalLane → CalLane) : (s.modCalLane p f).lane = s.lane := rfl
@[simp] theorem State.modCalLane_rx (s : State) (p : Phys) (f : CalLane → CalLane) : (s.modCalLane p f).rx = s.rx := rfl
@[simp] theorem State.modCalLane_acq (s : State) (p : Phys) (f : CalLane → CalLane) : (s.modCalLane p f).acq = s.acq := rfl
@[simp] theorem State.modCalLane_dec (s : State) (p : Phys) (f : CalLane → CalLane) : (s.modCalLane p f).dec = s.dec := rfl
@[simp] theorem State.modCalLane_tx (s : State) (p : Phys) (f : CalLane → CalLane) : (s.modCalLane p f).tx = s.tx := rfl
@[simp] theorem State.modCalLane_work (s : State) (p : Phys) (f : CalLane → CalLane) : (s.modCalLane p f).work = s.work := rfl
@[simp] theorem State.modCalLane_gallery (s : State) (p : Phys) (f : CalLane → CalLane) : (s.modCalLane p f).gallery = s.gallery := rfl
@[simp] theorem State.modCalLane_epoch (s : State) (p : Phys) (f : CalLane → CalLane) : (s.modCalLane p f).epoch = s.epoch := rfl
@[simp] theorem State.modCalLane_group (s : State) (p : Phys) (f : CalLane → CalLane) : (s.modCalLane p f).group = s.group := rfl
@[simp] theorem State.modCalLane_photon (s : State) (p : Phys) (f : CalLane → CalLane) : (s.modCalLane p f).photon = s.photon := rfl
@[simp] theorem State.modCalLane_therm (s : State) (p : Phys) (f : CalLane → CalLane) : (s.modCalLane p f).therm = s.therm := rfl
@[simp] theorem State.modCalLane_cal (s : State) (p : Phys) (f : CalLane → CalLane) : (s.modCalLane p f).cal = { s.cal with lane := vupd s.cal.lane p f } := rfl
@[simp] theorem State.modCalLane_age (s : State) (p : Phys) (f : CalLane → CalLane) : (s.modCalLane p f).age = s.age := rfl
@[simp] theorem State.modCalLane_free (s : State) (p : Phys) (f : CalLane → CalLane) : (s.modCalLane p f).free = s.free := rfl
@[simp] theorem State.modCalLane_pending (s : State) (p : Phys) (f : CalLane → CalLane) : (s.modCalLane p f).pending = s.pending := rfl
@[simp] theorem State.modAge_ctl (s : State) (f : AgeUnit → AgeUnit) : (s.modAge f).ctl = s.ctl := rfl
@[simp] theorem State.modAge_sys (s : State) (f : AgeUnit → AgeUnit) : (s.modAge f).sys = s.sys := rfl
@[simp] theorem State.modAge_sec (s : State) (f : AgeUnit → AgeUnit) : (s.modAge f).sec = s.sec := rfl
@[simp] theorem State.modAge_lane (s : State) (f : AgeUnit → AgeUnit) : (s.modAge f).lane = s.lane := rfl
@[simp] theorem State.modAge_rx (s : State) (f : AgeUnit → AgeUnit) : (s.modAge f).rx = s.rx := rfl
@[simp] theorem State.modAge_acq (s : State) (f : AgeUnit → AgeUnit) : (s.modAge f).acq = s.acq := rfl
@[simp] theorem State.modAge_dec (s : State) (f : AgeUnit → AgeUnit) : (s.modAge f).dec = s.dec := rfl
@[simp] theorem State.modAge_tx (s : State) (f : AgeUnit → AgeUnit) : (s.modAge f).tx = s.tx := rfl
@[simp] theorem State.modAge_work (s : State) (f : AgeUnit → AgeUnit) : (s.modAge f).work = s.work := rfl
@[simp] theorem State.modAge_gallery (s : State) (f : AgeUnit → AgeUnit) : (s.modAge f).gallery = s.gallery := rfl
@[simp] theorem State.modAge_epoch (s : State) (f : AgeUnit → AgeUnit) : (s.modAge f).epoch = s.epoch := rfl
@[simp] theorem State.modAge_group (s : State) (f : AgeUnit → AgeUnit) : (s.modAge f).group = s.group := rfl
@[simp] theorem State.modAge_photon (s : State) (f : AgeUnit → AgeUnit) : (s.modAge f).photon = s.photon := rfl
@[simp] theorem State.modAge_therm (s : State) (f : AgeUnit → AgeUnit) : (s.modAge f).therm = s.therm := rfl
@[simp] theorem State.modAge_cal (s : State) (f : AgeUnit → AgeUnit) : (s.modAge f).cal = s.cal := rfl
@[simp] theorem State.modAge_age (s : State) (f : AgeUnit → AgeUnit) : (s.modAge f).age = f s.age := rfl
@[simp] theorem State.modAge_free (s : State) (f : AgeUnit → AgeUnit) : (s.modAge f).free = s.free := rfl
@[simp] theorem State.modAge_pending (s : State) (f : AgeUnit → AgeUnit) : (s.modAge f).pending = s.pending := rfl
@[simp] theorem State.modSess_ctl (s : State) (k : Sess) (f : Session → Session) : (s.modSess k f).ctl = { s.ctl with sess := vupd s.ctl.sess k f } := rfl
@[simp] theorem State.modSess_sys (s : State) (k : Sess) (f : Session → Session) : (s.modSess k f).sys = s.sys := rfl
@[simp] theorem State.modSess_sec (s : State) (k : Sess) (f : Session → Session) : (s.modSess k f).sec = s.sec := rfl
@[simp] theorem State.modSess_lane (s : State) (k : Sess) (f : Session → Session) : (s.modSess k f).lane = s.lane := rfl
@[simp] theorem State.modSess_rx (s : State) (k : Sess) (f : Session → Session) : (s.modSess k f).rx = s.rx := rfl
@[simp] theorem State.modSess_acq (s : State) (k : Sess) (f : Session → Session) : (s.modSess k f).acq = s.acq := rfl
@[simp] theorem State.modSess_dec (s : State) (k : Sess) (f : Session → Session) : (s.modSess k f).dec = s.dec := rfl
@[simp] theorem State.modSess_tx (s : State) (k : Sess) (f : Session → Session) : (s.modSess k f).tx = s.tx := rfl
@[simp] theorem State.modSess_work (s : State) (k : Sess) (f : Session → Session) : (s.modSess k f).work = s.work := rfl
@[simp] theorem State.modSess_gallery (s : State) (k : Sess) (f : Session → Session) : (s.modSess k f).gallery = s.gallery := rfl
@[simp] theorem State.modSess_epoch (s : State) (k : Sess) (f : Session → Session) : (s.modSess k f).epoch = s.epoch := rfl
@[simp] theorem State.modSess_group (s : State) (k : Sess) (f : Session → Session) : (s.modSess k f).group = s.group := rfl
@[simp] theorem State.modSess_photon (s : State) (k : Sess) (f : Session → Session) : (s.modSess k f).photon = s.photon := rfl
@[simp] theorem State.modSess_therm (s : State) (k : Sess) (f : Session → Session) : (s.modSess k f).therm = s.therm := rfl
@[simp] theorem State.modSess_cal (s : State) (k : Sess) (f : Session → Session) : (s.modSess k f).cal = s.cal := rfl
@[simp] theorem State.modSess_age (s : State) (k : Sess) (f : Session → Session) : (s.modSess k f).age = s.age := rfl
@[simp] theorem State.modSess_free (s : State) (k : Sess) (f : Session → Session) : (s.modSess k f).free = s.free := rfl
@[simp] theorem State.modSess_pending (s : State) (k : Sess) (f : Session → Session) : (s.modSess k f).pending = s.pending := rfl

end Sys2Proof.Machine
end

