-- ==== Sys2Proof/Laws/Mailbox.lean ====
section
/-!
SUPPORT. What answering a command does: the session's registers and response, and every part that stays.
-/
namespace Sys2Proof.Machine

/-- The index of a unit read back from its number. -/
@[simp] theorem finOf_val {n : Nat} [NeZero n] (p : Fin n) : finOf n p.val = p := by
  apply Fin.ext
  simp [finOf, Fin.ofNat, Nat.mod_eq_of_lt p.isLt]

end Sys2Proof.Machine
end

