-- ==== Sys2Proof/Laws/Shared.lean ====
section
/-!
SUPPORT. What raising an event and answering a command leave as it is, field by field.
-/
namespace Sys2Proof.Machine

@[simp] theorem State.trigPulse_ctl_sysLock (s : State) (e : Ev) :
    (s.trigPulse e).ctl.sysLock = s.ctl.sysLock :=
  (State.trigPulse_keeps (SameBut.refl [.trigPins] s) (List.Subset.refl _) e) .lock (by decide)

@[simp] theorem State.trigPulse_ctl_bus (s : State) (e : Ev) :
    (s.trigPulse e).ctl.bus = s.ctl.bus :=
  congrArg (fun x => x.1) ((State.trigPulse_keeps (SameBut.refl [.trigPins] s) (List.Subset.refl _) e) .bus (by decide))

@[simp] theorem State.trigPulse_ctl_indSpi (s : State) (e : Ev) :
    (s.trigPulse e).ctl.indSpi = s.ctl.indSpi :=
  congrArg (fun x => x.2.1) ((State.trigPulse_keeps (SameBut.refl [.trigPins] s) (List.Subset.refl _) e) .bus (by decide))

@[simp] theorem State.trigPulse_ctl_indSmb (s : State) (e : Ev) :
    (s.trigPulse e).ctl.indSmb = s.ctl.indSmb :=
  congrArg (fun x => x.2.2.1) ((State.trigPulse_keeps (SameBut.refl [.trigPins] s) (List.Subset.refl _) e) .bus (by decide))

@[simp] theorem State.trigPulse_ctl_busOut (s : State) (e : Ev) :
    (s.trigPulse e).ctl.busOut = s.ctl.busOut :=
  congrArg (fun x => x.2.2.2.1) ((State.trigPulse_keeps (SameBut.refl [.trigPins] s) (List.Subset.refl _) e) .bus (by decide))

@[simp] theorem State.trigPulse_ctl_heldRings (s : State) (e : Ev) :
    (s.trigPulse e).ctl.heldRings = s.ctl.heldRings :=
  congrArg (fun x => x.2.2.2.2.1) ((State.trigPulse_keeps (SameBut.refl [.trigPins] s) (List.Subset.refl _) e) .bus (by decide))

@[simp] theorem State.trigPulse_ctl_nextTurn (s : State) (e : Ev) :
    (s.trigPulse e).ctl.nextTurn = s.ctl.nextTurn :=
  congrArg (fun x => x.2.2.2.2.2) ((State.trigPulse_keeps (SameBut.refl [.trigPins] s) (List.Subset.refl _) e) .bus (by decide))

@[simp] theorem State.trigPulse_ctl_sess (s : State) (e : Ev) :
    (s.trigPulse e).ctl.sess = s.ctl.sess :=
  (State.trigPulse_keeps (SameBut.refl [.trigPins] s) (List.Subset.refl _) e) .sess (by decide)

@[simp] theorem State.trigPulse_ctl_ev (s : State) (e : Ev) :
    (s.trigPulse e).ctl.ev = s.ctl.ev :=
  (State.trigPulse_keeps (SameBut.refl [.trigPins] s) (List.Subset.refl _) e) .ev (by decide)

@[simp] theorem State.trigPulse_ctl_perf (s : State) (e : Ev) :
    (s.trigPulse e).ctl.perf = s.ctl.perf :=
  (State.trigPulse_keeps (SameBut.refl [.trigPins] s) (List.Subset.refl _) e) .perf (by decide)

@[simp] theorem State.trigPulse_ctl_snap (s : State) (e : Ev) :
    (s.trigPulse e).ctl.snap = s.ctl.snap :=
  congrArg (fun x => x.1) ((State.trigPulse_keeps (SameBut.refl [.trigPins] s) (List.Subset.refl _) e) .snap (by decide))

@[simp] theorem State.trigPulse_ctl_snapSeq (s : State) (e : Ev) :
    (s.trigPulse e).ctl.snapSeq = s.ctl.snapSeq :=
  congrArg (fun x => x.2) ((State.trigPulse_keeps (SameBut.refl [.trigPins] s) (List.Subset.refl _) e) .snap (by decide))

@[simp] theorem State.trigPulse_sys_pins (s : State) (e : Ev) :
    (s.trigPulse e).sys.pins = s.sys.pins :=
  (State.trigPulse_keeps (SameBut.refl [.trigPins] s) (List.Subset.refl _) e) .pins (by decide)

@[simp] theorem State.trigPulse_sys_clk (s : State) (e : Ev) :
    (s.trigPulse e).sys.clk = s.sys.clk :=
  (State.trigPulse_keeps (SameBut.refl [.trigPins] s) (List.Subset.refl _) e) .clk (by decide)

@[simp] theorem State.trigPulse_sys_core (s : State) (e : Ev) :
    (s.trigPulse e).sys.core = s.sys.core :=
  (State.trigPulse_keeps (SameBut.refl [.trigPins] s) (List.Subset.refl _) e) .core (by decide)

@[simp] theorem State.trigPulse_sys_power (s : State) (e : Ev) :
    (s.trigPulse e).sys.power = s.sys.power :=
  (State.trigPulse_keeps (SameBut.refl [.trigPins] s) (List.Subset.refl _) e) .power (by decide)

@[simp] theorem State.trigPulse_sys_avs (s : State) (e : Ev) :
    (s.trigPulse e).sys.avs = s.sys.avs :=
  (State.trigPulse_keeps (SameBut.refl [.trigPins] s) (List.Subset.refl _) e) .avs (by decide)

@[simp] theorem State.trigPulse_sys_mem (s : State) (e : Ev) :
    (s.trigPulse e).sys.mem = s.sys.mem :=
  (State.trigPulse_keeps (SameBut.refl [.trigPins] s) (List.Subset.refl _) e) .mem (by decide)

@[simp] theorem State.trigPulse_sys_fwReady (s : State) (e : Ev) :
    (s.trigPulse e).sys.fwReady = s.sys.fwReady :=
  (State.trigPulse_keeps (SameBut.refl [.trigPins] s) (List.Subset.refl _) e) .fwReady (by decide)

@[simp] theorem State.trigPulse_sys_ctlRestart (s : State) (e : Ev) :
    (s.trigPulse e).sys.ctlRestart = s.sys.ctlRestart :=
  (State.trigPulse_keeps (SameBut.refl [.trigPins] s) (List.Subset.refl _) e) .ctlRestart (by decide)

@[simp] theorem State.trigPulse_sec_otp (s : State) (e : Ev) :
    (s.trigPulse e).sec.otp = s.sec.otp :=
  (State.trigPulse_keeps (SameBut.refl [.trigPins] s) (List.Subset.refl _) e) .otp (by decide)

@[simp] theorem State.trigPulse_sec_made (s : State) (e : Ev) :
    (s.trigPulse e).sec.made = s.sec.made :=
  (State.trigPulse_keeps (SameBut.refl [.trigPins] s) (List.Subset.refl _) e) .made (by decide)

@[simp] theorem State.trigPulse_sec_nextIndex (s : State) (e : Ev) :
    (s.trigPulse e).sec.nextIndex = s.sec.nextIndex :=
  congrArg (fun x => x.1) ((State.trigPulse_keeps (SameBut.refl [.trigPins] s) (List.Subset.refl _) e) .signing (by decide))

@[simp] theorem State.trigPulse_sec_signReady (s : State) (e : Ev) :
    (s.trigPulse e).sec.signReady = s.sec.signReady :=
  congrArg (fun x => x.2.1) ((State.trigPulse_keeps (SameBut.refl [.trigPins] s) (List.Subset.refl _) e) .signing (by decide))

@[simp] theorem State.trigPulse_sec_low1024 (s : State) (e : Ev) :
    (s.trigPulse e).sec.low1024 = s.sec.low1024 :=
  congrArg (fun x => x.2.2.1) ((State.trigPulse_keeps (SameBut.refl [.trigPins] s) (List.Subset.refl _) e) .signing (by decide))

@[simp] theorem State.trigPulse_sec_low256 (s : State) (e : Ev) :
    (s.trigPulse e).sec.low256 = s.sec.low256 :=
  congrArg (fun x => x.2.2.2) ((State.trigPulse_keeps (SameBut.refl [.trigPins] s) (List.Subset.refl _) e) .signing (by decide))

@[simp] theorem State.trigPulse_sec_test (s : State) (e : Ev) :
    (s.trigPulse e).sec.test = s.sec.test :=
  (State.trigPulse_keeps (SameBut.refl [.trigPins] s) (List.Subset.refl _) e) .selfTest (by decide)

@[simp] theorem State.trigPulse_sec_flash (s : State) (e : Ev) :
    (s.trigPulse e).sec.flash = s.sec.flash :=
  (State.trigPulse_keeps (SameBut.refl [.trigPins] s) (List.Subset.refl _) e) .flash (by decide)

@[simp] theorem State.trigPulse_sec_img (s : State) (e : Ev) :
    (s.trigPulse e).sec.img = s.sec.img :=
  (State.trigPulse_keeps (SameBut.refl [.trigPins] s) (List.Subset.refl _) e) .img (by decide)

@[simp] theorem State.trigPulse_lane (s : State) (e : Ev) :
    (s.trigPulse e).lane = s.lane :=
  (State.trigPulse_keeps (SameBut.refl [.trigPins] s) (List.Subset.refl _) e) .lane (by decide)

@[simp] theorem State.trigPulse_rx (s : State) (e : Ev) :
    (s.trigPulse e).rx = s.rx :=
  (State.trigPulse_keeps (SameBut.refl [.trigPins] s) (List.Subset.refl _) e) .rx (by decide)

@[simp] theorem State.trigPulse_acq (s : State) (e : Ev) :
    (s.trigPulse e).acq = s.acq :=
  (State.trigPulse_keeps (SameBut.refl [.trigPins] s) (List.Subset.refl _) e) .acq (by decide)

@[simp] theorem State.trigPulse_dec (s : State) (e : Ev) :
    (s.trigPulse e).dec = s.dec :=
  (State.trigPulse_keeps (SameBut.refl [.trigPins] s) (List.Subset.refl _) e) .dec (by decide)

@[simp] theorem State.trigPulse_tx (s : State) (e : Ev) :
    (s.trigPulse e).tx = s.tx :=
  (State.trigPulse_keeps (SameBut.refl [.trigPins] s) (List.Subset.refl _) e) .tx (by decide)

@[simp] theorem State.trigPulse_work (s : State) (e : Ev) :
    (s.trigPulse e).work = s.work :=
  (State.trigPulse_keeps (SameBut.refl [.trigPins] s) (List.Subset.refl _) e) .work (by decide)

@[simp] theorem State.trigPulse_gallery (s : State) (e : Ev) :
    (s.trigPulse e).gallery = s.gallery :=
  (State.trigPulse_keeps (SameBut.refl [.trigPins] s) (List.Subset.refl _) e) .gallery (by decide)

@[simp] theorem State.trigPulse_epoch (s : State) (e : Ev) :
    (s.trigPulse e).epoch = s.epoch :=
  (State.trigPulse_keeps (SameBut.refl [.trigPins] s) (List.Subset.refl _) e) .epoch (by decide)

@[simp] theorem State.trigPulse_group (s : State) (e : Ev) :
    (s.trigPulse e).group = s.group :=
  (State.trigPulse_keeps (SameBut.refl [.trigPins] s) (List.Subset.refl _) e) .group (by decide)

@[simp] theorem State.trigPulse_photon_bias (s : State) (e : Ev) :
    (s.trigPulse e).photon.bias = s.photon.bias :=
  congrArg (fun x => x.1) ((State.trigPulse_keeps (SameBut.refl [.trigPins] s) (List.Subset.refl _) e) .bias (by decide))

@[simp] theorem State.trigPulse_photon_aggLimit (s : State) (e : Ev) :
    (s.trigPulse e).photon.aggLimit = s.photon.aggLimit :=
  congrArg (fun x => x.2) ((State.trigPulse_keeps (SameBut.refl [.trigPins] s) (List.Subset.refl _) e) .bias (by decide))

@[simp] theorem State.trigPulse_photon_mon (s : State) (e : Ev) :
    (s.trigPulse e).photon.mon = s.photon.mon :=
  congrArg (fun x => x.1) ((State.trigPulse_keeps (SameBut.refl [.trigPins] s) (List.Subset.refl _) e) .mon (by decide))

@[simp] theorem State.trigPulse_photon_lastConv (s : State) (e : Ev) :
    (s.trigPulse e).photon.lastConv = s.photon.lastConv :=
  congrArg (fun x => x.2) ((State.trigPulse_keeps (SameBut.refl [.trigPins] s) (List.Subset.refl _) e) .mon (by decide))

@[simp] theorem State.trigPulse_photon_filter (s : State) (e : Ev) :
    (s.trigPulse e).photon.filter = s.photon.filter :=
  congrArg (fun x => x.1) ((State.trigPulse_keeps (SameBut.refl [.trigPins] s) (List.Subset.refl _) e) .filter (by decide))

@[simp] theorem State.trigPulse_photon_banks (s : State) (e : Ev) :
    (s.trigPulse e).photon.banks = s.photon.banks :=
  congrArg (fun x => x.2) ((State.trigPulse_keeps (SameBut.refl [.trigPins] s) (List.Subset.refl _) e) .filter (by decide))

@[simp] theorem State.trigPulse_therm (s : State) (e : Ev) :
    (s.trigPulse e).therm = s.therm :=
  (State.trigPulse_keeps (SameBut.refl [.trigPins] s) (List.Subset.refl _) e) .therm (by decide)

@[simp] theorem State.trigPulse_cal (s : State) (e : Ev) :
    (s.trigPulse e).cal = s.cal :=
  (State.trigPulse_keeps (SameBut.refl [.trigPins] s) (List.Subset.refl _) e) .cal (by decide)

@[simp] theorem State.trigPulse_age (s : State) (e : Ev) :
    (s.trigPulse e).age = s.age :=
  (State.trigPulse_keeps (SameBut.refl [.trigPins] s) (List.Subset.refl _) e) .age (by decide)

@[simp] theorem State.trigPulse_free (s : State) (e : Ev) :
    (s.trigPulse e).free = s.free :=
  (State.trigPulse_keeps (SameBut.refl [.trigPins] s) (List.Subset.refl _) e) .free (by decide)

@[simp] theorem State.trigPulse_pending (s : State) (e : Ev) :
    (s.trigPulse e).pending = s.pending :=
  (State.trigPulse_keeps (SameBut.refl [.trigPins] s) (List.Subset.refl _) e) .pending (by decide)

@[simp] theorem State.settleEvents_ctl_sysLock (s : State)  :
    (s.settleEvents ).ctl.sysLock = s.ctl.sysLock :=
  (State.settleEvents_keeps (SameBut.refl [.ev] s) (List.Subset.refl _) ) .lock (by decide)

@[simp] theorem State.settleEvents_ctl_bus (s : State)  :
    (s.settleEvents ).ctl.bus = s.ctl.bus :=
  congrArg (fun x => x.1) ((State.settleEvents_keeps (SameBut.refl [.ev] s) (List.Subset.refl _) ) .bus (by decide))

@[simp] theorem State.settleEvents_ctl_indSpi (s : State)  :
    (s.settleEvents ).ctl.indSpi = s.ctl.indSpi :=
  congrArg (fun x => x.2.1) ((State.settleEvents_keeps (SameBut.refl [.ev] s) (List.Subset.refl _) ) .bus (by decide))

@[simp] theorem State.settleEvents_ctl_indSmb (s : State)  :
    (s.settleEvents ).ctl.indSmb = s.ctl.indSmb :=
  congrArg (fun x => x.2.2.1) ((State.settleEvents_keeps (SameBut.refl [.ev] s) (List.Subset.refl _) ) .bus (by decide))

@[simp] theorem State.settleEvents_ctl_busOut (s : State)  :
    (s.settleEvents ).ctl.busOut = s.ctl.busOut :=
  congrArg (fun x => x.2.2.2.1) ((State.settleEvents_keeps (SameBut.refl [.ev] s) (List.Subset.refl _) ) .bus (by decide))

@[simp] theorem State.settleEvents_ctl_heldRings (s : State)  :
    (s.settleEvents ).ctl.heldRings = s.ctl.heldRings :=
  congrArg (fun x => x.2.2.2.2.1) ((State.settleEvents_keeps (SameBut.refl [.ev] s) (List.Subset.refl _) ) .bus (by decide))

@[simp] theorem State.settleEvents_ctl_nextTurn (s : State)  :
    (s.settleEvents ).ctl.nextTurn = s.ctl.nextTurn :=
  congrArg (fun x => x.2.2.2.2.2) ((State.settleEvents_keeps (SameBut.refl [.ev] s) (List.Subset.refl _) ) .bus (by decide))

@[simp] theorem State.settleEvents_ctl_sess (s : State)  :
    (s.settleEvents ).ctl.sess = s.ctl.sess :=
  (State.settleEvents_keeps (SameBut.refl [.ev] s) (List.Subset.refl _) ) .sess (by decide)

@[simp] theorem State.settleEvents_ctl_perf (s : State)  :
    (s.settleEvents ).ctl.perf = s.ctl.perf :=
  (State.settleEvents_keeps (SameBut.refl [.ev] s) (List.Subset.refl _) ) .perf (by decide)

@[simp] theorem State.settleEvents_ctl_snap (s : State)  :
    (s.settleEvents ).ctl.snap = s.ctl.snap :=
  congrArg (fun x => x.1) ((State.settleEvents_keeps (SameBut.refl [.ev] s) (List.Subset.refl _) ) .snap (by decide))

@[simp] theorem State.settleEvents_ctl_snapSeq (s : State)  :
    (s.settleEvents ).ctl.snapSeq = s.ctl.snapSeq :=
  congrArg (fun x => x.2) ((State.settleEvents_keeps (SameBut.refl [.ev] s) (List.Subset.refl _) ) .snap (by decide))

@[simp] theorem State.settleEvents_sys_pins (s : State)  :
    (s.settleEvents ).sys.pins = s.sys.pins :=
  (State.settleEvents_keeps (SameBut.refl [.ev] s) (List.Subset.refl _) ) .pins (by decide)

@[simp] theorem State.settleEvents_sys_clk (s : State)  :
    (s.settleEvents ).sys.clk = s.sys.clk :=
  (State.settleEvents_keeps (SameBut.refl [.ev] s) (List.Subset.refl _) ) .clk (by decide)

@[simp] theorem State.settleEvents_sys_core (s : State)  :
    (s.settleEvents ).sys.core = s.sys.core :=
  (State.settleEvents_keeps (SameBut.refl [.ev] s) (List.Subset.refl _) ) .core (by decide)

@[simp] theorem State.settleEvents_sys_power (s : State)  :
    (s.settleEvents ).sys.power = s.sys.power :=
  (State.settleEvents_keeps (SameBut.refl [.ev] s) (List.Subset.refl _) ) .power (by decide)

@[simp] theorem State.settleEvents_sys_avs (s : State)  :
    (s.settleEvents ).sys.avs = s.sys.avs :=
  (State.settleEvents_keeps (SameBut.refl [.ev] s) (List.Subset.refl _) ) .avs (by decide)

@[simp] theorem State.settleEvents_sys_mem (s : State)  :
    (s.settleEvents ).sys.mem = s.sys.mem :=
  (State.settleEvents_keeps (SameBut.refl [.ev] s) (List.Subset.refl _) ) .mem (by decide)

@[simp] theorem State.settleEvents_sys_fwReady (s : State)  :
    (s.settleEvents ).sys.fwReady = s.sys.fwReady :=
  (State.settleEvents_keeps (SameBut.refl [.ev] s) (List.Subset.refl _) ) .fwReady (by decide)

@[simp] theorem State.settleEvents_sys_ctlRestart (s : State)  :
    (s.settleEvents ).sys.ctlRestart = s.sys.ctlRestart :=
  (State.settleEvents_keeps (SameBut.refl [.ev] s) (List.Subset.refl _) ) .ctlRestart (by decide)

@[simp] theorem State.settleEvents_sec_otp (s : State)  :
    (s.settleEvents ).sec.otp = s.sec.otp :=
  (State.settleEvents_keeps (SameBut.refl [.ev] s) (List.Subset.refl _) ) .otp (by decide)

@[simp] theorem State.settleEvents_sec_made (s : State)  :
    (s.settleEvents ).sec.made = s.sec.made :=
  (State.settleEvents_keeps (SameBut.refl [.ev] s) (List.Subset.refl _) ) .made (by decide)

@[simp] theorem State.settleEvents_sec_nextIndex (s : State)  :
    (s.settleEvents ).sec.nextIndex = s.sec.nextIndex :=
  congrArg (fun x => x.1) ((State.settleEvents_keeps (SameBut.refl [.ev] s) (List.Subset.refl _) ) .signing (by decide))

@[simp] theorem State.settleEvents_sec_signReady (s : State)  :
    (s.settleEvents ).sec.signReady = s.sec.signReady :=
  congrArg (fun x => x.2.1) ((State.settleEvents_keeps (SameBut.refl [.ev] s) (List.Subset.refl _) ) .signing (by decide))

@[simp] theorem State.settleEvents_sec_low1024 (s : State)  :
    (s.settleEvents ).sec.low1024 = s.sec.low1024 :=
  congrArg (fun x => x.2.2.1) ((State.settleEvents_keeps (SameBut.refl [.ev] s) (List.Subset.refl _) ) .signing (by decide))

@[simp] theorem State.settleEvents_sec_low256 (s : State)  :
    (s.settleEvents ).sec.low256 = s.sec.low256 :=
  congrArg (fun x => x.2.2.2) ((State.settleEvents_keeps (SameBut.refl [.ev] s) (List.Subset.refl _) ) .signing (by decide))

@[simp] theorem State.settleEvents_sec_test (s : State)  :
    (s.settleEvents ).sec.test = s.sec.test :=
  (State.settleEvents_keeps (SameBut.refl [.ev] s) (List.Subset.refl _) ) .selfTest (by decide)

@[simp] theorem State.settleEvents_sec_flash (s : State)  :
    (s.settleEvents ).sec.flash = s.sec.flash :=
  (State.settleEvents_keeps (SameBut.refl [.ev] s) (List.Subset.refl _) ) .flash (by decide)

@[simp] theorem State.settleEvents_sec_img (s : State)  :
    (s.settleEvents ).sec.img = s.sec.img :=
  (State.settleEvents_keeps (SameBut.refl [.ev] s) (List.Subset.refl _) ) .img (by decide)

@[simp] theorem State.settleEvents_lane (s : State)  :
    (s.settleEvents ).lane = s.lane :=
  (State.settleEvents_keeps (SameBut.refl [.ev] s) (List.Subset.refl _) ) .lane (by decide)

@[simp] theorem State.settleEvents_rx (s : State)  :
    (s.settleEvents ).rx = s.rx :=
  (State.settleEvents_keeps (SameBut.refl [.ev] s) (List.Subset.refl _) ) .rx (by decide)

@[simp] theorem State.settleEvents_acq (s : State)  :
    (s.settleEvents ).acq = s.acq :=
  (State.settleEvents_keeps (SameBut.refl [.ev] s) (List.Subset.refl _) ) .acq (by decide)

@[simp] theorem State.settleEvents_dec (s : State)  :
    (s.settleEvents ).dec = s.dec :=
  (State.settleEvents_keeps (SameBut.refl [.ev] s) (List.Subset.refl _) ) .dec (by decide)

@[simp] theorem State.settleEvents_tx (s : State)  :
    (s.settleEvents ).tx = s.tx :=
  (State.settleEvents_keeps (SameBut.refl [.ev] s) (List.Subset.refl _) ) .tx (by decide)

@[simp] theorem State.settleEvents_work (s : State)  :
    (s.settleEvents ).work = s.work :=
  (State.settleEvents_keeps (SameBut.refl [.ev] s) (List.Subset.refl _) ) .work (by decide)

@[simp] theorem State.settleEvents_gallery (s : State)  :
    (s.settleEvents ).gallery = s.gallery :=
  (State.settleEvents_keeps (SameBut.refl [.ev] s) (List.Subset.refl _) ) .gallery (by decide)

@[simp] theorem State.settleEvents_epoch (s : State)  :
    (s.settleEvents ).epoch = s.epoch :=
  (State.settleEvents_keeps (SameBut.refl [.ev] s) (List.Subset.refl _) ) .epoch (by decide)

@[simp] theorem State.settleEvents_group (s : State)  :
    (s.settleEvents ).group = s.group :=
  (State.settleEvents_keeps (SameBut.refl [.ev] s) (List.Subset.refl _) ) .group (by decide)

@[simp] theorem State.settleEvents_photon_bias (s : State)  :
    (s.settleEvents ).photon.bias = s.photon.bias :=
  congrArg (fun x => x.1) ((State.settleEvents_keeps (SameBut.refl [.ev] s) (List.Subset.refl _) ) .bias (by decide))

@[simp] theorem State.settleEvents_photon_aggLimit (s : State)  :
    (s.settleEvents ).photon.aggLimit = s.photon.aggLimit :=
  congrArg (fun x => x.2) ((State.settleEvents_keeps (SameBut.refl [.ev] s) (List.Subset.refl _) ) .bias (by decide))

@[simp] theorem State.settleEvents_photon_mon (s : State)  :
    (s.settleEvents ).photon.mon = s.photon.mon :=
  congrArg (fun x => x.1) ((State.settleEvents_keeps (SameBut.refl [.ev] s) (List.Subset.refl _) ) .mon (by decide))

@[simp] theorem State.settleEvents_photon_lastConv (s : State)  :
    (s.settleEvents ).photon.lastConv = s.photon.lastConv :=
  congrArg (fun x => x.2) ((State.settleEvents_keeps (SameBut.refl [.ev] s) (List.Subset.refl _) ) .mon (by decide))

@[simp] theorem State.settleEvents_photon_pins (s : State)  :
    (s.settleEvents ).photon.pins = s.photon.pins :=
  (State.settleEvents_keeps (SameBut.refl [.ev] s) (List.Subset.refl _) ) .trigPins (by decide)

@[simp] theorem State.settleEvents_photon_filter (s : State)  :
    (s.settleEvents ).photon.filter = s.photon.filter :=
  congrArg (fun x => x.1) ((State.settleEvents_keeps (SameBut.refl [.ev] s) (List.Subset.refl _) ) .filter (by decide))

@[simp] theorem State.settleEvents_photon_banks (s : State)  :
    (s.settleEvents ).photon.banks = s.photon.banks :=
  congrArg (fun x => x.2) ((State.settleEvents_keeps (SameBut.refl [.ev] s) (List.Subset.refl _) ) .filter (by decide))

@[simp] theorem State.settleEvents_therm (s : State)  :
    (s.settleEvents ).therm = s.therm :=
  (State.settleEvents_keeps (SameBut.refl [.ev] s) (List.Subset.refl _) ) .therm (by decide)

@[simp] theorem State.settleEvents_cal (s : State)  :
    (s.settleEvents ).cal = s.cal :=
  (State.settleEvents_keeps (SameBut.refl [.ev] s) (List.Subset.refl _) ) .cal (by decide)

@[simp] theorem State.settleEvents_age (s : State)  :
    (s.settleEvents ).age = s.age :=
  (State.settleEvents_keeps (SameBut.refl [.ev] s) (List.Subset.refl _) ) .age (by decide)

@[simp] theorem State.settleEvents_free (s : State)  :
    (s.settleEvents ).free = s.free :=
  (State.settleEvents_keeps (SameBut.refl [.ev] s) (List.Subset.refl _) ) .free (by decide)

@[simp] theorem State.settleEvents_pending (s : State)  :
    (s.settleEvents ).pending = s.pending :=
  (State.settleEvents_keeps (SameBut.refl [.ev] s) (List.Subset.refl _) ) .pending (by decide)

@[simp] theorem State.raiseNow_ctl_sysLock (s : State) (e : Ev) (source : Nat) (code : Nat) (arg1 : Nat) (arg2 : Nat) (coalesced : Nat) :
    (s.raiseNow e source code arg1 arg2 coalesced).ctl.sysLock = s.ctl.sysLock :=
  (State.raiseNow_keeps (SameBut.refl [.ev, .trigPins] s) (List.Subset.refl _) e source code arg1 arg2 coalesced) .lock (by decide)

@[simp] theorem State.raiseNow_ctl_bus (s : State) (e : Ev) (source : Nat) (code : Nat) (arg1 : Nat) (arg2 : Nat) (coalesced : Nat) :
    (s.raiseNow e source code arg1 arg2 coalesced).ctl.bus = s.ctl.bus :=
  congrArg (fun x => x.1) ((State.raiseNow_keeps (SameBut.refl [.ev, .trigPins] s) (List.Subset.refl _) e source code arg1 arg2 coalesced) .bus (by decide))

@[simp] theorem State.raiseNow_ctl_indSpi (s : State) (e : Ev) (source : Nat) (code : Nat) (arg1 : Nat) (arg2 : Nat) (coalesced : Nat) :
    (s.raiseNow e source code arg1 arg2 coalesced).ctl.indSpi = s.ctl.indSpi :=
  congrArg (fun x => x.2.1) ((State.raiseNow_keeps (SameBut.refl [.ev, .trigPins] s) (List.Subset.refl _) e source code arg1 arg2 coalesced) .bus (by decide))

@[simp] theorem State.raiseNow_ctl_indSmb (s : State) (e : Ev) (source : Nat) (code : Nat) (arg1 : Nat) (arg2 : Nat) (coalesced : Nat) :
    (s.raiseNow e source code arg1 arg2 coalesced).ctl.indSmb = s.ctl.indSmb :=
  congrArg (fun x => x.2.2.1) ((State.raiseNow_keeps (SameBut.refl [.ev, .trigPins] s) (List.Subset.refl _) e source code arg1 arg2 coalesced) .bus (by decide))

@[simp] theorem State.raiseNow_ctl_busOut (s : State) (e : Ev) (source : Nat) (code : Nat) (arg1 : Nat) (arg2 : Nat) (coalesced : Nat) :
    (s.raiseNow e source code arg1 arg2 coalesced).ctl.busOut = s.ctl.busOut :=
  congrArg (fun x => x.2.2.2.1) ((State.raiseNow_keeps (SameBut.refl [.ev, .trigPins] s) (List.Subset.refl _) e source code arg1 arg2 coalesced) .bus (by decide))

@[simp] theorem State.raiseNow_ctl_heldRings (s : State) (e : Ev) (source : Nat) (code : Nat) (arg1 : Nat) (arg2 : Nat) (coalesced : Nat) :
    (s.raiseNow e source code arg1 arg2 coalesced).ctl.heldRings = s.ctl.heldRings :=
  congrArg (fun x => x.2.2.2.2.1) ((State.raiseNow_keeps (SameBut.refl [.ev, .trigPins] s) (List.Subset.refl _) e source code arg1 arg2 coalesced) .bus (by decide))

@[simp] theorem State.raiseNow_ctl_nextTurn (s : State) (e : Ev) (source : Nat) (code : Nat) (arg1 : Nat) (arg2 : Nat) (coalesced : Nat) :
    (s.raiseNow e source code arg1 arg2 coalesced).ctl.nextTurn = s.ctl.nextTurn :=
  congrArg (fun x => x.2.2.2.2.2) ((State.raiseNow_keeps (SameBut.refl [.ev, .trigPins] s) (List.Subset.refl _) e source code arg1 arg2 coalesced) .bus (by decide))

@[simp] theorem State.raiseNow_ctl_sess (s : State) (e : Ev) (source : Nat) (code : Nat) (arg1 : Nat) (arg2 : Nat) (coalesced : Nat) :
    (s.raiseNow e source code arg1 arg2 coalesced).ctl.sess = s.ctl.sess :=
  (State.raiseNow_keeps (SameBut.refl [.ev, .trigPins] s) (List.Subset.refl _) e source code arg1 arg2 coalesced) .sess (by decide)

@[simp] theorem State.raiseNow_ctl_perf (s : State) (e : Ev) (source : Nat) (code : Nat) (arg1 : Nat) (arg2 : Nat) (coalesced : Nat) :
    (s.raiseNow e source code arg1 arg2 coalesced).ctl.perf = s.ctl.perf :=
  (State.raiseNow_keeps (SameBut.refl [.ev, .trigPins] s) (List.Subset.refl _) e source code arg1 arg2 coalesced) .perf (by decide)

@[simp] theorem State.raiseNow_ctl_snap (s : State) (e : Ev) (source : Nat) (code : Nat) (arg1 : Nat) (arg2 : Nat) (coalesced : Nat) :
    (s.raiseNow e source code arg1 arg2 coalesced).ctl.snap = s.ctl.snap :=
  congrArg (fun x => x.1) ((State.raiseNow_keeps (SameBut.refl [.ev, .trigPins] s) (List.Subset.refl _) e source code arg1 arg2 coalesced) .snap (by decide))

@[simp] theorem State.raiseNow_ctl_snapSeq (s : State) (e : Ev) (source : Nat) (code : Nat) (arg1 : Nat) (arg2 : Nat) (coalesced : Nat) :
    (s.raiseNow e source code arg1 arg2 coalesced).ctl.snapSeq = s.ctl.snapSeq :=
  congrArg (fun x => x.2) ((State.raiseNow_keeps (SameBut.refl [.ev, .trigPins] s) (List.Subset.refl _) e source code arg1 arg2 coalesced) .snap (by decide))

@[simp] theorem State.raiseNow_sys_pins (s : State) (e : Ev) (source : Nat) (code : Nat) (arg1 : Nat) (arg2 : Nat) (coalesced : Nat) :
    (s.raiseNow e source code arg1 arg2 coalesced).sys.pins = s.sys.pins :=
  (State.raiseNow_keeps (SameBut.refl [.ev, .trigPins] s) (List.Subset.refl _) e source code arg1 arg2 coalesced) .pins (by decide)

@[simp] theorem State.raiseNow_sys_clk (s : State) (e : Ev) (source : Nat) (code : Nat) (arg1 : Nat) (arg2 : Nat) (coalesced : Nat) :
    (s.raiseNow e source code arg1 arg2 coalesced).sys.clk = s.sys.clk :=
  (State.raiseNow_keeps (SameBut.refl [.ev, .trigPins] s) (List.Subset.refl _) e source code arg1 arg2 coalesced) .clk (by decide)

@[simp] theorem State.raiseNow_sys_core (s : State) (e : Ev) (source : Nat) (code : Nat) (arg1 : Nat) (arg2 : Nat) (coalesced : Nat) :
    (s.raiseNow e source code arg1 arg2 coalesced).sys.core = s.sys.core :=
  (State.raiseNow_keeps (SameBut.refl [.ev, .trigPins] s) (List.Subset.refl _) e source code arg1 arg2 coalesced) .core (by decide)

@[simp] theorem State.raiseNow_sys_power (s : State) (e : Ev) (source : Nat) (code : Nat) (arg1 : Nat) (arg2 : Nat) (coalesced : Nat) :
    (s.raiseNow e source code arg1 arg2 coalesced).sys.power = s.sys.power :=
  (State.raiseNow_keeps (SameBut.refl [.ev, .trigPins] s) (List.Subset.refl _) e source code arg1 arg2 coalesced) .power (by decide)

@[simp] theorem State.raiseNow_sys_avs (s : State) (e : Ev) (source : Nat) (code : Nat) (arg1 : Nat) (arg2 : Nat) (coalesced : Nat) :
    (s.raiseNow e source code arg1 arg2 coalesced).sys.avs = s.sys.avs :=
  (State.raiseNow_keeps (SameBut.refl [.ev, .trigPins] s) (List.Subset.refl _) e source code arg1 arg2 coalesced) .avs (by decide)

@[simp] theorem State.raiseNow_sys_mem (s : State) (e : Ev) (source : Nat) (code : Nat) (arg1 : Nat) (arg2 : Nat) (coalesced : Nat) :
    (s.raiseNow e source code arg1 arg2 coalesced).sys.mem = s.sys.mem :=
  (State.raiseNow_keeps (SameBut.refl [.ev, .trigPins] s) (List.Subset.refl _) e source code arg1 arg2 coalesced) .mem (by decide)

@[simp] theorem State.raiseNow_sys_fwReady (s : State) (e : Ev) (source : Nat) (code : Nat) (arg1 : Nat) (arg2 : Nat) (coalesced : Nat) :
    (s.raiseNow e source code arg1 arg2 coalesced).sys.fwReady = s.sys.fwReady :=
  (State.raiseNow_keeps (SameBut.refl [.ev, .trigPins] s) (List.Subset.refl _) e source code arg1 arg2 coalesced) .fwReady (by decide)

@[simp] theorem State.raiseNow_sys_ctlRestart (s : State) (e : Ev) (source : Nat) (code : Nat) (arg1 : Nat) (arg2 : Nat) (coalesced : Nat) :
    (s.raiseNow e source code arg1 arg2 coalesced).sys.ctlRestart = s.sys.ctlRestart :=
  (State.raiseNow_keeps (SameBut.refl [.ev, .trigPins] s) (List.Subset.refl _) e source code arg1 arg2 coalesced) .ctlRestart (by decide)

@[simp] theorem State.raiseNow_sec_otp (s : State) (e : Ev) (source : Nat) (code : Nat) (arg1 : Nat) (arg2 : Nat) (coalesced : Nat) :
    (s.raiseNow e source code arg1 arg2 coalesced).sec.otp = s.sec.otp :=
  (State.raiseNow_keeps (SameBut.refl [.ev, .trigPins] s) (List.Subset.refl _) e source code arg1 arg2 coalesced) .otp (by decide)

@[simp] theorem State.raiseNow_sec_made (s : State) (e : Ev) (source : Nat) (code : Nat) (arg1 : Nat) (arg2 : Nat) (coalesced : Nat) :
    (s.raiseNow e source code arg1 arg2 coalesced).sec.made = s.sec.made :=
  (State.raiseNow_keeps (SameBut.refl [.ev, .trigPins] s) (List.Subset.refl _) e source code arg1 arg2 coalesced) .made (by decide)

@[simp] theorem State.raiseNow_sec_nextIndex (s : State) (e : Ev) (source : Nat) (code : Nat) (arg1 : Nat) (arg2 : Nat) (coalesced : Nat) :
    (s.raiseNow e source code arg1 arg2 coalesced).sec.nextIndex = s.sec.nextIndex :=
  congrArg (fun x => x.1) ((State.raiseNow_keeps (SameBut.refl [.ev, .trigPins] s) (List.Subset.refl _) e source code arg1 arg2 coalesced) .signing (by decide))

@[simp] theorem State.raiseNow_sec_signReady (s : State) (e : Ev) (source : Nat) (code : Nat) (arg1 : Nat) (arg2 : Nat) (coalesced : Nat) :
    (s.raiseNow e source code arg1 arg2 coalesced).sec.signReady = s.sec.signReady :=
  congrArg (fun x => x.2.1) ((State.raiseNow_keeps (SameBut.refl [.ev, .trigPins] s) (List.Subset.refl _) e source code arg1 arg2 coalesced) .signing (by decide))

@[simp] theorem State.raiseNow_sec_low1024 (s : State) (e : Ev) (source : Nat) (code : Nat) (arg1 : Nat) (arg2 : Nat) (coalesced : Nat) :
    (s.raiseNow e source code arg1 arg2 coalesced).sec.low1024 = s.sec.low1024 :=
  congrArg (fun x => x.2.2.1) ((State.raiseNow_keeps (SameBut.refl [.ev, .trigPins] s) (List.Subset.refl _) e source code arg1 arg2 coalesced) .signing (by decide))

@[simp] theorem State.raiseNow_sec_low256 (s : State) (e : Ev) (source : Nat) (code : Nat) (arg1 : Nat) (arg2 : Nat) (coalesced : Nat) :
    (s.raiseNow e source code arg1 arg2 coalesced).sec.low256 = s.sec.low256 :=
  congrArg (fun x => x.2.2.2) ((State.raiseNow_keeps (SameBut.refl [.ev, .trigPins] s) (List.Subset.refl _) e source code arg1 arg2 coalesced) .signing (by decide))

@[simp] theorem State.raiseNow_sec_test (s : State) (e : Ev) (source : Nat) (code : Nat) (arg1 : Nat) (arg2 : Nat) (coalesced : Nat) :
    (s.raiseNow e source code arg1 arg2 coalesced).sec.test = s.sec.test :=
  (State.raiseNow_keeps (SameBut.refl [.ev, .trigPins] s) (List.Subset.refl _) e source code arg1 arg2 coalesced) .selfTest (by decide)

@[simp] theorem State.raiseNow_sec_flash (s : State) (e : Ev) (source : Nat) (code : Nat) (arg1 : Nat) (arg2 : Nat) (coalesced : Nat) :
    (s.raiseNow e source code arg1 arg2 coalesced).sec.flash = s.sec.flash :=
  (State.raiseNow_keeps (SameBut.refl [.ev, .trigPins] s) (List.Subset.refl _) e source code arg1 arg2 coalesced) .flash (by decide)

@[simp] theorem State.raiseNow_sec_img (s : State) (e : Ev) (source : Nat) (code : Nat) (arg1 : Nat) (arg2 : Nat) (coalesced : Nat) :
    (s.raiseNow e source code arg1 arg2 coalesced).sec.img = s.sec.img :=
  (State.raiseNow_keeps (SameBut.refl [.ev, .trigPins] s) (List.Subset.refl _) e source code arg1 arg2 coalesced) .img (by decide)

@[simp] theorem State.raiseNow_lane (s : State) (e : Ev) (source : Nat) (code : Nat) (arg1 : Nat) (arg2 : Nat) (coalesced : Nat) :
    (s.raiseNow e source code arg1 arg2 coalesced).lane = s.lane :=
  (State.raiseNow_keeps (SameBut.refl [.ev, .trigPins] s) (List.Subset.refl _) e source code arg1 arg2 coalesced) .lane (by decide)

@[simp] theorem State.raiseNow_rx (s : State) (e : Ev) (source : Nat) (code : Nat) (arg1 : Nat) (arg2 : Nat) (coalesced : Nat) :
    (s.raiseNow e source code arg1 arg2 coalesced).rx = s.rx :=
  (State.raiseNow_keeps (SameBut.refl [.ev, .trigPins] s) (List.Subset.refl _) e source code arg1 arg2 coalesced) .rx (by decide)

@[simp] theorem State.raiseNow_acq (s : State) (e : Ev) (source : Nat) (code : Nat) (arg1 : Nat) (arg2 : Nat) (coalesced : Nat) :
    (s.raiseNow e source code arg1 arg2 coalesced).acq = s.acq :=
  (State.raiseNow_keeps (SameBut.refl [.ev, .trigPins] s) (List.Subset.refl _) e source code arg1 arg2 coalesced) .acq (by decide)

@[simp] theorem State.raiseNow_dec (s : State) (e : Ev) (source : Nat) (code : Nat) (arg1 : Nat) (arg2 : Nat) (coalesced : Nat) :
    (s.raiseNow e source code arg1 arg2 coalesced).dec = s.dec :=
  (State.raiseNow_keeps (SameBut.refl [.ev, .trigPins] s) (List.Subset.refl _) e source code arg1 arg2 coalesced) .dec (by decide)

@[simp] theorem State.raiseNow_tx (s : State) (e : Ev) (source : Nat) (code : Nat) (arg1 : Nat) (arg2 : Nat) (coalesced : Nat) :
    (s.raiseNow e source code arg1 arg2 coalesced).tx = s.tx :=
  (State.raiseNow_keeps (SameBut.refl [.ev, .trigPins] s) (List.Subset.refl _) e source code arg1 arg2 coalesced) .tx (by decide)

@[simp] theorem State.raiseNow_work (s : State) (e : Ev) (source : Nat) (code : Nat) (arg1 : Nat) (arg2 : Nat) (coalesced : Nat) :
    (s.raiseNow e source code arg1 arg2 coalesced).work = s.work :=
  (State.raiseNow_keeps (SameBut.refl [.ev, .trigPins] s) (List.Subset.refl _) e source code arg1 arg2 coalesced) .work (by decide)

@[simp] theorem State.raiseNow_gallery (s : State) (e : Ev) (source : Nat) (code : Nat) (arg1 : Nat) (arg2 : Nat) (coalesced : Nat) :
    (s.raiseNow e source code arg1 arg2 coalesced).gallery = s.gallery :=
  (State.raiseNow_keeps (SameBut.refl [.ev, .trigPins] s) (List.Subset.refl _) e source code arg1 arg2 coalesced) .gallery (by decide)

@[simp] theorem State.raiseNow_epoch (s : State) (e : Ev) (source : Nat) (code : Nat) (arg1 : Nat) (arg2 : Nat) (coalesced : Nat) :
    (s.raiseNow e source code arg1 arg2 coalesced).epoch = s.epoch :=
  (State.raiseNow_keeps (SameBut.refl [.ev, .trigPins] s) (List.Subset.refl _) e source code arg1 arg2 coalesced) .epoch (by decide)

@[simp] theorem State.raiseNow_group (s : State) (e : Ev) (source : Nat) (code : Nat) (arg1 : Nat) (arg2 : Nat) (coalesced : Nat) :
    (s.raiseNow e source code arg1 arg2 coalesced).group = s.group :=
  (State.raiseNow_keeps (SameBut.refl [.ev, .trigPins] s) (List.Subset.refl _) e source code arg1 arg2 coalesced) .group (by decide)

@[simp] theorem State.raiseNow_photon_bias (s : State) (e : Ev) (source : Nat) (code : Nat) (arg1 : Nat) (arg2 : Nat) (coalesced : Nat) :
    (s.raiseNow e source code arg1 arg2 coalesced).photon.bias = s.photon.bias :=
  congrArg (fun x => x.1) ((State.raiseNow_keeps (SameBut.refl [.ev, .trigPins] s) (List.Subset.refl _) e source code arg1 arg2 coalesced) .bias (by decide))

@[simp] theorem State.raiseNow_photon_aggLimit (s : State) (e : Ev) (source : Nat) (code : Nat) (arg1 : Nat) (arg2 : Nat) (coalesced : Nat) :
    (s.raiseNow e source code arg1 arg2 coalesced).photon.aggLimit = s.photon.aggLimit :=
  congrArg (fun x => x.2) ((State.raiseNow_keeps (SameBut.refl [.ev, .trigPins] s) (List.Subset.refl _) e source code arg1 arg2 coalesced) .bias (by decide))

@[simp] theorem State.raiseNow_photon_mon (s : State) (e : Ev) (source : Nat) (code : Nat) (arg1 : Nat) (arg2 : Nat) (coalesced : Nat) :
    (s.raiseNow e source code arg1 arg2 coalesced).photon.mon = s.photon.mon :=
  congrArg (fun x => x.1) ((State.raiseNow_keeps (SameBut.refl [.ev, .trigPins] s) (List.Subset.refl _) e source code arg1 arg2 coalesced) .mon (by decide))

@[simp] theorem State.raiseNow_photon_lastConv (s : State) (e : Ev) (source : Nat) (code : Nat) (arg1 : Nat) (arg2 : Nat) (coalesced : Nat) :
    (s.raiseNow e source code arg1 arg2 coalesced).photon.lastConv = s.photon.lastConv :=
  congrArg (fun x => x.2) ((State.raiseNow_keeps (SameBut.refl [.ev, .trigPins] s) (List.Subset.refl _) e source code arg1 arg2 coalesced) .mon (by decide))

@[simp] theorem State.raiseNow_photon_filter (s : State) (e : Ev) (source : Nat) (code : Nat) (arg1 : Nat) (arg2 : Nat) (coalesced : Nat) :
    (s.raiseNow e source code arg1 arg2 coalesced).photon.filter = s.photon.filter :=
  congrArg (fun x => x.1) ((State.raiseNow_keeps (SameBut.refl [.ev, .trigPins] s) (List.Subset.refl _) e source code arg1 arg2 coalesced) .filter (by decide))

@[simp] theorem State.raiseNow_photon_banks (s : State) (e : Ev) (source : Nat) (code : Nat) (arg1 : Nat) (arg2 : Nat) (coalesced : Nat) :
    (s.raiseNow e source code arg1 arg2 coalesced).photon.banks = s.photon.banks :=
  congrArg (fun x => x.2) ((State.raiseNow_keeps (SameBut.refl [.ev, .trigPins] s) (List.Subset.refl _) e source code arg1 arg2 coalesced) .filter (by decide))

@[simp] theorem State.raiseNow_therm (s : State) (e : Ev) (source : Nat) (code : Nat) (arg1 : Nat) (arg2 : Nat) (coalesced : Nat) :
    (s.raiseNow e source code arg1 arg2 coalesced).therm = s.therm :=
  (State.raiseNow_keeps (SameBut.refl [.ev, .trigPins] s) (List.Subset.refl _) e source code arg1 arg2 coalesced) .therm (by decide)

@[simp] theorem State.raiseNow_cal (s : State) (e : Ev) (source : Nat) (code : Nat) (arg1 : Nat) (arg2 : Nat) (coalesced : Nat) :
    (s.raiseNow e source code arg1 arg2 coalesced).cal = s.cal :=
  (State.raiseNow_keeps (SameBut.refl [.ev, .trigPins] s) (List.Subset.refl _) e source code arg1 arg2 coalesced) .cal (by decide)

@[simp] theorem State.raiseNow_age (s : State) (e : Ev) (source : Nat) (code : Nat) (arg1 : Nat) (arg2 : Nat) (coalesced : Nat) :
    (s.raiseNow e source code arg1 arg2 coalesced).age = s.age :=
  (State.raiseNow_keeps (SameBut.refl [.ev, .trigPins] s) (List.Subset.refl _) e source code arg1 arg2 coalesced) .age (by decide)

@[simp] theorem State.raiseNow_free (s : State) (e : Ev) (source : Nat) (code : Nat) (arg1 : Nat) (arg2 : Nat) (coalesced : Nat) :
    (s.raiseNow e source code arg1 arg2 coalesced).free = s.free :=
  (State.raiseNow_keeps (SameBut.refl [.ev, .trigPins] s) (List.Subset.refl _) e source code arg1 arg2 coalesced) .free (by decide)

@[simp] theorem State.raiseNow_pending (s : State) (e : Ev) (source : Nat) (code : Nat) (arg1 : Nat) (arg2 : Nat) (coalesced : Nat) :
    (s.raiseNow e source code arg1 arg2 coalesced).pending = s.pending :=
  (State.raiseNow_keeps (SameBut.refl [.ev, .trigPins] s) (List.Subset.refl _) e source code arg1 arg2 coalesced) .pending (by decide)

@[simp] theorem State.raise_ctl_sysLock (s : State) (e : Ev) (source : Nat) (code : Nat) (arg1 : Nat) (arg2 : Nat) :
    (s.raise e source code arg1 arg2).ctl.sysLock = s.ctl.sysLock :=
  (State.raise_keeps (SameBut.refl [.ev, .trigPins] s) (List.Subset.refl _) e source code arg1 arg2) .lock (by decide)

@[simp] theorem State.raise_ctl_bus (s : State) (e : Ev) (source : Nat) (code : Nat) (arg1 : Nat) (arg2 : Nat) :
    (s.raise e source code arg1 arg2).ctl.bus = s.ctl.bus :=
  congrArg (fun x => x.1) ((State.raise_keeps (SameBut.refl [.ev, .trigPins] s) (List.Subset.refl _) e source code arg1 arg2) .bus (by decide))

@[simp] theorem State.raise_ctl_indSpi (s : State) (e : Ev) (source : Nat) (code : Nat) (arg1 : Nat) (arg2 : Nat) :
    (s.raise e source code arg1 arg2).ctl.indSpi = s.ctl.indSpi :=
  congrArg (fun x => x.2.1) ((State.raise_keeps (SameBut.refl [.ev, .trigPins] s) (List.Subset.refl _) e source code arg1 arg2) .bus (by decide))

@[simp] theorem State.raise_ctl_indSmb (s : State) (e : Ev) (source : Nat) (code : Nat) (arg1 : Nat) (arg2 : Nat) :
    (s.raise e source code arg1 arg2).ctl.indSmb = s.ctl.indSmb :=
  congrArg (fun x => x.2.2.1) ((State.raise_keeps (SameBut.refl [.ev, .trigPins] s) (List.Subset.refl _) e source code arg1 arg2) .bus (by decide))

@[simp] theorem State.raise_ctl_busOut (s : State) (e : Ev) (source : Nat) (code : Nat) (arg1 : Nat) (arg2 : Nat) :
    (s.raise e source code arg1 arg2).ctl.busOut = s.ctl.busOut :=
  congrArg (fun x => x.2.2.2.1) ((State.raise_keeps (SameBut.refl [.ev, .trigPins] s) (List.Subset.refl _) e source code arg1 arg2) .bus (by decide))

@[simp] theorem State.raise_ctl_heldRings (s : State) (e : Ev) (source : Nat) (code : Nat) (arg1 : Nat) (arg2 : Nat) :
    (s.raise e source code arg1 arg2).ctl.heldRings = s.ctl.heldRings :=
  congrArg (fun x => x.2.2.2.2.1) ((State.raise_keeps (SameBut.refl [.ev, .trigPins] s) (List.Subset.refl _) e source code arg1 arg2) .bus (by decide))

@[simp] theorem State.raise_ctl_nextTurn (s : State) (e : Ev) (source : Nat) (code : Nat) (arg1 : Nat) (arg2 : Nat) :
    (s.raise e source code arg1 arg2).ctl.nextTurn = s.ctl.nextTurn :=
  congrArg (fun x => x.2.2.2.2.2) ((State.raise_keeps (SameBut.refl [.ev, .trigPins] s) (List.Subset.refl _) e source code arg1 arg2) .bus (by decide))

@[simp] theorem State.raise_ctl_sess (s : State) (e : Ev) (source : Nat) (code : Nat) (arg1 : Nat) (arg2 : Nat) :
    (s.raise e source code arg1 arg2).ctl.sess = s.ctl.sess :=
  (State.raise_keeps (SameBut.refl [.ev, .trigPins] s) (List.Subset.refl _) e source code arg1 arg2) .sess (by decide)

@[simp] theorem State.raise_ctl_perf (s : State) (e : Ev) (source : Nat) (code : Nat) (arg1 : Nat) (arg2 : Nat) :
    (s.raise e source code arg1 arg2).ctl.perf = s.ctl.perf :=
  (State.raise_keeps (SameBut.refl [.ev, .trigPins] s) (List.Subset.refl _) e source code arg1 arg2) .perf (by decide)

@[simp] theorem State.raise_ctl_snap (s : State) (e : Ev) (source : Nat) (code : Nat) (arg1 : Nat) (arg2 : Nat) :
    (s.raise e source code arg1 arg2).ctl.snap = s.ctl.snap :=
  congrArg (fun x => x.1) ((State.raise_keeps (SameBut.refl [.ev, .trigPins] s) (List.Subset.refl _) e source code arg1 arg2) .snap (by decide))

@[simp] theorem State.raise_ctl_snapSeq (s : State) (e : Ev) (source : Nat) (code : Nat) (arg1 : Nat) (arg2 : Nat) :
    (s.raise e source code arg1 arg2).ctl.snapSeq = s.ctl.snapSeq :=
  congrArg (fun x => x.2) ((State.raise_keeps (SameBut.refl [.ev, .trigPins] s) (List.Subset.refl _) e source code arg1 arg2) .snap (by decide))

@[simp] theorem State.raise_sys_pins (s : State) (e : Ev) (source : Nat) (code : Nat) (arg1 : Nat) (arg2 : Nat) :
    (s.raise e source code arg1 arg2).sys.pins = s.sys.pins :=
  (State.raise_keeps (SameBut.refl [.ev, .trigPins] s) (List.Subset.refl _) e source code arg1 arg2) .pins (by decide)

@[simp] theorem State.raise_sys_clk (s : State) (e : Ev) (source : Nat) (code : Nat) (arg1 : Nat) (arg2 : Nat) :
    (s.raise e source code arg1 arg2).sys.clk = s.sys.clk :=
  (State.raise_keeps (SameBut.refl [.ev, .trigPins] s) (List.Subset.refl _) e source code arg1 arg2) .clk (by decide)

@[simp] theorem State.raise_sys_core (s : State) (e : Ev) (source : Nat) (code : Nat) (arg1 : Nat) (arg2 : Nat) :
    (s.raise e source code arg1 arg2).sys.core = s.sys.core :=
  (State.raise_keeps (SameBut.refl [.ev, .trigPins] s) (List.Subset.refl _) e source code arg1 arg2) .core (by decide)

@[simp] theorem State.raise_sys_power (s : State) (e : Ev) (source : Nat) (code : Nat) (arg1 : Nat) (arg2 : Nat) :
    (s.raise e source code arg1 arg2).sys.power = s.sys.power :=
  (State.raise_keeps (SameBut.refl [.ev, .trigPins] s) (List.Subset.refl _) e source code arg1 arg2) .power (by decide)

@[simp] theorem State.raise_sys_avs (s : State) (e : Ev) (source : Nat) (code : Nat) (arg1 : Nat) (arg2 : Nat) :
    (s.raise e source code arg1 arg2).sys.avs = s.sys.avs :=
  (State.raise_keeps (SameBut.refl [.ev, .trigPins] s) (List.Subset.refl _) e source code arg1 arg2) .avs (by decide)

@[simp] theorem State.raise_sys_mem (s : State) (e : Ev) (source : Nat) (code : Nat) (arg1 : Nat) (arg2 : Nat) :
    (s.raise e source code arg1 arg2).sys.mem = s.sys.mem :=
  (State.raise_keeps (SameBut.refl [.ev, .trigPins] s) (List.Subset.refl _) e source code arg1 arg2) .mem (by decide)

@[simp] theorem State.raise_sys_fwReady (s : State) (e : Ev) (source : Nat) (code : Nat) (arg1 : Nat) (arg2 : Nat) :
    (s.raise e source code arg1 arg2).sys.fwReady = s.sys.fwReady :=
  (State.raise_keeps (SameBut.refl [.ev, .trigPins] s) (List.Subset.refl _) e source code arg1 arg2) .fwReady (by decide)

@[simp] theorem State.raise_sys_ctlRestart (s : State) (e : Ev) (source : Nat) (code : Nat) (arg1 : Nat) (arg2 : Nat) :
    (s.raise e source code arg1 arg2).sys.ctlRestart = s.sys.ctlRestart :=
  (State.raise_keeps (SameBut.refl [.ev, .trigPins] s) (List.Subset.refl _) e source code arg1 arg2) .ctlRestart (by decide)

@[simp] theorem State.raise_sec_otp (s : State) (e : Ev) (source : Nat) (code : Nat) (arg1 : Nat) (arg2 : Nat) :
    (s.raise e source code arg1 arg2).sec.otp = s.sec.otp :=
  (State.raise_keeps (SameBut.refl [.ev, .trigPins] s) (List.Subset.refl _) e source code arg1 arg2) .otp (by decide)

@[simp] theorem State.raise_sec_made (s : State) (e : Ev) (source : Nat) (code : Nat) (arg1 : Nat) (arg2 : Nat) :
    (s.raise e source code arg1 arg2).sec.made = s.sec.made :=
  (State.raise_keeps (SameBut.refl [.ev, .trigPins] s) (List.Subset.refl _) e source code arg1 arg2) .made (by decide)

@[simp] theorem State.raise_sec_nextIndex (s : State) (e : Ev) (source : Nat) (code : Nat) (arg1 : Nat) (arg2 : Nat) :
    (s.raise e source code arg1 arg2).sec.nextIndex = s.sec.nextIndex :=
  congrArg (fun x => x.1) ((State.raise_keeps (SameBut.refl [.ev, .trigPins] s) (List.Subset.refl _) e source code arg1 arg2) .signing (by decide))

@[simp] theorem State.raise_sec_signReady (s : State) (e : Ev) (source : Nat) (code : Nat) (arg1 : Nat) (arg2 : Nat) :
    (s.raise e source code arg1 arg2).sec.signReady = s.sec.signReady :=
  congrArg (fun x => x.2.1) ((State.raise_keeps (SameBut.refl [.ev, .trigPins] s) (List.Subset.refl _) e source code arg1 arg2) .signing (by decide))

@[simp] theorem State.raise_sec_low1024 (s : State) (e : Ev) (source : Nat) (code : Nat) (arg1 : Nat) (arg2 : Nat) :
    (s.raise e source code arg1 arg2).sec.low1024 = s.sec.low1024 :=
  congrArg (fun x => x.2.2.1) ((State.raise_keeps (SameBut.refl [.ev, .trigPins] s) (List.Subset.refl _) e source code arg1 arg2) .signing (by decide))

@[simp] theorem State.raise_sec_low256 (s : State) (e : Ev) (source : Nat) (code : Nat) (arg1 : Nat) (arg2 : Nat) :
    (s.raise e source code arg1 arg2).sec.low256 = s.sec.low256 :=
  congrArg (fun x => x.2.2.2) ((State.raise_keeps (SameBut.refl [.ev, .trigPins] s) (List.Subset.refl _) e source code arg1 arg2) .signing (by decide))

@[simp] theorem State.raise_sec_test (s : State) (e : Ev) (source : Nat) (code : Nat) (arg1 : Nat) (arg2 : Nat) :
    (s.raise e source code arg1 arg2).sec.test = s.sec.test :=
  (State.raise_keeps (SameBut.refl [.ev, .trigPins] s) (List.Subset.refl _) e source code arg1 arg2) .selfTest (by decide)

@[simp] theorem State.raise_sec_flash (s : State) (e : Ev) (source : Nat) (code : Nat) (arg1 : Nat) (arg2 : Nat) :
    (s.raise e source code arg1 arg2).sec.flash = s.sec.flash :=
  (State.raise_keeps (SameBut.refl [.ev, .trigPins] s) (List.Subset.refl _) e source code arg1 arg2) .flash (by decide)

@[simp] theorem State.raise_sec_img (s : State) (e : Ev) (source : Nat) (code : Nat) (arg1 : Nat) (arg2 : Nat) :
    (s.raise e source code arg1 arg2).sec.img = s.sec.img :=
  (State.raise_keeps (SameBut.refl [.ev, .trigPins] s) (List.Subset.refl _) e source code arg1 arg2) .img (by decide)

@[simp] theorem State.raise_lane (s : State) (e : Ev) (source : Nat) (code : Nat) (arg1 : Nat) (arg2 : Nat) :
    (s.raise e source code arg1 arg2).lane = s.lane :=
  (State.raise_keeps (SameBut.refl [.ev, .trigPins] s) (List.Subset.refl _) e source code arg1 arg2) .lane (by decide)

@[simp] theorem State.raise_rx (s : State) (e : Ev) (source : Nat) (code : Nat) (arg1 : Nat) (arg2 : Nat) :
    (s.raise e source code arg1 arg2).rx = s.rx :=
  (State.raise_keeps (SameBut.refl [.ev, .trigPins] s) (List.Subset.refl _) e source code arg1 arg2) .rx (by decide)

@[simp] theorem State.raise_acq (s : State) (e : Ev) (source : Nat) (code : Nat) (arg1 : Nat) (arg2 : Nat) :
    (s.raise e source code arg1 arg2).acq = s.acq :=
  (State.raise_keeps (SameBut.refl [.ev, .trigPins] s) (List.Subset.refl _) e source code arg1 arg2) .acq (by decide)

@[simp] theorem State.raise_dec (s : State) (e : Ev) (source : Nat) (code : Nat) (arg1 : Nat) (arg2 : Nat) :
    (s.raise e source code arg1 arg2).dec = s.dec :=
  (State.raise_keeps (SameBut.refl [.ev, .trigPins] s) (List.Subset.refl _) e source code arg1 arg2) .dec (by decide)

@[simp] theorem State.raise_tx (s : State) (e : Ev) (source : Nat) (code : Nat) (arg1 : Nat) (arg2 : Nat) :
    (s.raise e source code arg1 arg2).tx = s.tx :=
  (State.raise_keeps (SameBut.refl [.ev, .trigPins] s) (List.Subset.refl _) e source code arg1 arg2) .tx (by decide)

@[simp] theorem State.raise_work (s : State) (e : Ev) (source : Nat) (code : Nat) (arg1 : Nat) (arg2 : Nat) :
    (s.raise e source code arg1 arg2).work = s.work :=
  (State.raise_keeps (SameBut.refl [.ev, .trigPins] s) (List.Subset.refl _) e source code arg1 arg2) .work (by decide)

@[simp] theorem State.raise_gallery (s : State) (e : Ev) (source : Nat) (code : Nat) (arg1 : Nat) (arg2 : Nat) :
    (s.raise e source code arg1 arg2).gallery = s.gallery :=
  (State.raise_keeps (SameBut.refl [.ev, .trigPins] s) (List.Subset.refl _) e source code arg1 arg2) .gallery (by decide)

@[simp] theorem State.raise_epoch (s : State) (e : Ev) (source : Nat) (code : Nat) (arg1 : Nat) (arg2 : Nat) :
    (s.raise e source code arg1 arg2).epoch = s.epoch :=
  (State.raise_keeps (SameBut.refl [.ev, .trigPins] s) (List.Subset.refl _) e source code arg1 arg2) .epoch (by decide)

@[simp] theorem State.raise_group (s : State) (e : Ev) (source : Nat) (code : Nat) (arg1 : Nat) (arg2 : Nat) :
    (s.raise e source code arg1 arg2).group = s.group :=
  (State.raise_keeps (SameBut.refl [.ev, .trigPins] s) (List.Subset.refl _) e source code arg1 arg2) .group (by decide)

@[simp] theorem State.raise_photon_bias (s : State) (e : Ev) (source : Nat) (code : Nat) (arg1 : Nat) (arg2 : Nat) :
    (s.raise e source code arg1 arg2).photon.bias = s.photon.bias :=
  congrArg (fun x => x.1) ((State.raise_keeps (SameBut.refl [.ev, .trigPins] s) (List.Subset.refl _) e source code arg1 arg2) .bias (by decide))

@[simp] theorem State.raise_photon_aggLimit (s : State) (e : Ev) (source : Nat) (code : Nat) (arg1 : Nat) (arg2 : Nat) :
    (s.raise e source code arg1 arg2).photon.aggLimit = s.photon.aggLimit :=
  congrArg (fun x => x.2) ((State.raise_keeps (SameBut.refl [.ev, .trigPins] s) (List.Subset.refl _) e source code arg1 arg2) .bias (by decide))

@[simp] theorem State.raise_photon_mon (s : State) (e : Ev) (source : Nat) (code : Nat) (arg1 : Nat) (arg2 : Nat) :
    (s.raise e source code arg1 arg2).photon.mon = s.photon.mon :=
  congrArg (fun x => x.1) ((State.raise_keeps (SameBut.refl [.ev, .trigPins] s) (List.Subset.refl _) e source code arg1 arg2) .mon (by decide))

@[simp] theorem State.raise_photon_lastConv (s : State) (e : Ev) (source : Nat) (code : Nat) (arg1 : Nat) (arg2 : Nat) :
    (s.raise e source code arg1 arg2).photon.lastConv = s.photon.lastConv :=
  congrArg (fun x => x.2) ((State.raise_keeps (SameBut.refl [.ev, .trigPins] s) (List.Subset.refl _) e source code arg1 arg2) .mon (by decide))

@[simp] theorem State.raise_photon_filter (s : State) (e : Ev) (source : Nat) (code : Nat) (arg1 : Nat) (arg2 : Nat) :
    (s.raise e source code arg1 arg2).photon.filter = s.photon.filter :=
  congrArg (fun x => x.1) ((State.raise_keeps (SameBut.refl [.ev, .trigPins] s) (List.Subset.refl _) e source code arg1 arg2) .filter (by decide))

@[simp] theorem State.raise_photon_banks (s : State) (e : Ev) (source : Nat) (code : Nat) (arg1 : Nat) (arg2 : Nat) :
    (s.raise e source code arg1 arg2).photon.banks = s.photon.banks :=
  congrArg (fun x => x.2) ((State.raise_keeps (SameBut.refl [.ev, .trigPins] s) (List.Subset.refl _) e source code arg1 arg2) .filter (by decide))

@[simp] theorem State.raise_therm (s : State) (e : Ev) (source : Nat) (code : Nat) (arg1 : Nat) (arg2 : Nat) :
    (s.raise e source code arg1 arg2).therm = s.therm :=
  (State.raise_keeps (SameBut.refl [.ev, .trigPins] s) (List.Subset.refl _) e source code arg1 arg2) .therm (by decide)

@[simp] theorem State.raise_cal (s : State) (e : Ev) (source : Nat) (code : Nat) (arg1 : Nat) (arg2 : Nat) :
    (s.raise e source code arg1 arg2).cal = s.cal :=
  (State.raise_keeps (SameBut.refl [.ev, .trigPins] s) (List.Subset.refl _) e source code arg1 arg2) .cal (by decide)

@[simp] theorem State.raise_age (s : State) (e : Ev) (source : Nat) (code : Nat) (arg1 : Nat) (arg2 : Nat) :
    (s.raise e source code arg1 arg2).age = s.age :=
  (State.raise_keeps (SameBut.refl [.ev, .trigPins] s) (List.Subset.refl _) e source code arg1 arg2) .age (by decide)

@[simp] theorem State.raise_free (s : State) (e : Ev) (source : Nat) (code : Nat) (arg1 : Nat) (arg2 : Nat) :
    (s.raise e source code arg1 arg2).free = s.free :=
  (State.raise_keeps (SameBut.refl [.ev, .trigPins] s) (List.Subset.refl _) e source code arg1 arg2) .free (by decide)

@[simp] theorem State.raise_pending (s : State) (e : Ev) (source : Nat) (code : Nat) (arg1 : Nat) (arg2 : Nat) :
    (s.raise e source code arg1 arg2).pending = s.pending :=
  (State.raise_keeps (SameBut.refl [.ev, .trigPins] s) (List.Subset.refl _) e source code arg1 arg2) .pending (by decide)

@[simp] theorem State.raiseP_ctl_sysLock (s : State) (e : Ev) (p : Phys) (code : Nat) (arg1 : Nat) (arg2 : Nat) :
    (s.raiseP e p code arg1 arg2).ctl.sysLock = s.ctl.sysLock :=
  (State.raiseP_keeps (SameBut.refl [.ev, .trigPins] s) (List.Subset.refl _) e p code arg1 arg2) .lock (by decide)

@[simp] theorem State.raiseP_ctl_bus (s : State) (e : Ev) (p : Phys) (code : Nat) (arg1 : Nat) (arg2 : Nat) :
    (s.raiseP e p code arg1 arg2).ctl.bus = s.ctl.bus :=
  congrArg (fun x => x.1) ((State.raiseP_keeps (SameBut.refl [.ev, .trigPins] s) (List.Subset.refl _) e p code arg1 arg2) .bus (by decide))

@[simp] theorem State.raiseP_ctl_indSpi (s : State) (e : Ev) (p : Phys) (code : Nat) (arg1 : Nat) (arg2 : Nat) :
    (s.raiseP e p code arg1 arg2).ctl.indSpi = s.ctl.indSpi :=
  congrArg (fun x => x.2.1) ((State.raiseP_keeps (SameBut.refl [.ev, .trigPins] s) (List.Subset.refl _) e p code arg1 arg2) .bus (by decide))

@[simp] theorem State.raiseP_ctl_indSmb (s : State) (e : Ev) (p : Phys) (code : Nat) (arg1 : Nat) (arg2 : Nat) :
    (s.raiseP e p code arg1 arg2).ctl.indSmb = s.ctl.indSmb :=
  congrArg (fun x => x.2.2.1) ((State.raiseP_keeps (SameBut.refl [.ev, .trigPins] s) (List.Subset.refl _) e p code arg1 arg2) .bus (by decide))

@[simp] theorem State.raiseP_ctl_busOut (s : State) (e : Ev) (p : Phys) (code : Nat) (arg1 : Nat) (arg2 : Nat) :
    (s.raiseP e p code arg1 arg2).ctl.busOut = s.ctl.busOut :=
  congrArg (fun x => x.2.2.2.1) ((State.raiseP_keeps (SameBut.refl [.ev, .trigPins] s) (List.Subset.refl _) e p code arg1 arg2) .bus (by decide))

@[simp] theorem State.raiseP_ctl_heldRings (s : State) (e : Ev) (p : Phys) (code : Nat) (arg1 : Nat) (arg2 : Nat) :
    (s.raiseP e p code arg1 arg2).ctl.heldRings = s.ctl.heldRings :=
  congrArg (fun x => x.2.2.2.2.1) ((State.raiseP_keeps (SameBut.refl [.ev, .trigPins] s) (List.Subset.refl _) e p code arg1 arg2) .bus (by decide))

@[simp] theorem State.raiseP_ctl_nextTurn (s : State) (e : Ev) (p : Phys) (code : Nat) (arg1 : Nat) (arg2 : Nat) :
    (s.raiseP e p code arg1 arg2).ctl.nextTurn = s.ctl.nextTurn :=
  congrArg (fun x => x.2.2.2.2.2) ((State.raiseP_keeps (SameBut.refl [.ev, .trigPins] s) (List.Subset.refl _) e p code arg1 arg2) .bus (by decide))

@[simp] theorem State.raiseP_ctl_sess (s : State) (e : Ev) (p : Phys) (code : Nat) (arg1 : Nat) (arg2 : Nat) :
    (s.raiseP e p code arg1 arg2).ctl.sess = s.ctl.sess :=
  (State.raiseP_keeps (SameBut.refl [.ev, .trigPins] s) (List.Subset.refl _) e p code arg1 arg2) .sess (by decide)

@[simp] theorem State.raiseP_ctl_perf (s : State) (e : Ev) (p : Phys) (code : Nat) (arg1 : Nat) (arg2 : Nat) :
    (s.raiseP e p code arg1 arg2).ctl.perf = s.ctl.perf :=
  (State.raiseP_keeps (SameBut.refl [.ev, .trigPins] s) (List.Subset.refl _) e p code arg1 arg2) .perf (by decide)

@[simp] theorem State.raiseP_ctl_snap (s : State) (e : Ev) (p : Phys) (code : Nat) (arg1 : Nat) (arg2 : Nat) :
    (s.raiseP e p code arg1 arg2).ctl.snap = s.ctl.snap :=
  congrArg (fun x => x.1) ((State.raiseP_keeps (SameBut.refl [.ev, .trigPins] s) (List.Subset.refl _) e p code arg1 arg2) .snap (by decide))

@[simp] theorem State.raiseP_ctl_snapSeq (s : State) (e : Ev) (p : Phys) (code : Nat) (arg1 : Nat) (arg2 : Nat) :
    (s.raiseP e p code arg1 arg2).ctl.snapSeq = s.ctl.snapSeq :=
  congrArg (fun x => x.2) ((State.raiseP_keeps (SameBut.refl [.ev, .trigPins] s) (List.Subset.refl _) e p code arg1 arg2) .snap (by decide))

@[simp] theorem State.raiseP_sys_pins (s : State) (e : Ev) (p : Phys) (code : Nat) (arg1 : Nat) (arg2 : Nat) :
    (s.raiseP e p code arg1 arg2).sys.pins = s.sys.pins :=
  (State.raiseP_keeps (SameBut.refl [.ev, .trigPins] s) (List.Subset.refl _) e p code arg1 arg2) .pins (by decide)

@[simp] theorem State.raiseP_sys_clk (s : State) (e : Ev) (p : Phys) (code : Nat) (arg1 : Nat) (arg2 : Nat) :
    (s.raiseP e p code arg1 arg2).sys.clk = s.sys.clk :=
  (State.raiseP_keeps (SameBut.refl [.ev, .trigPins] s) (List.Subset.refl _) e p code arg1 arg2) .clk (by decide)

@[simp] theorem State.raiseP_sys_core (s : State) (e : Ev) (p : Phys) (code : Nat) (arg1 : Nat) (arg2 : Nat) :
    (s.raiseP e p code arg1 arg2).sys.core = s.sys.core :=
  (State.raiseP_keeps (SameBut.refl [.ev, .trigPins] s) (List.Subset.refl _) e p code arg1 arg2) .core (by decide)

@[simp] theorem State.raiseP_sys_power (s : State) (e : Ev) (p : Phys) (code : Nat) (arg1 : Nat) (arg2 : Nat) :
    (s.raiseP e p code arg1 arg2).sys.power = s.sys.power :=
  (State.raiseP_keeps (SameBut.refl [.ev, .trigPins] s) (List.Subset.refl _) e p code arg1 arg2) .power (by decide)

@[simp] theorem State.raiseP_sys_avs (s : State) (e : Ev) (p : Phys) (code : Nat) (arg1 : Nat) (arg2 : Nat) :
    (s.raiseP e p code arg1 arg2).sys.avs = s.sys.avs :=
  (State.raiseP_keeps (SameBut.refl [.ev, .trigPins] s) (List.Subset.refl _) e p code arg1 arg2) .avs (by decide)

@[simp] theorem State.raiseP_sys_mem (s : State) (e : Ev) (p : Phys) (code : Nat) (arg1 : Nat) (arg2 : Nat) :
    (s.raiseP e p code arg1 arg2).sys.mem = s.sys.mem :=
  (State.raiseP_keeps (SameBut.refl [.ev, .trigPins] s) (List.Subset.refl _) e p code arg1 arg2) .mem (by decide)

@[simp] theorem State.raiseP_sys_fwReady (s : State) (e : Ev) (p : Phys) (code : Nat) (arg1 : Nat) (arg2 : Nat) :
    (s.raiseP e p code arg1 arg2).sys.fwReady = s.sys.fwReady :=
  (State.raiseP_keeps (SameBut.refl [.ev, .trigPins] s) (List.Subset.refl _) e p code arg1 arg2) .fwReady (by decide)

@[simp] theorem State.raiseP_sys_ctlRestart (s : State) (e : Ev) (p : Phys) (code : Nat) (arg1 : Nat) (arg2 : Nat) :
    (s.raiseP e p code arg1 arg2).sys.ctlRestart = s.sys.ctlRestart :=
  (State.raiseP_keeps (SameBut.refl [.ev, .trigPins] s) (List.Subset.refl _) e p code arg1 arg2) .ctlRestart (by decide)

@[simp] theorem State.raiseP_sec_otp (s : State) (e : Ev) (p : Phys) (code : Nat) (arg1 : Nat) (arg2 : Nat) :
    (s.raiseP e p code arg1 arg2).sec.otp = s.sec.otp :=
  (State.raiseP_keeps (SameBut.refl [.ev, .trigPins] s) (List.Subset.refl _) e p code arg1 arg2) .otp (by decide)

@[simp] theorem State.raiseP_sec_made (s : State) (e : Ev) (p : Phys) (code : Nat) (arg1 : Nat) (arg2 : Nat) :
    (s.raiseP e p code arg1 arg2).sec.made = s.sec.made :=
  (State.raiseP_keeps (SameBut.refl [.ev, .trigPins] s) (List.Subset.refl _) e p code arg1 arg2) .made (by decide)

@[simp] theorem State.raiseP_sec_nextIndex (s : State) (e : Ev) (p : Phys) (code : Nat) (arg1 : Nat) (arg2 : Nat) :
    (s.raiseP e p code arg1 arg2).sec.nextIndex = s.sec.nextIndex :=
  congrArg (fun x => x.1) ((State.raiseP_keeps (SameBut.refl [.ev, .trigPins] s) (List.Subset.refl _) e p code arg1 arg2) .signing (by decide))

@[simp] theorem State.raiseP_sec_signReady (s : State) (e : Ev) (p : Phys) (code : Nat) (arg1 : Nat) (arg2 : Nat) :
    (s.raiseP e p code arg1 arg2).sec.signReady = s.sec.signReady :=
  congrArg (fun x => x.2.1) ((State.raiseP_keeps (SameBut.refl [.ev, .trigPins] s) (List.Subset.refl _) e p code arg1 arg2) .signing (by decide))

@[simp] theorem State.raiseP_sec_low1024 (s : State) (e : Ev) (p : Phys) (code : Nat) (arg1 : Nat) (arg2 : Nat) :
    (s.raiseP e p code arg1 arg2).sec.low1024 = s.sec.low1024 :=
  congrArg (fun x => x.2.2.1) ((State.raiseP_keeps (SameBut.refl [.ev, .trigPins] s) (List.Subset.refl _) e p code arg1 arg2) .signing (by decide))

@[simp] theorem State.raiseP_sec_low256 (s : State) (e : Ev) (p : Phys) (code : Nat) (arg1 : Nat) (arg2 : Nat) :
    (s.raiseP e p code arg1 arg2).sec.low256 = s.sec.low256 :=
  congrArg (fun x => x.2.2.2) ((State.raiseP_keeps (SameBut.refl [.ev, .trigPins] s) (List.Subset.refl _) e p code arg1 arg2) .signing (by decide))

@[simp] theorem State.raiseP_sec_test (s : State) (e : Ev) (p : Phys) (code : Nat) (arg1 : Nat) (arg2 : Nat) :
    (s.raiseP e p code arg1 arg2).sec.test = s.sec.test :=
  (State.raiseP_keeps (SameBut.refl [.ev, .trigPins] s) (List.Subset.refl _) e p code arg1 arg2) .selfTest (by decide)

@[simp] theorem State.raiseP_sec_flash (s : State) (e : Ev) (p : Phys) (code : Nat) (arg1 : Nat) (arg2 : Nat) :
    (s.raiseP e p code arg1 arg2).sec.flash = s.sec.flash :=
  (State.raiseP_keeps (SameBut.refl [.ev, .trigPins] s) (List.Subset.refl _) e p code arg1 arg2) .flash (by decide)

@[simp] theorem State.raiseP_sec_img (s : State) (e : Ev) (p : Phys) (code : Nat) (arg1 : Nat) (arg2 : Nat) :
    (s.raiseP e p code arg1 arg2).sec.img = s.sec.img :=
  (State.raiseP_keeps (SameBut.refl [.ev, .trigPins] s) (List.Subset.refl _) e p code arg1 arg2) .img (by decide)

@[simp] theorem State.raiseP_lane (s : State) (e : Ev) (p : Phys) (code : Nat) (arg1 : Nat) (arg2 : Nat) :
    (s.raiseP e p code arg1 arg2).lane = s.lane :=
  (State.raiseP_keeps (SameBut.refl [.ev, .trigPins] s) (List.Subset.refl _) e p code arg1 arg2) .lane (by decide)

@[simp] theorem State.raiseP_rx (s : State) (e : Ev) (p : Phys) (code : Nat) (arg1 : Nat) (arg2 : Nat) :
    (s.raiseP e p code arg1 arg2).rx = s.rx :=
  (State.raiseP_keeps (SameBut.refl [.ev, .trigPins] s) (List.Subset.refl _) e p code arg1 arg2) .rx (by decide)

@[simp] theorem State.raiseP_acq (s : State) (e : Ev) (p : Phys) (code : Nat) (arg1 : Nat) (arg2 : Nat) :
    (s.raiseP e p code arg1 arg2).acq = s.acq :=
  (State.raiseP_keeps (SameBut.refl [.ev, .trigPins] s) (List.Subset.refl _) e p code arg1 arg2) .acq (by decide)

@[simp] theorem State.raiseP_dec (s : State) (e : Ev) (p : Phys) (code : Nat) (arg1 : Nat) (arg2 : Nat) :
    (s.raiseP e p code arg1 arg2).dec = s.dec :=
  (State.raiseP_keeps (SameBut.refl [.ev, .trigPins] s) (List.Subset.refl _) e p code arg1 arg2) .dec (by decide)

@[simp] theorem State.raiseP_tx (s : State) (e : Ev) (p : Phys) (code : Nat) (arg1 : Nat) (arg2 : Nat) :
    (s.raiseP e p code arg1 arg2).tx = s.tx :=
  (State.raiseP_keeps (SameBut.refl [.ev, .trigPins] s) (List.Subset.refl _) e p code arg1 arg2) .tx (by decide)

@[simp] theorem State.raiseP_work (s : State) (e : Ev) (p : Phys) (code : Nat) (arg1 : Nat) (arg2 : Nat) :
    (s.raiseP e p code arg1 arg2).work = s.work :=
  (State.raiseP_keeps (SameBut.refl [.ev, .trigPins] s) (List.Subset.refl _) e p code arg1 arg2) .work (by decide)

@[simp] theorem State.raiseP_gallery (s : State) (e : Ev) (p : Phys) (code : Nat) (arg1 : Nat) (arg2 : Nat) :
    (s.raiseP e p code arg1 arg2).gallery = s.gallery :=
  (State.raiseP_keeps (SameBut.refl [.ev, .trigPins] s) (List.Subset.refl _) e p code arg1 arg2) .gallery (by decide)

@[simp] theorem State.raiseP_epoch (s : State) (e : Ev) (p : Phys) (code : Nat) (arg1 : Nat) (arg2 : Nat) :
    (s.raiseP e p code arg1 arg2).epoch = s.epoch :=
  (State.raiseP_keeps (SameBut.refl [.ev, .trigPins] s) (List.Subset.refl _) e p code arg1 arg2) .epoch (by decide)

@[simp] theorem State.raiseP_group (s : State) (e : Ev) (p : Phys) (code : Nat) (arg1 : Nat) (arg2 : Nat) :
    (s.raiseP e p code arg1 arg2).group = s.group :=
  (State.raiseP_keeps (SameBut.refl [.ev, .trigPins] s) (List.Subset.refl _) e p code arg1 arg2) .group (by decide)

@[simp] theorem State.raiseP_photon_bias (s : State) (e : Ev) (p : Phys) (code : Nat) (arg1 : Nat) (arg2 : Nat) :
    (s.raiseP e p code arg1 arg2).photon.bias = s.photon.bias :=
  congrArg (fun x => x.1) ((State.raiseP_keeps (SameBut.refl [.ev, .trigPins] s) (List.Subset.refl _) e p code arg1 arg2) .bias (by decide))

@[simp] theorem State.raiseP_photon_aggLimit (s : State) (e : Ev) (p : Phys) (code : Nat) (arg1 : Nat) (arg2 : Nat) :
    (s.raiseP e p code arg1 arg2).photon.aggLimit = s.photon.aggLimit :=
  congrArg (fun x => x.2) ((State.raiseP_keeps (SameBut.refl [.ev, .trigPins] s) (List.Subset.refl _) e p code arg1 arg2) .bias (by decide))

@[simp] theorem State.raiseP_photon_mon (s : State) (e : Ev) (p : Phys) (code : Nat) (arg1 : Nat) (arg2 : Nat) :
    (s.raiseP e p code arg1 arg2).photon.mon = s.photon.mon :=
  congrArg (fun x => x.1) ((State.raiseP_keeps (SameBut.refl [.ev, .trigPins] s) (List.Subset.refl _) e p code arg1 arg2) .mon (by decide))

@[simp] theorem State.raiseP_photon_lastConv (s : State) (e : Ev) (p : Phys) (code : Nat) (arg1 : Nat) (arg2 : Nat) :
    (s.raiseP e p code arg1 arg2).photon.lastConv = s.photon.lastConv :=
  congrArg (fun x => x.2) ((State.raiseP_keeps (SameBut.refl [.ev, .trigPins] s) (List.Subset.refl _) e p code arg1 arg2) .mon (by decide))

@[simp] theorem State.raiseP_photon_filter (s : State) (e : Ev) (p : Phys) (code : Nat) (arg1 : Nat) (arg2 : Nat) :
    (s.raiseP e p code arg1 arg2).photon.filter = s.photon.filter :=
  congrArg (fun x => x.1) ((State.raiseP_keeps (SameBut.refl [.ev, .trigPins] s) (List.Subset.refl _) e p code arg1 arg2) .filter (by decide))

@[simp] theorem State.raiseP_photon_banks (s : State) (e : Ev) (p : Phys) (code : Nat) (arg1 : Nat) (arg2 : Nat) :
    (s.raiseP e p code arg1 arg2).photon.banks = s.photon.banks :=
  congrArg (fun x => x.2) ((State.raiseP_keeps (SameBut.refl [.ev, .trigPins] s) (List.Subset.refl _) e p code arg1 arg2) .filter (by decide))

@[simp] theorem State.raiseP_therm (s : State) (e : Ev) (p : Phys) (code : Nat) (arg1 : Nat) (arg2 : Nat) :
    (s.raiseP e p code arg1 arg2).therm = s.therm :=
  (State.raiseP_keeps (SameBut.refl [.ev, .trigPins] s) (List.Subset.refl _) e p code arg1 arg2) .therm (by decide)

@[simp] theorem State.raiseP_cal (s : State) (e : Ev) (p : Phys) (code : Nat) (arg1 : Nat) (arg2 : Nat) :
    (s.raiseP e p code arg1 arg2).cal = s.cal :=
  (State.raiseP_keeps (SameBut.refl [.ev, .trigPins] s) (List.Subset.refl _) e p code arg1 arg2) .cal (by decide)

@[simp] theorem State.raiseP_age (s : State) (e : Ev) (p : Phys) (code : Nat) (arg1 : Nat) (arg2 : Nat) :
    (s.raiseP e p code arg1 arg2).age = s.age :=
  (State.raiseP_keeps (SameBut.refl [.ev, .trigPins] s) (List.Subset.refl _) e p code arg1 arg2) .age (by decide)

@[simp] theorem State.raiseP_free (s : State) (e : Ev) (p : Phys) (code : Nat) (arg1 : Nat) (arg2 : Nat) :
    (s.raiseP e p code arg1 arg2).free = s.free :=
  (State.raiseP_keeps (SameBut.refl [.ev, .trigPins] s) (List.Subset.refl _) e p code arg1 arg2) .free (by decide)

@[simp] theorem State.raiseP_pending (s : State) (e : Ev) (p : Phys) (code : Nat) (arg1 : Nat) (arg2 : Nat) :
    (s.raiseP e p code arg1 arg2).pending = s.pending :=
  (State.raiseP_keeps (SameBut.refl [.ev, .trigPins] s) (List.Subset.refl _) e p code arg1 arg2) .pending (by decide)

@[simp] theorem State.raiseW_ctl_sysLock (s : State) (e : Ev) (w : Work) (code : Nat) (arg1 : Nat) (arg2 : Nat) :
    (s.raiseW e w code arg1 arg2).ctl.sysLock = s.ctl.sysLock :=
  (State.raiseW_keeps (SameBut.refl [.ev, .trigPins] s) (List.Subset.refl _) e w code arg1 arg2) .lock (by decide)

@[simp] theorem State.raiseW_ctl_bus (s : State) (e : Ev) (w : Work) (code : Nat) (arg1 : Nat) (arg2 : Nat) :
    (s.raiseW e w code arg1 arg2).ctl.bus = s.ctl.bus :=
  congrArg (fun x => x.1) ((State.raiseW_keeps (SameBut.refl [.ev, .trigPins] s) (List.Subset.refl _) e w code arg1 arg2) .bus (by decide))

@[simp] theorem State.raiseW_ctl_indSpi (s : State) (e : Ev) (w : Work) (code : Nat) (arg1 : Nat) (arg2 : Nat) :
    (s.raiseW e w code arg1 arg2).ctl.indSpi = s.ctl.indSpi :=
  congrArg (fun x => x.2.1) ((State.raiseW_keeps (SameBut.refl [.ev, .trigPins] s) (List.Subset.refl _) e w code arg1 arg2) .bus (by decide))

@[simp] theorem State.raiseW_ctl_indSmb (s : State) (e : Ev) (w : Work) (code : Nat) (arg1 : Nat) (arg2 : Nat) :
    (s.raiseW e w code arg1 arg2).ctl.indSmb = s.ctl.indSmb :=
  congrArg (fun x => x.2.2.1) ((State.raiseW_keeps (SameBut.refl [.ev, .trigPins] s) (List.Subset.refl _) e w code arg1 arg2) .bus (by decide))

@[simp] theorem State.raiseW_ctl_busOut (s : State) (e : Ev) (w : Work) (code : Nat) (arg1 : Nat) (arg2 : Nat) :
    (s.raiseW e w code arg1 arg2).ctl.busOut = s.ctl.busOut :=
  congrArg (fun x => x.2.2.2.1) ((State.raiseW_keeps (SameBut.refl [.ev, .trigPins] s) (List.Subset.refl _) e w code arg1 arg2) .bus (by decide))

@[simp] theorem State.raiseW_ctl_heldRings (s : State) (e : Ev) (w : Work) (code : Nat) (arg1 : Nat) (arg2 : Nat) :
    (s.raiseW e w code arg1 arg2).ctl.heldRings = s.ctl.heldRings :=
  congrArg (fun x => x.2.2.2.2.1) ((State.raiseW_keeps (SameBut.refl [.ev, .trigPins] s) (List.Subset.refl _) e w code arg1 arg2) .bus (by decide))

@[simp] theorem State.raiseW_ctl_nextTurn (s : State) (e : Ev) (w : Work) (code : Nat) (arg1 : Nat) (arg2 : Nat) :
    (s.raiseW e w code arg1 arg2).ctl.nextTurn = s.ctl.nextTurn :=
  congrArg (fun x => x.2.2.2.2.2) ((State.raiseW_keeps (SameBut.refl [.ev, .trigPins] s) (List.Subset.refl _) e w code arg1 arg2) .bus (by decide))

@[simp] theorem State.raiseW_ctl_sess (s : State) (e : Ev) (w : Work) (code : Nat) (arg1 : Nat) (arg2 : Nat) :
    (s.raiseW e w code arg1 arg2).ctl.sess = s.ctl.sess :=
  (State.raiseW_keeps (SameBut.refl [.ev, .trigPins] s) (List.Subset.refl _) e w code arg1 arg2) .sess (by decide)

@[simp] theorem State.raiseW_ctl_perf (s : State) (e : Ev) (w : Work) (code : Nat) (arg1 : Nat) (arg2 : Nat) :
    (s.raiseW e w code arg1 arg2).ctl.perf = s.ctl.perf :=
  (State.raiseW_keeps (SameBut.refl [.ev, .trigPins] s) (List.Subset.refl _) e w code arg1 arg2) .perf (by decide)

@[simp] theorem State.raiseW_ctl_snap (s : State) (e : Ev) (w : Work) (code : Nat) (arg1 : Nat) (arg2 : Nat) :
    (s.raiseW e w code arg1 arg2).ctl.snap = s.ctl.snap :=
  congrArg (fun x => x.1) ((State.raiseW_keeps (SameBut.refl [.ev, .trigPins] s) (List.Subset.refl _) e w code arg1 arg2) .snap (by decide))

@[simp] theorem State.raiseW_ctl_snapSeq (s : State) (e : Ev) (w : Work) (code : Nat) (arg1 : Nat) (arg2 : Nat) :
    (s.raiseW e w code arg1 arg2).ctl.snapSeq = s.ctl.snapSeq :=
  congrArg (fun x => x.2) ((State.raiseW_keeps (SameBut.refl [.ev, .trigPins] s) (List.Subset.refl _) e w code arg1 arg2) .snap (by decide))

@[simp] theorem State.raiseW_sys_pins (s : State) (e : Ev) (w : Work) (code : Nat) (arg1 : Nat) (arg2 : Nat) :
    (s.raiseW e w code arg1 arg2).sys.pins = s.sys.pins :=
  (State.raiseW_keeps (SameBut.refl [.ev, .trigPins] s) (List.Subset.refl _) e w code arg1 arg2) .pins (by decide)

@[simp] theorem State.raiseW_sys_clk (s : State) (e : Ev) (w : Work) (code : Nat) (arg1 : Nat) (arg2 : Nat) :
    (s.raiseW e w code arg1 arg2).sys.clk = s.sys.clk :=
  (State.raiseW_keeps (SameBut.refl [.ev, .trigPins] s) (List.Subset.refl _) e w code arg1 arg2) .clk (by decide)

@[simp] theorem State.raiseW_sys_core (s : State) (e : Ev) (w : Work) (code : Nat) (arg1 : Nat) (arg2 : Nat) :
    (s.raiseW e w code arg1 arg2).sys.core = s.sys.core :=
  (State.raiseW_keeps (SameBut.refl [.ev, .trigPins] s) (List.Subset.refl _) e w code arg1 arg2) .core (by decide)

@[simp] theorem State.raiseW_sys_power (s : State) (e : Ev) (w : Work) (code : Nat) (arg1 : Nat) (arg2 : Nat) :
    (s.raiseW e w code arg1 arg2).sys.power = s.sys.power :=
  (State.raiseW_keeps (SameBut.refl [.ev, .trigPins] s) (List.Subset.refl _) e w code arg1 arg2) .power (by decide)

@[simp] theorem State.raiseW_sys_avs (s : State) (e : Ev) (w : Work) (code : Nat) (arg1 : Nat) (arg2 : Nat) :
    (s.raiseW e w code arg1 arg2).sys.avs = s.sys.avs :=
  (State.raiseW_keeps (SameBut.refl [.ev, .trigPins] s) (List.Subset.refl _) e w code arg1 arg2) .avs (by decide)

@[simp] theorem State.raiseW_sys_mem (s : State) (e : Ev) (w : Work) (code : Nat) (arg1 : Nat) (arg2 : Nat) :
    (s.raiseW e w code arg1 arg2).sys.mem = s.sys.mem :=
  (State.raiseW_keeps (SameBut.refl [.ev, .trigPins] s) (List.Subset.refl _) e w code arg1 arg2) .mem (by decide)

@[simp] theorem State.raiseW_sys_fwReady (s : State) (e : Ev) (w : Work) (code : Nat) (arg1 : Nat) (arg2 : Nat) :
    (s.raiseW e w code arg1 arg2).sys.fwReady = s.sys.fwReady :=
  (State.raiseW_keeps (SameBut.refl [.ev, .trigPins] s) (List.Subset.refl _) e w code arg1 arg2) .fwReady (by decide)

@[simp] theorem State.raiseW_sys_ctlRestart (s : State) (e : Ev) (w : Work) (code : Nat) (arg1 : Nat) (arg2 : Nat) :
    (s.raiseW e w code arg1 arg2).sys.ctlRestart = s.sys.ctlRestart :=
  (State.raiseW_keeps (SameBut.refl [.ev, .trigPins] s) (List.Subset.refl _) e w code arg1 arg2) .ctlRestart (by decide)

@[simp] theorem State.raiseW_sec_otp (s : State) (e : Ev) (w : Work) (code : Nat) (arg1 : Nat) (arg2 : Nat) :
    (s.raiseW e w code arg1 arg2).sec.otp = s.sec.otp :=
  (State.raiseW_keeps (SameBut.refl [.ev, .trigPins] s) (List.Subset.refl _) e w code arg1 arg2) .otp (by decide)

@[simp] theorem State.raiseW_sec_made (s : State) (e : Ev) (w : Work) (code : Nat) (arg1 : Nat) (arg2 : Nat) :
    (s.raiseW e w code arg1 arg2).sec.made = s.sec.made :=
  (State.raiseW_keeps (SameBut.refl [.ev, .trigPins] s) (List.Subset.refl _) e w code arg1 arg2) .made (by decide)

@[simp] theorem State.raiseW_sec_nextIndex (s : State) (e : Ev) (w : Work) (code : Nat) (arg1 : Nat) (arg2 : Nat) :
    (s.raiseW e w code arg1 arg2).sec.nextIndex = s.sec.nextIndex :=
  congrArg (fun x => x.1) ((State.raiseW_keeps (SameBut.refl [.ev, .trigPins] s) (List.Subset.refl _) e w code arg1 arg2) .signing (by decide))

@[simp] theorem State.raiseW_sec_signReady (s : State) (e : Ev) (w : Work) (code : Nat) (arg1 : Nat) (arg2 : Nat) :
    (s.raiseW e w code arg1 arg2).sec.signReady = s.sec.signReady :=
  congrArg (fun x => x.2.1) ((State.raiseW_keeps (SameBut.refl [.ev, .trigPins] s) (List.Subset.refl _) e w code arg1 arg2) .signing (by decide))

@[simp] theorem State.raiseW_sec_low1024 (s : State) (e : Ev) (w : Work) (code : Nat) (arg1 : Nat) (arg2 : Nat) :
    (s.raiseW e w code arg1 arg2).sec.low1024 = s.sec.low1024 :=
  congrArg (fun x => x.2.2.1) ((State.raiseW_keeps (SameBut.refl [.ev, .trigPins] s) (List.Subset.refl _) e w code arg1 arg2) .signing (by decide))

@[simp] theorem State.raiseW_sec_low256 (s : State) (e : Ev) (w : Work) (code : Nat) (arg1 : Nat) (arg2 : Nat) :
    (s.raiseW e w code arg1 arg2).sec.low256 = s.sec.low256 :=
  congrArg (fun x => x.2.2.2) ((State.raiseW_keeps (SameBut.refl [.ev, .trigPins] s) (List.Subset.refl _) e w code arg1 arg2) .signing (by decide))

@[simp] theorem State.raiseW_sec_test (s : State) (e : Ev) (w : Work) (code : Nat) (arg1 : Nat) (arg2 : Nat) :
    (s.raiseW e w code arg1 arg2).sec.test = s.sec.test :=
  (State.raiseW_keeps (SameBut.refl [.ev, .trigPins] s) (List.Subset.refl _) e w code arg1 arg2) .selfTest (by decide)

@[simp] theorem State.raiseW_sec_flash (s : State) (e : Ev) (w : Work) (code : Nat) (arg1 : Nat) (arg2 : Nat) :
    (s.raiseW e w code arg1 arg2).sec.flash = s.sec.flash :=
  (State.raiseW_keeps (SameBut.refl [.ev, .trigPins] s) (List.Subset.refl _) e w code arg1 arg2) .flash (by decide)

@[simp] theorem State.raiseW_sec_img (s : State) (e : Ev) (w : Work) (code : Nat) (arg1 : Nat) (arg2 : Nat) :
    (s.raiseW e w code arg1 arg2).sec.img = s.sec.img :=
  (State.raiseW_keeps (SameBut.refl [.ev, .trigPins] s) (List.Subset.refl _) e w code arg1 arg2) .img (by decide)

@[simp] theorem State.raiseW_lane (s : State) (e : Ev) (w : Work) (code : Nat) (arg1 : Nat) (arg2 : Nat) :
    (s.raiseW e w code arg1 arg2).lane = s.lane :=
  (State.raiseW_keeps (SameBut.refl [.ev, .trigPins] s) (List.Subset.refl _) e w code arg1 arg2) .lane (by decide)

@[simp] theorem State.raiseW_rx (s : State) (e : Ev) (w : Work) (code : Nat) (arg1 : Nat) (arg2 : Nat) :
    (s.raiseW e w code arg1 arg2).rx = s.rx :=
  (State.raiseW_keeps (SameBut.refl [.ev, .trigPins] s) (List.Subset.refl _) e w code arg1 arg2) .rx (by decide)

@[simp] theorem State.raiseW_acq (s : State) (e : Ev) (w : Work) (code : Nat) (arg1 : Nat) (arg2 : Nat) :
    (s.raiseW e w code arg1 arg2).acq = s.acq :=
  (State.raiseW_keeps (SameBut.refl [.ev, .trigPins] s) (List.Subset.refl _) e w code arg1 arg2) .acq (by decide)

@[simp] theorem State.raiseW_dec (s : State) (e : Ev) (w : Work) (code : Nat) (arg1 : Nat) (arg2 : Nat) :
    (s.raiseW e w code arg1 arg2).dec = s.dec :=
  (State.raiseW_keeps (SameBut.refl [.ev, .trigPins] s) (List.Subset.refl _) e w code arg1 arg2) .dec (by decide)

@[simp] theorem State.raiseW_tx (s : State) (e : Ev) (w : Work) (code : Nat) (arg1 : Nat) (arg2 : Nat) :
    (s.raiseW e w code arg1 arg2).tx = s.tx :=
  (State.raiseW_keeps (SameBut.refl [.ev, .trigPins] s) (List.Subset.refl _) e w code arg1 arg2) .tx (by decide)

@[simp] theorem State.raiseW_work (s : State) (e : Ev) (w : Work) (code : Nat) (arg1 : Nat) (arg2 : Nat) :
    (s.raiseW e w code arg1 arg2).work = s.work :=
  (State.raiseW_keeps (SameBut.refl [.ev, .trigPins] s) (List.Subset.refl _) e w code arg1 arg2) .work (by decide)

@[simp] theorem State.raiseW_gallery (s : State) (e : Ev) (w : Work) (code : Nat) (arg1 : Nat) (arg2 : Nat) :
    (s.raiseW e w code arg1 arg2).gallery = s.gallery :=
  (State.raiseW_keeps (SameBut.refl [.ev, .trigPins] s) (List.Subset.refl _) e w code arg1 arg2) .gallery (by decide)

@[simp] theorem State.raiseW_epoch (s : State) (e : Ev) (w : Work) (code : Nat) (arg1 : Nat) (arg2 : Nat) :
    (s.raiseW e w code arg1 arg2).epoch = s.epoch :=
  (State.raiseW_keeps (SameBut.refl [.ev, .trigPins] s) (List.Subset.refl _) e w code arg1 arg2) .epoch (by decide)

@[simp] theorem State.raiseW_group (s : State) (e : Ev) (w : Work) (code : Nat) (arg1 : Nat) (arg2 : Nat) :
    (s.raiseW e w code arg1 arg2).group = s.group :=
  (State.raiseW_keeps (SameBut.refl [.ev, .trigPins] s) (List.Subset.refl _) e w code arg1 arg2) .group (by decide)

@[simp] theorem State.raiseW_photon_bias (s : State) (e : Ev) (w : Work) (code : Nat) (arg1 : Nat) (arg2 : Nat) :
    (s.raiseW e w code arg1 arg2).photon.bias = s.photon.bias :=
  congrArg (fun x => x.1) ((State.raiseW_keeps (SameBut.refl [.ev, .trigPins] s) (List.Subset.refl _) e w code arg1 arg2) .bias (by decide))

@[simp] theorem State.raiseW_photon_aggLimit (s : State) (e : Ev) (w : Work) (code : Nat) (arg1 : Nat) (arg2 : Nat) :
    (s.raiseW e w code arg1 arg2).photon.aggLimit = s.photon.aggLimit :=
  congrArg (fun x => x.2) ((State.raiseW_keeps (SameBut.refl [.ev, .trigPins] s) (List.Subset.refl _) e w code arg1 arg2) .bias (by decide))

@[simp] theorem State.raiseW_photon_mon (s : State) (e : Ev) (w : Work) (code : Nat) (arg1 : Nat) (arg2 : Nat) :
    (s.raiseW e w code arg1 arg2).photon.mon = s.photon.mon :=
  congrArg (fun x => x.1) ((State.raiseW_keeps (SameBut.refl [.ev, .trigPins] s) (List.Subset.refl _) e w code arg1 arg2) .mon (by decide))

@[simp] theorem State.raiseW_photon_lastConv (s : State) (e : Ev) (w : Work) (code : Nat) (arg1 : Nat) (arg2 : Nat) :
    (s.raiseW e w code arg1 arg2).photon.lastConv = s.photon.lastConv :=
  congrArg (fun x => x.2) ((State.raiseW_keeps (SameBut.refl [.ev, .trigPins] s) (List.Subset.refl _) e w code arg1 arg2) .mon (by decide))

@[simp] theorem State.raiseW_photon_filter (s : State) (e : Ev) (w : Work) (code : Nat) (arg1 : Nat) (arg2 : Nat) :
    (s.raiseW e w code arg1 arg2).photon.filter = s.photon.filter :=
  congrArg (fun x => x.1) ((State.raiseW_keeps (SameBut.refl [.ev, .trigPins] s) (List.Subset.refl _) e w code arg1 arg2) .filter (by decide))

@[simp] theorem State.raiseW_photon_banks (s : State) (e : Ev) (w : Work) (code : Nat) (arg1 : Nat) (arg2 : Nat) :
    (s.raiseW e w code arg1 arg2).photon.banks = s.photon.banks :=
  congrArg (fun x => x.2) ((State.raiseW_keeps (SameBut.refl [.ev, .trigPins] s) (List.Subset.refl _) e w code arg1 arg2) .filter (by decide))

@[simp] theorem State.raiseW_therm (s : State) (e : Ev) (w : Work) (code : Nat) (arg1 : Nat) (arg2 : Nat) :
    (s.raiseW e w code arg1 arg2).therm = s.therm :=
  (State.raiseW_keeps (SameBut.refl [.ev, .trigPins] s) (List.Subset.refl _) e w code arg1 arg2) .therm (by decide)

@[simp] theorem State.raiseW_cal (s : State) (e : Ev) (w : Work) (code : Nat) (arg1 : Nat) (arg2 : Nat) :
    (s.raiseW e w code arg1 arg2).cal = s.cal :=
  (State.raiseW_keeps (SameBut.refl [.ev, .trigPins] s) (List.Subset.refl _) e w code arg1 arg2) .cal (by decide)

@[simp] theorem State.raiseW_age (s : State) (e : Ev) (w : Work) (code : Nat) (arg1 : Nat) (arg2 : Nat) :
    (s.raiseW e w code arg1 arg2).age = s.age :=
  (State.raiseW_keeps (SameBut.refl [.ev, .trigPins] s) (List.Subset.refl _) e w code arg1 arg2) .age (by decide)

@[simp] theorem State.raiseW_free (s : State) (e : Ev) (w : Work) (code : Nat) (arg1 : Nat) (arg2 : Nat) :
    (s.raiseW e w code arg1 arg2).free = s.free :=
  (State.raiseW_keeps (SameBut.refl [.ev, .trigPins] s) (List.Subset.refl _) e w code arg1 arg2) .free (by decide)

@[simp] theorem State.raiseW_pending (s : State) (e : Ev) (w : Work) (code : Nat) (arg1 : Nat) (arg2 : Nat) :
    (s.raiseW e w code arg1 arg2).pending = s.pending :=
  (State.raiseW_keeps (SameBut.refl [.ev, .trigPins] s) (List.Subset.refl _) e w code arg1 arg2) .pending (by decide)

@[simp] theorem State.freeSess_ctl_sysLock (s : State) (k : Sess) :
    (s.freeSess k).ctl.sysLock = s.ctl.sysLock :=
  (State.freeSess_keeps (SameBut.refl [.sess, .ev, .trigPins] s) (List.Subset.refl _) k) .lock (by decide)

@[simp] theorem State.freeSess_ctl_bus (s : State) (k : Sess) :
    (s.freeSess k).ctl.bus = s.ctl.bus :=
  congrArg (fun x => x.1) ((State.freeSess_keeps (SameBut.refl [.sess, .ev, .trigPins] s) (List.Subset.refl _) k) .bus (by decide))

@[simp] theorem State.freeSess_ctl_indSpi (s : State) (k : Sess) :
    (s.freeSess k).ctl.indSpi = s.ctl.indSpi :=
  congrArg (fun x => x.2.1) ((State.freeSess_keeps (SameBut.refl [.sess, .ev, .trigPins] s) (List.Subset.refl _) k) .bus (by decide))

@[simp] theorem State.freeSess_ctl_indSmb (s : State) (k : Sess) :
    (s.freeSess k).ctl.indSmb = s.ctl.indSmb :=
  congrArg (fun x => x.2.2.1) ((State.freeSess_keeps (SameBut.refl [.sess, .ev, .trigPins] s) (List.Subset.refl _) k) .bus (by decide))

@[simp] theorem State.freeSess_ctl_busOut (s : State) (k : Sess) :
    (s.freeSess k).ctl.busOut = s.ctl.busOut :=
  congrArg (fun x => x.2.2.2.1) ((State.freeSess_keeps (SameBut.refl [.sess, .ev, .trigPins] s) (List.Subset.refl _) k) .bus (by decide))

@[simp] theorem State.freeSess_ctl_heldRings (s : State) (k : Sess) :
    (s.freeSess k).ctl.heldRings = s.ctl.heldRings :=
  congrArg (fun x => x.2.2.2.2.1) ((State.freeSess_keeps (SameBut.refl [.sess, .ev, .trigPins] s) (List.Subset.refl _) k) .bus (by decide))

@[simp] theorem State.freeSess_ctl_nextTurn (s : State) (k : Sess) :
    (s.freeSess k).ctl.nextTurn = s.ctl.nextTurn :=
  congrArg (fun x => x.2.2.2.2.2) ((State.freeSess_keeps (SameBut.refl [.sess, .ev, .trigPins] s) (List.Subset.refl _) k) .bus (by decide))

@[simp] theorem State.freeSess_ctl_perf (s : State) (k : Sess) :
    (s.freeSess k).ctl.perf = s.ctl.perf :=
  (State.freeSess_keeps (SameBut.refl [.sess, .ev, .trigPins] s) (List.Subset.refl _) k) .perf (by decide)

@[simp] theorem State.freeSess_ctl_snap (s : State) (k : Sess) :
    (s.freeSess k).ctl.snap = s.ctl.snap :=
  congrArg (fun x => x.1) ((State.freeSess_keeps (SameBut.refl [.sess, .ev, .trigPins] s) (List.Subset.refl _) k) .snap (by decide))

@[simp] theorem State.freeSess_ctl_snapSeq (s : State) (k : Sess) :
    (s.freeSess k).ctl.snapSeq = s.ctl.snapSeq :=
  congrArg (fun x => x.2) ((State.freeSess_keeps (SameBut.refl [.sess, .ev, .trigPins] s) (List.Subset.refl _) k) .snap (by decide))

@[simp] theorem State.freeSess_sys_pins (s : State) (k : Sess) :
    (s.freeSess k).sys.pins = s.sys.pins :=
  (State.freeSess_keeps (SameBut.refl [.sess, .ev, .trigPins] s) (List.Subset.refl _) k) .pins (by decide)

@[simp] theorem State.freeSess_sys_clk (s : State) (k : Sess) :
    (s.freeSess k).sys.clk = s.sys.clk :=
  (State.freeSess_keeps (SameBut.refl [.sess, .ev, .trigPins] s) (List.Subset.refl _) k) .clk (by decide)

@[simp] theorem State.freeSess_sys_core (s : State) (k : Sess) :
    (s.freeSess k).sys.core = s.sys.core :=
  (State.freeSess_keeps (SameBut.refl [.sess, .ev, .trigPins] s) (List.Subset.refl _) k) .core (by decide)

@[simp] theorem State.freeSess_sys_power (s : State) (k : Sess) :
    (s.freeSess k).sys.power = s.sys.power :=
  (State.freeSess_keeps (SameBut.refl [.sess, .ev, .trigPins] s) (List.Subset.refl _) k) .power (by decide)

@[simp] theorem State.freeSess_sys_avs (s : State) (k : Sess) :
    (s.freeSess k).sys.avs = s.sys.avs :=
  (State.freeSess_keeps (SameBut.refl [.sess, .ev, .trigPins] s) (List.Subset.refl _) k) .avs (by decide)

@[simp] theorem State.freeSess_sys_mem (s : State) (k : Sess) :
    (s.freeSess k).sys.mem = s.sys.mem :=
  (State.freeSess_keeps (SameBut.refl [.sess, .ev, .trigPins] s) (List.Subset.refl _) k) .mem (by decide)

@[simp] theorem State.freeSess_sys_fwReady (s : State) (k : Sess) :
    (s.freeSess k).sys.fwReady = s.sys.fwReady :=
  (State.freeSess_keeps (SameBut.refl [.sess, .ev, .trigPins] s) (List.Subset.refl _) k) .fwReady (by decide)

@[simp] theorem State.freeSess_sys_ctlRestart (s : State) (k : Sess) :
    (s.freeSess k).sys.ctlRestart = s.sys.ctlRestart :=
  (State.freeSess_keeps (SameBut.refl [.sess, .ev, .trigPins] s) (List.Subset.refl _) k) .ctlRestart (by decide)

@[simp] theorem State.freeSess_sec_otp (s : State) (k : Sess) :
    (s.freeSess k).sec.otp = s.sec.otp :=
  (State.freeSess_keeps (SameBut.refl [.sess, .ev, .trigPins] s) (List.Subset.refl _) k) .otp (by decide)

@[simp] theorem State.freeSess_sec_made (s : State) (k : Sess) :
    (s.freeSess k).sec.made = s.sec.made :=
  (State.freeSess_keeps (SameBut.refl [.sess, .ev, .trigPins] s) (List.Subset.refl _) k) .made (by decide)

@[simp] theorem State.freeSess_sec_nextIndex (s : State) (k : Sess) :
    (s.freeSess k).sec.nextIndex = s.sec.nextIndex :=
  congrArg (fun x => x.1) ((State.freeSess_keeps (SameBut.refl [.sess, .ev, .trigPins] s) (List.Subset.refl _) k) .signing (by decide))

@[simp] theorem State.freeSess_sec_signReady (s : State) (k : Sess) :
    (s.freeSess k).sec.signReady = s.sec.signReady :=
  congrArg (fun x => x.2.1) ((State.freeSess_keeps (SameBut.refl [.sess, .ev, .trigPins] s) (List.Subset.refl _) k) .signing (by decide))

@[simp] theorem State.freeSess_sec_low1024 (s : State) (k : Sess) :
    (s.freeSess k).sec.low1024 = s.sec.low1024 :=
  congrArg (fun x => x.2.2.1) ((State.freeSess_keeps (SameBut.refl [.sess, .ev, .trigPins] s) (List.Subset.refl _) k) .signing (by decide))

@[simp] theorem State.freeSess_sec_low256 (s : State) (k : Sess) :
    (s.freeSess k).sec.low256 = s.sec.low256 :=
  congrArg (fun x => x.2.2.2) ((State.freeSess_keeps (SameBut.refl [.sess, .ev, .trigPins] s) (List.Subset.refl _) k) .signing (by decide))

@[simp] theorem State.freeSess_sec_test (s : State) (k : Sess) :
    (s.freeSess k).sec.test = s.sec.test :=
  (State.freeSess_keeps (SameBut.refl [.sess, .ev, .trigPins] s) (List.Subset.refl _) k) .selfTest (by decide)

@[simp] theorem State.freeSess_sec_flash (s : State) (k : Sess) :
    (s.freeSess k).sec.flash = s.sec.flash :=
  (State.freeSess_keeps (SameBut.refl [.sess, .ev, .trigPins] s) (List.Subset.refl _) k) .flash (by decide)

@[simp] theorem State.freeSess_sec_img (s : State) (k : Sess) :
    (s.freeSess k).sec.img = s.sec.img :=
  (State.freeSess_keeps (SameBut.refl [.sess, .ev, .trigPins] s) (List.Subset.refl _) k) .img (by decide)

@[simp] theorem State.freeSess_lane (s : State) (k : Sess) :
    (s.freeSess k).lane = s.lane :=
  (State.freeSess_keeps (SameBut.refl [.sess, .ev, .trigPins] s) (List.Subset.refl _) k) .lane (by decide)

@[simp] theorem State.freeSess_rx (s : State) (k : Sess) :
    (s.freeSess k).rx = s.rx :=
  (State.freeSess_keeps (SameBut.refl [.sess, .ev, .trigPins] s) (List.Subset.refl _) k) .rx (by decide)

@[simp] theorem State.freeSess_acq (s : State) (k : Sess) :
    (s.freeSess k).acq = s.acq :=
  (State.freeSess_keeps (SameBut.refl [.sess, .ev, .trigPins] s) (List.Subset.refl _) k) .acq (by decide)

@[simp] theorem State.freeSess_dec (s : State) (k : Sess) :
    (s.freeSess k).dec = s.dec :=
  (State.freeSess_keeps (SameBut.refl [.sess, .ev, .trigPins] s) (List.Subset.refl _) k) .dec (by decide)

@[simp] theorem State.freeSess_tx (s : State) (k : Sess) :
    (s.freeSess k).tx = s.tx :=
  (State.freeSess_keeps (SameBut.refl [.sess, .ev, .trigPins] s) (List.Subset.refl _) k) .tx (by decide)

@[simp] theorem State.freeSess_work (s : State) (k : Sess) :
    (s.freeSess k).work = s.work :=
  (State.freeSess_keeps (SameBut.refl [.sess, .ev, .trigPins] s) (List.Subset.refl _) k) .work (by decide)

@[simp] theorem State.freeSess_gallery (s : State) (k : Sess) :
    (s.freeSess k).gallery = s.gallery :=
  (State.freeSess_keeps (SameBut.refl [.sess, .ev, .trigPins] s) (List.Subset.refl _) k) .gallery (by decide)

@[simp] theorem State.freeSess_epoch (s : State) (k : Sess) :
    (s.freeSess k).epoch = s.epoch :=
  (State.freeSess_keeps (SameBut.refl [.sess, .ev, .trigPins] s) (List.Subset.refl _) k) .epoch (by decide)

@[simp] theorem State.freeSess_group (s : State) (k : Sess) :
    (s.freeSess k).group = s.group :=
  (State.freeSess_keeps (SameBut.refl [.sess, .ev, .trigPins] s) (List.Subset.refl _) k) .group (by decide)

@[simp] theorem State.freeSess_photon_bias (s : State) (k : Sess) :
    (s.freeSess k).photon.bias = s.photon.bias :=
  congrArg (fun x => x.1) ((State.freeSess_keeps (SameBut.refl [.sess, .ev, .trigPins] s) (List.Subset.refl _) k) .bias (by decide))

@[simp] theorem State.freeSess_photon_aggLimit (s : State) (k : Sess) :
    (s.freeSess k).photon.aggLimit = s.photon.aggLimit :=
  congrArg (fun x => x.2) ((State.freeSess_keeps (SameBut.refl [.sess, .ev, .trigPins] s) (List.Subset.refl _) k) .bias (by decide))

@[simp] theorem State.freeSess_photon_mon (s : State) (k : Sess) :
    (s.freeSess k).photon.mon = s.photon.mon :=
  congrArg (fun x => x.1) ((State.freeSess_keeps (SameBut.refl [.sess, .ev, .trigPins] s) (List.Subset.refl _) k) .mon (by decide))

@[simp] theorem State.freeSess_photon_lastConv (s : State) (k : Sess) :
    (s.freeSess k).photon.lastConv = s.photon.lastConv :=
  congrArg (fun x => x.2) ((State.freeSess_keeps (SameBut.refl [.sess, .ev, .trigPins] s) (List.Subset.refl _) k) .mon (by decide))

@[simp] theorem State.freeSess_photon_filter (s : State) (k : Sess) :
    (s.freeSess k).photon.filter = s.photon.filter :=
  congrArg (fun x => x.1) ((State.freeSess_keeps (SameBut.refl [.sess, .ev, .trigPins] s) (List.Subset.refl _) k) .filter (by decide))

@[simp] theorem State.freeSess_photon_banks (s : State) (k : Sess) :
    (s.freeSess k).photon.banks = s.photon.banks :=
  congrArg (fun x => x.2) ((State.freeSess_keeps (SameBut.refl [.sess, .ev, .trigPins] s) (List.Subset.refl _) k) .filter (by decide))

@[simp] theorem State.freeSess_therm (s : State) (k : Sess) :
    (s.freeSess k).therm = s.therm :=
  (State.freeSess_keeps (SameBut.refl [.sess, .ev, .trigPins] s) (List.Subset.refl _) k) .therm (by decide)

@[simp] theorem State.freeSess_cal (s : State) (k : Sess) :
    (s.freeSess k).cal = s.cal :=
  (State.freeSess_keeps (SameBut.refl [.sess, .ev, .trigPins] s) (List.Subset.refl _) k) .cal (by decide)

@[simp] theorem State.freeSess_age (s : State) (k : Sess) :
    (s.freeSess k).age = s.age :=
  (State.freeSess_keeps (SameBut.refl [.sess, .ev, .trigPins] s) (List.Subset.refl _) k) .age (by decide)

@[simp] theorem State.freeSess_free (s : State) (k : Sess) :
    (s.freeSess k).free = s.free :=
  (State.freeSess_keeps (SameBut.refl [.sess, .ev, .trigPins] s) (List.Subset.refl _) k) .free (by decide)

@[simp] theorem State.freeSess_pending (s : State) (k : Sess) :
    (s.freeSess k).pending = s.pending :=
  (State.freeSess_keeps (SameBut.refl [.sess, .ev, .trigPins] s) (List.Subset.refl _) k) .pending (by decide)

@[simp] theorem State.respond_ctl_sysLock (s : State) (k : Sess) (r : Result) (detail : Nat) (data : Bytes) :
    (s.respond k r detail data).ctl.sysLock = s.ctl.sysLock :=
  (State.respond_keeps (SameBut.refl [.sess, .ev, .trigPins] s) (List.Subset.refl _) k r detail data) .lock (by decide)

@[simp] theorem State.respond_ctl_bus (s : State) (k : Sess) (r : Result) (detail : Nat) (data : Bytes) :
    (s.respond k r detail data).ctl.bus = s.ctl.bus :=
  congrArg (fun x => x.1) ((State.respond_keeps (SameBut.refl [.sess, .ev, .trigPins] s) (List.Subset.refl _) k r detail data) .bus (by decide))

@[simp] theorem State.respond_ctl_indSpi (s : State) (k : Sess) (r : Result) (detail : Nat) (data : Bytes) :
    (s.respond k r detail data).ctl.indSpi = s.ctl.indSpi :=
  congrArg (fun x => x.2.1) ((State.respond_keeps (SameBut.refl [.sess, .ev, .trigPins] s) (List.Subset.refl _) k r detail data) .bus (by decide))

@[simp] theorem State.respond_ctl_indSmb (s : State) (k : Sess) (r : Result) (detail : Nat) (data : Bytes) :
    (s.respond k r detail data).ctl.indSmb = s.ctl.indSmb :=
  congrArg (fun x => x.2.2.1) ((State.respond_keeps (SameBut.refl [.sess, .ev, .trigPins] s) (List.Subset.refl _) k r detail data) .bus (by decide))

@[simp] theorem State.respond_ctl_busOut (s : State) (k : Sess) (r : Result) (detail : Nat) (data : Bytes) :
    (s.respond k r detail data).ctl.busOut = s.ctl.busOut :=
  congrArg (fun x => x.2.2.2.1) ((State.respond_keeps (SameBut.refl [.sess, .ev, .trigPins] s) (List.Subset.refl _) k r detail data) .bus (by decide))

@[simp] theorem State.respond_ctl_heldRings (s : State) (k : Sess) (r : Result) (detail : Nat) (data : Bytes) :
    (s.respond k r detail data).ctl.heldRings = s.ctl.heldRings :=
  congrArg (fun x => x.2.2.2.2.1) ((State.respond_keeps (SameBut.refl [.sess, .ev, .trigPins] s) (List.Subset.refl _) k r detail data) .bus (by decide))

@[simp] theorem State.respond_ctl_nextTurn (s : State) (k : Sess) (r : Result) (detail : Nat) (data : Bytes) :
    (s.respond k r detail data).ctl.nextTurn = s.ctl.nextTurn :=
  congrArg (fun x => x.2.2.2.2.2) ((State.respond_keeps (SameBut.refl [.sess, .ev, .trigPins] s) (List.Subset.refl _) k r detail data) .bus (by decide))

@[simp] theorem State.respond_ctl_perf (s : State) (k : Sess) (r : Result) (detail : Nat) (data : Bytes) :
    (s.respond k r detail data).ctl.perf = s.ctl.perf :=
  (State.respond_keeps (SameBut.refl [.sess, .ev, .trigPins] s) (List.Subset.refl _) k r detail data) .perf (by decide)

@[simp] theorem State.respond_ctl_snap (s : State) (k : Sess) (r : Result) (detail : Nat) (data : Bytes) :
    (s.respond k r detail data).ctl.snap = s.ctl.snap :=
  congrArg (fun x => x.1) ((State.respond_keeps (SameBut.refl [.sess, .ev, .trigPins] s) (List.Subset.refl _) k r detail data) .snap (by decide))

@[simp] theorem State.respond_ctl_snapSeq (s : State) (k : Sess) (r : Result) (detail : Nat) (data : Bytes) :
    (s.respond k r detail data).ctl.snapSeq = s.ctl.snapSeq :=
  congrArg (fun x => x.2) ((State.respond_keeps (SameBut.refl [.sess, .ev, .trigPins] s) (List.Subset.refl _) k r detail data) .snap (by decide))

@[simp] theorem State.respond_sys_pins (s : State) (k : Sess) (r : Result) (detail : Nat) (data : Bytes) :
    (s.respond k r detail data).sys.pins = s.sys.pins :=
  (State.respond_keeps (SameBut.refl [.sess, .ev, .trigPins] s) (List.Subset.refl _) k r detail data) .pins (by decide)

@[simp] theorem State.respond_sys_clk (s : State) (k : Sess) (r : Result) (detail : Nat) (data : Bytes) :
    (s.respond k r detail data).sys.clk = s.sys.clk :=
  (State.respond_keeps (SameBut.refl [.sess, .ev, .trigPins] s) (List.Subset.refl _) k r detail data) .clk (by decide)

@[simp] theorem State.respond_sys_core (s : State) (k : Sess) (r : Result) (detail : Nat) (data : Bytes) :
    (s.respond k r detail data).sys.core = s.sys.core :=
  (State.respond_keeps (SameBut.refl [.sess, .ev, .trigPins] s) (List.Subset.refl _) k r detail data) .core (by decide)

@[simp] theorem State.respond_sys_power (s : State) (k : Sess) (r : Result) (detail : Nat) (data : Bytes) :
    (s.respond k r detail data).sys.power = s.sys.power :=
  (State.respond_keeps (SameBut.refl [.sess, .ev, .trigPins] s) (List.Subset.refl _) k r detail data) .power (by decide)

@[simp] theorem State.respond_sys_avs (s : State) (k : Sess) (r : Result) (detail : Nat) (data : Bytes) :
    (s.respond k r detail data).sys.avs = s.sys.avs :=
  (State.respond_keeps (SameBut.refl [.sess, .ev, .trigPins] s) (List.Subset.refl _) k r detail data) .avs (by decide)

@[simp] theorem State.respond_sys_mem (s : State) (k : Sess) (r : Result) (detail : Nat) (data : Bytes) :
    (s.respond k r detail data).sys.mem = s.sys.mem :=
  (State.respond_keeps (SameBut.refl [.sess, .ev, .trigPins] s) (List.Subset.refl _) k r detail data) .mem (by decide)

@[simp] theorem State.respond_sys_fwReady (s : State) (k : Sess) (r : Result) (detail : Nat) (data : Bytes) :
    (s.respond k r detail data).sys.fwReady = s.sys.fwReady :=
  (State.respond_keeps (SameBut.refl [.sess, .ev, .trigPins] s) (List.Subset.refl _) k r detail data) .fwReady (by decide)

@[simp] theorem State.respond_sys_ctlRestart (s : State) (k : Sess) (r : Result) (detail : Nat) (data : Bytes) :
    (s.respond k r detail data).sys.ctlRestart = s.sys.ctlRestart :=
  (State.respond_keeps (SameBut.refl [.sess, .ev, .trigPins] s) (List.Subset.refl _) k r detail data) .ctlRestart (by decide)

@[simp] theorem State.respond_sec_otp (s : State) (k : Sess) (r : Result) (detail : Nat) (data : Bytes) :
    (s.respond k r detail data).sec.otp = s.sec.otp :=
  (State.respond_keeps (SameBut.refl [.sess, .ev, .trigPins] s) (List.Subset.refl _) k r detail data) .otp (by decide)

@[simp] theorem State.respond_sec_made (s : State) (k : Sess) (r : Result) (detail : Nat) (data : Bytes) :
    (s.respond k r detail data).sec.made = s.sec.made :=
  (State.respond_keeps (SameBut.refl [.sess, .ev, .trigPins] s) (List.Subset.refl _) k r detail data) .made (by decide)

@[simp] theorem State.respond_sec_nextIndex (s : State) (k : Sess) (r : Result) (detail : Nat) (data : Bytes) :
    (s.respond k r detail data).sec.nextIndex = s.sec.nextIndex :=
  congrArg (fun x => x.1) ((State.respond_keeps (SameBut.refl [.sess, .ev, .trigPins] s) (List.Subset.refl _) k r detail data) .signing (by decide))

@[simp] theorem State.respond_sec_signReady (s : State) (k : Sess) (r : Result) (detail : Nat) (data : Bytes) :
    (s.respond k r detail data).sec.signReady = s.sec.signReady :=
  congrArg (fun x => x.2.1) ((State.respond_keeps (SameBut.refl [.sess, .ev, .trigPins] s) (List.Subset.refl _) k r detail data) .signing (by decide))

@[simp] theorem State.respond_sec_low1024 (s : State) (k : Sess) (r : Result) (detail : Nat) (data : Bytes) :
    (s.respond k r detail data).sec.low1024 = s.sec.low1024 :=
  congrArg (fun x => x.2.2.1) ((State.respond_keeps (SameBut.refl [.sess, .ev, .trigPins] s) (List.Subset.refl _) k r detail data) .signing (by decide))

@[simp] theorem State.respond_sec_low256 (s : State) (k : Sess) (r : Result) (detail : Nat) (data : Bytes) :
    (s.respond k r detail data).sec.low256 = s.sec.low256 :=
  congrArg (fun x => x.2.2.2) ((State.respond_keeps (SameBut.refl [.sess, .ev, .trigPins] s) (List.Subset.refl _) k r detail data) .signing (by decide))

@[simp] theorem State.respond_sec_test (s : State) (k : Sess) (r : Result) (detail : Nat) (data : Bytes) :
    (s.respond k r detail data).sec.test = s.sec.test :=
  (State.respond_keeps (SameBut.refl [.sess, .ev, .trigPins] s) (List.Subset.refl _) k r detail data) .selfTest (by decide)

@[simp] theorem State.respond_sec_flash (s : State) (k : Sess) (r : Result) (detail : Nat) (data : Bytes) :
    (s.respond k r detail data).sec.flash = s.sec.flash :=
  (State.respond_keeps (SameBut.refl [.sess, .ev, .trigPins] s) (List.Subset.refl _) k r detail data) .flash (by decide)

@[simp] theorem State.respond_sec_img (s : State) (k : Sess) (r : Result) (detail : Nat) (data : Bytes) :
    (s.respond k r detail data).sec.img = s.sec.img :=
  (State.respond_keeps (SameBut.refl [.sess, .ev, .trigPins] s) (List.Subset.refl _) k r detail data) .img (by decide)

@[simp] theorem State.respond_lane (s : State) (k : Sess) (r : Result) (detail : Nat) (data : Bytes) :
    (s.respond k r detail data).lane = s.lane :=
  (State.respond_keeps (SameBut.refl [.sess, .ev, .trigPins] s) (List.Subset.refl _) k r detail data) .lane (by decide)

@[simp] theorem State.respond_rx (s : State) (k : Sess) (r : Result) (detail : Nat) (data : Bytes) :
    (s.respond k r detail data).rx = s.rx :=
  (State.respond_keeps (SameBut.refl [.sess, .ev, .trigPins] s) (List.Subset.refl _) k r detail data) .rx (by decide)

@[simp] theorem State.respond_acq (s : State) (k : Sess) (r : Result) (detail : Nat) (data : Bytes) :
    (s.respond k r detail data).acq = s.acq :=
  (State.respond_keeps (SameBut.refl [.sess, .ev, .trigPins] s) (List.Subset.refl _) k r detail data) .acq (by decide)

@[simp] theorem State.respond_dec (s : State) (k : Sess) (r : Result) (detail : Nat) (data : Bytes) :
    (s.respond k r detail data).dec = s.dec :=
  (State.respond_keeps (SameBut.refl [.sess, .ev, .trigPins] s) (List.Subset.refl _) k r detail data) .dec (by decide)

@[simp] theorem State.respond_tx (s : State) (k : Sess) (r : Result) (detail : Nat) (data : Bytes) :
    (s.respond k r detail data).tx = s.tx :=
  (State.respond_keeps (SameBut.refl [.sess, .ev, .trigPins] s) (List.Subset.refl _) k r detail data) .tx (by decide)

@[simp] theorem State.respond_work (s : State) (k : Sess) (r : Result) (detail : Nat) (data : Bytes) :
    (s.respond k r detail data).work = s.work :=
  (State.respond_keeps (SameBut.refl [.sess, .ev, .trigPins] s) (List.Subset.refl _) k r detail data) .work (by decide)

@[simp] theorem State.respond_gallery (s : State) (k : Sess) (r : Result) (detail : Nat) (data : Bytes) :
    (s.respond k r detail data).gallery = s.gallery :=
  (State.respond_keeps (SameBut.refl [.sess, .ev, .trigPins] s) (List.Subset.refl _) k r detail data) .gallery (by decide)

@[simp] theorem State.respond_epoch (s : State) (k : Sess) (r : Result) (detail : Nat) (data : Bytes) :
    (s.respond k r detail data).epoch = s.epoch :=
  (State.respond_keeps (SameBut.refl [.sess, .ev, .trigPins] s) (List.Subset.refl _) k r detail data) .epoch (by decide)

@[simp] theorem State.respond_group (s : State) (k : Sess) (r : Result) (detail : Nat) (data : Bytes) :
    (s.respond k r detail data).group = s.group :=
  (State.respond_keeps (SameBut.refl [.sess, .ev, .trigPins] s) (List.Subset.refl _) k r detail data) .group (by decide)

@[simp] theorem State.respond_photon_bias (s : State) (k : Sess) (r : Result) (detail : Nat) (data : Bytes) :
    (s.respond k r detail data).photon.bias = s.photon.bias :=
  congrArg (fun x => x.1) ((State.respond_keeps (SameBut.refl [.sess, .ev, .trigPins] s) (List.Subset.refl _) k r detail data) .bias (by decide))

@[simp] theorem State.respond_photon_aggLimit (s : State) (k : Sess) (r : Result) (detail : Nat) (data : Bytes) :
    (s.respond k r detail data).photon.aggLimit = s.photon.aggLimit :=
  congrArg (fun x => x.2) ((State.respond_keeps (SameBut.refl [.sess, .ev, .trigPins] s) (List.Subset.refl _) k r detail data) .bias (by decide))

@[simp] theorem State.respond_photon_mon (s : State) (k : Sess) (r : Result) (detail : Nat) (data : Bytes) :
    (s.respond k r detail data).photon.mon = s.photon.mon :=
  congrArg (fun x => x.1) ((State.respond_keeps (SameBut.refl [.sess, .ev, .trigPins] s) (List.Subset.refl _) k r detail data) .mon (by decide))

@[simp] theorem State.respond_photon_lastConv (s : State) (k : Sess) (r : Result) (detail : Nat) (data : Bytes) :
    (s.respond k r detail data).photon.lastConv = s.photon.lastConv :=
  congrArg (fun x => x.2) ((State.respond_keeps (SameBut.refl [.sess, .ev, .trigPins] s) (List.Subset.refl _) k r detail data) .mon (by decide))

@[simp] theorem State.respond_photon_filter (s : State) (k : Sess) (r : Result) (detail : Nat) (data : Bytes) :
    (s.respond k r detail data).photon.filter = s.photon.filter :=
  congrArg (fun x => x.1) ((State.respond_keeps (SameBut.refl [.sess, .ev, .trigPins] s) (List.Subset.refl _) k r detail data) .filter (by decide))

@[simp] theorem State.respond_photon_banks (s : State) (k : Sess) (r : Result) (detail : Nat) (data : Bytes) :
    (s.respond k r detail data).photon.banks = s.photon.banks :=
  congrArg (fun x => x.2) ((State.respond_keeps (SameBut.refl [.sess, .ev, .trigPins] s) (List.Subset.refl _) k r detail data) .filter (by decide))

@[simp] theorem State.respond_therm (s : State) (k : Sess) (r : Result) (detail : Nat) (data : Bytes) :
    (s.respond k r detail data).therm = s.therm :=
  (State.respond_keeps (SameBut.refl [.sess, .ev, .trigPins] s) (List.Subset.refl _) k r detail data) .therm (by decide)

@[simp] theorem State.respond_cal (s : State) (k : Sess) (r : Result) (detail : Nat) (data : Bytes) :
    (s.respond k r detail data).cal = s.cal :=
  (State.respond_keeps (SameBut.refl [.sess, .ev, .trigPins] s) (List.Subset.refl _) k r detail data) .cal (by decide)

@[simp] theorem State.respond_age (s : State) (k : Sess) (r : Result) (detail : Nat) (data : Bytes) :
    (s.respond k r detail data).age = s.age :=
  (State.respond_keeps (SameBut.refl [.sess, .ev, .trigPins] s) (List.Subset.refl _) k r detail data) .age (by decide)

@[simp] theorem State.respond_free (s : State) (k : Sess) (r : Result) (detail : Nat) (data : Bytes) :
    (s.respond k r detail data).free = s.free :=
  (State.respond_keeps (SameBut.refl [.sess, .ev, .trigPins] s) (List.Subset.refl _) k r detail data) .free (by decide)

@[simp] theorem State.respond_pending (s : State) (k : Sess) (r : Result) (detail : Nat) (data : Bytes) :
    (s.respond k r detail data).pending = s.pending :=
  (State.respond_keeps (SameBut.refl [.sess, .ev, .trigPins] s) (List.Subset.refl _) k r detail data) .pending (by decide)

@[simp] theorem State.answer_ctl_sysLock (s : State) (k : Sess) (code : Nat) (r : Result) (detail : Nat) (data : Bytes) :
    (s.answer k code r detail data).ctl.sysLock = s.ctl.sysLock :=
  (State.answer_keeps (SameBut.refl [.sess, .ev, .trigPins] s) (List.Subset.refl _) k code r detail data) .lock (by decide)

@[simp] theorem State.answer_ctl_bus (s : State) (k : Sess) (code : Nat) (r : Result) (detail : Nat) (data : Bytes) :
    (s.answer k code r detail data).ctl.bus = s.ctl.bus :=
  congrArg (fun x => x.1) ((State.answer_keeps (SameBut.refl [.sess, .ev, .trigPins] s) (List.Subset.refl _) k code r detail data) .bus (by decide))

@[simp] theorem State.answer_ctl_indSpi (s : State) (k : Sess) (code : Nat) (r : Result) (detail : Nat) (data : Bytes) :
    (s.answer k code r detail data).ctl.indSpi = s.ctl.indSpi :=
  congrArg (fun x => x.2.1) ((State.answer_keeps (SameBut.refl [.sess, .ev, .trigPins] s) (List.Subset.refl _) k code r detail data) .bus (by decide))

@[simp] theorem State.answer_ctl_indSmb (s : State) (k : Sess) (code : Nat) (r : Result) (detail : Nat) (data : Bytes) :
    (s.answer k code r detail data).ctl.indSmb = s.ctl.indSmb :=
  congrArg (fun x => x.2.2.1) ((State.answer_keeps (SameBut.refl [.sess, .ev, .trigPins] s) (List.Subset.refl _) k code r detail data) .bus (by decide))

@[simp] theorem State.answer_ctl_busOut (s : State) (k : Sess) (code : Nat) (r : Result) (detail : Nat) (data : Bytes) :
    (s.answer k code r detail data).ctl.busOut = s.ctl.busOut :=
  congrArg (fun x => x.2.2.2.1) ((State.answer_keeps (SameBut.refl [.sess, .ev, .trigPins] s) (List.Subset.refl _) k code r detail data) .bus (by decide))

@[simp] theorem State.answer_ctl_heldRings (s : State) (k : Sess) (code : Nat) (r : Result) (detail : Nat) (data : Bytes) :
    (s.answer k code r detail data).ctl.heldRings = s.ctl.heldRings :=
  congrArg (fun x => x.2.2.2.2.1) ((State.answer_keeps (SameBut.refl [.sess, .ev, .trigPins] s) (List.Subset.refl _) k code r detail data) .bus (by decide))

@[simp] theorem State.answer_ctl_nextTurn (s : State) (k : Sess) (code : Nat) (r : Result) (detail : Nat) (data : Bytes) :
    (s.answer k code r detail data).ctl.nextTurn = s.ctl.nextTurn :=
  congrArg (fun x => x.2.2.2.2.2) ((State.answer_keeps (SameBut.refl [.sess, .ev, .trigPins] s) (List.Subset.refl _) k code r detail data) .bus (by decide))

@[simp] theorem State.answer_ctl_perf (s : State) (k : Sess) (code : Nat) (r : Result) (detail : Nat) (data : Bytes) :
    (s.answer k code r detail data).ctl.perf = s.ctl.perf :=
  (State.answer_keeps (SameBut.refl [.sess, .ev, .trigPins] s) (List.Subset.refl _) k code r detail data) .perf (by decide)

@[simp] theorem State.answer_ctl_snap (s : State) (k : Sess) (code : Nat) (r : Result) (detail : Nat) (data : Bytes) :
    (s.answer k code r detail data).ctl.snap = s.ctl.snap :=
  congrArg (fun x => x.1) ((State.answer_keeps (SameBut.refl [.sess, .ev, .trigPins] s) (List.Subset.refl _) k code r detail data) .snap (by decide))

@[simp] theorem State.answer_ctl_snapSeq (s : State) (k : Sess) (code : Nat) (r : Result) (detail : Nat) (data : Bytes) :
    (s.answer k code r detail data).ctl.snapSeq = s.ctl.snapSeq :=
  congrArg (fun x => x.2) ((State.answer_keeps (SameBut.refl [.sess, .ev, .trigPins] s) (List.Subset.refl _) k code r detail data) .snap (by decide))

@[simp] theorem State.answer_sys_pins (s : State) (k : Sess) (code : Nat) (r : Result) (detail : Nat) (data : Bytes) :
    (s.answer k code r detail data).sys.pins = s.sys.pins :=
  (State.answer_keeps (SameBut.refl [.sess, .ev, .trigPins] s) (List.Subset.refl _) k code r detail data) .pins (by decide)

@[simp] theorem State.answer_sys_clk (s : State) (k : Sess) (code : Nat) (r : Result) (detail : Nat) (data : Bytes) :
    (s.answer k code r detail data).sys.clk = s.sys.clk :=
  (State.answer_keeps (SameBut.refl [.sess, .ev, .trigPins] s) (List.Subset.refl _) k code r detail data) .clk (by decide)

@[simp] theorem State.answer_sys_core (s : State) (k : Sess) (code : Nat) (r : Result) (detail : Nat) (data : Bytes) :
    (s.answer k code r detail data).sys.core = s.sys.core :=
  (State.answer_keeps (SameBut.refl [.sess, .ev, .trigPins] s) (List.Subset.refl _) k code r detail data) .core (by decide)

@[simp] theorem State.answer_sys_power (s : State) (k : Sess) (code : Nat) (r : Result) (detail : Nat) (data : Bytes) :
    (s.answer k code r detail data).sys.power = s.sys.power :=
  (State.answer_keeps (SameBut.refl [.sess, .ev, .trigPins] s) (List.Subset.refl _) k code r detail data) .power (by decide)

@[simp] theorem State.answer_sys_avs (s : State) (k : Sess) (code : Nat) (r : Result) (detail : Nat) (data : Bytes) :
    (s.answer k code r detail data).sys.avs = s.sys.avs :=
  (State.answer_keeps (SameBut.refl [.sess, .ev, .trigPins] s) (List.Subset.refl _) k code r detail data) .avs (by decide)

@[simp] theorem State.answer_sys_mem (s : State) (k : Sess) (code : Nat) (r : Result) (detail : Nat) (data : Bytes) :
    (s.answer k code r detail data).sys.mem = s.sys.mem :=
  (State.answer_keeps (SameBut.refl [.sess, .ev, .trigPins] s) (List.Subset.refl _) k code r detail data) .mem (by decide)

@[simp] theorem State.answer_sys_fwReady (s : State) (k : Sess) (code : Nat) (r : Result) (detail : Nat) (data : Bytes) :
    (s.answer k code r detail data).sys.fwReady = s.sys.fwReady :=
  (State.answer_keeps (SameBut.refl [.sess, .ev, .trigPins] s) (List.Subset.refl _) k code r detail data) .fwReady (by decide)

@[simp] theorem State.answer_sys_ctlRestart (s : State) (k : Sess) (code : Nat) (r : Result) (detail : Nat) (data : Bytes) :
    (s.answer k code r detail data).sys.ctlRestart = s.sys.ctlRestart :=
  (State.answer_keeps (SameBut.refl [.sess, .ev, .trigPins] s) (List.Subset.refl _) k code r detail data) .ctlRestart (by decide)

@[simp] theorem State.answer_sec_otp (s : State) (k : Sess) (code : Nat) (r : Result) (detail : Nat) (data : Bytes) :
    (s.answer k code r detail data).sec.otp = s.sec.otp :=
  (State.answer_keeps (SameBut.refl [.sess, .ev, .trigPins] s) (List.Subset.refl _) k code r detail data) .otp (by decide)

@[simp] theorem State.answer_sec_made (s : State) (k : Sess) (code : Nat) (r : Result) (detail : Nat) (data : Bytes) :
    (s.answer k code r detail data).sec.made = s.sec.made :=
  (State.answer_keeps (SameBut.refl [.sess, .ev, .trigPins] s) (List.Subset.refl _) k code r detail data) .made (by decide)

@[simp] theorem State.answer_sec_nextIndex (s : State) (k : Sess) (code : Nat) (r : Result) (detail : Nat) (data : Bytes) :
    (s.answer k code r detail data).sec.nextIndex = s.sec.nextIndex :=
  congrArg (fun x => x.1) ((State.answer_keeps (SameBut.refl [.sess, .ev, .trigPins] s) (List.Subset.refl _) k code r detail data) .signing (by decide))

@[simp] theorem State.answer_sec_signReady (s : State) (k : Sess) (code : Nat) (r : Result) (detail : Nat) (data : Bytes) :
    (s.answer k code r detail data).sec.signReady = s.sec.signReady :=
  congrArg (fun x => x.2.1) ((State.answer_keeps (SameBut.refl [.sess, .ev, .trigPins] s) (List.Subset.refl _) k code r detail data) .signing (by decide))

@[simp] theorem State.answer_sec_low1024 (s : State) (k : Sess) (code : Nat) (r : Result) (detail : Nat) (data : Bytes) :
    (s.answer k code r detail data).sec.low1024 = s.sec.low1024 :=
  congrArg (fun x => x.2.2.1) ((State.answer_keeps (SameBut.refl [.sess, .ev, .trigPins] s) (List.Subset.refl _) k code r detail data) .signing (by decide))

@[simp] theorem State.answer_sec_low256 (s : State) (k : Sess) (code : Nat) (r : Result) (detail : Nat) (data : Bytes) :
    (s.answer k code r detail data).sec.low256 = s.sec.low256 :=
  congrArg (fun x => x.2.2.2) ((State.answer_keeps (SameBut.refl [.sess, .ev, .trigPins] s) (List.Subset.refl _) k code r detail data) .signing (by decide))

@[simp] theorem State.answer_sec_test (s : State) (k : Sess) (code : Nat) (r : Result) (detail : Nat) (data : Bytes) :
    (s.answer k code r detail data).sec.test = s.sec.test :=
  (State.answer_keeps (SameBut.refl [.sess, .ev, .trigPins] s) (List.Subset.refl _) k code r detail data) .selfTest (by decide)

@[simp] theorem State.answer_sec_flash (s : State) (k : Sess) (code : Nat) (r : Result) (detail : Nat) (data : Bytes) :
    (s.answer k code r detail data).sec.flash = s.sec.flash :=
  (State.answer_keeps (SameBut.refl [.sess, .ev, .trigPins] s) (List.Subset.refl _) k code r detail data) .flash (by decide)

@[simp] theorem State.answer_sec_img (s : State) (k : Sess) (code : Nat) (r : Result) (detail : Nat) (data : Bytes) :
    (s.answer k code r detail data).sec.img = s.sec.img :=
  (State.answer_keeps (SameBut.refl [.sess, .ev, .trigPins] s) (List.Subset.refl _) k code r detail data) .img (by decide)

@[simp] theorem State.answer_lane (s : State) (k : Sess) (code : Nat) (r : Result) (detail : Nat) (data : Bytes) :
    (s.answer k code r detail data).lane = s.lane :=
  (State.answer_keeps (SameBut.refl [.sess, .ev, .trigPins] s) (List.Subset.refl _) k code r detail data) .lane (by decide)

@[simp] theorem State.answer_rx (s : State) (k : Sess) (code : Nat) (r : Result) (detail : Nat) (data : Bytes) :
    (s.answer k code r detail data).rx = s.rx :=
  (State.answer_keeps (SameBut.refl [.sess, .ev, .trigPins] s) (List.Subset.refl _) k code r detail data) .rx (by decide)

@[simp] theorem State.answer_acq (s : State) (k : Sess) (code : Nat) (r : Result) (detail : Nat) (data : Bytes) :
    (s.answer k code r detail data).acq = s.acq :=
  (State.answer_keeps (SameBut.refl [.sess, .ev, .trigPins] s) (List.Subset.refl _) k code r detail data) .acq (by decide)

@[simp] theorem State.answer_dec (s : State) (k : Sess) (code : Nat) (r : Result) (detail : Nat) (data : Bytes) :
    (s.answer k code r detail data).dec = s.dec :=
  (State.answer_keeps (SameBut.refl [.sess, .ev, .trigPins] s) (List.Subset.refl _) k code r detail data) .dec (by decide)

@[simp] theorem State.answer_tx (s : State) (k : Sess) (code : Nat) (r : Result) (detail : Nat) (data : Bytes) :
    (s.answer k code r detail data).tx = s.tx :=
  (State.answer_keeps (SameBut.refl [.sess, .ev, .trigPins] s) (List.Subset.refl _) k code r detail data) .tx (by decide)

@[simp] theorem State.answer_work (s : State) (k : Sess) (code : Nat) (r : Result) (detail : Nat) (data : Bytes) :
    (s.answer k code r detail data).work = s.work :=
  (State.answer_keeps (SameBut.refl [.sess, .ev, .trigPins] s) (List.Subset.refl _) k code r detail data) .work (by decide)

@[simp] theorem State.answer_gallery (s : State) (k : Sess) (code : Nat) (r : Result) (detail : Nat) (data : Bytes) :
    (s.answer k code r detail data).gallery = s.gallery :=
  (State.answer_keeps (SameBut.refl [.sess, .ev, .trigPins] s) (List.Subset.refl _) k code r detail data) .gallery (by decide)

@[simp] theorem State.answer_epoch (s : State) (k : Sess) (code : Nat) (r : Result) (detail : Nat) (data : Bytes) :
    (s.answer k code r detail data).epoch = s.epoch :=
  (State.answer_keeps (SameBut.refl [.sess, .ev, .trigPins] s) (List.Subset.refl _) k code r detail data) .epoch (by decide)

@[simp] theorem State.answer_group (s : State) (k : Sess) (code : Nat) (r : Result) (detail : Nat) (data : Bytes) :
    (s.answer k code r detail data).group = s.group :=
  (State.answer_keeps (SameBut.refl [.sess, .ev, .trigPins] s) (List.Subset.refl _) k code r detail data) .group (by decide)

@[simp] theorem State.answer_photon_bias (s : State) (k : Sess) (code : Nat) (r : Result) (detail : Nat) (data : Bytes) :
    (s.answer k code r detail data).photon.bias = s.photon.bias :=
  congrArg (fun x => x.1) ((State.answer_keeps (SameBut.refl [.sess, .ev, .trigPins] s) (List.Subset.refl _) k code r detail data) .bias (by decide))

@[simp] theorem State.answer_photon_aggLimit (s : State) (k : Sess) (code : Nat) (r : Result) (detail : Nat) (data : Bytes) :
    (s.answer k code r detail data).photon.aggLimit = s.photon.aggLimit :=
  congrArg (fun x => x.2) ((State.answer_keeps (SameBut.refl [.sess, .ev, .trigPins] s) (List.Subset.refl _) k code r detail data) .bias (by decide))

@[simp] theorem State.answer_photon_mon (s : State) (k : Sess) (code : Nat) (r : Result) (detail : Nat) (data : Bytes) :
    (s.answer k code r detail data).photon.mon = s.photon.mon :=
  congrArg (fun x => x.1) ((State.answer_keeps (SameBut.refl [.sess, .ev, .trigPins] s) (List.Subset.refl _) k code r detail data) .mon (by decide))

@[simp] theorem State.answer_photon_lastConv (s : State) (k : Sess) (code : Nat) (r : Result) (detail : Nat) (data : Bytes) :
    (s.answer k code r detail data).photon.lastConv = s.photon.lastConv :=
  congrArg (fun x => x.2) ((State.answer_keeps (SameBut.refl [.sess, .ev, .trigPins] s) (List.Subset.refl _) k code r detail data) .mon (by decide))

@[simp] theorem State.answer_photon_filter (s : State) (k : Sess) (code : Nat) (r : Result) (detail : Nat) (data : Bytes) :
    (s.answer k code r detail data).photon.filter = s.photon.filter :=
  congrArg (fun x => x.1) ((State.answer_keeps (SameBut.refl [.sess, .ev, .trigPins] s) (List.Subset.refl _) k code r detail data) .filter (by decide))

@[simp] theorem State.answer_photon_banks (s : State) (k : Sess) (code : Nat) (r : Result) (detail : Nat) (data : Bytes) :
    (s.answer k code r detail data).photon.banks = s.photon.banks :=
  congrArg (fun x => x.2) ((State.answer_keeps (SameBut.refl [.sess, .ev, .trigPins] s) (List.Subset.refl _) k code r detail data) .filter (by decide))

@[simp] theorem State.answer_therm (s : State) (k : Sess) (code : Nat) (r : Result) (detail : Nat) (data : Bytes) :
    (s.answer k code r detail data).therm = s.therm :=
  (State.answer_keeps (SameBut.refl [.sess, .ev, .trigPins] s) (List.Subset.refl _) k code r detail data) .therm (by decide)

@[simp] theorem State.answer_cal (s : State) (k : Sess) (code : Nat) (r : Result) (detail : Nat) (data : Bytes) :
    (s.answer k code r detail data).cal = s.cal :=
  (State.answer_keeps (SameBut.refl [.sess, .ev, .trigPins] s) (List.Subset.refl _) k code r detail data) .cal (by decide)

@[simp] theorem State.answer_age (s : State) (k : Sess) (code : Nat) (r : Result) (detail : Nat) (data : Bytes) :
    (s.answer k code r detail data).age = s.age :=
  (State.answer_keeps (SameBut.refl [.sess, .ev, .trigPins] s) (List.Subset.refl _) k code r detail data) .age (by decide)

@[simp] theorem State.answer_free (s : State) (k : Sess) (code : Nat) (r : Result) (detail : Nat) (data : Bytes) :
    (s.answer k code r detail data).free = s.free :=
  (State.answer_keeps (SameBut.refl [.sess, .ev, .trigPins] s) (List.Subset.refl _) k code r detail data) .free (by decide)

@[simp] theorem State.answer_pending (s : State) (k : Sess) (code : Nat) (r : Result) (detail : Nat) (data : Bytes) :
    (s.answer k code r detail data).pending = s.pending :=
  (State.answer_keeps (SameBut.refl [.sess, .ev, .trigPins] s) (List.Subset.refl _) k code r detail data) .pending (by decide)

@[simp] theorem State.answerOpt_ctl_sysLock (s : State) (k : Option Sess) (code : Nat) (r : Result) (detail : Nat) (data : Bytes) :
    (s.answerOpt k code r detail data).ctl.sysLock = s.ctl.sysLock :=
  (State.answerOpt_keeps (SameBut.refl [.sess, .ev, .trigPins] s) (List.Subset.refl _) k code r detail data) .lock (by decide)

@[simp] theorem State.answerOpt_ctl_bus (s : State) (k : Option Sess) (code : Nat) (r : Result) (detail : Nat) (data : Bytes) :
    (s.answerOpt k code r detail data).ctl.bus = s.ctl.bus :=
  congrArg (fun x => x.1) ((State.answerOpt_keeps (SameBut.refl [.sess, .ev, .trigPins] s) (List.Subset.refl _) k code r detail data) .bus (by decide))

@[simp] theorem State.answerOpt_ctl_indSpi (s : State) (k : Option Sess) (code : Nat) (r : Result) (detail : Nat) (data : Bytes) :
    (s.answerOpt k code r detail data).ctl.indSpi = s.ctl.indSpi :=
  congrArg (fun x => x.2.1) ((State.answerOpt_keeps (SameBut.refl [.sess, .ev, .trigPins] s) (List.Subset.refl _) k code r detail data) .bus (by decide))

@[simp] theorem State.answerOpt_ctl_indSmb (s : State) (k : Option Sess) (code : Nat) (r : Result) (detail : Nat) (data : Bytes) :
    (s.answerOpt k code r detail data).ctl.indSmb = s.ctl.indSmb :=
  congrArg (fun x => x.2.2.1) ((State.answerOpt_keeps (SameBut.refl [.sess, .ev, .trigPins] s) (List.Subset.refl _) k code r detail data) .bus (by decide))

@[simp] theorem State.answerOpt_ctl_busOut (s : State) (k : Option Sess) (code : Nat) (r : Result) (detail : Nat) (data : Bytes) :
    (s.answerOpt k code r detail data).ctl.busOut = s.ctl.busOut :=
  congrArg (fun x => x.2.2.2.1) ((State.answerOpt_keeps (SameBut.refl [.sess, .ev, .trigPins] s) (List.Subset.refl _) k code r detail data) .bus (by decide))

@[simp] theorem State.answerOpt_ctl_heldRings (s : State) (k : Option Sess) (code : Nat) (r : Result) (detail : Nat) (data : Bytes) :
    (s.answerOpt k code r detail data).ctl.heldRings = s.ctl.heldRings :=
  congrArg (fun x => x.2.2.2.2.1) ((State.answerOpt_keeps (SameBut.refl [.sess, .ev, .trigPins] s) (List.Subset.refl _) k code r detail data) .bus (by decide))

@[simp] theorem State.answerOpt_ctl_nextTurn (s : State) (k : Option Sess) (code : Nat) (r : Result) (detail : Nat) (data : Bytes) :
    (s.answerOpt k code r detail data).ctl.nextTurn = s.ctl.nextTurn :=
  congrArg (fun x => x.2.2.2.2.2) ((State.answerOpt_keeps (SameBut.refl [.sess, .ev, .trigPins] s) (List.Subset.refl _) k code r detail data) .bus (by decide))

@[simp] theorem State.answerOpt_ctl_perf (s : State) (k : Option Sess) (code : Nat) (r : Result) (detail : Nat) (data : Bytes) :
    (s.answerOpt k code r detail data).ctl.perf = s.ctl.perf :=
  (State.answerOpt_keeps (SameBut.refl [.sess, .ev, .trigPins] s) (List.Subset.refl _) k code r detail data) .perf (by decide)

@[simp] theorem State.answerOpt_ctl_snap (s : State) (k : Option Sess) (code : Nat) (r : Result) (detail : Nat) (data : Bytes) :
    (s.answerOpt k code r detail data).ctl.snap = s.ctl.snap :=
  congrArg (fun x => x.1) ((State.answerOpt_keeps (SameBut.refl [.sess, .ev, .trigPins] s) (List.Subset.refl _) k code r detail data) .snap (by decide))

@[simp] theorem State.answerOpt_ctl_snapSeq (s : State) (k : Option Sess) (code : Nat) (r : Result) (detail : Nat) (data : Bytes) :
    (s.answerOpt k code r detail data).ctl.snapSeq = s.ctl.snapSeq :=
  congrArg (fun x => x.2) ((State.answerOpt_keeps (SameBut.refl [.sess, .ev, .trigPins] s) (List.Subset.refl _) k code r detail data) .snap (by decide))

@[simp] theorem State.answerOpt_sys_pins (s : State) (k : Option Sess) (code : Nat) (r : Result) (detail : Nat) (data : Bytes) :
    (s.answerOpt k code r detail data).sys.pins = s.sys.pins :=
  (State.answerOpt_keeps (SameBut.refl [.sess, .ev, .trigPins] s) (List.Subset.refl _) k code r detail data) .pins (by decide)

@[simp] theorem State.answerOpt_sys_clk (s : State) (k : Option Sess) (code : Nat) (r : Result) (detail : Nat) (data : Bytes) :
    (s.answerOpt k code r detail data).sys.clk = s.sys.clk :=
  (State.answerOpt_keeps (SameBut.refl [.sess, .ev, .trigPins] s) (List.Subset.refl _) k code r detail data) .clk (by decide)

@[simp] theorem State.answerOpt_sys_core (s : State) (k : Option Sess) (code : Nat) (r : Result) (detail : Nat) (data : Bytes) :
    (s.answerOpt k code r detail data).sys.core = s.sys.core :=
  (State.answerOpt_keeps (SameBut.refl [.sess, .ev, .trigPins] s) (List.Subset.refl _) k code r detail data) .core (by decide)

@[simp] theorem State.answerOpt_sys_power (s : State) (k : Option Sess) (code : Nat) (r : Result) (detail : Nat) (data : Bytes) :
    (s.answerOpt k code r detail data).sys.power = s.sys.power :=
  (State.answerOpt_keeps (SameBut.refl [.sess, .ev, .trigPins] s) (List.Subset.refl _) k code r detail data) .power (by decide)

@[simp] theorem State.answerOpt_sys_avs (s : State) (k : Option Sess) (code : Nat) (r : Result) (detail : Nat) (data : Bytes) :
    (s.answerOpt k code r detail data).sys.avs = s.sys.avs :=
  (State.answerOpt_keeps (SameBut.refl [.sess, .ev, .trigPins] s) (List.Subset.refl _) k code r detail data) .avs (by decide)

@[simp] theorem State.answerOpt_sys_mem (s : State) (k : Option Sess) (code : Nat) (r : Result) (detail : Nat) (data : Bytes) :
    (s.answerOpt k code r detail data).sys.mem = s.sys.mem :=
  (State.answerOpt_keeps (SameBut.refl [.sess, .ev, .trigPins] s) (List.Subset.refl _) k code r detail data) .mem (by decide)

@[simp] theorem State.answerOpt_sys_fwReady (s : State) (k : Option Sess) (code : Nat) (r : Result) (detail : Nat) (data : Bytes) :
    (s.answerOpt k code r detail data).sys.fwReady = s.sys.fwReady :=
  (State.answerOpt_keeps (SameBut.refl [.sess, .ev, .trigPins] s) (List.Subset.refl _) k code r detail data) .fwReady (by decide)

@[simp] theorem State.answerOpt_sys_ctlRestart (s : State) (k : Option Sess) (code : Nat) (r : Result) (detail : Nat) (data : Bytes) :
    (s.answerOpt k code r detail data).sys.ctlRestart = s.sys.ctlRestart :=
  (State.answerOpt_keeps (SameBut.refl [.sess, .ev, .trigPins] s) (List.Subset.refl _) k code r detail data) .ctlRestart (by decide)

@[simp] theorem State.answerOpt_sec_otp (s : State) (k : Option Sess) (code : Nat) (r : Result) (detail : Nat) (data : Bytes) :
    (s.answerOpt k code r detail data).sec.otp = s.sec.otp :=
  (State.answerOpt_keeps (SameBut.refl [.sess, .ev, .trigPins] s) (List.Subset.refl _) k code r detail data) .otp (by decide)

@[simp] theorem State.answerOpt_sec_made (s : State) (k : Option Sess) (code : Nat) (r : Result) (detail : Nat) (data : Bytes) :
    (s.answerOpt k code r detail data).sec.made = s.sec.made :=
  (State.answerOpt_keeps (SameBut.refl [.sess, .ev, .trigPins] s) (List.Subset.refl _) k code r detail data) .made (by decide)

@[simp] theorem State.answerOpt_sec_nextIndex (s : State) (k : Option Sess) (code : Nat) (r : Result) (detail : Nat) (data : Bytes) :
    (s.answerOpt k code r detail data).sec.nextIndex = s.sec.nextIndex :=
  congrArg (fun x => x.1) ((State.answerOpt_keeps (SameBut.refl [.sess, .ev, .trigPins] s) (List.Subset.refl _) k code r detail data) .signing (by decide))

@[simp] theorem State.answerOpt_sec_signReady (s : State) (k : Option Sess) (code : Nat) (r : Result) (detail : Nat) (data : Bytes) :
    (s.answerOpt k code r detail data).sec.signReady = s.sec.signReady :=
  congrArg (fun x => x.2.1) ((State.answerOpt_keeps (SameBut.refl [.sess, .ev, .trigPins] s) (List.Subset.refl _) k code r detail data) .signing (by decide))

@[simp] theorem State.answerOpt_sec_low1024 (s : State) (k : Option Sess) (code : Nat) (r : Result) (detail : Nat) (data : Bytes) :
    (s.answerOpt k code r detail data).sec.low1024 = s.sec.low1024 :=
  congrArg (fun x => x.2.2.1) ((State.answerOpt_keeps (SameBut.refl [.sess, .ev, .trigPins] s) (List.Subset.refl _) k code r detail data) .signing (by decide))

@[simp] theorem State.answerOpt_sec_low256 (s : State) (k : Option Sess) (code : Nat) (r : Result) (detail : Nat) (data : Bytes) :
    (s.answerOpt k code r detail data).sec.low256 = s.sec.low256 :=
  congrArg (fun x => x.2.2.2) ((State.answerOpt_keeps (SameBut.refl [.sess, .ev, .trigPins] s) (List.Subset.refl _) k code r detail data) .signing (by decide))

@[simp] theorem State.answerOpt_sec_test (s : State) (k : Option Sess) (code : Nat) (r : Result) (detail : Nat) (data : Bytes) :
    (s.answerOpt k code r detail data).sec.test = s.sec.test :=
  (State.answerOpt_keeps (SameBut.refl [.sess, .ev, .trigPins] s) (List.Subset.refl _) k code r detail data) .selfTest (by decide)

@[simp] theorem State.answerOpt_sec_flash (s : State) (k : Option Sess) (code : Nat) (r : Result) (detail : Nat) (data : Bytes) :
    (s.answerOpt k code r detail data).sec.flash = s.sec.flash :=
  (State.answerOpt_keeps (SameBut.refl [.sess, .ev, .trigPins] s) (List.Subset.refl _) k code r detail data) .flash (by decide)

@[simp] theorem State.answerOpt_sec_img (s : State) (k : Option Sess) (code : Nat) (r : Result) (detail : Nat) (data : Bytes) :
    (s.answerOpt k code r detail data).sec.img = s.sec.img :=
  (State.answerOpt_keeps (SameBut.refl [.sess, .ev, .trigPins] s) (List.Subset.refl _) k code r detail data) .img (by decide)

@[simp] theorem State.answerOpt_lane (s : State) (k : Option Sess) (code : Nat) (r : Result) (detail : Nat) (data : Bytes) :
    (s.answerOpt k code r detail data).lane = s.lane :=
  (State.answerOpt_keeps (SameBut.refl [.sess, .ev, .trigPins] s) (List.Subset.refl _) k code r detail data) .lane (by decide)

@[simp] theorem State.answerOpt_rx (s : State) (k : Option Sess) (code : Nat) (r : Result) (detail : Nat) (data : Bytes) :
    (s.answerOpt k code r detail data).rx = s.rx :=
  (State.answerOpt_keeps (SameBut.refl [.sess, .ev, .trigPins] s) (List.Subset.refl _) k code r detail data) .rx (by decide)

@[simp] theorem State.answerOpt_acq (s : State) (k : Option Sess) (code : Nat) (r : Result) (detail : Nat) (data : Bytes) :
    (s.answerOpt k code r detail data).acq = s.acq :=
  (State.answerOpt_keeps (SameBut.refl [.sess, .ev, .trigPins] s) (List.Subset.refl _) k code r detail data) .acq (by decide)

@[simp] theorem State.answerOpt_dec (s : State) (k : Option Sess) (code : Nat) (r : Result) (detail : Nat) (data : Bytes) :
    (s.answerOpt k code r detail data).dec = s.dec :=
  (State.answerOpt_keeps (SameBut.refl [.sess, .ev, .trigPins] s) (List.Subset.refl _) k code r detail data) .dec (by decide)

@[simp] theorem State.answerOpt_tx (s : State) (k : Option Sess) (code : Nat) (r : Result) (detail : Nat) (data : Bytes) :
    (s.answerOpt k code r detail data).tx = s.tx :=
  (State.answerOpt_keeps (SameBut.refl [.sess, .ev, .trigPins] s) (List.Subset.refl _) k code r detail data) .tx (by decide)

@[simp] theorem State.answerOpt_work (s : State) (k : Option Sess) (code : Nat) (r : Result) (detail : Nat) (data : Bytes) :
    (s.answerOpt k code r detail data).work = s.work :=
  (State.answerOpt_keeps (SameBut.refl [.sess, .ev, .trigPins] s) (List.Subset.refl _) k code r detail data) .work (by decide)

@[simp] theorem State.answerOpt_gallery (s : State) (k : Option Sess) (code : Nat) (r : Result) (detail : Nat) (data : Bytes) :
    (s.answerOpt k code r detail data).gallery = s.gallery :=
  (State.answerOpt_keeps (SameBut.refl [.sess, .ev, .trigPins] s) (List.Subset.refl _) k code r detail data) .gallery (by decide)

@[simp] theorem State.answerOpt_epoch (s : State) (k : Option Sess) (code : Nat) (r : Result) (detail : Nat) (data : Bytes) :
    (s.answerOpt k code r detail data).epoch = s.epoch :=
  (State.answerOpt_keeps (SameBut.refl [.sess, .ev, .trigPins] s) (List.Subset.refl _) k code r detail data) .epoch (by decide)

@[simp] theorem State.answerOpt_group (s : State) (k : Option Sess) (code : Nat) (r : Result) (detail : Nat) (data : Bytes) :
    (s.answerOpt k code r detail data).group = s.group :=
  (State.answerOpt_keeps (SameBut.refl [.sess, .ev, .trigPins] s) (List.Subset.refl _) k code r detail data) .group (by decide)

@[simp] theorem State.answerOpt_photon_bias (s : State) (k : Option Sess) (code : Nat) (r : Result) (detail : Nat) (data : Bytes) :
    (s.answerOpt k code r detail data).photon.bias = s.photon.bias :=
  congrArg (fun x => x.1) ((State.answerOpt_keeps (SameBut.refl [.sess, .ev, .trigPins] s) (List.Subset.refl _) k code r detail data) .bias (by decide))

@[simp] theorem State.answerOpt_photon_aggLimit (s : State) (k : Option Sess) (code : Nat) (r : Result) (detail : Nat) (data : Bytes) :
    (s.answerOpt k code r detail data).photon.aggLimit = s.photon.aggLimit :=
  congrArg (fun x => x.2) ((State.answerOpt_keeps (SameBut.refl [.sess, .ev, .trigPins] s) (List.Subset.refl _) k code r detail data) .bias (by decide))

@[simp] theorem State.answerOpt_photon_mon (s : State) (k : Option Sess) (code : Nat) (r : Result) (detail : Nat) (data : Bytes) :
    (s.answerOpt k code r detail data).photon.mon = s.photon.mon :=
  congrArg (fun x => x.1) ((State.answerOpt_keeps (SameBut.refl [.sess, .ev, .trigPins] s) (List.Subset.refl _) k code r detail data) .mon (by decide))

@[simp] theorem State.answerOpt_photon_lastConv (s : State) (k : Option Sess) (code : Nat) (r : Result) (detail : Nat) (data : Bytes) :
    (s.answerOpt k code r detail data).photon.lastConv = s.photon.lastConv :=
  congrArg (fun x => x.2) ((State.answerOpt_keeps (SameBut.refl [.sess, .ev, .trigPins] s) (List.Subset.refl _) k code r detail data) .mon (by decide))

@[simp] theorem State.answerOpt_photon_filter (s : State) (k : Option Sess) (code : Nat) (r : Result) (detail : Nat) (data : Bytes) :
    (s.answerOpt k code r detail data).photon.filter = s.photon.filter :=
  congrArg (fun x => x.1) ((State.answerOpt_keeps (SameBut.refl [.sess, .ev, .trigPins] s) (List.Subset.refl _) k code r detail data) .filter (by decide))

@[simp] theorem State.answerOpt_photon_banks (s : State) (k : Option Sess) (code : Nat) (r : Result) (detail : Nat) (data : Bytes) :
    (s.answerOpt k code r detail data).photon.banks = s.photon.banks :=
  congrArg (fun x => x.2) ((State.answerOpt_keeps (SameBut.refl [.sess, .ev, .trigPins] s) (List.Subset.refl _) k code r detail data) .filter (by decide))

@[simp] theorem State.answerOpt_therm (s : State) (k : Option Sess) (code : Nat) (r : Result) (detail : Nat) (data : Bytes) :
    (s.answerOpt k code r detail data).therm = s.therm :=
  (State.answerOpt_keeps (SameBut.refl [.sess, .ev, .trigPins] s) (List.Subset.refl _) k code r detail data) .therm (by decide)

@[simp] theorem State.answerOpt_cal (s : State) (k : Option Sess) (code : Nat) (r : Result) (detail : Nat) (data : Bytes) :
    (s.answerOpt k code r detail data).cal = s.cal :=
  (State.answerOpt_keeps (SameBut.refl [.sess, .ev, .trigPins] s) (List.Subset.refl _) k code r detail data) .cal (by decide)

@[simp] theorem State.answerOpt_age (s : State) (k : Option Sess) (code : Nat) (r : Result) (detail : Nat) (data : Bytes) :
    (s.answerOpt k code r detail data).age = s.age :=
  (State.answerOpt_keeps (SameBut.refl [.sess, .ev, .trigPins] s) (List.Subset.refl _) k code r detail data) .age (by decide)

@[simp] theorem State.answerOpt_free (s : State) (k : Option Sess) (code : Nat) (r : Result) (detail : Nat) (data : Bytes) :
    (s.answerOpt k code r detail data).free = s.free :=
  (State.answerOpt_keeps (SameBut.refl [.sess, .ev, .trigPins] s) (List.Subset.refl _) k code r detail data) .free (by decide)

@[simp] theorem State.answerOpt_pending (s : State) (k : Option Sess) (code : Nat) (r : Result) (detail : Nat) (data : Bytes) :
    (s.answerOpt k code r detail data).pending = s.pending :=
  (State.answerOpt_keeps (SameBut.refl [.sess, .ev, .trigPins] s) (List.Subset.refl _) k code r detail data) .pending (by decide)

end Sys2Proof.Machine
end

