-- ==== Sys2Proof/Laws/Answer.lean ====
section
/-!
SUPPORT. Carrying out a held command: when its meaning answers at once, the session is IDLE with that response; when it answers
later, the session waits.
-/
namespace Sys2Proof.Machine

/-- The fields of a held command. -/
theorem State.holds.cmd {s : State} {k : Sess} {code : Nat} {a : Bytes} (h : s.holds k code a) :
    ∃ c, (s.sess k).cmd = some c ∧ c.code = code ∧ c.args = a ∧ c.started = false := by
  obtain ⟨h, _, _⟩ := h
  cases e : (s.sess k).cmd with
  | none => simp [e] at h
  | some c => simp [e] at h; exact ⟨c, rfl, h⟩

theorem State.sess_modSess_self (s : State) (k : Sess) (f : Session → Session) : (s.modSess k f).sess k = f (s.sess k) := by
  simp [State.sess]

theorem State.sess_modSess_other (s : State) (j k : Sess) (f : Session → Session) (h : j ≠ k) :
    (s.modSess k f).sess j = s.sess j := by
  simp [State.sess, vupd_other _ _ _ f h]

/-- The answer of a command: the session is IDLE with the response. -/
theorem State.respond_answered {s : State} {k : Sess} {c : Accepted} (r : Result) (d : Nat) (data : Bytes)
    (h : (s.sess k).cmd = some c) (hp : (s.sess k).closePending = false) :
    (s.respond k r d data).answered k c.code r d data := by
  unfold State.respond State.answered
  simp only [h, hp, Bool.false_eq_true, if_false]
  cases (s.sess k).notify <;> simp [State.sess]

/-- The other sessions stay. -/
theorem State.respond_other (s : State) (j k : Sess) (r : Result) (d : Nat) (data : Bytes) (hj : j ≠ k) :
    (s.respond k r d data).sess j = s.sess j := by
  unfold State.respond State.freeSess
  split
  · rfl
  · split
    · simp [State.sess, vupd_other _ _ _ _ hj]
    · dsimp only
      split <;> simp [State.sess, vupd_other _ _ _ _ hj]

/-- A held command whose meaning answers at once. -/
theorem State.runCmd_done {s u : State} {k : Sess} {code : Nat} {a data : Bytes} {r : Result} {d : Nat}
    {body : Bytes → State → Reply × State} (h : s.holds k code a) (hb : body a s = (.done r d data, u)) :
    s.runCmd code k body = u.respond k r d data := by
  have ht := h.2.2
  obtain ⟨c, hc, rfl, rfl, hs⟩ := h.cmd
  simp [State.runCmd, hc, hs, hb, ht]

/-- A held command whose meaning answers later. -/
theorem State.runCmd_later {s u : State} {k : Sess} {code : Nat} {a : Bytes} {body : Bytes → State → Reply × State}
    (h : s.holds k code a) (hb : body a s = (.later, u)) :
    s.runCmd code k body = u.modSess k fun x => { x with cmd := x.cmd.map fun c => { c with started := true } } := by
  have ht := h.2.2
  obtain ⟨c, hc, rfl, rfl, hs⟩ := h.cmd
  simp [State.runCmd, hc, hs, hb, ht]

/-- How a command that answers at once completes. -/
theorem answers_of {i : Instr} {s u : State} {k : Sess} {code : Nat} {a data : Bytes} {r : Result} {d : Nat}
    {body : Bytes → State → Reply × State} {post : State → Prop} (he : exec i s = .next (s.runCmd code k body))
    (h : s.holds k code a) (hb : body a s = (.done r d data, u)) (hu : u.sess k = s.sess k)
    (hp : post (u.respond k r d data)) : Answers i s k code r d data post := by
  obtain ⟨c, hc, rfl, _, _⟩ := h.cmd
  exact ⟨_, he.trans (congrArg _ (State.runCmd_done h hb)), State.respond_answered r d data (hu ▸ hc) (hu ▸ h.2.1), hp⟩

/-- How a command that answers later completes. -/
theorem starts_of {i : Instr} {s u : State} {k : Sess} {code : Nat} {a : Bytes} {body : Bytes → State → Reply × State}
    {post : State → Prop} (he : exec i s = .next (s.runCmd code k body)) (h : s.holds k code a)
    (hb : body a s = (.later, u)) (hu : (u.sess k).cmd = (s.sess k).cmd)
    (hp : post (u.modSess k fun x => { x with cmd := x.cmd.map fun c => { c with started := true } })) :
    Starts i s k code post := by
  obtain ⟨c, hc, rfl, _, _⟩ := h.cmd
  refine ⟨_, he.trans (congrArg _ (State.runCmd_later h hb)), ?_, hp⟩
  simp [State.waits, State.sess_modSess_self, hu, hc]

end Sys2Proof.Machine
end

