-- ==== Sys2Proof/Laws/FrameOps2.lean ====
section
/-!
SUPPORT. Frames: what each shared operation keeps.
-/
set_option maxRecDepth 10000
namespace Sys2Proof.Machine

theorem State.storeLast_keeps {ps : List Part} {s0 t : State} (h : SameBut ps s0 t)
    (hs : [.mem, .work] ⊆ ps) (w : Work) : SameBut ps s0 (State.storeLast t w) := by
  unfold State.storeLast
  have h1 : [.mem] ⊆ ps := List.Subset.trans (by decide) hs
  have h2 : [.work] ⊆ ps := List.Subset.trans (by decide) hs
  repeat' first
    | with_reducible exact h
    | with_reducible assumption
    | with_reducible refine State.unitWrite_keeps ?_ h1 ..
    | with_reducible refine State.modWork_keeps ?_ h2 ..
    | split
    | (dsimp only)

theorem State.needTx_keeps {ps : List Part} {s0 t : State} (h : SameBut ps s0 t)
    (hs : [.mem, .work] ⊆ ps) (w : Work) (p : Nat) : ∀ out, State.needTx t w p = .ok out → SameBut ps s0 out := by
  have h1 : [.mem, .work] ⊆ ps := List.Subset.trans (by decide) hs
  have h2 : [.work] ⊆ ps := List.Subset.trans (by decide) hs
  intro out e
  unfold State.needTx at e
  split at e
  · cases e; exact h
  · split at e
    · cases e
    · split at e
      · cases e; exact State.storeLast_keeps (State.modWork_keeps h h2 _ _) h1 _
      · cases e

theorem State.modAck_keeps {ps : List Part} {s0 t : State} (h : SameBut ps s0 t)
    (hs : [.work] ⊆ ps) (w : Work) (p : Nat) (f : AckState → AckState) : SameBut ps s0 (State.modAck t w p f) := by
  unfold State.modAck
  have h1 : [.work] ⊆ ps := List.Subset.trans (by decide) hs
  repeat' first
    | with_reducible exact h
    | with_reducible assumption
    | with_reducible refine State.modWork_keeps ?_ h1 ..
    | split
    | (dsimp only)

theorem State.flushLinks_keeps {ps : List Part} {s0 t : State} (h : SameBut ps s0 t)
    (hs : [.mem, .work] ⊆ ps) (n : Nat) (w : Work) (p : Nat) : SameBut ps s0 (State.flushLinks n t w p) := by
  have h1 : [.work] ⊆ ps := List.Subset.trans (by decide) hs
  have h2 : [.mem, .work] ⊆ ps := List.Subset.trans (by decide) hs
  induction n generalizing t with
  | zero => unfold State.flushLinks; (first | (with_reducible exact h) | exact State.modPort_keeps h hs _ _ | exact h | (intro out e; cases e; exact h))
  | succ _ ih =>
    unfold State.flushLinks
    repeat' first
      | with_reducible exact h
      | with_reducible assumption
      | with_reducible refine ih ?_ ..
      | with_reducible refine State.modAck_keeps ?_ h1 ..
      | (rename_i heq; exact State.needTx_keeps h h2 _ _ heq)
      | (rename_i heq; exact State.needTx_keeps h h2 _ _ _ heq)
      | (rename_i heq; refine State.needTx_keeps ?_ h2 _ _ heq)
      | (rename_i heq; refine State.needTx_keeps ?_ h2 _ _ _ heq)
      | with_reducible refine State.storeLast_keeps ?_ h2 ..
      | with_reducible refine State.modWork_keeps ?_ h1 ..
      | ((with_reducible refine SameBut.iteKeep ?_ ?_); rotate_left; intro h; rotate_left)
      | split
      | (dsimp only)

theorem State.sendLink_keeps {ps : List Part} {s0 t : State} (h : SameBut ps s0 t)
    (hs : [.mem, .work] ⊆ ps) (w : Work) (p : Nat) (msg : Bytes) : SameBut ps s0 (State.sendLink t w p msg) := by
  unfold State.sendLink
  have h1 : [.mem, .work] ⊆ ps := List.Subset.trans (by decide) hs
  have h2 : [.work] ⊆ ps := List.Subset.trans (by decide) hs
  repeat' first
    | with_reducible exact h
    | with_reducible assumption
    | with_reducible refine State.flushLinks_keeps ?_ h1 ..
    | with_reducible refine State.modAck_keeps ?_ h2 ..
    | split
    | (dsimp only)

theorem State.settleOpening_keeps {ps : List Part} {s0 t : State} (h : SameBut ps s0 t)
    (hs : [.mem, .work] ⊆ ps) (w : Work) (p : Nat) : SameBut ps s0 (State.settleOpening t w p) := by
  unfold State.settleOpening
  have h1 : [.mem, .work] ⊆ ps := List.Subset.trans (by decide) hs
  have h2 : [.work] ⊆ ps := List.Subset.trans (by decide) hs
  repeat' first
    | with_reducible exact h
    | with_reducible assumption
    | with_reducible refine State.storeLast_keeps ?_ h1 ..
    | with_reducible refine State.modWork_keeps ?_ h2 ..
    | ((with_reducible refine SameBut.iteKeep ?_ ?_); rotate_left; intro h; rotate_left)
    | split
    | (dsimp only)

theorem State.settleRetention_keeps {ps : List Part} {s0 t : State} (h : SameBut ps s0 t)
    (hs : [.mem, .work, .group] ⊆ ps) (w : Work) : SameBut ps s0 (State.settleRetention t w) := by
  unfold State.settleRetention
  have h1 : [.mem, .work] ⊆ ps := List.Subset.trans (by decide) hs
  have h2 : [.group] ⊆ ps := List.Subset.trans (by decide) hs
  have h3 : [.work] ⊆ ps := List.Subset.trans (by decide) hs
  repeat' first
    | with_reducible exact h
    | with_reducible assumption
    | with_reducible refine State.flushLinks_keeps ?_ h1 ..
    | with_reducible refine State.grant_keeps ?_ h2 ..
    | with_reducible refine State.settleOpening_keeps ?_ h1 ..
    | with_reducible refine State.modWork_keeps ?_ h3 ..
    | ((with_reducible refine SameBut.each _ _ ?_ ?_); rotate_left; intro _ _ h; rotate_left)
    | split
    | (dsimp only)

theorem State.refuseFrame_keeps {ps : List Part} {s0 t : State} (h : SameBut ps s0 t)
    (hs : [.work, .group] ⊆ ps) (w : Work) (f : HostFrame) (reason : Nat) :
        SameBut ps s0 (State.refuseFrame t w f reason) := by
  unfold State.refuseFrame
  have h1 : [.group] ⊆ ps := List.Subset.trans (by decide) hs
  have h2 : [.work] ⊆ ps := List.Subset.trans (by decide) hs
  repeat' first
    | with_reducible exact h
    | with_reducible assumption
    | with_reducible refine State.hostRefuse_keeps ?_ h1 ..
    | with_reducible refine State.modWork_keeps ?_ h2 ..
    | split
    | (dsimp only)

theorem State.acceptFrame_keeps {ps : List Part} {s0 t : State} (h : SameBut ps s0 t)
    (hs : [.ev, .mem, .work, .group, .trigPins] ⊆ ps) (w : Work) (f : HostFrame) (memError : Bool) :
        SameBut ps s0 (State.acceptFrame t w f memError) := by
  unfold State.acceptFrame
  have h1 : [.group] ⊆ ps := List.Subset.trans (by decide) hs
  have h2 : [.mem, .work] ⊆ ps := List.Subset.trans (by decide) hs
  have h3 : [.ev, .trigPins] ⊆ ps := List.Subset.trans (by decide) hs
  have h4 : [.work, .group] ⊆ ps := List.Subset.trans (by decide) hs
  have h5 : [.work] ⊆ ps := List.Subset.trans (by decide) hs
  repeat' first
    | with_reducible exact h
    | with_reducible assumption
    | with_reducible refine State.grant_keeps ?_ h1 ..
    | with_reducible refine State.hostAccept_keeps ?_ h1 ..
    | with_reducible refine State.modChan_keeps ?_ h1 ..
    | (rename_i heq; exact State.needTx_keeps h h2 _ _ heq)
    | (rename_i heq; exact State.needTx_keeps h h2 _ _ _ heq)
    | (rename_i heq; refine State.needTx_keeps ?_ h2 _ _ heq)
    | (rename_i heq; refine State.needTx_keeps ?_ h2 _ _ _ heq)
    | with_reducible refine State.raiseW_keeps ?_ h3 ..
    | with_reducible refine State.refuseFrame_keeps ?_ h4 ..
    | with_reducible refine State.storeLast_keeps ?_ h2 ..
    | with_reducible refine State.modWork_keeps ?_ h5 ..
    | ((with_reducible refine SameBut.iteKeep ?_ ?_); rotate_left; intro h; rotate_left)
    | split
    | (dsimp only)

theorem State.modRxCtx_keeps {ps : List Part} {s0 t : State} (h : SameBut ps s0 t)
    (hs : [.mem, .work] ⊆ ps) (w : Work) (p : Nat) (f : RxCtx → RxCtx) : SameBut ps s0 (State.modRxCtx t w p f) := by
  unfold State.modRxCtx
  have h1 : [.work] ⊆ ps := List.Subset.trans (by decide) hs
  have h2 : [.mem] ⊆ ps := List.Subset.trans (by decide) hs
  repeat' first
    | with_reducible exact h
    | with_reducible assumption
    | with_reducible refine State.modAck_keeps ?_ h1 ..
    | with_reducible refine State.unitWrite_keeps ?_ h2 ..
    | with_reducible refine State.modWork_keeps ?_ h1 ..
    | ((with_reducible refine SameBut.iteKeep ?_ ?_); rotate_left; intro h; rotate_left)
    | split
    | (dsimp only)

theorem State.count_keeps {ps : List Part} {s0 t : State} (h : SameBut ps s0 t)
    (hs : [.work] ⊆ ps) (w : Work) (f : DeliveryCounts → DeliveryCounts) : SameBut ps s0 (State.count t w f) := by
  unfold State.count
  have h1 : [.work] ⊆ ps := List.Subset.trans (by decide) hs
  repeat' first
    | with_reducible exact h
    | with_reducible assumption
    | with_reducible refine State.modWork_keeps ?_ h1 ..
    | split
    | (dsimp only)

theorem State.rewindTo_keeps {ps : List Part} {s0 t : State} (h : SameBut ps s0 t)
    (hs : [.work] ⊆ ps) (w : Work) (p : Nat) (q : BitVec 32) : SameBut ps s0 (State.rewindTo t w p q) := by
  unfold State.rewindTo
  have h1 : [.work] ⊆ ps := List.Subset.trans (by decide) hs
  repeat' first
    | with_reducible exact h
    | with_reducible assumption
    | with_reducible refine State.modWork_keeps ?_ h1 ..
    | split
    | (dsimp only)

theorem State.rewindOldest_keeps {ps : List Part} {s0 t : State} (h : SameBut ps s0 t)
    (hs : [.work] ⊆ ps) (w : Work) (p : Nat) : SameBut ps s0 (State.rewindOldest t w p) := by
  unfold State.rewindOldest
  have h1 : [.work] ⊆ ps := List.Subset.trans (by decide) hs
  repeat' first
    | with_reducible exact h
    | with_reducible assumption
    | with_reducible refine State.rewindTo_keeps ?_ h1 ..
    | split
    | (dsimp only)

theorem State.enterBackoff_keeps {ps : List Part} {s0 t : State} (h : SameBut ps s0 t)
    (hs : [.ev, .tx, .work, .trigPins] ⊆ ps) (w : Work) (p : Nat) : SameBut ps s0 (State.enterBackoff t w p) := by
  unfold State.enterBackoff
  have h1 : [.ev, .trigPins] ⊆ ps := List.Subset.trans (by decide) hs
  have h2 : [.tx] ⊆ ps := List.Subset.trans (by decide) hs
  have h3 : [.work] ⊆ ps := List.Subset.trans (by decide) hs
  repeat' first
    | with_reducible exact h
    | with_reducible assumption
    | with_reducible refine State.raiseW_keeps ?_ h1 ..
    | with_reducible refine State.modTxDiag_keeps ?_ h2 ..
    | with_reducible refine State.modTxw_keeps ?_ h3 ..
    | ((with_reducible refine SameBut.iteKeep ?_ ?_); rotate_left; intro h; rotate_left)
    | (refine SameBut.mod h ?_; (intro q hq; cases q <;> first | exact rfl | exact absurd (hs (by decide)) hq))
    | split
    | (dsimp only)

theorem State.resetAttempts_keeps {ps : List Part} {s0 t : State} (h : SameBut ps s0 t)
    (hs : [.work] ⊆ ps) (w : Work) (p : Nat) : SameBut ps s0 (State.resetAttempts t w p) := by
  unfold State.resetAttempts
  have h1 : [.work] ⊆ ps := List.Subset.trans (by decide) hs
  repeat' first
    | with_reducible exact h
    | with_reducible assumption
    | with_reducible refine State.modTxw_keeps ?_ h1 ..
    | (refine SameBut.mod h ?_; (intro q hq; cases q <;> first | exact rfl | exact absurd (hs (by decide)) hq))
    | split
    | (dsimp only)

theorem State.peerRestart_keeps {ps : List Part} {s0 t : State} (h : SameBut ps s0 t)
    (hs : [.ev, .mem, .work, .group, .trigPins] ⊆ ps) (w : Work) (p : Nat) (gen : Option (BitVec 10)) :
        SameBut ps s0 (State.peerRestart t w p gen) := by
  unfold State.peerRestart
  have h1 : [.work] ⊆ ps := List.Subset.trans (by decide) hs
  have h2 : [.group] ⊆ ps := List.Subset.trans (by decide) hs
  have h3 : [.ev, .trigPins] ⊆ ps := List.Subset.trans (by decide) hs
  have h4 : [.mem, .work, .group] ⊆ ps := List.Subset.trans (by decide) hs
  have h5 : [.mem, .work] ⊆ ps := List.Subset.trans (by decide) hs
  repeat' first
    | with_reducible exact h
    | with_reducible assumption
    | with_reducible refine State.count_keeps ?_ h1 ..
    | with_reducible refine State.hostDesc_keeps ?_ h2 ..
    | with_reducible refine State.raiseW_keeps ?_ h3 ..
    | with_reducible refine State.settleRetention_keeps ?_ h4 ..
    | with_reducible refine State.storeLast_keeps ?_ h5 ..
    | with_reducible refine State.modWork_keeps ?_ h1 ..
    | ((with_reducible refine SameBut.iteKeep ?_ ?_); rotate_left; intro h; rotate_left)
    | ((with_reducible refine SameBut.each _ _ ?_ ?_); rotate_left; intro _ _ h; rotate_left)
    | split
    | (dsimp only)

theorem State.useAck_keeps {ps : List Part} {s0 t : State} (h : SameBut ps s0 t)
    (hs : [.mem, .work, .group] ⊆ ps) (w : Work) (p : Nat) (ack : BitVec 32) (nak : Nat) :
        SameBut ps s0 (State.useAck t w p ack nak) := by
  unfold State.useAck
  have h1 : [.work] ⊆ ps := List.Subset.trans (by decide) hs
  have h2 : [.mem, .work, .group] ⊆ ps := List.Subset.trans (by decide) hs
  repeat' first
    | with_reducible exact h
    | with_reducible assumption
    | with_reducible refine State.count_keeps ?_ h1 ..
    | with_reducible refine State.resetAttempts_keeps ?_ h1 ..
    | with_reducible refine State.settleRetention_keeps ?_ h2 ..
    | with_reducible refine State.modWork_keeps ?_ h1 ..
    | ((with_reducible refine SameBut.iteKeep ?_ ?_); rotate_left; intro h; rotate_left)
    | split
    | (dsimp only)

theorem State.takeAckOf_keeps {ps : List Part} {s0 t : State} (h : SameBut ps s0 t)
    (hs : [.ev, .mem, .work, .group, .trigPins] ⊆ ps) (w : Work) (p : Nat) (f : FrameHdr) (reveals : Bool) :
        SameBut ps s0 (State.takeAckOf t w p f reveals) := by
  unfold State.takeAckOf
  have h1 : [.ev, .mem, .work, .group, .trigPins] ⊆ ps := List.Subset.trans (by decide) hs
  have h2 : [.ev, .mem, .trigPins] ⊆ ps := List.Subset.trans (by decide) hs
  have h3 : [.mem, .work, .group] ⊆ ps := List.Subset.trans (by decide) hs
  have h4 : [.work] ⊆ ps := List.Subset.trans (by decide) hs
  repeat' first
    | with_reducible exact h
    | with_reducible assumption
    | with_reducible refine State.peerRestart_keeps ?_ h1 ..
    | with_reducible refine State.unitRead_keeps ?_ h2 ..
    | with_reducible refine State.useAck_keeps ?_ h3 ..
    | with_reducible refine State.modWork_keeps ?_ h4 ..
    | ((with_reducible refine SameBut.iteKeep ?_ ?_); rotate_left; intro h; rotate_left)
    | split
    | (dsimp only)

theorem State.settleSketch_keeps {ps : List Part} {s0 t : State} (h : SameBut ps s0 t)
    (hs : [.sess, .ev, .work, .trigPins] ⊆ ps) (w : Work) : SameBut ps s0 (State.settleSketch t w) := by
  unfold State.settleSketch
  have h1 : [.sess, .ev, .trigPins] ⊆ ps := List.Subset.trans (by decide) hs
  have h2 : [.work] ⊆ ps := List.Subset.trans (by decide) hs
  repeat' first
    | with_reducible exact h
    | with_reducible assumption
    | with_reducible refine State.answer_keeps ?_ h1 ..
    | with_reducible refine State.modWork_keeps ?_ h2 ..
    | ((with_reducible refine SameBut.iteKeep ?_ ?_); rotate_left; intro h; rotate_left)
    | split
    | (dsimp only)

theorem State.scrape_keeps {ps : List Part} {s0 t : State} (h : SameBut ps s0 t)
    (hs : [.sess, .ev, .mem, .work, .group, .trigPins] ⊆ ps) (w : Work) (p : Nat) (n : BitVec 32) :
        SameBut ps s0 (State.scrape t w p n) := by
  unfold State.scrape
  have h1 : [.work] ⊆ ps := List.Subset.trans (by decide) hs
  have h2 : [.group] ⊆ ps := List.Subset.trans (by decide) hs
  have h3 : [.mem, .work] ⊆ ps := List.Subset.trans (by decide) hs
  have h4 : [.ev, .trigPins] ⊆ ps := List.Subset.trans (by decide) hs
  have h5 : [.sess, .ev, .work, .trigPins] ⊆ ps := List.Subset.trans (by decide) hs
  repeat' first
    | with_reducible exact h
    | with_reducible assumption
    | with_reducible refine State.count_keeps ?_ h1 ..
    | with_reducible refine State.hostDesc_keeps ?_ h2 ..
    | with_reducible refine State.modRxCtx_keeps ?_ h3 ..
    | with_reducible refine State.raiseW_keeps ?_ h4 ..
    | with_reducible refine State.settleSketch_keeps ?_ h5 ..
    | ((with_reducible refine SameBut.iteKeep ?_ ?_); rotate_left; intro h; rotate_left)
    | split
    | (dsimp only)

theorem State.scrapeAll_keeps {ps : List Part} {s0 t : State} (h : SameBut ps s0 t)
    (hs : [.sess, .ev, .mem, .work, .group, .trigPins] ⊆ ps) (w : Work) : SameBut ps s0 (State.scrapeAll t w) := by
  unfold State.scrapeAll
  have h1 : [.sess, .ev, .mem, .work, .group, .trigPins] ⊆ ps := List.Subset.trans (by decide) hs
  repeat' first
    | with_reducible exact h
    | with_reducible assumption
    | with_reducible refine State.scrape_keeps ?_ h1 ..
    | ((with_reducible refine SameBut.each _ _ ?_ ?_); rotate_left; intro _ _ h; rotate_left)
    | split
    | (dsimp only)

theorem State.varnish_keeps {ps : List Part} {s0 t : State} (h : SameBut ps s0 t)
    (hs : [.sess, .ev, .mem, .work, .group, .trigPins] ⊆ ps) (w : Work) (p : Nat) : SameBut ps s0 (State.varnish t w p) := by
  unfold State.varnish
  have h1 : [.work] ⊆ ps := List.Subset.trans (by decide) hs
  have h2 : [.group] ⊆ ps := List.Subset.trans (by decide) hs
  have h3 : [.mem, .work] ⊆ ps := List.Subset.trans (by decide) hs
  have h4 : [.sess, .ev, .work, .trigPins] ⊆ ps := List.Subset.trans (by decide) hs
  repeat' first
    | with_reducible exact h
    | with_reducible assumption
    | with_reducible refine State.count_keeps ?_ h1 ..
    | with_reducible refine State.hostDesc_keeps ?_ h2 ..
    | with_reducible refine State.modChan_keeps ?_ h2 ..
    | with_reducible refine State.modRxCtx_keeps ?_ h3 ..
    | with_reducible refine State.settleSketch_keeps ?_ h4 ..
    | ((with_reducible refine SameBut.iteKeep ?_ ?_); rotate_left; intro h; rotate_left)
    | split
    | (dsimp only)

theorem State.varnishLane_keeps {ps : List Part} {s0 t : State} (h : SameBut ps s0 t)
    (hs : [.sess, .ev, .mem, .work, .group, .trigPins] ⊆ ps) (w : Work) : SameBut ps s0 (State.varnishLane t w) := by
  unfold State.varnishLane
  have h1 : [.sess, .ev, .mem, .work, .group, .trigPins] ⊆ ps := List.Subset.trans (by decide) hs
  repeat' first
    | with_reducible exact h
    | with_reducible assumption
    | with_reducible refine State.varnish_keeps ?_ h1 ..
    | ((with_reducible refine SameBut.each _ _ ?_ ?_); rotate_left; intro _ _ h; rotate_left)
    | split
    | (dsimp only)

theorem State.linkAction_keeps {ps : List Part} {s0 t : State} (h : SameBut ps s0 t)
    (hs : [.ev, .mem, .tx, .work, .group, .trigPins] ⊆ ps) (w : Work) (p : Nat) (f : FrameHdr) (m : Bytes) :
        SameBut ps s0 (State.linkAction t w p f m) := by
  unfold State.linkAction
  have h1 : [.work] ⊆ ps := List.Subset.trans (by decide) hs
  have h2 : [.ev, .tx, .work, .trigPins] ⊆ ps := List.Subset.trans (by decide) hs
  have h3 : [.ev, .mem, .work, .group, .trigPins] ⊆ ps := List.Subset.trans (by decide) hs
  have h4 : [.ev, .trigPins] ⊆ ps := List.Subset.trans (by decide) hs
  have h5 : [.tx] ⊆ ps := List.Subset.trans (by decide) hs
  repeat' first
    | with_reducible exact h
    | with_reducible assumption
    | with_reducible refine State.count_keeps ?_ h1 ..
    | with_reducible refine State.enterBackoff_keeps ?_ h2 ..
    | with_reducible refine State.peerRestart_keeps ?_ h3 ..
    | with_reducible refine State.raiseW_keeps ?_ h4 ..
    | with_reducible refine State.rewindOldest_keeps ?_ h1 ..
    | with_reducible refine State.modTxDiag_keeps ?_ h5 ..
    | with_reducible refine State.modTxw_keeps ?_ h1 ..
    | ((with_reducible refine SameBut.iteKeep ?_ ?_); rotate_left; intro h; rotate_left)
    | (refine SameBut.mod h ?_; (intro q hq; cases q <;> first | exact rfl | exact absurd (hs (by decide)) hq))
    | split
    | (dsimp only)

theorem State.deliver_keeps {ps : List Part} {s0 t : State} (h : SameBut ps s0 t)
    (hs : [.ev, .mem, .tx, .work, .group, .trigPins] ⊆ ps) (w : Work) (p : Nat) (f : FrameHdr) (payload : Bytes) :
        SameBut ps s0 (State.deliver t w p f payload) := by
  unfold State.deliver
  have h1 : [.work] ⊆ ps := List.Subset.trans (by decide) hs
  have h2 : [.group] ⊆ ps := List.Subset.trans (by decide) hs
  have h3 : [.ev, .mem, .tx, .work, .group, .trigPins] ⊆ ps := List.Subset.trans (by decide) hs
  have h4 : [.mem, .work] ⊆ ps := List.Subset.trans (by decide) hs
  repeat' first
    | with_reducible exact h
    | with_reducible assumption
    | with_reducible refine State.count_keeps ?_ h1 ..
    | with_reducible refine State.hostFrame_keeps ?_ h2 ..
    | with_reducible refine State.linkAction_keeps ?_ h3 ..
    | with_reducible refine State.modRxCtx_keeps ?_ h4 ..
    | ((with_reducible refine SameBut.iteKeep ?_ ?_); rotate_left; intro h; rotate_left)
    | split
    | (dsimp only)

theorem State.openRx_keeps {ps : List Part} {s0 t : State} (h : SameBut ps s0 t)
    (hs : [.mem, .work] ⊆ ps) (w : Work) (p : Nat) (f : FrameHdr) (id : BitVec 16) :
        SameBut ps s0 (State.openRx t w p f id) := by
  unfold State.openRx
  have h1 : [.work] ⊆ ps := List.Subset.trans (by decide) hs
  have h2 : [.mem] ⊆ ps := List.Subset.trans (by decide) hs
  repeat' first
    | with_reducible exact h
    | with_reducible assumption
    | with_reducible refine State.modAck_keeps ?_ h1 ..
    | with_reducible refine State.unitWrite_keeps ?_ h2 ..
    | with_reducible refine State.modWork_keeps ?_ h1 ..
    | split
    | (dsimp only)

theorem State.retireRx_keeps {ps : List Part} {s0 t : State} (h : SameBut ps s0 t)
    (hs : [.sess, .ev, .mem, .work, .group, .trigPins] ⊆ ps) (w : Work) (p : Nat) :
        SameBut ps s0 (State.retireRx t w p) := by
  unfold State.retireRx
  have h1 : [.sess, .ev, .mem, .work, .group, .trigPins] ⊆ ps := List.Subset.trans (by decide) hs
  have h2 : [.work] ⊆ ps := List.Subset.trans (by decide) hs
  repeat' first
    | with_reducible exact h
    | with_reducible assumption
    | with_reducible refine State.scrape_keeps ?_ h1 ..
    | with_reducible refine State.modWork_keeps ?_ h2 ..
    | split
    | (dsimp only)

theorem State.roomRx_keeps {ps : List Part} {s0 t : State} (h : SameBut ps s0 t)
    (hs : [.sess, .ev, .mem, .work, .group, .trigPins] ⊆ ps) (w : Work) : ∀ out,
        State.roomRx t w = some out → SameBut ps s0 out := by
  have h1 : [.sess, .ev, .mem, .work, .group, .trigPins] ⊆ ps := List.Subset.trans (by decide) hs
  intro out e
  unfold State.roomRx at e
  dsimp only at e
  split at e
  · cases e; exact h
  · simp only [Option.map_eq_some_iff] at e
    obtain ⟨x, _, rfl⟩ := e
    with_reducible exact State.retireRx_keeps h h1 ..

theorem State.countDiscard_keeps {ps : List Part} {s0 t : State} (h : SameBut ps s0 t)
    (hs : [.work] ⊆ ps) (w : Work) : SameBut ps s0 (State.countDiscard t w) := by
  unfold State.countDiscard
  have h1 : [.work] ⊆ ps := List.Subset.trans (by decide) hs
  repeat' first
    | with_reducible exact h
    | with_reducible assumption
    | with_reducible refine State.count_keeps ?_ h1 ..
    | split
    | (dsimp only)

theorem State.sendReset_keeps {ps : List Part} {s0 t : State} (h : SameBut ps s0 t)
    (hs : [.mem, .work] ⊆ ps) (w : Work) (p : Nat) (seq : BitVec 32) (reason : Nat) :
        SameBut ps s0 (State.sendReset t w p seq reason) := by
  unfold State.sendReset
  have h1 : [.work] ⊆ ps := List.Subset.trans (by decide) hs
  have h2 : [.mem, .work] ⊆ ps := List.Subset.trans (by decide) hs
  repeat' first
    | with_reducible exact h
    | with_reducible assumption
    | with_reducible refine State.countDiscard_keeps ?_ h1 ..
    | with_reducible refine State.sendLink_keeps ?_ h2 ..
    | ((with_reducible refine SameBut.iteKeep ?_ ?_); rotate_left; intro h; rotate_left)
    | split
    | (dsimp only)

theorem State.heardFrom_keeps {ps : List Part} {s0 t : State} (h : SameBut ps s0 t)
    (hs : [.mem, .work] ⊆ ps) (w : Work) (p : Nat) : SameBut ps s0 (State.heardFrom t w p) := by
  unfold State.heardFrom
  have h1 : [.mem, .work] ⊆ ps := List.Subset.trans (by decide) hs
  repeat' first
    | with_reducible exact h
    | with_reducible assumption
    | with_reducible refine State.modRxCtx_keeps ?_ h1 ..
    | split
    | (dsimp only)

theorem State.receiveGood_keeps {ps : List Part} {s0 t : State} (h : SameBut ps s0 t)
    (hs : [.sess, .ev, .mem, .tx, .work, .group, .trigPins] ⊆ ps) (w : Work) (p : Nat) (f : FrameHdr) (payload : Bytes) :
        SameBut ps s0 (State.receiveGood t w p f payload) := by
  unfold State.receiveGood
  have h1 : [.work] ⊆ ps := List.Subset.trans (by decide) hs
  have h2 : [.ev, .mem, .tx, .work, .group, .trigPins] ⊆ ps := List.Subset.trans (by decide) hs
  have h3 : [.mem, .work] ⊆ ps := List.Subset.trans (by decide) hs
  have h4 : [.ev, .mem, .work, .group, .trigPins] ⊆ ps := List.Subset.trans (by decide) hs
  have h5 : [.ev, .trigPins] ⊆ ps := List.Subset.trans (by decide) hs
  have h6 : [.sess, .ev, .mem, .work, .group, .trigPins] ⊆ ps := List.Subset.trans (by decide) hs
  repeat' first
    | with_reducible exact h
    | with_reducible assumption
    | with_reducible refine State.count_keeps ?_ h1 ..
    | with_reducible refine State.deliver_keeps ?_ h2 ..
    | with_reducible refine State.modAck_keeps ?_ h1 ..
    | with_reducible refine State.modRxCtx_keeps ?_ h3 ..
    | with_reducible refine State.openRx_keeps ?_ h3 ..
    | with_reducible refine State.peerRestart_keeps ?_ h4 ..
    | with_reducible refine State.raiseW_keeps ?_ h5 ..
    | (rename_i heq; exact State.roomRx_keeps h h6 _ _ heq)
    | (rename_i heq; exact State.roomRx_keeps h h6 _ _ _ heq)
    | (rename_i heq; refine State.roomRx_keeps ?_ h6 _ _ heq)
    | (rename_i heq; refine State.roomRx_keeps ?_ h6 _ _ _ heq)
    | with_reducible refine State.scrape_keeps ?_ h6 ..
    | with_reducible refine State.sendReset_keeps ?_ h3 ..
    | with_reducible refine State.modWork_keeps ?_ h1 ..
    | with_reducible apply SameBut.ite
    | split
    | (dsimp only)

theorem State.receiveLost_keeps {ps : List Part} {s0 t : State} (h : SameBut ps s0 t)
    (hs : [.mem, .work] ⊆ ps) (w : Work) (p : Nat) (seq : BitVec 32) : SameBut ps s0 (State.receiveLost t w p seq) := by
  unfold State.receiveLost
  have h1 : [.mem, .work] ⊆ ps := List.Subset.trans (by decide) hs
  repeat' first
    | with_reducible exact h
    | with_reducible assumption
    | with_reducible refine State.modRxCtx_keeps ?_ h1 ..
    | ((with_reducible refine SameBut.iteKeep ?_ ?_); rotate_left; intro h; rotate_left)
    | split
    | (dsimp only)

theorem State.receiveAckFrame_keeps {ps : List Part} {s0 t : State} (h : SameBut ps s0 t)
    (hs : [.mem, .work] ⊆ ps) (w : Work) (p : Nat) (f : FrameHdr) : SameBut ps s0 (State.receiveAckFrame t w p f) := by
  unfold State.receiveAckFrame
  have h1 : [.mem, .work] ⊆ ps := List.Subset.trans (by decide) hs
  repeat' first
    | with_reducible exact h
    | with_reducible assumption
    | with_reducible refine State.modRxCtx_keeps ?_ h1 ..
    | ((with_reducible refine SameBut.iteKeep ?_ ?_); rotate_left; intro h; rotate_left)
    | split
    | (dsimp only)

theorem State.markSent_keeps {ps : List Part} {s0 t : State} (h : SameBut ps s0 t)
    (hs : [.work] ⊆ ps) (w : Work) (i : Image) : SameBut ps s0 (State.markSent t w i) := by
  unfold State.markSent
  have h1 : [.work] ⊆ ps := List.Subset.trans (by decide) hs
  repeat' first
    | with_reducible exact h
    | with_reducible assumption
    | with_reducible refine State.modWork_keeps ?_ h1 ..
    | ((with_reducible refine SameBut.iteKeep ?_ ?_); rotate_left; intro h; rotate_left)
    | split
    | (dsimp only)

theorem State.ackSent_keeps {ps : List Part} {s0 t : State} (h : SameBut ps s0 t)
    (hs : [.work] ⊆ ps) (w : Work) (p : Nat) : SameBut ps s0 (State.ackSent t w p) := by
  unfold State.ackSent
  have h1 : [.work] ⊆ ps := List.Subset.trans (by decide) hs
  repeat' first
    | with_reducible exact h
    | with_reducible assumption
    | with_reducible refine State.modAck_keeps ?_ h1 ..
    | split
    | (dsimp only)

theorem State.retentionLoss_keeps {ps : List Part} {s0 t : State} (h : SameBut ps s0 t)
    (hs : [.ev, .work, .group, .trigPins] ⊆ ps) (w : Work) (i : Image) : SameBut ps s0 (State.retentionLoss t w i) := by
  unfold State.retentionLoss
  have h1 : [.group] ⊆ ps := List.Subset.trans (by decide) hs
  have h2 : [.ev, .trigPins] ⊆ ps := List.Subset.trans (by decide) hs
  have h3 : [.work] ⊆ ps := List.Subset.trans (by decide) hs
  repeat' first
    | with_reducible exact h
    | with_reducible assumption
    | with_reducible refine State.hostDesc_keeps ?_ h1 ..
    | with_reducible refine State.raiseW_keeps ?_ h2 ..
    | with_reducible refine State.modWork_keeps ?_ h3 ..
    | ((with_reducible refine SameBut.iteKeep ?_ ?_); rotate_left; intro h; rotate_left)
    | split
    | (dsimp only)

theorem State.resolveCand_keeps {ps : List Part} {s0 t : State} (h : SameBut ps s0 t)
    (hs : [.sess, .ev, .mem, .dec, .work, .group, .trigPins] ⊆ ps) (p : Phys) (w : Work) (pos : Nat) (confirmed : Bool) :
        SameBut ps s0 (State.resolveCand t p w pos confirmed) := by
  unfold State.resolveCand
  have h1 : [.mem, .work] ⊆ ps := List.Subset.trans (by decide) hs
  have h2 : [.sess, .ev, .mem, .work, .group, .trigPins] ⊆ ps := List.Subset.trans (by decide) hs
  have h3 : [.dec] ⊆ ps := List.Subset.trans (by decide) hs
  have h4 : [.work] ⊆ ps := List.Subset.trans (by decide) hs
  repeat' first
    | with_reducible exact h
    | with_reducible assumption
    | with_reducible refine State.modRxCtx_keeps ?_ h1 ..
    | with_reducible refine State.scrape_keeps ?_ h2 ..
    | with_reducible refine State.varnish_keeps ?_ h2 ..
    | with_reducible refine State.modDec_keeps ?_ h3 ..
    | with_reducible refine State.modFec_keeps ?_ h4 ..
    | ((with_reducible refine SameBut.iteKeep ?_ ?_); rotate_left; intro h; rotate_left)
    | split
    | (dsimp only)

theorem State.resolveTo_keeps {ps : List Part} {s0 t : State} (h : SameBut ps s0 t)
    (hs : [.sess, .ev, .mem, .dec, .work, .group, .trigPins] ⊆ ps) (p : Phys) (w : Work) (pos : Nat) :
        SameBut ps s0 (State.resolveTo t p w pos) := by
  unfold State.resolveTo
  have h1 : [.sess, .ev, .mem, .dec, .work, .group, .trigPins] ⊆ ps := List.Subset.trans (by decide) hs
  repeat' first
    | with_reducible exact h
    | with_reducible assumption
    | with_reducible refine State.resolveCand_keeps ?_ h1 ..
    | ((with_reducible refine SameBut.each _ _ ?_ ?_); rotate_left; intro _ _ h; rotate_left)
    | split
    | (dsimp only)

theorem State.loseSketches_keeps {ps : List Part} {s0 t : State} (h : SameBut ps s0 t)
    (hs : [.sess, .ev, .mem, .dec, .work, .group, .trigPins] ⊆ ps) (p : Phys) : SameBut ps s0 (State.loseSketches t p) := by
  unfold State.loseSketches
  have h1 : [.sess, .ev, .mem, .dec, .work, .group, .trigPins] ⊆ ps := List.Subset.trans (by decide) hs
  repeat' first
    | with_reducible exact h
    | with_reducible assumption
    | with_reducible refine State.resolveCand_keeps ?_ h1 ..
    | ((with_reducible refine SameBut.iteKeep ?_ ?_); rotate_left; intro h; rotate_left)
    | ((with_reducible refine SameBut.each _ _ ?_ ?_); rotate_left; intro _ _ h; rotate_left)
    | split
    | (dsimp only)

theorem State.amDrop_keeps {ps : List Part} {s0 t : State} (h : SameBut ps s0 t)
    (hs : [.sess, .ev, .mem, .dec, .work, .group, .trigPins] ⊆ ps) (p : Phys) : SameBut ps s0 (State.amDrop t p) := by
  unfold State.amDrop
  have h1 : [.sess, .ev, .mem, .dec, .work, .group, .trigPins] ⊆ ps := List.Subset.trans (by decide) hs
  have h2 : [.dec] ⊆ ps := List.Subset.trans (by decide) hs
  have h3 : [.work] ⊆ ps := List.Subset.trans (by decide) hs
  repeat' first
    | with_reducible exact h
    | with_reducible assumption
    | with_reducible refine State.loseSketches_keeps ?_ h1 ..
    | with_reducible refine State.modDec_keeps ?_ h2 ..
    | with_reducible refine State.modFec_keeps ?_ h3 ..
    | ((with_reducible refine SameBut.iteKeep ?_ ?_); rotate_left; intro h; rotate_left)
    | split
    | (dsimp only)

theorem State.hotStore_keeps {ps : List Part} {s0 t : State} (h : SameBut ps s0 t)
    (hs : [.mem, .acq] ⊆ ps) (p : Phys) (e : HotEntry) : SameBut ps s0 (State.hotStore t p e) := by
  unfold State.hotStore
  have h1 : [.mem] ⊆ ps := List.Subset.trans (by decide) hs
  have h2 : [.acq] ⊆ ps := List.Subset.trans (by decide) hs
  repeat' first
    | with_reducible exact h
    | with_reducible assumption
    | with_reducible refine State.unitWrite_keeps ?_ h1 ..
    | with_reducible refine State.modAcq_keeps ?_ h2 ..
    | split
    | (dsimp only)

theorem State.hotRead_keeps {ps : List Part} {s0 t : State} (h : SameBut ps s0 t)
    (hs : [.ev, .mem, .acq, .trigPins] ⊆ ps) (p : Phys) (w : Work) (st : Nat) (d : Option (Nat × BitVec 42)) :
        SameBut ps s0 (State.hotRead t p w st d).2 := by
  unfold State.hotRead
  have h1 : [.ev, .mem, .trigPins] ⊆ ps := List.Subset.trans (by decide) hs
  have h2 : [.acq] ⊆ ps := List.Subset.trans (by decide) hs
  repeat' first
    | with_reducible exact h
    | with_reducible assumption
    | with_reducible refine State.unitRead_keeps ?_ h1 ..
    | with_reducible refine State.modAcq_keeps ?_ h2 ..
    | ((with_reducible refine SameBut.iteKeep ?_ ?_); rotate_left; intro h; rotate_left)
    | split
    | (dsimp only)

theorem State.modGallery_keeps {ps : List Part} {s0 t : State} (h : SameBut ps s0 t)
    (hs : [.gallery] ⊆ ps) (f : GalleryUnit → GalleryUnit) : SameBut ps s0 (State.modGallery t f) := by
  unfold State.modGallery
  repeat' first
    | with_reducible exact h
    | with_reducible assumption
    | (refine SameBut.mod h ?_; (intro q hq; cases q <;> first | exact rfl | exact absurd (hs (by decide)) hq))
    | split
    | (dsimp only)

theorem State.galleryPut_keeps {ps : List Part} {s0 t : State} (h : SameBut ps s0 t)
    (hs : [.mem, .gallery] ⊆ ps) (i : Nat) (q : Portrait) (word : Nat) (len : Nat) :
        SameBut ps s0 (State.galleryPut t i q word len) := by
  unfold State.galleryPut
  have h1 : [.gallery] ⊆ ps := List.Subset.trans (by decide) hs
  have h2 : [.mem] ⊆ ps := List.Subset.trans (by decide) hs
  repeat' first
    | with_reducible exact h
    | with_reducible assumption
    | with_reducible refine State.modGallery_keeps ?_ h1 ..
    | with_reducible refine State.unitWrite_keeps ?_ h2 ..
    | split
    | (dsimp only)

theorem State.countBurst_keeps {ps : List Part} {s0 t : State} (h : SameBut ps s0 t)
    (hs : [.work] ⊆ ps) (w : Work) (i : Nat) : SameBut ps s0 (State.countBurst t w i) := by
  unfold State.countBurst
  have h1 : [.work] ⊆ ps := List.Subset.trans (by decide) hs
  repeat' first
    | with_reducible exact h
    | with_reducible assumption
    | with_reducible refine State.modBurst_keeps ?_ h1 ..
    | split
    | (dsimp only)

theorem State.evict_keeps {ps : List Part} {s0 t : State} (h : SameBut ps s0 t)
    (hs : [.ev, .mem, .acq, .work, .gallery, .trigPins] ⊆ ps) (w : Work) (idx : Nat) (st : Nat) (reason : Nat) :
        SameBut ps s0 (State.evict t w idx st reason) := by
  unfold State.evict
  have h1 : [.work] ⊆ ps := List.Subset.trans (by decide) hs
  have h2 : [.gallery] ⊆ ps := List.Subset.trans (by decide) hs
  have h3 : [.ev, .trigPins] ⊆ ps := List.Subset.trans (by decide) hs
  have h4 : [.mem] ⊆ ps := List.Subset.trans (by decide) hs
  have h5 : [.acq] ⊆ ps := List.Subset.trans (by decide) hs
  repeat' first
    | with_reducible exact h
    | with_reducible assumption
    | with_reducible refine State.countBurst_keeps ?_ h1 ..
    | with_reducible refine State.modGallery_keeps ?_ h2 ..
    | with_reducible refine State.raiseW_keeps ?_ h3 ..
    | with_reducible refine State.unitWrite_keeps ?_ h4 ..
    | with_reducible refine State.modAcq_keeps ?_ h5 ..
    | split
    | (dsimp only)

theorem State.takeEntry_keeps {ps : List Part} {s0 t : State} (h : SameBut ps s0 t)
    (hs : [.ev, .mem, .acq, .work, .gallery, .trigPins] ⊆ ps) (w : Work) : ∀ out,
        State.takeEntry t w = some out → SameBut ps s0 out.2 := by
  have h1 : [.ev, .mem, .acq, .work, .gallery, .trigPins] ⊆ ps := List.Subset.trans (by decide) hs
  intro out e
  unfold State.takeEntry at e
  dsimp only at e
  split at e
  · simp only [Option.map_eq_some_iff] at e
    obtain ⟨x, _, rfl⟩ := e
    exact h
  · split at e
    · split at e
      · cases e
      · simp only [Option.some.injEq] at e
        subst e
        exact State.evict_keeps h h1 _ _ _ _
    · cases e

theorem State.hotSettle_keeps {ps : List Part} {s0 t : State} (h : SameBut ps s0 t)
    (hs : [.ev, .mem, .acq, .work, .gallery, .trigPins] ⊆ ps) (p : Phys) : SameBut ps s0 (State.hotSettle t p) := by
  unfold State.hotSettle
  have h1 : [.ev, .mem, .acq, .work, .gallery, .trigPins] ⊆ ps := List.Subset.trans (by decide) hs
  repeat' first
    | with_reducible exact h
    | with_reducible assumption
    | with_reducible refine State.evict_keeps ?_ h1 ..
    | ((with_reducible refine SameBut.each _ _ ?_ ?_); rotate_left; intro _ _ h; rotate_left)
    | split
    | (dsimp only)

theorem State.writeBack_keeps {ps : List Part} {s0 t : State} (h : SameBut ps s0 t)
    (hs : [.mem, .gallery] ⊆ ps) (e : HotEntry) : SameBut ps s0 (State.writeBack t e) := by
  unfold State.writeBack
  have h1 : [.mem, .gallery] ⊆ ps := List.Subset.trans (by decide) hs
  repeat' first
    | with_reducible exact h
    | with_reducible assumption
    | with_reducible refine State.galleryPut_keeps ?_ h1 ..
    | split
    | (dsimp only)

theorem State.hotClear_keeps {ps : List Part} {s0 t : State} (h : SameBut ps s0 t)
    (hs : [.ev, .mem, .acq, .work, .gallery, .trigPins] ⊆ ps) (p : Phys) : SameBut ps s0 (State.hotClear t p) := by
  unfold State.hotClear
  have h1 : [.ev, .mem, .acq, .work, .gallery, .trigPins] ⊆ ps := List.Subset.trans (by decide) hs
  have h2 : [.mem, .gallery] ⊆ ps := List.Subset.trans (by decide) hs
  have h3 : [.acq] ⊆ ps := List.Subset.trans (by decide) hs
  repeat' first
    | with_reducible exact h
    | with_reducible assumption
    | with_reducible refine State.hotSettle_keeps ?_ h1 ..
    | with_reducible refine State.writeBack_keeps ?_ h2 ..
    | with_reducible refine State.modAcq_keeps ?_ h3 ..
    | ((with_reducible refine SameBut.each _ _ ?_ ?_); rotate_left; intro _ _ h; rotate_left)
    | split
    | (dsimp only)

theorem State.requestFetch_keeps {ps : List Part} {s0 t : State} (h : SameBut ps s0 t)
    (hs : [.gallery] ⊆ ps) (f : Fetch) : SameBut ps s0 (State.requestFetch t f) := by
  unfold State.requestFetch
  have h1 : [.gallery] ⊆ ps := List.Subset.trans (by decide) hs
  repeat' first
    | with_reducible exact h
    | with_reducible assumption
    | with_reducible refine State.modGallery_keeps ?_ h1 ..
    | ((with_reducible refine SameBut.iteKeep ?_ ?_); rotate_left; intro h; rotate_left)
    | split
    | (dsimp only)

theorem State.holdBase_keeps {ps : List Part} {s0 t : State} (h : SameBut ps s0 t)
    (hs : [.rx] ⊆ ps) (p : Phys) (w : Work) : SameBut ps s0 (State.holdBase t p w) := by
  unfold State.holdBase
  have h1 : [.rx] ⊆ ps := List.Subset.trans (by decide) hs
  repeat' first
    | with_reducible exact h
    | with_reducible assumption
    | with_reducible refine State.modRx_keeps ?_ h1 ..
    | ((with_reducible refine SameBut.iteKeep ?_ ?_); rotate_left; intro h; rotate_left)
    | split
    | (dsimp only)

theorem State.toArmed_keeps {ps : List Part} {s0 t : State} (h : SameBut ps s0 t)
    (hs : [.rx, .acq] ⊆ ps) (p : Phys) : SameBut ps s0 (State.toArmed t p) := by
  unfold State.toArmed
  have h1 : [.rx] ⊆ ps := List.Subset.trans (by decide) hs
  have h2 : [.acq] ⊆ ps := List.Subset.trans (by decide) hs
  repeat' first
    | with_reducible exact h
    | with_reducible assumption
    | with_reducible refine State.holdBase_keeps ?_ h1 ..
    | with_reducible refine State.modAcq_keeps ?_ h2 ..
    | split
    | (dsimp only)

theorem State.startPortrait_keeps {ps : List Part} {s0 t : State} (h : SameBut ps s0 t)
    (hs : [.ev, .mem, .acq, .trigPins] ⊆ ps) (p : Phys) (w : Work) (predicted : Nat) :
        SameBut ps s0 (State.startPortrait t p w predicted).2 := by
  unfold State.startPortrait
  have h1 : [.ev, .mem, .acq, .trigPins] ⊆ ps := List.Subset.trans (by decide) hs
  repeat' first
    | with_reducible exact h
    | with_reducible assumption
    | with_reducible refine State.hotRead_keeps ?_ h1 ..
    | ((with_reducible refine SameBut.iteKeep ?_ ?_); rotate_left; intro h; rotate_left)
    | split
    | (dsimp only)

theorem State.loadPortrait_keeps {ps : List Part} {s0 t : State} (h : SameBut ps s0 t)
    (hs : [.rx, .acq] ⊆ ps) (p : Phys) (q : Portrait) : SameBut ps s0 (State.loadPortrait t p q) := by
  unfold State.loadPortrait
  have h1 : [.rx] ⊆ ps := List.Subset.trans (by decide) hs
  have h2 : [.acq] ⊆ ps := List.Subset.trans (by decide) hs
  repeat' first
    | with_reducible exact h
    | with_reducible assumption
    | with_reducible refine State.modRx_keeps ?_ h1 ..
    | with_reducible refine State.modAcq_keeps ?_ h2 ..
    | ((with_reducible refine SameBut.iteKeep ?_ ?_); rotate_left; intro h; rotate_left)
    | split
    | (dsimp only)

theorem State.startBurst_keeps {ps : List Part} {s0 t : State} (h : SameBut ps s0 t)
    (hs : [.ev, .mem, .rx, .acq, .work, .trigPins] ⊆ ps) (p : Phys) (w : Work) (start : BurstStart) (sym :
        Sym) (strength : Int) : SameBut ps s0 (State.startBurst t p w start sym strength) := by
  unfold State.startBurst
  have h1 : [.rx, .acq] ⊆ ps := List.Subset.trans (by decide) hs
  have h2 : [.ev, .mem, .acq, .trigPins] ⊆ ps := List.Subset.trans (by decide) hs
  have h3 : [.acq] ⊆ ps := List.Subset.trans (by decide) hs
  have h4 : [.work] ⊆ ps := List.Subset.trans (by decide) hs
  repeat' first
    | with_reducible exact h
    | with_reducible assumption
    | with_reducible refine State.loadPortrait_keeps ?_ h1 ..
    | with_reducible refine State.startPortrait_keeps ?_ h2 ..
    | with_reducible refine State.modAcq_keeps ?_ h3 ..
    | with_reducible refine State.modBurst_keeps ?_ h4 ..
    | ((with_reducible refine SameBut.iteKeep ?_ ?_); rotate_left; intro h; rotate_left)
    | split
    | (dsimp only)

theorem State.judgeStart_keeps {ps : List Part} {s0 t : State} (h : SameBut ps s0 t)
    (hs : [.ev, .mem, .rx, .acq, .work, .trigPins] ⊆ ps) (p : Phys) (w : Work) (start : BurstStart) (sym :
        Sym) (strength : Int) : SameBut ps s0 (State.judgeStart t p w start sym strength) := by
  unfold State.judgeStart
  have h1 : [.work] ⊆ ps := List.Subset.trans (by decide) hs
  have h2 : [.ev, .trigPins] ⊆ ps := List.Subset.trans (by decide) hs
  have h3 : [.ev, .mem, .rx, .acq, .work, .trigPins] ⊆ ps := List.Subset.trans (by decide) hs
  have h4 : [.acq] ⊆ ps := List.Subset.trans (by decide) hs
  repeat' first
    | with_reducible exact h
    | with_reducible assumption
    | with_reducible refine State.countBurst_keeps ?_ h1 ..
    | with_reducible refine State.raiseP_keeps ?_ h2 ..
    | with_reducible refine State.startBurst_keeps ?_ h3 ..
    | with_reducible refine State.modAcq_keeps ?_ h4 ..
    | ((with_reducible refine SameBut.iteKeep ?_ ?_); rotate_left; intro h; rotate_left)
    | split
    | (dsimp only)

theorem State.refine_keeps {ps : List Part} {s0 t : State} (h : SameBut ps s0 t)
    (hs : [.rx, .acq, .work] ⊆ ps) (p : Phys) (w : Work) (phase : BitVec 10) (freq : Int) (dgain : Int) :
        SameBut ps s0 (State.refine t p w phase freq dgain) := by
  unfold State.refine
  have h1 : [.work] ⊆ ps := List.Subset.trans (by decide) hs
  have h2 : [.rx] ⊆ ps := List.Subset.trans (by decide) hs
  have h3 : [.acq] ⊆ ps := List.Subset.trans (by decide) hs
  repeat' first
    | with_reducible exact h
    | with_reducible assumption
    | with_reducible refine State.countBurst_keeps ?_ h1 ..
    | with_reducible refine State.modRx_keeps ?_ h2 ..
    | with_reducible refine State.modAcq_keeps ?_ h3 ..
    | ((with_reducible refine SameBut.iteKeep ?_ ?_); rotate_left; intro h; rotate_left)
    | split
    | (dsimp only)

theorem State.unlockBurst_keeps {ps : List Part} {s0 t : State} (h : SameBut ps s0 t)
    (hs : [.ev, .mem, .acq, .work, .gallery, .trigPins] ⊆ ps) (p : Phys) (w : Work) (b : Burst) :
        SameBut ps s0 (State.unlockBurst t p w b) := by
  unfold State.unlockBurst
  have h1 : [.ev, .mem, .acq, .work, .gallery, .trigPins] ⊆ ps := List.Subset.trans (by decide) hs
  have h2 : [.acq] ⊆ ps := List.Subset.trans (by decide) hs
  repeat' first
    | with_reducible exact h
    | with_reducible assumption
    | with_reducible refine State.hotSettle_keeps ?_ h1 ..
    | with_reducible refine State.modAcq_keeps ?_ h2 ..
    | ((with_reducible refine SameBut.iteKeep ?_ ?_); rotate_left; intro h; rotate_left)
    | split
    | (dsimp only)

theorem State.endJob_keeps {ps : List Part} {s0 t : State} (h : SameBut ps s0 t)
    (hs : [.rx] ⊆ ps) (p : Phys) (b : Burst) : SameBut ps s0 (State.endJob t p b) := by
  unfold State.endJob
  have h1 : [.rx] ⊆ ps := List.Subset.trans (by decide) hs
  repeat' first
    | with_reducible exact h
    | with_reducible assumption
    | with_reducible refine State.modRx_keeps ?_ h1 ..
    | ((with_reducible refine SameBut.iteKeep ?_ ?_); rotate_left; intro h; rotate_left)
    | split
    | (dsimp only)

theorem State.addJob_keeps {ps : List Part} {s0 t : State} (h : SameBut ps s0 t)
    (hs : [.rx] ⊆ ps) (p : Phys) (b : Burst) : SameBut ps s0 (State.addJob t p b) := by
  unfold State.addJob
  have h1 : [.rx] ⊆ ps := List.Subset.trans (by decide) hs
  repeat' first
    | with_reducible exact h
    | with_reducible assumption
    | with_reducible refine State.modRx_keeps ?_ h1 ..
    | split
    | (dsimp only)

theorem State.reportBurst_keeps {ps : List Part} {s0 t : State} (h : SameBut ps s0 t)
    (hs : [.ev, .mem, .rx, .acq, .work, .gallery, .trigPins] ⊆ ps) (p : Phys) (w : Work) (b : Burst) (outcome :
        Nat) (isNew : Bool) : SameBut ps s0 (State.reportBurst t p w b outcome isNew) := by
  unfold State.reportBurst
  have h1 : [.work] ⊆ ps := List.Subset.trans (by decide) hs
  have h2 : [.rx] ⊆ ps := List.Subset.trans (by decide) hs
  have h3 : [.ev, .trigPins] ⊆ ps := List.Subset.trans (by decide) hs
  have h4 : [.mem] ⊆ ps := List.Subset.trans (by decide) hs
  have h5 : [.ev, .mem, .acq, .work, .gallery, .trigPins] ⊆ ps := List.Subset.trans (by decide) hs
  repeat' first
    | with_reducible exact h
    | with_reducible assumption
    | with_reducible refine State.countBurst_keeps ?_ h1 ..
    | with_reducible refine State.endJob_keeps ?_ h2 ..
    | with_reducible refine State.raiseP_keeps ?_ h3 ..
    | with_reducible refine State.unitWrite_keeps ?_ h4 ..
    | with_reducible refine State.unlockBurst_keeps ?_ h5 ..
    | with_reducible refine State.modBurst_keeps ?_ h1 ..
    | split
    | (dsimp only)

theorem State.reportSender_keeps {ps : List Part} {s0 t : State} (h : SameBut ps s0 t)
    (hs : [.mem, .work] ⊆ ps) (w : Work) (b : Burst) (outcome : Nat) : SameBut ps s0 (State.reportSender t w b outcome) := by
  unfold State.reportSender
  have h1 : [.mem, .work] ⊆ ps := List.Subset.trans (by decide) hs
  repeat' first
    | with_reducible exact h
    | with_reducible assumption
    | with_reducible refine State.sendLink_keeps ?_ h1 ..
    | split
    | (dsimp only)

theorem State.startDelin_keeps {ps : List Part} {s0 t : State} (h : SameBut ps s0 t)
    (hs : [.sess, .ev, .mem, .dec, .work, .group, .trigPins] ⊆ ps) (p : Phys) : SameBut ps s0 (State.startDelin t p) := by
  unfold State.startDelin
  have h1 : [.sess, .ev, .mem, .dec, .work, .group, .trigPins] ⊆ ps := List.Subset.trans (by decide) hs
  have h2 : [.dec] ⊆ ps := List.Subset.trans (by decide) hs
  repeat' first
    | with_reducible exact h
    | with_reducible assumption
    | with_reducible refine State.loseSketches_keeps ?_ h1 ..
    | with_reducible refine State.modDec_keeps ?_ h2 ..
    | ((with_reducible refine SameBut.iteKeep ?_ ?_); rotate_left; intro h; rotate_left)
    | split
    | (dsimp only)

theorem State.settleReplaying_keeps {ps : List Part} {s0 t : State} (h : SameBut ps s0 t)
    (hs : [.rx] ⊆ ps) (p : Phys) : SameBut ps s0 (State.settleReplaying t p) := by
  unfold State.settleReplaying
  have h1 : [.rx] ⊆ ps := List.Subset.trans (by decide) hs
  repeat' first
    | with_reducible exact h
    | with_reducible assumption
    | with_reducible refine State.modRx_keeps ?_ h1 ..
    | split
    | (dsimp only)

theorem State.endCurrent_keeps {ps : List Part} {s0 t : State} (h : SameBut ps s0 t)
    (hs : [.sess, .ev, .mem, .rx, .acq, .dec, .work, .gallery, .group, .trigPins] ⊆ ps) (p : Phys) (outcome : Nat) :
        SameBut ps s0 (State.endCurrent t p outcome) := by
  unfold State.endCurrent
  have h1 : [.ev, .mem, .rx, .acq, .work, .gallery, .trigPins] ⊆ ps := List.Subset.trans (by decide) hs
  have h2 : [.rx] ⊆ ps := List.Subset.trans (by decide) hs
  have h3 : [.sess, .ev, .mem, .dec, .work, .group, .trigPins] ⊆ ps := List.Subset.trans (by decide) hs
  have h4 : [.rx, .acq] ⊆ ps := List.Subset.trans (by decide) hs
  have h5 : [.acq] ⊆ ps := List.Subset.trans (by decide) hs
  repeat' first
    | with_reducible exact h
    | with_reducible assumption
    | with_reducible refine State.reportBurst_keeps ?_ h1 ..
    | with_reducible refine State.settleReplaying_keeps ?_ h2 ..
    | with_reducible refine State.startDelin_keeps ?_ h3 ..
    | with_reducible refine State.toArmed_keeps ?_ h4 ..
    | with_reducible refine State.modAcq_keeps ?_ h5 ..
    | ((with_reducible refine SameBut.iteKeep ?_ ?_); rotate_left; intro h; rotate_left)
    | split
    | (dsimp only)

theorem State.abandonBursts_keeps {ps : List Part} {s0 t : State} (h : SameBut ps s0 t)
    (hs : [.sess, .ev, .mem, .rx, .acq, .dec, .work, .gallery, .group, .trigPins] ⊆ ps) (p : Phys) :
        SameBut ps s0 (State.abandonBursts t p) := by
  unfold State.abandonBursts
  have h1 : [.sess, .ev, .mem, .rx, .acq, .dec, .work, .gallery, .group, .trigPins] ⊆ ps := List.Subset.trans (by decide) hs
  have h2 : [.ev, .mem, .rx, .acq, .work, .gallery, .trigPins] ⊆ ps := List.Subset.trans (by decide) hs
  have h3 : [.sess, .ev, .mem, .work, .group, .trigPins] ⊆ ps := List.Subset.trans (by decide) hs
  have h4 : [.rx] ⊆ ps := List.Subset.trans (by decide) hs
  have h5 : [.sess, .ev, .mem, .dec, .work, .group, .trigPins] ⊆ ps := List.Subset.trans (by decide) hs
  have h6 : [.acq] ⊆ ps := List.Subset.trans (by decide) hs
  repeat' first
    | with_reducible exact h
    | with_reducible assumption
    | with_reducible refine State.endCurrent_keeps ?_ h1 ..
    | with_reducible refine State.reportBurst_keeps ?_ h2 ..
    | with_reducible refine State.scrapeAll_keeps ?_ h3 ..
    | with_reducible refine State.settleReplaying_keeps ?_ h4 ..
    | with_reducible refine State.startDelin_keeps ?_ h5 ..
    | with_reducible refine State.modAcq_keeps ?_ h6 ..
    | ((with_reducible refine SameBut.iteKeep ?_ ?_); rotate_left; intro h; rotate_left)
    | ((with_reducible refine SameBut.each _ _ ?_ ?_); rotate_left; intro _ _ h; rotate_left)
    | split
    | (dsimp only)

theorem State.endBurst_keeps {ps : List Part} {s0 t : State} (h : SameBut ps s0 t)
    (hs : [.sess, .ev, .mem, .rx, .acq, .dec, .work, .gallery, .group, .trigPins] ⊆ ps) (p : Phys) (w : Work) (b :
        Burst) (outcome : Nat) : SameBut ps s0 (State.endBurst t p w b outcome) := by
  unfold State.endBurst
  have h1 : [.sess, .ev, .mem, .rx, .acq, .dec, .work, .gallery, .group, .trigPins] ⊆ ps := List.Subset.trans (by decide) hs
  have h2 : [.ev, .mem, .rx, .acq, .work, .gallery, .trigPins] ⊆ ps := List.Subset.trans (by decide) hs
  have h3 : [.rx] ⊆ ps := List.Subset.trans (by decide) hs
  have h4 : [.sess, .ev, .mem, .dec, .work, .group, .trigPins] ⊆ ps := List.Subset.trans (by decide) hs
  have h5 : [.acq] ⊆ ps := List.Subset.trans (by decide) hs
  repeat' first
    | with_reducible exact h
    | with_reducible assumption
    | with_reducible refine State.endCurrent_keeps ?_ h1 ..
    | with_reducible refine State.reportBurst_keeps ?_ h2 ..
    | with_reducible refine State.settleReplaying_keeps ?_ h3 ..
    | with_reducible refine State.startDelin_keeps ?_ h4 ..
    | with_reducible refine State.modAcq_keeps ?_ h5 ..
    | ((with_reducible refine SameBut.iteKeep ?_ ?_); rotate_left; intro h; rotate_left)
    | split
    | (dsimp only)

theorem State.modPortrait_keeps {ps : List Part} {s0 t : State} (h : SameBut ps s0 t)
    (hs : [.mem, .acq, .gallery] ⊆ ps) (w : Work) (st : Nat) (word : Nat) (len : Nat) (f : Portrait → Portrait) :
        SameBut ps s0 (State.modPortrait t w st word len f) := by
  unfold State.modPortrait
  have h1 : [.mem, .gallery] ⊆ ps := List.Subset.trans (by decide) hs
  have h2 : [.mem] ⊆ ps := List.Subset.trans (by decide) hs
  have h3 : [.acq] ⊆ ps := List.Subset.trans (by decide) hs
  repeat' first
    | with_reducible exact h
    | with_reducible assumption
    | with_reducible refine State.galleryPut_keeps ?_ h1 ..
    | with_reducible refine State.unitWrite_keeps ?_ h2 ..
    | with_reducible refine State.modAcq_keeps ?_ h3 ..
    | ((with_reducible refine SameBut.iteKeep ?_ ?_); rotate_left; intro h; rotate_left)
    | split
    | (dsimp only)

theorem State.markPortrait_keeps {ps : List Part} {s0 t : State} (h : SameBut ps s0 t)
    (hs : [.ev, .mem, .acq, .gallery, .trigPins] ⊆ ps) (w : Work) (st : Nat) (word : Nat) (f : Portrait → Portrait) :
        SameBut ps s0 (State.markPortrait t w st word f).2 := by
  unfold State.markPortrait
  have h1 : [.gallery] ⊆ ps := List.Subset.trans (by decide) hs
  have h2 : [.ev, .mem, .trigPins] ⊆ ps := List.Subset.trans (by decide) hs
  have h3 : [.acq] ⊆ ps := List.Subset.trans (by decide) hs
  repeat' first
    | with_reducible exact h
    | with_reducible assumption
    | with_reducible refine State.modGallery_keeps ?_ h1 ..
    | with_reducible refine State.sramPartial_keeps ?_ h2 ..
    | with_reducible refine State.modAcq_keeps ?_ h3 ..
    | ((with_reducible refine SameBut.iteKeep ?_ ?_); rotate_left; intro h; rotate_left)
    | split
    | (dsimp only)

theorem State.setFails_keeps {ps : List Part} {s0 t : State} (h : SameBut ps s0 t)
    (hs : [.ev, .mem, .acq, .gallery, .trigPins] ⊆ ps) (w : Work) (st : Nat) (n : Nat) :
        SameBut ps s0 (State.setFails t w st n) := by
  unfold State.setFails
  have h1 : [.ev, .mem, .acq, .gallery, .trigPins] ⊆ ps := List.Subset.trans (by decide) hs
  repeat' first
    | with_reducible exact h
    | with_reducible assumption
    | with_reducible refine State.markPortrait_keeps ?_ h1 ..
    | split
    | (dsimp only)

theorem State.hotCommit_keeps {ps : List Part} {s0 t : State} (h : SameBut ps s0 t)
    (hs : [.mem, .acq] ⊆ ps) (p : Phys) (w : Work) (q : Portrait) : SameBut ps s0 (State.hotCommit t p w q) := by
  unfold State.hotCommit
  have h1 : [.mem, .acq] ⊆ ps := List.Subset.trans (by decide) hs
  repeat' first
    | with_reducible exact h
    | with_reducible assumption
    | with_reducible refine State.hotStore_keeps ?_ h1 ..
    | split
    | (dsimp only)

theorem State.commit_keeps {ps : List Part} {s0 t : State} (h : SameBut ps s0 t)
    (hs : [.ev, .mem, .acq, .work, .gallery, .trigPins] ⊆ ps) (p : Phys) (w : Work) (b : Burst) (d :
        Option (Nat × BitVec 42)) : SameBut ps s0 (State.commit t p w b d).2 := by
  unfold State.commit
  have h1 : [.work] ⊆ ps := List.Subset.trans (by decide) hs
  have h2 : [.mem, .gallery] ⊆ ps := List.Subset.trans (by decide) hs
  have h3 : [.mem, .acq] ⊆ ps := List.Subset.trans (by decide) hs
  have h4 : [.ev, .mem, .acq, .trigPins] ⊆ ps := List.Subset.trans (by decide) hs
  have h5 : [.ev, .trigPins] ⊆ ps := List.Subset.trans (by decide) hs
  have h6 : [.ev, .mem, .acq, .work, .gallery, .trigPins] ⊆ ps := List.Subset.trans (by decide) hs
  have h7 : [.mem] ⊆ ps := List.Subset.trans (by decide) hs
  repeat' first
    | with_reducible exact h
    | with_reducible assumption
    | with_reducible refine State.countBurst_keeps ?_ h1 ..
    | with_reducible refine State.galleryPut_keeps ?_ h2 ..
    | with_reducible refine State.hotCommit_keeps ?_ h3 ..
    | with_reducible refine State.hotRead_keeps ?_ h4 ..
    | with_reducible refine State.raiseP_keeps ?_ h5 ..
    | with_reducible refine State.unitWrite_keeps ?_ h7 ..
    | ((with_reducible refine SameBut.iteKeep ?_ ?_); rotate_left; intro h; rotate_left)
    | split
    | (dsimp only)
    | (rename_i heq _ _; with_reducible refine SameBut.pair (State.takeEntry_keeps ?_ (List.Subset.trans (by decide) hs) _ _ heq))
    | (rename_i heq _; with_reducible refine SameBut.pair (State.takeEntry_keeps ?_ (List.Subset.trans (by decide) hs) _ _ heq))
    | (rename_i heq; with_reducible refine SameBut.pair (State.takeEntry_keeps ?_ (List.Subset.trans (by decide) hs) _ _ heq))

theorem State.failPortrait_keeps {ps : List Part} {s0 t : State} (h : SameBut ps s0 t)
    (hs : [.ev, .mem, .acq, .work, .gallery, .trigPins] ⊆ ps) (w : Work) (b : Burst) :
        SameBut ps s0 (State.failPortrait t w b).2 := by
  unfold State.failPortrait
  have h1 : [.ev, .mem, .acq, .work, .gallery, .trigPins] ⊆ ps := List.Subset.trans (by decide) hs
  have h2 : [.ev, .mem, .acq, .gallery, .trigPins] ⊆ ps := List.Subset.trans (by decide) hs
  repeat' first
    | with_reducible exact h
    | with_reducible assumption
    | with_reducible refine State.evict_keeps ?_ h1 ..
    | with_reducible refine State.setFails_keeps ?_ h2 ..
    | ((with_reducible refine SameBut.iteKeep ?_ ?_); rotate_left; intro h; rotate_left)
    | split
    | (dsimp only)

theorem State.readImage_keeps {ps : List Part} {s0 t : State} (h : SameBut ps s0 t)
    (hs : [.ev, .mem, .work, .group, .trigPins] ⊆ ps) (w : Work) (k : Nat) (i : Image) (bad :
        Option (Nat × Nat × BitVec 42)) : SameBut ps s0 (State.readImage t w k i bad).2 := by
  unfold State.readImage
  have h1 : [.ev, .work, .group, .trigPins] ⊆ ps := List.Subset.trans (by decide) hs
  have h2 : [.ev, .mem, .trigPins] ⊆ ps := List.Subset.trans (by decide) hs
  repeat' first
    | with_reducible exact h
    | with_reducible assumption
    | with_reducible refine State.retentionLoss_keeps ?_ h1 ..
    | with_reducible refine State.unitRead_keeps ?_ h2 ..
    | ((with_reducible refine SameBut.iteKeep ?_ ?_); rotate_left; intro h; rotate_left)
    | split
    | (dsimp only)

theorem State.sendRun_keeps {ps : List Part} {s0 t : State} (h : SameBut ps s0 t)
    (hs : [.ev, .mem, .tx, .work, .group, .trigPins] ⊆ ps) (w : Work) (p : Phys) (limit : Nat) (pos : Nat) (k :
        Nat) (bad : Option (Nat × Nat × BitVec 42)) (sent : List LineFrame) (r0 : List Image) : SameBut ps s0 (State.sendRun t w p limit pos k bad sent r0).2.2 := by
  have h1 : [.work] ⊆ ps := List.Subset.trans (by decide) hs
  have h2 : [.ev, .mem, .work, .group, .trigPins] ⊆ ps := List.Subset.trans (by decide) hs
  have h3 : [.tx] ⊆ ps := List.Subset.trans (by decide) hs
  induction r0 generalizing t pos k sent with
  | nil => unfold State.sendRun; (first | (with_reducible exact h) | exact State.modPort_keeps h hs _ _ | exact h | (intro out e; cases e; exact h))
  | cons _ _ ih =>
    unfold State.sendRun
    repeat' first
      | with_reducible exact h
      | with_reducible assumption
      | with_reducible refine ih ?_ ..
      | with_reducible refine State.ackSent_keeps ?_ h1 ..
      | with_reducible refine State.markSent_keeps ?_ h1 ..
      | with_reducible refine State.readImage_keeps ?_ h2 ..
      | with_reducible refine State.modTxDiag_keeps ?_ h3 ..
      | ((with_reducible refine SameBut.iteKeep ?_ ?_); rotate_left; intro h; rotate_left)
      | split
      | (dsimp only)

theorem State.endRun_keeps {ps : List Part} {s0 t : State} (h : SameBut ps s0 t)
    (hs : [.ev, .mem, .tx, .work, .group, .trigPins] ⊆ ps) (p : Phys) (limit : Nat) (cw : Nat) (bad :
        Option (Nat × Nat × BitVec 42)) : SameBut ps s0 (State.endRun t p limit cw bad) := by
  unfold State.endRun
  have h1 : [.work] ⊆ ps := List.Subset.trans (by decide) hs
  have h2 : [.ev, .mem, .tx, .work, .group, .trigPins] ⊆ ps := List.Subset.trans (by decide) hs
  have h3 : [.tx] ⊆ ps := List.Subset.trans (by decide) hs
  repeat' first
    | with_reducible exact h
    | with_reducible assumption
    | with_reducible refine State.ackSent_keeps ?_ h1 ..
    | with_reducible refine State.sendRun_keeps ?_ h2 ..
    | with_reducible refine State.modTx_keeps ?_ h3 ..
    | with_reducible refine State.modTxDiag_keeps ?_ h3 ..
    | ((with_reducible refine SameBut.iteKeep ?_ ?_); rotate_left; intro h; rotate_left)
    | (refine SameBut.mod h ?_; (intro q hq; cases q <;> first | exact rfl | exact absurd (hs (by decide)) hq))
    | split
    | (dsimp only)

theorem State.cutRun_keeps {ps : List Part} {s0 t : State} (h : SameBut ps s0 t)
    (hs : [.ev, .mem, .tx, .work, .group, .trigPins] ⊆ ps) (p : Phys) : SameBut ps s0 (State.cutRun t p) := by
  unfold State.cutRun
  have h1 : [.tx] ⊆ ps := List.Subset.trans (by decide) hs
  have h2 : [.ev, .mem, .tx, .work, .group, .trigPins] ⊆ ps := List.Subset.trans (by decide) hs
  repeat' first
    | with_reducible exact h
    | with_reducible assumption
    | with_reducible refine State.endLine_keeps ?_ h1 ..
    | with_reducible refine State.endRun_keeps ?_ h2 ..
    | with_reducible refine State.putLine_keeps ?_ h1 ..
    | with_reducible refine State.modTx_keeps ?_ h1 ..
    | ((with_reducible refine SameBut.iteKeep ?_ ?_); rotate_left; intro h; rotate_left)
    | (refine SameBut.mod h ?_; (intro q hq; cases q <;> first | exact rfl | exact absurd (hs (by decide)) hq))
    | split
    | (dsimp only)

theorem State.endTrain_keeps {ps : List Part} {s0 t : State} (h : SameBut ps s0 t)
    (hs : [.sess, .ev, .lane, .trigPins] ⊆ ps) (p : Phys) (st : TrainStatus) (r : Result) (detail : Nat) :
        SameBut ps s0 (State.endTrain t p st r detail) := by
  unfold State.endTrain
  have h1 : [.sess, .ev, .trigPins] ⊆ ps := List.Subset.trans (by decide) hs
  have h2 : [.lane] ⊆ ps := List.Subset.trans (by decide) hs
  repeat' first
    | with_reducible exact h
    | with_reducible assumption
    | with_reducible refine State.answer_keeps ?_ h1 ..
    | with_reducible refine State.modLane_keeps ?_ h2 ..
    | split
    | (dsimp only)

theorem State.calAbort_keeps {ps : List Part} {s0 t : State} (h : SameBut ps s0 t)
    (hs : [.ev, .rx, .trigPins, .cal] ⊆ ps) (p : Phys) : SameBut ps s0 (State.calAbort t p) := by
  unfold State.calAbort
  have h1 : [.ev, .rx, .trigPins] ⊆ ps := List.Subset.trans (by decide) hs
  have h2 : [.ev, .trigPins] ⊆ ps := List.Subset.trans (by decide) hs
  have h3 : [.cal] ⊆ ps := List.Subset.trans (by decide) hs
  repeat' first
    | with_reducible exact h
    | with_reducible assumption
    | with_reducible refine State.calCancel_keeps ?_ h1 ..
    | with_reducible refine State.raise_keeps ?_ h2 ..
    | with_reducible refine State.modCal_keeps ?_ h3 ..
    | with_reducible refine State.modCalLane_keeps ?_ h3 ..
    | ((with_reducible refine SameBut.iteKeep ?_ ?_); rotate_left; intro h; rotate_left)
    | split
    | (dsimp only)

theorem State.physMode_keeps {ps : List Part} {s0 t : State} (h : SameBut ps s0 t)
    (hs : [.sess, .ev, .power, .mem, .lane, .rx, .acq, .dec, .tx, .work, .gallery, .group, .bias, .trigPins,
        .cal] ⊆ ps) (p : Phys) (new : LaneMode) : SameBut ps s0 (State.physMode t p new) := by
  unfold State.physMode
  have h1 : [.sess, .ev, .mem, .rx, .acq, .dec, .work, .gallery, .group, .trigPins] ⊆ ps := List.Subset.trans (by decide) hs
  have h2 : [.sess, .ev, .mem, .dec, .work, .group, .trigPins] ⊆ ps := List.Subset.trans (by decide) hs
  have h3 : [.ev, .rx, .trigPins, .cal] ⊆ ps := List.Subset.trans (by decide) hs
  have h4 : [.ev, .mem, .tx, .work, .group, .trigPins] ⊆ ps := List.Subset.trans (by decide) hs
  have h5 : [.ev, .power, .lane, .bias, .trigPins] ⊆ ps := List.Subset.trans (by decide) hs
  have h6 : [.ev, .mem, .acq, .work, .gallery, .trigPins] ⊆ ps := List.Subset.trans (by decide) hs
  have h7 : [.ev, .rx, .trigPins] ⊆ ps := List.Subset.trans (by decide) hs
  have h8 : [.ev, .tx, .work, .trigPins] ⊆ ps := List.Subset.trans (by decide) hs
  have h9 : [.lane] ⊆ ps := List.Subset.trans (by decide) hs
  have h10 : [.acq] ⊆ ps := List.Subset.trans (by decide) hs
  repeat' first
    | with_reducible exact h
    | with_reducible assumption
    | with_reducible refine State.abandonBursts_keeps ?_ h1 ..
    | with_reducible refine State.amDrop_keeps ?_ h2 ..
    | with_reducible refine State.calAbort_keeps ?_ h3 ..
    | with_reducible refine State.cutRun_keeps ?_ h4 ..
    | with_reducible refine State.fitPower_keeps ?_ h5 ..
    | with_reducible refine State.hotSettle_keeps ?_ h6 ..
    | with_reducible refine State.rxMode_keeps ?_ h7 ..
    | with_reducible refine State.txMode_keeps ?_ h8 ..
    | with_reducible refine State.modLane_keeps ?_ h9 ..
    | with_reducible refine State.modAcq_keeps ?_ h10 ..
    | ((with_reducible refine SameBut.iteKeep ?_ ?_); rotate_left; intro h; rotate_left)
    | split
    | (dsimp only)

theorem State.workMode_keeps {ps : List Part} {s0 t : State} (h : SameBut ps s0 t)
    (hs : [.work, .group, .free] ⊆ ps) (w : Work) (old : LaneMode) (new : LaneMode) :
        SameBut ps s0 (State.workMode t w old new) := by
  unfold State.workMode
  have h1 : [.group] ⊆ ps := List.Subset.trans (by decide) hs
  have h2 : [.work] ⊆ ps := List.Subset.trans (by decide) hs
  have h3 : [.free] ⊆ ps := List.Subset.trans (by decide) hs
  repeat' first
    | with_reducible exact h
    | with_reducible assumption
    | with_reducible refine State.grant_keeps ?_ h1 ..
    | with_reducible refine State.modChan_keeps ?_ h1 ..
    | with_reducible refine State.modWork_keeps ?_ h2 ..
    | with_reducible refine SameBut.drawKeeps ?_ h3
    | ((with_reducible refine SameBut.iteKeep ?_ ?_); rotate_left; intro h; rotate_left)
    | split
    | (dsimp only)

theorem State.leaveDark_keeps {ps : List Part} {s0 t : State} (h : SameBut ps s0 t)
    (hs : [.sess, .ev, .core, .power, .mem, .lane, .rx, .acq, .dec, .tx, .work, .gallery, .group, .bias, .trigPins,
        .cal] ⊆ ps) (p : Phys) : SameBut ps s0 (State.leaveDark t p) := by
  unfold State.leaveDark
  have h1 : [.ev, .lane, .trigPins] ⊆ ps := List.Subset.trans (by decide) hs
  have h2 : [.sess, .ev, .core, .power, .mem, .lane, .rx, .acq, .dec, .tx, .work, .gallery, .group, .bias, .trigPins,
      .cal] ⊆ ps := List.Subset.trans (by decide) hs
  have h3 : [.lane] ⊆ ps := List.Subset.trans (by decide) hs
  repeat' first
    | with_reducible exact h
    | with_reducible assumption
    | with_reducible refine State.abortLaneEntry_keeps ?_ h1 ..
    | with_reducible refine State.groupFromOff_keeps ?_ h2 ..
    | with_reducible refine State.modLane_keeps ?_ h3 ..
    | ((with_reducible refine SameBut.iteKeep ?_ ?_); rotate_left; intro h; rotate_left)
    | split
    | (dsimp only)

theorem State.setMode_keeps {ps : List Part} {s0 t : State} (h : SameBut ps s0 t)
    (hs : [.sess, .ev, .core, .power, .mem, .lane, .rx, .acq, .dec, .tx, .work, .gallery, .group, .bias, .trigPins, .cal,
        .free] ⊆ ps) (p : Phys) (new : LaneMode) : SameBut ps s0 (State.setMode t p new) := by
  unfold State.setMode
  have h1 : [.rx] ⊆ ps := List.Subset.trans (by decide) hs
  have h2 : [.sess, .ev, .core, .power, .mem, .lane, .rx, .acq, .dec, .tx, .work, .gallery, .group, .bias, .trigPins,
      .cal] ⊆ ps := List.Subset.trans (by decide) hs
  have h3 : [.sess, .ev, .power, .mem, .lane, .rx, .acq, .dec, .tx, .work, .gallery, .group, .bias, .trigPins,
      .cal] ⊆ ps := List.Subset.trans (by decide) hs
  have h4 : [.sess, .ev, .mem, .work, .group, .trigPins] ⊆ ps := List.Subset.trans (by decide) hs
  have h5 : [.work, .group, .free] ⊆ ps := List.Subset.trans (by decide) hs
  have h6 : [.lane] ⊆ ps := List.Subset.trans (by decide) hs
  repeat' first
    | with_reducible exact h
    | with_reducible assumption
    | with_reducible refine State.holdBase_keeps ?_ h1 ..
    | with_reducible refine State.leaveDark_keeps ?_ h2 ..
    | with_reducible refine State.physMode_keeps ?_ h3 ..
    | with_reducible refine State.scrapeAll_keeps ?_ h4 ..
    | with_reducible refine State.workMode_keeps ?_ h5 ..
    | with_reducible refine State.modLane_keeps ?_ h6 ..
    | ((with_reducible refine SameBut.iteKeep ?_ ?_); rotate_left; intro h; rotate_left)
    | ((with_reducible refine SameBut.each _ _ ?_ ?_); rotate_left; intro _ _ h; rotate_left)
    | split
    | (dsimp only)

theorem State.trainFails_keeps {ps : List Part} {s0 t : State} (h : SameBut ps s0 t)
    (hs : [.sess, .ev, .core, .power, .mem, .lane, .rx, .acq, .dec, .tx, .work, .gallery, .group, .bias, .trigPins, .cal,
        .free] ⊆ ps) (p : Phys) (r : Result) (detail : Nat) : SameBut ps s0 (State.trainFails t p r detail) := by
  unfold State.trainFails
  have h1 : [.sess, .ev, .lane, .trigPins] ⊆ ps := List.Subset.trans (by decide) hs
  have h2 : [.ev, .trigPins] ⊆ ps := List.Subset.trans (by decide) hs
  have h3 : [.sess, .ev, .core, .power, .mem, .lane, .rx, .acq, .dec, .tx, .work, .gallery, .group, .bias, .trigPins,
      .cal, .free] ⊆ ps := List.Subset.trans (by decide) hs
  have h4 : [.lane] ⊆ ps := List.Subset.trans (by decide) hs
  have h5 : [.tx] ⊆ ps := List.Subset.trans (by decide) hs
  repeat' first
    | with_reducible exact h
    | with_reducible assumption
    | with_reducible refine State.endTrain_keeps ?_ h1 ..
    | with_reducible refine State.raiseP_keeps ?_ h2 ..
    | with_reducible refine State.setMode_keeps ?_ h3 ..
    | with_reducible refine State.modLane_keeps ?_ h4 ..
    | with_reducible refine State.modTx_keeps ?_ h5 ..
    | ((with_reducible refine SameBut.iteKeep ?_ ?_); rotate_left; intro h; rotate_left)
    | (refine SameBut.mod h ?_; (intro q hq; cases q <;> first | exact rfl | exact absurd (hs (by decide)) hq))
    | split
    | (dsimp only)

theorem State.cutTraining_keeps {ps : List Part} {s0 t : State} (h : SameBut ps s0 t)
    (hs : [.sess, .ev, .core, .power, .mem, .lane, .rx, .acq, .dec, .tx, .work, .gallery, .group, .bias, .trigPins, .cal,
        .free] ⊆ ps) (p : Phys) : SameBut ps s0 (State.cutTraining t p) := by
  unfold State.cutTraining
  have h1 : [.sess, .ev, .core, .power, .mem, .lane, .rx, .acq, .dec, .tx, .work, .gallery, .group, .bias, .trigPins,
      .cal, .free] ⊆ ps := List.Subset.trans (by decide) hs
  repeat' first
    | with_reducible exact h
    | with_reducible assumption
    | with_reducible refine State.trainFails_keeps ?_ h1 ..
    | ((with_reducible refine SameBut.iteKeep ?_ ?_); rotate_left; intro h; rotate_left)
    | split
    | (dsimp only)

theorem State.finishChange_keeps {ps : List Part} {s0 t : State} (h : SameBut ps s0 t)
    (hs : [.sess, .ev, .core, .power, .mem, .lane, .rx, .acq, .dec, .tx, .work, .gallery, .group, .bias, .trigPins, .cal,
        .free] ⊆ ps) (p : Phys) (target : LaneMode) (k : Option Sess) : SameBut ps s0 (State.finishChange t p target k) := by
  unfold State.finishChange
  have h1 : [.sess, .ev, .trigPins] ⊆ ps := List.Subset.trans (by decide) hs
  have h2 : [.sess, .ev, .core, .power, .mem, .lane, .rx, .acq, .dec, .tx, .work, .gallery, .group, .bias, .trigPins,
      .cal, .free] ⊆ ps := List.Subset.trans (by decide) hs
  have h3 : [.lane] ⊆ ps := List.Subset.trans (by decide) hs
  repeat' first
    | with_reducible exact h
    | with_reducible assumption
    | with_reducible refine State.answerOpt_keeps ?_ h1 ..
    | with_reducible refine State.setMode_keeps ?_ h2 ..
    | with_reducible refine State.modLane_keeps ?_ h3 ..
    | split
    | (dsimp only)

theorem State.settleBurstEnd_keeps {ps : List Part} {s0 t : State} (h : SameBut ps s0 t)
    (hs : [.sess, .ev, .core, .power, .mem, .lane, .rx, .acq, .dec, .tx, .work, .gallery, .group, .bias, .trigPins, .cal,
        .free] ⊆ ps) (p : Phys) : SameBut ps s0 (State.settleBurstEnd t p) := by
  unfold State.settleBurstEnd
  have h1 : [.sess, .ev, .core, .power, .mem, .lane, .rx, .acq, .dec, .tx, .work, .gallery, .group, .bias, .trigPins,
      .cal, .free] ⊆ ps := List.Subset.trans (by decide) hs
  repeat' first
    | with_reducible exact h
    | with_reducible assumption
    | with_reducible refine State.finishChange_keeps ?_ h1 ..
    | ((with_reducible refine SameBut.iteKeep ?_ ?_); rotate_left; intro h; rotate_left)
    | split
    | (dsimp only)

theorem State.inherit_keeps {ps : List Part} {s0 t : State} (h : SameBut ps s0 t)
    (hs : [.ev, .mem, .acq, .gallery, .trigPins] ⊆ ps) (w : Work) : SameBut ps s0 (State.inherit t w) := by
  unfold State.inherit
  have h1 : [.ev, .mem, .acq, .gallery, .trigPins] ⊆ ps := List.Subset.trans (by decide) hs
  repeat' first
    | with_reducible exact h
    | with_reducible assumption
    | with_reducible refine State.markPortrait_keeps ?_ h1 ..
    | ((with_reducible refine SameBut.each _ _ ?_ ?_); rotate_left; intro _ _ h; rotate_left)
    | split
    | (dsimp only)

theorem State.countMove_keeps {ps : List Part} {s0 t : State} (h : SameBut ps s0 t)
    (hs : [.work] ⊆ ps) (w : Work) : SameBut ps s0 (State.countMove t w) := by
  unfold State.countMove
  have h1 : [.work] ⊆ ps := List.Subset.trans (by decide) hs
  repeat' first
    | with_reducible exact h
    | with_reducible assumption
    | with_reducible refine State.modWork_keeps ?_ h1 ..
    | split
    | (dsimp only)

theorem State.afterTakeover_keeps {ps : List Part} {s0 t : State} (h : SameBut ps s0 t)
    (hs : [.ev, .mem, .acq, .work, .gallery, .group, .trigPins] ⊆ ps) (w : Work) :
        SameBut ps s0 (State.afterTakeover t w) := by
  unfold State.afterTakeover
  have h1 : [.work] ⊆ ps := List.Subset.trans (by decide) hs
  have h2 : [.group] ⊆ ps := List.Subset.trans (by decide) hs
  have h3 : [.ev, .mem, .acq, .gallery, .trigPins] ⊆ ps := List.Subset.trans (by decide) hs
  have h4 : [.ev, .trigPins] ⊆ ps := List.Subset.trans (by decide) hs
  repeat' first
    | with_reducible exact h
    | with_reducible assumption
    | with_reducible refine State.countMove_keeps ?_ h1 ..
    | with_reducible refine State.grant_keeps ?_ h2 ..
    | with_reducible refine State.inherit_keeps ?_ h3 ..
    | with_reducible refine State.raiseW_keeps ?_ h4 ..
    | with_reducible refine State.rewindOldest_keeps ?_ h1 ..
    | with_reducible refine State.modTxw_keeps ?_ h1 ..
    | ((with_reducible refine SameBut.iteKeep ?_ ?_); rotate_left; intro h; rotate_left)
    | ((with_reducible refine SameBut.each _ _ ?_ ?_); rotate_left; intro _ _ h; rotate_left)
    | (refine SameBut.mod h ?_; (intro q hq; cases q <;> first | exact rfl | exact absurd (hs (by decide)) hq))
    | split
    | (dsimp only)

theorem State.mapOnto_keeps {ps : List Part} {s0 t : State} (h : SameBut ps s0 t)
    (hs : [.sess, .ev, .core, .power, .mem, .lane, .rx, .acq, .dec, .tx, .work, .gallery, .group, .bias, .trigPins, .cal,
        .free] ⊆ ps) (w : Work) (t' : Phys) : SameBut ps s0 (State.mapOnto t w t') := by
  unfold State.mapOnto
  have h1 : [.ev, .mem, .acq, .work, .gallery, .group, .trigPins] ⊆ ps := List.Subset.trans (by decide) hs
  have h2 : [.rx] ⊆ ps := List.Subset.trans (by decide) hs
  have h3 : [.ev, .mem, .acq, .work, .gallery, .trigPins] ⊆ ps := List.Subset.trans (by decide) hs
  have h4 : [.sess, .ev, .power, .mem, .lane, .rx, .acq, .dec, .tx, .work, .gallery, .group, .bias, .trigPins,
      .cal] ⊆ ps := List.Subset.trans (by decide) hs
  have h5 : [.ev, .power, .lane, .bias, .trigPins] ⊆ ps := List.Subset.trans (by decide) hs
  have h6 : [.sess, .ev, .core, .power, .mem, .lane, .rx, .acq, .dec, .tx, .work, .gallery, .group, .bias, .trigPins,
      .cal, .free] ⊆ ps := List.Subset.trans (by decide) hs
  have h7 : [.lane] ⊆ ps := List.Subset.trans (by decide) hs
  have h8 : [.work] ⊆ ps := List.Subset.trans (by decide) hs
  repeat' first
    | with_reducible exact h
    | with_reducible assumption
    | with_reducible refine State.afterTakeover_keeps ?_ h1 ..
    | with_reducible refine State.holdBase_keeps ?_ h2 ..
    | with_reducible refine State.hotClear_keeps ?_ h3 ..
    | with_reducible refine State.physMode_keeps ?_ h4 ..
    | with_reducible refine State.setLanePower_keeps ?_ h5 ..
    | with_reducible refine State.settleBurstEnd_keeps ?_ h6 ..
    | with_reducible refine State.modLane_keeps ?_ h7 ..
    | with_reducible refine State.modWork_keeps ?_ h8 ..
    | ((with_reducible refine SameBut.iteKeep ?_ ?_); rotate_left; intro h; rotate_left)
    | split
    | (dsimp only)

theorem State.retireLane_keeps {ps : List Part} {s0 t : State} (h : SameBut ps s0 t)
    (hs : [.sess, .ev, .power, .mem, .lane, .rx, .acq, .dec, .tx, .work, .gallery, .group, .bias, .trigPins,
        .cal] ⊆ ps) (p : Phys) (failed : Bool) : SameBut ps s0 (State.retireLane t p failed) := by
  unfold State.retireLane
  have h1 : [.ev, .mem, .acq, .work, .gallery, .trigPins] ⊆ ps := List.Subset.trans (by decide) hs
  have h2 : [.sess, .ev, .power, .mem, .lane, .rx, .acq, .dec, .tx, .work, .gallery, .group, .bias, .trigPins,
      .cal] ⊆ ps := List.Subset.trans (by decide) hs
  have h3 : [.lane] ⊆ ps := List.Subset.trans (by decide) hs
  repeat' first
    | with_reducible exact h
    | with_reducible assumption
    | with_reducible refine State.hotClear_keeps ?_ h1 ..
    | with_reducible refine State.physMode_keeps ?_ h2 ..
    | with_reducible refine State.modLane_keeps ?_ h3 ..
    | split
    | (dsimp only)

theorem State.freezeFor_keeps {ps : List Part} {s0 t : State} (h : SameBut ps s0 t)
    (hs : [.ev, .core, .rx, .bias, .trigPins] ⊆ ps) (c : Core) (l : List Phys) : SameBut ps s0 (State.freezeFor t c l) := by
  unfold State.freezeFor
  have h1 : [.ev, .bias, .trigPins] ⊆ ps := List.Subset.trans (by decide) hs
  have h2 : [.core] ⊆ ps := List.Subset.trans (by decide) hs
  have h3 : [.rx] ⊆ ps := List.Subset.trans (by decide) hs
  repeat' first
    | with_reducible exact h
    | with_reducible assumption
    | with_reducible refine State.freezeLane_keeps ?_ h1 ..
    | with_reducible refine State.modCore_keeps ?_ h2 ..
    | with_reducible refine State.modRx_keeps ?_ h3 ..
    | ((with_reducible refine SameBut.each _ _ ?_ ?_); rotate_left; intro _ _ h; rotate_left)
    | split
    | (dsimp only)

theorem State.thawFor_keeps {ps : List Part} {s0 t : State} (h : SameBut ps s0 t)
    (hs : [.core, .rx, .bias] ⊆ ps) (c : Core) : SameBut ps s0 (State.thawFor t c) := by
  unfold State.thawFor
  have h1 : [.bias] ⊆ ps := List.Subset.trans (by decide) hs
  have h2 : [.core] ⊆ ps := List.Subset.trans (by decide) hs
  have h3 : [.rx] ⊆ ps := List.Subset.trans (by decide) hs
  repeat' first
    | with_reducible exact h
    | with_reducible assumption
    | with_reducible refine State.thawLane_keeps ?_ h1 ..
    | with_reducible refine State.modCore_keeps ?_ h2 ..
    | with_reducible refine State.modRx_keeps ?_ h3 ..
    | ((with_reducible refine SameBut.each _ _ ?_ ?_); rotate_left; intro _ _ h; rotate_left)
    | split
    | (dsimp only)

theorem State.coverDone_keeps {ps : List Part} {s0 t : State} (h : SameBut ps s0 t)
    (hs : [.ev, .core, .rx, .bias, .trigPins] ⊆ ps) (c : Core) (code : Nat) : SameBut ps s0 (State.coverDone t c code) := by
  unfold State.coverDone
  have h1 : [.ev, .trigPins] ⊆ ps := List.Subset.trans (by decide) hs
  have h2 : [.core, .rx, .bias] ⊆ ps := List.Subset.trans (by decide) hs
  have h3 : [.core] ⊆ ps := List.Subset.trans (by decide) hs
  repeat' first
    | with_reducible exact h
    | with_reducible assumption
    | with_reducible refine State.raise_keeps ?_ h1 ..
    | with_reducible refine State.thawFor_keeps ?_ h2 ..
    | with_reducible refine State.modCore_keeps ?_ h3 ..
    | split
    | (dsimp only)

theorem State.moveDone_keeps {ps : List Part} {s0 t : State} (h : SameBut ps s0 t)
    (hs : [.ev, .lane, .trigPins] ⊆ ps) (w : Work) (m : Move) (code : Nat) : SameBut ps s0 (State.moveDone t w m code) := by
  unfold State.moveDone
  have h1 : [.ev, .trigPins] ⊆ ps := List.Subset.trans (by decide) hs
  have h2 : [.lane] ⊆ ps := List.Subset.trans (by decide) hs
  repeat' first
    | with_reducible exact h
    | with_reducible assumption
    | with_reducible refine State.raiseP_keeps ?_ h1 ..
    | with_reducible refine State.raiseW_keeps ?_ h1 ..
    | with_reducible refine State.modLane_keeps ?_ h2 ..
    | ((with_reducible refine SameBut.iteKeep ?_ ?_); rotate_left; intro h; rotate_left)
    | split
    | (dsimp only)

theorem State.carryChange_keeps {ps : List Part} {s0 t : State} (h : SameBut ps s0 t)
    (hs : [.lane] ⊆ ps) (src : Phys) (dst : Phys) : SameBut ps s0 (State.carryChange t src dst) := by
  unfold State.carryChange
  have h1 : [.lane] ⊆ ps := List.Subset.trans (by decide) hs
  repeat' first
    | with_reducible exact h
    | with_reducible assumption
    | with_reducible refine State.modLane_keeps ?_ h1 ..
    | split
    | (dsimp only)

theorem State.takeOver_keeps {ps : List Part} {s0 t : State} (h : SameBut ps s0 t)
    (hs : [.sess, .ev, .core, .power, .mem, .lane, .rx, .acq, .dec, .tx, .work, .gallery, .group, .bias, .trigPins, .cal,
        .free] ⊆ ps) (w : Work) (m : Move) : SameBut ps s0 (State.takeOver t w m) := by
  unfold State.takeOver
  have h1 : [.lane] ⊆ ps := List.Subset.trans (by decide) hs
  have h2 : [.ev, .core, .rx, .bias, .trigPins] ⊆ ps := List.Subset.trans (by decide) hs
  have h3 : [.sess, .ev, .core, .power, .mem, .lane, .rx, .acq, .dec, .tx, .work, .gallery, .group, .bias, .trigPins,
      .cal, .free] ⊆ ps := List.Subset.trans (by decide) hs
  have h4 : [.sess, .ev, .power, .mem, .lane, .rx, .acq, .dec, .tx, .work, .gallery, .group, .bias, .trigPins,
      .cal] ⊆ ps := List.Subset.trans (by decide) hs
  have h5 : [.work] ⊆ ps := List.Subset.trans (by decide) hs
  repeat' first
    | with_reducible exact h
    | with_reducible assumption
    | with_reducible refine State.carryChange_keeps ?_ h1 ..
    | with_reducible refine State.coverDone_keeps ?_ h2 ..
    | with_reducible refine State.mapOnto_keeps ?_ h3 ..
    | with_reducible refine State.retireLane_keeps ?_ h4 ..
    | with_reducible refine State.modWork_keeps ?_ h5 ..
    | split
    | (dsimp only)

theorem State.dropMove_keeps {ps : List Part} {s0 t : State} (h : SameBut ps s0 t)
    (hs : [.sess, .ev, .mem, .lane, .dec, .work, .group, .trigPins] ⊆ ps) (w : Work) (m : Move) (code : Nat) :
        SameBut ps s0 (State.dropMove t w m code) := by
  unfold State.dropMove
  have h1 : [.sess, .ev, .mem, .dec, .work, .group, .trigPins] ⊆ ps := List.Subset.trans (by decide) hs
  have h2 : [.ev, .lane, .trigPins] ⊆ ps := List.Subset.trans (by decide) hs
  have h3 : [.work] ⊆ ps := List.Subset.trans (by decide) hs
  repeat' first
    | with_reducible exact h
    | with_reducible assumption
    | with_reducible refine State.amDrop_keeps ?_ h1 ..
    | with_reducible refine State.moveDone_keeps ?_ h2 ..
    | with_reducible refine State.modWork_keeps ?_ h3 ..
    | split
    | (dsimp only)

theorem State.outOfService_keeps {ps : List Part} {s0 t : State} (h : SameBut ps s0 t)
    (hs : [.sess, .ev, .core, .power, .mem, .lane, .rx, .acq, .dec, .tx, .work, .gallery, .group, .bias, .trigPins,
        .cal] ⊆ ps) (w : Work) (p : Phys) (cover : Option Core) : SameBut ps s0 (State.outOfService t w p cover) := by
  unfold State.outOfService
  have h1 : [.sess, .ev, .mem, .rx, .acq, .dec, .work, .gallery, .group, .trigPins] ⊆ ps := List.Subset.trans (by decide) hs
  have h2 : [.ev, .trigPins] ⊆ ps := List.Subset.trans (by decide) hs
  have h3 : [.sess, .ev, .power, .mem, .lane, .rx, .acq, .dec, .tx, .work, .gallery, .group, .bias, .trigPins,
      .cal] ⊆ ps := List.Subset.trans (by decide) hs
  have h4 : [.core, .rx, .bias] ⊆ ps := List.Subset.trans (by decide) hs
  have h5 : [.work] ⊆ ps := List.Subset.trans (by decide) hs
  repeat' first
    | with_reducible exact h
    | with_reducible assumption
    | with_reducible refine State.abandonBursts_keeps ?_ h1 ..
    | with_reducible refine State.raiseP_keeps ?_ h2 ..
    | with_reducible refine State.raiseW_keeps ?_ h2 ..
    | with_reducible refine State.retireLane_keeps ?_ h3 ..
    | with_reducible refine State.thawFor_keeps ?_ h4 ..
    | with_reducible refine State.modWork_keeps ?_ h5 ..
    | ((with_reducible refine SameBut.iteKeep ?_ ?_); rotate_left; intro h; rotate_left)
    | ((with_reducible refine SameBut.foldlSnd _ _ _ ?_ ?_); rotate_left; intro _ _ h; rotate_left)
    | ((with_reducible refine SameBut.foldl _ _ ?_ ?_); rotate_left; intro _ _ h; rotate_left)
    | split
    | (dsimp only)

theorem State.failureTarget_keeps {ps : List Part} {s0 t : State} (h : SameBut ps s0 t)
    (hs : [.sess, .ev, .mem, .lane, .dec, .work, .group, .trigPins] ⊆ ps) (w : Work) (p : Phys) :
        SameBut ps s0 (State.failureTarget t w p).2 := by
  unfold State.failureTarget
  have h1 : [.sess, .ev, .mem, .lane, .dec, .work, .group, .trigPins] ⊆ ps := List.Subset.trans (by decide) hs
  have h2 : [.ev, .lane, .trigPins] ⊆ ps := List.Subset.trans (by decide) hs
  have h3 : [.work] ⊆ ps := List.Subset.trans (by decide) hs
  repeat' first
    | with_reducible exact h
    | with_reducible assumption
    | with_reducible refine State.dropMove_keeps ?_ h1 ..
    | with_reducible refine State.moveDone_keeps ?_ h2 ..
    | with_reducible refine State.modWork_keeps ?_ h3 ..
    | ((with_reducible refine SameBut.iteKeep ?_ ?_); rotate_left; intro h; rotate_left)
    | split
    | (dsimp only)

theorem State.failureMove_keeps {ps : List Part} {s0 t : State} (h : SameBut ps s0 t)
    (hs : [.sess, .ev, .core, .power, .mem, .lane, .rx, .acq, .dec, .tx, .work, .gallery, .group, .bias, .trigPins,
        .cal] ⊆ ps) (w : Work) (p : Phys) (reason : FailReason) (cover : Option Core) : SameBut ps s0 (State.failureMove t w p reason cover) := by
  unfold State.failureMove
  have h1 : [.sess, .ev, .mem, .rx, .acq, .dec, .work, .gallery, .group, .trigPins] ⊆ ps := List.Subset.trans (by decide) hs
  have h2 : [.sess, .ev, .mem, .dec, .work, .group, .trigPins] ⊆ ps := List.Subset.trans (by decide) hs
  have h3 : [.tx, .work] ⊆ ps := List.Subset.trans (by decide) hs
  have h4 : [.ev, .mem, .tx, .work, .group, .trigPins] ⊆ ps := List.Subset.trans (by decide) hs
  have h5 : [.sess, .ev, .mem, .lane, .dec, .work, .group, .trigPins] ⊆ ps := List.Subset.trans (by decide) hs
  have h6 : [.sess, .ev, .core, .power, .mem, .lane, .rx, .acq, .dec, .tx, .work, .gallery, .group, .bias, .trigPins,
      .cal] ⊆ ps := List.Subset.trans (by decide) hs
  have h7 : [.ev, .trigPins] ⊆ ps := List.Subset.trans (by decide) hs
  have h8 : [.sess, .ev, .mem, .work, .group, .trigPins] ⊆ ps := List.Subset.trans (by decide) hs
  have h9 : [.ev, .power, .lane, .bias, .trigPins] ⊆ ps := List.Subset.trans (by decide) hs
  have h10 : [.work] ⊆ ps := List.Subset.trans (by decide) hs
  repeat' first
    | with_reducible exact h
    | with_reducible assumption
    | with_reducible refine State.abandonBursts_keeps ?_ h1 ..
    | with_reducible refine State.amDrop_keeps ?_ h2 ..
    | with_reducible refine State.cutBurst_keeps ?_ h3 ..
    | with_reducible refine State.cutRun_keeps ?_ h4 ..
    | with_reducible refine State.failureTarget_keeps ?_ h5 ..
    | with_reducible refine State.outOfService_keeps ?_ h6 ..
    | with_reducible refine State.raiseP_keeps ?_ h7 ..
    | with_reducible refine State.scrapeAll_keeps ?_ h8 ..
    | with_reducible refine State.setLanePower_keeps ?_ h9 ..
    | with_reducible refine State.modWork_keeps ?_ h10 ..
    | ((with_reducible refine SameBut.iteKeep ?_ ?_); rotate_left; intro h; rotate_left)
    | split
    | (dsimp only)

theorem State.plannedMove_keeps {ps : List Part} {s0 t : State} (h : SameBut ps s0 t)
    (hs : [.ev, .power, .mem, .lane, .tx, .work, .group, .bias, .trigPins] ⊆ ps) (w : Work) (p : Phys) (t' :
        Phys) (reason : FailReason) (reint : Bool) : SameBut ps s0 (State.plannedMove t w p t' reason reint) := by
  unfold State.plannedMove
  have h1 : [.ev, .mem, .tx, .work, .group, .trigPins] ⊆ ps := List.Subset.trans (by decide) hs
  have h2 : [.ev, .power, .lane, .bias, .trigPins] ⊆ ps := List.Subset.trans (by decide) hs
  have h3 : [.tx] ⊆ ps := List.Subset.trans (by decide) hs
  have h4 : [.work] ⊆ ps := List.Subset.trans (by decide) hs
  repeat' first
    | with_reducible exact h
    | with_reducible assumption
    | with_reducible refine State.cutRun_keeps ?_ h1 ..
    | with_reducible refine State.setLanePower_keeps ?_ h2 ..
    | with_reducible refine State.modTx_keeps ?_ h3 ..
    | with_reducible refine State.modWork_keeps ?_ h4 ..
    | ((with_reducible refine SameBut.iteKeep ?_ ?_); rotate_left; intro h; rotate_left)
    | split
    | (dsimp only)

theorem State.immediateSwitch_keeps {ps : List Part} {s0 t : State} (h : SameBut ps s0 t)
    (hs : [.sess, .ev, .core, .power, .mem, .lane, .rx, .acq, .dec, .tx, .work, .gallery, .group, .bias, .trigPins, .cal,
        .free] ⊆ ps) (w : Work) (p : Phys) (t' : Phys) : SameBut ps s0 (State.immediateSwitch t w p t') := by
  unfold State.immediateSwitch
  have h1 : [.sess, .ev, .lane, .trigPins] ⊆ ps := List.Subset.trans (by decide) hs
  have h2 : [.sess, .ev, .core, .power, .mem, .lane, .rx, .acq, .dec, .tx, .work, .gallery, .group, .bias, .trigPins,
      .cal, .free] ⊆ ps := List.Subset.trans (by decide) hs
  have h3 : [.sess, .ev, .power, .mem, .lane, .rx, .acq, .dec, .tx, .work, .gallery, .group, .bias, .trigPins,
      .cal] ⊆ ps := List.Subset.trans (by decide) hs
  have h4 : [.work] ⊆ ps := List.Subset.trans (by decide) hs
  repeat' first
    | with_reducible exact h
    | with_reducible assumption
    | with_reducible refine State.endTrain_keeps ?_ h1 ..
    | with_reducible refine State.mapOnto_keeps ?_ h2 ..
    | with_reducible refine State.retireLane_keeps ?_ h3 ..
    | with_reducible refine State.modWork_keeps ?_ h4 ..
    | ((with_reducible refine SameBut.iteKeep ?_ ?_); rotate_left; intro h; rotate_left)
    | split
    | (dsimp only)

theorem State.failLane_keeps {ps : List Part} {s0 t : State} (h : SameBut ps s0 t)
    (hs : [.sess, .ev, .core, .power, .mem, .lane, .rx, .acq, .dec, .tx, .work, .gallery, .group, .bias, .trigPins,
        .cal] ⊆ ps) (w : Work) (p : Phys) (reason : FailReason) (cover : Option Core) : SameBut ps s0 (State.failLane t w p reason cover) := by
  unfold State.failLane
  have h1 : [.sess, .ev, .core, .power, .mem, .lane, .rx, .acq, .dec, .tx, .work, .gallery, .group, .bias, .trigPins,
      .cal] ⊆ ps := List.Subset.trans (by decide) hs
  have h2 : [.work] ⊆ ps := List.Subset.trans (by decide) hs
  repeat' first
    | with_reducible exact h
    | with_reducible assumption
    | with_reducible refine State.failureMove_keeps ?_ h1 ..
    | with_reducible refine State.modWork_keeps ?_ h2 ..
    | ((with_reducible refine SameBut.iteKeep ?_ ?_); rotate_left; intro h; rotate_left)
    | split
    | (dsimp only)

theorem State.loseUnused_keeps {ps : List Part} {s0 t : State} (h : SameBut ps s0 t)
    (hs : [.sess, .ev, .power, .mem, .lane, .rx, .acq, .dec, .tx, .work, .gallery, .group, .bias, .trigPins,
        .cal] ⊆ ps) (p : Phys) (mv : Option (Work × Move)) : SameBut ps s0 (State.loseUnused t p mv) := by
  unfold State.loseUnused
  have h1 : [.sess, .ev, .mem, .lane, .dec, .work, .group, .trigPins] ⊆ ps := List.Subset.trans (by decide) hs
  have h2 : [.ev, .trigPins] ⊆ ps := List.Subset.trans (by decide) hs
  have h3 : [.sess, .ev, .power, .mem, .lane, .rx, .acq, .dec, .tx, .work, .gallery, .group, .bias, .trigPins,
      .cal] ⊆ ps := List.Subset.trans (by decide) hs
  have h4 : [.lane] ⊆ ps := List.Subset.trans (by decide) hs
  have h5 : [.work] ⊆ ps := List.Subset.trans (by decide) hs
  repeat' first
    | with_reducible exact h
    | with_reducible assumption
    | with_reducible refine State.dropMove_keeps ?_ h1 ..
    | with_reducible refine State.raiseP_keeps ?_ h2 ..
    | with_reducible refine State.retireLane_keeps ?_ h3 ..
    | with_reducible refine State.modLane_keeps ?_ h4 ..
    | with_reducible refine State.modWork_keeps ?_ h5 ..
    | ((with_reducible refine SameBut.iteKeep ?_ ?_); rotate_left; intro h; rotate_left)
    | split
    | (dsimp only)

theorem State.loseMove_keeps {ps : List Part} {s0 t : State} (h : SameBut ps s0 t)
    (hs : [.sess, .ev, .core, .power, .mem, .lane, .rx, .acq, .dec, .tx, .work, .gallery, .group, .bias, .trigPins,
        .cal] ⊆ ps) (p : Phys) (mv : Option (Work × Move)) : SameBut ps s0 (State.loseMove t p mv) := by
  unfold State.loseMove
  have h1 : [.sess, .ev, .core, .power, .mem, .lane, .rx, .acq, .dec, .tx, .work, .gallery, .group, .bias, .trigPins,
      .cal] ⊆ ps := List.Subset.trans (by decide) hs
  repeat' first
    | with_reducible exact h
    | with_reducible assumption
    | with_reducible refine State.failureMove_keeps ?_ h1 ..
    | ((with_reducible refine SameBut.iteKeep ?_ ?_); rotate_left; intro h; rotate_left)
    | split
    | (dsimp only)

theorem State.loseLane_keeps {ps : List Part} {s0 t : State} (h : SameBut ps s0 t)
    (hs : [.sess, .ev, .core, .power, .mem, .lane, .rx, .acq, .dec, .tx, .work, .gallery, .group, .bias, .trigPins,
        .cal] ⊆ ps) (p : Phys) (cover : Option Core) : SameBut ps s0 (State.loseLane t p cover) := by
  unfold State.loseLane
  have h1 : [.ev, .core, .rx, .bias, .trigPins] ⊆ ps := List.Subset.trans (by decide) hs
  have h2 : [.sess, .ev, .core, .power, .mem, .lane, .rx, .acq, .dec, .tx, .work, .gallery, .group, .bias, .trigPins,
      .cal] ⊆ ps := List.Subset.trans (by decide) hs
  have h3 : [.sess, .ev, .power, .mem, .lane, .rx, .acq, .dec, .tx, .work, .gallery, .group, .bias, .trigPins,
      .cal] ⊆ ps := List.Subset.trans (by decide) hs
  repeat' first
    | with_reducible exact h
    | with_reducible assumption
    | with_reducible refine State.coverDone_keeps ?_ h1 ..
    | with_reducible refine State.loseMove_keeps ?_ h2 ..
    | with_reducible refine State.loseUnused_keeps ?_ h3 ..
    | split
    | (dsimp only)

theorem State.declareFail_keeps {ps : List Part} {s0 t : State} (h : SameBut ps s0 t)
    (hs : [.sess, .ev, .core, .power, .mem, .lane, .rx, .acq, .dec, .tx, .work, .gallery, .group, .bias, .trigPins,
        .cal] ⊆ ps) (p : Phys) (reason : FailReason) (cover : Option Core) : SameBut ps s0 (State.declareFail t p reason cover) := by
  unfold State.declareFail
  have h1 : [.ev, .core, .rx, .bias, .trigPins] ⊆ ps := List.Subset.trans (by decide) hs
  have h2 : [.sess, .ev, .core, .power, .mem, .lane, .rx, .acq, .dec, .tx, .work, .gallery, .group, .bias, .trigPins,
      .cal] ⊆ ps := List.Subset.trans (by decide) hs
  have h3 : [.ev, .power, .mem, .lane, .tx, .work, .group, .bias, .trigPins] ⊆ ps := List.Subset.trans (by decide) hs
  have h4 : [.ev, .trigPins] ⊆ ps := List.Subset.trans (by decide) hs
  have h5 : [.lane] ⊆ ps := List.Subset.trans (by decide) hs
  repeat' first
    | with_reducible exact h
    | with_reducible assumption
    | with_reducible refine State.coverDone_keeps ?_ h1 ..
    | with_reducible refine State.failLane_keeps ?_ h2 ..
    | with_reducible refine State.loseLane_keeps ?_ h2 ..
    | with_reducible refine State.plannedMove_keeps ?_ h3 ..
    | with_reducible refine State.raiseP_keeps ?_ h4 ..
    | with_reducible refine State.modLane_keeps ?_ h5 ..
    | ((with_reducible refine SameBut.iteKeep ?_ ?_); rotate_left; intro h; rotate_left)
    | split
    | (dsimp only)

theorem State.spareEntered_keeps {ps : List Part} {s0 t : State} (h : SameBut ps s0 t)
    (hs : [.sess, .ev, .core, .power, .mem, .lane, .rx, .acq, .dec, .tx, .work, .gallery, .group, .bias, .trigPins, .cal,
        .free] ⊆ ps) (p : Phys) : SameBut ps s0 (State.spareEntered t p) := by
  unfold State.spareEntered
  have h1 : [.lane] ⊆ ps := List.Subset.trans (by decide) hs
  have h2 : [.ev, .core, .rx, .bias, .trigPins] ⊆ ps := List.Subset.trans (by decide) hs
  have h3 : [.sess, .ev, .core, .power, .mem, .lane, .rx, .acq, .dec, .tx, .work, .gallery, .group, .bias, .trigPins,
      .cal, .free] ⊆ ps := List.Subset.trans (by decide) hs
  have h4 : [.work] ⊆ ps := List.Subset.trans (by decide) hs
  repeat' first
    | with_reducible exact h
    | with_reducible assumption
    | with_reducible refine State.carryChange_keeps ?_ h1 ..
    | with_reducible refine State.coverDone_keeps ?_ h2 ..
    | with_reducible refine State.mapOnto_keeps ?_ h3 ..
    | with_reducible refine State.modWork_keeps ?_ h4 ..
    | ((with_reducible refine SameBut.iteKeep ?_ ?_); rotate_left; intro h; rotate_left)
    | split
    | (dsimp only)

theorem State.openBall_keeps {ps : List Part} {s0 t : State} (h : SameBut ps s0 t)
    (hs : [.bias, .trigPins, .filter] ⊆ ps) (o : Bias) : SameBut ps s0 (State.openBall t o) := by
  unfold State.openBall
  have h1 : [.bias, .trigPins, .filter] ⊆ ps := List.Subset.trans (by decide) hs
  repeat' first
    | with_reducible exact h
    | with_reducible assumption
    | with_reducible refine State.moveRange_keeps ?_ h1 ..
    | with_reducible refine State.zeroBias_keeps ?_ h1 ..
    | ((with_reducible refine SameBut.iteKeep ?_ ?_); rotate_left; intro h; rotate_left)
    | split
    | (dsimp only)

theorem State.closeBall_keeps {ps : List Part} {s0 t : State} (h : SameBut ps s0 t)
    (hs : [.bias, .trigPins, .filter] ⊆ ps) (o : Bias) (range : Nat) (code : Nat) :
        SameBut ps s0 (State.closeBall t o range code) := by
  unfold State.closeBall
  have h1 : [.bias, .trigPins, .filter] ⊆ ps := List.Subset.trans (by decide) hs
  repeat' first
    | with_reducible exact h
    | with_reducible assumption
    | with_reducible refine State.moveRange_keeps ?_ h1 ..
    | ((with_reducible refine SameBut.iteKeep ?_ ?_); rotate_left; intro h; rotate_left)
    | split
    | (dsimp only)

theorem State.writeTest_keeps {ps : List Part} {s0 t : State} (h : SameBut ps s0 t)
    (hs : [.flash] ⊆ ps) (r : TestRecord) (new : Bool) : SameBut ps s0 (State.writeTest t r new) := by
  unfold State.writeTest
  have h1 : [.flash] ⊆ ps := List.Subset.trans (by decide) hs
  repeat' first
    | with_reducible exact h
    | with_reducible assumption
    | with_reducible refine State.modFlash_keeps ?_ h1 ..
    | ((with_reducible refine SameBut.iteKeep ?_ ?_); rotate_left; intro h; rotate_left)
    | split
    | (dsimp only)

theorem State.testConversions_keeps {ps : List Part} {s0 t : State} (h : SameBut ps s0 t)
    (hs : [.mon] ⊆ ps) (t' : TestRun) : SameBut ps s0 (State.testConversions t t') := by
  unfold State.testConversions
  have h1 : [.mon] ⊆ ps := List.Subset.trans (by decide) hs
  repeat' first
    | with_reducible exact h
    | with_reducible assumption
    | with_reducible refine State.schedule_keeps ?_ h1 ..
    | with_reducible refine State.modMon_keeps ?_ h1 ..
    | split
    | (dsimp only)

theorem State.dropConversions_keeps {ps : List Part} {s0 t : State} (h : SameBut ps s0 t)
    (hs : [.mon] ⊆ ps) (t' : TestRun) : SameBut ps s0 (State.dropConversions t t') := by
  unfold State.dropConversions
  have h1 : [.mon] ⊆ ps := List.Subset.trans (by decide) hs
  repeat' first
    | with_reducible exact h
    | with_reducible assumption
    | with_reducible refine State.modMon_keeps ?_ h1 ..
    | ((with_reducible refine SameBut.iteKeep ?_ ?_); rotate_left; intro h; rotate_left)
    | split
    | (dsimp only)

theorem State.startCheck_keeps {ps : List Part} {s0 t : State} (h : SameBut ps s0 t)
    (hs : [.group, .bias, .mon, .trigPins, .filter] ⊆ ps) (t' : TestRun) (check : Nat) :
        SameBut ps s0 (State.startCheck t t' check) := by
  unfold State.startCheck
  have h1 : [.bias, .trigPins, .filter] ⊆ ps := List.Subset.trans (by decide) hs
  have h2 : [.mon] ⊆ ps := List.Subset.trans (by decide) hs
  have h3 : [.group] ⊆ ps := List.Subset.trans (by decide) hs
  repeat' first
    | with_reducible exact h
    | with_reducible assumption
    | with_reducible refine State.openBall_keeps ?_ h1 ..
    | with_reducible refine State.testConversions_keeps ?_ h2 ..
    | with_reducible refine State.modGroup_keeps ?_ h3 ..
    | ((with_reducible refine SameBut.iteKeep ?_ ?_); rotate_left; intro h; rotate_left)
    | ((with_reducible refine SameBut.each _ _ ?_ ?_); rotate_left; intro _ _ h; rotate_left)
    | split
    | (dsimp only)

theorem State.endCheck_keeps {ps : List Part} {s0 t : State} (h : SameBut ps s0 t)
    (hs : [.group, .bias, .mon, .trigPins, .filter] ⊆ ps) (t' : TestRun) (check : Nat) :
        SameBut ps s0 (State.endCheck t t' check) := by
  unfold State.endCheck
  have h1 : [.bias, .trigPins, .filter] ⊆ ps := List.Subset.trans (by decide) hs
  have h2 : [.mon] ⊆ ps := List.Subset.trans (by decide) hs
  have h3 : [.group] ⊆ ps := List.Subset.trans (by decide) hs
  repeat' first
    | with_reducible exact h
    | with_reducible assumption
    | with_reducible refine State.closeBall_keeps ?_ h1 ..
    | with_reducible refine State.dropConversions_keeps ?_ h2 ..
    | with_reducible refine State.modGroup_keeps ?_ h3 ..
    | ((with_reducible refine SameBut.iteKeep ?_ ?_); rotate_left; intro h; rotate_left)
    | ((with_reducible refine SameBut.each _ _ ?_ ?_); rotate_left; intro _ _ h; rotate_left)
    | split
    | (dsimp only)

theorem State.isolateEnd_keeps {ps : List Part} {s0 t : State} (h : SameBut ps s0 t)
    (hs : [.lane, .rx, .tx, .bias, .mon] ⊆ ps) (p : Phys) : SameBut ps s0 (State.isolateEnd t p) := by
  unfold State.isolateEnd
  have h1 : [.mon] ⊆ ps := List.Subset.trans (by decide) hs
  have h2 : [.lane] ⊆ ps := List.Subset.trans (by decide) hs
  have h3 : [.rx] ⊆ ps := List.Subset.trans (by decide) hs
  have h4 : [.tx] ⊆ ps := List.Subset.trans (by decide) hs
  have h5 : [.bias] ⊆ ps := List.Subset.trans (by decide) hs
  repeat' first
    | with_reducible exact h
    | with_reducible assumption
    | with_reducible refine State.schedule_keeps ?_ h1 ..
    | with_reducible refine State.modLane_keeps ?_ h2 ..
    | with_reducible refine State.modRx_keeps ?_ h3 ..
    | with_reducible refine State.modTx_keeps ?_ h4 ..
    | with_reducible refine State.modBias_keeps ?_ h5 ..
    | ((with_reducible refine SameBut.each _ _ ?_ ?_); rotate_left; intro _ _ h; rotate_left)
    | split
    | (dsimp only)

theorem State.clearArrays_keeps {ps : List Part} {s0 t : State} (h : SameBut ps s0 t)
    (hs : [.mem] ⊆ ps)  : SameBut ps s0 (State.clearArrays t) := by
  unfold State.clearArrays
  have h1 : [.mem] ⊆ ps := List.Subset.trans (by decide) hs
  repeat' first
    | with_reducible exact h
    | with_reducible assumption
    | with_reducible refine State.loadCores_keeps ?_ h1 ..
    | ((with_reducible refine SameBut.modSys ?_ ?_); rotate_left; (intro q hq; cases q <;> first | exact rfl | exact absurd (hs (by decide)) hq))
    | split
    | (dsimp only)

theorem State.emptySlots_keeps {ps : List Part} {s0 t : State} (h : SameBut ps s0 t)
    (hs : [.lane, .rx, .tx, .work, .group, .bias] ⊆ ps)  : SameBut ps s0 (State.emptySlots t) := by
  unfold State.emptySlots
  have h1 : [.lane, .rx, .tx, .bias] ⊆ ps := List.Subset.trans (by decide) hs
  repeat' first
    | with_reducible exact h
    | with_reducible assumption
    | with_reducible refine State.freshSlot_keeps ?_ h1 ..
    | (refine SameBut.mod h ?_; (intro q hq; cases q <;> first | exact rfl | exact absurd (hs (by decide)) hq))
    | split
    | (dsimp only)

theorem State.memoryTestEnd_keeps {ps : List Part} {s0 t : State} (h : SameBut ps s0 t)
    (hs : [.mem, .lane, .rx, .acq, .tx, .work, .gallery, .group, .bias, .therm] ⊆ ps)  :
        SameBut ps s0 (State.memoryTestEnd t) := by
  unfold State.memoryTestEnd
  have h1 : [.mem] ⊆ ps := List.Subset.trans (by decide) hs
  have h2 : [.lane, .rx, .tx, .work, .group, .bias] ⊆ ps := List.Subset.trans (by decide) hs
  have h3 : [.lane, .rx, .tx, .bias] ⊆ ps := List.Subset.trans (by decide) hs
  have h4 : [.gallery] ⊆ ps := List.Subset.trans (by decide) hs
  have h5 : [.rx] ⊆ ps := List.Subset.trans (by decide) hs
  have h6 : [.acq] ⊆ ps := List.Subset.trans (by decide) hs
  have h7 : [.therm] ⊆ ps := List.Subset.trans (by decide) hs
  repeat' first
    | with_reducible exact h
    | with_reducible assumption
    | with_reducible refine State.clearArrays_keeps ?_ h1 ..
    | with_reducible refine State.emptySlots_keeps ?_ h2 ..
    | with_reducible refine State.freshSlot_keeps ?_ h3 ..
    | with_reducible refine State.modGallery_keeps ?_ h4 ..
    | with_reducible refine State.modRx_keeps ?_ h5 ..
    | with_reducible refine State.modAcq_keeps ?_ h6 ..
    | with_reducible refine State.modTherm_keeps ?_ h7 ..
    | ((with_reducible refine SameBut.each _ _ ?_ ?_); rotate_left; intro _ _ h; rotate_left)
    | (refine SameBut.mod h ?_; (intro q hq; cases q <;> first | exact rfl | exact absurd (hs (by decide)) hq))
    | split
    | (dsimp only)

theorem State.endTest_keeps {ps : List Part} {s0 t : State} (h : SameBut ps s0 t)
    (hs : [.ev, .mem, .selfTest, .flash, .lane, .rx, .acq, .tx, .work, .gallery, .group, .bias, .mon, .trigPins, .filter,
        .therm] ⊆ ps) (cause : Nat) : SameBut ps s0 (State.endTest t cause) := by
  unfold State.endTest
  have h1 : [.group, .bias, .mon, .trigPins, .filter] ⊆ ps := List.Subset.trans (by decide) hs
  have h2 : [.lane, .rx, .tx, .bias, .mon] ⊆ ps := List.Subset.trans (by decide) hs
  have h3 : [.mem, .lane, .rx, .acq, .tx, .work, .gallery, .group, .bias, .therm] ⊆ ps := List.Subset.trans (by decide) hs
  have h4 : [.ev, .trigPins] ⊆ ps := List.Subset.trans (by decide) hs
  have h5 : [.bias] ⊆ ps := List.Subset.trans (by decide) hs
  have h6 : [.flash] ⊆ ps := List.Subset.trans (by decide) hs
  have h7 : [.lane] ⊆ ps := List.Subset.trans (by decide) hs
  repeat' first
    | with_reducible exact h
    | with_reducible assumption
    | with_reducible refine State.endCheck_keeps ?_ h1 ..
    | with_reducible refine State.isolateEnd_keeps ?_ h2 ..
    | with_reducible refine State.memoryTestEnd_keeps ?_ h3 ..
    | with_reducible refine State.raise_keeps ?_ h4 ..
    | with_reducible refine State.thawLane_keeps ?_ h5 ..
    | with_reducible refine State.writeTest_keeps ?_ h6 ..
    | with_reducible refine State.modLane_keeps ?_ h7 ..
    | ((with_reducible refine SameBut.iteKeep ?_ ?_); rotate_left; intro h; rotate_left)
    | ((with_reducible refine SameBut.each _ _ ?_ ?_); rotate_left; intro _ _ h; rotate_left)
    | ((with_reducible refine SameBut.modSec ?_ ?_); rotate_left; (intro q hq; cases q <;> first | exact rfl | exact absurd (hs (by decide)) hq))
    | split
    | (dsimp only)

theorem State.closeXing_keeps {ps : List Part} {s0 t : State} (h : SameBut ps s0 t)
    (hs : [.clk] ⊆ ps) (domain : Nat) : SameBut ps s0 (State.closeXing t domain) := by
  unfold State.closeXing
  have h1 : [.clk] ⊆ ps := List.Subset.trans (by decide) hs
  repeat' first
    | with_reducible exact h
    | with_reducible assumption
    | with_reducible refine State.modClk_keeps ?_ h1 ..
    | ((with_reducible refine SameBut.iteKeep ?_ ?_); rotate_left; intro h; rotate_left)
    | split
    | (dsimp only)

theorem State.openXing_keeps {ps : List Part} {s0 t : State} (h : SameBut ps s0 t)
    (hs : [.ev, .clk, .trigPins] ⊆ ps) (domain : Nat) (discarded : Nat × Nat) :
        SameBut ps s0 (State.openXing t domain discarded) := by
  unfold State.openXing
  have h1 : [.ev, .trigPins] ⊆ ps := List.Subset.trans (by decide) hs
  have h2 : [.clk] ⊆ ps := List.Subset.trans (by decide) hs
  repeat' first
    | with_reducible exact h
    | with_reducible assumption
    | with_reducible refine State.raise_keeps ?_ h1 ..
    | with_reducible refine State.modClk_keeps ?_ h2 ..
    | ((with_reducible refine SameBut.iteKeep ?_ ?_); rotate_left; intro h; rotate_left)
    | split
    | (dsimp only)

theorem State.clearCore_keeps {ps : List Part} {s0 t : State} (h : SameBut ps s0 t)
    (hs : [.perf, .mem] ⊆ ps) (c : Core) : SameBut ps s0 (State.clearCore t c) := by
  unfold State.clearCore
  have h1 : [.mem] ⊆ ps := List.Subset.trans (by decide) hs
  repeat' first
    | with_reducible exact h
    | with_reducible assumption
    | with_reducible refine State.modArr_keeps ?_ h1 ..
    | ((with_reducible refine SameBut.modCtl ?_ ?_); rotate_left; (intro q hq; cases q <;> first | exact rfl | exact absurd (hs (by decide)) hq))
    | split
    | (dsimp only)

theorem State.resetEngine_keeps {ps : List Part} {s0 t : State} (h : SameBut ps s0 t)
    (hs : [.perf, .core, .mem] ⊆ ps) (c : Core) : SameBut ps s0 (State.resetEngine t c) := by
  unfold State.resetEngine
  have h1 : [.perf, .mem] ⊆ ps := List.Subset.trans (by decide) hs
  have h2 : [.core] ⊆ ps := List.Subset.trans (by decide) hs
  repeat' first
    | with_reducible exact h
    | with_reducible assumption
    | with_reducible refine State.clearCore_keeps ?_ h1 ..
    | with_reducible refine State.modCore_keeps ?_ h2 ..
    | ((with_reducible refine SameBut.iteKeep ?_ ?_); rotate_left; intro h; rotate_left)
    | split
    | (dsimp only)

theorem State.doReset_keeps {ps : List Part} {s0 t : State} (h : SameBut ps s0 t)
    (hs : [.sess, .ev, .perf, .clk, .core, .power, .mem, .lane, .rx, .acq, .dec, .tx, .work, .gallery, .group, .bias,
        .trigPins, .cal, .free] ⊆ ps) (p : Phys) : SameBut ps s0 (State.doReset t p) := by
  unfold State.doReset
  have h1 : [.ev, .lane, .trigPins] ⊆ ps := List.Subset.trans (by decide) hs
  have h2 : [.sess, .ev, .mem, .dec, .work, .group, .trigPins] ⊆ ps := List.Subset.trans (by decide) hs
  have h3 : [.clk] ⊆ ps := List.Subset.trans (by decide) hs
  have h4 : [.sess, .ev, .core, .power, .mem, .lane, .rx, .acq, .dec, .tx, .work, .gallery, .group, .bias, .trigPins,
      .cal, .free] ⊆ ps := List.Subset.trans (by decide) hs
  have h5 : [.ev, .bias, .trigPins] ⊆ ps := List.Subset.trans (by decide) hs
  have h6 : [.ev, .mem, .acq, .work, .gallery, .trigPins] ⊆ ps := List.Subset.trans (by decide) hs
  have h7 : [.perf, .core, .mem] ⊆ ps := List.Subset.trans (by decide) hs
  have h8 : [.ev, .rx, .trigPins] ⊆ ps := List.Subset.trans (by decide) hs
  have h9 : [.sess, .ev, .mem, .work, .group, .trigPins] ⊆ ps := List.Subset.trans (by decide) hs
  have h10 : [.mem] ⊆ ps := List.Subset.trans (by decide) hs
  have h11 : [.lane] ⊆ ps := List.Subset.trans (by decide) hs
  have h12 : [.rx] ⊆ ps := List.Subset.trans (by decide) hs
  have h13 : [.bias] ⊆ ps := List.Subset.trans (by decide) hs
  repeat' first
    | with_reducible exact h
    | with_reducible assumption
    | with_reducible refine State.abortLaneEntry_keeps ?_ h1 ..
    | with_reducible refine State.amDrop_keeps ?_ h2 ..
    | with_reducible refine State.closeXing_keeps ?_ h3 ..
    | with_reducible refine State.cutTraining_keeps ?_ h4 ..
    | with_reducible refine State.freezeLane_keeps ?_ h5 ..
    | with_reducible refine State.hotClear_keeps ?_ h6 ..
    | with_reducible refine State.resetEngine_keeps ?_ h7 ..
    | with_reducible refine State.rxFadeSettle_keeps ?_ h8 ..
    | with_reducible refine State.scrapeAll_keeps ?_ h9 ..
    | with_reducible refine State.modArr_keeps ?_ h10 ..
    | with_reducible refine State.modLane_keeps ?_ h11 ..
    | with_reducible refine State.modRx_keeps ?_ h12 ..
    | with_reducible refine State.modBias_keeps ?_ h13 ..
    | ((with_reducible refine SameBut.iteKeep ?_ ?_); rotate_left; intro h; rotate_left)
    | ((with_reducible refine SameBut.each _ _ ?_ ?_); rotate_left; intro _ _ h; rotate_left)
    | split
    | (dsimp only)

theorem State.settleReset_keeps {ps : List Part} {s0 t : State} (h : SameBut ps s0 t)
    (hs : [.sess, .ev, .perf, .clk, .core, .power, .mem, .lane, .rx, .acq, .dec, .tx, .work, .gallery, .group, .bias,
        .trigPins, .cal, .free] ⊆ ps) (p : Phys) : SameBut ps s0 (State.settleReset t p) := by
  unfold State.settleReset
  have h1 : [.sess, .ev, .perf, .clk, .core, .power, .mem, .lane, .rx, .acq, .dec, .tx, .work, .gallery, .group, .bias,
      .trigPins, .cal, .free] ⊆ ps := List.Subset.trans (by decide) hs
  repeat' first
    | with_reducible exact h
    | with_reducible assumption
    | with_reducible refine State.doReset_keeps ?_ h1 ..
    | ((with_reducible refine SameBut.iteKeep ?_ ?_); rotate_left; intro h; rotate_left)
    | split
    | (dsimp only)

theorem State.startCover_keeps {ps : List Part} {s0 t : State} (h : SameBut ps s0 t)
    (hs : [.ev, .core, .rx, .bias, .trigPins] ⊆ ps) (c : Core) (code : Nat) : SameBut ps s0 (State.startCover t c code) := by
  unfold State.startCover
  have h1 : [.ev, .core, .rx, .bias, .trigPins] ⊆ ps := List.Subset.trans (by decide) hs
  have h2 : [.core] ⊆ ps := List.Subset.trans (by decide) hs
  repeat' first
    | with_reducible exact h
    | with_reducible assumption
    | with_reducible refine State.freezeFor_keeps ?_ h1 ..
    | with_reducible refine State.modCore_keeps ?_ h2 ..
    | split
    | (dsimp only)

theorem State.endCover_keeps {ps : List Part} {s0 t : State} (h : SameBut ps s0 t)
    (hs : [.ev, .core, .rx, .bias, .trigPins] ⊆ ps) (c : Core) : SameBut ps s0 (State.endCover t c) := by
  unfold State.endCover
  have h1 : [.ev, .core, .rx, .bias, .trigPins] ⊆ ps := List.Subset.trans (by decide) hs
  repeat' first
    | with_reducible exact h
    | with_reducible assumption
    | with_reducible refine State.coverDone_keeps ?_ h1 ..
    | split
    | (dsimp only)

theorem State.avsFailed_keeps {ps : List Part} {s0 t : State} (h : SameBut ps s0 t)
    (hs : [.ev, .avs, .trigPins, .age] ⊆ ps) (r : AvsReq) : SameBut ps s0 (State.avsFailed t r) := by
  unfold State.avsFailed
  have h1 : [.ev, .trigPins] ⊆ ps := List.Subset.trans (by decide) hs
  have h2 : [.avs] ⊆ ps := List.Subset.trans (by decide) hs
  have h3 : [.age] ⊆ ps := List.Subset.trans (by decide) hs
  repeat' first
    | with_reducible exact h
    | with_reducible assumption
    | with_reducible refine State.raise_keeps ?_ h1 ..
    | with_reducible refine State.modAvs_keeps ?_ h2 ..
    | with_reducible refine State.modAge_keeps ?_ h3 ..
    | ((with_reducible refine SameBut.iteKeep ?_ ?_); rotate_left; intro h; rotate_left)
    | split
    | (dsimp only)

theorem State.modPort_keeps {ps : List Part} {s0 t : State} (h : SameBut ps s0 t)
    (hs : [.img] ⊆ ps) (q : Port) (f : RelayPort → RelayPort) : SameBut ps s0 (State.modPort t q f) := by
  unfold State.modPort
  have h1 : [.img] ⊆ ps := List.Subset.trans (by decide) hs
  repeat' first
    | with_reducible exact h
    | with_reducible assumption
    | with_reducible refine State.modImg_keeps ?_ h1 ..
    | split
    | (dsimp only)

theorem State.send_keeps {ps : List Part} {s0 t : State} (h : SameBut ps s0 t)
    (hs : [.img] ⊆ ps) (q : Port) (type : Nat) (payload : Bytes) : SameBut ps s0 (State.send t q type payload) := by
  unfold State.send
  have h1 : [.img] ⊆ ps := List.Subset.trans (by decide) hs
  repeat' first
    | with_reducible exact h
    | with_reducible assumption
    | with_reducible refine State.modPort_keeps ?_ h1 ..
    | split
    | (dsimp only)

end Sys2Proof.Machine
end

