-- ==== Sys2Proof/Laws/FrameOps3.lean ====
section
/-!
SUPPORT. Frames: what each shared operation keeps.
-/
set_option maxRecDepth 10000
namespace Sys2Proof.Machine

theorem State.quietPorts_keeps {ps : List Part} {s0 t : State} (h : SameBut ps s0 t)
    (hs : [.img] ⊆ ps)  : SameBut ps s0 (State.quietPorts t) := by
  unfold State.quietPorts
  have h1 : [.img] ⊆ ps := List.Subset.trans (by decide) hs
  repeat' first
    | with_reducible exact h
    | with_reducible assumption
    | with_reducible refine State.modImg_keeps ?_ h1 ..
    | split
    | (dsimp only)

theorem State.sendHello_keeps {ps : List Part} {s0 t : State} (h : SameBut ps s0 t)
    (hs : [.img] ⊆ ps) (q : Port) : SameBut ps s0 (State.sendHello t q) := by
  unfold State.sendHello
  have h1 : [.img] ⊆ ps := List.Subset.trans (by decide) hs
  repeat' first
    | with_reducible exact h
    | with_reducible assumption
    | with_reducible refine State.send_keeps ?_ h1 ..
    | split
    | (dsimp only)

theorem State.sendAck_keeps {ps : List Part} {s0 t : State} (h : SameBut ps s0 t)
    (hs : [.img] ⊆ ps) (q : Port) (next : Nat) : SameBut ps s0 (State.sendAck t q next) := by
  unfold State.sendAck
  have h1 : [.img] ⊆ ps := List.Subset.trans (by decide) hs
  repeat' first
    | with_reducible exact h
    | with_reducible assumption
    | with_reducible refine State.send_keeps ?_ h1 ..
    | split
    | (dsimp only)

theorem State.sendNak_keeps {ps : List Part} {s0 t : State} (h : SameBut ps s0 t)
    (hs : [.img] ⊆ ps) (q : Port) (reason : Nat) : SameBut ps s0 (State.sendNak t q reason) := by
  unfold State.sendNak
  have h1 : [.img] ⊆ ps := List.Subset.trans (by decide) hs
  repeat' first
    | with_reducible exact h
    | with_reducible assumption
    | with_reducible refine State.send_keeps ?_ h1 ..
    | split
    | (dsimp only)

theorem State.sendAbort_keeps {ps : List Part} {s0 t : State} (h : SameBut ps s0 t)
    (hs : [.img] ⊆ ps) (q : Port) (reason : Nat) : SameBut ps s0 (State.sendAbort t q reason) := by
  unfold State.sendAbort
  have h1 : [.img] ⊆ ps := List.Subset.trans (by decide) hs
  repeat' first
    | with_reducible exact h
    | with_reducible assumption
    | with_reducible refine State.send_keeps ?_ h1 ..
    | split
    | (dsimp only)

theorem State.sendRefillReq_keeps {ps : List Part} {s0 t : State} (h : SameBut ps s0 t)
    (hs : [.img] ⊆ ps) (q : Port) (counter : Nat) : SameBut ps s0 (State.sendRefillReq t q counter) := by
  unfold State.sendRefillReq
  have h1 : [.img] ⊆ ps := List.Subset.trans (by decide) hs
  repeat' first
    | with_reducible exact h
    | with_reducible assumption
    | with_reducible refine State.send_keeps ?_ h1 ..
    | split
    | (dsimp only)

theorem State.pump_keeps {ps : List Part} {s0 t : State} (h : SameBut ps s0 t)
    (hs : [.img] ⊆ ps) (q : Port) (t' : RelayTx) (r0 : Nat) : SameBut ps s0 (State.pump t q t' r0) := by
  have h1 : [.img] ⊆ ps := List.Subset.trans (by decide) hs
  induction r0 generalizing t t' with
  | zero => unfold State.pump; (first | (with_reducible exact h) | exact State.modPort_keeps h hs _ _ | exact h | (intro out e; cases e; exact h))
  | succ _ ih =>
    unfold State.pump
    repeat' first
      | with_reducible exact h
      | with_reducible assumption
      | with_reducible refine ih ?_ ..
      | with_reducible refine State.modPort_keeps ?_ h1 ..
      | with_reducible refine State.send_keeps ?_ h1 ..
      | ((with_reducible refine SameBut.iteKeep ?_ ?_); rotate_left; intro h; rotate_left)
      | (refine SameBut.mod h ?_; (intro q hq; cases q <;> first | exact rfl | exact absurd (hs (by decide)) hq))
      | split
      | (dsimp only)

theorem State.pumpAll_keeps {ps : List Part} {s0 t : State} (h : SameBut ps s0 t)
    (hs : [.img] ⊆ ps)  : SameBut ps s0 (State.pumpAll t) := by
  unfold State.pumpAll
  have h1 : [.img] ⊆ ps := List.Subset.trans (by decide) hs
  repeat' first
    | with_reducible exact h
    | with_reducible assumption
    | with_reducible refine State.pump_keeps ?_ h1 ..
    | ((with_reducible refine SameBut.each _ _ ?_ ?_); rotate_left; intro _ _ h; rotate_left)
    | split
    | (dsimp only)

theorem State.relayFail_keeps {ps : List Part} {s0 t : State} (h : SameBut ps s0 t)
    (hs : [.ev, .img, .trigPins] ⊆ ps) (q : Port) (code : Nat) : SameBut ps s0 (State.relayFail t q code) := by
  unfold State.relayFail
  have h1 : [.img] ⊆ ps := List.Subset.trans (by decide) hs
  have h2 : [.ev, .trigPins] ⊆ ps := List.Subset.trans (by decide) hs
  repeat' first
    | with_reducible exact h
    | with_reducible assumption
    | with_reducible refine State.modPort_keeps ?_ h1 ..
    | with_reducible refine State.raise_keeps ?_ h2 ..
    | split
    | (dsimp only)

theorem State.ackUp_keeps {ps : List Part} {s0 t : State} (h : SameBut ps s0 t)
    (hs : [.img] ⊆ ps)  : SameBut ps s0 (State.ackUp t) := by
  unfold State.ackUp
  have h1 : [.img] ⊆ ps := List.Subset.trans (by decide) hs
  repeat' first
    | with_reducible exact h
    | with_reducible assumption
    | with_reducible refine State.sendAck_keeps ?_ h1 ..
    | with_reducible refine State.modImg_keeps ?_ h1 ..
    | ((with_reducible refine SameBut.iteKeep ?_ ?_); rotate_left; intro h; rotate_left)
    | split
    | (dsimp only)

theorem State.startForward_keeps {ps : List Part} {s0 t : State} (h : SameBut ps s0 t)
    (hs : [.img] ⊆ ps) (q : Port) : SameBut ps s0 (State.startForward t q) := by
  unfold State.startForward
  have h1 : [.img] ⊆ ps := List.Subset.trans (by decide) hs
  repeat' first
    | with_reducible exact h
    | with_reducible assumption
    | with_reducible refine State.modPort_keeps ?_ h1 ..
    | with_reducible refine State.sendHello_keeps ?_ h1 ..
    | ((with_reducible refine SameBut.iteKeep ?_ ?_); rotate_left; intro h; rotate_left)
    | split
    | (dsimp only)

theorem State.askRefill_keeps {ps : List Part} {s0 t : State} (h : SameBut ps s0 t)
    (hs : [.img] ⊆ ps) (q : Port) : SameBut ps s0 (State.askRefill t q) := by
  unfold State.askRefill
  have h1 : [.img] ⊆ ps := List.Subset.trans (by decide) hs
  repeat' first
    | with_reducible exact h
    | with_reducible assumption
    | with_reducible refine State.modPort_keeps ?_ h1 ..
    | with_reducible refine State.sendRefillReq_keeps ?_ h1 ..
    | split
    | (dsimp only)

theorem State.refillFailed_keeps {ps : List Part} {s0 t : State} (h : SameBut ps s0 t)
    (hs : [.ev, .img, .trigPins] ⊆ ps) (q : Port) : SameBut ps s0 (State.refillFailed t q) := by
  unfold State.refillFailed
  have h1 : [.img] ⊆ ps := List.Subset.trans (by decide) hs
  have h2 : [.ev, .trigPins] ⊆ ps := List.Subset.trans (by decide) hs
  repeat' first
    | with_reducible exact h
    | with_reducible assumption
    | with_reducible refine State.askRefill_keeps ?_ h1 ..
    | with_reducible refine State.modPort_keeps ?_ h1 ..
    | with_reducible refine State.raise_keeps ?_ h2 ..
    | with_reducible refine State.modImg_keeps ?_ h1 ..
    | ((with_reducible refine SameBut.iteKeep ?_ ?_); rotate_left; intro h; rotate_left)
    | split
    | (dsimp only)

theorem State.stopDownload_keeps {ps : List Part} {s0 t : State} (h : SameBut ps s0 t)
    (hs : [.ev, .img, .trigPins] ⊆ ps) (code : Nat) : SameBut ps s0 (State.stopDownload t code) := by
  unfold State.stopDownload
  have h1 : [.img] ⊆ ps := List.Subset.trans (by decide) hs
  have h2 : [.ev, .img, .trigPins] ⊆ ps := List.Subset.trans (by decide) hs
  repeat' first
    | with_reducible exact h
    | with_reducible assumption
    | with_reducible refine State.modPort_keeps ?_ h1 ..
    | with_reducible refine State.refillFailed_keeps ?_ h2 ..
    | with_reducible refine State.sendAbort_keeps ?_ h1 ..
    | with_reducible refine State.modImg_keeps ?_ h1 ..
    | ((with_reducible refine SameBut.iteKeep ?_ ?_); rotate_left; intro h; rotate_left)
    | ((with_reducible refine SameBut.each _ _ ?_ ?_); rotate_left; intro _ _ h; rotate_left)
    | split
    | (dsimp only)

theorem State.rejectDownload_keeps {ps : List Part} {s0 t : State} (h : SameBut ps s0 t)
    (hs : [.ev, .img, .trigPins] ⊆ ps) (code : Nat) (nak : Bool) : SameBut ps s0 (State.rejectDownload t code nak) := by
  unfold State.rejectDownload
  have h1 : [.ev, .trigPins] ⊆ ps := List.Subset.trans (by decide) hs
  have h2 : [.img] ⊆ ps := List.Subset.trans (by decide) hs
  have h3 : [.ev, .img, .trigPins] ⊆ ps := List.Subset.trans (by decide) hs
  repeat' first
    | with_reducible exact h
    | with_reducible assumption
    | with_reducible refine State.raise_keeps ?_ h1 ..
    | with_reducible refine State.sendNak_keeps ?_ h2 ..
    | with_reducible refine State.stopDownload_keeps ?_ h3 ..
    | ((with_reducible refine SameBut.iteKeep ?_ ?_); rotate_left; intro h; rotate_left)
    | split
    | (dsimp only)

theorem State.beginDownload_keeps {ps : List Part} {s0 t : State} (h : SameBut ps s0 t)
    (hs : [.img] ⊆ ps) (source : Nat) (length : Nat) (forward : Bool) :
        SameBut ps s0 (State.beginDownload t source length forward) := by
  unfold State.beginDownload
  have h1 : [.img] ⊆ ps := List.Subset.trans (by decide) hs
  repeat' first
    | with_reducible exact h
    | with_reducible assumption
    | with_reducible refine State.modImg_keeps ?_ h1 ..
    | ((with_reducible refine SameBut.iteKeep ?_ ?_); rotate_left; intro h; rotate_left)
    | split
    | (dsimp only)

theorem State.reapplyRemaps_keeps {ps : List Part} {s0 t : State} (h : SameBut ps s0 t)
    (hs : [.mem] ⊆ ps)  : SameBut ps s0 (State.reapplyRemaps t) := by
  unfold State.reapplyRemaps
  have h1 : [.mem] ⊆ ps := List.Subset.trans (by decide) hs
  repeat' first
    | with_reducible exact h
    | with_reducible assumption
    | with_reducible refine State.modArr_keeps ?_ h1 ..
    | ((with_reducible refine SameBut.iteKeep ?_ ?_); rotate_left; intro h; rotate_left)
    | ((with_reducible refine SameBut.each _ _ ?_ ?_); rotate_left; intro _ _ h; rotate_left)
    | split
    | (dsimp only)

theorem State.releaseCores_keeps {ps : List Part} {s0 t : State} (h : SameBut ps s0 t)
    (hs : [.core, .fwReady] ⊆ ps) (ver : Word) : SameBut ps s0 (State.releaseCores t ver) := by
  unfold State.releaseCores
  repeat' first
    | with_reducible exact h
    | with_reducible assumption
    | ((with_reducible refine SameBut.modSys ?_ ?_); rotate_left; (intro q hq; cases q <;> first | exact rfl | exact absurd (hs (by decide)) hq))
    | split
    | (dsimp only)

theorem State.restartSigning_keeps {ps : List Part} {s0 t : State} (h : SameBut ps s0 t)
    (hs : [.ev, .signing, .trigPins] ⊆ ps)  : SameBut ps s0 (State.restartSigning t) := by
  have h1 : [.ev, .signing, .trigPins] ⊆ ps := List.Subset.trans (by decide) hs
  unfold State.restartSigning
  have h2 : [.signing] ⊆ ps := List.Subset.trans (by decide) hs
  refine State.indexLow_keeps ?_ h1
  refine SameBut.modSec h ?_
  intro q hq
  cases q <;> first | exact absurd (h2 (by decide)) hq | simp only [Part.same, State.modSec, and_self]

theorem State.runImage_keeps {ps : List Part} {s0 t : State} (h : SameBut ps s0 t)
    (hs : [.bus, .sess, .ev, .perf, .pins, .clk, .core, .avs, .mem, .fwReady, .signing, .flash, .img,
        .trigPins] ⊆ ps) (h' : Bytes) : SameBut ps s0 (State.runImage t h') := by
  unfold State.runImage
  have h1 : [.mem] ⊆ ps := List.Subset.trans (by decide) hs
  have h2 : [.ev, .trigPins] ⊆ ps := List.Subset.trans (by decide) hs
  have h3 : [.core, .fwReady] ⊆ ps := List.Subset.trans (by decide) hs
  have h4 : [.ev, .signing, .trigPins] ⊆ ps := List.Subset.trans (by decide) hs
  have h5 : [.bus, .sess, .ev, .perf, .trigPins] ⊆ ps := List.Subset.trans (by decide) hs
  have h6 : [.img] ⊆ ps := List.Subset.trans (by decide) hs
  have h7 : [.flash] ⊆ ps := List.Subset.trans (by decide) hs
  have h8 : [.clk] ⊆ ps := List.Subset.trans (by decide) hs
  have h9 : [.pins] ⊆ ps := List.Subset.trans (by decide) hs
  have h10 : [.avs] ⊆ ps := List.Subset.trans (by decide) hs
  repeat' first
    | with_reducible exact h
    | with_reducible assumption
    | with_reducible refine State.loadCores_keeps ?_ h1 ..
    | with_reducible refine State.raise_keeps ?_ h2 ..
    | with_reducible refine State.reapplyRemaps_keeps ?_ h1 ..
    | with_reducible refine State.releaseCores_keeps ?_ h3 ..
    | with_reducible refine State.restartSigning_keeps ?_ h4 ..
    | with_reducible refine State.settleRings_keeps ?_ h5 ..
    | with_reducible refine State.modImg_keeps ?_ h6 ..
    | with_reducible refine State.modFlash_keeps ?_ h7 ..
    | with_reducible refine State.modClk_keeps ?_ h8 ..
    | with_reducible refine State.modPins_keeps ?_ h9 ..
    | with_reducible refine State.modAvs_keeps ?_ h10 ..
    | ((with_reducible refine SameBut.iteKeep ?_ ?_); rotate_left; intro h; rotate_left)
    | split
    | (dsimp only)

theorem State.enterRefill_keeps {ps : List Part} {s0 t : State} (h : SameBut ps s0 t)
    (hs : [.bus, .sess, .ev, .perf, .clk, .img, .trigPins] ⊆ ps)  : SameBut ps s0 (State.enterRefill t) := by
  unfold State.enterRefill
  have h1 : [.img] ⊆ ps := List.Subset.trans (by decide) hs
  have h2 : [.ev, .trigPins] ⊆ ps := List.Subset.trans (by decide) hs
  have h3 : [.bus, .sess, .ev, .perf, .trigPins] ⊆ ps := List.Subset.trans (by decide) hs
  have h4 : [.clk] ⊆ ps := List.Subset.trans (by decide) hs
  repeat' first
    | with_reducible exact h
    | with_reducible assumption
    | with_reducible refine State.askRefill_keeps ?_ h1 ..
    | with_reducible refine State.raise_keeps ?_ h2 ..
    | with_reducible refine State.settleRings_keeps ?_ h3 ..
    | with_reducible refine State.modImg_keeps ?_ h1 ..
    | with_reducible refine State.modClk_keeps ?_ h4 ..
    | split
    | (dsimp only)

theorem State.loaderBoot_keeps {ps : List Part} {s0 t : State} (h : SameBut ps s0 t)
    (hs : [.bus, .sess, .ev, .perf, .pins, .clk, .core, .avs, .mem, .fwReady, .otp, .signing, .flash, .img,
        .trigPins] ⊆ ps)  : SameBut ps s0 (State.loaderBoot t) := by
  unfold State.loaderBoot
  have h1 : [.bus, .sess, .ev, .perf, .clk, .img, .trigPins] ⊆ ps := List.Subset.trans (by decide) hs
  have h2 : [.bus, .sess, .ev, .perf, .pins, .clk, .core, .avs, .mem, .fwReady, .signing, .flash, .img,
      .trigPins] ⊆ ps := List.Subset.trans (by decide) hs
  repeat' first
    | with_reducible exact h
    | with_reducible assumption
    | with_reducible refine State.enterRefill_keeps ?_ h1 ..
    | with_reducible refine State.runImage_keeps ?_ h2 ..
    | ((with_reducible refine SameBut.modSec ?_ ?_); rotate_left; (intro q hq; cases q <;> first | exact rfl | exact absurd (hs (by decide)) hq))
    | split
    | (dsimp only)

theorem State.askLoader_keeps {ps : List Part} {s0 t : State} (h : SameBut ps s0 t)
    (hs : [.img] ⊆ ps)  : SameBut ps s0 (State.askLoader t) := by
  unfold State.askLoader
  have h1 : [.img] ⊆ ps := List.Subset.trans (by decide) hs
  repeat' first
    | with_reducible exact h
    | with_reducible assumption
    | with_reducible refine State.modPort_keeps ?_ h1 ..
    | with_reducible refine State.sendRefillReq_keeps ?_ h1 ..
    | ((with_reducible refine SameBut.each _ _ ?_ ?_); rotate_left; intro _ _ h; rotate_left)
    | split
    | (dsimp only)

theorem State.completeMove_keeps {ps : List Part} {s0 t : State} (h : SameBut ps s0 t)
    (hs : [.otp, .flash] ⊆ ps)  : SameBut ps s0 (State.completeMove t) := by
  unfold State.completeMove
  have h1 : [.flash] ⊆ ps := List.Subset.trans (by decide) hs
  repeat' first
    | with_reducible exact h
    | with_reducible assumption
    | with_reducible refine State.modFlash_keeps ?_ h1 ..
    | ((with_reducible refine SameBut.iteKeep ?_ ?_); rotate_left; intro h; rotate_left)
    | ((with_reducible refine SameBut.modSec ?_ ?_); rotate_left; (intro q hq; cases q <;> first | exact rfl | exact absurd (hs (by decide)) hq))
    | split
    | (dsimp only)

theorem State.bootRom_keeps {ps : List Part} {s0 t : State} (h : SameBut ps s0 t)
    (hs : [.bus, .sess, .ev, .perf, .pins, .clk, .core, .avs, .mem, .fwReady, .otp, .signing, .flash, .img,
        .trigPins] ⊆ ps)  : SameBut ps s0 (State.bootRom t) := by
  unfold State.bootRom
  have h1 : [.img] ⊆ ps := List.Subset.trans (by decide) hs
  have h2 : [.otp, .flash] ⊆ ps := List.Subset.trans (by decide) hs
  have h3 : [.bus, .sess, .ev, .perf, .pins, .clk, .core, .avs, .mem, .fwReady, .otp, .signing, .flash, .img,
      .trigPins] ⊆ ps := List.Subset.trans (by decide) hs
  have h4 : [.clk] ⊆ ps := List.Subset.trans (by decide) hs
  repeat' first
    | with_reducible exact h
    | with_reducible assumption
    | with_reducible refine State.askLoader_keeps ?_ h1 ..
    | with_reducible refine State.completeMove_keeps ?_ h2 ..
    | with_reducible refine State.loaderBoot_keeps ?_ h3 ..
    | with_reducible refine State.modImg_keeps ?_ h1 ..
    | with_reducible refine State.modClk_keeps ?_ h4 ..
    | ((with_reducible refine SameBut.iteKeep ?_ ?_); rotate_left; intro h; rotate_left)
    | split
    | (dsimp only)

theorem State.laneEngineFails_keeps {ps : List Part} {s0 t : State} (h : SameBut ps s0 t)
    (hs : [.sess, .ev, .core, .power, .mem, .lane, .rx, .acq, .dec, .tx, .work, .gallery, .group, .bias, .trigPins, .cal,
        .free] ⊆ ps) (c : Core) : SameBut ps s0 (State.laneEngineFails t c) := by
  unfold State.laneEngineFails
  have h1 : [.sess, .ev, .core, .power, .mem, .lane, .rx, .acq, .dec, .tx, .work, .gallery, .group, .bias, .trigPins,
      .cal, .free] ⊆ ps := List.Subset.trans (by decide) hs
  have h2 : [.sess, .ev, .core, .power, .mem, .lane, .rx, .acq, .dec, .tx, .work, .gallery, .group, .bias, .trigPins,
      .cal] ⊆ ps := List.Subset.trans (by decide) hs
  have h3 : [.ev, .core, .rx, .bias, .trigPins] ⊆ ps := List.Subset.trans (by decide) hs
  have h4 : [.ev, .bias, .trigPins] ⊆ ps := List.Subset.trans (by decide) hs
  have h5 : [.bias] ⊆ ps := List.Subset.trans (by decide) hs
  repeat' first
    | with_reducible exact h
    | with_reducible assumption
    | with_reducible refine State.cutTraining_keeps ?_ h1 ..
    | with_reducible refine State.declareFail_keeps ?_ h2 ..
    | with_reducible refine State.freezeFor_keeps ?_ h3 ..
    | with_reducible refine State.freezeLane_keeps ?_ h4 ..
    | with_reducible refine State.modBias_keeps ?_ h5 ..
    | ((with_reducible refine SameBut.each _ _ ?_ ?_); rotate_left; intro _ _ h; rotate_left)
    | split
    | (dsimp only)

theorem State.coreFails_keeps {ps : List Part} {s0 t : State} (h : SameBut ps s0 t)
    (hs : [.sess, .ev, .perf, .clk, .core, .power, .mem, .selfTest, .flash, .lane, .rx, .acq, .dec, .tx, .work, .gallery,
        .group, .bias, .mon, .trigPins, .filter, .therm, .cal,
        .free] ⊆ ps) (c : Core) (cause : Nat) : SameBut ps s0 (State.coreFails t c cause) := by
  unfold State.coreFails
  have h1 : [.sess, .ev, .group, .trigPins] ⊆ ps := List.Subset.trans (by decide) hs
  have h2 : [.perf, .mem] ⊆ ps := List.Subset.trans (by decide) hs
  have h3 : [.clk] ⊆ ps := List.Subset.trans (by decide) hs
  have h4 : [.ev, .mem, .selfTest, .flash, .lane, .rx, .acq, .tx, .work, .gallery, .group, .bias, .mon, .trigPins,
      .filter, .therm] ⊆ ps := List.Subset.trans (by decide) hs
  have h5 : [.sess, .ev, .core, .power, .mem, .lane, .rx, .acq, .dec, .tx, .work, .gallery, .group, .bias, .trigPins,
      .cal, .free] ⊆ ps := List.Subset.trans (by decide) hs
  have h6 : [.ev, .trigPins] ⊆ ps := List.Subset.trans (by decide) hs
  have h7 : [.ev, .core, .rx, .bias, .trigPins] ⊆ ps := List.Subset.trans (by decide) hs
  have h8 : [.core] ⊆ ps := List.Subset.trans (by decide) hs
  repeat' first
    | with_reducible exact h
    | with_reducible assumption
    | with_reducible refine State.abortGroupEntry_keeps ?_ h1 ..
    | with_reducible refine State.clearCore_keeps ?_ h2 ..
    | with_reducible refine State.closeXing_keeps ?_ h3 ..
    | with_reducible refine State.endTest_keeps ?_ h4 ..
    | with_reducible refine State.laneEngineFails_keeps ?_ h5 ..
    | with_reducible refine State.raise_keeps ?_ h6 ..
    | with_reducible refine State.startCover_keeps ?_ h7 ..
    | with_reducible refine State.modCore_keeps ?_ h8 ..
    | ((with_reducible refine SameBut.iteKeep ?_ ?_); rotate_left; intro h; rotate_left)
    | split
    | (dsimp only)

theorem State.coreRejoins_keeps {ps : List Part} {s0 t : State} (h : SameBut ps s0 t)
    (hs : [.bus, .sess, .ev, .perf, .core, .bias, .trigPins] ⊆ ps) (c : Core) : SameBut ps s0 (State.coreRejoins t c) := by
  unfold State.coreRejoins
  have h1 : [.bus, .sess, .ev, .perf, .trigPins] ⊆ ps := List.Subset.trans (by decide) hs
  have h2 : [.bias] ⊆ ps := List.Subset.trans (by decide) hs
  have h3 : [.core] ⊆ ps := List.Subset.trans (by decide) hs
  repeat' first
    | with_reducible exact h
    | with_reducible assumption
    | with_reducible refine State.settleRings_keeps ?_ h1 ..
    | with_reducible refine State.thawLane_keeps ?_ h2 ..
    | with_reducible refine State.modCore_keeps ?_ h3 ..
    | ((with_reducible refine SameBut.iteKeep ?_ ?_); rotate_left; intro h; rotate_left)
    | split
    | (dsimp only)

theorem State.startRound_keeps {ps : List Part} {s0 t : State} (h : SameBut ps s0 t)
    (hs : [.ev, .rx, .bias, .trigPins] ⊆ ps)  : SameBut ps s0 (State.startRound t) := by
  unfold State.startRound
  have h1 : [.ev, .bias, .trigPins] ⊆ ps := List.Subset.trans (by decide) hs
  have h2 : [.rx] ⊆ ps := List.Subset.trans (by decide) hs
  repeat' first
    | with_reducible exact h
    | with_reducible assumption
    | with_reducible refine State.freezeLane_keeps ?_ h1 ..
    | with_reducible refine State.modRx_keeps ?_ h2 ..
    | ((with_reducible refine SameBut.each _ _ ?_ ?_); rotate_left; intro _ _ h; rotate_left)
    | split
    | (dsimp only)

theorem State.coreSwapped_keeps {ps : List Part} {s0 t : State} (h : SameBut ps s0 t)
    (hs : [.core, .mem, .rx, .bias] ⊆ ps) (rest : List (List Nat)) (i : Nat) :
        SameBut ps s0 (State.coreSwapped t rest i) := by
  unfold State.coreSwapped
  have h1 : [.mem] ⊆ ps := List.Subset.trans (by decide) hs
  have h2 : [.bias] ⊆ ps := List.Subset.trans (by decide) hs
  have h3 : [.core] ⊆ ps := List.Subset.trans (by decide) hs
  have h4 : [.rx] ⊆ ps := List.Subset.trans (by decide) hs
  repeat' first
    | with_reducible exact h
    | with_reducible assumption
    | with_reducible refine State.loadCore_keeps ?_ h1 ..
    | with_reducible refine State.thawLane_keeps ?_ h2 ..
    | with_reducible refine State.modCore_keeps ?_ h3 ..
    | with_reducible refine State.modRx_keeps ?_ h4 ..
    | ((with_reducible refine SameBut.iteKeep ?_ ?_); rotate_left; intro h; rotate_left)
    | split
    | (dsimp only)

theorem State.takeLoader_keeps {ps : List Part} {s0 t : State} (h : SameBut ps s0 t)
    (hs : [.pins, .clk, .flash, .img] ⊆ ps) (q : Port) (off : Nat) (bs : Bytes) :
        SameBut ps s0 (State.takeLoader t q off bs) := by
  unfold State.takeLoader
  have h1 : [.img] ⊆ ps := List.Subset.trans (by decide) hs
  have h2 : [.flash] ⊆ ps := List.Subset.trans (by decide) hs
  have h3 : [.clk] ⊆ ps := List.Subset.trans (by decide) hs
  have h4 : [.pins] ⊆ ps := List.Subset.trans (by decide) hs
  repeat' first
    | with_reducible exact h
    | with_reducible assumption
    | with_reducible refine State.modPort_keeps ?_ h1 ..
    | with_reducible refine State.sendAck_keeps ?_ h1 ..
    | with_reducible refine State.modImg_keeps ?_ h1 ..
    | with_reducible refine State.modFlash_keeps ?_ h2 ..
    | with_reducible refine State.modClk_keeps ?_ h3 ..
    | with_reducible refine State.modPins_keeps ?_ h4 ..
    | ((with_reducible refine SameBut.iteKeep ?_ ?_); rotate_left; intro h; rotate_left)
    | ((with_reducible refine SameBut.each _ _ ?_ ?_); rotate_left; intro _ _ h; rotate_left)
    | split
    | (dsimp only)

theorem State.takeAck_keeps {ps : List Part} {s0 t : State} (h : SameBut ps s0 t)
    (hs : [.ev, .img, .trigPins] ⊆ ps) (q : Port) (t' : RelayTx) (next : Nat) (window : Nat) :
        SameBut ps s0 (State.takeAck t q t' next window) := by
  unfold State.takeAck
  have h1 : [.img] ⊆ ps := List.Subset.trans (by decide) hs
  have h2 : [.ev, .trigPins] ⊆ ps := List.Subset.trans (by decide) hs
  repeat' first
    | with_reducible exact h
    | with_reducible assumption
    | with_reducible refine State.ackUp_keeps ?_ h1 ..
    | with_reducible refine State.modPort_keeps ?_ h1 ..
    | with_reducible refine State.pump_keeps ?_ h1 ..
    | with_reducible refine State.raise_keeps ?_ h2 ..
    | ((with_reducible refine SameBut.iteKeep ?_ ?_); rotate_left; intro h; rotate_left)
    | (refine SameBut.mod h ?_; (intro q hq; cases q <;> first | exact rfl | exact absurd (hs (by decide)) hq))
    | split
    | (dsimp only)

theorem State.sourceLost_keeps {ps : List Part} {s0 t : State} (h : SameBut ps s0 t)
    (hs : [.ev, .img, .trigPins] ⊆ ps) (q : Port) : SameBut ps s0 (State.sourceLost t q) := by
  unfold State.sourceLost
  have h1 : [.ev, .img, .trigPins] ⊆ ps := List.Subset.trans (by decide) hs
  have h2 : [.img] ⊆ ps := List.Subset.trans (by decide) hs
  repeat' first
    | with_reducible exact h
    | with_reducible assumption
    | with_reducible refine State.refillFailed_keeps ?_ h1 ..
    | with_reducible refine State.rejectDownload_keeps ?_ h1 ..
    | with_reducible refine State.modImg_keeps ?_ h2 ..
    | ((with_reducible refine SameBut.iteKeep ?_ ?_); rotate_left; intro h; rotate_left)
    | split
    | (dsimp only)

theorem State.applyPd_keeps {ps : List Part} {s0 t : State} (h : SameBut ps s0 t)
    (hs : [.ev, .tx, .trigPins] ⊆ ps) (p : Phys) (sym : Sym) : SameBut ps s0 (State.applyPd t p sym) := by
  unfold State.applyPd
  have h1 : [.ev, .trigPins] ⊆ ps := List.Subset.trans (by decide) hs
  have h2 : [.tx] ⊆ ps := List.Subset.trans (by decide) hs
  repeat' first
    | with_reducible exact h
    | with_reducible assumption
    | with_reducible refine State.raiseP_keeps ?_ h1 ..
    | with_reducible refine State.modTx_keeps ?_ h2 ..
    | with_reducible refine State.modTxDiag_keeps ?_ h2 ..
    | split
    | (dsimp only)

theorem State.readImages_keeps {ps : List Part} {s0 t : State} (h : SameBut ps s0 t)
    (hs : [.ev, .mem, .work, .group, .trigPins] ⊆ ps) (w : Work) (k : Nat) (bad : Option (Nat × Nat × BitVec 42)) (r0 :
        List Image) : SameBut ps s0 (State.readImages t w k bad r0).2 := by
  have h1 : [.ev, .mem, .work, .group, .trigPins] ⊆ ps := List.Subset.trans (by decide) hs
  induction r0 generalizing t k with
  | nil => unfold State.readImages; (first | (with_reducible exact h) | exact State.modPort_keeps h hs _ _ | exact h | (intro out e; cases e; exact h))
  | cons _ _ ih =>
    unfold State.readImages
    repeat' first
      | with_reducible exact h
      | with_reducible assumption
      | with_reducible refine ih ?_ ..
      | with_reducible refine State.readImage_keeps ?_ h1 ..
      | split
      | (dsimp only)

theorem State.freeze_keeps {ps : List Part} {s0 t : State} (h : SameBut ps s0 t)
    (hs : [.ev, .mem, .tx, .work, .group, .trigPins] ⊆ ps) (p : Phys) (w : Work) (dest : Nat) (cold : Bool) (resync :
        Bool) (full : Bool) (nmax : Nat) (bad : Option (Nat × Nat × BitVec 42)) : SameBut ps s0 (State.freeze t p w dest cold resync full nmax bad) := by
  unfold State.freeze
  have h1 : [.work] ⊆ ps := List.Subset.trans (by decide) hs
  have h2 : [.ev, .mem, .work, .group, .trigPins] ⊆ ps := List.Subset.trans (by decide) hs
  have h3 : [.tx] ⊆ ps := List.Subset.trans (by decide) hs
  repeat' first
    | with_reducible exact h
    | with_reducible assumption
    | with_reducible refine State.ackSent_keeps ?_ h1 ..
    | with_reducible refine State.readImages_keeps ?_ h2 ..
    | with_reducible refine State.modTx_keeps ?_ h3 ..
    | with_reducible refine State.modWork_keeps ?_ h1 ..
    | with_reducible refine State.modTxw_keeps ?_ h1 ..
    | ((with_reducible refine SameBut.iteKeep ?_ ?_); rotate_left; intro h; rotate_left)
    | (refine SameBut.mod h ?_; (intro q hq; cases q <;> first | exact rfl | exact absurd (hs (by decide)) hq))
    | split
    | (dsimp only)

theorem State.skipSlot_keeps {ps : List Part} {s0 t : State} (h : SameBut ps s0 t)
    (hs : [.ev, .tx, .trigPins] ⊆ ps) (p : Phys) (slot : Nat) : SameBut ps s0 (State.skipSlot t p slot) := by
  unfold State.skipSlot
  have h1 : [.ev, .trigPins] ⊆ ps := List.Subset.trans (by decide) hs
  have h2 : [.tx] ⊆ ps := List.Subset.trans (by decide) hs
  repeat' first
    | with_reducible exact h
    | with_reducible assumption
    | with_reducible refine State.raiseP_keeps ?_ h1 ..
    | with_reducible refine State.modTxDiag_keeps ?_ h2 ..
    | split
    | (dsimp only)

theorem State.sentFrames_keeps {ps : List Part} {s0 t : State} (h : SameBut ps s0 t)
    (hs : [.work] ⊆ ps) (w : Work) (dest : Nat) (frames : List LineFrame) :
        SameBut ps s0 (State.sentFrames t w dest frames) := by
  unfold State.sentFrames
  have h1 : [.work] ⊆ ps := List.Subset.trans (by decide) hs
  repeat' first
    | with_reducible exact h
    | with_reducible assumption
    | with_reducible refine State.modWork_keeps ?_ h1 ..
    | ((with_reducible refine SameBut.iteKeep ?_ ?_); rotate_left; intro h; rotate_left)
    | split
    | (dsimp only)

theorem State.endSlots_keeps {ps : List Part} {s0 t : State} (h : SameBut ps s0 t)
    (hs : [.sess, .ev, .core, .power, .mem, .lane, .rx, .acq, .dec, .tx, .work, .gallery, .group, .bias, .trigPins, .cal,
        .free] ⊆ ps) (lost : Bool) (w : Work) : SameBut ps s0 (State.endSlots t lost w) := by
  unfold State.endSlots
  have h1 : [.tx, .work] ⊆ ps := List.Subset.trans (by decide) hs
  have h2 : [.ev, .trigPins] ⊆ ps := List.Subset.trans (by decide) hs
  have h3 : [.sess, .ev, .core, .power, .mem, .lane, .rx, .acq, .dec, .tx, .work, .gallery, .group, .bias, .trigPins,
      .cal, .free] ⊆ ps := List.Subset.trans (by decide) hs
  have h4 : [.acq] ⊆ ps := List.Subset.trans (by decide) hs
  have h5 : [.tx] ⊆ ps := List.Subset.trans (by decide) hs
  repeat' first
    | with_reducible exact h
    | with_reducible assumption
    | with_reducible refine State.cutBurst_keeps ?_ h1 ..
    | with_reducible refine State.raiseP_keeps ?_ h2 ..
    | with_reducible refine State.settleBurstEnd_keeps ?_ h3 ..
    | with_reducible refine State.modAcq_keeps ?_ h4 ..
    | with_reducible refine State.modTxDiag_keeps ?_ h5 ..
    | ((with_reducible refine SameBut.iteKeep ?_ ?_); rotate_left; intro h; rotate_left)
    | split
    | (dsimp only)

theorem State.swapLane_keeps {ps : List Part} {s0 t : State} (h : SameBut ps s0 t)
    (hs : [.sess, .ev, .core, .power, .mem, .lane, .rx, .acq, .dec, .tx, .work, .gallery, .group, .bias, .trigPins, .cal,
        .free] ⊆ ps) (w : Work) : SameBut ps s0 (State.swapLane t w) := by
  unfold State.swapLane
  have h1 : [.ev, .trigPins] ⊆ ps := List.Subset.trans (by decide) hs
  have h2 : [.sess, .ev, .core, .power, .mem, .lane, .rx, .acq, .dec, .tx, .work, .gallery, .group, .bias, .trigPins,
      .cal, .free] ⊆ ps := List.Subset.trans (by decide) hs
  have h3 : [.lane] ⊆ ps := List.Subset.trans (by decide) hs
  have h4 : [.work] ⊆ ps := List.Subset.trans (by decide) hs
  repeat' first
    | with_reducible exact h
    | with_reducible assumption
    | with_reducible refine State.raiseP_keeps ?_ h1 ..
    | with_reducible refine State.raiseW_keeps ?_ h1 ..
    | with_reducible refine State.setMode_keeps ?_ h2 ..
    | with_reducible refine State.modLane_keeps ?_ h3 ..
    | with_reducible refine State.modTxw_keeps ?_ h4 ..
    | ((with_reducible refine SameBut.iteKeep ?_ ?_); rotate_left; intro h; rotate_left)
    | (refine SameBut.mod h ?_; (intro q hq; cases q <;> first | exact rfl | exact absurd (hs (by decide)) hq))
    | split
    | (dsimp only)

theorem State.lateSlots_keeps {ps : List Part} {s0 t : State} (h : SameBut ps s0 t)
    (hs : [.ev, .tx, .trigPins] ⊆ ps) (w : Work) : SameBut ps s0 (State.lateSlots t w) := by
  unfold State.lateSlots
  have h1 : [.ev, .tx, .trigPins] ⊆ ps := List.Subset.trans (by decide) hs
  repeat' first
    | with_reducible exact h
    | with_reducible assumption
    | with_reducible refine State.skipSlot_keeps ?_ h1 ..
    | ((with_reducible refine SameBut.iteKeep ?_ ?_); rotate_left; intro h; rotate_left)
    | ((with_reducible refine SameBut.each _ _ ?_ ?_); rotate_left; intro _ _ h; rotate_left)
    | split
    | (dsimp only)

theorem State.attest_keeps {ps : List Part} {s0 t : State} (h : SameBut ps s0 t)
    (hs : [.sess, .ev, .otp, .signing, .trigPins] ⊆ ps) (k : Sess) (nonce : Bytes) (bad : Nat) (switched : Bool) :
        SameBut ps s0 (State.attest t k nonce bad switched).2 := by
  unfold State.attest
  have h1 : [.ev, .trigPins] ⊆ ps := List.Subset.trans (by decide) hs
  have h2 : [.ev, .otp, .signing, .trigPins] ⊆ ps := List.Subset.trans (by decide) hs
  have h3 : [.sess] ⊆ ps := List.Subset.trans (by decide) hs
  repeat' first
    | with_reducible exact h
    | with_reducible assumption
    | with_reducible refine State.raise_keeps ?_ h1 ..
    | with_reducible refine State.modSess_keeps ?_ h3 ..
    | ((with_reducible refine SameBut.iteKeep ?_ ?_); rotate_left; intro h; rotate_left)
    | split
    | (dsimp only)
    | (rename_i heq _ _; with_reducible refine SameBut.pair (State.takeIndex_keeps ?_ (List.Subset.trans (by decide) hs) _ _ heq))
    | (rename_i heq _; with_reducible refine SameBut.pair (State.takeIndex_keeps ?_ (List.Subset.trans (by decide) hs) _ _ heq))
    | (rename_i heq; with_reducible refine SameBut.pair (State.takeIndex_keeps ?_ (List.Subset.trans (by decide) hs) _ _ heq))

theorem State.moveActions_keeps {ps : List Part} {s0 t : State} (h : SameBut ps s0 t)
    (hs : [.otp, .flash, .free] ⊆ ps) (dst : Nat) (ok : Bool) : SameBut ps s0 (State.moveActions t dst ok).2 := by
  unfold State.moveActions
  have h1 : [.flash] ⊆ ps := List.Subset.trans (by decide) hs
  have h2 : [.free] ⊆ ps := List.Subset.trans (by decide) hs
  repeat' first
    | with_reducible exact h
    | with_reducible assumption
    | with_reducible refine State.modFlash_keeps ?_ h1 ..
    | with_reducible refine SameBut.drawKeeps ?_ h2
    | ((with_reducible refine SameBut.iteKeep ?_ ?_); rotate_left; intro h; rotate_left)
    | ((with_reducible refine SameBut.modSec ?_ ?_); rotate_left; (intro q hq; cases q <;> first | exact rfl | exact absurd (hs (by decide)) hq))
    | split
    | (dsimp only)

theorem State.dropSecure_keeps {ps : List Part} {s0 t : State} (h : SameBut ps s0 t)
    (hs : [.sess] ⊆ ps)  : SameBut ps s0 (State.dropSecure t) := by
  unfold State.dropSecure
  repeat' first
    | with_reducible exact h
    | with_reducible assumption
    | ((with_reducible refine SameBut.iteKeep ?_ ?_); rotate_left; intro h; rotate_left)
    | ((with_reducible refine SameBut.modCtl ?_ ?_); rotate_left; (intro q hq; cases q <;> first | exact rfl | exact absurd (hs (by decide)) hq))
    | split
    | (dsimp only)

theorem State.calTrigger_keeps {ps : List Part} {s0 t : State} (h : SameBut ps s0 t)
    (hs : [.cal] ⊆ ps) (p : Phys) (command : Bool) (iters : Nat) : SameBut ps s0 (State.calTrigger t p command iters) := by
  unfold State.calTrigger
  have h1 : [.cal] ⊆ ps := List.Subset.trans (by decide) hs
  repeat' first
    | with_reducible exact h
    | with_reducible assumption
    | with_reducible refine State.modCal_keeps ?_ h1 ..
    | with_reducible refine State.modCalLane_keeps ?_ h1 ..
    | ((with_reducible refine SameBut.iteKeep ?_ ?_); rotate_left; intro h; rotate_left)
    | split
    | (dsimp only)

theorem State.calFinish_keeps {ps : List Part} {s0 t : State} (h : SameBut ps s0 t)
    (hs : [.ev, .trigPins, .cal] ⊆ ps) (p : Phys) (completed : Bool) : SameBut ps s0 (State.calFinish t p completed) := by
  unfold State.calFinish
  have h1 : [.ev, .trigPins] ⊆ ps := List.Subset.trans (by decide) hs
  have h2 : [.cal] ⊆ ps := List.Subset.trans (by decide) hs
  repeat' first
    | with_reducible exact h
    | with_reducible assumption
    | with_reducible refine State.raise_keeps ?_ h1 ..
    | with_reducible refine State.modCalLane_keeps ?_ h2 ..
    | ((with_reducible refine SameBut.iteKeep ?_ ?_); rotate_left; intro h; rotate_left)
    | split
    | (dsimp only)

theorem State.calApplied_keeps {ps : List Part} {s0 t : State} (h : SameBut ps s0 t)
    (hs : [.ev, .trigPins, .cal] ⊆ ps) (p : Phys) : SameBut ps s0 (State.calApplied t p) := by
  unfold State.calApplied
  have h1 : [.ev, .trigPins, .cal] ⊆ ps := List.Subset.trans (by decide) hs
  repeat' first
    | with_reducible exact h
    | with_reducible assumption
    | with_reducible refine State.calFinish_keeps ?_ h1 ..
    | ((with_reducible refine SameBut.iteKeep ?_ ?_); rotate_left; intro h; rotate_left)
    | split
    | (dsimp only)

theorem State.trims_keeps {ps : List Part} {s0 t : State} (h : SameBut ps s0 t)
    (hs : [.ev, .trigPins, .therm] ⊆ ps)  : SameBut ps s0 (State.trims t) := by
  unfold State.trims
  have h1 : [.ev, .trigPins] ⊆ ps := List.Subset.trans (by decide) hs
  have h2 : [.therm] ⊆ ps := List.Subset.trans (by decide) hs
  repeat' first
    | with_reducible exact h
    | with_reducible assumption
    | with_reducible refine State.raise_keeps ?_ h1 ..
    | with_reducible refine State.modTherm_keeps ?_ h2 ..
    | ((with_reducible refine SameBut.iteKeep ?_ ?_); rotate_left; intro h; rotate_left)
    | ((with_reducible refine SameBut.each _ _ ?_ ?_); rotate_left; intro _ _ h; rotate_left)
    | (refine SameBut.mod h ?_; (intro q hq; cases q <;> first | exact rfl | exact absurd (hs (by decide)) hq))
    | split
    | (dsimp only)

theorem State.rungTaps_keeps {ps : List Part} {s0 t : State} (h : SameBut ps s0 t)
    (hs : [.rx] ⊆ ps) (w : Work) (r : Nat) : SameBut ps s0 (State.rungTaps t w r) := by
  unfold State.rungTaps
  have h1 : [.rx] ⊆ ps := List.Subset.trans (by decide) hs
  repeat' first
    | with_reducible exact h
    | with_reducible assumption
    | with_reducible refine State.modActive_keeps ?_ h1 ..
    | ((with_reducible refine SameBut.iteKeep ?_ ?_); rotate_left; intro h; rotate_left)
    | split
    | (dsimp only)

theorem State.takeRung_keeps {ps : List Part} {s0 t : State} (h : SameBut ps s0 t)
    (hs : [.rx, .work, .therm] ⊆ ps) (errs : List LaneError) (r : Nat) (w : Work) :
        SameBut ps s0 (State.takeRung t errs r w) := by
  unfold State.takeRung
  have h1 : [.rx] ⊆ ps := List.Subset.trans (by decide) hs
  have h2 : [.work] ⊆ ps := List.Subset.trans (by decide) hs
  have h3 : [.therm] ⊆ ps := List.Subset.trans (by decide) hs
  repeat' first
    | with_reducible exact h
    | with_reducible assumption
    | with_reducible refine State.rungTaps_keeps ?_ h1 ..
    | with_reducible refine State.modWork_keeps ?_ h2 ..
    | with_reducible refine State.modTherm_keeps ?_ h3 ..
    | (refine SameBut.mod h ?_; (intro q hq; cases q <;> first | exact rfl | exact absurd (hs (by decide)) hq))
    | split
    | (dsimp only)

theorem State.applyRung_keeps {ps : List Part} {s0 t : State} (h : SameBut ps s0 t)
    (hs : [.rx, .work, .therm] ⊆ ps) (errs : List LaneError) (target : Nat) (r : Nat) (est : Int) (r0 : List Work) :
        SameBut ps s0 (State.applyRung t errs target r est r0).2 := by
  have h1 : [.rx, .work, .therm] ⊆ ps := List.Subset.trans (by decide) hs
  induction r0 generalizing t est with
  | nil => unfold State.applyRung; (first | (with_reducible exact h) | exact State.modPort_keeps h hs _ _ | exact h | (intro out e; cases e; exact h))
  | cons _ _ ih =>
    unfold State.applyRung
    repeat' first
      | with_reducible exact h
      | with_reducible assumption
      | with_reducible refine ih ?_ ..
      | with_reducible refine State.takeRung_keeps ?_ h1 ..
      | ((with_reducible refine SameBut.iteKeep ?_ ?_); rotate_left; intro h; rotate_left)
      | split
      | (dsimp only)

theorem State.applyLadder_keeps {ps : List Part} {s0 t : State} (h : SameBut ps s0 t)
    (hs : [.rx, .work, .therm] ⊆ ps) (errs : List LaneError) (target : Nat) (r0 : List Nat) (r1 : Int) :
        SameBut ps s0 (State.applyLadder t errs target r0 r1).2 := by
  have h1 : [.rx, .work, .therm] ⊆ ps := List.Subset.trans (by decide) hs
  induction r0 generalizing t r1 with
  | nil => unfold State.applyLadder; (first | (with_reducible exact h) | exact State.modPort_keeps h hs _ _ | exact h | (intro out e; cases e; exact h))
  | cons _ _ ih =>
    unfold State.applyLadder
    repeat' first
      | with_reducible exact h
      | with_reducible assumption
      | with_reducible refine ih ?_ ..
      | with_reducible refine State.applyRung_keeps ?_ h1 ..
      | ((with_reducible refine SameBut.iteKeep ?_ ?_); rotate_left; intro h; rotate_left)
      | split
      | (dsimp only)

theorem State.giveUp_keeps {ps : List Part} {s0 t : State} (h : SameBut ps s0 t)
    (hs : [.rx, .work, .therm] ⊆ ps) (limit : Int) (est : Int) (r0 : List (Nat × Nat)) :
        SameBut ps s0 (State.giveUp t limit est r0) := by
  have h1 : [.rx] ⊆ ps := List.Subset.trans (by decide) hs
  have h2 : [.work] ⊆ ps := List.Subset.trans (by decide) hs
  have h3 : [.therm] ⊆ ps := List.Subset.trans (by decide) hs
  induction r0 generalizing t est with
  | nil => unfold State.giveUp; (first | (with_reducible exact h) | exact State.modPort_keeps h hs _ _ | exact h | (intro out e; cases e; exact h))
  | cons _ _ ih =>
    unfold State.giveUp
    repeat' first
      | with_reducible exact h
      | with_reducible assumption
      | with_reducible refine ih ?_ ..
      | with_reducible refine State.rungTaps_keeps ?_ h1 ..
      | with_reducible refine State.modWork_keeps ?_ h2 ..
      | with_reducible refine State.modTherm_keeps ?_ h3 ..
      | ((with_reducible refine SameBut.iteKeep ?_ ?_); rotate_left; intro h; rotate_left)
      | (refine SameBut.mod h ?_; (intro q hq; cases q <;> first | exact rfl | exact absurd (hs (by decide)) hq))
      | split
      | (dsimp only)

theorem State.tripLane_keeps {ps : List Part} {s0 t : State} (h : SameBut ps s0 t)
    (hs : [.sess, .ev, .core, .power, .mem, .lane, .rx, .acq, .dec, .tx, .work, .gallery, .group, .bias, .trigPins, .cal,
        .free] ⊆ ps) (p : Phys) : SameBut ps s0 (State.tripLane t p) := by
  unfold State.tripLane
  have h1 : [.sess, .ev, .mem, .rx, .acq, .dec, .work, .gallery, .group, .trigPins] ⊆ ps := List.Subset.trans (by decide) hs
  have h2 : [.sess, .ev, .mem, .dec, .work, .group, .trigPins] ⊆ ps := List.Subset.trans (by decide) hs
  have h3 : [.ev, .rx, .trigPins, .cal] ⊆ ps := List.Subset.trans (by decide) hs
  have h4 : [.tx, .work] ⊆ ps := List.Subset.trans (by decide) hs
  have h5 : [.ev, .mem, .tx, .work, .group, .trigPins] ⊆ ps := List.Subset.trans (by decide) hs
  have h6 : [.ev, .trigPins] ⊆ ps := List.Subset.trans (by decide) hs
  have h7 : [.sess, .ev, .core, .power, .mem, .lane, .rx, .acq, .dec, .tx, .work, .gallery, .group, .bias, .trigPins,
      .cal, .free] ⊆ ps := List.Subset.trans (by decide) hs
  have h8 : [.rx] ⊆ ps := List.Subset.trans (by decide) hs
  repeat' first
    | with_reducible exact h
    | with_reducible assumption
    | with_reducible refine State.abandonBursts_keeps ?_ h1 ..
    | with_reducible refine State.amDrop_keeps ?_ h2 ..
    | with_reducible refine State.calAbort_keeps ?_ h3 ..
    | with_reducible refine State.cutBurst_keeps ?_ h4 ..
    | with_reducible refine State.cutRun_keeps ?_ h5 ..
    | with_reducible refine State.raiseP_keeps ?_ h6 ..
    | with_reducible refine State.settleBurstEnd_keeps ?_ h7 ..
    | with_reducible refine State.modRx_keeps ?_ h8 ..
    | ((with_reducible refine SameBut.iteKeep ?_ ?_); rotate_left; intro h; rotate_left)
    | split
    | (dsimp only)

theorem State.tripBias_keeps {ps : List Part} {s0 t : State} (h : SameBut ps s0 t)
    (hs : [.ev, .bias, .trigPins, .filter] ⊆ ps) (o : Bias) : SameBut ps s0 (State.tripBias t o) := by
  unfold State.tripBias
  have h1 : [.bias, .trigPins, .filter] ⊆ ps := List.Subset.trans (by decide) hs
  have h2 : [.ev, .bias, .trigPins] ⊆ ps := List.Subset.trans (by decide) hs
  have h3 : [.ev, .trigPins] ⊆ ps := List.Subset.trans (by decide) hs
  have h4 : [.bias] ⊆ ps := List.Subset.trans (by decide) hs
  repeat' first
    | with_reducible exact h
    | with_reducible assumption
    | with_reducible refine State.applyBias_keeps ?_ h1 ..
    | with_reducible refine State.freezeLoop_keeps ?_ h2 ..
    | with_reducible refine State.raise_keeps ?_ h3 ..
    | with_reducible refine State.modBias_keeps ?_ h4 ..
    | ((with_reducible refine SameBut.iteKeep ?_ ?_); rotate_left; intro h; rotate_left)
    | split
    | (dsimp only)

theorem State.trip_keeps {ps : List Part} {s0 t : State} (h : SameBut ps s0 t)
    (hs : [.sess, .ev, .core, .power, .mem, .selfTest, .flash, .lane, .rx, .acq, .dec, .tx, .work, .gallery, .group,
        .bias, .mon, .trigPins, .filter, .therm, .cal,
        .free] ⊆ ps) (sensor : Nat) : SameBut ps s0 (State.trip t sensor) := by
  unfold State.trip
  have h1 : [.ev, .mem, .selfTest, .flash, .lane, .rx, .acq, .tx, .work, .gallery, .group, .bias, .mon, .trigPins,
      .filter, .therm] ⊆ ps := List.Subset.trans (by decide) hs
  have h2 : [.ev, .trigPins] ⊆ ps := List.Subset.trans (by decide) hs
  have h3 : [.sess, .ev, .mem, .work, .group, .trigPins] ⊆ ps := List.Subset.trans (by decide) hs
  have h4 : [.ev, .bias, .trigPins, .filter] ⊆ ps := List.Subset.trans (by decide) hs
  have h5 : [.sess, .ev, .core, .power, .mem, .lane, .rx, .acq, .dec, .tx, .work, .gallery, .group, .bias, .trigPins,
      .cal, .free] ⊆ ps := List.Subset.trans (by decide) hs
  have h6 : [.therm] ⊆ ps := List.Subset.trans (by decide) hs
  repeat' first
    | with_reducible exact h
    | with_reducible assumption
    | with_reducible refine State.endTest_keeps ?_ h1 ..
    | with_reducible refine State.raise_keeps ?_ h2 ..
    | with_reducible refine State.scrapeAll_keeps ?_ h3 ..
    | with_reducible refine State.tripBias_keeps ?_ h4 ..
    | with_reducible refine State.tripLane_keeps ?_ h5 ..
    | with_reducible refine State.modTherm_keeps ?_ h6 ..
    | ((with_reducible refine SameBut.iteKeep ?_ ?_); rotate_left; intro h; rotate_left)
    | ((with_reducible refine SameBut.each _ _ ?_ ?_); rotate_left; intro _ _ h; rotate_left)
    | (refine SameBut.mod h ?_; (intro q hq; cases q <;> first | exact rfl | exact absurd (hs (by decide)) hq))
    | split
    | (dsimp only)

theorem State.startRecovery_keeps {ps : List Part} {s0 t : State} (h : SameBut ps s0 t)
    (hs : [.bias, .trigPins, .filter, .therm] ⊆ ps)  : SameBut ps s0 (State.startRecovery t) := by
  unfold State.startRecovery
  have h1 : [.bias, .trigPins, .filter] ⊆ ps := List.Subset.trans (by decide) hs
  have h2 : [.bias] ⊆ ps := List.Subset.trans (by decide) hs
  have h3 : [.therm] ⊆ ps := List.Subset.trans (by decide) hs
  repeat' first
    | with_reducible exact h
    | with_reducible assumption
    | with_reducible refine State.applyBias_keeps ?_ h1 ..
    | with_reducible refine State.modBias_keeps ?_ h2 ..
    | with_reducible refine State.modTherm_keeps ?_ h3 ..
    | ((with_reducible refine SameBut.each _ _ ?_ ?_); rotate_left; intro _ _ h; rotate_left)
    | (refine SameBut.mod h ?_; (intro q hq; cases q <;> first | exact rfl | exact absurd (hs (by decide)) hq))
    | split
    | (dsimp only)

theorem State.recoverLane_keeps {ps : List Part} {s0 t : State} (h : SameBut ps s0 t)
    (hs : [.rx, .tx, .work] ⊆ ps) (p : Phys) : SameBut ps s0 (State.recoverLane t p) := by
  unfold State.recoverLane
  have h1 : [.rx] ⊆ ps := List.Subset.trans (by decide) hs
  have h2 : [.tx] ⊆ ps := List.Subset.trans (by decide) hs
  have h3 : [.work] ⊆ ps := List.Subset.trans (by decide) hs
  repeat' first
    | with_reducible exact h
    | with_reducible assumption
    | with_reducible refine State.modRx_keeps ?_ h1 ..
    | with_reducible refine State.modTx_keeps ?_ h2 ..
    | with_reducible refine State.modTxw_keeps ?_ h3 ..
    | ((with_reducible refine SameBut.iteKeep ?_ ?_); rotate_left; intro h; rotate_left)
    | (refine SameBut.mod h ?_; (intro q hq; cases q <;> first | exact rfl | exact absurd (hs (by decide)) hq))
    | split
    | (dsimp only)

theorem State.startTest_keeps {ps : List Part} {s0 t : State} (h : SameBut ps s0 t)
    (hs : [.ev, .selfTest, .flash, .lane, .group, .bias, .mon, .trigPins, .filter] ⊆ ps) (r : TestRecord) :
        SameBut ps s0 (State.startTest t r) := by
  unfold State.startTest
  have h1 : [.ev, .bias, .trigPins] ⊆ ps := List.Subset.trans (by decide) hs
  have h2 : [.bias, .trigPins, .filter] ⊆ ps := List.Subset.trans (by decide) hs
  have h3 : [.ev, .trigPins] ⊆ ps := List.Subset.trans (by decide) hs
  have h4 : [.group, .bias, .mon, .trigPins, .filter] ⊆ ps := List.Subset.trans (by decide) hs
  have h5 : [.flash] ⊆ ps := List.Subset.trans (by decide) hs
  have h6 : [.lane] ⊆ ps := List.Subset.trans (by decide) hs
  repeat' first
    | with_reducible exact h
    | with_reducible assumption
    | with_reducible refine State.freezeLane_keeps ?_ h1 ..
    | with_reducible refine State.openBall_keeps ?_ h2 ..
    | with_reducible refine State.raise_keeps ?_ h3 ..
    | with_reducible refine State.startCheck_keeps ?_ h4 ..
    | with_reducible refine State.writeTest_keeps ?_ h5 ..
    | with_reducible refine State.modLane_keeps ?_ h6 ..
    | ((with_reducible refine SameBut.iteKeep ?_ ?_); rotate_left; intro h; rotate_left)
    | ((with_reducible refine SameBut.each _ _ ?_ ?_); rotate_left; intro _ _ h; rotate_left)
    | ((with_reducible refine SameBut.modSec ?_ ?_); rotate_left; (intro q hq; cases q <;> first | exact rfl | exact absurd (hs (by decide)) hq))
    | split
    | (dsimp only)

theorem State.exchangePair_keeps {ps : List Part} {s0 t : State} (h : SameBut ps s0 t)
    (hs : [.core] ⊆ ps) (c : Core) : SameBut ps s0 (State.exchangePair t c) := by
  unfold State.exchangePair
  have h1 : [.core] ⊆ ps := List.Subset.trans (by decide) hs
  repeat' first
    | with_reducible exact h
    | with_reducible assumption
    | with_reducible refine State.modCore_keeps ?_ h1 ..
    | ((with_reducible refine SameBut.iteKeep ?_ ?_); rotate_left; intro h; rotate_left)
    | split
    | (dsimp only)

theorem State.modCur_keeps {ps : List Part} {s0 t : State} (h : SameBut ps s0 t)
    (hs : [.acq] ⊆ ps) (p : Phys) (f : Burst → Burst) : SameBut ps s0 (State.modCur t p f) := by
  unfold State.modCur
  have h1 : [.acq] ⊆ ps := List.Subset.trans (by decide) hs
  repeat' first
    | with_reducible exact h
    | with_reducible assumption
    | with_reducible refine State.modAcq_keeps ?_ h1 ..
    | split
    | (dsimp only)

theorem State.captureTest_keeps {ps : List Part} {s0 t : State} (h : SameBut ps s0 t)
    (hs : [.sess, .ev, .mem, .rx, .acq, .dec, .work, .gallery, .group, .trigPins] ⊆ ps) (p : Phys) (w : Work) (b :
        Burst) (start : BurstStart) (sym : Sym) (strength : Int) : SameBut ps s0 (State.captureTest t p w b start sym strength) := by
  unfold State.captureTest
  have h1 : [.work] ⊆ ps := List.Subset.trans (by decide) hs
  have h2 : [.sess, .ev, .mem, .rx, .acq, .dec, .work, .gallery, .group, .trigPins] ⊆ ps := List.Subset.trans (by decide) hs
  have h3 : [.ev, .mem, .rx, .acq, .work, .trigPins] ⊆ ps := List.Subset.trans (by decide) hs
  have h4 : [.ev, .trigPins] ⊆ ps := List.Subset.trans (by decide) hs
  have h5 : [.mem, .work] ⊆ ps := List.Subset.trans (by decide) hs
  repeat' first
    | with_reducible exact h
    | with_reducible assumption
    | with_reducible refine State.countBurst_keeps ?_ h1 ..
    | with_reducible refine State.endCurrent_keeps ?_ h2 ..
    | with_reducible refine State.judgeStart_keeps ?_ h3 ..
    | with_reducible refine State.raiseP_keeps ?_ h4 ..
    | with_reducible refine State.reportSender_keeps ?_ h5 ..
    | ((with_reducible refine SameBut.iteKeep ?_ ?_); rotate_left; intro h; rotate_left)
    | split
    | (dsimp only)

theorem State.newPeak_keeps {ps : List Part} {s0 t : State} (h : SameBut ps s0 t)
    (hs : [.sess, .ev, .mem, .rx, .acq, .dec, .work, .gallery, .group, .trigPins] ⊆ ps) (p : Phys) (w : Work) (b :
        Burst) (cold : Bool) (sym : Sym) (strength : Int) : SameBut ps s0 (State.newPeak t p w b cold sym strength) := by
  unfold State.newPeak
  have h1 : [.sess, .ev, .mem, .rx, .acq, .dec, .work, .gallery, .group, .trigPins] ⊆ ps := List.Subset.trans (by decide) hs
  have h2 : [.work] ⊆ ps := List.Subset.trans (by decide) hs
  have h3 : [.ev, .mem, .rx, .acq, .work, .trigPins] ⊆ ps := List.Subset.trans (by decide) hs
  have h4 : [.acq] ⊆ ps := List.Subset.trans (by decide) hs
  have h5 : [.ev, .trigPins] ⊆ ps := List.Subset.trans (by decide) hs
  have h6 : [.ev, .mem, .acq, .work, .gallery, .trigPins] ⊆ ps := List.Subset.trans (by decide) hs
  repeat' first
    | with_reducible exact h
    | with_reducible assumption
    | with_reducible refine State.captureTest_keeps ?_ h1 ..
    | with_reducible refine State.countBurst_keeps ?_ h2 ..
    | with_reducible refine State.endCurrent_keeps ?_ h1 ..
    | with_reducible refine State.judgeStart_keeps ?_ h3 ..
    | with_reducible refine State.modCur_keeps ?_ h4 ..
    | with_reducible refine State.raiseP_keeps ?_ h5 ..
    | with_reducible refine State.startBurst_keeps ?_ h3 ..
    | with_reducible refine State.unlockBurst_keeps ?_ h6 ..
    | with_reducible refine State.modAcq_keeps ?_ h4 ..
    | ((with_reducible refine SameBut.iteKeep ?_ ?_); rotate_left; intro h; rotate_left)
    | split
    | (dsimp only)

theorem State.choosePortrait_keeps {ps : List Part} {s0 t : State} (h : SameBut ps s0 t)
    (hs : [.acq, .work, .gallery] ⊆ ps) (p : Phys) (w : Work) (st : Nat) (kind : FetchKind) (resync : Bool) :
        SameBut ps s0 (State.choosePortrait t p w st kind resync) := by
  unfold State.choosePortrait
  have h1 : [.work] ⊆ ps := List.Subset.trans (by decide) hs
  have h2 : [.acq] ⊆ ps := List.Subset.trans (by decide) hs
  have h3 : [.gallery] ⊆ ps := List.Subset.trans (by decide) hs
  repeat' first
    | with_reducible exact h
    | with_reducible assumption
    | with_reducible refine State.countBurst_keeps ?_ h1 ..
    | with_reducible refine State.modCur_keeps ?_ h2 ..
    | with_reducible refine State.requestFetch_keeps ?_ h3 ..
    | with_reducible refine State.modAcq_keeps ?_ h2 ..
    | ((with_reducible refine SameBut.iteKeep ?_ ?_); rotate_left; intro h; rotate_left)
    | split
    | (dsimp only)

theorem State.decidePortrait_keeps {ps : List Part} {s0 t : State} (h : SameBut ps s0 t)
    (hs : [.sess, .ev, .mem, .rx, .acq, .dec, .work, .gallery, .group, .trigPins] ⊆ ps) (p : Phys) (w : Work) (b :
        Burst) : SameBut ps s0 (State.decidePortrait t p w b) := by
  unfold State.decidePortrait
  have h1 : [.rx] ⊆ ps := List.Subset.trans (by decide) hs
  have h2 : [.ev, .rx, .trigPins] ⊆ ps := List.Subset.trans (by decide) hs
  have h3 : [.acq, .work, .gallery] ⊆ ps := List.Subset.trans (by decide) hs
  have h4 : [.work] ⊆ ps := List.Subset.trans (by decide) hs
  have h5 : [.sess, .ev, .mem, .rx, .acq, .dec, .work, .gallery, .group, .trigPins] ⊆ ps := List.Subset.trans (by decide) hs
  have h6 : [.acq] ⊆ ps := List.Subset.trans (by decide) hs
  have h7 : [.ev, .trigPins] ⊆ ps := List.Subset.trans (by decide) hs
  have h8 : [.sess, .ev, .mem, .dec, .work, .group, .trigPins] ⊆ ps := List.Subset.trans (by decide) hs
  repeat' first
    | with_reducible exact h
    | with_reducible assumption
    | with_reducible refine State.addJob_keeps ?_ h1 ..
    | with_reducible refine State.captureAbort_keeps ?_ h2 ..
    | with_reducible refine State.choosePortrait_keeps ?_ h3 ..
    | with_reducible refine State.countBurst_keeps ?_ h4 ..
    | with_reducible refine State.endCurrent_keeps ?_ h5 ..
    | with_reducible refine State.modCur_keeps ?_ h6 ..
    | with_reducible refine State.raiseP_keeps ?_ h7 ..
    | with_reducible refine State.settleReplaying_keeps ?_ h1 ..
    | with_reducible refine State.startDelin_keeps ?_ h8 ..
    | ((with_reducible refine SameBut.iteKeep ?_ ?_); rotate_left; intro h; rotate_left)
    | split
    | (dsimp only)

theorem State.replayCoeffs_keeps {ps : List Part} {s0 t : State} (h : SameBut ps s0 t)
    (hs : [.rx, .acq] ⊆ ps) (p : Phys) (b : Burst) (c : Coeffs) : SameBut ps s0 (State.replayCoeffs t p b c) := by
  unfold State.replayCoeffs
  have h1 : [.rx] ⊆ ps := List.Subset.trans (by decide) hs
  have h2 : [.acq] ⊆ ps := List.Subset.trans (by decide) hs
  repeat' first
    | with_reducible exact h
    | with_reducible assumption
    | with_reducible refine State.modActive_keeps ?_ h1 ..
    | with_reducible refine State.modAcq_keeps ?_ h2 ..
    | ((with_reducible refine SameBut.iteKeep ?_ ?_); rotate_left; intro h; rotate_left)
    | split
    | (dsimp only)

theorem State.fetched_keeps {ps : List Part} {s0 t : State} (h : SameBut ps s0 t)
    (hs : [.mem, .acq] ⊆ ps) (f : Fetch) (q : Portrait) : SameBut ps s0 (State.fetched t f q) := by
  unfold State.fetched
  have h1 : [.mem, .acq] ⊆ ps := List.Subset.trans (by decide) hs
  have h2 : [.acq] ⊆ ps := List.Subset.trans (by decide) hs
  repeat' first
    | with_reducible exact h
    | with_reducible assumption
    | with_reducible refine State.hotStore_keeps ?_ h1 ..
    | with_reducible refine State.modAcq_keeps ?_ h2 ..
    | ((with_reducible refine SameBut.iteKeep ?_ ?_); rotate_left; intro h; rotate_left)
    | split
    | (dsimp only)

theorem State.waitBase_keeps {ps : List Part} {s0 t : State} (h : SameBut ps s0 t)
    (hs : [.acq] ⊆ ps) (p : Phys) (st : Nat) : SameBut ps s0 (State.waitBase t p st) := by
  unfold State.waitBase
  have h1 : [.acq] ⊆ ps := List.Subset.trans (by decide) hs
  repeat' first
    | with_reducible exact h
    | with_reducible assumption
    | with_reducible refine State.modAcq_keeps ?_ h1 ..
    | split
    | (dsimp only)

theorem State.readLog_keeps {ps : List Part} {s0 t : State} (h : SameBut ps s0 t)
    (hs : [.ev, .mem, .trigPins] ⊆ ps) (w : Work) (bad : Option (Nat × Nat × BitVec 42)) :
        SameBut ps s0 (State.readLog t w bad).2 := by
  unfold State.readLog
  have h1 : [.ev, .mem, .trigPins] ⊆ ps := List.Subset.trans (by decide) hs
  repeat' first
    | with_reducible exact h
    | with_reducible assumption
    | with_reducible refine State.unitRead_keeps ?_ h1 ..
    | ((with_reducible refine SameBut.iteKeep ?_ ?_); rotate_left; intro h; rotate_left)
    | ((with_reducible refine SameBut.foldlSnd _ _ _ ?_ ?_); rotate_left; intro _ _ h; rotate_left)
    | ((with_reducible refine SameBut.foldl _ _ ?_ ?_); rotate_left; intro _ _ h; rotate_left)
    | split
    | (dsimp only)

theorem State.rejectWindow_keeps {ps : List Part} {s0 t : State} (h : SameBut ps s0 t)
    (hs : [.ev, .rx, .trigPins, .cal] ⊆ ps) (p : Phys) (reason : Nat) : SameBut ps s0 (State.rejectWindow t p reason) := by
  unfold State.rejectWindow
  have h1 : [.ev, .trigPins, .cal] ⊆ ps := List.Subset.trans (by decide) hs
  have h2 : [.ev, .trigPins] ⊆ ps := List.Subset.trans (by decide) hs
  have h3 : [.rx] ⊆ ps := List.Subset.trans (by decide) hs
  have h4 : [.cal] ⊆ ps := List.Subset.trans (by decide) hs
  repeat' first
    | with_reducible exact h
    | with_reducible assumption
    | with_reducible refine State.calFinish_keeps ?_ h1 ..
    | with_reducible refine State.raiseP_keeps ?_ h2 ..
    | with_reducible refine State.modDiag_keeps ?_ h3 ..
    | with_reducible refine State.modCalLane_keeps ?_ h4 ..
    | ((with_reducible refine SameBut.iteKeep ?_ ?_); rotate_left; intro h; rotate_left)
    | split
    | (dsimp only)

theorem State.sumHour_keeps {ps : List Part} {s0 t : State} (h : SameBut ps s0 t)
    (hs : [.age] ⊆ ps) (swings : List Nat) : SameBut ps s0 (State.sumHour t swings) := by
  unfold State.sumHour
  have h1 : [.age] ⊆ ps := List.Subset.trans (by decide) hs
  repeat' first
    | with_reducible exact h
    | with_reducible assumption
    | with_reducible refine State.modAge_keeps ?_ h1 ..
    | ((with_reducible refine SameBut.iteKeep ?_ ?_); rotate_left; intro h; rotate_left)
    | ((with_reducible refine SameBut.foldlSnd _ _ _ ?_ ?_); rotate_left; intro _ _ h; rotate_left)
    | ((with_reducible refine SameBut.foldl _ _ ?_ ?_); rotate_left; intro _ _ h; rotate_left)
    | split
    | (dsimp only)

theorem State.endDay_keeps {ps : List Part} {s0 t : State} (h : SameBut ps s0 t)
    (hs : [.age] ⊆ ps)  : SameBut ps s0 (State.endDay t) := by
  unfold State.endDay
  have h1 : [.age] ⊆ ps := List.Subset.trans (by decide) hs
  repeat' first
    | with_reducible exact h
    | with_reducible assumption
    | with_reducible refine State.modAge_keeps ?_ h1 ..
    | ((with_reducible refine SameBut.iteKeep ?_ ?_); rotate_left; intro h; rotate_left)
    | split
    | (dsimp only)

theorem State.ageingMoves_keeps {ps : List Part} {s0 t : State} (h : SameBut ps s0 t)
    (hs : [.sess, .ev, .core, .power, .mem, .lane, .rx, .acq, .dec, .tx, .work, .gallery, .group, .bias, .trigPins,
        .cal] ⊆ ps) (plan : Phys → LanePlan) : SameBut ps s0 (State.ageingMoves t plan).2 := by
  unfold State.ageingMoves
  have h1 : [.sess, .ev, .core, .power, .mem, .lane, .rx, .acq, .dec, .tx, .work, .gallery, .group, .bias, .trigPins,
      .cal] ⊆ ps := List.Subset.trans (by decide) hs
  repeat' first
    | with_reducible exact h
    | with_reducible assumption
    | with_reducible refine State.declareFail_keeps ?_ h1 ..
    | ((with_reducible refine SameBut.iteKeep ?_ ?_); rotate_left; intro h; rotate_left)
    | ((with_reducible refine SameBut.foldlSnd _ _ _ ?_ ?_); rotate_left; intro _ _ h; rotate_left)
    | ((with_reducible refine SameBut.foldl _ _ ?_ ?_); rotate_left; intro _ _ h; rotate_left)
    | split
    | (dsimp only)

theorem State.pinLane_keeps {ps : List Part} {s0 t : State} (h : SameBut ps s0 t)
    (hs : [.lane, .cal] ⊆ ps) (p : Phys) (pin : Bool) : SameBut ps s0 (State.pinLane t p pin) := by
  unfold State.pinLane
  have h1 : [.lane] ⊆ ps := List.Subset.trans (by decide) hs
  have h2 : [.cal] ⊆ ps := List.Subset.trans (by decide) hs
  repeat' first
    | with_reducible exact h
    | with_reducible assumption
    | with_reducible refine State.modLane_keeps ?_ h1 ..
    | with_reducible refine State.modCal_keeps ?_ h2 ..
    | with_reducible refine State.modCalLane_keeps ?_ h2 ..
    | ((with_reducible refine SameBut.iteKeep ?_ ?_); rotate_left; intro h; rotate_left)
    | split
    | (dsimp only)

theorem State.powerOnReset_keeps {ps : List Part} {s0 t : State} (h : SameBut ps s0 t)
    (hs : [.lock, .bus, .sess, .ev, .perf, .snap, .pins, .clk, .core, .power, .avs, .mem, .fwReady, .ctlRestart,
        .signing, .selfTest, .img, .lane, .rx, .acq, .dec, .tx, .work, .gallery, .epoch, .group, .bias, .mon, .trigPins,
        .filter, .therm, .cal, .age] ⊆ ps) (internal : Bool) : SameBut ps s0 (State.powerOnReset t internal) := by
  unfold State.powerOnReset
  have h1 : [.clk] ⊆ ps := List.Subset.trans (by decide) hs
  have h2 : [.pins] ⊆ ps := List.Subset.trans (by decide) hs
  have h3 : [.therm] ⊆ ps := List.Subset.trans (by decide) hs
  repeat' first
    | with_reducible exact h
    | with_reducible assumption
    | with_reducible refine State.modClk_keeps ?_ h1 ..
    | with_reducible refine State.modPins_keeps ?_ h2 ..
    | with_reducible refine State.modTherm_keeps ?_ h3 ..
    | ((with_reducible refine SameBut.iteKeep ?_ ?_); rotate_left; intro h; rotate_left)
    | (refine SameBut.mod h ?_; (intro q hq; cases q <;> first | exact rfl | exact absurd (hs (by decide)) hq))
    | split
    | (dsimp only)

theorem State.startUp_keeps {ps : List Part} {s0 t : State} (h : SameBut ps s0 t)
    (hs : [.pins, .clk, .work] ⊆ ps) (straps : BitVec 4) (refclk : Bool) (fabclk : Bool) :
        SameBut ps s0 (State.startUp t straps refclk fabclk) := by
  unfold State.startUp
  have h1 : [.clk] ⊆ ps := List.Subset.trans (by decide) hs
  have h2 : [.pins] ⊆ ps := List.Subset.trans (by decide) hs
  repeat' first
    | with_reducible exact h
    | with_reducible assumption
    | with_reducible refine State.modClk_keeps ?_ h1 ..
    | with_reducible refine State.modPins_keeps ?_ h2 ..
    | (refine SameBut.mod h ?_; (intro q hq; cases q <;> first | exact rfl | exact absurd (hs (by decide)) hq))
    | split
    | (dsimp only)

theorem State.changeNow_keeps {ps : List Part} {s0 t : State} (h : SameBut ps s0 t)
    (hs : [.sess, .ev, .core, .power, .mem, .lane, .rx, .acq, .dec, .tx, .work, .gallery, .group, .bias, .trigPins, .cal,
        .free] ⊆ ps) (p : Phys) (target : LaneMode) : SameBut ps s0 (State.changeNow t p target) := by
  unfold State.changeNow
  have h1 : [.sess, .ev, .lane, .trigPins] ⊆ ps := List.Subset.trans (by decide) hs
  have h2 : [.sess, .ev, .core, .power, .mem, .lane, .rx, .acq, .dec, .tx, .work, .gallery, .group, .bias, .trigPins,
      .cal, .free] ⊆ ps := List.Subset.trans (by decide) hs
  repeat' first
    | with_reducible exact h
    | with_reducible assumption
    | with_reducible refine State.endTrain_keeps ?_ h1 ..
    | with_reducible refine State.setMode_keeps ?_ h2 ..
    | with_reducible refine State.spareEntered_keeps ?_ h2 ..
    | ((with_reducible refine SameBut.iteKeep ?_ ?_); rotate_left; intro h; rotate_left)
    | split
    | (dsimp only)

theorem State.restoreMove_keeps {ps : List Part} {s0 t : State} (h : SameBut ps s0 t)
    (hs : [.ev, .power, .mem, .lane, .tx, .work, .group, .bias, .trigPins] ⊆ ps) (p : Phys) :
        SameBut ps s0 (State.restoreMove t p) := by
  unfold State.restoreMove
  have h1 : [.ev, .power, .mem, .lane, .tx, .work, .group, .bias, .trigPins] ⊆ ps := List.Subset.trans (by decide) hs
  have h2 : [.ev, .trigPins] ⊆ ps := List.Subset.trans (by decide) hs
  have h3 : [.lane] ⊆ ps := List.Subset.trans (by decide) hs
  repeat' first
    | with_reducible exact h
    | with_reducible assumption
    | with_reducible refine State.plannedMove_keeps ?_ h1 ..
    | with_reducible refine State.raiseP_keeps ?_ h2 ..
    | with_reducible refine State.modLane_keeps ?_ h3 ..
    | ((with_reducible refine SameBut.iteKeep ?_ ?_); rotate_left; intro h; rotate_left)
    | split
    | (dsimp only)

theorem State.baseFromTraining_keeps {ps : List Part} {s0 t : State} (h : SameBut ps s0 t)
    (hs : [.work] ⊆ ps) (p : Phys) : SameBut ps s0 (State.baseFromTraining t p) := by
  unfold State.baseFromTraining
  have h1 : [.work] ⊆ ps := List.Subset.trans (by decide) hs
  repeat' first
    | with_reducible exact h
    | with_reducible assumption
    | with_reducible refine State.modBurst_keeps ?_ h1 ..
    | split
    | (dsimp only)

theorem State.trainingEnds_keeps {ps : List Part} {s0 t : State} (h : SameBut ps s0 t)
    (hs : [.sess, .ev, .core, .power, .mem, .lane, .rx, .acq, .dec, .tx, .work, .gallery, .group, .bias, .trigPins, .cal,
        .free] ⊆ ps) (p : Phys) (passed : Bool) (reason : Nat) : SameBut ps s0 (State.trainingEnds t p passed reason) := by
  unfold State.trainingEnds
  have h1 : [.work] ⊆ ps := List.Subset.trans (by decide) hs
  have h2 : [.sess, .ev, .lane, .trigPins] ⊆ ps := List.Subset.trans (by decide) hs
  have h3 : [.ev, .trigPins] ⊆ ps := List.Subset.trans (by decide) hs
  have h4 : [.ev, .power, .mem, .lane, .tx, .work, .group, .bias, .trigPins] ⊆ ps := List.Subset.trans (by decide) hs
  have h5 : [.sess, .ev, .core, .power, .mem, .lane, .rx, .acq, .dec, .tx, .work, .gallery, .group, .bias, .trigPins,
      .cal, .free] ⊆ ps := List.Subset.trans (by decide) hs
  have h6 : [.lane] ⊆ ps := List.Subset.trans (by decide) hs
  have h7 : [.tx] ⊆ ps := List.Subset.trans (by decide) hs
  repeat' first
    | with_reducible exact h
    | with_reducible assumption
    | with_reducible refine State.baseFromTraining_keeps ?_ h1 ..
    | with_reducible refine State.endTrain_keeps ?_ h2 ..
    | with_reducible refine State.raiseP_keeps ?_ h3 ..
    | with_reducible refine State.restoreMove_keeps ?_ h4 ..
    | with_reducible refine State.setMode_keeps ?_ h5 ..
    | with_reducible refine State.spareEntered_keeps ?_ h5 ..
    | with_reducible refine State.trainFails_keeps ?_ h5 ..
    | with_reducible refine State.modLane_keeps ?_ h6 ..
    | with_reducible refine State.modTx_keeps ?_ h7 ..
    | ((with_reducible refine SameBut.iteKeep ?_ ?_); rotate_left; intro h; rotate_left)
    | (refine SameBut.mod h ?_; (intro q hq; cases q <;> first | exact rfl | exact absurd (hs (by decide)) hq))
    | split
    | (dsimp only)

theorem State.finishMove_keeps {ps : List Part} {s0 t : State} (h : SameBut ps s0 t)
    (hs : [.sess, .ev, .core, .power, .mem, .lane, .rx, .acq, .dec, .tx, .work, .gallery, .group, .bias, .trigPins, .cal,
        .free] ⊆ ps) (w : Work) (m : Move) : SameBut ps s0 (State.finishMove t w m) := by
  unfold State.finishMove
  have h1 : [.lane] ⊆ ps := List.Subset.trans (by decide) hs
  have h2 : [.work] ⊆ ps := List.Subset.trans (by decide) hs
  have h3 : [.group] ⊆ ps := List.Subset.trans (by decide) hs
  have h4 : [.ev, .mem, .acq, .gallery, .trigPins] ⊆ ps := List.Subset.trans (by decide) hs
  have h5 : [.sess, .ev, .mem, .dec, .work, .group, .trigPins] ⊆ ps := List.Subset.trans (by decide) hs
  have h6 : [.ev, .lane, .trigPins] ⊆ ps := List.Subset.trans (by decide) hs
  have h7 : [.sess, .ev, .power, .mem, .lane, .rx, .acq, .dec, .tx, .work, .gallery, .group, .bias, .trigPins,
      .cal] ⊆ ps := List.Subset.trans (by decide) hs
  have h8 : [.sess, .ev, .core, .power, .mem, .lane, .rx, .acq, .dec, .tx, .work, .gallery, .group, .bias, .trigPins,
      .cal, .free] ⊆ ps := List.Subset.trans (by decide) hs
  have h9 : [.rx] ⊆ ps := List.Subset.trans (by decide) hs
  have h10 : [.tx] ⊆ ps := List.Subset.trans (by decide) hs
  repeat' first
    | with_reducible exact h
    | with_reducible assumption
    | with_reducible refine State.carryChange_keeps ?_ h1 ..
    | with_reducible refine State.countMove_keeps ?_ h2 ..
    | with_reducible refine State.grant_keeps ?_ h3 ..
    | with_reducible refine State.inherit_keeps ?_ h4 ..
    | with_reducible refine State.loseSketches_keeps ?_ h5 ..
    | with_reducible refine State.moveDone_keeps ?_ h6 ..
    | with_reducible refine State.physMode_keeps ?_ h7 ..
    | with_reducible refine State.retireLane_keeps ?_ h7 ..
    | with_reducible refine State.spareEntered_keeps ?_ h8 ..
    | with_reducible refine State.modLane_keeps ?_ h1 ..
    | with_reducible refine State.modDiag_keeps ?_ h9 ..
    | with_reducible refine State.modTxDiag_keeps ?_ h10 ..
    | with_reducible refine State.modWork_keeps ?_ h2 ..
    | ((with_reducible refine SameBut.iteKeep ?_ ?_); rotate_left; intro h; rotate_left)
    | split
    | (dsimp only)

theorem State.spareTaken_keeps {ps : List Part} {s0 t : State} (h : SameBut ps s0 t)
    (hs : [.ev, .mem, .selfTest, .flash, .lane, .rx, .acq, .tx, .work, .gallery, .group, .bias, .mon, .trigPins, .filter,
        .therm] ⊆ ps) (g : Group) : SameBut ps s0 (State.spareTaken t g) := by
  unfold State.spareTaken
  have h1 : [.ev, .mem, .selfTest, .flash, .lane, .rx, .acq, .tx, .work, .gallery, .group, .bias, .mon, .trigPins,
      .filter, .therm] ⊆ ps := List.Subset.trans (by decide) hs
  have h2 : [.ev, .trigPins] ⊆ ps := List.Subset.trans (by decide) hs
  have h3 : [.group] ⊆ ps := List.Subset.trans (by decide) hs
  repeat' first
    | with_reducible exact h
    | with_reducible assumption
    | with_reducible refine State.endTest_keeps ?_ h1 ..
    | with_reducible refine State.raise_keeps ?_ h2 ..
    | with_reducible refine State.modGroup_keeps ?_ h3 ..
    | ((with_reducible refine SameBut.iteKeep ?_ ?_); rotate_left; intro h; rotate_left)
    | split
    | (dsimp only)

theorem State.hostLaneFail_keeps {ps : List Part} {s0 t : State} (h : SameBut ps s0 t)
    (hs : [.sess, .ev, .core, .power, .mem, .selfTest, .flash, .lane, .rx, .acq, .dec, .tx, .work, .gallery, .group,
        .bias, .mon, .trigPins, .filter, .therm,
        .cal] ⊆ ps) (g : Group) (lane : Nat) (reason : Nat) : SameBut ps s0 (State.hostLaneFail t g lane reason) := by
  unfold State.hostLaneFail
  have h1 : [.sess, .ev, .core, .power, .mem, .lane, .rx, .acq, .dec, .tx, .work, .gallery, .group, .bias, .trigPins,
      .cal] ⊆ ps := List.Subset.trans (by decide) hs
  have h2 : [.ev, .trigPins] ⊆ ps := List.Subset.trans (by decide) hs
  have h3 : [.ev, .mem, .selfTest, .flash, .lane, .rx, .acq, .tx, .work, .gallery, .group, .bias, .mon, .trigPins,
      .filter, .therm] ⊆ ps := List.Subset.trans (by decide) hs
  have h4 : [.group] ⊆ ps := List.Subset.trans (by decide) hs
  repeat' first
    | with_reducible exact h
    | with_reducible assumption
    | with_reducible refine State.narrow_keeps ?_ h1 ..
    | with_reducible refine State.outOfService_keeps ?_ h1 ..
    | with_reducible refine State.raise_keeps ?_ h2 ..
    | with_reducible refine State.spareTaken_keeps ?_ h3 ..
    | with_reducible refine State.modGroup_keeps ?_ h4 ..
    | ((with_reducible refine SameBut.iteKeep ?_ ?_); rotate_left; intro h; rotate_left)
    | split
    | (dsimp only)

theorem State.readSwatches_keeps {ps : List Part} {s0 t : State} (h : SameBut ps s0 t)
    (hs : [.ev, .mem, .trigPins] ⊆ ps) (g : Group) (l : List (BitVec 16)) (bad : Option (Nat × BitVec 42)) :
        SameBut ps s0 (State.readSwatches t g l bad).2 := by
  unfold State.readSwatches
  have h1 : [.ev, .mem, .trigPins] ⊆ ps := List.Subset.trans (by decide) hs
  repeat' first
    | with_reducible exact h
    | with_reducible assumption
    | with_reducible refine State.unitRead_keeps ?_ h1 ..
    | ((with_reducible refine SameBut.foldlSnd _ _ _ ?_ ?_); rotate_left; intro _ _ h; rotate_left)
    | ((with_reducible refine SameBut.foldl _ _ ?_ ?_); rotate_left; intro _ _ h; rotate_left)
    | split
    | (dsimp only)

theorem State.noteSpareUse_keeps {ps : List Part} {s0 t : State} (h : SameBut ps s0 t)
    (hs : [.ev, .mem, .selfTest, .flash, .lane, .rx, .acq, .tx, .work, .gallery, .group, .bias, .mon, .trigPins, .filter,
        .therm] ⊆ ps) (g : Group) (before : HostGroup) : SameBut ps s0 (State.noteSpareUse t g before) := by
  unfold State.noteSpareUse
  have h1 : [.ev, .trigPins] ⊆ ps := List.Subset.trans (by decide) hs
  have h2 : [.ev, .mem, .selfTest, .flash, .lane, .rx, .acq, .tx, .work, .gallery, .group, .bias, .mon, .trigPins,
      .filter, .therm] ⊆ ps := List.Subset.trans (by decide) hs
  have h3 : [.group] ⊆ ps := List.Subset.trans (by decide) hs
  repeat' first
    | with_reducible exact h
    | with_reducible assumption
    | with_reducible refine State.raise_keeps ?_ h1 ..
    | with_reducible refine State.spareTaken_keeps ?_ h2 ..
    | with_reducible refine State.modGroup_keeps ?_ h3 ..
    | ((with_reducible refine SameBut.iteKeep ?_ ?_); rotate_left; intro h; rotate_left)
    | split
    | (dsimp only)

theorem State.linkUp_keeps {ps : List Part} {s0 t : State} (h : SameBut ps s0 t)
    (hs : [.ev, .img, .group, .trigPins] ⊆ ps) (g : Group) : SameBut ps s0 (State.linkUp t g) := by
  unfold State.linkUp
  have h1 : [.ev, .trigPins] ⊆ ps := List.Subset.trans (by decide) hs
  have h2 : [.ev, .img, .trigPins] ⊆ ps := List.Subset.trans (by decide) hs
  have h3 : [.group] ⊆ ps := List.Subset.trans (by decide) hs
  repeat' first
    | with_reducible exact h
    | with_reducible assumption
    | with_reducible refine State.raise_keeps ?_ h1 ..
    | with_reducible refine State.takeAck_keeps ?_ h2 ..
    | with_reducible refine State.modGroup_keeps ?_ h3 ..
    | ((with_reducible refine SameBut.iteKeep ?_ ?_); rotate_left; intro h; rotate_left)
    | split
    | (dsimp only)

theorem State.followClock_keeps {ps : List Part} {s0 t : State} (h : SameBut ps s0 t)
    (hs : [.ev, .mem, .selfTest, .flash, .lane, .rx, .acq, .tx, .work, .gallery, .group, .bias, .mon, .trigPins, .filter,
        .therm] ⊆ ps) (g : Group) : SameBut ps s0 (State.followClock t g) := by
  unfold State.followClock
  have h1 : [.ev, .trigPins] ⊆ ps := List.Subset.trans (by decide) hs
  have h2 : [.ev, .mem, .selfTest, .flash, .lane, .rx, .acq, .tx, .work, .gallery, .group, .bias, .mon, .trigPins,
      .filter, .therm] ⊆ ps := List.Subset.trans (by decide) hs
  have h3 : [.group] ⊆ ps := List.Subset.trans (by decide) hs
  repeat' first
    | with_reducible exact h
    | with_reducible assumption
    | with_reducible refine State.raise_keeps ?_ h1 ..
    | with_reducible refine State.spareTaken_keeps ?_ h2 ..
    | with_reducible refine State.modGroup_keeps ?_ h3 ..
    | ((with_reducible refine SameBut.iteKeep ?_ ?_); rotate_left; intro h; rotate_left)
    | split
    | (dsimp only)

theorem State.fixWidth_keeps {ps : List Part} {s0 t : State} (h : SameBut ps s0 t)
    (hs : [.sess, .ev, .core, .power, .mem, .lane, .rx, .acq, .dec, .tx, .work, .gallery, .group, .bias, .trigPins,
        .cal] ⊆ ps) (g : Group) : SameBut ps s0 (State.fixWidth t g) := by
  unfold State.fixWidth
  have h1 : [.sess, .ev, .core, .power, .mem, .lane, .rx, .acq, .dec, .tx, .work, .gallery, .group, .bias, .trigPins,
      .cal] ⊆ ps := List.Subset.trans (by decide) hs
  have h2 : [.ev, .trigPins] ⊆ ps := List.Subset.trans (by decide) hs
  have h3 : [.group] ⊆ ps := List.Subset.trans (by decide) hs
  repeat' first
    | with_reducible exact h
    | with_reducible assumption
    | with_reducible refine State.groupOut_keeps ?_ h1 ..
    | with_reducible refine State.raise_keeps ?_ h2 ..
    | with_reducible refine State.modGroup_keeps ?_ h3 ..
    | ((with_reducible refine SameBut.iteKeep ?_ ?_); rotate_left; intro h; rotate_left)
    | split
    | (dsimp only)

theorem State.trainSwatch_keeps {ps : List Part} {s0 t : State} (h : SameBut ps s0 t)
    (hs : [.sess, .ev, .core, .power, .mem, .selfTest, .flash, .img, .lane, .rx, .acq, .dec, .tx, .work, .gallery,
        .group, .bias, .mon, .trigPins, .filter, .therm, .cal,
        .free] ⊆ ps) (g : Group) (w : Swatch) : SameBut ps s0 (State.trainSwatch t g w) := by
  unfold State.trainSwatch
  have h1 : [.sess, .ev, .core, .power, .mem, .lane, .rx, .acq, .dec, .tx, .work, .gallery, .group, .bias, .trigPins,
      .cal] ⊆ ps := List.Subset.trans (by decide) hs
  have h2 : [.ev, .mem, .selfTest, .flash, .lane, .rx, .acq, .tx, .work, .gallery, .group, .bias, .mon, .trigPins,
      .filter, .therm] ⊆ ps := List.Subset.trans (by decide) hs
  have h3 : [.ev, .img, .group, .trigPins] ⊆ ps := List.Subset.trans (by decide) hs
  have h4 : [.group] ⊆ ps := List.Subset.trans (by decide) hs
  have h5 : [.free] ⊆ ps := List.Subset.trans (by decide) hs
  repeat' first
    | with_reducible exact h
    | with_reducible assumption
    | with_reducible refine State.fixWidth_keeps ?_ h1 ..
    | with_reducible refine State.followClock_keeps ?_ h2 ..
    | with_reducible refine State.linkUp_keeps ?_ h3 ..
    | with_reducible refine State.modGroup_keeps ?_ h4 ..
    | with_reducible refine SameBut.drawKeeps ?_ h5
    | ((with_reducible refine SameBut.iteKeep ?_ ?_); rotate_left; intro h; rotate_left)
    | split
    | (dsimp only)

theorem State.rawIn_keeps {ps : List Part} {s0 t : State} (h : SameBut ps s0 t)
    (hs : [.tx] ⊆ ps) (w : Work) (bytes : Bytes) : SameBut ps s0 (State.rawIn t w bytes) := by
  unfold State.rawIn
  have h1 : [.tx] ⊆ ps := List.Subset.trans (by decide) hs
  repeat' first
    | with_reducible exact h
    | with_reducible assumption
    | with_reducible refine State.modTx_keeps ?_ h1 ..
    | ((with_reducible refine SameBut.iteKeep ?_ ?_); rotate_left; intro h; rotate_left)
    | (refine SameBut.mod h ?_; (intro q hq; cases q <;> first | exact rfl | exact absurd (hs (by decide)) hq))
    | split
    | (dsimp only)

theorem State.retrainAsked_keeps {ps : List Part} {s0 t : State} (h : SameBut ps s0 t)
    (hs : [.ev, .power, .group, .trigPins] ⊆ ps) (g : Group) : SameBut ps s0 (State.retrainAsked t g) := by
  unfold State.retrainAsked
  have h1 : [.ev, .power, .group, .trigPins] ⊆ ps := List.Subset.trans (by decide) hs
  repeat' first
    | with_reducible exact h
    | with_reducible assumption
    | with_reducible refine State.retrain_keeps ?_ h1 ..
    | ((with_reducible refine SameBut.iteKeep ?_ ?_); rotate_left; intro h; rotate_left)
    | split
    | (dsimp only)

theorem State.spareOk_keeps {ps : List Part} {s0 t : State} (h : SameBut ps s0 t)
    (hs : [.group] ⊆ ps) (g : Group) (lane : Nat) : SameBut ps s0 (State.spareOk t g lane) := by
  unfold State.spareOk
  have h1 : [.group] ⊆ ps := List.Subset.trans (by decide) hs
  repeat' first
    | with_reducible exact h
    | with_reducible assumption
    | with_reducible refine State.modGroup_keeps ?_ h1 ..
    | ((with_reducible refine SameBut.iteKeep ?_ ?_); rotate_left; intro h; rotate_left)
    | split
    | (dsimp only)

theorem State.controlMessage_keeps {ps : List Part} {s0 t : State} (h : SameBut ps s0 t)
    (hs : [.sess, .ev, .core, .power, .mem, .lane, .rx, .acq, .dec, .tx, .work, .gallery, .group, .bias, .trigPins,
        .cal] ⊆ ps) (g : Group) (m : Bytes) : SameBut ps s0 (State.controlMessage t g m) := by
  unfold State.controlMessage
  have h1 : [.sess, .ev, .core, .power, .mem, .lane, .rx, .acq, .dec, .tx, .work, .gallery, .group, .bias, .trigPins,
      .cal] ⊆ ps := List.Subset.trans (by decide) hs
  have h2 : [.ev, .power, .group, .trigPins] ⊆ ps := List.Subset.trans (by decide) hs
  have h3 : [.group] ⊆ ps := List.Subset.trans (by decide) hs
  repeat' first
    | with_reducible exact h
    | with_reducible assumption
    | with_reducible refine State.repairReq_keeps ?_ h1 ..
    | with_reducible refine State.retrainAsked_keeps ?_ h2 ..
    | with_reducible refine State.spareOk_keeps ?_ h3 ..
    | with_reducible refine State.modGroup_keeps ?_ h3 ..
    | split
    | (dsimp only)

theorem State.controlSwatch_keeps {ps : List Part} {s0 t : State} (h : SameBut ps s0 t)
    (hs : [.sess, .ev, .core, .power, .mem, .lane, .rx, .acq, .dec, .tx, .work, .gallery, .group, .bias, .trigPins,
        .cal] ⊆ ps) (n : Nat) (g : Group) (p : Bytes) : SameBut ps s0 (State.controlSwatch n t g p) := by
  have h1 : [.sess, .ev, .core, .power, .mem, .lane, .rx, .acq, .dec, .tx, .work, .gallery, .group, .bias, .trigPins,
      .cal] ⊆ ps := List.Subset.trans (by decide) hs
  induction n generalizing t p with
  | zero => unfold State.controlSwatch; (first | (with_reducible exact h) | exact State.modPort_keeps h hs _ _ | exact h | (intro out e; cases e; exact h))
  | succ _ ih =>
    unfold State.controlSwatch
    repeat' first
      | with_reducible exact h
      | with_reducible assumption
      | with_reducible refine ih ?_ ..
      | with_reducible refine State.controlMessage_keeps ?_ h1 ..
      | ((with_reducible refine SameBut.iteKeep ?_ ?_); rotate_left; intro h; rotate_left)
      | split
      | (dsimp only)

theorem State.takeData_keeps {ps : List Part} {s0 t : State} (h : SameBut ps s0 t)
    (hs : [.sess, .ev, .core, .power, .mem, .lane, .rx, .acq, .dec, .tx, .work, .gallery, .group, .bias, .trigPins,
        .cal] ⊆ ps) (g : Group) (w : Swatch) : SameBut ps s0 (State.takeData t g w) := by
  unfold State.takeData
  have h1 : [.sess, .ev, .core, .power, .mem, .lane, .rx, .acq, .dec, .tx, .work, .gallery, .group, .bias, .trigPins,
      .cal] ⊆ ps := List.Subset.trans (by decide) hs
  have h2 : [.group] ⊆ ps := List.Subset.trans (by decide) hs
  have h3 : [.ev, .trigPins] ⊆ ps := List.Subset.trans (by decide) hs
  have h4 : [.tx] ⊆ ps := List.Subset.trans (by decide) hs
  have h5 : [.mem] ⊆ ps := List.Subset.trans (by decide) hs
  repeat' first
    | with_reducible exact h
    | with_reducible assumption
    | with_reducible refine State.controlSwatch_keeps ?_ h1 ..
    | with_reducible refine State.modChan_keeps ?_ h2 ..
    | with_reducible refine State.raise_keeps ?_ h3 ..
    | with_reducible refine State.rawIn_keeps ?_ h4 ..
    | with_reducible refine State.unitWrite_keeps ?_ h5 ..
    | with_reducible refine State.modGroup_keeps ?_ h2 ..
    | ((with_reducible refine SameBut.iteKeep ?_ ?_); rotate_left; intro h; rotate_left)
    | ((with_reducible refine SameBut.each _ _ ?_ ?_); rotate_left; intro _ _ h; rotate_left)
    | split
    | (dsimp only)

theorem State.takeSwatch_keeps {ps : List Part} {s0 t : State} (h : SameBut ps s0 t)
    (hs : [.sess, .ev, .core, .power, .mem, .selfTest, .flash, .img, .lane, .rx, .acq, .dec, .tx, .work, .gallery,
        .group, .bias, .mon, .trigPins, .filter, .therm, .cal,
        .free] ⊆ ps) (g : Group) (bs : Bytes) : SameBut ps s0 (State.takeSwatch t g bs) := by
  unfold State.takeSwatch
  have h1 : [.ev, .img, .trigPins] ⊆ ps := List.Subset.trans (by decide) hs
  have h2 : [.sess, .ev, .core, .power, .mem, .lane, .rx, .acq, .dec, .tx, .work, .gallery, .group, .bias, .trigPins,
      .cal] ⊆ ps := List.Subset.trans (by decide) hs
  have h3 : [.sess, .ev, .core, .power, .mem, .selfTest, .flash, .img, .lane, .rx, .acq, .dec, .tx, .work, .gallery,
      .group, .bias, .mon, .trigPins, .filter, .therm, .cal, .free] ⊆ ps := List.Subset.trans (by decide) hs
  have h4 : [.sess, .ev, .mem, .work, .group, .trigPins] ⊆ ps := List.Subset.trans (by decide) hs
  have h5 : [.group] ⊆ ps := List.Subset.trans (by decide) hs
  repeat' first
    | with_reducible exact h
    | with_reducible assumption
    | with_reducible refine State.takeAck_keeps ?_ h1 ..
    | with_reducible refine State.takeData_keeps ?_ h2 ..
    | with_reducible refine State.trainSwatch_keeps ?_ h3 ..
    | with_reducible refine State.varnishLane_keeps ?_ h4 ..
    | with_reducible refine State.modGroup_keeps ?_ h5 ..
    | ((with_reducible refine SameBut.iteKeep ?_ ?_); rotate_left; intro h; rotate_left)
    | split
    | (dsimp only)

theorem State.startTraining_keeps {ps : List Part} {s0 t : State} (h : SameBut ps s0 t)
    (hs : [.sess, .ev, .core, .power, .mem, .lane, .rx, .acq, .dec, .tx, .work, .gallery, .group, .bias, .trigPins,
        .cal] ⊆ ps) (g : Group) : SameBut ps s0 (State.startTraining t g) := by
  unfold State.startTraining
  have h1 : [.sess, .ev, .core, .power, .mem, .lane, .rx, .acq, .dec, .tx, .work, .gallery, .group, .bias, .trigPins,
      .cal] ⊆ ps := List.Subset.trans (by decide) hs
  have h2 : [.ev, .power, .group, .trigPins] ⊆ ps := List.Subset.trans (by decide) hs
  have h3 : [.group] ⊆ ps := List.Subset.trans (by decide) hs
  repeat' first
    | with_reducible exact h
    | with_reducible assumption
    | with_reducible refine State.groupFromOff_keeps ?_ h1 ..
    | with_reducible refine State.groupOut_keeps ?_ h1 ..
    | with_reducible refine State.retrain_keeps ?_ h2 ..
    | with_reducible refine State.modGroup_keeps ?_ h3 ..
    | ((with_reducible refine SameBut.iteKeep ?_ ?_); rotate_left; intro h; rotate_left)
    | split
    | (dsimp only)

theorem State.hostTxFail_keeps {ps : List Part} {s0 t : State} (h : SameBut ps s0 t)
    (hs : [.sess, .ev, .core, .power, .mem, .selfTest, .flash, .lane, .rx, .acq, .dec, .tx, .work, .gallery, .group,
        .bias, .mon, .trigPins, .filter, .therm,
        .cal] ⊆ ps) (g : Group) (lane : Nat) : SameBut ps s0 (State.hostTxFail t g lane) := by
  unfold State.hostTxFail
  have h1 : [.sess, .ev, .core, .power, .mem, .lane, .rx, .acq, .dec, .tx, .work, .gallery, .group, .bias, .trigPins,
      .cal] ⊆ ps := List.Subset.trans (by decide) hs
  have h2 : [.ev, .mem, .selfTest, .flash, .lane, .rx, .acq, .tx, .work, .gallery, .group, .bias, .mon, .trigPins,
      .filter, .therm] ⊆ ps := List.Subset.trans (by decide) hs
  have h3 : [.group] ⊆ ps := List.Subset.trans (by decide) hs
  repeat' first
    | with_reducible exact h
    | with_reducible assumption
    | with_reducible refine State.repairReq_keeps ?_ h1 ..
    | with_reducible refine State.spareTaken_keeps ?_ h2 ..
    | with_reducible refine State.modGroup_keeps ?_ h3 ..
    | ((with_reducible refine SameBut.iteKeep ?_ ?_); rotate_left; intro h; rotate_left)
    | split
    | (dsimp only)

theorem State.sensorEvents_keeps {ps : List Part} {s0 t : State} (h : SameBut ps s0 t)
    (hs : [.ev, .trigPins] ⊆ ps) (before : ThermUnit) : SameBut ps s0 (State.sensorEvents t before) := by
  unfold State.sensorEvents
  have h1 : [.ev, .trigPins] ⊆ ps := List.Subset.trans (by decide) hs
  repeat' first
    | with_reducible exact h
    | with_reducible assumption
    | with_reducible refine State.raise_keeps ?_ h1 ..
    | ((with_reducible refine SameBut.iteKeep ?_ ?_); rotate_left; intro h; rotate_left)
    | ((with_reducible refine SameBut.each _ _ ?_ ?_); rotate_left; intro _ _ h; rotate_left)
    | split
    | (dsimp only)

theorem State.fastSampling_keeps {ps : List Part} {s0 t : State} (h : SameBut ps s0 t)
    (hs : [.ev, .trigPins, .therm] ⊆ ps)  : SameBut ps s0 (State.fastSampling t) := by
  unfold State.fastSampling
  have h1 : [.ev, .trigPins] ⊆ ps := List.Subset.trans (by decide) hs
  have h2 : [.therm] ⊆ ps := List.Subset.trans (by decide) hs
  repeat' first
    | with_reducible exact h
    | with_reducible assumption
    | with_reducible refine State.raise_keeps ?_ h1 ..
    | with_reducible refine State.modTherm_keeps ?_ h2 ..
    | ((with_reducible refine SameBut.iteKeep ?_ ?_); rotate_left; intro h; rotate_left)
    | (refine SameBut.mod h ?_; (intro q hq; cases q <;> first | exact rfl | exact absurd (hs (by decide)) hq))
    | split
    | (dsimp only)

theorem State.tempTrigger_keeps {ps : List Part} {s0 t : State} (h : SameBut ps s0 t)
    (hs : [.ev, .trigPins, .cal] ⊆ ps) (p : Phys) : SameBut ps s0 (State.tempTrigger t p) := by
  unfold State.tempTrigger
  have h1 : [.cal] ⊆ ps := List.Subset.trans (by decide) hs
  have h2 : [.ev, .trigPins] ⊆ ps := List.Subset.trans (by decide) hs
  repeat' first
    | with_reducible exact h
    | with_reducible assumption
    | with_reducible refine State.calTrigger_keeps ?_ h1 ..
    | with_reducible refine State.raise_keeps ?_ h2 ..
    | with_reducible refine State.modCalLane_keeps ?_ h1 ..
    | ((with_reducible refine SameBut.iteKeep ?_ ?_); rotate_left; intro h; rotate_left)
    | split
    | (dsimp only)

theorem State.watchCool_keeps {ps : List Part} {s0 t : State} (h : SameBut ps s0 t)
    (hs : [.therm] ⊆ ps)  : SameBut ps s0 (State.watchCool t) := by
  unfold State.watchCool
  have h1 : [.therm] ⊆ ps := List.Subset.trans (by decide) hs
  repeat' first
    | with_reducible exact h
    | with_reducible assumption
    | with_reducible refine State.modTherm_keeps ?_ h1 ..
    | ((with_reducible refine SameBut.iteKeep ?_ ?_); rotate_left; intro h; rotate_left)
    | (refine SameBut.mod h ?_; (intro q hq; cases q <;> first | exact rfl | exact absurd (hs (by decide)) hq))
    | split
    | (dsimp only)

theorem State.startSnapshot_keeps {ps : List Part} {s0 t : State} (h : SameBut ps s0 t)
    (hs : [.snap] ⊆ ps) (byCommand : Bool) (k : Option Sess) : SameBut ps s0 (State.startSnapshot t byCommand k) := by
  unfold State.startSnapshot
  repeat' first
    | with_reducible exact h
    | with_reducible assumption
    | ((with_reducible refine SameBut.modCtl ?_ ?_); rotate_left; (intro q hq; cases q <;> first | exact rfl | exact absurd (hs (by decide)) hq))
    | split
    | (dsimp only)

theorem State.endSnapshot_keeps {ps : List Part} {s0 t : State} (h : SameBut ps s0 t)
    (hs : [.sess, .ev, .snap, .trigPins] ⊆ ps)  : SameBut ps s0 (State.endSnapshot t) := by
  unfold State.endSnapshot
  have h1 : [.sess, .ev, .trigPins] ⊆ ps := List.Subset.trans (by decide) hs
  have h2 : [.ev, .trigPins] ⊆ ps := List.Subset.trans (by decide) hs
  repeat' first
    | with_reducible exact h
    | with_reducible assumption
    | with_reducible refine State.answerOpt_keeps ?_ h1 ..
    | with_reducible refine State.raise_keeps ?_ h2 ..
    | ((with_reducible refine SameBut.modCtl ?_ ?_); rotate_left; (intro q hq; cases q <;> first | exact rfl | exact absurd (hs (by decide)) hq))
    | split
    | (dsimp only)

theorem State.forgetWaiters_keeps {ps : List Part} {s0 t : State} (h : SameBut ps s0 t)
    (hs : [.lane, .work, .gallery, .group, .bias, .mon] ⊆ ps)  : SameBut ps s0 (State.forgetWaiters t) := by
  unfold State.forgetWaiters
  repeat' first
    | with_reducible exact h
    | with_reducible assumption
    | (refine SameBut.mod h ?_; (intro q hq; cases q <;> first | exact rfl | exact absurd (hs (by decide)) hq))
    | split
    | (dsimp only)

theorem State.ctlAssert_keeps {ps : List Part} {s0 t : State} (h : SameBut ps s0 t)
    (hs : [.bus, .sess, .ev, .perf, .snap, .clk, .core, .mem, .fwReady, .ctlRestart, .img, .lane, .work, .gallery,
        .group, .bias, .mon, .trigPins] ⊆ ps)  : SameBut ps s0 (State.ctlAssert t) := by
  unfold State.ctlAssert
  have h1 : [.clk] ⊆ ps := List.Subset.trans (by decide) hs
  have h2 : [.lane, .work, .gallery, .group, .bias, .mon] ⊆ ps := List.Subset.trans (by decide) hs
  have h3 : [.img] ⊆ ps := List.Subset.trans (by decide) hs
  have h4 : [.ev, .img, .trigPins] ⊆ ps := List.Subset.trans (by decide) hs
  have h5 : [.ev] ⊆ ps := List.Subset.trans (by decide) hs
  have h6 : [.core] ⊆ ps := List.Subset.trans (by decide) hs
  have h7 : [.mem] ⊆ ps := List.Subset.trans (by decide) hs
  repeat' first
    | with_reducible exact h
    | with_reducible assumption
    | with_reducible refine State.closeXing_keeps ?_ h1 ..
    | with_reducible refine State.forgetWaiters_keeps ?_ h2 ..
    | with_reducible refine State.quietPorts_keeps ?_ h3 ..
    | with_reducible refine State.rejectDownload_keeps ?_ h4 ..
    | with_reducible refine State.settleEvents_keeps ?_ h5 ..
    | with_reducible refine State.modCore_keeps ?_ h6 ..
    | with_reducible refine State.modArr_keeps ?_ h7 ..
    | ((with_reducible refine SameBut.iteKeep ?_ ?_); rotate_left; intro h; rotate_left)
    | ((with_reducible refine SameBut.each _ _ ?_ ?_); rotate_left; intro _ _ h; rotate_left)
    | ((with_reducible refine SameBut.modCtl ?_ ?_); rotate_left; (intro q hq; cases q <;> first | exact rfl | exact absurd (hs (by decide)) hq))
    | ((with_reducible refine SameBut.modSys ?_ ?_); rotate_left; (intro q hq; cases q <;> first | exact rfl | exact absurd (hs (by decide)) hq))
    | split
    | (dsimp only)

theorem State.ctlRelease_keeps {ps : List Part} {s0 t : State} (h : SameBut ps s0 t)
    (hs : [.ev, .pins, .clk, .core, .ctlRestart, .trigPins] ⊆ ps) (discarded : Nat × Nat) :
        SameBut ps s0 (State.ctlRelease t discarded) := by
  unfold State.ctlRelease
  have h1 : [.ev, .clk, .trigPins] ⊆ ps := List.Subset.trans (by decide) hs
  have h2 : [.ev] ⊆ ps := List.Subset.trans (by decide) hs
  have h3 : [.pins] ⊆ ps := List.Subset.trans (by decide) hs
  have h4 : [.core] ⊆ ps := List.Subset.trans (by decide) hs
  repeat' first
    | with_reducible exact h
    | with_reducible assumption
    | with_reducible refine State.openXing_keeps ?_ h1 ..
    | with_reducible refine State.settleEvents_keeps ?_ h2 ..
    | with_reducible refine State.modPins_keeps ?_ h3 ..
    | with_reducible refine State.modCore_keeps ?_ h4 ..
    | ((with_reducible refine SameBut.iteKeep ?_ ?_); rotate_left; intro h; rotate_left)
    | ((with_reducible refine SameBut.each _ _ ?_ ?_); rotate_left; intro _ _ h; rotate_left)
    | ((with_reducible refine SameBut.modSys ?_ ?_); rotate_left; (intro q hq; cases q <;> first | exact rfl | exact absurd (hs (by decide)) hq))
    | split
    | (dsimp only)

theorem State.ctlDone_keeps {ps : List Part} {s0 t : State} (h : SameBut ps s0 t)
    (hs : [.bus, .sess, .ev, .perf, .snap, .fwReady, .ctlRestart, .trigPins] ⊆ ps)  : SameBut ps s0 (State.ctlDone t) := by
  unfold State.ctlDone
  have h1 : [.sess, .ev, .snap, .trigPins] ⊆ ps := List.Subset.trans (by decide) hs
  have h2 : [.ev, .trigPins] ⊆ ps := List.Subset.trans (by decide) hs
  have h3 : [.ev] ⊆ ps := List.Subset.trans (by decide) hs
  have h4 : [.bus, .sess, .ev, .perf, .trigPins] ⊆ ps := List.Subset.trans (by decide) hs
  have h5 : [.snap] ⊆ ps := List.Subset.trans (by decide) hs
  repeat' first
    | with_reducible exact h
    | with_reducible assumption
    | with_reducible refine State.endSnapshot_keeps ?_ h1 ..
    | with_reducible refine State.raise_keeps ?_ h2 ..
    | with_reducible refine State.settleEvents_keeps ?_ h3 ..
    | with_reducible refine State.settleRings_keeps ?_ h4 ..
    | with_reducible refine State.startSnapshot_keeps ?_ h5 ..
    | ((with_reducible refine SameBut.each _ _ ?_ ?_); rotate_left; intro _ _ h; rotate_left)
    | ((with_reducible refine SameBut.modCtl ?_ ?_); rotate_left; (intro q hq; cases q <;> first | exact rfl | exact absurd (hs (by decide)) hq))
    | ((with_reducible refine SameBut.modSys ?_ ?_); rotate_left; (intro q hq; cases q <;> first | exact rfl | exact absurd (hs (by decide)) hq))
    | split
    | (dsimp only)

theorem State.abandonDormant_keeps {ps : List Part} {s0 t : State} (h : SameBut ps s0 t)
    (hs : [.bus, .sess, .ev, .perf, .power, .trigPins] ⊆ ps) (src : Nat) : SameBut ps s0 (State.abandonDormant t src) := by
  unfold State.abandonDormant
  have h1 : [.ev, .trigPins] ⊆ ps := List.Subset.trans (by decide) hs
  have h2 : [.bus, .sess, .ev, .perf, .trigPins] ⊆ ps := List.Subset.trans (by decide) hs
  have h3 : [.power] ⊆ ps := List.Subset.trans (by decide) hs
  repeat' first
    | with_reducible exact h
    | with_reducible assumption
    | with_reducible refine State.raise_keeps ?_ h1 ..
    | with_reducible refine State.settleRings_keeps ?_ h2 ..
    | with_reducible refine State.modPower_keeps ?_ h3 ..
    | ((with_reducible refine SameBut.iteKeep ?_ ?_); rotate_left; intro h; rotate_left)
    | split
    | (dsimp only)

theorem State.loadReg_keeps {ps : List Part} {s0 t : State} (h : SameBut ps s0 t)
    (hs : [.lock, .bus, .sess, .ev] ⊆ ps) (off : Nat) (d : Word) : SameBut ps s0 (State.loadReg t off d) := by
  unfold State.loadReg
  have h1 : [.sess] ⊆ ps := List.Subset.trans (by decide) hs
  repeat' first
    | with_reducible exact h
    | with_reducible assumption
    | with_reducible refine State.modSess_keeps ?_ h1 ..
    | ((with_reducible refine SameBut.iteKeep ?_ ?_); rotate_left; intro h; rotate_left)
    | ((with_reducible refine SameBut.modCtl ?_ ?_); rotate_left; (intro q hq; cases q <;> first | exact rfl | exact absurd (hs (by decide)) hq))
    | split
    | (dsimp only)

theorem State.maskPart_keeps {ps : List Part} {s0 t : State} (h : SameBut ps s0 t)
    (hs : [.ev] ⊆ ps) (hit : Nat → Bool) : SameBut ps s0 (State.maskPart t hit) := by
  unfold State.maskPart
  repeat' first
    | with_reducible exact h
    | with_reducible assumption
    | ((with_reducible refine SameBut.iteKeep ?_ ?_); rotate_left; intro h; rotate_left)
    | ((with_reducible refine SameBut.modCtl ?_ ?_); rotate_left; (intro q hq; cases q <;> first | exact rfl | exact absurd (hs (by decide)) hq))
    | split
    | (dsimp only)

theorem State.configPart_keeps {ps : List Part} {s0 t : State} (h : SameBut ps s0 t)
    (hs : [.sess, .ev, .core, .power, .avs, .lane, .group, .therm] ⊆ ps) (hit : Nat → Bool) :
        SameBut ps s0 (State.configPart t hit) := by
  unfold State.configPart
  have h1 : [.ev] ⊆ ps := List.Subset.trans (by decide) hs
  have h2 : [.power] ⊆ ps := List.Subset.trans (by decide) hs
  have h3 : [.avs] ⊆ ps := List.Subset.trans (by decide) hs
  have h4 : [.core] ⊆ ps := List.Subset.trans (by decide) hs
  have h5 : [.lane] ⊆ ps := List.Subset.trans (by decide) hs
  have h6 : [.group] ⊆ ps := List.Subset.trans (by decide) hs
  have h7 : [.therm] ⊆ ps := List.Subset.trans (by decide) hs
  have h8 : [.sess] ⊆ ps := List.Subset.trans (by decide) hs
  repeat' first
    | with_reducible exact h
    | with_reducible assumption
    | with_reducible refine State.maskPart_keeps ?_ h1 ..
    | with_reducible refine State.modPower_keeps ?_ h2 ..
    | with_reducible refine State.modAvs_keeps ?_ h3 ..
    | with_reducible refine State.modCore_keeps ?_ h4 ..
    | with_reducible refine State.modLane_keeps ?_ h5 ..
    | with_reducible refine State.modGroup_keeps ?_ h6 ..
    | with_reducible refine State.modTherm_keeps ?_ h7 ..
    | with_reducible refine State.modSess_keeps ?_ h8 ..
    | ((with_reducible refine SameBut.iteKeep ?_ ?_); rotate_left; intro h; rotate_left)
    | ((with_reducible refine SameBut.each _ _ ?_ ?_); rotate_left; intro _ _ h; rotate_left)
    | (refine SameBut.mod h ?_; (intro q hq; cases q <;> first | exact rfl | exact absurd (hs (by decide)) hq))
    | split
    | (dsimp only)

theorem State.restoreDevice_keeps {ps : List Part} {s0 t : State} (h : SameBut ps s0 t)
    (hs : [.lock, .bus, .sess, .ev, .core, .power, .avs, .mem, .lane, .group, .trigPins, .therm] ⊆ ps)  :
        SameBut ps s0 (State.restoreDevice t) := by
  unfold State.restoreDevice
  have h1 : [.sess, .ev, .core, .power, .avs, .lane, .group, .therm] ⊆ ps := List.Subset.trans (by decide) hs
  have h2 : [.lock, .bus, .sess, .ev] ⊆ ps := List.Subset.trans (by decide) hs
  have h3 : [.ev, .trigPins] ⊆ ps := List.Subset.trans (by decide) hs
  have h4 : [.ev, .mem, .trigPins] ⊆ ps := List.Subset.trans (by decide) hs
  have h5 : [.ev] ⊆ ps := List.Subset.trans (by decide) hs
  have h6 : [.sess] ⊆ ps := List.Subset.trans (by decide) hs
  repeat' first
    | with_reducible exact h
    | with_reducible assumption
    | with_reducible refine State.configPart_keeps ?_ h1 ..
    | with_reducible refine State.loadReg_keeps ?_ h2 ..
    | with_reducible refine State.raise_keeps ?_ h3 ..
    | with_reducible refine State.readSlot_keeps ?_ h4 ..
    | with_reducible refine State.settleEvents_keeps ?_ h5 ..
    | with_reducible refine State.modSess_keeps ?_ h6 ..
    | ((with_reducible refine SameBut.iteKeep ?_ ?_); rotate_left; intro h; rotate_left)
    | ((with_reducible refine SameBut.each _ _ ?_ ?_); rotate_left; intro _ _ h; rotate_left)
    | ((with_reducible refine SameBut.modCtl ?_ ?_); rotate_left; (intro q hq; cases q <;> first | exact rfl | exact absurd (hs (by decide)) hq))
    | split
    | (dsimp only)

theorem State.modPerf_keeps {ps : List Part} {s0 t : State} (h : SameBut ps s0 t)
    (hs : [.perf] ⊆ ps) (c : Core) (f : PerfUnit → PerfUnit) : SameBut ps s0 (State.modPerf t c f) := by
  unfold State.modPerf
  repeat' first
    | with_reducible exact h
    | with_reducible assumption
    | ((with_reducible refine SameBut.modCtl ?_ ?_); rotate_left; (intro q hq; cases q <;> first | exact rfl | exact absurd (hs (by decide)) hq))
    | split
    | (dsimp only)

theorem State.modBurstNow_keeps {ps : List Part} {s0 t : State} (h : SameBut ps s0 t)
    (hs : [.acq] ⊆ ps) (p : Phys) (f : Burst → Burst) : SameBut ps s0 (State.modBurstNow t p f) := by
  unfold State.modBurstNow
  have h1 : [.acq] ⊆ ps := List.Subset.trans (by decide) hs
  repeat' first
    | with_reducible exact h
    | with_reducible assumption
    | with_reducible refine State.modAcq_keeps ?_ h1 ..
    | split
    | (dsimp only)

theorem State.nextRun_keeps {ps : List Part} {s0 t : State} (h : SameBut ps s0 t)
    (hs : [.rx, .dec] ⊆ ps) (p : Phys) : SameBut ps s0 (State.nextRun t p) := by
  unfold State.nextRun
  have h1 : [.rx] ⊆ ps := List.Subset.trans (by decide) hs
  have h2 : [.dec] ⊆ ps := List.Subset.trans (by decide) hs
  repeat' first
    | with_reducible exact h
    | with_reducible assumption
    | with_reducible refine State.modRx_keeps ?_ h1 ..
    | with_reducible refine State.modDec_keeps ?_ h2 ..
    | split
    | (dsimp only)

theorem State.amMiss_keeps {ps : List Part} {s0 t : State} (h : SameBut ps s0 t)
    (hs : [.sess, .ev, .mem, .rx, .dec, .work, .group, .trigPins] ⊆ ps) (p : Phys) (w : Work) :
        SameBut ps s0 (State.amMiss t p w) := by
  unfold State.amMiss
  have h1 : [.sess, .ev, .mem, .dec, .work, .group, .trigPins] ⊆ ps := List.Subset.trans (by decide) hs
  have h2 : [.rx, .dec] ⊆ ps := List.Subset.trans (by decide) hs
  have h3 : [.ev, .trigPins] ⊆ ps := List.Subset.trans (by decide) hs
  have h4 : [.dec] ⊆ ps := List.Subset.trans (by decide) hs
  have h5 : [.work] ⊆ ps := List.Subset.trans (by decide) hs
  repeat' first
    | with_reducible exact h
    | with_reducible assumption
    | with_reducible refine State.loseSketches_keeps ?_ h1 ..
    | with_reducible refine State.nextRun_keeps ?_ h2 ..
    | with_reducible refine State.raiseP_keeps ?_ h3 ..
    | with_reducible refine State.modDec_keeps ?_ h4 ..
    | with_reducible refine State.modFec_keeps ?_ h5 ..
    | ((with_reducible refine SameBut.iteKeep ?_ ?_); rotate_left; intro h; rotate_left)
    | split
    | (dsimp only)

theorem State.learnPeer_keeps {ps : List Part} {s0 t : State} (h : SameBut ps s0 t)
    (hs : [.ev, .mem, .work, .group, .trigPins] ⊆ ps) (w : Work) (peer : Nat) :
        SameBut ps s0 (State.learnPeer t w peer) := by
  unfold State.learnPeer
  have h1 : [.ev, .trigPins] ⊆ ps := List.Subset.trans (by decide) hs
  have h2 : [.mem, .work, .group] ⊆ ps := List.Subset.trans (by decide) hs
  have h3 : [.work] ⊆ ps := List.Subset.trans (by decide) hs
  repeat' first
    | with_reducible exact h
    | with_reducible assumption
    | with_reducible refine State.raiseW_keeps ?_ h1 ..
    | with_reducible refine State.settleRetention_keeps ?_ h2 ..
    | with_reducible refine State.modFec_keeps ?_ h3 ..
    | ((with_reducible refine SameBut.iteKeep ?_ ?_); rotate_left; intro h; rotate_left)
    | ((with_reducible refine SameBut.each _ _ ?_ ?_); rotate_left; intro _ _ h; rotate_left)
    | split
    | (dsimp only)

theorem State.endMake_keeps {ps : List Part} {s0 t : State} (h : SameBut ps s0 t)
    (hs : [.rx, .dec, .work] ⊆ ps) (p : Phys) (sender : Nat) (dest : Nat) (fptr : Nat) (sym : Sym) :
        SameBut ps s0 (State.endMake t p sender dest fptr sym) := by
  unfold State.endMake
  have h1 : [.rx] ⊆ ps := List.Subset.trans (by decide) hs
  have h2 : [.dec] ⊆ ps := List.Subset.trans (by decide) hs
  have h3 : [.work] ⊆ ps := List.Subset.trans (by decide) hs
  repeat' first
    | with_reducible exact h
    | with_reducible assumption
    | with_reducible refine State.modRx_keeps ?_ h1 ..
    | with_reducible refine State.modDec_keeps ?_ h2 ..
    | with_reducible refine State.modWork_keeps ?_ h3 ..
    | ((with_reducible refine SameBut.iteKeep ?_ ?_); rotate_left; intro h; rotate_left)
    | split
    | (dsimp only)

theorem State.spareMarker_keeps {ps : List Part} {s0 t : State} (h : SameBut ps s0 t)
    (hs : [.ev, .power, .mem, .lane, .rx, .dec, .tx, .work, .group, .bias, .trigPins] ⊆ ps) (p : Phys) (sender :
        Nat) (dest : Nat) (fptr : Nat) (sym : Sym) : SameBut ps s0 (State.spareMarker t p sender dest fptr sym) := by
  unfold State.spareMarker
  have h1 : [.rx, .dec, .work] ⊆ ps := List.Subset.trans (by decide) hs
  have h2 : [.ev, .power, .mem, .lane, .tx, .work, .group, .bias, .trigPins] ⊆ ps := List.Subset.trans (by decide) hs
  have h3 : [.ev, .trigPins] ⊆ ps := List.Subset.trans (by decide) hs
  repeat' first
    | with_reducible exact h
    | with_reducible assumption
    | with_reducible refine State.endMake_keeps ?_ h1 ..
    | with_reducible refine State.plannedMove_keeps ?_ h2 ..
    | with_reducible refine State.raiseP_keeps ?_ h3 ..
    | ((with_reducible refine SameBut.iteKeep ?_ ?_); rotate_left; intro h; rotate_left)
    | split
    | (dsimp only)

theorem State.seeRxContext_keeps {ps : List Part} {s0 t : State} (h : SameBut ps s0 t)
    (hs : [.sess, .ev, .mem, .work, .group, .trigPins] ⊆ ps) (w : Work) (q : Nat) (bad : Option (Nat × BitVec 42)) :
        SameBut ps s0 (State.seeRxContext t w q bad) := by
  unfold State.seeRxContext
  have h1 : [.sess, .ev, .mem, .work, .group, .trigPins] ⊆ ps := List.Subset.trans (by decide) hs
  have h2 : [.ev, .mem, .trigPins] ⊆ ps := List.Subset.trans (by decide) hs
  have h3 : [.work] ⊆ ps := List.Subset.trans (by decide) hs
  repeat' first
    | with_reducible exact h
    | with_reducible assumption
    | with_reducible refine State.scrape_keeps ?_ h1 ..
    | with_reducible refine State.unitRead_keeps ?_ h2 ..
    | with_reducible refine State.modWork_keeps ?_ h3 ..
    | ((with_reducible refine SameBut.iteKeep ?_ ?_); rotate_left; intro h; rotate_left)
    | split
    | (dsimp only)

theorem State.checkFrame_keeps {ps : List Part} {s0 t : State} (h : SameBut ps s0 t)
    (hs : [.sess, .ev, .mem, .acq, .tx, .work, .group, .trigPins] ⊆ ps) (p : Phys) (w : Work) (x : CheckedFrame) (done :
        Bool) (bad : Option (Nat × BitVec 42)) : SameBut ps s0 (State.checkFrame t p w x done bad) := by
  unfold State.checkFrame
  have h1 : [.mem, .work] ⊆ ps := List.Subset.trans (by decide) hs
  have h2 : [.acq] ⊆ ps := List.Subset.trans (by decide) hs
  have h3 : [.sess, .ev, .mem, .tx, .work, .group, .trigPins] ⊆ ps := List.Subset.trans (by decide) hs
  have h4 : [.sess, .ev, .mem, .work, .group, .trigPins] ⊆ ps := List.Subset.trans (by decide) hs
  have h5 : [.ev, .mem, .work, .group, .trigPins] ⊆ ps := List.Subset.trans (by decide) hs
  have h6 : [.work] ⊆ ps := List.Subset.trans (by decide) hs
  repeat' first
    | with_reducible exact h
    | with_reducible assumption
    | with_reducible refine State.heardFrom_keeps ?_ h1 ..
    | with_reducible refine State.modBurstNow_keeps ?_ h2 ..
    | with_reducible refine State.receiveAckFrame_keeps ?_ h1 ..
    | with_reducible refine State.receiveGood_keeps ?_ h3 ..
    | with_reducible refine State.receiveLost_keeps ?_ h1 ..
    | with_reducible refine State.seeRxContext_keeps ?_ h4 ..
    | with_reducible refine State.takeAckOf_keeps ?_ h5 ..
    | with_reducible refine State.modWork_keeps ?_ h6 ..
    | with_reducible refine State.modFec_keeps ?_ h6 ..
    | ((with_reducible refine SameBut.iteKeep ?_ ?_); rotate_left; intro h; rotate_left)
    | split
    | (dsimp only)

theorem State.sketchFrame_keeps {ps : List Part} {s0 t : State} (h : SameBut ps s0 t)
    (hs : [.mem, .work, .group] ⊆ ps) (p : Phys) (w : Work) (pos : Nat) (x : CheckedFrame) (ok : Bool) :
        SameBut ps s0 (State.sketchFrame t p w pos x ok) := by
  unfold State.sketchFrame
  have h1 : [.group] ⊆ ps := List.Subset.trans (by decide) hs
  have h2 : [.mem, .work] ⊆ ps := List.Subset.trans (by decide) hs
  repeat' first
    | with_reducible exact h
    | with_reducible assumption
    | with_reducible refine State.hostFrame_keeps ?_ h1 ..
    | with_reducible refine State.modRxCtx_keeps ?_ h2 ..
    | ((with_reducible refine SameBut.iteKeep ?_ ?_); rotate_left; intro h; rotate_left)
    | split
    | (dsimp only)

theorem State.setRate_keeps {ps : List Part} {s0 t : State} (h : SameBut ps s0 t)
    (hs : [.rx, .tx] ⊆ ps) (p : Phys) (rate : Nat) : SameBut ps s0 (State.setRate t p rate) := by
  unfold State.setRate
  have h1 : [.rx] ⊆ ps := List.Subset.trans (by decide) hs
  have h2 : [.tx] ⊆ ps := List.Subset.trans (by decide) hs
  repeat' first
    | with_reducible exact h
    | with_reducible assumption
    | with_reducible refine State.modRx_keeps ?_ h1 ..
    | with_reducible refine State.modTx_keeps ?_ h2 ..
    | ((with_reducible refine SameBut.iteKeep ?_ ?_); rotate_left; intro h; rotate_left)
    | (refine SameBut.mod h ?_; (intro q hq; cases q <;> first | exact rfl | exact absurd (hs (by decide)) hq))
    | split
    | (dsimp only)

theorem State.ringWrite_keeps {ps : List Part} {s0 t : State} (h : SameBut ps s0 t)
    (hs : [.mem] ⊆ ps) (p : Phys) (n : Nat) : SameBut ps s0 (State.ringWrite t p n) := by
  unfold State.ringWrite
  have h1 : [.mem] ⊆ ps := List.Subset.trans (by decide) hs
  repeat' first
    | with_reducible exact h
    | with_reducible assumption
    | with_reducible refine State.unitWrite_keeps ?_ h1 ..
    | ((with_reducible refine SameBut.iteKeep ?_ ?_); rotate_left; intro h; rotate_left)
    | split
    | (dsimp only)

theorem State.countSamples_keeps {ps : List Part} {s0 t : State} (h : SameBut ps s0 t)
    (hs : [.rx] ⊆ ps) (p : Phys) (n : Nat) : SameBut ps s0 (State.countSamples t p n) := by
  unfold State.countSamples
  have h1 : [.rx] ⊆ ps := List.Subset.trans (by decide) hs
  repeat' first
    | with_reducible exact h
    | with_reducible assumption
    | with_reducible refine State.modRx_keeps ?_ h1 ..
    | ((with_reducible refine SameBut.iteKeep ?_ ?_); rotate_left; intro h; rotate_left)
    | split
    | (dsimp only)

theorem State.passBits_keeps {ps : List Part} {s0 t : State} (h : SameBut ps s0 t)
    (hs : [.ev, .rx, .group, .trigPins] ⊆ ps) (p : Phys) : SameBut ps s0 (State.passBits t p) := by
  unfold State.passBits
  have h1 : [.ev, .group, .trigPins] ⊆ ps := List.Subset.trans (by decide) hs
  have h2 : [.rx] ⊆ ps := List.Subset.trans (by decide) hs
  repeat' first
    | with_reducible exact h
    | with_reducible assumption
    | with_reducible refine State.rawBack_keeps ?_ h1 ..
    | with_reducible refine State.modRx_keeps ?_ h2 ..
    | ((with_reducible refine SameBut.iteKeep ?_ ?_); rotate_left; intro h; rotate_left)
    | split
    | (dsimp only)

theorem State.equaliseCycle_keeps {ps : List Part} {s0 t : State} (h : SameBut ps s0 t)
    (hs : [.ev, .rx, .group, .trigPins] ⊆ ps) (p : Phys) : SameBut ps s0 (State.equaliseCycle t p) := by
  unfold State.equaliseCycle
  have h1 : [.rx] ⊆ ps := List.Subset.trans (by decide) hs
  have h2 : [.ev, .rx, .group, .trigPins] ⊆ ps := List.Subset.trans (by decide) hs
  repeat' first
    | with_reducible exact h
    | with_reducible assumption
    | with_reducible refine State.modActive_keeps ?_ h1 ..
    | with_reducible refine State.passBits_keeps ?_ h2 ..
    | with_reducible refine State.modRx_keeps ?_ h1 ..
    | ((with_reducible refine SameBut.iteKeep ?_ ?_); rotate_left; intro h; rotate_left)
    | split
    | (dsimp only)

theorem State.replayRead_keeps {ps : List Part} {s0 t : State} (h : SameBut ps s0 t)
    (hs : [.ev, .mem, .trigPins] ⊆ ps) (p : Phys) (cursor : Nat) (j : EqJob) (m : Nat) :
        SameBut ps s0 (State.replayRead t p cursor j m).2 := by
  unfold State.replayRead
  have h1 : [.ev, .mem, .trigPins] ⊆ ps := List.Subset.trans (by decide) hs
  repeat' first
    | with_reducible exact h
    | with_reducible assumption
    | with_reducible refine State.ringRead_keeps ?_ h1 ..
    | ((with_reducible refine SameBut.iteKeep ?_ ?_); rotate_left; intro h; rotate_left)
    | split
    | (dsimp only)

theorem State.equaliseBurst_keeps {ps : List Part} {s0 t : State} (h : SameBut ps s0 t)
    (hs : [.ev, .mem, .rx, .acq, .trigPins] ⊆ ps) (p : Phys) (n : Nat) : SameBut ps s0 (State.equaliseBurst t p n) := by
  unfold State.equaliseBurst
  have h1 : [.rx] ⊆ ps := List.Subset.trans (by decide) hs
  have h2 : [.ev, .mem, .trigPins] ⊆ ps := List.Subset.trans (by decide) hs
  have h3 : [.acq] ⊆ ps := List.Subset.trans (by decide) hs
  repeat' first
    | with_reducible exact h
    | with_reducible assumption
    | with_reducible refine State.modActive_keeps ?_ h1 ..
    | with_reducible refine State.replayRead_keeps ?_ h2 ..
    | with_reducible refine State.modRx_keeps ?_ h1 ..
    | with_reducible refine State.modAcq_keeps ?_ h3 ..
    | ((with_reducible refine SameBut.iteKeep ?_ ?_); rotate_left; intro h; rotate_left)
    | split
    | (dsimp only)

theorem State.answerRemap_keeps {ps : List Part} {s0 t : State} (h : SameBut ps s0 t)
    (hs : [.sess, .ev, .trigPins] ⊆ ps) (a : Arr) (addr : Nat) : SameBut ps s0 (State.answerRemap t a addr) := by
  unfold State.answerRemap
  have h1 : [.sess, .ev, .trigPins] ⊆ ps := List.Subset.trans (by decide) hs
  repeat' first
    | with_reducible exact h
    | with_reducible assumption
    | with_reducible refine State.answer_keeps ?_ h1 ..
    | ((with_reducible refine SameBut.iteKeep ?_ ?_); rotate_left; intro h; rotate_left)
    | ((with_reducible refine SameBut.each _ _ ?_ ?_); rotate_left; intro _ _ h; rotate_left)
    | split
    | (dsimp only)

theorem State.sendTransparent_keeps {ps : List Part} {s0 t : State} (h : SameBut ps s0 t)
    (hs : [.tx, .group] ⊆ ps) (p : Phys) : SameBut ps s0 (State.sendTransparent t p) := by
  unfold State.sendTransparent
  have h1 : [.group] ⊆ ps := List.Subset.trans (by decide) hs
  have h2 : [.tx] ⊆ ps := List.Subset.trans (by decide) hs
  repeat' first
    | with_reducible exact h
    | with_reducible assumption
    | with_reducible refine State.grant_keeps ?_ h1 ..
    | with_reducible refine State.putLine_keeps ?_ h2 ..
    | with_reducible refine State.modTx_keeps ?_ h2 ..
    | with_reducible refine State.modTxDiag_keeps ?_ h2 ..
    | split
    | (dsimp only)

theorem State.sendTraining_keeps {ps : List Part} {s0 t : State} (h : SameBut ps s0 t)
    (hs : [.tx] ⊆ ps) (p : Phys) : SameBut ps s0 (State.sendTraining t p) := by
  unfold State.sendTraining
  have h1 : [.tx] ⊆ ps := List.Subset.trans (by decide) hs
  repeat' first
    | with_reducible exact h
    | with_reducible assumption
    | with_reducible refine State.putLine_keeps ?_ h1 ..
    | with_reducible refine State.modTx_keeps ?_ h1 ..
    | (refine SameBut.mod h ?_; (intro q hq; cases q <;> first | exact rfl | exact absurd (hs (by decide)) hq))
    | split
    | (dsimp only)

theorem State.sendCycle_keeps {ps : List Part} {s0 t : State} (h : SameBut ps s0 t)
    (hs : [.tx, .group] ⊆ ps) (p : Phys) : SameBut ps s0 (State.sendCycle t p) := by
  unfold State.sendCycle
  have h1 : [.tx] ⊆ ps := List.Subset.trans (by decide) hs
  have h2 : [.tx, .group] ⊆ ps := List.Subset.trans (by decide) hs
  repeat' first
    | with_reducible exact h
    | with_reducible assumption
    | with_reducible refine State.endLine_keeps ?_ h1 ..
    | with_reducible refine State.sendTraining_keeps ?_ h1 ..
    | with_reducible refine State.sendTransparent_keeps ?_ h2 ..
    | with_reducible refine State.modTx_keeps ?_ h1 ..
    | ((with_reducible refine SameBut.iteKeep ?_ ?_); rotate_left; intro h; rotate_left)
    | (refine SameBut.mod h ?_; (intro q hq; cases q <;> first | exact rfl | exact absurd (hs (by decide)) hq))
    | split
    | (dsimp only)

theorem State.tick_keeps {ps : List Part} {s0 t : State} (h : SameBut ps s0 t)
    (hs : [.perf, .clk, .tx, .group] ⊆ ps)  : SameBut ps s0 (State.tick t) := by
  have h1 : [.tx, .group] ⊆ ps := List.Subset.trans (by decide) hs
  have h2 : [.clk] ⊆ ps := List.Subset.trans (by decide) hs
  have h3 : [.perf] ⊆ ps := List.Subset.trans (by decide) hs
  unfold State.tick
  split
  · exact h
  · with_reducible refine State.modClk_keeps ?_ h2 _
    with_reducible refine SameBut.each _ _ ?_ ?_
    · with_reducible exact SameBut.setPerf _ h h3
    · intro p x hx
      with_reducible exact State.sendCycle_keeps hx h1 p

end Sys2Proof.Machine
end

