-- ==== Sys2Proof/Laws/FrameExec1.lean ====
section
/-!
SUPPORT. Frames: what each command's meaning keeps.
-/
set_option maxRecDepth 10000
namespace Sys2Proof.Machine

theorem execSpiWrite_keeps {ps : List Part} {s0 t : State} (h : SameBut ps s0 t)
    (hs : [.lock, .bus, .sess, .ev, .perf, .trigPins] ⊆ ps) (op : Byte) (addr : BitVec 16) (data : Bytes) : ∀ out,
        execSpiWrite op addr data t = .next out → SameBut ps s0 out := by
  unfold execSpiWrite
  intro out e
  have e := Host.Outcome.next.inj e
  subst e
  have h1 : [.bus, .ev, .trigPins] ⊆ ps := List.Subset.trans (by decide) hs
  have h2 : [.lock, .bus, .sess, .ev, .perf, .trigPins] ⊆ ps := List.Subset.trans (by decide) hs
  repeat' first
    | with_reducible exact h
    | with_reducible assumption
    | with_reducible refine State.busErr_keeps ?_ h1 ..
    | with_reducible refine State.writeBurst_keeps ?_ h2 ..
    | ((with_reducible refine SameBut.iteKeep ?_ ?_); rotate_left; intro h; rotate_left)
    | split
    | (dsimp only)

theorem execSpiRead_keeps {ps : List Part} {s0 t : State} (h : SameBut ps s0 t)
    (hs : [.bus, .sess, .ev, .clk, .mon, .trigPins] ⊆ ps) (addr : BitVec 16) (clocked : Nat) : ∀ out,
        execSpiRead addr clocked t = .next out → SameBut ps s0 out := by
  unfold execSpiRead
  intro out e
  have e := Host.Outcome.next.inj e
  subst e
  have h1 : [.bus, .ev, .trigPins] ⊆ ps := List.Subset.trans (by decide) hs
  have h2 : [.bus] ⊆ ps := List.Subset.trans (by decide) hs
  have h3 : [.bus, .sess, .ev, .clk, .mon] ⊆ ps := List.Subset.trans (by decide) hs
  repeat' first
    | with_reducible exact h
    | with_reducible assumption
    | with_reducible refine State.busErr_keeps ?_ h1 ..
    | with_reducible refine State.drive_keeps ?_ h2 ..
    | with_reducible refine State.readBytes_keeps ?_ h3 ..
    | ((with_reducible refine SameBut.iteKeep ?_ ?_); rotate_left; intro h; rotate_left)
    | split
    | (dsimp only)

theorem execSpiWriteC_keeps {ps : List Part} {s0 t : State} (h : SameBut ps s0 t)
    (hs : [.lock, .bus, .sess, .ev, .perf, .trigPins] ⊆ ps) (addr : BitVec 16) (rest : Bytes) : ∀ out,
        execSpiWriteC addr rest t = .next out → SameBut ps s0 out := by
  unfold execSpiWriteC
  intro out e
  have e := Host.Outcome.next.inj e
  subst e
  have h1 : [.bus, .ev, .trigPins] ⊆ ps := List.Subset.trans (by decide) hs
  have h2 : [.lock, .bus, .sess, .ev, .perf, .trigPins] ⊆ ps := List.Subset.trans (by decide) hs
  repeat' first
    | with_reducible exact h
    | with_reducible assumption
    | with_reducible refine State.busErr_keeps ?_ h1 ..
    | with_reducible refine State.writeBurst_keeps ?_ h2 ..
    | ((with_reducible refine SameBut.iteKeep ?_ ?_); rotate_left; intro h; rotate_left)
    | split
    | (dsimp only)

theorem execSpiReadC_keeps {ps : List Part} {s0 t : State} (h : SameBut ps s0 t)
    (hs : [.bus, .sess, .ev, .clk, .mon, .trigPins] ⊆ ps) (addr : BitVec 16) (count : Byte) (clocked : Nat) : ∀ out,
        execSpiReadC addr count clocked t = .next out → SameBut ps s0 out := by
  unfold execSpiReadC
  intro out e
  have e := Host.Outcome.next.inj e
  subst e
  have h1 : [.bus, .ev, .trigPins] ⊆ ps := List.Subset.trans (by decide) hs
  have h2 : [.bus] ⊆ ps := List.Subset.trans (by decide) hs
  have h3 : [.bus, .sess, .ev, .clk, .mon] ⊆ ps := List.Subset.trans (by decide) hs
  repeat' first
    | with_reducible exact h
    | with_reducible assumption
    | with_reducible refine State.busErr_keeps ?_ h1 ..
    | with_reducible refine State.drive_keeps ?_ h2 ..
    | with_reducible refine State.readBytes_keeps ?_ h3 ..
    | ((with_reducible refine SameBut.iteKeep ?_ ?_); rotate_left; intro h; rotate_left)
    | split
    | (dsimp only)

theorem execSmbusBlockWrite_keeps {ps : List Part} {s0 t : State} (h : SameBut ps s0 t)
    (hs : [.lock, .bus, .sess, .ev, .perf, .trigPins] ⊆ ps) (target : BitVec 7) (count : Byte) (addr : BitVec 16) (data :
        Bytes) (pec : Option Byte) : ∀ out,
        execSmbusBlockWrite target count addr data pec t = .next out → SameBut ps s0 out := by
  unfold execSmbusBlockWrite
  intro out e
  have e := Host.Outcome.next.inj e
  subst e
  have h1 : [.bus, .ev, .trigPins] ⊆ ps := List.Subset.trans (by decide) hs
  have h2 : [.lock, .bus, .sess, .ev, .perf, .trigPins] ⊆ ps := List.Subset.trans (by decide) hs
  repeat' first
    | with_reducible exact h
    | with_reducible assumption
    | with_reducible refine State.busErr_keeps ?_ h1 ..
    | with_reducible refine State.writeBurst_keeps ?_ h2 ..
    | ((with_reducible refine SameBut.iteKeep ?_ ?_); rotate_left; intro h; rotate_left)
    | split
    | (dsimp only)

theorem execSmbusProcessCall_keeps {ps : List Part} {s0 t : State} (h : SameBut ps s0 t)
    (hs : [.bus, .sess, .ev, .clk, .mon, .trigPins] ⊆ ps) (target : BitVec 7) (count : Byte) (addr : BitVec 16) (words :
        Byte) (clocked : Nat) : ∀ out, execSmbusProcessCall target count addr words clocked t = .next out → SameBut ps s0 out := by
  unfold execSmbusProcessCall
  intro out e
  have e := Host.Outcome.next.inj e
  subst e
  have h1 : [.bus, .ev, .trigPins] ⊆ ps := List.Subset.trans (by decide) hs
  have h2 : [.bus] ⊆ ps := List.Subset.trans (by decide) hs
  have h3 : [.bus, .sess, .ev, .clk, .mon] ⊆ ps := List.Subset.trans (by decide) hs
  repeat' first
    | with_reducible exact h
    | with_reducible assumption
    | with_reducible refine State.busErr_keeps ?_ h1 ..
    | with_reducible refine State.drive_keeps ?_ h2 ..
    | with_reducible refine State.readBytes_keeps ?_ h3 ..
    | ((with_reducible refine SameBut.iteKeep ?_ ?_); rotate_left; intro h; rotate_left)
    | split
    | (dsimp only)

theorem execSmbusTimeout_keeps {ps : List Part} {s0 t : State} (h : SameBut ps s0 t)
    (hs : [.bus, .ev, .trigPins] ⊆ ps)  : ∀ out, execSmbusTimeout t = .next out → SameBut ps s0 out := by
  unfold execSmbusTimeout
  intro out e
  have e := Host.Outcome.next.inj e
  subst e
  have h1 : [.bus, .ev, .trigPins] ⊆ ps := List.Subset.trans (by decide) hs
  repeat' first
    | with_reducible exact h
    | with_reducible assumption
    | with_reducible refine State.busErr_keeps ?_ h1 ..
    | ((with_reducible refine SameBut.iteKeep ?_ ?_); rotate_left; intro h; rotate_left)
    | split
    | (dsimp only)

theorem execRegisterWrite_keeps {ps : List Part} {s0 t : State} (h : SameBut ps s0 t)
    (hs : [.lock, .bus, .sess, .ev, .perf, .trigPins] ⊆ ps) (i : Iface) (addr : BitVec 16) (data : Word) : ∀ out,
        execRegisterWrite i addr data t = .next out → SameBut ps s0 out := by
  unfold execRegisterWrite
  intro out e
  have e := Host.Outcome.next.inj e
  subst e
  have h1 : [.bus, .ev, .trigPins] ⊆ ps := List.Subset.trans (by decide) hs
  have h2 : [.lock, .bus, .sess, .ev, .perf, .trigPins] ⊆ ps := List.Subset.trans (by decide) hs
  repeat' first
    | with_reducible exact h
    | with_reducible assumption
    | with_reducible refine State.busErr_keeps ?_ h1 ..
    | with_reducible refine State.writeReg_keeps ?_ h2 ..
    | ((with_reducible refine SameBut.iteKeep ?_ ?_); rotate_left; intro h; rotate_left)
    | split
    | (dsimp only)

theorem execRcFieldRead_keeps {ps : List Part} {s0 t : State} (h : SameBut ps s0 t)
    (hs : [.bus, .sess, .ev, .clk, .mon, .trigPins] ⊆ ps) (i : Iface) (addr : BitVec 16) : ∀ out,
        execRcFieldRead i addr t = .next out → SameBut ps s0 out := by
  unfold execRcFieldRead
  intro out e
  have e := Host.Outcome.next.inj e
  subst e
  have h1 : [.bus, .ev, .trigPins] ⊆ ps := List.Subset.trans (by decide) hs
  have h2 : [.bus] ⊆ ps := List.Subset.trans (by decide) hs
  have h3 : [.bus, .sess, .ev, .clk, .mon] ⊆ ps := List.Subset.trans (by decide) hs
  repeat' first
    | with_reducible exact h
    | with_reducible assumption
    | with_reducible refine State.busErr_keeps ?_ h1 ..
    | with_reducible refine State.drive_keeps ?_ h2 ..
    | with_reducible refine State.readReg_keeps ?_ h3 ..
    | ((with_reducible refine SameBut.iteKeep ?_ ?_); rotate_left; intro h; rotate_left)
    | split
    | (dsimp only)

theorem execIndAddrWrite_keeps {ps : List Part} {s0 t : State} (h : SameBut ps s0 t)
    (hs : [.lock, .bus, .sess, .ev, .perf, .trigPins] ⊆ ps) (i : Iface) (high : Bool) (data : Word) : ∀ out,
        execIndAddrWrite i high data t = .next out → SameBut ps s0 out := by
  unfold execIndAddrWrite
  intro out e
  have e := Host.Outcome.next.inj e
  subst e
  have h1 : [.lock, .bus, .sess, .ev, .perf, .trigPins] ⊆ ps := List.Subset.trans (by decide) hs
  repeat' first
    | with_reducible exact h
    | with_reducible assumption
    | with_reducible refine State.writeReg_keeps ?_ h1 ..
    | ((with_reducible refine SameBut.iteKeep ?_ ?_); rotate_left; intro h; rotate_left)
    | split
    | (dsimp only)

theorem execIndPrefetchDone_keeps {ps : List Part} {s0 t : State} (h : SameBut ps s0 t)
    (hs : [.bus] ⊆ ps) (i : Iface) (result : Prefetch) : ∀ out,
        execIndPrefetchDone i result t = .next out → SameBut ps s0 out := by
  unfold execIndPrefetchDone
  intro out e
  have e := Host.Outcome.next.inj e
  subst e
  have h1 : [.bus] ⊆ ps := List.Subset.trans (by decide) hs
  repeat' first
    | with_reducible exact h
    | with_reducible assumption
    | with_reducible refine State.fetchDone_keeps ?_ h1 ..
    | split
    | (dsimp only)

theorem execIndDataRead_keeps {ps : List Part} {s0 t : State} (h : SameBut ps s0 t)
    (hs : [.bus, .mon] ⊆ ps) (i : Iface) : ∀ out, execIndDataRead i t = .next out → SameBut ps s0 out := by
  unfold execIndDataRead
  intro out e
  have e := Host.Outcome.next.inj e
  subst e
  have h1 : [.bus] ⊆ ps := List.Subset.trans (by decide) hs
  have h2 : [.bus, .mon] ⊆ ps := List.Subset.trans (by decide) hs
  repeat' first
    | with_reducible exact h
    | with_reducible assumption
    | with_reducible refine State.drive_keeps ?_ h1 ..
    | with_reducible refine State.indTake_keeps ?_ h2 ..
    | ((with_reducible refine SameBut.iteKeep ?_ ?_); rotate_left; intro h; rotate_left)
    | split
    | (dsimp only)

theorem execIndDataWrite_keeps {ps : List Part} {s0 t : State} (h : SameBut ps s0 t)
    (hs : [.bus] ⊆ ps) (i : Iface) (data : Word) : ∀ out, execIndDataWrite i data t = .next out → SameBut ps s0 out := by
  unfold execIndDataWrite
  intro out e
  have e := Host.Outcome.next.inj e
  subst e
  have h1 : [.bus] ⊆ ps := List.Subset.trans (by decide) hs
  repeat' first
    | with_reducible exact h
    | with_reducible assumption
    | with_reducible refine State.indPost_keeps ?_ h1 ..
    | ((with_reducible refine SameBut.iteKeep ?_ ?_); rotate_left; intro h; rotate_left)
    | split
    | (dsimp only)

theorem execIndWriteApply_keeps {ps : List Part} {s0 t : State} (h : SameBut ps s0 t)
    (hs : [.bus, .sess] ⊆ ps) (i : Iface) : ∀ out, execIndWriteApply i t = .next out → SameBut ps s0 out := by
  unfold execIndWriteApply
  intro out e
  have e := Host.Outcome.next.inj e
  subst e
  have h1 : [.bus, .sess] ⊆ ps := List.Subset.trans (by decide) hs
  have h2 : [.bus] ⊆ ps := List.Subset.trans (by decide) hs
  repeat' first
    | with_reducible exact h
    | with_reducible assumption
    | with_reducible refine State.applyPosted_keeps ?_ h1 ..
    | with_reducible refine State.modWindow_keeps ?_ h2 ..
    | split
    | (dsimp only)

theorem execSessionOpen_keeps {ps : List Part} {s0 t : State} (h : SameBut ps s0 t)
    (hs : [.sess, .ev, .trigPins] ⊆ ps) (i : Iface) (k : Sess) (priv : BitVec 2) (notify : Bool) (tag : BitVec 16) :
        ∀ out, execSessionOpen i k priv notify tag t = .next out → SameBut ps s0 out := by
  unfold execSessionOpen
  intro out e
  have e := Host.Outcome.next.inj e
  subst e
  have h1 : [.sess, .ev, .trigPins] ⊆ ps := List.Subset.trans (by decide) hs
  have h2 : [.sess] ⊆ ps := List.Subset.trans (by decide) hs
  repeat' first
    | with_reducible exact h
    | with_reducible assumption
    | with_reducible refine State.openSess_keeps ?_ h1 ..
    | with_reducible refine State.modSess_keeps ?_ h2 ..
    | ((with_reducible refine SameBut.iteKeep ?_ ?_); rotate_left; intro h; rotate_left)
    | split
    | (dsimp only)

theorem execSessionClose_keeps {ps : List Part} {s0 t : State} (h : SameBut ps s0 t)
    (hs : [.sess, .ev, .trigPins] ⊆ ps) (k : Sess) : ∀ out, execSessionClose k t = .next out → SameBut ps s0 out := by
  unfold execSessionClose
  intro out e
  have e := Host.Outcome.next.inj e
  subst e
  have h1 : [.sess, .ev, .trigPins] ⊆ ps := List.Subset.trans (by decide) hs
  repeat' first
    | with_reducible exact h
    | with_reducible assumption
    | with_reducible refine State.closeSess_keeps ?_ h1 ..
    | ((with_reducible refine SameBut.iteKeep ?_ ?_); rotate_left; intro h; rotate_left)
    | split
    | (dsimp only)

theorem execDoorbellRing_keeps {ps : List Part} {s0 t : State} (h : SameBut ps s0 t)
    (hs : [.bus, .sess, .ev, .perf, .trigPins] ⊆ ps) (i : Iface) (k : Sess) (seq : Byte) : ∀ out,
        execDoorbellRing i k seq t = .next out → SameBut ps s0 out := by
  unfold execDoorbellRing
  intro out e
  have e := Host.Outcome.next.inj e
  subst e
  have h1 : [.bus, .sess, .ev, .perf, .trigPins] ⊆ ps := List.Subset.trans (by decide) hs
  have h2 : [.sess] ⊆ ps := List.Subset.trans (by decide) hs
  repeat' first
    | with_reducible exact h
    | with_reducible assumption
    | with_reducible refine State.ring_keeps ?_ h1 ..
    | with_reducible refine State.modSess_keeps ?_ h2 ..
    | ((with_reducible refine SameBut.iteKeep ?_ ?_); rotate_left; intro h; rotate_left)
    | split
    | (dsimp only)

theorem execEvqAck_keeps {ps : List Part} {s0 t : State} (h : SameBut ps s0 t)
    (hs : [.ev] ⊆ ps) (qseq : Word) : ∀ out, execEvqAck qseq t = .next out → SameBut ps s0 out := by
  unfold execEvqAck
  intro out e
  have e := Host.Outcome.next.inj e
  subst e
  have h1 : [.ev] ⊆ ps := List.Subset.trans (by decide) hs
  repeat' first
    | with_reducible exact h
    | with_reducible assumption
    | with_reducible refine State.writeAck_keeps ?_ h1 ..
    | ((with_reducible refine SameBut.iteKeep ?_ ?_); rotate_left; intro h; rotate_left)
    | split
    | (dsimp only)

theorem execBiasWrite_keeps {ps : List Part} {s0 t : State} (h : SameBut ps s0 t)
    (hs : [.sess, .ev, .bias, .trigPins] ⊆ ps) (k : Sess) : ∀ out, execBiasWrite k t = .next out → SameBut ps s0 out := by
  unfold execBiasWrite
  intro out e
  have e := Host.Outcome.next.inj e
  subst e
  have h1 : [.ev, .trigPins] ⊆ ps := List.Subset.trans (by decide) hs
  have h2 : [.bias] ⊆ ps := List.Subset.trans (by decide) hs
  have h3 : [.sess, .ev, .trigPins] ⊆ ps := List.Subset.trans (by decide) hs
  repeat' first
    | with_reducible exact h
    | with_reducible assumption
    | with_reducible refine State.raise_keeps ?_ h1 ..
    | with_reducible refine State.modBias_keeps ?_ h2 ..
    | ((with_reducible refine SameBut.iteKeep ?_ ?_); rotate_left; intro h; rotate_left)
    | ((with_reducible refine SameBut.guarded _ _ ?_ ?_); rotate_left; intro _ h; rotate_left)
    | ((with_reducible refine SameBut.runCmd _ _ _ h3 ?_ ?_); rotate_left; intro _ _ h; rotate_left)
    | split
    | (dsimp only)

theorem execBiasSetLimits_keeps {ps : List Part} {s0 t : State} (h : SameBut ps s0 t)
    (hs : [.sess, .ev, .bias, .trigPins] ⊆ ps) (k : Sess) : ∀ out,
        execBiasSetLimits k t = .next out → SameBut ps s0 out := by
  unfold execBiasSetLimits
  intro out e
  have e := Host.Outcome.next.inj e
  subst e
  have h1 : [.ev, .trigPins] ⊆ ps := List.Subset.trans (by decide) hs
  have h2 : [.bias] ⊆ ps := List.Subset.trans (by decide) hs
  have h3 : [.sess, .ev, .trigPins] ⊆ ps := List.Subset.trans (by decide) hs
  repeat' first
    | with_reducible exact h
    | with_reducible assumption
    | with_reducible refine State.raise_keeps ?_ h1 ..
    | with_reducible refine State.modBias_keeps ?_ h2 ..
    | ((with_reducible refine SameBut.iteKeep ?_ ?_); rotate_left; intro h; rotate_left)
    | ((with_reducible refine SameBut.guarded _ _ ?_ ?_); rotate_left; intro _ h; rotate_left)
    | ((with_reducible refine SameBut.runCmd _ _ _ h3 ?_ ?_); rotate_left; intro _ _ h; rotate_left)
    | split
    | (dsimp only)

theorem execBiasSetRange_keeps {ps : List Part} {s0 t : State} (h : SameBut ps s0 t)
    (hs : [.sess, .ev, .bias, .trigPins, .filter] ⊆ ps) (k : Sess) : ∀ out,
        execBiasSetRange k t = .next out → SameBut ps s0 out := by
  unfold execBiasSetRange
  intro out e
  have e := Host.Outcome.next.inj e
  subst e
  have h1 : [.bias, .trigPins, .filter] ⊆ ps := List.Subset.trans (by decide) hs
  have h2 : [.bias] ⊆ ps := List.Subset.trans (by decide) hs
  have h3 : [.sess, .ev, .trigPins] ⊆ ps := List.Subset.trans (by decide) hs
  repeat' first
    | with_reducible exact h
    | with_reducible assumption
    | with_reducible refine State.zeroBias_keeps ?_ h1 ..
    | with_reducible refine State.modBias_keeps ?_ h2 ..
    | ((with_reducible refine SameBut.guarded _ _ ?_ ?_); rotate_left; intro _ h; rotate_left)
    | ((with_reducible refine SameBut.runCmd _ _ _ h3 ?_ ?_); rotate_left; intro _ _ h; rotate_left)
    | split
    | (dsimp only)

theorem execBiasClearFault_keeps {ps : List Part} {s0 t : State} (h : SameBut ps s0 t)
    (hs : [.sess, .ev, .bias, .mon, .trigPins] ⊆ ps) (k : Sess) (gone : Bool) : ∀ out,
        execBiasClearFault k gone t = .next out → SameBut ps s0 out := by
  unfold execBiasClearFault
  intro out e
  have e := Host.Outcome.next.inj e
  subst e
  have h1 : [.mon] ⊆ ps := List.Subset.trans (by decide) hs
  have h2 : [.bias] ⊆ ps := List.Subset.trans (by decide) hs
  have h3 : [.sess, .ev, .trigPins] ⊆ ps := List.Subset.trans (by decide) hs
  repeat' first
    | with_reducible exact h
    | with_reducible assumption
    | with_reducible refine State.schedule_keeps ?_ h1 ..
    | with_reducible refine State.modBias_keeps ?_ h2 ..
    | ((with_reducible refine SameBut.iteKeep ?_ ?_); rotate_left; intro h; rotate_left)
    | ((with_reducible refine SameBut.guarded _ _ ?_ ?_); rotate_left; intro _ h; rotate_left)
    | ((with_reducible refine SameBut.runCmd _ _ _ h3 ?_ ?_); rotate_left; intro _ _ h; rotate_left)
    | split
    | (dsimp only)

theorem execBiasSetSafe_keeps {ps : List Part} {s0 t : State} (h : SameBut ps s0 t)
    (hs : [.sess, .ev, .bias, .trigPins] ⊆ ps) (k : Sess) : ∀ out, execBiasSetSafe k t = .next out → SameBut ps s0 out := by
  unfold execBiasSetSafe
  intro out e
  have e := Host.Outcome.next.inj e
  subst e
  have h1 : [.bias] ⊆ ps := List.Subset.trans (by decide) hs
  have h2 : [.sess, .ev, .trigPins] ⊆ ps := List.Subset.trans (by decide) hs
  repeat' first
    | with_reducible exact h
    | with_reducible assumption
    | with_reducible refine State.modBias_keeps ?_ h1 ..
    | ((with_reducible refine SameBut.iteKeep ?_ ?_); rotate_left; intro h; rotate_left)
    | ((with_reducible refine SameBut.forAllSel _ _ _ _ ?_ ?_); rotate_left; intro _ _ h; rotate_left)
    | ((with_reducible refine SameBut.runCmd _ _ _ h2 ?_ ?_); rotate_left; intro _ _ h; rotate_left)
    | split
    | (dsimp only)

theorem execBiasSetAggLimit_keeps {ps : List Part} {s0 t : State} (h : SameBut ps s0 t)
    (hs : [.sess, .ev, .bias, .trigPins] ⊆ ps) (k : Sess) : ∀ out,
        execBiasSetAggLimit k t = .next out → SameBut ps s0 out := by
  unfold execBiasSetAggLimit
  intro out e
  have e := Host.Outcome.next.inj e
  subst e
  have h1 : [.sess, .ev, .trigPins] ⊆ ps := List.Subset.trans (by decide) hs
  repeat' first
    | with_reducible exact h
    | with_reducible assumption
    | ((with_reducible refine SameBut.runCmd _ _ _ h1 ?_ ?_); rotate_left; intro _ _ h; rotate_left)
    | ((with_reducible refine SameBut.modPhoton ?_ ?_); rotate_left; (intro q hq; cases q <;> first | exact rfl | exact absurd (hs (by decide)) hq))
    | split
    | (dsimp only)

theorem execBiasGetStatus_keeps {ps : List Part} {s0 t : State} (h : SameBut ps s0 t)
    (hs : [.sess, .ev, .trigPins] ⊆ ps) (k : Sess) : ∀ out, execBiasGetStatus k t = .next out → SameBut ps s0 out := by
  unfold execBiasGetStatus
  intro out e
  have e := Host.Outcome.next.inj e
  subst e
  have h1 : [.sess, .ev, .trigPins] ⊆ ps := List.Subset.trans (by decide) hs
  repeat' first
    | with_reducible exact h
    | with_reducible assumption
    | ((with_reducible refine SameBut.runCmd _ _ _ h1 ?_ ?_); rotate_left; intro _ _ h; rotate_left)
    | split
    | (dsimp only)

theorem execBiasSetLoop_keeps {ps : List Part} {s0 t : State} (h : SameBut ps s0 t)
    (hs : [.sess, .ev, .bias, .trigPins] ⊆ ps) (k : Sess) : ∀ out, execBiasSetLoop k t = .next out → SameBut ps s0 out := by
  unfold execBiasSetLoop
  intro out e
  have e := Host.Outcome.next.inj e
  subst e
  have h1 : [.bias] ⊆ ps := List.Subset.trans (by decide) hs
  have h2 : [.sess, .ev, .trigPins] ⊆ ps := List.Subset.trans (by decide) hs
  repeat' first
    | with_reducible exact h
    | with_reducible assumption
    | with_reducible refine State.modBias_keeps ?_ h1 ..
    | ((with_reducible refine SameBut.iteKeep ?_ ?_); rotate_left; intro h; rotate_left)
    | ((with_reducible refine SameBut.guarded _ _ ?_ ?_); rotate_left; intro _ h; rotate_left)
    | ((with_reducible refine SameBut.runCmd _ _ _ h2 ?_ ?_); rotate_left; intro _ _ h; rotate_left)
    | split
    | (dsimp only)

theorem execBiasLoopCtrl_keeps {ps : List Part} {s0 t : State} (h : SameBut ps s0 t)
    (hs : [.sess, .ev, .bias, .mon, .trigPins] ⊆ ps) (k : Sess) : ∀ out,
        execBiasLoopCtrl k t = .next out → SameBut ps s0 out := by
  have h1 : [.ev, .bias, .trigPins] ⊆ ps := List.Subset.trans (by decide) hs
  have h2 : [.bias, .mon] ⊆ ps := List.Subset.trans (by decide) hs
  have h3 : [.bias] ⊆ ps := List.Subset.trans (by decide) hs
  have h4 : [.sess, .ev, .trigPins] ⊆ ps := List.Subset.trans (by decide) hs
  have hrun : [.sess, .ev, .trigPins] ⊆ ps := List.Subset.trans (by decide) hs
  have hstart : [.ev, .bias, .trigPins] ⊆ ps := List.Subset.trans (by decide) hs
  have hfreeze : [.ev, .bias, .trigPins] ⊆ ps := List.Subset.trans (by decide) hs
  have hthaw : [.bias] ⊆ ps := List.Subset.trans (by decide) hs
  have hstop : [.bias, .mon] ⊆ ps := List.Subset.trans (by decide) hs
  intro out e
  cases e
  refine SameBut.runCmd _ _ _ hrun h fun a x h => ?_
  dsimp only
  split
  · with_reducible refine SameBut.guarded _ _ h fun y h => ?_
    with_reducible exact State.startLoop_keeps h hstart ..
  · with_reducible refine SameBut.guarded _ _ h fun y h => ?_
    dsimp only
    repeat' first
      | with_reducible assumption
      | with_reducible refine State.freezeLoop_keeps ?_ hfreeze ..
      | with_reducible refine State.thawLoop_keeps ?_ hthaw ..
      | with_reducible refine State.stopLoop_keeps ?_ hstop ..
      | with_reducible apply SameBut.ite

theorem execBiasCodeApply_keeps {ps : List Part} {s0 t : State} (h : SameBut ps s0 t)
    (hs : [.bias, .trigPins, .filter] ⊆ ps) (o : Bias) : ∀ out, execBiasCodeApply o t = .next out → SameBut ps s0 out := by
  unfold execBiasCodeApply
  intro out e
  have e := Host.Outcome.next.inj e
  subst e
  have h1 : [.bias, .trigPins, .filter] ⊆ ps := List.Subset.trans (by decide) hs
  have h2 : [.bias] ⊆ ps := List.Subset.trans (by decide) hs
  repeat' first
    | with_reducible exact h
    | with_reducible assumption
    | with_reducible refine State.applyBias_keeps ?_ h1 ..
    | with_reducible refine State.modBias_keeps ?_ h2 ..
    | ((with_reducible refine SameBut.iteKeep ?_ ?_); rotate_left; intro h; rotate_left)
    | split
    | (dsimp only)

theorem execDeglitchStep_keeps {ps : List Part} {s0 t : State} (h : SameBut ps s0 t)
    (hs : [.bias, .trigPins, .filter] ⊆ ps) (o : Bias) : ∀ out, execDeglitchStep o t = .next out → SameBut ps s0 out := by
  unfold execDeglitchStep
  intro out e
  have e := Host.Outcome.next.inj e
  subst e
  have h1 : [.bias, .trigPins, .filter] ⊆ ps := List.Subset.trans (by decide) hs
  repeat' first
    | with_reducible exact h
    | with_reducible assumption
    | with_reducible refine State.stepBall_keeps ?_ h1 ..
    | split
    | (dsimp only)

theorem execRangeChangeDone_keeps {ps : List Part} {s0 t : State} (h : SameBut ps s0 t)
    (hs : [.sess, .ev, .bias, .trigPins, .filter] ⊆ ps) (o : Bias) : ∀ out,
        execRangeChangeDone o t = .next out → SameBut ps s0 out := by
  unfold execRangeChangeDone
  intro out e
  have e := Host.Outcome.next.inj e
  subst e
  have h1 : [.sess, .ev, .trigPins] ⊆ ps := List.Subset.trans (by decide) hs
  have h2 : [.bias, .trigPins, .filter] ⊆ ps := List.Subset.trans (by decide) hs
  have h3 : [.ev, .trigPins] ⊆ ps := List.Subset.trans (by decide) hs
  have h4 : [.bias] ⊆ ps := List.Subset.trans (by decide) hs
  repeat' first
    | with_reducible exact h
    | with_reducible assumption
    | with_reducible refine State.answerOpt_keeps ?_ h1 ..
    | with_reducible refine State.applyBias_keeps ?_ h2 ..
    | with_reducible refine State.nextRange_keeps ?_ h2 ..
    | with_reducible refine State.raise_keeps ?_ h3 ..
    | with_reducible refine State.modBias_keeps ?_ h4 ..
    | ((with_reducible refine SameBut.iteKeep ?_ ?_); rotate_left; intro h; rotate_left)
    | split
    | (dsimp only)

theorem execBiasFault_keeps {ps : List Part} {s0 t : State} (h : SameBut ps s0 t)
    (hs : [.sess, .ev, .bias, .mon, .trigPins, .filter] ⊆ ps) (o : Bias) : ∀ out,
        execBiasFault o t = .next out → SameBut ps s0 out := by
  unfold execBiasFault
  intro out e
  have e := Host.Outcome.next.inj e
  subst e
  have h1 : [.sess, .ev, .bias, .trigPins, .filter] ⊆ ps := List.Subset.trans (by decide) hs
  have h2 : [.ev, .trigPins] ⊆ ps := List.Subset.trans (by decide) hs
  have h3 : [.ev, .mon, .trigPins] ⊆ ps := List.Subset.trans (by decide) hs
  repeat' first
    | with_reducible exact h
    | with_reducible assumption
    | with_reducible refine State.latchFault_keeps ?_ h1 ..
    | with_reducible refine State.raise_keeps ?_ h2 ..
    | with_reducible refine State.urgent_keeps ?_ h3 ..
    | ((with_reducible refine SameBut.iteKeep ?_ ?_); rotate_left; intro h; rotate_left)
    | split
    | (dsimp only)

theorem execBiasSupplyLow_keeps {ps : List Part} {s0 t : State} (h : SameBut ps s0 t)
    (hs : [.sess, .ev, .pins, .bias, .mon, .trigPins, .filter] ⊆ ps) (low : Bool) : ∀ out,
        execBiasSupplyLow low t = .next out → SameBut ps s0 out := by
  unfold execBiasSupplyLow
  intro out e
  have e := Host.Outcome.next.inj e
  subst e
  have h1 : [.sess, .ev, .bias, .trigPins, .filter] ⊆ ps := List.Subset.trans (by decide) hs
  have h2 : [.ev, .trigPins] ⊆ ps := List.Subset.trans (by decide) hs
  have h3 : [.ev, .mon, .trigPins] ⊆ ps := List.Subset.trans (by decide) hs
  have h4 : [.pins] ⊆ ps := List.Subset.trans (by decide) hs
  repeat' first
    | with_reducible exact h
    | with_reducible assumption
    | with_reducible refine State.latchFault_keeps ?_ h1 ..
    | with_reducible refine State.raise_keeps ?_ h2 ..
    | with_reducible refine State.urgent_keeps ?_ h3 ..
    | with_reducible refine State.modPins_keeps ?_ h4 ..
    | ((with_reducible refine SameBut.iteKeep ?_ ?_); rotate_left; intro h; rotate_left)
    | ((with_reducible refine SameBut.each _ _ ?_ ?_); rotate_left; intro _ _ h; rotate_left)
    | split
    | (dsimp only)

theorem execSupplyGate_keeps {ps : List Part} {s0 t : State} (h : SameBut ps s0 t)
    (hs : [.pins, .clk, .power, .mem, .lane, .rx, .tx, .group, .bias, .trigPins, .filter] ⊆ ps) (on : Bool) (aonLost :
        Bool) : ∀ out, execSupplyGate on aonLost t = .next out → SameBut ps s0 out := by
  unfold execSupplyGate
  intro out e
  have e := Host.Outcome.next.inj e
  subst e
  have h1 : [.clk, .power, .mem, .lane, .rx, .tx, .group, .bias] ⊆ ps := List.Subset.trans (by decide) hs
  have h2 : [.bias, .trigPins, .filter] ⊆ ps := List.Subset.trans (by decide) hs
  have h3 : [.pins] ⊆ ps := List.Subset.trans (by decide) hs
  have h4 : [.bias] ⊆ ps := List.Subset.trans (by decide) hs
  repeat' first
    | with_reducible exact h
    | with_reducible assumption
    | with_reducible refine State.aonLost_keeps ?_ h1 ..
    | with_reducible refine State.zeroBias_keeps ?_ h2 ..
    | with_reducible refine State.modPins_keeps ?_ h3 ..
    | with_reducible refine State.modBias_keeps ?_ h4 ..
    | ((with_reducible refine SameBut.iteKeep ?_ ?_); rotate_left; intro h; rotate_left)
    | ((with_reducible refine SameBut.each _ _ ?_ ?_); rotate_left; intro _ _ h; rotate_left)
    | split
    | (dsimp only)

theorem execDitherHalfPeriod_keeps {ps : List Part} {s0 t : State} (h : SameBut ps s0 t)
    (hs : [.bias] ⊆ ps) (o : Bias) : ∀ out, execDitherHalfPeriod o t = .next out → SameBut ps s0 out := by
  unfold execDitherHalfPeriod
  intro out e
  have e := Host.Outcome.next.inj e
  subst e
  have h1 : [.bias] ⊆ ps := List.Subset.trans (by decide) hs
  repeat' first
    | with_reducible exact h
    | with_reducible assumption
    | with_reducible refine State.loopWrite_keeps ?_ h1 ..
    | with_reducible refine State.modBias_keeps ?_ h1 ..
    | ((with_reducible refine SameBut.iteKeep ?_ ?_); rotate_left; intro h; rotate_left)
    | split
    | (dsimp only)

theorem execLoopUpdate_keeps {ps : List Part} {s0 t : State} (h : SameBut ps s0 t)
    (hs : [.ev, .bias, .trigPins] ⊆ ps) (o : Bias) : ∀ out, execLoopUpdate o t = .next out → SameBut ps s0 out := by
  unfold execLoopUpdate
  intro out e
  have e := Host.Outcome.next.inj e
  subst e
  have h1 : [.ev, .trigPins] ⊆ ps := List.Subset.trans (by decide) hs
  have h2 : [.bias] ⊆ ps := List.Subset.trans (by decide) hs
  repeat' first
    | with_reducible exact h
    | with_reducible assumption
    | with_reducible refine State.raise_keeps ?_ h1 ..
    | with_reducible refine State.modBias_keeps ?_ h2 ..
    | ((with_reducible refine SameBut.iteKeep ?_ ?_); rotate_left; intro h; rotate_left)
    | ((with_reducible refine SameBut.each _ _ ?_ ?_); rotate_left; intro _ _ h; rotate_left)
    | split
    | (dsimp only)

theorem execMonSetPair_keeps {ps : List Part} {s0 t : State} (h : SameBut ps s0 t)
    (hs : [.sess, .ev, .mon, .trigPins] ⊆ ps) (k : Sess) : ∀ out, execMonSetPair k t = .next out → SameBut ps s0 out := by
  unfold execMonSetPair
  intro out e
  have e := Host.Outcome.next.inj e
  subst e
  have h1 : [.mon, .trigPins] ⊆ ps := List.Subset.trans (by decide) hs
  have h2 : [.mon] ⊆ ps := List.Subset.trans (by decide) hs
  have h3 : [.sess, .ev, .trigPins] ⊆ ps := List.Subset.trans (by decide) hs
  repeat' first
    | with_reducible exact h
    | with_reducible assumption
    | with_reducible refine State.resumeMon_keeps ?_ h1 ..
    | with_reducible refine State.modMon_keeps ?_ h2 ..
    | ((with_reducible refine SameBut.iteKeep ?_ ?_); rotate_left; intro h; rotate_left)
    | ((with_reducible refine SameBut.guarded _ _ ?_ ?_); rotate_left; intro _ h; rotate_left)
    | ((with_reducible refine SameBut.runCmd _ _ _ h3 ?_ ?_); rotate_left; intro _ _ h; rotate_left)
    | split
    | (dsimp only)

theorem execMonSetSeq_keeps {ps : List Part} {s0 t : State} (h : SameBut ps s0 t)
    (hs : [.sess, .ev, .mon, .trigPins] ⊆ ps) (k : Sess) : ∀ out, execMonSetSeq k t = .next out → SameBut ps s0 out := by
  unfold execMonSetSeq
  intro out e
  have e := Host.Outcome.next.inj e
  subst e
  have h1 : [.mon, .trigPins] ⊆ ps := List.Subset.trans (by decide) hs
  have h2 : [.mon] ⊆ ps := List.Subset.trans (by decide) hs
  have h3 : [.sess, .ev, .trigPins] ⊆ ps := List.Subset.trans (by decide) hs
  repeat' first
    | with_reducible exact h
    | with_reducible assumption
    | with_reducible refine State.regularRun_keeps ?_ h1 ..
    | with_reducible refine State.schedule_keeps ?_ h2 ..
    | with_reducible refine State.modMon_keeps ?_ h2 ..
    | ((with_reducible refine SameBut.iteKeep ?_ ?_); rotate_left; intro h; rotate_left)
    | ((with_reducible refine SameBut.guarded _ _ ?_ ?_); rotate_left; intro _ h; rotate_left)
    | ((with_reducible refine SameBut.runCmd _ _ _ h3 ?_ ?_); rotate_left; intro _ _ h; rotate_left)
    | split
    | (dsimp only)

theorem execMonStart_keeps {ps : List Part} {s0 t : State} (h : SameBut ps s0 t)
    (hs : [.sess, .ev, .mon, .trigPins] ⊆ ps) (k : Sess) : ∀ out, execMonStart k t = .next out → SameBut ps s0 out := by
  unfold execMonStart
  intro out e
  have e := Host.Outcome.next.inj e
  subst e
  have h1 : [.mon, .trigPins] ⊆ ps := List.Subset.trans (by decide) hs
  have h2 : [.mon] ⊆ ps := List.Subset.trans (by decide) hs
  have h3 : [.sess, .ev, .trigPins] ⊆ ps := List.Subset.trans (by decide) hs
  repeat' first
    | with_reducible exact h
    | with_reducible assumption
    | with_reducible refine State.regularRun_keeps ?_ h1 ..
    | with_reducible refine State.schedule_keeps ?_ h2 ..
    | ((with_reducible refine SameBut.guarded _ _ ?_ ?_); rotate_left; intro _ h; rotate_left)
    | ((with_reducible refine SameBut.runCmd _ _ _ h3 ?_ ?_); rotate_left; intro _ _ h; rotate_left)
    | split
    | (dsimp only)

theorem execMonStop_keeps {ps : List Part} {s0 t : State} (h : SameBut ps s0 t)
    (hs : [.sess, .ev, .mon, .trigPins] ⊆ ps) (k : Sess) : ∀ out, execMonStop k t = .next out → SameBut ps s0 out := by
  unfold execMonStop
  intro out e
  have e := Host.Outcome.next.inj e
  subst e
  have h1 : [.mon] ⊆ ps := List.Subset.trans (by decide) hs
  have h2 : [.sess, .ev, .trigPins] ⊆ ps := List.Subset.trans (by decide) hs
  repeat' first
    | with_reducible exact h
    | with_reducible assumption
    | with_reducible refine State.modMon_keeps ?_ h1 ..
    | ((with_reducible refine SameBut.iteKeep ?_ ?_); rotate_left; intro h; rotate_left)
    | ((with_reducible refine SameBut.runCmd _ _ _ h2 ?_ ?_); rotate_left; intro _ _ h; rotate_left)
    | split
    | (dsimp only)

theorem execMonInject_keeps {ps : List Part} {s0 t : State} (h : SameBut ps s0 t)
    (hs : [.sess, .ev, .mon, .trigPins] ⊆ ps) (k : Sess) : ∀ out, execMonInject k t = .next out → SameBut ps s0 out := by
  unfold execMonInject
  intro out e
  have e := Host.Outcome.next.inj e
  subst e
  have h1 : [.ev, .mon, .trigPins] ⊆ ps := List.Subset.trans (by decide) hs
  have h2 : [.sess, .ev, .trigPins] ⊆ ps := List.Subset.trans (by decide) hs
  repeat' first
    | with_reducible exact h
    | with_reducible assumption
    | with_reducible refine State.injectTrigger_keeps ?_ h1 ..
    | ((with_reducible refine SameBut.guarded _ _ ?_ ?_); rotate_left; intro _ h; rotate_left)
    | ((with_reducible refine SameBut.runCmd _ _ _ h2 ?_ ?_); rotate_left; intro _ _ h; rotate_left)
    | split
    | (dsimp only)

theorem execMonReadChannel_keeps {ps : List Part} {s0 t : State} (h : SameBut ps s0 t)
    (hs : [.sess, .ev, .mon, .trigPins] ⊆ ps) (k : Sess) : ∀ out,
        execMonReadChannel k t = .next out → SameBut ps s0 out := by
  unfold execMonReadChannel
  intro out e
  have e := Host.Outcome.next.inj e
  subst e
  have h1 : [.mon] ⊆ ps := List.Subset.trans (by decide) hs
  have h2 : [.sess, .ev, .trigPins] ⊆ ps := List.Subset.trans (by decide) hs
  repeat' first
    | with_reducible exact h
    | with_reducible assumption
    | with_reducible refine State.schedule_keeps ?_ h1 ..
    | with_reducible refine State.modMon_keeps ?_ h1 ..
    | ((with_reducible refine SameBut.guarded _ _ ?_ ?_); rotate_left; intro _ h; rotate_left)
    | ((with_reducible refine SameBut.runCmd _ _ _ h2 ?_ ?_); rotate_left; intro _ _ h; rotate_left)
    | split
    | (dsimp only)

theorem execMonReadChannelTimeout_keeps {ps : List Part} {s0 t : State} (h : SameBut ps s0 t)
    (hs : [.sess, .ev, .mon, .trigPins] ⊆ ps) (u : Mon) (k : Sess) : ∀ out,
        execMonReadChannelTimeout u k t = .next out → SameBut ps s0 out := by
  unfold execMonReadChannelTimeout
  intro out e
  have e := Host.Outcome.next.inj e
  subst e
  have h1 : [.sess, .ev, .trigPins] ⊆ ps := List.Subset.trans (by decide) hs
  have h2 : [.mon] ⊆ ps := List.Subset.trans (by decide) hs
  repeat' first
    | with_reducible exact h
    | with_reducible assumption
    | with_reducible refine State.answer_keeps ?_ h1 ..
    | with_reducible refine State.modMon_keeps ?_ h2 ..
    | ((with_reducible refine SameBut.iteKeep ?_ ?_); rotate_left; intro h; rotate_left)
    | split
    | (dsimp only)

theorem execMonSetFrame_keeps {ps : List Part} {s0 t : State} (h : SameBut ps s0 t)
    (hs : [.sess, .ev, .mon, .trigPins] ⊆ ps) (k : Sess) : ∀ out, execMonSetFrame k t = .next out → SameBut ps s0 out := by
  unfold execMonSetFrame
  intro out e
  have e := Host.Outcome.next.inj e
  subst e
  have h1 : [.mon] ⊆ ps := List.Subset.trans (by decide) hs
  have h2 : [.sess, .ev, .trigPins] ⊆ ps := List.Subset.trans (by decide) hs
  repeat' first
    | with_reducible exact h
    | with_reducible assumption
    | with_reducible refine State.modMon_keeps ?_ h1 ..
    | ((with_reducible refine SameBut.guarded _ _ ?_ ?_); rotate_left; intro _ h; rotate_left)
    | ((with_reducible refine SameBut.runCmd _ _ _ h2 ?_ ?_); rotate_left; intro _ _ h; rotate_left)
    | split
    | (dsimp only)

theorem execMonReadResults_keeps {ps : List Part} {s0 t : State} (h : SameBut ps s0 t)
    (hs : [.sess, .ev, .mon, .trigPins] ⊆ ps) (k : Sess) : ∀ out,
        execMonReadResults k t = .next out → SameBut ps s0 out := by
  unfold execMonReadResults
  intro out e
  have e := Host.Outcome.next.inj e
  subst e
  have h1 : [.mon] ⊆ ps := List.Subset.trans (by decide) hs
  have h2 : [.sess, .ev, .trigPins] ⊆ ps := List.Subset.trans (by decide) hs
  repeat' first
    | with_reducible exact h
    | with_reducible assumption
    | with_reducible refine State.modMon_keeps ?_ h1 ..
    | ((with_reducible refine SameBut.runCmd _ _ _ h2 ?_ ?_); rotate_left; intro _ _ h; rotate_left)
    | split
    | (dsimp only)

theorem execMonGetStatus_keeps {ps : List Part} {s0 t : State} (h : SameBut ps s0 t)
    (hs : [.sess, .ev, .mon, .trigPins] ⊆ ps) (k : Sess) : ∀ out, execMonGetStatus k t = .next out → SameBut ps s0 out := by
  unfold execMonGetStatus
  intro out e
  have e := Host.Outcome.next.inj e
  subst e
  have h1 : [.mon] ⊆ ps := List.Subset.trans (by decide) hs
  have h2 : [.sess, .ev, .trigPins] ⊆ ps := List.Subset.trans (by decide) hs
  repeat' first
    | with_reducible exact h
    | with_reducible assumption
    | with_reducible refine State.modMon_keeps ?_ h1 ..
    | ((with_reducible refine SameBut.runCmd _ _ _ h2 ?_ ?_); rotate_left; intro _ _ h; rotate_left)
    | split
    | (dsimp only)

theorem execMonSetPin_keeps {ps : List Part} {s0 t : State} (h : SameBut ps s0 t)
    (hs : [.sess, .ev, .trigPins] ⊆ ps) (k : Sess) : ∀ out, execMonSetPin k t = .next out → SameBut ps s0 out := by
  unfold execMonSetPin
  intro out e
  have e := Host.Outcome.next.inj e
  subst e
  have h1 : [.sess, .ev, .trigPins] ⊆ ps := List.Subset.trans (by decide) hs
  repeat' first
    | with_reducible exact h
    | with_reducible assumption
    | ((with_reducible refine SameBut.guarded _ _ ?_ ?_); rotate_left; intro _ h; rotate_left)
    | ((with_reducible refine SameBut.runCmd _ _ _ h1 ?_ ?_); rotate_left; intro _ _ h; rotate_left)
    | ((with_reducible refine SameBut.modPhoton ?_ ?_); rotate_left; (intro q hq; cases q <;> first | exact rfl | exact absurd (hs (by decide)) hq))
    | split
    | (dsimp only)

theorem execLoopSlotStart_keeps {ps : List Part} {s0 t : State} (h : SameBut ps s0 t)
    (hs : [.mon, .therm] ⊆ ps) (u : Mon) (slot : Nat) : ∀ out,
        execLoopSlotStart u slot t = .next out → SameBut ps s0 out := by
  unfold execLoopSlotStart
  intro out e
  have e := Host.Outcome.next.inj e
  subst e
  have h1 : [.therm] ⊆ ps := List.Subset.trans (by decide) hs
  have h2 : [.mon] ⊆ ps := List.Subset.trans (by decide) hs
  repeat' first
    | with_reducible exact h
    | with_reducible assumption
    | with_reducible refine State.refTrim_keeps ?_ h1 ..
    | with_reducible refine State.schedule_keeps ?_ h2 ..
    | with_reducible refine State.modMon_keeps ?_ h2 ..
    | ((with_reducible refine SameBut.iteKeep ?_ ?_); rotate_left; intro h; rotate_left)
    | split
    | (dsimp only)

theorem execConversionDone_keeps {ps : List Part} {s0 t : State} (h : SameBut ps s0 t)
    (hs : [.bus, .sess, .ev, .bias, .mon, .trigPins, .filter] ⊆ ps) (u : Mon) (nV : Nat) : ∀ out,
        execConversionDone u nV t = .next out → SameBut ps s0 out := by
  unfold execConversionDone
  intro out e
  have e := Host.Outcome.next.inj e
  subst e
  have h1 : [.sess, .ev, .trigPins] ⊆ ps := List.Subset.trans (by decide) hs
  have h2 : [.ev, .mon, .trigPins] ⊆ ps := List.Subset.trans (by decide) hs
  have h3 : [.bus, .ev, .bias, .mon, .trigPins, .filter] ⊆ ps := List.Subset.trans (by decide) hs
  have h4 : [.bias, .mon] ⊆ ps := List.Subset.trans (by decide) hs
  have h5 : [.ev, .bias, .trigPins, .filter] ⊆ ps := List.Subset.trans (by decide) hs
  have h6 : [.mon] ⊆ ps := List.Subset.trans (by decide) hs
  repeat' first
    | with_reducible exact h
    | with_reducible assumption
    | with_reducible refine State.answerOpt_keeps ?_ h1 ..
    | with_reducible refine State.countOver_keeps ?_ h2 ..
    | with_reducible refine State.injDone_keeps ?_ h3 ..
    | with_reducible refine State.keepSense_keeps ?_ h4 ..
    | with_reducible refine State.loopSample_keeps ?_ h5 ..
    | with_reducible refine State.regDone_keeps ?_ h3 ..
    | with_reducible refine State.schedule_keeps ?_ h6 ..
    | with_reducible refine State.modMon_keeps ?_ h6 ..
    | ((with_reducible refine SameBut.iteKeep ?_ ?_); rotate_left; intro h; rotate_left)
    | split
    | (dsimp only)

theorem execTrigEdge_keeps {ps : List Part} {s0 t : State} (h : SameBut ps s0 t)
    (hs : [.ev, .mon, .trigPins] ⊆ ps) (pin : Pin) (rising : Bool) : ∀ out,
        execTrigEdge pin rising t = .next out → SameBut ps s0 out := by
  unfold execTrigEdge
  intro out e
  have e := Host.Outcome.next.inj e
  subst e
  have h1 : [.ev, .mon, .trigPins] ⊆ ps := List.Subset.trans (by decide) hs
  repeat' first
    | with_reducible exact h
    | with_reducible assumption
    | with_reducible refine State.injectTrigger_keeps ?_ h1 ..
    | with_reducible refine State.regularTrigger_keeps ?_ h1 ..
    | ((with_reducible refine SameBut.iteKeep ?_ ?_); rotate_left; intro h; rotate_left)
    | ((with_reducible refine SameBut.each _ _ ?_ ?_); rotate_left; intro _ _ h; rotate_left)
    | split
    | (dsimp only)

theorem execTrigPulseEnd_keeps {ps : List Part} {s0 t : State} (h : SameBut ps s0 t)
    (hs : [.trigPins] ⊆ ps) (pin : Pin) : ∀ out, execTrigPulseEnd pin t = .next out → SameBut ps s0 out := by
  unfold execTrigPulseEnd
  intro out e
  have e := Host.Outcome.next.inj e
  subst e
  repeat' first
    | with_reducible exact h
    | with_reducible assumption
    | ((with_reducible refine SameBut.iteKeep ?_ ?_); rotate_left; intro h; rotate_left)
    | ((with_reducible refine SameBut.modPhoton ?_ ?_); rotate_left; (intro q hq; cases q <;> first | exact rfl | exact absurd (hs (by decide)) hq))
    | split
    | (dsimp only)

theorem execFilterOutputRelease_keeps {ps : List Part} {s0 t : State} (h : SameBut ps s0 t)
    (hs : [.ev, .trigPins, .filter] ⊆ ps) (c : Fch) : ∀ out,
        execFilterOutputRelease c t = .next out → SameBut ps s0 out := by
  unfold execFilterOutputRelease
  intro out e
  have e := Host.Outcome.next.inj e
  subst e
  have h1 : [.ev, .trigPins, .filter] ⊆ ps := List.Subset.trans (by decide) hs
  have h2 : [.filter] ⊆ ps := List.Subset.trans (by decide) hs
  repeat' first
    | with_reducible exact h
    | with_reducible assumption
    | with_reducible refine State.releaseOut_keeps ?_ h1 ..
    | with_reducible refine State.modFilter_keeps ?_ h2 ..
    | ((with_reducible refine SameBut.iteKeep ?_ ?_); rotate_left; intro h; rotate_left)
    | split
    | (dsimp only)

theorem execDcFreezeExpiry_keeps {ps : List Part} {s0 t : State} (h : SameBut ps s0 t)
    (hs : [.filter] ⊆ ps) (c : Fch) : ∀ out, execDcFreezeExpiry c t = .next out → SameBut ps s0 out := by
  unfold execDcFreezeExpiry
  intro out e
  have e := Host.Outcome.next.inj e
  subst e
  have h1 : [.filter] ⊆ ps := List.Subset.trans (by decide) hs
  repeat' first
    | with_reducible exact h
    | with_reducible assumption
    | with_reducible refine State.modFilter_keeps ?_ h1 ..
    | split
    | (dsimp only)

theorem execFilterSetChannel_keeps {ps : List Part} {s0 t : State} (h : SameBut ps s0 t)
    (hs : [.sess, .ev, .trigPins, .filter] ⊆ ps) (k : Sess) : ∀ out,
        execFilterSetChannel k t = .next out → SameBut ps s0 out := by
  unfold execFilterSetChannel
  intro out e
  have e := Host.Outcome.next.inj e
  subst e
  have h1 : [.filter] ⊆ ps := List.Subset.trans (by decide) hs
  have h2 : [.sess, .ev, .trigPins] ⊆ ps := List.Subset.trans (by decide) hs
  repeat' first
    | with_reducible exact h
    | with_reducible assumption
    | with_reducible refine State.modFilter_keeps ?_ h1 ..
    | ((with_reducible refine SameBut.iteKeep ?_ ?_); rotate_left; intro h; rotate_left)
    | ((with_reducible refine SameBut.guarded _ _ ?_ ?_); rotate_left; intro _ h; rotate_left)
    | ((with_reducible refine SameBut.runCmd _ _ _ h2 ?_ ?_); rotate_left; intro _ _ h; rotate_left)
    | split
    | (dsimp only)

theorem execFilterLoadCoeff_keeps {ps : List Part} {s0 t : State} (h : SameBut ps s0 t)
    (hs : [.sess, .ev, .trigPins, .filter] ⊆ ps) (k : Sess) : ∀ out,
        execFilterLoadCoeff k t = .next out → SameBut ps s0 out := by
  unfold execFilterLoadCoeff
  intro out e
  have e := Host.Outcome.next.inj e
  subst e
  have h1 : [.sess, .ev, .trigPins] ⊆ ps := List.Subset.trans (by decide) hs
  repeat' first
    | with_reducible exact h
    | with_reducible assumption
    | ((with_reducible refine SameBut.guarded _ _ ?_ ?_); rotate_left; intro _ h; rotate_left)
    | ((with_reducible refine SameBut.runCmd _ _ _ h1 ?_ ?_); rotate_left; intro _ _ h; rotate_left)
    | ((with_reducible refine SameBut.modPhoton ?_ ?_); rotate_left; (intro q hq; cases q <;> first | exact rfl | exact absurd (hs (by decide)) hq))
    | split
    | (dsimp only)

theorem execFilterFreezeDc_keeps {ps : List Part} {s0 t : State} (h : SameBut ps s0 t)
    (hs : [.sess, .ev, .trigPins, .filter] ⊆ ps) (k : Sess) : ∀ out,
        execFilterFreezeDc k t = .next out → SameBut ps s0 out := by
  unfold execFilterFreezeDc
  intro out e
  have e := Host.Outcome.next.inj e
  subst e
  have h1 : [.filter] ⊆ ps := List.Subset.trans (by decide) hs
  have h2 : [.sess, .ev, .trigPins] ⊆ ps := List.Subset.trans (by decide) hs
  repeat' first
    | with_reducible exact h
    | with_reducible assumption
    | with_reducible refine State.modFilter_keeps ?_ h1 ..
    | ((with_reducible refine SameBut.runCmd _ _ _ h2 ?_ ?_); rotate_left; intro _ _ h; rotate_left)
    | split
    | (dsimp only)

theorem execFilterRead_keeps {ps : List Part} {s0 t : State} (h : SameBut ps s0 t)
    (hs : [.sess, .ev, .trigPins, .filter] ⊆ ps) (k : Sess) : ∀ out, execFilterRead k t = .next out → SameBut ps s0 out := by
  unfold execFilterRead
  intro out e
  have e := Host.Outcome.next.inj e
  subst e
  have h1 : [.filter] ⊆ ps := List.Subset.trans (by decide) hs
  have h2 : [.sess, .ev, .trigPins] ⊆ ps := List.Subset.trans (by decide) hs
  repeat' first
    | with_reducible exact h
    | with_reducible assumption
    | with_reducible refine State.modFilter_keeps ?_ h1 ..
    | ((with_reducible refine SameBut.runCmd _ _ _ h2 ?_ ?_); rotate_left; intro _ _ h; rotate_left)
    | split
    | (dsimp only)

theorem execBootRomStart_keeps {ps : List Part} {s0 t : State} (h : SameBut ps s0 t)
    (hs : [.bus, .sess, .ev, .perf, .pins, .clk, .core, .avs, .mem, .fwReady, .otp, .signing, .flash, .img,
        .trigPins] ⊆ ps)  : ∀ out, execBootRomStart t = .next out → SameBut ps s0 out := by
  unfold execBootRomStart
  intro out e
  have e := Host.Outcome.next.inj e
  subst e
  have h1 : [.bus, .sess, .ev, .perf, .pins, .clk, .core, .avs, .mem, .fwReady, .otp, .signing, .flash, .img,
      .trigPins] ⊆ ps := List.Subset.trans (by decide) hs
  have h2 : [.img] ⊆ ps := List.Subset.trans (by decide) hs
  repeat' first
    | with_reducible exact h
    | with_reducible assumption
    | with_reducible refine State.bootRom_keeps ?_ h1 ..
    | with_reducible refine State.quietPorts_keeps ?_ h2 ..
    | ((with_reducible refine SameBut.iteKeep ?_ ?_); rotate_left; intro h; rotate_left)
    | split
    | (dsimp only)

theorem execImageBegin_keeps {ps : List Part} {s0 t : State} (h : SameBut ps s0 t)
    (hs : [.sess, .ev, .img, .trigPins] ⊆ ps) (k : Sess) : ∀ out, execImageBegin k t = .next out → SameBut ps s0 out := by
  unfold execImageBegin
  intro out e
  have e := Host.Outcome.next.inj e
  subst e
  have h1 : [.img] ⊆ ps := List.Subset.trans (by decide) hs
  have h2 : [.ev, .img, .trigPins] ⊆ ps := List.Subset.trans (by decide) hs
  have h3 : [.sess, .ev, .trigPins] ⊆ ps := List.Subset.trans (by decide) hs
  repeat' first
    | with_reducible exact h
    | with_reducible assumption
    | with_reducible refine State.beginDownload_keeps ?_ h1 ..
    | with_reducible refine State.modPort_keeps ?_ h1 ..
    | with_reducible refine State.quietPorts_keeps ?_ h1 ..
    | with_reducible refine State.rejectDownload_keeps ?_ h2 ..
    | ((with_reducible refine SameBut.each _ _ ?_ ?_); rotate_left; intro _ _ h; rotate_left)
    | ((with_reducible refine SameBut.guarded _ _ ?_ ?_); rotate_left; intro _ h; rotate_left)
    | ((with_reducible refine SameBut.runCmd _ _ _ h3 ?_ ?_); rotate_left; intro _ _ h; rotate_left)
    | split
    | (dsimp only)

theorem execImageWrite_keeps {ps : List Part} {s0 t : State} (h : SameBut ps s0 t)
    (hs : [.sess, .ev, .img, .trigPins] ⊆ ps) (k : Sess) : ∀ out, execImageWrite k t = .next out → SameBut ps s0 out := by
  unfold execImageWrite
  intro out e
  have e := Host.Outcome.next.inj e
  subst e
  have h1 : [.img] ⊆ ps := List.Subset.trans (by decide) hs
  have h2 : [.sess, .ev, .trigPins] ⊆ ps := List.Subset.trans (by decide) hs
  repeat' first
    | with_reducible exact h
    | with_reducible assumption
    | with_reducible refine State.pumpAll_keeps ?_ h1 ..
    | with_reducible refine State.quietPorts_keeps ?_ h1 ..
    | with_reducible refine State.modImg_keeps ?_ h1 ..
    | ((with_reducible refine SameBut.guarded _ _ ?_ ?_); rotate_left; intro _ h; rotate_left)
    | ((with_reducible refine SameBut.runCmd _ _ _ h2 ?_ ?_); rotate_left; intro _ _ h; rotate_left)
    | split
    | (dsimp only)

theorem execImageGetStatus_keeps {ps : List Part} {s0 t : State} (h : SameBut ps s0 t)
    (hs : [.sess, .ev, .trigPins] ⊆ ps) (k : Sess) : ∀ out, execImageGetStatus k t = .next out → SameBut ps s0 out := by
  unfold execImageGetStatus
  intro out e
  have e := Host.Outcome.next.inj e
  subst e
  have h1 : [.sess, .ev, .trigPins] ⊆ ps := List.Subset.trans (by decide) hs
  repeat' first
    | with_reducible exact h
    | with_reducible assumption
    | ((with_reducible refine SameBut.runCmd _ _ _ h1 ?_ ?_); rotate_left; intro _ _ h; rotate_left)
    | split
    | (dsimp only)

theorem execHeaderVerdict_keeps {ps : List Part} {s0 t : State} (h : SameBut ps s0 t)
    (hs : [.ev, .flash, .img, .trigPins] ⊆ ps)  : ∀ out, execHeaderVerdict t = .next out → SameBut ps s0 out := by
  unfold execHeaderVerdict
  intro out e
  have e := Host.Outcome.next.inj e
  subst e
  have h1 : [.img] ⊆ ps := List.Subset.trans (by decide) hs
  have h2 : [.ev, .trigPins] ⊆ ps := List.Subset.trans (by decide) hs
  have h3 : [.ev, .img, .trigPins] ⊆ ps := List.Subset.trans (by decide) hs
  have h4 : [.flash] ⊆ ps := List.Subset.trans (by decide) hs
  repeat' first
    | with_reducible exact h
    | with_reducible assumption
    | with_reducible refine State.ackUp_keeps ?_ h1 ..
    | with_reducible refine State.quietPorts_keeps ?_ h1 ..
    | with_reducible refine State.raise_keeps ?_ h2 ..
    | with_reducible refine State.rejectDownload_keeps ?_ h3 ..
    | with_reducible refine State.startForward_keeps ?_ h1 ..
    | with_reducible refine State.modImg_keeps ?_ h1 ..
    | with_reducible refine State.modFlash_keeps ?_ h4 ..
    | ((with_reducible refine SameBut.iteKeep ?_ ?_); rotate_left; intro h; rotate_left)
    | ((with_reducible refine SameBut.each _ _ ?_ ?_); rotate_left; intro _ _ h; rotate_left)
    | split
    | (dsimp only)

theorem execSectorWriteDone_keeps {ps : List Part} {s0 t : State} (h : SameBut ps s0 t)
    (hs : [.ev, .flash, .img, .trigPins] ⊆ ps) (ok : Bool) : ∀ out,
        execSectorWriteDone ok t = .next out → SameBut ps s0 out := by
  unfold execSectorWriteDone
  intro out e
  have e := Host.Outcome.next.inj e
  subst e
  have h1 : [.img] ⊆ ps := List.Subset.trans (by decide) hs
  have h2 : [.ev, .trigPins] ⊆ ps := List.Subset.trans (by decide) hs
  have h3 : [.ev, .img, .trigPins] ⊆ ps := List.Subset.trans (by decide) hs
  have h4 : [.flash] ⊆ ps := List.Subset.trans (by decide) hs
  repeat' first
    | with_reducible exact h
    | with_reducible assumption
    | with_reducible refine State.ackUp_keeps ?_ h1 ..
    | with_reducible refine State.quietPorts_keeps ?_ h1 ..
    | with_reducible refine State.raise_keeps ?_ h2 ..
    | with_reducible refine State.rejectDownload_keeps ?_ h3 ..
    | with_reducible refine State.modImg_keeps ?_ h1 ..
    | with_reducible refine State.modFlash_keeps ?_ h4 ..
    | ((with_reducible refine SameBut.iteKeep ?_ ?_); rotate_left; intro h; rotate_left)
    | split
    | (dsimp only)

theorem execBodyVerifyDone_keeps {ps : List Part} {s0 t : State} (h : SameBut ps s0 t)
    (hs : [.bus, .sess, .ev, .perf, .pins, .clk, .core, .avs, .mem, .fwReady, .signing, .flash, .img,
        .trigPins] ⊆ ps) (ok : Bool) : ∀ out, execBodyVerifyDone ok t = .next out → SameBut ps s0 out := by
  unfold execBodyVerifyDone
  intro out e
  have e := Host.Outcome.next.inj e
  subst e
  have h1 : [.img] ⊆ ps := List.Subset.trans (by decide) hs
  have h2 : [.ev, .trigPins] ⊆ ps := List.Subset.trans (by decide) hs
  have h3 : [.ev, .img, .trigPins] ⊆ ps := List.Subset.trans (by decide) hs
  have h4 : [.bus, .sess, .ev, .perf, .pins, .clk, .core, .avs, .mem, .fwReady, .signing, .flash, .img,
      .trigPins] ⊆ ps := List.Subset.trans (by decide) hs
  have h5 : [.flash] ⊆ ps := List.Subset.trans (by decide) hs
  repeat' first
    | with_reducible exact h
    | with_reducible assumption
    | with_reducible refine State.modPort_keeps ?_ h1 ..
    | with_reducible refine State.quietPorts_keeps ?_ h1 ..
    | with_reducible refine State.raise_keeps ?_ h2 ..
    | with_reducible refine State.rejectDownload_keeps ?_ h3 ..
    | with_reducible refine State.runImage_keeps ?_ h4 ..
    | with_reducible refine State.sendNak_keeps ?_ h1 ..
    | with_reducible refine State.stopDownload_keeps ?_ h3 ..
    | with_reducible refine State.modImg_keeps ?_ h1 ..
    | with_reducible refine State.modFlash_keeps ?_ h5 ..
    | ((with_reducible refine SameBut.iteKeep ?_ ?_); rotate_left; intro h; rotate_left)
    | ((with_reducible refine SameBut.each _ _ ?_ ?_); rotate_left; intro _ _ h; rotate_left)
    | split
    | (dsimp only)

theorem execHostSourceTimeout_keeps {ps : List Part} {s0 t : State} (h : SameBut ps s0 t)
    (hs : [.ev, .img, .trigPins] ⊆ ps)  : ∀ out, execHostSourceTimeout t = .next out → SameBut ps s0 out := by
  unfold execHostSourceTimeout
  intro out e
  have e := Host.Outcome.next.inj e
  subst e
  have h1 : [.img] ⊆ ps := List.Subset.trans (by decide) hs
  have h2 : [.ev, .img, .trigPins] ⊆ ps := List.Subset.trans (by decide) hs
  repeat' first
    | with_reducible exact h
    | with_reducible assumption
    | with_reducible refine State.quietPorts_keeps ?_ h1 ..
    | with_reducible refine State.rejectDownload_keeps ?_ h2 ..
    | ((with_reducible refine SameBut.iteKeep ?_ ?_); rotate_left; intro h; rotate_left)
    | split
    | (dsimp only)

theorem execImageAbort_keeps {ps : List Part} {s0 t : State} (h : SameBut ps s0 t)
    (hs : [.sess, .ev, .img, .trigPins] ⊆ ps) (k : Sess) : ∀ out, execImageAbort k t = .next out → SameBut ps s0 out := by
  unfold execImageAbort
  intro out e
  have e := Host.Outcome.next.inj e
  subst e
  have h1 : [.img] ⊆ ps := List.Subset.trans (by decide) hs
  have h2 : [.ev, .img, .trigPins] ⊆ ps := List.Subset.trans (by decide) hs
  have h3 : [.sess, .ev, .trigPins] ⊆ ps := List.Subset.trans (by decide) hs
  repeat' first
    | with_reducible exact h
    | with_reducible assumption
    | with_reducible refine State.quietPorts_keeps ?_ h1 ..
    | with_reducible refine State.rejectDownload_keeps ?_ h2 ..
    | with_reducible refine State.modImg_keeps ?_ h1 ..
    | ((with_reducible refine SameBut.iteKeep ?_ ?_); rotate_left; intro h; rotate_left)
    | ((with_reducible refine SameBut.guarded _ _ ?_ ?_); rotate_left; intro _ h; rotate_left)
    | ((with_reducible refine SameBut.runCmd _ _ _ h3 ?_ ?_); rotate_left; intro _ _ h; rotate_left)
    | split
    | (dsimp only)

theorem execImageSetRelay_keeps {ps : List Part} {s0 t : State} (h : SameBut ps s0 t)
    (hs : [.sess, .ev, .img, .trigPins] ⊆ ps) (k : Sess) : ∀ out, execImageSetRelay k t = .next out → SameBut ps s0 out := by
  unfold execImageSetRelay
  intro out e
  have e := Host.Outcome.next.inj e
  subst e
  have h1 : [.img] ⊆ ps := List.Subset.trans (by decide) hs
  have h2 : [.sess, .ev, .trigPins] ⊆ ps := List.Subset.trans (by decide) hs
  repeat' first
    | with_reducible exact h
    | with_reducible assumption
    | with_reducible refine State.modImg_keeps ?_ h1 ..
    | ((with_reducible refine SameBut.runCmd _ _ _ h2 ?_ ?_); rotate_left; intro _ _ h; rotate_left)
    | split
    | (dsimp only)

theorem execImageActivate_keeps {ps : List Part} {s0 t : State} (h : SameBut ps s0 t)
    (hs : [.sess, .ev, .flash, .img, .rx, .bias, .trigPins] ⊆ ps) (k : Sess) : ∀ out,
        execImageActivate k t = .next out → SameBut ps s0 out := by
  unfold execImageActivate
  intro out e
  have e := Host.Outcome.next.inj e
  subst e
  have h1 : [.ev, .rx, .bias, .trigPins] ⊆ ps := List.Subset.trans (by decide) hs
  have h2 : [.img] ⊆ ps := List.Subset.trans (by decide) hs
  have h3 : [.flash] ⊆ ps := List.Subset.trans (by decide) hs
  have h4 : [.sess, .ev, .trigPins] ⊆ ps := List.Subset.trans (by decide) hs
  repeat' first
    | with_reducible exact h
    | with_reducible assumption
    | with_reducible refine State.startRound_keeps ?_ h1 ..
    | with_reducible refine State.modImg_keeps ?_ h2 ..
    | with_reducible refine State.modFlash_keeps ?_ h3 ..
    | ((with_reducible refine SameBut.guarded _ _ ?_ ?_); rotate_left; intro _ h; rotate_left)
    | ((with_reducible refine SameBut.runCmd _ _ _ h4 ?_ ?_); rotate_left; intro _ _ h; rotate_left)
    | split
    | (dsimp only)

theorem execCoreSwapDone_keeps {ps : List Part} {s0 t : State} (h : SameBut ps s0 t)
    (hs : [.ev, .core, .mem, .flash, .img, .rx, .bias, .trigPins] ⊆ ps)  : ∀ out,
        execCoreSwapDone t = .next out → SameBut ps s0 out := by
  unfold execCoreSwapDone
  intro out e
  have e := Host.Outcome.next.inj e
  subst e
  have h1 : [.core, .mem, .rx, .bias] ⊆ ps := List.Subset.trans (by decide) hs
  have h2 : [.ev, .trigPins] ⊆ ps := List.Subset.trans (by decide) hs
  have h3 : [.ev, .rx, .bias, .trigPins] ⊆ ps := List.Subset.trans (by decide) hs
  have h4 : [.img] ⊆ ps := List.Subset.trans (by decide) hs
  have h5 : [.flash] ⊆ ps := List.Subset.trans (by decide) hs
  repeat' first
    | with_reducible exact h
    | with_reducible assumption
    | with_reducible refine State.coreSwapped_keeps ?_ h1 ..
    | with_reducible refine State.raise_keeps ?_ h2 ..
    | with_reducible refine State.startRound_keeps ?_ h3 ..
    | with_reducible refine State.modImg_keeps ?_ h4 ..
    | with_reducible refine State.modFlash_keeps ?_ h5 ..
    | ((with_reducible refine SameBut.iteKeep ?_ ?_); rotate_left; intro h; rotate_left)
    | ((with_reducible refine SameBut.each _ _ ?_ ?_); rotate_left; intro _ _ h; rotate_left)
    | split
    | (dsimp only)

theorem execImageConfirm_keeps {ps : List Part} {s0 t : State} (h : SameBut ps s0 t)
    (hs : [.sess, .ev, .otp, .flash, .img, .trigPins] ⊆ ps) (k : Sess) : ∀ out,
        execImageConfirm k t = .next out → SameBut ps s0 out := by
  unfold execImageConfirm
  intro out e
  have e := Host.Outcome.next.inj e
  subst e
  have h1 : [.ev, .trigPins] ⊆ ps := List.Subset.trans (by decide) hs
  have h2 : [.img] ⊆ ps := List.Subset.trans (by decide) hs
  have h3 : [.flash] ⊆ ps := List.Subset.trans (by decide) hs
  have h4 : [.sess, .ev, .trigPins] ⊆ ps := List.Subset.trans (by decide) hs
  repeat' first
    | with_reducible exact h
    | with_reducible assumption
    | with_reducible refine State.raise_keeps ?_ h1 ..
    | with_reducible refine State.modImg_keeps ?_ h2 ..
    | with_reducible refine State.modFlash_keeps ?_ h3 ..
    | ((with_reducible refine SameBut.iteKeep ?_ ?_); rotate_left; intro h; rotate_left)
    | ((with_reducible refine SameBut.guarded _ _ ?_ ?_); rotate_left; intro _ h; rotate_left)
    | ((with_reducible refine SameBut.runCmd _ _ _ h4 ?_ ?_); rotate_left; intro _ _ h; rotate_left)
    | ((with_reducible refine SameBut.modSec ?_ ?_); rotate_left; (intro q hq; cases q <;> first | exact rfl | exact absurd (hs (by decide)) hq))
    | split
    | (dsimp only)

theorem execHello_keeps {ps : List Part} {s0 t : State} (h : SameBut ps s0 t)
    (hs : [.img] ⊆ ps) (q : Port) (payload : Bytes) (crc : BitVec 32) : ∀ out,
        execHello q payload crc t = .next out → SameBut ps s0 out := by
  unfold execHello
  intro out e
  have e := Host.Outcome.next.inj e
  subst e
  have h1 : [.img] ⊆ ps := List.Subset.trans (by decide) hs
  repeat' first
    | with_reducible exact h
    | with_reducible assumption
    | with_reducible refine State.modPort_keeps ?_ h1 ..
    | with_reducible refine State.quietPorts_keeps ?_ h1 ..
    | with_reducible refine State.send_keeps ?_ h1 ..
    | with_reducible refine State.sendHello_keeps ?_ h1 ..
    | ((with_reducible refine SameBut.iteKeep ?_ ?_); rotate_left; intro h; rotate_left)
    | (refine SameBut.mod h ?_; (intro q hq; cases q <;> first | exact rfl | exact absurd (hs (by decide)) hq))
    | split
    | (dsimp only)

theorem execOffer_keeps {ps : List Part} {s0 t : State} (h : SameBut ps s0 t)
    (hs : [.img] ⊆ ps) (q : Port) (payload : Bytes) (crc : BitVec 32) : ∀ out,
        execOffer q payload crc t = .next out → SameBut ps s0 out := by
  unfold execOffer
  intro out e
  have e := Host.Outcome.next.inj e
  subst e
  have h1 : [.img] ⊆ ps := List.Subset.trans (by decide) hs
  repeat' first
    | with_reducible exact h
    | with_reducible assumption
    | with_reducible refine State.beginDownload_keeps ?_ h1 ..
    | with_reducible refine State.quietPorts_keeps ?_ h1 ..
    | with_reducible refine State.sendAck_keeps ?_ h1 ..
    | with_reducible refine State.sendNak_keeps ?_ h1 ..
    | with_reducible refine State.modImg_keeps ?_ h1 ..
    | ((with_reducible refine SameBut.iteKeep ?_ ?_); rotate_left; intro h; rotate_left)
    | split
    | (dsimp only)

theorem execData_keeps {ps : List Part} {s0 t : State} (h : SameBut ps s0 t)
    (hs : [.pins, .clk, .flash, .img] ⊆ ps) (q : Port) (payload : Bytes) (crc : BitVec 32) : ∀ out,
        execData q payload crc t = .next out → SameBut ps s0 out := by
  unfold execData
  intro out e
  have e := Host.Outcome.next.inj e
  subst e
  have h1 : [.img] ⊆ ps := List.Subset.trans (by decide) hs
  have h2 : [.pins, .clk, .flash, .img] ⊆ ps := List.Subset.trans (by decide) hs
  repeat' first
    | with_reducible exact h
    | with_reducible assumption
    | with_reducible refine State.pumpAll_keeps ?_ h1 ..
    | with_reducible refine State.quietPorts_keeps ?_ h1 ..
    | with_reducible refine State.sendAck_keeps ?_ h1 ..
    | with_reducible refine State.takeLoader_keeps ?_ h2 ..
    | with_reducible refine State.modImg_keeps ?_ h1 ..
    | ((with_reducible refine SameBut.iteKeep ?_ ?_); rotate_left; intro h; rotate_left)
    | split
    | (dsimp only)

theorem execAck_keeps {ps : List Part} {s0 t : State} (h : SameBut ps s0 t)
    (hs : [.ev, .img, .trigPins] ⊆ ps) (q : Port) (payload : Bytes) (crc : BitVec 32) : ∀ out,
        execAck q payload crc t = .next out → SameBut ps s0 out := by
  unfold execAck
  intro out e
  have e := Host.Outcome.next.inj e
  subst e
  have h1 : [.img] ⊆ ps := List.Subset.trans (by decide) hs
  have h2 : [.ev, .img, .trigPins] ⊆ ps := List.Subset.trans (by decide) hs
  repeat' first
    | with_reducible exact h
    | with_reducible assumption
    | with_reducible refine State.quietPorts_keeps ?_ h1 ..
    | with_reducible refine State.takeAck_keeps ?_ h2 ..
    | ((with_reducible refine SameBut.iteKeep ?_ ?_); rotate_left; intro h; rotate_left)
    | split
    | (dsimp only)

theorem execNak_keeps {ps : List Part} {s0 t : State} (h : SameBut ps s0 t)
    (hs : [.ev, .img, .trigPins] ⊆ ps) (q : Port) (payload : Bytes) (crc : BitVec 32) : ∀ out,
        execNak q payload crc t = .next out → SameBut ps s0 out := by
  unfold execNak
  intro out e
  have e := Host.Outcome.next.inj e
  subst e
  have h1 : [.img] ⊆ ps := List.Subset.trans (by decide) hs
  have h2 : [.ev, .img, .trigPins] ⊆ ps := List.Subset.trans (by decide) hs
  repeat' first
    | with_reducible exact h
    | with_reducible assumption
    | with_reducible refine State.ackUp_keeps ?_ h1 ..
    | with_reducible refine State.quietPorts_keeps ?_ h1 ..
    | with_reducible refine State.refillFailed_keeps ?_ h2 ..
    | with_reducible refine State.relayFail_keeps ?_ h2 ..
    | ((with_reducible refine SameBut.iteKeep ?_ ?_); rotate_left; intro h; rotate_left)
    | split
    | (dsimp only)

theorem execRefillReq_keeps {ps : List Part} {s0 t : State} (h : SameBut ps s0 t)
    (hs : [.img] ⊆ ps) (q : Port) (payload : Bytes) (crc : BitVec 32) : ∀ out,
        execRefillReq q payload crc t = .next out → SameBut ps s0 out := by
  unfold execRefillReq
  intro out e
  have e := Host.Outcome.next.inj e
  subst e
  have h1 : [.img] ⊆ ps := List.Subset.trans (by decide) hs
  repeat' first
    | with_reducible exact h
    | with_reducible assumption
    | with_reducible refine State.modPort_keeps ?_ h1 ..
    | with_reducible refine State.quietPorts_keeps ?_ h1 ..
    | with_reducible refine State.send_keeps ?_ h1 ..
    | with_reducible refine State.sendNak_keeps ?_ h1 ..
    | ((with_reducible refine SameBut.iteKeep ?_ ?_); rotate_left; intro h; rotate_left)
    | split
    | (dsimp only)

theorem execAbort_keeps {ps : List Part} {s0 t : State} (h : SameBut ps s0 t)
    (hs : [.ev, .img, .trigPins] ⊆ ps) (q : Port) (payload : Bytes) (crc : BitVec 32) : ∀ out,
        execAbort q payload crc t = .next out → SameBut ps s0 out := by
  unfold execAbort
  intro out e
  have e := Host.Outcome.next.inj e
  subst e
  have h1 : [.img] ⊆ ps := List.Subset.trans (by decide) hs
  have h2 : [.ev, .img, .trigPins] ⊆ ps := List.Subset.trans (by decide) hs
  repeat' first
    | with_reducible exact h
    | with_reducible assumption
    | with_reducible refine State.quietPorts_keeps ?_ h1 ..
    | with_reducible refine State.rejectDownload_keeps ?_ h2 ..
    | with_reducible refine State.modImg_keeps ?_ h1 ..
    | ((with_reducible refine SameBut.iteKeep ?_ ?_); rotate_left; intro h; rotate_left)
    | split
    | (dsimp only)

theorem execHelloRepeat_keeps {ps : List Part} {s0 t : State} (h : SameBut ps s0 t)
    (hs : [.ev, .img, .trigPins] ⊆ ps) (q : Port) : ∀ out, execHelloRepeat q t = .next out → SameBut ps s0 out := by
  unfold execHelloRepeat
  intro out e
  have e := Host.Outcome.next.inj e
  subst e
  have h1 : [.img] ⊆ ps := List.Subset.trans (by decide) hs
  have h2 : [.ev, .img, .trigPins] ⊆ ps := List.Subset.trans (by decide) hs
  repeat' first
    | with_reducible exact h
    | with_reducible assumption
    | with_reducible refine State.ackUp_keeps ?_ h1 ..
    | with_reducible refine State.modPort_keeps ?_ h1 ..
    | with_reducible refine State.quietPorts_keeps ?_ h1 ..
    | with_reducible refine State.relayFail_keeps ?_ h2 ..
    | with_reducible refine State.sendHello_keeps ?_ h1 ..
    | ((with_reducible refine SameBut.iteKeep ?_ ?_); rotate_left; intro h; rotate_left)
    | (refine SameBut.mod h ?_; (intro q hq; cases q <;> first | exact rfl | exact absurd (hs (by decide)) hq))
    | split
    | (dsimp only)

theorem execRelayResendTimeout_keeps {ps : List Part} {s0 t : State} (h : SameBut ps s0 t)
    (hs : [.img] ⊆ ps) (q : Port) : ∀ out, execRelayResendTimeout q t = .next out → SameBut ps s0 out := by
  unfold execRelayResendTimeout
  intro out e
  have e := Host.Outcome.next.inj e
  subst e
  have h1 : [.img] ⊆ ps := List.Subset.trans (by decide) hs
  repeat' first
    | with_reducible exact h
    | with_reducible assumption
    | with_reducible refine State.pump_keeps ?_ h1 ..
    | with_reducible refine State.quietPorts_keeps ?_ h1 ..
    | with_reducible refine State.send_keeps ?_ h1 ..
    | ((with_reducible refine SameBut.iteKeep ?_ ?_); rotate_left; intro h; rotate_left)
    | (refine SameBut.mod h ?_; (intro q hq; cases q <;> first | exact rfl | exact absurd (hs (by decide)) hq))
    | split
    | (dsimp only)

theorem execRelaySourceTimeout_keeps {ps : List Part} {s0 t : State} (h : SameBut ps s0 t)
    (hs : [.ev, .img, .trigPins] ⊆ ps) (q : Port) (sender : Bool) : ∀ out,
        execRelaySourceTimeout q sender t = .next out → SameBut ps s0 out := by
  unfold execRelaySourceTimeout
  intro out e
  have e := Host.Outcome.next.inj e
  subst e
  have h1 : [.img] ⊆ ps := List.Subset.trans (by decide) hs
  have h2 : [.ev, .img, .trigPins] ⊆ ps := List.Subset.trans (by decide) hs
  repeat' first
    | with_reducible exact h
    | with_reducible assumption
    | with_reducible refine State.ackUp_keeps ?_ h1 ..
    | with_reducible refine State.quietPorts_keeps ?_ h1 ..
    | with_reducible refine State.relayFail_keeps ?_ h2 ..
    | with_reducible refine State.sourceLost_keeps ?_ h2 ..
    | ((with_reducible refine SameBut.iteKeep ?_ ?_); rotate_left; intro h; rotate_left)
    | split
    | (dsimp only)

theorem execRelayPortDown_keeps {ps : List Part} {s0 t : State} (h : SameBut ps s0 t)
    (hs : [.ev, .img, .trigPins] ⊆ ps) (q : Port) : ∀ out, execRelayPortDown q t = .next out → SameBut ps s0 out := by
  unfold execRelayPortDown
  intro out e
  have e := Host.Outcome.next.inj e
  subst e
  have h1 : [.img] ⊆ ps := List.Subset.trans (by decide) hs
  have h2 : [.ev, .img, .trigPins] ⊆ ps := List.Subset.trans (by decide) hs
  repeat' first
    | with_reducible exact h
    | with_reducible assumption
    | with_reducible refine State.ackUp_keeps ?_ h1 ..
    | with_reducible refine State.modPort_keeps ?_ h1 ..
    | with_reducible refine State.quietPorts_keeps ?_ h1 ..
    | with_reducible refine State.relayFail_keeps ?_ h2 ..
    | with_reducible refine State.sourceLost_keeps ?_ h2 ..
    | ((with_reducible refine SameBut.iteKeep ?_ ?_); rotate_left; intro h; rotate_left)
    | split
    | (dsimp only)

theorem execRelayPortUp_keeps {ps : List Part} {s0 t : State} (h : SameBut ps s0 t)
    (hs : [.img] ⊆ ps) (q : Port) : ∀ out, execRelayPortUp q t = .next out → SameBut ps s0 out := by
  unfold execRelayPortUp
  intro out e
  have e := Host.Outcome.next.inj e
  subst e
  have h1 : [.img] ⊆ ps := List.Subset.trans (by decide) hs
  repeat' first
    | with_reducible exact h
    | with_reducible assumption
    | with_reducible refine State.modPort_keeps ?_ h1 ..
    | ((with_reducible refine SameBut.iteKeep ?_ ?_); rotate_left; intro h; rotate_left)
    | split
    | (dsimp only)

theorem execRefillRetry_keeps {ps : List Part} {s0 t : State} (h : SameBut ps s0 t)
    (hs : [.img] ⊆ ps)  : ∀ out, execRefillRetry t = .next out → SameBut ps s0 out := by
  unfold execRefillRetry
  intro out e
  have e := Host.Outcome.next.inj e
  subst e
  have h1 : [.img] ⊆ ps := List.Subset.trans (by decide) hs
  repeat' first
    | with_reducible exact h
    | with_reducible assumption
    | with_reducible refine State.askRefill_keeps ?_ h1 ..
    | with_reducible refine State.quietPorts_keeps ?_ h1 ..
    | with_reducible refine State.modImg_keeps ?_ h1 ..
    | ((with_reducible refine SameBut.iteKeep ?_ ?_); rotate_left; intro h; rotate_left)
    | split
    | (dsimp only)

theorem execLoaderRefillRetry_keeps {ps : List Part} {s0 t : State} (h : SameBut ps s0 t)
    (hs : [.img] ⊆ ps)  : ∀ out, execLoaderRefillRetry t = .next out → SameBut ps s0 out := by
  unfold execLoaderRefillRetry
  intro out e
  have e := Host.Outcome.next.inj e
  subst e
  have h1 : [.img] ⊆ ps := List.Subset.trans (by decide) hs
  repeat' first
    | with_reducible exact h
    | with_reducible assumption
    | with_reducible refine State.askLoader_keeps ?_ h1 ..
    | with_reducible refine State.quietPorts_keeps ?_ h1 ..
    | ((with_reducible refine SameBut.iteKeep ?_ ?_); rotate_left; intro h; rotate_left)
    | split
    | (dsimp only)

theorem execLaneSetTx_keeps {ps : List Part} {s0 t : State} (h : SameBut ps s0 t)
    (hs : [.sess, .ev, .tx, .trigPins] ⊆ ps) (k : Sess) : ∀ out, execLaneSetTx k t = .next out → SameBut ps s0 out := by
  unfold execLaneSetTx
  intro out e
  have e := Host.Outcome.next.inj e
  subst e
  have h1 : [.tx] ⊆ ps := List.Subset.trans (by decide) hs
  have h2 : [.sess, .ev, .trigPins] ⊆ ps := List.Subset.trans (by decide) hs
  repeat' first
    | with_reducible exact h
    | with_reducible assumption
    | with_reducible refine State.modTx_keeps ?_ h1 ..
    | ((with_reducible refine SameBut.iteKeep ?_ ?_); rotate_left; intro h; rotate_left)
    | ((with_reducible refine SameBut.forAllSel _ _ _ _ ?_ ?_); rotate_left; intro _ _ h; rotate_left)
    | ((with_reducible refine SameBut.runCmd _ _ _ h2 ?_ ?_); rotate_left; intro _ _ h; rotate_left)
    | (refine SameBut.mod h ?_; (intro q hq; cases q <;> first | exact rfl | exact absurd (hs (by decide)) hq))
    | split
    | (dsimp only)

end Sys2Proof.Machine
end

