-- ==== Sys2Proof/Laws/FrameExec2.lean ====
section
/-!
SUPPORT. Frames: what each command's meaning keeps.
-/
set_option maxRecDepth 10000
namespace Sys2Proof.Machine

theorem execLaneLoadTxPalette_keeps {ps : List Part} {s0 t : State} (h : SameBut ps s0 t)
    (hs : [.sess, .ev, .tx, .trigPins] ⊆ ps) (k : Sess) : ∀ out,
        execLaneLoadTxPalette k t = .next out → SameBut ps s0 out := by
  unfold execLaneLoadTxPalette
  intro out e
  have e := Host.Outcome.next.inj e
  subst e
  have h1 : [.ev, .trigPins] ⊆ ps := List.Subset.trans (by decide) hs
  have h2 : [.tx] ⊆ ps := List.Subset.trans (by decide) hs
  have h3 : [.sess, .ev, .trigPins] ⊆ ps := List.Subset.trans (by decide) hs
  repeat' first
    | with_reducible exact h
    | with_reducible assumption
    | with_reducible refine State.txPalette_keeps ?_ h1 ..
    | with_reducible refine State.modTx_keeps ?_ h2 ..
    | ((with_reducible refine SameBut.iteKeep ?_ ?_); rotate_left; intro h; rotate_left)
    | ((with_reducible refine SameBut.guarded _ _ ?_ ?_); rotate_left; intro _ h; rotate_left)
    | ((with_reducible refine SameBut.runCmd _ _ _ h3 ?_ ?_); rotate_left; intro _ _ h; rotate_left)
    | (refine SameBut.mod h ?_; (intro q hq; cases q <;> first | exact rfl | exact absurd (hs (by decide)) hq))
    | split
    | (dsimp only)

theorem execLaneGetTxDiag_keeps {ps : List Part} {s0 t : State} (h : SameBut ps s0 t)
    (hs : [.sess, .ev, .tx, .trigPins] ⊆ ps) (k : Sess) : ∀ out, execLaneGetTxDiag k t = .next out → SameBut ps s0 out := by
  unfold execLaneGetTxDiag
  intro out e
  have e := Host.Outcome.next.inj e
  subst e
  have h1 : [.tx] ⊆ ps := List.Subset.trans (by decide) hs
  have h2 : [.sess, .ev, .trigPins] ⊆ ps := List.Subset.trans (by decide) hs
  repeat' first
    | with_reducible exact h
    | with_reducible assumption
    | with_reducible refine State.modTxDiag_keeps ?_ h1 ..
    | ((with_reducible refine SameBut.iteKeep ?_ ?_); rotate_left; intro h; rotate_left)
    | ((with_reducible refine SameBut.runCmd _ _ _ h2 ?_ ?_); rotate_left; intro _ _ h; rotate_left)
    | split
    | (dsimp only)

theorem execLaneSwapTxPalette_keeps {ps : List Part} {s0 t : State} (h : SameBut ps s0 t)
    (hs : [.sess, .ev, .tx, .trigPins] ⊆ ps) (k : Sess) : ∀ out,
        execLaneSwapTxPalette k t = .next out → SameBut ps s0 out := by
  unfold execLaneSwapTxPalette
  intro out e
  have e := Host.Outcome.next.inj e
  subst e
  have h1 : [.ev, .trigPins] ⊆ ps := List.Subset.trans (by decide) hs
  have h2 : [.ev, .tx, .trigPins] ⊆ ps := List.Subset.trans (by decide) hs
  have h3 : [.sess, .ev, .trigPins] ⊆ ps := List.Subset.trans (by decide) hs
  repeat' first
    | with_reducible exact h
    | with_reducible assumption
    | with_reducible refine State.txPalette_keeps ?_ h1 ..
    | with_reducible refine State.txSwap_keeps ?_ h2 ..
    | ((with_reducible refine SameBut.iteKeep ?_ ?_); rotate_left; intro h; rotate_left)
    | ((with_reducible refine SameBut.runCmd _ _ _ h3 ?_ ?_); rotate_left; intro _ _ h; rotate_left)
    | split
    | (dsimp only)

theorem execLaneSetPredistort_keeps {ps : List Part} {s0 t : State} (h : SameBut ps s0 t)
    (hs : [.sess, .ev, .tx, .trigPins] ⊆ ps) (k : Sess) : ∀ out,
        execLaneSetPredistort k t = .next out → SameBut ps s0 out := by
  unfold execLaneSetPredistort
  intro out e
  have e := Host.Outcome.next.inj e
  subst e
  have h1 : [.ev, .trigPins] ⊆ ps := List.Subset.trans (by decide) hs
  have h2 : [.tx] ⊆ ps := List.Subset.trans (by decide) hs
  have h3 : [.sess, .ev, .trigPins] ⊆ ps := List.Subset.trans (by decide) hs
  repeat' first
    | with_reducible exact h
    | with_reducible assumption
    | with_reducible refine State.raiseP_keeps ?_ h1 ..
    | with_reducible refine State.modTx_keeps ?_ h2 ..
    | ((with_reducible refine SameBut.iteKeep ?_ ?_); rotate_left; intro h; rotate_left)
    | ((with_reducible refine SameBut.guarded _ _ ?_ ?_); rotate_left; intro _ h; rotate_left)
    | ((with_reducible refine SameBut.runCmd _ _ _ h3 ?_ ?_); rotate_left; intro _ _ h; rotate_left)
    | (refine SameBut.mod h ?_; (intro q hq; cases q <;> first | exact rfl | exact absurd (hs (by decide)) hq))
    | split
    | (dsimp only)

theorem execLaneSetTxBurst_keeps {ps : List Part} {s0 t : State} (h : SameBut ps s0 t)
    (hs : [.sess, .ev, .work, .trigPins] ⊆ ps) (k : Sess) : ∀ out,
        execLaneSetTxBurst k t = .next out → SameBut ps s0 out := by
  unfold execLaneSetTxBurst
  intro out e
  have e := Host.Outcome.next.inj e
  subst e
  have h1 : [.work] ⊆ ps := List.Subset.trans (by decide) hs
  have h2 : [.sess, .ev, .trigPins] ⊆ ps := List.Subset.trans (by decide) hs
  repeat' first
    | with_reducible exact h
    | with_reducible assumption
    | with_reducible refine State.modTxw_keeps ?_ h1 ..
    | ((with_reducible refine SameBut.iteKeep ?_ ?_); rotate_left; intro h; rotate_left)
    | ((with_reducible refine SameBut.forAllSel _ _ _ _ ?_ ?_); rotate_left; intro _ _ h; rotate_left)
    | ((with_reducible refine SameBut.runCmd _ _ _ h2 ?_ ?_); rotate_left; intro _ _ h; rotate_left)
    | (refine SameBut.mod h ?_; (intro q hq; cases q <;> first | exact rfl | exact absurd (hs (by decide)) hq))
    | split
    | (dsimp only)

theorem execTxSettingApply_keeps {ps : List Part} {s0 t : State} (h : SameBut ps s0 t)
    (hs : [.tx] ⊆ ps) (p : Phys) : ∀ out, execTxSettingApply p t = .next out → SameBut ps s0 out := by
  unfold execTxSettingApply
  intro out e
  have e := Host.Outcome.next.inj e
  subst e
  have h1 : [.tx] ⊆ ps := List.Subset.trans (by decide) hs
  repeat' first
    | with_reducible exact h
    | with_reducible assumption
    | with_reducible refine State.modTx_keeps ?_ h1 ..
    | ((with_reducible refine SameBut.iteKeep ?_ ?_); rotate_left; intro h; rotate_left)
    | (refine SameBut.mod h ?_; (intro q hq; cases q <;> first | exact rfl | exact absurd (hs (by decide)) hq))
    | split
    | (dsimp only)

theorem execPredistortApply_keeps {ps : List Part} {s0 t : State} (h : SameBut ps s0 t)
    (hs : [.ev, .tx, .trigPins] ⊆ ps) (p : Phys) (sym : Sym) : ∀ out,
        execPredistortApply p sym t = .next out → SameBut ps s0 out := by
  unfold execPredistortApply
  intro out e
  have e := Host.Outcome.next.inj e
  subst e
  have h1 : [.ev, .tx, .trigPins] ⊆ ps := List.Subset.trans (by decide) hs
  repeat' first
    | with_reducible exact h
    | with_reducible assumption
    | with_reducible refine State.applyPd_keeps ?_ h1 ..
    | ((with_reducible refine SameBut.iteKeep ?_ ?_); rotate_left; intro h; rotate_left)
    | split
    | (dsimp only)

theorem execTxFadeStart_keeps {ps : List Part} {s0 t : State} (h : SameBut ps s0 t)
    (hs : [.ev, .tx, .trigPins] ⊆ ps) (p : Phys) : ∀ out, execTxFadeStart p t = .next out → SameBut ps s0 out := by
  unfold execTxFadeStart
  intro out e
  have e := Host.Outcome.next.inj e
  subst e
  have h1 : [.ev, .trigPins] ⊆ ps := List.Subset.trans (by decide) hs
  have h2 : [.tx] ⊆ ps := List.Subset.trans (by decide) hs
  repeat' first
    | with_reducible exact h
    | with_reducible assumption
    | with_reducible refine State.txPalette_keeps ?_ h1 ..
    | with_reducible refine State.modTx_keeps ?_ h2 ..
    | ((with_reducible refine SameBut.iteKeep ?_ ?_); rotate_left; intro h; rotate_left)
    | (refine SameBut.mod h ?_; (intro q hq; cases q <;> first | exact rfl | exact absurd (hs (by decide)) hq))
    | split
    | (dsimp only)

theorem execTxFadeMidpoint_keeps {ps : List Part} {s0 t : State} (h : SameBut ps s0 t)
    (hs : [.tx] ⊆ ps) (p : Phys) : ∀ out, execTxFadeMidpoint p t = .next out → SameBut ps s0 out := by
  unfold execTxFadeMidpoint
  intro out e
  have e := Host.Outcome.next.inj e
  subst e
  have h1 : [.tx] ⊆ ps := List.Subset.trans (by decide) hs
  repeat' first
    | with_reducible exact h
    | with_reducible assumption
    | with_reducible refine State.modTx_keeps ?_ h1 ..
    | ((with_reducible refine SameBut.iteKeep ?_ ?_); rotate_left; intro h; rotate_left)
    | (refine SameBut.mod h ?_; (intro q hq; cases q <;> first | exact rfl | exact absurd (hs (by decide)) hq))
    | split
    | (dsimp only)

theorem execTxFadeEnd_keeps {ps : List Part} {s0 t : State} (h : SameBut ps s0 t)
    (hs : [.ev, .tx, .trigPins] ⊆ ps) (p : Phys) : ∀ out, execTxFadeEnd p t = .next out → SameBut ps s0 out := by
  unfold execTxFadeEnd
  intro out e
  have e := Host.Outcome.next.inj e
  subst e
  have h1 : [.ev, .tx, .trigPins] ⊆ ps := List.Subset.trans (by decide) hs
  repeat' first
    | with_reducible exact h
    | with_reducible assumption
    | with_reducible refine State.txFadeEnd_keeps ?_ h1 ..
    | ((with_reducible refine SameBut.iteKeep ?_ ?_); rotate_left; intro h; rotate_left)
    | split
    | (dsimp only)

theorem execTxDriverFault_keeps {ps : List Part} {s0 t : State} (h : SameBut ps s0 t)
    (hs : [.sess, .ev, .core, .power, .mem, .lane, .rx, .acq, .dec, .tx, .work, .gallery, .group, .bias, .mon, .trigPins,
        .cal, .free] ⊆ ps) (p : Phys) (kind : Nat) (present : Bool) : ∀ out,
        execTxDriverFault p kind present t = .next out → SameBut ps s0 out := by
  unfold execTxDriverFault
  intro out e
  have e := Host.Outcome.next.inj e
  subst e
  have h1 : [.tx, .work] ⊆ ps := List.Subset.trans (by decide) hs
  have h2 : [.ev, .mem, .tx, .work, .group, .trigPins] ⊆ ps := List.Subset.trans (by decide) hs
  have h3 : [.ev, .trigPins] ⊆ ps := List.Subset.trans (by decide) hs
  have h4 : [.sess, .ev, .core, .power, .mem, .lane, .rx, .acq, .dec, .tx, .work, .gallery, .group, .bias, .trigPins,
      .cal, .free] ⊆ ps := List.Subset.trans (by decide) hs
  have h5 : [.ev, .mon, .trigPins] ⊆ ps := List.Subset.trans (by decide) hs
  have h6 : [.tx] ⊆ ps := List.Subset.trans (by decide) hs
  repeat' first
    | with_reducible exact h
    | with_reducible assumption
    | with_reducible refine State.cutBurst_keeps ?_ h1 ..
    | with_reducible refine State.cutRun_keeps ?_ h2 ..
    | with_reducible refine State.raiseP_keeps ?_ h3 ..
    | with_reducible refine State.settleBurstEnd_keeps ?_ h4 ..
    | with_reducible refine State.urgent_keeps ?_ h5 ..
    | with_reducible refine State.modTx_keeps ?_ h6 ..
    | ((with_reducible refine SameBut.iteKeep ?_ ?_); rotate_left; intro h; rotate_left)
    | (refine SameBut.mod h ?_; (intro q hq; cases q <;> first | exact rfl | exact absurd (hs (by decide)) hq))
    | split
    | (dsimp only)

theorem execTxFaultDeclaration_keeps {ps : List Part} {s0 t : State} (h : SameBut ps s0 t)
    (hs : [.sess, .ev, .core, .power, .mem, .lane, .rx, .acq, .dec, .tx, .work, .gallery, .group, .bias, .trigPins,
        .cal] ⊆ ps) (p : Phys) : ∀ out, execTxFaultDeclaration p t = .next out → SameBut ps s0 out := by
  unfold execTxFaultDeclaration
  intro out e
  have e := Host.Outcome.next.inj e
  subst e
  have h1 : [.sess, .ev, .core, .power, .mem, .lane, .rx, .acq, .dec, .tx, .work, .gallery, .group, .bias, .trigPins,
      .cal] ⊆ ps := List.Subset.trans (by decide) hs
  have h2 : [.tx] ⊆ ps := List.Subset.trans (by decide) hs
  repeat' first
    | with_reducible exact h
    | with_reducible assumption
    | with_reducible refine State.declareFail_keeps ?_ h1 ..
    | with_reducible refine State.modTx_keeps ?_ h2 ..
    | ((with_reducible refine SameBut.iteKeep ?_ ?_); rotate_left; intro h; rotate_left)
    | (refine SameBut.mod h ?_; (intro q hq; cases q <;> first | exact rfl | exact absurd (hs (by decide)) hq))
    | split
    | (dsimp only)

theorem execTransparentStart_keeps {ps : List Part} {s0 t : State} (h : SameBut ps s0 t)
    (hs : [.tx] ⊆ ps) (p : Phys) : ∀ out, execTransparentStart p t = .next out → SameBut ps s0 out := by
  unfold execTransparentStart
  intro out e
  have e := Host.Outcome.next.inj e
  subst e
  have h1 : [.tx] ⊆ ps := List.Subset.trans (by decide) hs
  repeat' first
    | with_reducible exact h
    | with_reducible assumption
    | with_reducible refine State.modTx_keeps ?_ h1 ..
    | ((with_reducible refine SameBut.iteKeep ?_ ?_); rotate_left; intro h; rotate_left)
    | (refine SameBut.mod h ?_; (intro q hq; cases q <;> first | exact rfl | exact absurd (hs (by decide)) hq))
    | split
    | (dsimp only)

theorem execTransparentUnderrun_keeps {ps : List Part} {s0 t : State} (h : SameBut ps s0 t)
    (hs : [.ev, .tx, .trigPins] ⊆ ps) (p : Phys) : ∀ out, execTransparentUnderrun p t = .next out → SameBut ps s0 out := by
  unfold execTransparentUnderrun
  intro out e
  have e := Host.Outcome.next.inj e
  subst e
  have h1 : [.ev, .trigPins] ⊆ ps := List.Subset.trans (by decide) hs
  have h2 : [.tx] ⊆ ps := List.Subset.trans (by decide) hs
  repeat' first
    | with_reducible exact h
    | with_reducible assumption
    | with_reducible refine State.raiseP_keeps ?_ h1 ..
    | with_reducible refine State.modTx_keeps ?_ h2 ..
    | ((with_reducible refine SameBut.iteKeep ?_ ?_); rotate_left; intro h; rotate_left)
    | (refine SameBut.mod h ?_; (intro q hq; cases q <;> first | exact rfl | exact absurd (hs (by decide)) hq))
    | split
    | (dsimp only)

theorem execSuperframeBoundary_keeps {ps : List Part} {s0 t : State} (h : SameBut ps s0 t)
    (hs : [.ev, .mem, .tx, .work, .group, .trigPins, .therm] ⊆ ps) (p : Phys) (bad : Option (Nat × Nat × BitVec 42)) :
        ∀ out, execSuperframeBoundary p bad t = .next out → SameBut ps s0 out := by
  unfold execSuperframeBoundary
  intro out e
  have e := Host.Outcome.next.inj e
  subst e
  have h1 : [.therm] ⊆ ps := List.Subset.trans (by decide) hs
  have h2 : [.tx] ⊆ ps := List.Subset.trans (by decide) hs
  have h3 : [.ev, .mem, .tx, .work, .group, .trigPins] ⊆ ps := List.Subset.trans (by decide) hs
  repeat' first
    | with_reducible exact h
    | with_reducible assumption
    | with_reducible refine State.dacTrim_keeps ?_ h1 ..
    | with_reducible refine State.endLine_keeps ?_ h2 ..
    | with_reducible refine State.endRun_keeps ?_ h3 ..
    | with_reducible refine State.putLine_keeps ?_ h2 ..
    | with_reducible refine State.modTx_keeps ?_ h2 ..
    | ((with_reducible refine SameBut.iteKeep ?_ ?_); rotate_left; intro h; rotate_left)
    | (refine SameBut.mod h ?_; (intro q hq; cases q <;> first | exact rfl | exact absurd (hs (by decide)) hq))
    | split
    | (dsimp only)

theorem execBurstFreeze_keeps {ps : List Part} {s0 t : State} (h : SameBut ps s0 t)
    (hs : [.ev, .mem, .tx, .work, .group, .trigPins] ⊆ ps) (p : Phys) (slot : Nat) (entry : BitVec 42) (bad :
        Option (Nat × Nat × BitVec 42)) : ∀ out, execBurstFreeze p slot entry bad t = .next out → SameBut ps s0 out := by
  unfold execBurstFreeze
  intro out e
  have e := Host.Outcome.next.inj e
  subst e
  have h1 : [.ev, .mem, .tx, .work, .group, .trigPins] ⊆ ps := List.Subset.trans (by decide) hs
  have h2 : [.ev, .tx, .trigPins] ⊆ ps := List.Subset.trans (by decide) hs
  have h3 : [.ev, .mem, .trigPins] ⊆ ps := List.Subset.trans (by decide) hs
  have h4 : [.tx] ⊆ ps := List.Subset.trans (by decide) hs
  have h5 : [.work] ⊆ ps := List.Subset.trans (by decide) hs
  repeat' first
    | with_reducible exact h
    | with_reducible assumption
    | with_reducible refine State.freeze_keeps ?_ h1 ..
    | with_reducible refine State.skipSlot_keeps ?_ h2 ..
    | with_reducible refine State.unitRead_keeps ?_ h3 ..
    | with_reducible refine State.modTx_keeps ?_ h4 ..
    | with_reducible refine State.modTxw_keeps ?_ h5 ..
    | ((with_reducible refine SameBut.iteKeep ?_ ?_); rotate_left; intro h; rotate_left)
    | (refine SameBut.mod h ?_; (intro q hq; cases q <;> first | exact rfl | exact absurd (hs (by decide)) hq))
    | split
    | (dsimp only)

theorem execBurstSendStart_keeps {ps : List Part} {s0 t : State} (h : SameBut ps s0 t)
    (hs : [.ev, .tx, .work, .trigPins] ⊆ ps) (p : Phys) : ∀ out, execBurstSendStart p t = .next out → SameBut ps s0 out := by
  unfold execBurstSendStart
  intro out e
  have e := Host.Outcome.next.inj e
  subst e
  have h1 : [.ev, .tx, .trigPins] ⊆ ps := List.Subset.trans (by decide) hs
  have h2 : [.work] ⊆ ps := List.Subset.trans (by decide) hs
  have h3 : [.tx] ⊆ ps := List.Subset.trans (by decide) hs
  repeat' first
    | with_reducible exact h
    | with_reducible assumption
    | with_reducible refine State.applyPd_keeps ?_ h1 ..
    | with_reducible refine State.sentFrames_keeps ?_ h2 ..
    | with_reducible refine State.modTx_keeps ?_ h3 ..
    | with_reducible refine State.modTxw_keeps ?_ h2 ..
    | ((with_reducible refine SameBut.iteKeep ?_ ?_); rotate_left; intro h; rotate_left)
    | (refine SameBut.mod h ?_; (intro q hq; cases q <;> first | exact rfl | exact absurd (hs (by decide)) hq))
    | split
    | (dsimp only)

theorem execBurstSendEnd_keeps {ps : List Part} {s0 t : State} (h : SameBut ps s0 t)
    (hs : [.sess, .ev, .perf, .clk, .core, .power, .mem, .lane, .rx, .acq, .dec, .tx, .work, .gallery, .group, .bias,
        .trigPins, .therm, .cal, .free] ⊆ ps) (p : Phys) : ∀ out, execBurstSendEnd p t = .next out → SameBut ps s0 out := by
  unfold execBurstSendEnd
  intro out e
  have e := Host.Outcome.next.inj e
  subst e
  have h1 : [.therm] ⊆ ps := List.Subset.trans (by decide) hs
  have h2 : [.tx] ⊆ ps := List.Subset.trans (by decide) hs
  have h3 : [.sess, .ev, .core, .power, .mem, .lane, .rx, .acq, .dec, .tx, .work, .gallery, .group, .bias, .trigPins,
      .cal, .free] ⊆ ps := List.Subset.trans (by decide) hs
  have h4 : [.sess, .ev, .perf, .clk, .core, .power, .mem, .lane, .rx, .acq, .dec, .tx, .work, .gallery, .group, .bias,
      .trigPins, .cal, .free] ⊆ ps := List.Subset.trans (by decide) hs
  repeat' first
    | with_reducible exact h
    | with_reducible assumption
    | with_reducible refine State.dacTrim_keeps ?_ h1 ..
    | with_reducible refine State.endBurstLine_keeps ?_ h2 ..
    | with_reducible refine State.settleBurstEnd_keeps ?_ h3 ..
    | with_reducible refine State.settleReset_keeps ?_ h4 ..
    | with_reducible refine State.modTx_keeps ?_ h2 ..
    | with_reducible refine State.modTxDiag_keeps ?_ h2 ..
    | ((with_reducible refine SameBut.iteKeep ?_ ?_); rotate_left; intro h; rotate_left)
    | (refine SameBut.mod h ?_; (intro q hq; cases q <;> first | exact rfl | exact absurd (hs (by decide)) hq))
    | split
    | (dsimp only)

theorem execFabsyncEdge_keeps {ps : List Part} {s0 t : State} (h : SameBut ps s0 t)
    (hs : [.sess, .ev, .core, .power, .mem, .lane, .rx, .acq, .dec, .tx, .work, .gallery, .epoch, .group, .bias,
        .trigPins, .cal, .free] ⊆ ps) (offset : Int) : ∀ out, execFabsyncEdge offset t = .next out → SameBut ps s0 out := by
  unfold execFabsyncEdge
  intro out e
  have e := Host.Outcome.next.inj e
  subst e
  have h1 : [.sess, .ev, .core, .power, .mem, .lane, .rx, .acq, .dec, .tx, .work, .gallery, .group, .bias, .trigPins,
      .cal, .free] ⊆ ps := List.Subset.trans (by decide) hs
  have h2 : [.ev, .trigPins] ⊆ ps := List.Subset.trans (by decide) hs
  have h3 : [.epoch] ⊆ ps := List.Subset.trans (by decide) hs
  repeat' first
    | with_reducible exact h
    | with_reducible assumption
    | with_reducible refine State.endSlots_keeps ?_ h1 ..
    | with_reducible refine State.raise_keeps ?_ h2 ..
    | with_reducible refine State.swapLane_keeps ?_ h1 ..
    | with_reducible refine State.modEpoch_keeps ?_ h3 ..
    | ((with_reducible refine SameBut.iteKeep ?_ ?_); rotate_left; intro h; rotate_left)
    | ((with_reducible refine SameBut.each _ _ ?_ ?_); rotate_left; intro _ _ h; rotate_left)
    | split
    | (dsimp only)

theorem execFabsyncMissDecision_keeps {ps : List Part} {s0 t : State} (h : SameBut ps s0 t)
    (hs : [.sess, .ev, .core, .power, .mem, .lane, .rx, .acq, .dec, .tx, .work, .gallery, .epoch, .group, .bias,
        .trigPins, .cal, .free] ⊆ ps)  : ∀ out, execFabsyncMissDecision t = .next out → SameBut ps s0 out := by
  unfold execFabsyncMissDecision
  intro out e
  have e := Host.Outcome.next.inj e
  subst e
  have h1 : [.sess, .ev, .core, .power, .mem, .lane, .rx, .acq, .dec, .tx, .work, .gallery, .group, .bias, .trigPins,
      .cal, .free] ⊆ ps := List.Subset.trans (by decide) hs
  have h2 : [.ev, .tx, .trigPins] ⊆ ps := List.Subset.trans (by decide) hs
  have h3 : [.ev, .trigPins] ⊆ ps := List.Subset.trans (by decide) hs
  have h4 : [.epoch] ⊆ ps := List.Subset.trans (by decide) hs
  repeat' first
    | with_reducible exact h
    | with_reducible assumption
    | with_reducible refine State.endSlots_keeps ?_ h1 ..
    | with_reducible refine State.lateSlots_keeps ?_ h2 ..
    | with_reducible refine State.raise_keeps ?_ h3 ..
    | with_reducible refine State.modEpoch_keeps ?_ h4 ..
    | ((with_reducible refine SameBut.iteKeep ?_ ?_); rotate_left; intro h; rotate_left)
    | ((with_reducible refine SameBut.each _ _ ?_ ?_); rotate_left; intro _ _ h; rotate_left)
    | split
    | (dsimp only)

theorem execArmDeadline_keeps {ps : List Part} {s0 t : State} (h : SameBut ps s0 t)
    (hs : [.lane, .work] ⊆ ps) (w : Work) (change : Bool) : ∀ out,
        execArmDeadline w change t = .next out → SameBut ps s0 out := by
  unfold execArmDeadline
  intro out e
  have e := Host.Outcome.next.inj e
  subst e
  have h1 : [.lane] ⊆ ps := List.Subset.trans (by decide) hs
  have h2 : [.work] ⊆ ps := List.Subset.trans (by decide) hs
  repeat' first
    | with_reducible exact h
    | with_reducible assumption
    | with_reducible refine State.modLane_keeps ?_ h1 ..
    | with_reducible refine State.modTxw_keeps ?_ h2 ..
    | ((with_reducible refine SameBut.iteKeep ?_ ?_); rotate_left; intro h; rotate_left)
    | (refine SameBut.mod h ?_; (intro q hq; cases q <;> first | exact rfl | exact absurd (hs (by decide)) hq))
    | split
    | (dsimp only)

theorem execSchedSetEpoch_keeps {ps : List Part} {s0 t : State} (h : SameBut ps s0 t)
    (hs : [.sess, .ev, .epoch, .trigPins] ⊆ ps) (k : Sess) : ∀ out,
        execSchedSetEpoch k t = .next out → SameBut ps s0 out := by
  unfold execSchedSetEpoch
  intro out e
  have e := Host.Outcome.next.inj e
  subst e
  have h1 : [.epoch] ⊆ ps := List.Subset.trans (by decide) hs
  have h2 : [.sess, .ev, .trigPins] ⊆ ps := List.Subset.trans (by decide) hs
  repeat' first
    | with_reducible exact h
    | with_reducible assumption
    | with_reducible refine State.modEpoch_keeps ?_ h1 ..
    | ((with_reducible refine SameBut.runCmd _ _ _ h2 ?_ ?_); rotate_left; intro _ _ h; rotate_left)
    | split
    | (dsimp only)

theorem execSchedLoad_keeps {ps : List Part} {s0 t : State} (h : SameBut ps s0 t)
    (hs : [.sess, .ev, .mem, .work, .trigPins] ⊆ ps) (k : Sess) : ∀ out,
        execSchedLoad k t = .next out → SameBut ps s0 out := by
  unfold execSchedLoad
  intro out e
  have e := Host.Outcome.next.inj e
  subst e
  have h1 : [.mem] ⊆ ps := List.Subset.trans (by decide) hs
  have h2 : [.work] ⊆ ps := List.Subset.trans (by decide) hs
  have h3 : [.sess, .ev, .trigPins] ⊆ ps := List.Subset.trans (by decide) hs
  repeat' first
    | with_reducible exact h
    | with_reducible assumption
    | with_reducible refine State.unitWrite_keeps ?_ h1 ..
    | with_reducible refine State.modTxw_keeps ?_ h2 ..
    | ((with_reducible refine SameBut.iteKeep ?_ ?_); rotate_left; intro h; rotate_left)
    | ((with_reducible refine SameBut.foldlSnd _ _ _ ?_ ?_); rotate_left; intro _ _ h; rotate_left)
    | ((with_reducible refine SameBut.foldl _ _ ?_ ?_); rotate_left; intro _ _ h; rotate_left)
    | ((with_reducible refine SameBut.each _ _ ?_ ?_); rotate_left; intro _ _ h; rotate_left)
    | ((with_reducible refine SameBut.guarded _ _ ?_ ?_); rotate_left; intro _ h; rotate_left)
    | ((with_reducible refine SameBut.runCmd _ _ _ h3 ?_ ?_); rotate_left; intro _ _ h; rotate_left)
    | (refine SameBut.mod h ?_; (intro q hq; cases q <;> first | exact rfl | exact absurd (hs (by decide)) hq))
    | split
    | (dsimp only)

theorem execSchedArm_keeps {ps : List Part} {s0 t : State} (h : SameBut ps s0 t)
    (hs : [.sess, .ev, .lane, .work, .trigPins] ⊆ ps) (k : Sess) : ∀ out,
        execSchedArm k t = .next out → SameBut ps s0 out := by
  unfold execSchedArm
  intro out e
  have e := Host.Outcome.next.inj e
  subst e
  have h1 : [.lane] ⊆ ps := List.Subset.trans (by decide) hs
  have h2 : [.work] ⊆ ps := List.Subset.trans (by decide) hs
  have h3 : [.sess, .ev, .trigPins] ⊆ ps := List.Subset.trans (by decide) hs
  repeat' first
    | with_reducible exact h
    | with_reducible assumption
    | with_reducible refine State.startDozeExit_keeps ?_ h1 ..
    | with_reducible refine State.modTxw_keeps ?_ h2 ..
    | ((with_reducible refine SameBut.iteKeep ?_ ?_); rotate_left; intro h; rotate_left)
    | ((with_reducible refine SameBut.guarded _ _ ?_ ?_); rotate_left; intro _ h; rotate_left)
    | ((with_reducible refine SameBut.runCmd _ _ _ h3 ?_ ?_); rotate_left; intro _ _ h; rotate_left)
    | (refine SameBut.mod h ?_; (intro q hq; cases q <;> first | exact rfl | exact absurd (hs (by decide)) hq))
    | split
    | (dsimp only)

theorem execSchedDisarm_keeps {ps : List Part} {s0 t : State} (h : SameBut ps s0 t)
    (hs : [.sess, .ev, .work, .trigPins] ⊆ ps) (k : Sess) : ∀ out, execSchedDisarm k t = .next out → SameBut ps s0 out := by
  unfold execSchedDisarm
  intro out e
  have e := Host.Outcome.next.inj e
  subst e
  have h1 : [.work] ⊆ ps := List.Subset.trans (by decide) hs
  have h2 : [.sess, .ev, .trigPins] ⊆ ps := List.Subset.trans (by decide) hs
  repeat' first
    | with_reducible exact h
    | with_reducible assumption
    | with_reducible refine State.modTxw_keeps ?_ h1 ..
    | ((with_reducible refine SameBut.guarded _ _ ?_ ?_); rotate_left; intro _ h; rotate_left)
    | ((with_reducible refine SameBut.runCmd _ _ _ h2 ?_ ?_); rotate_left; intro _ _ h; rotate_left)
    | (refine SameBut.mod h ?_; (intro q hq; cases q <;> first | exact rfl | exact absurd (hs (by decide)) hq))
    | split
    | (dsimp only)

theorem execSchedGetStatus_keeps {ps : List Part} {s0 t : State} (h : SameBut ps s0 t)
    (hs : [.sess, .ev, .trigPins] ⊆ ps) (k : Sess) : ∀ out, execSchedGetStatus k t = .next out → SameBut ps s0 out := by
  unfold execSchedGetStatus
  intro out e
  have e := Host.Outcome.next.inj e
  subst e
  have h1 : [.sess, .ev, .trigPins] ⊆ ps := List.Subset.trans (by decide) hs
  repeat' first
    | with_reducible exact h
    | with_reducible assumption
    | ((with_reducible refine SameBut.runCmd _ _ _ h1 ?_ ?_); rotate_left; intro _ _ h; rotate_left)
    | split
    | (dsimp only)

theorem execSchedRead_keeps {ps : List Part} {s0 t : State} (h : SameBut ps s0 t)
    (hs : [.sess, .ev, .trigPins] ⊆ ps) (k : Sess) : ∀ out, execSchedRead k t = .next out → SameBut ps s0 out := by
  unfold execSchedRead
  intro out e
  have e := Host.Outcome.next.inj e
  subst e
  have h1 : [.sess, .ev, .trigPins] ⊆ ps := List.Subset.trans (by decide) hs
  repeat' first
    | with_reducible exact h
    | with_reducible assumption
    | ((with_reducible refine SameBut.iteKeep ?_ ?_); rotate_left; intro h; rotate_left)
    | ((with_reducible refine SameBut.guarded _ _ ?_ ?_); rotate_left; intro _ h; rotate_left)
    | ((with_reducible refine SameBut.runCmd _ _ _ h1 ?_ ?_); rotate_left; intro _ _ h; rotate_left)
    | split
    | (dsimp only)

theorem execOpenBurstChoice_keeps {ps : List Part} {s0 t : State} (h : SameBut ps s0 t)
    (hs : [.ev, .mem, .tx, .work, .group, .trigPins] ⊆ ps) (p : Phys) (bad : Option (Nat × Nat × BitVec 42)) : ∀ out,
        execOpenBurstChoice p bad t = .next out → SameBut ps s0 out := by
  unfold execOpenBurstChoice
  intro out e
  have e := Host.Outcome.next.inj e
  subst e
  have h1 : [.ev, .mem, .tx, .work, .group, .trigPins] ⊆ ps := List.Subset.trans (by decide) hs
  have h2 : [.tx] ⊆ ps := List.Subset.trans (by decide) hs
  have h3 : [.work] ⊆ ps := List.Subset.trans (by decide) hs
  repeat' first
    | with_reducible exact h
    | with_reducible assumption
    | with_reducible refine State.freeze_keeps ?_ h1 ..
    | with_reducible refine State.modTx_keeps ?_ h2 ..
    | with_reducible refine State.modTxw_keeps ?_ h3 ..
    | ((with_reducible refine SameBut.iteKeep ?_ ?_); rotate_left; intro h; rotate_left)
    | (refine SameBut.mod h ?_; (intro q hq; cases q <;> first | exact rfl | exact absurd (hs (by decide)) hq))
    | split
    | (dsimp only)

theorem execOpenHoldExpiry_keeps {ps : List Part} {s0 t : State} (h : SameBut ps s0 t)
    (hs : [.work] ⊆ ps) (w : Work) (dest : Nat) : ∀ out, execOpenHoldExpiry w dest t = .next out → SameBut ps s0 out := by
  unfold execOpenHoldExpiry
  intro out e
  have e := Host.Outcome.next.inj e
  subst e
  have h1 : [.work] ⊆ ps := List.Subset.trans (by decide) hs
  repeat' first
    | with_reducible exact h
    | with_reducible assumption
    | with_reducible refine State.modTxw_keeps ?_ h1 ..
    | ((with_reducible refine SameBut.iteKeep ?_ ?_); rotate_left; intro h; rotate_left)
    | (refine SameBut.mod h ?_; (intro q hq; cases q <;> first | exact rfl | exact absurd (hs (by decide)) hq))
    | split
    | (dsimp only)

theorem execBackoffExpiry_keeps {ps : List Part} {s0 t : State} (h : SameBut ps s0 t)
    (hs : [.work] ⊆ ps) (w : Work) (dest : Nat) : ∀ out, execBackoffExpiry w dest t = .next out → SameBut ps s0 out := by
  unfold execBackoffExpiry
  intro out e
  have e := Host.Outcome.next.inj e
  subst e
  have h1 : [.work] ⊆ ps := List.Subset.trans (by decide) hs
  repeat' first
    | with_reducible exact h
    | with_reducible assumption
    | with_reducible refine State.modTxw_keeps ?_ h1 ..
    | (refine SameBut.mod h ?_; (intro q hq; cases q <;> first | exact rfl | exact absurd (hs (by decide)) hq))
    | split
    | (dsimp only)

theorem execSessionGetChallenge_keeps {ps : List Part} {s0 t : State} (h : SameBut ps s0 t)
    (hs : [.sess, .ev, .trigPins, .free] ⊆ ps) (k : Sess) : ∀ out,
        execSessionGetChallenge k t = .next out → SameBut ps s0 out := by
  unfold execSessionGetChallenge
  intro out e
  have e := Host.Outcome.next.inj e
  subst e
  have h1 : [.sess] ⊆ ps := List.Subset.trans (by decide) hs
  have h2 : [.free] ⊆ ps := List.Subset.trans (by decide) hs
  have h3 : [.sess, .ev, .trigPins] ⊆ ps := List.Subset.trans (by decide) hs
  repeat' first
    | with_reducible exact h
    | with_reducible assumption
    | with_reducible refine State.modSess_keeps ?_ h1 ..
    | with_reducible refine SameBut.drawKeeps ?_ h2
    | ((with_reducible refine SameBut.runCmd _ _ _ h3 ?_ ?_); rotate_left; intro _ _ h; rotate_left)
    | split
    | (dsimp only)

theorem execSessionAuth_keeps {ps : List Part} {s0 t : State} (h : SameBut ps s0 t)
    (hs : [.sess, .ev, .trigPins] ⊆ ps) (k : Sess) : ∀ out, execSessionAuth k t = .next out → SameBut ps s0 out := by
  unfold execSessionAuth
  intro out e
  have e := Host.Outcome.next.inj e
  subst e
  have h1 : [.ev, .trigPins] ⊆ ps := List.Subset.trans (by decide) hs
  have h2 : [.sess] ⊆ ps := List.Subset.trans (by decide) hs
  have h3 : [.sess, .ev, .trigPins] ⊆ ps := List.Subset.trans (by decide) hs
  repeat' first
    | with_reducible exact h
    | with_reducible assumption
    | with_reducible refine State.raise_keeps ?_ h1 ..
    | with_reducible refine State.useChallenge_keeps ?_ h2 ..
    | with_reducible refine State.modSess_keeps ?_ h2 ..
    | ((with_reducible refine SameBut.runCmd _ _ _ h3 ?_ ?_); rotate_left; intro _ _ h; rotate_left)
    | split
    | (dsimp only)

theorem execSessionStage_keeps {ps : List Part} {s0 t : State} (h : SameBut ps s0 t)
    (hs : [.sess, .ev, .trigPins] ⊆ ps) (k : Sess) : ∀ out, execSessionStage k t = .next out → SameBut ps s0 out := by
  unfold execSessionStage
  intro out e
  have e := Host.Outcome.next.inj e
  subst e
  have h1 : [.sess] ⊆ ps := List.Subset.trans (by decide) hs
  have h2 : [.sess, .ev, .trigPins] ⊆ ps := List.Subset.trans (by decide) hs
  repeat' first
    | with_reducible exact h
    | with_reducible assumption
    | with_reducible refine State.modSess_keeps ?_ h1 ..
    | ((with_reducible refine SameBut.runCmd _ _ _ h2 ?_ ?_); rotate_left; intro _ _ h; rotate_left)
    | split
    | (dsimp only)

theorem execSigningStateReady_keeps {ps : List Part} {s0 t : State} (h : SameBut ps s0 t)
    (hs : [.signing] ⊆ ps)  : ∀ out, execSigningStateReady t = .next out → SameBut ps s0 out := by
  unfold execSigningStateReady
  intro out e
  have e := Host.Outcome.next.inj e
  subst e
  repeat' first
    | with_reducible exact h
    | with_reducible assumption
    | ((with_reducible refine SameBut.iteKeep ?_ ?_); rotate_left; intro h; rotate_left)
    | ((with_reducible refine SameBut.modSec ?_ ?_); rotate_left; (intro q hq; cases q <;> first | exact rfl | exact absurd (hs (by decide)) hq))
    | split
    | (dsimp only)

theorem execSecGetState_keeps {ps : List Part} {s0 t : State} (h : SameBut ps s0 t)
    (hs : [.sess, .ev, .trigPins] ⊆ ps) (k : Sess) : ∀ out, execSecGetState k t = .next out → SameBut ps s0 out := by
  unfold execSecGetState
  intro out e
  have e := Host.Outcome.next.inj e
  subst e
  have h1 : [.sess, .ev, .trigPins] ⊆ ps := List.Subset.trans (by decide) hs
  repeat' first
    | with_reducible exact h
    | with_reducible assumption
    | ((with_reducible refine SameBut.runCmd _ _ _ h1 ?_ ?_); rotate_left; intro _ _ h; rotate_left)
    | split
    | (dsimp only)

theorem execSecAttest_keeps {ps : List Part} {s0 t : State} (h : SameBut ps s0 t)
    (hs : [.sess, .ev, .otp, .signing, .trigPins] ⊆ ps) (k : Sess) (bad : Nat) (switched : Bool) : ∀ out,
        execSecAttest k bad switched t = .next out → SameBut ps s0 out := by
  unfold execSecAttest
  intro out e
  have e := Host.Outcome.next.inj e
  subst e
  have h1 : [.sess, .ev, .otp, .signing, .trigPins] ⊆ ps := List.Subset.trans (by decide) hs
  have h2 : [.sess, .ev, .trigPins] ⊆ ps := List.Subset.trans (by decide) hs
  repeat' first
    | with_reducible exact h
    | with_reducible assumption
    | with_reducible refine State.attest_keeps ?_ h1 ..
    | ((with_reducible refine SameBut.iteKeep ?_ ?_); rotate_left; intro h; rotate_left)
    | ((with_reducible refine SameBut.guarded _ _ ?_ ?_); rotate_left; intro _ h; rotate_left)
    | ((with_reducible refine SameBut.runCmd _ _ _ h2 ?_ ?_); rotate_left; intro _ _ h; rotate_left)
    | split
    | (dsimp only)

theorem execSecSetLifecycle_keeps {ps : List Part} {s0 t : State} (h : SameBut ps s0 t)
    (hs : [.sess, .ev, .otp, .flash, .trigPins, .free] ⊆ ps) (k : Sess) (ok : Bool) : ∀ out,
        execSecSetLifecycle k ok t = .next out → SameBut ps s0 out := by
  unfold execSecSetLifecycle
  intro out e
  have e := Host.Outcome.next.inj e
  subst e
  have h1 : [.sess] ⊆ ps := List.Subset.trans (by decide) hs
  have h2 : [.otp, .flash, .free] ⊆ ps := List.Subset.trans (by decide) hs
  have h3 : [.ev, .trigPins] ⊆ ps := List.Subset.trans (by decide) hs
  have h4 : [.sess, .ev, .trigPins] ⊆ ps := List.Subset.trans (by decide) hs
  repeat' first
    | with_reducible exact h
    | with_reducible assumption
    | with_reducible refine State.dropSecure_keeps ?_ h1 ..
    | with_reducible refine State.moveActions_keeps ?_ h2 ..
    | with_reducible refine State.raise_keeps ?_ h3 ..
    | with_reducible refine State.useChallenge_keeps ?_ h1 ..
    | ((with_reducible refine SameBut.iteKeep ?_ ?_); rotate_left; intro h; rotate_left)
    | ((with_reducible refine SameBut.guarded _ _ ?_ ?_); rotate_left; intro _ h; rotate_left)
    | ((with_reducible refine SameBut.runCmd _ _ _ h4 ?_ ?_); rotate_left; intro _ _ h; rotate_left)
    | split
    | (dsimp only)

theorem execSecSetOwnerKey_keeps {ps : List Part} {s0 t : State} (h : SameBut ps s0 t)
    (hs : [.sess, .ev, .flash, .trigPins] ⊆ ps) (k : Sess) : ∀ out,
        execSecSetOwnerKey k t = .next out → SameBut ps s0 out := by
  unfold execSecSetOwnerKey
  intro out e
  have e := Host.Outcome.next.inj e
  subst e
  have h1 : [.ev, .trigPins] ⊆ ps := List.Subset.trans (by decide) hs
  have h2 : [.flash] ⊆ ps := List.Subset.trans (by decide) hs
  have h3 : [.sess, .ev, .trigPins] ⊆ ps := List.Subset.trans (by decide) hs
  repeat' first
    | with_reducible exact h
    | with_reducible assumption
    | with_reducible refine State.raise_keeps ?_ h1 ..
    | with_reducible refine State.modFlash_keeps ?_ h2 ..
    | ((with_reducible refine SameBut.iteKeep ?_ ?_); rotate_left; intro h; rotate_left)
    | ((with_reducible refine SameBut.guarded _ _ ?_ ?_); rotate_left; intro _ h; rotate_left)
    | ((with_reducible refine SameBut.runCmd _ _ _ h3 ?_ ?_); rotate_left; intro _ _ h; rotate_left)
    | split
    | (dsimp only)

theorem execTestStart_keeps {ps : List Part} {s0 t : State} (h : SameBut ps s0 t)
    (hs : [.sess, .ev, .selfTest, .flash, .lane, .group, .bias, .mon, .trigPins, .filter] ⊆ ps) (k : Sess) : ∀ out,
        execTestStart k t = .next out → SameBut ps s0 out := by
  unfold execTestStart
  intro out e
  have e := Host.Outcome.next.inj e
  subst e
  have h1 : [.ev, .selfTest, .flash, .lane, .group, .bias, .mon, .trigPins, .filter] ⊆ ps := List.Subset.trans (by decide) hs
  have h2 : [.sess, .ev, .trigPins] ⊆ ps := List.Subset.trans (by decide) hs
  repeat' first
    | with_reducible exact h
    | with_reducible assumption
    | with_reducible refine State.startTest_keeps ?_ h1 ..
    | ((with_reducible refine SameBut.iteKeep ?_ ?_); rotate_left; intro h; rotate_left)
    | ((with_reducible refine SameBut.guarded _ _ ?_ ?_); rotate_left; intro _ h; rotate_left)
    | ((with_reducible refine SameBut.runCmd _ _ _ h2 ?_ ?_); rotate_left; intro _ _ h; rotate_left)
    | split
    | (dsimp only)

theorem execTestAbort_keeps {ps : List Part} {s0 t : State} (h : SameBut ps s0 t)
    (hs : [.sess, .ev, .mem, .selfTest, .flash, .lane, .rx, .acq, .tx, .work, .gallery, .group, .bias, .mon, .trigPins,
        .filter, .therm] ⊆ ps) (k : Sess) : ∀ out, execTestAbort k t = .next out → SameBut ps s0 out := by
  unfold execTestAbort
  intro out e
  have e := Host.Outcome.next.inj e
  subst e
  have h1 : [.ev, .mem, .selfTest, .flash, .lane, .rx, .acq, .tx, .work, .gallery, .group, .bias, .mon, .trigPins,
      .filter, .therm] ⊆ ps := List.Subset.trans (by decide) hs
  have h2 : [.sess, .ev, .trigPins] ⊆ ps := List.Subset.trans (by decide) hs
  repeat' first
    | with_reducible exact h
    | with_reducible assumption
    | with_reducible refine State.endTest_keeps ?_ h1 ..
    | ((with_reducible refine SameBut.guarded _ _ ?_ ?_); rotate_left; intro _ h; rotate_left)
    | ((with_reducible refine SameBut.runCmd _ _ _ h2 ?_ ?_); rotate_left; intro _ _ h; rotate_left)
    | split
    | (dsimp only)

theorem execTestGetResult_keeps {ps : List Part} {s0 t : State} (h : SameBut ps s0 t)
    (hs : [.sess, .ev, .trigPins] ⊆ ps) (k : Sess) : ∀ out, execTestGetResult k t = .next out → SameBut ps s0 out := by
  unfold execTestGetResult
  intro out e
  have e := Host.Outcome.next.inj e
  subst e
  have h1 : [.sess, .ev, .trigPins] ⊆ ps := List.Subset.trans (by decide) hs
  repeat' first
    | with_reducible exact h
    | with_reducible assumption
    | ((with_reducible refine SameBut.runCmd _ _ _ h1 ?_ ?_); rotate_left; intro _ _ h; rotate_left)
    | split
    | (dsimp only)

theorem execTestCheckDone_keeps {ps : List Part} {s0 t : State} (h : SameBut ps s0 t)
    (hs : [.core, .mem, .selfTest, .group, .bias, .mon, .trigPins, .filter] ⊆ ps) (x : CheckFound) : ∀ out,
        execTestCheckDone x t = .next out → SameBut ps s0 out := by
  unfold execTestCheckDone
  intro out e
  have e := Host.Outcome.next.inj e
  subst e
  have h1 : [.group, .bias, .mon, .trigPins, .filter] ⊆ ps := List.Subset.trans (by decide) hs
  have h2 : [.core] ⊆ ps := List.Subset.trans (by decide) hs
  have h3 : [.mem] ⊆ ps := List.Subset.trans (by decide) hs
  repeat' first
    | with_reducible exact h
    | with_reducible assumption
    | with_reducible refine State.endCheck_keeps ?_ h1 ..
    | with_reducible refine State.exchangePair_keeps ?_ h2 ..
    | with_reducible refine State.startCheck_keeps ?_ h1 ..
    | with_reducible refine State.modArr_keeps ?_ h3 ..
    | ((with_reducible refine SameBut.iteKeep ?_ ?_); rotate_left; intro h; rotate_left)
    | ((with_reducible refine SameBut.each _ _ ?_ ?_); rotate_left; intro _ _ h; rotate_left)
    | ((with_reducible refine SameBut.modSec ?_ ?_); rotate_left; (intro q hq; cases q <;> first | exact rfl | exact absurd (hs (by decide)) hq))
    | (refine SameBut.mod h ?_; (intro q hq; cases q <;> first | exact rfl | exact absurd (hs (by decide)) hq))
    | split
    | (dsimp only)

theorem execTestComplete_keeps {ps : List Part} {s0 t : State} (h : SameBut ps s0 t)
    (hs : [.ev, .mem, .selfTest, .flash, .lane, .rx, .acq, .tx, .work, .gallery, .group, .bias, .mon, .trigPins, .filter,
        .therm] ⊆ ps)  : ∀ out, execTestComplete t = .next out → SameBut ps s0 out := by
  unfold execTestComplete
  intro out e
  have e := Host.Outcome.next.inj e
  subst e
  have h1 : [.ev, .mem, .selfTest, .flash, .lane, .rx, .acq, .tx, .work, .gallery, .group, .bias, .mon, .trigPins,
      .filter, .therm] ⊆ ps := List.Subset.trans (by decide) hs
  repeat' first
    | with_reducible exact h
    | with_reducible assumption
    | with_reducible refine State.endTest_keeps ?_ h1 ..
    | ((with_reducible refine SameBut.iteKeep ?_ ?_); rotate_left; intro h; rotate_left)
    | split
    | (dsimp only)

theorem execCorrelatorPeak_keeps {ps : List Part} {s0 t : State} (h : SameBut ps s0 t)
    (hs : [.sess, .ev, .mem, .rx, .acq, .dec, .work, .gallery, .group, .trigPins] ⊆ ps) (p : Phys) (cold :
        Bool) (negative : Bool) (sym : Sym) (phase : BitVec 10) (freq : Int) (dgain : Int) : ∀ out,
        execCorrelatorPeak p cold negative sym phase freq dgain t = .next out → SameBut ps s0 out := by
  unfold execCorrelatorPeak
  intro out e
  have e := Host.Outcome.next.inj e
  subst e
  have h1 : [.ev, .mem, .rx, .acq, .work, .trigPins] ⊆ ps := List.Subset.trans (by decide) hs
  have h2 : [.acq] ⊆ ps := List.Subset.trans (by decide) hs
  have h3 : [.sess, .ev, .mem, .rx, .acq, .dec, .work, .gallery, .group, .trigPins] ⊆ ps := List.Subset.trans (by decide) hs
  have h4 : [.rx, .acq, .work] ⊆ ps := List.Subset.trans (by decide) hs
  repeat' first
    | with_reducible exact h
    | with_reducible assumption
    | with_reducible refine State.judgeStart_keeps ?_ h1 ..
    | with_reducible refine State.modCur_keeps ?_ h2 ..
    | with_reducible refine State.newPeak_keeps ?_ h3 ..
    | with_reducible refine State.refine_keeps ?_ h4 ..
    | with_reducible refine State.modAcq_keeps ?_ h2 ..
    | ((with_reducible refine SameBut.iteKeep ?_ ?_); rotate_left; intro h; rotate_left)
    | split
    | (dsimp only)

theorem execPowerDetectorTrigger_keeps {ps : List Part} {s0 t : State} (h : SameBut ps s0 t)
    (hs : [.acq] ⊆ ps) (p : Phys) (sym : Sym) : ∀ out, execPowerDetectorTrigger p sym t = .next out → SameBut ps s0 out := by
  unfold execPowerDetectorTrigger
  intro out e
  have e := Host.Outcome.next.inj e
  subst e
  have h1 : [.acq] ⊆ ps := List.Subset.trans (by decide) hs
  repeat' first
    | with_reducible exact h
    | with_reducible assumption
    | with_reducible refine State.modAcq_keeps ?_ h1 ..
    | ((with_reducible refine SameBut.iteKeep ?_ ?_); rotate_left; intro h; rotate_left)
    | split
    | (dsimp only)

theorem execFallbackStart_keeps {ps : List Part} {s0 t : State} (h : SameBut ps s0 t)
    (hs : [.ev, .mem, .rx, .acq, .work, .trigPins] ⊆ ps) (p : Phys) (sym : Sym) : ∀ out,
        execFallbackStart p sym t = .next out → SameBut ps s0 out := by
  unfold execFallbackStart
  intro out e
  have e := Host.Outcome.next.inj e
  subst e
  have h1 : [.work] ⊆ ps := List.Subset.trans (by decide) hs
  have h2 : [.ev, .mem, .rx, .acq, .work, .trigPins] ⊆ ps := List.Subset.trans (by decide) hs
  have h3 : [.acq] ⊆ ps := List.Subset.trans (by decide) hs
  repeat' first
    | with_reducible exact h
    | with_reducible assumption
    | with_reducible refine State.countBurst_keeps ?_ h1 ..
    | with_reducible refine State.judgeStart_keeps ?_ h2 ..
    | with_reducible refine State.modAcq_keeps ?_ h3 ..
    | ((with_reducible refine SameBut.iteKeep ?_ ?_); rotate_left; intro h; rotate_left)
    | split
    | (dsimp only)

theorem execPowerDetectorRearm_keeps {ps : List Part} {s0 t : State} (h : SameBut ps s0 t)
    (hs : [.sess, .ev, .mem, .rx, .acq, .dec, .work, .gallery, .group, .trigPins] ⊆ ps) (p : Phys) (sym : Sym) : ∀ out,
        execPowerDetectorRearm p sym t = .next out → SameBut ps s0 out := by
  unfold execPowerDetectorRearm
  intro out e
  have e := Host.Outcome.next.inj e
  subst e
  have h1 : [.sess, .ev, .mem, .rx, .acq, .dec, .work, .gallery, .group, .trigPins] ⊆ ps := List.Subset.trans (by decide) hs
  have h2 : [.acq] ⊆ ps := List.Subset.trans (by decide) hs
  repeat' first
    | with_reducible exact h
    | with_reducible assumption
    | with_reducible refine State.endCurrent_keeps ?_ h1 ..
    | with_reducible refine State.modAcq_keeps ?_ h2 ..
    | ((with_reducible refine SameBut.iteKeep ?_ ?_); rotate_left; intro h; rotate_left)
    | split
    | (dsimp only)

theorem execColdTrainingStart_keeps {ps : List Part} {s0 t : State} (h : SameBut ps s0 t)
    (hs : [.rx, .acq] ⊆ ps) (p : Phys) : ∀ out, execColdTrainingStart p t = .next out → SameBut ps s0 out := by
  unfold execColdTrainingStart
  intro out e
  have e := Host.Outcome.next.inj e
  subst e
  have h1 : [.rx] ⊆ ps := List.Subset.trans (by decide) hs
  have h2 : [.acq] ⊆ ps := List.Subset.trans (by decide) hs
  repeat' first
    | with_reducible exact h
    | with_reducible assumption
    | with_reducible refine State.trainCold_keeps ?_ h1 ..
    | with_reducible refine State.modAcq_keeps ?_ h2 ..
    | ((with_reducible refine SameBut.iteKeep ?_ ?_); rotate_left; intro h; rotate_left)
    | split
    | (dsimp only)

theorem execColdTrainingEnd_keeps {ps : List Part} {s0 t : State} (h : SameBut ps s0 t)
    (hs : [.acq] ⊆ ps) (p : Phys) : ∀ out, execColdTrainingEnd p t = .next out → SameBut ps s0 out := by
  unfold execColdTrainingEnd
  intro out e
  have e := Host.Outcome.next.inj e
  subst e
  have h1 : [.acq] ⊆ ps := List.Subset.trans (by decide) hs
  repeat' first
    | with_reducible exact h
    | with_reducible assumption
    | with_reducible refine State.modAcq_keeps ?_ h1 ..
    | ((with_reducible refine SameBut.iteKeep ?_ ?_); rotate_left; intro h; rotate_left)
    | split
    | (dsimp only)

theorem execPreambleEndPassed_keeps {ps : List Part} {s0 t : State} (h : SameBut ps s0 t)
    (hs : [.acq] ⊆ ps) (p : Phys) : ∀ out, execPreambleEndPassed p t = .next out → SameBut ps s0 out := by
  unfold execPreambleEndPassed
  intro out e
  have e := Host.Outcome.next.inj e
  subst e
  have h1 : [.acq] ⊆ ps := List.Subset.trans (by decide) hs
  repeat' first
    | with_reducible exact h
    | with_reducible assumption
    | with_reducible refine State.modAcq_keeps ?_ h1 ..
    | ((with_reducible refine SameBut.iteKeep ?_ ?_); rotate_left; intro h; rotate_left)
    | split
    | (dsimp only)

theorem execFallbackQualificationExpiry_keeps {ps : List Part} {s0 t : State} (h : SameBut ps s0 t)
    (hs : [.sess, .ev, .mem, .rx, .acq, .dec, .work, .gallery, .group, .trigPins] ⊆ ps) (p : Phys) : ∀ out,
        execFallbackQualificationExpiry p t = .next out → SameBut ps s0 out := by
  unfold execFallbackQualificationExpiry
  intro out e
  have e := Host.Outcome.next.inj e
  subst e
  have h1 : [.sess, .ev, .mem, .rx, .acq, .dec, .work, .gallery, .group, .trigPins] ⊆ ps := List.Subset.trans (by decide) hs
  repeat' first
    | with_reducible exact h
    | with_reducible assumption
    | with_reducible refine State.endCurrent_keeps ?_ h1 ..
    | ((with_reducible refine SameBut.iteKeep ?_ ?_); rotate_left; intro h; rotate_left)
    | split
    | (dsimp only)

theorem execSyncDetected_keeps {ps : List Part} {s0 t : State} (h : SameBut ps s0 t)
    (hs : [.acq] ⊆ ps) (p : Phys) (sym : Sym) : ∀ out, execSyncDetected p sym t = .next out → SameBut ps s0 out := by
  unfold execSyncDetected
  intro out e
  have e := Host.Outcome.next.inj e
  subst e
  have h1 : [.acq] ⊆ ps := List.Subset.trans (by decide) hs
  repeat' first
    | with_reducible exact h
    | with_reducible assumption
    | with_reducible refine State.modAcq_keeps ?_ h1 ..
    | ((with_reducible refine SameBut.iteKeep ?_ ?_); rotate_left; intro h; rotate_left)
    | split
    | (dsimp only)

theorem execSyncDeadlineExpiry_keeps {ps : List Part} {s0 t : State} (h : SameBut ps s0 t)
    (hs : [.sess, .ev, .mem, .rx, .acq, .dec, .work, .gallery, .group, .trigPins] ⊆ ps) (p : Phys) : ∀ out,
        execSyncDeadlineExpiry p t = .next out → SameBut ps s0 out := by
  unfold execSyncDeadlineExpiry
  intro out e
  have e := Host.Outcome.next.inj e
  subst e
  have h1 : [.sess, .ev, .mem, .rx, .acq, .dec, .work, .gallery, .group, .trigPins] ⊆ ps := List.Subset.trans (by decide) hs
  repeat' first
    | with_reducible exact h
    | with_reducible assumption
    | with_reducible refine State.endCurrent_keeps ?_ h1 ..
    | ((with_reducible refine SameBut.iteKeep ?_ ?_); rotate_left; intro h; rotate_left)
    | split
    | (dsimp only)

theorem execHeaderDecoded_keeps {ps : List Part} {s0 t : State} (h : SameBut ps s0 t)
    (hs : [.sess, .ev, .mem, .rx, .acq, .dec, .work, .gallery, .group, .trigPins] ⊆ ps) (p : Phys) (word : BitVec 128) :
        ∀ out, execHeaderDecoded p word t = .next out → SameBut ps s0 out := by
  unfold execHeaderDecoded
  intro out e
  have e := Host.Outcome.next.inj e
  subst e
  have h1 : [.sess, .ev, .mem, .rx, .acq, .dec, .work, .gallery, .group, .trigPins] ⊆ ps := List.Subset.trans (by decide) hs
  have h2 : [.acq] ⊆ ps := List.Subset.trans (by decide) hs
  have h3 : [.mem, .acq, .gallery] ⊆ ps := List.Subset.trans (by decide) hs
  repeat' first
    | with_reducible exact h
    | with_reducible assumption
    | with_reducible refine State.decidePortrait_keeps ?_ h1 ..
    | with_reducible refine State.endCurrent_keeps ?_ h1 ..
    | with_reducible refine State.modCur_keeps ?_ h2 ..
    | with_reducible refine State.modPortrait_keeps ?_ h3 ..
    | with_reducible refine State.modAcq_keeps ?_ h2 ..
    | ((with_reducible refine SameBut.iteKeep ?_ ?_); rotate_left; intro h; rotate_left)
    | split
    | (dsimp only)

theorem execReplayStart_keeps {ps : List Part} {s0 t : State} (h : SameBut ps s0 t)
    (hs : [.sess, .ev, .mem, .rx, .acq, .dec, .work, .gallery, .group, .trigPins] ⊆ ps) (p : Phys) (bad :
        Option (Nat × BitVec 42)) (ring : Option (Nat × BitVec 42)) : ∀ out,
        execReplayStart p bad ring t = .next out → SameBut ps s0 out := by
  unfold execReplayStart
  intro out e
  have e := Host.Outcome.next.inj e
  subst e
  have h1 : [.rx] ⊆ ps := List.Subset.trans (by decide) hs
  have h2 : [.ev, .rx, .trigPins] ⊆ ps := List.Subset.trans (by decide) hs
  have h3 : [.mem] ⊆ ps := List.Subset.trans (by decide) hs
  have h4 : [.sess, .ev, .mem, .rx, .acq, .dec, .work, .gallery, .group, .trigPins] ⊆ ps := List.Subset.trans (by decide) hs
  have h5 : [.ev, .mem, .acq, .trigPins] ⊆ ps := List.Subset.trans (by decide) hs
  have h6 : [.rx, .acq] ⊆ ps := List.Subset.trans (by decide) hs
  have h7 : [.gallery] ⊆ ps := List.Subset.trans (by decide) hs
  have h8 : [.sess, .ev, .mem, .dec, .work, .group, .trigPins] ⊆ ps := List.Subset.trans (by decide) hs
  have h9 : [.acq] ⊆ ps := List.Subset.trans (by decide) hs
  repeat' first
    | with_reducible exact h
    | with_reducible assumption
    | with_reducible refine State.addJob_keeps ?_ h1 ..
    | with_reducible refine State.captureAbort_keeps ?_ h2 ..
    | with_reducible refine State.disturb_keeps ?_ h3 ..
    | with_reducible refine State.endBurst_keeps ?_ h4 ..
    | with_reducible refine State.hotRead_keeps ?_ h5 ..
    | with_reducible refine State.replayCoeffs_keeps ?_ h6 ..
    | with_reducible refine State.requestFetch_keeps ?_ h7 ..
    | with_reducible refine State.startDelin_keeps ?_ h8 ..
    | with_reducible refine State.modAcq_keeps ?_ h9 ..
    | ((with_reducible refine SameBut.iteKeep ?_ ?_); rotate_left; intro h; rotate_left)
    | ((with_reducible refine SameBut.each _ _ ?_ ?_); rotate_left; intro _ _ h; rotate_left)
    | split
    | (dsimp only)

theorem execGalleryFetchDone_keeps {ps : List Part} {s0 t : State} (h : SameBut ps s0 t)
    (hs : [.sess, .ev, .mem, .acq, .work, .gallery, .trigPins] ⊆ ps) (i : Nat) (bad : Option (Nat × BitVec 42)) : ∀ out,
        execGalleryFetchDone i bad t = .next out → SameBut ps s0 out := by
  unfold execGalleryFetchDone
  intro out e
  have e := Host.Outcome.next.inj e
  subst e
  have h1 : [.sess, .ev, .trigPins] ⊆ ps := List.Subset.trans (by decide) hs
  have h2 : [.ev, .mem, .acq, .work, .gallery, .trigPins] ⊆ ps := List.Subset.trans (by decide) hs
  have h3 : [.mem, .acq] ⊆ ps := List.Subset.trans (by decide) hs
  have h4 : [.gallery] ⊆ ps := List.Subset.trans (by decide) hs
  have h5 : [.ev, .mem, .trigPins] ⊆ ps := List.Subset.trans (by decide) hs
  have h6 : [.acq] ⊆ ps := List.Subset.trans (by decide) hs
  repeat' first
    | with_reducible exact h
    | with_reducible assumption
    | with_reducible refine State.answer_keeps ?_ h1 ..
    | with_reducible refine State.evict_keeps ?_ h2 ..
    | with_reducible refine State.fetched_keeps ?_ h3 ..
    | with_reducible refine State.modGallery_keeps ?_ h4 ..
    | with_reducible refine State.unitRead_keeps ?_ h5 ..
    | with_reducible refine State.waitBase_keeps ?_ h6 ..
    | ((with_reducible refine SameBut.iteKeep ?_ ?_); rotate_left; intro h; rotate_left)
    | split
    | (dsimp only)

theorem execGalleryFetchService_keeps {ps : List Part} {s0 t : State} (h : SameBut ps s0 t)
    (hs : [.gallery] ⊆ ps)  : ∀ out, execGalleryFetchService t = .next out → SameBut ps s0 out := by
  unfold execGalleryFetchService
  intro out e
  have e := Host.Outcome.next.inj e
  subst e
  have h1 : [.gallery] ⊆ ps := List.Subset.trans (by decide) hs
  repeat' first
    | with_reducible exact h
    | with_reducible assumption
    | with_reducible refine State.modGallery_keeps ?_ h1 ..
    | ((with_reducible refine SameBut.iteKeep ?_ ?_); rotate_left; intro h; rotate_left)
    | split
    | (dsimp only)

theorem execPortraitPrefetch_keeps {ps : List Part} {s0 t : State} (h : SameBut ps s0 t)
    (hs : [.ev, .mem, .acq, .work, .gallery, .trigPins] ⊆ ps) (p : Phys) (slot : Nat) : ∀ out,
        execPortraitPrefetch p slot t = .next out → SameBut ps s0 out := by
  unfold execPortraitPrefetch
  intro out e
  have e := Host.Outcome.next.inj e
  subst e
  have h1 : [.ev, .mem, .acq, .work, .gallery, .trigPins] ⊆ ps := List.Subset.trans (by decide) hs
  have h2 : [.gallery] ⊆ ps := List.Subset.trans (by decide) hs
  have h3 : [.acq] ⊆ ps := List.Subset.trans (by decide) hs
  repeat' first
    | with_reducible exact h
    | with_reducible assumption
    | with_reducible refine State.hotSettle_keeps ?_ h1 ..
    | with_reducible refine State.requestFetch_keeps ?_ h2 ..
    | with_reducible refine State.modAcq_keeps ?_ h3 ..
    | ((with_reducible refine SameBut.iteKeep ?_ ?_); rotate_left; intro h; rotate_left)
    | split
    | (dsimp only)

theorem execPredictedAnalogueLoad_keeps {ps : List Part} {s0 t : State} (h : SameBut ps s0 t)
    (hs : [.ev, .mem, .rx, .acq, .trigPins] ⊆ ps) (p : Phys) (slot : Nat) : ∀ out,
        execPredictedAnalogueLoad p slot t = .next out → SameBut ps s0 out := by
  unfold execPredictedAnalogueLoad
  intro out e
  have e := Host.Outcome.next.inj e
  subst e
  have h1 : [.ev, .mem, .acq, .trigPins] ⊆ ps := List.Subset.trans (by decide) hs
  have h2 : [.rx] ⊆ ps := List.Subset.trans (by decide) hs
  repeat' first
    | with_reducible exact h
    | with_reducible assumption
    | with_reducible refine State.startPortrait_keeps ?_ h1 ..
    | with_reducible refine State.modRx_keeps ?_ h2 ..
    | ((with_reducible refine SameBut.iteKeep ?_ ?_); rotate_left; intro h; rotate_left)
    | split
    | (dsimp only)

theorem execRxWindowOpen_keeps {ps : List Part} {s0 t : State} (h : SameBut ps s0 t)
    (hs : [.acq] ⊆ ps) (p : Phys) (slot : Nat) : ∀ out, execRxWindowOpen p slot t = .next out → SameBut ps s0 out := by
  unfold execRxWindowOpen
  intro out e
  have e := Host.Outcome.next.inj e
  subst e
  have h1 : [.acq] ⊆ ps := List.Subset.trans (by decide) hs
  repeat' first
    | with_reducible exact h
    | with_reducible assumption
    | with_reducible refine State.modAcq_keeps ?_ h1 ..
    | ((with_reducible refine SameBut.iteKeep ?_ ?_); rotate_left; intro h; rotate_left)
    | split
    | (dsimp only)

theorem execRxWindowClose_keeps {ps : List Part} {s0 t : State} (h : SameBut ps s0 t)
    (hs : [.acq] ⊆ ps) (p : Phys) : ∀ out, execRxWindowClose p t = .next out → SameBut ps s0 out := by
  unfold execRxWindowClose
  intro out e
  have e := Host.Outcome.next.inj e
  subst e
  have h1 : [.acq] ⊆ ps := List.Subset.trans (by decide) hs
  repeat' first
    | with_reducible exact h
    | with_reducible assumption
    | with_reducible refine State.modAcq_keeps ?_ h1 ..
    | ((with_reducible refine SameBut.iteKeep ?_ ?_); rotate_left; intro h; rotate_left)
    | split
    | (dsimp only)

theorem execPayloadEnd_keeps {ps : List Part} {s0 t : State} (h : SameBut ps s0 t)
    (hs : [.acq] ⊆ ps) (p : Phys) (sym : Sym) : ∀ out, execPayloadEnd p sym t = .next out → SameBut ps s0 out := by
  unfold execPayloadEnd
  intro out e
  have e := Host.Outcome.next.inj e
  subst e
  have h1 : [.acq] ⊆ ps := List.Subset.trans (by decide) hs
  repeat' first
    | with_reducible exact h
    | with_reducible assumption
    | with_reducible refine State.modAcq_keeps ?_ h1 ..
    | ((with_reducible refine SameBut.iteKeep ?_ ?_); rotate_left; intro h; rotate_left)
    | split
    | (dsimp only)

theorem execPostambleCheck_keeps {ps : List Part} {s0 t : State} (h : SameBut ps s0 t)
    (hs : [.rx, .acq] ⊆ ps) (p : Phys) : ∀ out, execPostambleCheck p t = .next out → SameBut ps s0 out := by
  unfold execPostambleCheck
  intro out e
  have e := Host.Outcome.next.inj e
  subst e
  have h1 : [.rx, .acq] ⊆ ps := List.Subset.trans (by decide) hs
  have h2 : [.acq] ⊆ ps := List.Subset.trans (by decide) hs
  repeat' first
    | with_reducible exact h
    | with_reducible assumption
    | with_reducible refine State.toArmed_keeps ?_ h1 ..
    | with_reducible refine State.modAcq_keeps ?_ h2 ..
    | ((with_reducible refine SameBut.iteKeep ?_ ?_); rotate_left; intro h; rotate_left)
    | split
    | (dsimp only)

theorem execBurstOutcome_keeps {ps : List Part} {s0 t : State} (h : SameBut ps s0 t)
    (hs : [.sess, .ev, .perf, .clk, .core, .power, .mem, .lane, .rx, .acq, .dec, .tx, .work, .gallery, .group, .bias,
        .trigPins, .cal, .free] ⊆ ps) (p : Phys) (snr : BitVec 16) (eyeMin : BitVec 16) (bad : Option (Nat × BitVec 42)) : ∀ out, execBurstOutcome p snr eyeMin bad t = .next out → SameBut ps s0 out := by
  unfold execBurstOutcome
  intro out e
  have e := Host.Outcome.next.inj e
  subst e
  have h1 : [.ev, .mem, .acq, .work, .gallery, .trigPins] ⊆ ps := List.Subset.trans (by decide) hs
  have h2 : [.ev, .mem, .rx, .acq, .work, .gallery, .trigPins] ⊆ ps := List.Subset.trans (by decide) hs
  have h3 : [.mem, .work] ⊆ ps := List.Subset.trans (by decide) hs
  have h4 : [.ev, .mem, .acq, .gallery, .trigPins] ⊆ ps := List.Subset.trans (by decide) hs
  have h5 : [.rx] ⊆ ps := List.Subset.trans (by decide) hs
  have h6 : [.sess, .ev, .perf, .clk, .core, .power, .mem, .lane, .rx, .acq, .dec, .tx, .work, .gallery, .group, .bias,
      .trigPins, .cal, .free] ⊆ ps := List.Subset.trans (by decide) hs
  have h7 : [.sess, .ev, .mem, .dec, .work, .group, .trigPins] ⊆ ps := List.Subset.trans (by decide) hs
  have h8 : [.lane] ⊆ ps := List.Subset.trans (by decide) hs
  have h9 : [.acq] ⊆ ps := List.Subset.trans (by decide) hs
  repeat' first
    | with_reducible exact h
    | with_reducible assumption
    | with_reducible refine State.commit_keeps ?_ h1 ..
    | with_reducible refine State.failPortrait_keeps ?_ h1 ..
    | with_reducible refine State.reportBurst_keeps ?_ h2 ..
    | with_reducible refine State.reportSender_keeps ?_ h3 ..
    | with_reducible refine State.setFails_keeps ?_ h4 ..
    | with_reducible refine State.settleReplaying_keeps ?_ h5 ..
    | with_reducible refine State.settleReset_keeps ?_ h6 ..
    | with_reducible refine State.startDelin_keeps ?_ h7 ..
    | with_reducible refine State.modLane_keeps ?_ h8 ..
    | with_reducible refine State.modRx_keeps ?_ h5 ..
    | with_reducible refine State.modAcq_keeps ?_ h9 ..
    | ((with_reducible refine SameBut.iteKeep ?_ ?_); rotate_left; intro h; rotate_left)
    | split
    | (dsimp only)

theorem execPortraitWriteback_keeps {ps : List Part} {s0 t : State} (h : SameBut ps s0 t)
    (hs : [.ev, .mem, .acq, .work, .gallery, .trigPins] ⊆ ps) (p : Phys) : ∀ out,
        execPortraitWriteback p t = .next out → SameBut ps s0 out := by
  unfold execPortraitWriteback
  intro out e
  have e := Host.Outcome.next.inj e
  subst e
  have h1 : [.ev, .mem, .acq, .work, .gallery, .trigPins] ⊆ ps := List.Subset.trans (by decide) hs
  have h2 : [.mem, .gallery] ⊆ ps := List.Subset.trans (by decide) hs
  have h3 : [.acq] ⊆ ps := List.Subset.trans (by decide) hs
  repeat' first
    | with_reducible exact h
    | with_reducible assumption
    | with_reducible refine State.hotSettle_keeps ?_ h1 ..
    | with_reducible refine State.writeBack_keeps ?_ h2 ..
    | with_reducible refine State.modAcq_keeps ?_ h3 ..
    | ((with_reducible refine SameBut.iteKeep ?_ ?_); rotate_left; intro h; rotate_left)
    | split
    | (dsimp only)

theorem execEventHoldoffExpiry_keeps {ps : List Part} {s0 t : State} (h : SameBut ps s0 t)
    (hs : [.ev, .trigPins] ⊆ ps) (e : Ev) (source : BitVec 16) : ∀ out,
        execEventHoldoffExpiry e source t = .next out → SameBut ps s0 out := by
  unfold execEventHoldoffExpiry
  intro out e
  have e := Host.Outcome.next.inj e
  subst e
  have h1 : [.ev, .trigPins] ⊆ ps := List.Subset.trans (by decide) hs
  repeat' first
    | with_reducible exact h
    | with_reducible assumption
    | with_reducible refine State.raiseNow_keeps ?_ h1 ..
    | ((with_reducible refine SameBut.iteKeep ?_ ?_); rotate_left; intro h; rotate_left)
    | ((with_reducible refine SameBut.modCtl ?_ ?_); rotate_left; (intro q hq; cases q <;> first | exact rfl | exact absurd (hs (by decide)) hq))
    | split
    | (dsimp only)

theorem execLaneSetBurst_keeps {ps : List Part} {s0 t : State} (h : SameBut ps s0 t)
    (hs : [.sess, .ev, .work, .trigPins] ⊆ ps) (k : Sess) : ∀ out, execLaneSetBurst k t = .next out → SameBut ps s0 out := by
  unfold execLaneSetBurst
  intro out e
  have e := Host.Outcome.next.inj e
  subst e
  have h1 : [.work] ⊆ ps := List.Subset.trans (by decide) hs
  have h2 : [.sess, .ev, .trigPins] ⊆ ps := List.Subset.trans (by decide) hs
  repeat' first
    | with_reducible exact h
    | with_reducible assumption
    | with_reducible refine State.modBurst_keeps ?_ h1 ..
    | ((with_reducible refine SameBut.iteKeep ?_ ?_); rotate_left; intro h; rotate_left)
    | ((with_reducible refine SameBut.forAllSel _ _ _ _ ?_ ?_); rotate_left; intro _ _ h; rotate_left)
    | ((with_reducible refine SameBut.runCmd _ _ _ h2 ?_ ?_); rotate_left; intro _ _ h; rotate_left)
    | split
    | (dsimp only)

theorem execLaneGetBurstLog_keeps {ps : List Part} {s0 t : State} (h : SameBut ps s0 t)
    (hs : [.sess, .ev, .mem, .trigPins] ⊆ ps) (k : Sess) (bad : Option (Nat × Nat × BitVec 42)) : ∀ out,
        execLaneGetBurstLog k bad t = .next out → SameBut ps s0 out := by
  unfold execLaneGetBurstLog
  intro out e
  have e := Host.Outcome.next.inj e
  subst e
  have h1 : [.ev, .mem, .trigPins] ⊆ ps := List.Subset.trans (by decide) hs
  have h2 : [.sess, .ev, .trigPins] ⊆ ps := List.Subset.trans (by decide) hs
  repeat' first
    | with_reducible exact h
    | with_reducible assumption
    | with_reducible refine State.readLog_keeps ?_ h1 ..
    | ((with_reducible refine SameBut.runCmd _ _ _ h2 ?_ ?_); rotate_left; intro _ _ h; rotate_left)
    | split
    | (dsimp only)

theorem execLaneGetBurstCounters_keeps {ps : List Part} {s0 t : State} (h : SameBut ps s0 t)
    (hs : [.sess, .ev, .work, .trigPins] ⊆ ps) (k : Sess) : ∀ out,
        execLaneGetBurstCounters k t = .next out → SameBut ps s0 out := by
  unfold execLaneGetBurstCounters
  intro out e
  have e := Host.Outcome.next.inj e
  subst e
  have h1 : [.work] ⊆ ps := List.Subset.trans (by decide) hs
  have h2 : [.sess, .ev, .trigPins] ⊆ ps := List.Subset.trans (by decide) hs
  repeat' first
    | with_reducible exact h
    | with_reducible assumption
    | with_reducible refine State.modBurst_keeps ?_ h1 ..
    | ((with_reducible refine SameBut.iteKeep ?_ ?_); rotate_left; intro h; rotate_left)
    | ((with_reducible refine SameBut.runCmd _ _ _ h2 ?_ ?_); rotate_left; intro _ _ h; rotate_left)
    | split
    | (dsimp only)

theorem execPortraitSetQuota_keeps {ps : List Part} {s0 t : State} (h : SameBut ps s0 t)
    (hs : [.sess, .ev, .mem, .acq, .work, .gallery, .trigPins] ⊆ ps) (k : Sess) : ∀ out,
        execPortraitSetQuota k t = .next out → SameBut ps s0 out := by
  unfold execPortraitSetQuota
  intro out e
  have e := Host.Outcome.next.inj e
  subst e
  have h1 : [.ev, .mem, .acq, .work, .gallery, .trigPins] ⊆ ps := List.Subset.trans (by decide) hs
  have h2 : [.acq] ⊆ ps := List.Subset.trans (by decide) hs
  have h3 : [.work] ⊆ ps := List.Subset.trans (by decide) hs
  have h4 : [.sess, .ev, .trigPins] ⊆ ps := List.Subset.trans (by decide) hs
  repeat' first
    | with_reducible exact h
    | with_reducible assumption
    | with_reducible refine State.evict_keeps ?_ h1 ..
    | with_reducible refine State.modAcq_keeps ?_ h2 ..
    | with_reducible refine State.modBurst_keeps ?_ h3 ..
    | ((with_reducible refine SameBut.iteKeep ?_ ?_); rotate_left; intro h; rotate_left)
    | ((with_reducible refine SameBut.each _ _ ?_ ?_); rotate_left; intro _ _ h; rotate_left)
    | ((with_reducible refine SameBut.guarded _ _ ?_ ?_); rotate_left; intro _ h; rotate_left)
    | ((with_reducible refine SameBut.runCmd _ _ _ h4 ?_ ?_); rotate_left; intro _ _ h; rotate_left)
    | split
    | (dsimp only)

theorem execPortraitSetBase_keeps {ps : List Part} {s0 t : State} (h : SameBut ps s0 t)
    (hs : [.sess, .ev, .rx, .work, .trigPins] ⊆ ps) (k : Sess) : ∀ out,
        execPortraitSetBase k t = .next out → SameBut ps s0 out := by
  unfold execPortraitSetBase
  intro out e
  have e := Host.Outcome.next.inj e
  subst e
  have h1 : [.rx] ⊆ ps := List.Subset.trans (by decide) hs
  have h2 : [.work] ⊆ ps := List.Subset.trans (by decide) hs
  have h3 : [.sess, .ev, .trigPins] ⊆ ps := List.Subset.trans (by decide) hs
  repeat' first
    | with_reducible exact h
    | with_reducible assumption
    | with_reducible refine State.holdBase_keeps ?_ h1 ..
    | with_reducible refine State.modBurst_keeps ?_ h2 ..
    | ((with_reducible refine SameBut.iteKeep ?_ ?_); rotate_left; intro h; rotate_left)
    | ((with_reducible refine SameBut.runCmd _ _ _ h3 ?_ ?_); rotate_left; intro _ _ h; rotate_left)
    | split
    | (dsimp only)

theorem execPortraitRead_keeps {ps : List Part} {s0 t : State} (h : SameBut ps s0 t)
    (hs : [.sess, .ev, .gallery, .trigPins] ⊆ ps) (k : Sess) : ∀ out,
        execPortraitRead k t = .next out → SameBut ps s0 out := by
  unfold execPortraitRead
  intro out e
  have e := Host.Outcome.next.inj e
  subst e
  have h1 : [.gallery] ⊆ ps := List.Subset.trans (by decide) hs
  have h2 : [.sess, .ev, .trigPins] ⊆ ps := List.Subset.trans (by decide) hs
  repeat' first
    | with_reducible exact h
    | with_reducible assumption
    | with_reducible refine State.requestFetch_keeps ?_ h1 ..
    | ((with_reducible refine SameBut.iteKeep ?_ ?_); rotate_left; intro h; rotate_left)
    | ((with_reducible refine SameBut.runCmd _ _ _ h2 ?_ ?_); rotate_left; intro _ _ h; rotate_left)
    | split
    | (dsimp only)

theorem execPortraitWrite_keeps {ps : List Part} {s0 t : State} (h : SameBut ps s0 t)
    (hs : [.sess, .ev, .mem, .acq, .work, .gallery, .trigPins] ⊆ ps) (k : Sess) : ∀ out,
        execPortraitWrite k t = .next out → SameBut ps s0 out := by
  unfold execPortraitWrite
  intro out e
  have e := Host.Outcome.next.inj e
  subst e
  have h1 : [.work] ⊆ ps := List.Subset.trans (by decide) hs
  have h2 : [.mem, .gallery] ⊆ ps := List.Subset.trans (by decide) hs
  have h3 : [.mem, .acq, .gallery] ⊆ ps := List.Subset.trans (by decide) hs
  have h4 : [.ev, .trigPins] ⊆ ps := List.Subset.trans (by decide) hs
  have h5 : [.ev, .mem, .acq, .work, .gallery, .trigPins] ⊆ ps := List.Subset.trans (by decide) hs
  have h6 : [.mem] ⊆ ps := List.Subset.trans (by decide) hs
  have h7 : [.sess, .ev, .trigPins] ⊆ ps := List.Subset.trans (by decide) hs
  repeat' first
    | with_reducible exact h
    | with_reducible assumption
    | with_reducible refine State.countBurst_keeps ?_ h1 ..
    | with_reducible refine State.galleryPut_keeps ?_ h2 ..
    | with_reducible refine State.modPortrait_keeps ?_ h3 ..
    | with_reducible refine State.raiseW_keeps ?_ h4 ..
    | with_reducible refine State.unitWrite_keeps ?_ h6 ..
    | ((with_reducible refine SameBut.iteKeep ?_ ?_); rotate_left; intro h; rotate_left)
    | ((with_reducible refine SameBut.runCmd _ _ _ h7 ?_ ?_); rotate_left; intro _ _ h; rotate_left)
    | split
    | (dsimp only)
    | (rename_i heq _ _; with_reducible refine SameBut.pair (State.takeEntry_keeps ?_ (List.Subset.trans (by decide) hs) _ _ heq))
    | (rename_i heq _; with_reducible refine SameBut.pair (State.takeEntry_keeps ?_ (List.Subset.trans (by decide) hs) _ _ heq))
    | (rename_i heq; with_reducible refine SameBut.pair (State.takeEntry_keeps ?_ (List.Subset.trans (by decide) hs) _ _ heq))

theorem execPortraitEvict_keeps {ps : List Part} {s0 t : State} (h : SameBut ps s0 t)
    (hs : [.sess, .ev, .mem, .acq, .work, .gallery, .trigPins] ⊆ ps) (k : Sess) : ∀ out,
        execPortraitEvict k t = .next out → SameBut ps s0 out := by
  unfold execPortraitEvict
  intro out e
  have e := Host.Outcome.next.inj e
  subst e
  have h1 : [.ev, .mem, .acq, .work, .gallery, .trigPins] ⊆ ps := List.Subset.trans (by decide) hs
  have h2 : [.sess, .ev, .trigPins] ⊆ ps := List.Subset.trans (by decide) hs
  repeat' first
    | with_reducible exact h
    | with_reducible assumption
    | with_reducible refine State.evict_keeps ?_ h1 ..
    | ((with_reducible refine SameBut.iteKeep ?_ ?_); rotate_left; intro h; rotate_left)
    | ((with_reducible refine SameBut.runCmd _ _ _ h2 ?_ ?_); rotate_left; intro _ _ h; rotate_left)
    | split
    | (dsimp only)

theorem execPortraitProtect_keeps {ps : List Part} {s0 t : State} (h : SameBut ps s0 t)
    (hs : [.sess, .ev, .mem, .acq, .gallery, .trigPins] ⊆ ps) (k : Sess) : ∀ out,
        execPortraitProtect k t = .next out → SameBut ps s0 out := by
  unfold execPortraitProtect
  intro out e
  have e := Host.Outcome.next.inj e
  subst e
  have h1 : [.ev, .mem, .acq, .gallery, .trigPins] ⊆ ps := List.Subset.trans (by decide) hs
  have h2 : [.sess, .ev, .trigPins] ⊆ ps := List.Subset.trans (by decide) hs
  repeat' first
    | with_reducible exact h
    | with_reducible assumption
    | with_reducible refine State.markPortrait_keeps ?_ h1 ..
    | ((with_reducible refine SameBut.iteKeep ?_ ?_); rotate_left; intro h; rotate_left)
    | ((with_reducible refine SameBut.runCmd _ _ _ h2 ?_ ?_); rotate_left; intro _ _ h; rotate_left)
    | split
    | (dsimp only)

theorem execPortraitList_keeps {ps : List Part} {s0 t : State} (h : SameBut ps s0 t)
    (hs : [.sess, .ev, .mem, .acq, .work, .gallery, .trigPins] ⊆ ps) (k : Sess) (bad : Option (Nat × BitVec 42)) : ∀ out,
        execPortraitList k bad t = .next out → SameBut ps s0 out := by
  unfold execPortraitList
  intro out e
  have e := Host.Outcome.next.inj e
  subst e
  have h1 : [.ev, .mem, .acq, .work, .gallery, .trigPins] ⊆ ps := List.Subset.trans (by decide) hs
  have h2 : [.ev, .mem, .trigPins] ⊆ ps := List.Subset.trans (by decide) hs
  have h3 : [.sess, .ev, .trigPins] ⊆ ps := List.Subset.trans (by decide) hs
  repeat' first
    | with_reducible exact h
    | with_reducible assumption
    | with_reducible refine State.evict_keeps ?_ h1 ..
    | with_reducible refine State.unitRead_keeps ?_ h2 ..
    | ((with_reducible refine SameBut.iteKeep ?_ ?_); rotate_left; intro h; rotate_left)
    | ((with_reducible refine SameBut.each _ _ ?_ ?_); rotate_left; intro _ _ h; rotate_left)
    | ((with_reducible refine SameBut.runCmd _ _ _ h3 ?_ ?_); rotate_left; intro _ _ h; rotate_left)
    | split
    | (dsimp only)

theorem execEstimationWindowEnd_keeps {ps : List Part} {s0 t : State} (h : SameBut ps s0 t)
    (hs : [.rx] ⊆ ps) (p : Phys) : ∀ out, execEstimationWindowEnd p t = .next out → SameBut ps s0 out := by
  unfold execEstimationWindowEnd
  intro out e
  have e := Host.Outcome.next.inj e
  subst e
  have h1 : [.rx] ⊆ ps := List.Subset.trans (by decide) hs
  repeat' first
    | with_reducible exact h
    | with_reducible assumption
    | with_reducible refine State.modRx_keeps ?_ h1 ..
    | ((with_reducible refine SameBut.iteKeep ?_ ?_); rotate_left; intro h; rotate_left)
    | split
    | (dsimp only)

theorem execEstimationWindowStarved_keeps {ps : List Part} {s0 t : State} (h : SameBut ps s0 t)
    (hs : [.ev, .rx, .trigPins, .cal] ⊆ ps) (p : Phys) : ∀ out,
        execEstimationWindowStarved p t = .next out → SameBut ps s0 out := by
  unfold execEstimationWindowStarved
  intro out e
  have e := Host.Outcome.next.inj e
  subst e
  have h1 : [.ev, .rx, .trigPins, .cal] ⊆ ps := List.Subset.trans (by decide) hs
  have h2 : [.rx] ⊆ ps := List.Subset.trans (by decide) hs
  repeat' first
    | with_reducible exact h
    | with_reducible assumption
    | with_reducible refine State.rejectWindow_keeps ?_ h1 ..
    | with_reducible refine State.modRx_keeps ?_ h2 ..
    | ((with_reducible refine SameBut.iteKeep ?_ ?_); rotate_left; intro h; rotate_left)
    | split
    | (dsimp only)

theorem execEstimatorIteration_keeps {ps : List Part} {s0 t : State} (h : SameBut ps s0 t)
    (hs : [.ev, .rx, .trigPins, .cal] ⊆ ps) (p : Phys) : ∀ out,
        execEstimatorIteration p t = .next out → SameBut ps s0 out := by
  unfold execEstimatorIteration
  intro out e
  have e := Host.Outcome.next.inj e
  subst e
  have h1 : [.ev, .trigPins] ⊆ ps := List.Subset.trans (by decide) hs
  have h2 : [.ev, .rx, .trigPins, .cal] ⊆ ps := List.Subset.trans (by decide) hs
  have h3 : [.rx] ⊆ ps := List.Subset.trans (by decide) hs
  have h4 : [.cal] ⊆ ps := List.Subset.trans (by decide) hs
  repeat' first
    | with_reducible exact h
    | with_reducible assumption
    | with_reducible refine State.raiseP_keeps ?_ h1 ..
    | with_reducible refine State.rejectWindow_keeps ?_ h2 ..
    | with_reducible refine State.modRx_keeps ?_ h3 ..
    | with_reducible refine State.modCalLane_keeps ?_ h4 ..
    | ((with_reducible refine SameBut.iteKeep ?_ ?_); rotate_left; intro h; rotate_left)
    | ((with_reducible refine SameBut.foldlSnd _ _ _ ?_ ?_); rotate_left; intro _ _ h; rotate_left)
    | ((with_reducible refine SameBut.foldl _ _ ?_ ?_); rotate_left; intro _ _ h; rotate_left)
    | split
    | (dsimp only)

theorem execCalRunStart_keeps {ps : List Part} {s0 t : State} (h : SameBut ps s0 t)
    (hs : [.cal] ⊆ ps)  : ∀ out, execCalRunStart t = .next out → SameBut ps s0 out := by
  unfold execCalRunStart
  intro out e
  have e := Host.Outcome.next.inj e
  subst e
  have h1 : [.cal] ⊆ ps := List.Subset.trans (by decide) hs
  repeat' first
    | with_reducible exact h
    | with_reducible assumption
    | with_reducible refine State.modCal_keeps ?_ h1 ..
    | with_reducible refine State.modCalLane_keeps ?_ h1 ..
    | ((with_reducible refine SameBut.iteKeep ?_ ?_); rotate_left; intro h; rotate_left)
    | split
    | (dsimp only)

theorem execCalPeriodExpiry_keeps {ps : List Part} {s0 t : State} (h : SameBut ps s0 t)
    (hs : [.cal] ⊆ ps) (p : Phys) : ∀ out, execCalPeriodExpiry p t = .next out → SameBut ps s0 out := by
  unfold execCalPeriodExpiry
  intro out e
  have e := Host.Outcome.next.inj e
  subst e
  have h1 : [.cal] ⊆ ps := List.Subset.trans (by decide) hs
  repeat' first
    | with_reducible exact h
    | with_reducible assumption
    | with_reducible refine State.calTrigger_keeps ?_ h1 ..
    | ((with_reducible refine SameBut.iteKeep ?_ ?_); rotate_left; intro h; rotate_left)
    | split
    | (dsimp only)

theorem execWearMeasurement_keeps {ps : List Part} {s0 t : State} (h : SameBut ps s0 t)
    (hs : [.ev, .trigPins, .age] ⊆ ps) (counts : List (Nat × Nat)) (swings : List Nat) : ∀ out,
        execWearMeasurement counts swings t = .next out → SameBut ps s0 out := by
  unfold execWearMeasurement
  intro out e
  have e := Host.Outcome.next.inj e
  subst e
  have h1 : [.ev, .trigPins] ⊆ ps := List.Subset.trans (by decide) hs
  have h2 : [.age] ⊆ ps := List.Subset.trans (by decide) hs
  repeat' first
    | with_reducible exact h
    | with_reducible assumption
    | with_reducible refine State.raise_keeps ?_ h1 ..
    | with_reducible refine State.sumHour_keeps ?_ h2 ..
    | with_reducible refine State.modAge_keeps ?_ h2 ..
    | ((with_reducible refine SameBut.each _ _ ?_ ?_); rotate_left; intro _ _ h; rotate_left)
    | split
    | (dsimp only)

theorem execMarginPlan_keeps {ps : List Part} {s0 t : State} (h : SameBut ps s0 t)
    (hs : [.sess, .ev, .core, .power, .avs, .mem, .lane, .rx, .acq, .dec, .tx, .work, .gallery, .group, .bias, .trigPins,
        .cal, .age] ⊆ ps) (daily : Bool) (lanes : List LaneDay) : ∀ out,
        execMarginPlan daily lanes t = .next out → SameBut ps s0 out := by
  unfold execMarginPlan
  intro out e
  have e := Host.Outcome.next.inj e
  subst e
  have h1 : [.sess, .ev, .core, .power, .mem, .lane, .rx, .acq, .dec, .tx, .work, .gallery, .group, .bias, .trigPins,
      .cal] ⊆ ps := List.Subset.trans (by decide) hs
  have h2 : [.age] ⊆ ps := List.Subset.trans (by decide) hs
  have h3 : [.ev, .trigPins] ⊆ ps := List.Subset.trans (by decide) hs
  have h4 : [.avs] ⊆ ps := List.Subset.trans (by decide) hs
  have h5 : [.rx] ⊆ ps := List.Subset.trans (by decide) hs
  have h6 : [.work] ⊆ ps := List.Subset.trans (by decide) hs
  repeat' first
    | with_reducible exact h
    | with_reducible assumption
    | with_reducible refine State.ageingMoves_keeps ?_ h1 ..
    | with_reducible refine State.endDay_keeps ?_ h2 ..
    | with_reducible refine State.raise_keeps ?_ h3 ..
    | with_reducible refine State.modAvs_keeps ?_ h4 ..
    | with_reducible refine State.modRx_keeps ?_ h5 ..
    | with_reducible refine State.modWork_keeps ?_ h6 ..
    | with_reducible refine State.modAge_keeps ?_ h2 ..
    | ((with_reducible refine SameBut.iteKeep ?_ ?_); rotate_left; intro h; rotate_left)
    | ((with_reducible refine SameBut.foldlSnd _ _ _ ?_ ?_); rotate_left; intro _ _ h; rotate_left)
    | ((with_reducible refine SameBut.foldl _ _ ?_ ?_); rotate_left; intro _ _ h; rotate_left)
    | ((with_reducible refine SameBut.each _ _ ?_ ?_); rotate_left; intro _ _ h; rotate_left)
    | split
    | (dsimp only)

theorem execPlanWriteDone_keeps {ps : List Part} {s0 t : State} (h : SameBut ps s0 t)
    (hs : [.ev, .trigPins, .age] ⊆ ps)  : ∀ out, execPlanWriteDone t = .next out → SameBut ps s0 out := by
  unfold execPlanWriteDone
  intro out e
  have e := Host.Outcome.next.inj e
  subst e
  have h1 : [.ev, .trigPins] ⊆ ps := List.Subset.trans (by decide) hs
  have h2 : [.age] ⊆ ps := List.Subset.trans (by decide) hs
  repeat' first
    | with_reducible exact h
    | with_reducible assumption
    | with_reducible refine State.raise_keeps ?_ h1 ..
    | with_reducible refine State.modAge_keeps ?_ h2 ..
    | split
    | (dsimp only)

end Sys2Proof.Machine
end

