-- ==== Sys2Proof/Laws/FrameExec3.lean ====
section
/-!
SUPPORT. Frames: what each command's meaning keeps.
-/
set_option maxRecDepth 10000
namespace Sys2Proof.Machine

theorem execCalRunLane_keeps {ps : List Part} {s0 t : State} (h : SameBut ps s0 t)
    (hs : [.sess, .ev, .lane, .trigPins, .cal] ⊆ ps) (k : Sess) : ∀ out,
        execCalRunLane k t = .next out → SameBut ps s0 out := by
  unfold execCalRunLane
  intro out e
  have e := Host.Outcome.next.inj e
  subst e
  have h1 : [.cal] ⊆ ps := List.Subset.trans (by decide) hs
  have h2 : [.lane] ⊆ ps := List.Subset.trans (by decide) hs
  have h3 : [.sess, .ev, .trigPins] ⊆ ps := List.Subset.trans (by decide) hs
  repeat' first
    | with_reducible exact h
    | with_reducible assumption
    | with_reducible refine State.calTrigger_keeps ?_ h1 ..
    | with_reducible refine State.startDozeExit_keeps ?_ h2 ..
    | ((with_reducible refine SameBut.iteKeep ?_ ?_); rotate_left; intro h; rotate_left)
    | ((with_reducible refine SameBut.guarded _ _ ?_ ?_); rotate_left; intro _ h; rotate_left)
    | ((with_reducible refine SameBut.runCmd _ _ _ h3 ?_ ?_); rotate_left; intro _ _ h; rotate_left)
    | split
    | (dsimp only)

theorem execCalSetTriggers_keeps {ps : List Part} {s0 t : State} (h : SameBut ps s0 t)
    (hs : [.sess, .ev, .trigPins, .cal] ⊆ ps) (k : Sess) : ∀ out,
        execCalSetTriggers k t = .next out → SameBut ps s0 out := by
  unfold execCalSetTriggers
  intro out e
  have e := Host.Outcome.next.inj e
  subst e
  have h1 : [.cal] ⊆ ps := List.Subset.trans (by decide) hs
  have h2 : [.sess, .ev, .trigPins] ⊆ ps := List.Subset.trans (by decide) hs
  repeat' first
    | with_reducible exact h
    | with_reducible assumption
    | with_reducible refine State.modCal_keeps ?_ h1 ..
    | ((with_reducible refine SameBut.runCmd _ _ _ h2 ?_ ?_); rotate_left; intro _ _ h; rotate_left)
    | split
    | (dsimp only)

theorem execCalPinLane_keeps {ps : List Part} {s0 t : State} (h : SameBut ps s0 t)
    (hs : [.sess, .ev, .lane, .trigPins, .cal] ⊆ ps) (k : Sess) : ∀ out,
        execCalPinLane k t = .next out → SameBut ps s0 out := by
  unfold execCalPinLane
  intro out e
  have e := Host.Outcome.next.inj e
  subst e
  have h1 : [.lane, .cal] ⊆ ps := List.Subset.trans (by decide) hs
  have h2 : [.sess, .ev, .trigPins] ⊆ ps := List.Subset.trans (by decide) hs
  repeat' first
    | with_reducible exact h
    | with_reducible assumption
    | with_reducible refine State.pinLane_keeps ?_ h1 ..
    | ((with_reducible refine SameBut.iteKeep ?_ ?_); rotate_left; intro h; rotate_left)
    | ((with_reducible refine SameBut.forAllSel _ _ _ _ ?_ ?_); rotate_left; intro _ _ h; rotate_left)
    | ((with_reducible refine SameBut.runCmd _ _ _ h2 ?_ ?_); rotate_left; intro _ _ h; rotate_left)
    | split
    | (dsimp only)

theorem execCalSetFloor_keeps {ps : List Part} {s0 t : State} (h : SameBut ps s0 t)
    (hs : [.sess, .ev, .work, .trigPins] ⊆ ps) (k : Sess) : ∀ out, execCalSetFloor k t = .next out → SameBut ps s0 out := by
  unfold execCalSetFloor
  intro out e
  have e := Host.Outcome.next.inj e
  subst e
  have h1 : [.work] ⊆ ps := List.Subset.trans (by decide) hs
  have h2 : [.sess, .ev, .trigPins] ⊆ ps := List.Subset.trans (by decide) hs
  repeat' first
    | with_reducible exact h
    | with_reducible assumption
    | with_reducible refine State.modWork_keeps ?_ h1 ..
    | ((with_reducible refine SameBut.iteKeep ?_ ?_); rotate_left; intro h; rotate_left)
    | ((with_reducible refine SameBut.forAllSel _ _ _ _ ?_ ?_); rotate_left; intro _ _ h; rotate_left)
    | ((with_reducible refine SameBut.runCmd _ _ _ h2 ?_ ?_); rotate_left; intro _ _ h; rotate_left)
    | split
    | (dsimp only)

theorem execCalGetStatus_keeps {ps : List Part} {s0 t : State} (h : SameBut ps s0 t)
    (hs : [.sess, .ev, .trigPins] ⊆ ps) (k : Sess) : ∀ out, execCalGetStatus k t = .next out → SameBut ps s0 out := by
  unfold execCalGetStatus
  intro out e
  have e := Host.Outcome.next.inj e
  subst e
  have h1 : [.sess, .ev, .trigPins] ⊆ ps := List.Subset.trans (by decide) hs
  repeat' first
    | with_reducible exact h
    | with_reducible assumption
    | ((with_reducible refine SameBut.runCmd _ _ _ h1 ?_ ?_); rotate_left; intro _ _ h; rotate_left)
    | split
    | (dsimp only)

theorem execCalPlanNow_keeps {ps : List Part} {s0 t : State} (h : SameBut ps s0 t)
    (hs : [.sess, .ev, .trigPins, .age] ⊆ ps) (k : Sess) : ∀ out, execCalPlanNow k t = .next out → SameBut ps s0 out := by
  unfold execCalPlanNow
  intro out e
  have e := Host.Outcome.next.inj e
  subst e
  have h1 : [.age] ⊆ ps := List.Subset.trans (by decide) hs
  have h2 : [.sess, .ev, .trigPins] ⊆ ps := List.Subset.trans (by decide) hs
  repeat' first
    | with_reducible exact h
    | with_reducible assumption
    | with_reducible refine State.modAge_keeps ?_ h1 ..
    | ((with_reducible refine SameBut.runCmd _ _ _ h2 ?_ ?_); rotate_left; intro _ _ h; rotate_left)
    | split
    | (dsimp only)

theorem execCalGetAgeing_keeps {ps : List Part} {s0 t : State} (h : SameBut ps s0 t)
    (hs : [.sess, .ev, .trigPins] ⊆ ps) (k : Sess) : ∀ out, execCalGetAgeing k t = .next out → SameBut ps s0 out := by
  unfold execCalGetAgeing
  intro out e
  have e := Host.Outcome.next.inj e
  subst e
  have h1 : [.sess, .ev, .trigPins] ⊆ ps := List.Subset.trans (by decide) hs
  repeat' first
    | with_reducible exact h
    | with_reducible assumption
    | ((with_reducible refine SameBut.iteKeep ?_ ?_); rotate_left; intro h; rotate_left)
    | ((with_reducible refine SameBut.runCmd _ _ _ h1 ?_ ?_); rotate_left; intro _ _ h; rotate_left)
    | split
    | (dsimp only)

theorem execCalSetEstimator_keeps {ps : List Part} {s0 t : State} (h : SameBut ps s0 t)
    (hs : [.sess, .ev, .rx, .trigPins] ⊆ ps) (k : Sess) : ∀ out,
        execCalSetEstimator k t = .next out → SameBut ps s0 out := by
  unfold execCalSetEstimator
  intro out e
  have e := Host.Outcome.next.inj e
  subst e
  have h1 : [.rx] ⊆ ps := List.Subset.trans (by decide) hs
  have h2 : [.sess, .ev, .trigPins] ⊆ ps := List.Subset.trans (by decide) hs
  repeat' first
    | with_reducible exact h
    | with_reducible assumption
    | with_reducible refine State.modRx_keeps ?_ h1 ..
    | ((with_reducible refine SameBut.iteKeep ?_ ?_); rotate_left; intro h; rotate_left)
    | ((with_reducible refine SameBut.forAllSel _ _ _ _ ?_ ?_); rotate_left; intro _ _ h; rotate_left)
    | ((with_reducible refine SameBut.runCmd _ _ _ h2 ?_ ?_); rotate_left; intro _ _ h; rotate_left)
    | split
    | (dsimp only)

theorem execPorstNAssert_keeps {ps : List Part} {s0 t : State} (h : SameBut ps s0 t)
    (hs : [.lock, .bus, .sess, .ev, .perf, .snap, .pins, .clk, .core, .power, .avs, .mem, .fwReady, .ctlRestart,
        .signing, .selfTest, .img, .lane, .rx, .acq, .dec, .tx, .work, .gallery, .epoch, .group, .bias, .mon, .trigPins,
        .filter, .therm, .cal, .age] ⊆ ps)  : ∀ out, execPorstNAssert t = .next out → SameBut ps s0 out := by
  unfold execPorstNAssert
  intro out e
  have e := Host.Outcome.next.inj e
  subst e
  have h1 : [.lock, .bus, .sess, .ev, .perf, .snap, .pins, .clk, .core, .power, .avs, .mem, .fwReady, .ctlRestart,
      .signing, .selfTest, .img, .lane, .rx, .acq, .dec, .tx, .work, .gallery, .epoch, .group, .bias, .mon, .trigPins,
      .filter, .therm, .cal, .age] ⊆ ps := List.Subset.trans (by decide) hs
  repeat' first
    | with_reducible exact h
    | with_reducible assumption
    | with_reducible refine State.powerOnReset_keeps ?_ h1 ..
    | split
    | (dsimp only)

theorem execPorstNRelease_keeps {ps : List Part} {s0 t : State} (h : SameBut ps s0 t)
    (hs : [.pins, .clk, .work] ⊆ ps) (straps : BitVec 4) (refclk : Bool) (fabclk : Bool) : ∀ out,
        execPorstNRelease straps refclk fabclk t = .next out → SameBut ps s0 out := by
  unfold execPorstNRelease
  intro out e
  have e := Host.Outcome.next.inj e
  subst e
  have h1 : [.pins, .clk, .work] ⊆ ps := List.Subset.trans (by decide) hs
  repeat' first
    | with_reducible exact h
    | with_reducible assumption
    | with_reducible refine State.startUp_keeps ?_ h1 ..
    | ((with_reducible refine SameBut.iteKeep ?_ ?_); rotate_left; intro h; rotate_left)
    | split
    | (dsimp only)

theorem execRootPllLock_keeps {ps : List Part} {s0 t : State} (h : SameBut ps s0 t)
    (hs : [.clk, .mem] ⊆ ps)  : ∀ out, execRootPllLock t = .next out → SameBut ps s0 out := by
  unfold execRootPllLock
  intro out e
  have e := Host.Outcome.next.inj e
  subst e
  have h1 : [.clk] ⊆ ps := List.Subset.trans (by decide) hs
  repeat' first
    | with_reducible exact h
    | with_reducible assumption
    | with_reducible refine State.modClk_keeps ?_ h1 ..
    | ((with_reducible refine SameBut.iteKeep ?_ ?_); rotate_left; intro h; rotate_left)
    | ((with_reducible refine SameBut.modSys ?_ ?_); rotate_left; (intro q hq; cases q <;> first | exact rfl | exact absurd (hs (by decide)) hq))
    | split
    | (dsimp only)

theorem execTimebaseLock_keeps {ps : List Part} {s0 t : State} (h : SameBut ps s0 t)
    (hs : [.clk] ⊆ ps)  : ∀ out, execTimebaseLock t = .next out → SameBut ps s0 out := by
  unfold execTimebaseLock
  intro out e
  have e := Host.Outcome.next.inj e
  subst e
  have h1 : [.clk] ⊆ ps := List.Subset.trans (by decide) hs
  repeat' first
    | with_reducible exact h
    | with_reducible assumption
    | with_reducible refine State.modClk_keeps ?_ h1 ..
    | ((with_reducible refine SameBut.iteKeep ?_ ?_); rotate_left; intro h; rotate_left)
    | split
    | (dsimp only)

theorem execPllLockLoss_keeps {ps : List Part} {s0 t : State} (h : SameBut ps s0 t)
    (hs : [.lock, .bus, .sess, .ev, .perf, .snap, .pins, .clk, .core, .power, .avs, .mem, .fwReady, .ctlRestart,
        .signing, .selfTest, .img, .lane, .rx, .acq, .dec, .tx, .work, .gallery, .epoch, .group, .bias, .mon, .trigPins,
        .filter, .therm, .cal, .age] ⊆ ps)  : ∀ out, execPllLockLoss t = .next out → SameBut ps s0 out := by
  unfold execPllLockLoss
  intro out e
  have e := Host.Outcome.next.inj e
  subst e
  have h1 : [.lock, .bus, .sess, .ev, .perf, .snap, .pins, .clk, .core, .power, .avs, .mem, .fwReady, .ctlRestart,
      .signing, .selfTest, .img, .lane, .rx, .acq, .dec, .tx, .work, .gallery, .epoch, .group, .bias, .mon, .trigPins,
      .filter, .therm, .cal, .age] ⊆ ps := List.Subset.trans (by decide) hs
  have h2 : [.pins, .clk, .work] ⊆ ps := List.Subset.trans (by decide) hs
  repeat' first
    | with_reducible exact h
    | with_reducible assumption
    | with_reducible refine State.powerOnReset_keeps ?_ h1 ..
    | with_reducible refine State.startUp_keeps ?_ h2 ..
    | ((with_reducible refine SameBut.iteKeep ?_ ?_); rotate_left; intro h; rotate_left)
    | split
    | (dsimp only)

theorem execRefLoss_keeps {ps : List Part} {s0 t : State} (h : SameBut ps s0 t)
    (hs : [.ev, .clk, .trigPins] ⊆ ps) (fab : Bool) : ∀ out, execRefLoss fab t = .next out → SameBut ps s0 out := by
  unfold execRefLoss
  intro out e
  have e := Host.Outcome.next.inj e
  subst e
  have h1 : [.ev, .trigPins] ⊆ ps := List.Subset.trans (by decide) hs
  have h2 : [.clk] ⊆ ps := List.Subset.trans (by decide) hs
  repeat' first
    | with_reducible exact h
    | with_reducible assumption
    | with_reducible refine State.raise_keeps ?_ h1 ..
    | with_reducible refine State.modClk_keeps ?_ h2 ..
    | ((with_reducible refine SameBut.iteKeep ?_ ?_); rotate_left; intro h; rotate_left)
    | split
    | (dsimp only)

theorem execRefValid_keeps {ps : List Part} {s0 t : State} (h : SameBut ps s0 t)
    (hs : [.ev, .clk, .trigPins] ⊆ ps) (fab : Bool) : ∀ out, execRefValid fab t = .next out → SameBut ps s0 out := by
  unfold execRefValid
  intro out e
  have e := Host.Outcome.next.inj e
  subst e
  have h1 : [.ev, .trigPins] ⊆ ps := List.Subset.trans (by decide) hs
  have h2 : [.clk] ⊆ ps := List.Subset.trans (by decide) hs
  repeat' first
    | with_reducible exact h
    | with_reducible assumption
    | with_reducible refine State.raise_keeps ?_ h1 ..
    | with_reducible refine State.modClk_keeps ?_ h2 ..
    | ((with_reducible refine SameBut.iteKeep ?_ ?_); rotate_left; intro h; rotate_left)
    | split
    | (dsimp only)

theorem execAonFallbackSwitch_keeps {ps : List Part} {s0 t : State} (h : SameBut ps s0 t)
    (hs : [.ev, .clk, .trigPins] ⊆ ps)  : ∀ out, execAonFallbackSwitch t = .next out → SameBut ps s0 out := by
  unfold execAonFallbackSwitch
  intro out e
  have e := Host.Outcome.next.inj e
  subst e
  have h1 : [.ev, .trigPins] ⊆ ps := List.Subset.trans (by decide) hs
  have h2 : [.clk] ⊆ ps := List.Subset.trans (by decide) hs
  repeat' first
    | with_reducible exact h
    | with_reducible assumption
    | with_reducible refine State.raise_keeps ?_ h1 ..
    | with_reducible refine State.modClk_keeps ?_ h2 ..
    | ((with_reducible refine SameBut.iteKeep ?_ ?_); rotate_left; intro h; rotate_left)
    | split
    | (dsimp only)

theorem execAonTick_keeps {ps : List Part} {s0 t : State} (h : SameBut ps s0 t)
    (hs : [.perf, .clk, .power, .lane, .tx, .group, .therm] ⊆ ps)  : ∀ out,
        execAonTick t = .next out → SameBut ps s0 out := by
  unfold execAonTick
  intro out e
  have e := Host.Outcome.next.inj e
  subst e
  have h1 : [.perf, .clk, .tx, .group] ⊆ ps := List.Subset.trans (by decide) hs
  have h2 : [.clk] ⊆ ps := List.Subset.trans (by decide) hs
  have h3 : [.power] ⊆ ps := List.Subset.trans (by decide) hs
  have h4 : [.therm] ⊆ ps := List.Subset.trans (by decide) hs
  repeat' first
    | with_reducible exact h
    | with_reducible assumption
    | with_reducible refine State.tick_keeps ?_ h1 ..
    | with_reducible refine State.modClk_keeps ?_ h2 ..
    | with_reducible refine State.modPower_keeps ?_ h3 ..
    | with_reducible refine State.modTherm_keeps ?_ h4 ..
    | ((with_reducible refine SameBut.iteKeep ?_ ?_); rotate_left; intro h; rotate_left)
    | (refine SameBut.mod h ?_; (intro q hq; cases q <;> first | exact rfl | exact absurd (hs (by decide)) hq))
    | split
    | (dsimp only)

theorem execCrossingTimeout_keeps {ps : List Part} {s0 t : State} (h : SameBut ps s0 t)
    (hs : [.sess, .ev, .trigPins] ⊆ ps) (domain : Nat) (k : Option Sess) : ∀ out,
        execCrossingTimeout domain k t = .next out → SameBut ps s0 out := by
  unfold execCrossingTimeout
  intro out e
  have e := Host.Outcome.next.inj e
  subst e
  have h1 : [.ev, .trigPins] ⊆ ps := List.Subset.trans (by decide) hs
  have h2 : [.sess, .ev, .trigPins] ⊆ ps := List.Subset.trans (by decide) hs
  repeat' first
    | with_reducible exact h
    | with_reducible assumption
    | with_reducible refine State.raise_keeps ?_ h1 ..
    | with_reducible refine State.respond_keeps ?_ h2 ..
    | ((with_reducible refine SameBut.iteKeep ?_ ?_); rotate_left; intro h; rotate_left)
    | split
    | (dsimp only)

theorem execWatchdogExpiry_keeps {ps : List Part} {s0 t : State} (h : SameBut ps s0 t)
    (hs : [.sess, .ev, .perf, .clk, .core, .power, .mem, .selfTest, .flash, .lane, .rx, .acq, .dec, .tx, .work, .gallery,
        .group, .bias, .mon, .trigPins, .filter, .therm, .cal, .free] ⊆ ps) (c : Core) : ∀ out,
        execWatchdogExpiry c t = .next out → SameBut ps s0 out := by
  unfold execWatchdogExpiry
  intro out e
  have e := Host.Outcome.next.inj e
  subst e
  have h1 : [.sess, .ev, .perf, .clk, .core, .power, .mem, .selfTest, .flash, .lane, .rx, .acq, .dec, .tx, .work,
      .gallery, .group, .bias, .mon, .trigPins, .filter, .therm, .cal, .free] ⊆ ps := List.Subset.trans (by decide) hs
  repeat' first
    | with_reducible exact h
    | with_reducible assumption
    | with_reducible refine State.coreFails_keeps ?_ h1 ..
    | split
    | (dsimp only)

theorem execCoreRejoin_keeps {ps : List Part} {s0 t : State} (h : SameBut ps s0 t)
    (hs : [.bus, .sess, .ev, .perf, .clk, .core, .bias, .trigPins] ⊆ ps) (c : Core) (discarded : Nat × Nat) : ∀ out,
        execCoreRejoin c discarded t = .next out → SameBut ps s0 out := by
  unfold execCoreRejoin
  intro out e
  have e := Host.Outcome.next.inj e
  subst e
  have h1 : [.bus, .sess, .ev, .perf, .core, .bias, .trigPins] ⊆ ps := List.Subset.trans (by decide) hs
  have h2 : [.ev, .clk, .trigPins] ⊆ ps := List.Subset.trans (by decide) hs
  repeat' first
    | with_reducible exact h
    | with_reducible assumption
    | with_reducible refine State.coreRejoins_keeps ?_ h1 ..
    | with_reducible refine State.openXing_keeps ?_ h2 ..
    | split
    | (dsimp only)

theorem execHbeatToggle_keeps {ps : List Part} {s0 t : State} (h : SameBut ps s0 t)
    (hs : [.pins] ⊆ ps) (served : Bool) : ∀ out, execHbeatToggle served t = .next out → SameBut ps s0 out := by
  unfold execHbeatToggle
  intro out e
  have e := Host.Outcome.next.inj e
  subst e
  have h1 : [.pins] ⊆ ps := List.Subset.trans (by decide) hs
  repeat' first
    | with_reducible exact h
    | with_reducible assumption
    | with_reducible refine State.modPins_keeps ?_ h1 ..
    | ((with_reducible refine SameBut.iteKeep ?_ ?_); rotate_left; intro h; rotate_left)
    | split
    | (dsimp only)

theorem execLaneIdleTimerExpiry_keeps {ps : List Part} {s0 t : State} (h : SameBut ps s0 t)
    (hs : [.ev, .power, .lane, .rx, .bias, .trigPins, .cal] ⊆ ps) (p : Phys) (near : Bool) : ∀ out,
        execLaneIdleTimerExpiry p near t = .next out → SameBut ps s0 out := by
  unfold execLaneIdleTimerExpiry
  intro out e
  have e := Host.Outcome.next.inj e
  subst e
  have h1 : [.ev, .rx, .trigPins, .cal] ⊆ ps := List.Subset.trans (by decide) hs
  have h2 : [.ev, .power, .lane, .bias, .trigPins] ⊆ ps := List.Subset.trans (by decide) hs
  repeat' first
    | with_reducible exact h
    | with_reducible assumption
    | with_reducible refine State.calAbort_keeps ?_ h1 ..
    | with_reducible refine State.setLanePower_keeps ?_ h2 ..
    | ((with_reducible refine SameBut.iteKeep ?_ ?_); rotate_left; intro h; rotate_left)
    | split
    | (dsimp only)

theorem execLaneIdleExit_keeps {ps : List Part} {s0 t : State} (h : SameBut ps s0 t)
    (hs : [.ev, .power, .lane, .bias, .trigPins] ⊆ ps) (p : Phys) : ∀ out,
        execLaneIdleExit p t = .next out → SameBut ps s0 out := by
  unfold execLaneIdleExit
  intro out e
  have e := Host.Outcome.next.inj e
  subst e
  have h1 : [.ev, .power, .lane, .bias, .trigPins] ⊆ ps := List.Subset.trans (by decide) hs
  repeat' first
    | with_reducible exact h
    | with_reducible assumption
    | with_reducible refine State.setLanePower_keeps ?_ h1 ..
    | ((with_reducible refine SameBut.iteKeep ?_ ?_); rotate_left; intro h; rotate_left)
    | split
    | (dsimp only)

theorem execLaneDozeTimerExpiry_keeps {ps : List Part} {s0 t : State} (h : SameBut ps s0 t)
    (hs : [.sess, .ev, .power, .mem, .lane, .rx, .acq, .dec, .work, .gallery, .group, .bias, .trigPins] ⊆ ps) (p :
        Phys) : ∀ out, execLaneDozeTimerExpiry p t = .next out → SameBut ps s0 out := by
  unfold execLaneDozeTimerExpiry
  intro out e
  have e := Host.Outcome.next.inj e
  subst e
  have h1 : [.sess, .ev, .mem, .rx, .acq, .dec, .work, .gallery, .group, .trigPins] ⊆ ps := List.Subset.trans (by decide) hs
  have h2 : [.ev, .rx, .trigPins] ⊆ ps := List.Subset.trans (by decide) hs
  have h3 : [.ev, .power, .lane, .bias, .trigPins] ⊆ ps := List.Subset.trans (by decide) hs
  repeat' first
    | with_reducible exact h
    | with_reducible assumption
    | with_reducible refine State.abandonBursts_keeps ?_ h1 ..
    | with_reducible refine State.captureAbort_keeps ?_ h2 ..
    | with_reducible refine State.setLanePower_keeps ?_ h3 ..
    | ((with_reducible refine SameBut.iteKeep ?_ ?_); rotate_left; intro h; rotate_left)
    | split
    | (dsimp only)

theorem execLaneDozeExitDone_keeps {ps : List Part} {s0 t : State} (h : SameBut ps s0 t)
    (hs : [.ev, .power, .lane, .bias, .trigPins] ⊆ ps) (p : Phys) : ∀ out,
        execLaneDozeExitDone p t = .next out → SameBut ps s0 out := by
  unfold execLaneDozeExitDone
  intro out e
  have e := Host.Outcome.next.inj e
  subst e
  have h1 : [.ev, .power, .lane, .bias, .trigPins] ⊆ ps := List.Subset.trans (by decide) hs
  have h2 : [.lane] ⊆ ps := List.Subset.trans (by decide) hs
  repeat' first
    | with_reducible exact h
    | with_reducible assumption
    | with_reducible refine State.setLanePower_keeps ?_ h1 ..
    | with_reducible refine State.modLane_keeps ?_ h2 ..
    | ((with_reducible refine SameBut.iteKeep ?_ ?_); rotate_left; intro h; rotate_left)
    | split
    | (dsimp only)

theorem execQuietTimerExpiry_keeps {ps : List Part} {s0 t : State} (h : SameBut ps s0 t)
    (hs : [.ev, .power, .trigPins] ⊆ ps)  : ∀ out, execQuietTimerExpiry t = .next out → SameBut ps s0 out := by
  unfold execQuietTimerExpiry
  intro out e
  have e := Host.Outcome.next.inj e
  subst e
  have h1 : [.ev, .power, .trigPins] ⊆ ps := List.Subset.trans (by decide) hs
  repeat' first
    | with_reducible exact h
    | with_reducible assumption
    | with_reducible refine State.setDev_keeps ?_ h1 ..
    | ((with_reducible refine SameBut.iteKeep ?_ ?_); rotate_left; intro h; rotate_left)
    | split
    | (dsimp only)

theorem execSaveSlotWritten_keeps {ps : List Part} {s0 t : State} (h : SameBut ps s0 t)
    (hs : [.sess, .ev, .power, .mem, .lane, .rx, .acq, .work, .gallery, .group, .bias, .trigPins] ⊆ ps) (scope :
        Nat) (idx : Nat) : ∀ out, execSaveSlotWritten scope idx t = .next out → SameBut ps s0 out := by
  unfold execSaveSlotWritten
  intro out e
  have e := Host.Outcome.next.inj e
  subst e
  have h1 : [.sess, .ev, .trigPins] ⊆ ps := List.Subset.trans (by decide) hs
  have h2 : [.ev, .rx, .trigPins] ⊆ ps := List.Subset.trans (by decide) hs
  have h3 : [.ev, .mem, .acq, .work, .gallery, .trigPins] ⊆ ps := List.Subset.trans (by decide) hs
  have h4 : [.mem, .group] ⊆ ps := List.Subset.trans (by decide) hs
  have h5 : [.ev, .power, .group, .trigPins] ⊆ ps := List.Subset.trans (by decide) hs
  have h6 : [.ev, .power, .lane, .bias, .trigPins] ⊆ ps := List.Subset.trans (by decide) hs
  have h7 : [.mem] ⊆ ps := List.Subset.trans (by decide) hs
  have h8 : [.power] ⊆ ps := List.Subset.trans (by decide) hs
  have h9 : [.lane] ⊆ ps := List.Subset.trans (by decide) hs
  have h10 : [.group] ⊆ ps := List.Subset.trans (by decide) hs
  repeat' first
    | with_reducible exact h
    | with_reducible assumption
    | with_reducible refine State.answerOpt_keeps ?_ h1 ..
    | with_reducible refine State.captureAbort_keeps ?_ h2 ..
    | with_reducible refine State.hotClear_keeps ?_ h3 ..
    | with_reducible refine State.saveGroup_keeps ?_ h4 ..
    | with_reducible refine State.setGroupPower_keeps ?_ h5 ..
    | with_reducible refine State.setLanePower_keeps ?_ h6 ..
    | with_reducible refine State.sramWrite_keeps ?_ h7 ..
    | with_reducible refine State.writeSlot_keeps ?_ h7 ..
    | with_reducible refine State.modPower_keeps ?_ h8 ..
    | with_reducible refine State.modArr_keeps ?_ h7 ..
    | with_reducible refine State.modLane_keeps ?_ h9 ..
    | with_reducible refine State.modGroup_keeps ?_ h10 ..
    | ((with_reducible refine SameBut.iteKeep ?_ ?_); rotate_left; intro h; rotate_left)
    | ((with_reducible refine SameBut.each _ _ ?_ ?_); rotate_left; intro _ _ h; rotate_left)
    | split
    | (dsimp only)

theorem execLaneOffExitDone_keeps {ps : List Part} {s0 t : State} (h : SameBut ps s0 t)
    (hs : [.ev, .power, .mem, .lane, .rx, .tx, .bias, .trigPins] ⊆ ps) (p : Phys) : ∀ out,
        execLaneOffExitDone p t = .next out → SameBut ps s0 out := by
  unfold execLaneOffExitDone
  intro out e
  have e := Host.Outcome.next.inj e
  subst e
  have h1 : [.ev, .trigPins] ⊆ ps := List.Subset.trans (by decide) hs
  have h2 : [.ev, .mem, .trigPins] ⊆ ps := List.Subset.trans (by decide) hs
  have h3 : [.ev, .power, .lane, .bias, .trigPins] ⊆ ps := List.Subset.trans (by decide) hs
  have h4 : [.lane, .rx, .tx, .bias] ⊆ ps := List.Subset.trans (by decide) hs
  have h5 : [.lane] ⊆ ps := List.Subset.trans (by decide) hs
  repeat' first
    | with_reducible exact h
    | with_reducible assumption
    | with_reducible refine State.raise_keeps ?_ h1 ..
    | with_reducible refine State.readSlot_keeps ?_ h2 ..
    | with_reducible refine State.setLanePower_keeps ?_ h3 ..
    | with_reducible refine State.slotPart_keeps ?_ h4 ..
    | with_reducible refine State.modLane_keeps ?_ h5 ..
    | ((with_reducible refine SameBut.iteKeep ?_ ?_); rotate_left; intro h; rotate_left)
    | ((with_reducible refine SameBut.each _ _ ?_ ?_); rotate_left; intro _ _ h; rotate_left)
    | split
    | (dsimp only)

theorem execAvsAck_keeps {ps : List Part} {s0 t : State} (h : SameBut ps s0 t)
    (hs : [.ev, .avs, .trigPins, .age] ⊆ ps) (refused : Bool) : ∀ out,
        execAvsAck refused t = .next out → SameBut ps s0 out := by
  unfold execAvsAck
  intro out e
  have e := Host.Outcome.next.inj e
  subst e
  have h1 : [.ev, .avs, .trigPins, .age] ⊆ ps := List.Subset.trans (by decide) hs
  have h2 : [.avs] ⊆ ps := List.Subset.trans (by decide) hs
  repeat' first
    | with_reducible exact h
    | with_reducible assumption
    | with_reducible refine State.avsFailed_keeps ?_ h1 ..
    | with_reducible refine State.modAvs_keeps ?_ h2 ..
    | ((with_reducible refine SameBut.iteKeep ?_ ?_); rotate_left; intro h; rotate_left)
    | split
    | (dsimp only)

theorem execAvsAckTimeout_keeps {ps : List Part} {s0 t : State} (h : SameBut ps s0 t)
    (hs : [.ev, .avs, .trigPins, .age] ⊆ ps)  : ∀ out, execAvsAckTimeout t = .next out → SameBut ps s0 out := by
  unfold execAvsAckTimeout
  intro out e
  have e := Host.Outcome.next.inj e
  subst e
  have h1 : [.ev, .avs, .trigPins, .age] ⊆ ps := List.Subset.trans (by decide) hs
  have h2 : [.ev, .trigPins] ⊆ ps := List.Subset.trans (by decide) hs
  have h3 : [.avs] ⊆ ps := List.Subset.trans (by decide) hs
  repeat' first
    | with_reducible exact h
    | with_reducible assumption
    | with_reducible refine State.avsFailed_keeps ?_ h1 ..
    | with_reducible refine State.raise_keeps ?_ h2 ..
    | with_reducible refine State.modAvs_keeps ?_ h3 ..
    | ((with_reducible refine SameBut.iteKeep ?_ ?_); rotate_left; intro h; rotate_left)
    | split
    | (dsimp only)

theorem execAvsSettleExpiry_keeps {ps : List Part} {s0 t : State} (h : SameBut ps s0 t)
    (hs : [.ev, .avs, .trigPins] ⊆ ps)  : ∀ out, execAvsSettleExpiry t = .next out → SameBut ps s0 out := by
  unfold execAvsSettleExpiry
  intro out e
  have e := Host.Outcome.next.inj e
  subst e
  have h1 : [.ev, .trigPins] ⊆ ps := List.Subset.trans (by decide) hs
  have h2 : [.avs] ⊆ ps := List.Subset.trans (by decide) hs
  repeat' first
    | with_reducible exact h
    | with_reducible assumption
    | with_reducible refine State.raise_keeps ?_ h1 ..
    | with_reducible refine State.modAvs_keeps ?_ h2 ..
    | ((with_reducible refine SameBut.iteKeep ?_ ?_); rotate_left; intro h; rotate_left)
    | split
    | (dsimp only)

theorem execPowerSetTimers_keeps {ps : List Part} {s0 t : State} (h : SameBut ps s0 t)
    (hs : [.sess, .ev, .power, .avs, .lane, .group, .trigPins] ⊆ ps) (k : Sess) : ∀ out,
        execPowerSetTimers k t = .next out → SameBut ps s0 out := by
  unfold execPowerSetTimers
  intro out e
  have e := Host.Outcome.next.inj e
  subst e
  have h1 : [.power] ⊆ ps := List.Subset.trans (by decide) hs
  have h2 : [.avs] ⊆ ps := List.Subset.trans (by decide) hs
  have h3 : [.lane] ⊆ ps := List.Subset.trans (by decide) hs
  have h4 : [.group] ⊆ ps := List.Subset.trans (by decide) hs
  have h5 : [.sess, .ev, .trigPins] ⊆ ps := List.Subset.trans (by decide) hs
  repeat' first
    | with_reducible exact h
    | with_reducible assumption
    | with_reducible refine State.modPower_keeps ?_ h1 ..
    | with_reducible refine State.modAvs_keeps ?_ h2 ..
    | with_reducible refine State.modLane_keeps ?_ h3 ..
    | with_reducible refine State.modGroup_keeps ?_ h4 ..
    | ((with_reducible refine SameBut.iteKeep ?_ ?_); rotate_left; intro h; rotate_left)
    | ((with_reducible refine SameBut.forAllSel _ _ _ _ ?_ ?_); rotate_left; intro _ _ h; rotate_left)
    | ((with_reducible refine SameBut.runCmd _ _ _ h5 ?_ ?_); rotate_left; intro _ _ h; rotate_left)
    | split
    | (dsimp only)

theorem execPowerGetResidency_keeps {ps : List Part} {s0 t : State} (h : SameBut ps s0 t)
    (hs : [.sess, .ev, .trigPins] ⊆ ps) (k : Sess) : ∀ out, execPowerGetResidency k t = .next out → SameBut ps s0 out := by
  unfold execPowerGetResidency
  intro out e
  have e := Host.Outcome.next.inj e
  subst e
  have h1 : [.sess, .ev, .trigPins] ⊆ ps := List.Subset.trans (by decide) hs
  repeat' first
    | with_reducible exact h
    | with_reducible assumption
    | ((with_reducible refine SameBut.runCmd _ _ _ h1 ?_ ?_); rotate_left; intro _ _ h; rotate_left)
    | split
    | (dsimp only)

theorem execLaneSetMode_keeps {ps : List Part} {s0 t : State} (h : SameBut ps s0 t)
    (hs : [.sess, .ev, .core, .power, .mem, .lane, .rx, .acq, .dec, .tx, .work, .gallery, .group, .bias, .trigPins, .cal,
        .free] ⊆ ps) (k : Sess) : ∀ out, execLaneSetMode k t = .next out → SameBut ps s0 out := by
  unfold execLaneSetMode
  intro out e
  have e := Host.Outcome.next.inj e
  subst e
  have h1 : [.sess, .ev, .core, .power, .mem, .lane, .rx, .acq, .dec, .tx, .work, .gallery, .group, .bias, .trigPins,
      .cal, .free] ⊆ ps := List.Subset.trans (by decide) hs
  have h2 : [.ev, .power, .lane, .bias, .trigPins] ⊆ ps := List.Subset.trans (by decide) hs
  have h3 : [.lane] ⊆ ps := List.Subset.trans (by decide) hs
  have h4 : [.sess, .ev, .trigPins] ⊆ ps := List.Subset.trans (by decide) hs
  repeat' first
    | with_reducible exact h
    | with_reducible assumption
    | with_reducible refine State.changeNow_keeps ?_ h1 ..
    | with_reducible refine State.setLanePower_keeps ?_ h2 ..
    | with_reducible refine State.startDozeExit_keeps ?_ h3 ..
    | with_reducible refine State.modLane_keeps ?_ h3 ..
    | ((with_reducible refine SameBut.iteKeep ?_ ?_); rotate_left; intro h; rotate_left)
    | ((with_reducible refine SameBut.guarded _ _ ?_ ?_); rotate_left; intro _ h; rotate_left)
    | ((with_reducible refine SameBut.runCmd _ _ _ h4 ?_ ?_); rotate_left; intro _ _ h; rotate_left)
    | split
    | (dsimp only)

theorem execLaneTrain_keeps {ps : List Part} {s0 t : State} (h : SameBut ps s0 t)
    (hs : [.sess, .ev, .lane, .tx, .trigPins, .cal] ⊆ ps) (k : Sess) : ∀ out,
        execLaneTrain k t = .next out → SameBut ps s0 out := by
  unfold execLaneTrain
  intro out e
  have e := Host.Outcome.next.inj e
  subst e
  have h1 : [.cal] ⊆ ps := List.Subset.trans (by decide) hs
  have h2 : [.lane] ⊆ ps := List.Subset.trans (by decide) hs
  have h3 : [.tx] ⊆ ps := List.Subset.trans (by decide) hs
  have h4 : [.sess, .ev, .trigPins] ⊆ ps := List.Subset.trans (by decide) hs
  repeat' first
    | with_reducible exact h
    | with_reducible assumption
    | with_reducible refine State.calTrigger_keeps ?_ h1 ..
    | with_reducible refine State.modLane_keeps ?_ h2 ..
    | with_reducible refine State.modTx_keeps ?_ h3 ..
    | ((with_reducible refine SameBut.iteKeep ?_ ?_); rotate_left; intro h; rotate_left)
    | ((with_reducible refine SameBut.guarded _ _ ?_ ?_); rotate_left; intro _ h; rotate_left)
    | ((with_reducible refine SameBut.runCmd _ _ _ h4 ?_ ?_); rotate_left; intro _ _ h; rotate_left)
    | (refine SameBut.mod h ?_; (intro q hq; cases q <;> first | exact rfl | exact absurd (hs (by decide)) hq))
    | split
    | (dsimp only)

theorem execLaneTrainingDone_keeps {ps : List Part} {s0 t : State} (h : SameBut ps s0 t)
    (hs : [.sess, .ev, .core, .power, .mem, .lane, .rx, .acq, .dec, .tx, .work, .gallery, .group, .bias, .trigPins, .cal,
        .free] ⊆ ps) (p : Phys) (passed : Bool) (reason : Nat) : ∀ out,
        execLaneTrainingDone p passed reason t = .next out → SameBut ps s0 out := by
  unfold execLaneTrainingDone
  intro out e
  have e := Host.Outcome.next.inj e
  subst e
  have h1 : [.sess, .ev, .core, .power, .mem, .lane, .rx, .acq, .dec, .tx, .work, .gallery, .group, .bias, .trigPins,
      .cal, .free] ⊆ ps := List.Subset.trans (by decide) hs
  repeat' first
    | with_reducible exact h
    | with_reducible assumption
    | with_reducible refine State.trainingEnds_keeps ?_ h1 ..
    | ((with_reducible refine SameBut.iteKeep ?_ ?_); rotate_left; intro h; rotate_left)
    | split
    | (dsimp only)

theorem execLaneTrainTimeout_keeps {ps : List Part} {s0 t : State} (h : SameBut ps s0 t)
    (hs : [.sess, .ev, .core, .power, .mem, .lane, .rx, .acq, .dec, .tx, .work, .gallery, .group, .bias, .trigPins, .cal,
        .free] ⊆ ps) (p : Phys) (reason : Nat) : ∀ out, execLaneTrainTimeout p reason t = .next out → SameBut ps s0 out := by
  unfold execLaneTrainTimeout
  intro out e
  have e := Host.Outcome.next.inj e
  subst e
  have h1 : [.sess, .ev, .core, .power, .mem, .lane, .rx, .acq, .dec, .tx, .work, .gallery, .group, .bias, .trigPins,
      .cal, .free] ⊆ ps := List.Subset.trans (by decide) hs
  repeat' first
    | with_reducible exact h
    | with_reducible assumption
    | with_reducible refine State.trainingEnds_keeps ?_ h1 ..
    | ((with_reducible refine SameBut.iteKeep ?_ ?_); rotate_left; intro h; rotate_left)
    | split
    | (dsimp only)

theorem execDeliveryReintegrate_keeps {ps : List Part} {s0 t : State} (h : SameBut ps s0 t)
    (hs : [.sess, .ev, .core, .power, .mem, .lane, .rx, .acq, .dec, .tx, .work, .gallery, .group, .bias, .trigPins, .cal,
        .free] ⊆ ps) (k : Sess) : ∀ out, execDeliveryReintegrate k t = .next out → SameBut ps s0 out := by
  unfold execDeliveryReintegrate
  intro out e
  have e := Host.Outcome.next.inj e
  subst e
  have h1 : [.cal] ⊆ ps := List.Subset.trans (by decide) hs
  have h2 : [.sess, .ev, .core, .power, .mem, .lane, .rx, .acq, .dec, .tx, .work, .gallery, .group, .bias, .trigPins,
      .cal, .free] ⊆ ps := List.Subset.trans (by decide) hs
  have h3 : [.lane] ⊆ ps := List.Subset.trans (by decide) hs
  have h4 : [.tx] ⊆ ps := List.Subset.trans (by decide) hs
  have h5 : [.sess, .ev, .trigPins] ⊆ ps := List.Subset.trans (by decide) hs
  repeat' first
    | with_reducible exact h
    | with_reducible assumption
    | with_reducible refine State.calTrigger_keeps ?_ h1 ..
    | with_reducible refine State.setMode_keeps ?_ h2 ..
    | with_reducible refine State.modLane_keeps ?_ h3 ..
    | with_reducible refine State.modTx_keeps ?_ h4 ..
    | ((with_reducible refine SameBut.iteKeep ?_ ?_); rotate_left; intro h; rotate_left)
    | ((with_reducible refine SameBut.guarded _ _ ?_ ?_); rotate_left; intro _ h; rotate_left)
    | ((with_reducible refine SameBut.runCmd _ _ _ h5 ?_ ?_); rotate_left; intro _ _ h; rotate_left)
    | (refine SameBut.mod h ?_; (intro q hq; cases q <;> first | exact rfl | exact absurd (hs (by decide)) hq))
    | split
    | (dsimp only)

theorem execLaneReset_keeps {ps : List Part} {s0 t : State} (h : SameBut ps s0 t)
    (hs : [.sess, .ev, .perf, .clk, .core, .power, .mem, .lane, .rx, .acq, .dec, .tx, .work, .gallery, .group, .bias,
        .trigPins, .cal, .free] ⊆ ps) (k : Sess) : ∀ out, execLaneReset k t = .next out → SameBut ps s0 out := by
  unfold execLaneReset
  intro out e
  have e := Host.Outcome.next.inj e
  subst e
  have h1 : [.ev, .power, .lane, .bias, .trigPins] ⊆ ps := List.Subset.trans (by decide) hs
  have h2 : [.sess, .ev, .perf, .clk, .core, .power, .mem, .lane, .rx, .acq, .dec, .tx, .work, .gallery, .group, .bias,
      .trigPins, .cal, .free] ⊆ ps := List.Subset.trans (by decide) hs
  have h3 : [.lane] ⊆ ps := List.Subset.trans (by decide) hs
  have h4 : [.sess, .ev, .trigPins] ⊆ ps := List.Subset.trans (by decide) hs
  repeat' first
    | with_reducible exact h
    | with_reducible assumption
    | with_reducible refine State.setLanePower_keeps ?_ h1 ..
    | with_reducible refine State.settleReset_keeps ?_ h2 ..
    | with_reducible refine State.startDozeExit_keeps ?_ h3 ..
    | with_reducible refine State.modLane_keeps ?_ h3 ..
    | ((with_reducible refine SameBut.iteKeep ?_ ?_); rotate_left; intro h; rotate_left)
    | ((with_reducible refine SameBut.guarded _ _ ?_ ?_); rotate_left; intro _ h; rotate_left)
    | ((with_reducible refine SameBut.runCmd _ _ _ h4 ?_ ?_); rotate_left; intro _ _ h; rotate_left)
    | split
    | (dsimp only)

theorem execLaneResetDone_keeps {ps : List Part} {s0 t : State} (h : SameBut ps s0 t)
    (hs : [.sess, .ev, .perf, .clk, .core, .power, .mem, .lane, .rx, .acq, .dec, .tx, .work, .gallery, .group, .bias,
        .trigPins, .cal, .free] ⊆ ps) (p : Phys) (discarded : Nat × Nat) : ∀ out,
        execLaneResetDone p discarded t = .next out → SameBut ps s0 out := by
  unfold execLaneResetDone
  intro out e
  have e := Host.Outcome.next.inj e
  subst e
  have h1 : [.ev, .clk, .trigPins] ⊆ ps := List.Subset.trans (by decide) hs
  have h2 : [.ev, .trigPins] ⊆ ps := List.Subset.trans (by decide) hs
  have h3 : [.sess, .ev, .perf, .clk, .core, .power, .mem, .lane, .rx, .acq, .dec, .tx, .work, .gallery, .group, .bias,
      .trigPins, .cal, .free] ⊆ ps := List.Subset.trans (by decide) hs
  have h4 : [.bias] ⊆ ps := List.Subset.trans (by decide) hs
  have h5 : [.lane] ⊆ ps := List.Subset.trans (by decide) hs
  have h6 : [.rx] ⊆ ps := List.Subset.trans (by decide) hs
  repeat' first
    | with_reducible exact h
    | with_reducible assumption
    | with_reducible refine State.openXing_keeps ?_ h1 ..
    | with_reducible refine State.raise_keeps ?_ h2 ..
    | with_reducible refine State.settleReset_keeps ?_ h3 ..
    | with_reducible refine State.thawLane_keeps ?_ h4 ..
    | with_reducible refine State.modLane_keeps ?_ h5 ..
    | with_reducible refine State.modRx_keeps ?_ h6 ..
    | ((with_reducible refine SameBut.iteKeep ?_ ?_); rotate_left; intro h; rotate_left)
    | split
    | (dsimp only)

theorem execLaneGetStatus_keeps {ps : List Part} {s0 t : State} (h : SameBut ps s0 t)
    (hs : [.sess, .ev, .trigPins] ⊆ ps) (k : Sess) : ∀ out, execLaneGetStatus k t = .next out → SameBut ps s0 out := by
  unfold execLaneGetStatus
  intro out e
  have e := Host.Outcome.next.inj e
  subst e
  have h1 : [.sess, .ev, .trigPins] ⊆ ps := List.Subset.trans (by decide) hs
  repeat' first
    | with_reducible exact h
    | with_reducible assumption
    | ((with_reducible refine SameBut.runCmd _ _ _ h1 ?_ ?_); rotate_left; intro _ _ h; rotate_left)
    | split
    | (dsimp only)

theorem execLaneSetStation_keeps {ps : List Part} {s0 t : State} (h : SameBut ps s0 t)
    (hs : [.sess, .ev, .work, .trigPins] ⊆ ps) (k : Sess) : ∀ out,
        execLaneSetStation k t = .next out → SameBut ps s0 out := by
  unfold execLaneSetStation
  intro out e
  have e := Host.Outcome.next.inj e
  subst e
  have h1 : [.work] ⊆ ps := List.Subset.trans (by decide) hs
  have h2 : [.sess, .ev, .trigPins] ⊆ ps := List.Subset.trans (by decide) hs
  repeat' first
    | with_reducible exact h
    | with_reducible assumption
    | with_reducible refine State.modWork_keeps ?_ h1 ..
    | ((with_reducible refine SameBut.guarded _ _ ?_ ?_); rotate_left; intro _ h; rotate_left)
    | ((with_reducible refine SameBut.runCmd _ _ _ h2 ?_ ?_); rotate_left; intro _ _ h; rotate_left)
    | split
    | (dsimp only)

theorem execCoreCoverDone_keeps {ps : List Part} {s0 t : State} (h : SameBut ps s0 t)
    (hs : [.ev, .core, .rx, .bias, .trigPins] ⊆ ps) (c : Core) : ∀ out,
        execCoreCoverDone c t = .next out → SameBut ps s0 out := by
  unfold execCoreCoverDone
  intro out e
  have e := Host.Outcome.next.inj e
  subst e
  have h1 : [.ev, .core, .rx, .bias, .trigPins] ⊆ ps := List.Subset.trans (by decide) hs
  repeat' first
    | with_reducible exact h
    | with_reducible assumption
    | with_reducible refine State.endCover_keeps ?_ h1 ..
    | split
    | (dsimp only)

theorem execFrameAccepted_keeps {ps : List Part} {s0 t : State} (h : SameBut ps s0 t)
    (hs : [.ev, .mem, .work, .group, .trigPins] ⊆ ps) (w : Work) (bad : Option (Nat × BitVec 42)) : ∀ out,
        execFrameAccepted w bad t = .next out → SameBut ps s0 out := by
  unfold execFrameAccepted
  intro out e
  have e := Host.Outcome.next.inj e
  subst e
  have h1 : [.ev, .mem, .work, .group, .trigPins] ⊆ ps := List.Subset.trans (by decide) hs
  have h2 : [.ev, .mem, .trigPins] ⊆ ps := List.Subset.trans (by decide) hs
  repeat' first
    | with_reducible exact h
    | with_reducible assumption
    | with_reducible refine State.acceptFrame_keeps ?_ h1 ..
    | with_reducible refine State.unitRead_keeps ?_ h2 ..
    | split
    | (dsimp only)

theorem execRtoExpiry_keeps {ps : List Part} {s0 t : State} (h : SameBut ps s0 t)
    (hs : [.ev, .mem, .tx, .work, .group, .trigPins] ⊆ ps) (w : Work) (p : Nat) (bad : Option (Nat × BitVec 42)) : ∀ out,
        execRtoExpiry w p bad t = .next out → SameBut ps s0 out := by
  unfold execRtoExpiry
  intro out e
  have e := Host.Outcome.next.inj e
  subst e
  have h1 : [.work] ⊆ ps := List.Subset.trans (by decide) hs
  have h2 : [.ev, .tx, .work, .trigPins] ⊆ ps := List.Subset.trans (by decide) hs
  have h3 : [.ev, .mem, .work, .group, .trigPins] ⊆ ps := List.Subset.trans (by decide) hs
  have h4 : [.ev, .trigPins] ⊆ ps := List.Subset.trans (by decide) hs
  have h5 : [.ev, .mem, .trigPins] ⊆ ps := List.Subset.trans (by decide) hs
  repeat' first
    | with_reducible exact h
    | with_reducible assumption
    | with_reducible refine State.count_keeps ?_ h1 ..
    | with_reducible refine State.enterBackoff_keeps ?_ h2 ..
    | with_reducible refine State.peerRestart_keeps ?_ h3 ..
    | with_reducible refine State.raiseW_keeps ?_ h4 ..
    | with_reducible refine State.rewindOldest_keeps ?_ h1 ..
    | with_reducible refine State.unitRead_keeps ?_ h5 ..
    | ((with_reducible refine SameBut.iteKeep ?_ ?_); rotate_left; intro h; rotate_left)
    | split
    | (dsimp only)

theorem execAckIntervalExpiry_keeps {ps : List Part} {s0 t : State} (h : SameBut ps s0 t)
    (hs : [.work] ⊆ ps) (w : Work) (p : Nat) : ∀ out, execAckIntervalExpiry w p t = .next out → SameBut ps s0 out := by
  unfold execAckIntervalExpiry
  intro out e
  have e := Host.Outcome.next.inj e
  subst e
  have h1 : [.work] ⊆ ps := List.Subset.trans (by decide) hs
  repeat' first
    | with_reducible exact h
    | with_reducible assumption
    | with_reducible refine State.modAck_keeps ?_ h1 ..
    | ((with_reducible refine SameBut.iteKeep ?_ ?_); rotate_left; intro h; rotate_left)
    | split
    | (dsimp only)

theorem execCtxIdleExpiry_keeps {ps : List Part} {s0 t : State} (h : SameBut ps s0 t)
    (hs : [.sess, .ev, .mem, .work, .group, .trigPins] ⊆ ps) (w : Work) (p : Nat) (rx : Bool) : ∀ out,
        execCtxIdleExpiry w p rx t = .next out → SameBut ps s0 out := by
  unfold execCtxIdleExpiry
  intro out e
  have e := Host.Outcome.next.inj e
  subst e
  have h1 : [.sess, .ev, .mem, .work, .group, .trigPins] ⊆ ps := List.Subset.trans (by decide) hs
  have h2 : [.mem, .work, .group] ⊆ ps := List.Subset.trans (by decide) hs
  have h3 : [.work] ⊆ ps := List.Subset.trans (by decide) hs
  repeat' first
    | with_reducible exact h
    | with_reducible assumption
    | with_reducible refine State.retireRx_keeps ?_ h1 ..
    | with_reducible refine State.settleRetention_keeps ?_ h2 ..
    | with_reducible refine State.modWork_keeps ?_ h3 ..
    | ((with_reducible refine SameBut.iteKeep ?_ ?_); rotate_left; intro h; rotate_left)
    | split
    | (dsimp only)

theorem execLosSpareDelayExpiry_keeps {ps : List Part} {s0 t : State} (h : SameBut ps s0 t)
    (hs : [.sess, .ev, .core, .power, .mem, .lane, .rx, .acq, .dec, .tx, .work, .gallery, .group, .bias, .trigPins,
        .cal] ⊆ ps) (p : Phys) : ∀ out, execLosSpareDelayExpiry p t = .next out → SameBut ps s0 out := by
  unfold execLosSpareDelayExpiry
  intro out e
  have e := Host.Outcome.next.inj e
  subst e
  have h1 : [.sess, .ev, .core, .power, .mem, .lane, .rx, .acq, .dec, .tx, .work, .gallery, .group, .bias, .trigPins,
      .cal] ⊆ ps := List.Subset.trans (by decide) hs
  repeat' first
    | with_reducible exact h
    | with_reducible assumption
    | with_reducible refine State.declareFail_keeps ?_ h1 ..
    | ((with_reducible refine SameBut.iteKeep ?_ ?_); rotate_left; intro h; rotate_left)
    | split
    | (dsimp only)

theorem execFailureMoveMap_keeps {ps : List Part} {s0 t : State} (h : SameBut ps s0 t)
    (hs : [.sess, .ev, .core, .power, .mem, .lane, .rx, .acq, .dec, .tx, .work, .gallery, .group, .bias, .trigPins, .cal,
        .free] ⊆ ps) (w : Work) : ∀ out, execFailureMoveMap w t = .next out → SameBut ps s0 out := by
  unfold execFailureMoveMap
  intro out e
  have e := Host.Outcome.next.inj e
  subst e
  have h1 : [.sess, .ev, .core, .power, .mem, .lane, .rx, .acq, .dec, .tx, .work, .gallery, .group, .bias, .trigPins,
      .cal, .free] ⊆ ps := List.Subset.trans (by decide) hs
  repeat' first
    | with_reducible exact h
    | with_reducible assumption
    | with_reducible refine State.takeOver_keeps ?_ h1 ..
    | ((with_reducible refine SameBut.iteKeep ?_ ?_); rotate_left; intro h; rotate_left)
    | split
    | (dsimp only)

theorem execMoveSettleExpiry_keeps {ps : List Part} {s0 t : State} (h : SameBut ps s0 t)
    (hs : [.sess, .ev, .core, .power, .mem, .lane, .rx, .acq, .dec, .tx, .work, .gallery, .group, .bias, .trigPins, .cal,
        .free] ⊆ ps) (w : Work) : ∀ out, execMoveSettleExpiry w t = .next out → SameBut ps s0 out := by
  unfold execMoveSettleExpiry
  intro out e
  have e := Host.Outcome.next.inj e
  subst e
  have h1 : [.sess, .ev, .core, .power, .mem, .lane, .rx, .acq, .dec, .tx, .work, .gallery, .group, .bias, .trigPins,
      .cal, .free] ⊆ ps := List.Subset.trans (by decide) hs
  have h2 : [.work] ⊆ ps := List.Subset.trans (by decide) hs
  repeat' first
    | with_reducible exact h
    | with_reducible assumption
    | with_reducible refine State.finishMove_keeps ?_ h1 ..
    | with_reducible refine State.modWork_keeps ?_ h2 ..
    | ((with_reducible refine SameBut.iteKeep ?_ ?_); rotate_left; intro h; rotate_left)
    | split
    | (dsimp only)

theorem execMoveLimitExpiry_keeps {ps : List Part} {s0 t : State} (h : SameBut ps s0 t)
    (hs : [.sess, .ev, .core, .power, .mem, .lane, .rx, .acq, .dec, .tx, .work, .gallery, .group, .bias, .trigPins, .cal,
        .free] ⊆ ps) (w : Work) : ∀ out, execMoveLimitExpiry w t = .next out → SameBut ps s0 out := by
  unfold execMoveLimitExpiry
  intro out e
  have e := Host.Outcome.next.inj e
  subst e
  have h1 : [.sess, .ev, .mem, .lane, .dec, .work, .group, .trigPins] ⊆ ps := List.Subset.trans (by decide) hs
  have h2 : [.sess, .ev, .core, .power, .mem, .lane, .rx, .acq, .dec, .tx, .work, .gallery, .group, .bias, .trigPins,
      .cal, .free] ⊆ ps := List.Subset.trans (by decide) hs
  repeat' first
    | with_reducible exact h
    | with_reducible assumption
    | with_reducible refine State.dropMove_keeps ?_ h1 ..
    | with_reducible refine State.spareEntered_keeps ?_ h2 ..
    | ((with_reducible refine SameBut.iteKeep ?_ ?_); rotate_left; intro h; rotate_left)
    | split
    | (dsimp only)

theorem execMoveSwitchZeroScale_keeps {ps : List Part} {s0 t : State} (h : SameBut ps s0 t)
    (hs : [.sess, .ev, .core, .power, .mem, .lane, .rx, .acq, .dec, .tx, .work, .gallery, .group, .bias, .trigPins, .cal,
        .free] ⊆ ps) (w : Work) : ∀ out, execMoveSwitchZeroScale w t = .next out → SameBut ps s0 out := by
  unfold execMoveSwitchZeroScale
  intro out e
  have e := Host.Outcome.next.inj e
  subst e
  have h1 : [.lane] ⊆ ps := List.Subset.trans (by decide) hs
  have h2 : [.tx, .work] ⊆ ps := List.Subset.trans (by decide) hs
  have h3 : [.sess, .ev, .core, .power, .mem, .lane, .rx, .acq, .dec, .tx, .work, .gallery, .group, .bias, .trigPins,
      .cal, .free] ⊆ ps := List.Subset.trans (by decide) hs
  have h4 : [.ev, .lane, .trigPins] ⊆ ps := List.Subset.trans (by decide) hs
  have h5 : [.sess, .ev, .power, .mem, .lane, .rx, .acq, .dec, .tx, .work, .gallery, .group, .bias, .trigPins,
      .cal] ⊆ ps := List.Subset.trans (by decide) hs
  have h6 : [.ev, .trigPins] ⊆ ps := List.Subset.trans (by decide) hs
  have h7 : [.sess, .ev, .mem, .work, .group, .trigPins] ⊆ ps := List.Subset.trans (by decide) hs
  have h8 : [.work] ⊆ ps := List.Subset.trans (by decide) hs
  repeat' first
    | with_reducible exact h
    | with_reducible assumption
    | with_reducible refine State.carryChange_keeps ?_ h1 ..
    | with_reducible refine State.cutBurst_keeps ?_ h2 ..
    | with_reducible refine State.mapOnto_keeps ?_ h3 ..
    | with_reducible refine State.moveDone_keeps ?_ h4 ..
    | with_reducible refine State.physMode_keeps ?_ h5 ..
    | with_reducible refine State.raiseP_keeps ?_ h6 ..
    | with_reducible refine State.scrapeAll_keeps ?_ h7 ..
    | with_reducible refine State.spareEntered_keeps ?_ h3 ..
    | with_reducible refine State.takeOver_keeps ?_ h3 ..
    | with_reducible refine State.modWork_keeps ?_ h8 ..
    | ((with_reducible refine SameBut.iteKeep ?_ ?_); rotate_left; intro h; rotate_left)
    | split
    | (dsimp only)

theorem execDrainComplete_keeps {ps : List Part} {s0 t : State} (h : SameBut ps s0 t)
    (hs : [.sess, .ev, .core, .power, .mem, .lane, .rx, .acq, .dec, .tx, .work, .gallery, .group, .bias, .trigPins, .cal,
        .free] ⊆ ps) (p : Phys) : ∀ out, execDrainComplete p t = .next out → SameBut ps s0 out := by
  unfold execDrainComplete
  intro out e
  have e := Host.Outcome.next.inj e
  subst e
  have h1 : [.sess, .ev, .core, .power, .mem, .lane, .rx, .acq, .dec, .tx, .work, .gallery, .group, .bias, .trigPins,
      .cal, .free] ⊆ ps := List.Subset.trans (by decide) hs
  have h2 : [.lane] ⊆ ps := List.Subset.trans (by decide) hs
  repeat' first
    | with_reducible exact h
    | with_reducible assumption
    | with_reducible refine State.finishChange_keeps ?_ h1 ..
    | with_reducible refine State.modLane_keeps ?_ h2 ..
    | ((with_reducible refine SameBut.iteKeep ?_ ?_); rotate_left; intro h; rotate_left)
    | split
    | (dsimp only)

theorem execDrainTimeout_keeps {ps : List Part} {s0 t : State} (h : SameBut ps s0 t)
    (hs : [.sess, .ev, .lane, .group, .trigPins] ⊆ ps) (p : Phys) : ∀ out,
        execDrainTimeout p t = .next out → SameBut ps s0 out := by
  unfold execDrainTimeout
  intro out e
  have e := Host.Outcome.next.inj e
  subst e
  have h1 : [.sess, .ev, .trigPins] ⊆ ps := List.Subset.trans (by decide) hs
  have h2 : [.group] ⊆ ps := List.Subset.trans (by decide) hs
  have h3 : [.lane] ⊆ ps := List.Subset.trans (by decide) hs
  repeat' first
    | with_reducible exact h
    | with_reducible assumption
    | with_reducible refine State.answerOpt_keeps ?_ h1 ..
    | with_reducible refine State.grant_keeps ?_ h2 ..
    | with_reducible refine State.modLane_keeps ?_ h3 ..
    | split
    | (dsimp only)

theorem execDeliverySetRetention_keeps {ps : List Part} {s0 t : State} (h : SameBut ps s0 t)
    (hs : [.sess, .ev, .mem, .work, .group, .trigPins] ⊆ ps) (k : Sess) : ∀ out,
        execDeliverySetRetention k t = .next out → SameBut ps s0 out := by
  unfold execDeliverySetRetention
  intro out e
  have e := Host.Outcome.next.inj e
  subst e
  have h1 : [.mem, .work, .group] ⊆ ps := List.Subset.trans (by decide) hs
  have h2 : [.work] ⊆ ps := List.Subset.trans (by decide) hs
  have h3 : [.sess, .ev, .trigPins] ⊆ ps := List.Subset.trans (by decide) hs
  repeat' first
    | with_reducible exact h
    | with_reducible assumption
    | with_reducible refine State.settleRetention_keeps ?_ h1 ..
    | with_reducible refine State.modWork_keeps ?_ h2 ..
    | ((with_reducible refine SameBut.guarded _ _ ?_ ?_); rotate_left; intro _ h; rotate_left)
    | ((with_reducible refine SameBut.runCmd _ _ _ h3 ?_ ?_); rotate_left; intro _ _ h; rotate_left)
    | split
    | (dsimp only)

theorem execDeliverySetTimers_keeps {ps : List Part} {s0 t : State} (h : SameBut ps s0 t)
    (hs : [.sess, .ev, .work, .trigPins] ⊆ ps) (k : Sess) : ∀ out,
        execDeliverySetTimers k t = .next out → SameBut ps s0 out := by
  unfold execDeliverySetTimers
  intro out e
  have e := Host.Outcome.next.inj e
  subst e
  have h1 : [.work] ⊆ ps := List.Subset.trans (by decide) hs
  have h2 : [.sess, .ev, .trigPins] ⊆ ps := List.Subset.trans (by decide) hs
  repeat' first
    | with_reducible exact h
    | with_reducible assumption
    | with_reducible refine State.modWork_keeps ?_ h1 ..
    | ((with_reducible refine SameBut.iteKeep ?_ ?_); rotate_left; intro h; rotate_left)
    | ((with_reducible refine SameBut.forAllSel _ _ _ _ ?_ ?_); rotate_left; intro _ _ h; rotate_left)
    | ((with_reducible refine SameBut.runCmd _ _ _ h2 ?_ ?_); rotate_left; intro _ _ h; rotate_left)
    | split
    | (dsimp only)

theorem execDeliverySetQuota_keeps {ps : List Part} {s0 t : State} (h : SameBut ps s0 t)
    (hs : [.sess, .ev, .work, .trigPins] ⊆ ps) (k : Sess) : ∀ out,
        execDeliverySetQuota k t = .next out → SameBut ps s0 out := by
  unfold execDeliverySetQuota
  intro out e
  have e := Host.Outcome.next.inj e
  subst e
  have h1 : [.work] ⊆ ps := List.Subset.trans (by decide) hs
  have h2 : [.sess, .ev, .trigPins] ⊆ ps := List.Subset.trans (by decide) hs
  repeat' first
    | with_reducible exact h
    | with_reducible assumption
    | with_reducible refine State.modWork_keeps ?_ h1 ..
    | ((with_reducible refine SameBut.iteKeep ?_ ?_); rotate_left; intro h; rotate_left)
    | ((with_reducible refine SameBut.guarded _ _ ?_ ?_); rotate_left; intro _ h; rotate_left)
    | ((with_reducible refine SameBut.runCmd _ _ _ h2 ?_ ?_); rotate_left; intro _ _ h; rotate_left)
    | split
    | (dsimp only)

theorem execDeliverySetSketch_keeps {ps : List Part} {s0 t : State} (h : SameBut ps s0 t)
    (hs : [.sess, .ev, .work, .trigPins] ⊆ ps) (k : Sess) : ∀ out,
        execDeliverySetSketch k t = .next out → SameBut ps s0 out := by
  unfold execDeliverySetSketch
  intro out e
  have e := Host.Outcome.next.inj e
  subst e
  have h1 : [.work] ⊆ ps := List.Subset.trans (by decide) hs
  have h2 : [.sess, .ev, .trigPins] ⊆ ps := List.Subset.trans (by decide) hs
  repeat' first
    | with_reducible exact h
    | with_reducible assumption
    | with_reducible refine State.modWork_keeps ?_ h1 ..
    | ((with_reducible refine SameBut.iteKeep ?_ ?_); rotate_left; intro h; rotate_left)
    | ((with_reducible refine SameBut.guarded _ _ ?_ ?_); rotate_left; intro _ h; rotate_left)
    | ((with_reducible refine SameBut.runCmd _ _ _ h2 ?_ ?_); rotate_left; intro _ _ h; rotate_left)
    | split
    | (dsimp only)

theorem execDeliverySetSparePolicy_keeps {ps : List Part} {s0 t : State} (h : SameBut ps s0 t)
    (hs : [.sess, .ev, .work, .trigPins] ⊆ ps) (k : Sess) : ∀ out,
        execDeliverySetSparePolicy k t = .next out → SameBut ps s0 out := by
  unfold execDeliverySetSparePolicy
  intro out e
  have e := Host.Outcome.next.inj e
  subst e
  have h1 : [.work] ⊆ ps := List.Subset.trans (by decide) hs
  have h2 : [.sess, .ev, .trigPins] ⊆ ps := List.Subset.trans (by decide) hs
  repeat' first
    | with_reducible exact h
    | with_reducible assumption
    | with_reducible refine State.modWork_keeps ?_ h1 ..
    | ((with_reducible refine SameBut.iteKeep ?_ ?_); rotate_left; intro h; rotate_left)
    | ((with_reducible refine SameBut.forAllSel _ _ _ _ ?_ ?_); rotate_left; intro _ _ h; rotate_left)
    | ((with_reducible refine SameBut.runCmd _ _ _ h2 ?_ ?_); rotate_left; intro _ _ h; rotate_left)
    | split
    | (dsimp only)

theorem execDeliveryReleasePeer_keeps {ps : List Part} {s0 t : State} (h : SameBut ps s0 t)
    (hs : [.sess, .ev, .mem, .work, .group, .trigPins] ⊆ ps) (k : Sess) : ∀ out,
        execDeliveryReleasePeer k t = .next out → SameBut ps s0 out := by
  unfold execDeliveryReleasePeer
  intro out e
  have e := Host.Outcome.next.inj e
  subst e
  have h1 : [.group] ⊆ ps := List.Subset.trans (by decide) hs
  have h2 : [.mem, .work, .group] ⊆ ps := List.Subset.trans (by decide) hs
  have h3 : [.work] ⊆ ps := List.Subset.trans (by decide) hs
  have h4 : [.sess, .ev, .trigPins] ⊆ ps := List.Subset.trans (by decide) hs
  repeat' first
    | with_reducible exact h
    | with_reducible assumption
    | with_reducible refine State.hostDesc_keeps ?_ h1 ..
    | with_reducible refine State.settleRetention_keeps ?_ h2 ..
    | with_reducible refine State.modWork_keeps ?_ h3 ..
    | ((with_reducible refine SameBut.iteKeep ?_ ?_); rotate_left; intro h; rotate_left)
    | ((with_reducible refine SameBut.each _ _ ?_ ?_); rotate_left; intro _ _ h; rotate_left)
    | ((with_reducible refine SameBut.guarded _ _ ?_ ?_); rotate_left; intro _ h; rotate_left)
    | ((with_reducible refine SameBut.runCmd _ _ _ h4 ?_ ?_); rotate_left; intro _ _ h; rotate_left)
    | split
    | (dsimp only)

theorem execDeliverySpareMove_keeps {ps : List Part} {s0 t : State} (h : SameBut ps s0 t)
    (hs : [.sess, .ev, .core, .power, .mem, .lane, .rx, .acq, .dec, .tx, .work, .gallery, .group, .bias, .trigPins, .cal,
        .free] ⊆ ps) (k : Sess) : ∀ out, execDeliverySpareMove k t = .next out → SameBut ps s0 out := by
  unfold execDeliverySpareMove
  intro out e
  have e := Host.Outcome.next.inj e
  subst e
  have h1 : [.sess, .ev, .core, .power, .mem, .lane, .rx, .acq, .dec, .tx, .work, .gallery, .group, .bias, .trigPins,
      .cal] ⊆ ps := List.Subset.trans (by decide) hs
  have h2 : [.sess, .ev, .core, .power, .mem, .lane, .rx, .acq, .dec, .tx, .work, .gallery, .group, .bias, .trigPins,
      .cal, .free] ⊆ ps := List.Subset.trans (by decide) hs
  have h3 : [.ev, .power, .mem, .lane, .tx, .work, .group, .bias, .trigPins] ⊆ ps := List.Subset.trans (by decide) hs
  have h4 : [.sess, .ev, .trigPins] ⊆ ps := List.Subset.trans (by decide) hs
  repeat' first
    | with_reducible exact h
    | with_reducible assumption
    | with_reducible refine State.declareFail_keeps ?_ h1 ..
    | with_reducible refine State.immediateSwitch_keeps ?_ h2 ..
    | with_reducible refine State.plannedMove_keeps ?_ h3 ..
    | ((with_reducible refine SameBut.iteKeep ?_ ?_); rotate_left; intro h; rotate_left)
    | ((with_reducible refine SameBut.guarded _ _ ?_ ?_); rotate_left; intro _ h; rotate_left)
    | ((with_reducible refine SameBut.runCmd _ _ _ h4 ?_ ?_); rotate_left; intro _ _ h; rotate_left)
    | split
    | (dsimp only)

theorem execDeliveryGetMap_keeps {ps : List Part} {s0 t : State} (h : SameBut ps s0 t)
    (hs : [.sess, .ev, .trigPins] ⊆ ps) (k : Sess) : ∀ out, execDeliveryGetMap k t = .next out → SameBut ps s0 out := by
  unfold execDeliveryGetMap
  intro out e
  have e := Host.Outcome.next.inj e
  subst e
  have h1 : [.sess, .ev, .trigPins] ⊆ ps := List.Subset.trans (by decide) hs
  repeat' first
    | with_reducible exact h
    | with_reducible assumption
    | ((with_reducible refine SameBut.runCmd _ _ _ h1 ?_ ?_); rotate_left; intro _ _ h; rotate_left)
    | split
    | (dsimp only)

theorem execDeliveryGetStatus_keeps {ps : List Part} {s0 t : State} (h : SameBut ps s0 t)
    (hs : [.sess, .ev, .work, .trigPins] ⊆ ps) (k : Sess) : ∀ out,
        execDeliveryGetStatus k t = .next out → SameBut ps s0 out := by
  unfold execDeliveryGetStatus
  intro out e
  have e := Host.Outcome.next.inj e
  subst e
  have h1 : [.work] ⊆ ps := List.Subset.trans (by decide) hs
  have h2 : [.sess, .ev, .trigPins] ⊆ ps := List.Subset.trans (by decide) hs
  repeat' first
    | with_reducible exact h
    | with_reducible assumption
    | with_reducible refine State.count_keeps ?_ h1 ..
    | ((with_reducible refine SameBut.iteKeep ?_ ?_); rotate_left; intro h; rotate_left)
    | ((with_reducible refine SameBut.runCmd _ _ _ h2 ?_ ?_); rotate_left; intro _ _ h; rotate_left)
    | split
    | (dsimp only)

theorem execTxBlockStart_keeps {ps : List Part} {s0 t : State} (h : SameBut ps s0 t)
    (hs : [.sess, .ev, .core, .power, .mem, .lane, .rx, .acq, .dec, .tx, .work, .gallery, .group, .bias, .trigPins,
        .therm, .cal] ⊆ ps) (g : Group) (bad : Option (Nat × BitVec 42)) : ∀ out,
        execTxBlockStart g bad t = .next out → SameBut ps s0 out := by
  unfold execTxBlockStart
  intro out e
  have e := Host.Outcome.next.inj e
  subst e
  have h1 : [.sess, .ev, .core, .power, .mem, .lane, .rx, .acq, .dec, .tx, .work, .gallery, .group, .bias, .trigPins,
      .cal] ⊆ ps := List.Subset.trans (by decide) hs
  have h2 : [.ev, .mem, .trigPins] ⊆ ps := List.Subset.trans (by decide) hs
  have h3 : [.mem] ⊆ ps := List.Subset.trans (by decide) hs
  have h4 : [.group] ⊆ ps := List.Subset.trans (by decide) hs
  have h5 : [.therm] ⊆ ps := List.Subset.trans (by decide) hs
  repeat' first
    | with_reducible exact h
    | with_reducible assumption
    | with_reducible refine State.groupOut_keeps ?_ h1 ..
    | with_reducible refine State.readSwatches_keeps ?_ h2 ..
    | with_reducible refine State.unitWrite_keeps ?_ h3 ..
    | with_reducible refine State.modGroup_keeps ?_ h4 ..
    | with_reducible refine State.modTherm_keeps ?_ h5 ..
    | ((with_reducible refine SameBut.iteKeep ?_ ?_); rotate_left; intro h; rotate_left)
    | ((with_reducible refine SameBut.each _ _ ?_ ?_); rotate_left; intro _ _ h; rotate_left)
    | (refine SameBut.mod h ?_; (intro q hq; cases q <;> first | exact rfl | exact absurd (hs (by decide)) hq))
    | split
    | (dsimp only)

theorem execCommaReceived_keeps {ps : List Part} {s0 t : State} (h : SameBut ps s0 t)
    (hs : [.sess, .ev, .core, .power, .mem, .selfTest, .flash, .lane, .rx, .acq, .dec, .tx, .work, .gallery, .group,
        .bias, .mon, .trigPins, .filter, .therm,
        .cal] ⊆ ps) (g : Group) (blocks : List (Option (BitVec 32) × List Bool)) : ∀ out,
        execCommaReceived g blocks t = .next out → SameBut ps s0 out := by
  unfold execCommaReceived
  intro out e
  have e := Host.Outcome.next.inj e
  subst e
  have h1 : [.group] ⊆ ps := List.Subset.trans (by decide) hs
  have h2 : [.sess, .ev, .core, .power, .mem, .selfTest, .flash, .lane, .rx, .acq, .dec, .tx, .work, .gallery, .group,
      .bias, .mon, .trigPins, .filter, .therm, .cal] ⊆ ps := List.Subset.trans (by decide) hs
  have h3 : [.ev, .mem, .selfTest, .flash, .lane, .rx, .acq, .tx, .work, .gallery, .group, .bias, .mon, .trigPins,
      .filter, .therm] ⊆ ps := List.Subset.trans (by decide) hs
  have h4 : [.sess, .ev, .core, .power, .mem, .lane, .rx, .acq, .dec, .tx, .work, .gallery, .group, .bias, .trigPins,
      .cal] ⊆ ps := List.Subset.trans (by decide) hs
  have h5 : [.ev, .work, .group, .trigPins] ⊆ ps := List.Subset.trans (by decide) hs
  have h6 : [.ev, .trigPins] ⊆ ps := List.Subset.trans (by decide) hs
  repeat' first
    | with_reducible exact h
    | with_reducible assumption
    | with_reducible refine State.grant_keeps ?_ h1 ..
    | with_reducible refine State.hostLaneFail_keeps ?_ h2 ..
    | with_reducible refine State.noteSpareUse_keeps ?_ h3 ..
    | with_reducible refine State.outOfService_keeps ?_ h4 ..
    | with_reducible refine State.partnerFresh_keeps ?_ h5 ..
    | with_reducible refine State.raise_keeps ?_ h6 ..
    | with_reducible refine State.modGroup_keeps ?_ h1 ..
    | ((with_reducible refine SameBut.iteKeep ?_ ?_); rotate_left; intro h; rotate_left)
    | ((with_reducible refine SameBut.foldlSnd _ _ _ ?_ ?_); rotate_left; intro _ _ h; rotate_left)
    | ((with_reducible refine SameBut.foldl _ _ ?_ ?_); rotate_left; intro _ _ h; rotate_left)
    | ((with_reducible refine SameBut.each _ _ ?_ ?_); rotate_left; intro _ _ h; rotate_left)
    | split
    | (dsimp only)

theorem execSwatchReceived_keeps {ps : List Part} {s0 t : State} (h : SameBut ps s0 t)
    (hs : [.sess, .ev, .core, .power, .mem, .selfTest, .flash, .img, .lane, .rx, .acq, .dec, .tx, .work, .gallery,
        .group, .bias, .mon, .trigPins, .filter, .therm, .cal, .free] ⊆ ps) (g : Group) : ∀ out,
        execSwatchReceived g t = .next out → SameBut ps s0 out := by
  unfold execSwatchReceived
  intro out e
  have e := Host.Outcome.next.inj e
  subst e
  have h1 : [.sess, .ev, .core, .power, .mem, .lane, .rx, .acq, .dec, .tx, .work, .gallery, .group, .bias, .trigPins,
      .cal] ⊆ ps := List.Subset.trans (by decide) hs
  have h2 : [.sess, .ev, .core, .power, .mem, .selfTest, .flash, .img, .lane, .rx, .acq, .dec, .tx, .work, .gallery,
      .group, .bias, .mon, .trigPins, .filter, .therm, .cal, .free] ⊆ ps := List.Subset.trans (by decide) hs
  have h3 : [.group] ⊆ ps := List.Subset.trans (by decide) hs
  repeat' first
    | with_reducible exact h
    | with_reducible assumption
    | with_reducible refine State.outOfService_keeps ?_ h1 ..
    | with_reducible refine State.takeSwatch_keeps ?_ h2 ..
    | with_reducible refine State.modGroup_keeps ?_ h3 ..
    | ((with_reducible refine SameBut.iteKeep ?_ ?_); rotate_left; intro h; rotate_left)
    | split
    | (dsimp only)

theorem execReplayTimeout_keeps {ps : List Part} {s0 t : State} (h : SameBut ps s0 t)
    (hs : [.group] ⊆ ps) (g : Group) : ∀ out, execReplayTimeout g t = .next out → SameBut ps s0 out := by
  unfold execReplayTimeout
  intro out e
  have e := Host.Outcome.next.inj e
  subst e
  have h1 : [.group] ⊆ ps := List.Subset.trans (by decide) hs
  repeat' first
    | with_reducible exact h
    | with_reducible assumption
    | with_reducible refine State.modGroup_keeps ?_ h1 ..
    | ((with_reducible refine SameBut.iteKeep ?_ ?_); rotate_left; intro h; rotate_left)
    | split
    | (dsimp only)

theorem execRepairReq_keeps {ps : List Part} {s0 t : State} (h : SameBut ps s0 t)
    (hs : [.sess, .ev, .core, .power, .mem, .lane, .rx, .acq, .dec, .tx, .work, .gallery, .group, .bias, .trigPins,
        .cal] ⊆ ps) (g : Group) (role : Nat) : ∀ out, execRepairReq g role t = .next out → SameBut ps s0 out := by
  unfold execRepairReq
  intro out e
  have e := Host.Outcome.next.inj e
  subst e
  have h1 : [.sess, .ev, .core, .power, .mem, .lane, .rx, .acq, .dec, .tx, .work, .gallery, .group, .bias, .trigPins,
      .cal] ⊆ ps := List.Subset.trans (by decide) hs
  repeat' first
    | with_reducible exact h
    | with_reducible assumption
    | with_reducible refine State.repairReq_keeps ?_ h1 ..
    | split
    | (dsimp only)

theorem execIdleEnter_keeps {ps : List Part} {s0 t : State} (h : SameBut ps s0 t)
    (hs : [.group] ⊆ ps) (g : Group) : ∀ out, execIdleEnter g t = .next out → SameBut ps s0 out := by
  unfold execIdleEnter
  intro out e
  have e := Host.Outcome.next.inj e
  subst e
  have h1 : [.group] ⊆ ps := List.Subset.trans (by decide) hs
  repeat' first
    | with_reducible exact h
    | with_reducible assumption
    | with_reducible refine State.modGroup_keeps ?_ h1 ..
    | ((with_reducible refine SameBut.iteKeep ?_ ?_); rotate_left; intro h; rotate_left)
    | split
    | (dsimp only)

theorem execRetrainReq_keeps {ps : List Part} {s0 t : State} (h : SameBut ps s0 t)
    (hs : [.ev, .power, .group, .trigPins] ⊆ ps) (g : Group) : ∀ out,
        execRetrainReq g t = .next out → SameBut ps s0 out := by
  unfold execRetrainReq
  intro out e
  have e := Host.Outcome.next.inj e
  subst e
  have h1 : [.ev, .power, .group, .trigPins] ⊆ ps := List.Subset.trans (by decide) hs
  repeat' first
    | with_reducible exact h
    | with_reducible assumption
    | with_reducible refine State.retrainAsked_keeps ?_ h1 ..
    | split
    | (dsimp only)

theorem execSpareOk_keeps {ps : List Part} {s0 t : State} (h : SameBut ps s0 t)
    (hs : [.group] ⊆ ps) (g : Group) (lane : HLane) : ∀ out, execSpareOk g lane t = .next out → SameBut ps s0 out := by
  unfold execSpareOk
  intro out e
  have e := Host.Outcome.next.inj e
  subst e
  have h1 : [.group] ⊆ ps := List.Subset.trans (by decide) hs
  repeat' first
    | with_reducible exact h
    | with_reducible assumption
    | with_reducible refine State.spareOk_keeps ?_ h1 ..
    | split
    | (dsimp only)

theorem execTrainPhaseLock_keeps {ps : List Part} {s0 t : State} (h : SameBut ps s0 t)
    (hs : [.group] ⊆ ps) (g : Group) : ∀ out, execTrainPhaseLock g t = .next out → SameBut ps s0 out := by
  unfold execTrainPhaseLock
  intro out e
  have e := Host.Outcome.next.inj e
  subst e
  have h1 : [.group] ⊆ ps := List.Subset.trans (by decide) hs
  repeat' first
    | with_reducible exact h
    | with_reducible assumption
    | with_reducible refine State.modGroup_keeps ?_ h1 ..
    | ((with_reducible refine SameBut.iteKeep ?_ ?_); rotate_left; intro h; rotate_left)
    | split
    | (dsimp only)

theorem execTrainLimitExpiry_keeps {ps : List Part} {s0 t : State} (h : SameBut ps s0 t)
    (hs : [.ev, .group, .trigPins] ⊆ ps) (g : Group) : ∀ out, execTrainLimitExpiry g t = .next out → SameBut ps s0 out := by
  unfold execTrainLimitExpiry
  intro out e
  have e := Host.Outcome.next.inj e
  subst e
  have h1 : [.ev, .trigPins] ⊆ ps := List.Subset.trans (by decide) hs
  have h2 : [.group] ⊆ ps := List.Subset.trans (by decide) hs
  repeat' first
    | with_reducible exact h
    | with_reducible assumption
    | with_reducible refine State.raise_keeps ?_ h1 ..
    | with_reducible refine State.modGroup_keeps ?_ h2 ..
    | ((with_reducible refine SameBut.iteKeep ?_ ?_); rotate_left; intro h; rotate_left)
    | split
    | (dsimp only)

theorem execWanderLimit_keeps {ps : List Part} {s0 t : State} (h : SameBut ps s0 t)
    (hs : [.ev, .power, .group, .trigPins] ⊆ ps) (g : Group) : ∀ out,
        execWanderLimit g t = .next out → SameBut ps s0 out := by
  unfold execWanderLimit
  intro out e
  have e := Host.Outcome.next.inj e
  subst e
  have h1 : [.ev, .power, .group, .trigPins] ⊆ ps := List.Subset.trans (by decide) hs
  repeat' first
    | with_reducible exact h
    | with_reducible assumption
    | with_reducible refine State.retrain_keeps ?_ h1 ..
    | ((with_reducible refine SameBut.iteKeep ?_ ?_); rotate_left; intro h; rotate_left)
    | split
    | (dsimp only)

theorem execHckrxStop_keeps {ps : List Part} {s0 t : State} (h : SameBut ps s0 t)
    (hs : [.ev, .power, .group, .trigPins] ⊆ ps) (g : Group) : ∀ out, execHckrxStop g t = .next out → SameBut ps s0 out := by
  unfold execHckrxStop
  intro out e
  have e := Host.Outcome.next.inj e
  subst e
  have h1 : [.ev, .trigPins] ⊆ ps := List.Subset.trans (by decide) hs
  have h2 : [.ev, .power, .group, .trigPins] ⊆ ps := List.Subset.trans (by decide) hs
  have h3 : [.group] ⊆ ps := List.Subset.trans (by decide) hs
  repeat' first
    | with_reducible exact h
    | with_reducible assumption
    | with_reducible refine State.raise_keeps ?_ h1 ..
    | with_reducible refine State.retrain_keeps ?_ h2 ..
    | with_reducible refine State.modGroup_keeps ?_ h3 ..
    | ((with_reducible refine SameBut.iteKeep ?_ ?_); rotate_left; intro h; rotate_left)
    | split
    | (dsimp only)

theorem execTxElectricalIdleEntry_keeps {ps : List Part} {s0 t : State} (h : SameBut ps s0 t)
    (hs : [.ev, .power, .group, .trigPins] ⊆ ps) (g : Group) : ∀ out,
        execTxElectricalIdleEntry g t = .next out → SameBut ps s0 out := by
  unfold execTxElectricalIdleEntry
  intro out e
  have e := Host.Outcome.next.inj e
  subst e
  have h1 : [.ev, .power, .group, .trigPins] ⊆ ps := List.Subset.trans (by decide) hs
  have h2 : [.group] ⊆ ps := List.Subset.trans (by decide) hs
  repeat' first
    | with_reducible exact h
    | with_reducible assumption
    | with_reducible refine State.setGroupPower_keeps ?_ h1 ..
    | with_reducible refine State.modGroup_keeps ?_ h2 ..
    | ((with_reducible refine SameBut.iteKeep ?_ ?_); rotate_left; intro h; rotate_left)
    | split
    | (dsimp only)

theorem execTxWake_keeps {ps : List Part} {s0 t : State} (h : SameBut ps s0 t)
    (hs : [.ev, .power, .group, .trigPins] ⊆ ps) (g : Group) : ∀ out, execTxWake g t = .next out → SameBut ps s0 out := by
  unfold execTxWake
  intro out e
  have e := Host.Outcome.next.inj e
  subst e
  have h1 : [.ev, .power, .group, .trigPins] ⊆ ps := List.Subset.trans (by decide) hs
  have h2 : [.group] ⊆ ps := List.Subset.trans (by decide) hs
  repeat' first
    | with_reducible exact h
    | with_reducible assumption
    | with_reducible refine State.setGroupPower_keeps ?_ h1 ..
    | with_reducible refine State.modGroup_keeps ?_ h2 ..
    | ((with_reducible refine SameBut.iteKeep ?_ ?_); rotate_left; intro h; rotate_left)
    | split
    | (dsimp only)

theorem execRxWakeBurst_keeps {ps : List Part} {s0 t : State} (h : SameBut ps s0 t)
    (hs : [.ev, .group, .trigPins] ⊆ ps) (g : Group) : ∀ out, execRxWakeBurst g t = .next out → SameBut ps s0 out := by
  unfold execRxWakeBurst
  intro out e
  have e := Host.Outcome.next.inj e
  subst e
  have h1 : [.ev, .trigPins] ⊆ ps := List.Subset.trans (by decide) hs
  have h2 : [.group] ⊆ ps := List.Subset.trans (by decide) hs
  repeat' first
    | with_reducible exact h
    | with_reducible assumption
    | with_reducible refine State.raise_keeps ?_ h1 ..
    | with_reducible refine State.modGroup_keeps ?_ h2 ..
    | ((with_reducible refine SameBut.iteKeep ?_ ?_); rotate_left; intro h; rotate_left)
    | split
    | (dsimp only)

theorem execRxWakeCommaTimeout_keeps {ps : List Part} {s0 t : State} (h : SameBut ps s0 t)
    (hs : [.ev, .power, .group, .trigPins] ⊆ ps) (g : Group) : ∀ out,
        execRxWakeCommaTimeout g t = .next out → SameBut ps s0 out := by
  unfold execRxWakeCommaTimeout
  intro out e
  have e := Host.Outcome.next.inj e
  subst e
  have h1 : [.ev, .power, .group, .trigPins] ⊆ ps := List.Subset.trans (by decide) hs
  repeat' first
    | with_reducible exact h
    | with_reducible assumption
    | with_reducible refine State.retrain_keeps ?_ h1 ..
    | ((with_reducible refine SameBut.iteKeep ?_ ?_); rotate_left; intro h; rotate_left)
    | split
    | (dsimp only)

theorem execHostLaneFail_keeps {ps : List Part} {s0 t : State} (h : SameBut ps s0 t)
    (hs : [.sess, .ev, .core, .power, .mem, .selfTest, .flash, .lane, .rx, .acq, .dec, .tx, .work, .gallery, .group,
        .bias, .mon, .trigPins, .filter, .therm, .cal] ⊆ ps) (g : Group) (lane : Fin 18) (reason : Nat) : ∀ out,
        execHostLaneFail g lane reason t = .next out → SameBut ps s0 out := by
  unfold execHostLaneFail
  intro out e
  have e := Host.Outcome.next.inj e
  subst e
  have h1 : [.sess, .ev, .core, .power, .mem, .selfTest, .flash, .lane, .rx, .acq, .dec, .tx, .work, .gallery, .group,
      .bias, .mon, .trigPins, .filter, .therm, .cal] ⊆ ps := List.Subset.trans (by decide) hs
  repeat' first
    | with_reducible exact h
    | with_reducible assumption
    | with_reducible refine State.hostLaneFail_keeps ?_ h1 ..
    | split
    | (dsimp only)

theorem execClockMove_keeps {ps : List Part} {s0 t : State} (h : SameBut ps s0 t)
    (hs : [.ev, .power, .mem, .selfTest, .flash, .lane, .rx, .acq, .tx, .work, .gallery, .group, .bias, .mon, .trigPins,
        .filter, .therm] ⊆ ps) (g : Group) : ∀ out, execClockMove g t = .next out → SameBut ps s0 out := by
  unfold execClockMove
  intro out e
  have e := Host.Outcome.next.inj e
  subst e
  have h1 : [.ev, .trigPins] ⊆ ps := List.Subset.trans (by decide) hs
  have h2 : [.ev, .power, .group, .trigPins] ⊆ ps := List.Subset.trans (by decide) hs
  have h3 : [.ev, .mem, .selfTest, .flash, .lane, .rx, .acq, .tx, .work, .gallery, .group, .bias, .mon, .trigPins,
      .filter, .therm] ⊆ ps := List.Subset.trans (by decide) hs
  have h4 : [.group] ⊆ ps := List.Subset.trans (by decide) hs
  repeat' first
    | with_reducible exact h
    | with_reducible assumption
    | with_reducible refine State.raise_keeps ?_ h1 ..
    | with_reducible refine State.retrain_keeps ?_ h2 ..
    | with_reducible refine State.spareTaken_keeps ?_ h3 ..
    | with_reducible refine State.modGroup_keeps ?_ h4 ..
    | ((with_reducible refine SameBut.iteKeep ?_ ?_); rotate_left; intro h; rotate_left)
    | split
    | (dsimp only)

theorem execSpareSubstitution_keeps {ps : List Part} {s0 t : State} (h : SameBut ps s0 t)
    (hs : [.sess, .ev, .core, .power, .mem, .selfTest, .flash, .lane, .rx, .acq, .dec, .tx, .work, .gallery, .group,
        .bias, .mon, .trigPins, .filter, .therm, .cal] ⊆ ps) (g : Group) : ∀ out,
        execSpareSubstitution g t = .next out → SameBut ps s0 out := by
  unfold execSpareSubstitution
  intro out e
  have e := Host.Outcome.next.inj e
  subst e
  have h1 : [.sess, .ev, .core, .power, .mem, .lane, .rx, .acq, .dec, .tx, .work, .gallery, .group, .bias, .trigPins,
      .cal] ⊆ ps := List.Subset.trans (by decide) hs
  have h2 : [.ev, .trigPins] ⊆ ps := List.Subset.trans (by decide) hs
  have h3 : [.ev, .mem, .selfTest, .flash, .lane, .rx, .acq, .tx, .work, .gallery, .group, .bias, .mon, .trigPins,
      .filter, .therm] ⊆ ps := List.Subset.trans (by decide) hs
  have h4 : [.group] ⊆ ps := List.Subset.trans (by decide) hs
  repeat' first
    | with_reducible exact h
    | with_reducible assumption
    | with_reducible refine State.outOfService_keeps ?_ h1 ..
    | with_reducible refine State.raise_keeps ?_ h2 ..
    | with_reducible refine State.spareTaken_keeps ?_ h3 ..
    | with_reducible refine State.modGroup_keeps ?_ h4 ..
    | ((with_reducible refine SameBut.iteKeep ?_ ?_); rotate_left; intro h; rotate_left)
    | split
    | (dsimp only)

theorem execGroupIdleTimerExpiry_keeps {ps : List Part} {s0 t : State} (h : SameBut ps s0 t)
    (hs : [.group] ⊆ ps) (g : Group) : ∀ out, execGroupIdleTimerExpiry g t = .next out → SameBut ps s0 out := by
  unfold execGroupIdleTimerExpiry
  intro out e
  have e := Host.Outcome.next.inj e
  subst e
  have h1 : [.group] ⊆ ps := List.Subset.trans (by decide) hs
  repeat' first
    | with_reducible exact h
    | with_reducible assumption
    | with_reducible refine State.modGroup_keeps ?_ h1 ..
    | ((with_reducible refine SameBut.iteKeep ?_ ?_); rotate_left; intro h; rotate_left)
    | split
    | (dsimp only)

theorem execHostTrain_keeps {ps : List Part} {s0 t : State} (h : SameBut ps s0 t)
    (hs : [.sess, .ev, .core, .power, .mem, .lane, .rx, .acq, .dec, .tx, .work, .gallery, .group, .bias, .trigPins,
        .cal] ⊆ ps) (k : Sess) : ∀ out, execHostTrain k t = .next out → SameBut ps s0 out := by
  unfold execHostTrain
  intro out e
  have e := Host.Outcome.next.inj e
  subst e
  have h1 : [.sess, .ev, .core, .power, .mem, .lane, .rx, .acq, .dec, .tx, .work, .gallery, .group, .bias, .trigPins,
      .cal] ⊆ ps := List.Subset.trans (by decide) hs
  have h2 : [.sess, .ev, .trigPins] ⊆ ps := List.Subset.trans (by decide) hs
  repeat' first
    | with_reducible exact h
    | with_reducible assumption
    | with_reducible refine State.startTraining_keeps ?_ h1 ..
    | ((with_reducible refine SameBut.guarded _ _ ?_ ?_); rotate_left; intro _ h; rotate_left)
    | ((with_reducible refine SameBut.runCmd _ _ _ h2 ?_ ?_); rotate_left; intro _ _ h; rotate_left)
    | split
    | (dsimp only)

end Sys2Proof.Machine
end

