-- ==== Sys2Proof/Laws/FrameExec4.lean ====
section
/-!
SUPPORT. Frames: what each command's meaning keeps.
-/
set_option maxRecDepth 10000
namespace Sys2Proof.Machine

theorem execHostSetLink_keeps {ps : List Part} {s0 t : State} (h : SameBut ps s0 t)
    (hs : [.sess, .ev, .group, .trigPins] ⊆ ps) (k : Sess) : ∀ out, execHostSetLink k t = .next out → SameBut ps s0 out := by
  unfold execHostSetLink
  intro out e
  have e := Host.Outcome.next.inj e
  subst e
  have h1 : [.group] ⊆ ps := List.Subset.trans (by decide) hs
  have h2 : [.sess, .ev, .trigPins] ⊆ ps := List.Subset.trans (by decide) hs
  repeat' first
    | with_reducible exact h
    | with_reducible assumption
    | with_reducible refine State.modGroup_keeps ?_ h1 ..
    | ((with_reducible refine SameBut.forAllSel _ _ _ _ ?_ ?_); rotate_left; intro _ _ h; rotate_left)
    | ((with_reducible refine SameBut.runCmd _ _ _ h2 ?_ ?_); rotate_left; intro _ _ h; rotate_left)
    | split
    | (dsimp only)

theorem execHostSetTx_keeps {ps : List Part} {s0 t : State} (h : SameBut ps s0 t)
    (hs : [.sess, .ev, .group, .trigPins] ⊆ ps) (k : Sess) : ∀ out, execHostSetTx k t = .next out → SameBut ps s0 out := by
  unfold execHostSetTx
  intro out e
  have e := Host.Outcome.next.inj e
  subst e
  have h1 : [.group] ⊆ ps := List.Subset.trans (by decide) hs
  have h2 : [.sess, .ev, .trigPins] ⊆ ps := List.Subset.trans (by decide) hs
  repeat' first
    | with_reducible exact h
    | with_reducible assumption
    | with_reducible refine State.modGroup_keeps ?_ h1 ..
    | ((with_reducible refine SameBut.iteKeep ?_ ?_); rotate_left; intro h; rotate_left)
    | ((with_reducible refine SameBut.forAllSel _ _ _ _ ?_ ?_); rotate_left; intro _ _ h; rotate_left)
    | ((with_reducible refine SameBut.runCmd _ _ _ h2 ?_ ?_); rotate_left; intro _ _ h; rotate_left)
    | split
    | (dsimp only)

theorem execHostRepair_keeps {ps : List Part} {s0 t : State} (h : SameBut ps s0 t)
    (hs : [.sess, .ev, .core, .power, .mem, .selfTest, .flash, .lane, .rx, .acq, .dec, .tx, .work, .gallery, .group,
        .bias, .mon, .trigPins, .filter, .therm, .cal] ⊆ ps) (k : Sess) : ∀ out,
        execHostRepair k t = .next out → SameBut ps s0 out := by
  unfold execHostRepair
  intro out e
  have e := Host.Outcome.next.inj e
  subst e
  have h1 : [.sess, .ev, .core, .power, .mem, .selfTest, .flash, .lane, .rx, .acq, .dec, .tx, .work, .gallery, .group,
      .bias, .mon, .trigPins, .filter, .therm, .cal] ⊆ ps := List.Subset.trans (by decide) hs
  have h2 : [.sess, .ev, .core, .power, .mem, .lane, .rx, .acq, .dec, .tx, .work, .gallery, .group, .bias, .trigPins,
      .cal] ⊆ ps := List.Subset.trans (by decide) hs
  have h3 : [.group] ⊆ ps := List.Subset.trans (by decide) hs
  have h4 : [.sess, .ev, .trigPins] ⊆ ps := List.Subset.trans (by decide) hs
  repeat' first
    | with_reducible exact h
    | with_reducible assumption
    | with_reducible refine State.hostLaneFail_keeps ?_ h1 ..
    | with_reducible refine State.hostTxFail_keeps ?_ h1 ..
    | with_reducible refine State.outOfService_keeps ?_ h2 ..
    | with_reducible refine State.modGroup_keeps ?_ h3 ..
    | ((with_reducible refine SameBut.iteKeep ?_ ?_); rotate_left; intro h; rotate_left)
    | ((with_reducible refine SameBut.guarded _ _ ?_ ?_); rotate_left; intro _ h; rotate_left)
    | ((with_reducible refine SameBut.runCmd _ _ _ h4 ?_ ?_); rotate_left; intro _ _ h; rotate_left)
    | split
    | (dsimp only)

theorem execHostSetLoopback_keeps {ps : List Part} {s0 t : State} (h : SameBut ps s0 t)
    (hs : [.sess, .ev, .power, .group, .bias, .trigPins] ⊆ ps) (k : Sess) : ∀ out,
        execHostSetLoopback k t = .next out → SameBut ps s0 out := by
  unfold execHostSetLoopback
  intro out e
  have e := Host.Outcome.next.inj e
  subst e
  have h1 : [.ev, .trigPins] ⊆ ps := List.Subset.trans (by decide) hs
  have h2 : [.ev, .power, .group, .trigPins] ⊆ ps := List.Subset.trans (by decide) hs
  have h3 : [.ev, .bias, .trigPins] ⊆ ps := List.Subset.trans (by decide) hs
  have h4 : [.group] ⊆ ps := List.Subset.trans (by decide) hs
  have h5 : [.sess, .ev, .trigPins] ⊆ ps := List.Subset.trans (by decide) hs
  repeat' first
    | with_reducible exact h
    | with_reducible assumption
    | with_reducible refine State.raise_keeps ?_ h1 ..
    | with_reducible refine State.setGroupPower_keeps ?_ h2 ..
    | with_reducible refine State.startLoop_keeps ?_ h3 ..
    | with_reducible refine State.modGroup_keeps ?_ h4 ..
    | ((with_reducible refine SameBut.iteKeep ?_ ?_); rotate_left; intro h; rotate_left)
    | ((with_reducible refine SameBut.guarded _ _ ?_ ?_); rotate_left; intro _ h; rotate_left)
    | ((with_reducible refine SameBut.runCmd _ _ _ h5 ?_ ?_); rotate_left; intro _ _ h; rotate_left)
    | split
    | (dsimp only)

theorem execHostGetStatus_keeps {ps : List Part} {s0 t : State} (h : SameBut ps s0 t)
    (hs : [.sess, .ev, .group, .trigPins] ⊆ ps) (k : Sess) : ∀ out,
        execHostGetStatus k t = .next out → SameBut ps s0 out := by
  unfold execHostGetStatus
  intro out e
  have e := Host.Outcome.next.inj e
  subst e
  have h1 : [.group] ⊆ ps := List.Subset.trans (by decide) hs
  have h2 : [.sess, .ev, .trigPins] ⊆ ps := List.Subset.trans (by decide) hs
  repeat' first
    | with_reducible exact h
    | with_reducible assumption
    | with_reducible refine State.modGroup_keeps ?_ h1 ..
    | ((with_reducible refine SameBut.iteKeep ?_ ?_); rotate_left; intro h; rotate_left)
    | ((with_reducible refine SameBut.runCmd _ _ _ h2 ?_ ?_); rotate_left; intro _ _ h; rotate_left)
    | split
    | (dsimp only)

theorem execHostResetGroup_keeps {ps : List Part} {s0 t : State} (h : SameBut ps s0 t)
    (hs : [.sess, .ev, .perf, .clk, .core, .mem, .group, .trigPins] ⊆ ps) (k : Sess) : ∀ out,
        execHostResetGroup k t = .next out → SameBut ps s0 out := by
  unfold execHostResetGroup
  intro out e
  have e := Host.Outcome.next.inj e
  subst e
  have h1 : [.sess, .ev, .group, .trigPins] ⊆ ps := List.Subset.trans (by decide) hs
  have h2 : [.clk] ⊆ ps := List.Subset.trans (by decide) hs
  have h3 : [.perf, .core, .mem] ⊆ ps := List.Subset.trans (by decide) hs
  have h4 : [.mem, .group] ⊆ ps := List.Subset.trans (by decide) hs
  have h5 : [.group] ⊆ ps := List.Subset.trans (by decide) hs
  have h6 : [.sess, .ev, .trigPins] ⊆ ps := List.Subset.trans (by decide) hs
  repeat' first
    | with_reducible exact h
    | with_reducible assumption
    | with_reducible refine State.abortGroupEntry_keeps ?_ h1 ..
    | with_reducible refine State.closeXing_keeps ?_ h2 ..
    | with_reducible refine State.resetEngine_keeps ?_ h3 ..
    | with_reducible refine State.saveGroup_keeps ?_ h4 ..
    | with_reducible refine State.modGroup_keeps ?_ h5 ..
    | ((with_reducible refine SameBut.iteKeep ?_ ?_); rotate_left; intro h; rotate_left)
    | ((with_reducible refine SameBut.guarded _ _ ?_ ?_); rotate_left; intro _ h; rotate_left)
    | ((with_reducible refine SameBut.runCmd _ _ _ h6 ?_ ?_); rotate_left; intro _ _ h; rotate_left)
    | split
    | (dsimp only)

theorem execGroupResetDone_keeps {ps : List Part} {s0 t : State} (h : SameBut ps s0 t)
    (hs : [.sess, .ev, .clk, .core, .power, .mem, .lane, .rx, .acq, .dec, .tx, .work, .gallery, .group, .bias, .trigPins,
        .cal] ⊆ ps) (g : Group) (discarded : Nat × Nat) : ∀ out,
        execGroupResetDone g discarded t = .next out → SameBut ps s0 out := by
  unfold execGroupResetDone
  intro out e
  have e := Host.Outcome.next.inj e
  subst e
  have h1 : [.ev, .clk, .trigPins] ⊆ ps := List.Subset.trans (by decide) hs
  have h2 : [.sess, .ev, .core, .power, .mem, .lane, .rx, .acq, .dec, .tx, .work, .gallery, .group, .bias, .trigPins,
      .cal] ⊆ ps := List.Subset.trans (by decide) hs
  have h3 : [.ev, .trigPins] ⊆ ps := List.Subset.trans (by decide) hs
  have h4 : [.ev, .mem, .lane, .rx, .tx, .group, .bias, .trigPins] ⊆ ps := List.Subset.trans (by decide) hs
  have h5 : [.ev, .power, .group, .trigPins] ⊆ ps := List.Subset.trans (by decide) hs
  have h6 : [.group] ⊆ ps := List.Subset.trans (by decide) hs
  repeat' first
    | with_reducible exact h
    | with_reducible assumption
    | with_reducible refine State.openXing_keeps ?_ h1 ..
    | with_reducible refine State.outOfService_keeps ?_ h2 ..
    | with_reducible refine State.raise_keeps ?_ h3 ..
    | with_reducible refine State.restoreGroup_keeps ?_ h4 ..
    | with_reducible refine State.retrain_keeps ?_ h5 ..
    | with_reducible refine State.modGroup_keeps ?_ h6 ..
    | ((with_reducible refine SameBut.iteKeep ?_ ?_); rotate_left; intro h; rotate_left)
    | split
    | (dsimp only)

theorem execHostSetPower_keeps {ps : List Part} {s0 t : State} (h : SameBut ps s0 t)
    (hs : [.sess, .ev, .core, .power, .mem, .lane, .rx, .acq, .dec, .tx, .work, .gallery, .group, .bias, .trigPins,
        .cal] ⊆ ps) (k : Sess) : ∀ out, execHostSetPower k t = .next out → SameBut ps s0 out := by
  unfold execHostSetPower
  intro out e
  have e := Host.Outcome.next.inj e
  subst e
  have h1 : [.sess, .ev, .core, .power, .mem, .lane, .rx, .acq, .dec, .tx, .work, .gallery, .group, .bias, .trigPins,
      .cal] ⊆ ps := List.Subset.trans (by decide) hs
  have h2 : [.group] ⊆ ps := List.Subset.trans (by decide) hs
  have h3 : [.sess, .ev, .trigPins] ⊆ ps := List.Subset.trans (by decide) hs
  repeat' first
    | with_reducible exact h
    | with_reducible assumption
    | with_reducible refine State.groupFromOff_keeps ?_ h1 ..
    | with_reducible refine State.modGroup_keeps ?_ h2 ..
    | ((with_reducible refine SameBut.iteKeep ?_ ?_); rotate_left; intro h; rotate_left)
    | ((with_reducible refine SameBut.guarded _ _ ?_ ?_); rotate_left; intro _ h; rotate_left)
    | ((with_reducible refine SameBut.runCmd _ _ _ h3 ?_ ?_); rotate_left; intro _ _ h; rotate_left)
    | split
    | (dsimp only)

theorem execSensorSample_keeps {ps : List Part} {s0 t : State} (h : SameBut ps s0 t)
    (hs : [.ev, .trigPins, .therm, .cal] ⊆ ps) (readings : List (Option Int)) : ∀ out,
        execSensorSample readings t = .next out → SameBut ps s0 out := by
  unfold execSensorSample
  intro out e
  have e := Host.Outcome.next.inj e
  subst e
  have h1 : [.therm] ⊆ ps := List.Subset.trans (by decide) hs
  have h2 : [.ev, .trigPins, .therm] ⊆ ps := List.Subset.trans (by decide) hs
  have h3 : [.ev, .trigPins] ⊆ ps := List.Subset.trans (by decide) hs
  have h4 : [.ev, .trigPins, .cal] ⊆ ps := List.Subset.trans (by decide) hs
  repeat' first
    | with_reducible exact h
    | with_reducible assumption
    | with_reducible refine State.dacTrim_keeps ?_ h1 ..
    | with_reducible refine State.fastSampling_keeps ?_ h2 ..
    | with_reducible refine State.sensorEvents_keeps ?_ h3 ..
    | with_reducible refine State.tempTrigger_keeps ?_ h4 ..
    | with_reducible refine State.trims_keeps ?_ h2 ..
    | with_reducible refine State.watchCool_keeps ?_ h1 ..
    | with_reducible refine State.modTherm_keeps ?_ h1 ..
    | ((with_reducible refine SameBut.iteKeep ?_ ?_); rotate_left; intro h; rotate_left)
    | ((with_reducible refine SameBut.each _ _ ?_ ?_); rotate_left; intro _ _ h; rotate_left)
    | split
    | (dsimp only)

theorem execPowerMeasurement_keeps {ps : List Part} {s0 t : State} (h : SameBut ps s0 t)
    (hs : [.therm] ⊆ ps) (rails : List (Nat × Nat)) (vBias : Nat) (outs : List (Nat × Nat)) : ∀ out,
        execPowerMeasurement rails vBias outs t = .next out → SameBut ps s0 out := by
  unfold execPowerMeasurement
  intro out e
  have e := Host.Outcome.next.inj e
  subst e
  have h1 : [.therm] ⊆ ps := List.Subset.trans (by decide) hs
  repeat' first
    | with_reducible exact h
    | with_reducible assumption
    | with_reducible refine State.modTherm_keeps ?_ h1 ..
    | (refine SameBut.mod h ?_; (intro q hq; cases q <;> first | exact rfl | exact absurd (hs (by decide)) hq))
    | split
    | (dsimp only)

theorem execThrottleTick_keeps {ps : List Part} {s0 t : State} (h : SameBut ps s0 t)
    (hs : [.ev, .mem, .selfTest, .flash, .lane, .rx, .acq, .tx, .work, .gallery, .group, .bias, .mon, .trigPins, .filter,
        .therm] ⊆ ps) (errs : List LaneError) : ∀ out, execThrottleTick errs t = .next out → SameBut ps s0 out := by
  unfold execThrottleTick
  intro out e
  have e := Host.Outcome.next.inj e
  subst e
  have h1 : [.rx, .work, .therm] ⊆ ps := List.Subset.trans (by decide) hs
  have h2 : [.ev, .mem, .selfTest, .flash, .lane, .rx, .acq, .tx, .work, .gallery, .group, .bias, .mon, .trigPins,
      .filter, .therm] ⊆ ps := List.Subset.trans (by decide) hs
  have h3 : [.ev, .trigPins] ⊆ ps := List.Subset.trans (by decide) hs
  have h4 : [.therm] ⊆ ps := List.Subset.trans (by decide) hs
  repeat' first
    | with_reducible exact h
    | with_reducible assumption
    | with_reducible refine State.applyLadder_keeps ?_ h1 ..
    | with_reducible refine State.endTest_keeps ?_ h2 ..
    | with_reducible refine State.giveUp_keeps ?_ h1 ..
    | with_reducible refine State.raise_keeps ?_ h3 ..
    | with_reducible refine State.modTherm_keeps ?_ h4 ..
    | ((with_reducible refine SameBut.iteKeep ?_ ?_); rotate_left; intro h; rotate_left)
    | (refine SameBut.mod h ?_; (intro q hq; cases q <;> first | exact rfl | exact absurd (hs (by decide)) hq))
    | split
    | (dsimp only)

theorem execTripSample_keeps {ps : List Part} {s0 t : State} (h : SameBut ps s0 t)
    (hs : [.sess, .ev, .core, .power, .mem, .selfTest, .flash, .lane, .rx, .acq, .dec, .tx, .work, .gallery, .group,
        .bias, .mon, .trigPins, .filter, .therm, .cal, .free] ⊆ ps)  : ∀ out,
        execTripSample t = .next out → SameBut ps s0 out := by
  unfold execTripSample
  intro out e
  have e := Host.Outcome.next.inj e
  subst e
  have h1 : [.sess, .ev, .core, .power, .mem, .selfTest, .flash, .lane, .rx, .acq, .dec, .tx, .work, .gallery, .group,
      .bias, .mon, .trigPins, .filter, .therm, .cal, .free] ⊆ ps := List.Subset.trans (by decide) hs
  have h2 : [.therm] ⊆ ps := List.Subset.trans (by decide) hs
  repeat' first
    | with_reducible exact h
    | with_reducible assumption
    | with_reducible refine State.trip_keeps ?_ h1 ..
    | with_reducible refine State.modTherm_keeps ?_ h2 ..
    | ((with_reducible refine SameBut.iteKeep ?_ ?_); rotate_left; intro h; rotate_left)
    | (refine SameBut.mod h ?_; (intro q hq; cases q <;> first | exact rfl | exact absurd (hs (by decide)) hq))
    | split
    | (dsimp only)

theorem execTripRecoverTimer_keeps {ps : List Part} {s0 t : State} (h : SameBut ps s0 t)
    (hs : [.bias, .trigPins, .filter, .therm] ⊆ ps)  : ∀ out, execTripRecoverTimer t = .next out → SameBut ps s0 out := by
  unfold execTripRecoverTimer
  intro out e
  have e := Host.Outcome.next.inj e
  subst e
  have h1 : [.bias, .trigPins, .filter, .therm] ⊆ ps := List.Subset.trans (by decide) hs
  repeat' first
    | with_reducible exact h
    | with_reducible assumption
    | with_reducible refine State.startRecovery_keeps ?_ h1 ..
    | ((with_reducible refine SameBut.iteKeep ?_ ?_); rotate_left; intro h; rotate_left)
    | split
    | (dsimp only)

theorem execTripRecoveryPowerUp_keeps {ps : List Part} {s0 t : State} (h : SameBut ps s0 t)
    (hs : [.ev, .rx, .tx, .work, .group, .bias, .trigPins, .therm, .cal] ⊆ ps)  : ∀ out,
        execTripRecoveryPowerUp t = .next out → SameBut ps s0 out := by
  unfold execTripRecoveryPowerUp
  intro out e
  have e := Host.Outcome.next.inj e
  subst e
  have h1 : [.cal] ⊆ ps := List.Subset.trans (by decide) hs
  have h2 : [.group] ⊆ ps := List.Subset.trans (by decide) hs
  have h3 : [.ev, .trigPins] ⊆ ps := List.Subset.trans (by decide) hs
  have h4 : [.rx, .tx, .work] ⊆ ps := List.Subset.trans (by decide) hs
  have h5 : [.bias] ⊆ ps := List.Subset.trans (by decide) hs
  have h6 : [.therm] ⊆ ps := List.Subset.trans (by decide) hs
  repeat' first
    | with_reducible exact h
    | with_reducible assumption
    | with_reducible refine State.calTrigger_keeps ?_ h1 ..
    | with_reducible refine State.grant_keeps ?_ h2 ..
    | with_reducible refine State.raise_keeps ?_ h3 ..
    | with_reducible refine State.recoverLane_keeps ?_ h4 ..
    | with_reducible refine State.thawAll_keeps ?_ h5 ..
    | with_reducible refine State.modTherm_keeps ?_ h6 ..
    | ((with_reducible refine SameBut.iteKeep ?_ ?_); rotate_left; intro h; rotate_left)
    | ((with_reducible refine SameBut.each _ _ ?_ ?_); rotate_left; intro _ _ h; rotate_left)
    | (refine SameBut.mod h ?_; (intro q hq; cases q <;> first | exact rfl | exact absurd (hs (by decide)) hq))
    | split
    | (dsimp only)

theorem execPllTrimStep_keeps {ps : List Part} {s0 t : State} (h : SameBut ps s0 t)
    (hs : [.therm] ⊆ ps)  : ∀ out, execPllTrimStep t = .next out → SameBut ps s0 out := by
  unfold execPllTrimStep
  intro out e
  have e := Host.Outcome.next.inj e
  subst e
  have h1 : [.therm] ⊆ ps := List.Subset.trans (by decide) hs
  repeat' first
    | with_reducible exact h
    | with_reducible assumption
    | with_reducible refine State.modTherm_keeps ?_ h1 ..
    | ((with_reducible refine SameBut.iteKeep ?_ ?_); rotate_left; intro h; rotate_left)
    | (refine SameBut.mod h ?_; (intro q hq; cases q <;> first | exact rfl | exact absurd (hs (by decide)) hq))
    | split
    | (dsimp only)

theorem execThermGetStatus_keeps {ps : List Part} {s0 t : State} (h : SameBut ps s0 t)
    (hs : [.sess, .ev, .trigPins] ⊆ ps) (k : Sess) : ∀ out, execThermGetStatus k t = .next out → SameBut ps s0 out := by
  unfold execThermGetStatus
  intro out e
  have e := Host.Outcome.next.inj e
  subst e
  have h1 : [.sess, .ev, .trigPins] ⊆ ps := List.Subset.trans (by decide) hs
  repeat' first
    | with_reducible exact h
    | with_reducible assumption
    | ((with_reducible refine SameBut.runCmd _ _ _ h1 ?_ ?_); rotate_left; intro _ _ h; rotate_left)
    | split
    | (dsimp only)

theorem execThermSetLimits_keeps {ps : List Part} {s0 t : State} (h : SameBut ps s0 t)
    (hs : [.sess, .ev, .trigPins, .therm] ⊆ ps) (k : Sess) : ∀ out,
        execThermSetLimits k t = .next out → SameBut ps s0 out := by
  unfold execThermSetLimits
  intro out e
  have e := Host.Outcome.next.inj e
  subst e
  have h1 : [.therm] ⊆ ps := List.Subset.trans (by decide) hs
  have h2 : [.sess, .ev, .trigPins] ⊆ ps := List.Subset.trans (by decide) hs
  repeat' first
    | with_reducible exact h
    | with_reducible assumption
    | with_reducible refine State.modTherm_keeps ?_ h1 ..
    | ((with_reducible refine SameBut.iteKeep ?_ ?_); rotate_left; intro h; rotate_left)
    | ((with_reducible refine SameBut.guarded _ _ ?_ ?_); rotate_left; intro _ h; rotate_left)
    | ((with_reducible refine SameBut.runCmd _ _ _ h2 ?_ ?_); rotate_left; intro _ _ h; rotate_left)
    | (refine SameBut.mod h ?_; (intro q hq; cases q <;> first | exact rfl | exact absurd (hs (by decide)) hq))
    | split
    | (dsimp only)

theorem execThermRestoreSensor_keeps {ps : List Part} {s0 t : State} (h : SameBut ps s0 t)
    (hs : [.sess, .ev, .trigPins, .therm] ⊆ ps) (k : Sess) : ∀ out,
        execThermRestoreSensor k t = .next out → SameBut ps s0 out := by
  unfold execThermRestoreSensor
  intro out e
  have e := Host.Outcome.next.inj e
  subst e
  have h1 : [.ev, .trigPins] ⊆ ps := List.Subset.trans (by decide) hs
  have h2 : [.therm] ⊆ ps := List.Subset.trans (by decide) hs
  have h3 : [.sess, .ev, .trigPins] ⊆ ps := List.Subset.trans (by decide) hs
  repeat' first
    | with_reducible exact h
    | with_reducible assumption
    | with_reducible refine State.raise_keeps ?_ h1 ..
    | with_reducible refine State.modTherm_keeps ?_ h2 ..
    | ((with_reducible refine SameBut.guarded _ _ ?_ ?_); rotate_left; intro _ h; rotate_left)
    | ((with_reducible refine SameBut.runCmd _ _ _ h3 ?_ ?_); rotate_left; intro _ _ h; rotate_left)
    | (refine SameBut.mod h ?_; (intro q hq; cases q <;> first | exact rfl | exact absurd (hs (by decide)) hq))
    | split
    | (dsimp only)

theorem execThermClearTrip_keeps {ps : List Part} {s0 t : State} (h : SameBut ps s0 t)
    (hs : [.sess, .ev, .bias, .trigPins, .filter, .therm] ⊆ ps) (k : Sess) : ∀ out,
        execThermClearTrip k t = .next out → SameBut ps s0 out := by
  unfold execThermClearTrip
  intro out e
  have e := Host.Outcome.next.inj e
  subst e
  have h1 : [.bias, .trigPins, .filter, .therm] ⊆ ps := List.Subset.trans (by decide) hs
  have h2 : [.sess, .ev, .trigPins] ⊆ ps := List.Subset.trans (by decide) hs
  repeat' first
    | with_reducible exact h
    | with_reducible assumption
    | with_reducible refine State.startRecovery_keeps ?_ h1 ..
    | ((with_reducible refine SameBut.guarded _ _ ?_ ?_); rotate_left; intro _ h; rotate_left)
    | ((with_reducible refine SameBut.runCmd _ _ _ h2 ?_ ?_); rotate_left; intro _ _ h; rotate_left)
    | split
    | (dsimp only)

theorem execCtlrstNAssert_keeps {ps : List Part} {s0 t : State} (h : SameBut ps s0 t)
    (hs : [.bus, .sess, .ev, .perf, .snap, .pins, .clk, .core, .power, .mem, .fwReady, .ctlRestart, .img, .lane, .work,
        .gallery, .group, .bias, .mon, .trigPins] ⊆ ps)  : ∀ out, execCtlrstNAssert t = .next out → SameBut ps s0 out := by
  unfold execCtlrstNAssert
  intro out e
  have e := Host.Outcome.next.inj e
  subst e
  have h1 : [.bus, .sess, .ev, .perf, .power, .trigPins] ⊆ ps := List.Subset.trans (by decide) hs
  have h2 : [.bus, .sess, .ev, .perf, .snap, .clk, .core, .mem, .fwReady, .ctlRestart, .img, .lane, .work, .gallery,
      .group, .bias, .mon, .trigPins] ⊆ ps := List.Subset.trans (by decide) hs
  have h3 : [.pins] ⊆ ps := List.Subset.trans (by decide) hs
  repeat' first
    | with_reducible exact h
    | with_reducible assumption
    | with_reducible refine State.abandonDormant_keeps ?_ h1 ..
    | with_reducible refine State.ctlAssert_keeps ?_ h2 ..
    | with_reducible refine State.modPins_keeps ?_ h3 ..
    | ((with_reducible refine SameBut.iteKeep ?_ ?_); rotate_left; intro h; rotate_left)
    | split
    | (dsimp only)

theorem execCtlrstNRelease_keeps {ps : List Part} {s0 t : State} (h : SameBut ps s0 t)
    (hs : [.ev, .pins, .clk, .core, .ctlRestart, .trigPins] ⊆ ps) (discarded : Nat × Nat) : ∀ out,
        execCtlrstNRelease discarded t = .next out → SameBut ps s0 out := by
  unfold execCtlrstNRelease
  intro out e
  have e := Host.Outcome.next.inj e
  subst e
  have h1 : [.ev, .pins, .clk, .core, .ctlRestart, .trigPins] ⊆ ps := List.Subset.trans (by decide) hs
  have h2 : [.pins] ⊆ ps := List.Subset.trans (by decide) hs
  repeat' first
    | with_reducible exact h
    | with_reducible assumption
    | with_reducible refine State.ctlRelease_keeps ?_ h1 ..
    | with_reducible refine State.modPins_keeps ?_ h2 ..
    | ((with_reducible refine SameBut.iteKeep ?_ ?_); rotate_left; intro h; rotate_left)
    | split
    | (dsimp only)

theorem execCtlResetDone_keeps {ps : List Part} {s0 t : State} (h : SameBut ps s0 t)
    (hs : [.bus, .sess, .ev, .perf, .snap, .fwReady, .ctlRestart, .trigPins] ⊆ ps)  : ∀ out,
        execCtlResetDone t = .next out → SameBut ps s0 out := by
  unfold execCtlResetDone
  intro out e
  have e := Host.Outcome.next.inj e
  subst e
  have h1 : [.bus, .sess, .ev, .perf, .snap, .fwReady, .ctlRestart, .trigPins] ⊆ ps := List.Subset.trans (by decide) hs
  repeat' first
    | with_reducible exact h
    | with_reducible assumption
    | with_reducible refine State.ctlDone_keeps ?_ h1 ..
    | ((with_reducible refine SameBut.iteKeep ?_ ?_); rotate_left; intro h; rotate_left)
    | split
    | (dsimp only)

theorem execDevCtlReset_keeps {ps : List Part} {s0 t : State} (h : SameBut ps s0 t)
    (hs : [.bus, .sess, .ev, .perf, .snap, .pins, .clk, .core, .mem, .fwReady, .ctlRestart, .img, .lane, .work, .gallery,
        .group, .bias, .mon, .trigPins] ⊆ ps) (k : Sess) (discarded : Nat × Nat) : ∀ out,
        execDevCtlReset k discarded t = .next out → SameBut ps s0 out := by
  unfold execDevCtlReset
  intro out e
  have e := Host.Outcome.next.inj e
  subst e
  have h1 : [.bus, .sess, .ev, .perf, .snap, .clk, .core, .mem, .fwReady, .ctlRestart, .img, .lane, .work, .gallery,
      .group, .bias, .mon, .trigPins] ⊆ ps := List.Subset.trans (by decide) hs
  have h2 : [.ev, .pins, .clk, .core, .ctlRestart, .trigPins] ⊆ ps := List.Subset.trans (by decide) hs
  have h3 : [.sess, .ev, .trigPins] ⊆ ps := List.Subset.trans (by decide) hs
  repeat' first
    | with_reducible exact h
    | with_reducible assumption
    | with_reducible refine State.ctlAssert_keeps ?_ h1 ..
    | with_reducible refine State.ctlRelease_keeps ?_ h2 ..
    | ((with_reducible refine SameBut.runCmd _ _ _ h3 ?_ ?_); rotate_left; intro _ _ h; rotate_left)
    | split
    | (dsimp only)

theorem execPowerEnterDormant_keeps {ps : List Part} {s0 t : State} (h : SameBut ps s0 t)
    (hs : [.sess, .ev, .power, .trigPins] ⊆ ps) (k : Sess) : ∀ out,
        execPowerEnterDormant k t = .next out → SameBut ps s0 out := by
  unfold execPowerEnterDormant
  intro out e
  have e := Host.Outcome.next.inj e
  subst e
  have h1 : [.power] ⊆ ps := List.Subset.trans (by decide) hs
  have h2 : [.sess, .ev, .trigPins] ⊆ ps := List.Subset.trans (by decide) hs
  repeat' first
    | with_reducible exact h
    | with_reducible assumption
    | with_reducible refine State.modPower_keeps ?_ h1 ..
    | ((with_reducible refine SameBut.guarded _ _ ?_ ?_); rotate_left; intro _ h; rotate_left)
    | ((with_reducible refine SameBut.runCmd _ _ _ h2 ?_ ?_); rotate_left; intro _ _ h; rotate_left)
    | split
    | (dsimp only)

theorem execDormantCommit_keeps {ps : List Part} {s0 t : State} (h : SameBut ps s0 t)
    (hs : [.ev, .clk, .power, .avs, .bias, .trigPins] ⊆ ps)  : ∀ out,
        execDormantCommit t = .next out → SameBut ps s0 out := by
  unfold execDormantCommit
  intro out e
  have e := Host.Outcome.next.inj e
  subst e
  have h1 : [.ev, .bias, .trigPins] ⊆ ps := List.Subset.trans (by decide) hs
  have h2 : [.ev, .power, .trigPins] ⊆ ps := List.Subset.trans (by decide) hs
  have h3 : [.clk] ⊆ ps := List.Subset.trans (by decide) hs
  have h4 : [.power] ⊆ ps := List.Subset.trans (by decide) hs
  have h5 : [.avs] ⊆ ps := List.Subset.trans (by decide) hs
  repeat' first
    | with_reducible exact h
    | with_reducible assumption
    | with_reducible refine State.freezeAll_keeps ?_ h1 ..
    | with_reducible refine State.setDev_keeps ?_ h2 ..
    | with_reducible refine State.modClk_keeps ?_ h3 ..
    | with_reducible refine State.modPower_keeps ?_ h4 ..
    | with_reducible refine State.modAvs_keeps ?_ h5 ..
    | ((with_reducible refine SameBut.iteKeep ?_ ?_); rotate_left; intro h; rotate_left)
    | split
    | (dsimp only)

theorem execDormantReached_keeps {ps : List Part} {s0 t : State} (h : SameBut ps s0 t)
    (hs : [.clk, .power] ⊆ ps)  : ∀ out, execDormantReached t = .next out → SameBut ps s0 out := by
  unfold execDormantReached
  intro out e
  have e := Host.Outcome.next.inj e
  subst e
  have h1 : [.clk] ⊆ ps := List.Subset.trans (by decide) hs
  have h2 : [.power] ⊆ ps := List.Subset.trans (by decide) hs
  repeat' first
    | with_reducible exact h
    | with_reducible assumption
    | with_reducible refine State.modClk_keeps ?_ h1 ..
    | with_reducible refine State.modPower_keeps ?_ h2 ..
    | ((with_reducible refine SameBut.iteKeep ?_ ?_); rotate_left; intro h; rotate_left)
    | split
    | (dsimp only)

theorem execWakeSource_keeps {ps : List Part} {s0 t : State} (h : SameBut ps s0 t)
    (hs : [.bus, .sess, .ev, .perf, .pins, .power, .avs, .trigPins] ⊆ ps) (src : Fin 4) : ∀ out,
        execWakeSource src t = .next out → SameBut ps s0 out := by
  unfold execWakeSource
  intro out e
  have e := Host.Outcome.next.inj e
  subst e
  have h1 : [.bus, .sess, .ev, .perf, .power, .trigPins] ⊆ ps := List.Subset.trans (by decide) hs
  have h2 : [.pins] ⊆ ps := List.Subset.trans (by decide) hs
  have h3 : [.power] ⊆ ps := List.Subset.trans (by decide) hs
  have h4 : [.avs] ⊆ ps := List.Subset.trans (by decide) hs
  repeat' first
    | with_reducible exact h
    | with_reducible assumption
    | with_reducible refine State.abandonDormant_keeps ?_ h1 ..
    | with_reducible refine State.modPins_keeps ?_ h2 ..
    | with_reducible refine State.modPower_keeps ?_ h3 ..
    | with_reducible refine State.modAvs_keeps ?_ h4 ..
    | ((with_reducible refine SameBut.iteKeep ?_ ?_); rotate_left; intro h; rotate_left)
    | split
    | (dsimp only)

theorem execWakeComplete_keeps {ps : List Part} {s0 t : State} (h : SameBut ps s0 t)
    (hs : [.lock, .bus, .sess, .ev, .perf, .snap, .pins, .clk, .core, .power, .avs, .mem, .fwReady, .ctlRestart, .img,
        .lane, .work, .gallery, .group, .bias, .mon, .trigPins, .therm] ⊆ ps) (discarded : Nat × Nat) : ∀ out,
        execWakeComplete discarded t = .next out → SameBut ps s0 out := by
  unfold execWakeComplete
  intro out e
  have e := Host.Outcome.next.inj e
  subst e
  have h1 : [.bus, .sess, .ev, .perf, .snap, .clk, .core, .mem, .fwReady, .ctlRestart, .img, .lane, .work, .gallery,
      .group, .bias, .mon, .trigPins] ⊆ ps := List.Subset.trans (by decide) hs
  have h2 : [.ev, .pins, .clk, .core, .ctlRestart, .trigPins] ⊆ ps := List.Subset.trans (by decide) hs
  have h3 : [.ev, .trigPins] ⊆ ps := List.Subset.trans (by decide) hs
  have h4 : [.lock, .bus, .sess, .ev, .core, .power, .avs, .mem, .lane, .group, .trigPins,
      .therm] ⊆ ps := List.Subset.trans (by decide) hs
  have h5 : [.ev, .power, .trigPins] ⊆ ps := List.Subset.trans (by decide) hs
  have h6 : [.bus, .sess, .ev, .perf, .trigPins] ⊆ ps := List.Subset.trans (by decide) hs
  have h7 : [.bias] ⊆ ps := List.Subset.trans (by decide) hs
  have h8 : [.pins] ⊆ ps := List.Subset.trans (by decide) hs
  have h9 : [.power] ⊆ ps := List.Subset.trans (by decide) hs
  repeat' first
    | with_reducible exact h
    | with_reducible assumption
    | with_reducible refine State.ctlAssert_keeps ?_ h1 ..
    | with_reducible refine State.ctlRelease_keeps ?_ h2 ..
    | with_reducible refine State.raise_keeps ?_ h3 ..
    | with_reducible refine State.restoreDevice_keeps ?_ h4 ..
    | with_reducible refine State.setDev_keeps ?_ h5 ..
    | with_reducible refine State.settleRings_keeps ?_ h6 ..
    | with_reducible refine State.thawAll_keeps ?_ h7 ..
    | with_reducible refine State.modPins_keeps ?_ h8 ..
    | with_reducible refine State.modPower_keeps ?_ h9 ..
    | ((with_reducible refine SameBut.iteKeep ?_ ?_); rotate_left; intro h; rotate_left)
    | ((with_reducible refine SameBut.modSys ?_ ?_); rotate_left; (intro q hq; cases q <;> first | exact rfl | exact absurd (hs (by decide)) hq))
    | split
    | (dsimp only)

theorem execClockStretchLimit_keeps {ps : List Part} {s0 t : State} (h : SameBut ps s0 t)
    (hs : [.bus, .ev, .pins, .trigPins] ⊆ ps)  : ∀ out, execClockStretchLimit t = .next out → SameBut ps s0 out := by
  unfold execClockStretchLimit
  intro out e
  have e := Host.Outcome.next.inj e
  subst e
  have h1 : [.bus, .ev, .trigPins] ⊆ ps := List.Subset.trans (by decide) hs
  have h2 : [.pins] ⊆ ps := List.Subset.trans (by decide) hs
  repeat' first
    | with_reducible exact h
    | with_reducible assumption
    | with_reducible refine State.busErr_keeps ?_ h1 ..
    | with_reducible refine State.modPins_keeps ?_ h2 ..
    | ((with_reducible refine SameBut.iteKeep ?_ ?_); rotate_left; intro h; rotate_left)
    | split
    | (dsimp only)

theorem execDevResetCore_keeps {ps : List Part} {s0 t : State} (h : SameBut ps s0 t)
    (hs : [.sess, .ev, .perf, .clk, .core, .power, .mem, .selfTest, .flash, .lane, .rx, .acq, .dec, .tx, .work, .gallery,
        .group, .bias, .mon, .trigPins, .filter, .therm, .cal, .free] ⊆ ps) (k : Sess) : ∀ out,
        execDevResetCore k t = .next out → SameBut ps s0 out := by
  unfold execDevResetCore
  intro out e
  have e := Host.Outcome.next.inj e
  subst e
  have h1 : [.sess, .ev, .perf, .clk, .core, .power, .mem, .selfTest, .flash, .lane, .rx, .acq, .dec, .tx, .work,
      .gallery, .group, .bias, .mon, .trigPins, .filter, .therm, .cal, .free] ⊆ ps := List.Subset.trans (by decide) hs
  have h2 : [.sess, .ev, .trigPins] ⊆ ps := List.Subset.trans (by decide) hs
  repeat' first
    | with_reducible exact h
    | with_reducible assumption
    | with_reducible refine State.coreFails_keeps ?_ h1 ..
    | ((with_reducible refine SameBut.guarded _ _ ?_ ?_); rotate_left; intro _ h; rotate_left)
    | ((with_reducible refine SameBut.runCmd _ _ _ h2 ?_ ?_); rotate_left; intro _ _ h; rotate_left)
    | split
    | (dsimp only)

theorem execDevSetWatchdog_keeps {ps : List Part} {s0 t : State} (h : SameBut ps s0 t)
    (hs : [.sess, .ev, .core, .trigPins] ⊆ ps) (k : Sess) : ∀ out,
        execDevSetWatchdog k t = .next out → SameBut ps s0 out := by
  unfold execDevSetWatchdog
  intro out e
  have e := Host.Outcome.next.inj e
  subst e
  have h1 : [.core] ⊆ ps := List.Subset.trans (by decide) hs
  have h2 : [.sess, .ev, .trigPins] ⊆ ps := List.Subset.trans (by decide) hs
  repeat' first
    | with_reducible exact h
    | with_reducible assumption
    | with_reducible refine State.modCore_keeps ?_ h1 ..
    | ((with_reducible refine SameBut.iteKeep ?_ ?_); rotate_left; intro h; rotate_left)
    | ((with_reducible refine SameBut.forAllSel _ _ _ _ ?_ ?_); rotate_left; intro _ _ h; rotate_left)
    | ((with_reducible refine SameBut.runCmd _ _ _ h2 ?_ ?_); rotate_left; intro _ _ h; rotate_left)
    | split
    | (dsimp only)

theorem execDevGetCores_keeps {ps : List Part} {s0 t : State} (h : SameBut ps s0 t)
    (hs : [.sess, .ev, .trigPins] ⊆ ps) (k : Sess) : ∀ out, execDevGetCores k t = .next out → SameBut ps s0 out := by
  unfold execDevGetCores
  intro out e
  have e := Host.Outcome.next.inj e
  subst e
  have h1 : [.sess, .ev, .trigPins] ⊆ ps := List.Subset.trans (by decide) hs
  repeat' first
    | with_reducible exact h
    | with_reducible assumption
    | ((with_reducible refine SameBut.runCmd _ _ _ h1 ?_ ?_); rotate_left; intro _ _ h; rotate_left)
    | split
    | (dsimp only)

theorem execDevPublishSnapshot_keeps {ps : List Part} {s0 t : State} (h : SameBut ps s0 t)
    (hs : [.sess, .ev, .snap, .trigPins] ⊆ ps) (k : Sess) : ∀ out,
        execDevPublishSnapshot k t = .next out → SameBut ps s0 out := by
  unfold execDevPublishSnapshot
  intro out e
  have e := Host.Outcome.next.inj e
  subst e
  have h1 : [.snap] ⊆ ps := List.Subset.trans (by decide) hs
  have h2 : [.sess, .ev, .trigPins] ⊆ ps := List.Subset.trans (by decide) hs
  repeat' first
    | with_reducible exact h
    | with_reducible assumption
    | with_reducible refine State.startSnapshot_keeps ?_ h1 ..
    | ((with_reducible refine SameBut.guarded _ _ ?_ ?_); rotate_left; intro _ h; rotate_left)
    | ((with_reducible refine SameBut.runCmd _ _ _ h2 ?_ ?_); rotate_left; intro _ _ h; rotate_left)
    | split
    | (dsimp only)

theorem execSnapshotPublished_keeps {ps : List Part} {s0 t : State} (h : SameBut ps s0 t)
    (hs : [.sess, .ev, .snap, .trigPins] ⊆ ps)  : ∀ out, execSnapshotPublished t = .next out → SameBut ps s0 out := by
  unfold execSnapshotPublished
  intro out e
  have e := Host.Outcome.next.inj e
  subst e
  have h1 : [.sess, .ev, .snap, .trigPins] ⊆ ps := List.Subset.trans (by decide) hs
  repeat' first
    | with_reducible exact h
    | with_reducible assumption
    | with_reducible refine State.endSnapshot_keeps ?_ h1 ..
    | split
    | (dsimp only)

theorem execEventRead_keeps {ps : List Part} {s0 t : State} (h : SameBut ps s0 t)
    (hs : [.sess, .ev, .trigPins] ⊆ ps) (k : Sess) : ∀ out, execEventRead k t = .next out → SameBut ps s0 out := by
  unfold execEventRead
  intro out e
  have e := Host.Outcome.next.inj e
  subst e
  have h1 : [.sess, .ev, .trigPins] ⊆ ps := List.Subset.trans (by decide) hs
  repeat' first
    | with_reducible exact h
    | with_reducible assumption
    | ((with_reducible refine SameBut.runCmd _ _ _ h1 ?_ ?_); rotate_left; intro _ _ h; rotate_left)
    | split
    | (dsimp only)

theorem execEventAck_keeps {ps : List Part} {s0 t : State} (h : SameBut ps s0 t)
    (hs : [.sess, .ev, .trigPins] ⊆ ps) (k : Sess) : ∀ out, execEventAck k t = .next out → SameBut ps s0 out := by
  unfold execEventAck
  intro out e
  have e := Host.Outcome.next.inj e
  subst e
  have h1 : [.ev] ⊆ ps := List.Subset.trans (by decide) hs
  have h2 : [.sess, .ev, .trigPins] ⊆ ps := List.Subset.trans (by decide) hs
  repeat' first
    | with_reducible exact h
    | with_reducible assumption
    | (rename_i heq; exact State.evAck_keeps h h1 _ _ heq)
    | (rename_i heq; exact State.evAck_keeps h h1 _ _ _ heq)
    | (rename_i heq; refine State.evAck_keeps ?_ h1 _ _ heq)
    | (rename_i heq; refine State.evAck_keeps ?_ h1 _ _ _ heq)
    | ((with_reducible refine SameBut.runCmd _ _ _ h2 ?_ ?_); rotate_left; intro _ _ h; rotate_left)
    | split
    | (dsimp only)

theorem execPerfListSelectors_keeps {ps : List Part} {s0 t : State} (h : SameBut ps s0 t)
    (hs : [.sess, .ev, .trigPins] ⊆ ps) (k : Sess) : ∀ out, execPerfListSelectors k t = .next out → SameBut ps s0 out := by
  unfold execPerfListSelectors
  intro out e
  have e := Host.Outcome.next.inj e
  subst e
  have h1 : [.sess, .ev, .trigPins] ⊆ ps := List.Subset.trans (by decide) hs
  repeat' first
    | with_reducible exact h
    | with_reducible assumption
    | ((with_reducible refine SameBut.runCmd _ _ _ h1 ?_ ?_); rotate_left; intro _ _ h; rotate_left)
    | split
    | (dsimp only)

theorem execPerfSnapshot_keeps {ps : List Part} {s0 t : State} (h : SameBut ps s0 t)
    (hs : [.sess, .ev, .trigPins] ⊆ ps) (k : Sess) : ∀ out, execPerfSnapshot k t = .next out → SameBut ps s0 out := by
  unfold execPerfSnapshot
  intro out e
  have e := Host.Outcome.next.inj e
  subst e
  have h1 : [.sess] ⊆ ps := List.Subset.trans (by decide) hs
  have h2 : [.sess, .ev, .trigPins] ⊆ ps := List.Subset.trans (by decide) hs
  repeat' first
    | with_reducible exact h
    | with_reducible assumption
    | with_reducible refine State.modSess_keeps ?_ h1 ..
    | ((with_reducible refine SameBut.foldlSnd _ _ _ ?_ ?_); rotate_left; intro _ _ h; rotate_left)
    | ((with_reducible refine SameBut.foldl _ _ ?_ ?_); rotate_left; intro _ _ h; rotate_left)
    | ((with_reducible refine SameBut.runCmd _ _ _ h2 ?_ ?_); rotate_left; intro _ _ h; rotate_left)
    | split
    | (dsimp only)

theorem execPerfConfigure_keeps {ps : List Part} {s0 t : State} (h : SameBut ps s0 t)
    (hs : [.sess, .ev, .perf, .trigPins] ⊆ ps) (k : Sess) : ∀ out,
        execPerfConfigure k t = .next out → SameBut ps s0 out := by
  unfold execPerfConfigure
  intro out e
  have e := Host.Outcome.next.inj e
  subst e
  have h1 : [.perf] ⊆ ps := List.Subset.trans (by decide) hs
  have h2 : [.sess, .ev, .trigPins] ⊆ ps := List.Subset.trans (by decide) hs
  repeat' first
    | with_reducible exact h
    | with_reducible assumption
    | with_reducible refine State.modPerf_keeps ?_ h1 ..
    | ((with_reducible refine SameBut.iteKeep ?_ ?_); rotate_left; intro h; rotate_left)
    | ((with_reducible refine SameBut.forAllSel _ _ _ _ ?_ ?_); rotate_left; intro _ _ h; rotate_left)
    | ((with_reducible refine SameBut.runCmd _ _ _ h2 ?_ ?_); rotate_left; intro _ _ h; rotate_left)
    | split
    | (dsimp only)

theorem execPerfSetSample_keeps {ps : List Part} {s0 t : State} (h : SameBut ps s0 t)
    (hs : [.sess, .ev, .perf, .trigPins] ⊆ ps) (k : Sess) : ∀ out,
        execPerfSetSample k t = .next out → SameBut ps s0 out := by
  unfold execPerfSetSample
  intro out e
  have e := Host.Outcome.next.inj e
  subst e
  have h1 : [.perf] ⊆ ps := List.Subset.trans (by decide) hs
  have h2 : [.sess, .ev, .trigPins] ⊆ ps := List.Subset.trans (by decide) hs
  repeat' first
    | with_reducible exact h
    | with_reducible assumption
    | with_reducible refine State.modPerf_keeps ?_ h1 ..
    | ((with_reducible refine SameBut.runCmd _ _ _ h2 ?_ ?_); rotate_left; intro _ _ h; rotate_left)
    | split
    | (dsimp only)

theorem execPerfReadSamples_keeps {ps : List Part} {s0 t : State} (h : SameBut ps s0 t)
    (hs : [.sess, .ev, .perf, .trigPins] ⊆ ps) (k : Sess) : ∀ out,
        execPerfReadSamples k t = .next out → SameBut ps s0 out := by
  unfold execPerfReadSamples
  intro out e
  have e := Host.Outcome.next.inj e
  subst e
  have h1 : [.perf] ⊆ ps := List.Subset.trans (by decide) hs
  have h2 : [.sess, .ev, .trigPins] ⊆ ps := List.Subset.trans (by decide) hs
  repeat' first
    | with_reducible exact h
    | with_reducible assumption
    | with_reducible refine State.modPerf_keeps ?_ h1 ..
    | ((with_reducible refine SameBut.runCmd _ _ _ h2 ?_ ?_); rotate_left; intro _ _ h; rotate_left)
    | split
    | (dsimp only)

theorem execPerfCounterOverflow_keeps {ps : List Part} {s0 t : State} (h : SameBut ps s0 t)
    (hs : [.bus, .sess, .ev, .perf, .trigPins] ⊆ ps) (c : Core) (i : Fin 6) (address : Word) (two : Bool) : ∀ out,
        execPerfCounterOverflow c i address two t = .next out → SameBut ps s0 out := by
  unfold execPerfCounterOverflow
  intro out e
  have e := Host.Outcome.next.inj e
  subst e
  have h1 : [.perf] ⊆ ps := List.Subset.trans (by decide) hs
  have h2 : [.ev, .trigPins] ⊆ ps := List.Subset.trans (by decide) hs
  have h3 : [.bus, .sess, .ev, .perf, .trigPins] ⊆ ps := List.Subset.trans (by decide) hs
  repeat' first
    | with_reducible exact h
    | with_reducible assumption
    | with_reducible refine State.modPerf_keeps ?_ h1 ..
    | with_reducible refine State.raise_keeps ?_ h2 ..
    | with_reducible refine State.ring_keeps ?_ h3 ..
    | ((with_reducible refine SameBut.iteKeep ?_ ?_); rotate_left; intro h; rotate_left)
    | split
    | (dsimp only)

theorem execInnerCwDecoded_keeps {ps : List Part} {s0 t : State} (h : SameBut ps s0 t)
    (hs : [.ev, .dec, .work, .trigPins] ⊆ ps) (p : Phys) (hard : BitVec 128) (rel : List Nat) : ∀ out,
        execInnerCwDecoded p hard rel t = .next out → SameBut ps s0 out := by
  unfold execInnerCwDecoded
  intro out e
  have e := Host.Outcome.next.inj e
  subst e
  have h1 : [.ev, .trigPins] ⊆ ps := List.Subset.trans (by decide) hs
  have h2 : [.dec] ⊆ ps := List.Subset.trans (by decide) hs
  have h3 : [.work] ⊆ ps := List.Subset.trans (by decide) hs
  repeat' first
    | with_reducible exact h
    | with_reducible assumption
    | with_reducible refine State.raiseW_keeps ?_ h1 ..
    | with_reducible refine State.modDec_keeps ?_ h2 ..
    | with_reducible refine State.modFec_keeps ?_ h3 ..
    | ((with_reducible refine SameBut.iteKeep ?_ ?_); rotate_left; intro h; rotate_left)
    | split
    | (dsimp only)

theorem execOuterCwDecoded_keeps {ps : List Part} {s0 t : State} (h : SameBut ps s0 t)
    (hs : [.ev, .acq, .dec, .work, .trigPins] ⊆ ps) (p : Phys) : ∀ out,
        execOuterCwDecoded p t = .next out → SameBut ps s0 out := by
  unfold execOuterCwDecoded
  intro out e
  have e := Host.Outcome.next.inj e
  subst e
  have h1 : [.acq] ⊆ ps := List.Subset.trans (by decide) hs
  have h2 : [.ev, .trigPins] ⊆ ps := List.Subset.trans (by decide) hs
  have h3 : [.dec] ⊆ ps := List.Subset.trans (by decide) hs
  have h4 : [.work] ⊆ ps := List.Subset.trans (by decide) hs
  repeat' first
    | with_reducible exact h
    | with_reducible assumption
    | with_reducible refine State.modBurstNow_keeps ?_ h1 ..
    | with_reducible refine State.raiseW_keeps ?_ h2 ..
    | with_reducible refine State.modDec_keeps ?_ h3 ..
    | with_reducible refine State.modFec_keeps ?_ h4 ..
    | ((with_reducible refine SameBut.iteKeep ?_ ?_); rotate_left; intro h; rotate_left)
    | ((with_reducible refine SameBut.foldlSnd _ _ _ ?_ ?_); rotate_left; intro _ _ h; rotate_left)
    | ((with_reducible refine SameBut.foldl _ _ ?_ ?_); rotate_left; intro _ _ h; rotate_left)
    | split
    | (dsimp only)

theorem execAlignmentMarker_keeps {ps : List Part} {s0 t : State} (h : SameBut ps s0 t)
    (hs : [.sess, .ev, .power, .mem, .lane, .rx, .dec, .tx, .work, .group, .bias, .trigPins] ⊆ ps) (p : Phys) (sync :
        BitVec 64) (code : BitVec 128) (sym : Sym) : ∀ out,
        execAlignmentMarker p sync code sym t = .next out → SameBut ps s0 out := by
  unfold execAlignmentMarker
  intro out e
  have e := Host.Outcome.next.inj e
  subst e
  have h1 : [.sess, .ev, .mem, .rx, .dec, .work, .group, .trigPins] ⊆ ps := List.Subset.trans (by decide) hs
  have h2 : [.ev, .mem, .work, .group, .trigPins] ⊆ ps := List.Subset.trans (by decide) hs
  have h3 : [.rx, .dec] ⊆ ps := List.Subset.trans (by decide) hs
  have h4 : [.ev, .trigPins] ⊆ ps := List.Subset.trans (by decide) hs
  have h5 : [.ev, .power, .mem, .lane, .rx, .dec, .tx, .work, .group, .bias,
      .trigPins] ⊆ ps := List.Subset.trans (by decide) hs
  have h6 : [.lane] ⊆ ps := List.Subset.trans (by decide) hs
  have h7 : [.rx] ⊆ ps := List.Subset.trans (by decide) hs
  have h8 : [.dec] ⊆ ps := List.Subset.trans (by decide) hs
  have h9 : [.work] ⊆ ps := List.Subset.trans (by decide) hs
  repeat' first
    | with_reducible exact h
    | with_reducible assumption
    | with_reducible refine State.amMiss_keeps ?_ h1 ..
    | with_reducible refine State.learnPeer_keeps ?_ h2 ..
    | with_reducible refine State.nextRun_keeps ?_ h3 ..
    | with_reducible refine State.raiseP_keeps ?_ h4 ..
    | with_reducible refine State.spareMarker_keeps ?_ h5 ..
    | with_reducible refine State.modLane_keeps ?_ h6 ..
    | with_reducible refine State.modRx_keeps ?_ h7 ..
    | with_reducible refine State.modDec_keeps ?_ h8 ..
    | with_reducible refine State.modFec_keeps ?_ h9 ..
    | ((with_reducible refine SameBut.iteKeep ?_ ?_); rotate_left; intro h; rotate_left)
    | split
    | (dsimp only)

theorem execMarkerMissing_keeps {ps : List Part} {s0 t : State} (h : SameBut ps s0 t)
    (hs : [.sess, .ev, .mem, .rx, .dec, .work, .group, .trigPins] ⊆ ps) (p : Phys) : ∀ out,
        execMarkerMissing p t = .next out → SameBut ps s0 out := by
  unfold execMarkerMissing
  intro out e
  have e := Host.Outcome.next.inj e
  subst e
  have h1 : [.sess, .ev, .mem, .rx, .dec, .work, .group, .trigPins] ⊆ ps := List.Subset.trans (by decide) hs
  repeat' first
    | with_reducible exact h
    | with_reducible assumption
    | with_reducible refine State.amMiss_keeps ?_ h1 ..
    | ((with_reducible refine SameBut.iteKeep ?_ ?_); rotate_left; intro h; rotate_left)
    | split
    | (dsimp only)

theorem execDelineationHeader_keeps {ps : List Part} {s0 t : State} (h : SameBut ps s0 t)
    (hs : [.ev, .dec, .work, .trigPins] ⊆ ps) (p : Phys) : ∀ out,
        execDelineationHeader p t = .next out → SameBut ps s0 out := by
  unfold execDelineationHeader
  intro out e
  have e := Host.Outcome.next.inj e
  subst e
  have h1 : [.ev, .trigPins] ⊆ ps := List.Subset.trans (by decide) hs
  have h2 : [.dec] ⊆ ps := List.Subset.trans (by decide) hs
  have h3 : [.work] ⊆ ps := List.Subset.trans (by decide) hs
  repeat' first
    | with_reducible exact h
    | with_reducible assumption
    | with_reducible refine State.raiseP_keeps ?_ h1 ..
    | with_reducible refine State.modDec_keeps ?_ h2 ..
    | with_reducible refine State.modFec_keeps ?_ h3 ..
    | ((with_reducible refine SameBut.iteKeep ?_ ?_); rotate_left; intro h; rotate_left)
    | split
    | (dsimp only)

theorem execFrameCheck_keeps {ps : List Part} {s0 t : State} (h : SameBut ps s0 t)
    (hs : [.sess, .ev, .mem, .acq, .dec, .tx, .work, .group, .trigPins] ⊆ ps) (p : Phys) (bad :
        Option (Nat × BitVec 42)) : ∀ out, execFrameCheck p bad t = .next out → SameBut ps s0 out := by
  unfold execFrameCheck
  intro out e
  have e := Host.Outcome.next.inj e
  subst e
  have h1 : [.sess, .ev, .mem, .acq, .tx, .work, .group, .trigPins] ⊆ ps := List.Subset.trans (by decide) hs
  have h2 : [.sess, .ev, .mem, .dec, .work, .group, .trigPins] ⊆ ps := List.Subset.trans (by decide) hs
  have h3 : [.dec] ⊆ ps := List.Subset.trans (by decide) hs
  repeat' first
    | with_reducible exact h
    | with_reducible assumption
    | with_reducible refine State.checkFrame_keeps ?_ h1 ..
    | with_reducible refine State.resolveTo_keeps ?_ h2 ..
    | with_reducible refine State.modDec_keeps ?_ h3 ..
    | ((with_reducible refine SameBut.iteKeep ?_ ?_); rotate_left; intro h; rotate_left)
    | split
    | (dsimp only)

theorem execSketchCandidate_keeps {ps : List Part} {s0 t : State} (h : SameBut ps s0 t)
    (hs : [.mem, .dec, .work, .group] ⊆ ps) (p : Phys) (pos : Nat) : ∀ out,
        execSketchCandidate p pos t = .next out → SameBut ps s0 out := by
  unfold execSketchCandidate
  intro out e
  have e := Host.Outcome.next.inj e
  subst e
  have h1 : [.mem, .work, .group] ⊆ ps := List.Subset.trans (by decide) hs
  have h2 : [.dec] ⊆ ps := List.Subset.trans (by decide) hs
  repeat' first
    | with_reducible exact h
    | with_reducible assumption
    | with_reducible refine State.sketchFrame_keeps ?_ h1 ..
    | with_reducible refine State.modDec_keeps ?_ h2 ..
    | ((with_reducible refine SameBut.iteKeep ?_ ?_); rotate_left; intro h; rotate_left)
    | split
    | (dsimp only)

theorem execSketchResolved_keeps {ps : List Part} {s0 t : State} (h : SameBut ps s0 t)
    (hs : [.sess, .ev, .mem, .dec, .work, .group, .trigPins] ⊆ ps) (p : Phys) : ∀ out,
        execSketchResolved p t = .next out → SameBut ps s0 out := by
  unfold execSketchResolved
  intro out e
  have e := Host.Outcome.next.inj e
  subst e
  have h1 : [.sess, .ev, .mem, .dec, .work, .group, .trigPins] ⊆ ps := List.Subset.trans (by decide) hs
  have h2 : [.dec] ⊆ ps := List.Subset.trans (by decide) hs
  repeat' first
    | with_reducible exact h
    | with_reducible assumption
    | with_reducible refine State.resolveCand_keeps ?_ h1 ..
    | with_reducible refine State.modDec_keeps ?_ h2 ..
    | split
    | (dsimp only)

theorem execMarginWindowEnd_keeps {ps : List Part} {s0 t : State} (h : SameBut ps s0 t)
    (hs : [.sess, .ev, .core, .power, .mem, .lane, .rx, .acq, .dec, .tx, .work, .gallery, .group, .bias, .trigPins, .cal,
        .age] ⊆ ps) (w : Work) : ∀ out, execMarginWindowEnd w t = .next out → SameBut ps s0 out := by
  unfold execMarginWindowEnd
  intro out e
  have e := Host.Outcome.next.inj e
  subst e
  have h1 : [.sess, .ev, .core, .power, .mem, .lane, .rx, .acq, .dec, .tx, .work, .gallery, .group, .bias, .trigPins,
      .cal] ⊆ ps := List.Subset.trans (by decide) hs
  have h2 : [.ev, .trigPins] ⊆ ps := List.Subset.trans (by decide) hs
  have h3 : [.work] ⊆ ps := List.Subset.trans (by decide) hs
  have h4 : [.age] ⊆ ps := List.Subset.trans (by decide) hs
  repeat' first
    | with_reducible exact h
    | with_reducible assumption
    | with_reducible refine State.declareFail_keeps ?_ h1 ..
    | with_reducible refine State.raiseW_keeps ?_ h2 ..
    | with_reducible refine State.modWork_keeps ?_ h3 ..
    | with_reducible refine State.modFec_keeps ?_ h3 ..
    | with_reducible refine State.modAge_keeps ?_ h4 ..
    | ((with_reducible refine SameBut.iteKeep ?_ ?_); rotate_left; intro h; rotate_left)
    | split
    | (dsimp only)

theorem execLaneSetFec_keeps {ps : List Part} {s0 t : State} (h : SameBut ps s0 t)
    (hs : [.sess, .ev, .work, .trigPins] ⊆ ps) (k : Sess) : ∀ out, execLaneSetFec k t = .next out → SameBut ps s0 out := by
  unfold execLaneSetFec
  intro out e
  have e := Host.Outcome.next.inj e
  subst e
  have h1 : [.work] ⊆ ps := List.Subset.trans (by decide) hs
  have h2 : [.sess, .ev, .trigPins] ⊆ ps := List.Subset.trans (by decide) hs
  repeat' first
    | with_reducible exact h
    | with_reducible assumption
    | with_reducible refine State.modFec_keeps ?_ h1 ..
    | ((with_reducible refine SameBut.iteKeep ?_ ?_); rotate_left; intro h; rotate_left)
    | ((with_reducible refine SameBut.forAllSel _ _ _ _ ?_ ?_); rotate_left; intro _ _ h; rotate_left)
    | ((with_reducible refine SameBut.runCmd _ _ _ h2 ?_ ?_); rotate_left; intro _ _ h; rotate_left)
    | split
    | (dsimp only)

theorem execLaneGetFecStats_keeps {ps : List Part} {s0 t : State} (h : SameBut ps s0 t)
    (hs : [.sess, .ev, .work, .trigPins] ⊆ ps) (k : Sess) : ∀ out,
        execLaneGetFecStats k t = .next out → SameBut ps s0 out := by
  unfold execLaneGetFecStats
  intro out e
  have e := Host.Outcome.next.inj e
  subst e
  have h1 : [.work] ⊆ ps := List.Subset.trans (by decide) hs
  have h2 : [.sess, .ev, .trigPins] ⊆ ps := List.Subset.trans (by decide) hs
  repeat' first
    | with_reducible exact h
    | with_reducible assumption
    | with_reducible refine State.modFec_keeps ?_ h1 ..
    | ((with_reducible refine SameBut.iteKeep ?_ ?_); rotate_left; intro h; rotate_left)
    | ((with_reducible refine SameBut.runCmd _ _ _ h2 ?_ ?_); rotate_left; intro _ _ h; rotate_left)
    | split
    | (dsimp only)

theorem execLaneSetRx_keeps {ps : List Part} {s0 t : State} (h : SameBut ps s0 t)
    (hs : [.sess, .ev, .rx, .tx, .trigPins] ⊆ ps) (k : Sess) : ∀ out, execLaneSetRx k t = .next out → SameBut ps s0 out := by
  unfold execLaneSetRx
  intro out e
  have e := Host.Outcome.next.inj e
  subst e
  have h1 : [.rx, .tx] ⊆ ps := List.Subset.trans (by decide) hs
  have h2 : [.rx] ⊆ ps := List.Subset.trans (by decide) hs
  have h3 : [.sess, .ev, .trigPins] ⊆ ps := List.Subset.trans (by decide) hs
  repeat' first
    | with_reducible exact h
    | with_reducible assumption
    | with_reducible refine State.setRate_keeps ?_ h1 ..
    | with_reducible refine State.modRx_keeps ?_ h2 ..
    | ((with_reducible refine SameBut.iteKeep ?_ ?_); rotate_left; intro h; rotate_left)
    | ((with_reducible refine SameBut.forAllSel _ _ _ _ ?_ ?_); rotate_left; intro _ _ h; rotate_left)
    | ((with_reducible refine SameBut.runCmd _ _ _ h3 ?_ ?_); rotate_left; intro _ _ h; rotate_left)
    | split
    | (dsimp only)

theorem execLaneLoadRxPalette_keeps {ps : List Part} {s0 t : State} (h : SameBut ps s0 t)
    (hs : [.sess, .ev, .rx, .trigPins] ⊆ ps) (k : Sess) : ∀ out,
        execLaneLoadRxPalette k t = .next out → SameBut ps s0 out := by
  unfold execLaneLoadRxPalette
  intro out e
  have e := Host.Outcome.next.inj e
  subst e
  have h1 : [.ev, .trigPins] ⊆ ps := List.Subset.trans (by decide) hs
  have h2 : [.rx] ⊆ ps := List.Subset.trans (by decide) hs
  have h3 : [.sess, .ev, .trigPins] ⊆ ps := List.Subset.trans (by decide) hs
  repeat' first
    | with_reducible exact h
    | with_reducible assumption
    | with_reducible refine State.rxPalette_keeps ?_ h1 ..
    | with_reducible refine State.modRx_keeps ?_ h2 ..
    | ((with_reducible refine SameBut.iteKeep ?_ ?_); rotate_left; intro h; rotate_left)
    | ((with_reducible refine SameBut.guarded _ _ ?_ ?_); rotate_left; intro _ h; rotate_left)
    | ((with_reducible refine SameBut.runCmd _ _ _ h3 ?_ ?_); rotate_left; intro _ _ h; rotate_left)
    | split
    | (dsimp only)

theorem execLaneGetRxDiag_keeps {ps : List Part} {s0 t : State} (h : SameBut ps s0 t)
    (hs : [.sess, .ev, .rx, .trigPins] ⊆ ps) (k : Sess) : ∀ out, execLaneGetRxDiag k t = .next out → SameBut ps s0 out := by
  unfold execLaneGetRxDiag
  intro out e
  have e := Host.Outcome.next.inj e
  subst e
  have h1 : [.rx] ⊆ ps := List.Subset.trans (by decide) hs
  have h2 : [.sess, .ev, .trigPins] ⊆ ps := List.Subset.trans (by decide) hs
  repeat' first
    | with_reducible exact h
    | with_reducible assumption
    | with_reducible refine State.modDiag_keeps ?_ h1 ..
    | ((with_reducible refine SameBut.iteKeep ?_ ?_); rotate_left; intro h; rotate_left)
    | ((with_reducible refine SameBut.runCmd _ _ _ h2 ?_ ?_); rotate_left; intro _ _ h; rotate_left)
    | split
    | (dsimp only)

theorem execLaneSwapPalette_keeps {ps : List Part} {s0 t : State} (h : SameBut ps s0 t)
    (hs : [.sess, .ev, .rx, .trigPins] ⊆ ps) (k : Sess) : ∀ out,
        execLaneSwapPalette k t = .next out → SameBut ps s0 out := by
  unfold execLaneSwapPalette
  intro out e
  have e := Host.Outcome.next.inj e
  subst e
  have h1 : [.ev, .trigPins] ⊆ ps := List.Subset.trans (by decide) hs
  have h2 : [.ev, .rx, .trigPins] ⊆ ps := List.Subset.trans (by decide) hs
  have h3 : [.sess, .ev, .trigPins] ⊆ ps := List.Subset.trans (by decide) hs
  repeat' first
    | with_reducible exact h
    | with_reducible assumption
    | with_reducible refine State.rxPalette_keeps ?_ h1 ..
    | with_reducible refine State.rxSwap_keeps ?_ h2 ..
    | ((with_reducible refine SameBut.iteKeep ?_ ?_); rotate_left; intro h; rotate_left)
    | ((with_reducible refine SameBut.runCmd _ _ _ h3 ?_ ?_); rotate_left; intro _ _ h; rotate_left)
    | split
    | (dsimp only)

theorem execLaneCaptureFlipbook_keeps {ps : List Part} {s0 t : State} (h : SameBut ps s0 t)
    (hs : [.sess, .ev, .lane, .rx, .trigPins] ⊆ ps) (k : Sess) : ∀ out,
        execLaneCaptureFlipbook k t = .next out → SameBut ps s0 out := by
  unfold execLaneCaptureFlipbook
  intro out e
  have e := Host.Outcome.next.inj e
  subst e
  have h1 : [.ev, .rx, .trigPins] ⊆ ps := List.Subset.trans (by decide) hs
  have h2 : [.lane] ⊆ ps := List.Subset.trans (by decide) hs
  have h3 : [.rx] ⊆ ps := List.Subset.trans (by decide) hs
  have h4 : [.sess, .ev, .trigPins] ⊆ ps := List.Subset.trans (by decide) hs
  repeat' first
    | with_reducible exact h
    | with_reducible assumption
    | with_reducible refine State.captureAbort_keeps ?_ h1 ..
    | with_reducible refine State.startDozeExit_keeps ?_ h2 ..
    | with_reducible refine State.modRx_keeps ?_ h3 ..
    | ((with_reducible refine SameBut.iteKeep ?_ ?_); rotate_left; intro h; rotate_left)
    | ((with_reducible refine SameBut.guarded _ _ ?_ ?_); rotate_left; intro _ h; rotate_left)
    | ((with_reducible refine SameBut.runCmd _ _ _ h4 ?_ ?_); rotate_left; intro _ _ h; rotate_left)
    | split
    | (dsimp only)

theorem execLaneReadFlipbook_keeps {ps : List Part} {s0 t : State} (h : SameBut ps s0 t)
    (hs : [.sess, .ev, .mem, .rx, .trigPins] ⊆ ps) (k : Sess) (bad : List (Nat × BitVec 42)) : ∀ out,
        execLaneReadFlipbook k bad t = .next out → SameBut ps s0 out := by
  unfold execLaneReadFlipbook
  intro out e
  have e := Host.Outcome.next.inj e
  subst e
  have h1 : [.mem] ⊆ ps := List.Subset.trans (by decide) hs
  have h2 : [.ev, .mem, .trigPins] ⊆ ps := List.Subset.trans (by decide) hs
  have h3 : [.rx] ⊆ ps := List.Subset.trans (by decide) hs
  have h4 : [.sess, .ev, .trigPins] ⊆ ps := List.Subset.trans (by decide) hs
  repeat' first
    | with_reducible exact h
    | with_reducible assumption
    | with_reducible refine State.disturb_keeps ?_ h1 ..
    | with_reducible refine State.ringRead_keeps ?_ h2 ..
    | with_reducible refine State.modRx_keeps ?_ h3 ..
    | ((with_reducible refine SameBut.iteKeep ?_ ?_); rotate_left; intro h; rotate_left)
    | ((with_reducible refine SameBut.foldlSnd _ _ _ ?_ ?_); rotate_left; intro _ _ h; rotate_left)
    | ((with_reducible refine SameBut.foldl _ _ ?_ ?_); rotate_left; intro _ _ h; rotate_left)
    | ((with_reducible refine SameBut.each _ _ ?_ ?_); rotate_left; intro _ _ h; rotate_left)
    | ((with_reducible refine SameBut.guarded _ _ ?_ ?_); rotate_left; intro _ h; rotate_left)
    | ((with_reducible refine SameBut.runCmd _ _ _ h4 ?_ ?_); rotate_left; intro _ _ h; rotate_left)
    | split
    | (dsimp only)

theorem execLosBlockEnd_keeps {ps : List Part} {s0 t : State} (h : SameBut ps s0 t)
    (hs : [.sess, .ev, .mem, .rx, .dec, .work, .group, .mon, .trigPins] ⊆ ps) (p : Phys) : ∀ out,
        execLosBlockEnd p t = .next out → SameBut ps s0 out := by
  unfold execLosBlockEnd
  intro out e
  have e := Host.Outcome.next.inj e
  subst e
  have h1 : [.sess, .ev, .mem, .dec, .work, .group, .trigPins] ⊆ ps := List.Subset.trans (by decide) hs
  have h2 : [.ev, .trigPins] ⊆ ps := List.Subset.trans (by decide) hs
  have h3 : [.ev, .mon, .trigPins] ⊆ ps := List.Subset.trans (by decide) hs
  have h4 : [.rx] ⊆ ps := List.Subset.trans (by decide) hs
  repeat' first
    | with_reducible exact h
    | with_reducible assumption
    | with_reducible refine State.amDrop_keeps ?_ h1 ..
    | with_reducible refine State.raiseP_keeps ?_ h2 ..
    | with_reducible refine State.urgent_keeps ?_ h3 ..
    | with_reducible refine State.modRx_keeps ?_ h4 ..
    | with_reducible refine State.modDiag_keeps ?_ h4 ..
    | ((with_reducible refine SameBut.iteKeep ?_ ?_); rotate_left; intro h; rotate_left)
    | split
    | (dsimp only)

theorem execAgcUpdate_keeps {ps : List Part} {s0 t : State} (h : SameBut ps s0 t)
    (hs : [.rx] ⊆ ps) (p : Phys) (rms : Nat) : ∀ out, execAgcUpdate p rms t = .next out → SameBut ps s0 out := by
  unfold execAgcUpdate
  intro out e
  have e := Host.Outcome.next.inj e
  subst e
  have h1 : [.rx] ⊆ ps := List.Subset.trans (by decide) hs
  repeat' first
    | with_reducible exact h
    | with_reducible assumption
    | with_reducible refine State.modRx_keeps ?_ h1 ..
    | ((with_reducible refine SameBut.iteKeep ?_ ?_); rotate_left; intro h; rotate_left)
    | split
    | (dsimp only)

theorem execCalSetApply_keeps {ps : List Part} {s0 t : State} (h : SameBut ps s0 t)
    (hs : [.ev, .rx, .trigPins, .cal] ⊆ ps) (p : Phys) (sym : Sym) : ∀ out,
        execCalSetApply p sym t = .next out → SameBut ps s0 out := by
  unfold execCalSetApply
  intro out e
  have e := Host.Outcome.next.inj e
  subst e
  have h1 : [.ev, .trigPins, .cal] ⊆ ps := List.Subset.trans (by decide) hs
  have h2 : [.ev, .trigPins] ⊆ ps := List.Subset.trans (by decide) hs
  have h3 : [.rx] ⊆ ps := List.Subset.trans (by decide) hs
  repeat' first
    | with_reducible exact h
    | with_reducible assumption
    | with_reducible refine State.calApplied_keeps ?_ h1 ..
    | with_reducible refine State.raiseP_keeps ?_ h2 ..
    | with_reducible refine State.modRx_keeps ?_ h3 ..
    | with_reducible refine State.modDiag_keeps ?_ h3 ..
    | ((with_reducible refine SameBut.iteKeep ?_ ?_); rotate_left; intro h; rotate_left)
    | split
    | (dsimp only)

theorem execPilotEvaluation_keeps {ps : List Part} {s0 t : State} (h : SameBut ps s0 t)
    (hs : [.sess, .ev, .mem, .rx, .dec, .work, .group, .trigPins] ⊆ ps) (p : Phys) (m : RxMeas) : ∀ out,
        execPilotEvaluation p m t = .next out → SameBut ps s0 out := by
  unfold execPilotEvaluation
  intro out e
  have e := Host.Outcome.next.inj e
  subst e
  have h1 : [.sess, .ev, .mem, .dec, .work, .group, .trigPins] ⊆ ps := List.Subset.trans (by decide) hs
  have h2 : [.ev, .trigPins] ⊆ ps := List.Subset.trans (by decide) hs
  have h3 : [.rx] ⊆ ps := List.Subset.trans (by decide) hs
  repeat' first
    | with_reducible exact h
    | with_reducible assumption
    | with_reducible refine State.amDrop_keeps ?_ h1 ..
    | with_reducible refine State.raiseP_keeps ?_ h2 ..
    | with_reducible refine State.modRx_keeps ?_ h3 ..
    | with_reducible refine State.modDiag_keeps ?_ h3 ..
    | ((with_reducible refine SameBut.iteKeep ?_ ?_); rotate_left; intro h; rotate_left)
    | split
    | (dsimp only)

theorem execAcqLimitExpiry_keeps {ps : List Part} {s0 t : State} (h : SameBut ps s0 t)
    (hs : [.ev, .rx, .trigPins] ⊆ ps) (p : Phys) : ∀ out, execAcqLimitExpiry p t = .next out → SameBut ps s0 out := by
  unfold execAcqLimitExpiry
  intro out e
  have e := Host.Outcome.next.inj e
  subst e
  have h1 : [.ev, .trigPins] ⊆ ps := List.Subset.trans (by decide) hs
  have h2 : [.rx] ⊆ ps := List.Subset.trans (by decide) hs
  repeat' first
    | with_reducible exact h
    | with_reducible assumption
    | with_reducible refine State.raiseP_keeps ?_ h1 ..
    | with_reducible refine State.modRx_keeps ?_ h2 ..
    | ((with_reducible refine SameBut.iteKeep ?_ ?_); rotate_left; intro h; rotate_left)
    | split
    | (dsimp only)

theorem execConvergeLock_keeps {ps : List Part} {s0 t : State} (h : SameBut ps s0 t)
    (hs : [.ev, .rx, .trigPins] ⊆ ps) (p : Phys) : ∀ out, execConvergeLock p t = .next out → SameBut ps s0 out := by
  unfold execConvergeLock
  intro out e
  have e := Host.Outcome.next.inj e
  subst e
  have h1 : [.ev, .trigPins] ⊆ ps := List.Subset.trans (by decide) hs
  have h2 : [.rx] ⊆ ps := List.Subset.trans (by decide) hs
  repeat' first
    | with_reducible exact h
    | with_reducible assumption
    | with_reducible refine State.raiseP_keeps ?_ h1 ..
    | with_reducible refine State.modRx_keeps ?_ h2 ..
    | ((with_reducible refine SameBut.iteKeep ?_ ?_); rotate_left; intro h; rotate_left)
    | split
    | (dsimp only)

theorem execFadeStart_keeps {ps : List Part} {s0 t : State} (h : SameBut ps s0 t)
    (hs : [.ev, .rx, .trigPins] ⊆ ps) (p : Phys) : ∀ out, execFadeStart p t = .next out → SameBut ps s0 out := by
  unfold execFadeStart
  intro out e
  have e := Host.Outcome.next.inj e
  subst e
  have h1 : [.ev, .trigPins] ⊆ ps := List.Subset.trans (by decide) hs
  have h2 : [.rx] ⊆ ps := List.Subset.trans (by decide) hs
  repeat' first
    | with_reducible exact h
    | with_reducible assumption
    | with_reducible refine State.rxPalette_keeps ?_ h1 ..
    | with_reducible refine State.modRx_keeps ?_ h2 ..
    | ((with_reducible refine SameBut.iteKeep ?_ ?_); rotate_left; intro h; rotate_left)
    | split
    | (dsimp only)

theorem execFadeMidpoint_keeps {ps : List Part} {s0 t : State} (h : SameBut ps s0 t)
    (hs : [.rx] ⊆ ps) (p : Phys) : ∀ out, execFadeMidpoint p t = .next out → SameBut ps s0 out := by
  unfold execFadeMidpoint
  intro out e
  have e := Host.Outcome.next.inj e
  subst e
  have h1 : [.rx] ⊆ ps := List.Subset.trans (by decide) hs
  repeat' first
    | with_reducible exact h
    | with_reducible assumption
    | with_reducible refine State.modRx_keeps ?_ h1 ..
    | ((with_reducible refine SameBut.iteKeep ?_ ?_); rotate_left; intro h; rotate_left)
    | split
    | (dsimp only)

theorem execFadeEnd_keeps {ps : List Part} {s0 t : State} (h : SameBut ps s0 t)
    (hs : [.ev, .rx, .trigPins] ⊆ ps) (p : Phys) : ∀ out, execFadeEnd p t = .next out → SameBut ps s0 out := by
  unfold execFadeEnd
  intro out e
  have e := Host.Outcome.next.inj e
  subst e
  have h1 : [.ev, .rx, .trigPins] ⊆ ps := List.Subset.trans (by decide) hs
  repeat' first
    | with_reducible exact h
    | with_reducible assumption
    | with_reducible refine State.rxFadeEnd_keeps ?_ h1 ..
    | ((with_reducible refine SameBut.iteKeep ?_ ?_); rotate_left; intro h; rotate_left)
    | split
    | (dsimp only)

theorem execFlipbookTrigger_keeps {ps : List Part} {s0 t : State} (h : SameBut ps s0 t)
    (hs : [.rx] ⊆ ps) (p : Phys) (kind : Nat) : ∀ out, execFlipbookTrigger p kind t = .next out → SameBut ps s0 out := by
  unfold execFlipbookTrigger
  intro out e
  have e := Host.Outcome.next.inj e
  subst e
  have h1 : [.rx] ⊆ ps := List.Subset.trans (by decide) hs
  repeat' first
    | with_reducible exact h
    | with_reducible assumption
    | with_reducible refine State.modRx_keeps ?_ h1 ..
    | ((with_reducible refine SameBut.iteKeep ?_ ?_); rotate_left; intro h; rotate_left)
    | split
    | (dsimp only)

theorem execFlipbookCaptureComplete_keeps {ps : List Part} {s0 t : State} (h : SameBut ps s0 t)
    (hs : [.rx] ⊆ ps) (p : Phys) : ∀ out, execFlipbookCaptureComplete p t = .next out → SameBut ps s0 out := by
  unfold execFlipbookCaptureComplete
  intro out e
  have e := Host.Outcome.next.inj e
  subst e
  have h1 : [.rx] ⊆ ps := List.Subset.trans (by decide) hs
  repeat' first
    | with_reducible exact h
    | with_reducible assumption
    | with_reducible refine State.modRx_keeps ?_ h1 ..
    | ((with_reducible refine SameBut.iteKeep ?_ ?_); rotate_left; intro h; rotate_left)
    | split
    | (dsimp only)

theorem execAdaptationUpdate_keeps {ps : List Part} {s0 t : State} (h : SameBut ps s0 t)
    (hs : [.ev, .mem, .rx, .acq, .group, .trigPins] ⊆ ps) (p : Phys) (raw : Bytes) : ∀ out,
        execAdaptationUpdate p raw t = .next out → SameBut ps s0 out := by
  unfold execAdaptationUpdate
  intro out e
  have e := Host.Outcome.next.inj e
  subst e
  have h1 : [.rx] ⊆ ps := List.Subset.trans (by decide) hs
  have h2 : [.ev, .mem, .rx, .acq, .trigPins] ⊆ ps := List.Subset.trans (by decide) hs
  have h3 : [.ev, .rx, .group, .trigPins] ⊆ ps := List.Subset.trans (by decide) hs
  have h4 : [.mem] ⊆ ps := List.Subset.trans (by decide) hs
  repeat' first
    | with_reducible exact h
    | with_reducible assumption
    | with_reducible refine State.countSamples_keeps ?_ h1 ..
    | with_reducible refine State.equaliseBurst_keeps ?_ h2 ..
    | with_reducible refine State.equaliseCycle_keeps ?_ h3 ..
    | with_reducible refine State.ringWrite_keeps ?_ h4 ..
    | with_reducible refine State.trainCold_keeps ?_ h1 ..
    | with_reducible refine State.modRx_keeps ?_ h1 ..
    | ((with_reducible refine SameBut.iteKeep ?_ ?_); rotate_left; intro h; rotate_left)
    | split
    | (dsimp only)

theorem execRepairWrite_keeps {ps : List Part} {s0 t : State} (h : SameBut ps s0 t)
    (hs : [.mem] ⊆ ps) (a : Arr) : ∀ out, execRepairWrite a t = .next out → SameBut ps s0 out := by
  unfold execRepairWrite
  intro out e
  have e := Host.Outcome.next.inj e
  subst e
  have h1 : [.mem] ⊆ ps := List.Subset.trans (by decide) hs
  repeat' first
    | with_reducible exact h
    | with_reducible assumption
    | with_reducible refine State.modArr_keeps ?_ h1 ..
    | split
    | (dsimp only)

theorem execPoisonWrite_keeps {ps : List Part} {s0 t : State} (h : SameBut ps s0 t)
    (hs : [.sess, .ev, .perf, .clk, .core, .power, .mem, .selfTest, .flash, .lane, .rx, .acq, .dec, .tx, .work, .gallery,
        .group, .bias, .mon, .trigPins, .filter, .therm, .cal, .free] ⊆ ps) (a : Arr) : ∀ out,
        execPoisonWrite a t = .next out → SameBut ps s0 out := by
  unfold execPoisonWrite
  intro out e
  have e := Host.Outcome.next.inj e
  subst e
  have h1 : [.sess, .ev, .perf, .clk, .core, .power, .mem, .selfTest, .flash, .lane, .rx, .acq, .dec, .tx, .work,
      .gallery, .group, .bias, .mon, .trigPins, .filter, .therm, .cal, .free] ⊆ ps := List.Subset.trans (by decide) hs
  have h2 : [.ev, .trigPins] ⊆ ps := List.Subset.trans (by decide) hs
  have h3 : [.mem] ⊆ ps := List.Subset.trans (by decide) hs
  repeat' first
    | with_reducible exact h
    | with_reducible assumption
    | with_reducible refine State.coreFails_keeps ?_ h1 ..
    | with_reducible refine State.raiseMem_keeps ?_ h2 ..
    | with_reducible refine State.refillCore_keeps ?_ h3 ..
    | with_reducible refine State.modArr_keeps ?_ h3 ..
    | ((with_reducible refine SameBut.iteKeep ?_ ?_); rotate_left; intro h; rotate_left)
    | split
    | (dsimp only)

theorem execScrubRead_keeps {ps : List Part} {s0 t : State} (h : SameBut ps s0 t)
    (hs : [.ev, .mem, .trigPins] ⊆ ps) (a : Arr) (flips : BitVec 42) : ∀ out,
        execScrubRead a flips t = .next out → SameBut ps s0 out := by
  unfold execScrubRead
  intro out e
  have e := Host.Outcome.next.inj e
  subst e
  have h1 : [.mem] ⊆ ps := List.Subset.trans (by decide) hs
  have h2 : [.ev, .mem, .trigPins] ⊆ ps := List.Subset.trans (by decide) hs
  repeat' first
    | with_reducible exact h
    | with_reducible assumption
    | with_reducible refine State.disturb_keeps ?_ h1 ..
    | with_reducible refine State.sramRead_keeps ?_ h2 ..
    | with_reducible refine State.modArr_keeps ?_ h1 ..
    | ((with_reducible refine SameBut.iteKeep ?_ ?_); rotate_left; intro h; rotate_left)
    | split
    | (dsimp only)

theorem execScrubLapLimit_keeps {ps : List Part} {s0 t : State} (h : SameBut ps s0 t)
    (hs : [.ev, .mem, .trigPins] ⊆ ps) (a : Arr) : ∀ out, execScrubLapLimit a t = .next out → SameBut ps s0 out := by
  unfold execScrubLapLimit
  intro out e
  have e := Host.Outcome.next.inj e
  subst e
  have h1 : [.ev, .trigPins] ⊆ ps := List.Subset.trans (by decide) hs
  have h2 : [.mem] ⊆ ps := List.Subset.trans (by decide) hs
  repeat' first
    | with_reducible exact h
    | with_reducible assumption
    | with_reducible refine State.raiseMem_keeps ?_ h1 ..
    | with_reducible refine State.modArr_keeps ?_ h2 ..
    | ((with_reducible refine SameBut.iteKeep ?_ ?_); rotate_left; intro h; rotate_left)
    | split
    | (dsimp only)

theorem execRemapCopy_keeps {ps : List Part} {s0 t : State} (h : SameBut ps s0 t)
    (hs : [.sess, .ev, .mem, .trigPins] ⊆ ps) (a : Arr) : ∀ out, execRemapCopy a t = .next out → SameBut ps s0 out := by
  unfold execRemapCopy
  intro out e
  have e := Host.Outcome.next.inj e
  subst e
  have h1 : [.sess, .ev, .trigPins] ⊆ ps := List.Subset.trans (by decide) hs
  have h2 : [.ev, .trigPins] ⊆ ps := List.Subset.trans (by decide) hs
  have h3 : [.mem] ⊆ ps := List.Subset.trans (by decide) hs
  repeat' first
    | with_reducible exact h
    | with_reducible assumption
    | with_reducible refine State.answerRemap_keeps ?_ h1 ..
    | with_reducible refine State.raiseMem_keeps ?_ h2 ..
    | with_reducible refine State.modArr_keeps ?_ h3 ..
    | ((with_reducible refine SameBut.iteKeep ?_ ?_); rotate_left; intro h; rotate_left)
    | split
    | (dsimp only)

theorem execRemapRecord_keeps {ps : List Part} {s0 t : State} (h : SameBut ps s0 t)
    (hs : [.flash] ⊆ ps) (a : Arr) : ∀ out, execRemapRecord a t = .next out → SameBut ps s0 out := by
  unfold execRemapRecord
  intro out e
  have e := Host.Outcome.next.inj e
  subst e
  have h1 : [.flash] ⊆ ps := List.Subset.trans (by decide) hs
  repeat' first
    | with_reducible exact h
    | with_reducible assumption
    | with_reducible refine State.modFlash_keeps ?_ h1 ..
    | ((with_reducible refine SameBut.iteKeep ?_ ?_); rotate_left; intro h; rotate_left)
    | split
    | (dsimp only)

theorem execMemGetStatus_keeps {ps : List Part} {s0 t : State} (h : SameBut ps s0 t)
    (hs : [.sess, .ev, .mem, .trigPins] ⊆ ps) (k : Sess) : ∀ out, execMemGetStatus k t = .next out → SameBut ps s0 out := by
  unfold execMemGetStatus
  intro out e
  have e := Host.Outcome.next.inj e
  subst e
  have h1 : [.mem] ⊆ ps := List.Subset.trans (by decide) hs
  have h2 : [.sess, .ev, .trigPins] ⊆ ps := List.Subset.trans (by decide) hs
  repeat' first
    | with_reducible exact h
    | with_reducible assumption
    | with_reducible refine State.modArr_keeps ?_ h1 ..
    | ((with_reducible refine SameBut.iteKeep ?_ ?_); rotate_left; intro h; rotate_left)
    | ((with_reducible refine SameBut.each _ _ ?_ ?_); rotate_left; intro _ _ h; rotate_left)
    | ((with_reducible refine SameBut.guarded _ _ ?_ ?_); rotate_left; intro _ h; rotate_left)
    | ((with_reducible refine SameBut.runCmd _ _ _ h2 ?_ ?_); rotate_left; intro _ _ h; rotate_left)
    | split
    | (dsimp only)

theorem execMemSetScrub_keeps {ps : List Part} {s0 t : State} (h : SameBut ps s0 t)
    (hs : [.sess, .ev, .mem, .trigPins] ⊆ ps) (k : Sess) : ∀ out, execMemSetScrub k t = .next out → SameBut ps s0 out := by
  unfold execMemSetScrub
  intro out e
  have e := Host.Outcome.next.inj e
  subst e
  have h1 : [.sess, .ev, .trigPins] ⊆ ps := List.Subset.trans (by decide) hs
  repeat' first
    | with_reducible exact h
    | with_reducible assumption
    | ((with_reducible refine SameBut.runCmd _ _ _ h1 ?_ ?_); rotate_left; intro _ _ h; rotate_left)
    | ((with_reducible refine SameBut.modSys ?_ ?_); rotate_left; (intro q hq; cases q <;> first | exact rfl | exact absurd (hs (by decide)) hq))
    | split
    | (dsimp only)

theorem execMemRemap_keeps {ps : List Part} {s0 t : State} (h : SameBut ps s0 t)
    (hs : [.sess, .ev, .mem, .trigPins] ⊆ ps) (k : Sess) : ∀ out, execMemRemap k t = .next out → SameBut ps s0 out := by
  unfold execMemRemap
  intro out e
  have e := Host.Outcome.next.inj e
  subst e
  have h1 : [.mem] ⊆ ps := List.Subset.trans (by decide) hs
  have h2 : [.sess, .ev, .trigPins] ⊆ ps := List.Subset.trans (by decide) hs
  repeat' first
    | with_reducible exact h
    | with_reducible assumption
    | with_reducible refine State.modArr_keeps ?_ h1 ..
    | ((with_reducible refine SameBut.iteKeep ?_ ?_); rotate_left; intro h; rotate_left)
    | ((with_reducible refine SameBut.guarded _ _ ?_ ?_); rotate_left; intro _ h; rotate_left)
    | ((with_reducible refine SameBut.runCmd _ _ _ h2 ?_ ?_); rotate_left; intro _ _ h; rotate_left)
    | split
    | (dsimp only)

theorem execMemInject_keeps {ps : List Part} {s0 t : State} (h : SameBut ps s0 t)
    (hs : [.sess, .ev, .mem, .trigPins] ⊆ ps) (k : Sess) : ∀ out, execMemInject k t = .next out → SameBut ps s0 out := by
  unfold execMemInject
  intro out e
  have e := Host.Outcome.next.inj e
  subst e
  have h1 : [.mem] ⊆ ps := List.Subset.trans (by decide) hs
  have h2 : [.sess, .ev, .trigPins] ⊆ ps := List.Subset.trans (by decide) hs
  repeat' first
    | with_reducible exact h
    | with_reducible assumption
    | with_reducible refine State.modArr_keeps ?_ h1 ..
    | ((with_reducible refine SameBut.guarded _ _ ?_ ?_); rotate_left; intro _ h; rotate_left)
    | ((with_reducible refine SameBut.runCmd _ _ _ h2 ?_ ?_); rotate_left; intro _ _ h; rotate_left)
    | split
    | (dsimp only)

end Sys2Proof.Machine
end

