-- ==== Sys2Proof/Laws/Table.lean ====
section
/-!
SUPPORT. Sparse tables and memories: a read after a write, what a write leaves alone, and that every operation keeps the
canonical form.
-/
namespace Sys2Proof.Machine

/-- Setting a key and reading it. -/
@[simp] theorem tabGet_tabSet_self {α : Type} (t : Tab α) (k : Nat) (x : α) : tabGet (tabSet t k x) k = some x := by
  induction t with
  | nil => simp [tabSet, tabGet]
  | cons e r ih =>
    obtain ⟨j, y⟩ := e
    unfold tabSet
    split
    · simp [tabGet]
    · split
      · simp [tabGet]
      · have : j ≠ k := by omega
        simp [tabGet, this, ih]

/-- Setting a key leaves the others. -/
theorem tabGet_tabSet_other {α : Type} (t : Tab α) (j k : Nat) (x : α) (h : j ≠ k) :
    tabGet (tabSet t k x) j = tabGet t j := by
  induction t with
  | nil => simp [tabSet, tabGet, Ne.symm h]
  | cons e r ih =>
    obtain ⟨i, y⟩ := e
    unfold tabSet
    split
    · simp [tabGet, Ne.symm h]
    · split
      · next hi => subst hi; simp [tabGet, Ne.symm h]
      · by_cases hj : i = j <;> simp [tabGet, hj, ih]

/-- A table whose keys rise from a bound has no key below it. -/
theorem tabGet_below {α : Type} (t : Tab α) (lo k : Nat) (h : tabRising lo t = true) (hk : k < lo) : tabGet t k = none := by
  induction t generalizing lo with
  | nil => rfl
  | cons e r ih =>
    obtain ⟨j, y⟩ := e
    simp only [tabRising, Bool.and_eq_true, decide_eq_true_eq] at h
    have : j ≠ k := by omega
    simp [tabGet, this, ih (j + 1) h.2 (by omega)]

/-- Removing a key leaves the others. -/
theorem tabGet_tabDel_other {α : Type} (t : Tab α) (j k : Nat) (h : j ≠ k) : tabGet (tabDel t k) j = tabGet t j := by
  induction t with
  | nil => rfl
  | cons e r ih =>
    obtain ⟨i, y⟩ := e
    unfold tabDel
    split
    · next hi => subst hi; simp [tabGet, Ne.symm h]
    · by_cases hj : i = j <;> simp [tabGet, hj, ih]

/-- A key that was removed from a table with rising keys is absent. -/
theorem tabGet_tabDel_self {α : Type} (t : Tab α) (lo k : Nat) (h : tabRising lo t = true) : tabGet (tabDel t k) k = none := by
  induction t generalizing lo with
  | nil => rfl
  | cons e r ih =>
    obtain ⟨j, y⟩ := e
    simp only [tabRising, Bool.and_eq_true, decide_eq_true_eq] at h
    unfold tabDel
    split
    · next hj => subst hj; exact tabGet_below r (j + 1) j h.2 (by omega)
    · next hj => simp [tabGet, hj, ih (j + 1) h.2]

theorem tabRising_weaken {α : Type} (t : Tab α) (lo hi : Nat) (h : tabRising hi t = true) (hl : lo ≤ hi) :
    tabRising lo t = true := by
  cases t with
  | nil => rfl
  | cons e r =>
    simp only [tabRising, Bool.and_eq_true, decide_eq_true_eq] at h ⊢
    exact ⟨by omega, h.2⟩

/-- Setting a key keeps the keys rising. -/
theorem tabRising_tabSet {α : Type} (t : Tab α) (lo k : Nat) (x : α) (h : tabRising lo t = true) (hk : lo ≤ k) :
    tabRising lo (tabSet t k x) = true := by
  induction t generalizing lo with
  | nil => simp [tabSet, tabRising, hk]
  | cons e r ih =>
    obtain ⟨j, y⟩ := e
    simp only [tabRising, Bool.and_eq_true, decide_eq_true_eq] at h
    unfold tabSet
    split
    · next hj => simp [tabRising, hk, h.2]; omega
    · split
      · next hj => subst hj; simp [tabRising, hk, h.2]
      · next hn hj => simp [tabRising, h.1, ih (j + 1) h.2 (by omega)]

/-- Removing a key keeps the keys rising. -/
theorem tabRising_tabDel {α : Type} (t : Tab α) (lo k : Nat) (h : tabRising lo t = true) : tabRising lo (tabDel t k) = true := by
  induction t generalizing lo with
  | nil => rfl
  | cons e r ih =>
    obtain ⟨j, y⟩ := e
    simp only [tabRising, Bool.and_eq_true, decide_eq_true_eq] at h
    unfold tabDel
    split
    · exact tabRising_weaken r lo (j + 1) h.2 (by omega)
    · simp [tabRising, h.1, ih (j + 1) h.2]

theorem all_tabSet {α : Type} (t : Tab α) (k : Nat) (x : α) (f : Nat × α → Bool) (h : t.all f = true) (hx : f (k, x) = true) :
    (tabSet t k x).all f = true := by
  induction t with
  | nil => simp [tabSet, hx]
  | cons e r ih =>
    simp only [List.all_cons, Bool.and_eq_true] at h
    unfold tabSet
    split
    · simp [hx, h.1, h.2]
    · split
      · simp [hx, h.2]
      · simp [h.1, ih h.2]

theorem all_tabDel {α : Type} (t : Tab α) (k : Nat) (f : Nat × α → Bool) (h : t.all f = true) : (tabDel t k).all f = true := by
  induction t with
  | nil => rfl
  | cons e r ih =>
    simp only [List.all_cons, Bool.and_eq_true] at h
    unfold tabDel
    split
    · exact h.2
    · simp [h.1, ih h.2]

/-- A byte written keeps the canonical form. -/
theorem memWf_memWrite (d : Byte) (m : Mem) (a : Nat) (b : Byte) (h : memWf d m = true) : memWf d (memWrite d m a b) = true := by
  simp only [memWf, Bool.and_eq_true] at h ⊢
  unfold memWrite
  split
  · exact ⟨tabRising_tabDel m 0 a h.1, all_tabDel m a _ h.2⟩
  · next hb => exact ⟨tabRising_tabSet m 0 a b h.1 (by omega), all_tabSet m a b _ h.2 (by simp [hb])⟩

/-- Bytes written keep the canonical form. -/
theorem memWf_memWrites (d : Byte) (m : Mem) (a : Nat) (bs : Bytes) (h : memWf d m = true) :
    memWf d (memWrites d m a bs) = true := by
  induction bs generalizing m a with
  | nil => exact h
  | cons b r ih => exact ih _ _ (memWf_memWrite d m a b h)

/-- A byte written is read back. -/
theorem memRead_memWrite_self (d : Byte) (m : Mem) (a : Nat) (b : Byte) (h : memWf d m = true) :
    memRead d (memWrite d m a b) a = b := by
  simp only [memWf, Bool.and_eq_true] at h
  unfold memRead memWrite
  split
  · next hb => simp [tabGet_tabDel_self m 0 a h.1, hb]
  · simp

/-- A byte written leaves every other address as it was. -/
theorem memRead_memWrite_other (d : Byte) (m : Mem) (j a : Nat) (b : Byte) (h : j ≠ a) :
    memRead d (memWrite d m a b) j = memRead d m j := by
  unfold memRead memWrite
  split
  · simp [tabGet_tabDel_other m j a h]
  · simp [tabGet_tabSet_other m j a b h]

/-- Bytes written leave every address outside them as it was. -/
theorem memRead_memWrites_other (d : Byte) (m : Mem) (j a : Nat) (bs : Bytes) (h : j < a ∨ a + bs.length ≤ j) :
    memRead d (memWrites d m a bs) j = memRead d m j := by
  induction bs generalizing m a with
  | nil => rfl
  | cons b r ih =>
    simp only [List.length_cons] at h
    show memRead d (memWrites d (memWrite d m a b) (a + 1) r) j = _
    rw [ih _ _ (by omega), memRead_memWrite_other d m j a b (by omega)]

end Sys2Proof.Machine
end

