-- ==== Sys2Proof/Machine/Pins.lean ====
section
/-!
DEFINITION. What each output ball does in a state (R452, Table 16-7), and when the device is absent (R453). No row reads the balls:
these are the state as a board sees it.
-/
namespace Sys2Proof.Machine

/-- The outputs of Table 16-7. -/
inductive OutBall where
  | ltx (p : Phys)
  | htx (g : Group) (lane : HLane)
  | hcktx (g : Group)
  | bias (o : Bias)
  /-- A TRIG pin as output. -/
  | trig (i : Pin)
  | qspiData
  | smb
  /-- AVS_CLK and AVS_MDATA. -/
  | avs
  | flash
  /-- RLY_UP_TX or RLY_DN_TX. -/
  | relay (q : Port)
  | intA
  | intB
  | hbeat
deriving DecidableEq, Repr

/-- States of an output ball. -/
inductive Drive where
  /-- Off, released or at high impedance. -/
  | off
  | zeroScale
  | level (high : Bool)
  /-- A bias output in its range at its code. -/
  | code (range code : Nat)
  /-- A bias ball connected to neither stage, in a change between voltage and current (R232). -/
  | neither
  /-- Driven, and idle: AVS_CLK low and AVS_MDATA high, a deselected flash, or a Rinlink lane at electrical idle. -/
  | idle
  /-- Driven with the content that the interface's own rules give. -/
  | content
deriving DecidableEq, Repr

/-- "Boot" of Table 16-7: from the release of PORST_N until the image runs. -/
def State.booting (s : State) : Bool := !decide (s.sys.clk.phase = .running ∨ s.sys.clk.phase = .noCount)

/-- The device has committed its entry into DORMANT. -/
def State.asleep (s : State) : Bool := decide (s.sys.power.dev = .dormant)

/-- What a bias output drives: its code at the ball, and nothing while a change between voltage and current runs (R232, R237). -/
def BiasOut.drive (b : BiasOut) : Drive :=
  let volts := fun r => decide (r = 1 ∨ r = 2)
  match b.ranging with
  | some c => if b.range ≠ 0 ∧ c.target ≠ 0 ∧ volts b.range ≠ volts c.target then .neither else .code b.range b.code
  | none => .code b.range b.code

/-- What a group drives on a data lane, or on its clock lane: off outside the link's states, electrical idle under R219 and on the data
lanes of a near-end loop-back (Table 7-13), and else the content of the link state (R216). A clock moved to the spare leaves the
clock lane idle (R223). -/
def HostGroup.laneDrive (h : HostGroup) (lane : Option HLane) : Drive :=
  if h.state = .off ∨ h.resetting then .off
  else if h.txIdle then .idle
  else match lane with
    | none => if h.txClockSpare then .idle else .content
    | some k =>
      let whole := decide (h.state = .loopback ∧ h.loopMode ≠ 3)
      let spare := decide (h.loopStatus = 1 ∧ h.loopScope = 1 ∧ k.val = 16)
      if whole || spare then .idle else .content

/-- What an output ball does (R452, Table 16-7). A device under power-on reset is in the state whose PORST_N is low; zero scale
and SAFE_CODE of a thermal trip are in the lane's causes and in the output's code. -/
def State.ballDrive (s : State) (b : OutBall) : Drive :=
  let porst := s.sys.pins.porstLow
  let ctl := s.sys.pins.ctlrstLow
  match b with
  | .ltx p => if porst ∨ s.booting ∨ s.asleep ∨ s.tripped ∨ s.zeroScale p then .zeroScale else .content
  | .htx g lane => if porst ∨ s.booting ∨ s.asleep then .off else (s.grp g).laneDrive (some lane)
  | .hcktx g => if porst ∨ s.booting ∨ s.asleep then .off else (s.grp g).laneDrive none
  | .bias o => (s.bias o).drive
  | .trig i =>
    let x := s.photon.pins[i.val]
    if porst ∨ x.mode ≠ .output then .off else .level x.high
  | .qspiData => if porst ∨ ctl ∨ s.asleep then .off else .content
  | .smb => if porst ∨ ctl then .off else .content
  | .avs => if porst then .off else if s.asleep ∨ s.sys.avs.openReq.isNone then .idle else .content
  | .flash => if porst then .off else if s.asleep then .idle else .content
  | .relay _ => if porst ∨ s.sys.clk.phase = .inReset ∨ s.sys.clk.phase = .waitLock ∨ s.sys.clk.phase = .locked ∨ s.asleep then .off else .content
  | .intA => if porst ∨ s.booting ∨ ctl ∨ ¬ s.ctl.ev.intA then .off else .level false
  | .intB => if porst ∨ s.booting ∨ ctl ∨ ¬ s.ctl.ev.intB then .off else .level false
  | .hbeat => if porst ∨ s.booting then .level false else .level s.sys.pins.hbeat

/-- The device is absent for its partners (R453): under PORST_N, or in the internal power-on reset that a fault ends in. -/
def State.absent (s : State) : Bool := s.sys.pins.porstLow || decide (s.sys.clk.phase = .inReset)

end Sys2Proof.Machine
end

