-- ==== Sys2Proof/WellFormed.lean ====
section
/-!
DEFINITION. Well-formed commands: operands that no event of the hardware can bring are ruled out. Operands whose type already
holds their range (lanes, groups, cores, sessions) need no check.
-/
namespace Sys2Proof
open Sys2Proof.Machine

/-- A disturbed word of an item that is read: an offset the item has. -/
def wordIn (len : Nat) (x : Option (Nat × BitVec 42)) : Bool := x.all fun y => decide (y.1 < len)

/-- The same for a word of the k-th item read. -/
def itemIn (len : Nat) (x : Option (Nat × Nat × BitVec 42)) : Bool := x.all fun y => decide (y.2.1 < len)

/-- A peer station number, 0–16,382 (R393). -/
def stationIn (p : Nat) : Bool := decide (p ≤ 16382)

/-- A schedule slot, 0–1,023 (Table 5-8). -/
def slotIn (k : Nat) : Bool := decide (k < 1024)

/-- Relay payloads of Table 15-5 are at most 4,100 bytes: four of offset and up to 4,096 of data. -/
def payloadIn (p : Bytes) : Bool := decide (p.length ≤ 4100)

/-- The operands of a command are ones that the hardware can bring. -/
def Instr.wellFormed : Instr → Bool
  | .laneReadFlipbook _ bad => bad.all fun x => decide (x.1 < 1024)
  | .laneGetBurstLog _ bad => itemIn 8 bad
  | .laneTrainTimeout _ reason => decide (reason ≤ 3)
  | .replayStart _ bad ring => wordIn 96 bad && wordIn 1024 ring
  | .galleryFetchDone i bad => decide (i < 16) && wordIn 96 bad
  | .portraitPrefetch _ slot => slotIn slot
  | .predictedAnalogueLoad _ slot => slotIn slot
  | .rxWindowOpen _ slot => slotIn slot
  | .burstFreeze _ slot _ bad => slotIn slot && itemIn 4096 bad
  | .openBurstChoice _ bad => itemIn 4096 bad
  | .superframeBoundary _ bad => itemIn 4096 bad
  | .innerCwDecoded _ _ rel => decide (rel.length = 128)
  | .frameCheck _ bad => wordIn 8 bad
  | .txDriverFault _ kind _ => decide (kind ≤ 2)
  | .openHoldExpiry _ dest => stationIn dest
  | .backoffExpiry _ dest => stationIn dest
  | .frameAccepted _ bad => wordIn 4096 bad
  | .rtoExpiry _ p bad => stationIn p && wordIn 8 bad
  | .ackIntervalExpiry _ p => stationIn p
  | .ctxIdleExpiry _ p _ => stationIn p
  | .burstOutcome _ _ _ bad => wordIn 96 bad
  | .txBlockStart _ bad => wordIn 16384 bad
  | .commaReceived _ blocks => decide (blocks.length = 17)
  | .repairReq _ role => decide (role ≤ 16)
  | .hostLaneFail _ _ reason => decide (reason ≤ 4)
  | .loopSlotStart _ slot => decide (slot < 10000)
  | .sensorSample readings => decide (readings.length = 72)
  | .powerMeasurement rails _ outs => decide (rails.length = 5) && decide (outs.length = 544)
  | .throttleTick errs => decide (errs.length = 128)
  | .wearMeasurement counts swings => decide (counts.length = 48 ∧ swings.length = 136)
  | .marginPlan _ lanes => decide (lanes.length = 136)
  | .crossingTimeout domain _ => decide (domain < 2 ^ 16)
  | .saveSlotWritten scope idx => (decide (scope = 0) && decide (idx < 136)) || (decide (scope = 1) && decide (idx < 32)) ||
      (decide (scope = 2) && decide (idx = 0))
  | .hello _ p _ => payloadIn p
  | .offer _ p _ => payloadIn p
  | .data _ p _ => payloadIn p
  | .ack _ p _ => payloadIn p
  | .nak _ p _ => payloadIn p
  | .refillReq _ p _ => payloadIn p
  | .abort _ p _ => payloadIn p
  | .testCheckDone x => match x.unit with
    | some (core, i, addr) => if core then decide (i < 192) else decide (i < 692) && decide (addr < arrWords (finOf 692 i))
    | none => true
  | _ => true

end Sys2Proof
end

