-- ==== Sys2Proof/Tests/Slice0.lean ====
section
/-!
SUPPORT. Tests: the checks of well-formed commands refuse ill-formed ones, worked values of the spec, and for every statement
with hypotheses a state and operands that meet them together.
-/
set_option maxRecDepth 100000
set_option Elab.async false
open Sys2Proof Sys2Proof.Machine
namespace Sys2Proof.Tests
def held (s : State) (code : Nat) (a : Bytes) : State :=
  s.modSess 0 fun x => { x with phase := .busy, cmd := some { code := code, seq := 1, args := a } }
def started (s : State) (code : Nat) (a : Bytes) : State :=
  s.modSess 0 fun x => { x with phase := .busy, cmd := some { code := code, seq := 1, args := a, started := true } }
/-- Working lane 3 in OPEN. -/
def openLane (s : State) : State :=
  (s.modRx 3 fun r => { r with state := .burst }).modLane 3 fun l => { l with mode := .openM }
/-- Working lane 3 in SLOTTED. -/
def slotLane (s : State) : State :=
  (s.modRx 3 fun r => { r with state := .burst }).modLane 3 fun l => { l with mode := .slotted }
def aBurst : Burst :=
  { start := .warm, slotted := false, params := { }, firstPeak := 1000, firstStrength := 100, slot := 0, predicted := 16383 }
/-- Lane 3 in OPEN, acquiring a burst. -/
def inBurst (a : AcqState) (b : Burst) : State := (openLane .reset).modAcq 3 fun x => { x with state := a, cur := some b }
def aPortrait (w st : Nat) : Portrait := { Portrait.empty w with station := st, valid := true }
def withPortrait (s : State) (w st idx : Nat) : State := s.modGallery fun g => { g with entries := [(idx, aPortrait w st)] }
def portraitArgs (sel : Bytes) : Bytes := sel ++ zeros 0x1B ++ [1] ++ zeros 356
/-- Four slots: slot 0 sends to station 9, slot 1 receives from it. -/
def aSchedule : Schedule :=
  { Schedule.reset with header := #v[4, 60000, 9075, 454, 0, 0, 0, 0], entries := [(0, 9 + 0x4000), (1, 9 * 0x10000 + 0x40000000)] }
/-- Working lane 3 in STEADY with marker lock on station 9. -/
def steadyLane (s : State) : State :=
  (((s.modRx 3 fun r => { r with state := .locked }).modLane 3 fun l => { l with mode := .steady, power := .active }).modDec 3 fun d =>
    { d with amLocked := true, amSender := 9, delin := 2 }).modWork 3 fun w => { w with
      station := 7, fec := { w.fec with peer := 9 }, sketch := true }
def aRxCtx : RxCtx := { next := 0, gen := 0, ctxId := 1, sketchPtr := 0, heard := 0 }
/-- STEADY as above, with a receive context of station 9. -/
def heldCtx (s : State) : State := (steadyLane s).modWork 3 fun w => { w with rxCtx := [(9, aRxCtx)] }
def aTxBurst : TxBurst :=
  { dest := 9, num := 5, cold := false, resync := false, retx := false, cwCount := 1, frames := [], firstSeq := none, header := 0 }
def aTxCtx : TxCtx := { next := 1, sendPtr := 0, ctxId := 1, used := 0 }
def aFrame : HostFrame := { station := 9, payload := zeros 48, tag := 5, beyond := false }
def aMove (ph : MovePhase) (planned : Bool) : Move := { src := 3, dst := 16, phase := ph, reason := .command, planned := planned }
/-- Working lane 3 in STEADY with a move onto lane 16. -/
def movingLane (ph : MovePhase) (planned : Bool) : State :=
  ((steadyLane .reset).modLane 16 fun l => { l with mode := .spare }).modWork 3 fun w => { w with move := some (aMove ph planned) }
/-- Host group 2 in a link state, nothing to send. -/
def linkIn (st : LinkState) : State :=
  State.reset.modGroup 2 fun h => { h with state := st, power := .active, ackSent := h.next - 1 }
def aSwatch : Swatch := { type := 1, raw := false, lch := 0, sseq := 0, sbCh := 0, sbKind := 0, sbValue := 0, payload := [] }
/-- Bias output 13 (lane 3) in a range, limits 0 to 32,767. -/
def liveBias (range : Nat) : State := State.reset.modBias 13 fun b => { b with range := range, codeMax := 32767, code := 1000 }
def aLoop (st : LoopState) : BiasLoop := { params := { chan := 6, slot := 2 }, state := st, centre := 1000, nextCentre := 1000 }
def loopBias (st : LoopState) : State := (liveBias 3).modBias 13 fun b => { b with loop := some (aLoop st) }
/-- Monitor unit 0 with one regular and one injected entry. -/
def seqUnit (run : Option (Nat × Nat)) (busy : Option Conv) : State :=
  State.reset.modMon 0 fun m => { m with
    reg := { m.reg with entries := [⟨6, 0, 1, none⟩], running := run }
    inj := { m.inj with entries := [⟨7, 0, 1, none⟩] }
    busy := busy }
/-- The image runs, the firmware serves and the buses are open. -/
def withBus (s : State) : State :=
  (s.modClk fun c => { c with phase := .running, counting := true }).modSys fun u => { u with fwReady := true }
/-- OPERATIONAL device with an identity seed and the first block of indices. -/
def signerState : State :=
  State.reset.modSec fun u => { u with
    signReady := true, otp := { u.otp with lcFuse := 1, sigBlock := 1, seedA := ⟨[9], true, false, true⟩ } }
/-- The image runs, with a download from a source in a stage. -/
def download (st : Stage) (source length received : Nat) : State :=
  (withBus .reset).modImg fun u => { u with
    stage := st, active := true, source := source, length := length, received := received }
/-- Relay port 1 up, with a transfer. -/
def relayTx (tx : Option RelayTx) : State := (withBus .reset).modPort 1 fun p => { p with up := true, tx := tx }
def aTx (phase : Nat) : RelayTx := { cargo := .image, phase := phase, length := 12288 }
/-- CRC of a relay frame as its receiver takes it. -/
def crcOf (type : Nat) (payload : Bytes) : BitVec 32 := crc32 (leBytes 1 type ++ leBytes 2 payload.length ++ payload)
/-- A record of a bank test of bank 0 with its lane 3, of its first two checks. -/
def testRec : TestRecord :=
  { scope := 0, outcome := 3, method := 0, checks := 3, checksDone := 0, checksFailed := 0, endCause := 7, startTime := 0,
    endTime := 0, lifecycle := 0, lanes := 8, groups := 0, patterns := 0, expected := 12800, signature := [],
    expectedSig := [], failed := 0, runNum := 1 }
/-- A run of it with checks still to do. -/
def testRun (todo : List Nat) : TestRun :=
  { record := testRec, todo := todo, duration := 3040, core := 180, sigs := [], expSigs := [], held := [] }
def aTest (todo : List Nat) : State :=
  (State.reset.modLane 3 fun l => { l with selftest := true }).modSec fun u => { u with test := some (testRun todo) }
def evEntry (e : Ev) : EvEntry :=
  { ev := e, coalesced := 0, source := 1, code := 2, arg1 := 3, arg2 := 4, time := 5, qseq := 0 }
/-- Lane 3 with its symbol counter and its last corrected samples, latest first. -/
def sampled (n : Sym) (ys : List Int) (s : State) : State := s.modRx 3 fun r => { r with symCount := n, corrected := ys }
/-- Two symbols after the samples of a marker of an amplitude. -/
def marks (seq : List Bool) (a : Int) : List Int := [0, 0] ++ (seq.map fun b => if b then a else -a).reverse ++ List.replicate 100 0
/-- DEVICE_TIME at a count. -/
def atTime (n : Time) (s : State) : State := s.modClk fun c => { c with deviceTime := n }
/-- Ten-bit symbols of bits. -/
def symbolsOf (n : Nat) (bits : List Bool) : List (BitVec 10) :=
  match n with
  | 0 => []
  | k + 1 => BitVec.ofNat 10 (((bits ++ List.replicate 10 false).take 10).foldl (fun a b => 2 * a + b.toNat) 0) :: symbolsOf k (bits.drop 10)
/-- An outer codeword whose message begins with these bytes, its parity symbols 0. -/
def cwOf (b : Bytes) : List (BitVec 10) := symbolsOf 544 (b.flatMap msbFirst)
/-- The 46 inner codewords that hold one outer codeword, as the inner decoder gives them. -/
def innersOf (w : List (BitVec 10)) : List InnerWord :=
  let bits := w.flatMap msbFirst
  (List.range 46).map fun i => ⟨0, BitVec.ofNat 120 (((bits.drop (120 * i) ++ List.replicate 120 false).take 120).foldl (fun a b => 2 * a + b.toNat) 0)⟩
/-- One outer codeword with these bytes has left the decoders of lane 3. -/
def decoded (b : Bytes) (s : State) : State := s.modDec 3 fun d => { d with outer := [⟨cwOf b, cwOf b, false⟩] }
/-- A frame with a payload of zeros; its trailer with an error pattern. -/
def frameWith (f : FrameHdr) (err : Nat) : Bytes :=
  let b := beBytes 16 f.bits.toNat ++ zeros f.len
  b ++ leBytes 4 ((crc32 b).toNat ^^^ err)
theorem reset_bias (o : Bias) : State.reset.bias o = {} := by simp [State.bias, State.reset, PhotonUnit.reset]
theorem held_bias (s : State) (c : Nat) (a : Bytes) (o : Bias) : (held s c a).bias o = s.bias o := rfl
/-- Where no loop runs, no unit has a loop slot. -/
theorem loopSlots_nil (s : State) (u : Mon) (h : ∀ o l, (s.bias o).loop = some l → l.state = .off) : s.loopSlots u = [] := by
  unfold State.loopSlots
  refine List.filterMap_eq_nil_iff.2 fun o _ => ?_
  split
  · rename_i l hl; simp [h o l hl]
  · rfl
theorem reset_slots (c : Nat) (a : Bytes) (u : Mon) : (held .reset c a).loopSlots u = [] :=
  loopSlots_nil _ _ fun _ _ h => by rw [held_bias, reset_bias] at h; cases h
theorem loopBias_slots (c : Nat) (a : Bytes) (f : LaneUnit → LaneUnit) (u : Mon) :
    (held ((loopBias .off).modLane 3 f) c a).loopSlots u = [] :=
  loopSlots_nil _ _ fun o l h => by
    rw [held_bias, show (((loopBias .off).modLane 3 f).bias o) = (loopBias .off).bias o from rfl] at h
    simp only [loopBias, liveBias, State.bias, State.modBias, State.modPhoton, vupd_get] at h
    split at h
    · cases h; rfl
    · rw [show State.reset.photon.bias[o.val] = {} from reset_bias o] at h; cases h

/-! Ill-formed commands, one for each check. -/

theorem test_illFormed_laneReadFlipbook : Instr.wellFormed (.laneReadFlipbook 0 [(1024, 0)]) = false := by decide
theorem test_illFormed_laneGetBurstLog : Instr.wellFormed (.laneGetBurstLog 0 (some (0, 10000000, 0))) = false := by decide
theorem test_illFormed_laneTrainTimeout : Instr.wellFormed (.laneTrainTimeout 0 4) = false := by decide
theorem test_illFormed_replayStart : Instr.wellFormed (.replayStart 0 (some (96, 0)) none) = false := by decide
theorem test_illFormed_replayStart_ring : Instr.wellFormed (.replayStart 0 none (some (1024, 0))) = false := by decide
theorem test_illFormed_burstOutcome : Instr.wellFormed (.burstOutcome 0 0 0 (some (96, 0))) = false := by decide
theorem test_illFormed_galleryFetchDone : Instr.wellFormed (.galleryFetchDone 16 none) = false := by decide
theorem test_illFormed_portraitPrefetch : Instr.wellFormed (.portraitPrefetch 0 1024) = false := by decide
theorem test_illFormed_predictedAnalogueLoad : Instr.wellFormed (.predictedAnalogueLoad 0 1024) = false := by decide
theorem test_illFormed_rxWindowOpen : Instr.wellFormed (.rxWindowOpen 0 1024) = false := by decide
theorem test_illFormed_burstFreeze : Instr.wellFormed (.burstFreeze 0 1024 0 none) = false := by decide
theorem test_illFormed_openBurstChoice : Instr.wellFormed (.openBurstChoice 0 (some (0, 10000000, 0))) = false := by decide
theorem test_illFormed_superframeBoundary : Instr.wellFormed (.superframeBoundary 0 (some (0, 10000000, 0))) = false := by decide
theorem test_illFormed_innerCwDecoded : Instr.wellFormed (.innerCwDecoded 0 0 []) = false := by decide
theorem test_illFormed_frameCheck : Instr.wellFormed (.frameCheck 0 (some (10000000, 0))) = false := by decide
theorem test_illFormed_txDriverFault : Instr.wellFormed (.txDriverFault 0 3 true) = false := by decide
theorem test_illFormed_openHoldExpiry : Instr.wellFormed (.openHoldExpiry 0 16383) = false := by decide
theorem test_illFormed_backoffExpiry : Instr.wellFormed (.backoffExpiry 0 16383) = false := by decide
theorem test_illFormed_frameAccepted : Instr.wellFormed (.frameAccepted 0 (some (10000000, 0))) = false := by decide
theorem test_illFormed_rtoExpiry : Instr.wellFormed (.rtoExpiry 0 16383 none) = false := by decide
theorem test_illFormed_ackIntervalExpiry : Instr.wellFormed (.ackIntervalExpiry 0 16383) = false := by decide
theorem test_illFormed_ctxIdleExpiry : Instr.wellFormed (.ctxIdleExpiry 0 16383 true) = false := by decide
theorem test_illFormed_txBlockStart : Instr.wellFormed (.txBlockStart 0 (some (10000000, 0))) = false := by decide
theorem test_illFormed_commaReceived : Instr.wellFormed (.commaReceived 0 []) = false := by decide
theorem test_illFormed_repairReq : Instr.wellFormed (.repairReq 0 17) = false := by decide
theorem test_illFormed_hostLaneFail : Instr.wellFormed (.hostLaneFail 0 0 5) = false := by decide
theorem test_illFormed_loopSlotStart : Instr.wellFormed (.loopSlotStart 0 10000) = false := by decide
theorem test_illFormed_sensorSample : Instr.wellFormed (.sensorSample []) = false := by decide
theorem test_illFormed_powerMeasurement : Instr.wellFormed (.powerMeasurement [] 0 []) = false := by decide
theorem test_illFormed_throttleTick : Instr.wellFormed (.throttleTick []) = false := by decide
theorem test_illFormed_wearMeasurement : Instr.wellFormed (.wearMeasurement [] []) = false := by decide
theorem test_illFormed_marginPlan : Instr.wellFormed (.marginPlan true []) = false := by decide
theorem test_illFormed_crossingTimeout : Instr.wellFormed (.crossingTimeout 65536 none) = false := by decide
theorem test_illFormed_saveSlotWritten : Instr.wellFormed (.saveSlotWritten 0 136) = false := by decide
theorem test_illFormed_hello : Instr.wellFormed (.hello 0 (List.replicate 4101 0) 0) = false := by decide +kernel
theorem test_illFormed_offer : Instr.wellFormed (.offer 0 (List.replicate 4101 0) 0) = false := by decide +kernel
theorem test_illFormed_data : Instr.wellFormed (.data 0 (List.replicate 4101 0) 0) = false := by decide +kernel
theorem test_illFormed_ack : Instr.wellFormed (.ack 0 (List.replicate 4101 0) 0) = false := by decide +kernel
theorem test_illFormed_nak : Instr.wellFormed (.nak 0 (List.replicate 4101 0) 0) = false := by decide +kernel
theorem test_illFormed_refillReq : Instr.wellFormed (.refillReq 0 (List.replicate 4101 0) 0) = false := by decide +kernel
theorem test_illFormed_abort : Instr.wellFormed (.abort 0 (List.replicate 4101 0) 0) = false := by decide +kernel
theorem test_illFormed_testCheckDone : Instr.wellFormed (.testCheckDone ⟨0, 0, 0, some (true, 192, 0)⟩) = false := by decide
theorem test_illFormed_testCheckDone_array : Instr.wellFormed (.testCheckDone ⟨0, 0, 0, some (false, 692, 0)⟩) = false := by decide
theorem test_wellFormed : ([.laneTrainTimeout 0 3, .hostLaneFail 0 0 4, .galleryFetchDone 15 none, .rxWindowOpen 0 1023,
    .backoffExpiry 0 16382, .repairReq 0 16, .loopSlotStart 0 9999, .saveSlotWritten 0 135] : List Instr).all Instr.wellFormed = true := by decide

/-! The mailbox rows carry out the commands of chapter 13, and worked values of the spec. -/

/-- Every code that a mailbox row carries out has its form, and no other code has one. -/
theorem test_forms : cmdForms.map (·.code) = [
    0x0101, 0x0102, 0x0103, 0x0104, 0x0105, 0x0201, 0x0202, 0x0203, 0x1301, 0x1302, 0x0301, 0x0302, 0x0303, 0x0304,
    0x0305, 0x0310, 0x0311, 0x0312, 0x0313, 0x0314, 0x0315, 0x0320, 0x0321, 0x0322, 0x0328, 0x0329, 0x0330, 0x0331,
    0x0332, 0x0333, 0x0334, 0x0335, 0x0401, 0x0402, 0x0403, 0x0404, 0x0405, 0x0406, 0x0501, 0x0502, 0x0503, 0x0504,
    0x0505, 0x0506, 0x0507, 0x0601, 0x0602, 0x0603, 0x0604, 0x0605, 0x0606, 0x0607, 0x0608, 0x0609, 0x060A, 0x0701,
    0x0702, 0x0703, 0x0704, 0x0705, 0x0706, 0x0707, 0x0708, 0x0801, 0x0802, 0x0803, 0x0804, 0x0805, 0x0806, 0x0807,
    0x0808, 0x0809, 0x0901, 0x0902, 0x0903, 0x0904, 0x0905, 0x0906, 0x0907, 0x0908, 0x0909, 0x090A, 0x0A01, 0x0A02,
    0x0A03, 0x0A04, 0x0B01, 0x0B02, 0x0B03, 0x0B04, 0x0B05, 0x0B06, 0x0B07, 0x0B08, 0x0C01, 0x0C02, 0x0C03, 0x0C04,
    0x0D01, 0x0D02, 0x0D03, 0x0E01, 0x0E02, 0x0E03, 0x0E04, 0x0F01, 0x0F02, 0x0F03, 0x0F04, 0x0F05, 0x0F06, 0x0F07,
    0x1001, 0x1002, 0x1003, 0x1004, 0x1101, 0x1102, 0x1103, 0x1201, 0x1202, 0x1203, 0x1204, 0x1205] := by decide +kernel
/-- The header of Table 3-12: CRC-8 0x70 over its seven bytes (R59). -/
theorem test_header_crc : infoCrc 0x39D82053E83C0000#64 = 0x70#8 := by decide +kernel
/-- The worked encode of chapter 4: HCS 0xFC over header bytes 0–14 (R96). -/
theorem test_hcs : hcs 0x2400000500000100081400000000FF = 0xFC#8 := by decide +kernel
/-- Table 11-5: an error of d[13] gives the syndrome 0x53 (R331, R332). -/
theorem test_syndrome : syndrome (encWord 0x12345678 ^^^ (1#39 <<< 13)) = 0x53#7 := by decide +kernel
/-- R107: 00 to −3, 01 to −1, 11 to +1, 10 to +3. -/
theorem test_gray : pam4 [false, false, false, true, true, true, true, false] = [-3, -1, 1, 3] := by decide
/-- Table 16-7, PORST_N low: LTX at zero scale, HTX and the relay off, bias in range OFF, HBEAT low. -/
theorem test_pins_reset : ([.ltx 5, .htx 3 0, .relay 1, .bias 7, .hbeat] : List OutBall).map State.reset.ballDrive =
    [.zeroScale, .off, .off, .code 0 0, .level false] := by decide +kernel

/-! Hypotheses met. -/

theorem meets_StepRunsFront : ∃ (s : State) (c : Instr) (rest : List Instr), s.pending = c :: rest :=
  ⟨{ State.reset with pending := [.evqAck 0, .tripSample] }, .evqAck 0, [.tripSample], rfl⟩
theorem meets_IdleTick : ∃ s : State, s.pending = [] ∧ s.sys.clk.counting = false := ⟨State.reset, rfl, rfl⟩
theorem meets_IdleTick_counting : ∃ s : State, s.pending = [] ∧ s.sys.clk.counting = true :=
  ⟨State.reset.modClk (fun c => { c with counting := true }), rfl, rfl⟩
theorem meets_QueueUntouched : ∃ (i : Instr) (s t : State), exec i s = .next t :=
  ⟨.evqAck 0, State.reset, State.reset, rfl⟩
theorem meets_LaneEventFrames : ∃ (i : Instr) (p q : Phys) (s t : State),
    i.laneEvent = some p ∧ q ≠ p ∧ exec i s = .next t :=
  ⟨.preambleEndPassed 3, 3, 4, State.reset, _, rfl, by decide, rfl⟩
theorem meets_UnitFrames_group : ∃ (i : Instr) (g h : Group) (s t : State),
    i.groupEvent = some g ∧ h ≠ g ∧ (i = .clockMove g → (s.grp g).selftest = false) ∧ exec i s = .next t :=
  ⟨.clockMove 3, 3, 4, State.reset, _, rfl, by decide, fun _ => by decide +kernel, rfl⟩
theorem meets_UnitFrames_output : ∃ (i : Instr) (o q : Bias) (s t : State),
    i.outputEvent = some o ∧ q ≠ o ∧ exec i s = .next t := ⟨.ditherHalfPeriod 543, 543, 0, State.reset, _, rfl, by decide, rfl⟩
theorem meets_UnitFrames_array : ∃ (i : Instr) (a b : Arr) (s t : State),
    i.arrayEvent = some a ∧ b ≠ a ∧ exec i s = .next t := ⟨.repairWrite 691, 691, 0, State.reset, _, rfl, by decide, rfl⟩
theorem meets_UnitFrames_work : ∃ (i : Instr) (w v : Work) (s t : State),
    i.workEvent = some w ∧ v ≠ w ∧ exec i s = .next t := ⟨.backoffExpiry 127 9, 127, 0, State.reset, _, rfl, by decide, rfl⟩
theorem meets_MailboxRowNeedsItsCommand : ∃ (i : Instr) (k : Sess) (c : Nat) (s : State),
    i.mailbox = some (k, c) ∧ s.lacks k c :=
  ⟨.laneSetMode 3, 3, 0x0301, State.reset, rfl, fun x h => by simp [State.reset, State.sess, ControlPlane.reset] at h⟩
theorem meets_QueryFrames : ∃ (i : Instr) (j k : Sess) (c : Nat) (s t : State), i.mailbox = some (k, c) ∧
    (∀ q ∈ i.touches, q ∈ [Part.sess, .ev, .trigPins]) ∧ j ≠ k ∧ exec i s = .next t :=
  ⟨.laneGetStatus 7, 0, 7, 0x0304, State.reset, _, rfl, by decide, by decide, rfl⟩
theorem meets_NamedUnitFrames : ∃ (i : Instr) (k : Sess) (c : Nat) (a : Bytes) (s t : State), i.mailbox = some (k, c) ∧
    s.holds k c a ∧ exec i s = .next t ∧ c ∈ [0x0702, 0x0703, 0x0706] ∧ ∃ g h : Group, byteAt a 0 = g.val ∧ h ≠ g :=
  ⟨.hostGetStatus 0, 0, 0x0706, [31, 1], held .reset 0x0706 [31, 1], _, rfl, by decide +kernel, rfl, by decide, 31, 0,
    by decide, by decide⟩
theorem meets_NamedUnitFrames_phys : ∃ (i : Instr) (k : Sess) (c : Nat) (a : Bytes) (s t : State), i.mailbox = some (k, c) ∧
    s.holds k c a ∧ exec i s = .next t ∧ c ∈ [0x0310, 0x0311, 0x0312, 0x0313, 0x0314, 0x0315, 0x0330, 0x0331, 0x0332, 0x0333, 0x0334] ∧
    ∃ p q : Phys, byteAt a 0 = p.val ∧ q ≠ p :=
  ⟨.laneSwapPalette 0, 0, 0x0313, [135, 0, 0, 0], held .reset 0x0313 [135, 0, 0, 0], _, rfl, by decide +kernel, rfl, by decide, 135, 0,
    by decide, by decide⟩
theorem meets_NamedUnitFrames_work : ∃ (i : Instr) (k : Sess) (c : Nat) (a : Bytes) (s t : State), i.mailbox = some (k, c) ∧
    s.holds k c a ∧ exec i s = .next t ∧
    c ∈ [0x0305, 0x0320, 0x0322, 0x0328, 0x0329, 0x0335, 0x0402, 0x0602, 0x0603, 0x0604, 0x0605, 0x060A] ∧
    ∃ w v : Work, byteAt a 0 = w.val ∧ v ≠ w :=
  ⟨.laneSetStation 0, 0, 0x0305, [127, 0, 9, 0], held .reset 0x0305 [127, 0, 9, 0], _, rfl, by decide +kernel, rfl, by decide, 127, 0,
    by decide, by decide⟩
theorem meets_NamedUnitFrames_bias : ∃ (i : Instr) (k : Sess) (c : Nat) (a : Bytes) (s t : State), i.mailbox = some (k, c) ∧
    s.holds k c a ∧ exec i s = .next t ∧ c ∈ [0x0801, 0x0802, 0x0803, 0x0804, 0x0808] ∧
    ∃ o q : Bias, fieldLE a 0 2 = o.val ∧ q ≠ o :=
  ⟨.biasWrite 0, 0, 0x0801, [31, 2, 0, 0], held .reset 0x0801 [31, 2, 0, 0], _, rfl, by decide +kernel, rfl, by decide, 543, 0,
    by decide, by decide⟩
theorem meets_NamedUnitFrames_mon : ∃ (i : Instr) (k : Sess) (c : Nat) (a : Bytes) (s t : State), i.mailbox = some (k, c) ∧
    s.holds k c a ∧ exec i s = .next t ∧ c ∈ [0x0904, 0x0906, 0x0907, 0x0908, 0x0909] ∧
    ∃ u v : Mon, byteAt a 0 = u.val ∧ v ≠ u :=
  ⟨.monGetStatus 0, 0, 0x0909, [7, 0, 0, 0], held .reset 0x0909 [7, 0, 0, 0], _, rfl, by decide +kernel, rfl, by decide, 7, 0,
    by decide, by decide⟩
theorem meets_NamedUnitFrames_filter : ∃ (i : Instr) (k : Sess) (c : Nat) (a : Bytes) (s t : State), i.mailbox = some (k, c) ∧
    s.holds k c a ∧ exec i s = .next t ∧ c ∈ [0x0A01, 0x0A03, 0x0A04] ∧ ∃ f g : Fch, byteAt a 0 = f.val ∧ g ≠ f :=
  ⟨.filterFreezeDc 0, 0, 0x0A03, [63, 1, 0, 0], held .reset 0x0A03 [63, 1, 0, 0], _, rfl, by decide +kernel, rfl, by decide, 63, 0,
    by decide, by decide⟩
theorem meets_StepKeepsInvariant : ∃ s t : State, s.inv ∧ step s = .next t :=
  ⟨State.reset, State.reset.tick, ⟨fun _ h => (nomatch h), fun _ h => (nomatch h), by decide +kernel, by decide +kernel⟩, rfl⟩
theorem meets_FusesStayBlown : ∃ s t : State, step s = .next t := ⟨State.reset, State.reset.tick, rfl⟩
theorem meets_LockBitsStaySet : ∃ (i : Instr) (s t : State), i ≠ .porstNAssert ∧ i ≠ .pllLockLoss ∧ (∀ d, i ≠ .wakeComplete d) ∧
    exec i s = .next t := ⟨.evqAck 0, State.reset, State.reset, nofun, nofun, nofun, rfl⟩
theorem meets_MailboxAreasStayCanonical : ∃ (i : Instr) (s t : State), ((∃ b, i = .indWriteApply b) ∨ ∃ k, i = .sessionStage k) ∧
    (∀ k, (s.sess k).wf = true) ∧ exec i s = .next t :=
  ⟨.indWriteApply .spi, State.reset, _, .inl ⟨_, rfl⟩, by decide +kernel, rfl⟩
theorem meets_MailboxAreasStayCanonical_stage : ∃ (i : Instr) (s t : State),
    ((∃ b, i = .indWriteApply b) ∨ ∃ k, i = .sessionStage k) ∧ (∀ k, (s.sess k).wf = true) ∧ exec i s = .next t :=
  ⟨.sessionStage 7, State.reset, _, .inr ⟨_, rfl⟩, by decide +kernel, rfl⟩
theorem meets_EventQueuing_queued : ∃ (u : EventUnit) (x : EvEntry), u.enabled x.ev = true ∧ u.queue.length < 240 :=
  ⟨EventUnit.reset, evEntry .calDue, by decide +kernel⟩
theorem meets_EventQueuing_reserved : ∃ (u : EventUnit) (x : EvEntry), u.enabled x.ev = true ∧ evReserved x.ev = true ∧
    u.queue.length < 256 ∧ 240 ≤ u.queue.length :=
  ⟨{ EventUnit.reset with queue := List.replicate 255 (evEntry .calDue) }, evEntry .memCorrected, by decide +kernel⟩
theorem meets_EventQueuing_lost : ∃ (u : EventUnit) (x : EvEntry), u.enabled x.ev = true ∧
    (if evReserved x.ev then 256 else 240) ≤ u.queue.length ∧ ∀ y ∈ u.queue, y.time ≠ x.time :=
  ⟨{ EventUnit.reset with queue := List.replicate 240 (evEntry .calDue) }, { evEntry .calDue with time := 7 }, by decide +kernel⟩
theorem meets_EventQueuing_disabled : ∃ (u : EventUnit) (x : EvEntry), u.enabled x.ev = false :=
  ⟨{ EventUnit.reset with enable := Vector.replicate 10 0 }, evEntry .calDue, by decide +kernel⟩
theorem meets_EventQueuing_bound : ∃ u : EventUnit, u.queue.length ≤ 256 :=
  ⟨{ EventUnit.reset with queue := List.replicate 256 (evEntry .memCorrected) }, by decide +kernel⟩
theorem meets_CutShortReadClearsNothing_read : ∃ (s t : State) (a : BitVec 16) (n : Nat), n < 4 ∧
    exec (.spiRead a n) s = .next t ∧ addrBad a = false := ⟨State.reset, _, 0x044, 3, by decide, rfl, by decide⟩
theorem meets_CutShortReadClearsNothing_readC : ∃ (s t : State) (a : BitVec 16) (c : Byte) (n : Nat), n < 4 ∧
    exec (.spiReadC a c n) s = .next t ∧ addrBad a = false ∧ c ≠ 0 ∧ c.toNat ≤ 64 :=
  ⟨State.reset, _, 0x044, 64, 3, by decide, rfl, by decide, by decide, by decide⟩
theorem meets_CutShortReadClearsNothing_whole : ∃ (s : State) (n : Nat), s.busOpen = true ∧ 4 ≤ n ∧ n < 8 :=
  ⟨State.reset.modClk (fun c => { c with counting := true }) |>.modPins (fun p => { p with ctlrstLow := false }), 7,
    by decide +kernel, by decide, by decide⟩
theorem meets_PllLockLossIsPowerOn : ∃ s : State, s.sys.clk.rootLock = true ∧ s.refOk = true :=
  ⟨State.reset.modClk (fun c => { c with phase := .running, rootLock := true, refclkOk := true }), by decide +kernel⟩
theorem meets_laneSetMode_now : ∃ (s : State) (k : Sess) (a : Bytes) (p : Phys), s.holds k 0x0301 a ∧
    byteAt a 0 = p.val ∧ ((s.ln p).selftest = false ∧ s.moving p = false ∧ s.retired = false ∧ s.tripped = false ∧
    (s.ln p).failed = false) ∧ (guaranteed (s.modeOf p) = false ∧ s.mayChange p (modeOfCode (byteAt a 1)) = true ∧
    modeOfCode (byteAt a 1) ≠ .spare) ∧ (modeOfCode (byteAt a 1) = .transparent → s.standard = true) :=
  ⟨held .reset 0x0301 [3, 1, 0, 0],
    0,
    [3, 1, 0, 0],
    3, by decide +kernel⟩
theorem meets_laneSetMode_spare : ∃ (s : State) (k : Sess) (a : Bytes) (p : Phys), s.holds k 0x0301 a ∧
    byteAt a 0 = p.val ∧ ((s.ln p).selftest = false ∧ s.moving p = false ∧ s.retired = false ∧ s.tripped = false ∧
    (s.ln p).failed = false) ∧ (s.mayChange p .spare = true ∧ modeOfCode (byteAt a 1) = .spare) ∧ (∀ w : Work,
    (s.wk w).oosOrder = none) :=
  ⟨held (State.reset.modLane 16 fun l => { l with mode := .tune, train := .passed, trainHere := true }) 0x0301 [16, 7, 0, 0],
    0,
    [16, 7, 0, 0],
    16, by decide +kernel⟩
theorem meets_laneSetMode_epoch : ∃ (s : State) (k : Sess) (a : Bytes) (p : Phys) (w : Work), s.holds k 0x0301 a ∧
    byteAt a 0 = p.val ∧ ((s.ln p).selftest = false ∧ s.moving p = false ∧ s.retired = false ∧ s.tripped = false ∧
    (s.ln p).failed = false) ∧ (burstMode (s.modeOf p) = true ∧ burstMode (modeOfCode (byteAt a 1)) = true ∧
    s.mayChange p (modeOfCode (byteAt a 1)) = true ∧ s.workOf p = some w) :=
  ⟨held (slotLane .reset) 0x0301 [3, 5, 0, 0],
    0,
    [3, 5, 0, 0],
    3,
    3, by decide +kernel⟩
theorem meets_laneSetMode_cancel : ∃ (s : State) (k : Sess) (a : Bytes) (p : Phys) (e : BitVec 32) (target : LaneMode),
    s.holds k 0x0301 a ∧ byteAt a 0 = p.val ∧ ((s.ln p).selftest = false ∧ s.retired = false ∧ s.tripped = false ∧
    (s.ln p).failed = false) ∧ ((s.ln p).change = some (.epoch target e false) ∧ modeOfCode (byteAt a 1) = s.modeOf p ∧
    burstMode (s.modeOf p) = true) :=
  ⟨held ((slotLane .reset).modLane 3 fun l => { l with change := some (.epoch .openM 9 false) }) 0x0301 [3, 4, 0, 0],
    0,
    [3, 4, 0, 0],
    3,
    9,
    .openM, by decide +kernel⟩
theorem meets_laneSetMode_drain : ∃ (s : State) (k : Sess) (a : Bytes) (p : Phys), s.holds k 0x0301 a ∧
    byteAt a 0 = p.val ∧ ((s.ln p).selftest = false ∧ s.moving p = false ∧ s.retired = false ∧ s.tripped = false ∧
    (s.ln p).failed = false) ∧ (guaranteed (s.modeOf p) = true ∧ (modeOfCode (byteAt a 1) = .tune ∨ modeOfCode (byteAt a
    1) = .dark)) :=
  ⟨held (State.reset.modLane 3 fun l => { l with mode := .steady }) 0x0301 [3, 1, 0, 0],
    0,
    [3, 1, 0, 0],
    3, by decide +kernel⟩
theorem meets_laneTrain : ∃ (s : State) (k : Sess) (a : Bytes) (p : Phys), s.holds k 0x0302 a ∧ byteAt a 0 = p.val ∧
    ((s.ln p).selftest = false ∧ (s.ln p).train ≠ .running ∧ s.modeOf p = .tune) :=
  ⟨held (State.reset.modLane 3 fun l => { l with mode := .tune }) 0x0302 [3, 2, 0, 0],
    0,
    [3, 2, 0, 0],
    3, by decide +kernel⟩
theorem meets_laneReset : ∃ (s : State) (k : Sess) (a : Bytes) (p : Phys), s.holds k 0x0303 a ∧ byteAt a 0 = p.val ∧
    ((s.ln p).selftest = false ∧ s.moving p = false ∧ (s.ln p).resetWait = false ∧ (s.ln p).resetting = false) ∧
    (burstMode (s.modeOf p) = false ∧ (s.ln p).train ≠ .running) :=
  ⟨held .reset 0x0303 [3, 0, 0, 0],
    0,
    [3, 0, 0, 0],
    3, by decide +kernel⟩
theorem meets_laneReset_training : ∃ (s : State) (k : Sess) (a : Bytes) (p : Phys), s.holds k 0x0303 a ∧
    byteAt a 0 = p.val ∧ ((s.ln p).selftest = false ∧ s.moving p = false ∧ (s.ln p).resetWait = false ∧
    (s.ln p).resetting = false) ∧ (burstMode (s.modeOf p) = false ∧ (s.ln p).train = .running ∧ (s.ln p).reint = none) :=
  ⟨held (State.reset.modLane 3 fun l => { l with mode := .tune, train := .running }) 0x0303 [3, 0, 0, 0],
    0,
    [3, 0, 0, 0],
    3, by decide +kernel⟩
theorem meets_laneReset_wait : ∃ (s : State) (k : Sess) (a : Bytes) (p : Phys), s.holds k 0x0303 a ∧ byteAt a 0 = p.val ∧
    ((s.ln p).selftest = false ∧ s.moving p = false ∧ (s.ln p).resetWait = false ∧ (s.ln p).resetting = false) ∧
    (burstMode (s.modeOf p) = true ∧ s.burstFree p = false) :=
  ⟨held ((State.reset.modLane 3 fun l => { l with mode := .openM }).modTx 3 fun x => { x with burst := some aTxBurst }) 0x0303 [3, 0, 0, 0],
    0,
    [3, 0, 0, 0],
    3, by decide +kernel⟩
theorem meets_laneGetStatus : ∃ (s : State) (k : Sess) (a : Bytes) (p : Phys), s.holds k 0x0304 a ∧ byteAt a 0 = p.val ∧
    (s.ln p).selftest = false :=
  ⟨held .reset 0x0304 [3, 0, 0, 0],
    0,
    [3, 0, 0, 0],
    3, by decide +kernel⟩
theorem meets_laneGetStatus_tested : ∃ (s : State) (k : Sess) (a : Bytes) (p : Phys), s.holds k 0x0304 a ∧
    byteAt a 0 = p.val ∧ (s.ln p).selftest = true :=
  ⟨held (State.reset.modLane 3 fun l => { l with selftest := true }) 0x0304 [3, 0, 0, 0],
    0,
    [3, 0, 0, 0],
    3, by decide +kernel⟩
theorem meets_laneSetStation : ∃ (s : State) (k : Sess) (a : Bytes) (w : Work), s.holds k 0x0305 a ∧ byteAt a 0 = w.val ∧
    (s.workTest w = false ∧ (s.physOf w).isSome ∧ (s.modeOfWork w = .dark ∨ s.modeOfWork w = .tune)) :=
  ⟨held .reset 0x0305 [3, 0, 7, 0],
    0,
    [3, 0, 7, 0],
    3, by decide +kernel⟩
theorem meets_laneSetStation_refused : ∃ (s : State) (k : Sess) (a : Bytes) (w : Work), s.holds k 0x0305 a ∧
    byteAt a 0 = w.val ∧ (s.workTest w = false ∧ s.modeOfWork w ≠ .dark ∧ s.modeOfWork w ≠ .tune) :=
  ⟨held (State.reset.modLane 3 fun l => { l with mode := .steady }) 0x0305 [3, 0, 7, 0],
    0,
    [3, 0, 7, 0],
    3, by decide +kernel⟩
theorem meets_laneTrainingDone_passed : ∃ (s : State) (p : Phys) (reason : Nat), ((s.ln p).train = .running ∧
    (s.ln p).reint ≠ some .training) :=
  ⟨(State.reset.modLane 3 fun l => { l with mode := .tune, train := .running }),
    3,
    0, by decide +kernel⟩
theorem meets_laneTrainingDone_answer : ∃ (s : State) (p : Phys) (k : Sess) (reason : Nat), ((s.ln p).train = .running ∧
    (s.ln p).reint ≠ some .training ∧ (s.ln p).trainSess = some k) ∧ (s.waits k 0x0302 ∧ (s.sess k).closePending = false)
    :=
  ⟨started (State.reset.modLane 3 fun l => { l with mode := .tune, train := .running, trainSess := some 0 }) 0x0302 [3, 2, 0, 0],
    3,
    0,
    0, by decide +kernel⟩
theorem meets_laneTrainingDone_failed : ∃ (s : State) (p : Phys) (k : Sess) (reason : Nat), ((s.ln p).train = .running ∧
    (s.ln p).reint ≠ some .training ∧ (s.ln p).trainSess = some k) ∧ (s.waits k 0x0302 ∧ (s.sess k).closePending = false)
    :=
  ⟨started (State.reset.modLane 3 fun l => { l with mode := .tune, train := .running, trainSess := some 0 }) 0x0302 [3, 2, 0, 0],
    3,
    0,
    1, by decide +kernel⟩
theorem meets_laneTrainTimeout : ∃ (s : State) (p : Phys) (k : Sess) (reason : Nat), ((s.ln p).train = .running ∧
    (s.ln p).reint ≠ some .training ∧ (s.ln p).trainSess = some k) ∧ (s.waits k 0x0302 ∧ (s.sess k).closePending = false)
    :=
  ⟨started (State.reset.modLane 3 fun l => { l with mode := .tune, train := .running, trainSess := some 0 }) 0x0302 [3, 2, 0, 0],
    3,
    0,
    2, by decide +kernel⟩
theorem meets_laneResetDone : ∃ (s : State) (p : Phys) (d : Nat × Nat), ((s.ln p).resetting = true ∧
    (s.ln p).resetWait = false) :=
  ⟨(State.reset.modLane 3 fun l => { l with mode := .tune, resetting := true }),
    3,
    (0, 0), by decide +kernel⟩
theorem meets_coreCoverDone : ∃ (s : State) (c : Core) (code : Nat), (s.coreOf c).covering = some code :=
  ⟨(State.reset.modCore 150 fun u => { u with covering := some 0 }),
    150,
    0, by decide +kernel⟩
theorem meets_deliveryReintegrate : ∃ (s : State) (k : Sess) (a : Bytes) (p : Phys), s.holds k 0x0608 a ∧
    byteAt a 0 = p.val ∧ ((s.ln p).selftest = false ∧ (s.ln p).reint = none ∧ (s.ln p).failed = true ∧
    s.modeOf p = .dark ∧ s.workOf p = none) ∧ (s.retired = false ∧ s.tripped = false ∧ s.sys.clk.phase ≠ .noCount) :=
  ⟨held (State.reset.modLane 16 fun l => { l with failed := true }) 0x0608 [16, 0, 0, 0],
    0,
    [16, 0, 0, 0],
    16, by decide +kernel⟩
theorem meets_drainTimeout : ∃ (s : State) (p : Phys) (target : LaneMode) (k : Sess), ((s.ln p).change = some (.drain
    target (some k)) ∧ s.waits k 0x0301 ∧ (s.sess k).closePending = false) :=
  ⟨started (State.reset.modLane 3 fun l => { l with mode := .steady, change := some (.drain .tune (some 0)) }) 0x0301 [3, 1, 0, 0],
    3,
    .tune,
    0, by decide +kernel⟩
theorem meets_drainComplete : ∃ (s : State) (p : Phys) (w : Work) (k : Sess) (target : LaneMode), (s.workOf p = some w ∧
    (s.ln p).change = some (.drain target (some k)) ∧ (s.wk w).drained = true ∧ (s.wk w).move = none ∧
    (s.txl p).burst = none) ∧ (s.waits k 0x0301 ∧ (s.sess k).closePending = false ∧ (target = .tune ∨ target = .dark)) :=
  ⟨started (State.reset.modLane 3 fun l => { l with mode := .steady, change := some (.drain .tune (some 0)) }) 0x0301 [3, 1, 0, 0],
    3,
    3,
    0,
    .tune, by decide +kernel⟩
theorem meets_drainComplete_burst : ∃ (s : State) (p : Phys) (w : Work) (k : Option Sess) (target : LaneMode),
    (s.workOf p = some w ∧ (s.ln p).change = some (.drain target k) ∧ (s.wk w).drained = true ∧ (s.wk w).move = none ∧
    (s.txl p).burst ≠ none) :=
  ⟨((State.reset.modLane 3 fun l => { l with mode := .openM, change := some (.drain .tune none) }).modTx 3 fun x => { x with burst := some { dest := 5, num := 0, cold := false, resync := false, retx := false, cwCount := 0, frames := [], firstSeq := none, header := 0 } }),
    3,
    3,
    none,
    .tune, by decide +kernel⟩
theorem meets_laneSetRx : ∃ (s : State) (k : Sess) (a : Bytes) (p : Phys), s.holds k 0x0310 a ∧ byteAt a 0 = p.val ∧
    ((s.ln p).selftest = false ∧ ((s.rxl p).rate = byteAt a 9 ∨ s.modeOf p = .dark ∨ s.modeOf p = .tune)) :=
  ⟨held .reset 0x0310 [3, 1, 30, 4, 0, 1, 0, 14, 7, 0, 8, 14, 10, 0, 0, 0],
    0,
    [3, 1, 30, 4, 0, 1, 0, 14, 7, 0, 8, 14, 10, 0, 0, 0],
    3, by decide +kernel⟩
theorem meets_laneSetRx_all : ∃ (s : State) (k : Sess) (a : Bytes), s.holds k 0x0310 a ∧ byteAt a 0 = 255 ∧ (∀ p : Phys,
    (s.ln p).selftest = false ∧ ((s.rxl p).rate = byteAt a 9 ∨ s.modeOf p = .dark ∨ s.modeOf p = .tune)) :=
  ⟨held .reset 0x0310 [255, 1, 30, 4, 0, 1, 0, 14, 7, 0, 8, 14, 10, 0, 0, 0],
    0,
    [255, 1, 30, 4, 0, 1, 0, 14, 7, 0, 8, 14, 10, 0, 0, 0], by decide +kernel⟩
theorem meets_laneSetRx_refused : ∃ (s : State) (k : Sess) (a : Bytes) (p : Phys), s.holds k 0x0310 a ∧
    byteAt a 0 = p.val ∧ ((s.ln p).selftest = false ∧ (s.rxl p).rate ≠ byteAt a 9 ∧ s.modeOf p ≠ .dark ∧
    s.modeOf p ≠ .tune) :=
  ⟨held (State.reset.modLane 3 fun l => { l with mode := .steady }) 0x0310 [3, 1, 30, 4, 0, 1, 0, 14, 7, 1, 8, 14, 10, 0, 0, 0],
    0,
    [3, 1, 30, 4, 0, 1, 0, 14, 7, 1, 8, 14, 10, 0, 0, 0],
    3, by decide +kernel⟩
theorem meets_laneLoadRxPalette : ∃ (s : State) (k : Sess) (a : Bytes) (p : Phys), s.holds k 0x0311 a ∧
    byteAt a 0 = p.val ∧ ((s.ln p).selftest = false ∧ (s.rxl p).fade = none ∧ (s.rxl p).activeB ≠ decide (byteAt a 1 =
    1)) :=
  ⟨held .reset 0x0311 (3 :: 1 :: zeros 138),
    0,
    3 :: 1 :: zeros 138,
    3, by decide +kernel⟩
theorem meets_laneLoadRxPalette_active : ∃ (s : State) (k : Sess) (a : Bytes) (p : Phys), s.holds k 0x0311 a ∧
    byteAt a 0 = p.val ∧ ((s.ln p).selftest = false ∧ ((s.rxl p).fade ≠ none ∨ (s.rxl p).activeB = decide (byteAt a 1 =
    1))) :=
  ⟨held .reset 0x0311 (3 :: 0 :: zeros 138),
    0,
    3 :: 0 :: zeros 138,
    3, by decide +kernel⟩
theorem meets_laneGetRxDiag : ∃ (s : State) (k : Sess) (a : Bytes) (p : Phys), s.holds k 0x0312 a ∧ byteAt a 0 = p.val ∧
    ((s.ln p).selftest = false ∧ bitOf (byteAt a 1) 0 = false) :=
  ⟨held .reset 0x0312 [3, 0, 0, 0],
    0,
    [3, 0, 0, 0],
    3, by decide +kernel⟩
theorem meets_laneGetRxDiag_clear : ∃ (s : State) (k : Sess) (a : Bytes) (p : Phys), s.holds k 0x0312 a ∧
    byteAt a 0 = p.val ∧ ((s.ln p).selftest = false ∧ bitOf (byteAt a 1) 0 = true) :=
  ⟨held .reset 0x0312 [3, 1, 0, 0],
    0,
    [3, 1, 0, 0],
    3, by decide +kernel⟩
theorem meets_laneGetRxDiag_tested : ∃ (s : State) (k : Sess) (a : Bytes) (p : Phys), s.holds k 0x0312 a ∧
    byteAt a 0 = p.val ∧ ((s.ln p).selftest = true ∧ bitOf (byteAt a 1) 0 = false) :=
  ⟨held (State.reset.modLane 3 fun l => { l with selftest := true }) 0x0312 [3, 0, 0, 0],
    0,
    [3, 0, 0, 0],
    3, by decide +kernel⟩
theorem meets_laneSwapPalette_starts : ∃ (s : State) (k : Sess) (a : Bytes) (p : Phys), s.holds k 0x0313 a ∧
    byteAt a 0 = p.val ∧ ((s.ln p).selftest = false ∧ (s.rxl p).fade = none ∧ (s.modeOf p = .steady ∨ s.modeOf p =
    .transparent ∨ s.modeOf p = .tune ∨ s.modeOf p = .loop)) :=
  ⟨held (State.reset.modLane 3 fun l => { l with mode := .steady }) 0x0313 [3, 0, 8, 0, 1, 0, 0, 0],
    0,
    [3, 0, 8, 0, 1, 0, 0, 0],
    3, by decide +kernel⟩
theorem meets_laneSwapPalette_held : ∃ (s : State) (k : Sess) (a : Bytes) (p : Phys) (f : Fade), s.holds k 0x0313 a ∧
    byteAt a 0 = p.val ∧ ((s.ln p).selftest = false ∧ (s.rxl p).fade = some f ∧ (s.modeOf p = .steady ∨ s.modeOf p =
    .transparent ∨ s.modeOf p = .tune ∨ s.modeOf p = .loop)) :=
  ⟨held ((State.reset.modLane 3 fun l => { l with mode := .steady }).modRx 3 fun r => { r with fade := some { swap := { exp := 8, tag := 7 } } }) 0x0313 [3, 0, 8, 0, 1, 0, 0, 0],
    0,
    [3, 0, 8, 0, 1, 0, 0, 0],
    3,
    { swap := { exp := 8, tag := 7 } }, by decide +kernel⟩
theorem meets_laneSwapPalette_refused : ∃ (s : State) (k : Sess) (a : Bytes) (p : Phys), s.holds k 0x0313 a ∧
    byteAt a 0 = p.val ∧ ((s.ln p).selftest = false ∧ (burstMode (s.modeOf p) = true ∨ s.modeOf p = .dark ∨ s.modeOf p =
    .spare)) :=
  ⟨held .reset 0x0313 [3, 0, 8, 0, 1, 0, 0, 0],
    0,
    [3, 0, 8, 0, 1, 0, 0, 0],
    3, by decide +kernel⟩
theorem meets_laneCaptureFlipbook : ∃ (s : State) (k : Sess) (a : Bytes) (p : Phys), s.holds k 0x0314 a ∧
    (byteAt a 0 = p.val ∧ byteAt a 1 = 0) ∧ ((s.ln p).selftest = false ∧ (s.rxl p).capture.status ≠ .complete ∧
    s.modeOf p ≠ .openM ∧ (s.rxl p).replaying = false) :=
  ⟨held .reset 0x0314 [3, 0, 1, 0, 9, 0, 0, 0],
    0,
    [3, 0, 1, 0, 9, 0, 0, 0],
    3, by decide +kernel⟩
theorem meets_laneCaptureFlipbook_release : ∃ (s : State) (k : Sess) (a : Bytes) (p : Phys), s.holds k 0x0314 a ∧
    (byteAt a 0 = p.val ∧ byteAt a 1 = 1) ∧ ((s.ln p).selftest = false ∧ s.modeOf p ≠ .openM ∧
    (s.rxl p).replaying = false) ∧ ((s.rxl p).capture.status = .armed ∨ (s.rxl p).capture.status = .filling ∨ (s.rxl
    p).capture.status = .complete) :=
  ⟨held (State.reset.modRx 3 fun r => { r with frozen := true, capture := { r.capture with status := .complete } }) 0x0314 [3, 1, 0, 0, 0, 0, 0, 0],
    0,
    [3, 1, 0, 0, 0, 0, 0, 0],
    3, by decide +kernel⟩
theorem meets_laneReadFlipbook : ∃ (s : State) (k : Sess) (a : Bytes) (p : Phys), s.holds k 0x0315 a ∧
    (byteAt a 0 = p.val ∧ fieldLE a 2 2 + fieldLE a 4 2 ≤ 1024) ∧ ((s.ln p).selftest = false ∧
    (s.rxl p).capture.status = .complete) :=
  ⟨held (State.reset.modRx 3 fun r => { r with capture := { r.capture with status := .complete } }) 0x0315 [3, 0, 0, 0, 2, 0, 0, 0],
    0,
    [3, 0, 0, 0, 2, 0, 0, 0],
    3, by decide +kernel⟩
theorem meets_laneReadFlipbook_range : ∃ (s : State) (k : Sess) (a : Bytes) (p : Phys), s.holds k 0x0315 a ∧
    (byteAt a 0 = p.val ∧ 1024 < fieldLE a 2 2 + fieldLE a 4 2 ∧ (s.rxl p).capture.status = .complete) :=
  ⟨held (State.reset.modRx 3 fun r => { r with capture := { r.capture with status := .complete } }) 0x0315 [3, 0, 255, 3, 2, 0, 0, 0],
    0,
    [3, 0, 255, 3, 2, 0, 0, 0],
    3, by decide +kernel⟩
theorem meets_laneReadFlipbook_none : ∃ (s : State) (k : Sess) (a : Bytes) (p : Phys), s.holds k 0x0315 a ∧
    (byteAt a 0 = p.val ∧ (s.rxl p).capture.status ≠ .complete) :=
  ⟨held .reset 0x0315 [3, 0, 0, 0, 2, 0, 0, 0],
    0,
    [3, 0, 0, 0, 2, 0, 0, 0],
    3, by decide +kernel⟩
theorem meets_losBlockEnd_low : ∃ (s : State) (p : Phys), ((s.rxl p).state ≠ .off ∧ (s.rxl p).state ≠ .burst ∧
    (s.rxl p).los = false ∧ 3 ≤ (s.rxl p).losLow ∧ burstMode (s.modeOf p) = false) ∧ ((s.rxl p).corrected.length = 256 ∧
    (s.rxl p).symCount.toNat % 256 = 0 ∧ ((s.rxl p).corrected.map Int.natAbs).sum < 1024 * (s.rxl p).losThresh) :=
  ⟨(State.reset.modRx 3 fun r => { r with state := .locked, losLow := 3, corrected := List.replicate 256 5 }),
    3, by decide +kernel⟩
theorem meets_losBlockEnd_high : ∃ (s : State) (p : Phys), ((s.rxl p).state = .signalWait ∧ (s.rxl p).los = true ∧
    3 ≤ (s.rxl p).losHigh ∧ burstMode (s.modeOf p) = false) ∧ ((s.rxl p).corrected.length = 256 ∧
    (s.rxl p).symCount.toNat % 256 = 0 ∧ 1024 * ((s.rxl p).losThresh + 4) ≤ ((s.rxl p).corrected.map Int.natAbs).sum) :=
  ⟨(State.reset.modRx 3 fun r => { r with state := .signalWait, los := true, losHigh := 3, losThresh := 8, corrected := List.replicate 256 400 }),
    3, by decide +kernel⟩
theorem meets_agcUpdate_up : ∃ (s : State) (p : Phys) (rms : Nat), ((s.rxl p).agcOn = true ∧ (s.rxl p).state ≠ .off ∧
    (s.rxl p).state ≠ .burst ∧ rms < 4 * (s.rxl p).agcTarget) :=
  ⟨(State.reset.modRx 3 fun r => { r with state := .locked, agcOn := true }),
    3,
    100, by decide +kernel⟩
theorem meets_agcUpdate_down : ∃ (s : State) (p : Phys) (rms : Nat), ((s.rxl p).agcOn = true ∧ (s.rxl p).state ≠ .off ∧
    (s.rxl p).state ≠ .burst ∧ 4 * (s.rxl p).agcTarget < rms) :=
  ⟨(State.reset.modRx 3 fun r => { r with state := .locked, agcOn := true }),
    3,
    200, by decide +kernel⟩
theorem meets_calSetApply : ∃ (s : State) (p : Phys) (sym : Sym), ((s.rxl p).replaying = false ∧
    (s.rxl p).stagedPending = true ∧ (s.rxl p).state ≠ .off ∧ s.mayApplySet p sym = true) :=
  ⟨(State.reset.modRx 3 fun r => { r with state := .locked, stagedPending := true, symCount := 4000 }),
    3,
    4096, by decide +kernel⟩
theorem meets_calSetApply_deferred : ∃ (s : State) (p : Phys) (sym : Sym), ((s.rxl p).replaying = true ∨ s.mayApplySet p
    sym = false) :=
  ⟨(State.reset.modRx 3 fun r => { r with replaying := true }),
    3,
    9, by decide +kernel⟩
theorem meets_pilotEvaluation_lock : ∃ (s : State) (p : Phys) (m : RxMeas), ((s.rxl p).state = .timingAcq ∧
    (s.rxl p).eq.pilots.length = 64 ∧ ((s.rxl p).eq.pilots.filter id).length ≤ 2) :=
  ⟨(State.reset.modRx 3 fun r => { r with state := .timingAcq, eq := { r.eq with pilots := true :: List.replicate 63 false } }),
    3,
    {}, by decide +kernel⟩
theorem meets_pilotEvaluation_loss : ∃ (s : State) (p : Phys) (m : RxMeas), ((s.rxl p).state = .locked ∧
    (s.rxl p).eq.pilots.length = 64 ∧ 16 ≤ ((s.rxl p).eq.pilots.filter id).length) :=
  ⟨(State.reset.modRx 3 fun r => { r with state := .locked, eq := { r.eq with pilots := List.replicate 16 true ++ List.replicate 48 false } }),
    3,
    {}, by decide +kernel⟩
theorem meets_acqLimitExpiry : ∃ (s : State) (p : Phys), (s.rxl p).state = .timingAcq :=
  ⟨(State.reset.modRx 3 fun r => { r with state := .timingAcq }),
    3, by decide +kernel⟩
theorem meets_convergeLock : ∃ (s : State) (p : Phys), ((s.rxl p).state = .converge ∧ 64 ≤ (s.rxl p).eq.quiet) :=
  ⟨(State.reset.modRx 3 fun r => { r with state := .converge, eq := { r.eq with quiet := 64 } }),
    3, by decide +kernel⟩
theorem meets_fadeStart : ∃ (s : State) (p : Phys) (f : Fade), ((s.rxl p).fade = some f ∧ f.started = false) :=
  ⟨(State.reset.modRx 3 fun r => { r with fade := some { swap := { exp := 8, tag := 1 } } }),
    3,
    { swap := { exp := 8, tag := 1 } }, by decide +kernel⟩
theorem meets_fadeMidpoint : ∃ (s : State) (p : Phys) (f : Fade), ((s.rxl p).fade = some f ∧ f.started = true ∧
    f.total (qOf (s.rxl p).rate) < 2 * f.steps (qOf (s.rxl p).rate) (s.rxl p).symCount) :=
  ⟨(State.reset.modRx 3 fun r => { r with symCount := 356, fade := some { swap := { exp := 8, tag := 1 }, started := true, start := 100 } }),
    3,
    { swap := { exp := 8, tag := 1 }, started := true, start := 100 }, by decide +kernel⟩
theorem meets_fadeEnd : ∃ (s : State) (p : Phys) (f : Fade), ((s.rxl p).fade = some f ∧ f.started = true ∧
    (s.rxl p).heldSwap = none ∧ f.steps (qOf (s.rxl p).rate) (s.rxl p).symCount = f.total (qOf (s.rxl p).rate)) :=
  ⟨(State.reset.modRx 3 fun r => { r with symCount := 356, fade := some { swap := { exp := 8, tag := 1 }, started := true, start := 100 } }),
    3,
    { swap := { exp := 8, tag := 1 }, started := true, start := 100 }, by decide +kernel⟩
theorem meets_fadeEnd_held : ∃ (s : State) (p : Phys) (f : Fade) (w : Swap), ((s.rxl p).fade = some f ∧
    f.started = true ∧ (s.rxl p).heldSwap = some w ∧ f.steps (qOf (s.rxl p).rate) (s.rxl p).symCount = f.total (qOf
    (s.rxl p).rate)) :=
  ⟨(State.reset.modRx 3 fun r => { r with symCount := 356, fade := some { swap := { exp := 8, tag := 1 }, started := true, start := 100 }, heldSwap := some { exp := 9, tag := 2 } }),
    3,
    { swap := { exp := 8, tag := 1 }, started := true, start := 100 },
    { exp := 9, tag := 2 }, by decide +kernel⟩
theorem meets_flipbookTrigger : ∃ (s : State) (p : Phys) (kind : Nat), ((s.rxl p).capture.status = .armed ∧
    (s.rxl p).capture.trigger = kind) :=
  ⟨(State.reset.modRx 3 fun r => { r with capture := { r.capture with status := .armed, trigger := 2 } }),
    3,
    2, by decide +kernel⟩
theorem meets_flipbookCaptureComplete : ∃ (s : State) (p : Phys), ((s.rxl p).capture.status = .filling ∧
    ((s.rxl p).symCount - (s.rxl p).capture.stop).toNat < 2 ^ 47) :=
  ⟨(State.reset.modRx 3 fun r => { r with symCount := 8010, capture := { r.capture with status := .filling, stop := 8000 } }),
    3, by decide +kernel⟩
theorem meets_adaptationUpdate_frozen : ∃ (s : State) (p : Phys) (raw : Bytes), ((s.rxl p).state = .locked ∧
    (s.rxl p).frozenAdapt = true ∧ raw.length ≤ qOf (s.rxl p).rate) :=
  ⟨(State.reset.modRx 3 fun r => { r with state := .locked, los := true }),
    3,
    [1, 0x7F], by decide +kernel⟩
theorem meets_adaptationUpdate_adapts : ∃ (s : State) (p : Phys) (raw : Bytes), ((s.rxl p).state = .locked ∧
    (s.rxl p).frozenAdapt = false ∧ raw.length ≤ qOf (s.rxl p).rate ∧ s.modeOf p = .tune) :=
  ⟨(State.reset.modRx 3 fun r => { r with state := .locked }).modLane 3 (fun l => { l with mode := .tune }),
    3,
    [1, 0x7F], by decide +kernel⟩
theorem meets_correlatorPeak_opens : ∃ (s : State) (p : Phys) (w : Work) (cold : Bool) (sym : Sym) (phase : BitVec 10)
    (freq dgain : Int), (s.burstWork p = some w ∧ s.declares p w cold false sym = true ∧ (s.acl p).cur = none) ∧
    (s.modeOf p = .openM ∨ (s.acl p).rxWindow.isSome) :=
  ⟨sampled 1003 (marks w64 100) (openLane .reset),
    3,
    3,
    false,
    1000,
    0,
    0,
    256, by decide +kernel⟩
theorem meets_correlatorPeak_cold : ∃ (s : State) (p : Phys) (w : Work) (sym : Sym) (phase : BitVec 10) (freq dgain :
    Int), (s.burstWork p = some w ∧ s.declares p w true false sym = true ∧ (s.acl p).cur = none) ∧
    (s.modeOf p = .slotted ∧ (s.acl p).rxWindow.isSome) :=
  ⟨(sampled 1003 (marks c64 100) (slotLane .reset)).modAcq 3 (fun a => { a with rxWindow := some ⟨1, 9⟩ }),
    3,
    3,
    1000,
    0,
    0,
    256, by decide +kernel⟩
theorem meets_correlatorPeak_stray : ∃ (s : State) (p : Phys) (w : Work) (cold : Bool) (sym : Sym) (phase : BitVec 10)
    (freq dgain : Int), (s.burstWork p = some w ∧ s.declares p w cold false sym = true ∧ (s.acl p).cur = none ∧
    s.modeOf p = .slotted ∧ (s.acl p).rxWindow = none ∧ (s.acl p).stray = none) :=
  ⟨sampled 1003 (marks c64 100) (slotLane .reset),
    3,
    3,
    true,
    1000,
    0,
    0,
    256, by decide +kernel⟩
theorem meets_correlatorPeak_end_marker : ∃ (s : State) (p : Phys) (w : Work) (b : Burst) (sym : Sym) (phase : BitVec 10)
    (freq dgain : Int), (s.burstWork p = some w ∧ s.declares p w false true sym = true ∧ (s.acl p).cur = some b ∧
    (s.acl p).state = .preamble ∧ b.endsAt sym = true) :=
  ⟨sampled 1195 (marks w64 (-100)) (inBurst .preamble aBurst),
    3,
    3,
    aBurst,
    1192,
    7,
    100,
    300, by decide +kernel⟩
theorem meets_powerDetectorTrigger : ∃ (s : State) (p : Phys) (w : Work) (sym : Sym), (s.burstWork p = some w ∧
    (s.acl p).detArmed = true) ∧ ((s.rxl p).holds sym = true ∧ (s.rxl p).powerUp (s.burstParams p w).powerThresh sym =
    true) :=
  ⟨sampled 1000 (List.replicate 128 200) (openLane .reset),
    3,
    3,
    990, by decide +kernel⟩
theorem meets_fallbackStart : ∃ (s : State) (p : Phys) (w : Work) (sym : Sym), (s.burstWork p = some w ∧
    (s.acl p).triggerClean = true ∧ (s.acl p).trigger = some (sym - 112)) ∧ ((s.acl p).state = .armed ∧
    (s.rxl p).passed sym = true ∧ (s.modeOf p = .openM ∨ (s.acl p).rxWindow.isSome)) :=
  ⟨(sampled 1001 [] (openLane .reset)).modAcq 3 (fun a => { a with trigger := some 888, triggerClean := true }),
    3,
    3,
    1000, by decide +kernel⟩
theorem meets_fallbackQualificationExpiry : ∃ (s : State) (p : Phys) (w : Work) (b : Burst), (s.workOf p = some w ∧
    (s.acl p).cur = some b ∧ b.start = .fallback ∧ (s.acl p).state = .syncWait ∧ (s.rxl p).syncLost b = true) :=
  ⟨sampled 5000 [] (inBurst .syncWait { aBurst with start := .fallback }),
    3,
    3,
    { aBurst with start := .fallback }, by decide +kernel⟩
theorem meets_powerDetectorRearm : ∃ (s : State) (p : Phys) (w : Work) (sym : Sym), (s.burstWork p = some w ∧
    (s.acl p).state ≠ .payload) ∧ ((s.rxl p).holds sym = true ∧ (s.rxl p).powerDown (s.burstParams p w).powerThresh sym =
    true) :=
  ⟨(sampled 1000 (List.replicate 128 0) (openLane .reset)).modAcq 3 (fun a => { a with detArmed := false }),
    3,
    3,
    999, by decide +kernel⟩
theorem meets_powerDetectorRearm_truncates : ∃ (s : State) (p : Phys) (w : Work) (b : Burst) (sym : Sym),
    (s.burstWork p = some w ∧ (s.acl p).cur = some b ∧ (s.acl p).state = .payload) ∧ ((s.rxl p).holds sym = true ∧
    (s.rxl p).powerDown (s.burstParams p w).powerThresh sym = true) :=
  ⟨sampled 1000 (List.replicate 128 0) (inBurst .payload aBurst),
    3,
    3,
    aBurst,
    999, by decide +kernel⟩
theorem meets_coldTrainingStart : ∃ (s : State) (p : Phys) (b : Burst), ((s.acl p).cur = some b ∧ b.start = .cold ∧
    (s.acl p).state = .preamble ∧ (s.rxl p).passed (b.firstPeak + 448) = true) :=
  ⟨sampled 1449 [] (inBurst .preamble { aBurst with start := .cold }),
    3,
    { aBurst with start := .cold }, by decide +kernel⟩
theorem meets_coldTrainingEnd : ∃ (s : State) (p : Phys) (b : Burst), ((s.acl p).cur = some b ∧
    (s.acl p).state = .training ∧ (s.rxl p).passed (b.firstPeak + 3776) = true) :=
  ⟨sampled 4777 [] (inBurst .training { aBurst with start := .cold }),
    3,
    { aBurst with start := .cold }, by decide +kernel⟩
theorem meets_preambleEndPassed : ∃ (s : State) (p : Phys) (b : Burst), ((s.acl p).cur = some b ∧ b.start ≠ .fallback ∧
    b.endMarker = false ∧ ((s.acl p).state = .preamble ∨ (s.acl p).state = .training ∨ (s.acl p).state = .syncWait) ∧
    (s.rxl p).passed b.preambleEnd = true) :=
  ⟨sampled 1193 [] (inBurst .preamble aBurst),
    3,
    aBurst, by decide +kernel⟩
theorem meets_syncDetected : ∃ (s : State) (p : Phys) (b : Burst) (sym : Sym), ((s.acl p).cur = some b ∧
    (s.acl p).state = .syncWait ∧ b.syncOpen = true) ∧ ((s.rxl p).holds sym = true ∧ (s.rxl p).syncDist b.acq sym ≤
    b.params.syncTol ∧ (b.syncBy - sym).toNat < 2 ^ 47) :=
  ⟨sampled 1321 (List.replicate 128 50) (inBurst .syncWait { aBurst with syncOpen := true, params := { aBurst.params with syncTol := 64 } }),
    3,
    { aBurst with syncOpen := true, params := { aBurst.params with syncTol := 64 } },
    1320, by decide +kernel⟩
theorem meets_syncDeadlineExpiry : ∃ (s : State) (p : Phys) (w : Work) (b : Burst), (s.workOf p = some w ∧
    (s.acl p).cur = some b ∧ b.start ≠ .fallback ∧ (s.acl p).state = .syncWait ∧ (s.rxl p).syncLost b = true) :=
  ⟨sampled 5000 [] (inBurst .syncWait aBurst),
    3,
    3,
    aBurst, by decide +kernel⟩
theorem meets_headerDecoded_accepted : ∃ (s : State) (p : Phys) (w : Work) (b : Burst) (word : BitVec 128) (h : BitVec
    64) (corr : Nat), (s.burstWork p = some w ∧ (s.acl p).cur = some b ∧ (s.acl p).state = .header ∧ b.start = .cold) ∧
    (bchDecode word = some (h, corr) ∧ infoCrc h = h.setWidth 8 ∧ bitsOf h.toNat 63 50 ≠ 16383) ∧
    ((s.wk w).station ≠ 16383 ∧ bitsOf h.toNat 49 36 = (s.wk w).station ∧ bitsOf h.toNat 15 12 = 0 ∧
    bitsOf h.toNat 23 16 ≠ 0) ∧ (s.acl p).lagFor 0 (b.syncAt.getD 0 + 129) ≤ 3840 :=
  ⟨(inBurst .header { aBurst with start := .cold, syncAt := some 1300 }).modWork 3 (fun w => { w with station := 7 }),
    3,
    3,
    { aBurst with start := .cold, syncAt := some 1300 },
    bchEncode (withCrc (5 * 2 ^ 42 + 7 * 2 ^ 28 + 2 ^ 16 + 2 * 2 ^ 8)),
    withCrc (5 * 2 ^ 42 + 7 * 2 ^ 28 + 2 ^ 16 + 2 * 2 ^ 8),
    0, by decide +kernel⟩
theorem meets_headerDecoded_misdirected : ∃ (s : State) (p : Phys) (w : Work) (b : Burst) (word : BitVec 128) (h : BitVec
    64) (corr : Nat), (s.burstWork p = some w ∧ (s.acl p).cur = some b ∧ (s.acl p).state = .header) ∧
    (bchDecode word = some (h, corr) ∧ infoCrc h = h.setWidth 8 ∧ bitsOf h.toNat 63 50 ≠ 16383) ∧
    bitsOf h.toNat 49 36 ≠ (s.wk w).station :=
  ⟨inBurst .header { aBurst with syncAt := some 1300 },
    3,
    3,
    { aBurst with syncAt := some 1300 },
    bchEncode (withCrc (5 * 2 ^ 42 + 7 * 2 ^ 28 + 2 ^ 16 + 2 * 2 ^ 8)),
    withCrc (5 * 2 ^ 42 + 7 * 2 ^ 28 + 2 ^ 16 + 2 * 2 ^ 8),
    0, by decide +kernel⟩
theorem meets_replayStart : ∃ (s : State) (p : Phys) (w : Work) (b : Burst) (bad ring : Option (Nat × BitVec 42)),
    (s.workOf p = some w ∧ (s.acl p).cur = some b ∧ (s.acl p).bursts.find? (·.waiting) = some b ∧ b.inUse = 16383 ∧
    b.coeffs = none) ∧ (s.acl p).lagFor ((s.rxl p).symCount - b.firstPay).toNat b.firstPay ≤ 3840 :=
  ⟨sampled 1500 [] (inBurst .payload { aBurst with syncAt := some 1300, waiting := true }),
    3,
    3,
    { aBurst with syncAt := some 1300, waiting := true },
    none,
    none, by decide +kernel⟩
theorem meets_galleryFetchDone : ∃ (s : State) (i : Nat) (f : Fetch) (e : Nat × Portrait) (k : Sess),
    (s.gallery.inService[i]? = some f ∧ s.gallery.find f.work f.station = some e ∧ f.sess = some k) ∧ (s.waits k 0x0503 ∧
    (s.sess k).closePending = false ∧ s.workTested f.work = false ∧ (s.arrOf arrGallery).words = []) :=
  ⟨started ((withPortrait .reset 3 9 40).modGallery fun g => { g with inService := [{ kind := .read, phys := 3, work := 3, station := 9, sess := some 0 }] }) 0x0503 [3, 0, 9, 0],
    0,
    { kind := .read, phys := 3, work := 3, station := 9, sess := some 0 },
    (40, aPortrait 3 9),
    0, by decide +kernel⟩
theorem meets_galleryFetchService : ∃ (s : State) (f : Fetch) (rest : List Fetch), (s.gallery.inService.length < 16 ∧
    s.gallery.waiting = f :: rest ∧ f.kind = .traffic) :=
  ⟨State.reset.modGallery (fun g => { g with waiting := [{ kind := .traffic, phys := 3, work := 3, station := 9 }] }),
    { kind := .traffic, phys := 3, work := 3, station := 9 },
    [], by decide +kernel⟩
theorem meets_portraitPrefetch : ∃ (s : State) (p : Phys) (w : Work) (slot : Nat) (e : Nat × Portrait),
    (s.workOf p = some w ∧ s.modeOf p = .slotted ∧ s.epoch.lost = false) ∧ (slot + 1 < (s.wk w).tx.active.slots ∧
    (s.wk w).tx.active.predicts (slot + 1) ≠ 16383) ∧ (s.gallery.find w ((s.wk w).tx.active.predicts (slot + 1)) = some e
    ∧ s.hotOf p w ((s.wk w).tx.active.predicts (slot + 1)) = none) ∧ (((s.acl p).hot.all fun x => !x.evictLater) = true ∧
    s.gallery.inService.length < 16 ∧ s.gallery.waiting = []) :=
  ⟨withPortrait ((slotLane .reset).modWork 3 fun w => { w with tx := { w.tx with active := aSchedule } }) 3 9 40,
    3,
    3,
    0,
    (40, aPortrait 3 9), by decide +kernel⟩
theorem meets_predictedAnalogueLoad : ∃ (s : State) (p : Phys) (w : Work) (slot : Nat), (s.workOf p = some w ∧
    s.modeOf p = .slotted ∧ s.epoch.lost = false ∧ (s.acl p).cur = none) :=
  ⟨slotLane .reset,
    3,
    3,
    0, by decide +kernel⟩
theorem meets_rxWindowOpen : ∃ (s : State) (p : Phys) (w : Work) (slot : Nat), (s.workOf p = some w ∧
    s.modeOf p = .slotted ∧ s.epoch.lost = false) ∧ (slot < (s.wk w).tx.active.slots ∧
    entryRxEn ((s.wk w).tx.active.entry slot) = true ∧ s.epochAt (s.rxWindowAt p w slot).1 = true) :=
  ⟨atTime 134 ((slotLane .reset).modWork 3 fun w => { w with tx := { w.tx with active := aSchedule } }),
    3,
    3,
    1, by decide +kernel⟩
theorem meets_rxWindowClose : ∃ (s : State) (p : Phys) (w : Work) (x : RxWindow), (s.workOf p = some w ∧
    (s.acl p).rxWindow = some x ∧ (s.rxWindowAt p w x.slot).2 < s.epochSymbols + 512) :=
  ⟨atTime 135 (((slotLane .reset).modWork 3 fun w => { w with tx := { w.tx with active := aSchedule } }).modAcq 3 fun a => { a with rxWindow := some ⟨1, 9⟩ }),
    3,
    3,
    ⟨1, 9⟩, by decide +kernel⟩
theorem meets_payloadEnd : ∃ (s : State) (p : Phys) (b : Burst), ((s.acl p).cur = some b ∧ (s.acl p).state = .payload ∧
    (s.rxl p).passed b.payEnd = true) :=
  ⟨sampled 1 [] (inBurst .payload aBurst),
    3,
    aBurst, by decide +kernel⟩
theorem meets_postambleCheck : ∃ (s : State) (p : Phys) (b : Burst), ((s.acl p).cur = some b ∧ (s.acl p).state = .close ∧
    (s.rxl p).passed (b.payEnd + 36) = true) :=
  ⟨sampled 100 [] (inBurst .close aBurst),
    3,
    aBurst, by decide +kernel⟩
theorem meets_burstOutcome_not_committed : ∃ (s : State) (p : Phys) (w : Work) (b : Burst) (rest : List Burst) (snr
    eyeMin : BitVec 16), (s.workOf p = some w ∧ (s.acl p).decoding = b :: rest ∧ burstCw b ≤ b.cwDone ∧
    b.waiting = false ∧ s.framesLeft p b = false) ∧ (b.cwFailed = 0 ∧ b.postamble = some false ∧
    (s.ln p).resetWait = false) :=
  ⟨(openLane .reset).modAcq 3 (fun a => { a with decoding := [{ aBurst with postamble := some false }] }),
    3,
    3,
    { aBurst with postamble := some false },
    [],
    600,
    90, by decide +kernel⟩
theorem meets_burstOutcome_committed : ∃ (s : State) (p : Phys) (w : Work) (b : Burst) (rest : List Burst) (e : Nat ×
    Portrait) (snr eyeMin : BitVec 16), (s.workOf p = some w ∧ (s.acl p).decoding = b :: rest ∧ burstCw b ≤ b.cwDone ∧
    b.waiting = false ∧ s.framesLeft p b = false) ∧ (b.cwFailed = 0 ∧ b.postamble = some true ∧
    (s.ln p).resetWait = false ∧ s.gallery.find w (burstSender b) = some e) ∧ (burstCw b ≠ 0 ∧
    b.rsCorrected ≤ b.params.commitLimit * burstCw b) :=
  ⟨withPortrait ((openLane .reset).modAcq 3 fun a => { a with decoding := [{ aBurst with postamble := some true, header := some (withCrc (9 * 2 ^ 42 + 2 ^ 8)), cwDone := 1 }] }) 3 9 40,
    3,
    3,
    { aBurst with postamble := some true, header := some (withCrc (9 * 2 ^ 42 + 2 ^ 8)), cwDone := 1 },
    [],
    (40, aPortrait 3 9),
    600,
    90, by decide +kernel⟩
theorem meets_portraitWriteback : ∃ (s : State) (p : Phys) (e : HotEntry) (x : Nat × Portrait),
    ((s.acl p).hot.find? (·.writeback) = some e ∧ s.gallery.find e.work e.station = some x) ∧ ((s.acl p).hot.all fun y =>
    !y.evictLater) = true :=
  ⟨(withPortrait (openLane .reset) 3 9 40).modAcq 3 (fun a => { a with hot := [{ work := 3, station := 9, portrait := { aPortrait 3 9 with vga := 30 }, writeback := true }] }),
    3,
    { work := 3, station := 9, portrait := { aPortrait 3 9 with vga := 30 }, writeback := true },
    (40, aPortrait 3 9), by decide +kernel⟩
theorem meets_eventHoldoffExpiry : ∃ (s : State) (e : Ev) (source : BitVec 16) (x : Holdoff),
    (s.ctl.ev.holdoffs.find? (fun y => decide (y.ev = e ∧ y.source = source)) = some x ∧ x.count = 0) :=
  ⟨State.reset.modCtl (fun c => { c with ev := { c.ev with holdoffs := [{ ev := .portraitNew, source := 3, count := 0, code := 0, arg1 := 0, arg2 := 0 }] } }),
    .portraitNew,
    3,
    { ev := .portraitNew, source := 3, count := 0, code := 0, arg1 := 0, arg2 := 0 }, by decide +kernel⟩
theorem meets_laneSetBurst : ∃ (s : State) (k : Sess) (a : Bytes) (w : Work), s.holds k 0x0320 a ∧ ((byteAt a 0 = w.val ∧
    s.workTested w = false) ∨ (byteAt a 0 = 255 ∧ ∀ v, s.workTested v = false)) :=
  ⟨held .reset 0x0320 [3, 30, 26, 12, 4, 10, 64, 0, 12, 10, 8, 4, 1, 0, 0, 0],
    0,
    [3, 30, 26, 12, 4, 10, 64, 0, 12, 10, 8, 4, 1, 0, 0, 0],
    3, by decide +kernel⟩
theorem meets_laneGetBurstLog : ∃ (s : State) (k : Sess) (a : Bytes) (w : Work), s.holds k 0x0321 a ∧
    (byteAt a 0 = w.val ∧ s.workTested w = false ∧ (s.arrOf arrFabric).words = []) :=
  ⟨held .reset 0x0321 [3, 0, 8, 0],
    0,
    [3, 0, 8, 0],
    3, by decide +kernel⟩
theorem meets_laneGetBurstCounters : ∃ (s : State) (k : Sess) (a : Bytes) (w : Work), s.holds k 0x0322 a ∧
    (byteAt a 0 = w.val ∧ s.workTested w = false) :=
  ⟨held .reset 0x0322 [3, 1, 0, 0],
    0,
    [3, 1, 0, 0],
    3, by decide +kernel⟩
theorem meets_portraitSetQuota : ∃ (s : State) (k : Sess) (a : Bytes) (w : Work), s.holds k 0x0501 a ∧
    (byteAt a 0 = w.val ∧ s.workTested w = false ∧ (s.gallery.ofLane w).length ≤ fieldLE a 2 2) ∧
    ((workAll.filter (· ≠ w)).map fun x => (s.wk x).burst.quota).sum + fieldLE a 2 2 ≤ 16384 :=
  ⟨held .reset 0x0501 [3, 0, 100, 0],
    0,
    [3, 0, 100, 0],
    3, by decide +kernel⟩
theorem meets_portraitSetQuota_refused : ∃ (s : State) (k : Sess) (a : Bytes) (w : Work), s.holds k 0x0501 a ∧
    (byteAt a 0 = w.val ∧ s.workTested w = false ∧ (s.gallery.ofLane w).length ≤ fieldLE a 2 2) ∧
    16384 < ((workAll.filter (· ≠ w)).map fun x => (s.wk x).burst.quota).sum + fieldLE a 2 2 :=
  ⟨held .reset 0x0501 [3, 0, 129, 0],
    0,
    [3, 0, 129, 0],
    3, by decide +kernel⟩
theorem meets_portraitSetBase : ∃ (s : State) (k : Sess) (a : Bytes) (w : Work), s.holds k 0x0502 a ∧
    (byteAt a 0 = w.val ∧ s.workTested w = false ∧ portraitFault (a.drop 4) = none) :=
  ⟨held .reset 0x0502 (portraitArgs [3, 0, 0, 0]),
    0,
    portraitArgs [3, 0, 0, 0],
    3, by decide +kernel⟩
theorem meets_portraitRead_base : ∃ (s : State) (k : Sess) (a : Bytes) (w : Work), s.holds k 0x0503 a ∧
    (byteAt a 0 = w.val ∧ s.workTested w = false ∧ fieldLE a 2 2 = 16383) :=
  ⟨held .reset 0x0503 [3, 0, 0xFF, 0x3F],
    0,
    [3, 0, 0xFF, 0x3F],
    3, by decide +kernel⟩
theorem meets_portraitRead_fetch : ∃ (s : State) (k : Sess) (a : Bytes) (w : Work) (e : Nat × Portrait),
    s.holds k 0x0503 a ∧ (byteAt a 0 = w.val ∧ fieldLE a 2 2 ≠ 16383 ∧ s.gallery.find w (fieldLE a 2 2) = some e ∧
    s.gallery.inService.length < 16 ∧ s.gallery.waiting = []) :=
  ⟨held (withPortrait .reset 3 9 40) 0x0503 [3, 0, 9, 0],
    0,
    [3, 0, 9, 0],
    3,
    (40, aPortrait 3 9), by decide +kernel⟩
theorem meets_portraitWrite_existing : ∃ (s : State) (k : Sess) (a : Bytes) (w : Work) (e : Nat × Portrait),
    s.holds k 0x0504 a ∧ (byteAt a 0 = w.val ∧ s.workTested w = false ∧ s.portraitLocked w (fieldLE a 2 2) = false) ∧
    (s.gallery.find w (fieldLE a 2 2) = some e ∧ portraitFault (a.drop 4) = none) :=
  ⟨held (withPortrait .reset 3 9 40) 0x0504 (portraitArgs [3, 0, 9, 0]),
    0,
    portraitArgs [3, 0, 9, 0],
    3,
    (40, aPortrait 3 9), by decide +kernel⟩
theorem meets_portraitWrite_created : ∃ (s : State) (k : Sess) (a : Bytes) (w : Work) (i : Nat), s.holds k 0x0504 a ∧
    (byteAt a 0 = w.val ∧ s.workTested w = false ∧ s.portraitLocked w (fieldLE a 2 2) = false) ∧
    (s.gallery.find w (fieldLE a 2 2) = none ∧ portraitFault (a.drop 4) = none ∧ (s.gallery.ofLane w).length < (s.wk
    w).burst.quota) ∧ (List.range 16384).find? (fun j => (tabGet s.gallery.entries j).isNone) = some i :=
  ⟨held .reset 0x0504 (portraitArgs [3, 0, 9, 0]),
    0,
    portraitArgs [3, 0, 9, 0],
    3,
    0, by decide +kernel⟩
theorem meets_portraitEvict : ∃ (s : State) (k : Sess) (a : Bytes) (w : Work) (e : Nat × Portrait), s.holds k 0x0505 a ∧
    (byteAt a 0 = w.val ∧ s.workTested w = false ∧ s.portraitLocked w (fieldLE a 2 2) = false ∧
    s.gallery.find w (fieldLE a 2 2) = some e) :=
  ⟨held (withPortrait .reset 3 9 40) 0x0505 [3, 0, 9, 0],
    0,
    [3, 0, 9, 0],
    3,
    (40, aPortrait 3 9), by decide +kernel⟩
theorem meets_portraitProtect : ∃ (s : State) (k : Sess) (a : Bytes) (w : Work) (e : Nat × Portrait),
    s.holds k 0x0506 a ∧ (byteAt a 0 = w.val ∧ s.workTested w = false ∧ s.gallery.find w (fieldLE a 2 2) = some e) ∧
    (s.sramPartial arrGallery (galleryWord e.1) (({ e.2 with isProtected := decide (byteAt a 1 = 1) } : Portrait).word 0)
    4).1 = true :=
  ⟨held (withPortrait .reset 3 9 40) 0x0506 [3, 1, 9, 0],
    0,
    [3, 1, 9, 0],
    3,
    (40, aPortrait 3 9), by decide +kernel⟩
theorem meets_portraitList : ∃ (s : State) (k : Sess) (a : Bytes) (w : Work), s.holds k 0x0507 a ∧ (byteAt a 0 = w.val ∧
    s.workTested w = false ∧ (s.arrOf arrFabric).words = []) :=
  ⟨held (withPortrait .reset 3 9 40) 0x0507 [3, 0, 0, 0],
    0,
    [3, 0, 0, 0],
    3, by decide +kernel⟩
theorem meets_innerCwDecoded : ∃ (s : State) (p : Phys) (w : Work) (hard : BitVec 128) (rel : List Nat),
    (s.rxWork p = some w ∧ s.decodes p = true) :=
  ⟨steadyLane .reset,
    3,
    3,
    0,
    List.replicate 128 3, by decide +kernel⟩
theorem meets_outerCwDecoded_corrected : ∃ (s : State) (p : Phys) (w : Work) (word : List (BitVec 10)) (n : Nat) (msg :
    List Nat), (s.rxWork p = some w ∧ s.decodes p = true) ∧ ((s.del p).rawWord (s.del p).outerNext = some word ∧
    rsDecode (word.map (·.toNat)) = some (msg, n)) :=
  ⟨(steadyLane .reset).modDec 3 (fun d => { d with inner := List.replicate 46 ⟨0, 0⟩ }),
    3,
    3,
    List.replicate 544 0,
    0,
    List.replicate 514 0, by decide +kernel⟩
theorem meets_outerCwDecoded_failed : ∃ (s : State) (p : Phys) (w : Work) (word : List (BitVec 10)),
    (s.rxWork p = some w ∧ s.decodes p = true) ∧ ((s.del p).rawWord (s.del p).outerNext = some word ∧
    rsDecode (word.map (·.toNat)) = none) :=
  ⟨(steadyLane .reset).modDec 3 (fun d => { d with inner := List.replicate 42 ⟨0, 0⟩ ++ [⟨0, 0x51f⟩, ⟨0, 0x8069031775cbff3234d3469c362ae4⟩, ⟨0, 0x5dd834b77302f2ce7d726d402f0633⟩, ⟨0, 0x99a34eb5d000000000000000000000⟩] }),
    3,
    3,
    List.replicate 514 0 ++ [1, 287, 513, 656, 197, 885, 815, 1011, 141, 211, 282, 451, 394, 740, 375, 387, 301, 883, 11, 812, 927, 370, 437, 2, 961, 563, 614, 564, 941, 464], by decide +kernel⟩
theorem meets_alignmentMarker_lock : ∃ (s : State) (p : Phys) (w : Work) (sync : BitVec 64) (code : BitVec 128) (sym :
    Sym) (sender dest fptr : Nat), ((s.rxl p).state = .locked ∧ (s.rxl p).passed (sym + 255) = true ∧
    s.modeOf p ≠ .spare ∧ s.rxWork p = some w ∧ (s.del p).amLocked = false) ∧ readMarker sync code = some (sender, dest,
    fptr) ∧ ((s.pathMode p = .steady ∧ (dest = (s.wk w).station ∨ dest = 16383)) ∨ (s.pathMode p = .loop ∧
    sender = (s.wk w).station ∧ dest = (s.wk w).station)) :=
  ⟨sampled 1000 [] ((steadyLane .reset).modDec 3 fun d => { d with amLocked := false }),
    3,
    3,
    amSync,
    bchEncode (withCrc ((5 * 2 ^ 14 + 7) * 2 ^ 28)),
    100,
    5,
    7,
    0, by decide +kernel⟩
theorem meets_alignmentMarker_kept : ∃ (s : State) (p : Phys) (w : Work) (sync : BitVec 64) (code : BitVec 128) (sym :
    Sym) (sender dest fptr : Nat), ((s.rxl p).state = .locked ∧ (s.rxl p).passed (sym + 255) = true ∧
    s.modeOf p ≠ .spare ∧ s.pathMode p = .steady ∧ s.rxWork p = some w ∧ (s.del p).amLocked = true) ∧
    (readMarker sync code = some (sender, dest, fptr) ∧ (dest = (s.wk w).station ∨ dest = 16383) ∧
    sender = (s.wk w).fec.peer ∧ sym = (s.rxl p).markerDue) :=
  ⟨sampled 11930763 [] ((steadyLane .reset).modDec 3 fun d => { d with missCount := 2 }),
    3,
    3,
    amSync,
    bchEncode (withCrc ((9 * 2 ^ 14 + 7) * 2 ^ 28)),
    11930507,
    9,
    7,
    0, by decide +kernel⟩
theorem meets_alignmentMarker_mismatch : ∃ (s : State) (p : Phys) (w : Work) (sync : BitVec 64) (code : BitVec 128) (sym
    : Sym) (sender dest fptr : Nat), ((s.rxl p).state = .locked ∧ (s.rxl p).passed (sym + 255) = true ∧
    s.modeOf p ≠ .spare ∧ s.pathMode p = .steady ∧ s.rxWork p = some w ∧ (s.del p).amLocked = false) ∧
    (readMarker sync code = some (sender, dest, fptr) ∧ dest ≠ (s.wk w).station ∧ dest ≠ 16383) :=
  ⟨sampled 1000 [] ((steadyLane .reset).modDec 3 fun d => { d with amLocked := false }),
    3,
    3,
    amSync,
    bchEncode (withCrc ((5 * 2 ^ 14 + 8) * 2 ^ 28)),
    100,
    5,
    8,
    0, by decide +kernel⟩
theorem meets_markerMissing_counted : ∃ (s : State) (p : Phys) (w : Work), (s.rxWork p = some w ∧
    (s.del p).amLocked = true ∧ (s.del p).missCount < 2 ∧ (s.rxl p).passed ((s.rxl p).markerDue + 255) = true) :=
  ⟨sampled 12000000 [] (steadyLane .reset),
    3,
    3, by decide +kernel⟩
theorem meets_markerMissing_loss : ∃ (s : State) (p : Phys) (w : Work), (s.rxWork p = some w ∧
    (s.del p).amLocked = true ∧ 2 ≤ (s.del p).missCount ∧ (s.rxl p).passed ((s.rxl p).markerDue + 255) = true) :=
  ⟨sampled 12000000 [] ((steadyLane .reset).modDec 3 fun d => { d with missCount := 2 }),
    3,
    3, by decide +kernel⟩
theorem meets_delineationHeader_next : ∃ (s : State) (p : Phys) (w : Work) (bytes : Bytes), (s.rxWork p = some w ∧
    s.passes p = true ∧ (s.del p).delin = 2 ∧ (s.del p).read (s.del p).nextHeader 16 = some (bytes, false) ∧
    (s.del p).beyond (s.del p).nextHeader 16 = false) ∧ validHdr (hdrAt bytes) = true :=
  ⟨decoded (beBytes 16 fillHdr.toNat) (steadyLane .reset),
    3,
    3,
    beBytes 16 fillHdr.toNat, by decide +kernel⟩
theorem meets_delineationHeader_loss : ∃ (s : State) (p : Phys) (w : Work) (bytes : Bytes), (s.rxWork p = some w ∧
    s.passes p = true ∧ (s.del p).delin = 2 ∧ (s.del p).read (s.del p).nextHeader 16 = some (bytes, false) ∧
    (s.del p).beyond (s.del p).nextHeader 16 = false) ∧ validHdr (hdrAt bytes) = false :=
  ⟨decoded (beBytes 16 5) (steadyLane .reset),
    3,
    3,
    beBytes 16 5, by decide +kernel⟩
theorem meets_frameCheck_misaddressed : ∃ (s : State) (p : Phys) (w : Work) (pos : Nat) (rest : List Nat) (h : Bytes)
    (lost : Bool) (x : CheckedFrame) (bad : Option (Nat × BitVec 42)), (s.rxWork p = some w ∧ s.passes p = true ∧
    (s.del p).toCheck = pos :: rest ∧ (s.del p).read pos 16 = some (h, lost)) ∧ ((s.del p).beyond pos (wireSize (frameHdr
    (hdrAt h)).type (frameHdr (hdrAt h)).len) = false ∧ (s.del p).frameAt pos = some x) ∧ ((frameHdr x.hdr).type ≠ 0 ∧
    (frameHdr x.hdr).peer ≠ (s.wk w).station) :=
  ⟨(decoded (frameWith { type := 1, len := 48, peer := 8 } 0) (heldCtx .reset)).modDec 3 (fun d => { d with toCheck := [0] }),
    3,
    3,
    0,
    [],
    (frameWith { type := 1, len := 48, peer := 8 } 0).take 16,
    false,
    splitFrame (frameWith { type := 1, len := 48, peer := 8 } 0) false,
    none, by decide +kernel⟩
theorem meets_frameCheck_good : ∃ (s : State) (p : Phys) (w : Work) (pos : Nat) (rest : List Nat) (h : Bytes) (lost :
    Bool) (x : CheckedFrame), (s.rxWork p = some w ∧ s.passes p = true ∧ (s.del p).toCheck = pos :: rest ∧
    (s.del p).read pos 16 = some (h, lost)) ∧ ((s.del p).beyond pos (wireSize (frameHdr (hdrAt h)).type (frameHdr (hdrAt
    h)).len) = false ∧ (s.del p).frameAt pos = some x) ∧ ((frameHdr x.hdr).type ≠ 0 ∧ (frameHdr x.hdr).peer = (s.wk
    w).station ∧ x.lostCw = false) ∧ (((frameHdr x.hdr).type ≠ 1 ∧ (frameHdr x.hdr).type ≠ 3) ∨ trailerOk x.hdr x.payload
    x.crc = true) :=
  ⟨(decoded (frameWith { type := 1, len := 48, peer := 7 } 0) (heldCtx .reset)).modDec 3 (fun d => { d with toCheck := [0] }),
    3,
    3,
    0,
    [],
    (frameWith { type := 1, len := 48, peer := 7 } 0).take 16,
    false,
    splitFrame (frameWith { type := 1, len := 48, peer := 7 } 0) false, by decide +kernel⟩
theorem meets_frameCheck_bad_trailer : ∃ (s : State) (p : Phys) (w : Work) (pos : Nat) (rest : List Nat) (h : Bytes)
    (lost : Bool) (x : CheckedFrame), (s.rxWork p = some w ∧ s.passes p = true ∧ (s.del p).toCheck = pos :: rest ∧
    (s.del p).read pos 16 = some (h, lost)) ∧ ((s.del p).beyond pos (wireSize (frameHdr (hdrAt h)).type (frameHdr (hdrAt
    h)).len) = false ∧ (s.del p).frameAt pos = some x) ∧ (((frameHdr x.hdr).type = 1 ∨ (frameHdr x.hdr).type = 3) ∧
    (frameHdr x.hdr).peer = (s.wk w).station ∧ x.lostCw = false ∧ trailerOk x.hdr x.payload x.crc = false) :=
  ⟨(decoded (frameWith { type := 1, len := 48, peer := 7 } 1) (heldCtx .reset)).modDec 3 (fun d => { d with toCheck := [0] }),
    3,
    3,
    0,
    [],
    (frameWith { type := 1, len := 48, peer := 7 } 1).take 16,
    false,
    splitFrame (frameWith { type := 1, len := 48, peer := 7 } 1) false, by decide +kernel⟩
theorem meets_sketchCandidate : ∃ (s : State) (p : Phys) (w : Work) (pos : Nat) (x : CheckedFrame) (c : RxCtx),
    (s.rxWork p = some w ∧ (s.wk w).sketch = true ∧ (s.wk w).sketchOff = false ∧ s.passes p = true ∧
    guaranteed (s.pathMode p) = true ∧ s.sketchLane w = some p) ∧ ((s.del p).earlyFrame pos = some x ∧
    ((s.del p).cands.any fun c => decide (c.1 = pos)) = false) ∧ (validHdr x.hdr = true ∧ (frameHdr x.hdr).type = 1 ∧
    (frameHdr x.hdr).peer = (s.wk w).station ∧ trailerOk x.hdr x.payload x.crc = true) ∧
    (tabGet (s.wk w).rxCtx (s.senderOf p w) = some c ∧ c.gen = (frameHdr x.hdr).gen ∧
    (frameHdr x.hdr).seq = (if c.sketches = [] then c.next else c.sketchPtr) ∧ c.paused = false) ∧
    ((s.wk w).sketchBytes + wireSize 1 (frameHdr x.hdr).len ≤ 1024 * (s.wk w).sketchWindow ∧
    (s.grp (groupOfWork w)).replayFull (12 + (frameHdr x.hdr).len) = false) :=
  ⟨(heldCtx .reset).modDec 3 (fun d => { d with inner := innersOf (cwOf (frameWith { type := 1, len := 48, peer := 7 } 0)) }),
    3,
    3,
    0,
    splitFrame (frameWith { type := 1, len := 48, peer := 7 } 0) false,
    aRxCtx, by decide +kernel⟩
theorem meets_sketchResolved_contradicted : ∃ (s : State) (p : Phys) (w : Work) (pos n : Nat) (rest : List (Nat × Nat)),
    (s.rxWork p = some w ∧ (s.del p).cands = (pos, n) :: rest ∧ (s.del p).verdict pos n = some false) :=
  ⟨(steadyLane .reset).modDec 3 (fun d => { d with outer := [⟨cwOf [], cwOf [], true⟩], toCheck := [0], cands := [(0, 68)] }),
    3,
    3,
    0,
    68,
    [], by decide +kernel⟩
theorem meets_sketchResolved_confirmed : ∃ (s : State) (p : Phys) (w : Work) (pos n : Nat) (rest : List (Nat × Nat)),
    (s.rxWork p = some w ∧ (s.del p).cands = (pos, n) :: rest ∧ (s.del p).verdict pos n = some true) :=
  ⟨(steadyLane .reset).modDec 3 (fun d => { d with outer := [⟨cwOf [], cwOf [], false⟩], toCheck := [0], cands := [(0, 68)] }),
    3,
    3,
    0,
    68,
    [], by decide +kernel⟩
theorem meets_marginWindowEnd : ∃ (s : State) (w : Work) (p : Phys) (c e : Nat) (rest : List (Nat × Nat)),
    (s.physOf w = some p ∧ (guaranteed (s.modeOf p) = true ∨ s.modeOf p = .loop) ∧ (s.wk w).fec.windows = (c,
    e) :: rest ∧ (s.wk w).fec.failWindows < 2) :=
  ⟨(steadyLane .reset).modWork 3 (fun w => { w with fec := { w.fec with windows := [(100, 34)] } }),
    3,
    3,
    100,
    34,
    [], by decide +kernel⟩
theorem meets_laneSetFec : ∃ (s : State) (k : Sess) (a : Bytes) (w : Work), s.holds k 0x0328 a ∧ ((byteAt a 0 = w.val ∧
    s.workTest w = false) ∨ (byteAt a 0 = 255 ∧ ∀ v, s.workTest v = false)) :=
  ⟨held .reset 0x0328 [3, 30, 1, 2],
    0,
    [3, 30, 1, 2],
    3, by decide +kernel⟩
theorem meets_laneGetFecStats : ∃ (s : State) (k : Sess) (a : Bytes) (w : Work), s.holds k 0x0329 a ∧
    (byteAt a 0 = w.val ∧ s.workTest w = false ∧ bitOf (byteAt a 1) 0 = false) :=
  ⟨held .reset 0x0329 [3, 0, 0, 0],
    0,
    [3, 0, 0, 0],
    3, by decide +kernel⟩
theorem meets_laneGetFecStats_clear : ∃ (s : State) (k : Sess) (a : Bytes) (w : Work), s.holds k 0x0329 a ∧
    (byteAt a 0 = w.val ∧ s.workTest w = false ∧ bitOf (byteAt a 1) 0 = true) :=
  ⟨held .reset 0x0329 [3, 1, 0, 0],
    0,
    [3, 1, 0, 0],
    3, by decide +kernel⟩
theorem meets_laneSetTx : ∃ (s : State) (k : Sess) (a : Bytes) (p : Phys), s.holds k 0x0330 a ∧ ((byteAt a 0 = p.val ∧
    (s.ln p).selftest = false) ∨ (byteAt a 0 = 255 ∧ ∀ q, (s.ln q).selftest = false)) :=
  ⟨held .reset 0x0330 [3, 9, 0xFE, 1],
    0,
    [3, 9, 0xFE, 1],
    3, by decide +kernel⟩
theorem meets_laneLoadTxPalette : ∃ (s : State) (k : Sess) (a : Bytes) (p : Phys), s.holds k 0x0331 a ∧
    (byteAt a 0 = p.val ∧ (s.ln p).selftest = false ∧ (s.txl p).fade = none ∧ (s.txl p).activeB ≠ decide (byteAt a 1 = 1)
    ∧ (tapsOf (byteAt a 2) (a.drop 4)).sumAbs ≤ 512) :=
  ⟨held .reset 0x0331 ([3, 1, 5, 0] ++ zeros 32),
    0,
    [3, 1, 5, 0] ++ zeros 32,
    3, by decide +kernel⟩
theorem meets_laneLoadTxPalette_refused : ∃ (s : State) (k : Sess) (a : Bytes) (p : Phys), s.holds k 0x0331 a ∧
    (byteAt a 0 = p.val ∧ (s.ln p).selftest = false ∧ ((s.txl p).fade ≠ none ∨ (s.txl p).activeB = decide (byteAt a 1 =
    1))) :=
  ⟨held .reset 0x0331 ([3, 0, 5, 0] ++ zeros 32),
    0,
    [3, 0, 5, 0] ++ zeros 32,
    3, by decide +kernel⟩
theorem meets_laneLoadTxPalette_sum : ∃ (s : State) (k : Sess) (a : Bytes) (p : Phys), s.holds k 0x0331 a ∧
    (byteAt a 0 = p.val ∧ (s.ln p).selftest = false ∧ (s.txl p).fade = none ∧ (s.txl p).activeB ≠ decide (byteAt a 1 = 1)
    ∧ 512 < (tapsOf (byteAt a 2) (a.drop 4)).sumAbs) :=
  ⟨held .reset 0x0331 ([3, 1, 5, 0, 0, 2, 1] ++ zeros 29),
    0,
    [3, 1, 5, 0, 0, 2, 1] ++ zeros 29,
    3, by decide +kernel⟩
theorem meets_laneGetTxDiag : ∃ (s : State) (k : Sess) (a : Bytes) (p : Phys), s.holds k 0x0332 a ∧ (byteAt a 0 = p.val ∧
    (s.ln p).selftest = false) :=
  ⟨held .reset 0x0332 [3, 1, 0, 0],
    0,
    [3, 1, 0, 0],
    3, by decide +kernel⟩
theorem meets_laneSwapTxPalette : ∃ (s : State) (k : Sess) (a : Bytes) (p : Phys), s.holds k 0x0333 a ∧
    (byteAt a 0 = p.val ∧ (s.ln p).selftest = false ∧ (s.modeOf p = .steady ∨ s.modeOf p = .transparent ∨ s.modeOf p =
    .tune ∨ s.modeOf p = .loop) ∧ (s.txl p).fade = none) :=
  ⟨held (steadyLane .reset) 0x0333 [3, 0, 4, 0, 5, 0, 0, 0],
    0,
    [3, 0, 4, 0, 5, 0, 0, 0],
    3, by decide +kernel⟩
theorem meets_laneSwapTxPalette_held : ∃ (s : State) (k : Sess) (a : Bytes) (p : Phys) (f : Fade), s.holds k 0x0333 a ∧
    (byteAt a 0 = p.val ∧ (s.ln p).selftest = false ∧ (s.modeOf p = .steady ∨ s.modeOf p = .transparent ∨ s.modeOf p =
    .tune ∨ s.modeOf p = .loop) ∧ (s.txl p).fade = some f) :=
  ⟨held ((steadyLane .reset).modTx 3 fun t => { t with fade := some { swap := ⟨4, 1⟩ } }) 0x0333 [3, 0, 4, 0, 5, 0, 0, 0],
    0,
    [3, 0, 4, 0, 5, 0, 0, 0],
    3,
    { swap := ⟨4, 1⟩ }, by decide +kernel⟩
theorem meets_laneSwapTxPalette_refused : ∃ (s : State) (k : Sess) (a : Bytes) (p : Phys), s.holds k 0x0333 a ∧
    (byteAt a 0 = p.val ∧ (s.ln p).selftest = false ∧ s.modeOf p ≠ .steady ∧ s.modeOf p ≠ .transparent ∧
    s.modeOf p ≠ .tune ∧ s.modeOf p ≠ .loop) :=
  ⟨held .reset 0x0333 [3, 0, 4, 0, 5, 0, 0, 0],
    0,
    [3, 0, 4, 0, 5, 0, 0, 0],
    3, by decide +kernel⟩
theorem meets_laneSetPredistort : ∃ (s : State) (k : Sess) (a : Bytes) (p : Phys), s.holds k 0x0334 a ∧
    (byteAt a 0 = p.val ∧ (s.ln p).selftest = false) :=
  ⟨held .reset 0x0334 ([3, 0, 0, 0] ++ zeros 128),
    0,
    [3, 0, 0, 0] ++ zeros 128,
    3, by decide +kernel⟩
theorem meets_laneSetTxBurst : ∃ (s : State) (k : Sess) (a : Bytes) (w : Work), s.holds k 0x0335 a ∧
    ((byteAt a 0 = w.val ∧ s.workTest w = false) ∨ (byteAt a 0 = 255 ∧ ∀ v, s.workTest v = false)) :=
  ⟨held .reset 0x0335 [3, 32, 3, 8, 16, 0, 1, 0, 1, 0, 9, 0],
    0,
    [3, 32, 3, 8, 16, 0, 1, 0, 1, 0, 9, 0],
    3, by decide +kernel⟩
theorem meets_txSettingApply : ∃ (s : State) (p : Phys) (g : Nat) (x : Int), ((burstMode (s.modeOf p) = false ∨ (s.txl
    p).state ≠ .sending) ∧ (s.txl p).staged = some (g, x)) :=
  ⟨State.reset.modTx 3 (fun t => { t with staged := some (9, -2) }),
    3,
    9,
    -2, by decide +kernel⟩
theorem meets_predistortApply : ∃ (s : State) (p : Phys) (pd : Vector Int 64) (sym : Sym), (s.symNow p sym = true ∧
    s.mayApplyPd p sym = true ∧ (s.txl p).pdStaged = some pd) :=
  ⟨(State.reset.modTx 3 fun t => { t with pdStaged := some (Vector.replicate 64 1) }).modLane 3 (fun l => { l with mode := .tune }),
    3,
    Vector.replicate 64 1,
    0, by decide +kernel⟩
theorem meets_predistortApply_no : ∃ (s : State) (p : Phys) (sym : Sym), (s.symNow p sym = false ∨ s.mayApplyPd p sym =
    false) :=
  ⟨State.reset,
    3,
    5, by decide +kernel⟩
theorem meets_txFadeStart : ∃ (s : State) (p : Phys) (f : Fade), ((s.txl p).fade = some f ∧ f.started = false) :=
  ⟨State.reset.modTx 3 (fun t => { t with fade := some { swap := ⟨4, 1⟩ } }),
    3,
    { swap := ⟨4, 1⟩ }, by decide +kernel⟩
theorem meets_txFadeMidpoint : ∃ (s : State) (p : Phys) (f : Fade), ((s.txl p).fade = some f ∧ f.started = true ∧
    (s.txFadeSteps p f).2 < 2 * (s.txFadeSteps p f).1) :=
  ⟨State.reset.modTx 3 (fun t => { t with fade := some { swap := ⟨8, 1⟩, started := true } }),
    3,
    { swap := ⟨8, 1⟩, started := true }, by decide +kernel⟩
theorem meets_txFadeEnd : ∃ (s : State) (p : Phys) (f : Fade), ((s.txl p).fade = some f ∧ f.started = true ∧
    (s.txFadeSteps p f).1 = (s.txFadeSteps p f).2) :=
  ⟨State.reset.modTx 3 (fun t => { t with fade := some { swap := ⟨8, 1⟩, started := true }, heldSwap := some ⟨3, 2⟩ }),
    3,
    { swap := ⟨8, 1⟩, started := true }, by decide +kernel⟩
theorem meets_txDriverFault_present : ∃ (s : State) (p : Phys) (kind : Nat), ((s.txl p).faultNow = false ∧
    (s.ln p).change = none) :=
  ⟨State.reset,
    3,
    1, by decide +kernel⟩
theorem meets_txFaultDeclaration : ∃ (s : State) (p : Phys) (w : Work), ((s.txl p).faultDue = true ∧
    s.workOf p = some w ∧ guaranteed (s.modeOf p) = false) :=
  ⟨State.reset.modTx 3 (fun t => { t with faultDue := true }),
    3,
    3, by decide +kernel⟩
theorem meets_transparentStart : ∃ (s : State) (p : Phys), (s.modeOf p = .transparent ∧ (s.txl p).elasticOn = false ∧
    512 ≤ (s.txl p).elastic.length) :=
  ⟨(State.reset.modTx 3 fun t => { t with elastic := zeros 512 }).modLane 3 (fun l => { l with mode := .transparent }),
    3, by decide +kernel⟩
theorem meets_transparentUnderrun : ∃ (s : State) (p : Phys), (s.modeOf p = .transparent ∧ (s.txl p).elasticOn = true ∧
    (s.txl p).elastic = []) :=
  ⟨(State.reset.modTx 3 fun t => { t with elasticOn := true }).modLane 3 (fun l => { l with mode := .transparent }),
    3, by decide +kernel⟩
theorem meets_superframeBoundary_first : ∃ (s : State) (p : Phys) (bad : Option (Nat × Nat × BitVec 42)),
    (superframes (s.modeOf p) = true ∧ s.zeroScale p = false ∧ (s.txl p).marker = 0) :=
  ⟨(steadyLane .reset).modTx 3 (fun t => { t with fresh := false }),
    3,
    none, by decide +kernel⟩
theorem meets_superframeBoundary_next : ∃ (s : State) (p : Phys), (superframes (s.modeOf p) = true ∧
    s.zeroScale p = false ∧ (s.txl p).marker ≠ 0 ∧ s.symDue p (s.txl p).boundary = true) :=
  ⟨(steadyLane .reset).modTx 3 (fun t => { t with fresh := false, marker := 5 }),
    3, by decide +kernel⟩
theorem meets_burstFreeze : ∃ (s : State) (p : Phys) (w : Work) (slot : Nat), (s.workOf p = some w ∧
    s.modeOf p = .slotted ∧ slot < (s.wk w).tx.active.slots ∧ entryTxEn ((s.wk w).tx.active.entry slot) = true ∧
    (s.arrOf arrFabric).words = []) ∧ (s.epochAt ((s.wk w).tx.active.txStart (s.rxl p).rate slot - 2048 * 2 ^ (s.rxl
    p).rate) = true ∧ s.epoch.lost = false ∧ (s.txl p).state = .idle ∧ (s.ln p).power = .active ∧
    (s.ln p).resetting = false ∧ s.mayBurst p w = true) ∧ (entryProbe ((s.wk w).tx.active.entry slot) = true ∨ (s.wk
    w).toSend (entryDest ((s.wk w).tx.active.entry slot)) ≠ [] ∨ (s.wk w).tx.coldPending.contains (entryDest ((s.wk
    w).tx.active.entry slot)) = true) :=
  ⟨(atTime 13 ((slotLane .reset).modLane 3 fun l => { l with power := .active })).modWork 3 (fun w => { w with station := 7, tx := { w.tx with active := aSchedule, coldPending := [9] } }),
    3,
    3,
    0, by decide +kernel⟩
theorem meets_burstSendStart : ∃ (s : State) (p : Phys) (w : Work) (b : TxBurst), (s.workOf p = some w ∧
    (s.txl p).burst = some b ∧ (s.txl p).state = .frozen ∧ (s.ln p).resetting = false ∧ s.mayBurst p w = true) ∧
    (s.modeOf p = .openM ∨ s.modeOf p = .slotted ∧ s.epochAt b.sendAt = true) :=
  ⟨(atTime 17 ((slotLane .reset).modTx 3 fun t => { t with state := .frozen, burst := some { aTxBurst with sendAt := 9075 } })).modWork 3 (fun w => { w with station := 7 }),
    3,
    3,
    { aTxBurst with sendAt := 9075 }, by decide +kernel⟩
theorem meets_burstSendEnd : ∃ (s : State) (p : Phys) (b : TxBurst), ((s.txl p).burst = some b ∧
    (s.txl p).state = .sending ∧ (s.ln p).change = none ∧ (s.ln p).resetWait = false) :=
  ⟨(slotLane .reset).modTx 3 (fun t => { t with state := .sending, burst := some aTxBurst }),
    3,
    aTxBurst, by decide +kernel⟩
theorem meets_fabsyncMissDecision : ∃ (s : State), (s.epoch.period ≠ 0 ∧ s.epoch.lost = false) :=
  ⟨{ State.reset with epoch := { State.reset.epoch with period := 100000 } }, by decide +kernel⟩
theorem meets_armDeadline_change : ∃ (s : State) (w : Work) (p : Phys) (m : LaneMode) (e : BitVec 32) (l : Bool),
    (s.physOf w = some p ∧ (s.ln p).change = some (.epoch m e l)) :=
  ⟨State.reset.modLane 3 (fun l => { l with change := some (.epoch .openM 5 false) }),
    3,
    3,
    .openM,
    5,
    false, by decide +kernel⟩
theorem meets_openBurstChoice : ∃ (s : State) (p : Phys) (w : Work) (d : Nat), (s.workOf p = some w ∧
    s.modeOf p = .openM ∧ (s.txl p).state = .idle ∧ (s.ln p).power = .active ∧ (s.ln p).resetting = false ∧
    s.mayBurst p w = true) ∧ ({ s.wk w with tx := (s.wk w).tx.settle } : WorkLane).nextReady = some d :=
  ⟨((openLane .reset).modLane 3 fun l => { l with power := .active }).modWork 3 (fun w => { w with station := 7, tx := { w.tx with coldPending := [9] } }),
    3,
    3,
    9, by decide +kernel⟩
theorem meets_openHoldExpiry : ∃ (s : State) (w : Work) (dest : Nat), (s.modeOfWork w = .openM ∧
    ((s.wk w).toSend dest).any (fun i => !i.sent) = true) :=
  ⟨(openLane .reset).modWork 3 (fun w => { w with txCtx := [(9, { next := 1, sendPtr := 0, ctxId := 1, used := 0 })], images := [{ dest := 9, seq := 0, kind := 1, payload := zeros 48, tag := 0 }] }),
    3,
    9, by decide +kernel⟩
theorem meets_backoffExpiry : ∃ (s : State) (w : Work) (dest : Nat) (o : OpenDest), tabGet (s.wk w).tx.dests dest = some
    o :=
  ⟨State.reset.modWork 3 (fun w => { w with tx := { w.tx with dests := [(9, { backoff := true })] } }),
    3,
    9,
    { backoff := true }, by decide +kernel⟩
theorem meets_schedSetEpoch : ∃ (s : State) (k : Sess) (a : Bytes), s.holds k 0x0401 a :=
  ⟨held .reset 0x0401 [0, 0, 2, 0, 0, 1, 4, 0],
    0,
    [0, 0, 2, 0, 0, 1, 4, 0], by decide +kernel⟩
theorem meets_schedLoad_header : ∃ (s : State) (k : Sess) (a : Bytes) (w : Work), s.holds k 0x0402 a ∧
    (byteAt a 0 = w.val ∧ byteAt a 1 = 0 ∧ s.workTest w = false ∧ (s.wk w).tx.armed = none) :=
  ⟨held .reset 0x0402 ([3, 0, 0, 0, 8, 0, 0, 0, 4] ++ zeros 31),
    0,
    [3, 0, 0, 0, 8, 0, 0, 0, 4] ++ zeros 31,
    3, by decide +kernel⟩
theorem meets_schedLoad_entry : ∃ (s : State) (k : Sess) (a : Bytes) (w : Work), s.holds k 0x0402 a ∧
    (byteAt a 0 = w.val ∧ byteAt a 1 ≠ 0 ∧ s.workTest w = false ∧ (s.wk w).tx.armed = none) :=
  ⟨held .reset 0x0402 [3, 1, 5, 0, 1, 0, 0, 0, 9, 0x40, 0, 0],
    0,
    [3, 1, 5, 0, 1, 0, 0, 0, 9, 0x40, 0, 0],
    3, by decide +kernel⟩
theorem meets_schedLoad_refused : ∃ (s : State) (k : Sess) (a : Bytes) (w : Work), s.holds k 0x0402 a ∧
    (byteAt a 0 = w.val ∧ s.workTest w = false ∧ (s.wk w).tx.armed ≠ none) :=
  ⟨held (State.reset.modWork 3 fun w => { w with tx := { w.tx with armed := some (5, false) } }) 0x0402 [3, 1, 5, 0, 1, 0, 0, 0, 9, 0x40, 0, 0],
    0,
    [3, 1, 5, 0, 1, 0, 0, 0, 9, 0x40, 0, 0],
    3, by decide +kernel⟩
theorem meets_schedArm : ∃ (s : State) (k : Sess) (a : Bytes) (w : Work) (p : Phys), s.holds k 0x0403 a ∧
    (byteAt a 0 = w.val ∧ s.physOf w = some p ∧ (s.ln p).selftest = false ∧ ((s.wk w).tx.armed.map (·.2)).getD false =
    false) ∧ (byteAt a 1 = 0 ∨ reached (s.nextTarget w) (BitVec.ofNat 32 (fieldLE a 4 4)) = true) ∧
    s.schedFault (s.wk w).tx.shadow (s.rxl p).rate = none :=
  ⟨held (State.reset.modWork 3 fun w => { w with tx := { w.tx with shadow := aSchedule } }) 0x0403 [3, 0, 0, 0, 0, 0, 0, 0],
    0,
    [3, 0, 0, 0, 0, 0, 0, 0],
    3,
    3, by decide +kernel⟩
theorem meets_schedArm_refused : ∃ (s : State) (k : Sess) (a : Bytes) (w : Work) (p : Phys) (o : Nat),
    s.holds k 0x0403 a ∧ (byteAt a 0 = w.val ∧ s.physOf w = some p ∧ (s.ln p).selftest = false ∧
    (s.wk w).tx.armed = none ∧ byteAt a 1 = 0) ∧ s.schedFault (s.wk w).tx.shadow (s.rxl p).rate = some o :=
  ⟨held .reset 0x0403 [3, 0, 0, 0, 0, 0, 0, 0],
    0,
    [3, 0, 0, 0, 0, 0, 0, 0],
    3,
    3,
    0, by decide +kernel⟩
theorem meets_schedDisarm : ∃ (s : State) (k : Sess) (a : Bytes) (w : Work), s.holds k 0x0404 a ∧ (byteAt a 0 = w.val ∧
    s.workTest w = false ∧ ((s.wk w).tx.armed.map (·.2)).getD false = false) :=
  ⟨held .reset 0x0404 [3, 0, 0, 0],
    0,
    [3, 0, 0, 0],
    3, by decide +kernel⟩
theorem meets_schedGetStatus : ∃ (s : State) (k : Sess) (a : Bytes) (w : Work), s.holds k 0x0405 a ∧
    (byteAt a 0 = w.val ∧ s.workTest w = false) :=
  ⟨held .reset 0x0405 [3, 0, 0, 0],
    0,
    [3, 0, 0, 0],
    3, by decide +kernel⟩
theorem meets_schedRead : ∃ (s : State) (k : Sess) (a : Bytes) (w : Work), s.holds k 0x0406 a ∧ (byteAt a 0 = w.val ∧
    s.workTest w = false ∧ fieldLE a 2 2 + fieldLE a 4 2 ≤ 1024) :=
  ⟨held .reset 0x0406 [3, 1, 0, 0, 4, 0, 0, 0],
    0,
    [3, 1, 0, 0, 4, 0, 0, 0],
    3, by decide +kernel⟩
theorem meets_frameAccepted_accepted : ∃ (s : State) (w : Work) (f : HostFrame) (rest : List HostFrame) (c : TxCtx),
    ((s.chanOf w).inFrames = f :: rest ∧ f.beyond = false ∧ s.frameFault w f = none ∧ tabGet (s.wk w).txCtx (s.bindDest w
    f.station) = some c ∧ (s.arrOf (arrReplay (groupOfWork w))).words = []) :=
  ⟨((steadyLane .reset).modWork 3 fun w => { w with txCtx := [(9, aTxCtx)] }).modChan 3 (fun c => { c with inFrames := [aFrame] }),
    3,
    aFrame,
    [],
    aTxCtx, by decide +kernel⟩
theorem meets_frameAccepted_refused : ∃ (s : State) (w : Work) (f : HostFrame) (rest : List HostFrame) (r : Nat),
    ((s.chanOf w).inFrames = f :: rest ∧ f.beyond = false ∧ s.frameFault w f = some r) :=
  ⟨State.reset.modChan 3 (fun c => { c with inFrames := [aFrame] }),
    3,
    aFrame,
    [],
    1, by decide +kernel⟩
theorem meets_rtoExpiry : ∃ (s : State) (w : Work) (p : Nat) (c : TxCtx), (tabGet (s.wk w).txCtx p = some c ∧
    c.rtoOn = true ∧ (s.arrOf arrFabric).words = []) :=
  ⟨(steadyLane .reset).modWork 3 (fun w => { w with txCtx := [(9, { aTxCtx with rtoOn := true })] }),
    3,
    9,
    { aTxCtx with rtoOn := true }, by decide +kernel⟩
theorem meets_ackIntervalExpiry : ∃ (s : State) (w : Work) (p : Nat), (s.wk w).ackDue p = true :=
  ⟨(steadyLane .reset).modWork 3 (fun w => { w with rxCtx := [(9, aRxCtx)], acks := [(9, { changed := true })] }),
    3,
    9, by decide +kernel⟩
theorem meets_ctxIdleExpiry_receive : ∃ (s : State) (w : Work) (p : Nat) (c : RxCtx), (tabGet (s.wk w).rxCtx p = some c ∧
    c.sketches = [] ∧ 2000 * (s.wk w).ctxIdle ≤ s.usOf (s.since c.heard)) :=
  ⟨(steadyLane .reset).modWork 3 (fun w => { w with rxCtx := [(9, aRxCtx)], ctxIdle := 0 }),
    3,
    9,
    aRxCtx, by decide +kernel⟩
theorem meets_ctxIdleExpiry_sketched : ∃ (s : State) (w : Work) (p : Nat) (c : RxCtx), (tabGet (s.wk w).rxCtx p = some c
    ∧ c.sketches ≠ [] ∧ 2000 * (s.wk w).ctxIdle ≤ s.usOf (s.since c.heard)) :=
  ⟨(steadyLane .reset).modWork 3 (fun w => { w with rxCtx := [(9, { aRxCtx with sketches := [{ seq := 0, bytes := 68, header := 0, payload := zeros 48 }] })], ctxIdle := 0 }),
    3,
    9,
    { aRxCtx with sketches := [{ seq := 0, bytes := 68, header := 0, payload := zeros 48 }] }, by decide +kernel⟩
theorem meets_ctxIdleExpiry_transmit : ∃ (s : State) (w : Work) (p : Nat) (c : TxCtx), (tabGet (s.wk w).txCtx p = some c
    ∧ (s.wk w).retainedFor p = [] ∧ 1000 * (s.wk w).ctxIdle ≤ s.usOf (s.since c.used) ∧ 1000 * (s.wk w).ctxIdle ≤ s.usOf
    (s.since c.freed)) ∧ (((s.wk w).acks.all fun e => e.2.links.isEmpty) = true ∧ ((s.wk w).txCtx.all fun e =>
    !e.2.opening) = true) :=
  ⟨(steadyLane .reset).modWork 3 (fun w => { w with txCtx := [(9, aTxCtx)], ctxIdle := 0 }),
    3,
    9,
    aTxCtx, by decide +kernel⟩
theorem meets_losSpareDelayExpiry_move : ∃ (s : State) (p d : Phys) (w : Work) (rest : List Phys), (s.workOf p = some w ∧
    s.modeOf p = .steady ∧ (s.rxl p).los = true ∧ s.graceOn p = false ∧ s.tripped = false) ∧ ((s.wk w).autoFail = true ∧
    (s.wk w).move = none ∧ s.preemptable (bankOfPhys p) .make = none ∧ s.freeSpares (bankOfPhys p) = d :: rest) :=
  ⟨((steadyLane .reset).modRx 3 fun r => { r with los := true }).modLane 16 (fun l => { l with mode := .spare }),
    3,
    16,
    3,
    [], by decide +kernel⟩
theorem meets_losSpareDelayExpiry_reported : ∃ (s : State) (p : Phys) (w : Work), (s.workOf p = some w ∧
    s.modeOf p = .steady ∧ (s.rxl p).los = true ∧ s.graceOn p = false ∧ s.tripped = false ∧ (s.wk w).autoFail = false) :=
  ⟨((steadyLane .reset).modRx 3 fun r => { r with los := true }).modWork 3 (fun w => { w with autoFail := false }),
    3,
    3, by decide +kernel⟩
theorem meets_failureMoveMap : ∃ (s : State) (w : Work) (m : Move), ((s.wk w).move = some m ∧ m.phase = .failing ∧
    m.src ≠ m.dst) ∧ (s.ln m.src).waitsBurst = false :=
  ⟨movingLane .failing false,
    3,
    aMove .failing false, by decide +kernel⟩
theorem meets_moveSettleExpiry_switch : ∃ (s : State) (w : Work) (m : Move), ((s.wk w).move = some m ∧
    m.phase = .switch) :=
  ⟨movingLane .switch true,
    3,
    aMove .switch true, by decide +kernel⟩
theorem meets_moveSettleExpiry_done : ∃ (s : State) (w : Work) (m : Move), ((s.wk w).move = some m ∧ m.phase = .breakP ∧
    m.settling = true ∧ m.src ≠ m.dst ∧ (s.ln m.src).failed = false ∧ ∀ v, (s.wk v).oosOrder = none) :=
  ⟨(movingLane .breakP true).modWork 3 (fun w => { w with move := some { aMove .breakP true with settling := true } }),
    3,
    { aMove .breakP true with settling := true }, by decide +kernel⟩
theorem meets_moveLimitExpiry : ∃ (s : State) (w : Work) (m : Move), ((s.wk w).move = some m ∧ m.planned = true ∧
    (m.phase = .make ∨ m.phase = .switch ∨ m.phase = .breakP) ∧ ∀ v, (s.wk v).oosOrder = none) :=
  ⟨movingLane .make true,
    3,
    aMove .make true, by decide +kernel⟩
theorem meets_moveSwitchZeroScale : ∃ (s : State) (w : Work) (m : Move), ((s.wk w).move = some m ∧ m.phase = .zeroWait ∧
    m.planned = true ∧ (s.txl m.src).state ≠ .sending ∧ m.src ≠ m.dst ∧ ∀ v, (s.wk v).oosOrder = none) ∧
    (s.ln m.src).waitsBurst = false :=
  ⟨(movingLane .zeroWait true).modLane 3 (fun l => { l with mode := .openM }),
    3,
    aMove .zeroWait true, by decide +kernel⟩
theorem meets_deliverySetRetention : ∃ (s : State) (k : Sess) (a : Bytes) (w : Work), s.holds k 0x0601 a ∧
    (byteAt a 0 = w.val ∧ s.workTest w = false ∧ (byteAt a 1 ≤ (s.wk w).heldExtents ∨ ((workAll.filter fun x => decide (x
    ≠ w)).map fun x => (s.wk x).heldExtents).sum + byteAt a 1 ≤ 512)) :=
  ⟨held .reset 0x0601 [3, 2, 0, 0],
    0,
    [3, 2, 0, 0],
    3, by decide +kernel⟩
theorem meets_deliverySetTimers : ∃ (s : State) (k : Sess) (a : Bytes) (w : Work), s.holds k 0x0602 a ∧
    (((byteAt a 0 = w.val ∧ s.workTest w = false) ∨ (byteAt a 0 = 255 ∧ ∀ v, s.workTest v = false)) ∧
    fieldLE a 4 4 < 1000 * fieldLE a 12 4) :=
  ⟨held .reset 0x0602 [3, 0, 0, 0, 10, 0, 0, 0, 5, 0, 6, 0, 1, 0, 0, 0, 9, 0, 0, 0],
    0,
    [3, 0, 0, 0, 10, 0, 0, 0, 5, 0, 6, 0, 1, 0, 0, 0, 9, 0, 0, 0],
    3, by decide +kernel⟩
theorem meets_deliverySetTimers_refused : ∃ (s : State) (k : Sess) (a : Bytes) (w : Work), s.holds k 0x0602 a ∧
    (byteAt a 0 = w.val ∧ s.workTest w = false ∧ 1000 * fieldLE a 12 4 ≤ fieldLE a 4 4) :=
  ⟨held .reset 0x0602 [3, 0, 0, 0, 10, 39, 0, 0, 5, 0, 6, 0, 1, 0, 0, 0, 9, 0, 0, 0],
    0,
    [3, 0, 0, 0, 10, 39, 0, 0, 5, 0, 6, 0, 1, 0, 0, 0, 9, 0, 0, 0],
    3, by decide +kernel⟩
theorem meets_deliverySetQuota : ∃ (s : State) (k : Sess) (a : Bytes) (w : Work), s.holds k 0x0603 a ∧
    (byteAt a 0 = w.val ∧ s.workTest w = false) ∧ (workAll.map fun x => max (s.wk x).txCtx.length (if x = w then fieldLE
    a 2 2 else (s.wk x).txQuota)).sum ≤ 16384 ∧ (workAll.map fun x => max (s.wk x).rxCtx.length (if x = w then fieldLE a
    4 2 else (s.wk x).rxQuota)).sum ≤ 16384 :=
  ⟨held .reset 0x0603 [3, 0, 100, 0, 90, 0, 0, 0],
    0,
    [3, 0, 100, 0, 90, 0, 0, 0],
    3, by decide +kernel⟩
theorem meets_deliverySetSketch_on : ∃ (s : State) (k : Sess) (a : Bytes) (w : Work), s.holds k 0x0604 a ∧
    (byteAt a 0 = w.val ∧ byteAt a 1 = 1 ∧ s.workTest w = false ∧ (s.wk w).sketchSess = none ∧
    guaranteed (s.modeOfWork w) = true) :=
  ⟨held (steadyLane .reset) 0x0604 [3, 1, 8, 0],
    0,
    [3, 1, 8, 0],
    3, by decide +kernel⟩
theorem meets_deliverySetSketch_off : ∃ (s : State) (k : Sess) (a : Bytes) (w : Work), s.holds k 0x0604 a ∧
    (byteAt a 0 = w.val ∧ byteAt a 1 ≠ 1 ∧ s.workTest w = false ∧ (s.wk w).sketchSess = none ∧
    (s.wk w).sketchBytes = 0) :=
  ⟨held (steadyLane .reset) 0x0604 [3, 0, 8, 0],
    0,
    [3, 0, 8, 0],
    3, by decide +kernel⟩
theorem meets_deliverySetSketch_off_later : ∃ (s : State) (k : Sess) (a : Bytes) (w : Work), s.holds k 0x0604 a ∧
    (byteAt a 0 = w.val ∧ byteAt a 1 ≠ 1 ∧ s.workTest w = false ∧ (s.wk w).sketchSess = none ∧
    (s.wk w).sketchBytes ≠ 0) :=
  ⟨held ((steadyLane .reset).modWork 3 fun w => { w with rxCtx := [(9, { aRxCtx with sketches := [{ seq := 0, bytes := 68, header := 0, payload := zeros 48 }] })] }) 0x0604 [3, 0, 8, 0],
    0,
    [3, 0, 8, 0],
    3, by decide +kernel⟩
theorem meets_deliverySetSparePolicy : ∃ (s : State) (k : Sess) (a : Bytes) (w : Work), s.holds k 0x0605 a ∧
    ((byteAt a 0 = w.val ∧ s.workTest w = false) ∨ (byteAt a 0 = 255 ∧ ∀ v, s.workTest v = false)) :=
  ⟨held .reset 0x0605 [3, 5, 3, 0],
    0,
    [3, 5, 3, 0],
    3, by decide +kernel⟩
theorem meets_deliveryReleasePeer_released : ∃ (s : State) (k : Sess) (a : Bytes) (w : Work), s.holds k 0x0606 a ∧
    (byteAt a 0 = w.val ∧ s.workTest w = false ∧ s.modeOfWork w = .steady ∧ (s.wk w).fec.peer ≠ fieldLE a 2 2) ∧
    ((s.wk w).retainedFor (fieldLE a 2 2) ≠ [] ∧ ((s.wk w).acks.all fun e => e.2.links.isEmpty) = true ∧
    ((s.wk w).txCtx.all fun e => !e.2.opening) = true) :=
  ⟨held ((steadyLane .reset).modWork 3 fun w => { w with txCtx := [(8, aTxCtx)], images := [{ dest := 8, seq := 1, kind := 1, payload := zeros 48, tag := 5 }] }) 0x0606 [3, 0, 8, 0],
    0,
    [3, 0, 8, 0],
    3, by decide +kernel⟩
theorem meets_deliveryReleasePeer_nothing : ∃ (s : State) (k : Sess) (a : Bytes) (w : Work), s.holds k 0x0606 a ∧
    (byteAt a 0 = w.val ∧ s.workTest w = false ∧ (s.modeOfWork w ≠ .steady ∨ (s.wk w).fec.peer = fieldLE a 2 2)) :=
  ⟨held .reset 0x0606 [3, 0, 8, 0],
    0,
    [3, 0, 8, 0],
    3, by decide +kernel⟩
theorem meets_deliverySpareMove_planned : ∃ (s : State) (k : Sess) (a : Bytes) (w : Work) (p d : Phys) (rest : List
    Phys), s.holds k 0x0607 a ∧ (byteAt a 0 = w.val ∧ s.physOf w = some p ∧ s.workOf p = some w ∧
    (s.ln p).selftest = false ∧ (s.wk w).move = none) ∧ ((byteAt a 1 = 255 ∧ s.freeSpares (bankOfWork w) = d :: rest) ∨
    (byteAt a 1 = d.val ∧ bankOfPhys d = bankOfWork w ∧ (s.ln d).selftest = false ∧
    (s.freeSpares (bankOfWork w)).contains d = true)) ∧ (s.tripped = false ∧ guaranteed (s.modeOf p) = true) :=
  ⟨held ((steadyLane .reset).modLane 16 fun l => { l with mode := .spare }) 0x0607 [3, 255, 0, 0],
    0,
    [3, 255, 0, 0],
    3,
    3,
    16,
    [], by decide +kernel⟩
theorem meets_deliverySpareMove_at_once : ∃ (s : State) (k : Sess) (a : Bytes) (w : Work) (p d : Phys) (rest : List
    Phys), s.holds k 0x0607 a ∧ (byteAt a 0 = w.val ∧ s.physOf w = some p ∧ (s.ln p).selftest = false ∧
    (s.wk w).move = none) ∧ ((byteAt a 1 = 255 ∧ s.freeSpares (bankOfWork w) = d :: rest) ∨ (byteAt a 1 = d.val ∧
    bankOfPhys d = bankOfWork w ∧ (s.ln d).selftest = false ∧ (s.freeSpares (bankOfWork w)).contains d = true)) ∧
    (s.tripped = false ∧ (s.modeOf p = .transparent ∨ s.modeOf p = .dark) ∧ p ≠ d ∧ (s.ln d).change = none) :=
  ⟨held (State.reset.modLane 16 fun l => { l with mode := .spare }) 0x0607 [3, 255, 0, 0],
    0,
    [3, 255, 0, 0],
    3,
    3,
    16,
    [], by decide +kernel⟩
theorem meets_deliverySpareMove_refused : ∃ (s : State) (k : Sess) (a : Bytes) (w : Work) (p : Phys),
    s.holds k 0x0607 a ∧ (byteAt a 0 = w.val ∧ byteAt a 1 = 255 ∧ s.physOf w = some p ∧ (s.ln p).selftest = false ∧
    (s.wk w).move = none) ∧ (s.tripped = false ∧ s.freeSpares (bankOfWork w) = []) :=
  ⟨held .reset 0x0607 [3, 255, 0, 0],
    0,
    [3, 255, 0, 0],
    3,
    3, by decide +kernel⟩
theorem meets_deliveryGetMap : ∃ (s : State) (k : Sess) (a : Bytes), s.holds k 0x0609 a :=
  ⟨held .reset 0x0609 [],
    0,
    [], by decide +kernel⟩
theorem meets_deliveryGetStatus : ∃ (s : State) (k : Sess) (a : Bytes) (w : Work), s.holds k 0x060A a ∧
    (byteAt a 0 = w.val ∧ s.workTest w = false) :=
  ⟨held .reset 0x060A [3, 1, 0, 0],
    0,
    [3, 1, 0, 0],
    3, by decide +kernel⟩
theorem meets_txBlockStart : ∃ (s : State) (g : Group), ((s.grp g).sending = true ∧ (s.grp g).resend = none) :=
  ⟨linkIn .active,
    2, by decide +kernel⟩
theorem meets_commaReceived : ∃ (s : State) (g : Group) (k : Fin 16) (blocks : List (Option (BitVec 32) × List Bool)),
    ((s.grp g).state ≠ .off ∧ (s.grp g).state ≠ .outOfService ∧ (s.grp g).state ≠ .loopback ∧ (s.grp g).rxIdle = false ∧
    (s.grp g).resetting = false ∧ (s.grp g).loopStatus ≠ 1) ∧ (commaOf g ((blocks.map (·.1)).getD k.val none)).isSome :=
  ⟨linkIn .train,
    2,
    1,
    [(none, []), (some (commaWord 2 1 false false), [])], by decide +kernel⟩
theorem meets_swatchReceived_bad : ∃ (s : State) (g : Group), (256 ≤ (s.grp g).rxStream.length ∧
    (s.grp g).state = .active ∧ goodSwatch ((s.grp g).rxStream.take 256) = false) :=
  ⟨(linkIn .active).modGroup 2 (fun h => { h with rxStream := zeros 256 }),
    2, by decide +kernel⟩
theorem meets_swatchReceived_data : ∃ (s : State) (g : Group), (256 ≤ (s.grp g).rxStream.length ∧
    (s.grp g).state = .active ∧ goodSwatch ((s.grp g).rxStream.take 256) = true) ∧ ((parseSwatch ((s.grp g).rxStream.take
    256)).type = 1 ∧ (parseSwatch ((s.grp g).rxStream.take 256)).sseq = (s.grp g).next ∧ (s.grp g).rxCut.contains 0 =
    false) :=
  ⟨(linkIn .active).modGroup 2 (fun h => { h with rxStream := aSwatch.bytes 0xFFFF false }),
    2, by decide +kernel⟩
theorem meets_replayTimeout : ∃ (s : State) (g : Group) (x : Swatch) (rest : List Swatch), ((s.grp g).state = .active ∧
    (s.grp g).replay = x :: rest) :=
  ⟨(linkIn .active).modGroup 2 (fun h => { h with replay := [aSwatch] }),
    2,
    aSwatch,
    [], by decide +kernel⟩
theorem meets_repairReq_spare : ∃ (s : State) (g : Group) (role : Nat), ((s.grp g).state ≠ .off ∧
    (s.grp g).state ≠ .outOfService ∧ role ≤ 16 ∧ (s.grp g).txSpare = some 16) :=
  ⟨linkIn .active,
    2,
    3, by decide +kernel⟩
theorem meets_repairReq_narrow : ∃ (s : State) (g : Group) (role : Nat), ((s.grp g).state ≠ .off ∧
    (s.grp g).state ≠ .outOfService ∧ role ≤ 16 ∧ (s.grp g).txSpare = none ∧ (s.grp g).params.minWidth ≤ (s.grp g).width
    - 1) :=
  ⟨(linkIn .active).modGroup 2 (fun h => { h with txRole := h.txRole.setIfInBounds 16 31 }),
    2,
    3, by decide +kernel⟩
theorem meets_hostLaneFail : ∃ (s : State) (g : Group) (lane : Fin 18) (reason : Nat), ((s.grp g).state ≠ .off ∧
    (s.grp g).state ≠ .outOfService ∧ (s.grp g).rxFailed.getLsbD lane.val = false ∧ s.sec.test.map (·.record.scope) ≠
    some 255) :=
  ⟨linkIn .active,
    2,
    4,
    1, by decide +kernel⟩
theorem meets_spareOk : ∃ (s : State) (g : Group) (lane : HLane) (r : Restore), ((s.grp g).restore = some r ∧ r.dir = 1 ∧
    r.lane = lane.val) :=
  ⟨(linkIn .active).modGroup 2 (fun h => { h with restore := some ⟨4, 1, 0⟩ }),
    2,
    4,
    ⟨4, 1, 0⟩, by decide +kernel⟩
theorem meets_spareSubstitution : ∃ (s : State) (g : Group) (j spare : Nat), ((s.grp g).moveReq = some j ∧ j < 16 ∧
    (s.grp g).txSpare = some spare ∧ (s.grp g).state ≠ .off ∧ (s.grp g).state ≠ .outOfService) ∧
    s.sec.test.map (·.record.scope) ≠ some 255 :=
  ⟨(linkIn .active).modGroup 2 (fun h => { h with moveReq := some 3 }),
    2,
    3,
    16, by decide +kernel⟩
theorem meets_clockMove : ∃ (s : State) (g : Group), ((s.grp g).moveReq = some 16 ∧ (s.grp g).txSpare = some 16 ∧
    s.sec.test.map (·.record.scope) ≠ some 255) :=
  ⟨(linkIn .active).modGroup 2 (fun h => { h with moveReq := some 16 }),
    2, by decide +kernel⟩
theorem meets_trainPhaseLock : ∃ (s : State) (g : Group), ((s.grp g).state = .train ∧ (s.grp g).tstep = .clock) :=
  ⟨linkIn .train,
    2, by decide +kernel⟩
theorem meets_trainLimitExpiry : ∃ (s : State) (g : Group), (s.grp g).state = .train :=
  ⟨linkIn .train,
    2, by decide +kernel⟩
theorem meets_retrainReq : ∃ (s : State) (g : Group), (s.grp g).state = .active :=
  ⟨linkIn .active,
    2, by decide +kernel⟩
theorem meets_wanderLimit : ∃ (s : State) (g : Group), (s.grp g).state = .active :=
  ⟨linkIn .active,
    2, by decide +kernel⟩
theorem meets_hckrxStop_idle : ∃ (s : State) (g : Group), ((s.grp g).state = .active ∧ (s.grp g).rxIdle = false ∧
    s.idleStop g = true) :=
  ⟨(linkIn .active).modGroup 2 (fun h => { h with idleHeard := true, idleAcked := some 0 }),
    2, by decide +kernel⟩
theorem meets_hckrxStop_lost : ∃ (s : State) (g : Group), ((s.grp g).state = .active ∧ (s.grp g).rxIdle = false ∧
    s.idleStop g = false) :=
  ⟨linkIn .active,
    2, by decide +kernel⟩
theorem meets_idleEnter : ∃ (s : State) (g : Group), (s.grp g).state = .active :=
  ⟨linkIn .active,
    2, by decide +kernel⟩
theorem meets_txElectricalIdleEntry : ∃ (s : State) (g : Group) (q : BitVec 16), ((s.grp g).idleSent = some q ∧
    (s.grp g).state = .active ∧ (s.grp g).txIdle = false ∧ (s.grp g).replay = []) ∧ (((s.grp g).acked - q - 1).toNat <
    32768 ∧ (s.grp g).hasWork = false) :=
  ⟨(linkIn .active).modGroup 2 (fun h => { h with idleSent := some 4, acked := 5, sseq := 5 }),
    2,
    4, by decide +kernel⟩
theorem meets_txWake : ∃ (s : State) (g : Group), ((s.grp g).txIdle = true ∧ (s.grp g).hasWork = true) :=
  ⟨(linkIn .active).modGroup 2 (fun h => { h with txIdle := true, power := .idle, nakPending := true }),
    2, by decide +kernel⟩
theorem meets_rxWakeBurst : ∃ (s : State) (g : Group), (s.grp g).rxIdle = true :=
  ⟨(linkIn .active).modGroup 2 (fun h => { h with rxIdle := true }),
    2, by decide +kernel⟩
theorem meets_rxWakeCommaTimeout : ∃ (s : State) (g : Group), ((s.grp g).state = .active ∧ (s.grp g).rxIdle = false) :=
  ⟨linkIn .active,
    2, by decide +kernel⟩
theorem meets_groupIdleTimerExpiry : ∃ (s : State) (g : Group), ((s.grp g).state = .active ∧ (s.grp g).idleTimer ≠ 0 ∧
    (s.grp g).txIdle = false ∧ (s.grp g).idleSent = none ∧ (s.grp g).hasWork = false ∧ (s.grp g).replay = []) :=
  ⟨linkIn .active,
    2, by decide +kernel⟩
theorem meets_groupResetDone : ∃ (s : State) (g : Group) (d : Nat × Nat), ((s.grp g).resetting = true ∧
    ((s.grp g).state = .active ∨ (s.grp g).state = .train)) :=
  ⟨(linkIn .active).modGroup 2 (fun h => { h with resetting := true }),
    2,
    (0, 0), by decide +kernel⟩
theorem meets_hostTrain : ∃ (s : State) (k : Sess) (a : Bytes) (g : Group), s.holds k 0x0701 a ∧ (byteAt a 0 = g.val ∧
    (s.grp g).selftest = false ∧ (s.grp g).resetting = false ∧ (s.grp g).saving = false ∧ s.retired = false ∧
    (s.grp g).state ≠ .loopback) ∧ ((s.grp g).replayLost = false ∧ (s.grp g).txFailed = 0 ∧ (s.grp g).rxFailed = 0 ∧
    (s.grp g).params.minWidth ≤ 16 ∧ ((s.grp g).power = .idle → (s.grp g).state = .active)) :=
  ⟨held .reset 0x0701 [2, 0, 0, 0],
    0,
    [2, 0, 0, 0],
    2, by decide +kernel⟩
theorem meets_hostTrain_refused : ∃ (s : State) (k : Sess) (a : Bytes) (g : Group), s.holds k 0x0701 a ∧
    (byteAt a 0 = g.val ∧ (s.grp g).selftest = false ∧ (s.grp g).resetting = false ∧ (s.grp g).saving = false ∧
    (s.grp g).state = .loopback) :=
  ⟨held (linkIn .loopback) 0x0701 [2, 0, 0, 0],
    0,
    [2, 0, 0, 0],
    2, by decide +kernel⟩
theorem meets_hostSetLink : ∃ (s : State) (k : Sess) (a : Bytes) (g : Group), s.holds k 0x0702 a ∧
    (byteAt a 0 = g.val ∨ byteAt a 0 = 255) :=
  ⟨held .reset 0x0702 [2, 4, 1, 8, 0, 2, 50, 0, 100, 0, 0, 0],
    0,
    [2, 4, 1, 8, 0, 2, 50, 0, 100, 0, 0, 0],
    2, by decide +kernel⟩
theorem meets_hostSetTx_lane : ∃ (s : State) (k : Sess) (a : Bytes) (g : Group), s.holds k 0x0703 a ∧
    ((byteAt a 0 = g.val ∨ byteAt a 0 = 255) ∧ byteAt a 1 < 18) :=
  ⟨held .reset 0x0703 [2, 5, 9, 1, 4, 0, 0, 0],
    0,
    [2, 5, 9, 1, 4, 0, 0, 0],
    2, by decide +kernel⟩
theorem meets_hostSetTx_all : ∃ (s : State) (k : Sess) (a : Bytes) (g : Group), s.holds k 0x0703 a ∧
    ((byteAt a 0 = g.val ∨ byteAt a 0 = 255) ∧ 18 ≤ byteAt a 1) :=
  ⟨held .reset 0x0703 [2, 255, 9, 1, 4, 0, 0, 0],
    0,
    [2, 255, 9, 1, 4, 0, 0, 0],
    2, by decide +kernel⟩
theorem meets_hostRepair_fail : ∃ (s : State) (k : Sess) (a : Bytes) (g : Group), s.holds k 0x0704 a ∧
    (byteAt a 0 = g.val ∧ byteAt a 2 ≠ 1 ∧ byteAt a 3 ≠ 1 ∧ (s.grp g).selftest = false ∧ (s.grp g).resetting = false ∧
    (s.grp g).saving = false) ∧ ((s.grp g).state ≠ .off ∧ (s.grp g).state ≠ .outOfService ∧
    (s.grp g).rxFailed.getLsbD (byteAt a 1) = false) :=
  ⟨held (linkIn .active) 0x0704 [2, 4, 0, 0],
    0,
    [2, 4, 0, 0],
    2, by decide +kernel⟩
theorem meets_hostRepair_restore : ∃ (s : State) (k : Sess) (a : Bytes) (g : Group), s.holds k 0x0704 a ∧
    (byteAt a 0 = g.val ∧ byteAt a 2 = 1 ∧ byteAt a 3 ≠ 1 ∧ (s.grp g).selftest = false ∧ (s.grp g).resetting = false ∧
    (s.grp g).saving = false) ∧ ((s.grp g).state ≠ .off ∧ (s.grp g).state ≠ .outOfService ∧
    (s.grp g).rxFailed.getLsbD (byteAt a 1) = true) ∧ (byteAt a 1 = 16 ∨ (byteAt a 1 < 16 ∧ (s.grp g).rxRole.toList.getD
    (byteAt a 1) 31 = 31 ∧ (s.grp g).width < 16)) :=
  ⟨held ((linkIn .active).modGroup 2 fun h => { h with rxFailed := 0x10000 }) 0x0704 [2, 16, 1, 0],
    0,
    [2, 16, 1, 0],
    2, by decide +kernel⟩
theorem meets_hostRepair_restore_tx : ∃ (s : State) (k : Sess) (a : Bytes) (g : Group), s.holds k 0x0704 a ∧
    (byteAt a 0 = g.val ∧ byteAt a 2 = 1 ∧ byteAt a 3 = 1 ∧ (s.grp g).selftest = false ∧ (s.grp g).resetting = false ∧
    (s.grp g).saving = false) ∧ ((s.grp g).state ≠ .off ∧ (s.grp g).state ≠ .outOfService ∧
    (s.grp g).txFailed.getLsbD (byteAt a 1) = true) ∧ (byteAt a 1 = 16 ∨ (byteAt a 1 < 16 ∧ (s.grp g).txRole.toList.getD
    (byteAt a 1) 31 = 31 ∧ (s.grp g).width < 16)) :=
  ⟨held ((linkIn .active).modGroup 2 fun h => { h with txFailed := 0x10000 }) 0x0704 [2, 16, 1, 1],
    0,
    [2, 16, 1, 1],
    2, by decide +kernel⟩
theorem meets_hostRepair_fail_tx : ∃ (s : State) (k : Sess) (a : Bytes) (g : Group) (role : Nat), s.holds k 0x0704 a ∧
    (byteAt a 0 = g.val ∧ byteAt a 2 ≠ 1 ∧ byteAt a 3 = 1 ∧ (s.grp g).selftest = false ∧ (s.grp g).resetting = false ∧
    (s.grp g).saving = false) ∧ ((s.grp g).state ≠ .off ∧ (s.grp g).state ≠ .outOfService ∧ byteAt a 1 < 17 ∧
    (s.grp g).txRole.toList.getD (byteAt a 1) 31 = role ∧ role < 16 ∧ (s.grp g).txSpare = some 16) :=
  ⟨held (linkIn .active) 0x0704 [2, 4, 0, 1],
    0,
    [2, 4, 0, 1],
    2,
    4, by decide +kernel⟩
theorem meets_hostRepair_fail_spare : ∃ (s : State) (k : Sess) (a : Bytes) (g : Group), s.holds k 0x0704 a ∧
    (byteAt a 0 = g.val ∧ byteAt a 2 ≠ 1 ∧ byteAt a 3 = 1 ∧ (s.grp g).selftest = false ∧ (s.grp g).resetting = false ∧
    (s.grp g).saving = false) ∧ ((s.grp g).state ≠ .off ∧ (s.grp g).state ≠ .outOfService ∧ byteAt a 1 < 17 ∧
    16 ≤ (s.grp g).txRole.toList.getD (byteAt a 1) 31) :=
  ⟨held (linkIn .active) 0x0704 [2, 16, 0, 1],
    0,
    [2, 16, 0, 1],
    2, by decide +kernel⟩
theorem meets_hostSetLoopback_start : ∃ (s : State) (k : Sess) (a : Bytes) (g : Group), s.holds k 0x0705 a ∧
    (byteAt a 0 = g.val ∧ byteAt a 1 ≠ 0 ∧ byteAt a 2 ≠ 1 ∧ (s.grp g).selftest = false ∧ (s.grp g).resetting = false ∧
    (s.grp g).saving = false) ∧ (((s.grp g).state = .train ∨ (s.grp g).state = .active) ∧ ∀ c : Nat, c < 4 →
    guaranteed (s.modeOfWork (workOfChan g c)) = false ∧ s.modeOfWork (workOfChan g c) ≠ .transparent) :=
  ⟨held (linkIn .active) 0x0705 [2, 1, 0, 0],
    0,
    [2, 1, 0, 0],
    2, by decide +kernel⟩
theorem meets_hostSetLoopback_release : ∃ (s : State) (k : Sess) (a : Bytes) (g : Group), s.holds k 0x0705 a ∧
    (byteAt a 0 = g.val ∧ byteAt a 1 = 0 ∧ byteAt a 2 ≠ 1 ∧ (s.grp g).selftest = false ∧ (s.grp g).resetting = false ∧
    (s.grp g).saving = false ∧ (s.grp g).state = .loopback) :=
  ⟨held (linkIn .loopback) 0x0705 [2, 0, 0, 0],
    0,
    [2, 0, 0, 0],
    2, by decide +kernel⟩
theorem meets_hostSetLoopback_spare : ∃ (s : State) (k : Sess) (a : Bytes) (g : Group), s.holds k 0x0705 a ∧
    (byteAt a 0 = g.val ∧ byteAt a 1 = 1 ∧ byteAt a 2 = 1 ∧ (s.grp g).selftest = false ∧ (s.grp g).resetting = false ∧
    (s.grp g).saving = false) ∧ ((s.grp g).txSpare = some 16 ∧ (s.grp g).rxSpare = some 16 ∧ (s.grp g).state ≠ .loopback)
    :=
  ⟨held (linkIn .active) 0x0705 [2, 1, 1, 0],
    0,
    [2, 1, 1, 0],
    2, by decide +kernel⟩
theorem meets_hostSetLoopback_spare_release : ∃ (s : State) (k : Sess) (a : Bytes) (g : Group), s.holds k 0x0705 a ∧
    (byteAt a 0 = g.val ∧ byteAt a 1 = 0 ∧ byteAt a 2 = 1 ∧ (s.grp g).selftest = false ∧ (s.grp g).resetting = false ∧
    (s.grp g).saving = false) ∧ ((s.grp g).loopStatus = 1 ∧ (s.grp g).loopScope = 1) :=
  ⟨held ((linkIn .active).modGroup 2 fun h => { h with loopMode := 1, loopScope := 1, loopStatus := 1 }) 0x0705 [2, 0, 1, 0],
    0,
    [2, 0, 1, 0],
    2, by decide +kernel⟩
theorem meets_hostGetStatus : ∃ (s : State) (k : Sess) (a : Bytes) (g : Group), s.holds k 0x0706 a ∧
    (byteAt a 0 = g.val ∧ (s.grp g).selftest = false) :=
  ⟨held .reset 0x0706 [2, 1, 0, 0],
    0,
    [2, 1, 0, 0],
    2, by decide +kernel⟩
theorem meets_hostResetGroup : ∃ (s : State) (k : Sess) (a : Bytes) (g : Group), s.holds k 0x0707 a ∧
    (byteAt a 0 = g.val ∧ (s.grp g).selftest = false ∧ (s.grp g).resetting = false) :=
  ⟨held (linkIn .active) 0x0707 [2, 0, 0, 0],
    0,
    [2, 0, 0, 0],
    2, by decide +kernel⟩
theorem meets_hostSetPower_on : ∃ (s : State) (k : Sess) (a : Bytes) (g : Group), s.holds k 0x0708 a ∧
    (byteAt a 0 = g.val ∧ byteAt a 1 = 0 ∧ (s.grp g).selftest = false ∧ (s.grp g).resetting = false ∧
    (s.grp g).saving = false ∧ s.retired = false ∧ (s.grp g).power = .off ∧ (s.grp g).replayLost = false) :=
  ⟨held .reset 0x0708 [2, 0, 0, 0],
    0,
    [2, 0, 0, 0],
    2, by decide +kernel⟩
theorem meets_hostSetPower_off : ∃ (s : State) (k : Sess) (a : Bytes) (g : Group), s.holds k 0x0708 a ∧
    (byteAt a 0 = g.val ∧ byteAt a 1 ≠ 0 ∧ (s.grp g).selftest = false ∧ (s.grp g).resetting = false ∧
    (s.grp g).saving = false ∧ s.retired = false ∧ (s.grp g).power ≠ .off) ∧ ((s.grp g).replay = [] ∧ ∀ c : Nat, c < 4 →
    guaranteed (s.modeOfWork (workOfChan g c)) = false ∧ s.modeOfWork (workOfChan g c) ≠ .transparent) ∧
    (((s.grp g).chan.toList.all fun c => decide (c.out = [] ∧ c.partialIn = [] ∧ c.inFrames = [])) = true) :=
  ⟨held (linkIn .active) 0x0708 [2, 2, 0, 0],
    0,
    [2, 2, 0, 0],
    2, by decide +kernel⟩
theorem meets_biasWrite : ∃ (s : State) (k : Sess) (a : Bytes) (o : Bias), s.holds k 0x0801 a ∧ (fieldLE a 0 2 = o.val ∧
    s.biasTested o = false ∧ (s.bias o).ranging = none ∧ (s.bias o).fault = 0 ∧ (s.bias o).owned = false) ∧
    (s.photon.exceeds o ((s.bias o).write (fieldLE a 2 2)) = false ∧ (s.bias o).codeMin ≤ fieldLE a 2 2 ∧
    fieldLE a 2 2 ≤ (s.bias o).codeMax) :=
  ⟨held (liveBias 3) 0x0801 [13, 0, 0, 16],
    0,
    [13, 0, 0, 16],
    13, by decide +kernel⟩
theorem meets_biasWrite_outside : ∃ (s : State) (k : Sess) (a : Bytes) (o : Bias), s.holds k 0x0801 a ∧
    (fieldLE a 0 2 = o.val ∧ s.biasTested o = false ∧ (s.bias o).ranging = none ∧ (s.bias o).fault = 0 ∧
    (s.bias o).owned = false) ∧ (s.photon.exceeds o ((s.bias o).write (fieldLE a 2 2)) = false ∧
    (fieldLE a 2 2 < (s.bias o).codeMin ∨ (s.bias o).codeMax < fieldLE a 2 2)) :=
  ⟨held (liveBias 3) 0x0801 [13, 0, 0, 160],
    0,
    [13, 0, 0, 160],
    13, by decide +kernel⟩
theorem meets_biasWrite_over_budget : ∃ (s : State) (k : Sess) (a : Bytes) (o : Bias), s.holds k 0x0801 a ∧
    (fieldLE a 0 2 = o.val ∧ s.biasTested o = false ∧ (s.bias o).ranging = none ∧ (s.bias o).fault = 0 ∧
    (s.bias o).owned = false) ∧ s.photon.exceeds o ((s.bias o).write (fieldLE a 2 2)) = true :=
  ⟨held ((liveBias 3).modPhoton fun u => { u with aggLimit := 0 }) 0x0801 [13, 0, 0, 16],
    0,
    [13, 0, 0, 16],
    13, by decide +kernel⟩
theorem meets_biasSetLimits : ∃ (s : State) (k : Sess) (a : Bytes) (o : Bias), s.holds k 0x0802 a ∧
    (fieldLE a 0 2 = o.val ∧ s.biasTested o = false ∧ (s.bias o).owned = false ∧ s.photon.exceeds o ((s.bias o).setLimits
    (fieldLE a 2 2) (fieldLE a 4 2)) = false) :=
  ⟨held (liveBias 3) 0x0802 [13, 0, 0, 1, 0, 16, 0, 0],
    0,
    [13, 0, 0, 1, 0, 16, 0, 0],
    13, by decide +kernel⟩
theorem meets_biasSetRange : ∃ (s : State) (k : Sess) (a : Bytes) (o : Bias), s.holds k 0x0803 a ∧
    (fieldLE a 0 2 = o.val ∧ s.biasTested o = false ∧ (s.bias o).ranging = none ∧ (s.bias o).owned = false) ∧
    (byteAt a 2 = 1 ∨ byteAt a 2 = 2 → s.photon.exceeds o { s.bias o with code := 0, holding := none, pending := none,
                                                                          ranging := some { target := byteAt a 2,
                                                                                            sess := some k } } = false) :=
  ⟨held (liveBias 3) 0x0803 [13, 0, 1, 0],
    0,
    [13, 0, 1, 0],
    13, by decide +kernel⟩
theorem meets_biasClearFault : ∃ (s : State) (k : Sess) (a : Bytes) (o : Bias) (gone : Bool), s.holds k 0x0804 a ∧
    (fieldLE a 0 2 = o.val ∧ s.biasTested o = false ∧ (s.bias o).fault ≠ 0) ∧ ((s.bias o).latched.any fun f => if f = 3
    then s.sys.pins.biasLow else !gone) = false :=
  ⟨held ((liveBias 3).modBias 13 fun b => { b with fault := 1 }) 0x0804 [13, 0, 0, 0],
    0,
    [13, 0, 0, 0],
    13,
    true, by decide +kernel⟩
theorem meets_biasSetSafe_one : ∃ (s : State) (k : Sess) (a : Bytes) (o : Bias), s.holds k 0x0805 a ∧
    (fieldLE a 0 2 = o.val ∧ s.biasTested o = false ∧ (s.bias o).codeMin ≤ fieldLE a 2 2 ∧
    fieldLE a 2 2 ≤ (s.bias o).codeMax) :=
  ⟨held (liveBias 3) 0x0805 [13, 0, 0, 16],
    0,
    [13, 0, 0, 16],
    13, by decide +kernel⟩
theorem meets_biasSetSafe_all : ∃ (s : State) (k : Sess) (a : Bytes) (o : Bias), s.holds k 0x0805 a ∧
    (fieldLE a 0 2 = 0xFFFF ∧ (biasAll.all fun x => !s.biasTested x && decide ((s.bias x).codeMin ≤ fieldLE a 2 2 ∧
    fieldLE a 2 2 ≤ (s.bias x).codeMax)) = true) :=
  ⟨held .reset 0x0805 [255, 255, 0, 0],
    0,
    [255, 255, 0, 0],
    13, by decide +kernel, by decide, List.all_eq_true.2 fun o _ => by rw [held_bias, reset_bias]; simp [State.biasTested, held, State.reset, State.modSess, LaneUnit.reset]; decide⟩
theorem meets_biasSetAggLimit : ∃ (s : State) (k : Sess) (a : Bytes), s.holds k 0x0806 a :=
  ⟨held .reset 0x0806 [100, 0, 0, 0],
    0,
    [100, 0, 0, 0], by decide +kernel⟩
theorem meets_biasGetStatus : ∃ (s : State) (k : Sess) (a : Bytes), s.holds k 0x0807 a ∧ (((biasAll.drop (fieldLE a 0
    2)).take (fieldLE a 2 2)).any s.biasTested) = false :=
  ⟨held .reset 0x0807 [13, 0, 2, 0],
    0,
    [13, 0, 2, 0], by decide +kernel⟩
theorem meets_biasSetLoop_configured : ∃ (s : State) (k : Sess) (a : Bytes) (o : Bias), s.holds k 0x0808 a ∧
    (fieldLE a 0 2 = o.val ∧ s.biasTested o = false ∧ (s.bias o).loop = none ∧ (s.bias o).range ≠ 0) ∧
    (((loopParams a).filter = true → s.fchTaken (loopParams a).fch (some o) none = false) ∧ chanReach (loopParams a).chan
    = .bank (monOfBias o).val ∧ s.chanTested (loopParams a).chan = false) ∧ ((loopParams a).slot < (s.mon (monOfBias
    o)).frame ∧ 25 ≤ (loopParams a).h * (s.mon (monOfBias o)).frame) :=
  ⟨held (liveBias 3) 0x0808 ([13, 0, 6, 0, 2, 0, 0, 0, 0, 0, 0, 1, 8, 0, 64, 0] ++ zeros 16),
    0,
    [13, 0, 6, 0, 2, 0, 0, 0, 0, 0, 0, 1, 8, 0, 64, 0] ++ zeros 16,
    13, by decide +kernel⟩
theorem meets_biasLoopCtrl_start : ∃ (s : State) (k : Sess) (a : Bytes) (o : Bias) (l : BiasLoop), s.holds k 0x0809 a ∧
    (fieldLE a 0 2 = o.val ∧ byteAt a 2 = 0 ∧ s.biasTested o = false ∧ (s.bias o).ranging = none ∧
    (s.bias o).loop = some l ∧ l.state = .off) ∧ ((s.mon (monOfBias o)).paired = false ∧ (s.bias o).range ≠ 0 ∧
    (s.bias o).fault = 0 ∧ l.latest.slot ∉ s.loopSlots (monOfBias o)) ∧ ((s.loopSlots (monOfBias o)).length < 3 * (s.mon
    (monOfBias o)).frame / 4 ∧ 2 * l.latest.a ≤ (s.bias o).codeMax - (s.bias o).codeMin) ∧ (l.latest.filter = true →
    s.fchTaken l.latest.fch (some o) none = false ∧ (s.flt (finOf 64 l.latest.fch)).mode = 2 ∧
    2 ^ (s.flt (finOf 64 l.latest.fch)).m = l.latest.d) ∧ (l.latest.slot < (s.mon (monOfBias o)).frame ∧
    25 ≤ l.latest.h * (s.mon (monOfBias o)).frame) ∧ s.laneFreezes (laneOfBias o) = [] :=
  ⟨held ((loopBias .off).modLane 3 fun l => { l with power := .active }) 0x0809 [13, 0, 0, 0],
    0,
    [13, 0, 0, 0],
    13,
    aLoop .off, by rw [loopBias_slots]; decide +kernel⟩
theorem meets_biasLoopCtrl_start_frozen : ∃ (s : State) (k : Sess) (a : Bytes) (o : Bias) (l : BiasLoop),
    s.holds k 0x0809 a ∧ (fieldLE a 0 2 = o.val ∧ byteAt a 2 = 0 ∧ s.biasTested o = false ∧ (s.bias o).ranging = none ∧
    (s.bias o).loop = some l ∧ l.state = .off) ∧ ((s.mon (monOfBias o)).paired = false ∧ (s.bias o).range ≠ 0 ∧
    (s.bias o).fault = 0 ∧ l.latest.slot ∉ s.loopSlots (monOfBias o)) ∧ ((s.loopSlots (monOfBias o)).length < 3 * (s.mon
    (monOfBias o)).frame / 4 ∧ 2 * l.latest.a ≤ (s.bias o).codeMax - (s.bias o).codeMin) ∧ (l.latest.filter = true →
    s.fchTaken l.latest.fch (some o) none = false ∧ (s.flt (finOf 64 l.latest.fch)).mode = 2 ∧
    2 ^ (s.flt (finOf 64 l.latest.fch)).m = l.latest.d) ∧ (l.latest.slot < (s.mon (monOfBias o)).frame ∧
    25 ≤ l.latest.h * (s.mon (monOfBias o)).frame) ∧ s.laneFreezes (laneOfBias o) ≠ [] :=
  ⟨held (loopBias .off) 0x0809 [13, 0, 0, 0],
    0,
    [13, 0, 0, 0],
    13,
    aLoop .off, by rw [show held (loopBias .off) 0x0809 [13, 0, 0, 0] = held ((loopBias .off).modLane 3 id) 0x0809 [13, 0, 0, 0] from rfl, loopBias_slots]; decide +kernel⟩
theorem meets_biasLoopCtrl_hold : ∃ (s : State) (k : Sess) (a : Bytes) (o : Bias), s.holds k 0x0809 a ∧
    (fieldLE a 0 2 = o.val ∧ byteAt a 2 = 1 ∧ s.biasTested o = false ∧ (s.bias o).owned = true) :=
  ⟨held (loopBias .locked) 0x0809 [13, 0, 1, 0],
    0,
    [13, 0, 1, 0],
    13, by decide +kernel⟩
theorem meets_biasLoopCtrl_release : ∃ (s : State) (k : Sess) (a : Bytes) (o : Bias) (l : BiasLoop), s.holds k 0x0809 a ∧
    (fieldLE a 0 2 = o.val ∧ byteAt a 2 = 2 ∧ s.biasTested o = false ∧ (s.bias o).loop = some l ∧ l.state = .frozen ∧
    l.freezes = [.hold]) :=
  ⟨held ((loopBias .frozen).modBias 13 fun b => { b with loop := some { aLoop .frozen with freezes := [.hold] } }) 0x0809 [13, 0, 2, 0],
    0,
    [13, 0, 2, 0],
    13,
    { aLoop .frozen with freezes := [.hold] }, by decide +kernel⟩
theorem meets_biasLoopCtrl_stop : ∃ (s : State) (k : Sess) (a : Bytes) (o : Bias), s.holds k 0x0809 a ∧
    (fieldLE a 0 2 = o.val ∧ byteAt a 2 = 3 ∧ s.biasTested o = false ∧ (s.bias o).owned = true) :=
  ⟨held (loopBias .locked) 0x0809 [13, 0, 3, 0],
    0,
    [13, 0, 3, 0],
    13, by decide +kernel⟩
theorem meets_biasCodeApply : ∃ (s : State) (o : Bias) (n : Nat), ((s.bias o).pending = some n ∧
    (s.bias o).ranging = none ∧ (s.bias o).holding = none ∧ (s.bias o).fault = 0) :=
  ⟨(liveBias 3).modBias 13 (fun b => { b with pending := some 5000 }),
    13,
    5000, by decide +kernel⟩
theorem meets_deglitchStep : ∃ (s : State) (o : Bias) (n : Nat), (s.bias o).holding = some n :=
  ⟨(liveBias 3).modBias 13 (fun b => { b with holding := some 5000 }),
    13,
    5000, by decide +kernel⟩
theorem meets_rangeChangeDone : ∃ (s : State) (o : Bias) (r : RangeChange) (k : Sess), ((s.bias o).ranging = some r ∧
    r.sess = some k ∧ r.code = none ∧ (s.bias o).ranges = [] ∧ s.waits k 0x0803 ∧ (s.sess k).closePending = false ∧
    s.sys.pins.supplyGate = false) :=
  ⟨started ((liveBias 3).modBias 13 fun b => { b with ranging := some { target := 4, sess := some 0 } }) 0x0803 [13, 0, 4, 0],
    13,
    { target := 4, sess := some 0 },
    0, by decide +kernel⟩
theorem meets_biasFault : ∃ (s : State) (o : Bias), ((s.bias o).range ≠ 0 ∧ (s.bias o).ranging = none ∧
    (s.bias o).fault = 0) :=
  ⟨liveBias 3,
    13, by decide +kernel⟩
theorem meets_biasFault_in_change : ∃ (s : State) (o : Bias) (r : RangeChange), ((s.bias o).ranging = some r ∧
    r.target ≠ 0 ∧ (s.bias o).fault = 0) :=
  ⟨(liveBias 3).modBias 13 (fun b => { b with ranging := some { target := 4, sess := some 0 } }),
    13,
    { target := 4, sess := some 0 }, by decide +kernel⟩
theorem meets_biasSupplyLow : ∃ (s : State) (o : Bias), (s.bias o).fault = 0 :=
  ⟨liveBias 3,
    13, by decide +kernel⟩
theorem meets_ditherHalfPeriod : ∃ (s : State) (o : Bias) (l : BiasLoop), ((s.bias o).loop = some l ∧ l.state ≠ .off ∧
    l.state ≠ .frozen ∧ (s.bias o).fault = 0 ∧ (s.bias o).ranging = none ∧ l.params.h ≤ l.halfSamples) :=
  ⟨(loopBias .settle).modBias 13 (fun b => { b with loop := some { aLoop .settle with halfSamples := 8 } }),
    13,
    { aLoop .settle with halfSamples := 8 }, by decide +kernel⟩
theorem meets_loopUpdate : ∃ (s : State) (o : Bias) (l : BiasLoop), ((s.bias o).loop = some l ∧ l.state ≠ .off ∧
    l.state ≠ .frozen ∧ l.params.d ≤ l.samples) :=
  ⟨(loopBias .settle).modBias 13 (fun b => { b with loop := some { aLoop .settle with samples := 256, acc := 70000 } }),
    13,
    { aLoop .settle with samples := 256, acc := 70000 }, by decide +kernel⟩
theorem meets_loopSlotStart : ∃ (s : State) (u : Mon) (slot : Nat) (o : Bias) (l : BiasLoop), ((s.bias o).loop = some l ∧
    s.slotLoop u slot = some o ∧ (s.mon u).busy = none ∧ s.monStopped = false) :=
  ⟨loopBias .settle,
    0,
    2,
    13,
    aLoop .settle, by decide +kernel⟩
theorem meets_monSetPair : ∃ (s : State) (k : Sess) (a : Bytes) (lo hi : Mon), s.holds k 0x0901 a ∧
    (lo.val = 2 * byteAt a 0 ∧ hi.val = 2 * byteAt a 0 + 1 ∧ s.loopSlots lo = [] ∧ s.loopSlots hi = []) :=
  ⟨held .reset 0x0901 [1, 1, 0, 0],
    0,
    [1, 1, 0, 0],
    2,
    3, by decide +kernel, by decide, by decide, reset_slots .., reset_slots ..⟩
theorem meets_monSetSeq_regular : ∃ (s : State) (k : Sess) (a : Bytes) (u : Mon), s.holds k 0x0902 a ∧
    (byteAt a 0 = u.val ∧ byteAt a 1 ≠ 1 ∧ (s.mon u).reg.running = none ∧ (byteAt a 4 < 8 →
    (s.photon.pins[(finOf 8 (byteAt a 4)).val]).mode ≠ .output)) ∧ (((seqEntries a).any fun e => s.chanTested e.chan) =
    false ∧ s.seqTaken (seqEntries a) u false = false ∧ ((seqEntries a).all fun e => s.reaches u e.chan) = true) :=
  ⟨held .reset 0x0902 [0, 0, 1, 2, 255, 0, 0, 0, 0, 0, 0, 0, 6, 0, 0, 0],
    0,
    [0, 0, 1, 2, 255, 0, 0, 0, 0, 0, 0, 0, 6, 0, 0, 0],
    0, by decide +kernel⟩
theorem meets_monSetSeq_injected : ∃ (s : State) (k : Sess) (a : Bytes) (u : Mon), s.holds k 0x0902 a ∧
    (byteAt a 0 = u.val ∧ byteAt a 1 = 1 ∧ (s.mon u).inj.running = none ∧ (byteAt a 4 < 8 →
    (s.photon.pins[(finOf 8 (byteAt a 4)).val]).mode ≠ .output)) ∧ (((seqEntries a).any fun e => s.chanTested e.chan) =
    false ∧ s.seqTaken (seqEntries a) u true = false ∧ ((seqEntries a).all fun e => s.reaches u e.chan) = true) ∧
    ((byteAt a 6 = 1 ∨ byteAt a 6 = 2 → fieldLE a 8 2 / 17 = u.val) ∧ (byteAt a 6 = 3 → fieldLE a 8 2 / 4 / 17 = u.val))
    :=
  ⟨held .reset 0x0902 [0, 1, 1, 2, 255, 0, 1, 0, 3, 0, 0, 0, 6, 0, 0, 0],
    0,
    [0, 1, 1, 2, 255, 0, 1, 0, 3, 0, 0, 0, 6, 0, 0, 0],
    0, by decide +kernel⟩
theorem meets_monStart : ∃ (s : State) (k : Sess) (a : Bytes) (u : Mon), s.holds k 0x0903 a ∧ (byteAt a 0 = u.val ∧
    (s.mon u).reg.running = none ∧ (s.mon u).reg.entries ≠ [] ∧ (s.mon u).reg.mode = 2 ∧ s.suspended u = false) :=
  ⟨held (seqUnit none none) 0x0903 [0, 0, 0, 0],
    0,
    [0, 0, 0, 0],
    0, by decide +kernel⟩
theorem meets_monStop : ∃ (s : State) (k : Sess) (a : Bytes) (u : Mon), s.holds k 0x0904 a ∧ byteAt a 0 = u.val :=
  ⟨held (seqUnit (some (0, 0)) (some .regular)) 0x0904 [0, 0, 0, 0],
    0,
    [0, 0, 0, 0],
    0, by decide +kernel⟩
theorem meets_monInject : ∃ (s : State) (k : Sess) (a : Bytes) (u : Mon), s.holds k 0x0905 a ∧ (byteAt a 0 = u.val ∧
    (s.mon u).inj.entries ≠ [] ∧ s.suspended u = false ∧ (s.mon u).inj.running = none ∧ s.monStopped = false) :=
  ⟨held (seqUnit none none) 0x0905 [0, 0, 0, 0],
    0,
    [0, 0, 0, 0],
    0, by decide +kernel⟩
theorem meets_monReadChannel : ∃ (s : State) (k : Sess) (a : Bytes) (u : Mon), s.holds k 0x0906 a ∧ (byteAt a 0 = u.val ∧
    s.reaches u (fieldLE a 2 2) = true ∧ s.chanTested (fieldLE a 2 2) = false) :=
  ⟨held .reset 0x0906 [0, 1, 6, 0],
    0,
    [0, 1, 6, 0],
    0, by decide +kernel⟩
theorem meets_monReadChannel_stale : ∃ (s : State) (k : Sess) (a : Bytes) (u : Mon), s.holds k 0x0906 a ∧
    (byteAt a 0 = u.val ∧ s.reaches u (fieldLE a 2 2) = true ∧ s.chanTested (fieldLE a 2 2) = true) :=
  ⟨held (aTest [3]) 0x0906 [0, 1, 6, 0],
    0,
    [0, 1, 6, 0],
    0, by decide +kernel⟩
theorem meets_monReadChannelTimeout : ∃ (s : State) (u : Mon) (k : Sess), ((s.mon u).adhoc.any (fun x => decide (x.sess =
    some k)) = true ∧ ((s.mon u).busy ≠ some .adhoc ∨ ((s.mon u).adhoc.head?.map (·.sess)) ≠ some (some k)) ∧
    s.waits k 0x0906 ∧ (s.sess k).closePending = false) :=
  ⟨started (State.reset.modMon 0 fun m => { m with adhoc := [{ sess := some 0, chan := 6, gain := 1 }] }) 0x0906 [0, 1, 6, 0],
    0,
    0, by decide +kernel⟩
theorem meets_monSetFrame : ∃ (s : State) (k : Sess) (a : Bytes) (u : Mon), s.holds k 0x0907 a ∧ (byteAt a 0 = u.val ∧
    s.loopSlots u = []) :=
  ⟨held .reset 0x0907 [0, 0, 120, 0],
    0,
    [0, 0, 120, 0],
    0, by decide +kernel, by decide, reset_slots ..⟩
theorem meets_monReadResults : ∃ (s : State) (k : Sess) (a : Bytes) (u : Mon), s.holds k 0x0908 a ∧ (byteAt a 0 = u.val ∧
    s.monTested u = false) :=
  ⟨held .reset 0x0908 [0, 0, 0, 0],
    0,
    [0, 0, 0, 0],
    0, by decide +kernel⟩
theorem meets_monGetStatus : ∃ (s : State) (k : Sess) (a : Bytes) (u : Mon), s.holds k 0x0909 a ∧ byteAt a 0 = u.val :=
  ⟨held .reset 0x0909 [0, 0, 0, 0],
    0,
    [0, 0, 0, 0],
    0, by decide +kernel⟩
theorem meets_monSetPin_input : ∃ (s : State) (k : Sess) (a : Bytes) (p : Pin), s.holds k 0x090A a ∧
    (byteAt a 0 = p.val ∧ (s.photon.pins[p.val]).mode ≠ .output ∧ byteAt a 1 = 1) :=
  ⟨held .reset 0x090A [2, 1, 0, 0, 0, 0, 10, 0],
    0,
    [2, 1, 0, 0, 0, 0, 10, 0],
    2, by decide +kernel⟩
theorem meets_monSetPin_output : ∃ (s : State) (k : Sess) (a : Bytes) (p : Pin), s.holds k 0x090A a ∧
    (byteAt a 0 = p.val ∧ (s.photon.pins[p.val]).mode ≠ .input ∧ byteAt a 1 = 2 ∧ s.pinUsed p = false) ∧
    ((byteAt a 2 = 0 ∧ (Ev.all.any fun e => decide (e.id = fieldLE a 4 2)) = true) ∨ (byteAt a 2 = 1 ∧
    fieldLE a 4 2 < 8) ∨ (byteAt a 2 = 2 ∧ fieldLE a 4 2 < 544 ∧ s.biasTested (finOf 544 (fieldLE a 4 2)) = false)) :=
  ⟨held .reset 0x090A [2, 2, 1, 0, 3, 0, 10, 0],
    0,
    [2, 2, 1, 0, 3, 0, 10, 0],
    2, by decide +kernel⟩
theorem meets_monSetPin_unused : ∃ (s : State) (k : Sess) (a : Bytes) (p : Pin), s.holds k 0x090A a ∧
    (byteAt a 0 = p.val ∧ byteAt a 1 = 0) :=
  ⟨held .reset 0x090A [2, 0, 0, 0, 0, 0, 10, 0],
    0,
    [2, 0, 0, 0, 0, 0, 10, 0],
    2, by decide +kernel⟩
theorem meets_conversionDone_regular : ∃ (s : State) (u : Mon) (nV e r : Nat) (x : SeqEntry),
    ((s.mon u).busy = some .regular ∧ (s.mon u).reg.running = some (e, r) ∧ (s.mon u).reg.entries[e]? = some x ∧ e < 32 ∧
    s.chanTested x.chan = false ∧ s.monStopped = false) :=
  ⟨seqUnit (some (0, 0)) (some .regular),
    0,
    500000000,
    0,
    0,
    ⟨6, 0, 1, none⟩, by decide +kernel⟩
theorem meets_conversionDone_adhoc : ∃ (s : State) (u : Mon) (nV : Nat) (k : Sess) (x : Adhoc) (rest : List Adhoc),
    ((s.mon u).busy = some .adhoc ∧ (s.mon u).adhoc = x :: rest ∧ x.sess = some k ∧ s.chanTested x.chan = false ∧
    s.monStopped = false ∧ s.waits k 0x0906 ∧ (s.sess k).closePending = false) :=
  ⟨started (State.reset.modMon 0 fun m => { m with busy := some .adhoc, adhoc := [{ sess := some 0, chan := 6, gain := 1 }] }) 0x0906 [0, 1, 6, 0],
    0,
    500000000,
    0,
    { sess := some 0, chan := 6, gain := 1 },
    [], by decide +kernel⟩
theorem meets_trigEdge : ∃ (s : State) (pin : Pin) (rising : Bool) (u : Mon), ((s.photon.pins[pin.val]).mode = .input ∧
    (s.mon u).inj.pin = some pin ∧ edgeSuits (s.mon u).inj.edge rising = true ∧ (s.mon u).inj.entries ≠ [] ∧
    (s.mon u).inj.running = none ∧ s.suspended u = false ∧ s.monStopped = false) :=
  ⟨((seqUnit none none).modMon 0 fun m => { m with inj := { m.inj with pin := some 2 } }).modPhoton (fun u => { u with pins := vupd u.pins 2 fun p => { p with mode := .input } }),
    2,
    true,
    0, by decide +kernel⟩
theorem meets_trigPulseEnd : ∃ (s : State) (pin : Pin), ((s.photon.pins[pin.val]).mode = .output ∧
    (s.photon.pins[pin.val]).source ≠ 2) :=
  ⟨State.reset.modPhoton (fun u => { u with pins := vupd u.pins 2 fun p => { p with mode := .output, high := true } }),
    2, by decide +kernel⟩
theorem meets_filterOutputRelease_average : ∃ (s : State) (c : Fch) (y : Int) (rest : List Int), ((s.flt c).mode = 3 ∧
    (s.flt c).ready = y :: rest) :=
  ⟨State.reset.modFilter 5 (fun f => { f with mode := 3, ready := [77] }),
    5,
    77,
    [], by decide +kernel⟩
theorem meets_filterOutputRelease_kept : ∃ (s : State) (c : Fch) (x : Int) (rest : List Int), ((s.flt c).mode ≠ 3 ∧
    (s.flt c).cicReady = x :: rest ∧ ((s.flt c).cicCount + 1) % 8 ≠ 0) :=
  ⟨State.reset.modFilter 5 (fun f => { f with mode := 1, cicReady := [77] }),
    5,
    77,
    [], by decide +kernel⟩
theorem meets_filterOutputRelease_computed : ∃ (s : State) (c : Fch) (x : Int) (rest : List Int), ((s.flt c).mode ≠ 3 ∧
    (s.flt c).cicReady = x :: rest ∧ ((s.flt c).cicCount + 1) % 8 = 0) :=
  ⟨State.reset.modFilter 5 (fun f => { f with mode := 1, bank := 2, cicReady := [77], cicCount := 7 }),
    5,
    77,
    [], by decide +kernel⟩
theorem meets_filterSetChannel : ∃ (s : State) (k : Sess) (a : Bytes) (c : Fch), s.holds k 0x0A01 a ∧
    (fieldLE a 6 2 < 544 → s.biasTested (finOf 544 (fieldLE a 6 2)) = false) ∧ (byteAt a 0 = c.val ∧ (byteAt a 1 = 2 →
    (s.fchLoop c.val true).isSome) ∧ (byteAt a 1 = 3 → s.sourceLoop c.val = none) ∧ (byteAt a 1 = 1 ∨ byteAt a 1 = 2 →
    s.tooFast c.val (2 ^ byteAt a 2 / 8) = false)) :=
  ⟨held .reset 0x0A01 [5, 0, 5, 1, 4, 0, 255, 255, 0, 16, 100, 0],
    0,
    [5, 0, 5, 1, 4, 0, 255, 255, 0, 16, 100, 0],
    5, by decide +kernel⟩
theorem meets_filterLoadCoeff : ∃ (s : State) (k : Sess) (a : Bytes) (b : Fin 6), s.holds k 0x0A02 a ∧
    (byteAt a 0 = b.val + 2 ∧ s.photon.filter.toList.any (fun f => decide (f.mode ≠ 0 ∧ f.bank = byteAt a 0)) = false) :=
  ⟨held .reset 0x0A02 ([4, 0, 0, 0] ++ zeros 252),
    0,
    [4, 0, 0, 0] ++ zeros 252,
    2, by decide +kernel⟩
theorem meets_filterFreezeDc : ∃ (s : State) (k : Sess) (a : Bytes) (c : Fch), s.holds k 0x0A03 a ∧ byteAt a 0 = c.val :=
  ⟨held .reset 0x0A03 [5, 1, 0, 0],
    0,
    [5, 1, 0, 0],
    5, by decide +kernel⟩
theorem meets_filterRead : ∃ (s : State) (k : Sess) (a : Bytes) (c : Fch), s.holds k 0x0A04 a ∧ byteAt a 0 = c.val :=
  ⟨held .reset 0x0A04 [5, 0, 0, 0],
    0,
    [5, 0, 0, 0],
    5, by decide +kernel⟩
theorem meets_estimationWindowEnd : ∃ (s : State) (p : Phys), ((s.rxl p).state ≠ .off ∧
    (s.rxl p).sums.full (s.rxl p).rate = true) :=
  ⟨(steadyLane .reset).modRx 3 (fun r => { r with sums := { exp := 12, stats := Vector.replicate 64 ⟨4096, 5, 9, 7⟩ } }),
    3, by decide +kernel⟩
theorem meets_estimationWindowStarved_no_run : ∃ (s : State) (p : Phys), ((s.rxl p).state ≠ .off ∧
    (s.rxl p).sums.full (s.rxl p).rate = false ∧ (s.rxl p).starveLimit ≤ s.since (s.rxl p).sums.start) ∧
    (s.cal.lane[p.val]).state ≠ .running :=
  ⟨atTime 3000000 (steadyLane .reset),
    3, by decide +kernel⟩
theorem meets_estimationWindowStarved_in_run : ∃ (s : State) (p : Phys), ((s.rxl p).state ≠ .off ∧
    (s.rxl p).sums.full (s.rxl p).rate = false ∧ (s.rxl p).starveLimit ≤ s.since (s.rxl p).sums.start) ∧
    ((s.cal.lane[p.val]).state = .running ∧ (s.cal.lane[p.val]).rejected < 7) :=
  ⟨atTime 3000000 ((steadyLane .reset).modCalLane 3 (fun c => { c with state := .running, remaining := 4 })),
    3, by decide +kernel⟩
theorem meets_estimationWindowStarved_eighth : ∃ (s : State) (p : Phys), ((s.rxl p).state ≠ .off ∧
    (s.rxl p).sums.full (s.rxl p).rate = false ∧ (s.rxl p).starveLimit ≤ s.since (s.rxl p).sums.start) ∧
    ((s.cal.lane[p.val]).state = .running ∧ 7 ≤ (s.cal.lane[p.val]).rejected) :=
  ⟨atTime 3000000 ((steadyLane .reset).modCalLane 3 (fun c => { c with state := .running, remaining := 4, rejected := 7 })),
    3, by decide +kernel⟩
theorem meets_estimatorIteration_accepted : ∃ (s : State) (p : Phys) (w : EstWindow), ((s.rxl p).window = some w ∧
    w.n * (slicesOf (s.rxl p).rate) ≥ 100 * w.clipped ∧ ((w.stats.take (slicesOf (s.rxl p).rate)).foldl (fun (acc : Int)
    x => acc + x.sum) 0).natAbs ≤ 4 * (w.n * (slicesOf (s.rxl p).rate))) ∧ ((s.cal.lane[p.val]).state = .running ∧
    (s.cal.lane[p.val]).remaining ≠ 0) :=
  ⟨((steadyLane .reset).modCalLane 3 (fun c => { c with state := .running, remaining := 4 })).modRx 3 (fun r => { r with window := some ⟨65536, 0, []⟩ }),
    3,
    ⟨65536, 0, []⟩, by decide +kernel⟩
theorem meets_estimatorIteration_clipped : ∃ (s : State) (p : Phys) (w : EstWindow), ((s.rxl p).window = some w ∧
    w.n * (slicesOf (s.rxl p).rate) < 100 * w.clipped ∧ (s.cal.lane[p.val]).state ≠ .running) :=
  ⟨(steadyLane .reset).modRx 3 (fun r => { r with window := some ⟨65536, 4000000, []⟩ }),
    3,
    ⟨65536, 4000000, []⟩, by decide +kernel⟩
theorem meets_calRunStart : ∃ (s : State) (x : CalWait), s.cal.queue.find? (fun y => s.canCalibrate y.lane) = some x ∧
    (physAll.filter fun q => decide ((s.cal.lane[q.val]).state = .running)).length < s.cal.maxRuns :=
  ⟨(steadyLane .reset).modCal (fun u => { u with queue := [⟨3, true, 32⟩] }),
    ⟨3, true, 32⟩, by decide +kernel⟩
theorem meets_calPeriodExpiry : ∃ (s : State) (p : Phys), (s.periodPassed p = true ∧ (s.ln p).pinned = false ∧
    s.modeOf p ≠ .dark ∧ (s.cal.lane[p.val]).state = .idle) :=
  ⟨atTime 300000000000 ((steadyLane .reset).modCal (fun u => { u with period := 10, lane := vupd u.lane 3 fun c => { c with doneAt := some 0 } })),
    3, by decide +kernel⟩
theorem meets_marginPlan_computed : ∃ (s : State) (daily : Bool) (lanes : List LaneDay), ((daily = true ∨ s.age.asked =
    true ∨ s.age.deferred = true) ∧ s.tripped = false) :=
  ⟨.reset,
    true,
    [], by decide +kernel⟩
theorem meets_marginPlan_tripped : ∃ (s : State) (daily : Bool) (lanes : List LaneDay), ((daily = true ∨ s.age.asked =
    true ∨ s.age.deferred = true) ∧ s.tripped = true) :=
  ⟨State.reset.modTherm (fun u => { u with trip := .tripped }),
    true,
    [], by decide +kernel⟩
theorem meets_planWriteDone : ∃ (s : State) (r : PlanRecord), s.age.writing = some r :=
  ⟨State.reset.modAge (fun u => { u with writing := some ⟨1, []⟩ }),
    ⟨1, []⟩, by decide +kernel⟩
theorem meets_calRunLane_queued : ∃ (s : State) (k : Sess) (a : Bytes) (p : Phys), s.holds k 0x0B01 a ∧
    (byteAt a 0 = p.val ∧ (s.ln p).selftest = false ∧ s.modeOf p ≠ .dark ∧ s.tripped = false ∧
    (s.cal.lane[p.val]).state = .idle) :=
  ⟨held (steadyLane .reset) 0x0B01 [3, 0, 16, 0],
    0,
    [3, 0, 16, 0],
    3, by decide +kernel⟩
theorem meets_calRunLane_waiting : ∃ (s : State) (k : Sess) (a : Bytes) (p : Phys), s.holds k 0x0B01 a ∧
    (byteAt a 0 = p.val ∧ (s.ln p).selftest = false ∧ s.modeOf p ≠ .dark ∧ s.tripped = false ∧
    (s.cal.lane[p.val]).state = .queued) :=
  ⟨held ((steadyLane .reset).modCalLane 3 (fun c => { c with state := .queued, remaining := 4 })) 0x0B01 [3, 0, 0, 0],
    0,
    [3, 0, 0, 0],
    3, by decide +kernel⟩
theorem meets_calRunLane_raised : ∃ (s : State) (k : Sess) (a : Bytes) (p : Phys), s.holds k 0x0B01 a ∧
    (byteAt a 0 = p.val ∧ (s.ln p).selftest = false ∧ s.modeOf p ≠ .dark ∧ s.tripped = false ∧
    (s.cal.lane[p.val]).state = .running) :=
  ⟨held ((steadyLane .reset).modCalLane 3 (fun c => { c with state := .running, remaining := 4 })) 0x0B01 [3, 0, 0, 0],
    0,
    [3, 0, 0, 0],
    3, by decide +kernel⟩
theorem meets_calRunLane_refused : ∃ (s : State) (k : Sess) (a : Bytes) (p : Phys), s.holds k 0x0B01 a ∧
    (byteAt a 0 = p.val ∧ (s.ln p).selftest = false ∧ (s.modeOf p = .dark ∨ s.tripped = true)) :=
  ⟨held .reset 0x0B01 [3, 0, 0, 0],
    0,
    [3, 0, 0, 0],
    3, by decide +kernel⟩
theorem meets_calRunLane_under_test : ∃ (s : State) (k : Sess) (a : Bytes) (p : Phys), s.holds k 0x0B01 a ∧
    (byteAt a 0 = p.val ∧ (s.ln p).selftest = true) :=
  ⟨held (State.reset.modLane 3 fun l => { l with selftest := true }) 0x0B01 [3, 0, 0, 0],
    0,
    [3, 0, 0, 0],
    3, by decide +kernel⟩
theorem meets_calSetTriggers : ∃ (s : State) (k : Sess) (a : Bytes), s.holds k 0x0B02 a :=
  ⟨held .reset 0x0B02 [8, 20, 10, 0, 0, 0, 0, 0],
    0,
    [8, 20, 10, 0, 0, 0, 0, 0], by decide +kernel⟩
theorem meets_calPinLane : ∃ (s : State) (k : Sess) (a : Bytes) (p : Phys), s.holds k 0x0B03 a ∧ ((byteAt a 0 = p.val ∧
    (s.ln p).selftest = false) ∨ (byteAt a 0 = 255 ∧ ∀ q : Phys, (s.ln q).selftest = false)) :=
  ⟨held .reset 0x0B03 [3, 1, 0, 0],
    0,
    [3, 1, 0, 0],
    3, by decide +kernel⟩
theorem meets_calSetFloor : ∃ (s : State) (k : Sess) (a : Bytes) (w : Work), s.holds k 0x0B04 a ∧ ((byteAt a 0 = w.val ∧
    ∀ p ∈ s.physOf w, (s.ln p).selftest = false) ∨ (byteAt a 0 = 255 ∧ ∀ q : Phys, (s.ln q).selftest = false)) :=
  ⟨held .reset 0x0B04 [3, 8, 0, 0],
    0,
    [3, 8, 0, 0],
    3, by decide +kernel⟩
theorem meets_calGetStatus : ∃ (s : State) (k : Sess) (a : Bytes), s.holds k 0x0B05 a ∧ ((physAll.drop (byteAt a 0)).take
    125).any (fun p => (s.ln p).selftest) = false :=
  ⟨held .reset 0x0B05 [0, 0, 0, 0],
    0,
    [0, 0, 0, 0], by decide +kernel⟩
theorem meets_calGetStatus_stale : ∃ (s : State) (k : Sess) (a : Bytes), s.holds k 0x0B05 a ∧
    ((physAll.drop (byteAt a 0)).take 125).any (fun p => (s.ln p).selftest) = true :=
  ⟨held (aTest [3]) 0x0B05 [0, 0, 0, 0],
    0,
    [0, 0, 0, 0], by decide +kernel⟩
theorem meets_calPlanNow : ∃ (s : State) (k : Sess) (a : Bytes), s.holds k 0x0B06 a :=
  ⟨held .reset 0x0B06 [],
    0,
    [], by decide +kernel⟩
theorem meets_calGetAgeing_named : ∃ (s : State) (k : Sess) (a : Bytes) (r : PlanRecord), s.holds k 0x0B07 a ∧
    (fieldLE a 0 4 ≠ 0xFFFFFFFF ∧ s.age.ring.find? (fun x => decide (x.number = fieldLE a 0 4)) = some r) :=
  ⟨held (State.reset.modAge fun u => { u with ring := [⟨2, zeros 2240⟩] }) 0x0B07 [2, 0, 0, 0, 0, 0, 0, 0],
    0,
    [2, 0, 0, 0, 0, 0, 0, 0],
    ⟨2, zeros 2240⟩, by decide +kernel⟩
theorem meets_calGetAgeing_latest : ∃ (s : State) (k : Sess) (a : Bytes) (r : PlanRecord), s.holds k 0x0B07 a ∧
    (fieldLE a 0 4 = 0xFFFFFFFF ∧ s.age.ring.head? = some r) :=
  ⟨held (State.reset.modAge fun u => { u with ring := [⟨2, zeros 2240⟩] }) 0x0B07 [255, 255, 255, 255, 0, 0, 0, 0],
    0,
    [255, 255, 255, 255, 0, 0, 0, 0],
    ⟨2, zeros 2240⟩, by decide +kernel⟩
theorem meets_calGetAgeing_none : ∃ (s : State) (k : Sess) (a : Bytes), s.holds k 0x0B07 a ∧ ((fieldLE a 0 4 = 0xFFFFFFFF
    ∧ s.age.ring = []) ∨ (fieldLE a 0 4 ≠ 0xFFFFFFFF ∧ s.age.ring.find? (fun x => decide (x.number = fieldLE a 0 4)) =
    none)) :=
  ⟨held .reset 0x0B07 [255, 255, 255, 255, 0, 0, 0, 0],
    0,
    [255, 255, 255, 255, 0, 0, 0, 0], by decide +kernel⟩
theorem meets_calSetEstimator : ∃ (s : State) (k : Sess) (a : Bytes) (p : Phys), s.holds k 0x0B08 a ∧
    ((byteAt a 0 = p.val ∧ (s.ln p).selftest = false) ∨ (byteAt a 0 = 255 ∧ ∀ q : Phys, (s.ln q).selftest = false)) :=
  ⟨held .reset 0x0B08 [3, 18, 4, 5, 6, 7, 0, 0],
    0,
    [3, 18, 4, 5, 6, 7, 0, 0],
    3, by decide +kernel⟩
theorem meets_sensorSample_error : ∃ (s : State) (xs : List (Option Int)) (j : Sensor), xs.getD j.val none = none :=
  ⟨.reset,
    [],
    5, by decide +kernel⟩
theorem meets_sensorSample_agrees : ∃ (s : State) (xs : List (Option Int)) (j : Sensor) (v : Int),
    (xs.getD j.val none = some v ∧ -320 ≤ v ∧ v ≤ 1200 ∧ (s.sensor j).state = .healthy ∧ disagrees ((s.therm.judgeTo xs
    j.val).models j.val) v = false) :=
  ⟨.reset,
    List.replicate 72 (some 400),
    5,
    400, by decide +kernel⟩
theorem meets_sensorSample_disagrees : ∃ (s : State) (xs : List (Option Int)) (j : Sensor) (v : Int),
    (xs.getD j.val none = some v ∧ -320 ≤ v ∧ v ≤ 1200 ∧ (s.sensor j).state = .healthy ∧ disagrees ((s.therm.judgeTo xs
    j.val).models j.val) v = true) :=
  ⟨.reset,
    List.replicate 5 (some 400) ++ [some 0] ++ List.replicate 66 (some 400),
    5,
    0, by decide +kernel⟩
theorem meets_throttleTick_idle : ∃ (s : State) (errs : List LaneError), (s.tripped = false ∧
    s.therm.hotValue < s.therm.params.threshold ∧ s.therm.pDev ≤ s.therm.pEff s.therm.steps) :=
  ⟨State.reset.modTherm (fun u => { u with steps := 2, critical := true }),
    [], by decide +kernel⟩
theorem meets_throttleTick_step : ∃ (s : State) (errs : List LaneError), (s.tripped = false ∧
    s.therm.params.threshold ≤ s.therm.hotValue ∧ s.therm.pDev ≤ s.therm.pEff (s.therm.steps + 1) ∧
    0 < s.therm.params.hyst) :=
  ⟨State.reset.modTherm (fun u => { u with sens := vupd u.sens 4 fun x => { x with reading := 800, used := 800 } }),
    [], by decide +kernel⟩
theorem meets_throttleTick_refused : ∃ (s : State) (errs : List LaneError), (s.tripped = false ∧ s.sec.test = none ∧
    s.therm.params.threshold ≤ s.therm.hotValue ∧ s.therm.pEff (s.therm.steps + 1) < s.therm.pDev ∧
    0 < s.therm.params.hyst) ∧ (∀ r ∈ [1, 2, 3, 4], (s.rungLanes errs r).2 = []) :=
  ⟨State.reset.modTherm (fun u => { u with pDev := 2200, sens := vupd u.sens 4 fun x => { x with reading := 800, used := 800 } }),
    [], by decide +kernel⟩
theorem meets_throttleTick_tripped : ∃ (s : State) (errs : List LaneError), s.tripped = true :=
  ⟨State.reset.modTherm (fun u => { u with trip := .tripped }),
    [], by decide +kernel⟩
theorem meets_tripSample_first : ∃ (s : State), (∀ j : Sensor, (s.sensor j).qualifies = true →
    (s.sensor j).tripRun = 0) :=
  ⟨State.reset.modTherm (fun u => { u with sens := vupd u.sens 4 fun x => { x with reading := 970, used := 970 } }), by decide +kernel⟩
theorem meets_tripSample_second : ∃ (s : State) (j : Sensor) (p : Phys), ((s.sensor j).qualifies = true ∧
    1 ≤ (s.sensor j).tripRun ∧ s.tripped = false) :=
  ⟨State.reset.modTherm (fun u => { u with sens := vupd u.sens 4 fun x => { x with reading := 970, used := 970, tripRun := 1 } }),
    4,
    3, by decide +kernel⟩
theorem meets_tripSample_recovering : ∃ (s : State) (j : Sensor), ((s.sensor j).qualifies = true ∧
    1 ≤ (s.sensor j).tripRun ∧ s.therm.trip = .recovering) :=
  ⟨State.reset.modTherm (fun u => { u with trip := .recovering, sens := vupd u.sens 4 fun x => { x with reading := 970, used := 970, tripRun := 1 } }),
    4, by decide +kernel⟩
theorem meets_tripRecoverTimer : ∃ (s : State) (o : Bias), (s.therm.trip = .tripped ∧ s.therm.params.command = false ∧
    s.coolEnough = true) :=
  ⟨(State.reset.modTherm (fun u => { u with trip := .tripped, coolSince := some 0 })).modClk (fun u => { u with deviceTime := 10000000000 }),
    13, by decide +kernel⟩
theorem meets_tripRecoveryPowerUp : ∃ (s : State) (p : Phys), s.therm.trip = .recovering :=
  ⟨State.reset.modTherm (fun u => { u with trip := .recovering }),
    3, by decide +kernel⟩
theorem meets_pllTrimStep : ∃ (s : State) (d : Int), (s.sys.avs.openReq = none ∧ s.therm.trimPll.due = some d) :=
  ⟨State.reset.modTherm (fun u => { u with trimPll := { u.trimPll with due := some 2 } }),
    2, by decide +kernel⟩
theorem meets_pllTrimStep_held : ∃ (s : State), s.sys.avs.openReq.isSome :=
  ⟨State.reset.modAvs fun u => u.request .plan 760, by decide +kernel⟩
theorem meets_thermGetStatus : ∃ (s : State) (k : Sess) (a : Bytes), s.holds k 0x0C01 a :=
  ⟨held .reset 0x0C01 [],
    0,
    [], by decide +kernel⟩
theorem meets_thermSetLimits : ∃ (s : State) (k : Sess) (a : Bytes), s.holds k 0x0C02 a ∧ (480 ≤ toSigned 16 (fieldLE a 2
    2) ∧ toSigned 16 (fieldLE a 2 2) ≤ (if s.sec.made.gradeFx then (840 : Int) else 760)) :=
  ⟨held .reset 0x0C02 [164, 6, 188, 2, 24, 1, 10, 0],
    0,
    [164, 6, 188, 2, 24, 1, 10, 0], by decide +kernel⟩
theorem meets_thermSetLimits_refused : ∃ (s : State) (k : Sess) (a : Bytes), s.holds k 0x0C02 a ∧
    (toSigned 16 (fieldLE a 2 2) < 480 ∨ (if s.sec.made.gradeFx then (840 : Int) else 760) < toSigned 16 (fieldLE a 2 2))
    :=
  ⟨held .reset 0x0C02 [164, 6, 188, 1, 24, 1, 10, 0],
    0,
    [164, 6, 188, 1, 24, 1, 10, 0], by decide +kernel⟩
theorem meets_thermRestoreSensor : ∃ (s : State) (k : Sess) (a : Bytes) (j : Sensor), s.holds k 0x0C03 a ∧
    (byteAt a 0 = j.val ∧ (s.sensor j).state = .failed ∧ 16 ≤ (s.sensor j).agreeRun) :=
  ⟨held (State.reset.modTherm (fun u => { u with sens := vupd u.sens 4 fun x => { x with state := .failed, agreeRun := 16 } })) 0x0C03 [4, 0, 0, 0],
    0,
    [4, 0, 0, 0],
    4, by decide +kernel⟩
theorem meets_thermRestoreSensor_refused : ∃ (s : State) (k : Sess) (a : Bytes) (j : Sensor), s.holds k 0x0C03 a ∧
    (byteAt a 0 = j.val ∧ ((s.sensor j).state ≠ .failed ∨ (s.sensor j).agreeRun < 16)) :=
  ⟨held .reset 0x0C03 [4, 0, 0, 0],
    0,
    [4, 0, 0, 0],
    4, by decide +kernel⟩
theorem meets_thermClearTrip : ∃ (s : State) (k : Sess) (a : Bytes) (o : Bias), s.holds k 0x0C04 a ∧
    (s.therm.trip = .tripped ∧ s.coolEnough = true) :=
  ⟨held ((State.reset.modTherm (fun u => { u with trip := .tripped, coolSince := some 0 })).modClk (fun u => { u with deviceTime := 10000000000 })) 0x0C04 [],
    0,
    [],
    13, by decide +kernel⟩
theorem meets_thermClearTrip_refused : ∃ (s : State) (k : Sess) (a : Bytes), s.holds k 0x0C04 a ∧
    (s.therm.trip ≠ .tripped ∨ s.coolEnough = false) :=
  ⟨held .reset 0x0C04 [],
    0,
    [], by decide +kernel⟩
theorem meets_porstNRelease : ∃ (s : State) (straps : BitVec 4) (ref fab : Bool), s.sys.clk.phase = .inReset :=
  ⟨.reset,
    3,
    true,
    true, by decide +kernel⟩
theorem meets_rootPllLock_start : ∃ (s : State) (a : Arr), (s.sys.clk.rootLock = false ∧ s.refOk = true ∧
    s.sys.clk.phase = .waitLock) :=
  ⟨State.reset.modClk (fun c => { c with phase := .waitLock, refclkOk := true }),
    5, by decide +kernel⟩
theorem meets_rootPllLock_wake : ∃ (s : State) (src : Nat), (s.sys.clk.rootLock = false ∧ s.refOk = true ∧
    s.sys.clk.phase ≠ .waitLock ∧ s.sys.power.dormantPhase = .waking src ∧ s.sys.clk.timebaseLock = true ∧
    s.sys.avs.openReq = none) :=
  ⟨(State.reset.modClk (fun c => { c with phase := .running, refclkOk := true, timebaseLock := true })).modPower (fun p => { p with dormantPhase := .waking 1 }),
    1, by decide +kernel⟩
theorem meets_timebaseLock : ∃ (s : State), (s.sys.clk.phase ≠ .inReset ∧ s.refOk = true ∧
    s.sys.power.dormantPhase ≠ .dormant) :=
  ⟨State.reset.modClk (fun c => { c with phase := .waitLock, refclkOk := true }), by decide +kernel⟩
theorem meets_pllLockLoss : ∃ (s : State), (s.sys.clk.rootLock = true ∧ s.refOk = true) :=
  ⟨State.reset.modClk (fun c => { c with phase := .running, rootLock := true, refclkOk := true }), by decide +kernel⟩
theorem meets_refLoss_selected : ∃ (s : State) (fab : Bool), (s.refOk = true ∧ s.selected fab = true ∧
    s.sys.clk.rootLock = true ∧ s.sys.clk.phase ≠ .inReset) :=
  ⟨State.reset.modClk (fun c => { c with phase := .running, rootLock := true, refclkOk := true }),
    false, by decide +kernel⟩
theorem meets_refLoss_other : ∃ (s : State) (fab : Bool), s.selected fab = false :=
  ⟨State.reset.modClk (fun c => { c with phase := .running, rootLock := true, refclkOk := true }),
    true, by decide +kernel⟩
theorem meets_refValid : ∃ (s : State) (fab : Bool), (s.selected fab = true ∧ s.sys.clk.holdover = true) :=
  ⟨State.reset.modClk (fun c => { c with phase := .running, rootLock := true, holdover := true }),
    false, by decide +kernel⟩
theorem meets_aonFallbackSwitch : ∃ (s : State), (s.sys.clk.phase ≠ .inReset ∧
    s.sys.clk.aonFallback = s.sys.clk.refclkOk) :=
  ⟨State.reset.modClk (fun c => { c with phase := .running, refclkOk := true }), by decide +kernel⟩
theorem meets_aonTick_counts : ∃ (s : State) (p : Phys) (g : Group), (s.sys.clk.phase ≠ .inReset ∧
    s.sys.clk.waitTick = false ∧ s.sys.clk.counting = true) :=
  ⟨State.reset.modClk (fun c => { c with phase := .running, counting := true }),
    3,
    2, by decide +kernel⟩
theorem meets_aonTick_resumes : ∃ (s : State), (s.sys.clk.phase ≠ .inReset ∧ s.sys.clk.waitTick = true) :=
  ⟨State.reset.modClk (fun c => { c with phase := .running, waitTick := true, aonTicks := 7, tickNum := 4 }), by decide +kernel⟩
theorem meets_crossingTimeout : ∃ (s : State) (domain : Nat) (k : Sess) (c : Accepted), ((s.sess k).cmd = some c ∧
    (s.sess k).closePending = false) :=
  ⟨started .reset 0x0104 [],
    3,
    0,
    { code := 0x0104, seq := 1, args := [], started := true }, by decide +kernel⟩
theorem meets_watchdogExpiry : ∃ (s : State) (c : Core), ((s.coreOf c).state ≠ .retired ∧
    ((s.coreOf c).state = .restarting → (s.coreOf c).commanded = false) ∧ s.inReset c = false) :=
  ⟨.reset,
    181, by decide +kernel⟩
theorem meets_watchdogExpiry_absorbed : ∃ (s : State) (c : Core), (((s.coreOf c).state = .restarting ∧
    (s.coreOf c).commanded = true) ∨ (s.coreOf c).state = .retired ∨ s.inReset c = true) :=
  ⟨State.reset.modCore 181 (fun u => { u with state := .restarting, commanded := true }),
    181, by decide +kernel⟩
theorem meets_coreRejoin_pooled : ∃ (s : State) (c : Core) (d : Nat × Nat), ((s.coreOf c).state = .restarting ∧
    c.val < 186) :=
  ⟨State.reset.modCore 181 (fun u => { u with state := .restarting }),
    181,
    (0, 0), by decide +kernel⟩
theorem meets_coreRejoin_paired : ∃ (s : State) (c : Core) (d : Nat × Nat), ((s.coreOf c).state = .restarting ∧
    186 ≤ c.val) :=
  ⟨State.reset.modCore 187 (fun u => { u with state := .restarting }),
    187,
    (0, 0), by decide +kernel⟩
theorem meets_hbeatToggle : ∃ (s : State), (s.sys.power.dev ≠ .dormant ∧ s.tripped = false ∧ (s.sys.clk.phase = .running
    ∨ s.sys.clk.phase = .noCount)) :=
  ⟨State.reset.modClk (fun c => { c with phase := .running }), by decide +kernel⟩
theorem meets_hbeatToggle_not : ∃ (s : State) (served : Bool), (s.tripped = true ∨ s.sys.power.dev = .dormant ∨ served =
    false) :=
  ⟨State.reset.modTherm (fun u => { u with trip := .tripped }),
    true, by decide +kernel⟩
theorem meets_laneIdleTimerExpiry : ∃ (s : State) (p : Phys) (near : Bool), s.mayIdle p near = true :=
  ⟨(openLane .reset).modLane 3 (fun l => { l with power := .active, idleTimer := 100 }),
    3,
    false, by decide +kernel⟩
theorem meets_laneIdleExit : ∃ (s : State) (p : Phys), (s.ln p).power = .idle :=
  ⟨(openLane .reset).modLane 3 (fun l => { l with power := .idle }),
    3, by decide +kernel⟩
theorem meets_laneDozeTimerExpiry : ∃ (s : State) (p : Phys) (w : Work), (s.workOf p = some w ∧ s.modeOf p = .slotted ∧
    (s.ln p).power = .idle ∧ (s.ln p).dozeTimer ≠ 0 ∧ (s.wk w).tx.active.silent = true) :=
  ⟨(slotLane .reset).modLane 3 (fun l => { l with power := .idle, dozeTimer := 100 }),
    3,
    3, by decide +kernel⟩
theorem meets_laneDozeExitDone : ∃ (s : State) (p : Phys), ((s.ln p).dozeExit = true ∧ (s.ln p).power = .doze) :=
  ⟨(slotLane .reset).modLane 3 (fun l => { l with power := .doze, dozeExit := true }),
    3, by decide +kernel⟩
theorem meets_quietTimerExpiry : ∃ (s : State), (s.sys.power.dev = .run ∧ s.sys.power.quietTimer ≠ 0 ∧
    s.sec.test = none) ∧ (∀ p : Phys, ((s.ln p).power = .doze ∨ (s.ln p).power = .off) ∧ (s.cal.lane[p.val]).state ≠
    .running) ∧ (∀ g : Group, (s.grp g).power ≠ .active) :=
  ⟨{ State.reset with lane := Vector.replicate 136 { LaneUnit.reset with power := .off }, group := Vector.replicate 32 { HostGroup.reset with power := .off } }, by decide +kernel⟩
theorem meets_saveSlotWritten_lane : ∃ (s : State) (p : Phys), ((s.ln p).saving = true ∧ s.modeOf p = .dark ∧
    (s.rxl p).state = .off) :=
  ⟨State.reset.modLane 3 (fun l => { l with saving := true, power := .active }),
    3, by decide +kernel⟩
theorem meets_saveSlotWritten_group : ∃ (s : State) (g : Group) (k : Sess), ((s.grp g).saving = true ∧
    (s.grp g).powerSess = some k ∧ s.waits k 0x0708 ∧ (s.sess k).closePending = false) :=
  ⟨(started .reset 0x0708 [2, 2, 0, 0]).modGroup 2 (fun h => { h with saving := true, powerSess := some 0, power := .active }),
    2,
    0, by decide +kernel⟩
theorem meets_saveSlotWritten_device : ∃ (s : State), s.sys.power.dormantPhase = .saving :=
  ⟨State.reset.modPower fun p => { p with dormantPhase := .saving }, by decide +kernel⟩
theorem meets_laneOffExitDone : ∃ (s : State) (p : Phys), (s.ln p).waking = true :=
  ⟨State.reset.modLane 3 (fun l => { l with waking := true, power := .off, slotValid := true }),
    3, by decide +kernel⟩
theorem meets_avsAck : ∃ (s : State) (r : AvsReq), (s.sys.avs.openReq = some r ∧ r.settling = false) :=
  ⟨State.reset.modAvs (fun u => u.request .plan 760),
    { source := .plan, target := 760 }, by decide +kernel⟩
theorem meets_avsAck_refused : ∃ (s : State) (r : AvsReq), (s.sys.avs.openReq = some r ∧ r.settling = false ∧
    r.source = .plan) :=
  ⟨State.reset.modAvs (fun u => u.request .plan 760),
    { source := .plan, target := 760 }, by decide +kernel⟩
theorem meets_avsAckTimeout_repeated : ∃ (s : State) (r : AvsReq), (s.sys.avs.openReq = some r ∧ r.settling = false ∧
    r.source ≠ .wake ∧ r.missed = 0) :=
  ⟨State.reset.modAvs (fun u => u.request .plan 760),
    { source := .plan, target := 760 }, by decide +kernel⟩
theorem meets_avsAckTimeout_given_up : ∃ (s : State) (r : AvsReq), (s.sys.avs.openReq = some r ∧ r.settling = false ∧
    r.source ≠ .wake ∧ r.missed ≠ 0) :=
  ⟨State.reset.modAvs (fun u => { u with openReq := some { source := .plan, target := 760, missed := 1 } }),
    { source := .plan, target := 760, missed := 1 }, by decide +kernel⟩
theorem meets_avsSettleExpiry : ∃ (s : State) (r : AvsReq), (s.sys.avs.openReq = some r ∧ r.settling = true) :=
  ⟨State.reset.modAvs (fun u => { u with openReq := some { source := .plan, target := 760, settling := true } }),
    { source := .plan, target := 760, settling := true }, by decide +kernel⟩
theorem meets_powerSetTimers_lane : ∃ (s : State) (k : Sess) (a : Bytes) (p : Phys), s.holds k 0x0D01 a ∧
    (byteAt a 0 = 0 ∧ ((byteAt a 1 = p.val ∧ (s.ln p).selftest = false) ∨ (byteAt a 1 = 255 ∧ ∀ q : Phys,
    (s.ln q).selftest = false))) :=
  ⟨held .reset 0x0D01 ([0, 3, 0, 0, 100, 0, 0, 0, 200, 0, 0, 0] ++ zeros 4),
    0,
    [0, 3, 0, 0, 100, 0, 0, 0, 200, 0, 0, 0] ++ zeros 4,
    3, by decide +kernel⟩
theorem meets_powerSetTimers_group : ∃ (s : State) (k : Sess) (a : Bytes) (g : Group), s.holds k 0x0D01 a ∧
    (byteAt a 0 = 1 ∧ (byteAt a 1 = g.val ∨ byteAt a 1 = 255)) :=
  ⟨held .reset 0x0D01 ([1, 255, 0, 0, 100, 0, 0, 0] ++ zeros 8),
    0,
    [1, 255, 0, 0, 100, 0, 0, 0] ++ zeros 8,
    3, by decide +kernel⟩
theorem meets_powerSetTimers_device : ∃ (s : State) (k : Sess) (a : Bytes), s.holds k 0x0D01 a ∧ 2 ≤ byteAt a 0 :=
  ⟨held .reset 0x0D01 [2, 0, 0, 0, 100, 0, 0, 0, 0, 0, 0, 0, 188, 2, 50, 0],
    0,
    [2, 0, 0, 0, 100, 0, 0, 0, 0, 0, 0, 0, 188, 2, 50, 0], by decide +kernel⟩
theorem meets_powerGetResidency_lane : ∃ (s : State) (k : Sess) (a : Bytes) (p : Phys), s.holds k 0x0D03 a ∧
    (byteAt a 0 = 0 ∧ byteAt a 1 = p.val ∧ (s.ln p).selftest = false) :=
  ⟨held .reset 0x0D03 [0, 3, 0, 0],
    0,
    [0, 3, 0, 0],
    3, by decide +kernel⟩
theorem meets_powerGetResidency_group : ∃ (s : State) (k : Sess) (a : Bytes) (g : Group), s.holds k 0x0D03 a ∧
    (byteAt a 0 = 1 ∧ byteAt a 1 = g.val ∧ (s.grp g).selftest = false) :=
  ⟨held .reset 0x0D03 [1, 3, 0, 0],
    0,
    [1, 3, 0, 0],
    3, by decide +kernel⟩
theorem meets_powerGetResidency_stale : ∃ (s : State) (k : Sess) (a : Bytes) (p : Phys), s.holds k 0x0D03 a ∧
    (byteAt a 0 = 0 ∧ byteAt a 1 = p.val ∧ (s.ln p).selftest = true) :=
  ⟨held (State.reset.modLane 3 fun l => { l with selftest := true }) 0x0D03 [0, 3, 0, 0],
    0,
    [0, 3, 0, 0],
    3, by decide +kernel⟩
theorem meets_powerGetResidency_device : ∃ (s : State) (k : Sess) (a : Bytes), s.holds k 0x0D03 a ∧ 2 ≤ byteAt a 0 :=
  ⟨held .reset 0x0D03 [2, 0, 0, 0],
    0,
    [2, 0, 0, 0], by decide +kernel⟩
theorem meets_ctlrstNAssert_powered : ∃ (s : State) (k : Sess), (s.sys.pins.ctlrstLow = false ∧ s.ctlPowered = true) :=
  ⟨State.reset.modClk (fun c => { c with phase := .running, counting := true }),
    2, by decide +kernel⟩
theorem meets_ctlrstNAssert_unpowered : ∃ (s : State), s.ctlPowered = false :=
  ⟨State.reset, by decide +kernel⟩
theorem meets_ctlrstNRelease : ∃ (s : State) (d : Nat × Nat), (s.sys.pins.ctlrstLow = true ∧ s.ctlPowered = true ∧
    (s.sys.clk.phase = .running ∨ s.sys.clk.phase = .noCount)) :=
  ⟨(State.reset.modClk (fun c => { c with phase := .running, counting := true })).modPins (fun p => { p with ctlrstLow := true }),
    (0, 0), by decide +kernel⟩
theorem meets_ctlResetDone : ∃ (s : State), (s.sys.ctlRestart = true ∧ s.sys.pins.ctlrstLow = false ∧
    s.sys.power.dormantPhase = .none) :=
  ⟨State.reset.modSys (fun u => { u with ctlRestart := true }), by decide +kernel⟩
theorem meets_powerEnterDormant : ∃ (s : State) (k : Sess) (a : Bytes), s.holds k 0x0D02 a ∧ s.mayDormant = true :=
  ⟨held { State.reset with lane := Vector.replicate 136 { LaneUnit.reset with power := .off }, group := Vector.replicate 32 { HostGroup.reset with power := .off } } 0x0D02 [],
    0,
    [], by decide +kernel⟩
theorem meets_powerEnterDormant_refused : ∃ (s : State) (k : Sess) (a : Bytes), s.holds k 0x0D02 a ∧
    s.mayDormant = false :=
  ⟨held (steadyLane .reset) 0x0D02 [],
    0,
    [], by decide +kernel⟩
theorem meets_dormantCommit : ∃ (s : State), (s.sys.power.dormantPhase = .saving ∧ s.sys.power.slotValid = true) :=
  ⟨State.reset.modPower fun p => { p with dormantPhase := .saving, slotValid := true }, by decide +kernel⟩
theorem meets_dormantReached : ∃ (s : State), (s.sys.power.dormantPhase = .committed ∧ s.sys.avs.openReq = none) :=
  ⟨State.reset.modPower fun p => { p with dormantPhase := .committed }, by decide +kernel⟩
theorem meets_wakeSource_from_dormant : ∃ (s : State) (src : Fin 4), s.sys.power.dormantPhase = .dormant :=
  ⟨State.reset.modPower (fun p => { p with dormantPhase := .dormant }),
    0, by decide +kernel⟩
theorem meets_wakeSource_abandons : ∃ (s : State) (src : Fin 4), s.sys.power.dormantPhase = .saving :=
  ⟨State.reset.modPower (fun p => { p with dormantPhase := .saving }),
    1, by decide +kernel⟩
theorem meets_wakeComplete : ∃ (s : State) (d : Nat × Nat) (src : Nat), (s.sys.power.dormantPhase = .waking src ∧
    s.sys.clk.timebaseLock = true ∧ s.sys.clk.rootLock = true ∧ s.sys.clk.waitTick = false ∧ s.sys.avs.openReq = none) :=
  ⟨(State.reset.modPower (fun p => { p with dormantPhase := .waking 1 })).modClk (fun c => { c with rootLock := true, timebaseLock := true }),
    (0, 0),
    1, by decide +kernel⟩
theorem meets_devCtlReset : ∃ (s : State) (k : Sess) (d : Nat × Nat) (a : Bytes) (j : Sess), s.holds k 0x0101 a :=
  ⟨held .reset 0x0101 [],
    0,
    (0, 0),
    [],
    3, by decide +kernel⟩
theorem meets_clockStretchLimit : ∃ (s : State), s.sys.pins.sclHeld = true :=
  ⟨State.reset.modPins fun p => { p with sclHeld := true }, by decide +kernel⟩
theorem meets_devResetCore : ∃ (s : State) (k : Sess) (a : Bytes) (c : Core), s.holds k 0x0102 a ∧ (byteAt a 0 = c.val ∧
    s.servesMe k c = false ∧ (s.coreOf c).state ≠ .retired ∧ ((s.coreOf c).state = .restarting →
    (s.coreOf c).commanded = false) ∧ s.inReset c = false) :=
  ⟨held .reset 0x0102 [181, 0, 0, 0],
    0,
    [181, 0, 0, 0],
    181, by decide +kernel⟩
theorem meets_devResetCore_absorbed : ∃ (s : State) (k : Sess) (a : Bytes) (c : Core), s.holds k 0x0102 a ∧
    (byteAt a 0 = c.val ∧ s.servesMe k c = false ∧ (s.coreOf c).state ≠ .retired ∧ (((s.coreOf c).state = .restarting ∧
    (s.coreOf c).commanded = true) ∨ s.inReset c = true)) :=
  ⟨held (State.reset.modCore 181 fun u => { u with state := .restarting, commanded := true }) 0x0102 [181, 0, 0, 0],
    0,
    [181, 0, 0, 0],
    181, by decide +kernel⟩
theorem meets_devResetCore_refused : ∃ (s : State) (k : Sess) (a : Bytes) (c : Core), s.holds k 0x0102 a ∧
    (byteAt a 0 = c.val ∧ (s.servesMe k c = true ∨ (s.coreOf c).state = .retired)) :=
  ⟨held .reset 0x0102 [186, 0, 0, 0],
    0,
    [186, 0, 0, 0],
    186, by decide +kernel⟩
theorem meets_devSetWatchdog : ∃ (s : State) (k : Sess) (a : Bytes) (c : Core), s.holds k 0x0103 a ∧
    ((byteAt a 0 = c.val ∧ s.servesMe k c = false) ∨ (byteAt a 0 = 255 ∧ ∀ x : Core, s.servesMe k x = false)) :=
  ⟨held .reset 0x0103 [181, 0, 0, 0, 200, 0, 0, 0],
    0,
    [181, 0, 0, 0, 200, 0, 0, 0],
    181, by decide +kernel⟩
theorem meets_devSetWatchdog_refused : ∃ (s : State) (k : Sess) (a : Bytes) (c : Core), s.holds k 0x0103 a ∧
    ((byteAt a 0 = c.val ∨ byteAt a 0 = 255) ∧ s.servesMe k c = true) :=
  ⟨held .reset 0x0103 [186, 0, 0, 0, 200, 0, 0, 0],
    0,
    [186, 0, 0, 0, 200, 0, 0, 0],
    186, by decide +kernel⟩
theorem meets_devPublishSnapshot : ∃ (s : State) (k : Sess) (a : Bytes), s.holds k 0x0104 a ∧ s.ctl.snap.running = none :=
  ⟨held .reset 0x0104 [],
    0,
    [], by decide +kernel⟩
theorem meets_devPublishSnapshot_busy : ∃ (s : State) (k : Sess) (a : Bytes), s.holds k 0x0104 a ∧
    s.ctl.snap.running.isSome :=
  ⟨held (State.reset.modCtl fun c => { c with snap := { c.snap with running := some (false, none) } }) 0x0104 [],
    0,
    [], by decide +kernel⟩
theorem meets_snapshotPublished : ∃ (s : State) (k : Sess), (s.ctl.snap.running = some (true, some k) ∧
    s.waits k 0x0104 ∧ (s.sess k).closePending = false) :=
  ⟨started (State.reset.modCtl fun c => { c with snap := { c.snap with running := some (true, some 0) } }) 0x0104 [],
    0, by decide +kernel⟩
theorem meets_devGetCores : ∃ (s : State) (k : Sess) (a : Bytes), s.holds k 0x0105 a :=
  ⟨held .reset 0x0105 [],
    0,
    [], by decide +kernel⟩
theorem meets_eventRead : ∃ (s : State) (k : Sess) (a : Bytes), s.holds k 0x1301 a :=
  ⟨held .reset 0x1301 [5, 0, 0, 0],
    0,
    [5, 0, 0, 0], by decide +kernel⟩
theorem meets_eventAck : ∃ (s : State) (k : Sess) (a : Bytes) (x : EvEntry) (rest : List EvEntry), s.holds k 0x1302 a ∧
    (s.ctl.ev.queue = x :: rest ∧ x.qseq = BitVec.ofNat 32 (fieldLE a 0 4)) :=
  ⟨held (State.reset.raise .clkRefLoss) 0x1302 [0, 0, 0, 0],
    0,
    [0, 0, 0, 0],
    ⟨.clkRefLoss, 0, 0, 0, 0, 0, 0, 0⟩,
    [], by decide +kernel⟩
theorem meets_eventAck_refused : ∃ (s : State) (k : Sess) (a : Bytes), s.holds k 0x1302 a ∧ (∀ x ∈ s.ctl.ev.queue.head?,
    x.qseq ≠ BitVec.ofNat 32 (fieldLE a 0 4)) :=
  ⟨held .reset 0x1302 [1, 0, 0, 0],
    0,
    [1, 0, 0, 0], by decide +kernel⟩
theorem meets_perfListSelectors : ∃ (s : State) (k : Sess) (a : Bytes), s.holds k 0x1201 a :=
  ⟨held .reset 0x1201 [5, 0, 0, 0],
    0,
    [5, 0, 0, 0], by decide +kernel⟩
theorem meets_perfSnapshot : ∃ (s : State) (k : Sess) (a : Bytes), s.holds k 0x1202 a :=
  ⟨held .reset 0x1202 [5, 1, 0, 0],
    0,
    [5, 1, 0, 0], by decide +kernel⟩
theorem meets_perfConfigure : ∃ (s : State) (k : Sess) (a : Bytes) (c : Core) (j : Fin 6), s.holds k 0x1203 a ∧
    ((byteAt a 0 = c.val ∨ byteAt a 0 = 255) ∧ bitOf (byteAt a 1) j.val = true) :=
  ⟨held .reset 0x1203 [5, 3, 1, 0, 2, 3, 0, 0, 0, 0, 0, 0],
    0,
    [5, 3, 1, 0, 2, 3, 0, 0, 0, 0, 0, 0],
    5,
    1, by decide +kernel⟩
theorem meets_perfConfigure_kept : ∃ (s : State) (k : Sess) (a : Bytes) (c : Core) (j : Fin 6), s.holds k 0x1203 a ∧
    ((byteAt a 0 < 192 ∧ byteAt a 0 ≠ c.val) ∨ bitOf (byteAt a 1) j.val = false) :=
  ⟨held .reset 0x1203 [5, 3, 1, 0, 2, 3, 0, 0, 0, 0, 0, 0],
    0,
    [5, 3, 1, 0, 2, 3, 0, 0, 0, 0, 0, 0],
    5,
    2, by decide +kernel⟩
theorem meets_perfSetSample : ∃ (s : State) (k : Sess) (a : Bytes) (c : Core) (j : Fin 6), s.holds k 0x1204 a ∧
    (byteAt a 0 = c.val ∧ byteAt a 1 = j.val) :=
  ⟨held .reset 0x1204 [5, 1, 0, 0, 0, 16, 0, 0],
    0,
    [5, 1, 0, 0, 0, 16, 0, 0],
    5,
    1, by decide +kernel⟩
theorem meets_perfReadSamples : ∃ (s : State) (k : Sess) (a : Bytes) (c : Core), s.holds k 0x1205 a ∧
    byteAt a 0 = c.val :=
  ⟨held .reset 0x1205 [5, 10, 0, 0],
    0,
    [5, 10, 0, 0],
    5, by decide +kernel⟩
theorem meets_perfCounterOverflow : ∃ (s : State) (c : Core) (j : Fin 6) (address : Word) (two : Bool),
    (((s.perf c).pc[j.val]).overflowed = true ∧ ((s.perf c).pc[j.val]).period ≠ 0 ∧ s.coreGated c = false ∧
    (s.perf c).ring.length < 64) :=
  ⟨(State.reset.modPerf 181 (fun u => { u with pc := vupd u.pc 1 fun x => { x with sel := 2, period := 4096, overflowed := true } })).modClk (fun c => { c with counting := true }),
    181,
    1,
    4096,
    false, by decide +kernel⟩
theorem meets_repairWrite : ∃ (s : State) (a : Arr) (addr : Nat) (d : Word) (rest : Tab Word),
    ((s.arrOf a).repairs = (addr, d) :: rest ∧ tabGet (s.arrOf a).inject addr = none) :=
  ⟨State.reset.modArr 5 (fun u => { u with repairs := [(7, 9)] }),
    5,
    7,
    9,
    [], by decide +kernel⟩
theorem meets_poisonWrite : ∃ (s : State) (a : Arr) (addr : Nat) (rest : List Nat) (w : SWord),
    ((s.arrOf a).poisons = addr :: rest ∧ tabGet (s.arrOf a).words addr = some w ∧ tabGet (s.arrOf a).inject addr = none
    ∧ arrCore a = none) :=
  ⟨State.reset.modArr 5 (fun u => { u with poisons := [7], words := [(7, ⟨9, 7⟩)] }),
    5,
    7,
    [],
    ⟨9, 7⟩, by decide +kernel⟩
theorem meets_poisonWrite_core : ∃ (s : State) (a : Arr) (c : Core) (addr : Nat) (rest : List Nat) (w : SWord),
    ((s.arrOf a).poisons = addr :: rest ∧ tabGet (s.arrOf a).words addr = some w ∧ arrCore a = some c ∧
    (s.coreOf c).state ≠ .retired) :=
  ⟨State.reset.modArr 681 (fun u => { u with poisons := [7], words := [(7, ⟨9, 7⟩)] }),
    681,
    181,
    7,
    [],
    ⟨9, 7⟩, by decide +kernel⟩
theorem meets_poisonWrite_refilled : ∃ (s : State) (c : Core) (addr : Nat) (rest : List Nat) (w : SWord) (d : Word),
    ((s.arrOf (arrCoreI c)).poisons = addr :: rest ∧ tabGet (s.arrOf (arrCoreI c)).words addr = some w ∧
    tabGet (s.arrOf (arrCoreI c)).inject addr = none) ∧ ((s.coreOf c).state ≠ .retired ∧ s.sec.test = none ∧
    s.refillWord c addr = some d) :=
  ⟨(State.reset.modArr 489 (fun u => { u with poisons := [7], words := [(7, ⟨9, 7⟩)] })).modArr 490 (fun u => { u with words := [(7, ⟨encWord 9, 7⟩)] }),
    181,
    7,
    [],
    ⟨9, 7⟩,
    9, by decide +kernel⟩
theorem meets_scrubRead_advances : ∃ (s : State) (a : Arr) (x : BitVec 42), (s.arrGated a = false ∧ s.scrubOn a = true ∧
    (s.arrOf a).scrubAddr + 1 < arrWords a) :=
  ⟨.reset,
    0,
    0, by decide +kernel⟩
theorem meets_scrubRead_corrects : ∃ (s : State) (a : Arr) (x : BitVec 42) (w : SWord) (d : BitVec 32),
    (s.arrGated a = false ∧ s.scrubOn a = true ∧ (s.arrOf a).scrubAddr + 1 < arrWords a ∧ ((s.arrOf a).wordAt (s.arrOf
    a).scrubAddr).flip x = w ∧ w.copies = 7 ∧ classify w.bits = .correctable d) :=
  ⟨State.reset.modArr 0 (fun u => { u with written := [(0, 8)] }),
    0,
    1,
    ⟨encWord 0 ^^^ 1, 7⟩,
    0, by decide +kernel⟩
theorem meets_scrubRead_uncorrectable : ∃ (s : State) (a : Arr) (x : BitVec 42) (w : SWord), (s.arrGated a = false ∧
    s.scrubOn a = true ∧ (s.arrOf a).scrubAddr + 1 < arrWords a ∧ ((s.arrOf a).wordAt (s.arrOf a).scrubAddr).flip x = w ∧
    w.copies = 7 ∧ classify w.bits = .uncorrectable) :=
  ⟨State.reset.modArr 0 (fun u => { u with written := [(0, 8)] }),
    0,
    3,
    ⟨encWord 0 ^^^ 3, 7⟩, by decide +kernel⟩
theorem meets_scrubRead_lap : ∃ (s : State) (a : Arr) (x : BitVec 42), (s.arrGated a = false ∧ s.scrubOn a = true ∧
    arrWords a ≤ (s.arrOf a).scrubAddr + 1) :=
  ⟨State.reset.modArr 0 (fun u => { u with scrubAddr := 1572863 }),
    0,
    0, by decide +kernel⟩
theorem meets_scrubLapLimit : ∃ (s : State) (a : Arr), (s.lapLate a = true ∧ (s.arrOf a).late = false) :=
  ⟨atTime 500000000 .reset,
    306, by decide +kernel⟩
theorem meets_remapCopy_reads : ∃ (s : State) (a : Arr) (addr : Nat) (rest : List Nat), ((s.arrOf a).copying = none ∧
    (s.arrOf a).qualified = addr :: rest ∧ (s.arrOf a).remaps.length < 8) :=
  ⟨State.reset.modArr 5 (fun u => { u with qualified := [7], words := [(7, ⟨9, 7⟩)] }),
    5,
    7,
    [], by decide +kernel⟩
theorem meets_remapCopy_writes : ∃ (s : State) (a : Arr) (addr : Nat) (w : SWord) (k : Sess) (c : Accepted),
    ((s.arrOf a).copying = some (addr, w) ∧ w.valid = true ∧ (s.arrOf a).remaps = [] ∧ tabGet (s.arrOf a).inject addr =
    none) ∧ ((s.sess k).cmd = some c ∧ c.code = 0x0E03 ∧ c.started = true ∧ fieldLE c.args 0 2 = arrId a ∧
    fieldLE c.args 4 4 = addr ∧ (s.sess k).closePending = false) :=
  ⟨started (State.reset.modArr 5 (fun u => { u with copying := some (7, ⟨9, 7⟩), qualified := [7] })) 0x0E03 [3, 3, 0, 0, 7, 0, 0, 0],
    5,
    7,
    ⟨9, 7⟩,
    0,
    { code := 0x0E03, seq := 1, args := [3, 3, 0, 0, 7, 0, 0, 0], started := true }, by decide +kernel⟩
theorem meets_remapRecord : ∃ (s : State) (a : Arr) (r : Remap), (r ∈ (s.arrOf a).remaps ∧ r.retired = false ∧
    arrCore a = none) :=
  ⟨State.reset.modArr 5 (fun u => { u with remaps := [⟨7, false⟩] }),
    5,
    ⟨7, false⟩, by decide +kernel⟩
theorem meets_memGetStatus_one : ∃ (s : State) (k : Sess) (a : Bytes) (x : Arr), s.holds k 0x0E01 a ∧
    (fieldLE a 0 2 ≠ 0xFFFF ∧ arrOfId (fieldLE a 0 2) = some x ∧ s.arrTested x = false ∧ fieldLE a 2 2 = 0) :=
  ⟨held .reset 0x0E01 [3, 3, 0, 0, 1, 0, 0, 0],
    0,
    [3, 3, 0, 0, 1, 0, 0, 0],
    5, by decide +kernel⟩
theorem meets_memGetStatus_all : ∃ (s : State) (k : Sess) (a : Bytes), s.holds k 0x0E01 a ∧ (fieldLE a 0 2 = 0xFFFF ∧
    (((List.finRange 692).drop (fieldLE a 2 2)).take 20).any s.arrTested = false) :=
  ⟨held .reset 0x0E01 [255, 255, 2, 0, 1, 0, 0, 0],
    0,
    [255, 255, 2, 0, 1, 0, 0, 0], by decide +kernel⟩
theorem meets_memGetStatus_unknown : ∃ (s : State) (k : Sess) (a : Bytes), s.holds k 0x0E01 a ∧ (fieldLE a 0 2 ≠ 0xFFFF ∧
    arrOfId (fieldLE a 0 2) = none) :=
  ⟨held .reset 0x0E01 [3, 0, 0, 0, 1, 0, 0, 0],
    0,
    [3, 0, 0, 0, 1, 0, 0, 0], by decide +kernel⟩
theorem meets_memSetScrub : ∃ (s : State) (k : Sess) (a : Bytes) (c : Fin 9), s.holds k 0x0E02 a ∧
    byteAt a 0 = c.val + 1 :=
  ⟨held .reset 0x0E02 [3, 0, 0, 0, 16, 0, 0, 0],
    0,
    [3, 0, 0, 0, 16, 0, 0, 0],
    2, by decide +kernel⟩
theorem meets_memRemap : ∃ (s : State) (k : Sess) (a : Bytes) (x : Arr), s.holds k 0x0E03 a ∧
    (arrOfId (fieldLE a 0 2) = some x ∧ fieldLE a 4 4 < arrWords x ∧ s.arrTested x = false ∧
    (s.arrOf x).remapped (fieldLE a 4 4) = false ∧ (s.arrOf x).remaps.length < 8) :=
  ⟨held .reset 0x0E03 [3, 3, 0, 0, 7, 0, 0, 0],
    0,
    [3, 3, 0, 0, 7, 0, 0, 0],
    5, by decide +kernel⟩
theorem meets_memRemap_done : ∃ (s : State) (k : Sess) (a : Bytes) (x : Arr), s.holds k 0x0E03 a ∧
    (arrOfId (fieldLE a 0 2) = some x ∧ fieldLE a 4 4 < arrWords x ∧ s.arrTested x = false ∧
    (s.arrOf x).remapped (fieldLE a 4 4) = true) :=
  ⟨held (State.reset.modArr 5 fun u => { u with remaps := [⟨7, false⟩] }) 0x0E03 [3, 3, 0, 0, 7, 0, 0, 0],
    0,
    [3, 3, 0, 0, 7, 0, 0, 0],
    5, by decide +kernel⟩
theorem meets_memRemap_full : ∃ (s : State) (k : Sess) (a : Bytes) (x : Arr), s.holds k 0x0E03 a ∧
    (arrOfId (fieldLE a 0 2) = some x ∧ fieldLE a 4 4 < arrWords x ∧ s.arrTested x = false ∧
    (s.arrOf x).remapped (fieldLE a 4 4) = false ∧ 8 ≤ (s.arrOf x).remaps.length) :=
  ⟨held (State.reset.modArr 5 fun u => { u with remaps := List.replicate 8 ⟨9, false⟩ }) 0x0E03 [3, 3, 0, 0, 7, 0, 0, 0],
    0,
    [3, 3, 0, 0, 7, 0, 0, 0],
    5, by decide +kernel⟩
theorem meets_memInject : ∃ (s : State) (k : Sess) (a : Bytes) (x : Arr), s.holds k 0x0E04 a ∧
    (arrOfId (fieldLE a 0 2) = some x ∧ fieldLE a 4 4 < arrWords x ∧ s.arrTested x = false) :=
  ⟨held .reset 0x0E04 [3, 3, 5, 255, 7, 0, 0, 0],
    0,
    [3, 3, 5, 255, 7, 0, 0, 0],
    5, by decide +kernel⟩
theorem meets_spiWrite : ∃ (s : State) (addr : BitVec 16) (data : Bytes), (s.busOpen = true ∧ addrBad addr = false ∧
    addr ≠ 0x060 ∧ s.ctl.bus.crcReq = false ∧ data.length = 4) :=
  ⟨withBus .reset,
    0x040,
    [1, 0, 0, 0], by decide +kernel⟩
theorem meets_spiWrite_bad_opcode : ∃ (s : State) (op : Byte) (addr : BitVec 16) (data : Bytes), (s.busOpen = true ∧
    op ≠ 0x02 ∧ op ≠ 0x03 ∧ op ≠ 0x12 ∧ op ≠ 0x13) :=
  ⟨withBus .reset,
    5,
    0x040,
    [1, 0, 0, 0], by decide +kernel⟩
theorem meets_spiWrite_bad_address : ∃ (s : State) (addr : BitVec 16) (data : Bytes), (s.busOpen = true ∧
    addrBad addr = true) :=
  ⟨withBus .reset,
    0x041,
    [1, 0, 0, 0], by decide +kernel⟩
theorem meets_spiWrite_crc_required : ∃ (s : State) (addr : BitVec 16) (data : Bytes), (s.busOpen = true ∧
    addrBad addr = false ∧ s.ctl.bus.crcReq = true) :=
  ⟨(withBus .reset).modCtl (fun c => { c with bus := { c.bus with crcReq := true } }),
    0x040,
    [1, 0, 0, 0], by decide +kernel⟩
theorem meets_spiRead : ∃ (s : State) (addr : BitVec 16), (s.busOpen = true ∧ addrBad addr = false ∧ addr ≠ 0x060) :=
  ⟨withBus .reset,
    0x040, by decide +kernel⟩
theorem meets_spiRead_bad_address : ∃ (s : State) (addr : BitVec 16) (n : Nat), (s.busOpen = true ∧
    addrBad addr = true) :=
  ⟨withBus .reset,
    0x1040,
    4, by decide +kernel⟩
theorem meets_spiWriteC : ∃ (s : State) (addr : BitVec 16) (data : Bytes), (s.busOpen = true ∧ addrBad addr = false ∧
    addr ≠ 0x060 ∧ data.length = 4) :=
  ⟨withBus .reset,
    0x040,
    [1, 0, 0, 0], by decide +kernel⟩
theorem meets_spiWriteC_bad_crc : ∃ (s : State) (addr : BitVec 16) (data : Bytes) (b : Byte), (s.busOpen = true ∧
    addrBad addr = false ∧ data.length = 4 ∧ b ≠ crc8 0xFF ([0x12] ++ beBytes 2 addr.toNat ++ data)) :=
  ⟨withBus .reset,
    0x040,
    [1, 0, 0, 0],
    7, by decide +kernel⟩
theorem meets_spiReadC : ∃ (s : State) (addr : BitVec 16), (s.busOpen = true ∧ addrBad addr = false ∧ addr ≠ 0x060) :=
  ⟨withBus .reset,
    0x000, by decide +kernel⟩
theorem meets_spiReadC_bad_count : ∃ (s : State) (addr : BitVec 16) (count : Byte) (n : Nat), (s.busOpen = true ∧
    addrBad addr = false ∧ (count = 0 ∨ 64 < count.toNat)) :=
  ⟨withBus .reset,
    0x000,
    65,
    4, by decide +kernel⟩
theorem meets_smbusBlockWrite : ∃ (s : State) (target : BitVec 7) (addr : BitVec 16) (data : Bytes), (s.busOpen = true ∧
    target.toNat = s.smbAddr ∧ addrBad addr = false ∧ addr ≠ 0x060 ∧ data.length = 4) :=
  ⟨withBus .reset,
    0x5A,
    0x040,
    [1, 0, 0, 0], by decide +kernel⟩
theorem meets_smbusBlockWrite_bad_pec : ∃ (s : State) (target : BitVec 7) (addr : BitVec 16) (data : Bytes) (b : Byte),
    (s.busOpen = true ∧ target.toNat = s.smbAddr ∧ addrBad addr = false ∧ data.length = 4 ∧ b ≠ crc8 0 ([smbByte target
    false, 0x01, 6] ++ leBytes 2 addr.toNat ++ data)) :=
  ⟨withBus .reset,
    0x5A,
    0x040,
    [1, 0, 0, 0],
    7, by decide +kernel⟩
theorem meets_smbusBlockWrite_other_target : ∃ (s : State) (target : BitVec 7) (count : Byte) (addr : BitVec 16) (data :
    Bytes) (pec : Option Byte), target.toNat ≠ s.smbAddr :=
  ⟨withBus .reset,
    0x5B,
    6,
    0x040,
    [1, 0, 0, 0],
    none, by decide +kernel⟩
theorem meets_smbusProcessCall : ∃ (s : State) (target : BitVec 7) (addr : BitVec 16), (s.busOpen = true ∧
    target.toNat = s.smbAddr ∧ addrBad addr = false ∧ addr ≠ 0x060) :=
  ⟨withBus .reset,
    0x5A,
    0x000, by decide +kernel⟩
theorem meets_smbusProcessCall_unacknowledged : ∃ (s : State) (target : BitVec 7) (addr : BitVec 16), (s.busOpen = true ∧
    target.toNat = s.smbAddr ∧ addrBad addr = false ∧ addr ≠ 0x060) :=
  ⟨withBus .reset,
    0x5A,
    0x000, by decide +kernel⟩
theorem meets_smbusTimeout : ∃ (s : State), s.busOpen = true :=
  ⟨withBus .reset, by decide +kernel⟩
theorem meets_registerWrite_lock : ∃ (s : State) (f : Iface) (d : Word), s.busOpen = true :=
  ⟨withBus .reset,
    .spi,
    5, by decide +kernel⟩
theorem meets_registerWrite_checks_required : ∃ (s : State) (f : Iface) (d : Word), s.busOpen = true :=
  ⟨withBus .reset,
    .spi,
    5, by decide +kernel⟩
theorem meets_registerWrite_pec_required : ∃ (s : State) (f : Iface) (d : Word), s.busOpen = true :=
  ⟨withBus .reset,
    .spi,
    256, by decide +kernel⟩
theorem meets_registerWrite_no_inc : ∃ (s : State) (f : Iface) (d : Word), s.busOpen = true :=
  ⟨withBus .reset,
    .spi,
    1, by decide +kernel⟩
theorem meets_registerWrite_route : ∃ (s : State) (f : Iface) (d : Word), s.busOpen = true :=
  ⟨withBus .reset,
    .spi,
    1, by decide +kernel⟩
theorem meets_registerWrite_enable : ∃ (s : State) (f : Iface) (d : Word) (n : Fin 10), s.busOpen = true :=
  ⟨withBus .reset,
    .spi,
    1,
    3, by decide +kernel⟩
theorem meets_registerWrite_read_only : ∃ (s : State) (f : Iface) (d : Word) (addr : BitVec 16), (s.busOpen = true ∧
    addr ∈ [0x000, 0x004, 0x008, 0x00C, 0x044, 0x04C, 0x05C, 0x080, 0x120]) :=
  ⟨withBus .reset,
    .spi,
    1,
    0x008, by decide +kernel⟩
theorem meets_rcFieldRead : ∃ (s : State) (f : Iface), s.busOpen = true :=
  ⟨withBus .reset,
    .spi, by decide +kernel⟩
theorem meets_rcFieldRead_clock_status : ∃ (s : State) (f : Iface), s.busOpen = true :=
  ⟨withBus .reset,
    .spi, by decide +kernel⟩
theorem meets_indAddrWrite : ∃ (s : State) (f : Iface) (high : Bool) (d : Word), s.busOpen = true :=
  ⟨withBus .reset,
    .spi,
    false,
    0x10000, by decide +kernel⟩
theorem meets_indPrefetchDone : ∃ (s : State) (f : Iface) (a : BitVec 40), ((s.window f).fetching = some a ∧
    (s.window f).fifo = []) :=
  ⟨(withBus .reset).modWindow .spi (fun w => { w with fetching := some 0x10000 }),
    .spi,
    0x10000, by decide +kernel⟩
theorem meets_indPrefetchDone_fault : ∃ (s : State) (f : Iface) (a : BitVec 40) (r : Prefetch),
    ((s.window f).fetching = some a ∧ (s.window f).fifo = [] ∧ r ≠ .arrived) :=
  ⟨(withBus .reset).modWindow .spi (fun w => { w with fetching := some 0x10000 }),
    .spi,
    0x10000,
    .timeout, by decide +kernel⟩
theorem meets_indDataRead : ∃ (s : State) (f : Iface) (x : FetchedWord), (s.busOpen = true ∧ (s.window f).word = some x)
    :=
  ⟨(withBus .reset).modWindow .spi (fun w => { w with word := some ⟨0x10000, 5, .arrived, false⟩, addr := 0x10000 }),
    .spi,
    ⟨0x10000, 5, .arrived, false⟩, by decide +kernel⟩
theorem meets_indDataRead_early : ∃ (s : State) (f : Iface), (s.busOpen = true ∧ (s.window f).word = none) :=
  ⟨withBus .reset,
    .spi, by decide +kernel⟩
theorem meets_indDataWrite : ∃ (s : State) (f : Iface) (d : Word), (s.busOpen = true ∧ (s.window f).fifo.length < 16) :=
  ⟨withBus .reset,
    .spi,
    5, by decide +kernel⟩
theorem meets_indDataWrite_full : ∃ (s : State) (f : Iface) (d : Word), (s.busOpen = true ∧
    16 ≤ (s.window f).fifo.length) :=
  ⟨(withBus .reset).modWindow .spi (fun w => { w with fifo := List.replicate 16 ⟨0x10000, 5⟩ }),
    .spi,
    5, by decide +kernel⟩
theorem meets_indWriteApply : ∃ (s : State) (f : Iface) (x : PostedWrite) (rest : List PostedWrite) (k : Sess) (off :
    Nat), ((s.window f).fifo = x :: rest ∧ indTarget x.addr = .command k off ∧ (s.sess k).phase ≠ .busy ∧
    (s.sess k).wf = true) :=
  ⟨(withBus .reset).modWindow .spi (fun w => { w with fifo := [⟨0x10004, 5⟩] }),
    .spi,
    ⟨0x10004, 5⟩,
    [],
    0,
    4, by decide +kernel⟩
theorem meets_indWriteApply_busy : ∃ (s : State) (f : Iface) (x : PostedWrite) (rest : List PostedWrite) (k : Sess) (off
    : Nat), ((s.window f).fifo = x :: rest ∧ indTarget x.addr = .command k off ∧ (s.sess k).phase = .busy) :=
  ⟨((withBus .reset).modWindow .spi (fun w => { w with fifo := [⟨0x10004, 5⟩] })).modSess 0 (fun x => { x with phase := .busy }),
    .spi,
    ⟨0x10004, 5⟩,
    [],
    0,
    4, by decide +kernel⟩
theorem meets_sessionOpen : ∃ (s : State) (f : Iface) (k : Sess) (priv : BitVec 2) (notify : Bool) (tag : BitVec 16),
    (s.busOpen = true ∧ (s.sess k).phase = .free ∧ priv ≠ 3 ∧ ¬ (f = .smb ∧ s.ctl.sysLock.getLsbD 1 = true)) :=
  ⟨withBus .reset,
    .spi,
    2,
    1,
    true,
    0xBEEF, by decide +kernel⟩
theorem meets_sessionOpen_smbus_locked : ∃ (s : State) (k : Sess) (priv : BitVec 2) (notify : Bool) (tag : BitVec 16),
    (s.busOpen = true ∧ (s.sess k).phase = .free ∧ priv ≠ 3 ∧ s.ctl.sysLock.getLsbD 1 = true) :=
  ⟨(withBus .reset).modCtl (fun c => { c with sysLock := 2 }),
    2,
    1,
    true,
    0xBEEF, by decide +kernel⟩
theorem meets_sessionOpen_ignored : ∃ (s : State) (f : Iface) (k : Sess) (priv : BitVec 2) (notify : Bool) (tag : BitVec
    16), (s.busOpen = true ∧ ((s.sess k).phase ≠ .free ∨ priv = 3)) :=
  ⟨withBus .reset,
    .spi,
    2,
    3,
    true,
    0xBEEF, by decide +kernel⟩
theorem meets_sessionClose_idle : ∃ (s : State) (k : Sess), (s.busOpen = true ∧ (s.sess k).phase = .idle) :=
  ⟨(withBus .reset).modSess 2 (fun x => { x with phase := .idle }),
    2, by decide +kernel⟩
theorem meets_sessionClose_busy : ∃ (s : State) (k : Sess), (s.busOpen = true ∧ (s.sess k).phase = .busy) :=
  ⟨(withBus .reset).modSess 2 (fun x => { x with phase := .busy }),
    2, by decide +kernel⟩
theorem meets_doorbellRing_starts : ∃ (s : State) (f : Iface) (k : Sess) (seq : Byte), (s.busOpen = true ∧
    s.serving = true ∧ s.pairUp k = true ∧ (s.sess k).phase = .idle ∧ (s.window f).fifo = [] ∧
    ((s.sess k).anyAccepted = false ∨ seq ≠ (s.sess k).lastSeq)) ∧ s.ringFault k (memReads 0 (s.sess k).area 0 1024) seq
    = none :=
  ⟨(withBus .reset).modSess 2 (fun x => { x with phase := .idle, area := [(0, 5), (1, 1), (2, 7)] }),
    .spi,
    2,
    7, by decide +kernel⟩
theorem meets_doorbellRing_refused : ∃ (s : State) (f : Iface) (k : Sess) (seq : Byte) (r : Result) (d : Nat),
    (s.busOpen = true ∧ s.serving = true ∧ s.pairUp k = true ∧ (s.sess k).phase = .idle ∧ (s.sess k).closePending = false
    ∧ (s.window f).fifo = [] ∧ ((s.sess k).anyAccepted = false ∨ seq ≠ (s.sess k).lastSeq)) ∧
    s.ringFault k (memReads 0 (s.sess k).area 0 1024) seq = some (r, d) :=
  ⟨(withBus .reset).modSess 2 (fun x => { x with phase := .idle, area := [(0, 5), (1, 1), (2, 8)] }),
    .spi,
    2,
    7,
    .badArg,
    2, by decide +kernel⟩
theorem meets_doorbellRing_repeated : ∃ (s : State) (f : Iface) (k : Sess) (seq : Byte), (s.busOpen = true ∧
    s.serving = true ∧ s.pairUp k = true ∧ (s.sess k).phase = .idle ∧ (s.sess k).closePending = false ∧
    (s.window f).fifo = [] ∧ (s.sess k).anyAccepted = true ∧ seq = (s.sess k).lastSeq) :=
  ⟨(withBus .reset).modSess 2 (fun x => { x with phase := .idle, anyAccepted := true, lastSeq := 7 }),
    .spi,
    2,
    7, by decide +kernel⟩
theorem meets_doorbellRing_busy : ∃ (s : State) (f : Iface) (k : Sess) (seq : Byte), (s.busOpen = true ∧
    (s.sess k).phase = .busy) :=
  ⟨(withBus .reset).modSess 2 (fun x => { x with phase := .busy }),
    .spi,
    2,
    7, by decide +kernel⟩
theorem meets_doorbellRing_held : ∃ (s : State) (f : Iface) (k : Sess) (seq : Byte), (s.busOpen = true ∧
    (s.serving = false ∨ s.pairUp k = false) ∧ (s.sess k).phase = .idle) :=
  ⟨(withBus .reset).modSess 2 (fun x => { x with phase := .idle }) |>.modSys (fun u => { u with fwReady := false }),
    .spi,
    2,
    7, by decide +kernel⟩
theorem meets_evqAck : ∃ (s : State) (q : Word) (x : EvEntry) (rest : List EvEntry), (s.busOpen = true ∧
    s.ctl.ev.queue = x :: rest ∧ x.qseq = q ∧ s.ctl.ev.lost = 0) :=
  ⟨(withBus .reset).raise .clkRefLoss,
    0,
    ⟨.clkRefLoss, 0, 0, 0, 0, 0, 0, 0⟩,
    [], by decide +kernel⟩
theorem meets_evqAck_missed : ∃ (s : State) (q : Word), (s.busOpen = true ∧ ∀ x ∈ s.ctl.ev.queue.head?, x.qseq ≠ q) :=
  ⟨withBus .reset,
    3, by decide +kernel⟩
theorem meets_sessionGetChallenge : ∃ (s : State) (k : Sess) (a : Bytes), s.holds k 0x0201 a :=
  ⟨held .reset 0x0201 [],
    0,
    [], by decide +kernel⟩
theorem meets_sessionAuth : ∃ (s : State) (k : Sess) (a : Bytes), s.holds k 0x0202 a :=
  ⟨held .reset 0x0202 [0, 0, 0, 0],
    0,
    [0, 0, 0, 0], by decide +kernel⟩
theorem meets_sessionStage : ∃ (s : State) (k : Sess) (a : Bytes), s.holds k 0x0203 a ∧ ((s.sess k).wf = true ∧
    a.length = 4 + fieldLE a 2 2) :=
  ⟨held .reset 0x0203 [8, 0, 4, 0, 1, 2, 0, 4],
    0,
    [8, 0, 4, 0, 1, 2, 0, 4], by decide +kernel⟩
theorem meets_signingStateReady : ∃ (s : State), (s.sys.clk.phase = .running ∨ s.sys.clk.phase = .noCount) :=
  ⟨withBus .reset, by decide +kernel⟩
theorem meets_secGetState : ∃ (s : State) (k : Sess) (a : Bytes), s.holds k 0x1001 a :=
  ⟨held .reset 0x1001 [],
    0,
    [], by decide +kernel⟩
theorem meets_secAttest : ∃ (s : State) (k : Sess) (a seed : Bytes), s.holds k 0x1002 a ∧ (fieldLE a 32 4 = 0 ∧
    s.sec.signReady = true ∧ s.lifecycle ≠ 0 ∧ s.lifecycle ≠ 4 ∧ s.sec.otp.seedInUse = some seed ∧
    s.sec.nextIndex < 32 * s.sec.otp.blocks ∧ s.sec.nextIndex < 65536) :=
  ⟨held signerState 0x1002 (zeros 36),
    0,
    zeros 36,
    [9], by decide +kernel⟩
theorem meets_secAttest_reserves : ∃ (s : State) (k : Sess) (a seed : Bytes) (bad : Nat), s.holds k 0x1002 a ∧
    (fieldLE a 32 4 = 0 ∧ s.sec.signReady = true ∧ s.lifecycle ≠ 0 ∧ s.lifecycle ≠ 4 ∧ s.sec.otp.seedInUse = some seed ∧
    32 * s.sec.otp.blocks ≤ s.sec.nextIndex ∧ s.sec.nextIndex / 32 + bad < 2048) :=
  ⟨held (signerState.modSec fun u => { u with otp := { u.otp with sigBlock := 0 } }) 0x1002 (zeros 36),
    0,
    zeros 36,
    [9],
    2, by decide +kernel⟩
theorem meets_secAttest_later_page : ∃ (s : State) (k : Sess) (bad : Nat) (sw : Bool) (a : Bytes) (r : Report),
    s.holds k 0x1002 a ∧ (fieldLE a 32 4 ≠ 0 ∧ fieldLE a 32 4 < 3524 ∧ s.sec.signReady = true ∧ s.lifecycle ≠ 0 ∧
    s.lifecycle ≠ 4 ∧ (s.sess k).report = some r ∧ r.nonce = a.take 32) :=
  ⟨held (signerState.modSess 0 fun x => { x with report := some ⟨zeros 32, zeros 3524⟩ }) 0x1002 (zeros 32 ++ [8, 0, 0, 0]),
    0,
    0,
    false,
    zeros 32 ++ [8, 0, 0, 0],
    ⟨zeros 32, zeros 3524⟩, by decide +kernel⟩
theorem meets_secAttest_not_ready : ∃ (s : State) (k : Sess) (bad : Nat) (sw : Bool) (a : Bytes), s.holds k 0x1002 a ∧
    s.sec.signReady = false :=
  ⟨held .reset 0x1002 (zeros 36),
    0,
    0,
    false,
    zeros 36, by decide +kernel⟩
theorem meets_secSetLifecycle : ∃ (s : State) (k : Sess) (ok : Bool) (a : Bytes) (j : Sess), s.holds k 0x1003 a ∧
    (s.sec.test = none ∧ (s.sec.img.stage.code = 0 ∨ 5 ≤ s.sec.img.stage.code) ∧ lifecycleMove s.lifecycle (byteAt a 0) =
    true ∧ s.moveCondition (byteAt a 0) = true ∧ byteAt a 0 ≠ 1) :=
  ⟨held signerState 0x1003 [2, 0, 0, 0],
    0,
    true,
    [2, 0, 0, 0],
    3, by decide +kernel⟩
theorem meets_secSetLifecycle_provision : ∃ (s : State) (k : Sess) (a : Bytes) (j : Sess), s.holds k 0x1003 a ∧
    (s.sec.test = none ∧ (s.sec.img.stage.code = 0 ∨ 5 ≤ s.sec.img.stage.code) ∧ s.lifecycle = 0 ∧ byteAt a 0 = 1 ∧
    s.sec.otp.seedA.touched = false) :=
  ⟨held .reset 0x1003 [1, 0, 0, 0],
    0,
    [1, 0, 0, 0],
    3, by decide +kernel⟩
theorem meets_secSetLifecycle_refused : ∃ (s : State) (k : Sess) (ok : Bool) (a : Bytes), s.holds k 0x1003 a ∧
    (s.sec.test = none ∧ (s.sec.img.stage.code = 0 ∨ 5 ≤ s.sec.img.stage.code) ∧ lifecycleMove s.lifecycle (byteAt a 0) =
    false) :=
  ⟨held .reset 0x1003 [2, 0, 0, 0],
    0,
    true,
    [2, 0, 0, 0], by decide +kernel⟩
theorem meets_secSetOwnerKey_install : ∃ (s : State) (k : Sess) (a r : Bytes), s.holds k 0x1004 a ∧
    (r = memReads 0 (s.sess k).staging 0 72 ∧ (s.sess k).signer = some 0 ∧ byteAt a 0 = 0 ∧ fieldLE a 2 2 = 72 ∧
    byteAt r 0 = 1 ∧ byteAt r 1 = 0) :=
  ⟨held (State.reset.modSess 0 fun x => { x with signer := some 0, staging := [(0, 1)] }) 0x1004 [0, 0, 72, 0],
    0,
    [0, 0, 72, 0],
    [1] ++ zeros 71, by decide +kernel⟩
theorem meets_secSetOwnerKey_delete : ∃ (s : State) (k : Sess) (a r : Bytes) (slot : Fin 8), s.holds k 0x1004 a ∧
    (r = memReads 0 (s.sess k).staging 0 72 ∧ (s.sess k).signer = some 0 ∧ byteAt a 0 = slot.val ∧ slot.val ≠ 0 ∧
    fieldLE a 2 2 = 72 ∧ byteAt r 0 = 1 ∧ byteAt r 1 = 1) :=
  ⟨held (State.reset.modSess 0 fun x => { x with signer := some 0, staging := [(0, 1), (1, 1)] }) 0x1004 [2, 0, 72, 0],
    0,
    [2, 0, 72, 0],
    [1, 1] ++ zeros 70,
    2, by decide +kernel⟩
theorem meets_secSetOwnerKey_denied : ∃ (s : State) (k : Sess) (a : Bytes), s.holds k 0x1004 a ∧ (byteAt a 0 = 0 ∧
    byteAt (memReads 0 (s.sess k).staging 0 72) 1 = 0 ∧ (s.sess k).signer ≠ some 0 ∧ (s.sess k).signer ≠ some 0x80) :=
  ⟨held .reset 0x1004 [0, 0, 72, 0],
    0,
    [0, 0, 72, 0], by decide +kernel⟩
theorem meets_bootRomStart : ∃ (s : State), (s.sys.clk.phase = .locked ∧ s.sec.flash.boot ≠ .spoiled) :=
  ⟨State.reset.modClk fun c => { c with phase := .locked, counting := true }, by decide +kernel⟩
theorem meets_bootRomStart_empty_slot : ∃ (s : State), (s.sys.clk.phase = .locked ∧ s.sec.flash.slotHeader = none) :=
  ⟨State.reset.modClk fun c => { c with phase := .locked, counting := true }, by decide +kernel⟩
theorem meets_imageBegin : ∃ (s : State) (k : Sess) (a : Bytes), s.holds k 0x0F01 a ∧ (s.sec.img.beginBusy = false ∧
    s.sec.img.stage ≠ .refill) :=
  ⟨held .reset 0x0F01 [0, 48, 0, 0, 1, 0, 0, 0],
    0,
    [0, 48, 0, 0, 1, 0, 0, 0], by decide +kernel⟩
theorem meets_imageBegin_busy : ∃ (s : State) (k : Sess) (a : Bytes), s.holds k 0x0F01 a ∧ (s.sec.img.stage = .activating
    ∨ (s.sec.img.active = true ∧ s.sec.img.source ≠ 0)) :=
  ⟨held (download .header 1 12288 0) 0x0F01 [0, 48, 0, 0, 1, 0, 0, 0],
    0,
    [0, 48, 0, 0, 1, 0, 0, 0], by decide +kernel⟩
theorem meets_imageWrite : ∃ (s : State) (k : Sess) (a : Bytes), s.holds k 0x0F02 a ∧ (s.sec.img.active = true ∧
    s.sec.img.source = 0 ∧ fieldLE a 0 4 = s.sec.img.received ∧ a.length = 8 + fieldLE a 4 2 ∧
    s.sec.img.received + fieldLE a 4 2 ≤ s.sec.img.length ∧ fieldLE a 4 2 % 4 = 0 ∧ s.sec.img.buffer.length + fieldLE a 4
    2 ≤ 65536) ∧ (s.sec.img.headerOk = true ∨ s.sec.img.received + fieldLE a 4 2 ≤ 8192) :=
  ⟨held (download .header 0 12288 0) 0x0F02 [0, 0, 0, 0, 4, 0, 0, 0, 77, 89, 73, 77],
    0,
    [0, 0, 0, 0, 4, 0, 0, 0, 77, 89, 73, 77], by decide +kernel⟩
theorem meets_imageWrite_no_download : ∃ (s : State) (k : Sess) (a : Bytes), s.holds k 0x0F02 a ∧
    (s.sec.img.active = false ∨ s.sec.img.source ≠ 0) :=
  ⟨held .reset 0x0F02 [0, 0, 0, 0, 4, 0, 0, 0, 77, 89, 73, 77],
    0,
    [0, 0, 0, 0, 4, 0, 0, 0, 77, 89, 73, 77], by decide +kernel⟩
theorem meets_imageGetStatus : ∃ (s : State) (k : Sess) (a : Bytes), s.holds k 0x0F03 a :=
  ⟨held .reset 0x0F03 [],
    0,
    [], by decide +kernel⟩
theorem meets_headerVerdict : ∃ (s : State), (s.sec.img.active = true ∧ s.sec.img.headerOk = false ∧
    8192 ≤ s.sec.img.header.length ∧ s.sec.img.stage ≠ .refill) :=
  ⟨(download .header 0 12288 8192).modImg fun u => { u with header := zeros 8192 }, by decide +kernel⟩
theorem meets_sectorWriteDone : ∃ (s : State) (n : Nat), (s.sec.img.active = true ∧ s.sec.img.headerOk = true ∧
    s.sec.img.buffer ≠ [] ∧ (4096 ≤ s.sec.img.buffer.length ∨ s.sec.img.received = s.sec.img.length) ∧
    memWf 0xFF s.sec.flash.slotBody = true ∧ n = (s.sec.img.buffer.take 4096).length) :=
  ⟨(download .body 0 8200 8200).modImg (fun u => { u with headerOk := true, buffer := [1, 2, 3, 4] }),
    4, by decide +kernel⟩
theorem meets_sectorWriteDone_failed : ∃ (s : State), (s.sec.img.active = true ∧ s.sec.img.headerOk = true ∧
    s.sec.img.buffer ≠ [] ∧ (4096 ≤ s.sec.img.buffer.length ∨ s.sec.img.received = s.sec.img.length) ∧
    s.sec.img.stage ≠ .refill) :=
  ⟨(download .body 0 8200 8200).modImg (fun u => { u with headerOk := true, buffer := [1, 2, 3, 4] }), by decide +kernel⟩
theorem meets_bodyVerifyDone : ∃ (s : State), (s.sec.img.active = true ∧ s.sec.img.headerOk = true ∧
    s.sec.img.buffer = [] ∧ s.sec.img.received = s.sec.img.length ∧ 8192 + s.sec.img.written = s.sec.img.length ∧
    s.sec.img.stage ≠ .refill) :=
  ⟨(download .body 0 8196 8196).modImg (fun u => { u with headerOk := true, written := 4 }), by decide +kernel⟩
theorem meets_hostSourceTimeout : ∃ (s : State), (s.sec.img.active = true ∧ s.sec.img.source = 0 ∧
    s.sec.img.received < s.sec.img.length) :=
  ⟨download .header 0 12288 4, by decide +kernel⟩
theorem meets_imageAbort_running : ∃ (s : State) (k : Sess) (a : Bytes), s.holds k 0x0F06 a ∧ (s.sec.img.active = true ∧
    s.sec.img.stage ≠ .activating) :=
  ⟨held (download .header 0 12288 4) 0x0F06 [],
    0,
    [], by decide +kernel⟩
theorem meets_imageAbort_verified : ∃ (s : State) (k : Sess) (a : Bytes), s.holds k 0x0F06 a ∧
    (s.sec.img.active = false ∧ s.sec.img.stage = .verified) :=
  ⟨held (State.reset.modImg fun u => { u with stage := .verified }) 0x0F06 [],
    0,
    [], by decide +kernel⟩
theorem meets_imageAbort_refused : ∃ (s : State) (k : Sess) (a : Bytes), s.holds k 0x0F06 a ∧ (s.sec.img.active = false ∧
    s.sec.img.stage ≠ .activating ∧ s.sec.img.stage ≠ .verified) :=
  ⟨held .reset 0x0F06 [],
    0,
    [], by decide +kernel⟩
theorem meets_imageActivate : ∃ (s : State) (k : Sess) (a : Bytes), s.holds k 0x0F04 a ∧ (s.sec.test = none ∧
    s.sec.img.stage = .verified) :=
  ⟨held (State.reset.modImg fun u => { u with stage := .verified }) 0x0F04 [],
    0,
    [], by decide +kernel⟩
theorem meets_imageActivate_refused : ∃ (s : State) (k : Sess) (a : Bytes), s.holds k 0x0F04 a ∧ (s.sec.test = none ∧
    s.sec.img.stage ≠ .verified) :=
  ⟨held .reset 0x0F04 [],
    0,
    [], by decide +kernel⟩
theorem meets_coreSwapDone_round : ∃ (s : State) (r : List Nat) (rest : List (List Nat)) (c : Core),
    (s.sec.img.stage = .activating ∧ s.sec.img.rounds = r :: rest ∧ rest ≠ [] ∧ c.val ∈ r ∧
    (s.coreOf c).state ≠ .retired) ∧ (∀ p : Phys, p.val ∈ r → s.moving p = false) :=
  ⟨(withBus .reset).modImg (fun u => { u with stage := .activating, pendingVer := 5, rounds := [[181], [182]] }),
    [181],
    [[182]],
    181, by decide +kernel⟩
theorem meets_coreSwapDone_last : ∃ (s : State) (r : List Nat), (s.sec.img.stage = .activating ∧
    s.sec.img.rounds = [r]) ∧ (∀ p : Phys, p.val ∈ r → s.moving p = false) :=
  ⟨(withBus .reset).modImg (fun u => { u with stage := .activating, pendingVer := 5, rounds := [[181]] }),
    [181], by decide +kernel⟩
theorem meets_imageConfirm : ∃ (s : State) (k : Sess) (a : Bytes), s.holds k 0x0F05 a ∧ (s.sec.img.stage = .activated ∧
    s.rollback < headerSecVer s.sec.img.running) :=
  ⟨held (State.reset.modImg fun u => { u with stage := .activated, running := zeros 24 ++ [2] }) 0x0F05 [],
    0,
    [], by decide +kernel⟩
theorem meets_imageConfirm_refused : ∃ (s : State) (k : Sess) (a : Bytes), s.holds k 0x0F05 a ∧
    (s.sec.img.stage ≠ .activated ∧ s.sec.img.unconfirmed = false) :=
  ⟨held .reset 0x0F05 [],
    0,
    [], by decide +kernel⟩
theorem meets_imageSetRelay : ∃ (s : State) (k : Sess) (a : Bytes), s.holds k 0x0F07 a :=
  ⟨held .reset 0x0F07 [5, 0, 0, 0],
    0,
    [5, 0, 0, 0], by decide +kernel⟩
theorem meets_hello_answered : ∃ (s : State) (q : Port) (payload : Bytes) (crc : BitVec 32), (s.hears q 1 payload crc =
    true ∧ payload.length = 12 ∧ (s.rport q).tx = none) :=
  ⟨relayTx none,
    1,
    zeros 12,
    crcOf 1 (zeros 12), by decide +kernel⟩
theorem meets_hello_opens : ∃ (s : State) (q : Port) (payload : Bytes) (crc : BitVec 32) (x : RelayTx),
    (s.hears q 1 payload crc = true ∧ payload.length = 12 ∧ (s.rport q).tx = some x ∧ x.phase = 0) :=
  ⟨relayTx (some (aTx 0)),
    1,
    zeros 12,
    crcOf 1 (zeros 12),
    aTx 0, by decide +kernel⟩
theorem meets_hello_bad_crc : ∃ (s : State) (q : Port) (payload : Bytes) (crc : BitVec 32),
    frameGood 1 payload crc = false :=
  ⟨relayTx none,
    1,
    zeros 12,
    0, by decide +kernel⟩
theorem meets_offer_taken : ∃ (s : State) (q : Port) (payload : Bytes) (crc : BitVec 32), (s.hears q 2 payload crc = true
    ∧ payload.length = 4 ∧ s.offerVerdict q (fieldLE payload 0 4) = 0 ∧ s.sys.clk.phase ≠ .romRefill ∧
    s.sec.img.stage ≠ .refill) :=
  ⟨(relayTx none).modImg (fun u => { u with ports := 15 }),
    1,
    [0, 48, 0, 0],
    crcOf 2 [0, 48, 0, 0], by decide +kernel⟩
theorem meets_offer_refused : ∃ (s : State) (q : Port) (payload : Bytes) (crc : BitVec 32), (s.hears q 2 payload crc =
    true ∧ payload.length = 4 ∧ s.offerVerdict q (fieldLE payload 0 4) ≠ 0) :=
  ⟨(relayTx none).modImg (fun u => { u with ports := 0 }),
    1,
    [0, 48, 0, 0],
    crcOf 2 [0, 48, 0, 0], by decide +kernel⟩
theorem meets_data_in_order : ∃ (s : State) (q : Port) (payload : Bytes) (crc : BitVec 32), (s.hears q 3 payload crc =
    true ∧ s.sys.clk.phase ≠ .romRefill ∧ s.sec.img.active = true ∧ s.sec.img.source = q.val + 1) ∧ (4 < payload.length ∧
    payload.length ≤ 4100 ∧ fieldLE payload 0 4 % 4096 = 0 ∧ fieldLE payload 0 4 = s.sec.img.received ∧
    s.sec.img.received + (payload.length - 4) ≤ s.sec.img.length ∧ s.sec.img.buffer.length + (payload.length - 4) ≤
    65536) :=
  ⟨(download .header 2 12288 0).modPort 1 (fun p => { p with up := true }),
    1,
    [0, 0, 0, 0, 77],
    crcOf 3 [0, 0, 0, 0, 77], by decide +kernel⟩
theorem meets_data_out_of_order : ∃ (s : State) (q : Port) (payload : Bytes) (crc : BitVec 32),
    (s.hears q 3 payload crc = true ∧ s.sys.clk.phase ≠ .romRefill ∧ s.sec.img.active = true ∧
    s.sec.img.source = q.val + 1) ∧ (4 < payload.length ∧ payload.length ≤ 4100 ∧ fieldLE payload 0 4 % 4096 = 0 ∧
    fieldLE payload 0 4 ≠ s.sec.img.received) :=
  ⟨(download .header 2 12288 0).modPort 1 (fun p => { p with up := true }),
    1,
    [0, 16, 0, 0, 77],
    crcOf 3 [0, 16, 0, 0, 77], by decide +kernel⟩
theorem meets_ack_moves : ∃ (s : State) (q : Port) (payload : Bytes) (crc : BitVec 32) (x : RelayTx),
    (s.hears q 4 payload crc = true ∧ payload.length = 8 ∧ (s.rport q).tx = some x ∧ x.phase ≠ 0 ∧
    x.next ≤ fieldLE payload 0 4 ∧ fieldLE payload 0 4 < x.length) :=
  ⟨relayTx (some (aTx 1)),
    1,
    zeros 8,
    crcOf 4 (zeros 8),
    aTx 1, by decide +kernel⟩
theorem meets_ack_completes : ∃ (s : State) (q : Port) (payload : Bytes) (crc : BitVec 32) (x : RelayTx),
    (s.hears q 4 payload crc = true ∧ payload.length = 8 ∧ (s.rport q).tx = some x ∧ x.phase ≠ 0 ∧
    x.next ≤ fieldLE payload 0 4 ∧ fieldLE payload 0 4 = x.length) :=
  ⟨relayTx (some { aTx 2 with next := 8192 }),
    1,
    [0, 48, 0, 0, 8, 0, 0, 0],
    crcOf 4 [0, 48, 0, 0, 8, 0, 0, 0],
    { aTx 2 with next := 8192 }, by decide +kernel⟩
theorem meets_nak : ∃ (s : State) (q : Port) (payload : Bytes) (crc : BitVec 32) (x : RelayTx),
    (s.hears q 5 payload crc = true ∧ payload.length = 4 ∧ (s.rport q).tx = some x) :=
  ⟨relayTx (some (aTx 1)),
    1,
    [32, 0, 0, 0],
    crcOf 5 [32, 0, 0, 0],
    aTx 1, by decide +kernel⟩
theorem meets_refillReq_served : ∃ (s : State) (q : Port) (payload hdr : Bytes) (crc : BitVec 32),
    (s.hears q 6 payload crc = true ∧ payload.length = 4 ∧ s.sec.img.stage = .idle ∧ s.sys.fwReady = true ∧ (∀ j : Port,
    (s.rport j).tx = none) ∧ s.sec.flash.slotHeader = some hdr ∧ byteAt payload 3 ≠ 0xFF) :=
  ⟨(relayTx none).modFlash (fun f => { f with slotHeader := some (zeros 32) }),
    1,
    zeros 4,
    zeros 32,
    crcOf 6 (zeros 4), by decide +kernel⟩
theorem meets_refillReq_refused : ∃ (s : State) (q : Port) (payload : Bytes) (crc : BitVec 32),
    (s.hears q 6 payload crc = true ∧ payload.length = 4 ∧ (s.sec.flash.slotHeader = none ∨ s.sys.fwReady = false) ∧
    byteAt payload 3 ≠ 0xFF) :=
  ⟨relayTx none,
    1,
    zeros 4,
    crcOf 6 (zeros 4), by decide +kernel⟩
theorem meets_abort : ∃ (s : State) (q : Port) (payload : Bytes) (crc : BitVec 32), (s.hears q 7 payload crc = true ∧
    payload.length = 4 ∧ s.sec.img.active = true ∧ s.sec.img.source = q.val + 1 ∧ s.sys.clk.phase ≠ .romRefill ∧
    s.sec.img.stage ≠ .refill) :=
  ⟨(download .header 2 12288 0).modPort 1 (fun p => { p with up := true }),
    1,
    zeros 4,
    crcOf 7 (zeros 4), by decide +kernel⟩
theorem meets_helloRepeat_again : ∃ (s : State) (q : Port) (x : RelayTx), ((s.rport q).tx = some x ∧ x.phase = 0 ∧
    x.hellos < 499) :=
  ⟨relayTx (some (aTx 0)),
    1,
    aTx 0, by decide +kernel⟩
theorem meets_helloRepeat_given_up : ∃ (s : State) (q : Port) (x : RelayTx), ((s.rport q).tx = some x ∧ x.phase = 0 ∧
    499 ≤ x.hellos) :=
  ⟨relayTx (some { aTx 0 with hellos := 499 }),
    1,
    { aTx 0 with hellos := 499 }, by decide +kernel⟩
theorem meets_relayResendTimeout_offer : ∃ (s : State) (q : Port) (x : RelayTx), ((s.rport q).tx = some x ∧
    x.phase = 1) :=
  ⟨relayTx (some (aTx 1)),
    1,
    aTx 1, by decide +kernel⟩
theorem meets_relayResendTimeout_data : ∃ (s : State) (q : Port) (x : RelayTx), ((s.rport q).tx = some x ∧ x.phase = 2 ∧
    x.next = 0 ∧ x.window = 0) :=
  ⟨relayTx (some (aTx 2)),
    1,
    aTx 2, by decide +kernel⟩
theorem meets_relaySourceTimeout_receiver : ∃ (s : State) (q : Port), (s.sec.img.active = true ∧
    s.sec.img.source = q.val + 1 ∧ s.sys.clk.phase ≠ .romRefill) :=
  ⟨download .header 2 12288 0,
    1, by decide +kernel⟩
theorem meets_relayPortDown : ∃ (s : State) (q : Port), (s.rport q).up = true :=
  ⟨relayTx (some (aTx 2)),
    1, by decide +kernel⟩
theorem meets_relayPortUp : ∃ (s : State) (q : Port), s.sys.clk.counting = true :=
  ⟨withBus .reset,
    1, by decide +kernel⟩
theorem meets_refillRetry : ∃ (s : State), (s.sec.img.stage = .refill ∧ s.sec.img.refillWait = true) :=
  ⟨(withBus .reset).modImg fun u => { u with stage := .refill, refillWait := true }, by decide +kernel⟩
theorem meets_loaderRefillRetry : ∃ (s : State) (q : Port), (s.sys.clk.phase = .romRefill ∧ s.sec.img.active = false) :=
  ⟨State.reset.modClk (fun c => { c with phase := .romRefill }),
    1, by decide +kernel⟩
theorem meets_testStart : ∃ (s : State) (k : Sess) (a : Bytes) (p : Phys), s.holds k 0x1101 a ∧ (byteAt a 0 = 0 ∧
    byteAt a 1 < 8 ∧ s.sec.test = none ∧ s.scopePermitted false = true ∧ checkQualifies (s.askedRecord a) = true ∧
    s.testAdmitted (s.testLanes (byteAt a 1)).length = true ∧ p ∈ (s.askedRecord a).physLanes) :=
  ⟨held .reset 0x1101 [0, 0, 0, 1],
    0,
    [0, 0, 0, 1],
    3, by decide +kernel⟩
theorem meets_testStart_memory : ∃ (s : State) (k : Sess) (a : Bytes), s.holds k 0x1101 a ∧ (byteAt a 0 = 1 ∧
    s.sec.test = none ∧ s.scopePermitted true = true ∧ s.memoryTestReady = true ∧ (s.askedRecord a).checks ≠ 0) :=
  ⟨held { State.reset with group := Vector.replicate 32 { HostGroup.reset with power := .off } } 0x1101 [1, 0, 0, 3],
    0,
    [1, 0, 0, 3], by decide +kernel⟩
theorem meets_testStart_busy : ∃ (s : State) (k : Sess) (a : Bytes), s.holds k 0x1101 a ∧ s.sec.test.isSome :=
  ⟨held (aTest [0, 1]) 0x1101 [0, 0, 0, 1],
    0,
    [0, 0, 0, 1], by decide +kernel⟩
theorem meets_testAbort : ∃ (s : State) (k : Sess) (a : Bytes) (x : TestRun) (p : Phys), s.holds k 0x1102 a ∧
    (s.sec.test = some x ∧ x.record.scope = byteAt a 0 ∧ x.record.scope < 8 ∧ p ∈ x.record.physLanes) :=
  ⟨held (aTest [0, 1]) 0x1102 [0, 0, 0, 0],
    0,
    [0, 0, 0, 0],
    testRun [0, 1],
    3, by decide +kernel⟩
theorem meets_testAbort_refused : ∃ (s : State) (k : Sess) (a : Bytes), s.holds k 0x1102 a ∧ (∀ x ∈ s.sec.test,
    x.record.scope ≠ byteAt a 0) :=
  ⟨held .reset 0x1102 [0, 0, 0, 0],
    0,
    [0, 0, 0, 0], by decide +kernel⟩
theorem meets_testGetResult : ∃ (s : State) (k : Sess) (a : Bytes) (r : TestRecord), s.holds k 0x1103 a ∧
    (s.sec.flash.tests.toList.getD (scopeSlot (byteAt a 0)) [])[byteAt a 1]? = some r :=
  ⟨held (State.reset.modFlash fun f => { f with tests := f.tests.setIfInBounds 2 [testRec] }) 0x1103 [2, 0, 0, 0],
    0,
    [2, 0, 0, 0],
    testRec, by decide +kernel⟩
theorem meets_testGetResult_none : ∃ (s : State) (k : Sess) (a : Bytes), s.holds k 0x1103 a ∧
    (s.sec.flash.tests.toList.getD (scopeSlot (byteAt a 0)) []).length ≤ byteAt a 1 :=
  ⟨held .reset 0x1103 [2, 0, 0, 0],
    0,
    [2, 0, 0, 0], by decide +kernel⟩
theorem meets_testCheckDone : ∃ (s : State) (x : CheckFound) (r : TestRun) (c : Nat) (rest : List Nat),
    (s.sec.test = some r ∧ r.todo = c :: rest) :=
  ⟨aTest [0, 1],
    ⟨7, 0, 0, none⟩,
    testRun [0, 1],
    0,
    [1], by decide +kernel⟩
theorem meets_testComplete : ∃ (s : State) (r : TestRun), (s.sec.test = some r ∧ r.todo = []) :=
  ⟨aTest [],
    testRun [], by decide +kernel⟩

end Sys2Proof.Tests
end

section
/-!
What a command leaves as it was (95_what_each_step_holds).
-/
namespace Sys2Proof.Machine

/-- What a command does not touch it leaves as it was: the frames of all commands in one. -/
theorem exec_keeps {i : Instr} {s t : State} (h : exec i s = .next t) : SameBut i.touches s t := by
  cases i with
  | laneSetMode k => exact execLaneSetMode_keeps (.refl _ s) (.refl _) k t h
  | laneTrain k => exact execLaneTrain_keeps (.refl _ s) (.refl _) k t h
  | laneTrainingDone p passed reason => exact execLaneTrainingDone_keeps (.refl _ s) (.refl _) p passed reason t h
  | laneTrainTimeout p reason => exact execLaneTrainTimeout_keeps (.refl _ s) (.refl _) p reason t h
  | laneReset k => exact execLaneReset_keeps (.refl _ s) (.refl _) k t h
  | laneResetDone p discarded => exact execLaneResetDone_keeps (.refl _ s) (.refl _) p discarded t h
  | laneGetStatus k => exact execLaneGetStatus_keeps (.refl _ s) (.refl _) k t h
  | laneSetStation k => exact execLaneSetStation_keeps (.refl _ s) (.refl _) k t h
  | laneSetRx k => exact execLaneSetRx_keeps (.refl _ s) (.refl _) k t h
  | laneLoadRxPalette k => exact execLaneLoadRxPalette_keeps (.refl _ s) (.refl _) k t h
  | laneGetRxDiag k => exact execLaneGetRxDiag_keeps (.refl _ s) (.refl _) k t h
  | laneSwapPalette k => exact execLaneSwapPalette_keeps (.refl _ s) (.refl _) k t h
  | laneCaptureFlipbook k => exact execLaneCaptureFlipbook_keeps (.refl _ s) (.refl _) k t h
  | laneReadFlipbook k bad => exact execLaneReadFlipbook_keeps (.refl _ s) (.refl _) k bad t h
  | laneSetBurst k => exact execLaneSetBurst_keeps (.refl _ s) (.refl _) k t h
  | laneGetBurstLog k bad => exact execLaneGetBurstLog_keeps (.refl _ s) (.refl _) k bad t h
  | laneGetBurstCounters k => exact execLaneGetBurstCounters_keeps (.refl _ s) (.refl _) k t h
  | laneSetFec k => exact execLaneSetFec_keeps (.refl _ s) (.refl _) k t h
  | laneGetFecStats k => exact execLaneGetFecStats_keeps (.refl _ s) (.refl _) k t h
  | laneSetTx k => exact execLaneSetTx_keeps (.refl _ s) (.refl _) k t h
  | laneLoadTxPalette k => exact execLaneLoadTxPalette_keeps (.refl _ s) (.refl _) k t h
  | laneGetTxDiag k => exact execLaneGetTxDiag_keeps (.refl _ s) (.refl _) k t h
  | laneSwapTxPalette k => exact execLaneSwapTxPalette_keeps (.refl _ s) (.refl _) k t h
  | laneSetPredistort k => exact execLaneSetPredistort_keeps (.refl _ s) (.refl _) k t h
  | laneSetTxBurst k => exact execLaneSetTxBurst_keeps (.refl _ s) (.refl _) k t h
  | drainComplete p => exact execDrainComplete_keeps (.refl _ s) (.refl _) p t h
  | drainTimeout p => exact execDrainTimeout_keeps (.refl _ s) (.refl _) p t h
  | coreCoverDone c => exact execCoreCoverDone_keeps (.refl _ s) (.refl _) c t h
  | losBlockEnd p => exact execLosBlockEnd_keeps (.refl _ s) (.refl _) p t h
  | agcUpdate p rms => exact execAgcUpdate_keeps (.refl _ s) (.refl _) p rms t h
  | estimationWindowEnd p => exact execEstimationWindowEnd_keeps (.refl _ s) (.refl _) p t h
  | estimationWindowStarved p => exact execEstimationWindowStarved_keeps (.refl _ s) (.refl _) p t h
  | estimatorIteration p => exact execEstimatorIteration_keeps (.refl _ s) (.refl _) p t h
  | calSetApply p sym => exact execCalSetApply_keeps (.refl _ s) (.refl _) p sym t h
  | pilotEvaluation p m => exact execPilotEvaluation_keeps (.refl _ s) (.refl _) p m t h
  | acqLimitExpiry p => exact execAcqLimitExpiry_keeps (.refl _ s) (.refl _) p t h
  | convergeLock p => exact execConvergeLock_keeps (.refl _ s) (.refl _) p t h
  | fadeStart p => exact execFadeStart_keeps (.refl _ s) (.refl _) p t h
  | fadeMidpoint p => exact execFadeMidpoint_keeps (.refl _ s) (.refl _) p t h
  | fadeEnd p => exact execFadeEnd_keeps (.refl _ s) (.refl _) p t h
  | flipbookTrigger p kind => exact execFlipbookTrigger_keeps (.refl _ s) (.refl _) p kind t h
  | flipbookCaptureComplete p => exact execFlipbookCaptureComplete_keeps (.refl _ s) (.refl _) p t h
  | correlatorPeak p cold negative sym phase freq dgain =>
    exact execCorrelatorPeak_keeps (.refl _ s) (.refl _) p cold negative sym phase freq dgain t h
  | powerDetectorTrigger p sym => exact execPowerDetectorTrigger_keeps (.refl _ s) (.refl _) p sym t h
  | fallbackStart p sym => exact execFallbackStart_keeps (.refl _ s) (.refl _) p sym t h
  | fallbackQualificationExpiry p => exact execFallbackQualificationExpiry_keeps (.refl _ s) (.refl _) p t h
  | powerDetectorRearm p sym => exact execPowerDetectorRearm_keeps (.refl _ s) (.refl _) p sym t h
  | coldTrainingStart p => exact execColdTrainingStart_keeps (.refl _ s) (.refl _) p t h
  | coldTrainingEnd p => exact execColdTrainingEnd_keeps (.refl _ s) (.refl _) p t h
  | preambleEndPassed p => exact execPreambleEndPassed_keeps (.refl _ s) (.refl _) p t h
  | syncDetected p sym => exact execSyncDetected_keeps (.refl _ s) (.refl _) p sym t h
  | syncDeadlineExpiry p => exact execSyncDeadlineExpiry_keeps (.refl _ s) (.refl _) p t h
  | headerDecoded p word => exact execHeaderDecoded_keeps (.refl _ s) (.refl _) p word t h
  | replayStart p bad ring => exact execReplayStart_keeps (.refl _ s) (.refl _) p bad ring t h
  | galleryFetchDone j bad => exact execGalleryFetchDone_keeps (.refl _ s) (.refl _) j bad t h
  | galleryFetchService => exact execGalleryFetchService_keeps (.refl _ s) (.refl _) t h
  | portraitPrefetch p slot => exact execPortraitPrefetch_keeps (.refl _ s) (.refl _) p slot t h
  | predictedAnalogueLoad p slot => exact execPredictedAnalogueLoad_keeps (.refl _ s) (.refl _) p slot t h
  | rxWindowOpen p slot => exact execRxWindowOpen_keeps (.refl _ s) (.refl _) p slot t h
  | rxWindowClose p => exact execRxWindowClose_keeps (.refl _ s) (.refl _) p t h
  | payloadEnd p sym => exact execPayloadEnd_keeps (.refl _ s) (.refl _) p sym t h
  | postambleCheck p => exact execPostambleCheck_keeps (.refl _ s) (.refl _) p t h
  | burstOutcome p snr eyeMin bad => exact execBurstOutcome_keeps (.refl _ s) (.refl _) p snr eyeMin bad t h
  | portraitWriteback p => exact execPortraitWriteback_keeps (.refl _ s) (.refl _) p t h
  | eventHoldoffExpiry e source => exact execEventHoldoffExpiry_keeps (.refl _ s) (.refl _) e source t h
  | portraitSetQuota k => exact execPortraitSetQuota_keeps (.refl _ s) (.refl _) k t h
  | portraitSetBase k => exact execPortraitSetBase_keeps (.refl _ s) (.refl _) k t h
  | portraitRead k => exact execPortraitRead_keeps (.refl _ s) (.refl _) k t h
  | portraitWrite k => exact execPortraitWrite_keeps (.refl _ s) (.refl _) k t h
  | portraitEvict k => exact execPortraitEvict_keeps (.refl _ s) (.refl _) k t h
  | portraitProtect k => exact execPortraitProtect_keeps (.refl _ s) (.refl _) k t h
  | portraitList k bad => exact execPortraitList_keeps (.refl _ s) (.refl _) k bad t h
  | innerCwDecoded p hard rel => exact execInnerCwDecoded_keeps (.refl _ s) (.refl _) p hard rel t h
  | outerCwDecoded p => exact execOuterCwDecoded_keeps (.refl _ s) (.refl _) p t h
  | alignmentMarker p sync code sym => exact execAlignmentMarker_keeps (.refl _ s) (.refl _) p sync code sym t h
  | markerMissing p => exact execMarkerMissing_keeps (.refl _ s) (.refl _) p t h
  | delineationHeader p => exact execDelineationHeader_keeps (.refl _ s) (.refl _) p t h
  | frameCheck p bad => exact execFrameCheck_keeps (.refl _ s) (.refl _) p bad t h
  | sketchCandidate p pos => exact execSketchCandidate_keeps (.refl _ s) (.refl _) p pos t h
  | sketchResolved p => exact execSketchResolved_keeps (.refl _ s) (.refl _) p t h
  | marginWindowEnd w => exact execMarginWindowEnd_keeps (.refl _ s) (.refl _) w t h
  | txSettingApply p => exact execTxSettingApply_keeps (.refl _ s) (.refl _) p t h
  | predistortApply p sym => exact execPredistortApply_keeps (.refl _ s) (.refl _) p sym t h
  | txFadeStart p => exact execTxFadeStart_keeps (.refl _ s) (.refl _) p t h
  | txFadeMidpoint p => exact execTxFadeMidpoint_keeps (.refl _ s) (.refl _) p t h
  | txFadeEnd p => exact execTxFadeEnd_keeps (.refl _ s) (.refl _) p t h
  | txDriverFault p kind present => exact execTxDriverFault_keeps (.refl _ s) (.refl _) p kind present t h
  | txFaultDeclaration p => exact execTxFaultDeclaration_keeps (.refl _ s) (.refl _) p t h
  | transparentStart p => exact execTransparentStart_keeps (.refl _ s) (.refl _) p t h
  | transparentUnderrun p => exact execTransparentUnderrun_keeps (.refl _ s) (.refl _) p t h
  | superframeBoundary p bad => exact execSuperframeBoundary_keeps (.refl _ s) (.refl _) p bad t h
  | burstFreeze p slot entry bad => exact execBurstFreeze_keeps (.refl _ s) (.refl _) p slot entry bad t h
  | burstSendStart p => exact execBurstSendStart_keeps (.refl _ s) (.refl _) p t h
  | burstSendEnd p => exact execBurstSendEnd_keeps (.refl _ s) (.refl _) p t h
  | fabsyncEdge offset => exact execFabsyncEdge_keeps (.refl _ s) (.refl _) offset t h
  | fabsyncMissDecision => exact execFabsyncMissDecision_keeps (.refl _ s) (.refl _) t h
  | armDeadline w change => exact execArmDeadline_keeps (.refl _ s) (.refl _) w change t h
  | schedSetEpoch k => exact execSchedSetEpoch_keeps (.refl _ s) (.refl _) k t h
  | schedLoad k => exact execSchedLoad_keeps (.refl _ s) (.refl _) k t h
  | schedArm k => exact execSchedArm_keeps (.refl _ s) (.refl _) k t h
  | schedDisarm k => exact execSchedDisarm_keeps (.refl _ s) (.refl _) k t h
  | schedGetStatus k => exact execSchedGetStatus_keeps (.refl _ s) (.refl _) k t h
  | schedRead k => exact execSchedRead_keeps (.refl _ s) (.refl _) k t h
  | openBurstChoice p bad => exact execOpenBurstChoice_keeps (.refl _ s) (.refl _) p bad t h
  | openHoldExpiry w dest => exact execOpenHoldExpiry_keeps (.refl _ s) (.refl _) w dest t h
  | backoffExpiry w dest => exact execBackoffExpiry_keeps (.refl _ s) (.refl _) w dest t h
  | frameAccepted w bad => exact execFrameAccepted_keeps (.refl _ s) (.refl _) w bad t h
  | rtoExpiry w p bad => exact execRtoExpiry_keeps (.refl _ s) (.refl _) w p bad t h
  | ackIntervalExpiry w p => exact execAckIntervalExpiry_keeps (.refl _ s) (.refl _) w p t h
  | ctxIdleExpiry w p rx => exact execCtxIdleExpiry_keeps (.refl _ s) (.refl _) w p rx t h
  | losSpareDelayExpiry p => exact execLosSpareDelayExpiry_keeps (.refl _ s) (.refl _) p t h
  | failureMoveMap w => exact execFailureMoveMap_keeps (.refl _ s) (.refl _) w t h
  | moveSettleExpiry w => exact execMoveSettleExpiry_keeps (.refl _ s) (.refl _) w t h
  | moveLimitExpiry w => exact execMoveLimitExpiry_keeps (.refl _ s) (.refl _) w t h
  | moveSwitchZeroScale w => exact execMoveSwitchZeroScale_keeps (.refl _ s) (.refl _) w t h
  | deliverySetRetention k => exact execDeliverySetRetention_keeps (.refl _ s) (.refl _) k t h
  | deliverySetTimers k => exact execDeliverySetTimers_keeps (.refl _ s) (.refl _) k t h
  | deliverySetQuota k => exact execDeliverySetQuota_keeps (.refl _ s) (.refl _) k t h
  | deliverySetSketch k => exact execDeliverySetSketch_keeps (.refl _ s) (.refl _) k t h
  | deliverySetSparePolicy k => exact execDeliverySetSparePolicy_keeps (.refl _ s) (.refl _) k t h
  | deliveryReleasePeer k => exact execDeliveryReleasePeer_keeps (.refl _ s) (.refl _) k t h
  | deliverySpareMove k => exact execDeliverySpareMove_keeps (.refl _ s) (.refl _) k t h
  | deliveryReintegrate k => exact execDeliveryReintegrate_keeps (.refl _ s) (.refl _) k t h
  | deliveryGetMap k => exact execDeliveryGetMap_keeps (.refl _ s) (.refl _) k t h
  | deliveryGetStatus k => exact execDeliveryGetStatus_keeps (.refl _ s) (.refl _) k t h
  | txBlockStart g bad => exact execTxBlockStart_keeps (.refl _ s) (.refl _) g bad t h
  | commaReceived g blocks => exact execCommaReceived_keeps (.refl _ s) (.refl _) g blocks t h
  | swatchReceived g => exact execSwatchReceived_keeps (.refl _ s) (.refl _) g t h
  | replayTimeout g => exact execReplayTimeout_keeps (.refl _ s) (.refl _) g t h
  | repairReq g role => exact execRepairReq_keeps (.refl _ s) (.refl _) g role t h
  | idleEnter g => exact execIdleEnter_keeps (.refl _ s) (.refl _) g t h
  | retrainReq g => exact execRetrainReq_keeps (.refl _ s) (.refl _) g t h
  | spareOk g lane => exact execSpareOk_keeps (.refl _ s) (.refl _) g lane t h
  | trainPhaseLock g => exact execTrainPhaseLock_keeps (.refl _ s) (.refl _) g t h
  | trainLimitExpiry g => exact execTrainLimitExpiry_keeps (.refl _ s) (.refl _) g t h
  | wanderLimit g => exact execWanderLimit_keeps (.refl _ s) (.refl _) g t h
  | hckrxStop g => exact execHckrxStop_keeps (.refl _ s) (.refl _) g t h
  | txElectricalIdleEntry g => exact execTxElectricalIdleEntry_keeps (.refl _ s) (.refl _) g t h
  | txWake g => exact execTxWake_keeps (.refl _ s) (.refl _) g t h
  | rxWakeBurst g => exact execRxWakeBurst_keeps (.refl _ s) (.refl _) g t h
  | rxWakeCommaTimeout g => exact execRxWakeCommaTimeout_keeps (.refl _ s) (.refl _) g t h
  | hostLaneFail g lane reason => exact execHostLaneFail_keeps (.refl _ s) (.refl _) g lane reason t h
  | spareSubstitution g => exact execSpareSubstitution_keeps (.refl _ s) (.refl _) g t h
  | clockMove g => exact execClockMove_keeps (.refl _ s) (.refl _) g t h
  | groupIdleTimerExpiry g => exact execGroupIdleTimerExpiry_keeps (.refl _ s) (.refl _) g t h
  | hostTrain k => exact execHostTrain_keeps (.refl _ s) (.refl _) k t h
  | hostSetLink k => exact execHostSetLink_keeps (.refl _ s) (.refl _) k t h
  | hostSetTx k => exact execHostSetTx_keeps (.refl _ s) (.refl _) k t h
  | hostRepair k => exact execHostRepair_keeps (.refl _ s) (.refl _) k t h
  | hostSetLoopback k => exact execHostSetLoopback_keeps (.refl _ s) (.refl _) k t h
  | hostGetStatus k => exact execHostGetStatus_keeps (.refl _ s) (.refl _) k t h
  | hostResetGroup k => exact execHostResetGroup_keeps (.refl _ s) (.refl _) k t h
  | groupResetDone g discarded => exact execGroupResetDone_keeps (.refl _ s) (.refl _) g discarded t h
  | hostSetPower k => exact execHostSetPower_keeps (.refl _ s) (.refl _) k t h
  | biasWrite k => exact execBiasWrite_keeps (.refl _ s) (.refl _) k t h
  | biasSetLimits k => exact execBiasSetLimits_keeps (.refl _ s) (.refl _) k t h
  | biasSetRange k => exact execBiasSetRange_keeps (.refl _ s) (.refl _) k t h
  | biasClearFault k gone => exact execBiasClearFault_keeps (.refl _ s) (.refl _) k gone t h
  | biasSetSafe k => exact execBiasSetSafe_keeps (.refl _ s) (.refl _) k t h
  | biasSetAggLimit k => exact execBiasSetAggLimit_keeps (.refl _ s) (.refl _) k t h
  | biasGetStatus k => exact execBiasGetStatus_keeps (.refl _ s) (.refl _) k t h
  | biasSetLoop k => exact execBiasSetLoop_keeps (.refl _ s) (.refl _) k t h
  | biasLoopCtrl k => exact execBiasLoopCtrl_keeps (.refl _ s) (.refl _) k t h
  | biasCodeApply o => exact execBiasCodeApply_keeps (.refl _ s) (.refl _) o t h
  | deglitchStep o => exact execDeglitchStep_keeps (.refl _ s) (.refl _) o t h
  | rangeChangeDone o => exact execRangeChangeDone_keeps (.refl _ s) (.refl _) o t h
  | biasFault o => exact execBiasFault_keeps (.refl _ s) (.refl _) o t h
  | biasSupplyLow low => exact execBiasSupplyLow_keeps (.refl _ s) (.refl _) low t h
  | supplyGate on aonLost => exact execSupplyGate_keeps (.refl _ s) (.refl _) on aonLost t h
  | monSetPair k => exact execMonSetPair_keeps (.refl _ s) (.refl _) k t h
  | monSetSeq k => exact execMonSetSeq_keeps (.refl _ s) (.refl _) k t h
  | monStart k => exact execMonStart_keeps (.refl _ s) (.refl _) k t h
  | monStop k => exact execMonStop_keeps (.refl _ s) (.refl _) k t h
  | monInject k => exact execMonInject_keeps (.refl _ s) (.refl _) k t h
  | monReadChannel k => exact execMonReadChannel_keeps (.refl _ s) (.refl _) k t h
  | monReadChannelTimeout u k => exact execMonReadChannelTimeout_keeps (.refl _ s) (.refl _) u k t h
  | monSetFrame k => exact execMonSetFrame_keeps (.refl _ s) (.refl _) k t h
  | monReadResults k => exact execMonReadResults_keeps (.refl _ s) (.refl _) k t h
  | monGetStatus k => exact execMonGetStatus_keeps (.refl _ s) (.refl _) k t h
  | monSetPin k => exact execMonSetPin_keeps (.refl _ s) (.refl _) k t h
  | loopSlotStart u slot => exact execLoopSlotStart_keeps (.refl _ s) (.refl _) u slot t h
  | conversionDone u nV => exact execConversionDone_keeps (.refl _ s) (.refl _) u nV t h
  | trigEdge pin rising => exact execTrigEdge_keeps (.refl _ s) (.refl _) pin rising t h
  | trigPulseEnd pin => exact execTrigPulseEnd_keeps (.refl _ s) (.refl _) pin t h
  | filterOutputRelease c => exact execFilterOutputRelease_keeps (.refl _ s) (.refl _) c t h
  | dcFreezeExpiry c => exact execDcFreezeExpiry_keeps (.refl _ s) (.refl _) c t h
  | filterSetChannel k => exact execFilterSetChannel_keeps (.refl _ s) (.refl _) k t h
  | filterLoadCoeff k => exact execFilterLoadCoeff_keeps (.refl _ s) (.refl _) k t h
  | filterFreezeDc k => exact execFilterFreezeDc_keeps (.refl _ s) (.refl _) k t h
  | filterRead k => exact execFilterRead_keeps (.refl _ s) (.refl _) k t h
  | ditherHalfPeriod o => exact execDitherHalfPeriod_keeps (.refl _ s) (.refl _) o t h
  | loopUpdate o => exact execLoopUpdate_keeps (.refl _ s) (.refl _) o t h
  | sensorSample readings => exact execSensorSample_keeps (.refl _ s) (.refl _) readings t h
  | powerMeasurement rails vBias outs => exact execPowerMeasurement_keeps (.refl _ s) (.refl _) rails vBias outs t h
  | throttleTick errs => exact execThrottleTick_keeps (.refl _ s) (.refl _) errs t h
  | tripSample => exact execTripSample_keeps (.refl _ s) (.refl _) t h
  | tripRecoverTimer => exact execTripRecoverTimer_keeps (.refl _ s) (.refl _) t h
  | tripRecoveryPowerUp => exact execTripRecoveryPowerUp_keeps (.refl _ s) (.refl _) t h
  | pllTrimStep => exact execPllTrimStep_keeps (.refl _ s) (.refl _) t h
  | calRunStart => exact execCalRunStart_keeps (.refl _ s) (.refl _) t h
  | calPeriodExpiry p => exact execCalPeriodExpiry_keeps (.refl _ s) (.refl _) p t h
  | wearMeasurement counts swings => exact execWearMeasurement_keeps (.refl _ s) (.refl _) counts swings t h
  | marginPlan daily lanes => exact execMarginPlan_keeps (.refl _ s) (.refl _) daily lanes t h
  | planWriteDone => exact execPlanWriteDone_keeps (.refl _ s) (.refl _) t h
  | calRunLane k => exact execCalRunLane_keeps (.refl _ s) (.refl _) k t h
  | calSetTriggers k => exact execCalSetTriggers_keeps (.refl _ s) (.refl _) k t h
  | calPinLane k => exact execCalPinLane_keeps (.refl _ s) (.refl _) k t h
  | calSetFloor k => exact execCalSetFloor_keeps (.refl _ s) (.refl _) k t h
  | calGetStatus k => exact execCalGetStatus_keeps (.refl _ s) (.refl _) k t h
  | calPlanNow k => exact execCalPlanNow_keeps (.refl _ s) (.refl _) k t h
  | calGetAgeing k => exact execCalGetAgeing_keeps (.refl _ s) (.refl _) k t h
  | calSetEstimator k => exact execCalSetEstimator_keeps (.refl _ s) (.refl _) k t h
  | thermGetStatus k => exact execThermGetStatus_keeps (.refl _ s) (.refl _) k t h
  | thermSetLimits k => exact execThermSetLimits_keeps (.refl _ s) (.refl _) k t h
  | thermRestoreSensor k => exact execThermRestoreSensor_keeps (.refl _ s) (.refl _) k t h
  | thermClearTrip k => exact execThermClearTrip_keeps (.refl _ s) (.refl _) k t h
  | porstNAssert => exact execPorstNAssert_keeps (.refl _ s) (.refl _) t h
  | porstNRelease straps refclk fabclk => exact execPorstNRelease_keeps (.refl _ s) (.refl _) straps refclk fabclk t h
  | rootPllLock => exact execRootPllLock_keeps (.refl _ s) (.refl _) t h
  | timebaseLock => exact execTimebaseLock_keeps (.refl _ s) (.refl _) t h
  | pllLockLoss => exact execPllLockLoss_keeps (.refl _ s) (.refl _) t h
  | refLoss fab => exact execRefLoss_keeps (.refl _ s) (.refl _) fab t h
  | refValid fab => exact execRefValid_keeps (.refl _ s) (.refl _) fab t h
  | aonFallbackSwitch => exact execAonFallbackSwitch_keeps (.refl _ s) (.refl _) t h
  | aonTick => exact execAonTick_keeps (.refl _ s) (.refl _) t h
  | crossingTimeout domain k => exact execCrossingTimeout_keeps (.refl _ s) (.refl _) domain k t h
  | ctlrstNAssert => exact execCtlrstNAssert_keeps (.refl _ s) (.refl _) t h
  | ctlrstNRelease discarded => exact execCtlrstNRelease_keeps (.refl _ s) (.refl _) discarded t h
  | ctlResetDone => exact execCtlResetDone_keeps (.refl _ s) (.refl _) t h
  | watchdogExpiry c => exact execWatchdogExpiry_keeps (.refl _ s) (.refl _) c t h
  | coreRejoin c discarded => exact execCoreRejoin_keeps (.refl _ s) (.refl _) c discarded t h
  | hbeatToggle served => exact execHbeatToggle_keeps (.refl _ s) (.refl _) served t h
  | laneIdleTimerExpiry p near => exact execLaneIdleTimerExpiry_keeps (.refl _ s) (.refl _) p near t h
  | laneIdleExit p => exact execLaneIdleExit_keeps (.refl _ s) (.refl _) p t h
  | laneDozeTimerExpiry p => exact execLaneDozeTimerExpiry_keeps (.refl _ s) (.refl _) p t h
  | laneDozeExitDone p => exact execLaneDozeExitDone_keeps (.refl _ s) (.refl _) p t h
  | quietTimerExpiry => exact execQuietTimerExpiry_keeps (.refl _ s) (.refl _) t h
  | powerSetTimers k => exact execPowerSetTimers_keeps (.refl _ s) (.refl _) k t h
  | powerEnterDormant k => exact execPowerEnterDormant_keeps (.refl _ s) (.refl _) k t h
  | dormantCommit => exact execDormantCommit_keeps (.refl _ s) (.refl _) t h
  | dormantReached => exact execDormantReached_keeps (.refl _ s) (.refl _) t h
  | powerGetResidency k => exact execPowerGetResidency_keeps (.refl _ s) (.refl _) k t h
  | wakeSource src => exact execWakeSource_keeps (.refl _ s) (.refl _) src t h
  | wakeComplete discarded => exact execWakeComplete_keeps (.refl _ s) (.refl _) discarded t h
  | avsAck refused => exact execAvsAck_keeps (.refl _ s) (.refl _) refused t h
  | avsAckTimeout => exact execAvsAckTimeout_keeps (.refl _ s) (.refl _) t h
  | avsSettleExpiry => exact execAvsSettleExpiry_keeps (.refl _ s) (.refl _) t h
  | devCtlReset k discarded => exact execDevCtlReset_keeps (.refl _ s) (.refl _) k discarded t h
  | devResetCore k => exact execDevResetCore_keeps (.refl _ s) (.refl _) k t h
  | devSetWatchdog k => exact execDevSetWatchdog_keeps (.refl _ s) (.refl _) k t h
  | devPublishSnapshot k => exact execDevPublishSnapshot_keeps (.refl _ s) (.refl _) k t h
  | snapshotPublished => exact execSnapshotPublished_keeps (.refl _ s) (.refl _) t h
  | devGetCores k => exact execDevGetCores_keeps (.refl _ s) (.refl _) k t h
  | repairWrite a => exact execRepairWrite_keeps (.refl _ s) (.refl _) a t h
  | poisonWrite a => exact execPoisonWrite_keeps (.refl _ s) (.refl _) a t h
  | scrubRead a flips => exact execScrubRead_keeps (.refl _ s) (.refl _) a flips t h
  | scrubLapLimit a => exact execScrubLapLimit_keeps (.refl _ s) (.refl _) a t h
  | remapCopy a => exact execRemapCopy_keeps (.refl _ s) (.refl _) a t h
  | remapRecord a => exact execRemapRecord_keeps (.refl _ s) (.refl _) a t h
  | memGetStatus k => exact execMemGetStatus_keeps (.refl _ s) (.refl _) k t h
  | memSetScrub k => exact execMemSetScrub_keeps (.refl _ s) (.refl _) k t h
  | memRemap k => exact execMemRemap_keeps (.refl _ s) (.refl _) k t h
  | memInject k => exact execMemInject_keeps (.refl _ s) (.refl _) k t h
  | spiWrite op addr data => exact execSpiWrite_keeps (.refl _ s) (.refl _) op addr data t h
  | spiRead addr clocked => exact execSpiRead_keeps (.refl _ s) (.refl _) addr clocked t h
  | spiWriteC addr rest => exact execSpiWriteC_keeps (.refl _ s) (.refl _) addr rest t h
  | spiReadC addr count clocked => exact execSpiReadC_keeps (.refl _ s) (.refl _) addr count clocked t h
  | smbusBlockWrite target count addr data pec =>
    exact execSmbusBlockWrite_keeps (.refl _ s) (.refl _) target count addr data pec t h
  | smbusProcessCall target count addr words clocked =>
    exact execSmbusProcessCall_keeps (.refl _ s) (.refl _) target count addr words clocked t h
  | smbusTimeout => exact execSmbusTimeout_keeps (.refl _ s) (.refl _) t h
  | registerWrite j addr data => exact execRegisterWrite_keeps (.refl _ s) (.refl _) j addr data t h
  | rcFieldRead j addr => exact execRcFieldRead_keeps (.refl _ s) (.refl _) j addr t h
  | indAddrWrite j high data => exact execIndAddrWrite_keeps (.refl _ s) (.refl _) j high data t h
  | indPrefetchDone j result => exact execIndPrefetchDone_keeps (.refl _ s) (.refl _) j result t h
  | indDataRead j => exact execIndDataRead_keeps (.refl _ s) (.refl _) j t h
  | indDataWrite j data => exact execIndDataWrite_keeps (.refl _ s) (.refl _) j data t h
  | indWriteApply j => exact execIndWriteApply_keeps (.refl _ s) (.refl _) j t h
  | sessionOpen j k priv notify tag => exact execSessionOpen_keeps (.refl _ s) (.refl _) j k priv notify tag t h
  | sessionClose k => exact execSessionClose_keeps (.refl _ s) (.refl _) k t h
  | doorbellRing j k seq => exact execDoorbellRing_keeps (.refl _ s) (.refl _) j k seq t h
  | evqAck qseq => exact execEvqAck_keeps (.refl _ s) (.refl _) qseq t h
  | sessionGetChallenge k => exact execSessionGetChallenge_keeps (.refl _ s) (.refl _) k t h
  | sessionAuth k => exact execSessionAuth_keeps (.refl _ s) (.refl _) k t h
  | sessionStage k => exact execSessionStage_keeps (.refl _ s) (.refl _) k t h
  | eventRead k => exact execEventRead_keeps (.refl _ s) (.refl _) k t h
  | eventAck k => exact execEventAck_keeps (.refl _ s) (.refl _) k t h
  | perfListSelectors k => exact execPerfListSelectors_keeps (.refl _ s) (.refl _) k t h
  | perfSnapshot k => exact execPerfSnapshot_keeps (.refl _ s) (.refl _) k t h
  | perfConfigure k => exact execPerfConfigure_keeps (.refl _ s) (.refl _) k t h
  | perfSetSample k => exact execPerfSetSample_keeps (.refl _ s) (.refl _) k t h
  | perfReadSamples k => exact execPerfReadSamples_keeps (.refl _ s) (.refl _) k t h
  | perfCounterOverflow c j address two => exact execPerfCounterOverflow_keeps (.refl _ s) (.refl _) c j address two t h
  | bootRomStart => exact execBootRomStart_keeps (.refl _ s) (.refl _) t h
  | signingStateReady => exact execSigningStateReady_keeps (.refl _ s) (.refl _) t h
  | secGetState k => exact execSecGetState_keeps (.refl _ s) (.refl _) k t h
  | secAttest k bad switched => exact execSecAttest_keeps (.refl _ s) (.refl _) k bad switched t h
  | secSetLifecycle k ok => exact execSecSetLifecycle_keeps (.refl _ s) (.refl _) k ok t h
  | secSetOwnerKey k => exact execSecSetOwnerKey_keeps (.refl _ s) (.refl _) k t h
  | testStart k => exact execTestStart_keeps (.refl _ s) (.refl _) k t h
  | testAbort k => exact execTestAbort_keeps (.refl _ s) (.refl _) k t h
  | testGetResult k => exact execTestGetResult_keeps (.refl _ s) (.refl _) k t h
  | testCheckDone x => exact execTestCheckDone_keeps (.refl _ s) (.refl _) x t h
  | testComplete => exact execTestComplete_keeps (.refl _ s) (.refl _) t h
  | imageBegin k => exact execImageBegin_keeps (.refl _ s) (.refl _) k t h
  | imageWrite k => exact execImageWrite_keeps (.refl _ s) (.refl _) k t h
  | imageGetStatus k => exact execImageGetStatus_keeps (.refl _ s) (.refl _) k t h
  | imageActivate k => exact execImageActivate_keeps (.refl _ s) (.refl _) k t h
  | imageConfirm k => exact execImageConfirm_keeps (.refl _ s) (.refl _) k t h
  | imageAbort k => exact execImageAbort_keeps (.refl _ s) (.refl _) k t h
  | imageSetRelay k => exact execImageSetRelay_keeps (.refl _ s) (.refl _) k t h
  | headerVerdict => exact execHeaderVerdict_keeps (.refl _ s) (.refl _) t h
  | sectorWriteDone ok => exact execSectorWriteDone_keeps (.refl _ s) (.refl _) ok t h
  | bodyVerifyDone ok => exact execBodyVerifyDone_keeps (.refl _ s) (.refl _) ok t h
  | coreSwapDone => exact execCoreSwapDone_keeps (.refl _ s) (.refl _) t h
  | hostSourceTimeout => exact execHostSourceTimeout_keeps (.refl _ s) (.refl _) t h
  | hello q payload crc => exact execHello_keeps (.refl _ s) (.refl _) q payload crc t h
  | offer q payload crc => exact execOffer_keeps (.refl _ s) (.refl _) q payload crc t h
  | data q payload crc => exact execData_keeps (.refl _ s) (.refl _) q payload crc t h
  | ack q payload crc => exact execAck_keeps (.refl _ s) (.refl _) q payload crc t h
  | nak q payload crc => exact execNak_keeps (.refl _ s) (.refl _) q payload crc t h
  | refillReq q payload crc => exact execRefillReq_keeps (.refl _ s) (.refl _) q payload crc t h
  | abort q payload crc => exact execAbort_keeps (.refl _ s) (.refl _) q payload crc t h
  | helloRepeat q => exact execHelloRepeat_keeps (.refl _ s) (.refl _) q t h
  | relayResendTimeout q => exact execRelayResendTimeout_keeps (.refl _ s) (.refl _) q t h
  | relaySourceTimeout q sender => exact execRelaySourceTimeout_keeps (.refl _ s) (.refl _) q sender t h
  | relayPortDown q => exact execRelayPortDown_keeps (.refl _ s) (.refl _) q t h
  | relayPortUp q => exact execRelayPortUp_keeps (.refl _ s) (.refl _) q t h
  | refillRetry => exact execRefillRetry_keeps (.refl _ s) (.refl _) t h
  | loaderRefillRetry => exact execLoaderRefillRetry_keeps (.refl _ s) (.refl _) t h
  | adaptationUpdate p raw => exact execAdaptationUpdate_keeps (.refl _ s) (.refl _) p raw t h
  | laneOffExitDone p => exact execLaneOffExitDone_keeps (.refl _ s) (.refl _) p t h
  | saveSlotWritten scope idx => exact execSaveSlotWritten_keeps (.refl _ s) (.refl _) scope idx t h
  | clockStretchLimit => exact execClockStretchLimit_keeps (.refl _ s) (.refl _) t h

/-- Settles O5, command by command from the frame of its meaning. -/
theorem commandFrames : Obligations.CommandFrames := fun _ _ _ h => exec_keeps h

end Sys2Proof.Machine
end

section
/-!
Lock bits stay set (R9, Table 12-5).
-/
namespace Sys2Proof.Machine

/-- Every bit of SYS_LOCK that is set in `s` is set in `t`. -/
def LocksKept (s t : State) : Prop := s.ctl.sysLock &&& t.ctl.sysLock = s.ctl.sysLock

theorem LocksKept.of_sameBut {ps : List Part} {s t : State} (h : SameBut ps s t) (hp : .lock ∉ ps) : LocksKept s t := by
  have e : t.ctl.sysLock = s.ctl.sysLock := h .lock hp
  rw [LocksKept, e, BitVec.and_self]

theorem LocksKept.refl (s : State) : LocksKept s s := BitVec.and_self

theorem LocksKept.ite {s a b : State} {c : Prop} [Decidable c] (ha : LocksKept s a) (hb : LocksKept s b) :
    LocksKept s (if c then a else b) := by split <;> assumption

theorem LocksKept.trans {s t u : State} (h : LocksKept s t) (k : LocksKept t u) : LocksKept s u := by
  unfold LocksKept at *
  rw [← h, BitVec.and_assoc, k]

/-- A direct register other than SYS_LOCK, when written, leaves SYS_LOCK and everything outside the control plane. -/
theorem State.writeReg_sameBut_of_ne_lock (s : State) (i : Iface) (addr : Nat) (d : Word) (h : addr ≠ 0x030) :
    SameBut [.bus, .sess, .ev, .perf, .trigPins] s (s.writeReg i addr d) := by
  have r := SameBut.refl [.bus, .sess, .ev, .perf, .trigPins] s
  unfold State.writeReg
  split
  · exact absurd rfl h
  · exact r.modCtl (by intro q hq; cases q <;> first | rfl | exact absurd (by decide) hq)
  · exact r.modCtl (by intro q hq; cases q <;> first | rfl | exact absurd (by decide) hq)
  · exact State.modWindow_keeps r (by decide) _ _
  · exact State.modWindow_keeps r (by decide) _ _
  · exact State.modWindow_keeps r (by decide) _ _
  · exact State.indPost_keeps r (by decide) _ _
  · exact State.writeEvents_keeps r (by decide) _
  · exact State.writeEvents_keeps r (by decide) _
  · exact State.writeAck_keeps r (by decide) _
  · refine .ite (State.writeEvents_keeps r (by decide) _) (.ite (.ite ?_ (.ite ?_ r)) r)
    · exact State.writeSessCtrl_keeps r (by decide) _ _ _
    · exact State.writeBell_keeps r (by decide) _ _ _

/-- A write to SYS_LOCK sets the bits of its word; every other register leaves SYS_LOCK (Table 12-5). -/
theorem State.writeReg_locksKept (s : State) (i : Iface) (addr : Nat) (d : Word) : LocksKept s (s.writeReg i addr d) := by
  by_cases h : addr = 0x030
  · subst h
    show s.ctl.sysLock &&& (s.ctl.sysLock ||| d.extractLsb' 0 7) = _
    ext j
    simp +contextual
  · exact .of_sameBut (s.writeReg_sameBut_of_ne_lock i addr d h) (by decide)

theorem State.writeBurst_locksKept (s : State) (i : Iface) (start a : Nat) (l : List Word) :
    LocksKept s (s.writeBurst i start a l) := by
  induction l generalizing s a with
  | nil => exact .refl s
  | cons d l ih =>
    unfold State.writeBurst
    have written : LocksKept s (if a ≤ 0xFFC then s.writeReg i a d else s) :=
      .ite (s.writeReg_locksKept i a d) (.refl s)
    refine written.trans (.trans (.ite ?_ (.refl _)) (ih _ _))
    exact .of_sameBut (State.drainFifo_keeps (.refl [.bus, .sess] _) (by decide) i) (by decide)

theorem State.busErr_locksKept (s : State) (i : Iface) (bit : Nat) : LocksKept s (s.busErr i bit) :=
  .of_sameBut (State.busErr_keeps (.refl [.bus, .ev, .trigPins] s) (by decide) i bit) (by decide)

theorem execSpiWrite_locksKept (op : Byte) (addr : BitVec 16) (data : Bytes) (s t : State)
    (h : execSpiWrite op addr data s = .next t) : LocksKept s t := by
  obtain rfl := Host.Outcome.next.inj h
  have written : LocksKept s (if s.ctl.bus.crcReq then s.busErr .spi 1
      else s.writeBurst .spi addr.toNat addr.toNat (busWords data)) :=
    .ite (s.busErr_locksKept _ _) (s.writeBurst_locksKept _ _ _ _)
  refine .ite (.refl s) (.ite (s.busErr_locksKept _ _) (.ite (s.busErr_locksKept _ _) ?_))
  exact .ite (written.trans (State.busErr_locksKept _ _ _)) written

theorem execSpiWriteC_locksKept (addr : BitVec 16) (rest : Bytes) (s t : State)
    (h : execSpiWriteC addr rest s = .next t) : LocksKept s t := by
  obtain rfl := Host.Outcome.next.inj h
  have long : LocksKept s (if 64 < rest.length / 4 then s.busErr .spi 4 else s) :=
    .ite (s.busErr_locksKept _ _) (.refl s)
  have refused := LocksKept.ite (c := rest.length % 4 ≠ 1) (long.trans (State.busErr_locksKept _ .spi 5)) long
  have taken {c : Prop} [Decidable c] : LocksKept s (if c then s.busErr .spi 0
      else s.writeBurst .spi addr.toNat addr.toNat (busWords (rest.take (rest.length - 1)))) :=
    .ite (s.busErr_locksKept _ _) (s.writeBurst_locksKept _ _ _ _)
  exact .ite (.refl s) (.ite (s.busErr_locksKept _ _) (.ite refused taken))

theorem execSmbusBlockWrite_locksKept (target : BitVec 7) (count : Byte) (addr : BitVec 16) (data : Bytes)
    (pec : Option Byte) (s t : State) (h : execSmbusBlockWrite target count addr data pec s = .next t) :
    LocksKept s t := by
  obtain rfl := Host.Outcome.next.inj h
  refine .ite (.refl s) (.ite (s.busErr_locksKept _ _) (.ite (s.busErr_locksKept _ _) (.ite (.refl s) ?_)))
  cases pec with
  | none => exact .ite (s.busErr_locksKept _ _) (s.writeBurst_locksKept _ _ _ _)
  | some b => exact .ite (s.writeBurst_locksKept _ _ _ _) (s.busErr_locksKept _ _)

theorem execRegisterWrite_locksKept (i : Iface) (addr : BitVec 16) (d : Word) (s t : State)
    (h : execRegisterWrite i addr d s = .next t) : LocksKept s t := by
  obtain rfl := Host.Outcome.next.inj h
  exact .ite (.refl s) (.ite (s.busErr_locksKept _ _) (s.writeReg_locksKept _ _ _))

theorem execIndAddrWrite_locksKept (i : Iface) (high : Bool) (d : Word) (s t : State)
    (h : execIndAddrWrite i high d s = .next t) : LocksKept s t := by
  obtain rfl := Host.Outcome.next.inj h
  exact .ite (s.writeReg_locksKept _ _ _) (.refl s)

/-- Settles O15: commands that do not touch SYS_LOCK keep it whole, and the bus writes that do only set bits. -/
theorem lockBitsStaySet : Obligations.LockBitsStaySet := by
  intro i s t hPor hLoss hWake h
  show LocksKept s t
  by_cases hl : .lock ∈ i.touches
  · cases i with
    | porstNAssert => exact absurd rfl hPor
    | pllLockLoss => exact absurd rfl hLoss
    | wakeComplete d => exact absurd rfl (hWake d)
    | spiWrite op addr data => exact execSpiWrite_locksKept op addr data s t h
    | spiWriteC addr rest => exact execSpiWriteC_locksKept addr rest s t h
    | smbusBlockWrite target count addr data pec => exact execSmbusBlockWrite_locksKept target count addr data pec s t h
    | registerWrite j addr d => exact execRegisterWrite_locksKept j addr d s t h
    | indAddrWrite j high d => exact execIndAddrWrite_locksKept j high d s t h
    | _ => exact absurd hl (of_decide_eq_false rfl)
  · exact .of_sameBut (exec_keeps h) hl

end Sys2Proof.Machine
end

section
/-!
The state right after power-on reset (R4, R10).
-/
namespace Sys2Proof.Machine

/-- A working lane starts on one of the first 16 lanes of its bank, so the last one is spare (R4). -/
theorem State.reset_workOf_last (b : Bank) (h : 17 * b.val + 16 < 136) :
    State.reset.workOf ⟨17 * b.val + 16, h⟩ = none := by
  simp only [State.workOf, List.find?_eq_none, decide_eq_true_eq]
  intro w _ e
  have e : homeOf w = ⟨17 * b.val + 16, h⟩ := by simpa [State.reset, WorkLane.reset] using e
  simp only [homeOf, Fin.mk.injEq] at e
  omega

/-- Every defined event is enabled after reset (Table 12-7). -/
theorem EventUnit.reset_enabled (e : Ev) : EventUnit.reset.enabled e = true := by
  cases e <;> decide +kernel

/-- Settles O11, unit by unit from the reset records. -/
theorem resetState : Obligations.ResetState := by
  refine ⟨fun w => ?_, State.reset_workOf_last, fun p => ?_, fun g => ?_, rfl, rfl, rfl, rfl,
    EventUnit.reset_enabled, fun k => ?_, rfl, rfl, rfl, rfl, rfl⟩
  · simp [State.physOf, State.reset, WorkLane.reset, homeOf]
  · simp [State.modeOf, State.reset, LaneUnit.reset]
  · simp [State.grp, State.reset, HostGroup.reset]
  · simp [State.sess, State.reset, ControlPlane.reset]

end Sys2Proof.Machine
end

section
/-!
Power-on reset and the clock events (chapter 10).
-/
namespace Sys2Proof.Machine

theorem execPorstNRelease_inReset {s : State} {straps : BitVec 4} {ref fab : Bool} (h : s.sys.clk.phase = .inReset) :
    execPorstNRelease straps ref fab s = .next (s.startUp straps ref fab) := by
  simp [execPorstNRelease, h]

theorem execRootPllLock_atStartUp {s : State} (hr : s.sys.clk.rootLock = false) (ho : s.refOk = true)
    (hp : s.sys.clk.phase = .waitLock) :
    execRootPllLock s = .next
      ((s.modClk fun c => { c with phase := .locked, rootLock := true, counting := true, deviceTime := 0 }).modSys fun u =>
        { u with mem := { u.mem with arr := u.mem.arr.map (·.clearValid) } }) := by
  simp [execRootPllLock, hr, ho, hp]

theorem execRootPllLock_atWake {s : State} {src : Nat} (hr : s.sys.clk.rootLock = false) (ho : s.refOk = true)
    (hp : s.sys.clk.phase ≠ .waitLock) (hd : s.sys.power.dormantPhase = .waking src)
    (ht : s.sys.clk.timebaseLock = true) (hq : s.sys.avs.openReq = none) :
    execRootPllLock s = .next (s.modClk fun c => { c with rootLock := true, waitTick := true }) := by
  simp [execRootPllLock, hr, ho, hp, hd, ht, hq]

theorem execTimebaseLock_ready {s : State} (hp : s.sys.clk.phase ≠ .inReset) (ho : s.refOk = true)
    (hd : s.sys.power.dormantPhase ≠ .dormant) :
    execTimebaseLock s = .next (s.modClk fun c => { c with timebaseLock := true }) := by
  simp [execTimebaseLock, hp, ho, hd]

theorem execPllLockLoss_locked {s : State} (hr : s.sys.clk.rootLock = true) (ho : s.refOk = true) :
    execPllLockLoss s =
      .next ((s.powerOnReset true).startUp s.sys.clk.straps s.sys.clk.refclkOk s.sys.clk.fabclkOk) := by
  simp [execPllLockLoss, hr, ho]

/-- The selected reference is valid just when its own input is. -/
theorem State.refOk_of_selected {s : State} {fab : Bool} (hs : s.selected fab = true) :
    s.refOk = if fab then s.sys.clk.fabclkOk else s.sys.clk.refclkOk := by
  simp only [State.selected, beq_iff_eq] at hs
  rw [State.refOk, hs]

/-- An input that turns invalid or valid (R295). -/
def State.setRef (s : State) (fab ok : Bool) : State :=
  s.modClk fun c => if fab then { c with fabclkOk := ok } else { c with refclkOk := ok }

theorem execRefLoss_selected {s : State} {fab : Bool} (ho : s.refOk = true) (hs : s.selected fab = true)
    (hr : s.sys.clk.rootLock = true) (hp : s.sys.clk.phase ≠ .inReset) :
    execRefLoss fab s = .next ((((s.setRef fab false).modClk fun c => { c with refLost := true }).modClk fun c =>
      { c with holdover := true }).raise .clkRefLoss) := by
  rw [State.refOk_of_selected hs] at ho
  cases fab <;> simp_all [execRefLoss, State.setRef, State.selected]

theorem execRefLoss_other {s : State} {fab : Bool} (hs : s.selected fab = false) :
    execRefLoss fab s = .next (s.setRef fab false) := by
  cases fab <;> simp_all [execRefLoss, State.setRef, State.selected]

theorem execRefValid_selected {s : State} {fab : Bool} (hs : s.selected fab = true) (hh : s.sys.clk.holdover = true) :
    execRefValid fab s =
      .next (((s.setRef fab true).modClk fun c => { c with holdover := false }).raise .clkRefRestored) := by
  cases fab <;> simp_all [execRefValid, State.setRef, State.selected]

theorem execAonFallbackSwitch_differs {s : State} (hp : s.sys.clk.phase ≠ .inReset)
    (h : s.sys.clk.aonFallback = s.sys.clk.refclkOk) :
    execAonFallbackSwitch s = .next ((s.modClk fun c => { c with aonFallback := !s.sys.clk.refclkOk }).raise
      (if !s.sys.clk.refclkOk then .clkAonFallback else .clkAonRestored)) := by
  simp [execAonFallbackSwitch, hp, h]

theorem execCrossingTimeout_waiting {s : State} {k : Sess} {c : Accepted} (domain : Nat)
    (hc : (s.sess k).cmd = some c) :
    execCrossingTimeout domain (some k) s =
      .next ((s.raise .clkXingTimeout (Config.crossing domain)).respond k .timeout 0 []) := by
  have cmd : ((s.raise .clkXingTimeout (Config.crossing domain)).sess k).cmd.isSome = true := by
    simpa [State.sess] using congrArg Option.isSome hc
  simp [execCrossingTimeout, cmd]

/-- Settles O48: each event's next state written out, and its fields read off. -/
theorem powerOnAndClocks : Obligations.PowerOnAndClocks := by
  refine ⟨fun s => ⟨s.powerOnReset false, rfl, rfl, rfl, rfl, rfl, rfl, rfl, rfl, rfl, rfl, rfl, rfl, rfl⟩,
    ?_, ?_, ?_, ?_, ?_, ?_, ?_, ?_, ?_, ?_, ?_, ?_⟩
  · -- PORST_N_RELEASE
    intro s straps ref fab h
    exact ⟨_, execPorstNRelease_inReset h, rfl, rfl, rfl, rfl, rfl⟩
  · -- ROOT_PLL_LOCK at start-up
    rintro s a ⟨hr, ho, hp⟩
    refine ⟨_, execRootPllLock_atStartUp hr ho hp, rfl, rfl, rfl, rfl, ?_⟩
    simp [State.arrOf, SramUnit.clearValid]
  · -- ROOT_PLL_LOCK at a wake
    rintro s src ⟨hr, ho, hp, hd, ht, hq⟩
    exact ⟨_, execRootPllLock_atWake hr ho hp hd ht hq, rfl, rfl, rfl⟩
  · -- TIMEBASE_LOCK
    rintro s ⟨hp, ho, hd⟩
    exact ⟨_, execTimebaseLock_ready hp ho hd, rfl⟩
  · -- PLL_LOCK_LOSS
    rintro s ⟨hr, ho⟩
    exact ⟨_, execPllLockLoss_locked hr ho, rfl, rfl, rfl, rfl, rfl, rfl, rfl⟩
  · -- REF_LOSS of the selected reference
    rintro s fab ⟨ho, hs, hr, hp⟩
    refine ⟨_, execRefLoss_selected ho hs hr hp, ?_⟩
    cases fab <;> simp_all [State.refOk, State.setRef, State.selected]
  · -- REF_LOSS of the other reference
    intro s fab hs
    refine ⟨_, execRefLoss_other hs, ?_⟩
    cases fab <;> simp_all [State.refOk, State.setRef, State.selected]
  · -- REF_VALID that ends holdover
    rintro s fab ⟨hs, hh⟩
    refine ⟨_, execRefValid_selected hs hh, ?_⟩
    cases fab <;> simp_all [State.refOk, State.setRef, State.selected]
  · -- AON_FALLBACK_SWITCH
    rintro s ⟨hp, h⟩
    refine ⟨_, execAonFallbackSwitch_differs hp h, ?_⟩
    simp
  · -- AON_TICK while DEVICE_TIME counts
    rintro s p g ⟨hp, hw, hc⟩
    refine ⟨_, rfl, ?_⟩
    simp [hp, hw, hc, State.now, State.ln, State.grp]
  · -- AON_TICK that a wake waits for
    rintro s ⟨hp, hw⟩
    refine ⟨_, rfl, ?_⟩
    simp [hp, hw, State.now]
  · -- CROSSING_TIMEOUT of a waiting command
    rintro s d k c ⟨hc, hp⟩
    have sess : (s.raise .clkXingTimeout (Config.crossing d)).sess k = s.sess k := by simp [State.sess]
    exact ⟨_, execCrossingTimeout_waiting d hc, State.respond_answered _ _ _ (sess ▸ hc) (sess ▸ hp)⟩

end Sys2Proof.Machine
end

section
/-!
Events inside one line lane (R3, R4, chapters 2, 3 and 5).
-/
namespace Sys2Proof.Machine

/-- The vectors agree in every entry but entry `i`. -/
structure OnlyAt {α : Type} {n : Nat} (i : Fin n) (v w : Vector α n) : Prop where
  same : ∀ j : Fin n, j ≠ i → w[j.val] = v[j.val]

theorem OnlyAt.refl {α : Type} {n : Nat} (i : Fin n) (v : Vector α n) : OnlyAt i v v := ⟨fun _ _ => rfl⟩

theorem OnlyAt.vupd {α : Type} {n : Nat} {i : Fin n} {v w : Vector α n} (h : OnlyAt i v w) (f : α → α) :
    OnlyAt i v (vupd w i f) := ⟨fun j hj => (vupd_other w i j f hj).trans (h.same j hj)⟩

/-- The states agree in the receivers, acquisition units, decoders, transmitters and mode records of all physical lanes but
`p`. -/
structure OnlyLane (p : Phys) (s t : State) : Prop where
  rx : OnlyAt p s.rx t.rx
  acq : OnlyAt p s.acq t.acq
  dec : OnlyAt p s.dec t.dec
  tx : OnlyAt p s.tx t.tx
  lane : OnlyAt p s.lane t.lane

section
variable {p : Phys} {s t u : State}

theorem OnlyLane.refl (p : Phys) (s : State) : OnlyLane p s s :=
  ⟨.refl p _, .refl p _, .refl p _, .refl p _, .refl p _⟩

theorem OnlyLane.ite {c : Prop} [Decidable c] (ht : OnlyLane p s t) (hu : OnlyLane p s u) :
    OnlyLane p s (if c then t else u) := by split <;> assumption

/-- A state, or the same state changed further. -/
theorem OnlyLane.orThen {c : Prop} [Decidable c] (ht : OnlyLane p s t) (hu : OnlyLane p s t → OnlyLane p s u) :
    OnlyLane p s (if c then t else u) := ht.ite (hu ht)

theorem OnlyLane.thenOr {c : Prop} [Decidable c] (ht : OnlyLane p s t) (hu : OnlyLane p s t → OnlyLane p s u) :
    OnlyLane p s (if c then u else t) := (hu ht).ite ht

/-- A change outside the line lanes. -/
theorem OnlyLane.outside (ps : List Part) (h : OnlyLane p s t) (k : SameBut ps t u)
    (hps : ∀ q ∈ [Part.rx, .acq, .dec, .tx, .lane], q ∉ ps) : OnlyLane p s u := by
  have hrx : u.rx = t.rx := k .rx (hps _ (by decide))
  have hacq : u.acq = t.acq := k .acq (hps _ (by decide))
  have hdec : u.dec = t.dec := k .dec (hps _ (by decide))
  have htx : u.tx = t.tx := k .tx (hps _ (by decide))
  have hlane : u.lane = t.lane := k .lane (hps _ (by decide))
  exact ⟨hrx ▸ h.rx, hacq ▸ h.acq, hdec ▸ h.dec, htx ▸ h.tx, hlane ▸ h.lane⟩

theorem OnlyLane.modRx (h : OnlyLane p s t) (f : RxLane → RxLane) : OnlyLane p s (t.modRx p f) :=
  { h with rx := h.rx.vupd f }
theorem OnlyLane.modDiag (h : OnlyLane p s t) (f : RxDiag → RxDiag) : OnlyLane p s (t.modDiag p f) := h.modRx _
theorem OnlyLane.modActive (h : OnlyLane p s t) (f : Coeffs → Coeffs) : OnlyLane p s (t.modActive p f) := h.modRx _
theorem OnlyLane.modAcq (h : OnlyLane p s t) (f : Acq → Acq) : OnlyLane p s (t.modAcq p f) :=
  { h with acq := h.acq.vupd f }
theorem OnlyLane.modTx (h : OnlyLane p s t) (f : TxLane → TxLane) : OnlyLane p s (t.modTx p f) :=
  { h with tx := h.tx.vupd f }
theorem OnlyLane.modTxDiag (h : OnlyLane p s t) (f : TxDiag → TxDiag) : OnlyLane p s (t.modTxDiag p f) := h.modTx _

theorem OnlyLane.raiseP (h : OnlyLane p s t) (e : Ev) (q : Phys) (code arg1 arg2 : Nat) :
    OnlyLane p s (t.raiseP e q code arg1 arg2) :=
  h.outside [.ev, .trigPins] (State.raiseP_keeps (.refl _ t) (by decide) _ _ _ _ _) (by decide)

theorem OnlyLane.rxFadeEnd (h : OnlyLane p s t) (sym : Sym) : OnlyLane p s (t.rxFadeEnd p sym) := by
  unfold State.rxFadeEnd
  split
  · exact h
  · dsimp only
    split
    · exact (((h.modRx _).modDiag _).raiseP ..).raiseP ..
    · exact ((h.modRx _).modDiag _).raiseP ..

theorem OnlyLane.txFadeEnd (h : OnlyLane p s t) : OnlyLane p s (t.txFadeEnd p) := by
  unfold State.txFadeEnd
  split
  · exact h
  · dsimp only
    split
    · exact (((h.modTx _).modTxDiag _).raiseP ..).raiseP ..
    · exact ((h.modTx _).modTxDiag _).raiseP ..

theorem OnlyLane.applyPd (h : OnlyLane p s t) (sym : Sym) : OnlyLane p s (t.applyPd p sym) := by
  unfold State.applyPd
  split
  · exact h
  · exact ((h.modTx _).modTxDiag _).raiseP ..

theorem OnlyLane.toArmed (h : OnlyLane p s t) : OnlyLane p s (t.toArmed p) := by
  unfold State.toArmed State.holdBase
  dsimp only
  split
  · exact .ite ((h.modAcq _).modRx _) (h.modAcq _)
  · exact h.modAcq _

theorem OnlyLane.unitRead (h : OnlyLane p s t) (a : Arr) (base len : Nat) (d : Option (Nat × BitVec 42)) :
    OnlyLane p s (t.unitRead a base len d).2 :=
  h.outside [.ev, .mem, .trigPins] (State.unitRead_keeps (.refl _ t) (by decide) a base len d) (by decide)

/-- A read of the hot cache drops at most an entry of its own lane. -/
theorem OnlyLane.hotRead (h : OnlyLane p s t) (w : Work) (st : Nat) (d : Option (Nat × BitVec 42)) :
    OnlyLane p s (t.hotRead p w st d).2 := by
  unfold State.hotRead
  split
  · exact h
  · dsimp only
    split
    · exact h.unitRead ..
    · exact (h.unitRead ..).modAcq _

theorem OnlyLane.startPortrait (h : OnlyLane p s t) (w : Work) (st : Nat) : OnlyLane p s (t.startPortrait p w st).2 := by
  unfold State.startPortrait
  split
  · exact h
  · exact h.hotRead ..

theorem OnlyLane.countSamples (h : OnlyLane p s t) (n : Nat) : OnlyLane p s (t.countSamples p n) := by
  unfold State.countSamples
  dsimp only
  split
  · exact h.modRx _
  split
  · exact .ite h (.ite h (h.modRx _))
  · exact h

theorem OnlyLane.trainCold (h : OnlyLane p s t) (n : Nat) : OnlyLane p s (t.trainCold p n) := by
  unfold State.trainCold
  dsimp only
  split
  · exact h
  · exact .ite h (h.modActive _)

theorem OnlyLane.rawBack (h : OnlyLane p s t) (w : Work) (bits : List Bool) : OnlyLane p s (t.rawBack w bits) :=
  h.outside [.ev, .group, .trigPins] (State.rawBack_keeps (.refl _ t) (by decide) w bits) (by decide)

theorem OnlyLane.passBits (h : OnlyLane p s t) : OnlyLane p s (t.passBits p) := by
  unfold State.passBits
  dsimp only
  split
  · exact .ite h ((h.modRx _).rawBack ..)
  · exact h

theorem OnlyLane.equaliseCycle (h : OnlyLane p s t) : OnlyLane p s (t.equaliseCycle p) := by
  unfold State.equaliseCycle
  exact .orThen (h.modRx _).passBits fun k => k.modActive _

theorem OnlyLane.replayRead (h : OnlyLane p s t) (cursor : Nat) (j : EqJob) (m : Nat) :
    OnlyLane p s (t.replayRead p cursor j m).2 :=
  h.outside [.ev, .mem, .trigPins] (State.replayRead_keeps (.refl _ t) (by decide) p cursor j m) (by decide)

theorem OnlyLane.iteSnd {α : Type} {c : Prop} [Decidable c] {x y : α × State} (hx : OnlyLane p s x.2)
    (hy : OnlyLane p s y.2) : OnlyLane p s (if c then x else y).2 := by split <;> assumption

theorem OnlyLane.equaliseBurst (h : OnlyLane p s t) (n : Nat) : OnlyLane p s (t.equaliseBurst p n) := by
  unfold State.equaliseBurst
  dsimp only
  split
  · exact h
  · refine .thenOr (.orThen (.modRx (.iteSnd h (h.replayRead ..)) _) fun k => ?_) fun k => k.modRx _
    exact .ite (k.modAcq _) (k.modActive _)

theorem OnlyLane.ringWrite (h : OnlyLane p s t) (n : Nat) : OnlyLane p s (t.ringWrite p n) :=
  h.outside [.mem] (State.ringWrite_keeps (.refl _ t) (by decide) p n) (by decide)

end

theorem OnlyLane.frames {p q : Phys} {s t : State} (h : OnlyLane p s t) (hq : q ≠ p) :
    t.rxl q = s.rxl q ∧ t.acl q = s.acl q ∧ t.del q = s.del q ∧ t.txl q = s.txl q ∧ t.ln q = s.ln q :=
  ⟨h.rx.same q hq, h.acq.same q hq, h.dec.same q hq, h.tx.same q hq, h.lane.same q hq⟩

theorem OnlyLane.ofNext {x p : Phys} {s t u : State} (hx : some x = some p)
    (h : (Host.Outcome.next u : Host.Outcome State Fault Refusal) = .next t) (k : OnlyLane x s u) : OnlyLane p s t := by
  cases hx; cases h; exact k

/-- Each of these events changes its own lane alone. -/
theorem exec_onlyLane {i : Instr} {p : Phys} {s t : State} (hi : i.laneEvent = some p) (h : exec i s = .next t) :
    OnlyLane p s t := by
  have r (x : Phys) := OnlyLane.refl x s
  cases i with
  | agcUpdate x _ => exact .ofNext hi h ((r x).modRx _)
  | estimationWindowEnd x => exact .ofNext hi h ((r x).modRx _)
  | fadeMidpoint x => exact .ofNext hi h ((r x).modRx _)
  | fadeStart x =>
    refine .ofNext hi h ?_
    split
    · exact .ite (r x) (((r x).modRx _).raiseP ..)
    · exact r x
  | fadeEnd x =>
    refine .ofNext hi h ?_
    split
    · exact .ite ((r x).rxFadeEnd _) (r x)
    · exact r x
  | flipbookTrigger x _ => exact .ofNext hi h (.ite ((r x).modRx _) (r x))
  | flipbookCaptureComplete x => exact .ofNext hi h (.ite ((r x).modRx _) (r x))
  | acqLimitExpiry x => exact .ofNext hi h (.ite (((r x).modRx _).raiseP ..) (r x))
  | convergeLock x => exact .ofNext hi h (.ite (((r x).modRx _).raiseP ..) (r x))
  | predictedAnalogueLoad x slot =>
    refine .ofNext hi h ?_
    split
    · exact r x
    · exact .ite (r x) (((r x).startPortrait ..).modRx _)
  | adaptationUpdate x raw =>
    refine .ofNext hi h (.ite (r x) ?_)
    have counted := (((r x).ringWrite (raw.take (qOf (s.rxl x).rate)).length).modRx
      fun y => y.record (raw.take (qOf (s.rxl x).rate))).countSamples (raw.take (qOf (s.rxl x).rate)).length
    exact .ite ((counted.trainCold _).equaliseBurst _) counted.equaliseCycle
  | powerDetectorTrigger x _ =>
    refine .ofNext hi h ?_
    split
    · exact r x
    · exact (r x).modAcq _
  | coldTrainingStart x =>
    refine .ofNext hi h ?_
    split
    · exact .ite (((r x).modAcq _).trainCold _) (r x)
    · exact r x
  | coldTrainingEnd x =>
    refine .ofNext hi h ?_
    split
    · exact .ite ((r x).modAcq _) (r x)
    · exact r x
  | preambleEndPassed x =>
    refine .ofNext hi h ?_
    split
    · exact .ite ((r x).modAcq _) (r x)
    · exact r x
  | syncDetected x _ =>
    refine .ofNext hi h ?_
    split
    · exact .ite ((r x).modAcq _) (r x)
    · exact r x
  | rxWindowOpen x _ =>
    refine .ofNext hi h ?_
    split
    · exact r x
    · exact .ite ((r x).modAcq _) (r x)
  | rxWindowClose x =>
    refine .ofNext hi h ?_
    split
    · exact .ite ((r x).modAcq _) (r x)
    · exact (r x).modAcq _
  | payloadEnd x _ =>
    refine .ofNext hi h ?_
    split
    · exact .ite ((r x).modAcq _) (r x)
    · exact r x
  | postambleCheck x =>
    refine .ofNext hi h ?_
    split
    · exact .ite (r x) ((r x).modAcq _).toArmed
    · exact r x
  | txSettingApply x => exact .ofNext hi h (.ite (r x) ((r x).modTx _))
  | predistortApply x _ => exact .ofNext hi h (.ite ((r x).applyPd _) (r x))
  | txFadeStart x =>
    refine .ofNext hi h ?_
    split
    · exact .ite (r x) (((r x).modTx _).raiseP ..)
    · exact r x
  | txFadeMidpoint x =>
    refine .ofNext hi h ?_
    split
    · exact .ite ((r x).modTx _) (r x)
    · exact r x
  | txFadeEnd x =>
    refine .ofNext hi h ?_
    split
    · exact .ite (r x).txFadeEnd (r x)
    · exact r x
  | transparentStart x => exact .ofNext hi h (.ite ((r x).modTx _) (r x))
  | _ => cases hi

/-- Settles O6: each of the events changes its own lane alone. -/
theorem laneEventFrames : Obligations.LaneEventFrames :=
  fun _ _ _ _ _ hi hq h => (exec_onlyLane hi h).frames hq

end Sys2Proof.Machine
end

section
/-!
Events inside one group, bias output, SRAM array or working lane (R3, R330).
-/
namespace Sys2Proof.Machine

/-- The states agree in every unit of one kind but unit `i`; `view` names the units. -/
def OnlyUnit {α : Type} {n : Nat} (view : State → Vector α n) (i : Fin n) (s t : State) : Prop :=
  OnlyAt i (view s) (view t)

section
variable {α : Type} {n : Nat} {view : State → Vector α n} {i : Fin n} {s t u : State}

theorem OnlyUnit.refl (i : Fin n) (s : State) : OnlyUnit view i s s := OnlyAt.refl i _

theorem OnlyUnit.ite {c : Prop} [Decidable c] (ht : OnlyUnit view i s t) (hu : OnlyUnit view i s u) :
    OnlyUnit view i s (if c then t else u) := by split <;> assumption

/-- A state changed further, or left as it is. -/
theorem OnlyUnit.thenOr {c : Prop} [Decidable c] (ht : OnlyUnit view i s t)
    (hu : OnlyUnit view i s t → OnlyUnit view i s u) : OnlyUnit view i s (if c then u else t) := (hu ht).ite ht

/-- A change outside the units of the kind. -/
theorem OnlyUnit.outside (h : OnlyUnit view i s t) (e : view u = view t) : OnlyUnit view i s u := by
  rw [OnlyUnit, e]; exact h

theorem OnlyUnit.ofNext {j : Fin n} (hj : some j = some i)
    (h : (Host.Outcome.next u : Host.Outcome State Fault Refusal) = .next t) (k : OnlyUnit view j s u) :
    OnlyUnit view i s t := by
  cases hj; cases h; exact k
end

/-! Groups. -/

section
variable {g : Group} {s t u : State}

theorem OnlyUnit.modGroup (h : OnlyUnit State.group g s t) (f : HostGroup → HostGroup) :
    OnlyUnit State.group g s (t.modGroup g f) := OnlyAt.vupd h f

theorem OnlyUnit.outsideGroups (ps : List Part) (h : OnlyUnit State.group g s t) (k : SameBut ps t u)
    (hp : .group ∉ ps) : OnlyUnit State.group g s u := h.outside (k .group hp)

theorem OnlyUnit.raise_group (h : OnlyUnit State.group g s t) (e : Ev) (source code arg1 arg2 : Nat) :
    OnlyUnit State.group g s (t.raise e source code arg1 arg2) := h.outside (by simp)

theorem OnlyUnit.setGroupPower (h : OnlyUnit State.group g s t) (st : GroupPower) (cause : Nat) :
    OnlyUnit State.group g s (t.setGroupPower g st cause) := by
  unfold State.setGroupPower
  refine .ite h ?_
  have raised := (h.modGroup fun x => { x with power := st, res := x.res.enter st.code }).raise_group .pwrGroupState
    (pwrSrc 1 g.val) st.code (t.grp g).power.code cause
  exact raised.thenOr fun k =>
    k.outsideGroups [.ev, .power, .trigPins] (State.leaveQuiet_keeps (.refl _ _) (by decide)) (by decide)

theorem OnlyUnit.takeSpareClock (h : OnlyUnit State.group g s t) : OnlyUnit State.group g s (t.takeSpareClock g) :=
  .ite h ((h.modGroup _).raise_group ..)

theorem OnlyUnit.retrain (h : OnlyUnit State.group g s t) (code : Nat) (repair ask : Bool) :
    OnlyUnit State.group g s (t.retrain g code repair ask) := by
  unfold State.retrain
  split
  · exact (((h.modGroup _).thenOr fun k => k.setGroupPower .active 3).raise_group ..).takeSpareClock
  · exact h.modGroup _
  · exact h

/-- Without a self-test, the spare lane that is taken ends at most its own group's loop-back. -/
theorem OnlyUnit.spareTaken (h : OnlyUnit State.group g s t) (ht : (t.grp g).selftest = false) :
    OnlyUnit State.group g s (t.spareTaken g) := by
  unfold State.spareTaken
  simp only [ht, Bool.false_eq_true, if_false]
  exact .ite ((h.modGroup _).raise_group ..) h

end

theorem exec_onlyGroup {i : Instr} {g : Group} {s t : State} (hi : i.groupEvent = some g)
    (hs : i = .clockMove g → (s.grp g).selftest = false) (h : exec i s = .next t) : OnlyUnit State.group g s t := by
  have r (x : Group) := OnlyUnit.refl (view := State.group) x s
  cases i with
  | replayTimeout x =>
    refine .ofNext hi h ?_
    split
    · exact .ite ((r x).modGroup _) (r x)
    · exact r x
  | idleEnter x => exact .ofNext hi h (.ite ((r x).modGroup _) (r x))
  | retrainReq x => exact .ofNext hi h (.ite ((r x).retrain ..) (r x))
  | trainPhaseLock x => exact .ofNext hi h (.ite ((r x).modGroup _) (r x))
  | trainLimitExpiry x => exact .ofNext hi h (.ite (((r x).modGroup _).raise_group ..) (r x))
  | wanderLimit x => exact .ofNext hi h (.ite ((r x).retrain ..) (r x))
  | hckrxStop x => exact .ofNext hi h (.ite (r x) (.ite (((r x).modGroup _).raise_group ..) ((r x).retrain ..)))
  | txElectricalIdleEntry x =>
    refine .ofNext hi h ?_
    split
    · exact r x
    · exact .ite (((r x).modGroup _).setGroupPower ..) (r x)
  | txWake x => exact .ofNext hi h (.ite (((r x).modGroup _).setGroupPower ..) (r x))
  | rxWakeBurst x => exact .ofNext hi h (.ite (((r x).modGroup _).raise_group ..) (r x))
  | rxWakeCommaTimeout x => exact .ofNext hi h (.ite ((r x).retrain ..) (r x))
  | clockMove x =>
    cases hi
    exact .ofNext rfl h (.ite (((((r g).spareTaken (hs rfl)).modGroup _).raise_group ..).retrain ..) (r g))
  | groupIdleTimerExpiry x => exact .ofNext hi h (.ite ((r x).modGroup _) (r x))
  | _ => cases hi

/-! Bias outputs. -/

section
variable {o : Bias} {s t u : State}

theorem OnlyUnit.modBias (h : OnlyUnit (·.photon.bias) o s t) (f : BiasOut → BiasOut) :
    OnlyUnit (·.photon.bias) o s (t.modBias o f) := OnlyAt.vupd h f

theorem OnlyUnit.raise_bias (h : OnlyUnit (·.photon.bias) o s t) (e : Ev) (source code arg1 arg2 : Nat) :
    OnlyUnit (·.photon.bias) o s (t.raise e source code arg1 arg2) := h.outside (by simp)

theorem OnlyUnit.answerOpt_bias (h : OnlyUnit (·.photon.bias) o s t) (k : Option Sess) (code : Nat) (res : Result)
    (detail : Nat) (data : Bytes) : OnlyUnit (·.photon.bias) o s (t.answerOpt k code res detail data) := by
  cases k with
  | none => exact h
  | some k => exact h.outside (State.answer_photon_bias t k code res detail data)

theorem OnlyUnit.stepBall (h : OnlyUnit (·.photon.bias) o s t) (code : Nat) :
    OnlyUnit (·.photon.bias) o s (t.stepBall o code) :=
  (h.modBias fun b => { b with code := code, holding := none, loop := b.loop.map fun l =>
    { l with reference := decide (l.centre < (code : Int)) } }).outside rfl

theorem OnlyUnit.applyBias (h : OnlyUnit (·.photon.bias) o s t) (code : Nat) :
    OnlyUnit (·.photon.bias) o s (t.applyBias o code) := .ite (h.modBias _) (h.stepBall _)

theorem OnlyUnit.nextRange (h : OnlyUnit (·.photon.bias) o s t) : OnlyUnit (·.photon.bias) o s (t.nextRange o) := by
  unfold State.nextRange
  split
  · exact .ite ((h.modBias _).modBias _) (((h.modBias _).stepBall 0).modBias _)
  · exact h

theorem OnlyUnit.loopWrite (h : OnlyUnit (·.photon.bias) o s t) (code : Nat) :
    OnlyUnit (·.photon.bias) o s (t.loopWrite o code) := .ite h (h.modBias _)

theorem OnlyUnit.raiseEach_bias (l : List Ev) (h : OnlyUnit (·.photon.bias) o s t) (source : Nat) :
    OnlyUnit (·.photon.bias) o s (t.each l fun e x => x.raise e source) := by
  induction l generalizing t with
  | nil => exact h
  | cons e l ih => exact ih (h.raise_bias e source 0 0 0)

end

theorem exec_onlyBias {i : Instr} {o : Bias} {s t : State} (hi : i.outputEvent = some o) (h : exec i s = .next t) :
    OnlyUnit (·.photon.bias) o s t := by
  have r (x : Bias) := OnlyUnit.refl (view := (·.photon.bias)) x s
  cases i with
  | biasCodeApply x =>
    refine .ofNext hi h ?_
    split
    · exact .ite (r x) (((r x).applyBias _).modBias _)
    · exact r x
  | deglitchStep x =>
    refine .ofNext hi h ?_
    split
    · exact (r x).stepBall _
    · exact r x
  | rangeChangeDone x =>
    refine .ofNext hi h ?_
    split
    · exact r x
    · next c _ =>
      refine OnlyUnit.nextRange ?_
      have ranged := (((r x).modBias fun b => { b with
        range := if s.sys.pins.supplyGate then 0 else c.target, ranging := none, code := 0, holding := none }).raise_bias
          .biasRangeDone x.val 0 0 0).answerOpt_bias c.sess 0x0803 .ok 0 []
      split
      · exact ranged.thenOr fun k => k.applyBias _
      · exact ranged
  | ditherHalfPeriod x =>
    refine .ofNext hi h ?_
    split
    · exact r x
    · exact .ite (r x) (((r x).modBias _).loopWrite _)
  | loopUpdate x =>
    refine .ofNext hi h ?_
    split
    · exact r x
    · exact .ite (r x) (((r x).modBias _).raiseEach_bias _ _)
  | _ => cases hi

/-! SRAM arrays. -/

section
variable {a : Arr} {s t u : State}

theorem OnlyUnit.modArr (h : OnlyUnit (·.sys.mem.arr) a s t) (f : SramUnit → SramUnit) :
    OnlyUnit (·.sys.mem.arr) a s (t.modArr a f) := OnlyAt.vupd h f

theorem OnlyUnit.raiseMem (h : OnlyUnit (·.sys.mem.arr) a s t) (e : Ev) (b : Arr) (addr : Nat) :
    OnlyUnit (·.sys.mem.arr) a s (t.raiseMem e b addr) := h.outside (by simp [State.raiseMem])

theorem OnlyUnit.disturb (h : OnlyUnit (·.sys.mem.arr) a s t) (addr : Nat) (x : BitVec 42) :
    OnlyUnit (·.sys.mem.arr) a s (t.disturb a addr x) := .ite h (h.modArr _)

theorem OnlyUnit.foundCe (h : OnlyUnit (·.sys.mem.arr) a s t) (addr : Nat) (syn : BitVec 7) (fix : Option (BitVec 32)) :
    OnlyUnit (·.sys.mem.arr) a s (t.foundCe a addr syn fix) := (h.modArr _).raiseMem ..

theorem OnlyUnit.sramRead (h : OnlyUnit (·.sys.mem.arr) a s t) (addr : Nat) (scrub : Bool) :
    OnlyUnit (·.sys.mem.arr) a s (t.sramRead a addr scrub).2 := by
  unfold State.sramRead
  have refreshed {c : Prop} [Decidable c] (f : SramUnit → SramUnit) :
      OnlyUnit (·.sys.mem.arr) a s (if c then t else (t.foundCe a addr 127 none).modArr a f) :=
    .ite h ((h.foundCe ..).modArr f)
  dsimp only
  split
  · exact refreshed _
  split
  · exact refreshed _
  · exact (refreshed _).foundCe ..
  · exact (refreshed _).modArr _
  · exact (refreshed _).modArr _

end

theorem exec_onlyArr {i : Instr} {a : Arr} {s t : State} (hi : i.arrayEvent = some a) (h : exec i s = .next t) :
    OnlyUnit (·.sys.mem.arr) a s t := by
  have r (x : Arr) := OnlyUnit.refl (view := (·.sys.mem.arr)) x s
  cases i with
  | repairWrite x =>
    refine .ofNext hi h ?_
    split
    · exact r x
    · exact (r x).modArr _
  | scrubRead x flips =>
    exact .ofNext hi h (.ite (r x) (.ite ((((r x).disturb ..).sramRead ..).modArr _)
      ((((r x).disturb ..).sramRead ..).modArr _)))
  | scrubLapLimit x => exact .ofNext hi h (.ite (r x) (((r x).modArr _).raiseMem ..))
  | _ => cases hi

/-! Working lanes. -/

theorem OnlyUnit.modWork {w : Work} {s t : State} (h : OnlyUnit State.work w s t) (f : WorkLane → WorkLane) :
    OnlyUnit State.work w s (t.modWork w f) := OnlyAt.vupd h f

theorem exec_onlyWork {i : Instr} {w : Work} {s t : State} (hi : i.workEvent = some w) (h : exec i s = .next t) :
    OnlyUnit State.work w s t := by
  have r (x : Work) := OnlyUnit.refl (view := State.work) x s
  cases i with
  | openHoldExpiry x _ => exact .ofNext hi h (.ite ((r x).modWork _) (r x))
  | backoffExpiry x _ => exact .ofNext hi h ((r x).modWork _)
  | ackIntervalExpiry x _ => exact .ofNext hi h (.ite ((r x).modWork _) (r x))
  | _ => cases hi

/-- Settles O7: each of the events changes its own unit alone. -/
theorem unitFrames : Obligations.UnitFrames :=
  ⟨fun _ _ h _ _ hi hh hs he => (exec_onlyGroup hi hs he).same h hh,
    fun _ _ q _ _ hi hq he => (exec_onlyBias hi he).same q hq,
    fun _ _ b _ _ hi hb he => (exec_onlyArr hi he).same b hb, fun _ _ v _ _ hi hv he => (exec_onlyWork hi he).same v hv⟩

end Sys2Proof.Machine
end

section
/-!
Direct registers and the indirect window (R357 to R363, R370).
-/
namespace Sys2Proof.Machine

/-! Bytes. -/

/-- Bytes written to a memory in canonical form are read back. -/
theorem memReads_memWrites (d : Byte) (m : Mem) (a : Nat) (bs : Bytes) (h : memWf d m = true) :
    memReads d (memWrites d m a bs) a bs.length = bs := by
  induction bs generalizing m a with
  | nil => rfl
  | cons b r ih =>
    have head : memRead d (memWrites d (memWrite d m a b) (a + 1) r) a = b := by
      rw [memRead_memWrites_other d _ a (a + 1) r (by omega), memRead_memWrite_self d m a b h]
    have tail := ih (memWrite d m a b) (a + 1) (memWf_memWrite d m a b h)
    simp only [memReads] at tail
    simp only [memReads, memWrites, List.length_cons, List.range_succ_eq_map, List.map_cons, List.map_map, Nat.add_zero]
    rw [head]
    congr 1
    calc _ = (List.range r.length).map fun i => memRead d (memWrites d (memWrite d m a b) (a + 1) r) (a + 1 + i) := by
            refine List.map_congr_left fun i _ => ?_
            simp [Nat.add_assoc, Nat.add_comm 1]
      _ = r := tail

/-! Windows. -/

section
variable (s : State) (i : Iface) (f : IndWindow → IndWindow)

@[simp] theorem State.window_modWindow : (s.modWindow i f).window i = f (s.window i) := by cases i <;> rfl

@[simp] theorem State.modWindow_bus : (s.modWindow i f).ctl.bus = s.ctl.bus := by cases i <;> rfl

@[simp] theorem State.modWindow_sess (k : Sess) : (s.modWindow i f).sess k = s.sess k := by cases i <;> rfl

@[simp] theorem State.window_modSess (k : Sess) (g : Session → Session) : (s.modSess k g).window i = s.window i := by
  cases i <;> rfl

@[simp] theorem State.drive_busOut (bs : Bytes) : (s.drive bs).ctl.busOut = bs := rfl

@[simp] theorem State.window_drive (bs : Bytes) : (s.drive bs).window i = s.window i := by cases i <;> rfl

@[simp] theorem State.window_clearTarget (x : FetchedWord) : (s.clearTarget x).window i = s.window i := by
  have h : SameBut [.mon] s (s.clearTarget x) := State.clearTarget_keeps (.refl _ s) (by decide) x
  have hbus := h .bus (by decide)
  simp only [Part.same, Prod.mk.injEq] at hbus
  cases i <;> simp [State.window, hbus]

end

/-! Registers. -/

theorem execRegisterWrite_eq {s : State} (f : Iface) {addr : BitVec 16} (d : Word) (hb : s.busOpen = true)
    (ha : addrBad addr = false) : execRegisterWrite f addr d s = .next (s.writeReg f addr.toNat d) := by
  simp [execRegisterWrite, hb, ha]

theorem execRcFieldRead_eq {s : State} (f : Iface) {addr : BitVec 16} (hb : s.busOpen = true)
    (ha : addrBad addr = false) : execRcFieldRead f addr s =
      .next ((s.readReg f addr.toNat).2.drive (leBytes 4 (s.readReg f addr.toNat).1.toNat)) := by
  simp [execRcFieldRead, hb, ha]

theorem execIndAddrWrite_eq {s : State} (f : Iface) (high : Bool) (d : Word) (hb : s.busOpen = true) :
    execIndAddrWrite f high d s = .next (s.writeReg f (if high then 0x054 else 0x050) d) := by
  simp [execIndAddrWrite, hb]

/-- Queueing an entry leaves the enables and the routes. -/
theorem EventUnit.put_settings (u : EventUnit) (x : EvEntry) :
    (u.put x).enable = u.enable ∧ (u.put x).route = u.route := by
  unfold EventUnit.put
  split
  · exact ⟨rfl, rfl⟩
  split <;> exact ⟨rfl, rfl⟩

/-- Reporting an overflow and evaluating the pins leaves the enables and the routes. -/
theorem State.settleEvents_settings (s : State) :
    s.settleEvents.ctl.ev.enable = s.ctl.ev.enable ∧ s.settleEvents.ctl.ev.route = s.ctl.ev.route := by
  simp only [State.settleEvents, State.modCtl_ctl]
  split
  · exact ⟨rfl, rfl⟩
  · simp only [EventUnit.evalPins, EventUnit.report]
    split
    · exact EventUnit.put_settings ..
    · exact ⟨rfl, rfl⟩

/-- The addresses of EV_ENABLE0 to EV_ENABLE9 (Table 12-7). -/
theorem enableAddr_toNat : ∀ n : Fin 10, (0x0C0 + 4 * BitVec.ofNat 16 n.val).toNat = 0x0C0 + 4 * n.val := by
  decide

theorem enableAddr_legal : ∀ n : Fin 10, addrBad (0x0C0 + 4 * BitVec.ofNat 16 n.val) = false := by
  decide

/-- A write to a register of EV_ENABLE. -/
theorem State.writeReg_enable (s : State) (f : Iface) (n : Fin 10) (d : Word) :
    s.writeReg f (0x0C0 + 4 * n.val) d = s.writeEvents fun u =>
      { u with enable := u.enable.setIfInBounds n.val (d &&& enableReset n.val) } := by
  match n with
  | 0 | 1 | 2 | 3 | 4 | 5 | 6 | 7 | 8 | 9 => rfl

/-! Posted writes. -/

theorem execIndWriteApply_eq {s : State} {f : Iface} {x : PostedWrite} {rest : List PostedWrite}
    (hf : (s.window f).fifo = x :: rest) :
    execIndWriteApply f s = .next ((s.modWindow f fun w => { w with fifo := rest }).applyPosted f x) := by
  simp [execIndWriteApply, hf]

theorem State.applyPosted_command {s : State} {f : Iface} {x : PostedWrite} {k : Sess} {off : Nat}
    (ht : indTarget x.addr = .command k off) (hp : (s.sess k).phase ≠ .busy) :
    s.applyPosted f x = s.modSess k fun y => { y with area := memWrites 0 y.area off (leBytes 4 x.data.toNat) } := by
  simp [State.applyPosted, ht, hp]

theorem State.applyPosted_busy {s : State} {f : Iface} {x : PostedWrite} {k : Sess} {off : Nat}
    (ht : indTarget x.addr = .command k off) (hp : (s.sess k).phase = .busy) :
    s.applyPosted f x =
      (s.modSess k fun y => { y with areaBusy := true }).modWindow f fun w => { w with locked := true } := by
  simp [State.applyPosted, ht, hp]

/-- Settles O54: each access's next state written out, and its fields read off. -/
theorem registersAndIndirectWindow : Obligations.RegistersAndIndirectWindow := by
  refine ⟨?_, ?_, ?_, ?_, ?_, ?_, ?_, ?_, ?_, ?_, ?_, ?_, ?_, ?_, ?_, ?_, ?_, ?_⟩
  · -- SYS_LOCK
    intro s f d hb
    exact ⟨_, execRegisterWrite_eq f d hb (by decide), rfl, rfl, rfl⟩
  · -- SPI_CFG: the CRC requirement
    intro s f d hb
    exact ⟨_, execRegisterWrite_eq f d hb (by decide), rfl⟩
  · -- SMB_CFG: the PEC requirement
    intro s f d hb
    exact ⟨_, execRegisterWrite_eq f d hb (by decide), rfl⟩
  · -- IND_CTRL: NO_INC
    intro s f d hb
    refine ⟨_, execRegisterWrite_eq f d hb (by decide), ?_⟩
    simp [State.writeReg]
  · -- INT_ROUTE_LO
    intro s f d hb
    refine ⟨_, execRegisterWrite_eq f d hb (by decide), ?_⟩
    simp only [BitVec.reduceToNat, State.writeReg, State.writeEvents]
    split
    · rfl
    · rw [(State.settleEvents_settings _).2]
      rfl
  · -- EV_ENABLE0 to EV_ENABLE9
    intro s f d n hb
    refine ⟨_, execRegisterWrite_eq f d hb (enableAddr_legal n), ?_⟩
    rw [enableAddr_toNat, State.writeReg_enable, State.writeEvents]
    split
    · rfl
    · simp [State.settleEvents_settings]
  · -- read-only registers
    rintro s f d addr ⟨hb, ha⟩
    simp only [List.mem_cons, List.not_mem_nil, or_false] at ha
    rcases ha with rfl | rfl | rfl | rfl | rfl | rfl | rfl | rfl | rfl <;>
      exact ⟨_, execRegisterWrite_eq f d hb (by decide), rfl⟩
  · -- SPI_STATUS read
    intro s f hb
    exact ⟨_, execRcFieldRead_eq f hb (by decide), rfl, rfl⟩
  · -- CLK_STATUS read
    intro s f hb
    exact ⟨_, execRcFieldRead_eq f hb (by decide), rfl, rfl⟩
  · -- IND_ADDR written
    intro s f high d hb
    refine ⟨_, execIndAddrWrite_eq f high d hb, ?_⟩
    cases high <;> simp [State.writeReg, IndWindow.setAddr]
  · -- a prefetch that arrives
    rintro s f a ⟨ha, hf⟩
    refine ⟨_, rfl, ?_⟩
    simp [State.fetchDone, ha, hf]
  · -- a prefetch that fails
    rintro s f a r ⟨ha, hf, hr⟩
    refine ⟨_, rfl, ?_⟩
    simp [State.fetchDone, ha, hf, hr]
  · -- IND_DATA read with a word
    rintro s f x ⟨hb, hx⟩
    refine ⟨_, rfl, ?_⟩
    simp [hb, State.indTake, hx]
  · -- IND_DATA read too early
    rintro s f ⟨hb, hx⟩
    refine ⟨_, rfl, ?_⟩
    simp [hb, State.indTake, hx, leBytes]
  · -- IND_DATA written
    rintro s f d ⟨hb, hl⟩
    refine ⟨_, rfl, ?_⟩
    have : ¬ 16 ≤ (s.window f).fifo.length := by omega
    simp [hb, State.indPost, this]
  · -- IND_DATA written at a full FIFO
    rintro s f d ⟨hb, hl⟩
    refine ⟨_, rfl, ?_⟩
    simp [hb, State.indPost, hl]
  · -- a posted write applied
    rintro s f x rest k off ⟨hf, ht, hp, hw⟩
    refine ⟨_, (execIndWriteApply_eq hf).trans (congrArg _ (State.applyPosted_command ht (by simpa using hp))),
      ?_, by simp⟩
    simp only [Session.wf, Bool.and_eq_true] at hw
    rw [State.sess_modSess_self, State.modWindow_sess]
    exact memReads_memWrites 0 _ off (leBytes 4 x.data.toNat) hw.1
  · -- a posted write of a BUSY session
    rintro s f x rest k off ⟨hf, ht, hp⟩
    refine ⟨_, (execIndWriteApply_eq hf).trans (congrArg _ (State.applyPosted_busy ht (by simpa using hp))), ?_⟩
    simp [State.sess_modSess_self]

end Sys2Proof.Machine
end

section
/-!
Receivers: what the shared operations do to one, and which leave them all (chapter 2).
-/
namespace Sys2Proof.Machine

theorem SameBut.rxl {ps : List Part} {s t : State} (h : SameBut ps s t) (hp : .rx ∉ ps) (p : Phys) : t.rxl p = s.rxl p :=
  congrArg (·[p.val]) (show t.rx = s.rx from h .rx hp)

theorem SameBut.session {ps : List Part} {s t : State} (h : SameBut ps s t) (hp : .sess ∉ ps) (k : Sess) :
    t.sess k = s.sess k := by
  have hs := h .sess hp
  simp only [Part.same] at hs
  simp [State.sess, hs]

section
variable (s : State) (p : Phys)

@[simp] theorem State.rxl_modRx_self (f : RxLane → RxLane) : (s.modRx p f).rxl p = f (s.rxl p) := vupd_self ..

theorem State.rxl_modRx_other {q : Phys} (h : q ≠ p) (f : RxLane → RxLane) : (s.modRx p f).rxl q = s.rxl q :=
  vupd_other _ _ _ f h

@[simp] theorem State.rxl_modDiag_self (f : RxDiag → RxDiag) :
    (s.modDiag p f).rxl p = { s.rxl p with diag := f (s.rxl p).diag } := vupd_self ..

@[simp] theorem State.rxl_modTx (q : Phys) (f : TxLane → TxLane) : (s.modTx q f).rxl p = s.rxl p := rfl

@[simp] theorem State.rxl_raiseP (e : Ev) (q : Phys) (code arg1 arg2 : Nat) :
    (s.raiseP e q code arg1 arg2).rxl p = s.rxl p := by
  simp [State.rxl]

@[simp] theorem State.rxl_rxPalette (q : Phys) (tag : BitVec 16) (o : Nat) (sym : Sym) :
    (s.rxPalette q tag o sym).rxl p = s.rxl p := s.rxl_raiseP ..

@[simp] theorem State.rx_rxPalette (q : Phys) (tag : BitVec 16) (o : Nat) (sym : Sym) :
    (s.rxPalette q tag o sym).rx = s.rx := s.raiseP_rx ..

@[simp] theorem State.rxl_respond (k : Sess) (r : Result) (d : Nat) (data : Bytes) :
    (s.respond k r d data).rxl p = s.rxl p := by
  simp [State.rxl]

@[simp] theorem State.rxl_startDozeExit (q : Phys) (c : Nat) : (s.startDozeExit q c).rxl p = s.rxl p :=
  (State.startDozeExit_keeps (.refl [.lane] s) (List.Subset.refl _) q c).rxl (by decide) p

@[simp] theorem State.sess_modRx (k : Sess) (f : RxLane → RxLane) : (s.modRx p f).sess k = s.sess k := rfl

@[simp] theorem State.sess_modDiag (k : Sess) (f : RxDiag → RxDiag) : (s.modDiag p f).sess k = s.sess k := rfl

@[simp] theorem State.sess_rxPalette (k : Sess) (tag : BitVec 16) (o : Nat) (sym : Sym) :
    (s.rxPalette p tag o sym).sess k = s.sess k := by
  simp [State.rxPalette, State.sess]

@[simp] theorem State.sess_startDozeExit (k : Sess) (c : Nat) : (s.startDozeExit p c).sess k = s.sess k :=
  (State.startDozeExit_keeps (.refl [.lane] s) (List.Subset.refl _) p c).session (by decide) k

@[simp] theorem State.rxl_ringRead (a : Arr) (size first count : Nat) (d : Option (Nat × BitVec 42)) :
    (s.ringRead a size first count d).2.rxl p = s.rxl p :=
  (State.ringRead_keeps (.refl [.ev, .mem, .trigPins] s) (List.Subset.refl _) a size first count d).rxl (by decide) p

@[simp] theorem State.sess_ringRead (k : Sess) (a : Arr) (size first count : Nat) (d : Option (Nat × BitVec 42)) :
    (s.ringRead a size first count d).2.sess k = s.sess k :=
  (State.ringRead_keeps (.refl [.ev, .mem, .trigPins] s) (List.Subset.refl _) a size first count d).session (by decide) k

end

end Sys2Proof.Machine
end

section
/-!
The checks of a command, the units it selects, and a change made to each of them (R381, R384).
-/
namespace Sys2Proof.Machine

@[simp] theorem State.guarded_nil (s : State) (go : State → Reply × State) : s.guarded [] go = go s := rfl

@[simp] theorem State.guarded_cons (s : State) (b : Bool) (r : Reply) (l : List (Bool × Reply))
    (go : State → Reply × State) : s.guarded ((b, r) :: l) go = if b then (r, s) else s.guarded l go := by
  cases b <;> rfl

/-- A selector byte that names one unit (R381). -/
@[simp] theorem selAll_val {n : Nat} [NeZero n] (p : Fin n) : selAll n p.val = [p] := by
  simp [selAll]

/-- The selector byte "all" (R381). -/
theorem selAll_all {n v : Nat} [NeZero n] (h : n ≤ v) : selAll n v = List.finRange n := by
  simp [selAll, Nat.not_lt.mpr h]

theorem State.forAllSel_accepted {n : Nat} {s : State} {all : Bool} {l : List (Fin n)} {check : Fin n → Option Reply}
    {f : Fin n → State → State} (h : ∀ i ∈ l, check i = none) :
    s.forAllSel all l check f = (replyOk, s.each l f) := by
  have none_refuses : l.filterMap (fun i => (check i).map fun r => (i, r)) = [] := by
    simpa [List.filterMap_eq_nil_iff] using h
  simp [State.forAllSel, none_refuses]

theorem State.forAllSel_refused {n : Nat} {s : State} {i : Fin n} {check : Fin n → Option Reply}
    {f : Fin n → State → State} {r : Result} {d : Nat} {data : Bytes} (h : check i = some (.done r d data)) :
    s.forAllSel false [i] check f = (.done r d data, s) := by
  simp only [State.forAllSel, List.filterMap_cons, h, Option.map_some, List.filterMap_nil, List.head?_cons,
    List.find?_singleton]
  cases r <;> rfl

theorem selAll_nodup (n v : Nat) [NeZero n] : (selAll n v).Nodup := by
  unfold selAll
  split
  · exact List.nodup_cons.mpr ⟨List.not_mem_nil, List.nodup_nil⟩
  · exact List.nodup_finRange n

/-- What none of the changes touches is as before. -/
theorem State.each_untouched {α β : Type} (view : State → β) {f : α → State → State} {l : List α} (s : State)
    (h : ∀ j ∈ l, ∀ u, view (f j u) = view u) : view (s.each l f) = view s := by
  induction l generalizing s with
  | nil => rfl
  | cons j l ih => exact (ih _ fun x hx => h x (List.mem_cons_of_mem _ hx)).trans (h j List.mem_cons_self s)

/-- Where each change touches one unit alone, a unit ends as its own change leaves it. -/
theorem State.each_own {α β : Type} (view : State → β) {f : α → State → State} {i : α} {l : List α} (s : State)
    (hi : i ∈ l) (hl : l.Nodup) (other : ∀ j u, j ≠ i → view (f j u) = view u) :
    ∃ u, view u = view s ∧ view (s.each l f) = view (f i u) := by
  obtain ⟨before, after, rfl⟩ := List.append_of_mem hi
  have apart : ∀ j ∈ before ++ after, j ≠ i := by
    rintro j hj rfl
    exact (List.nodup_cons.mp (List.perm_middle.nodup_iff.mp hl)).1 hj
  have split : s.each (before ++ i :: after) f = (f i (s.each before f)).each after f := by
    simp [State.each, List.foldl_append]
  refine ⟨s.each before f, ?_, ?_⟩
  · exact State.each_untouched view s fun j hj u => other j u (apart j (List.mem_append_left _ hj))
  · rw [split]
    exact State.each_untouched view _ fun j hj u => other j u (apart j (List.mem_append_right _ hj))

end Sys2Proof.Machine
end

section
/-!
The line receive commands (Table 13-5).
-/
namespace Sys2Proof.Machine

/-! LANE.SET_RX. -/

/-- What LANE.SET_RX makes of a receiver whose lane is in mode `m` (R26, R34, R39, R70). -/
structure RxLane.TakesSet (a : Bytes) (m : LaneMode) (r r' : RxLane) : Prop where
  isSet : r'.isSet a
  deskew : r'.deskew = if burstMode m then r.deskew else toSigned 8 (byteAt a 6)
  dgain : r'.dgain = if r.state = .off then fieldLE a 4 2 else r.dgain
  staged : r'.stagedDgain = if r.state = .off ∨ fieldLE a 4 2 = r.dgain then none else some (fieldLE a 4 2)

theorem State.rxl_setRate_other (s : State) {p q : Phys} (h : q ≠ p) (rate : Nat) :
    (s.setRate p rate).rxl q = s.rxl q := by
  unfold State.setRate
  split
  · rfl
  · simp [State.rxl_modRx_other _ _ h]

theorem State.setRate_lane (s : State) (p : Phys) (rate : Nat) : (s.setRate p rate).lane = s.lane :=
  State.setRate_keeps (.refl [.rx, .tx] s) (List.Subset.refl _) p rate .lane (by decide)

theorem State.setRate_sess (s : State) (p : Phys) (rate : Nat) (k : Sess) : (s.setRate p rate).sess k = s.sess k := by
  unfold State.setRate
  split <;> rfl

/-- A new rate leaves the receive state, the gain and the deskew. -/
theorem State.setRate_rxl (s : State) (p : Phys) (rate : Nat) :
    ((s.setRate p rate).rxl p).rate = rate ∧ ((s.setRate p rate).rxl p).state = (s.rxl p).state ∧
      ((s.setRate p rate).rxl p).dgain = (s.rxl p).dgain ∧ ((s.setRate p rate).rxl p).deskew = (s.rxl p).deskew := by
  unfold State.setRate
  split
  next h => exact ⟨h, rfl, rfl, rfl⟩
  next => simp [RxLane.newWindow]

/-- An accepted LANE.SET_RX of the selected lanes: each of them takes the settings, and no other lane changes (R391,
R381). -/
theorem laneSetRx_accepted {s : State} {k : Sess} {a : Bytes} (h : s.holds k 0x0310 a)
    (hc : ∀ p ∈ selAll 136 (byteAt a 0), (s.ln p).selftest = false ∧
      ((s.rxl p).rate = byteAt a 9 ∨ s.modeOf p = .dark ∨ s.modeOf p = .tune)) :
    Answers (.laneSetRx k) s k 0x0310 .ok 0 [] fun t =>
      (∀ p ∈ selAll 136 (byteAt a 0), RxLane.TakesSet a (s.modeOf p) (s.rxl p) (t.rxl p)) ∧
      ∀ q, q ∉ selAll 136 (byteAt a 0) → t.rxl q = s.rxl q := by
  refine answers_of (u := ?u) rfl h ?body ?sess ?post
  case body =>
    refine State.forAllSel_accepted fun p hp => ?_
    obtain ⟨ht, hr⟩ := hc p hp
    have changes_allowed : ¬ ((s.rxl p).rate ≠ byteAt a 9 ∧ s.modeOf p ≠ .dark ∧ s.modeOf p ≠ .tune) :=
      fun ⟨rate, dark, tune⟩ => hr.elim rate fun m => m.elim dark tune
    rw [ht, if_neg Bool.false_ne_true, if_neg changes_allowed]
  case sess =>
    exact State.each_untouched (·.sess k) s fun p _ u => u.setRate_sess p _ k
  case post =>
    refine ⟨fun p hp => ?_, fun q hq => ?_⟩
    · rw [State.rxl_respond]
      obtain ⟨u, hu, ht⟩ := State.each_own (fun u => (u.rxl p, u.lane)) s hp (selAll_nodup _ _) fun j u hj =>
        Prod.ext ((State.rxl_modRx_other _ _ hj.symm _).trans (u.rxl_setRate_other hj.symm _)) (u.setRate_lane j _)
      obtain ⟨hr, hm⟩ := Prod.mk.inj hu
      obtain ⟨rate, state, dgain, deskew⟩ := u.setRate_rxl p (byteAt a 9)
      have mode : u.modeOf p = s.modeOf p := congrArg (fun l => (l[p.val]).mode) hm
      rw [(Prod.mk.inj ht).1, State.rxl_modRx_self, ← mode, ← hr]
      exact ⟨⟨rfl, rfl, rfl, rfl, rfl, rfl, rfl, rfl, rfl, rate, rfl, rfl, rfl⟩, by rw [← deskew],
        by rw [← state, ← dgain], by rw [← state, ← dgain]⟩
    · rw [State.rxl_respond]
      exact State.each_untouched (·.rxl q) s fun p hp u =>
        have apart : q ≠ p := fun e => hq (e ▸ hp)
        (State.rxl_modRx_other _ _ apart _).trans (u.rxl_setRate_other apart _)

/-! Palette swaps. -/

theorem State.rxSwap_starts {s : State} {p : Phys} {w : Swap} {sym : Sym} (h : (s.rxl p).fade = none) :
    s.rxSwap p w sym = (0, s.modRx p fun r => { r with fade := some { swap := w } }) := by
  simp [State.rxSwap, h]

/-- A swap asked for while a fade is pending is held behind it, in place of one held before (Table 2-8). -/
theorem State.rxSwap_held {s : State} {p : Phys} {f : Fade} (h : (s.rxl p).fade = some f) (w : Swap) (sym : Sym) :
    ∃ u, s.rxSwap p w sym = (1, u) ∧ (u.rxl p).fade = some f ∧ (u.rxl p).heldSwap = some w ∧
      ∀ k, u.sess k = s.sess k := by
  cases old : (s.rxl p).heldSwap <;> simp [State.rxSwap, h, old]

/-- Settles O25: each command's reply and next state written out, and the receiver read off it. -/
theorem lineReceiveCommands : Obligations.LineReceiveCommands := by
  refine ⟨?_, ?_, ?_, ?_, ?_, ?_, ?_, ?_, ?_, ?_, ?_, ?_, ?_, ?_, ?_, ?_⟩
  · -- LANE.SET_RX of one lane
    intro s k a p h hp hc
    have one : selAll 136 (byteAt a 0) = [p] := by rw [hp, selAll_val]
    obtain ⟨t, he, ha, own, other⟩ := laneSetRx_accepted h (by simpa [one] using hc)
    obtain ⟨isSet, deskew, dgain, staged⟩ := own p (by simp [one])
    exact ⟨t, he, ha, isSet, deskew, dgain, staged, fun q hq => other q (by simpa [one] using hq)⟩
  · -- LANE.SET_RX of all lanes
    intro s k a h hp hc
    obtain ⟨t, he, ha, own, _⟩ := laneSetRx_accepted h fun p _ => hc p
    refine ⟨t, he, ha, fun p => ?_⟩
    obtain ⟨isSet, deskew, dgain, staged⟩ := own p (by rw [hp, selAll_all (by decide)]; exact List.mem_finRange p)
    exact ⟨isSet, deskew, dgain, staged⟩
  · -- LANE.SET_RX of another rate
    rintro s k a p h hp ⟨ht, hr, hd, hu⟩
    refine answers_of (u := s) rfl h ?_ rfl (by simp)
    have one_lane : decide (byteAt a 0 = 255) = false := decide_eq_false (by omega)
    dsimp only
    rw [one_lane, hp, selAll_val]
    exact State.forAllSel_refused (by simp [ht, hr, hd, hu, refuse])
  · -- LANE.LOAD_RX_PALETTE
    rintro s k a p h hp ⟨ht, hf, hb⟩
    refine answers_of rfl h (by simp [hp, ht, hf, hb, replyOk]; rfl) (by simp) ?_
    by_cases b : byteAt a 1 = 1 <;> simp [b]
  · -- LANE.LOAD_RX_PALETTE refused
    rintro s k a p h hp ⟨ht, hf⟩
    cases fade : (s.rxl p).fade with
    | some f => exact answers_of rfl h (by simp [hp, ht, fade, refuse]; rfl) (by simp) (by simp)
    | none =>
      have active : (s.rxl p).activeB = decide (byteAt a 1 = 1) := hf.resolve_left (not_not_intro fade)
      exact answers_of (u := s) rfl h (by simp [hp, ht, fade, active, refuse]) rfl (by simp)
  · -- LANE.GET_RX_DIAG
    rintro s k a p h hp ⟨ht, hb⟩
    exact answers_of (u := s) rfl h (by simp [hp, ht, hb, State.statusReply, replyOk]) rfl (by simp)
  · -- LANE.GET_RX_DIAG with CLEAR
    rintro s k a p h hp ⟨ht, hb⟩
    exact answers_of (u := s.modDiag p RxDiag.restart) rfl h (by simp [hp, ht, hb, State.statusReply, replyOk]) rfl
      (by simp [RxDiag.restart])
  · -- LANE.GET_RX_DIAG of a lane under test
    rintro s k a p h hp ⟨ht, hb⟩
    exact answers_of (u := s) rfl h (by simp [hp, ht, hb, State.statusReply]) rfl (by simp)
  · -- LANE.SWAP_PALETTE
    rintro s k a p h hp ⟨ht, hf, hm⟩
    exact answers_of rfl h (by simp [hp, ht, hm, State.rxSwap_starts hf, replyOk, leBytes]; rfl) (by simp) (by simp)
  · -- LANE.SWAP_PALETTE held
    rintro s k a p f h hp ⟨ht, hf, hm⟩
    obtain ⟨u, hu, fade, held, sess⟩ :=
      State.rxSwap_held hf { exp := byteAt a 2, tag := BitVec.ofNat 16 (fieldLE a 4 2) } (s.rxl p).symCount
    exact answers_of (u := u) rfl h (by simp [hp, ht, hm, hu, replyOk, leBytes]) (sess k) (by simp [fade, held])
  · -- LANE.SWAP_PALETTE refused
    rintro s k a p h hp ⟨ht, hm⟩
    have no_swap :
        ¬ (s.modeOf p = .steady ∨ s.modeOf p = .transparent ∨ s.modeOf p = .tune ∨ s.modeOf p = .loop) := by
      rcases hm with hm | hm | hm
      · cases e : s.modeOf p <;> simp [e, burstMode] at hm ⊢
      · simp [hm]
      · simp [hm]
    exact answers_of rfl h (by simp only [hp, finOf_val, ht, no_swap, refuse]; rfl) (by simp) (by simp)
  · -- LANE.CAPTURE_FLIPBOOK
    rintro s k a p h ⟨hp, harm⟩ ⟨ht, hc, hm, hr⟩
    exact answers_of rfl h (by simp [hp, harm, ht, hc, hm, hr, replyOk]; rfl) (by simp) (by simp)
  · -- LANE.CAPTURE_FLIPBOOK releases
    rintro s k a p h ⟨hp, harm⟩ ⟨ht, hm, hr⟩ hc
    exact answers_of rfl h (by simp [hp, harm, ht, hc, hm, hr, replyOk]; rfl) (by simp) (by simp)
  · -- LANE.READ_FLIPBOOK
    rintro s k a p h ⟨hp, hn⟩ ⟨ht, hc⟩
    have within : ¬ 1024 < fieldLE a 2 2 + fieldLE a 4 2 := Nat.not_lt.mpr hn
    refine answers_of rfl h (by simp [hp, hc, within, ht, State.each, State.statusReply, replyOk, captureCode]; rfl) ?_ ?_
    · split <;> simp
    · split <;> simp [hc]
  · -- LANE.READ_FLIPBOOK beyond the capture
    rintro s k a p h ⟨hp, hn, hc⟩
    exact answers_of (u := s) rfl h (by simp [hp, hn, hc, badArg]) rfl (by simp)
  · -- LANE.READ_FLIPBOOK without a capture
    rintro s k a p h ⟨hp, hc⟩
    exact answers_of (u := s) rfl h (by simp [hp, hc, refuse]) rfl (by simp)

end Sys2Proof.Machine
end

section
/-!
The blind estimator and calibration runs (R35 to R40, R282 to R284).
-/
namespace Sys2Proof.Machine

@[simp] theorem State.rxl_modCalLane (s : State) (p q : Phys) (f : CalLane → CalLane) :
    (s.modCalLane q f).rxl p = s.rxl p := rfl

/-! A rejected window (R36, R37). -/

section
variable {s : State} {p : Phys} (reason : Nat)

theorem State.rxl_calFinish (s : State) (p q : Phys) (completed : Bool) : (s.calFinish p completed).rxl q = s.rxl q :=
  (State.calFinish_keeps (.refl [.ev, .trigPins, .cal] s) (List.Subset.refl _) p completed).rxl (by decide) q

theorem State.rejectWindow_counted (s : State) (p : Phys) : ((s.rejectWindow p reason).rxl p) =
    { s.rxl p with diag := { (s.rxl p).diag with calRejected := satW 16 ((s.rxl p).diag.calRejected + 1) } } := by
  simp only [State.rejectWindow]
  split
  · simp
  split
  · rw [State.rxl_calFinish]
    simp [State.rxl]
  · simp [State.rxl]

theorem State.rejectWindow_outside (h : (s.cal.lane[p.val]).state ≠ .running) : (s.rejectWindow p reason).cal = s.cal := by
  simp [State.rejectWindow, h]

theorem State.rejectWindow_early (h : (s.cal.lane[p.val]).state = .running) (hr : (s.cal.lane[p.val]).rejected < 7) :
    ((s.rejectWindow p reason).cal.lane[p.val]).rejected = (s.cal.lane[p.val]).rejected + 1 ∧
      ((s.rejectWindow p reason).cal.lane[p.val]).state = .running := by
  have not_eighth : ¬ 8 ≤ (s.cal.lane[p.val]).rejected + 1 := by omega
  simp [State.rejectWindow, h, not_eighth]

/-- The eighth rejected window in a row ends the run STALLED (Table 9-10). -/
theorem State.rejectWindow_eighth (h : (s.cal.lane[p.val]).state = .running) (hr : 7 ≤ (s.cal.lane[p.val]).rejected) :
    ((s.rejectWindow p reason).cal.lane[p.val]).state = .idle ∧
      ((s.rejectWindow p reason).cal.lane[p.val]).outcome = .stalled ∧
      ((s.rejectWindow p reason).cal.lane[p.val]).ref = (s.cal.lane[p.val]).ref := by
  have eighth : 8 ≤ (s.cal.lane[p.val]).rejected + 1 := by omega
  simp [State.rejectWindow, h, eighth, State.calFinish]

end

/-- A starved window is closed and rejected, and the next one starts (R36). -/
theorem execEstimationWindowStarved_starved {s : State} {p : Phys} (h : (s.rxl p).state ≠ .off ∧
    (s.rxl p).sums.full (s.rxl p).rate = false ∧ (s.rxl p).starveLimit ≤ s.since (s.rxl p).sums.start) :
    exec (.estimationWindowStarved p) s = .next ((s.modRx p fun r => r.newWindow s.now).rejectWindow p 0) := by
  obtain ⟨hs, hf, hl⟩ := h
  exact congrArg _ (if_neg (by simp [hs, hf, hl]))

/-- Settles O43: each event's next state written out; the windows that are rejected by the rules of `State.rejectWindow`. -/
theorem estimatorAndRuns : Obligations.EstimatorAndRuns := by
  refine ⟨?_, ?_, ?_, ?_, ?_, ?_, ?_, ?_⟩
  · -- a full window
    intro s p h
    exact ⟨_, rfl, by simp [h, RxLane.newWindow]⟩
  · -- a starved window outside a run
    rintro s p h hc
    refine ⟨_, execEstimationWindowStarved_starved h, ?_, ?_⟩
    · simp [State.rejectWindow_counted, RxLane.newWindow]
    · exact State.rejectWindow_outside 0 hc
  · -- a starved window in a run
    rintro s p h ⟨hc, hr⟩
    refine ⟨_, execEstimationWindowStarved_starved h, ?_, State.rejectWindow_early 0 hc hr⟩
    simp [State.rejectWindow_counted, RxLane.newWindow]
  · -- the eighth starved window in a row
    rintro s p h ⟨hc, hr⟩
    exact ⟨_, execEstimationWindowStarved_starved h, State.rejectWindow_eighth 0 hc hr⟩
  · -- an accepted window in a run
    rintro s p w ⟨hw, hclip, hbias⟩ ⟨hc, hr⟩
    refine ⟨_, rfl, ?_⟩
    -- `estimate` reads neither the window register nor whether a set is staged, so the last step is by definition
    cases pending : (s.rxl p).stagedPending <;>
      (simp [hw, Nat.not_lt.mpr hclip, Nat.not_lt.mpr hbias, hc, hr, pending]; rfl)
  · -- a clipped window outside a run
    rintro s p w ⟨hw, hclip, hc⟩
    exact ⟨_, rfl, by simp [hw, hclip, State.rejectWindow_counted]⟩
  · -- a queued trigger starts
    rintro s x hx hn
    exact ⟨_, rfl, by simp [hx, Nat.not_le.mpr hn]⟩
  · -- the period
    rintro s p ⟨hp, hpin, hm, hc⟩
    exact ⟨_, rfl, by simp [hp, hpin, hm, State.calTrigger, hc, CalUnit.enqueue]⟩

end Sys2Proof.Machine
end

section
/-!
What the operations of the receive events leave of a receiver and a decoder, and that raising an event reads no receiver.
-/
namespace Sys2Proof.Machine

section
variable (s : State) (p q : Phys)

@[simp] theorem State.rxl_amDrop : (s.amDrop q).rxl p = s.rxl p :=
  (State.amDrop_keeps (.refl [.sess, .ev, .mem, .dec, .work, .group, .trigPins] s) (List.Subset.refl _) q).rxl
    (by decide) p

@[simp] theorem State.rxl_urgent (kind idx : Nat) : (s.urgent kind idx).rxl p = s.rxl p :=
  (State.urgent_keeps (.refl [.ev, .mon, .trigPins] s) (List.Subset.refl _) kind idx).rxl (by decide) p

@[simp] theorem State.del_urgent (kind idx : Nat) : (s.urgent kind idx).del p = s.del p :=
  congrArg (·[p.val]) (show (s.urgent kind idx).dec = s.dec from
    State.urgent_keeps (.refl [.ev, .mon, .trigPins] s) (List.Subset.refl _) kind idx .dec (by decide))

@[simp] theorem State.rxl_calApplied : (s.calApplied q).rxl p = s.rxl p :=
  (State.calApplied_keeps (.refl [.ev, .trigPins, .cal] s) (List.Subset.refl _) q).rxl (by decide) p

@[simp] theorem State.del_raiseP (e : Ev) (code arg1 arg2 : Nat) : (s.raiseP e q code arg1 arg2).del p = s.del p := by
  simp [State.del]

@[simp] theorem State.del_modRx (f : RxLane → RxLane) : (s.modRx q f).del p = s.del p := rfl

@[simp] theorem State.del_modDiag (f : RxDiag → RxDiag) : (s.modDiag q f).del p = s.del p := rfl

/-- A lost receive path has no marker lock (Table 4-5). -/
theorem State.amDrop_amLocked : ((s.amDrop p).del p).amLocked = false := by
  have lost (t : State) (f : DecodeLane → DecodeLane) : (t.modDec p f).del p = f (t.del p) := vupd_self ..
  simp only [State.amDrop]
  split
  · split
    · simp [State.del]
    · simp [lost]
  · simp [lost]

/-- A receiver has no part in raising an event. -/
theorem State.raiseNow_modRx (f : RxLane → RxLane) (e : Ev) (source code arg1 arg2 n : Nat) :
    (s.modRx p f).raiseNow e source code arg1 arg2 n = (s.raiseNow e source code arg1 arg2 n).modRx p f := by
  simp only [State.raiseNow, apply_ite (State.modRx · p f)]
  rfl

theorem State.raiseP_modRx (f : RxLane → RxLane) (e : Ev) (code arg1 arg2 : Nat) :
    (s.modRx p f).raiseP e q code arg1 arg2 = (s.raiseP e q code arg1 arg2).modRx p f := by
  have commutes (t : State) := t.raiseNow_modRx p f e (lanesSrc (s.workOf q) (some q)) code arg1 arg2 0
  simp only [State.raiseP, State.raise, apply_ite (State.modRx · p f), ← commutes]
  rfl

end

end Sys2Proof.Machine
end

section
/-!
A CK_DSP cycle of a receiver in a continuous mode (R31, R36, R41 to R45).
-/
namespace Sys2Proof.Machine

/-- What the equaliser's part of a cycle leaves alone but for the adaptation: the active coefficients, the corrected
samples, the symbol counter and the clip count. -/
def RxLane.sampled (r : RxLane) : Coeffs × List Int × Sym × Nat :=
  (r.active, r.corrected, r.symCount, r.diag.clipCount)

theorem RxLane.active_setActive (r : RxLane) (c : Coeffs) : (r.setActive c).active = c := by
  unfold RxLane.setActive RxLane.active
  split <;> simp_all

theorem RxLane.sampled_track (r : RxLane) (n : Nat) (err : Int) : (r.track n err).sampled = r.sampled := rfl

/-- Equalising a cycle's symbols changes the equaliser and counts pilot errors. -/
theorem RxLane.sampled_equalise (r : RxLane) (act : Coeffs) (g rungs n x : Nat) (q : Equaliser) :
    { r.equalise act g rungs n with eq := q, diag := { r.diag with pilotErrors := x } }.sampled = r.sampled := rfl

/-- The samples of a cycle that count enter the sums of the window and change nothing else of the receiver (R36). -/
theorem State.countSamples_sums (s : State) (p : Phys) (n : Nat) :
    ∃ e, (s.countSamples p n).rxl p = { s.rxl p with sums := e } := by
  have enters (f : RxLane → EstSums) :
      ∃ e, (s.modRx p fun r => { r with sums := f r }).rxl p = { s.rxl p with sums := e } :=
    ⟨f (s.rxl p), State.rxl_modRx_self ..⟩
  have unchanged : ∃ e, s.rxl p = { s.rxl p with sums := e } := ⟨_, rfl⟩
  have either {c : Prop} [Decidable c] {a b : State} (ha : ∃ e, a.rxl p = { s.rxl p with sums := e })
      (hb : ∃ e, b.rxl p = { s.rxl p with sums := e }) :
      ∃ e, (if c then a else b).rxl p = { s.rxl p with sums := e } := by
    split <;> assumption
  unfold State.countSamples
  refine either (enters _) ?_
  split
  · exact either unchanged (either unchanged (enters _))
  · exact unchanged

/-- Which samples count, and what they add, rests on the lane alone. -/
theorem State.countSamples_congr {s t : State} {p : Phys} {n : Nat} (hr : t.rxl p = s.rxl p) (hm : t.modeOf p = s.modeOf p)
    (ha : t.acl p = s.acl p) (hw : t.wantsSignal p = s.wantsSignal p) :
    (t.countSamples p n).rxl p = (s.countSamples p n).rxl p := by
  have both {c : Prop} [Decidable c] {a b a' b' : State} (h : a.rxl p = a'.rxl p) (k : b.rxl p = b'.rxl p) :
      (if c then a else b).rxl p = (if c then a' else b').rxl p := by
    split <;> assumption
  have enters (f : RxLane → RxLane) : (t.modRx p f).rxl p = (s.modRx p f).rxl p := by simp [hr]
  have hc : t.samplesCount p = s.samplesCount p := by simp only [State.samplesCount, hr, hm, hw]
  simp only [State.countSamples, hr, hm, ha, hc]
  refine both (enters _) ?_
  split
  · exact both hr (both hr (enters _))
  · exact hr

/-- The bits of a TRANSPARENT lane go on with the last level noted (R122). -/
theorem State.passBits_sampled (s : State) (p : Phys) : ((s.passBits p).rxl p).sampled = (s.rxl p).sampled := by
  have toHost (t : State) (w : Work) (bits : List Bool) : (t.rawBack w bits).rxl p = t.rxl p :=
    (State.rawBack_keeps (.refl [.ev, .group, .trigPins] t) (List.Subset.refl _) w bits).rxl (by decide) p
  unfold State.passBits
  dsimp only
  split
  · split
    · rfl
    · rw [toHost, State.rxl_modRx_self]
      rfl
  · rfl

/-- A cycle of the equaliser: the state `t` after decisions, loop and bits, and the update of the active coefficients unless
adaptation is frozen (R41 to R45). -/
theorem State.equaliseCycle_adapts (s : State) (p : Phys) : ∃ t : State, (t.rxl p).sampled = (s.rxl p).sampled ∧
    s.equaliseCycle p =
      let r := s.rxl p
      let q := (r.equalise r.active r.dgain (s.rungsOf p) r.due).eq
      if r.frozenAdapt then t
      else t.modActive p fun c => adaptMask r (s.rungsOf p) c (Config.lms (slowed (s.rungsOf p) r.adaptK) c
        (q.refs fun x => if superframes (s.modeOf p) then r.runPilot x else none) q.recent r.corrected) := by
  have either {c : Prop} [Decidable c] {a b : RxLane} (ha : a.sampled = (s.rxl p).sampled)
      (hb : b.sampled = (s.rxl p).sampled) : (if c then a else b).sampled = (s.rxl p).sampled := by
    split <;> assumption
  refine ⟨_, ?_, rfl⟩
  rw [State.passBits_sampled, State.rxl_modRx_self]
  exact either ((RxLane.sampled_track ..).trans (RxLane.sampled_equalise ..)) (RxLane.sampled_equalise ..)

/-- Once the raw samples of a cycle are in the ring's array, recorded, and counted toward the estimation window. -/
def State.takeCycle (s : State) (p : Phys) (raw : Bytes) : State :=
  ((s.ringWrite p raw.length).modRx p fun r => r.record raw).countSamples p raw.length

theorem execAdaptationUpdate_locked {s : State} {p : Phys} {raw : Bytes} (hs : (s.rxl p).state = .locked)
    (hn : raw.length ≤ qOf (s.rxl p).rate) :
    exec (.adaptationUpdate p raw) s = .next ((s.takeCycle p raw).equaliseCycle p) := by
  show execAdaptationUpdate p raw s = _
  simp [execAdaptationUpdate, State.takeCycle, hs, List.take_of_length_le hn]

theorem State.takeCycle_keeps (s : State) (p : Phys) (raw : Bytes) : SameBut [.mem, .rx] s (s.takeCycle p raw) :=
  State.countSamples_keeps (State.modRx_keeps (State.ringWrite_keeps (.refl _ s) (by decide) p _) (by decide) p _)
    (by decide) p _

/-- What a cycle's samples make of the receiver does not depend on the array that holds the ring. -/
theorem State.takeCycle_rxl (s : State) (p : Phys) (raw : Bytes) : (s.takeCycle p raw).rxl p =
    ((s.modRx p fun r => r.record raw).countSamples p raw.length).rxl p := by
  have k : SameBut [.mem] s (s.ringWrite p raw.length) := State.ringWrite_keeps (.refl _ s) (List.Subset.refl _) p _
  have hr := k.rxl (by decide) p
  have hm : (s.ringWrite p raw.length).lane = s.lane := k .lane (by decide)
  have ha : (s.ringWrite p raw.length).acq = s.acq := k .acq (by decide)
  have ht : (s.ringWrite p raw.length).tx = s.tx := k .tx (by decide)
  have hc : (s.ringWrite p raw.length).cal = s.cal := k .cal (by decide)
  apply State.countSamples_congr
  · simp [hr]
  · simp [State.modeOf, hm]
  · simp [State.acl, ha]
  · show (((s.ringWrite p raw.length).tx[p.val]).trainSignal ||
      decide (((s.ringWrite p raw.length).cal.lane[p.val]).state = .running)) = _
    rw [ht, hc]
    rfl

theorem State.takeCycle_sums (s : State) (p : Phys) (raw : Bytes) :
    ∃ e, (s.takeCycle p raw).rxl p = { (s.rxl p).record raw with sums := e } := by
  obtain ⟨e, he⟩ := State.countSamples_sums (s.modRx p fun r => r.record raw) p raw.length
  exact ⟨e, by rw [State.takeCycle_rxl, he, State.rxl_modRx_self]⟩

theorem State.takeCycle_frozenAdapt (s : State) (p : Phys) (raw : Bytes) :
    ((s.takeCycle p raw).rxl p).frozenAdapt = (s.rxl p).frozenAdapt := by
  obtain ⟨e, he⟩ := s.takeCycle_sums p raw
  rw [he]
  rfl

theorem State.takeCycle_sampled (s : State) (p : Phys) (raw : Bytes) :
    ((s.takeCycle p raw).rxl p).sampled = ((s.rxl p).record raw).sampled := by
  obtain ⟨e, he⟩ := s.takeCycle_sums p raw
  rw [he]
  rfl

/-- A cycle in LOCKED with adaptation frozen: the samples are recorded and counted, and the active coefficients stay
(R44). -/
theorem adaptationUpdate_frozen {s : State} {p : Phys} {raw : Bytes} (hs : (s.rxl p).state = .locked)
    (hf : (s.rxl p).frozenAdapt = true) (hn : raw.length ≤ qOf (s.rxl p).rate) :
    Leads (.adaptationUpdate p raw) s fun t => (t.rxl p).sampled = ((s.rxl p).record raw).sampled := by
  obtain ⟨t, ht, he⟩ := (s.takeCycle p raw).equaliseCycle_adapts p
  refine ⟨_, execAdaptationUpdate_locked hs hn, ?_⟩
  simp only [he, s.takeCycle_frozenAdapt, hf, if_true, ht, s.takeCycle_sampled]

/-- A cycle in LOCKED in TUNE with adaptation not frozen: the update of the active coefficients (R42, R44). -/
theorem adaptationUpdate_tune {s : State} {p : Phys} {raw : Bytes} (hs : (s.rxl p).state = .locked)
    (hf : (s.rxl p).frozenAdapt = false) (hn : raw.length ≤ qOf (s.rxl p).rate) (hm : s.modeOf p = .tune) :
    Leads (.adaptationUpdate p raw) s fun t =>
      let r := ((s.modRx p fun r => r.record raw).countSamples p raw.length).rxl p
      let e := (r.equalise r.active r.dgain (s.rungsOf p) r.due).eq
      (t.rxl p).active = adaptMask r (s.rungsOf p) r.active (Config.lms (slowed (s.rungsOf p) r.adaptK) r.active
        (e.refs fun _ => none) e.recent r.corrected) := by
  obtain ⟨t, ht, he⟩ := (s.takeCycle p raw).equaliseCycle_adapts p
  have active : (t.rxl p).active = ((s.takeCycle p raw).rxl p).active := congrArg Prod.fst ht
  have no_pilots : superframes ((s.takeCycle p raw).modeOf p) = false := by
    have lanes : (s.takeCycle p raw).lane = s.lane := s.takeCycle_keeps p raw .lane (by decide)
    rw [show (s.takeCycle p raw).modeOf p = .tune by rw [State.modeOf, lanes]; exact hm]
    rfl
  have rungs : (s.takeCycle p raw).rungsOf p = s.rungsOf p := by
    have work : (s.takeCycle p raw).work = s.work := s.takeCycle_keeps p raw .work (by decide)
    simp only [State.rungsOf, State.workOf, State.wk, work]
  refine ⟨_, execAdaptationUpdate_locked hs hn, ?_⟩
  simp only [he, s.takeCycle_frozenAdapt, hf, no_pilots, rungs, Bool.false_eq_true, if_false, State.modActive,
    State.rxl_modRx_self, RxLane.active_setActive, active, ← s.takeCycle_rxl]

end Sys2Proof.Machine
end

section
/-!
The receive events (Table 2-7, R28 to R50).
-/
namespace Sys2Proof.Machine

/-- Settles O26: each event's next state written out, and the receiver, its decoder and the event unit read off it. -/
theorem lineReceiveEvents : Obligations.LineReceiveEvents := by
  refine ⟨?_, ?_, ?_, ?_, ?_, ?_, ?_, ?_, ?_, ?_, ?_, ?_, ?_, ?_, ?_, ?_, ?_, ?_⟩
  · -- loss of signal
    rintro s p ⟨ho, hb, hl, hn, hm⟩ ⟨hc, hs, hlow⟩
    refine ⟨_, rfl, ?_⟩
    have fourth : 4 ≤ (s.rxl p).losLow + 1 := by omega
    simp [ho, hb, hl, hm, hc, hs, hlow, fourth, State.amDrop_amLocked]
  · -- loss of signal ends
    rintro s p ⟨hw, hl, hn, hm⟩ ⟨hc, hs, hhigh⟩
    refine ⟨_, rfl, ?_⟩
    have fourth : 4 ≤ (s.rxl p).losHigh + 1 := by omega
    simp [hw, hl, hm, hc, hs, hhigh, fourth]
  · -- AGC below target
    rintro s p rms ⟨hon, ho, hb, hr⟩
    refine ⟨_, rfl, ?_, ?_, fun q hq => State.rxl_modRx_other _ _ hq _⟩ <;> simp [hon, ho, hb, hr]
  · -- AGC above target
    rintro s p rms ⟨hon, ho, hb, hr⟩
    exact ⟨_, rfl, by simp [hon, ho, hb, hr, Nat.lt_asymm hr]⟩
  · -- a staged set comes into force
    rintro s p sym ⟨hr, hp, ho, hm⟩
    exact ⟨_, rfl, by simp [hr, hp, ho, hm]⟩
  · -- no staged set comes into force
    rintro s p sym h
    have waits : (s.rxl p).replaying = true ∨ (s.rxl p).state = .off ∨ ¬ s.mayApplySet p sym = true := by
      simpa using h.imp_right Or.inr
    exact ⟨_, rfl, if_pos waits⟩
  · -- pilot lock
    rintro s p m ⟨hs, hn, he⟩
    exact ⟨_, rfl, by simp [hs, hn, he]⟩
  · -- pilot lock lost
    rintro s p m ⟨hs, hn, he⟩
    exact ⟨_, rfl, by simp [hs, hn, he, State.amDrop_amLocked]⟩
  · -- acquisition limit
    rintro s p hs
    exact ⟨_, rfl, by simp [hs, State.raiseP_modRx]⟩
  · -- lock
    rintro s p ⟨hs, hq⟩
    exact ⟨_, rfl, by simp [hs, hq, State.raiseP_modRx]⟩
  · -- a fade starts
    rintro s p f ⟨hf, hs⟩
    exact ⟨_, rfl, by simp [hf, hs, RxLane.frozenAdapt, RxLane.fading]⟩
  · -- a fade's midpoint
    rintro s p f ⟨hf, hs, hh⟩
    refine ⟨_, rfl, ?_⟩
    cases hb : (s.rxl p).activeB <;> simp [hf, hs, hh, hb, RxLane.inForce]
  · -- a fade ends
    rintro s p f ⟨hf, hs, hw, he⟩
    exact ⟨_, rfl, by simp [hf, hs, hw, he, State.rxFadeEnd]⟩
  · -- a fade ends with a held swap
    rintro s p f w ⟨hf, hs, hw, he⟩
    exact ⟨_, rfl, by simp [hf, hs, hw, he, State.rxFadeEnd]⟩
  · -- a capture's trigger
    rintro s p kind h
    exact ⟨_, rfl, by simp [h]⟩
  · -- a capture is complete
    rintro s p h
    exact ⟨_, congrArg Host.Outcome.next (if_pos h), by simp⟩
  · -- a cycle with adaptation frozen
    rintro s p raw ⟨hs, hf, hn⟩
    obtain ⟨t, he, ht⟩ := adaptationUpdate_frozen hs hf hn
    simp only [RxLane.sampled, Prod.mk.injEq] at ht
    exact ⟨t, he, ht⟩
  · -- a cycle in TUNE
    rintro s p raw ⟨hs, hf, hn, hm⟩
    exact adaptationUpdate_tune hs hf hn hm

end Sys2Proof.Machine
end

section
/-!
CRC-8 of a burst header, bit by bit (R59).
-/
namespace Sys2Proof.Machine

/-- One bit taken by the division by x^8 + x^2 + x + 1 (R59). -/
def crcBit (r : BitVec 8) (bit : Bool) : BitVec 8 := if (r.msb ^^ bit) = true then (r <<< 1) ^^^ 0x07#8 else r <<< 1

/-- A bit added to the register's top before the shift is taken by the division as one that comes in serially. -/
theorem crcBit_xor_shiftLeft (r b : BitVec 8) {n : Nat} (h : n < 8) :
    (if (r ^^^ (b <<< n)).msb then ((r ^^^ (b <<< n)) <<< 1) ^^^ 0x07#8 else (r ^^^ (b <<< n)) <<< 1) =
      crcBit r (b.getLsbD (7 - n)) ^^^ (b <<< (n + 1)) := by
  have top : (r ^^^ (b <<< n)).msb = (r.msb ^^ b.getLsbD (7 - n)) := by
    rw [BitVec.msb_xor, BitVec.msb_shiftLeft, BitVec.getMsbD, decide_eq_true h, Bool.true_and]
  rw [top, crcBit, BitVec.shiftLeft_xor_distrib, ← BitVec.shiftLeft_add]
  split
  · rw [BitVec.xor_assoc, BitVec.xor_comm (b <<< (n + 1)), BitVec.xor_assoc]
  · rfl

/-- Two folds over the numbers below n agree where their steps agree below n. -/
theorem foldl_range_congr {α : Type} {f g : α → Nat → α} {n : Nat} (h : ∀ r i, i < n → f r i = g r i) (a : α) :
    (List.range n).foldl f a = (List.range n).foldl g a := by
  induction n with
  | zero => rfl
  | succ n ih =>
    simp only [List.range_succ, List.foldl_append, List.foldl_cons, List.foldl_nil]
    rw [ih fun r i hi => h r i (Nat.lt_succ_of_lt hi), h _ _ (Nat.lt_succ_self n)]

/-- A byte taken whole, most significant bit first, is its eight bits taken one by one. -/
theorem crc8Byte_eq_crcBit (c b : BitVec 8) :
    crc8Byte c b = (List.range 8).foldl (fun r i => crcBit r (b.getLsbD (7 - i))) c := by
  have steps (n : Nat) (h : n ≤ 8) :
      (List.range n).foldl (fun c _ => if c.msb then (c <<< 1) ^^^ 0x07#8 else c <<< 1) (c ^^^ b) =
        (List.range n).foldl (fun r i => crcBit r (b.getLsbD (7 - i))) c ^^^ (b <<< n) := by
    induction n with
    | zero => simp
    | succ n ih =>
      simp only [List.range_succ, List.foldl_append, List.foldl_cons, List.foldl_nil]
      rw [ih (by omega), crcBit_xor_shiftLeft _ _ (by omega)]
  rw [crc8Byte, steps 8 (Nat.le_refl 8), BitVec.shiftLeft_eq_zero (Nat.le_refl 8), BitVec.xor_zero]

theorem beBytes_succ (n v : Nat) : beBytes (n + 1) v = beBytes n (v / 256) ++ [BitVec.ofNat 8 v] := by
  simp [beBytes, leBytes]

/-- CRC-8 of the low n bytes of a number, highest first, is the bit-serial division of its bits, highest first. -/
theorem crc8_beBytes (init : BitVec 8) (n v : Nat) :
    crc8 init (beBytes n v) = (List.range (8 * n)).foldl (fun r i => crcBit r (v.testBit (8 * n - 1 - i))) init := by
  induction n generalizing v with
  | zero => rfl
  | succ n ih =>
    have upper : ∀ r i, i < 8 * n →
        crcBit r ((v / 256).testBit (8 * n - 1 - i)) = crcBit r (v.testBit (8 * (n + 1) - 1 - i)) := by
      intro r i hi
      rw [show 256 = 2 ^ 8 from rfl, Nat.testBit_div_two_pow, show 8 * n - 1 - i + 8 = 8 * (n + 1) - 1 - i by omega]
    have lowest : ∀ r i, i < 8 →
        crcBit r ((BitVec.ofNat 8 v).getLsbD (7 - i)) = crcBit r (v.testBit (8 * (n + 1) - 1 - (8 * n + i))) := by
      intro r i hi
      have low : 7 - i < 8 := by omega
      rw [BitVec.getLsbD_ofNat, decide_eq_true low, Bool.true_and,
        show 8 * (n + 1) - 1 - (8 * n + i) = 7 - i by omega]
    rw [beBytes_succ, crc8, List.foldl_append, List.foldl_cons, List.foldl_nil, crc8Byte_eq_crcBit,
      foldl_range_congr lowest, ← crc8, ih, foldl_range_congr upper,
      show 8 * (n + 1) = 8 * n + 8 from rfl, List.range_add, List.foldl_append, List.foldl_map]

/-- Settles O19: the seven bytes of h[63:8] are their 56 bits, the highest first. -/
theorem headerCrc : Obligations.HeaderCrc := by
  intro h
  rw [infoCrc, crc8_beBytes]
  refine foldl_range_congr (fun r i hi => ?_) _
  have bit : (h.toNat / 256).testBit (8 * 7 - 1 - i) = h.getLsbD (63 - i) := by
    rw [show 256 = 2 ^ 8 from rfl, Nat.testBit_div_two_pow, show 8 * 7 - 1 - i + 8 = 63 - i by omega, BitVec.getLsbD]
  rw [bit, crcBit]

end Sys2Proof.Machine
end

section
/-!
The burst records of working lanes, the gallery, and reads of arrays whose words are all good (chapter 3).
-/
namespace Sys2Proof.Machine

theorem SameBut.wk {ps : List Part} {s t : State} (h : SameBut ps s t) (hp : .work ∉ ps) (w : Work) : t.wk w = s.wk w :=
  congrArg (·[w.val]) (show t.work = s.work from h .work hp)

section
variable (s : State) (p : Phys) (w : Work)

@[simp] theorem State.wk_modBurst_self (f : BurstLane → BurstLane) :
    (s.modBurst w f).wk w = { s.wk w with burst := f (s.wk w).burst } := vupd_self ..

theorem State.wk_modBurst_other {v : Work} (h : v ≠ w) (f : BurstLane → BurstLane) : (s.modBurst w f).wk v = s.wk v :=
  vupd_other _ _ _ _ h

@[simp] theorem State.sess_modBurst (k : Sess) (f : BurstLane → BurstLane) : (s.modBurst w f).sess k = s.sess k := rfl

@[simp] theorem State.wk_respond (k : Sess) (r : Result) (d : Nat) (data : Bytes) :
    (s.respond k r d data).wk w = s.wk w := by
  simp [State.wk]

/-- A change of the burst records leaves where the working lanes are. -/
@[simp] theorem State.physOf_modBurst (v : Work) (f : BurstLane → BurstLane) :
    (s.modBurst v f).physOf w = s.physOf w := by
  simp only [State.physOf, State.modBurst, State.modWork, vupd_get]
  split <;> rfl

@[simp] theorem State.wk_holdBase (v : Work) : (s.holdBase p v).wk w = s.wk w :=
  (State.holdBase_keeps (.refl [.rx] s) (List.Subset.refl _) p v).wk (by decide) w

@[simp] theorem State.sess_holdBase (k : Sess) : (s.holdBase p w).sess k = s.sess k :=
  (State.holdBase_keeps (.refl [.rx] s) (List.Subset.refl _) p w).session (by decide) k

end

/-! Portraits in the gallery (R85 to R88). -/

section
variable (s : State) (p : Phys) (w : Work)

theorem SameBut.galleryUnit {ps : List Part} {s t : State} (h : SameBut ps s t) (hp : .gallery ∉ ps) :
    t.gallery = s.gallery := h .gallery hp

@[simp] theorem State.gallery_unitWrite (a : Arr) (base len : Nat) : (s.unitWrite a base len).gallery = s.gallery := rfl

@[simp] theorem State.wk_modAcq (f : Acq → Acq) : (s.modAcq p f).wk w = s.wk w := rfl

@[simp] theorem State.wk_raiseW (e : Ev) (v : Work) (code arg1 arg2 : Nat) :
    (s.raiseW e v code arg1 arg2).wk w = s.wk w := by
  simp [State.wk]

@[simp] theorem State.gallery_countBurst (i : Nat) : (s.countBurst w i).gallery = s.gallery := rfl

/-- A burst counter counts (Table 3-11). -/
theorem State.counter_countBurst (i : Fin 32) : ((s.countBurst w i.val).wk w).burst.counters[i.val] =
    satW 32 ((s.wk w).burst.counters[i.val] + 1) := by
  simp [State.countBurst]

@[simp] theorem State.entries_galleryPut (i : Nat) (q : Portrait) (word len : Nat) :
    (s.galleryPut i q word len).gallery.entries = tabSet s.gallery.entries i q := rfl

@[simp] theorem State.sess_modPortrait (k : Sess) (st word len : Nat) (f : Portrait → Portrait) :
    (s.modPortrait w st word len f).sess k = s.sess k :=
  (State.modPortrait_keeps (.refl [.mem, .acq, .gallery] s) (List.Subset.refl _) w st word len f).session (by decide) k

@[simp] theorem State.sess_evict (k : Sess) (idx st reason : Nat) : (s.evict w idx st reason).sess k = s.sess k :=
  (State.evict_keeps (.refl [.ev, .mem, .acq, .work, .gallery, .trigPins] s) (List.Subset.refl _) w idx st
    reason).session (by decide) k

@[simp] theorem State.sess_markPortrait (k : Sess) (st word : Nat) (f : Portrait → Portrait) :
    (s.markPortrait w st word f).2.sess k = s.sess k :=
  (State.markPortrait_keeps (.refl [.ev, .mem, .acq, .gallery, .trigPins] s) (List.Subset.refl _) w st word f).session
    (by decide) k

@[simp] theorem State.gallery_sramPartial (a : Arr) (addr : Nat) (d : BitVec 32) (en : BitVec 4) :
    (s.sramPartial a addr d en).2.gallery = s.gallery :=
  (State.sramPartial_keeps (.refl [.ev, .mem, .trigPins] s) (List.Subset.refl _) a addr d en).galleryUnit (by decide)

/-- Full-word writes of an existing portrait change its gallery entry, whatever the hot cache holds. -/
theorem State.entries_modPortrait {st : Nat} {e : Nat × Portrait} (h : s.gallery.find w st = some e) (word len : Nat)
    (f : Portrait → Portrait) :
    (s.modPortrait w st word len f).gallery.entries = tabSet s.gallery.entries e.1 (f e.2) := by
  simp only [State.modPortrait, h]
  split
  · split <;> rfl
  · rfl

/-- A partial write of an existing portrait whose word can be written (R336). -/
theorem State.markPortrait_written {st : Nat} {e : Nat × Portrait} {word : Nat} {f : Portrait → Portrait}
    (h : s.gallery.find w st = some e)
    (hw : (s.sramPartial arrGallery (galleryWord e.1 + word) ((f e.2).word word) 4).1 = true) :
    (s.markPortrait w st word f).1 = true ∧
      (s.markPortrait w st word f).2.gallery.entries = tabSet s.gallery.entries e.1 (f e.2) := by
  have entries : (s.sramPartial arrGallery (galleryWord e.1 + word) ((f e.2).word word) 4).2.gallery = s.gallery :=
    s.gallery_sramPartial ..
  simp only [State.markPortrait, h, hw, if_true]
  split
  · split
    · split <;> simp [State.modGallery]
    · simp [State.modGallery]
  · simp [State.modGallery]

/-- Removing a portrait deletes its entry and is counted (R86, R88). -/
theorem State.evict_removes (idx st reason : Nat) :
    (s.evict w idx st reason).gallery.entries = tabDel s.gallery.entries idx ∧
      ((s.evict w idx st reason).wk w).burst.counters[24] = satW 32 ((s.wk w).burst.counters[24] + 1) := by
  unfold State.evict
  dsimp only
  split
  · exact ⟨by simp [State.modGallery], by rw [State.wk_raiseW]; exact State.counter_countBurst _ w 24⟩
  · exact ⟨by simp [State.modGallery], by rw [State.wk_raiseW]; exact State.counter_countBurst _ w 24⟩

/-- Under its quota a lane takes the first free entry (R86). -/
theorem State.takeEntry_free {i : Nat} (h : (s.gallery.ofLane w).length < (s.wk w).burst.quota)
    (hi : (List.range 16384).find? (fun j => (tabGet s.gallery.entries j).isNone) = some i) :
    s.takeEntry w = some (i, s) := by
  simp [State.takeEntry, h, hi]

end

/-! Reads of arrays whose words are all good. -/

theorem State.unitRead_clean {s : State} {a : Arr} (h : (s.arrOf a).words = []) (base len : Nat) :
    s.unitRead a base len none = ([], s) := by
  simp [State.unitRead, State.wordsRead, h]

theorem State.each_id {α : Type} {s : State} {l : List α} {f : α → State → State} (h : ∀ x ∈ l, f x s = s) :
    s.each l f = s := by
  induction l with
  | nil => rfl
  | cons x l ih =>
    rw [State.each, List.foldl_cons, h x List.mem_cons_self]
    exact ih fun y hy => h y (List.mem_cons_of_mem _ hy)

/-- A burst log without a word in error is read as it stands. -/
theorem State.readLog_clean {s : State} (h : (s.arrOf arrFabric).words = []) (w : Work) :
    s.readLog w none = ((s.wk w).burst.log, s) := by
  have copies (l : List (Bytes × Nat)) (read : List Bytes) :
      l.foldl (fun acc x =>
        let n := (s.wk w).burst.logged - (s.wk w).burst.log.length + x.2
        let r : List Nat × State := acc.2.unitRead arrFabric (logWord w (n % 64)) 8
          (((none : Option (Nat × Nat × BitVec 42)).filter fun y => decide (y.1 = x.2)).map (·.2))
        (acc.1 ++ [if r.1 = [] then x.1 else zeros 32], r.2)) (read, s) = (read ++ l.map (·.1), s) := by
    induction l generalizing read with
    | nil => simp
    | cons x l ih => simpa [State.unitRead_clean h] using ih (read ++ [x.1])
  rw [State.readLog, copies]
  simp

end Sys2Proof.Machine
end

section
/-!
The burst and portrait commands (Tables 13-5 and 13-6).
-/
namespace Sys2Proof.Machine

theorem laneSetBurst_accepted {s : State} {k : Sess} {a : Bytes} {w : Work} (h : s.holds k 0x0320 a)
    (hw : w ∈ selAll 128 (byteAt a 0)) (ht : ∀ v ∈ selAll 128 (byteAt a 0), s.workTested v = false) :
    Answers (.laneSetBurst k) s k 0x0320 .ok 0 [] fun t => (t.wk w).burst.params =
      ⟨byteAt a 1, byteAt a 2, byteAt a 3, byteAt a 4, byteAt a 5, fieldLE a 6 2, byteAt a 8, byteAt a 9, byteAt a 10,
        byteAt a 11, fieldLE a 12 2⟩ := by
  refine answers_of (u := ?u) rfl h ?body ?sess ?post
  case body =>
    refine State.forAllSel_accepted fun v hv => ?_
    rw [ht v hv, if_neg Bool.false_ne_true]
  case sess => exact State.each_untouched (·.sess k) s fun v _ u => u.sess_modBurst v k _
  case post =>
    obtain ⟨u, -, own⟩ := State.each_own (·.wk w) s hw (selAll_nodup _ _) fun v u hv =>
      u.wk_modBurst_other v hv.symm _
    rw [State.wk_respond, own, State.wk_modBurst_self]

/-- Settles O29: each command's reply and next state written out, and the records read off it. -/
theorem burstAndPortraitCommands : Obligations.BurstAndPortraitCommands := by
  refine ⟨?_, ?_, ?_, ?_, ?_, ?_, ?_, ?_, ?_, ?_, ?_, ?_, ?_⟩
  · -- LANE.SET_BURST
    rintro s k a w h (⟨hw, ht⟩ | ⟨hall, ht⟩)
    · have one : selAll 128 (byteAt a 0) = [w] := by rw [hw, selAll_val]
      exact laneSetBurst_accepted h (by simp [one]) (by simp [one, ht])
    · have all : selAll 128 (byteAt a 0) = List.finRange 128 := selAll_all (by omega)
      exact laneSetBurst_accepted h (by simp [all]) fun v _ => ht v
  · -- LANE.GET_BURST_LOG
    rintro s k a w h ⟨hw, ht, hm⟩
    exact answers_of (u := s) rfl h (by simp [hw, ht, State.readLog_clean hm, State.statusReply, replyOk]) rfl (by simp)
  · -- LANE.GET_BURST_COUNTERS
    rintro s k a w h ⟨hw, ht⟩
    cases clear : bitOf (byteAt a 1) 0
    · exact answers_of (u := s) rfl h (by simp [hw, ht, clear, State.statusReply, replyOk]) rfl (by simp)
    · exact answers_of rfl h (by simp [hw, ht, clear, State.statusReply, replyOk]; rfl) (by simp) (by simp)
  · -- PORTRAIT.SET_QUOTA
    rintro s k a w h ⟨hw, ht, hq⟩ hsum
    have unprotected : ¬ fieldLE a 2 2 < ((s.gallery.ofLane w).filter (·.2.isProtected)).length :=
      Nat.not_lt.mpr (Nat.le_trans (List.length_filter_le _ _) hq)
    have kept : (s.gallery.ofLane w).length - fieldLE a 2 2 = 0 := Nat.sub_eq_zero_of_le hq
    exact answers_of (u := s.modBurst w fun b => { b with quota := fieldLE a 2 2 }) rfl h
      (by simp only [hw, finOf_val, ht, State.guarded_cons, State.guarded_nil, decide_eq_false unprotected,
            decide_eq_false (Nat.not_lt.mpr hsum), Bool.false_eq_true, if_false, kept, List.take_zero]; rfl)
      (by simp) (by simp)
  · -- PORTRAIT.SET_QUOTA beyond the gallery
    rintro s k a w h ⟨hw, ht, hq⟩ hsum
    have unprotected : ¬ fieldLE a 2 2 < ((s.gallery.ofLane w).filter (·.2.isProtected)).length :=
      Nat.not_lt.mpr (Nat.le_trans (List.length_filter_le _ _) hq)
    exact answers_of (u := s) rfl h
      (by simp only [hw, finOf_val, ht, State.guarded_cons, decide_eq_false unprotected, decide_eq_true hsum,
            Bool.false_eq_true, if_false, if_true]; rfl)
      rfl (by simp)
  · -- PORTRAIT.SET_BASE
    rintro s k a w h ⟨hw, ht, hf⟩
    cases hp : s.physOf w with
    | none => exact answers_of rfl h (by simp [hw, ht, hf, hp, replyOk]; rfl) (by simp) (by simp)
    | some p => exact answers_of rfl h (by simp [hw, ht, hf, hp, replyOk]; rfl) (by simp) (by simp)
  · -- PORTRAIT.READ of the base portrait
    rintro s k a w h ⟨hw, ht, hst⟩
    exact answers_of (u := s) rfl h (by simp [hw, ht, hst, State.statusReply, replyOk]) rfl (by simp)
  · -- PORTRAIT.READ of a gallery portrait
    rintro s k a w e h ⟨hw, hst, he, hroom, hwait⟩
    refine starts_of rfl h (by simp [hw, hst, he]; rfl) (by rfl) ?_
    simp [State.requestFetch, State.modGallery, hroom, hwait]
  · -- PORTRAIT.WRITE of an existing portrait
    rintro s k a w e h ⟨hw, ht, hl⟩ ⟨he, hf⟩
    exact answers_of rfl h (by simp [hw, ht, hl, he, hf, replyOk]; rfl) (by simp)
      (by rw [State.respond_gallery, State.entries_modPortrait s w he])
  · -- PORTRAIT.WRITE of a new portrait
    rintro s k a w i h ⟨hw, ht, hl⟩ ⟨he, hf, hroom⟩ hi
    exact answers_of rfl h (by simp [hw, ht, hl, he, hf, State.takeEntry_free s w hroom hi, replyOk]; rfl)
      (by simp [State.sess, State.countBurst, State.unitWrite, State.galleryPut, State.modGallery]) (by simp)
  · -- PORTRAIT.EVICT
    rintro s k a w e h ⟨hw, ht, hl, he⟩
    obtain ⟨removed, counted⟩ := s.evict_removes w e.1 (fieldLE a 2 2) 3
    exact answers_of rfl h (by simp [hw, ht, hl, he, replyOk]; rfl) (by simp) (by simp [removed, counted])
  · -- PORTRAIT.PROTECT
    rintro s k a w e h ⟨hw, ht, he⟩ hword
    obtain ⟨written, entries⟩ := s.markPortrait_written w (word := 0)
      (f := fun q => { q with isProtected := decide (byteAt a 1 = 1) }) he hword
    exact answers_of rfl h (by simp [hw, ht, he, written, replyOk]; rfl) (by simp) (by simp [entries])
  · -- PORTRAIT.LIST
    rintro s k a w h ⟨hw, ht, hm⟩
    have directory : s.each (s.gallery.ofLane w).zipIdx (fun x s =>
        let r := s.unitRead arrFabric (directoryWord x.1.1) 1
          (((none : Option (Nat × BitVec 42)).filter fun y => decide (y.1 = x.2)).map fun y => (0, y.2))
        if r.1 = [] then r.2 else r.2.evict w x.1.1 x.1.2.station 1) = s :=
      State.each_id fun x _ => by simp [State.unitRead_clean hm]
    exact answers_of (u := s) rfl h (by simp only [hw, finOf_val, directory, ht]; rfl) rfl (by simp)

end Sys2Proof.Machine
end

section
/-!
The acquisition unit of a lane, and burst starts (R64 to R76, Table 3-6).
-/
namespace Sys2Proof.Machine

/-! The acquisition unit of a lane. -/

theorem SameBut.acl {ps : List Part} {s t : State} (h : SameBut ps s t) (hp : .acq ∉ ps) (p : Phys) :
    t.acl p = s.acl p :=
  congrArg (·[p.val]) (show t.acq = s.acq from h .acq hp)

section
variable (s : State) (p : Phys) (w : Work)

@[simp] theorem State.acl_modAcq_self (f : Acq → Acq) : (s.modAcq p f).acl p = f (s.acl p) := vupd_self ..

@[simp] theorem State.acl_countBurst (i : Nat) : (s.countBurst w i).acl p = s.acl p := rfl

@[simp] theorem State.acl_raiseP (e : Ev) (q : Phys) (code arg1 arg2 : Nat) :
    (s.raiseP e q code arg1 arg2).acl p = s.acl p := by
  simp [State.acl]

@[simp] theorem State.modeOf_modAcq (q : Phys) (f : Acq → Acq) : (s.modAcq q f).modeOf p = s.modeOf p := rfl

@[simp] theorem State.modeOf_countBurst (i : Nat) : (s.countBurst w i).modeOf p = s.modeOf p := rfl

@[simp] theorem State.wk_raiseP (e : Ev) (code arg1 arg2 : Nat) : (s.raiseP e p code arg1 arg2).wk w = s.wk w := by
  simp [State.wk]

@[simp] theorem State.wk_startPortrait (v : Work) (predicted : Nat) : (s.startPortrait p v predicted).2.wk w = s.wk w :=
  (State.startPortrait_keeps (.refl [.ev, .mem, .acq, .trigPins] s) (List.Subset.refl _) p v predicted).wk (by decide) w

@[simp] theorem State.wk_loadPortrait (q : Portrait) : (s.loadPortrait p q).wk w = s.wk w :=
  (State.loadPortrait_keeps (.refl [.rx, .acq] s) (List.Subset.refl _) p q).wk (by decide) w

@[simp] theorem State.acl_trainCold (q : Phys) (n : Nat) : (s.trainCold q n).acl p = s.acl p :=
  (State.trainCold_keeps (.refl [.rx] s) (List.Subset.refl _) q n).acl (by decide) p

@[simp] theorem State.acl_holdBase (q : Phys) : (s.holdBase q w).acl p = s.acl p :=
  (State.holdBase_keeps (.refl [.rx] s) (List.Subset.refl _) q w).acl (by decide) p

@[simp] theorem State.acl_settleReplaying (q : Phys) : (s.settleReplaying q).acl p = s.acl p := rfl

@[simp] theorem State.acl_startDelin (q : Phys) : (s.startDelin q).acl p = s.acl p :=
  (State.startDelin_keeps (.refl [.sess, .ev, .mem, .dec, .work, .group, .trigPins] s) (List.Subset.refl _) q).acl
    (by decide) p

/-- The lane is back in ARMED with no burst acquired, and the detector as it was. -/
theorem State.acl_toArmed :
    (s.toArmed p).acl p = { s.acl p with state := .armed, cur := none, triggerClean := false } := by
  unfold State.toArmed
  dsimp only
  split
  · rw [State.acl_holdBase, State.acl_modAcq_self]
  · rw [State.acl_modAcq_self]

theorem State.workOf_of_burstWork {s : State} {p : Phys} {w : Work} (h : s.burstWork p = some w) :
    s.workOf p = some w := by
  simp only [State.burstWork] at h
  split at h
  · exact h
  · cases h

end

/-! Burst starts (R70, R76, Table 3-6). -/

section
variable (s : State) (p : Phys) (w : Work) (start : BurstStart) (sym : Sym) (strength : Int)

/-- A start opens a burst of its kind, in SYNC_WAIT if it is a fall-back start, else in PREAMBLE. -/
theorem State.startBurst_opens : ∃ b, ((s.startBurst p w start sym strength).acl p).cur = some b ∧
    ((s.startBurst p w start sym strength).acl p).state = (if start = .fallback then .syncWait else .preamble) ∧
    b.start = start ∧ b.firstPeak = sym ∧ b.firstStrength = strength ∧ b.slotted = decide (s.modeOf p = .slotted) := by
  unfold State.startBurst
  exact ⟨_, congrArg Acq.cur (State.acl_modAcq_self ..), congrArg Acq.state (State.acl_modAcq_self ..), rfl, rfl, rfl,
    rfl⟩

@[simp] theorem State.counters_startBurst :
    ((s.startBurst p w start sym strength).wk w).burst.counters = (s.wk w).burst.counters := by
  simp [State.startBurst]

theorem State.judgeStart_inside (h : s.modeOf p = .openM ∨ (s.acl p).rxWindow.isSome) :
    s.judgeStart p w start sym strength = s.startBurst p w start sym strength := by
  refine if_neg fun ⟨slotted, outside⟩ => ?_
  rcases h with h | h
  · simp [h] at slotted
  · simp [Option.isNone_iff_eq_none.mp outside] at h

/-- The first start outside every window is a stray. -/
theorem State.judgeStart_stray (hm : s.modeOf p = .slotted) (hr : (s.acl p).rxWindow = none)
    (hs : (s.acl p).stray = none) :
    s.judgeStart p w start sym strength = ((s.countBurst w 17).raiseP .burstStray p).modAcq p fun a =>
      { a with triggerClean := false, stray := some (start, sym) } := by
  simp [State.judgeStart, hm, hr, hs]

/-- A stray is counted and opens no burst. -/
theorem State.judgeStart_stray_counts (hm : s.modeOf p = .slotted) (hr : (s.acl p).rxWindow = none)
    (hs : (s.acl p).stray = none) :
    ((s.judgeStart p w start sym strength).acl p).cur = (s.acl p).cur ∧
      ((s.judgeStart p w start sym strength).wk w).burst.counters[17] = satW 32 ((s.wk w).burst.counters[17] + 1) := by
  rw [s.judgeStart_stray p w start sym strength hm hr hs, State.wk_modAcq, State.wk_raiseP]
  exact ⟨by simp, s.counter_countBurst w 17⟩

end

/-- A positive peak while no burst is being acquired is a start. -/
theorem correlatorPeak_starts {s : State} {p : Phys} {w : Work} {cold : Bool} {sym : Sym} (phase : BitVec 10)
    (freq dgain : Int) (hw : s.burstWork p = some w) (hd : s.declares p w cold false sym = true)
    (hc : (s.acl p).cur = none) :
    exec (.correlatorPeak p cold false sym phase freq dgain) s = .next ((s.modAcq p fun a =>
      { a with triggerClean := false }).judgeStart p w (if cold then .cold else .warm) sym ((s.rxl p).strength sym)) := by
  show execCorrelatorPeak .. = _
  simp [execCorrelatorPeak, hw, hd, hc]

/-- A peak opens a burst in PREAMBLE in OPEN and inside a receive window. -/
theorem correlatorPeak_opens {s : State} {p : Phys} {w : Work} {cold : Bool} {sym : Sym} (phase : BitVec 10)
    (freq dgain : Int) (hw : s.burstWork p = some w) (hd : s.declares p w cold false sym = true)
    (hc : (s.acl p).cur = none) (hm : s.modeOf p = .openM ∨ (s.acl p).rxWindow.isSome) :
    Leads (.correlatorPeak p cold false sym phase freq dgain) s fun t => (t.acl p).state = .preamble ∧
      ∃ b, (t.acl p).cur = some b ∧ b.start = (if cold then .cold else .warm) ∧ b.firstPeak = sym ∧
        b.firstStrength = (s.rxl p).strength sym ∧ b.slotted = decide (s.modeOf p = .slotted) := by
  refine ⟨_, correlatorPeak_starts phase freq dgain hw hd hc, ?_⟩
  rw [State.judgeStart_inside _ _ _ _ _ _ (by simpa using hm)]
  obtain ⟨b, cur, state, fields⟩ := State.startBurst_opens (s.modAcq p fun a => { a with triggerClean := false }) p w
    (if cold then .cold else .warm) sym ((s.rxl p).strength sym)
  exact ⟨by rw [state]; cases cold <;> rfl, b, cur, fields⟩

/-- A qualified trigger is counted and is a start. -/
theorem fallbackStart_starts {s : State} {p : Phys} {w : Work} {sym : Sym} (hw : s.burstWork p = some w)
    (h : (s.acl p).triggerClean = true ∧ (s.acl p).trigger = some (sym - 112) ∧ (s.acl p).state = .armed ∧
      (s.rxl p).passed sym = true) :
    exec (.fallbackStart p sym) s = .next (((s.modAcq p fun a =>
      { a with trigger := none, triggerClean := false }).countBurst w 18).judgeStart p w .fallback sym 0) := by
  show execFallbackStart p sym s = _
  rw [execFallbackStart, hw]
  exact congrArg _ (if_pos h)

/-- Refining the burst being acquired keeps it and takes the phase (R70). -/
theorem State.refine_phase {s : State} {p : Phys} {b : Burst} (h : (s.acl p).cur = some b) (w : Work)
    (phase : BitVec 10) (freq dgain : Int) :
    ∃ b', ((s.refine p w phase freq dgain).acl p).cur = some b' ∧ b'.timingPhase = phase := by
  simp only [State.refine, h]
  split
  · exact ⟨_, congrArg Acq.cur (State.acl_modAcq_self ..), rfl⟩
  · exact ⟨_, congrArg Acq.cur (State.acl_modAcq_self ..), rfl⟩

end Sys2Proof.Machine
end

section
/-!
The end of the burst being acquired: the lane is in ARMED and the burst's record is in the log (Table 3-6, R91).
-/
namespace Sys2Proof.Machine

section
variable (s : State) (p : Phys) (w v : Work)

/-- The log of a working lane (R91). -/
def State.burstLog (s : State) (w : Work) : List BurstRecord := (s.wk w).burst.log

/-- The acquisition unit of a lane but for its hot cache. -/
def State.acquisition (s : State) (p : Phys) : Acq := { s.acl p with hot := [] }

theorem SameBut.burstLog {ps : List Part} {s t : State} (h : SameBut ps s t) (hp : .work ∉ ps) :
    t.burstLog v = s.burstLog v := congrArg (·.burst.log) (h.wk hp v)

theorem SameBut.acquisition {ps : List Part} {s t : State} (h : SameBut ps s t) (hp : .acq ∉ ps) :
    t.acquisition p = s.acquisition p := congrArg (fun a : Acq => { a with hot := [] }) (h.acl hp p)

theorem State.burstLog_modWork (f : WorkLane → WorkLane) (h : ∀ u, (f u).burst.log = u.burst.log) :
    (s.modWork w f).burstLog v = s.burstLog v := by
  simp only [State.burstLog, State.wk, State.modWork, vupd_get]
  split
  · exact h _
  · rfl

theorem State.acquisition_modAcq_hot (q : Phys) (f : Acq → List HotEntry) :
    (s.modAcq q fun a => { a with hot := f a }).acquisition p = s.acquisition p := by
  simp only [State.acquisition, State.acl, State.modAcq, vupd_get]
  split <;> rfl

@[simp] theorem State.burstLog_countBurst (i : Nat) : (s.countBurst w i).burstLog v = s.burstLog v :=
  s.burstLog_modWork w v _ fun _ => rfl

@[simp] theorem State.burstLog_modBurst_self (f : BurstLane → BurstLane) :
    (s.modBurst w f).burstLog w = (f (s.wk w).burst).log := by
  simp [State.burstLog]

@[simp] theorem State.burstLog_modAcq (q : Phys) (f : Acq → Acq) : (s.modAcq q f).burstLog v = s.burstLog v := rfl

@[simp] theorem State.burstLog_modGallery (f : GalleryUnit → GalleryUnit) :
    (s.modGallery f).burstLog v = s.burstLog v := rfl

@[simp] theorem State.burstLog_unitWrite (a : Arr) (base len : Nat) :
    (s.unitWrite a base len).burstLog v = s.burstLog v := rfl

@[simp] theorem State.burstLog_raiseP (e : Ev) (code arg1 arg2 : Nat) :
    (s.raiseP e p code arg1 arg2).burstLog v = s.burstLog v := by
  simp [State.burstLog]

@[simp] theorem State.burstLog_raiseW (e : Ev) (code arg1 arg2 : Nat) :
    (s.raiseW e w code arg1 arg2).burstLog v = s.burstLog v := by
  simp [State.burstLog]

@[simp] theorem State.wk_endJob (b : Burst) : (s.endJob p b).wk w = s.wk w :=
  (State.endJob_keeps (.refl [.rx] s) (List.Subset.refl _) p b).wk (by decide) w

@[simp] theorem State.acquisition_countBurst (i : Nat) : (s.countBurst w i).acquisition p = s.acquisition p := rfl

@[simp] theorem State.acquisition_modBurst (f : BurstLane → BurstLane) :
    (s.modBurst w f).acquisition p = s.acquisition p := rfl

@[simp] theorem State.acquisition_modGallery (f : GalleryUnit → GalleryUnit) :
    (s.modGallery f).acquisition p = s.acquisition p := rfl

@[simp] theorem State.acquisition_unitWrite (a : Arr) (base len : Nat) :
    (s.unitWrite a base len).acquisition p = s.acquisition p := rfl

@[simp] theorem State.acquisition_raiseP (e : Ev) (q : Phys) (code arg1 arg2 : Nat) :
    (s.raiseP e q code arg1 arg2).acquisition p = s.acquisition p := by
  simp [State.acquisition]

@[simp] theorem State.acquisition_raiseW (e : Ev) (code arg1 arg2 : Nat) :
    (s.raiseW e w code arg1 arg2).acquisition p = s.acquisition p := by
  simp [State.acquisition, State.acl]

@[simp] theorem State.acquisition_endJob (q : Phys) (b : Burst) : (s.endJob q b).acquisition p = s.acquisition p :=
  (State.endJob_keeps (.refl [.rx] s) (List.Subset.refl _) q b).acquisition p (by decide)

/-! Evictions leave the logs, and all of acquisition but hot caches. -/

@[simp] theorem State.burstLog_evict (idx st reason : Nat) : (s.evict w idx st reason).burstLog v = s.burstLog v := by
  unfold State.evict
  dsimp only
  split <;> simp

@[simp] theorem State.acquisition_evict (idx st reason : Nat) :
    (s.evict w idx st reason).acquisition p = s.acquisition p := by
  unfold State.evict
  dsimp only
  split <;> simp [State.acquisition_modAcq_hot]

@[simp] theorem State.burstLog_hotSettle (q : Phys) : (s.hotSettle q).burstLog v = s.burstLog v :=
  State.each_untouched (·.burstLog v) s fun e _ t => by split <;> simp

@[simp] theorem State.acquisition_hotSettle (q : Phys) : (s.hotSettle q).acquisition p = s.acquisition p :=
  State.each_untouched (·.acquisition p) s fun e _ t => by split <;> simp

@[simp] theorem State.burstLog_unlockBurst (q : Phys) (b : Burst) :
    (s.unlockBurst q w b).burstLog v = s.burstLog v := by
  simp [State.unlockBurst]

@[simp] theorem State.acquisition_unlockBurst (q : Phys) (b : Burst) :
    (s.unlockBurst q w b).acquisition p = s.acquisition p := by
  simp [State.unlockBurst, State.acquisition_modAcq_hot]

/-- The record of an outcome becomes the last of the log's 64 (R91). -/
theorem State.burstLog_reportBurst (b : Burst) (outcome : Nat) (isNew : Bool) :
    (s.reportBurst p w b outcome isNew).burstLog w =
      (s.burstLog w ++ [b.record outcome isNew]).drop ((s.burstLog w).length + 1 - 64) := by
  unfold State.reportBurst
  dsimp only
  split <;> (simp; rfl)

@[simp] theorem State.acquisition_reportBurst (b : Burst) (outcome : Nat) (isNew : Bool) :
    (s.reportBurst p w b outcome isNew).acquisition p = s.acquisition p := by
  unfold State.reportBurst
  dsimp only
  split <;> simp

/-! What the decoders lose of the frame stream touches no burst log. -/

theorem State.burstLog_ite {c : Prop} [Decidable c] {t u : State} {l : List BurstRecord} (ht : t.burstLog v = l)
    (hu : u.burstLog v = l) : (if c then t else u).burstLog v = l := by
  split <;> assumption

@[simp] theorem State.burstLog_modDec (f : DecodeLane → DecodeLane) : (s.modDec p f).burstLog v = s.burstLog v := rfl

@[simp] theorem State.burstLog_modChan (f : HostChan → HostChan) : (s.modChan w f).burstLog v = s.burstLog v := rfl

@[simp] theorem State.burstLog_modFec (f : FecLane → FecLane) : (s.modFec w f).burstLog v = s.burstLog v :=
  s.burstLog_modWork w v _ fun _ => rfl

@[simp] theorem State.burstLog_modAck (peer : Nat) (f : AckState → AckState) :
    (s.modAck w peer f).burstLog v = s.burstLog v := s.burstLog_modWork w v _ fun _ => rfl

@[simp] theorem State.burstLog_count (f : DeliveryCounts → DeliveryCounts) : (s.count w f).burstLog v = s.burstLog v :=
  s.burstLog_modWork w v _ fun _ => rfl

@[simp] theorem State.burstLog_hostDesc (kind station : Nat) (tag : BitVec 32) :
    (s.hostDesc w kind station tag).burstLog v = s.burstLog v :=
  (State.hostDesc_keeps (.refl [.group] s) (List.Subset.refl _) w kind station tag).burstLog v (by decide)

@[simp] theorem State.burstLog_answer (k : Sess) (code : Nat) (r : Result) (d : Nat) (data : Bytes) :
    (s.answer k code r d data).burstLog v = s.burstLog v := by
  simp [State.burstLog, State.wk]

@[simp] theorem State.burstLog_modRxCtx (peer : Nat) (f : RxCtx → RxCtx) :
    (s.modRxCtx w peer f).burstLog v = s.burstLog v := by
  have stored (c : RxCtx) : ((s.modWork w fun u => { u with rxCtx := tabSet u.rxCtx peer c }).unitWrite arrFabric
      (contextWord w true peer) 8).burstLog v = s.burstLog v := s.burstLog_modWork w v _ fun _ => rfl
  unfold State.modRxCtx
  split
  · rfl
  · exact State.burstLog_ite v ((State.burstLog_modAck ..).trans (stored _)) (stored _)

@[simp] theorem State.burstLog_settleSketch : (s.settleSketch w).burstLog v = s.burstLog v := by
  have off : (s.modWork w fun u => { u with sketch := false, sketchOff := false, sketchSess := none }).burstLog v =
      s.burstLog v := s.burstLog_modWork w v _ fun _ => rfl
  refine State.burstLog_ite v ?_ rfl
  split
  · exact (State.burstLog_answer ..).trans off
  · exact off

@[simp] theorem State.burstLog_scrape (peer : Nat) (n : BitVec 32) : (s.scrape w peer n).burstLog v = s.burstLog v := by
  unfold State.scrape
  split
  · rfl
  · exact State.burstLog_ite v rfl (by simp)

@[simp] theorem State.burstLog_varnish (peer : Nat) : (s.varnish w peer).burstLog v = s.burstLog v := by
  unfold State.varnish
  split
  · rfl
  · exact State.burstLog_ite v rfl (by simp)

theorem State.burstLog_resolveCand (pos : Nat) (confirmed : Bool) :
    (s.resolveCand p w pos confirmed).burstLog v = s.burstLog v := by
  unfold State.resolveCand
  cases confirmed
  · simp only [Bool.false_eq_true, if_false]
    split
    · simp
    · split <;> simp
  · simp only [if_true]
    split <;> simp

theorem State.burstLog_loseSketches : (s.loseSketches p).burstLog v = s.burstLog v := by
  unfold State.loseSketches
  dsimp only
  split
  · rfl
  · split
    · exact State.each_untouched (·.burstLog v) s fun c _ t => t.burstLog_resolveCand p _ v _ _
    · rfl

@[simp] theorem State.burstLog_startDelin : (s.startDelin p).burstLog v = s.burstLog v := by
  unfold State.startDelin
  dsimp only
  split
  · rfl
  · exact s.burstLog_loseSketches p v

end

/-- The burst being acquired ends with an outcome: the lane is in ARMED, and the record is in the log. -/
theorem State.endCurrent_ends {s : State} {p : Phys} {w : Work} {b : Burst} (hw : s.workOf p = some w)
    (hc : (s.acl p).cur = some b) (outcome : Nat) :
    ((s.endCurrent p outcome).acl p).state = .armed ∧ ((s.endCurrent p outcome).acl p).cur = none ∧
      ((s.endCurrent p outcome).acl p).detArmed = (s.acl p).detArmed ∧
      (s.endCurrent p outcome).burstLog w =
        (s.burstLog w ++ [b.record outcome false]).drop ((s.burstLog w).length + 1 - 64) := by
  have settled (t : State) : (((t.toArmed p).settleReplaying p).acl p).state = .armed ∧
      (((t.toArmed p).settleReplaying p).acl p).cur = none ∧
      (((t.toArmed p).settleReplaying p).acl p).detArmed = (t.acquisition p).detArmed ∧
      ((t.toArmed p).settleReplaying p).burstLog w = t.burstLog w := by
    rw [State.acl_settleReplaying, State.acl_toArmed]
    exact ⟨rfl, rfl, rfl, (State.toArmed_keeps (.refl [.rx, .acq] t) (List.Subset.refl _) p).burstLog w (by decide)⟩
  obtain ⟨state, cur, detArmed, log⟩ :=
    settled ((s.modAcq p fun a => { a with cur := none }).reportBurst p w b outcome false)
  rw [State.acquisition_reportBurst, State.acquisition, State.acl_modAcq_self] at detArmed
  rw [State.burstLog_reportBurst, State.burstLog_modAcq] at log
  simp only [State.endCurrent, hc, hw]
  split
  · rw [State.acl_startDelin, State.burstLog_startDelin]
    exact ⟨state, cur, detArmed, log⟩
  · exact ⟨state, cur, detArmed, log⟩

end Sys2Proof.Machine
end

section
/-!
Burst acquisition from ARMED to HEADER (R64 to R76).
-/
namespace Sys2Proof.Machine

/-- Settles O27: each event's next state written out; the bursts that end by the rule of `State.endCurrent`. -/
theorem burstStartsAndSync : Obligations.BurstStartsAndSync := by
  refine ⟨?_, ?_, ?_, ?_, ?_, ?_, ?_, ?_, ?_, ?_, ?_, ?_, ?_, ?_⟩
  · -- a peak opens a burst
    rintro s p w cold sym phase freq dgain ⟨hw, hd, hc⟩ hm
    obtain ⟨t, he, state, b, cur, start, peak, strength, -⟩ := correlatorPeak_opens phase freq dgain hw hd hc hm
    exact ⟨t, he, state, by rw [cur, Option.map_some, peak, start, strength]⟩
  · -- a cold peak inside a receive window
    rintro s p w sym phase freq dgain ⟨hw, hd, hc⟩ ⟨hm, hr⟩
    obtain ⟨t, he, state, b, cur, start, -, -, slotted⟩ := correlatorPeak_opens phase freq dgain hw hd hc (.inr hr)
    exact ⟨t, he, state, by simp [cur, start, slotted, hm]⟩
  · -- a stray peak
    rintro s p w cold sym phase freq dgain ⟨hw, hd, hc, hm, hr, hs⟩
    obtain ⟨cur, counted⟩ := State.judgeStart_stray_counts (s.modAcq p fun a => { a with triggerClean := false }) p w
      (if cold then .cold else .warm) sym ((s.rxl p).strength sym) hm (by simpa using hr) (by simpa using hs)
    exact ⟨_, correlatorPeak_starts phase freq dgain hw hd hc, by rw [cur]; simpa using hc, counted⟩
  · -- the end marker
    rintro s p w b sym phase freq dgain ⟨hw, hd, hc, hs, hb⟩
    obtain ⟨b', cur, taken⟩ := State.refine_phase (p := p)
      (s := s.modAcq p fun a => { a with triggerClean := false }) (by simpa using hc) w phase freq dgain
    exact ⟨_, rfl, by simp [hw, hd, hc, hs, hb, cur, taken]⟩
  · -- the power detector triggers
    rintro s p w sym ⟨hw, ha⟩ ⟨hh, hp⟩
    exact ⟨_, rfl, by simp [hw, ha, hh, hp]⟩
  · -- a fall-back start
    rintro s p w sym ⟨hw, hclean, ht⟩ ⟨hs, hp, hm⟩
    refine ⟨_, fallbackStart_starts hw ⟨hclean, ht, hs, hp⟩, ?_⟩
    rw [State.judgeStart_inside _ _ _ _ _ _ (by simpa using hm)]
    obtain ⟨b, cur, state, start, -⟩ := State.startBurst_opens ((s.modAcq p fun a =>
      { a with trigger := none, triggerClean := false }).countBurst w 18) p w .fallback sym 0
    refine ⟨state, by rw [cur, Option.map_some, start], ?_⟩
    rw [State.counters_startBurst]
    exact State.counter_countBurst _ w 18
  · -- a fall-back start ends as a false start
    rintro s p w b ⟨hw, hc, hb, hs, hl⟩
    obtain ⟨state, cur, -, log⟩ := State.endCurrent_ends hw hc 3
    exact ⟨s.endCurrent p 3, congrArg Host.Outcome.next (by simp [hc, hb, hs, hl]), state, cur, log⟩
  · -- the power detector re-arms
    rintro s p w sym ⟨hw, hs⟩ ⟨hh, hp⟩
    exact ⟨_, rfl, by simp [hw, hh, hp, hs]⟩
  · -- the power detector re-arms in PAYLOAD
    rintro s p w b sym ⟨hw, hc, hs⟩ ⟨hh, hp⟩
    obtain ⟨state, -, detArmed, log⟩ := State.endCurrent_ends (s := s.modAcq p fun a => { a with detArmed := true })
      (State.workOf_of_burstWork hw) (by simpa using hc) 10
    refine ⟨(s.modAcq p fun a => { a with detArmed := true }).endCurrent p 10,
      congrArg Host.Outcome.next (by simp [hw, hh, hp, hs]), ?_, state, log⟩
    rw [detArmed, State.acl_modAcq_self]
  · -- cold training starts
    rintro s p b ⟨hc, hb, hs, hp⟩
    simp only [BitVec.ofNat_eq_ofNat] at hp
    exact ⟨_, rfl, by simp [hc, hb, hs, hp]⟩
  · -- cold training ends
    rintro s p b ⟨hc, hs, hp⟩
    simp only [BitVec.ofNat_eq_ofNat] at hp
    exact ⟨_, rfl, by simp [hc, hs, hp]⟩
  · -- the preamble end passes
    rintro s p b ⟨hc, hb, he, hs, hp⟩
    exact ⟨_, rfl, by simp [hc, hb, he, hs, hp]⟩
  · -- the sync word
    rintro s p b sym ⟨hc, hs, ho⟩ ⟨hh, hd, hby⟩
    have found : (s.rxl p).syncAt b sym = true := by
      rw [RxLane.syncAt, hh, decide_eq_true hby, decide_eq_true hd]
      rfl
    exact ⟨_, rfl, by simp [hc, hs, ho, found]⟩
  · -- the sync deadline
    rintro s p w b ⟨hw, hc, hb, hs, hl⟩
    obtain ⟨state, cur, -, log⟩ := State.endCurrent_ends hw hc 3
    exact ⟨s.endCurrent p 3, congrArg Host.Outcome.next (by simp [hc, hb, hs, hl]), state, cur, log⟩

end Sys2Proof.Machine
end

section
/-!
Replay starts (R81, R82): two bursts with one first peak are taken for one.
-/
namespace Sys2Proof.Machine

/-- A burst that waits for the base portrait, with its payload under way. -/
def waitingBurst : Burst :=
  { start := .warm, slotted := false, params := {}, firstPeak := 1000, firstStrength := 100, slot := 0,
    predicted := 16383, syncAt := some 1300, waiting := true }

/-- A burst received before it, which an overrun is to end. -/
def overrunBurst : Burst := { waitingBurst with firstPeak := 0, syncAt := some 300, waiting := false, overrun := true }

/-- Lane 3 decodes two overrun bursts with one first peak while it acquires a burst that waits for its portrait. -/
def overrunTwice : State :=
  (State.reset.modRx 3 fun r => { r with symCount := 1500 }).modAcq 3 fun a =>
    { a with state := .payload, cur := some waitingBurst, decoding := [overrunBurst, overrunBurst] }

theorem overrunTwice_waits : overrunTwice.workOf 3 = some 3 ∧ (overrunTwice.acl 3).cur = some waitingBurst ∧
    (overrunTwice.acl 3).bursts.find? (·.waiting) = some waitingBurst ∧ waitingBurst.inUse = 16383 ∧
    waitingBurst.coeffs = none := by
  decide +kernel

theorem overrunTwice_lag : (overrunTwice.acl 3).lagFor ((overrunTwice.rxl 3).symCount - waitingBurst.firstPay).toNat
    waitingBurst.firstPay ≤ 3840 := by
  decide +kernel

/-- The first overrun burst that ends takes its double with it, so the end of the second falls on the burst being
acquired. -/
theorem replayStart_overrunTwice :
    Leads (.replayStart 3 none none) overrunTwice fun t => (t.acl 3).cur = none :=
  ⟨_, rfl, Option.isNone_iff_eq_none.mp (by decide +kernel)⟩

/-- Refutes O28: a replay start that ends two overrun bursts with one first peak, which are taken for one, ends the
burst it starts as well. -/
theorem not_burstPayloadAndOutcome : ¬ Obligations.BurstPayloadAndOutcome := by
  rintro ⟨-, -, replayStart, -⟩
  obtain ⟨t, he, -, goesOn⟩ := replayStart overrunTwice 3 3 waitingBurst none none overrunTwice_waits overrunTwice_lag
  obtain ⟨u, hu, ended⟩ := replayStart_overrunTwice
  cases he.symm.trans hu
  rw [ended] at goesOn
  cases goesOn

end Sys2Proof.Machine
end

section
/-!
The FEC record and the station of a working lane: the shared operations of delivery leave them (chapters 4 and 6).
-/
namespace Sys2Proof.Machine

/-- What chapter 4 keeps of a working lane: its FEC record, and the station that its frames are addressed to. -/
def State.fecPart (s : State) (w : Work) : FecLane × Nat := ((s.wk w).fec, (s.wk w).station)

theorem SameBut.fecPart {ps : List Part} {s t : State} (h : SameBut ps s t) (hp : .work ∉ ps) (v : Work) :
    t.fecPart v = s.fecPart v := congrArg (fun u : WorkLane => (u.fec, u.station)) (h.wk hp v)

section
variable (s : State) (p : Phys) (w v : Work) (peer : Nat)

theorem State.fecPart_modWork_of_eq {f : WorkLane → WorkLane}
    (h : ((f (s.wk w)).fec, (f (s.wk w)).station) = s.fecPart w) : (s.modWork w f).fecPart v = s.fecPart v := by
  by_cases same : v = w
  · subst same
    exact (congrArg (fun u : WorkLane => (u.fec, u.station)) (vupd_self ..)).trans h
  · exact congrArg (fun u : WorkLane => (u.fec, u.station)) (vupd_other _ _ _ _ same)

@[simp] theorem State.fecPart_modWork (f : WorkLane → WorkLane)
    (h : ∀ u, ((f u).fec, (f u).station) = (u.fec, u.station)) : (s.modWork w f).fecPart v = s.fecPart v :=
  s.fecPart_modWork_of_eq w v (h _)

@[simp] theorem State.fecPart_modFec_self (f : FecLane → FecLane) :
    (s.modFec w f).fecPart w = (f (s.fecPart w).1, (s.fecPart w).2) :=
  congrArg (fun u : WorkLane => (u.fec, u.station)) (vupd_self ..)

theorem State.fecPart_modFec_other {w v : Work} (h : v ≠ w) (f : FecLane → FecLane) :
    (s.modFec w f).fecPart v = s.fecPart v :=
  congrArg (fun u : WorkLane => (u.fec, u.station)) (vupd_other _ _ _ _ h)

theorem State.fecPart_ite {c : Prop} [Decidable c] {t u : State} {x : FecLane × Nat} (ht : t.fecPart v = x)
    (hu : u.fecPart v = x) : (if c then t else u).fecPart v = x := by
  split <;> assumption

@[simp] theorem State.fecPart_modDec (f : DecodeLane → DecodeLane) : (s.modDec p f).fecPart v = s.fecPart v := rfl
@[simp] theorem State.fecPart_modChan (f : HostChan → HostChan) : (s.modChan w f).fecPart v = s.fecPart v := rfl
@[simp] theorem State.fecPart_modTxDiag (f : TxDiag → TxDiag) : (s.modTxDiag p f).fecPart v = s.fecPart v := rfl
@[simp] theorem State.fecPart_unitWrite (a : Arr) (base len : Nat) : (s.unitWrite a base len).fecPart v = s.fecPart v :=
  rfl

@[simp] theorem State.fecPart_unitRead (a : Arr) (base len : Nat) (d : Option (Nat × BitVec 42)) :
    (s.unitRead a base len d).2.fecPart v = s.fecPart v :=
  (State.unitRead_keeps (.refl [.ev, .mem, .trigPins] s) (List.Subset.refl _) a base len d).fecPart (by decide) v

@[simp] theorem State.fecPart_raiseW (e : Ev) (code arg1 arg2 : Nat) :
    (s.raiseW e w code arg1 arg2).fecPart v = s.fecPart v := by
  simp [State.fecPart]

@[simp] theorem State.fecPart_answer (k : Sess) (code : Nat) (r : Result) (d : Nat) (data : Bytes) :
    (s.answer k code r d data).fecPart v = s.fecPart v := by
  simp [State.fecPart, State.wk]

@[simp] theorem State.fecPart_hostDesc (kind station : Nat) (tag : BitVec 32) :
    (s.hostDesc w kind station tag).fecPart v = s.fecPart v := rfl

@[simp] theorem State.fecPart_hostFrame (station : Nat) (seq : BitVec 32) (payload : Bytes) (sketch : Bool) :
    (s.hostFrame w station seq payload sketch).fecPart v = s.fecPart v :=
  (State.hostFrame_keeps (.refl [.group] s) (List.Subset.refl _) w station seq payload sketch).fecPart (by decide) v

@[simp] theorem State.fecPart_grant : (s.grant w).fecPart v = s.fecPart v :=
  (State.grant_keeps (.refl [.group] s) (List.Subset.refl _) w).fecPart (by decide) v

@[simp] theorem State.fecPart_modBurstNow (f : Burst → Burst) : (s.modBurstNow p f).fecPart v = s.fecPart v :=
  (State.modBurstNow_keeps (.refl [.acq] s) (List.Subset.refl _) p f).fecPart (by decide) v

@[simp] theorem State.fecPart_modTxw (f : TxWork → TxWork) : (s.modTxw w f).fecPart v = s.fecPart v := by
  simp [State.modTxw]

@[simp] theorem State.fecPart_modAck (f : AckState → AckState) : (s.modAck w peer f).fecPart v = s.fecPart v := by
  simp [State.modAck]

@[simp] theorem State.fecPart_count (f : DeliveryCounts → DeliveryCounts) : (s.count w f).fecPart v = s.fecPart v := by
  simp [State.count]

@[simp] theorem State.fecPart_modRxCtx (f : RxCtx → RxCtx) : (s.modRxCtx w peer f).fecPart v = s.fecPart v := by
  unfold State.modRxCtx
  split
  · rfl
  · dsimp only
    split <;> simp

/-! Images, LINK messages and credit. -/

@[simp] theorem State.fecPart_storeLast : (s.storeLast w).fecPart v = s.fecPart v := by
  unfold State.storeLast
  split <;> simp

theorem WorkLane.fecPart_retireTx {u u' : WorkLane} (h : u.retireTx = some u') :
    (u'.fec, u'.station) = (u.fec, u.station) := by
  obtain ⟨e, -, rfl⟩ := Option.map_eq_some_iff.mp h
  rfl

theorem WorkLane.fecPart_roomTx {u u' : WorkLane} (h : u.roomTx = some u') :
    (u'.fec, u'.station) = (u.fec, u.station) := by
  unfold WorkLane.roomTx at h
  split at h
  · cases h
    rfl
  · exact fecPart_retireTx h

@[simp] theorem WorkLane.fecPart_push (u : WorkLane) (kind : Nat) (payload : Bytes) (tag : BitVec 32) (now : Time) :
    ((u.push peer kind payload tag now).fec, (u.push peer kind payload tag now).station) = (u.fec, u.station) := by
  unfold WorkLane.push
  split <;> rfl

theorem State.fecPart_needTx {t : State} (h : s.needTx w peer = .ok t) : t.fecPart v = s.fecPart v := by
  unfold State.needTx at h
  split at h
  · cases h
    rfl
  · split at h
    · cases h
    · next u room =>
      split at h
      · cases h
        rw [State.fecPart_storeLast]
        exact s.fecPart_modWork_of_eq w v (f := fun _ => u.openTx peer (u.genOf peer) true s.now)
          (WorkLane.fecPart_roomTx room :)
      · cases h

@[simp] theorem State.fecPart_flushLinks (n : Nat) : (s.flushLinks n w peer).fecPart v = s.fecPart v := by
  induction n generalizing s with
  | zero => rfl
  | succ n ih =>
    unfold State.flushLinks
    split
    · rfl
    · split
      · rfl
      · split
        · rfl
        · next t hneed =>
          split
          · rw [ih]
            simpa using s.fecPart_needTx w v peer hneed
          · exact s.fecPart_needTx w v peer hneed

@[simp] theorem State.fecPart_sendLink (msg : Bytes) : (s.sendLink w peer msg).fecPart v = s.fecPart v := by
  simp [State.sendLink]

@[simp] theorem State.fecPart_settleOpening : (s.settleOpening w peer).fecPart v = s.fecPart v := by
  unfold State.settleOpening
  split
  · rfl
  · split <;> simp

@[simp] theorem State.fecPart_settleRetention : (s.settleRetention w).fecPart v = s.fecPart v := by
  have opened (t : State) : (t.each (t.wk w).txCtx fun e u => u.settleOpening w e.1).fecPart v = t.fecPart v :=
    State.each_untouched (·.fecPart v) t fun e _ u => u.fecPart_settleOpening w v e.1
  have sent (t : State) :
      (t.each (t.wk w).acks fun e u => u.flushLinks e.2.links.length w e.1).fecPart v = t.fecPart v :=
    State.each_untouched (·.fecPart v) t fun e _ u => u.fecPart_flushLinks w v e.1 _
  simp [State.settleRetention, opened, sent, WorkLane.trim]

/-! Acknowledgements and restarts. -/

@[simp] theorem State.fecPart_rewindOldest : (s.rewindOldest w peer).fecPart v = s.fecPart v := by
  unfold State.rewindOldest State.rewindTo
  split <;> simp

@[simp] theorem State.fecPart_enterBackoff : (s.enterBackoff w peer).fecPart v = s.fecPart v := by
  unfold State.enterBackoff
  split
  · rfl
  · dsimp only
    split <;> split <;> simp

@[simp] theorem State.fecPart_peerRestart (gen : Option (BitVec 10)) :
    (s.peerRestart w peer gen).fecPart v = s.fecPart v := by
  have reported (l : List Image) : (s.each l fun i t =>
      (t.hostDesc w 5 peer i.tag).count w fun n => { n with uncertain := satW 16 (n.uncertain + 1) }).fecPart v =
        s.fecPart v := State.each_untouched (·.fecPart v) s fun i _ t => by simp
  unfold State.peerRestart
  split
  · rfl
  · dsimp only
    split <;> simp [reported, WorkLane.trim, WorkLane.openTx]

@[simp] theorem State.fecPart_useAck (ack : BitVec 32) (nak : Nat) :
    (s.useAck w peer ack nak).fecPart v = s.fecPart v := by
  unfold State.useAck
  split
  · rfl
  · extract_lets covered n marked t
    have released : t.fecPart v = s.fecPart v := State.fecPart_ite v rfl (by simp [State.resetAttempts, marked])
    clear_value t
    split
    · exact released
    · exact State.fecPart_ite v (by simpa using released) released

@[simp] theorem State.fecPart_takeAckOf (f : FrameHdr) (reveals : Bool) :
    (s.takeAckOf w peer f reveals).fecPart v = s.fecPart v := by
  unfold State.takeAckOf
  split
  · rfl
  · dsimp only
    split
    · simp
    · split
      · simp
      · split <;> simp

/-! Sketches. -/

@[simp] theorem State.fecPart_settleSketch : (s.settleSketch w).fecPart v = s.fecPart v := by
  unfold State.settleSketch
  dsimp only
  split
  · split <;> simp
  · rfl

@[simp] theorem State.fecPart_scrape (n : BitVec 32) : (s.scrape w peer n).fecPart v = s.fecPart v := by
  unfold State.scrape
  split
  · rfl
  · split <;> simp

@[simp] theorem State.fecPart_varnish : (s.varnish w peer).fecPart v = s.fecPart v := by
  unfold State.varnish
  split
  · rfl
  · exact State.fecPart_ite v rfl (by simp)

/-! Frames received. -/

@[simp] theorem State.fecPart_linkAction (f : FrameHdr) (m : Bytes) :
    (s.linkAction w peer f m).fecPart v = s.fecPart v := by
  unfold State.linkAction
  split
  · simp
  · split
    · dsimp only
      split <;> simp
    · split <;> simp
  · simp
  · rfl
  · simp

@[simp] theorem State.fecPart_deliver (f : FrameHdr) (payload : Bytes) :
    (s.deliver w peer f payload).fecPart v = s.fecPart v := by
  unfold State.deliver
  split
  · simp
  · dsimp only
    split <;> simp

@[simp] theorem State.fecPart_openRx (f : FrameHdr) (id : BitVec 16) :
    (s.openRx w peer f id).fecPart v = s.fecPart v := by
  simp [State.openRx]

@[simp] theorem State.fecPart_retireRx : (s.retireRx w peer).fecPart v = s.fecPart v := by
  unfold State.retireRx
  split
  · split <;> simp
  · simp

theorem State.fecPart_roomRx {t : State} (h : s.roomRx w = some t) : t.fecPart v = s.fecPart v := by
  unfold State.roomRx at h
  dsimp only at h
  split at h
  · cases h
    rfl
  · obtain ⟨e, -, rfl⟩ := Option.map_eq_some_iff.mp h
    exact s.fecPart_retireRx w v e.1

@[simp] theorem State.fecPart_sendReset (seq : BitVec 32) (reason : Nat) :
    (s.sendReset w peer seq reason).fecPart v = s.fecPart v := by
  unfold State.sendReset State.countDiscard
  split <;> simp

@[simp] theorem State.fecPart_receiveGood (f : FrameHdr) (payload : Bytes) :
    (s.receiveGood w peer f payload).fecPart v = s.fecPart v := by
  unfold State.receiveGood
  dsimp only
  split
  · split
    · split
      · next t room => rw [State.fecPart_openRx, s.fecPart_roomRx w v room]
      · simp
    · simp
  · next c _ =>
    refine State.fecPart_ite v (State.fecPart_ite v ?_ ?_) (State.fecPart_ite v ?_ ?_)
    · rw [State.fecPart_openRx]
      split
      · rw [State.fecPart_scrape]
        exact State.fecPart_ite v (by simp) (by simp)
      · exact State.fecPart_ite v (by simp) (by simp)
    · simp
    · rw [State.fecPart_openRx]
      split <;> simp
    · refine State.fecPart_ite v ?_ (State.fecPart_ite v ?_ (State.fecPart_ite v ?_ ?_)) <;> simp

@[simp] theorem State.fecPart_receiveLost (seq : BitVec 32) : (s.receiveLost w peer seq).fecPart v = s.fecPart v := by
  simp [State.receiveLost]

@[simp] theorem State.fecPart_receiveAckFrame (f : FrameHdr) :
    (s.receiveAckFrame w peer f).fecPart v = s.fecPart v := by
  simp [State.receiveAckFrame]

@[simp] theorem State.fecPart_heardFrom : (s.heardFrom w peer).fecPart v = s.fecPart v := by
  simp [State.heardFrom]

@[simp] theorem State.fecPart_seeRxContext (bad : Option (Nat × BitVec 42)) :
    (s.seeRxContext w peer bad).fecPart v = s.fecPart v := by
  unfold State.seeRxContext
  split
  · rfl
  · dsimp only
    split
    · simp
    · split <;> simp

end

end Sys2Proof.Machine
end

section
/-!
The decoder of a receive path, and the results of sketch candidates (R117, R175 to R177).
-/
namespace Sys2Proof.Machine

theorem SameBut.del {ps : List Part} {s t : State} (h : SameBut ps s t) (hp : .dec ∉ ps) (p : Phys) :
    t.del p = s.del p :=
  congrArg (·[p.val]) (show t.dec = s.dec from h .dec hp)

section
variable (s : State) (p : Phys) (w v : Work)

@[simp] theorem State.del_modDec_self (f : DecodeLane → DecodeLane) : (s.modDec p f).del p = f (s.del p) := vupd_self ..

@[simp] theorem State.del_modFec (f : FecLane → FecLane) : (s.modFec w f).del p = s.del p := rfl

@[simp] theorem State.del_raiseW (e : Ev) (code arg1 arg2 : Nat) : (s.raiseW e w code arg1 arg2).del p = s.del p := by
  simp [State.del]

@[simp] theorem State.del_modBurstNow (q : Phys) (f : Burst → Burst) : (s.modBurstNow q f).del p = s.del p :=
  (State.modBurstNow_keeps (.refl [.acq] s) (List.Subset.refl _) q f).del (by decide) p

@[simp] theorem State.del_learnPeer (peer : Nat) : (s.learnPeer w peer).del p = s.del p :=
  (State.learnPeer_keeps (.refl [.ev, .mem, .work, .group, .trigPins] s) (List.Subset.refl _) w peer).del (by decide) p

@[simp] theorem State.rxl_learnPeer (peer : Nat) : (s.learnPeer w peer).rxl p = s.rxl p :=
  (State.learnPeer_keeps (.refl [.ev, .mem, .work, .group, .trigPins] s) (List.Subset.refl _) w peer).rxl (by decide) p

@[simp] theorem State.del_modRxCtx (peer : Nat) (f : RxCtx → RxCtx) : (s.modRxCtx w peer f).del p = s.del p :=
  (State.modRxCtx_keeps (.refl [.mem, .work] s) (List.Subset.refl _) w peer f).del (by decide) p

@[simp] theorem State.del_varnish (peer : Nat) : (s.varnish w peer).del p = s.del p :=
  (State.varnish_keeps (.refl [.sess, .ev, .mem, .work, .group, .trigPins] s) (List.Subset.refl _) w peer).del
    (by decide) p

@[simp] theorem State.del_scrape (peer : Nat) (n : BitVec 32) : (s.scrape w peer n).del p = s.del p :=
  (State.scrape_keeps (.refl [.sess, .ev, .mem, .work, .group, .trigPins] s) (List.Subset.refl _) w peer n).del
    (by decide) p

@[simp] theorem State.del_nextRun : (s.nextRun p).del p = { s.del p with runs := (s.del p).runs + 1 } := by
  simp [State.nextRun]

/-! Pruning drops outer codewords alone. -/

@[simp] theorem DecodeLane.prune_delin (d : DecodeLane) : d.prune.delin = d.delin := rfl
@[simp] theorem DecodeLane.prune_nextHeader (d : DecodeLane) : d.prune.nextHeader = d.nextHeader := rfl
@[simp] theorem DecodeLane.prune_toCheck (d : DecodeLane) : d.prune.toCheck = d.toCheck := rfl
@[simp] theorem DecodeLane.prune_cands (d : DecodeLane) : d.prune.cands = d.cands := rfl

/-! The results of candidates. -/

/-- A candidate's result is its count when it is contradicted, and touches nothing else of the FEC record. -/
theorem State.fecPart_resolveCand (pos : Nat) (confirmed : Bool) :
    (s.resolveCand p w pos confirmed).fecPart v = (if confirmed then s
      else s.modFec w fun f => { f with contradicted := satW 32 (f.contradicted + 1) }).fecPart v := by
  unfold State.resolveCand
  cases confirmed
  · simp only [Bool.false_eq_true, if_false]
    split
    · rfl
    · split <;> simp <;> rfl
  · simp only [if_true]
    split <;> simp

/-- A candidate that has its result leaves the list, and delineation stays where it is. -/
theorem State.del_resolveCand (pos : Nat) (confirmed : Bool) : ∃ done, (s.resolveCand p w pos confirmed).del p =
    { s.del p with cands := (s.del p).cands.filter fun c => decide (c.1 ≠ pos), done := done } := by
  unfold State.resolveCand
  cases confirmed
  · simp only [Bool.false_eq_true, if_false]
    split
    · exact ⟨_, by simp; rfl⟩
    · split <;> exact ⟨_, by simp; rfl⟩
  · simp only [if_true]
    split <;> exact ⟨_, by simp; rfl⟩

/-- The FEC record of a working lane but for its count of contradicted candidates, and its station. -/
def State.framePart (s : State) (w : Work) : FecLane × Nat :=
  ({ (s.fecPart w).1 with contradicted := 0 }, (s.fecPart w).2)

theorem State.fecPart_of_framePart {s t : State} {v : Work} (h : t.framePart v = s.framePart v) :
    ∃ n, t.fecPart v = ({ (s.fecPart v).1 with contradicted := n }, (s.fecPart v).2) :=
  ⟨(t.fecPart v).1.contradicted, congrArg
    (fun x : FecLane × Nat => ({ x.1 with contradicted := (t.fecPart v).1.contradicted }, x.2)) h⟩

@[simp] theorem State.framePart_resolveCand (pos : Nat) (confirmed : Bool) :
    (s.resolveCand p w pos confirmed).framePart v = s.framePart v := by
  simp only [State.framePart, State.fecPart_resolveCand]
  cases confirmed
  · by_cases same : v = w
    · simp [same]
    · simp [State.fecPart_modFec_other s same]
  · rfl

@[simp] theorem State.framePart_resolveTo (pos : Nat) : (s.resolveTo p w pos).framePart v = s.framePart v :=
  State.each_untouched (·.framePart v) s fun _ _ t => t.framePart_resolveCand p w v _ _

@[simp] theorem State.framePart_loseSketches : (s.loseSketches p).framePart v = s.framePart v := by
  unfold State.loseSketches
  dsimp only
  split
  · rfl
  · split
    · exact State.each_untouched (·.framePart v) s fun c _ t => t.framePart_resolveCand p _ v _ _
    · rfl

theorem State.toCheck_resolveTo (pos : Nat) : ((s.resolveTo p w pos).del p).toCheck = (s.del p).toCheck := by
  refine State.each_untouched (fun t => (t.del p).toCheck) s fun c _ t => ?_
  obtain ⟨done, resolved⟩ := t.del_resolveCand p w c.1 _
  exact (congrArg DecodeLane.toCheck resolved :)

end

end Sys2Proof.Machine
end

section
/-!
Decoders, marker lock, delineation, the frame check, sketches and margin windows (chapter 4).
-/
namespace Sys2Proof.Machine

section
variable (s : State) (p : Phys) (w v : Work)

@[simp] theorem State.wk_modWork_self (f : WorkLane → WorkLane) : (s.modWork w f).wk w = f (s.wk w) := vupd_self ..

@[simp] theorem State.wk_modFec_self (f : FecLane → FecLane) :
    (s.modFec w f).wk w = { s.wk w with fec := f (s.wk w).fec } := vupd_self ..

theorem State.wk_modFec_other {v : Work} (h : v ≠ w) (f : FecLane → FecLane) : (s.modFec w f).wk v = s.wk v :=
  vupd_other _ _ _ _ h

@[simp] theorem State.wk_modDec (f : DecodeLane → DecodeLane) : (s.modDec p f).wk w = s.wk w := rfl

@[simp] theorem State.wk_unitWrite (a : Arr) (base len : Nat) : (s.unitWrite a base len).wk w = s.wk w := rfl

@[simp] theorem State.wk_modAge (f : AgeUnit → AgeUnit) : (s.modAge f).wk w = s.wk w := rfl

@[simp] theorem State.modeOf_modDec (q : Phys) (f : DecodeLane → DecodeLane) : (s.modDec q f).modeOf p = s.modeOf p :=
  rfl

@[simp] theorem State.modeOf_modFec (f : FecLane → FecLane) : (s.modFec w f).modeOf p = s.modeOf p := rfl

@[simp] theorem State.wk_nextRun : (s.nextRun p).wk w = s.wk w := rfl

@[simp] theorem State.wk_modBurstNow (f : Burst → Burst) : (s.modBurstNow p f).wk w = s.wk w :=
  (State.modBurstNow_keeps (.refl [.acq] s) (List.Subset.refl _) p f).wk (by decide) w

@[simp] theorem State.sess_modFec (k : Sess) (f : FecLane → FecLane) : (s.modFec w f).sess k = s.sess k := rfl

end

/-! The learned peer (R111). -/

theorem State.fecPart_learnPeer (s : State) (w : Work) (peer : Nat) :
    (s.learnPeer w peer).fecPart w = ({ (s.fecPart w).1 with peer := peer }, (s.fecPart w).2) := by
  unfold State.learnPeer
  extract_lets old t u
  rw [State.fecPart_settleRetention]
  refine State.fecPart_ite w (s.fecPart_modFec_self w _) ?_
  exact (State.each_untouched (·.fecPart w) t fun d _ u => by simp).trans (s.fecPart_modFec_self w _)

theorem State.peer_learnPeer (s : State) (w : Work) (peer : Nat) : ((s.learnPeer w peer).wk w).fec.peer = peer := by
  have learned := s.fecPart_learnPeer w peer
  simp only [State.fecPart, Prod.mk.injEq] at learned
  rw [learned.1]

/-! Alignment markers (Table 4-5). -/

@[simp] theorem State.amLoss_loseSketches (s : State) (p : Phys) (w : Work) :
    ((s.loseSketches p).wk w).fec.amLoss = (s.wk w).fec.amLoss :=
  (congrArg (·.1.amLoss) (s.framePart_loseSketches p w) :)

section
variable {s : State} {p : Phys} {w : Work} {sync : BitVec 64} {code : BitVec 128} {sym : Sym} {sender dest fptr : Nat}

/-- A marker that is this station's own locks a hunting path on its sender and first header. -/
theorem alignmentMarker_locks (hr : (s.rxl p).state = .locked) (hp : (s.rxl p).passed (sym + 255) = true)
    (hm : s.modeOf p ≠ .spare) (hw : s.rxWork p = some w) (hl : (s.del p).amLocked = false)
    (hread : readMarker sync code = some (sender, dest, fptr)) (run : s.pathMode p = .steady ∨ s.pathMode p = .loop)
    (taken : s.pathMode p ≠ .loop ∨ (sender = (s.wk w).station ∧ dest = (s.wk w).station))
    (mine : dest = (s.wk w).station ∨ dest = 16383) : Leads (.alignmentMarker p sync code sym) s fun t =>
      (t.del p).amLocked = true ∧ (t.del p).amSender = sender ∧ (t.del p).delin = 2 ∧ (t.del p).nextHeader = fptr ∧
      (t.rxl p).runStart = sym + 256 ∧ (t.wk w).fec.peer = sender := by
  simp only [BitVec.ofNat_eq_ofNat] at hp
  refine ⟨_, rfl, ?_⟩
  simp [hr, hp, hm, hw, hl, hread, run, taken, mine, Option.filter_some, DecodeLane.lockAt, State.peer_learnPeer]

/-- A marker from the peer at the expected position keeps lock. -/
theorem alignmentMarker_keeps_lock (hr : (s.rxl p).state = .locked) (hp : (s.rxl p).passed (sym + 255) = true)
    (hw : s.rxWork p = some w) (hl : (s.del p).amLocked = true)
    (hread : readMarker sync code = some (sender, dest, fptr)) (hs : s.pathMode p = .steady)
    (mine : dest = (s.wk w).station ∨ dest = 16383) (peer : sender = (s.wk w).fec.peer)
    (expected : sym = (s.rxl p).markerDue) : Leads (.alignmentMarker p sync code sym) s fun t =>
      (t.del p).amLocked = true ∧ (t.del p).missCount = 0 ∧
      (t.del p).delin = (if (s.del p).delin = 0 then 2 else (s.del p).delin) ∧ (t.wk w).fec.peer = sender := by
  simp only [BitVec.ofNat_eq_ofNat, expected] at hp
  refine ⟨_, rfl, ?_⟩
  by_cases hunting : (s.del p).delin = 0 <;>
    simp [hr, hp, hw, hl, hread, hs, mine, peer, expected, hunting, Option.filter_some]

end

/-! The check of a frame (Table 4-7). -/

section
variable {s : State} {p : Phys} {w : Work} {x : CheckedFrame}

/-- A frame for another station is counted as misaddressed, and nothing more. -/
theorem State.checkFrame_misaddressed (ht : (frameHdr x.hdr).type ≠ 0) (hp : (frameHdr x.hdr).peer ≠ (s.fecPart w).2)
    (done : Bool) (bad : Option (Nat × BitVec 42)) : s.checkFrame p w x done bad =
      s.modFec w fun f => { f with misaddressed := satW 32 (f.misaddressed + 1) } := by
  unfold State.checkFrame
  exact (if_neg ht).trans (if_pos hp)

/-- A frame for this station that is whole is counted as good. -/
theorem State.checkFrame_good (ht : (frameHdr x.hdr).type ≠ 0) (hp : (frameHdr x.hdr).peer = (s.fecPart w).2)
    (hl : x.lostCw = false) (hc : ((frameHdr x.hdr).type ≠ 1 ∧ (frameHdr x.hdr).type ≠ 3) ∨
      trailerOk x.hdr x.payload x.crc = true) (done : Bool) (bad : Option (Nat × BitVec 42)) :
    (s.checkFrame p w x done bad).fecPart w =
      ({ (s.fecPart w).1 with good := satW 32 ((s.fecPart w).1.good + 1) }, (s.fecPart w).2) := by
  have whole : ¬ x.lostCw = true := by rw [hl]; exact Bool.false_ne_true
  unfold State.checkFrame
  extract_lets f q data deliver t lost lostAck crc good inBurst moved acked
  have trailer : ¬ (data && !trailerOk x.hdr x.payload x.crc) = true := by
    rcases hc with ⟨h1, h3⟩ | hc
    · simp [data, f, h1, h3]
    · simp [hc]
  have here : ¬ f.peer ≠ (s.wk w).station := fun other => other hp
  have seen : t.fecPart w = s.fecPart w := State.fecPart_ite w (s.fecPart_seeRxContext w w q bad) rfl
  have counted : good.fecPart w = _ := (t.fecPart_modFec_self w _).trans (by rw [seen])
  have burst : inBurst.fecPart w = _ := State.fecPart_ite w ((good.fecPart_modBurstNow p w _).trans counted) counted
  have taken : acked.fecPart w = _ := Eq.trans (by simp [acked, moved]) burst
  rw [if_neg ht, if_neg here, if_neg whole, if_neg trailer]
  exact State.fecPart_ite w burst (State.fecPart_ite w ((acked.fecPart_heardFrom w w q).trans taken)
    (State.fecPart_ite w ((acked.fecPart_receiveGood w w q f x.payload).trans taken)
      ((acked.fecPart_receiveAckFrame w w q f).trans taken)))

/-- A frame for this station whose trailer does not match is counted as such. -/
theorem State.checkFrame_crc (ht : (frameHdr x.hdr).type = 1 ∨ (frameHdr x.hdr).type = 3)
    (hp : (frameHdr x.hdr).peer = (s.fecPart w).2) (hl : x.lostCw = false)
    (hc : trailerOk x.hdr x.payload x.crc = false) (done : Bool) (bad : Option (Nat × BitVec 42)) :
    (s.checkFrame p w x done bad).fecPart w =
      ({ (s.fecPart w).1 with crc := satW 32 ((s.fecPart w).1.crc + 1) }, (s.fecPart w).2) := by
  have numbered : (frameHdr x.hdr).type ≠ 0 := by omega
  have whole : ¬ x.lostCw = true := by rw [hl]; exact Bool.false_ne_true
  unfold State.checkFrame
  extract_lets f q data deliver t lost lostAck crc
  have trailer : (data && !trailerOk x.hdr x.payload x.crc) = true := by
    simp [data, f, ht, hc]
  have here : ¬ f.peer ≠ (s.wk w).station := fun other => other hp
  have seen : t.fecPart w = s.fecPart w := State.fecPart_ite w (s.fecPart_seeRxContext w w q bad) rfl
  have counted : crc.fecPart w = _ := (t.fecPart_modFec_self w _).trans (by rw [seen])
  rw [if_neg numbered, if_neg here, if_neg whole, if_pos trailer]
  exact State.fecPart_ite w ((crc.fecPart_receiveLost w w q f.seq).trans counted) counted

/-- A placed frame whose bytes have arrived leaves the list and is checked, once the candidates up to it have their
results. -/
theorem frameCheck_checks {pos : Nat} {rest : List Nat} {h : Bytes} {lost : Bool} (hw : s.rxWork p = some w)
    (hp : s.passes p = true) (hc : (s.del p).toCheck = pos :: rest) (hr : (s.del p).read pos 16 = some (h, lost))
    (hb : (s.del p).beyond pos (wireSize (frameHdr (hdrAt h)).type (frameHdr (hdrAt h)).len) = false)
    (hf : (s.del p).frameAt pos = some x) (bad : Option (Nat × BitVec 42)) :
    ∃ (u : State) (n : Nat) (done : Bool), exec (.frameCheck p bad) s = .next (u.checkFrame p w x done bad) ∧
      u.fecPart w = ({ (s.wk w).fec with contradicted := n }, (s.wk w).station) ∧ (u.del p).toCheck = rest := by
  obtain ⟨n, counts⟩ := State.fecPart_of_framePart (s.framePart_resolveTo p w w pos)
  refine ⟨(s.resolveTo p w pos).modDec p fun d => d.popCheck pos, n,
    ((s.resolveTo p w pos).del p).done.contains pos, ?_, counts, ?_⟩
  · exact congrArg Host.Outcome.next (by simp [hw, hp, hc, hr, hb, hf])
  · simp [DecodeLane.popCheck, State.toCheck_resolveTo, hc]

end

/-! Sketches, margin windows and commands (R117, R119, R121, R174). -/

section
variable (s : State) (p : Phys) (w : Work)

@[simp] theorem State.del_sketchFrame (pos : Nat) (x : CheckedFrame) (ok : Bool) :
    (s.sketchFrame p w pos x ok).del p = s.del p :=
  (State.sketchFrame_keeps (.refl [.mem, .work, .group] s) (List.Subset.refl _) p w pos x ok).del (by decide) p

@[simp] theorem State.wk_hostFrame (station : Nat) (seq : BitVec 32) (payload : Bytes) (sketch : Bool) :
    (s.hostFrame w station seq payload sketch).wk w = s.wk w :=
  (State.hostFrame_keeps (.refl [.group] s) (List.Subset.refl _) w station seq payload sketch).wk (by decide) w

theorem State.rxCtx_modRxCtx {s : State} {w : Work} {q : Nat} {c : RxCtx} (h : tabGet (s.wk w).rxCtx q = some c)
    (f : RxCtx → RxCtx) : tabGet ((s.modRxCtx w q f).wk w).rxCtx q = some (f c) := by
  simp only [State.modRxCtx, h]
  split
  · -- the changed acknowledgement is due
    simp [State.modAck]
  · simp

end

/-- A frame at the sketch pointer, with room for it, is sketched. -/
theorem State.sketchFrame_sketches {s : State} {p : Phys} {w : Work} {x : CheckedFrame} {c : RxCtx} (pos : Nat)
    (hctx : tabGet (s.wk w).rxCtx (s.senderOf p w) = some c) (hgen : c.gen = (frameHdr x.hdr).gen)
    (hseq : (frameHdr x.hdr).seq = if c.sketches = [] then c.next else c.sketchPtr) (hpause : c.paused = false)
    (hroom : (s.wk w).sketchBytes + wireSize 1 (frameHdr x.hdr).len ≤ 1024 * (s.wk w).sketchWindow)
    (hfull : (s.grp (groupOfWork w)).replayFull (12 + (frameHdr x.hdr).len) = false) :
    (tabGet ((s.sketchFrame p w pos x true).wk w).rxCtx (s.senderOf p w)).map
      (fun c => (c.sketches.map (·.seq), c.sketchPtr)) =
      some (c.sketches.map (·.seq) ++ [(frameHdr x.hdr).seq], (frameHdr x.hdr).seq + 1) := by
  simp [State.sketchFrame, hctx, hgen, ← hseq, hpause, hroom, hfull, State.rxCtx_modRxCtx hctx]

/-- The oldest candidate leaves the list with its result, and is counted if it is contradicted. -/
theorem sketchResolved_resolves {s : State} {p : Phys} {w : Work} {pos n : Nat} {rest : List (Nat × Nat)}
    {confirmed : Bool} (hw : s.rxWork p = some w) (hc : (s.del p).cands = (pos, n) :: rest)
    (hverdict : (s.del p).verdict pos n = some confirmed) : Leads (.sketchResolved p) s fun t =>
      (t.wk w).fec.contradicted = (if confirmed then (s.wk w).fec.contradicted
        else satW 32 ((s.wk w).fec.contradicted + 1)) ∧
      (t.del p).cands = rest.filter fun c => decide (c.1 ≠ pos) := by
  obtain ⟨done, resolved⟩ := s.del_resolveCand p w pos confirmed
  have counted := s.fecPart_resolveCand p w w pos confirmed
  refine ⟨_, congrArg Host.Outcome.next (by simp [hw, hc, hverdict]; rfl), ?_, by simp [resolved, hc]⟩
  refine (congrArg (·.1.contradicted) counted).trans ?_
  cases confirmed
  · simp only [Bool.false_eq_true, if_false, State.fecPart_modFec_self]
    rfl
  · rfl

/-- The oldest margin window that has ended is judged; fewer than three in a row below the floor end no lane. -/
theorem marginWindowEnd_judges {s : State} {w : Work} {p : Phys} {c e : Nat} {rest : List (Nat × Nat)}
    (hp : s.physOf w = some p) (hm : guaranteed (s.modeOf p) = true ∨ s.modeOf p = .loop)
    (hwin : (s.wk w).fec.windows = (c, e) :: rest) (hfail : (s.wk w).fec.failWindows < 2) :
    Leads (.marginWindowEnd w) s fun t => (t.wk w).fec.margin = marginOf c e 24 10000 ∧
      (t.wk w).fec.marginHard = marginOf c e 15 10000 ∧ (t.wk w).fec.marginValid = true ∧
      (t.wk w).fec.marginLb = decide (c = 0) ∧ (t.wk w).fec.windows = rest ∧ (t.wk w).penLast = (s.wk w).penNow ∧
      (t.wk w).penNow = [] := by
  have few (b : Bool) : ¬ 3 ≤ (if b then (s.wk w).fec.failWindows + 1 else 0) := by
    split <;> omega
  refine ⟨_, rfl, ?_⟩
  simp [hp, hm, hwin, -Bool.and_eq_true, few, apply_ite (fun t : State => t.wk w)]

/-- A physical lane is not under self-test where its working lane is not. -/
theorem State.selftest_of_workTest {s : State} {w : Work} {p : Phys} (h : s.workTest w = false)
    (hp : s.physOf w = some p) : (s.ln p).selftest = false := by
  simpa [State.workTest, hp] using h

/-- Each lane that LANE.SET_FEC selects takes its four parameters; a new length starts the window in progress anew. -/
theorem laneSetFec_accepted {s : State} {k : Sess} {a : Bytes} {w : Work} (h : s.holds k 0x0328 a)
    (hw : w ∈ selAll 128 (byteAt a 0)) (ht : ∀ v ∈ selAll 128 (byteAt a 0), s.workTest v = false) :
    Answers (.laneSetFec k) s k 0x0328 .ok 0 [] fun t => (t.wk w).fec.windowExp = byteAt a 1 ∧
      (t.wk w).fec.hardForced = decide (byteAt a 2 = 1) ∧ (t.wk w).fec.preTx = bitOf (byteAt a 3) 0 ∧
      (t.wk w).fec.preRx = bitOf (byteAt a 3) 1 ∧
      (t.wk w).fec.winBits = if (s.wk w).fec.windowExp = byteAt a 1 then (s.wk w).fec.winBits else 0 := by
  refine answers_of (u := ?u) rfl h ?body ?sess ?post
  case body =>
    refine State.forAllSel_accepted fun v hv => ?_
    cases carried : s.physOf v with
    | none => rfl
    | some p => exact if_neg (by rw [State.selftest_of_workTest (ht v hv) carried]; exact Bool.false_ne_true)
  case sess => exact State.each_untouched (·.sess k) s fun v _ u => u.sess_modFec v k _
  case post =>
    obtain ⟨u, before, own⟩ := State.each_own (·.wk w) s hw (selAll_nodup _ _) fun v u hv =>
      u.wk_modFec_other v hv.symm _
    rw [State.wk_respond, own, State.wk_modFec_self, before]
    simp

end Sys2Proof.Machine
end

section
/-!
The line format and error correction (chapter 4).
-/
namespace Sys2Proof.Machine

/-- Settles O30: each event's and each command's next state written out, and its counts, marker lock and delineation
read off it; a frame is counted by the rules of `State.checkFrame`, and a candidate by that of `State.resolveCand`. -/
theorem decodersMarkersAndFrames : Obligations.DecodersMarkersAndFrames := by
  refine ⟨?_, ?_, ?_, ?_, ?_, ?_, ?_, ?_, ?_, ?_, ?_, ?_, ?_, ?_, ?_, ?_, ?_, ?_, ?_, ?_⟩
  · -- an inner codeword decodes
    rintro s p w hard rel ⟨hw, hd⟩
    refine ⟨_, rfl, ?_⟩
    by_cases same : (s.wk w).fec.hard = ((s.wk w).fec.hardForced || decide (4 ≤ (s.wk w).rungs)) <;>
      simp [hw, hd, same]
  · -- an outer codeword decodes
    rintro s p w word n msg ⟨hw, hd⟩ ⟨hword, hdec⟩
    refine ⟨_, rfl, ?_⟩
    cases burst : burstMode (s.modeOf p) <;> simp [hw, hd, hword, hdec, burst]
  · -- an outer codeword fails
    rintro s p w word ⟨hw, hd⟩ ⟨hword, hdec⟩
    refine ⟨_, rfl, ?_⟩
    cases burst : burstMode (s.modeOf p) <;> simp [hw, hd, hword, hdec, burst]
  · -- a marker locks a hunting path
    rintro s p w sync code sym sender dest fptr ⟨hr, hp, hm, hw, hl⟩ hread hmode
    rcases hmode with ⟨hs, hdest⟩ | ⟨hs, hsend, hdest⟩
    · exact alignmentMarker_locks hr hp hm hw hl hread (.inl hs) (.inl (by simp [hs])) hdest
    · exact alignmentMarker_locks hr hp hm hw hl hread (.inr hs) (.inr ⟨hsend, hdest⟩) (.inl hdest)
  · -- a marker at the expected position
    rintro s p w sync code sym sender dest fptr ⟨hr, hp, -, hs, hw, hl⟩ ⟨hread, hdest, hsend, hsym⟩
    exact alignmentMarker_keeps_lock hr hp hw hl hread hs hdest hsend hsym
  · -- a marker for another station
    rintro s p w sync code sym sender dest fptr ⟨hr, hp, hm, hs, hw, hl⟩ ⟨hread, hdest, hall⟩
    simp only [BitVec.ofNat_eq_ofNat] at hp
    exact ⟨_, rfl, by simp [hr, hp, hm, hs, hw, hl, hread, hdest, hall, Option.filter_some]⟩
  · -- a first or second miss
    rintro s p w ⟨hw, hl, hn, hp⟩
    simp only [BitVec.ofNat_eq_ofNat] at hp
    exact ⟨_, rfl, by simp [hw, hl, hn, hp, State.amMiss]⟩
  · -- a third miss
    rintro s p w ⟨hw, hl, hn, hp⟩
    simp only [BitVec.ofNat_eq_ofNat] at hp
    exact ⟨_, rfl, by simp [hw, hl, Nat.not_lt.mpr hn, hp, State.amMiss, DecodeLane.clear]⟩
  · -- a valid header in SYNC
    rintro s p w bytes ⟨hw, hp, hd, hread, hb⟩ hv
    exact ⟨_, rfl, by simp [hw, hp, hd, hread, hb, hv]⟩
  · -- an invalid header in SYNC
    rintro s p w bytes ⟨hw, hp, hd, hread, hb⟩ hv
    exact ⟨_, rfl, by simp [hw, hp, hd, hread, hb, hv]⟩
  · -- a misaddressed frame
    rintro s p w pos rest h lost x bad ⟨hw, hp, hc, hr⟩ ⟨hb, hf⟩ ⟨ht, hpeer⟩
    obtain ⟨u, n, done, he, counts, left⟩ := frameCheck_checks hw hp hc hr hb hf bad
    refine ⟨_, he, ?_⟩
    rw [State.checkFrame_misaddressed ht (by rw [counts]; exact hpeer)]
    simp only [State.fecPart, Prod.mk.injEq] at counts
    simp [counts, left]
  · -- a good frame
    rintro s p w pos rest h lost x ⟨hw, hp, hc, hr⟩ ⟨hb, hf⟩ ⟨ht, hpeer, hl⟩ hok
    obtain ⟨u, n, done, he, counts, -⟩ := frameCheck_checks hw hp hc hr hb hf none
    have checked := State.checkFrame_good (s := u) (p := p) ht (by rw [counts]; exact hpeer) hl hok done none
    rw [counts] at checked
    exact ⟨_, he, congrArg (·.1.good) checked, congrArg (·.1.misaddressed) checked⟩
  · -- a frame with a bad trailer
    rintro s p w pos rest h lost x ⟨hw, hp, hc, hr⟩ ⟨hb, hf⟩ ⟨ht, hpeer, hl, hbad⟩
    obtain ⟨u, n, done, he, counts, -⟩ := frameCheck_checks hw hp hc hr hb hf none
    have checked := State.checkFrame_crc (s := u) (p := p) ht (by rw [counts]; exact hpeer) hl hbad done none
    rw [counts] at checked
    exact ⟨_, he, congrArg (·.1.crc) checked, congrArg (·.1.good) checked⟩
  · -- a sketch candidate
    rintro s p w pos x c ⟨hw, hsk, hoff, hp, hg, hlane⟩ ⟨hx, hnew⟩ ⟨hv, ht, hpeer, hok⟩ ⟨hctx, hgen, hseq, hpause⟩
      ⟨hroom, hfull⟩
    refine ⟨_, congrArg Host.Outcome.next
      (by simp [hw, hx, hsk, hoff, hp, hg, hlane, hv, ht, hpeer, hok, hnew]; rfl), by simp, ?_⟩
    exact State.sketchFrame_sketches pos hctx hgen hseq hpause hroom hfull
  · -- a contradicted candidate
    rintro s p w pos n rest ⟨hw, hc, hverdict⟩
    exact sketchResolved_resolves hw hc hverdict
  · -- a confirmed candidate
    rintro s p w pos n rest ⟨hw, hc, hverdict⟩
    exact sketchResolved_resolves hw hc hverdict
  · -- a margin window ends
    rintro s w p c e rest ⟨hp, hm, hwin, hfail⟩
    exact marginWindowEnd_judges hp hm hwin hfail
  · -- LANE.SET_FEC
    rintro s k a w h (⟨hw, ht⟩ | ⟨hall, ht⟩)
    · have one : selAll 128 (byteAt a 0) = [w] := by rw [hw, selAll_val]
      exact laneSetFec_accepted h (by simp [one]) (by simp [one, ht])
    · have all : selAll 128 (byteAt a 0) = List.finRange 128 := selAll_all (by omega)
      exact laneSetFec_accepted h (by simp [all]) fun v _ => ht v
  · -- LANE.GET_FEC_STATS
    rintro s k a w h ⟨hw, ht, hc⟩
    refine answers_of (u := s) rfl h ?body rfl (by simp)
    case body =>
      cases carried : s.physOf w with
      | none => simp [hw, hc, carried, State.statusReply, replyOk]
      | some p => simp [hw, hc, carried, State.selftest_of_workTest ht carried, State.statusReply, replyOk]
  · -- LANE.GET_FEC_STATS with CLEAR
    rintro s k a w h ⟨hw, ht, hc⟩
    refine answers_of (u := ?u) rfl h ?body ?sess ?post
    case body =>
      cases carried : s.physOf w with
      | none => simp [hw, hc, carried, State.statusReply, replyOk]; rfl
      | some p => simp [hw, hc, carried, State.selftest_of_workTest ht carried, State.statusReply, replyOk]
    case sess => exact s.sess_modFec w k _
    case post => rw [State.wk_respond, State.wk_modFec_self]

end Sys2Proof.Machine
end

section
/-!
Transmitters and the transmit side of working lanes: what the shared operations do to one, and which leave them all
(chapter 5).
-/
namespace Sys2Proof.Machine

theorem SameBut.txl {ps : List Part} {s t : State} (h : SameBut ps s t) (hp : .tx ∉ ps) (p : Phys) : t.txl p = s.txl p :=
  congrArg (·[p.val]) (show t.tx = s.tx from h .tx hp)

theorem SameBut.epochUnit {ps : List Part} {s t : State} (h : SameBut ps s t) (hp : .epoch ∉ ps) : t.epoch = s.epoch :=
  h .epoch hp

theorem SameBut.time {ps : List Part} {s t : State} (h : SameBut ps s t) (hp : .clk ∉ ps) : t.now = s.now :=
  congrArg ClockUnit.deviceTime (show t.sys.clk = s.sys.clk from h .clk hp)

section
variable (s : State) (p q : Phys) (w v : Work)

@[simp] theorem State.txl_modTx_self (f : TxLane → TxLane) : (s.modTx p f).txl p = f (s.txl p) := vupd_self ..

theorem State.txl_modTx_other {q : Phys} (h : q ≠ p) (f : TxLane → TxLane) : (s.modTx p f).txl q = s.txl q :=
  vupd_other _ _ _ f h

@[simp] theorem State.txl_modTxDiag_self (f : TxDiag → TxDiag) :
    (s.modTxDiag p f).txl p = { s.txl p with diag := f (s.txl p).diag } := vupd_self ..

@[simp] theorem State.txl_modTxw (f : TxWork → TxWork) : (s.modTxw w f).txl p = s.txl p := rfl

@[simp] theorem State.txl_dacTrim : (s.dacTrim q).txl p = s.txl p := rfl

@[simp] theorem State.txl_raiseP (e : Ev) (code arg1 arg2 : Nat) : (s.raiseP e q code arg1 arg2).txl p = s.txl p := by
  simp [State.txl]

@[simp] theorem State.txl_txPalette (tag : BitVec 16) (o : Nat) (sym : Sym) : (s.txPalette q tag o sym).txl p = s.txl p :=
  s.txl_raiseP ..

@[simp] theorem State.tx_txPalette (tag : BitVec 16) (o : Nat) (sym : Sym) : (s.txPalette q tag o sym).tx = s.tx :=
  s.raiseP_tx ..

@[simp] theorem State.txl_respond (k : Sess) (r : Result) (d : Nat) (data : Bytes) :
    (s.respond k r d data).txl p = s.txl p := by
  simp [State.txl]

@[simp] theorem State.sess_modTx (k : Sess) (f : TxLane → TxLane) : (s.modTx p f).sess k = s.sess k := rfl

@[simp] theorem State.sess_modTxDiag (k : Sess) (f : TxDiag → TxDiag) : (s.modTxDiag p f).sess k = s.sess k := rfl

@[simp] theorem State.sess_modTxw (k : Sess) (f : TxWork → TxWork) : (s.modTxw w f).sess k = s.sess k := rfl

@[simp] theorem State.sess_unitWrite (k : Sess) (a : Arr) (base len : Nat) : (s.unitWrite a base len).sess k = s.sess k :=
  rfl

@[simp] theorem State.sess_raiseP (k : Sess) (e : Ev) (code arg1 arg2 : Nat) :
    (s.raiseP e p code arg1 arg2).sess k = s.sess k := by
  simp [State.sess]

@[simp] theorem State.sess_txPalette (k : Sess) (tag : BitVec 16) (o : Nat) (sym : Sym) :
    (s.txPalette p tag o sym).sess k = s.sess k := s.sess_raiseP ..

@[simp] theorem State.wk_modTx (f : TxLane → TxLane) : (s.modTx p f).wk w = s.wk w := rfl

@[simp] theorem State.wk_modTxw_self (f : TxWork → TxWork) :
    (s.modTxw w f).wk w = { s.wk w with tx := f (s.wk w).tx } := vupd_self ..

theorem State.wk_modTxw_other {v : Work} (h : v ≠ w) (f : TxWork → TxWork) : (s.modTxw w f).wk v = s.wk v :=
  vupd_other _ _ _ _ h

/-- A change of the transmit side leaves where the working lanes are. -/
@[simp] theorem State.physOf_modTxw (f : TxWork → TxWork) : (s.modTxw v f).physOf w = s.physOf w := by
  simp only [State.physOf, State.modTxw, State.modWork, vupd_get]
  split <;> rfl

@[simp] theorem State.wk_startDozeExit (c : Nat) : (s.startDozeExit q c).wk w = s.wk w :=
  (State.startDozeExit_keeps (.refl [.lane] s) (List.Subset.refl _) q c).wk (by decide) w

end

end Sys2Proof.Machine
end

section
/-!
The transmit setting commands (Table 13-5).
-/
namespace Sys2Proof.Machine

/-- Each lane that LANE.SET_TX selects stages SWING and skew, and takes the idle setting (R127, R128). -/
theorem laneSetTx_accepted {s : State} {k : Sess} {a : Bytes} {p : Phys} (h : s.holds k 0x0330 a)
    (hp : p ∈ selAll 136 (byteAt a 0)) (ht : ∀ q ∈ selAll 136 (byteAt a 0), (s.ln q).selftest = false) :
    Answers (.laneSetTx k) s k 0x0330 .ok 0 [] fun t =>
      (t.txl p).staged = some (byteAt a 1, toSigned 8 (byteAt a 2)) ∧ (t.txl p).idleZero = decide (byteAt a 3 = 1) ∧
      (t.txl p).swing = (s.txl p).swing ∧ (t.txl p).skew = (s.txl p).skew := by
  refine answers_of (u := ?u) rfl h ?body ?sess ?post
  case body =>
    refine State.forAllSel_accepted fun q hq => ?_
    rw [ht q hq, if_neg Bool.false_ne_true]
  case sess => exact State.each_untouched (·.sess k) s fun q _ u => u.sess_modTx q k _
  case post =>
    obtain ⟨u, before, own⟩ := State.each_own (·.txl p) s hp (selAll_nodup _ _) fun q u hq =>
      u.txl_modTx_other q hq.symm _
    rw [State.txl_respond, own, State.txl_modTx_self, before]
    exact ⟨rfl, rfl, rfl, rfl⟩

/-- The OPEN parameters that LANE.SET_TX_BURST carries in its arguments (Table 5-10). -/
def openParamsOf (a : Bytes) : OpenParams :=
  { cwMax := byteAt a 1, backoffJ := byteAt a 2, beMax := byteAt a 3, attemptLimit := byteAt a 4,
    openHold := fieldLE a 6 2, openGap := fieldLE a 8 2 }

/-- Each lane that LANE.SET_TX_BURST selects stages the parameters, and notes a station that is to be resynchronised
(R136, R148). -/
theorem laneSetTxBurst_accepted {s : State} {k : Sess} {a : Bytes} {w : Work} (h : s.holds k 0x0335 a)
    (hw : w ∈ selAll 128 (byteAt a 0)) (ht : ∀ v ∈ selAll 128 (byteAt a 0), s.workTest v = false) :
    Answers (.laneSetTxBurst k) s k 0x0335 .ok 0 [] fun t => (t.wk w).tx.staged = some (openParamsOf a) ∧
      ((t.wk w).tx.cwMax, (t.wk w).tx.beMax) = ((s.wk w).tx.cwMax, (s.wk w).tx.beMax) ∧
      (t.wk w).tx.resync = if fieldLE a 10 2 = 16383 ∨ (s.wk w).tx.resync.contains (fieldLE a 10 2) = true then
        (s.wk w).tx.resync else (s.wk w).tx.resync ++ [fieldLE a 10 2] := by
  refine answers_of (u := ?u) rfl h ?body ?sess ?post
  case body =>
    refine State.forAllSel_accepted fun v hv => ?_
    cases carried : s.physOf v with
    | none => rfl
    | some p => exact if_neg (by rw [State.selftest_of_workTest (ht v hv) carried]; exact Bool.false_ne_true)
  case sess => exact State.each_untouched (·.sess k) s fun v _ u => u.sess_modTxw v k _
  case post =>
    obtain ⟨u, before, own⟩ := State.each_own (·.wk w) s hw (selAll_nodup _ _) fun v u hv =>
      u.wk_modTxw_other v hv.symm _
    rw [State.wk_respond, own, State.wk_modTxw_self, before]
    exact ⟨rfl, rfl, rfl⟩

theorem State.txSwap_starts {s : State} {p : Phys} (h : (s.txl p).fade = none) (w : Swap) :
    s.txSwap p w = (0, s.modTx p fun t => { t with fade := some { swap := w } }) := by
  simp [State.txSwap, h]

/-- A swap asked for while a fade is pending is held behind it, in place of one held before (Table 2-8). -/
theorem State.txSwap_held {s : State} {p : Phys} {f : Fade} (h : (s.txl p).fade = some f) (w : Swap) :
    ∃ u, s.txSwap p w = (1, u) ∧ (u.txl p).fade = some f ∧ (u.txl p).heldSwap = some w ∧
      ∀ k, u.sess k = s.sess k := by
  cases old : (s.txl p).heldSwap <;> simp [State.txSwap, h, old]

/-- Settles O31: each command's reply and next state written out, and the transmitter read off it. The refusal of swaps in
DARK and SPARE is log entry 57, the list of stations to be resynchronised log entry 60. -/
theorem transmitSettings : Obligations.TransmitSettings := by
  refine ⟨?_, ?_, ?_, ?_, ?_, ?_, ?_, ?_, ?_, ?_⟩
  · -- LANE.SET_TX
    rintro s k a p h (⟨hp, ht⟩ | ⟨hall, ht⟩)
    · have one : selAll 136 (byteAt a 0) = [p] := by rw [hp, selAll_val]
      exact laneSetTx_accepted h (by simp [one]) (by simp [one, ht])
    · have all : selAll 136 (byteAt a 0) = List.finRange 136 := selAll_all (by omega)
      exact laneSetTx_accepted h (by simp [all]) fun q _ => ht q
  · -- LANE.LOAD_TX_PALETTE
    rintro s k a p h ⟨hp, ht, hf, hb, hsum⟩
    refine answers_of rfl h (by simp [hp, ht, hf, hb, Nat.not_lt.mpr hsum, replyOk]; rfl) (by simp) ?_
    by_cases b : byteAt a 1 = 1 <;> simp [b]
  · -- LANE.LOAD_TX_PALETTE of the active palette, or in a fade
    rintro s k a p h ⟨hp, ht, hf⟩
    cases fade : (s.txl p).fade with
    | some f => exact answers_of rfl h (by simp [hp, ht, fade, refuse]; rfl) (by simp) (by simp)
    | none =>
      have active : (s.txl p).activeB = decide (byteAt a 1 = 1) := hf.resolve_left (not_not_intro fade)
      exact answers_of (u := s) rfl h (by simp [hp, ht, fade, active, refuse]) rfl (by simp)
  · -- LANE.LOAD_TX_PALETTE of taps beyond 1.0
    rintro s k a p h ⟨hp, ht, hf, hb, hsum⟩
    exact answers_of (u := s) rfl h (by simp [hp, ht, hf, hb, hsum, badArg]) rfl (by simp)
  · -- LANE.GET_TX_DIAG
    rintro s k a p h ⟨hp, ht⟩
    cases clear : bitOf (byteAt a 1) 0
    · exact answers_of (u := s) rfl h (by simp [hp, ht, clear, State.statusReply, replyOk]) rfl (by simp)
    · exact answers_of rfl h (by simp [hp, ht, clear, State.statusReply, replyOk]; rfl) (by simp) (by simp)
  · -- LANE.SWAP_TX_PALETTE
    rintro s k a p h ⟨hp, ht, hm, hf⟩
    exact answers_of rfl h (by simp [hp, ht, hm, State.txSwap_starts hf, replyOk, leBytes]; rfl) (by simp) (by simp)
  · -- LANE.SWAP_TX_PALETTE held
    rintro s k a p f h ⟨hp, ht, hm, hf⟩
    obtain ⟨u, hu, fade, held, sess⟩ :=
      State.txSwap_held hf { exp := byteAt a 2, tag := BitVec.ofNat 16 (fieldLE a 4 2) }
    exact answers_of (u := u) rfl h (by simp [hp, ht, hm, hu, replyOk, leBytes]) (sess k) (by simp [fade, held])
  · -- LANE.SWAP_TX_PALETTE refused
    rintro s k a p h ⟨hp, ht, steady, transparent, tune, loop⟩
    have no_swap :
        ¬ (s.modeOf p = .steady ∨ s.modeOf p = .transparent ∨ s.modeOf p = .tune ∨ s.modeOf p = .loop) := by
      simp [steady, transparent, tune, loop]
    exact answers_of rfl h (by simp only [hp, finOf_val, ht, no_swap, refuse]; rfl) (by simp) (by simp)
  · -- LANE.SET_PREDISTORT
    rintro s k a p h ⟨hp, ht⟩
    refine answers_of rfl h (by simp [hp, ht, replyOk]; rfl) ?_ ?_
    · split <;> simp
    · split <;> simp
  · -- LANE.SET_TX_BURST
    rintro s k a w h (⟨hw, ht⟩ | ⟨hall, ht⟩)
    · have one : selAll 128 (byteAt a 0) = [w] := by rw [hw, selAll_val]
      exact laneSetTxBurst_accepted h (by simp [one]) (by simp [one, ht])
    · have all : selAll 128 (byteAt a 0) = List.finRange 128 := selAll_all (by omega)
      exact laneSetTxBurst_accepted h (by simp [all]) fun v _ => ht v

end Sys2Proof.Machine
end

section
/-!
The schedule commands (Table 13-6).
-/
namespace Sys2Proof.Machine

/-- An epoch is reached at its own start (R146). -/
theorem reached_self (e : BitVec 32) : reached e e = true := by
  simp [reached]

/-- SCHED.LOAD of a lane with nothing armed changes its shadow schedule alone (R393). -/
theorem schedLoad_loads {s : State} {k : Sess} {a : Bytes} {w : Work} (h : s.holds k 0x0402 a) (hw : byteAt a 0 = w.val)
    (ht : s.workTest w = false) (harmed : (s.wk w).tx.armed = none) : Answers (.schedLoad k) s k 0x0402 .ok 0 [] fun t =>
      (t.wk w).tx = { (s.wk w).tx with shadow := if byteAt a 1 = 0 then
        { (s.wk w).tx.shadow with header := Vector.ofFn fun i : Fin 8 => BitVec.ofNat 32 (fieldLE a (8 + 4 * i.val) 4) }
        else { (s.wk w).tx.shadow with
          entries := ((wordsOf (fieldLE a 4 2) (a.drop 8)).zipIdx).foldl (fun m x => tabSet m (fieldLE a 2 2 + x.2) x.1)
            (s.wk w).tx.shadow.entries } } := by
  have written (l : List Nat) (f : Nat → Nat) : ((s.each l fun i t => t.unitWrite arrFabric (f i) 1).wk w) = s.wk w :=
    State.each_untouched (·.wk w) s fun i _ t => t.wk_unitWrite w ..
  have session (l : List Nat) (f : Nat → Nat) : ((s.each l fun i t => t.unitWrite arrFabric (f i) 1).sess k) = s.sess k :=
    State.each_untouched (·.sess k) s fun i _ t => t.sess_unitWrite k ..
  refine answers_of rfl h (by simp [hw, ht, harmed, replyOk]; rfl) ?_ ?_
  · rw [State.sess_modTxw]
    split
    · rfl
    · exact session ..
  · rw [State.wk_respond, State.wk_modTxw_self]
    split <;> simp [written]

/-- The shadow schedule of a working lane is armed for an epoch, and its physical lane leaves DOZE for a schedule that
has slots to serve (R146, R316). -/
def State.armShadow (s : State) (w : Work) (p : Phys) (target : BitVec 32) : State :=
  let t := s.modTxw w fun t => { t with armed := some (target, false) }
  if (s.wk w).tx.shadow.silent then t else t.startDozeExit p 1

section
variable (s : State) (w : Work) (p : Phys) (target : BitVec 32)

theorem State.sess_armShadow (k : Sess) : (s.armShadow w p target).sess k = s.sess k := by
  unfold State.armShadow
  dsimp only
  split <;> simp

theorem State.armed_armShadow : ((s.armShadow w p target).wk w).tx.armed = some (target, false) := by
  unfold State.armShadow
  dsimp only
  split <;> simp

end

/-- Settles O34: each command's reply and next state written out, and the schedules read off it. -/
theorem scheduleCommands : Obligations.ScheduleCommands := by
  refine ⟨?_, ?_, ?_, ?_, ?_, ?_, ?_, ?_, ?_⟩
  · -- SCHED.SET_EPOCH
    intro s k a h
    exact answers_of rfl h rfl rfl (by simp)
  · -- SCHED.LOAD of the header
    rintro s k a w h ⟨hw, hb, ht, harmed⟩
    obtain ⟨t, he, ha, loaded⟩ := schedLoad_loads h hw ht harmed
    exact ⟨t, he, ha, by simp [loaded, hb]⟩
  · -- SCHED.LOAD of entries
    rintro s k a w h ⟨hw, hb, ht, harmed⟩
    obtain ⟨t, he, ha, loaded⟩ := schedLoad_loads h hw ht harmed
    exact ⟨t, he, ha, by simp [loaded, hb]⟩
  · -- SCHED.LOAD of an armed shadow
    rintro s k a w h ⟨hw, ht, harmed⟩
    have armed : (s.wk w).tx.armed.isSome = true := Option.isSome_iff_ne_none.mpr harmed
    exact answers_of (u := s) rfl h (by simp [hw, ht, armed, refuse]) rfl (by simp)
  · -- SCHED.ARM
    rintro s k a w p h ⟨hw, hp, ht, hlate⟩ hopen hfault
    have tested : s.workTest w = false := by simp [State.workTest, hp, ht]
    have still_open : reached (s.nextTarget w)
        (if byteAt a 1 = 0 then s.nextTarget w else BitVec.ofNat 32 (fieldLE a 4 4)) = true := by
      split
      · exact reached_self _
      · next named => exact hopen.resolve_left named
    refine answers_of (u := s.armShadow w p _) rfl h ?_ (s.sess_armShadow w p _ k) (by
      rw [State.wk_respond, s.armed_armShadow])
    cases armed : (s.wk w).tx.armed with
    | none => simp [hw, tested, armed, still_open, hp, hfault, State.armShadow, replyOk]
    | some x =>
      have early : x.2 = false := by simpa [armed] using hlate
      simp [hw, tested, armed, early, still_open, hp, hfault, State.armShadow, replyOk]
  · -- SCHED.ARM of a schedule that fails a check
    rintro s k a w p o h ⟨hw, hp, ht, harmed, hnext⟩ hfault
    have tested : s.workTest w = false := by simp [State.workTest, hp, ht]
    exact answers_of (u := s) rfl h (by simp [hw, tested, harmed, hnext, reached_self, hp, hfault, refuse]) rfl (by simp)
  · -- SCHED.DISARM
    rintro s k a w h ⟨hw, ht, hlate⟩
    refine answers_of (u := s.modTxw w fun t => { t with armed := none }) rfl h ?_ (by simp) (by simp)
    cases armed : (s.wk w).tx.armed with
    | none => simp [hw, ht, armed, replyOk]
    | some x =>
      have early : x.2 = false := by simpa [armed] using hlate
      simp [hw, ht, armed, early, replyOk]
  · -- SCHED.GET_STATUS
    rintro s k a w h ⟨hw, ht⟩
    exact answers_of (u := s) rfl h (by simp [hw, ht, State.statusReply, replyOk]) rfl (by simp)
  · -- SCHED.READ
    rintro s k a w h ⟨hw, ht, hn⟩
    exact answers_of (u := s) rfl h (by simp [hw, ht, Nat.not_lt.mpr hn, State.statusReply, replyOk]) rfl (by simp)

end Sys2Proof.Machine
end

section
/-!
Freezing a burst, sending it, and epochs (R136 to R142): what the shared operations fix and leave.
-/
namespace Sys2Proof.Machine

section
variable (s : State) (p : Phys) (w v : Work)

@[simp] theorem State.ln_modLane_self (f : LaneUnit → LaneUnit) : (s.modLane p f).ln p = f (s.ln p) := vupd_self ..

@[simp] theorem State.ln_modTx (q : Phys) (f : TxLane → TxLane) : (s.modTx q f).ln p = s.ln p := rfl

@[simp] theorem State.ln_modTxDiag (q : Phys) (f : TxDiag → TxDiag) : (s.modTxDiag q f).ln p = s.ln p := rfl

@[simp] theorem State.ln_dacTrim (q : Phys) : (s.dacTrim q).ln p = s.ln p := rfl

@[simp] theorem State.ln_endBurstLine (q : Phys) (sym : Sym) : (s.endBurstLine q sym).ln p = s.ln p := rfl

/-- The end of a burst on the line counts its saturated codes, and no other count (R126). -/
theorem State.txl_endBurstLine (sym : Sym) : ∃ n, (s.endBurstLine p sym).txl p =
    { s.txl p with line := [], shapes := [], diag := { (s.txl p).diag with dacClip := n } } :=
  ⟨_, by simp only [State.endBurstLine, State.countClips, State.txl_modTx_self, State.txl_modTxDiag_self]; rfl⟩

/-- Without a mode change that waits for it, the end of a burst changes nothing more (R135). -/
theorem State.settleBurstEnd_of_no_change {s : State} {p : Phys} (h : (s.ln p).change = none) :
    s.settleBurstEnd p = s := by
  simp [State.settleBurstEnd, h]

/-- Without a lane reset that waits for it, the end of a burst resets nothing (R308). -/
theorem State.settleReset_of_no_wait {s : State} {p : Phys} (h : (s.ln p).resetWait = false) : s.settleReset p = s := by
  simp [State.settleReset, h]

/-! The transmit side of a working lane. -/

theorem State.txw_modWork {f : WorkLane → WorkLane} (h : ∀ u, (f u).tx = u.tx) :
    ((s.modWork w f).wk v).tx = (s.wk v).tx := by
  by_cases same : v = w
  · subst same
    rw [State.wk_modWork_self, h]
  · exact congrArg WorkLane.tx (vupd_other _ _ _ _ same)

@[simp] theorem State.txw_ackSent (peer : Nat) : ((s.ackSent w peer).wk v).tx = (s.wk v).tx :=
  s.txw_modWork w v fun _ => rfl

@[simp] theorem State.txw_retentionLoss (i : Image) : ((s.retentionLoss w i).wk v).tx = (s.wk v).tx := by
  unfold State.retentionLoss
  extract_lets t u
  have void : (t.wk v).tx = (s.wk v).tx := s.txw_modWork w v fun _ => rfl
  rw [State.wk_raiseW]
  unfold u
  split
  · exact void
  · exact void

@[simp] theorem State.txw_readImage (k : Nat) (i : Image) (bad : Option (Nat × Nat × BitVec 42)) :
    ((s.readImage w k i bad).2.wk v).tx = (s.wk v).tx := by
  have read (a : Arr) (base len : Nat) (d : Option (Nat × BitVec 42)) : (s.unitRead a base len d).2.wk v = s.wk v :=
    (State.unitRead_keeps (.refl _ s) (.refl _) a base len d).wk (by decide) v
  unfold State.readImage
  dsimp only
  split
  · rw [read]
  · rw [State.txw_retentionLoss, read]

@[simp] theorem State.txw_readImages (k : Nat) (bad : Option (Nat × Nat × BitVec 42)) (l : List Image) :
    ((s.readImages w k bad l).2.wk v).tx = (s.wk v).tx := by
  induction l generalizing s k with
  | nil => rfl
  | cons i l ih => exact (ih _ _).trans (s.txw_readImage w v k i bad)

@[simp] theorem State.txw_sentFrames (dest : Nat) (frames : List LineFrame) :
    ((s.sentFrames w dest frames).wk v).tx = (s.wk v).tx := by
  unfold State.sentFrames
  dsimp only
  split
  · rfl
  · exact s.txw_modWork w v fun _ => rfl

@[simp] theorem State.txl_sentFrames (dest : Nat) (frames : List LineFrame) :
    (s.sentFrames w dest frames).txl p = s.txl p :=
  (State.sentFrames_keeps (.refl _ s) (.refl _) w dest frames).txl (by decide) p

end

@[simp] theorem TxWork.burstNum_settle (t : TxWork) : t.settle.burstNum = t.burstNum := by
  unfold TxWork.settle
  split <;> rfl

@[simp] theorem TxWork.burstNum_name (t : TxWork) (d : Nat) : (t.name d).burstNum = t.burstNum := by
  unfold TxWork.name
  split <;> rfl

theorem State.toSend_modTxw (s : State) (w v : Work) (f : TxWork → TxWork) (d : Nat) :
    ((s.modTxw w f).wk v).toSend d = (s.wk v).toSend d := by
  by_cases same : v = w
  · subst same
    rw [State.wk_modTxw_self]
    rfl
  · rw [State.wk_modTxw_other _ _ same]

/-- A station that a cold burst is pending for stays so when one is named (R137). -/
theorem TxWork.mem_coldPending_name {t : TxWork} {d e : Nat} (h : e ∈ t.coldPending) :
    e ∈ (t.name d).coldPending := by
  unfold TxWork.name
  split
  · exact h
  · dsimp only
    split
    · exact h
    · exact List.mem_append_left _ h

/-- A read without a disturbance, of an array whose words are all good. -/
theorem State.unitRead_undisturbed {s : State} {a : Arr} (h : (s.arrOf a).words = []) (base len : Nat) :
    s.unitRead a base len (some (0, 0#42)) = ([], s) := by
  by_cases some_word : 0 < len <;>
    simp [State.unitRead, State.wordsRead, State.disturb, Option.filter_some, some_word, h]

section
variable (s : State) (p : Phys) (w : Work) (dest : Nat) (cold resync full : Bool) (nmax : Nat)
  (bad : Option (Nat × Nat × BitVec 42))

@[simp] theorem State.state_freeze : ((s.freeze p w dest cold resync full nmax bad).txl p).state = .frozen := by
  unfold State.freeze
  extract_lets
  rw [State.txl_modTx_self]

/-- The burst that freezing fixes is for the destination, and numbered by its burst counter (R136, R138). -/
@[simp] theorem State.burst_freeze :
    ((s.freeze p w dest cold resync full nmax bad).txl p).burst.map (fun b => (b.dest, b.num)) =
      some (dest, (tabGet (s.wk w).tx.burstNum dest).getD 0) := by
  unfold State.freeze
  extract_lets chosen ack r t
  have read : (t.wk w).tx = (s.wk w).tx := s.txw_readImages ..
  rw [State.txl_modTx_self, ← read]
  rfl

/-- Of the transmit side, freezing takes back the RESYNC asked for the destination (R136). -/
@[simp] theorem State.txw_freeze : ((s.freeze p w dest cold resync full nmax bad).wk w).tx =
    { (s.wk w).tx with resync := (s.wk w).tx.resync.filter fun d => decide (d ≠ dest) } := by
  unfold State.freeze
  extract_lets chosen ack r t frames n retx asked mark num h b t1 t2 t3
  have read : (t.wk w).tx = (s.wk w).tx := s.txw_readImages ..
  have acked : (t1.wk w).tx = (t.wk w).tx := by
    unfold t1
    split
    · rfl
    · exact t.txw_ackSent ..
  have pointed : (t2.wk w).tx = (t1.wk w).tx := by
    unfold t2
    split
    · exact t1.txw_modWork w w fun _ => rfl
    · rfl
  rw [State.wk_modTx, State.wk_modTxw_self, pointed, acked, read]

end

/-! Epochs. -/

section
variable (s : State) (w : Work) (lost : Bool)

theorem State.endSlots_epochTime : ((s.endSlots lost w).epoch, (s.endSlots lost w).now) = (s.epoch, s.now) :=
  have kept := State.endSlots_keeps (.refl _ s) (.refl _) lost w
  Prod.ext (kept.epochUnit (by decide)) (kept.time (by decide))

theorem State.each_endSlots_epochTime (l : List Work) : ((s.each l fun w u => u.endSlots lost w).epoch,
    (s.each l fun w u => u.endSlots lost w).now) = (s.epoch, s.now) :=
  State.each_untouched (fun u => (u.epoch, u.now)) s fun w _ u => u.endSlots_epochTime w lost

@[simp] theorem State.epoch_each_swapLane (l : List Work) : (s.each l fun w u => u.swapLane w).epoch = s.epoch :=
  State.each_untouched (·.epoch) s fun w _ u =>
    (State.swapLane_keeps (.refl _ u) (.refl _) w).epochUnit (by decide)

@[simp] theorem State.epoch_each_lateSlots (l : List Work) : (s.each l fun w u => u.lateSlots w).epoch = s.epoch :=
  State.each_untouched (·.epoch) s fun w _ u =>
    (State.lateSlots_keeps (.refl _ u) (.refl _) w).epochUnit (by decide)

end

end Sys2Proof.Machine
end

section
/-!
Slot bursts, epochs and OPEN bursts (chapter 5).
-/
namespace Sys2Proof.Machine

/-- Settles O33: each event's next state written out, and its fields read off it; the bursts that are fixed by the rule
of `State.freeze`, the epochs by what its slots and swaps leave of the epoch unit. -/
theorem burstTransmission : Obligations.BurstTransmission := by
  refine ⟨?_, ?_, ?_, ?_, ?_, ?_, ?_, ?_, ?_, ?_⟩
  · -- a slot's freeze point
    rintro s p w slot ⟨hw, hm, hslot, hen, hmem⟩ ⟨hat, hlost, hst, hpow, hres, hmay⟩ hsend
    refine ⟨_, congrArg Host.Outcome.next (by
      simp [-State.wk_modTxw_self, hw, hm, hslot, hen, State.unitRead_undisturbed hmem, hat, hlost, hst, hpow, hres,
        hmay, Nat.not_le.mpr hslot]
      rfl), ?_⟩
    -- what is left to decide is whether the slot's destination has something to be sent
    dsimp only
    rw [if_pos]
    · rw [State.txl_modTx_self, Option.map_map]
      refine ⟨State.state_freeze .., (State.burst_freeze ..).trans ?_⟩
      rw [State.wk_modTxw_self, TxWork.burstNum_name]
    · rw [State.toSend_modTxw, State.wk_modTxw_self]
      rcases hsend with probe | send | pending
      · exact .inl (.inr probe)
      · exact .inl (.inl (.inl send))
      · exact .inr (TxWork.mem_coldPending_name (by simpa using pending))
  · -- a burst's start
    rintro s p w b ⟨hw, hb, hst, hres, hmay⟩ (hm | ⟨hm, hat⟩)
    · exact ⟨_, rfl, by simp [hw, hb, hst, hres, hmay, hm]⟩
    · exact ⟨_, rfl, by simp [hw, hb, hst, hres, hmay, hm, hat]⟩
  · -- a burst's end
    rintro s p b ⟨hb, hst, hc, hr⟩
    obtain ⟨n, ended⟩ := s.txl_endBurstLine p ((s.txl p).lineAt + BitVec.ofNat 48 (s.txl p).line.length)
    refine ⟨_, rfl, ?_⟩
    simp [hb, hst, State.settleBurstEnd_of_no_change, State.settleReset_of_no_wait, hc, hr, ended]
  · -- an edge of FABSYNC
    intro s offset
    obtain ⟨epoch, now⟩ := Prod.mk.inj (s.each_endSlots_epochTime s.epoch.lost workAll)
    refine ⟨_, rfl, ?_⟩
    dsimp only
    rw [State.epoch_each_swapLane]
    split <;> simp [epoch, now]
  · -- a missed edge of FABSYNC
    rintro s ⟨hp, hl⟩
    obtain ⟨epoch, now⟩ := Prod.mk.inj (s.each_endSlots_epochTime false workAll)
    refine ⟨_, congrArg Host.Outcome.next (if_neg (by simp [hp, hl])), ?_⟩
    dsimp only
    rw [State.epoch_each_lateSlots]
    split <;> simp [epoch, now]
  · -- the deadline of an armed swap
    intro s w
    exact ⟨_, rfl, by simp⟩
  · -- the deadline of a mode change
    rintro s w p m e l ⟨hp, hc⟩
    exact ⟨_, rfl, by simp [hp, hc]⟩
  · -- the choice of an OPEN burst
    rintro s p w d ⟨hw, hm, hst, hpow, hres, hmay⟩ hd
    exact ⟨_, rfl, by simp [-Option.map_eq_some_iff, hw, hm, hst, hpow, hres, hmay, hd]⟩
  · -- OPEN_HOLD expires
    rintro s w dest ⟨hm, hs⟩
    exact ⟨_, rfl, by simp [hm, hs, tabUpd]⟩
  · -- a backoff expires
    rintro s w dest o ho
    exact ⟨_, rfl, by simp [ho]⟩

end Sys2Proof.Machine
end

section
/-!
Retired receive contexts (R163): a table with two entries of one station keeps the second.
-/
namespace Sys2Proof.Machine

section
variable {s : State} {w : Work} {p : Nat} {c : RxCtx}

@[simp] theorem State.rxCtx_settleSketch : ((s.settleSketch w).wk w).rxCtx = (s.wk w).rxCtx := by
  unfold State.settleSketch
  dsimp only
  split
  · -- SKETCH is turned off, and its command answered
    split
    · rw [(State.answer_keeps (.refl [.sess, .ev, .trigPins] _) (List.Subset.refl _) _ _ _ _ _).wk (by decide),
        State.wk_modWork_self]
    · rw [State.wk_modWork_self]
  · rfl

/-- A changed receive context is set in the table. -/
theorem State.modRxCtx_sets (h : tabGet (s.wk w).rxCtx p = some c) (f : RxCtx → RxCtx) :
    ((s.modRxCtx w p f).wk w).rxCtx = tabSet (s.wk w).rxCtx p (f c) := by
  simp only [State.modRxCtx, h]
  split
  · -- the changed acknowledgement is due
    simp [State.modAck]
  · simp

/-- Sketches withdrawn from the oldest one on: the context is set in the table without them. -/
theorem State.scrape_sets {k : Sketch} {l : List Sketch} (h : tabGet (s.wk w).rxCtx p = some c)
    (hk : c.sketches = k :: l) : ∃ c', ((s.scrape w p k.seq).wk w).rxCtx = tabSet (s.wk w).rxCtx p c' := by
  have outstanding : c.sketches.all (fun x => seqBefore x.seq k.seq) = false := by simp [hk, seqBefore]
  simp only [State.scrape, h, outstanding, Bool.false_eq_true, if_false, State.rxCtx_settleSketch, State.wk_raiseW,
    State.count, State.wk_modWork_self]
  rw [(State.hostDesc_keeps (.refl [.group] _) (List.Subset.refl _) w 3 p k.seq).wk (by decide), State.modRxCtx_sets h]
  exact ⟨_, rfl⟩

/-- A context with sketches is set without them, and the first entry of its station leaves the table. -/
theorem State.retireRx_sketched (h : tabGet (s.wk w).rxCtx p = some c) (hs : c.sketches ≠ []) :
    ∃ c', ((s.retireRx w p).wk w).rxCtx = tabDel (tabSet (s.wk w).rxCtx p c') p := by
  obtain ⟨k, l, hk⟩ := List.exists_cons_of_ne_nil hs
  obtain ⟨c', scraped⟩ := State.scrape_sets h hk
  exact ⟨c', by simp [State.retireRx, h, hk, scraped]⟩

end

/-- A receive context with one sketch outstanding. -/
def sketchedCtx : RxCtx :=
  { next := 1, gen := 0, ctxId := 1, sketchPtr := 2, heard := 0,
    sketches := [{ seq := 1, bytes := 68, header := 0, payload := List.replicate 48 0 }] }

/-- Working lane 3 holds two receive contexts of station 9, in a table whose keys do not rise, and retires an idle one at
once. -/
def contextTwice : State :=
  State.reset.modWork 3 fun u => { u with rxCtx := [(9, sketchedCtx), (9, sketchedCtx)], ctxIdle := 0 }

theorem contextTwice_rxCtx : (contextTwice.wk 3).rxCtx = [(9, sketchedCtx), (9, sketchedCtx)] := by
  rw [contextTwice, State.wk_modWork_self]

theorem contextTwice_idle : 2000 * (contextTwice.wk 3).ctxIdle ≤ contextTwice.usOf (contextTwice.since sketchedCtx.heard) := by
  simp [contextTwice]

/-- The first of the two contexts is retired, and the second is then the station's. -/
theorem ctxIdleExpiry_contextTwice : Leads (.ctxIdleExpiry 3 9 true) contextTwice fun t =>
    tabGet (t.wk 3).rxCtx 9 = some sketchedCtx := by
  have held : tabGet (contextTwice.wk 3).rxCtx 9 = some sketchedCtx := by rw [contextTwice_rxCtx]; rfl
  obtain ⟨c, retired⟩ := State.retireRx_sketched held (List.cons_ne_nil _ _)
  refine ⟨contextTwice.retireRx 3 9, congrArg Host.Outcome.next ?_, ?_⟩
  · simp [held, contextTwice_idle]
  · dsimp only
    rw [retired, contextTwice_rxCtx]
    rfl

/-- Refutes O35: the statement does not ask that a table of contexts holds one entry for each station, and of two receive
contexts of one station the expiry retires the first alone, so the station still has one. -/
theorem not_deliveryTimersAndMoves : ¬ Obligations.DeliveryTimersAndMoves := by
  rintro ⟨-, -, -, -, -, sketchedExpiry, -⟩
  obtain ⟨u, hu, kept⟩ := ctxIdleExpiry_contextTwice
  obtain ⟨t, ht, gone⟩ := sketchedExpiry contextTwice 3 9 sketchedCtx
    ⟨by rw [contextTwice_rxCtx]; rfl, List.cons_ne_nil _ _, contextTwice_idle⟩
  cases ht.symm.trans hu
  rw [kept] at gone
  cases gone

end Sys2Proof.Machine
end

section
/-!
A step on an empty queue (R300, R377).
-/
namespace Sys2Proof.Machine

theorem State.tick_stopped {s : State} (h : s.sys.clk.counting = false) : s.tick = s := by simp [State.tick, h]

/-- While DEVICE_TIME counts, a cycle's transmissions leave the time, which then advances by one. -/
theorem State.now_tick {s : State} (h : s.sys.clk.counting = true) : s.tick.now = s.now + 1 := by
  have sent : SameBut [.perf, .tx, .group] s
      ((s.modCtl fun c => { c with perf := Vector.ofFn s.countCore }).each physAll fun p u => u.sendCycle p) :=
    .each _ _ (.setPerf _ (.refl _ s) (by decide)) fun p _ hu => State.sendCycle_keeps hu (by decide) p
  simpa [State.tick, h, State.now] using sent.time (by decide)

/-- Settles O2: the step is a tick, whose parts are the counters, the line and the time. -/
theorem idleTick : Obligations.IdleTick := by
  intro s hq
  refine ⟨s.tick, by simp [step, hq], ?_, ?_, State.tick_stopped⟩
  · exact ((State.tick_keeps (.refl [.perf, .clk, .tx, .group] s) (List.Subset.refl _)) .pending (by decide)).trans hq
  · cases hc : s.sys.clk.counting
    · simp [State.tick_stopped hc]
    · simp [State.now_tick hc]

end Sys2Proof.Machine
end

section
/-!
Loss of root PLL lock (R296).
-/
namespace Sys2Proof.Machine

/-- An internal power-on reset differs from PORST_N's in the record of it alone, whatever start-up follows. -/
theorem State.startUp_powerOnReset_internal (s : State) (straps : BitVec 4) (ref fab : Bool) :
    (s.powerOnReset true).startUp straps ref fab =
      ((s.powerOnReset false).startUp straps ref fab).modClk fun c => { c with intPor := true } := rfl

/-- Settles O22: both ways run the same reset and start-up. -/
theorem pllLockLossIsPowerOn : Obligations.PllLockLossIsPowerOn := by
  intro s locked valid
  refine ⟨s.powerOnReset false, _, rfl, execPorstNRelease_inReset rfl, rfl, ?_⟩
  exact (execPllLockLoss_locked locked valid).trans
    (congrArg _ (s.startUp_powerOnReset_internal s.sys.clk.straps s.sys.clk.refclkOk s.sys.clk.fabclkOk))

end Sys2Proof.Machine
end

section
/-!
What a failing core leaves alone: commands that have not started, and the duty of the other cores (R310, R386).
-/
namespace Sys2Proof.Machine

/-- Every part of the state that a failing core may reach, but sessions and cores. -/
def elsewhere : List Part := [.ev, .perf, .clk, .power, .mem, .selfTest, .flash, .lane, .rx, .acq, .dec, .tx, .work, .gallery,
  .group, .bias, .mon, .trigPins, .filter, .therm, .cal, .free]

/-- Sessions that wait for no answer of a command carried out, and the state and resets of core `x`, are as before. -/
structure Undisturbed (x : Core) (s t : State) : Prop where
  sess : ∀ k, (s.sess k).cmd.any (·.started) = false → t.sess k = s.sess k
  state : (t.coreOf x).state = (s.coreOf x).state
  resets : (t.coreOf x).resets = (s.coreOf x).resets

namespace Undisturbed

section
variable {x : Core} {s t u : State}

theorem refl (x : Core) (s : State) : Undisturbed x s s := ⟨fun _ _ => rfl, rfl, rfl⟩

theorem trans (h : Undisturbed x s t) (k : Undisturbed x t u) : Undisturbed x s u where
  sess j hj := (k.sess j (by rwa [h.sess j hj])).trans (h.sess j hj)
  state := k.state.trans h.state
  resets := k.resets.trans h.resets

/-- Sessions and the core as they were. -/
theorem same (h : Undisturbed x s t) (hs : ∀ k, u.sess k = t.sess k) (hc : u.coreOf x = t.coreOf x) : Undisturbed x s u :=
  h.trans ⟨fun k _ => hs k, by rw [hc], by rw [hc]⟩

theorem elsewhere (h : Undisturbed x s t) (k : SameBut Machine.elsewhere t u) : Undisturbed x s u :=
  h.same (k.session (by decide)) (congrArg (·[x.val]) (show u.sys.core = t.sys.core from k .core (by decide)))

/-- The start of a run of changes elsewhere. -/
theorem stay (t : State) : SameBut Machine.elsewhere t t := .refl _ t

theorem branch {c : Prop} [Decidable c] (ht : c → Undisturbed x s t) (hu : ¬ c → Undisturbed x s u) :
    Undisturbed x s (if c then t else u) := by
  split
  next hc => exact ht hc
  next hc => exact hu hc

theorem ite {c : Prop} [Decidable c] (ht : Undisturbed x s t) (hu : Undisturbed x s u) : Undisturbed x s (if c then t else u) :=
  branch (fun _ => ht) fun _ => hu

/-- A change that is made on a condition. -/
theorem thenOr {c : Prop} [Decidable c] (hu : Undisturbed x s u) (ht : Undisturbed x s u → Undisturbed x s t) :
    Undisturbed x s (if c then t else u) := ite (ht hu) hu

theorem each {α : Type} (h : Undisturbed x s t) (l : List α) (f : α → State → State)
    (hf : ∀ a v, Undisturbed x s v → Undisturbed x s (f a v)) : Undisturbed x s (t.each l f) := by
  induction l generalizing t with
  | nil => exact h
  | cons a l ih => exact ih (hf a t h)

theorem coreOf_modCore (t : State) (c : Core) (f : CoreUnit → CoreUnit) :
    (t.modCore c f).coreOf x = if x = c then f (t.coreOf x) else t.coreOf x := vupd_get ..

/-- A change of a core that keeps its state and its count of resets. -/
theorem modCore (h : Undisturbed x s t) (c : Core) (f : CoreUnit → CoreUnit)
    (hf : ∀ y, (f y).state = y.state ∧ (f y).resets = y.resets := by exact fun _ => ⟨rfl, rfl⟩) :
    Undisturbed x s (t.modCore c f) := by
  refine h.trans ⟨fun _ _ => rfl, ?_, ?_⟩
  all_goals
    rw [coreOf_modCore]
    split
  · exact (hf _).1
  · rfl
  · exact (hf _).2
  · rfl

theorem modCore_other (h : Undisturbed x s t) {c : Core} (hc : x ≠ c) (f : CoreUnit → CoreUnit) :
    Undisturbed x s (t.modCore c f) := h.same (fun _ => rfl) (by rw [coreOf_modCore, if_neg hc])

/-- A response goes only to a session whose command was carried out. -/
theorem answer (h : Undisturbed x s t) (k : Sess) (code : Nat) (r : Result) (d : Nat) (data : Bytes) :
    Undisturbed x s (t.answer k code r d data) := by
  refine h.trans ⟨fun j hj => ?_, by simp [State.coreOf], by simp [State.coreOf]⟩
  unfold State.answer
  split
  next c hc =>
    split
    next started =>
      refine State.respond_other _ _ _ _ _ _ fun e => ?_
      subst e
      simp [hc, started.2] at hj
    · rfl
  · rfl

theorem answerOpt (h : Undisturbed x s t) (k : Option Sess) (code : Nat) (r : Result) (d : Nat) (data : Bytes) :
    Undisturbed x s (t.answerOpt k code r d data) := by
  cases k
  · exact h
  · exact h.answer ..

theorem modWork (h : Undisturbed x s t) (w : Work) (f : WorkLane → WorkLane) : Undisturbed x s (t.modWork w f) :=
  h.elsewhere (State.modWork_keeps (stay t) (by decide) w f)

theorem modFec (h : Undisturbed x s t) (w : Work) (f : FecLane → FecLane) : Undisturbed x s (t.modFec w f) := h.modWork ..

theorem modDec (h : Undisturbed x s t) (p : Phys) (f : DecodeLane → DecodeLane) : Undisturbed x s (t.modDec p f) :=
  h.elsewhere (State.modDec_keeps (stay t) (by decide) p f)

theorem modAcq (h : Undisturbed x s t) (p : Phys) (f : Acq → Acq) : Undisturbed x s (t.modAcq p f) :=
  h.elsewhere (State.modAcq_keeps (stay t) (by decide) p f)

theorem modLane (h : Undisturbed x s t) (p : Phys) (f : LaneUnit → LaneUnit) : Undisturbed x s (t.modLane p f) :=
  h.elsewhere (State.modLane_keeps (stay t) (by decide) p f)

theorem modRxCtx (h : Undisturbed x s t) (w : Work) (p : Nat) (f : RxCtx → RxCtx) : Undisturbed x s (t.modRxCtx w p f) :=
  h.elsewhere (State.modRxCtx_keeps (stay t) (by decide) w p f)

theorem hostDesc (h : Undisturbed x s t) (w : Work) (kind p : Nat) (n : BitVec 32) : Undisturbed x s (t.hostDesc w kind p n) :=
  h.elsewhere (State.hostDesc_keeps (stay t) (by decide) w kind p n)

theorem count (h : Undisturbed x s t) (w : Work) (f : DeliveryCounts → DeliveryCounts) : Undisturbed x s (t.count w f) :=
  h.elsewhere (State.count_keeps (stay t) (by decide) w f)

theorem raise (h : Undisturbed x s t) (e : Ev) (source code arg1 arg2 : Nat) :
    Undisturbed x s (t.raise e source code arg1 arg2) :=
  h.elsewhere (State.raise_keeps (stay t) (by decide) e source code arg1 arg2)

theorem raiseP (h : Undisturbed x s t) (e : Ev) (p : Phys) (code arg1 arg2 : Nat) :
    Undisturbed x s (t.raiseP e p code arg1 arg2) := h.raise ..

theorem raiseW (h : Undisturbed x s t) (e : Ev) (w : Work) (code arg1 arg2 : Nat) :
    Undisturbed x s (t.raiseW e w code arg1 arg2) := h.raise ..

/-! Sketches, decoders and bursts of a lane. -/

theorem settleSketch (h : Undisturbed x s t) (w : Work) : Undisturbed x s (t.settleSketch w) := by
  refine ite ?_ h
  split
  · exact (h.modWork ..).answer ..
  · exact h.modWork ..

theorem scrape (h : Undisturbed x s t) (w : Work) (p : Nat) (n : BitVec 32) : Undisturbed x s (t.scrape w p n) := by
  unfold State.scrape
  split
  · exact h
  · exact ite h (((((h.modRxCtx ..).hostDesc ..).count ..).raiseW ..).settleSketch w)

theorem scrapeAll (h : Undisturbed x s t) (w : Work) : Undisturbed x s (t.scrapeAll w) := by
  refine h.each _ _ fun e v hv => ?_
  split
  · exact hv.scrape ..
  · exact hv

theorem varnish (h : Undisturbed x s t) (w : Work) (p : Nat) : Undisturbed x s (t.varnish w p) := by
  unfold State.varnish
  split
  · exact h
  · refine ite h ((((modRxCtx ?_ ..).count ..).hostDesc ..).settleSketch w)
    exact h.elsewhere (State.modChan_keeps (stay t) (by decide) w _)

theorem resolveCand (h : Undisturbed x s t) (p : Phys) (w : Work) (pos : Nat) (confirmed : Bool) :
    Undisturbed x s (t.resolveCand p w pos confirmed) := by
  unfold State.resolveCand
  cases confirmed with
  | true =>
    simp only [if_true]
    split
    · exact h.modDec ..
    · exact (((h.modDec ..).modDec ..).modRxCtx ..).varnish ..
  | false =>
    simp only [Bool.false_eq_true, if_false]
    split
    · exact (h.modDec ..).modFec ..
    · split
      · exact (((h.modDec ..).modFec ..).varnish ..).scrape ..
      · exact (h.modDec ..).modFec ..

theorem loseSketches (h : Undisturbed x s t) (p : Phys) : Undisturbed x s (t.loseSketches p) := by
  refine ite h ?_
  split
  · exact h.each _ _ fun c v hv => hv.resolveCand ..
  · exact h

theorem startDelin (h : Undisturbed x s t) (p : Phys) : Undisturbed x s (t.startDelin p) := ite h ((h.loseSketches p).modDec ..)

theorem amDrop (h : Undisturbed x s t) (p : Phys) : Undisturbed x s (t.amDrop p) := by
  unfold State.amDrop
  dsimp only
  split
  · exact ite (((h.loseSketches p).modDec ..).modFec ..) ((h.loseSketches p).modDec ..)
  · exact (h.loseSketches p).modDec ..

theorem settleReplaying (h : Undisturbed x s t) (p : Phys) : Undisturbed x s (t.settleReplaying p) :=
  h.elsewhere (State.settleReplaying_keeps (stay t) (by decide) p)

theorem reportBurst (h : Undisturbed x s t) (p : Phys) (w : Work) (b : Burst) (outcome : Nat) (isNew : Bool) :
    Undisturbed x s (t.reportBurst p w b outcome isNew) :=
  h.elsewhere (State.reportBurst_keeps (stay t) (by decide) p w b outcome isNew)

theorem endCurrent (h : Undisturbed x s t) (p : Phys) (outcome : Nat) : Undisturbed x s (t.endCurrent p outcome) := by
  unfold State.endCurrent
  split
  · exact h
  · refine thenOr (settleReplaying (elsewhere ?_ (State.toArmed_keeps (stay _) (by decide) p)) p) fun ended => ended.startDelin p
    split
    · exact (h.modAcq ..).reportBurst ..
    · exact h

theorem abandonBursts (h : Undisturbed x s t) (p : Phys) : Undisturbed x s (t.abandonBursts p) := by
  have scraped : Undisturbed x s (match t.workOf p with | some w => t.scrapeAll w | none => t) := by
    cases t.workOf p
    · exact h
    · exact h.scrapeAll _
  unfold State.abandonBursts
  refine (settleReplaying (modAcq (thenOr (modAcq ?_ ..) fun kept => kept.endCurrent ..) ..) p).startDelin p
  split
  · exact scraped.each _ _ fun b v hv => (hv.modAcq ..).reportBurst ..
  · exact scraped

/-! Modes, moves and covers of lanes. -/

theorem physMode (h : Undisturbed x s t) (p : Phys) (new : LaneMode) : Undisturbed x s (t.physMode p new) := by
  have cut := h.elsewhere (State.cutRun_keeps (stay t) (by decide) p)
  unfold State.physMode
  refine elsewhere ?_ (State.fitPower_keeps (stay _) (by decide) p new)
  refine modLane (thenOr (thenOr (elsewhere ?_ (State.txMode_keeps (State.rxMode_keeps (stay _) (by decide) p _ new)
    (by decide) p _ new)) fun kept => kept.elsewhere (State.calAbort_keeps (stay _) (by decide) p)) fun kept =>
    kept.modAcq ..) ..
  refine thenOr ?_ fun kept => (kept.modAcq ..).elsewhere (State.hotSettle_keeps (stay _) (by decide) p)
  have ended := thenOr (c := burstMode (t.modeOf p) ∧ ¬ burstMode new) cut fun kept => kept.abandonBursts p
  exact ite ended (ended.amDrop p)

theorem retireLane (h : Undisturbed x s t) (p : Phys) (failed : Bool) : Undisturbed x s (t.retireLane p failed) :=
  ((h.elsewhere (State.hotClear_keeps (stay t) (by decide) p)).modLane ..).physMode p .dark

theorem abortGroupEntry (h : Undisturbed x s t) (g : Group) (r : Result) : Undisturbed x s (t.abortGroupEntry g r) :=
  ((h.elsewhere (State.modGroup_keeps (stay t) (by decide) g _)).raise ..).answerOpt ..

theorem groupFromOff (h : Undisturbed x s t) (g : Group) (cause : Nat) : Undisturbed x s (t.groupFromOff g cause) := by
  have out := thenOr (c := (t.grp g).saving) h fun kept => kept.abortGroupEntry g .badState
  exact ite out (out.elsewhere (State.setGroupPower_keeps (State.modGroup_keeps (State.restoreGroup_keeps (stay _)
    (by decide) g) (by decide) g _) (by decide) g .active cause))

theorem leaveDark (h : Undisturbed x s t) (p : Phys) : Undisturbed x s (t.leaveDark p) := by
  have kept := thenOr (c := (t.ln p).saving) h fun k => k.elsewhere (State.abortLaneEntry_keeps (stay t) (by decide) p)
  have woken := fun {c : Prop} [Decidable c] {f : LaneUnit → LaneUnit} => thenOr (c := c) kept fun k => k.modLane p f
  unfold State.leaveDark
  dsimp only
  split
  · exact woken.groupFromOff ..
  · exact woken

/-- A receive path that is lost takes its sketches along. -/
theorem scrapeFor (h : Undisturbed x s t) (p : Phys) (c : Prop) [Decidable c] :
    Undisturbed x s (match t.workOf p with | some w => if c then t.scrapeAll w else t | none => t) := by
  split
  · exact ite (h.scrapeAll _) h
  · exact h

theorem setMode (h : Undisturbed x s t) (p : Phys) (new : LaneMode) : Undisturbed x s (t.setMode p new) := by
  have left := thenOr (c := t.modeOf p = .dark) h fun kept => kept.leaveDark p
  have ready := thenOr (c := new = .dark) ((left.scrapeFor p (guaranteed (t.modeOf p) ∧ ¬ (burstMode (t.modeOf p) ∧
    burstMode new))).physMode p new) fun kept => kept.modLane p fun l => { l with saving := true, waking := false }
  unfold State.setMode
  refine ite h ?_
  dsimp only
  split
  · refine each (elsewhere ready (State.workMode_keeps (stay _) (by decide) _ _ new)) _ _ fun q v hv => ?_
    exact hv.elsewhere (State.holdBase_keeps (stay v) (by decide) q _)
  · exact ready

theorem endTrain (h : Undisturbed x s t) (p : Phys) (st : TrainStatus) (r : Result) (d : Nat) :
    Undisturbed x s (t.endTrain p st r d) := by
  unfold State.endTrain
  dsimp only
  split
  · exact (h.modLane ..).answer ..
  · exact h.modLane ..

theorem trainFails (h : Undisturbed x s t) (p : Phys) (r : Result) (d : Nat) : Undisturbed x s (t.trainFails p r d) :=
  thenOr ((h.endTrain ..).elsewhere (State.modTx_keeps (stay _) (by decide) p _)) fun ended =>
    ((ended.raiseP ..).modLane ..).setMode p .dark

theorem cutTraining (h : Undisturbed x s t) (p : Phys) : Undisturbed x s (t.cutTraining p) :=
  thenOr h fun kept => kept.trainFails ..

theorem thawFor (h : Undisturbed x s t) (c : Core) : Undisturbed x s (t.thawFor c) :=
  (h.modCore c _).each _ _ fun p v hv =>
    hv.elsewhere (State.thawLane_keeps (State.modRx_keeps (stay v) (by decide) p _) (by decide) p .cover)

theorem freezeFor (h : Undisturbed x s t) (c : Core) (l : List Phys) : Undisturbed x s (t.freezeFor c l) :=
  (h.modCore c _).each _ _ fun p v hv =>
    hv.elsewhere (State.freezeLane_keeps (State.modRx_keeps (stay v) (by decide) p _) (by decide) p .cover)

theorem startCover (h : Undisturbed x s t) (c : Core) (code : Nat) : Undisturbed x s (t.startCover c code) :=
  (h.modCore c _).freezeFor ..

theorem coverDone (h : Undisturbed x s t) (c : Core) (code : Nat) : Undisturbed x s (t.coverDone c code) :=
  ((h.modCore c _).thawFor c).raise ..

theorem outOfService (h : Undisturbed x s t) (w : Work) (p : Phys) (cover : Option Core) :
    Undisturbed x s (t.outOfService w p cover) := by
  have out := (h.abandonBursts p).retireLane p true
  unfold State.outOfService
  refine raiseW ?_ ..
  split
  · exact ((ite out (out.raiseP ..)).modWork ..).thawFor _
  · exact (ite out (out.raiseP ..)).modWork ..

theorem moveDone (h : Undisturbed x s t) (w : Work) (m : Move) (code : Nat) : Undisturbed x s (t.moveDone w m code) :=
  h.elsewhere (State.moveDone_keeps (stay t) (by decide) w m code)

theorem dropMove (h : Undisturbed x s t) (w : Work) (m : Move) (code : Nat) : Undisturbed x s (t.dropMove w m code) :=
  ((h.amDrop _).modWork ..).moveDone ..

theorem failureTarget (h : Undisturbed x s t) (w : Work) (p : Phys) : Undisturbed x s (t.failureTarget w p).2 := by
  unfold State.failureTarget
  dsimp only
  split
  · exact thenOr (h.modWork ..) fun kept => kept.moveDone ..
  · split
    · exact h.dropMove ..
    · split
      · exact h
      · split
        · exact h.dropMove ..
        · exact h

theorem failureMove (h : Undisturbed x s t) (w : Work) (p : Phys) (reason : FailReason) (cover : Option Core) :
    Undisturbed x s (t.failureMove w p reason cover) := by
  have ready := (h.failureTarget w p).scrapeAll w
  unfold State.failureMove
  dsimp only
  split
  · exact ready.outOfService ..
  · refine thenOr (thenOr (modWork (thenOr (thenOr ready fun kept => ?_) fun kept => ?_) ..) fun kept => ?_) fun kept =>
      kept.raiseP ..
    · exact (kept.elsewhere (State.cutBurst_keeps (stay _) (by decide) p)).abandonBursts p
    · exact (kept.elsewhere (State.cutRun_keeps (stay _) (by decide) p)).amDrop p
    · exact kept.elsewhere (State.setLanePower_keeps (stay _) (by decide) _ .active 3)

theorem failLane (h : Undisturbed x s t) (w : Work) (p : Phys) (reason : FailReason) (cover : Option Core) :
    Undisturbed x s (t.failLane w p reason cover) := by
  unfold State.failLane
  dsimp only
  split
  · exact ite (h.modWork ..) (h.failureMove ..)
  · exact h.failureMove ..

theorem loseUnused (h : Undisturbed x s t) (p : Phys) (mv : Option (Work × Move)) : Undisturbed x s (t.loseUnused p mv) := by
  unfold State.loseUnused
  refine raiseP (ite (retireLane ?_ p true) (modLane ?_ ..)) ..
  all_goals
    split
    · exact ite h (ite (h.dropMove ..) (h.modWork ..))
    · exact h

theorem loseMove (h : Undisturbed x s t) (p : Phys) (mv : Option (Work × Move)) : Undisturbed x s (t.loseMove p mv) := by
  unfold State.loseMove
  split
  · exact ite (h.failureMove ..) h
  · exact h

/-- A cover that runs completes (R14). -/
theorem coverGiven (h : Undisturbed x s t) (cover : Option Core) :
    Undisturbed x s (match cover with | some c => t.coverDone c 1 | none => t) := by
  cases cover
  · exact h
  · exact h.coverDone ..

theorem loseLane (h : Undisturbed x s t) (p : Phys) (cover : Option Core) : Undisturbed x s (t.loseLane p cover) :=
  loseMove (coverGiven (h.loseUnused p _) cover) p _

/-- The failure of a lane's engine is declared (R160, R310). -/
theorem declareFail_engine (h : Undisturbed x s t) (p : Phys) (cover : Option Core) :
    Undisturbed x s (t.declareFail p .engine cover) := by
  unfold State.declareFail
  split
  · exact ite ((h.raiseP ..).failLane ..) (ite (coverGiven (((h.raiseP ..).modLane ..).raiseP ..) cover) h)
  · exact ite ((h.raiseP ..).loseLane ..) h

theorem laneEngineFails (h : Undisturbed x s t) (c : Core) : Undisturbed x s (t.laneEngineFails c) := by
  unfold State.laneEngineFails
  dsimp only
  refine declareFail_engine (freezeFor (elsewhere (cutTraining (each h _ _ fun k v hv => ?_) _)
    (State.freezeLane_keeps (stay _) (by decide) _ .laneReset)) c _) _ _
  exact hv.elsewhere (State.modBias_keeps (stay v) (by decide) _ _)

theorem clearCore (h : Undisturbed x s t) (c : Core) : Undisturbed x s (t.clearCore c) :=
  h.elsewhere (State.clearCore_keeps (stay t) (by decide) c)

theorem closeXing (h : Undisturbed x s t) (domain : Nat) : Undisturbed x s (t.closeXing domain) :=
  h.elsewhere (State.closeXing_keeps (stay t) (by decide) domain)

theorem endTest (h : Undisturbed x s t) (cause : Nat) : Undisturbed x s (t.endTest cause) :=
  h.elsewhere (State.endTest_keeps (stay t) (by decide) cause)

end

end Undisturbed

theorem corePartner_ne {c : Core} (h : 186 ≤ c.val) : c ≠ corePartner c := by
  intro e
  have value := congrArg Fin.val e
  simp only [corePartner, finOf, Fin.ofNat] at value
  have := c.isLt
  split at value <;> omega

/-- What the failure of core `c` writes in its own record (R310). -/
def State.markFailed (s : State) (c : Core) (cause : Nat) : State :=
  let again := decide ((s.coreOf c).state = .restarting)
  let s := if cause = 2 then s else s.raise .devWatchdog c.val
  let s := s.raise .devCoreFailed c.val cause
  let times := if cause = 2 then s.recentExpiries c else s.now :: s.recentExpiries c
  let retire := decide (3 ≤ times.length)
  s.modCore c fun u => { u with
    expiries := times, resets := u.resets + 1, commanded := decide (cause = 1), covered := u.covered && again,
    state := if retire then .retired else .restarting }

theorem State.sess_markFailed (s : State) (c : Core) (cause : Nat) (k : Sess) : (s.markFailed c cause).sess k = s.sess k := by
  unfold State.markFailed
  split <;> simp [State.sess]

theorem State.coreOf_markFailed (s : State) (c : Core) (cause : Nat) :
    ((s.markFailed c cause).coreOf c).resets = (s.coreOf c).resets + 1 ∧ ((s.markFailed c cause).coreOf c).state =
      if (if cause = 2 then 3 else 2) ≤ (s.recentExpiries c).length then .retired else .restarting := by
  unfold State.markFailed
  split <;> simp [State.coreOf, State.recentExpiries, State.usOf, State.since, State.now, State.mgmtMHz, State.standard]

/-- Past the record of the failing core, only cores that cover it and answers of commands carried out are left. -/
theorem State.coreFails_undisturbed {s : State} {c : Core} {cause : Nat} (hs : (s.coreOf c).state ≠ .retired)
    (hr : cause = 2 ∨ s.inReset c = false ∧ ((s.coreOf c).state = .restarting → (s.coreOf c).commanded = false)) :
    Undisturbed c (s.markFailed c cause) (s.coreFails c cause) := by
  have goes : ¬ ((s.coreOf c).state = .retired ∨ (cause ≠ 2 ∧ (s.inReset c = true ∨ ((s.coreOf c).state = .restarting ∧
      (s.coreOf c).commanded = true)))) := by
    grind
  have marked := Undisturbed.refl c (s.markFailed c cause)
  have closed {p : Prop} [Decidable p] := Undisturbed.closeXing (.thenOr (c := p) (marked.clearCore c) fun h =>
    h.raise .devCoreRetired c.val 0 0 0) (3 * 2 ^ 14 + c.val)
  have ended {p q : Prop} [Decidable p] [Decidable q] {u : State} (h : Undisturbed c (s.markFailed c cause) u) (g : Group) :=
    Undisturbed.thenOr (c := q) (.thenOr (c := p) h fun h => h.endTest 5) fun h => h.abortGroupEntry g .busy
  unfold State.coreFails
  rw [if_neg goes]
  refine .ite closed (.ite (closed.laneEngineFails c) (.branch (fun _ => ?_) fun paired => ?_))
  · exact (ended closed _).startCover c 0
  · exact (Undisturbed.thenOr (ended closed _) fun h => h.modCore_other (corePartner_ne (Nat.not_lt.mp paired)) _).startCover c _

/-- A core that fails, its reset not absorbed by one in progress (R310, R312): it restarts, or retires at its third expiry of
the hour, and the commands that wait to be carried out stay. -/
theorem State.coreFails_fails {s : State} {c : Core} (cause : Nat) (hs : (s.coreOf c).state ≠ .retired)
    (hr : cause = 2 ∨ s.inReset c = false ∧ ((s.coreOf c).state = .restarting → (s.coreOf c).commanded = false)) :
    (∀ k, (s.sess k).cmd.any (·.started) = false → (s.coreFails c cause).sess k = s.sess k) ∧
    ((s.coreFails c cause).coreOf c).resets = (s.coreOf c).resets + 1 ∧ ((s.coreFails c cause).coreOf c).state =
      if (if cause = 2 then 3 else 2) ≤ (s.recentExpiries c).length then .retired else .restarting := by
  have rest := State.coreFails_undisturbed hs hr
  rw [rest.resets, rest.state]
  exact ⟨fun k hk => by simpa [State.sess_markFailed] using rest.sess k (by simpa [State.sess_markFailed] using hk),
    s.coreOf_markFailed c cause⟩

end Sys2Proof.Machine
end

section
/-!
The parts of the event unit that queueing an event leaves (R307, R374).
-/
namespace Sys2Proof.Machine

/-- What waits for the end of a control reset, and the QSEQ removed last, are not the queue's. -/
theorem EventUnit.put_records (u : EventUnit) (x : EvEntry) :
    (u.put x).held = u.held ∧ (u.put x).lastRemoved = u.lastRemoved := by
  unfold EventUnit.put
  split
  · exact ⟨rfl, rfl⟩
  · split <;> exact ⟨rfl, rfl⟩

theorem State.settleEvents_records (s : State) :
    s.settleEvents.ctl.ev.held = s.ctl.ev.held ∧ s.settleEvents.ctl.ev.lastRemoved = s.ctl.ev.lastRemoved := by
  simp only [State.settleEvents, State.modCtl_ctl]
  split
  · exact ⟨rfl, rfl⟩
  · simp only [EventUnit.evalPins, EventUnit.report]
    split
    · exact EventUnit.put_records ..
    · exact ⟨rfl, rfl⟩

section
variable (s : State) (e : Ev) (source code arg1 arg2 : Nat)

theorem State.raiseNow_lastRemoved (n : Nat) :
    (s.raiseNow e source code arg1 arg2 n).ctl.ev.lastRemoved = s.ctl.ev.lastRemoved := by
  unfold State.raiseNow
  dsimp only
  split
  · simp
  · split
    · simp
    · rw [(State.settleEvents_records _).2]
      simp [(EventUnit.put_records _ _).2]

@[simp] theorem State.raise_lastRemoved :
    (s.raise e source code arg1 arg2).ctl.ev.lastRemoved = s.ctl.ev.lastRemoved := by
  unfold State.raise
  split
  · exact State.raiseNow_lastRemoved ..
  · dsimp only
    split
    · rfl
    · exact State.raiseNow_lastRemoved ..

/-- Events are held only while a control reset's restart runs (R307). -/
theorem State.raiseNow_held (h : s.sys.ctlRestart = false) (n : Nat) :
    (s.raiseNow e source code arg1 arg2 n).ctl.ev.held = s.ctl.ev.held := by
  unfold State.raiseNow
  simp only [State.trigPulse_sys_ctlRestart, h, Bool.false_eq_true, if_false]
  split
  · simp
  · rw [(State.settleEvents_records _).1]
    simp [(EventUnit.put_records _ _).1]

theorem State.raise_held (h : s.sys.ctlRestart = false) :
    (s.raise e source code arg1 arg2).ctl.ev.held = s.ctl.ev.held := by
  unfold State.raise
  split
  · exact s.raiseNow_held e _ _ _ _ h 0
  · dsimp only
    split
    · rfl
    · rw [State.raiseNow_held _ e _ _ _ _ (by exact h)]
      rfl

end

/-- A session without NOTIFY is answered without an event (R368 step 7). -/
theorem State.respond_ev {s : State} {k : Sess} (hn : (s.sess k).notify = false) (hc : (s.sess k).closePending = false)
    (r : Result) (d : Nat) (data : Bytes) : (s.respond k r d data).ctl.ev = s.ctl.ev := by
  unfold State.respond
  cases (s.sess k).cmd
  · rfl
  · simp [hn, hc]

@[simp] theorem State.respond_lastRemoved (s : State) (k : Sess) (r : Result) (d : Nat) (data : Bytes) :
    (s.respond k r d data).ctl.ev.lastRemoved = s.ctl.ev.lastRemoved := by
  unfold State.respond State.freeSess
  split
  · rfl
  · split
    · simp
    · dsimp only
      split <;> simp

/-- The head leaves the queue, and no loss is reported while none happened. -/
theorem State.evAck_head {s : State} {x : EvEntry} {rest : List EvEntry} (h : s.ctl.ev.queue = x :: rest) :
    ∃ t, s.evAck x.qseq = some t ∧ (∀ k, t.sess k = s.sess k) ∧ t.ctl.ev.lastRemoved = x.qseq ∧
      (s.ctl.ev.lost = 0 → t.ctl.ev.queue = rest) := by
  refine ⟨_, by simp [State.evAck, h]; rfl, fun k => by simp [State.sess], (State.settleEvents_records _).2, fun lost => ?_⟩
  simp only [State.settleEvents, State.modCtl_ctl]
  split
  · rfl
  · simp [EventUnit.evalPins, EventUnit.report, lost]

theorem State.evAck_other {s : State} {q : Word} (h : ∀ x ∈ s.ctl.ev.queue.head?, x.qseq ≠ q) : s.evAck q = none := by
  unfold State.evAck
  split
  · rfl
  next x r hx => exact if_neg (h x (by simp [hx]))

end Sys2Proof.Machine
end

section
/-!
The cores and their counters, one by one (R310, R377).
-/
namespace Sys2Proof.Machine

section
variable (s : State) (c : Core)

@[simp] theorem State.coreOf_respond (k : Sess) (r : Result) (d : Nat) (data : Bytes) :
    (s.respond k r d data).coreOf c = s.coreOf c := by simp [State.coreOf]

@[simp] theorem State.coreOf_modCore_self (f : CoreUnit → CoreUnit) : (s.modCore c f).coreOf c = f (s.coreOf c) := vupd_self ..

theorem State.coreOf_modCore_other {d : Core} (h : d ≠ c) (f : CoreUnit → CoreUnit) :
    (s.modCore c f).coreOf d = s.coreOf d := vupd_other _ _ _ f h

@[simp] theorem State.sess_modCore (k : Sess) (f : CoreUnit → CoreUnit) : (s.modCore c f).sess k = s.sess k := rfl

@[simp] theorem State.perf_respond (k : Sess) (r : Result) (d : Nat) (data : Bytes) :
    (s.respond k r d data).perf c = s.perf c := by simp [State.perf]

@[simp] theorem State.perf_raise (e : Ev) (source code arg1 arg2 : Nat) :
    (s.raise e source code arg1 arg2).perf c = s.perf c := by simp [State.perf]

@[simp] theorem State.perf_modPerf_self (f : PerfUnit → PerfUnit) : (s.modPerf c f).perf c = f (s.perf c) := vupd_self ..

theorem State.perf_modPerf_other {d : Core} (h : d ≠ c) (f : PerfUnit → PerfUnit) :
    (s.modPerf c f).perf d = s.perf d := vupd_other _ _ _ f h

@[simp] theorem State.sess_modPerf (k : Sess) (f : PerfUnit → PerfUnit) : (s.modPerf c f).sess k = s.sess k := rfl

end

/-- The reset of a core that a commanded reset in progress absorbs (R312). -/
theorem State.coreFails_absorbed {s : State} {c : Core} (h : ((s.coreOf c).state = .restarting ∧
    (s.coreOf c).commanded = true) ∨ s.inReset c = true) : s.coreFails c 1 = s :=
  if_pos (.inr ⟨by decide, h.symm⟩)

/-- At most one core serves a session (R369). -/
theorem State.servesMe_unique {s : State} {k : Sess} {c d : Core} (hc : s.servesMe k c = true) (hd : s.servesMe k d = true) :
    c = d := by
  simp only [State.servesMe, Bool.and_eq_true, decide_eq_true_eq] at hc hd
  exact hc.1.trans hd.1.symm

/-- A session that holds a command is not waiting for the answer of one carried out. -/
theorem State.holds.unstarted {s : State} {k : Sess} {code : Nat} {a : Bytes} (h : s.holds k code a) :
    (s.sess k).cmd.any (·.started) = false := by
  obtain ⟨c, hc, -, -, hs⟩ := h.cmd
  simp [hc, hs]

/-- The first member of a list that a check refuses gives the result, with its index under the selector "all" (R381). -/
theorem State.forAllSel_one_refuses {n : Nat} {s : State} {all : Bool} {l : List (Fin n)} {i : Fin n}
    {check : Fin n → Option Reply} {f : Fin n → State → State} {r : Result} {d : Nat} {data : Bytes} (hi : i ∈ l)
    (h : check i = some (.done r d data)) (other : ∀ j, j ≠ i → check j = none) :
    s.forAllSel all l check f = (.done r (if all then i.val else d) data, s) := by
  have refusal : ∀ x ∈ l.filterMap (fun j => (check j).map fun r => (j, r)), x = (i, .done r d data) := by
    intro x hx
    obtain ⟨j, -, hj⟩ := List.mem_filterMap.mp hx
    by_cases e : j = i
    · subst e
      simpa [h] using hj.symm
    · simp [other j e] at hj
  have refused : (i, Reply.done r d data) ∈ l.filterMap (fun j => (check j).map fun r => (j, r)) :=
    List.mem_filterMap.mpr ⟨i, hi, by simp [h]⟩
  unfold State.forAllSel
  dsimp only
  generalize l.filterMap (fun j => (check j).map fun r => (j, r)) = refusals at refusal refused
  cases refusals with
  | nil => cases refused
  | cons x rest =>
    obtain rfl := refusal x List.mem_cons_self
    have first (p : Fin n × Reply → Bool) : (((i, Reply.done r d data) :: rest).find? p).or (some (i, .done r d data)) =
        some (i, .done r d data) := by
      cases found : ((i, Reply.done r d data) :: rest).find? p with
      | none => rfl
      | some y => rw [Option.some_or, refusal y (List.mem_of_find?_eq_some found)]
    rw [List.head?_cons, first]

end Sys2Proof.Machine
end

section
/-!
The DEV, EVENT and PERF commands (Tables 13-2, 13-12 and 13-13).
-/
namespace Sys2Proof.Machine

/-! Responses that waited for an event. -/

theorem State.answer_of_waits {s : State} {k : Sess} {code : Nat} (h : s.waits k code) (r : Result) (d : Nat) (data : Bytes) :
    s.answer k code r d data = s.respond k r d data := by
  obtain ⟨c, hc, held⟩ := Option.map_eq_some_iff.mp h
  obtain ⟨rfl, started⟩ := Prod.mk.inj held
  simp [State.answer, hc, started]

theorem State.answer_answered {s : State} {k : Sess} {code : Nat} (h : s.waits k code)
    (hp : (s.sess k).closePending = false) (r : Result) (d : Nat) (data : Bytes) :
    (s.answer k code r d data).answered k code r d data := by
  rw [State.answer_of_waits h]
  obtain ⟨c, hc, held⟩ := Option.map_eq_some_iff.mp h
  obtain ⟨rfl, -⟩ := Prod.mk.inj held
  exact State.respond_answered r d data hc hp

/-- The end of a publication that a command asked for (R389 steps 2 to 5). -/
theorem execSnapshotPublished_asked {s : State} {k : Sess} (h : s.ctl.snap.running = some (true, some k)) :
    execSnapshotPublished s = .next (((s.modCtl fun c => { c with
      snapSeq := BitVec.ofNat 8 s.ctl.snap.number, snap := { c.snap with
        seqEnd := BitVec.ofNat 32 s.ctl.snap.number, running := none, content := memOfBytes (s.snapshotBytes true) } }).raise
      .ctlSnapshot 0 1).answer k 0x0104 .ok 0 (leBytes 4 s.ctl.snap.number)) := by
  simp [execSnapshotPublished, State.endSnapshot, h, State.answerOpt]

/-! DEV.SET_WATCHDOG. -/

theorem devSetWatchdog_accepted {s : State} {k : Sess} {a : Bytes} {c : Core} (h : s.holds k 0x0103 a)
    (hc : c ∈ selAll 192 (byteAt a 0)) (hs : ∀ d ∈ selAll 192 (byteAt a 0), s.servesMe k d = false) :
    Answers (.devSetWatchdog k) s k 0x0103 .ok 0 [] fun t => (t.coreOf c).timeout = fieldLE a 4 4 := by
  refine answers_of (u := ?u) rfl h ?body ?sess ?post
  case body =>
    refine State.forAllSel_accepted fun d hd => ?_
    rw [hs d hd, if_neg Bool.false_ne_true]
  case sess => exact State.each_untouched (·.sess k) s fun _ _ _ => rfl
  case post =>
    obtain ⟨u, -, own⟩ := State.each_own (·.coreOf c) s hc (selAll_nodup _ _) fun d u hd =>
      u.coreOf_modCore_other d hd.symm _
    rw [State.coreOf_respond, own, State.coreOf_modCore_self]

theorem devSetWatchdog_refused {s : State} {k : Sess} {a : Bytes} {c : Core} (h : s.holds k 0x0103 a)
    (hc : c ∈ selAll 192 (byteAt a 0)) (hs : s.servesMe k c = true) :
    Answers (.devSetWatchdog k) s k 0x0103 .badState (if byteAt a 0 = 255 then c.val else 0) [] fun t =>
      t.sys.core = s.sys.core := by
  have refused := State.forAllSel_one_refuses (s := s) (all := decide (byteAt a 0 = 255)) (i := c)
    (check := fun d => if s.servesMe k d then some (refuse .badState) else none)
    (f := fun d u => u.modCore d fun x => { x with timeout := fieldLE a 4 4 }) hc (by rw [if_pos hs]; rfl) fun d hd =>
      if_neg fun hd' => hd (State.servesMe_unique hd' hs)
  simp only [decide_eq_true_eq] at refused
  exact answers_of rfl h refused rfl (by simp)

/-! PERF.CONFIGURE. -/

/-- What PERF.CONFIGURE makes of a core's counters (R378). -/
def PerfUnit.configured (a : Bytes) (u : PerfUnit) : PerfUnit :=
  { u with
    before := some (u.before.getD u.pc)
    pc := Vector.ofFn fun i : Fin 6 => if bitOf (byteAt a 1) i.val then
      { u.pc[i.val] with sel := BitVec.ofNat 8 (byteAt a (4 + i.val)), level := bitOf (byteAt a 2) i.val, count := 0,
                         prev := false, overflowed := false } else u.pc[i.val] }

theorem perfConfigure_configures {s : State} {k : Sess} {a : Bytes} (h : s.holds k 0x1203 a) (c : Core) :
    Answers (.perfConfigure k) s k 0x1203 .ok 0 [] fun t =>
      t.perf c = if c ∈ selAll 192 (byteAt a 0) then (s.perf c).configured a else s.perf c := by
  refine answers_of (u := ?u) rfl h ?body ?sess ?post
  case body => exact State.forAllSel_accepted fun _ _ => rfl
  case sess => exact State.each_untouched (·.sess k) s fun _ _ _ => rfl
  case post =>
    have other (d : Core) (u : State) (hd : d ≠ c) : (u.modPerf d (PerfUnit.configured a)).perf c = u.perf c :=
      u.perf_modPerf_other d hd.symm _
    rw [State.perf_respond]
    split
    next hc =>
      obtain ⟨u, hu, own⟩ := State.each_own (·.perf c) s hc (selAll_nodup _ _) other
      exact own.trans ((u.perf_modPerf_self c _).trans (congrArg _ hu))
    next hc => exact State.each_untouched (·.perf c) s fun d hd u => other d u fun e => hc (e ▸ hd)

/-! PERF_COUNTER_OVERFLOW. -/

/-- A sampled counter's overflow reloads it and stores a sample (R379). -/
def PerfUnit.overflow (u : PerfUnit) (j : Fin 6) (x : PerfSample) : PerfUnit :=
  ({ u with pc := vupd u.pc j fun y =>
      { y with count := y.count + BitVec.ofNat 48 (2 ^ 48 - y.period), overflowed := false } }).sample x

theorem execPerfCounterOverflow_sampled {s : State} {c : Core} {j : Fin 6} (address : Word) (two : Bool)
    (ho : ((s.perf c).pc[j.val]).overflowed = true) (hp : ((s.perf c).pc[j.val]).period ≠ 0) (hg : s.coreGated c = false) :
    Leads (.perfCounterOverflow c j address two) s fun t => t.perf c = (s.perf c).overflow j
      { address := address, counter := j.val, count := if two then 2 else 1, time := s.now } := by
  have stored : ¬ (¬ ((s.perf c).pc[j.val]).overflowed = true ∨ ((s.perf c).pc[j.val]).period = 0 ∨ s.coreGated c = true) := by
    simp [ho, hp, hg]
  refine ⟨_, congrArg Host.Outcome.next (if_neg stored), ?_⟩
  dsimp only
  split
  · rw [State.perf_raise, State.perf_modPerf_self]; rfl
  · rw [State.perf_modPerf_self]; rfl

theorem PerfUnit.overflow_room {u : PerfUnit} (h : u.ring.length < 64) (j : Fin 6) (x : PerfSample) :
    ((u.overflow j x).pc[j.val]).count = (u.pc[j.val]).count + BitVec.ofNat 48 (2 ^ 48 - (u.pc[j.val]).period) ∧
      (u.overflow j x).ring = u.ring ++ [x] := by
  simp [PerfUnit.overflow, PerfUnit.sample, h]

/-- Settles O51: each command's reply and next state written out, and the records read off it. -/
theorem deviceAndPerfCommands : Obligations.DeviceAndPerfCommands := by
  refine ⟨?_, ?_, ?_, ?_, ?_, ?_, ?_, ?_, ?_, ?_, ?_, ?_, ?_, ?_, ?_, ?_, ?_, ?_, ?_⟩
  · -- DEV.RESET_CORE
    rintro s k a c h ⟨hc, hs, hr, hcmd, hin⟩
    obtain ⟨sess, resets, state⟩ := State.coreFails_fails 1 hr (.inr ⟨hin, hcmd⟩)
    exact answers_of (u := s.coreFails c 1) rfl h (by simp [hc, hs, hr, replyOk]) (sess k h.unstarted)
      (by simp [state, resets])
  · -- DEV.RESET_CORE of a core whose reset is in progress
    rintro s k a c h ⟨hc, hs, hr, hin⟩
    exact answers_of (u := s) rfl h (by simp [hc, hs, hr, State.coreFails_absorbed hin, replyOk]) rfl (by simp)
  · -- DEV.RESET_CORE of a core that serves the session or is retired
    rintro s k a c h ⟨hc, hs⟩
    have refused : (s.servesMe k c || decide ((s.coreOf c).state = .retired)) = true := by simpa using hs
    exact answers_of (u := s) rfl h (by simp only [hc, finOf_val, State.guarded_cons, refused, if_true]; rfl) rfl (by simp)
  · -- DEV.SET_WATCHDOG
    rintro s k a c h (⟨hc, hs⟩ | ⟨hall, hs⟩)
    · have one : selAll 192 (byteAt a 0) = [c] := by rw [hc, selAll_val]
      exact devSetWatchdog_accepted h (by simp [one]) (by simp [one, hs])
    · have all : selAll 192 (byteAt a 0) = List.finRange 192 := selAll_all (by omega)
      exact devSetWatchdog_accepted h (by simp [all]) fun d _ => hs d
  · -- DEV.SET_WATCHDOG of a core that serves the session
    rintro s k a c h ⟨hc | hall, hs⟩
    · exact devSetWatchdog_refused h (by simp [hc]) hs
    · exact devSetWatchdog_refused h (by simp [selAll_all (n := 192) (v := byteAt a 0) (by omega)]) hs
  · -- DEV.PUBLISH_SNAPSHOT
    intro s k a h idle
    refine starts_of (u := s.startSnapshot true (some k)) rfl h (by simp [idle]) rfl ?_
    simp [State.startSnapshot]
  · -- DEV.PUBLISH_SNAPSHOT while a publication runs
    intro s k a h running
    exact answers_of (u := s) rfl h (by simp [running, refuse]) rfl (by simp)
  · -- SNAPSHOT_PUBLISHED
    rintro s k ⟨running, waits, hc⟩
    refine ⟨_, execSnapshotPublished_asked running, State.answer_answered ?_ ?_ .ok 0 _, ?_⟩
    · simpa [State.waits, State.sess] using waits
    · simpa [State.sess] using hc
    · simp
  · -- DEV.GET_CORES
    intro s k a h
    exact answers_of (u := s) rfl h rfl rfl (by simp)
  · -- EVENT.READ
    intro s k a h
    exact answers_of (u := s) rfl h rfl rfl fun silent => congrArg (·.queue) (State.respond_ev silent h.2.1 _ _ _)
  · -- EVENT.ACK of the head
    rintro s k a x rest h ⟨hq, hx⟩
    obtain ⟨t, acked, sess, last, queue⟩ := State.evAck_head hq
    refine answers_of (u := t) rfl h (by simp [← hx, acked, replyOk]) (sess k) ⟨fun silent lost => ?_, by simp [last]⟩
    rw [State.respond_ev (by rw [sess k, silent]) (by rw [sess k, h.2.1]), queue lost]
  · -- EVENT.ACK of another QSEQ
    intro s k a h other
    exact answers_of (u := s) rfl h (by simp [State.evAck_other other, refuse]) rfl fun silent =>
      State.respond_ev silent h.2.1 _ _ _
  · -- PERF.LIST_SELECTORS
    intro s k a h
    exact answers_of (u := s) rfl h rfl rfl (by simp)
  · -- PERF.SNAPSHOT
    intro s k a h
    obtain ⟨c, hc, code, -, -⟩ := h.cmd
    refine ⟨_, congrArg Host.Outcome.next (State.runCmd_done h rfl), ?_, by simp⟩
    rw [← code]
    exact State.respond_answered _ _ _ (by rw [State.sess_modSess_self]; exact hc) (by rw [State.sess_modSess_self]; exact h.2.1)
  · -- PERF.CONFIGURE of a counter it names
    rintro s k a c j h ⟨hc, hj⟩
    obtain ⟨t, ht, answered, perf⟩ := perfConfigure_configures h c
    have named : c ∈ selAll 192 (byteAt a 0) := by
      obtain hc | hall := hc
      · simp [hc]
      · simp [selAll_all (n := 192) (v := byteAt a 0) (by omega)]
    exact ⟨t, ht, answered, by simp [perf, named, PerfUnit.configured, hj]⟩
  · -- PERF.CONFIGURE of other counters
    rintro s k a c j h hother
    obtain ⟨t, ht, answered, perf⟩ := perfConfigure_configures h c
    refine ⟨t, ht, answered, ?_⟩
    dsimp only
    rw [perf]
    split
    next named =>
      have unset : bitOf (byteAt a 1) j.val = false := by
        refine hother.resolve_left fun ⟨one, hc⟩ => hc ?_
        have := named
        simp only [selAll, one, if_true, List.mem_singleton] at this
        simp [this, finOf, Nat.mod_eq_of_lt one]
      simp [PerfUnit.configured, unset]
    · rfl
  · -- PERF.SET_SAMPLE
    rintro s k a c j h ⟨hc, hj⟩
    exact answers_of (u := s.modPerf c fun u => { u with pc := vupd u.pc j fun x => { x with period := fieldLE a 4 4 } }) rfl h
      (by simp [hc, hj, replyOk]) rfl (by simp)
  · -- PERF.READ_SAMPLES
    intro s k a c h hc
    refine answers_of (u := s.modPerf c fun u =>
      { u with ring := u.ring.drop ((s.perf c).ring.take (byteAt a 1)).length, overwrites := 0 }) rfl h
      (by simp only [hc, finOf_val]; rfl) rfl ⟨?_, by simp⟩
    simp
  · -- PERF_COUNTER_OVERFLOW
    rintro s c j address two ⟨ho, hp, hg, room⟩
    obtain ⟨t, ht, perf⟩ := execPerfCounterOverflow_sampled address two ho hp hg
    exact ⟨t, ht, by dsimp only; rw [perf]; exact PerfUnit.overflow_room room j _⟩

end Sys2Proof.Machine
end

section
/-!
What a control reset clears, and what its release and the restart's end set (R307).
-/
namespace Sys2Proof.Machine

/-! The reset. -/

/-- The state a control reset leaves of the control plane, its cores still to be counted and its crossings to be closed. -/
def State.ctlCleared (s : State) : State :=
  let s := if s.sec.img.stage = .header ∨ s.sec.img.stage = .body then s.quietPorts.rejectDownload 10 true else s
  (s.forgetWaiters.modCtl (·.afterReset)).modSys fun u => { u with fwReady := false, ctlRestart := false }

/-- A core that a control reset resets (R14, R310). -/
def State.ctlResetCore (c : Core) (s : State) : State :=
  (s.modCore c fun u => { u with resets := u.resets + 1, covering := none, covered := false }).modArr (arrCoreD c)
    (·.clearValid)

theorem State.ctlAssert_eq (s : State) :
    s.ctlAssert = ((s.ctlCleared.each mgmtCores State.ctlResetCore).closeXing ctlDomain).settleEvents := rfl

theorem State.ctlCleared_cores (s : State) :
    SameBut [.core, .mem] s.ctlCleared (s.ctlCleared.each mgmtCores State.ctlResetCore) :=
  .each _ _ (.refl _ _) fun c _ h => State.modArr_keeps (State.modCore_keeps h (by decide) c _) (by decide) _ _

/-- Only the cores, their memories and the closed crossings change after the control plane is cleared. -/
theorem State.ctlCleared_closed (s : State) :
    SameBut [.clk, .core, .mem] s.ctlCleared ((s.ctlCleared.each mgmtCores State.ctlResetCore).closeXing ctlDomain) :=
  State.closeXing_keeps (fun q hq => s.ctlCleared_cores q fun h => hq (List.mem_cons_of_mem _ h)) (by decide) _

theorem State.ctlCleared_ctlAssert (s : State) : SameBut [.ev, .clk, .core, .mem] s.ctlCleared s.ctlAssert := by
  rw [State.ctlAssert_eq]
  refine State.settleEvents_keeps ?_ (by decide)
  exact fun q hq => s.ctlCleared_closed q fun h => hq (List.mem_cons_of_mem _ h)

theorem State.sess_ctlCleared (s : State) (k : Sess) : s.ctlCleared.sess k = {} := by
  simp [State.ctlCleared, State.sess, ControlPlane.afterReset, ControlPlane.reset]

theorem State.sess_ctlAssert (s : State) (k : Sess) : s.ctlAssert.sess k = {} :=
  (s.ctlCleared_ctlAssert.session (by decide) k).trans (s.sess_ctlCleared k)

theorem State.fwReady_ctlAssert (s : State) : s.ctlAssert.sys.fwReady = false :=
  s.ctlCleared_ctlAssert .fwReady (by decide)

theorem State.download_ctlAssert (s : State) : SameBut [.ev, .img, .trigPins] s
    (if s.sec.img.stage = .header ∨ s.sec.img.stage = .body then s.quietPorts.rejectDownload 10 true else s) :=
  .ite (State.rejectDownload_keeps (State.quietPorts_keeps (.refl _ s) (by decide)) (by decide) 10 true) (.refl _ s)

theorem State.modeOf_ctlAssert (s : State) (p : Phys) : s.ctlAssert.modeOf p = s.modeOf p := by
  have lane : s.ctlAssert.lane = s.ctlCleared.lane := s.ctlCleared_ctlAssert .lane (by decide)
  have before := s.download_ctlAssert .lane (by decide)
  simp only [Part.same] at before
  rw [State.modeOf, lane]
  simp [State.ctlCleared, State.forgetWaiters, State.modeOf, before]

theorem State.phase_ctlAssert (s : State) : s.ctlAssert.sys.clk.phase = s.sys.clk.phase := by
  have cores : (s.ctlCleared.each mgmtCores State.ctlResetCore).sys.clk = s.ctlCleared.sys.clk :=
    s.ctlCleared_cores .clk (by decide)
  have before : s.ctlCleared.sys.clk = s.sys.clk := s.download_ctlAssert .clk (by decide)
  rw [State.ctlAssert_eq, State.settleEvents_sys_clk, ← before, ← cores]
  rfl

theorem State.pins_ctlAssert (s : State) : s.ctlAssert.sys.pins = s.sys.pins :=
  (s.ctlCleared_ctlAssert .pins (by decide)).trans (s.download_ctlAssert .pins (by decide))

/-- Under CTLRST_N the queue is empty and the interrupt pins are released (R307). -/
theorem State.ev_ctlAssert {s : State} (h : s.sys.pins.ctlrstLow = true) :
    s.ctlAssert.ctl.ev = { EventUnit.reset with intA := false, intB := false } := by
  have pins : ((s.ctlCleared.each mgmtCores State.ctlResetCore).closeXing ctlDomain).sys.pins = s.sys.pins :=
    (s.ctlCleared_closed .pins (by decide)).trans (s.download_ctlAssert .pins (by decide))
  have ev : ((s.ctlCleared.each mgmtCores State.ctlResetCore).closeXing ctlDomain).ctl.ev = EventUnit.reset :=
    s.ctlCleared_closed .ev (by decide)
  rw [State.ctlAssert_eq, State.settleEvents, State.modCtl_ctl, pins, if_pos h, ev]

/-! The release. -/

theorem State.ctlRelease_sess (s : State) (d : Nat × Nat) : (s.ctlRelease d).ctl.sess = s.ctl.sess :=
  State.ctlRelease_keeps (.refl [.ev, .pins, .clk, .core, .ctlRestart, .trigPins] s) (by decide) d .sess (by decide)

/-- The role of a management core after a control reset: the lower one of its pair is active unless retired (R307). -/
def State.ctlRole (c : Core) (s : State) : State :=
  s.modCore c fun u => if u.state = .retired then u else { u with
    commanded := false
    state := if (s.coreOf (corePartner c)).state ≠ .retired ∧ c.val % 2 = 1 then .standby else .active }

/-- The released pin and the restarted cores, whose firmware runs where the image does. -/
def State.ctlRestarted (s : State) : State :=
  let s := (s.modPins fun p => { p with ctlrstLow := false }).each mgmtCores State.ctlRole
  s.modSys fun u => { u with ctlRestart := decide (s.sys.clk.phase = .running ∨ s.sys.clk.phase = .noCount) }

theorem State.ctlRelease_eq (s : State) (d : Nat × Nat) :
    s.ctlRelease d = (s.ctlRestarted.openXing ctlDomain d).settleEvents := rfl

theorem State.ctlRestarted_ctlRelease (s : State) (d : Nat × Nat) :
    SameBut [.ev, .clk, .trigPins] s.ctlRestarted (s.ctlRelease d) := by
  rw [State.ctlRelease_eq]
  exact State.settleEvents_keeps (State.openXing_keeps (.refl _ _) (by decide) _ d) (by decide)

theorem State.ctlRoles_keep (s : State) : SameBut [.core] (s.modPins fun p => { p with ctlrstLow := false })
    ((s.modPins fun p => { p with ctlrstLow := false }).each mgmtCores State.ctlRole) :=
  .each _ _ (.refl _ _) fun c _ h => State.modCore_keeps h (by decide) c _

theorem State.ctlRelease_pins (s : State) (d : Nat × Nat) :
    (s.ctlRelease d).sys.pins = { s.sys.pins with ctlrstLow := false } :=
  (s.ctlRestarted_ctlRelease d .pins (by decide)).trans (s.ctlRoles_keep .pins (by decide))

theorem State.ctlRelease_ctlRestart (s : State) (d : Nat × Nat) :
    (s.ctlRelease d).sys.ctlRestart = decide (s.sys.clk.phase = .running ∨ s.sys.clk.phase = .noCount) := by
  have clk : ((s.modPins fun p => { p with ctlrstLow := false }).each mgmtCores State.ctlRole).sys.clk = s.sys.clk :=
    s.ctlRoles_keep .clk (by decide)
  have restart : (s.ctlRelease d).sys.ctlRestart = s.ctlRestarted.sys.ctlRestart :=
    s.ctlRestarted_ctlRelease d .ctlRestart (by decide)
  rw [restart, State.ctlRestarted, State.modSys_sys, clk]

/-! The end of the restart. -/

/-- The events held for the end of a control reset, where none are being added. -/
def State.heldStill (s : State) : Option (List HeldEvent) := if s.sys.ctlRestart then none else some s.ctl.ev.held

section
variable (s : State)

theorem State.heldStill_eq {l : List HeldEvent} : s.heldStill = some l ↔ s.sys.ctlRestart = false ∧ s.ctl.ev.held = l := by
  cases h : s.sys.ctlRestart <;> simp [State.heldStill, h]

theorem State.heldStill_congr {t : State} (hr : t.sys.ctlRestart = s.sys.ctlRestart)
    (hh : s.sys.ctlRestart = false → t.ctl.ev.held = s.ctl.ev.held) : t.heldStill = s.heldStill := by
  cases h : s.sys.ctlRestart
  · simp [State.heldStill, hr, h, hh h]
  · simp [State.heldStill, hr, h]

@[simp] theorem State.heldStill_raise (e : Ev) (source code arg1 arg2 : Nat) :
    (s.raise e source code arg1 arg2).heldStill = s.heldStill :=
  s.heldStill_congr (by simp) fun h => s.raise_held e source code arg1 arg2 h

@[simp] theorem State.heldStill_modSess (k : Sess) (f : Session → Session) : (s.modSess k f).heldStill = s.heldStill := rfl

@[simp] theorem State.heldStill_freeSess (k : Sess) : (s.freeSess k).heldStill = s.heldStill := State.heldStill_raise ..

@[simp] theorem State.heldStill_respond (k : Sess) (r : Result) (d : Nat) (data : Bytes) :
    (s.respond k r d data).heldStill = s.heldStill := by
  unfold State.respond
  split
  · rfl
  · dsimp only
    split
    · simp
    · split <;> simp

@[simp] theorem State.heldStill_countStart (k : Sess) : (s.countStart k).heldStill = s.heldStill := by
  unfold State.countStart
  dsimp only
  split <;> rfl

@[simp] theorem State.heldStill_takeRing (k : Sess) (seq : Byte) : (s.takeRing k seq).heldStill = s.heldStill := by
  unfold State.takeRing
  dsimp only
  split
  · rfl
  · split
    · split <;> simp
    · split
      · rw [State.heldStill_respond]
        split <;> rfl
      · rw [State.heldStill_countStart]
        rfl

@[simp] theorem State.heldStill_settleRings : s.settleRings.heldStill = s.heldStill := by
  unfold State.settleRings
  split
  · exact State.each_untouched State.heldStill _ fun r _ u => u.heldStill_takeRing r.1 r.2
  · rfl

@[simp] theorem State.heldStill_settleEvents : s.settleEvents.heldStill = s.heldStill :=
  s.heldStill_congr (by simp) fun _ => s.settleEvents_records.1

end

/-- A publication that no command asked for, from its start to its end (R389). -/
theorem State.publish_unasked (s : State) : (s.startSnapshot false none).endSnapshot.heldStill = s.heldStill ∧
    (s.startSnapshot false none).endSnapshot.ctl.snap.running = none ∧
    (s.startSnapshot false none).endSnapshot.ctl.snap.number = s.ctl.snap.number + 1 := by
  simp only [State.endSnapshot, State.startSnapshot, State.modCtl_ctl, State.answerOpt, State.heldStill_raise,
    State.raise_ctl_snap]
  exact ⟨rfl, trivial, trivial⟩

/-- The restarted firmware serves, and no event is held any more. -/
def State.restartEnded (s : State) : State :=
  (s.modSys fun u => { u with ctlRestart := false, fwReady := true }).modCtl fun c => { c with ev := { c.ev with held := [] } }

/-- An event that was held is queued. -/
def State.queueHeld (h : HeldEvent) (s : State) : State :=
  let x : EvEntry :=
    { ev := h.ev, coalesced := satW 16 h.coalesced, source := h.source, code := h.code, arg1 := h.arg1, arg2 := h.arg2,
      time := h.time, qseq := 0 }
  s.modCtl fun c => { c with ev := c.ev.put x }

theorem State.ctlDone_eq (s : State) : s.ctlDone = ((((s.restartEnded.raise .ctlResetDone).startSnapshot false
    none).endSnapshot.each s.ctl.ev.held State.queueHeld).settleEvents).settleRings := rfl

theorem State.queueHeld_keeps (h : HeldEvent) (s : State) : SameBut [.ev] s (State.queueHeld h s) := by
  intro q hq
  cases q
  case ev => exact absurd (List.mem_singleton_self _) hq
  all_goals rfl

theorem State.heldStill_queueHeld (h : HeldEvent) (s : State) : (State.queueHeld h s).heldStill = s.heldStill :=
  s.heldStill_congr rfl fun _ => (EventUnit.put_records ..).1

/-- The end of the restart (R307): the firmware serves, the held events are queued, and a snapshot is published. -/
theorem State.ctlDone_done (s : State) : s.ctlDone.sys.ctlRestart = false ∧ s.ctlDone.sys.fwReady = true ∧
    s.ctlDone.ctl.ev.held = [] ∧ s.ctlDone.ctl.snap.running = none ∧
    s.ctlDone.ctl.snap.number = s.ctl.snap.number + 1 := by
  obtain ⟨held, running, number⟩ := (s.restartEnded.raise .ctlResetDone).publish_unasked
  have still : s.ctlDone.heldStill = some [] := by
    rw [State.ctlDone_eq, State.heldStill_settleRings, State.heldStill_settleEvents,
      State.each_untouched State.heldStill _ fun h _ u => State.heldStill_queueHeld h u, held, State.heldStill_raise]
    rfl
  have queued : SameBut [.bus, .sess, .ev, .perf, .trigPins]
      ((s.restartEnded.raise .ctlResetDone).startSnapshot false none).endSnapshot s.ctlDone := by
    rw [State.ctlDone_eq]
    refine State.settleRings_keeps (State.settleEvents_keeps (.each _ _ (.refl _ _) fun h _ hv => ?_) (by decide)) (by decide)
    exact fun q hq => Part.same_trans (hv q hq) (State.queueHeld_keeps h _ q fun hev => hq (by simp_all))
  have snap : s.ctlDone.ctl.snap = ((s.restartEnded.raise .ctlResetDone).startSnapshot false none).endSnapshot.ctl.snap :=
    congrArg Prod.fst (queued .snap (by decide))
  have published : SameBut [.sess, .ev, .snap, .trigPins] s.restartEnded
      ((s.restartEnded.raise .ctlResetDone).startSnapshot false none).endSnapshot :=
    State.endSnapshot_keeps (State.startSnapshot_keeps (State.raise_keeps (.refl _ _) (by decide) _ _ _ _ _) (by decide) _ _)
      (by decide)
  have ready : s.ctlDone.sys.fwReady = true := (queued .fwReady (by decide)).trans (published .fwReady (by decide))
  obtain ⟨restart, none_held⟩ := s.ctlDone.heldStill_eq.mp still
  exact ⟨restart, ready, none_held, by rw [snap, running], by rw [snap, number]; simp [State.restartEnded]⟩

end Sys2Proof.Machine
end

section
/-!
Control reset and DORMANT (chapter 10).
-/
namespace Sys2Proof.Machine

/-- A command that ends without a response (R307). -/
theorem State.runCmd_silent {s u : State} {k : Sess} {code : Nat} {a : Bytes} {body : Bytes → State → Reply × State}
    (h : s.holds k code a) (hb : body a s = (.noResponse, u)) : s.runCmd code k body = u := by
  have turn := h.2.2
  obtain ⟨c, hc, rfl, rfl, hs⟩ := h.cmd
  simp [State.runCmd, hc, hs, hb, turn]

/-- The device power state is set (R325, R329). -/
theorem State.setDev_power (s : State) (st : DevPower) (cause : Nat) :
    ∃ res, (s.setDev st cause).sys.power = { s.sys.power with dev := st, res := res } := by
  unfold State.setDev
  dsimp only
  split
  next same => exact ⟨s.sys.power.res, by rw [← same]⟩
  · exact ⟨_, State.raise_sys_power ..⟩

theorem State.setDev_dev (s : State) (st : DevPower) (cause : Nat) : (s.setDev st cause).sys.power.dev = st := by
  obtain ⟨res, set⟩ := s.setDev_power st cause
  rw [set]

theorem State.setDev_pins (s : State) (st : DevPower) (cause : Nat) : (s.setDev st cause).sys.pins = s.sys.pins :=
  State.setDev_keeps (.refl [.ev, .power, .trigPins] s) (by decide) st cause .pins (by decide)

theorem execCtlrstNAssert_powered {s : State} (hl : s.sys.pins.ctlrstLow = false) (hp : s.ctlPowered = true) :
    execCtlrstNAssert s = .next (((s.abandonDormant 3).modPins fun p => { p with ctlrstLow := true }).ctlAssert) := by
  simp [execCtlrstNAssert, hl, hp]

theorem execCtlrstNAssert_unpowered {s : State} (hp : s.ctlPowered = false) :
    execCtlrstNAssert s = .next (s.modPins fun p => { p with ctlrstLow := true }) := by
  cases hl : s.sys.pins.ctlrstLow
  · simp [execCtlrstNAssert, hl, hp]
  · have same : (s.modPins fun p => { p with ctlrstLow := true }) = s := by
      rw [← hl]
      rfl
    simp [execCtlrstNAssert, hl, same]

theorem execCtlrstNRelease_powered {s : State} (d : Nat × Nat) (hl : s.sys.pins.ctlrstLow = true) (hp : s.ctlPowered = true) :
    execCtlrstNRelease d s = .next (s.ctlRelease d) := by
  simp [execCtlrstNRelease, hl, hp]

theorem execCtlResetDone_due {s : State} (hr : s.sys.ctlRestart = true) (hl : s.sys.pins.ctlrstLow = false)
    (hd : s.sys.power.dormantPhase = .none) : execCtlResetDone s = .next s.ctlDone := by
  simp [execCtlResetDone, hr, hl, hd]

/-- The clocks of RUN stopped, DORMANT's voltage requested, and the entry committed (Table 10-10). -/
def State.dormantCommitted (s : State) : State :=
  ((s.modClk fun c => { c with rootLock := false, counting := false }).modAvs fun u =>
    u.request .dormant u.dormantVcore).modPower fun p => { p with dormantPhase := .committed }

theorem State.dormantCommitted_commits {s u : State} (dev : u.sys.power.dev = .dormant) (time : u.now = s.now) :
    u.dormantCommitted.sys.power.dev = .dormant ∧ u.dormantCommitted.sys.power.dormantPhase = .committed ∧
      u.dormantCommitted.sys.clk.rootLock = false ∧ u.dormantCommitted.sys.clk.counting = false ∧
      u.dormantCommitted.now = s.now :=
  ⟨dev, rfl, rfl, rfl, time⟩

theorem execDormantCommit_saved {s : State} (hd : s.sys.power.dormantPhase = .saving)
    (hv : s.sys.power.slotValid = true) :
    execDormantCommit s = .next ((s.freezeAll .dormant).setDev .dormant 1).dormantCommitted := by
  simp [execDormantCommit, hd, hv, State.dormantCommitted]

theorem execDormantReached_settled {s : State} (hd : s.sys.power.dormantPhase = .committed)
    (hq : s.sys.avs.openReq = none) : execDormantReached s = .next ((s.modClk fun c =>
      { c with timebaseLock := false }).modPower fun p => { p with dormantPhase := .dormant }) := by
  simp [execDormantReached, hd, hq]

theorem execWakeSource_saving {s : State} (src : Fin 4) (hd : s.sys.power.dormantPhase = .saving) :
    execWakeSource src s = .next (((s.modPower fun p => { p with
      dormantPhase := .none, slotValid := false, res := { p.res with aborted := p.res.aborted + 1 } }).raise .pwrEntryAborted
      (pwrSrc 2 0) src.val).settleRings) := by
  simp [execWakeSource, State.abandonDormant, hd]

theorem execWakeSource_dormant {s : State} (src : Fin 4) (hd : s.sys.power.dormantPhase = .dormant) :
    execWakeSource src s = .next (((if src = 0 then (s.modAvs fun u => u.request .wake u.runSetpoint).modPins fun p =>
      { p with sclHeld := true } else s.modAvs fun u => u.request .wake u.runSetpoint)).modPower fun p =>
      { p with dormantPhase := .waking src.val, wakeCtlReset := decide (src = 3) }) := by
  simp [execWakeSource, hd]

theorem State.power_settleRings (s : State) : s.settleRings.sys.power = s.sys.power :=
  State.settleRings_keeps (.refl [.bus, .sess, .ev, .perf, .trigPins] s) (by decide) .power (by decide)

theorem State.power_ctlAssert (s : State) : s.ctlAssert.sys.power = s.sys.power :=
  (s.ctlCleared_ctlAssert .power (by decide)).trans (s.download_ctlAssert .power (by decide))

/-- The record of the wake is used up, SCL is released, and the loops thaw (Table 10-10). -/
def State.wakeCleared (s : State) : State :=
  ((s.modPower fun p => { p with dormantPhase := .none, slotValid := false, wakeCtlReset := false }).modPins fun p =>
    { p with sclHeld := false }).thawAll .dormant

/-- The device runs. -/
def State.wakeEnded (s : State) (src : Nat) : State := (s.wakeCleared.raise .pwrWake (pwrSrc 2 0) src).setDev .run 4

theorem State.wakeCleared_keeps (s : State) : SameBut [.bias] ((s.modPower fun p => { p with
    dormantPhase := .none, slotValid := false, wakeCtlReset := false }).modPins fun p => { p with sclHeld := false })
    s.wakeCleared := State.thawAll_keeps (.refl _ _) (by decide) .dormant

/-- The record of the entry into DORMANT is used up, and SCL is free. -/
def State.Awake (s : State) : Prop :=
  s.sys.power.dormantPhase = .none ∧ s.sys.power.dev = .run ∧ s.sys.power.slotValid = false ∧
    s.sys.power.wakeCtlReset = false ∧ s.sys.pins.sclHeld = false

theorem State.Awake.congr {s t : State} (h : s.Awake) (hp : t.sys.power = s.sys.power)
    (hs : t.sys.pins.sclHeld = s.sys.pins.sclHeld) : t.Awake := by
  simpa [State.Awake, hp, hs] using h

theorem State.awake_wakeEnded (s : State) (src : Nat) : (s.wakeEnded src).Awake := by
  have power : s.wakeCleared.sys.power =
      { s.sys.power with dormantPhase := .none, slotValid := false, wakeCtlReset := false } :=
    s.wakeCleared_keeps .power (by decide)
  have pins : s.wakeCleared.sys.pins = { s.sys.pins with sclHeld := false } := s.wakeCleared_keeps .pins (by decide)
  obtain ⟨res, set⟩ := (s.wakeCleared.raise .pwrWake (pwrSrc 2 0) src).setDev_power .run 4
  simp only [State.Awake, State.wakeEnded, State.setDev_pins, set, State.raise_sys_power, State.raise_sys_pins, power, pins,
    and_self]

/-- What follows a wake leaves the power record and SCL. -/
theorem State.Awake.settleRings {s : State} (h : s.Awake) : s.settleRings.Awake :=
  have kept := State.settleRings_keeps (.refl [.bus, .sess, .ev, .perf, .trigPins] s) (by decide)
  h.congr (kept .power (by decide)) (congrArg PinUnit.sclHeld (kept .pins (by decide)))

theorem State.Awake.ctlAssert {s : State} (h : s.Awake) : s.ctlAssert.Awake :=
  h.congr s.power_ctlAssert (by rw [State.pins_ctlAssert])

theorem State.Awake.ctlRelease {s : State} (h : s.Awake) (d : Nat × Nat) : (s.ctlRelease d).Awake :=
  h.congr (State.ctlRelease_keeps (.refl [.ev, .pins, .clk, .core, .ctlRestart, .trigPins] s) (by decide) d .power (by decide))
    (by rw [State.ctlRelease_pins])

/-- The device slot restored where it is valid, and a scrub lap begun (R324, R333). -/
def State.wakeRestored (s : State) : State :=
  let s := if s.sys.power.slotValid then s.restoreDevice else s
  let now := s.now
  let lap (u : SramUnit) : SramUnit := { u with scrubAddr := 0, lapStart := now, lapPoison := 0 }
  s.modSys fun u => { u with mem := { u.mem with arr := u.mem.arr.map lap } }

/-- The control reset that a wake carries out where one is due (Table 10-10). -/
def State.wakeReset (due : Bool) (d : Nat × Nat) (s : State) : State :=
  if due ∨ s.sys.pins.ctlrstLow then
    if s.sys.pins.ctlrstLow then s.ctlAssert else s.ctlAssert.ctlRelease d
  else s.settleRings

theorem execWakeComplete_ready {s : State} {src : Nat} (d : Nat × Nat) (hd : s.sys.power.dormantPhase = .waking src)
    (goes : ¬ (¬ s.sys.clk.timebaseLock = true ∨ ¬ s.sys.clk.rootLock = true ∨ s.sys.clk.waitTick = true ∨
      s.sys.avs.openReq.isSome = true)) : execWakeComplete d s =
    .next ((s.wakeRestored.wakeEnded src).wakeReset s.wakeRestored.sys.power.wakeCtlReset d) := by
  unfold execWakeComplete
  rw [hd]
  dsimp only
  rw [if_neg goes]
  unfold State.wakeReset State.wakeEnded State.wakeCleared State.wakeRestored
  dsimp only

theorem State.Awake.wakeReset {s : State} (h : s.Awake) (due : Bool) (d : Nat × Nat) : (s.wakeReset due d).Awake := by
  unfold State.wakeReset
  split
  · split
    · exact h.ctlAssert
    · exact h.ctlAssert.ctlRelease d
  · exact h.settleRings

/-- A wake ends once both PLLs have locked and RUN's voltage has settled (Table 10-10). -/
theorem execWakeComplete_awake {s : State} {src : Nat} (d : Nat × Nat) (hd : s.sys.power.dormantPhase = .waking src)
    (ht : s.sys.clk.timebaseLock = true) (hr : s.sys.clk.rootLock = true) (hw : s.sys.clk.waitTick = false)
    (hq : s.sys.avs.openReq = none) : Leads (.wakeComplete d) s State.Awake := by
  have goes : ¬ (¬ s.sys.clk.timebaseLock = true ∨ ¬ s.sys.clk.rootLock = true ∨ s.sys.clk.waitTick = true ∨
      s.sys.avs.openReq.isSome = true) := by
    simp [ht, hr, hw, hq]
  exact ⟨_, execWakeComplete_ready d hd goes, (s.wakeRestored.awake_wakeEnded src).wakeReset _ d⟩

/-- DORMANT_COMMIT: the clocks of RUN stop, and DEVICE_TIME is kept (Table 10-10). -/
theorem execDormantCommit_commits {s : State} (hd : s.sys.power.dormantPhase = .saving)
    (hv : s.sys.power.slotValid = true) : Leads .dormantCommit s fun t => t.sys.power.dev = .dormant ∧
      t.sys.power.dormantPhase = .committed ∧ t.sys.clk.rootLock = false ∧ t.sys.clk.counting = false ∧ t.now = s.now :=
  have frozen : SameBut [.ev, .power, .bias, .trigPins] s (s.freezeAll .dormant) :=
    State.freezeAll_keeps (.refl _ s) (by decide) .dormant
  have kept := State.setDev_keeps frozen (by decide) .dormant 1
  ⟨_, execDormantCommit_saved hd hv, State.dormantCommitted_commits (State.setDev_dev ..) (kept.time (by decide))⟩

/-- Settles O50: each event's and command's next state written out, and its fields read off. -/
theorem controlResetAndDormant : Obligations.ControlResetAndDormant := by
  refine ⟨?_, ?_, ?_, ?_, ?_, ?_, ?_, ?_, ?_, ?_, ?_, ?_, ?_⟩
  · -- CTLRST_N_ASSERT
    rintro s k ⟨hl, hp⟩
    have asserted : exec .ctlrstNAssert s = _ := execCtlrstNAssert_powered hl hp
    have before := State.abandonDormant_keeps (.refl [.bus, .sess, .ev, .perf, .power, .trigPins] s) (by decide) 3
    have lane : (s.abandonDormant 3).lane = s.lane := before .lane (by decide)
    have ev := State.ev_ctlAssert (s := (s.abandonDormant 3).modPins fun p => { p with ctlrstLow := true }) rfl
    refine ⟨_, asserted, ?_, State.sess_ctlAssert .., by rw [ev]; rfl, by rw [ev], by rw [ev], State.fwReady_ctlAssert _,
      exec_keeps asserted .lock (by decide), ?_, exec_keeps asserted .otp (by decide)⟩
    · rw [State.pins_ctlAssert]
      rfl
    · rw [State.modeOf_ctlAssert]
      simp [State.modeOf, lane]
  · -- CTLRST_N_ASSERT of an unpowered device
    intro s hp
    exact ⟨_, execCtlrstNAssert_unpowered hp, rfl⟩
  · -- CTLRST_N_RELEASE
    rintro s d ⟨hl, hp, phase⟩
    exact ⟨_, execCtlrstNRelease_powered d hl hp, by rw [State.ctlRelease_pins],
      by rw [State.ctlRelease_ctlRestart, decide_eq_true phase], s.ctlRelease_sess d⟩
  · -- CTL_RESET_DONE
    rintro s ⟨hr, hl, hd⟩
    exact ⟨_, execCtlResetDone_due hr hl hd, s.ctlDone_done⟩
  · -- POWER.ENTER_DORMANT
    intro s k a h may
    exact answers_of (u := s.modPower fun p => { p with dormantPhase := .saving }) rfl h (by simp [may, replyOk]) rfl (by simp)
  · -- POWER.ENTER_DORMANT of a device that may not enter
    intro s k a h may
    exact answers_of (u := s) rfl h (by simp [may, refuse]) rfl (by simp)
  · -- DORMANT_COMMIT
    rintro s ⟨hd, hv⟩
    exact execDormantCommit_commits hd hv
  · -- DORMANT_REACHED
    rintro s ⟨hd, hq⟩
    exact ⟨_, execDormantReached_settled hd hq, rfl, rfl⟩
  · -- WAKE_SOURCE in DORMANT
    intro s src hd
    refine ⟨_, execWakeSource_dormant src hd, rfl, rfl, ?_⟩
    by_cases hs : src = 0 <;> simp [hs]
  · -- WAKE_SOURCE before the commit
    intro s src hd
    exact ⟨_, execWakeSource_saving src hd, by simp [State.power_settleRings]⟩
  · -- WAKE_COMPLETE
    rintro s d src ⟨hd, ht, hr, hw, hq⟩
    exact execWakeComplete_awake d hd ht hr hw hq
  · -- DEV.CTL_RESET
    intro s k d a j h
    have reset : exec (.devCtlReset k d) s = .next (s.ctlAssert.ctlRelease d) :=
      congrArg Host.Outcome.next (State.runCmd_silent h rfl)
    refine ⟨_, reset, ?_, exec_keeps reset .lock (of_decide_eq_true rfl), by rw [State.ctlRelease_pins],
      ?_, ?_⟩
    · rw [State.sess, State.ctlRelease_sess]
      exact s.sess_ctlAssert j
    · exact (State.ctlRelease_keeps (.refl [.ev, .pins, .clk, .core, .ctlRestart, .trigPins] _) (by decide) d .fwReady
        (by decide)).trans s.fwReady_ctlAssert
    · rw [State.ctlRelease_ctlRestart, State.phase_ctlAssert]
  · -- CLOCK_STRETCH_LIMIT
    intro s hs
    refine ⟨_, congrArg Host.Outcome.next (if_pos hs), ?_⟩
    unfold State.busErr
    dsimp only
    split <;> simp

end Sys2Proof.Machine
end
